-- ==== Sys2Proof/Word.lean ====
section
/-!
DEFINITION. The word types of the block: the manual numbers registers as 32-bit words and stores bytes.
-/
namespace Sys2Proof

/-- A software-visible register (spec 19: every register is 32 bits wide). -/
abbrev Word := BitVec 32

/-- A byte of a bank, of DRAM, of host memory or of the NOR device. -/
abbrev Byte := BitVec 8

end Sys2Proof
end

