-- ==== Sys2Proof/Types.lean ====
section
/-!
DEFINITION. The fixed sets of names and the records the manual speaks of, as plain data: operands of the commands
and contents of the state.
-/
namespace Sys2Proof

/-! ## Modes, islands, processors, banks -/

/-- The twelve modes of R74. -/
inductive Mode where
  | off | strap | fill | load | train | service | throttle | drain | flush | doze | hibernate | maintenance
deriving DecidableEq, Repr

/-- The islands of R12 as R75 and R590 group them (CH0 to CH31 together). -/
inductive Island where
  | aon | mgt | ldg | ch | hst | net | mem | xfr | cry | mnt | mdp
deriving DecidableEq, Repr

/-- What R75 says of an island in a mode. -/
inductive IslandPower where
  | off | reset | on
deriving DecidableEq, Repr

/-- The ten on-chip banks of R22. -/
inductive Bank where
  | plan | map | dayBook | queue | mint | xfr | mgt | scratch | secure | aonRetention
deriving DecidableEq, Repr

/-- Targets of the crossbar (R18): `map` is the MAP bank itself, `zoneLookup` the zone lookup unit in front of it, which is all that
the acceptance engine reaches of it. -/
inductive XbarTarget where
  | xfr | mem | queue | dayBook | map | zoneLookup | mint | scratch | plan | mgt | aonRetention | secure
deriving DecidableEq, Repr

/-- The clocks whose rates R13 gives. -/
inductive ClockDomain where
  | ldg | aonRtc | nor | core | mgt | mem | chPhy | chCodec
deriving DecidableEq, Repr

/-- The DRAM regions of R24, in the order of its table. -/
inductive RegionName where
  | staging | tally | convMap | blockMeta | relocation | images | remainder
deriving DecidableEq, Repr

/-- A DRAM region as LOAD lays it out (R24). -/
structure Region where
  name : RegionName
  base : Nat
  size : Nat
deriving DecidableEq, Repr

/-- The embedded processors (R11): the MP and the four media processors. -/
inductive Proc where
  | mp
  | mdp (n : Fin 4)
deriving DecidableEq, Repr

/-- Who reads or writes a register (R560, R566, R567): the MP, a media processor, the PF global space, or the BAR0 of a
function (its account view and NVMe registers). -/
inductive Requester where
  | mp
  | mdp (n : Fin 4)
  | pf
  | func (n : Nat)
deriving DecidableEq, Repr

/-- The doors of the block: PCIe, and the two Ethernet ports. -/
inductive Door where
  | pcie | eth0 | eth1
deriving DecidableEq, Repr

/-- An image slot of the NOR device (R107). -/
inductive Slot where
  | a | b
deriving DecidableEq, Repr

/-- A management path that carries an authorisation (R538). -/
inductive AuthPath where
  | pf | mi
deriving DecidableEq, Repr

/-- The cause leaves of R542. -/
inductive Leaf where
  | boardCause | startCause | norCause
  | mgtCause | evtCause
  | mediaExc | planCause
  | zoneCause | integCause
  | orderCause | dbCause
  | actCause
  | xfrCause | chainCause
  | memCause | srmCause
  | cryCause
  | netCause | mntCause
  | pwrCause | rsvCause | thmCause | loopCause
deriving DecidableEq, Repr

/-! ## Start-up operands -/

/-- The eye found on one 4-bit lane of one DDR5 subchannel by a sweep (R86, R105), in 1/64 UI. -/
structure LaneEye where
  subB : Bool
  lane : Fin 10
  rdCentre : BitVec 8
  rdWidth : BitVec 8
  wrCentre : BitVec 8
  wrWidth : BitVec 8
deriving DecidableEq, Repr

/-- What link training settles (R84): the rate's generation, the width in lanes and the Max_Payload_Size. -/
structure LinkUp where
  gen : Nat
  width : Nat
  mps : Nat
deriving DecidableEq, Repr

/-- A crossbar request (R18): the port that asks, and the other ports that ask the same target in the same tick (R189). -/
structure XbarAsk where
  port : Nat
  rivals : List Nat
deriving DecidableEq, Repr

/-- A register write as the bus brings it (R563): the word and the bytes of it that are enabled. -/
structure BusWord where
  be : BitVec 4
  word : BitVec 32
deriving DecidableEq, Repr

/-- The levels of TMS and TDI at a TCK edge (R44). -/
structure TapPins where
  tms : Bool
  tdi : Bool
deriving DecidableEq, Repr

/-- A symbol in error of a DRAM burst and its error value (R410, R411). -/
structure SymErr where
  symbol : Nat
  value : BitVec 8
deriving DecidableEq, Repr

/-- What a scrub pass finds on one line (R414): the symbols in error, and whether another write to the line entered the
write buffer after the scrub read (R415). -/
structure ScrubFind where
  addr : Nat
  errs : List SymErr
  overtaken : Bool
deriving DecidableEq, Repr

/-- A die address (R117): channel in [4:0], chip enable in [6:5], LUN in [9:7]. -/
abbrev DieAddr := BitVec 10


/-! ## The Esvia image (spec 04)

What the bytes of an image spell, section by section: Machine/ImageFmt.lean reads it from the bytes. A digest is SHA-384 of bytes, its
byte 0 lowest. -/

/-- A section-directory entry (R115), and the SHA-384 of the section's LENGTH bytes as computed. -/
structure DirEntry where
  type : Nat
  offset : Nat
  length : Nat
  reservedZero : Bool
  digest : BitVec 384
  computed : BitVec 384
deriving DecidableEq, Repr

/-- The geometry section (R117). `groups` holds the DIE_GROUP entries below DIE_GROUPS, 16 die addresses each; `reservedZero` covers its
reserved fields, the reserved bits of those entries, and the entries at and above DIE_GROUPS. -/
structure Geometry where
  chPresent : BitVec 32
  cePresent : BitVec 128
  flashMts : Nat
  flashId : BitVec 64
  dramGib : Nat
  dramRanks : Nat
  dramKept : Bool
  dramMts : Nat
  coverMib : Nat
  pcieFlags : BitVec 8
  totalVfs : Nat
  groups : List (List DieAddr)
  reservedZero : Bool := true
deriving DecidableEq, Repr

/-- A loop entry of the thresholds section (R522). Coefficients are signed Q4.12. -/
structure LoopCfg where
  enabled : Bool
  settleMv : Nat
  corrMax : Nat
  kp : BitVec 16
  ki : BitVec 16
  kd : BitVec 16
  vel : Nat
  acc : Nat
  jerk : Nat
  setpoint : Nat
  outMin : Nat
  outMax : Nat
  reservedZero : Bool
deriving DecidableEq, Repr

/-- The thresholds section (R521). Temperatures in whole °C, RISE_RATE in 0.1 °C/s. -/
structure Thresholds where
  magic : Nat
  format : Nat
  tWarn : Nat
  tThrottle : Nat
  tShut : Nat
  hyst : Nat
  riseRate : Nat
  riseTime : Nat
  govCap : Bool
  peRated : Nat
  lifeDays : Nat
  rsvRt : Nat
  rsvVmin : Nat
  rsvPf : Nat
  ethCr1 : Bool × Bool
  dataPrio : Nat
  cnpPrio : Nat
  vlan0 : BitVec 16
  vlan1 : BitVec 16
  reservedZero : Bool
  loops : List LoopCfg
  sectionBytes : Nat := 4096
deriving DecidableEq, Repr

/-! ## The plan set (spec 07) -/

/-- An entry record of a template (R200). -/
structure EntryRec where
  start : Nat
  length : Nat
  type : Nat
  cls : Nat
  admCode : Nat
  door : Nat
  mask : BitVec 4
  reservedZero : Bool
deriving DecidableEq, Repr

/-- What the owning MDP's request makes of a class 14 entry (R236, R268): nothing that the model's state shows, a tail page of
a zone, the padding of a Finish, a read or program of the move of a block, an erase, a read or program of a fold, or a verification
read. -/
inductive Work14 where
  | other | tailPage (zone : Nat) | pad (zone : Nat) | move (block : Nat) | erase (block : Nat) | fold (zone slot : Nat)
  | verify (block : Nat)
deriving DecidableEq, Repr

/-- A template (R199): ENTRY_COUNT, its used records, and whether the header's and the remaining bytes are zero. -/
structure Template where
  entryCount : Nat
  records : List EntryRec
  restZero : Bool
deriving DecidableEq, Repr

/-- A class entry (R197): MODE, DEPTH, DOORS and the declared class values. -/
structure ClassEntry where
  seated : Bool
  depth : Nat
  doors : BitVec 4
  maxGap : Nat
  rdSupply : Nat
  wrSupply : Nat
  reservedZero : Bool
deriving DecidableEq, Repr

/-- A die map entry (R198) whose 2 bytes are not all zero. -/
structure DieMapEntry where
  die : Nat
  template : Nat
  phase : Nat
  reservedZero : Bool
  used : Bool := true
deriving DecidableEq, Repr

/-- A plan variant (R196). Dies that `dieMap` does not list have an all-zero entry. -/
structure Variant where
  magic : Nat
  plan : Nat
  level : Nat
  templateCount : Nat
  pcieGen : Nat
  pcieWidth : Nat
  ipv6 : Bool
  tagged : Bool
  mps : Nat
  classTbl : List ClassEntry
  domainCap : List Nat
  dieMap : List DieMapEntry
  templates : List Template
  reservedZero : Bool
deriving DecidableEq, Repr

/-- The plan set section (R194). `variants` holds the variant of each non-zero VAR_DIR entry by its index. -/
structure PlanSet where
  magic : Nat
  format : Nat
  planCount : Nat
  startPlan : Nat
  startLevel : Nat
  domainCount : Nat
  domainCh : List (BitVec 32)
  varDir : List (Nat × Nat)
  curModel : List (Nat × Nat)
  variants : List (Nat × Variant)
  sectionBytes : Nat
  reservedZero : Bool
deriving DecidableEq, Repr

/-! ## The account table (spec 11) -/

/-- The RD, WR and BYTE limits of one level (R170). -/
structure CreditLimit where
  rd : Nat
  wr : Nat
  byte : Nat
deriving DecidableEq, Repr

/-- The values of R328 that a limit entry and an account entry share: MAX_QP to CREDIT. -/
structure MemberLimits where
  maxQp : Nat
  maxInflight : Nat
  keyBase : Nat
  keyCount : Nat
  zoneQuota : Nat
  convQuota : Nat
  maxActive : Nat
  credit : List CreditLimit
deriving DecidableEq, Repr

/-- A limit entry of the account table (R328). -/
structure LimitEntry where
  bindAtLoad : Bool
  logOk : Bool
  netOk : Bool
  mintOk : Bool
  defaultClass : Nat
  classMask : BitVec 14
  lim : MemberLimits
  reservedZero : Bool
deriving DecidableEq, Repr

/-- The account table section (R327). Members that `entries` does not reach have an all-zero entry. -/
structure AccountTable where
  magic : Nat
  format : Nat
  reservedZero : Bool
  entries : List LimitEntry
  sectionBytes : Nat := 118336
deriving DecidableEq, Repr

/-- The account entry that Account Bind takes (R330). -/
structure AccountEntry where
  bound : Bool
  logEn : Bool
  netEn : Bool
  mintEn : Bool
  cls : Nat
  lim : MemberLimits
  reservedZero : Bool
deriving DecidableEq, Repr

/-! ## Verify table and recipes (spec 09, 16) -/

/-- A band entry of the verify table (R259). Offsets are signed reference DAC steps. -/
structure VerifyBand where
  eraseMax : Nat
  qlcOffset : List Int
  slcOffset : Int
  pageMask : BitVec 4
  planeMask : BitVec 4
  verifyMaxBits : Nat
  refreshMaxBits : Nat
  retentionDays : Nat
  disturbReads : Nat
  reservedZero : Bool
deriving DecidableEq, Repr

/-- The verify table section (R258). -/
structure VerifyTable where
  magic : Nat
  format : Nat
  bands : List VerifyBand
  softStep : Nat
  reservedZero : Bool
  /-- BAND_COUNT and the section's length agree (R258). -/
  lengthOk : Bool := true
deriving DecidableEq, Repr

/-- A Mint recipe record (R480). `reservedZero` covers its reserved fields; `placed` says that its directory entry gives it a 64-byte
boundary inside the section and the LENGTH that CONFIG_BYTES asks for. -/
structure Recipe where
  input : Nat
  output : Nat
  protect : Nat
  codec : Nat
  ivMode : Bool
  cost : Nat
  timescale : Nat
  trackId : Nat
  tsPid : Nat
  tsPmtPid : Nat
  tsProgram : Nat
  configBytes : Nat
  reservedZero : Bool
  placed : Bool := true
deriving DecidableEq, Repr

/-- A lane table entry of the recipes section (R479): the class and the door a lane is bound to. -/
structure LaneBind where
  cls : Nat
  door : Door
  enabled : Bool
  reservedZero : Bool
deriving DecidableEq, Repr

/-- The recipes section (R479): header, lane table, and recipe r at position r (none: absent). -/
structure Recipes where
  magic : Nat
  format : Nat
  recipeCount : Nat
  reservedZero : Bool
  lanes : List LaneBind
  records : List (Option Recipe)
deriving DecidableEq, Repr

/-- An Esvia image (R114 to R119): header, directory, sections, and what the digests and the signatures say. -/
structure Image where
  magic : Nat
  format : Nat
  sectionCount : Nat
  imageBytes : Nat
  fwRelease : BitVec 32
  targetPart : BitVec 32
  kryconVersion : BitVec 32 := 0
  imageId : BitVec 64 := 0
  buildTime : BitVec 64 := 0
  reservedZero : Bool
  dir : List DirEntry
  dirTailZero : Bool
  /-- SHA-384 of bytes 0x000 to 0x43F. -/
  headDigest : BitVec 384
  sigMagic : Nat := 0x4E474953
  sigReservedZero : Bool := true
  /-- FW_SIG verifies under the Lemlari key, IMAGE_SIG under IMAGE_PUBKEY, whose SHA-384 is `keyDigest`. -/
  fwSigOk : Bool
  keyDigest : BitVec 384
  imageSigOk : Bool
  planSet : PlanSet
  accounts : AccountTable
  geometry : Geometry
  verify : VerifyTable
  recipes : Recipes
  thresholds : Thresholds
deriving DecidableEq, Repr

/-- A progress record as stored (R124). -/
structure Progress where
  updateSeq : Nat
  step : Nat
  nextOffset : Nat
  stageDigest : BitVec 352
deriving DecidableEq, Repr

/-! ## Events and authorisation (spec 18) -/

/-- An event record (R545). `detail` holds the DETAIL bytes in use; `crcOk` is false for a record cut short. -/
structure EvRec where
  type : Nat
  epoch : Nat
  seq : Nat
  time : Nat
  poh : BitVec 32
  cycles : Nat
  mode : Mode
  deferred : Bool
  resumed : Bool
  detail : List Byte
  crcOk : Bool
deriving DecidableEq, Repr

/-- The authorisation structure (R539); `sigOk` says whether SIGNATURE verifies, `keyDigest` is SHA-384 of PUBKEY. -/
structure Auth where
  magic : Nat
  action : Nat
  reservedZero : Bool
  nonce : BitVec 256
  driveSerial : BitVec 160
  deviceKey : BitVec 256
  keyDigest : BitVec 384
  sigOk : Bool
deriving DecidableEq, Repr

/-! ## Keys (spec 15) -/

/-- Slot types of R444. -/
inductive KeyType where
  | empty | kek | xts | mint
deriving DecidableEq, Repr

/-- A wrapped key (R447): the key it holds and the key it was wrapped under, as numbers, and whether its bytes are intact.
No cipher is computed: the RFC 3394 check passes where the bytes are intact and the unwrapping key is the same. -/
structure Wrapped where
  under : Nat
  key : Nat
  intact : Bool
deriving DecidableEq, Repr

/-- The structure that Key Load takes (R447). `typeCode` may be none of R444's. -/
structure KeyLoadData where
  typeCode : Nat
  keyBytes : Nat
  reservedZero : Bool
  wrapped : Wrapped
deriving DecidableEq, Repr

/-! ## Host commands (spec 10) -/

/-- The 4,096 bytes of a sector's payload. -/
abbrev Payload := BitVec 32768

/-- A submission queue entry or command capsule, with the dwords the manual reads. -/
structure Sqe where
  opcode : BitVec 8
  cid : Nat
  nsid : Nat
  /-- CDW3 [15:0] carries ILBRT [47:32] of format 2 (R290, R291). -/
  cdw3 : Word
  prp1 : BitVec 64
  prp2 : BitVec 64
  cdw10 : Word
  cdw11 : Word
  cdw12 : Word
  cdw13 : Word
  cdw14 : Word
  cdw15 : Word
  reservedZero : Bool
deriving DecidableEq, Repr

/-- One sector of a write's host data (R290, R291): payload, application tag, whether its guard matches, its reference tag. -/
structure HostSec where
  payload : Payload
  appTag : Nat
  guardOk : Bool
  refTag : Nat
deriving DecidableEq, Repr

/-- A status: Status Code Type, Status Code, and the Do Not Retry bit. -/
structure Status where
  sct : Nat
  sc : Nat
  dnr : Bool
deriving DecidableEq, Repr

/-- A function's controller: 0 is the PF, n is VF n (R5). -/
abbrev FuncId := Nat

/-- Who sent an admin command: a function's admin queue with the command identifier, or NVMe-MI with its message
identifier (R284, R287). -/
inductive Via where
  | host (func cid : Nat)
  | mi (id : Nat)
deriving DecidableEq, Repr

/-- How an admin command comes: who sent it, and whether its reserved fields and those of its data are 0 (R288). -/
structure Adm where
  via : Via
  reservedZero : Bool
deriving DecidableEq, Repr

/-- A range of logical blocks: first LBA and length in sectors. -/
structure LbaRange where
  slba : Nat
  count : Nat
deriving DecidableEq, Repr

end Sys2Proof
end

