-- ==== Sys2Proof/Syntax.lean ====
section
/-!
DEFINITION. The commands of the block: one constructor per row of the table of operations and events, with the operands
that come from outside the block (what a pin, a host, a sensor, a die or a link brings). The table gives no operands: they
are the model's, one for each outside value that the rule of the row needs.
-/
namespace Sys2Proof

/-- The commands (R numbers: the rule that each row names). -/
inductive Instr where
  /-- R77: POR_N going low sends the device to OFF at once and resets every register. -/
  | porNAssert
  /-- R66: POR_N rising starts AON and enters STRAP if PWR_GOOD and PLOSS_N are high, otherwise waits in OFF. -/
  | porNRelease
  /-- R50: A falling edge on PLOSS_N starts the 2 µs qualification count. -/
  | plossNFall
  /-- R50: PLOSS_N has stayed low for 2 µs, so the assertion registers and the mode-dependent power-loss handling begins. -/
  | plossNAssert
  /-- R79: PLOSS_N returning high starts the 100 ms count that can end OFF. -/
  | plossNRise
  /-- R79: PLOSS_N and PWR_GOOD have both been high for 100 ms, so OFF ends and the device enters STRAP. -/
  | offExitCountExpiry
  /-- R69: PWR_GOOD falling while PWR_HOLD and PLOSS_N are high is treated as a PLOSS_N assertion. -/
  | pwrGoodDrop
  /-- R95: PWR_GOOD rising during a HIBERNATE wake starts oscillator qualification. -/
  | pwrGoodRise
  /-- R72: PWR_GOOD is not high 328 real-time periods after PWR_HOLD rose, so RAIL_TIMEOUT is set and ALERT_N asserted. -/
  | railTimeout
  /-- R58: A 10 µs strap sample is taken and compared with the previous one. -/
  | strapSample (v : BitVec 8)
  /-- R82: 4,096 crystal cycles counted within 1 % qualify the 25 MHz oscillator and PLL lock begins. -/
  | oscillatorQualified
  /-- R82: PLL lock starts the LDG tick counter, ends STRAP and enters FILL, in resume form after HIBERNATE. -/
  | pllLock (us : Nat)
  /-- R83: The oscillator has not qualified 10 ms after STRAP entry or PWR_GOOD rise, so XTAL_FAIL is set and the device waits for a POR_N cycle. -/
  | xtalFail
  /-- R84: The calibration row read ends, its CRC is checked and configuration requests are answered from it. -/
  | calRowReadDone
  /-- R84: A fill engine finishes writing its bank with zeros and valid check bits. -/
  | bankFillDone (b : Bank)
  /-- R86: The boot eye sweep at 3,200 MT/s ends, passing, degrading one device, or failing to MAINTENANCE. -/
  | ddr5BootSweepDone (eyes : List LaneEye)
  /-- R84: The DRAM zero fill ends, and FILL ends into LOAD when every fill is complete. -/
  | dramFillDone
  /-- R99: PERST_N assertion after FILL resets the PCIe and NVMe state of HST only. -/
  | perstNAssert
  /-- R99: PERST_N release starts PCIe link training, and in HIBERNATE is a PERST wake event. -/
  | perstNRelease
  /-- R84: The PCIe LTSSM completes training at the negotiated rate. -/
  | pcieLinkUp (link : LinkUp)
  /-- R502: CLKREQ_N held low for 1 µs is a PCIE wake event. -/
  | clkreqNAssert
  /-- R87: A LOAD step ends and the next step begins, or LOAD ends into TRAIN. -/
  | loadStepComplete (ids : List (Nat × BitVec 64)) (misfit : List Nat)
  /-- R93: The DDR5 eye sweep at one level ends and the next level or failure follows. -/
  | ddr5LevelSweepDone (eyes : List LaneEye)
  /-- R93: A flash channel sweep attempt ends, passing, retrying, or failing the channel. -/
  | channelSweepDone (c rd wr : Nat)
  /-- R93: The junction-sensor self-check ends, TRAIN ends and Folio 0 of SERVICE begins. -/
  | sensorSelfCheckDone
  /-- R157: A new Folio begins and boundary-timed effects apply. -/
  | folioBoundary
  /-- R77: A PF CC.SHN write moves the device from SERVICE or THROTTLE to DRAIN. -/
  | shutdownNotification (shn : Nat)
  /-- R77: All in-flight work has completed and settled, so DRAIN ends into SERVICE, STRAP, MAINTENANCE or FLUSH. -/
  | drainComplete
  /-- R399: The flush header has been read back and PWR_HOLD goes low. -/
  | flushComplete
  /-- R316: A PF write of 0x4E56_4D65 to NSSR is a restart request through DRAIN. -/
  | nssrWrite (value : BitVec 32)
  /-- R33: An embedded processor faults and its island reset and image reload begin. -/
  | processorFault (p : Proc)
  /-- R33: A restarted processor returns to service. -/
  | islandRestartComplete (p : Proc)
  /-- R530: A write of 0xA5C3 to MGT_WDOG_KICK restarts the watchdog; any other value is an expiry. -/
  | watchdogKick (key : BitVec 16)
  /-- R530: The watchdog count reaches 0 and MGT is reset, or halted until a running NOR operation ends. -/
  | watchdogExpiry
  /-- R530: The idle MP stops MGT's clock in DOZE or MAINTENANCE and the watchdog pauses. -/
  | mgtClockStop
  /-- R530: AON restarts MGT's clock on an address match, a group 1 leaf bit, a wake event or 1 s after the stop. -/
  | mgtClockRestart
  /-- R109: NOR_OP_CMD OP 0b01 starts a page program, or it is refused. -/
  | norProgram (pages : Nat) (data : List Byte) (fetch : Option Nat)
  /-- R109: NOR_OP_CMD OP 0b10 starts a 4 KiB subsector erase, or it is refused. -/
  | norSubsectorErase (fetch : Option Nat)
  /-- R109: NOR_OP_CMD OP 0b11 starts a 64 KiB sector erase, or it is refused. -/
  | norSectorErase (fetch : Option Nat)
  /-- R130: A NOR program or erase ends with its result and frees the controller. -/
  | norOpComplete (ok : Bool)
  /-- R110: An MP read or fetch of a NOR bank under program or erase takes a precise fault. -/
  | busyBankFault (addr : Nat) (fetch : Bool)
  /-- R17: A crossing whose synchroniser has not delivered by its release tick discards and poisons the data. -/
  | crossingFault (h i : Nat)
  /-- R19: A crossbar request to a target not listed for its initiator completes with a decode error. -/
  | crossbarRefusal (ask : XbarAsk) (target : XbarTarget) (write : Bool) (addr : Nat)
  /-- R562: A host write to a submission or completion queue doorbell records new entries. -/
  | doorbellWrite (func qid : Nat) (cq : Bool) (value : Nat)
  /-- R296: A command entry becomes complete in the QUEUE bank, is fetched and takes its range-lock entries. -/
  | commandFetch (queue : Nat) (sqe : Sqe) (ranges : List LbaRange)
  /-- R133: A RoCEv2 command capsule passes its ICRC check and is complete in the QUEUE bank. -/
  | capsuleReceive (qp : Nat) (sqe : Sqe) (ranges : List LbaRange) (buffered : Nat)
  /-- R133: The last hold on a fetched command ends, so it arrives and its acceptance begins. -/
  | commandArrival (h : Nat)
  /-- R143: Acceptance ends, the Day Book record is written and the command registers or is charged. -/
  | acceptanceEnd (h : Nat)
  /-- R139: A conventional map lookup of one 64-byte line ends and its sectors register or start zero fill. -/
  | mapLookupEnd (h addr : Nat) (errs : List SymErr) (queued : Bool)
  /-- R163: A plan entry reaches its start tick on a die and is granted or runs Idle. -/
  | entryStart (die : Nat) (e : EntryRec) (work : Work14) (ready ok : Bool) (bad : List Nat)
  /-- R165: The sequencer checks die status in the tick an operation's budget ends. -/
  | budgetCheck (die : Nat) (ready : Bool)
  /-- R166: A die still busy 4 Folios after its budget ended is reset and the operation failed. -/
  | dieReset (die : Nat)
  /-- R164: A read's transfer slot moves its data to the channel staging buffer. -/
  | transferSlot (die : Nat)
  /-- R148: A decode ends, passing data to XTS or entering the next retry level. -/
  | ldpcDecodeEnd (h i : Nat) (ok : Bool) (bits : Nat)
  /-- R148: A class 15 retry read runs a shifted or soft read for an L1 or L2 sector. -/
  | retryRead (h i : Nat)
  /-- R252: A recovery entry carries an L3 read or status reads. -/
  | recoveryRead (h i : Nat)
  /-- R253: L3 reaches 5,242,880 ticks and the sector is delivered poisoned as uncorrectable. -/
  | l3Timeout (h i : Nat)
  /-- R266: A sector is rebuilt by XOR of the stripe's Tally and other units. -/
  | tallyRebuild (h i : Nat) (ok : Bool)
  /-- R437: An XTS core finishes decrypting or encrypting one sector. -/
  | xtsStageEnd (h i : Nat) (carrierOk : Bool)
  /-- R139: The seal check and PI generation of a read sector end. -/
  | sealCheckEnd (h i : Nat) (ok : Bool)
  /-- R142: A sector's egress slot begins and the door transmits it. -/
  | egressSlotStart (h i : Nat) (guardOk : Bool)
  /-- R146: A sector's egress ends; after the last sector the completion post starts. -/
  | egressEnd (h i : Nat) (pages : List (BitVec 64))
  /-- R592: A zero-read sector leaves its door in the first free transmitter time. -/
  | zeroReadEgress (h i : Nat)
  /-- R133: The completion entry or response capsule leaves the transmitter and the command ends. -/
  | completionPostEnd (h : Nat) (page : BitVec 64)
  /-- R27: All of a write's host data is in the XFR bank. -/
  | hostDataFetchEnd (h : Nat) (data : List HostSec)
  /-- R387: A write takes its staging slots and completed-pool record within its shares and its fetch begins. -/
  | stagingSlotsTaken (h lists datas : Nat)
  /-- R421: A write with complete data takes a free write gate lane and its seal begins. -/
  | gateLaneGrant (h : Nat)
  /-- R147: The seal of a write sector ends and the sector passes to XTS. -/
  | sealEnd (h i : Nat)
  /-- R145: A zero fill of one sector ends. -/
  | zeroFillEnd (h i : Nat)
  /-- R422: The last burst of a staged sector is in the write buffer. -/
  | dramWriteEnd (h i : Nat)
  /-- R388: The secure stage ends and the record becomes SECURED, held in zone order if needed. -/
  | dayBookSecure (h : Nat)
  /-- R393: Every map entry of a deallocation reads 0b00 and its record is secured and settled. -/
  | deallocationSecure (h : Nat)
  /-- R165: A program's result is taken when its entry ends. -/
  | programResult (die : Nat) (ok : Bool)
  /-- R384: The acceptance engine applies a settlement message and lowers PENDING. -/
  | settlementMessage
  /-- R165: An erase's result is taken when its last segment ends. -/
  | eraseResult (die : Nat) (ok : Bool)
  /-- R218: The owning MDP claims one block per die for a newly active zone. -/
  | zoneClaimDone (zone : Nat)
  /-- R234: A slot's claim becomes a bound block at its first placement, possibly after evacuation. -/
  | slotBinding (zone slot : Nat) (toSlc : Bool)
  /-- R237: An evacuation's folds and erase end and the freed block is bound. -/
  | evacuationDone (zone slot : Nat) (toSlc : Bool)
  /-- R227: One unit is folded from SLC to the slot's bound block. -/
  | foldDone (zone slot : Nat) (ok : Bool)
  /-- R229: Live tail pages of the oldest tail-ring block are copied forward. -/
  | tailRingCopy (die block : Nat)
  /-- R263: A completed stripe's Tally is programmed on its target die. -/
  | tallyProgram (zone w : Nat)
  /-- R267: A lost Tally accumulator is rebuilt from its placed units. -/
  | accumulatorRebuild (zone : Nat)
  /-- R257: Verification reads of a FULL block end and it becomes VERIFIED or is relocated. -/
  | blockVerifyDone (die block : Nat) (ok : Bool)
  /-- R277: An MDP's map-commit message secures a relocation move in the Day Book. -/
  | mapCommitMessage (mv : Nat)
  /-- R277: A move's source block is erased after commit and pending reads. -/
  | sourceErase (mv : Nat)
  /-- R391: A spill program of settled records succeeds and the records retire. -/
  | spillProgram
  /-- R392: The MDPs write map and metadata changes tagged with a covered SEQ. -/
  | metadataWrite (top : Nat)
  /-- R392: A record SECURED for 64 Folios forces a tail page or padded SLC program. -/
  | staleSecuredRecord (q : Nat)
  /-- R396: A due Reserve segment test drives RSV_SEG_TEST high. -/
  | segmentTestStart (n : Nat)
  /-- R396: A test sample of the segment voltage is taken and the test may end. -/
  | segmentTestSample (mv : Nat)
  /-- R396: A segment test that has not ended after 100,000,000 ticks ends invalid. -/
  | testInvalid
  /-- R397: A segment sensing below 0.90 of its voltage is failed. -/
  | segFault (n mv : Nat)
  /-- R414: A DRAM scrub pass begins every HOURS hours. -/
  | scrubPassStart (found : List ScrubFind)
  /-- R420: A write-buffer drain batch starts at the watermark, a staging age limit or a drain request. -/
  | drainBatchStart (subB aged : Bool)
  /-- R420: A drain batch reaches its low watermark or empty. -/
  | drainBatchEnd (subB : Bool)
  /-- R417: An OPEN row idle for 64 MEM cycles closes. -/
  | rowCloseTimeout (bank : Nat)
  /-- R417: In DOZE the DRAM enters self-refresh after 4,096 idle MEM cycles. -/
  | selfRefreshEntry
  /-- R418: DDR_ALERT_N assertion is recorded as a device fault. -/
  | ddrAlert
  /-- R426: An on-chip bank is scrubbed once per hour. -/
  | bankScrub (b : Bank) (words : List (Nat × Bool))
  /-- R427: A bank moves to retention 256 ticks after its last access. -/
  | bankRetentionEntry (b : Bank)
  /-- R427: A bank leaves retention after 1,024 ticks and waiting requests proceed. -/
  | bankWakeDone (b : Bank)
  /-- R430: VDD_CORE outside its window for 16 ticks starts a SECURE bank wipe. -/
  | tamperV (mv ticks : Nat)
  /-- R430: An out-of-range LDG clock period for 16 cycles starts a SECURE bank wipe. -/
  | tamperClk (ps cycles : Nat)
  /-- R430: Loss of mesh continuity starts a SECURE bank wipe. -/
  | tamperShield
  /-- R430: The SECURE bank fill ends and CRY resumes with empty slots. -/
  | wipeDone
  /-- R435: A write of CLEAR clears all 20 scratchpad conflict counters. -/
  | srmConflictClr (who : Requester) (v : BitVec 32)
  /-- R451: A requester's ACQUIRE takes the key-management lock if free. -/
  | acquire (who : Requester)
  /-- R451: The owner's RELEASE frees the lock, or when its operation ends. -/
  | release (who : Requester)
  /-- R450: The key-management core unwraps a key into a slot. -/
  | unwrap (who : Requester) (slot : Nat) (t : KeyType) (w : Wrapped)
  /-- R450: The core wraps a MINT slot's key under its member's KEK. -/
  | wrapOut (who : Requester) (slot : Nat)
  /-- R450: The core wraps 8 to 64 bytes under a KEK slot. -/
  | wrapData (who : Requester) (slot bytes : Nat)
  /-- R450: The core makes a key slot EMPTY. -/
  | clear (who : Requester) (slot : Nat)
  /-- R449: A key-management operation ends with its result. -/
  | kmOpComplete
  /-- R458: Selecting a slot loads CRY_SLOT_INFO within 64 ticks. -/
  | crySlotSelWrite (who : Requester) (v : BitVec 32)
  /-- R453: A noise health test fails and the entropy source restarts. -/
  | entropyFail
  /-- R453: A mask generator passes 2^20 blocks without reseed. -/
  | entropyStale (g : Nat)
  /-- R441: The DRBG reseeds a mask generator after 4,096 blocks. -/
  | maskReseed (g : Nat)
  /-- R365: Setting RUN with APPEND_COUNT above CONSUMED makes the engine fetch HEAD. -/
  | chainRun (who : Requester) (ch : Nat) (writes : List (Nat × Nat × List Byte))
  /-- R367: An APPEND_COUNT write gives descriptors to a chain and schedules a tail re-read if idle. -/
  | appendCountWrite (who : Requester) (ch count : Nat) (writes : List (Nat × Nat × List Byte))
  /-- R358: A COPY descriptor's last write leaves the engine and CONSUMED rises. -/
  | descriptorCopy (ch : Nat) (err : Option (Nat × Nat))
  /-- R358: A FILL descriptor's last write leaves the engine and CONSUMED rises. -/
  | descriptorFill (ch : Nat) (err : Option (Nat × Nat))
  /-- R362: A FENCE ends once every earlier write is acknowledged downstream. -/
  | fence (ch : Nat) (err : Option Nat)
  /-- R367: The re-read tail LINK returns and is followed, or the chain idles or halts. -/
  | linkReadReturn (ch : Nat) (err : Bool)
  /-- R367: 64 ticks after the compare or append the engine re-reads the tail's LINK. -/
  | linkReread (ch : Nat)
  /-- R370: RESTART with ACTION RETRY resumes the halted descriptor at its first unwritten unit. -/
  | chainRetry (who : Requester) (ch : Nat)
  /-- R370: RESTART with ACTION SKIP consumes the halted descriptor and follows its LINK. -/
  | chainSkip (who : Requester) (ch : Nat)
  /-- R370: RESTART with ACTION ABORT abandons the rest of the chain and stops it. -/
  | chainAbort (who : Requester) (ch : Nat)
  /-- R354: A non-posted PCIe read of an account context completes. -/
  | contextReadComplete (a purpose ref : Nat)
  /-- R371: A PCIe error on an account context's read halts that context. -/
  | ctxHalt (a purpose ref kind : Nat) (addr : BitVec 64)
  /-- R376: Selecting an account context loads its status within 64 ticks. -/
  | xfrCtxSelWrite (who : Requester) (a : BitVec 11)
  /-- R373: RESTART with ACTION 0 reissues failed reads and resumes fetching. -/
  | contextRestartRetry (who : Requester)
  /-- R373: RESTART with ACTION 1 fails affected commands with Data Transfer Error. -/
  | contextRestartFail (who : Requester)
  /-- R284: Deletes an I/O submission queue and frees its index. -/
  | deleteIoSubmissionQueue (a : Adm) (qid : Nat)
  /-- R295: Creates an I/O submission queue at the lowest free device-wide index. -/
  | createIoSubmissionQueue (a : Adm) (qid size cqid : Nat) (contiguous : Bool)
  /-- R286: Returns a supported log page. -/
  | getLogPage (a : Adm) (page nsid lsi offset bytes : Nat)
  /-- R284: Deletes an I/O completion queue. -/
  | deleteIoCompletionQueue (a : Adm) (qid : Nat)
  /-- R295: Creates a physically contiguous I/O completion queue. -/
  | createIoCompletionQueue (a : Adm) (qid size vector : Nat) (contiguous : Bool)
  /-- R284: Returns Identify data. -/
  | identify (a : Adm) (cns nsid cntid csi : Nat)
  /-- R315: Ends a target command only while it is held before arrival. -/
  | abort (a : Adm) (sqid cid : Nat)
  /-- R286: Sets a supported non-saveable feature. -/
  | setFeatures (a : Adm) (fid : Nat) (value : BitVec 32) (save : Bool)
  /-- R495: Set Features Power Management with PS 0 to 3 writes LEVEL in LDG_PLAN_REQ. -/
  | powerStateSet (a : Adm) (ps : Nat) (save : Bool)
  /-- R497: Set Features Power Management with PS 4 starts DOZE entry. -/
  | dozeRequest (a : Adm) (save : Bool)
  /-- R497: Set Features Power Management with PS 5 starts HIBERNATE entry. -/
  | hibernateRequest (a : Adm) (save : Bool)
  /-- R503: Set Features Timestamp syncs device time forward only. -/
  | timestamp (a : Adm) (ms : Nat) (save : Bool)
  /-- R286: Returns a feature's value. -/
  | getFeatures (a : Adm) (fid sel : Nat) (value : BitVec 32)
  /-- R284: Posts an asynchronous event request, at most 8 per controller. -/
  | asynchronousEventRequest (a : Adm)
  /-- R294: Creates or deletes a namespace, binding zones or shrinking the export. -/
  | namespaceManagement (a : Adm) (q : Sqe) (data : List Byte)
  /-- R123: Commit Action 001 writes the staged image to the slot not booted and commits it. -/
  | firmwareCommitUpdate (a : Adm) (action slot : Nat)
  /-- R316: Commit Action 010 writes a commit marker for the slot not booted if it verifies. -/
  | firmwareCommitMark (a : Adm) (slot : Nat)
  /-- R553: Stages a 4 KiB-aligned piece of a new image. -/
  | firmwareImageDownload (a : Adm) (offset length : Nat) (data : List Byte)
  /-- R337: Attaches or detaches a namespace, fixing ownership at first attach. -/
  | namespaceAttachment (a : Adm) (q : Sqe) (data : List Byte)
  /-- R284: Keep Alive command. -/
  | keepAlive (a : Adm)
  /-- R284: PF Virtualization Management command. -/
  | virtualizationManagement (a : Adm) (action cntlid count : Nat)
  /-- R466: A Connect on a bound queue pair reaches the account's controller. -/
  | fabricsConnect (qp cid cntlid qid size : Nat)
  /-- R284: Fabrics Property Get reads a controller property. -/
  | propertyGet (qp cid offset : Nat)
  /-- R593: Fabrics Property Set writes a controller property such as CC. -/
  | propertySet (qp cid offset : Nat) (value : BitVec 32)
  /-- R284: Fabrics Disconnect ends a queue pair's association. -/
  | disconnect (qp cid : Nat)
  /-- R293: Resets or deallocates a namespace and applies the new LBA format. -/
  | formatNvm (a : Adm) (q : Sqe)
  /-- R335: A mediated VF admin command is placed in the mediation ring. -/
  | mediatedCommand (func cid : Nat) (q : Sqe) (data : List Byte)
  /-- R320: Writes LDG_PLAN_REQ and completes at the boundary where the change takes effect. -/
  | planSelect (a : Adm) (plan level : Nat)
  /-- R182: A write to LDG_PLAN_REQ registers a change and supersedes any pending request. -/
  | planReqWrite (who : Requester) (value : BitVec 32)
  /-- R319: Returns the plan status registers in 256 bytes. -/
  | planStatus (a : Adm)
  /-- R343: Account Quiesce with RESUME 0 starts or reports an account quiesce. -/
  | accountQuiesce (a : Adm) (account : Nat)
  /-- R345: Account Quiesce with RESUME 1 restarts a quiesced account. -/
  | accountResume (a : Adm) (account : Nat)
  /-- R343: At q + 5,079,040 ungranted read sectors are withdrawn and unfetched writes end. -/
  | quiesceCut (member : Nat)
  /-- R332: Binds, changes or unbinds an account after its checks. -/
  | accountBind (a : Adm) (account : Nat) (e : AccountEntry)
  /-- R330: Returns an account's binding entry. -/
  | accountQuery (a : Adm) (account : Nat)
  /-- R337: Approves or denies a pending mediation request. -/
  | mediationReply (a : Adm) (tag : Nat) (approve : Bool)
  /-- R448: Loads a wrapped key into a slot or clears it. -/
  | keyLoad (a : Adm) (slot : Nat) (k : KeyLoadData)
  /-- R336: Returns the oldest mediation request not yet received. -/
  | mediationReceive (a : Adm)
  /-- R540: Restart with TARGET 0 restarts the device through DRAIN and STRAP after authorisation. -/
  | restart (a : Adm) (auth : List Byte)
  /-- R540: Restart with TARGET 1 drains into MAINTENANCE after authorisation. -/
  | maintenanceRequest (a : Adm) (auth : List Byte)
  /-- R402: Returns the Reserve status structure. -/
  | reserveStatus (a : Adm)
  /-- R306: Completes once every earlier write-type command of its namespace is secured. -/
  | flush (h : Nat)
  /-- R301: Writes sectors at the accepted write pointer or a conventional LBA. -/
  | write (h : Nat)
  /-- R143: Reads sectors through die reads or zero reads. -/
  | read (h : Nat)
  /-- R145: Writes zero sectors in a zone or deallocates in a conventional namespace. -/
  | writeZeroes (h : Nat)
  /-- R393: Deallocates up to 256 ranges of a conventional namespace. -/
  | datasetManagement (h : Nat)
  /-- R314: Copies source ranges with snapshot semantics into one destination. -/
  | copy (h : Nat)
  /-- R219: Closes a zone, keeping its claims and staging. -/
  | zoneClose (h : Nat)
  /-- R220: Finishes a zone after its earlier writes are secured, padding the current unit. -/
  | zoneFinish (h : Nat)
  /-- R217: Opens a zone if the active limit allows. -/
  | zoneOpen (h : Nat)
  /-- R221: Resets a zone to Empty after its earlier writes are secured. -/
  | zoneReset (h : Nat)
  /-- R309: Makes a Read Only zone Offline and releases its Tally. -/
  | zoneOffline (h : Nat)
  /-- R309: Unsupported action completing with Invalid Field in Command. -/
  | setZoneDescriptorExtension (h : Nat)
  /-- R312: Reports zone states with the accepted write pointer. -/
  | reportZones (h : Nat)
  /-- R310: Writes at the zone's accepted write pointer and returns the assigned LBA. -/
  | zoneAppend (h : Nat)
  /-- R467: Reads a segment through a Mint lane and writes the repackaged output. -/
  | mintedRead (h : Nat)
  /-- R593: CC.EN written 0 stops fetching and resets the controller once its commands end. -/
  | controllerReset (func : Nat)
  /-- R345: CC.EN written 1 enables a controller and resumes a quiesced VF account. -/
  | controllerEnable (func : Nat) (cc : BitVec 32)
  /-- R343: A VF CC.SHN write quiesces that account. -/
  | vfShutdownNotification (func : Nat)
  /-- R346: A Function Level Reset of a VF runs an implicit quiesce and cancels fetches and Minted Reads. -/
  | flr (func : Nat)
  /-- R346: At quiesce end or 12 ms after the FLR the function's queues and registers are reset. -/
  | flrTimeout (func : Nat)
  /-- R338: Setting ENABLE enables a PASID slice after its checks. -/
  | sliceEnable (who : Requester) (n : Nat) (value : BitVec 32) (pasidOn : Bool)
  /-- R340: Clearing ENABLE quiesces the slice and clears its keys. -/
  | sliceDisable (who : Requester) (n : Nat)
  /-- R339: APPLY assigns a PF I/O queue pair to a slice or to account 0. -/
  | qsliceApply (who : Requester) (value : BitVec 32)
  /-- R342: The manager advances HEAD, releasing a stall on a full ring. -/
  | dlogHeadWrite (who : Requester) (value : BitVec 32)
  /-- R466: The MP accepts a CM REQ and binds a queue pair, or rejects it. -/
  | cmReq (port : Nat) (src : BitVec 128)
  /-- R463: A CE-marked RoCEv2 packet causes a rate-limited CNP. -/
  | ceMarkedPacket (qp : Nat)
  /-- R463: A received CNP halves the queue pair's send rate. -/
  | cnpReceive (qp : Nat)
  /-- R463: Each 55,000 ticks without a CNP raise the queue pair rate by 5 Gb/s. -/
  | rateRecovery (qp : Nat)
  /-- R464: A received PFC pause stops that priority's transmission. -/
  | pfcPauseReceive (port : Nat) (cnp : Bool)
  /-- R464: The receive buffer falls to 512 KiB and NET sends XON. -/
  | pfcXon (port bytes : Nat)
  /-- R462: NET answers ARP for its own address in hardware. -/
  | arpRequest (port : Nat) (own : Bool)
  /-- R462: NET answers IPv6 Neighbor Discovery in hardware. -/
  | neighborDiscovery (port : Nat) (own : Bool)
  /-- R485: A matching wake frame in DOZE is a wake event on its port. -/
  | wakeFrame (port : Nat) (form : Bool) (token : BitVec 64) (roce : Option Nat)
  /-- R461: A port reaches block lock and FEC codeword lock. -/
  | linkUp (port corr uncorr : Nat)
  /-- R461: A port loses LINK_UP, its queue pairs error and it retrains. -/
  | linkDown (port corr uncorr : Nat)
  /-- R471: A free lane goes to the earliest registered Minted Read and its sectors register. -/
  | mintLaneGrant (l : Nat)
  /-- R473: 2,048 ticks after sector 0 enters the ring the lane begins consuming. -/
  | mintSetupEnd (l : Nat)
  /-- R473: The lane begins consuming an input sector, checking its seal. -/
  | sectorConsume (l : Nat) (sealOk conforms : Bool) (seg out : Nat)
  /-- R475: A completed output chunk leaves in its lane's turn. -/
  | mintChunkTurn (l room : Nat) (pages : List (BitVec 64))
  /-- R473: The lane finishes consuming the last sector. -/
  | mintLaneEnd (l : Nat)
  /-- R497: Every member's fetched commands have completed during sleep entry. -/
  | abortPointAp2
  /-- R497: Buffers are empty, or all data settled for HIBERNATE, during sleep entry. -/
  | abortPointAp3
  /-- R502: An I3C private write of 0x57 to the dynamic address is a management wake. -/
  | mgmtWake
  /-- R502: The real-time count equals PWR_ALARM, an ALARM wake event. -/
  | alarmMatch
  /-- R503: A 32.768 kHz period edge advances device time in MAINTENANCE and registers HIBERNATE wakes. -/
  | rtcPeriod
  /-- R507: A junction sensor takes a reading and thresholds are judged. -/
  | sensorSample (n : Nat) (reading : Int) (ok : Bool)
  /-- R509: After 763 cool Folios THROTTLE_LEVEL rises by one level. -/
  | throttleRise
  /-- R514: Every 24 power-on hours the wear governor recomputes FACTOR. -/
  | wearEvaluation
  /-- R505: Each power-on hour device time and hours are written to metadata. -/
  | powerOnHour
  /-- R516: A loop's sense is latched at period tick 6,250 and its settled state judged. -/
  | loopSample (n mv : Nat)
  /-- R516: A loop writes its clamped output at period tick 8,000. -/
  | loopOutput (n : Nat)
  /-- R517: The profile generator steps every 1,000 ticks toward its target. -/
  | profileStep
  /-- R518: A loop not settled 100 µs after the profile reached target sets SETTLE_LATE. -/
  | settleLate (n : Nat)
  /-- R519: A write to LOOP_n_CTL.CLOSE opens or closes a loop at the next period. -/
  | loopCloseWrite (who : Requester) (n : Nat) (close : Bool)
  /-- R519: A coefficient write takes effect only while the loop is open. -/
  | coefWrite (who : Requester) (n : Nat) (second : Bool) (value : BitVec 32)
  /-- R517: A new set-point target replans the profile from its present state. -/
  | setpointWrite (who : Requester) (n : Nat) (value : BitVec 32)
  /-- R520: Loop 1 closes again once PLOSS_N has been high for 100 ms. -/
  | loop1Reclose
  /-- R531: Takes part in dynamic address assignment while it has no address. -/
  | entdaa (won : Option (BitVec 7))
  /-- R531: Clears the dynamic address. -/
  | rstdaa
  /-- R531: Assigns a dynamic address at the static address. -/
  | setdasa (staticA new : BitVec 7)
  /-- R531: Replaces the dynamic address. -/
  | setnewda (addr new : BitVec 7)
  /-- R532: Returns the 48-bit provisioned ID. -/
  | getpid (addr : BitVec 7)
  /-- R531: Returns BCR 0x00. -/
  | getbcr (addr : BitVec 7)
  /-- R531: Returns DCR 0x00. -/
  | getdcr (addr : BitVec 7)
  /-- R531: Returns the count of waiting MCTP packets. -/
  | getstatus (addr : BitVec 7)
  /-- R531: Returns a maximum write length of 69 bytes. -/
  | getmwl (addr : BitVec 7)
  /-- R531: Returns a maximum read length of 69 bytes. -/
  | getmrl (addr : BitVec 7)
  /-- R531: Stores a write length of 69 or more, NACKing less. -/
  | setmwl (addr : BitVec 7) (v : Nat)
  /-- R531: Stores a read length of 69 or more, NACKing less. -/
  | setmrl (addr : BitVec 7) (v : Nat)
  /-- R531: Accepted without effect. -/
  | enec (addr : Option (BitVec 7))
  /-- R531: Accepted without effect. -/
  | disec (addr : Option (BitVec 7))
  /-- R535: An I3C private write delivers an MCTP packet to the MP. -/
  | mctpPacketWrite (addr : BitVec 7) (bs : List Byte)
  /-- R535: An I3C private read returns a waiting MCTP packet or is NACKed. -/
  | mctpPacketRead (addr : BitVec 7)
  /-- R535: MCTP control command setting the EID. -/
  | setEndpointId (id eid : Nat)
  /-- R535: MCTP control command returning the EID. -/
  | getEndpointId (id : Nat)
  /-- R535: MCTP control command returning the UUID. -/
  | getEndpointUuid (id : Nat)
  /-- R535: MCTP control command returning version support. -/
  | getMctpVersionSupport (id type : Nat)
  /-- R535: MCTP control command returning message types 0x00 and 0x04. -/
  | getMessageTypeSupport (id : Nat)
  /-- R287: NVMe-MI command returning a data structure. -/
  | readNvmeMiDataStructure (id type : Nat)
  /-- R287: NVMe-MI subsystem health poll. -/
  | nvmSubsystemHealthStatusPoll (id : Nat)
  /-- R287: NVMe-MI controller health poll. -/
  | controllerHealthStatusPoll (id func : Nat)
  /-- R287: NVMe-MI Configuration Set. -/
  | configurationSet (id cfg value : Nat)
  /-- R287: NVMe-MI Configuration Get. -/
  | configurationGet (id cfg : Nat)
  /-- R536: NVMe-MI Reset, handled as Restart TARGET 0 where admitted. -/
  | miReset (id : Nat)
  /-- R538: Issues a fresh 32-byte nonce for the MI path. -/
  | getChallenge (id : Nat)
  /-- R537: Returns stored event records. -/
  | eventLogRead (id first count : Nat)
  /-- R550: An authorised clear erases the log and starts a new EPOCH. -/
  | eventLogClear (id : Nat) (auth : List Byte)
  /-- R537: Returns the 4,096-byte calibration row. -/
  | calibrationRowRead (id : Nat)
  /-- R113: Programs a blank calibration row, or is refused. -/
  | calibrationRowWrite (id : Nat) (row : List Byte)
  /-- R540: Life-cycle Change with ACTION 4 burns the device key and enters PROVISIONED. -/
  | provision (id : Nat) (auth : List Byte)
  /-- R540: Life-cycle Change with ACTION 5 enters DECOMMISSIONED. -/
  | decommission (id : Nat) (auth : List Byte)
  /-- R537: Factory Test TEST 0 or 1 runs slot verification. -/
  | factoryTestVerifySlot (id : Nat) (slot : Slot)
  /-- R537: Factory Test TEST 2 drives ALERT_N low for 1 ms. -/
  | factoryTestAlert (id : Nat)
  /-- R537: The 1 ms factory ALERT_N pulse ends. -/
  | factoryAlertPulseEnd
  /-- R537: Factory Test TEST 3 runs the entropy health tests. -/
  | factoryTestEntropy (id : Nat) (ok : Bool)
  /-- R538: A write of NEW to MGT_CHALLENGE_CTL issues a PF-path nonce. -/
  | challengeNew (who : Requester)
  /-- R538: A nonce expires 60 s after issue. -/
  | nonceExpiry (p : AuthPath)
  /-- R538: The 10 s lockout after 16 failed authorisations ends. -/
  | authLockoutEnd (p : AuthPath)
  /-- R541: Hardware sets a cause leaf bit, queues its event record and propagates it. -/
  | causeLeafSet (l : Leaf) (b : Nat)
  /-- R541: A W1C write clears leaf bits and may release ALERT_N. -/
  | causeLeafClear (who : Requester) (l : Leaf) (v : BitVec 32)
  /-- R541: 64 ticks after a leaf change ALERT_N is driven or released. -/
  | alertNUpdate
  /-- R547: The recorder starts a NOR page program of queued event records. -/
  | evtRecordProgram
  /-- R547: An event record page program ends, or fails and skips the page. -/
  | evtProgramDone (ok : Bool)
  /-- R552: Writing INDEX loads an event record and sets READY. -/
  | evtRdSelWrite (who : Requester) (v : BitVec 32)
  /-- R246: Selecting a zone and slot loads the query registers within 64 ticks. -/
  | medZqSelWrite (who : Requester) (value : BitVec 32)
  /-- R155: Writing ARM selects the next matching command for tracing. -/
  | traceArm (who : Requester) (v : BitVec 32)
  /-- R156: Writing CLEAR clears an account's external-wait MAX and COUNT. -/
  | extwaitClear (who : Requester) (account : Nat)
  /-- R154: A read of LDG_TICK_LO latches the upper half for its requester. -/
  | tickLoRead (who : Requester)
  /-- R525: A read of PWR_TIME_LO latches PWR_TIME_HI for its requester. -/
  | timeLoRead (who : Requester)
  /-- R565: A write to a register with no behaviour of its own updates its writable fields. -/
  | registerWrite (who : Requester) (o : Nat) (v : BusWord)
  /-- R397: A Reserve segment's sensed voltage reaches 0.98 of its V_a or rated voltage, so it counts as charged and the cover is recomputed. -/
  | segmentCharged (n mv : Nat)
  /-- R265: Before the Tally ring reuses its oldest block, the block's live pages are copied forward in class 14. -/
  | tallyForwardCopy (die block : Nat)
  /-- R259: A block's age since programming reaches RETENTION_DAYS and it is queued for retention refresh. -/
  | retentionRefreshDue (die block : Nat)
  /-- R363: The owner advances XFR_CHn_CQ_HEAD, freeing ring space so that a chain stalled on a full completion ring resumes. -/
  | cqHeadWrite (who : Requester) (ch head : Nat)
  /-- R331: Setting VF Enable in the PF's SR-IOV capability brings the VFs into being and makes their load-time bindings take effect. -/
  | vfEnable (vfs : Nat)
  /-- R35: The PCIe link goes down without PERST_N while NET and the media side run on. -/
  | pcieLinkDown
  /-- R286: A controller's Keep Alive Timer expires without a Keep Alive or command. -/
  | keepAliveTimeout (func : Nat)
  /-- R464: The pause time of a received PFC frame runs out and the paused priority transmits again. -/
  | pfcPauseExpiry (port : Nat) (cnp : Bool)
  /-- R44: A TCK edge advances the JTAG TAP and drives TDO only in Shift-DR or Shift-IR. -/
  | tckEdge (rising : Bool) (pins : TapPins)
  /-- R44: TRST_N low resets the JTAG TAP. -/
  | trstNAssert
deriving DecidableEq, Repr

end Sys2Proof
end

