-- ==== Sys2Proof/Decode.lean ====
section
/-!
DEFINITION. The decoder's fixed name. The table of operations and events gives no row a bit (its rows are events outside
the block and accesses to it, not words), so no word spells a command.
-/
namespace Sys2Proof

/-- The command that a word spells by the table's bits: none, since the table gives no row any bits. -/
def decodeTableWord (_nbits _w : Nat) : Option Instr := none

end Sys2Proof
end

