-- ==== Sys2Proof/Config.lean ====
section
/-!
DEFINITION. What one part fixes and what the manual leaves open: fused values, and the values that the manual does not
state, as constants without a body, so that nothing can be proved of a particular value.
-/
namespace Sys2Proof.Config

/-- The fused 16-byte die serial (R532, R571), byte 0 first. -/
opaque dieSerial : BitVec 128

/-- Release of the recovery firmware in the boot ROM (R571). -/
opaque recoveryRelease : BitVec 32

/-- SRM_REPAIR as fused (R435). -/
opaque srmRepair : BitVec 32

/-- A free value of the state's free-value counter: what the manual calls undefined or does not state, 32 bits. -/
opaque freeWord : Nat → BitVec 32

/-- A free sector's worth of bytes (R127: undefined contents; a discarded or unstated data result). -/
opaque freeByte : Nat → BitVec 8

/-- Word `i` of the RFC 3394 output for a key-encryption key and data (R450): no cipher is computed. -/
opaque wrapWord : Nat → Nat → Nat → BitVec 32

/-- Byte `i` of a stored event record whose program was cut short or failed, by EPOCH and SEQ of what was to be written
(R127, R548). -/
opaque cutByte : Nat → Nat → Nat → BitVec 8

/-- A record of the log still stands in the sector that an abandoned operation left undefined (R127), by the free-value counter and the
record's index. -/
opaque cutKeeps : Nat → Nat → Bool

/-- The endpoint's UUID and the MCTP version it reports for a message type, which the manual does not state (R535). -/
opaque endpointUuid : BitVec 128
opaque mctpVersion : Nat → BitVec 32

/-- Byte `i` of NVMe-MI data structure `t`, and the value of a configuration identifier that was never set, which the manual
does not state (R287). -/
opaque miStruct : Nat → Nat → BitVec 8
opaque miDefault : Nat → Nat

/-- A die's factory calibration data (R255, R323): its length (at most 16,384 of it counts), its retry table and its bytes. -/
opaque dieCalLength : Nat → BitVec 15
opaque dieCal : Nat → Nat → BitVec 8

/-- The default value of a feature, which the manual does not state, by feature identifier (R286). -/
opaque featureDefault : Nat → BitVec 32

/-- SHA-384, with byte 0 of the digest lowest, and the verification of an ECDSA P-384 signature by a public key of 97 bytes over a
digest: functions of their bytes that the model does not compute (R115, R119, R539). -/
opaque sha384 : List Byte → BitVec 384
opaque ecdsaOk : List Byte → BitVec 384 → List Byte → Bool

/-- The Lemlari public key in boot ROM (R119). -/
opaque lemlariKey : List Byte

/-- Words of the controller properties that the manual does not state, by offset (R289, R562). -/
opaque property : Nat → BitVec 32

/-- A fresh 32-byte nonce of the DRBG or of the recovery firmware (R538). -/
opaque freeNonce : Nat → BitVec 256

/-- The phase that the boot ROM's die map gives a die under the conservative plan (R188), which the manual does not list. -/
opaque romPhase : Nat → Nat

/-- A completion status that the manual does not state, by the place that gives it: status code in [7:0], type in [10:8], Do
Not Retry in [11]. -/
opaque openStatus : Nat → BitVec 12

/-- The Do Not Retry bit of a status, by its type and code, where the manual does not state it (R288, R311, R321). -/
opaque dnr : Nat → Nat → Bool

/-- The number of a kind of move in a map commit's record, by its place in the list of R276, and the code of a mode change's
cause in its event record (R546), neither of which the manual numbers. -/
opaque moveKind : Nat → BitVec 3
opaque modeCause : Nat → BitVec 16

/-- The code of a block's retirement cause in its event record (R270), by its place in the list there. -/
opaque retireCause : Nat → BitVec 32

/-- Boundary scan (R46), none of it stated: bits of the instruction register, cells of the boundary-scan register, the instructions that
select it, and the level that cell `i` captures, by the free-value counter. -/
opaque irLength : Nat
opaque bsrLength : Nat
opaque selectsBoundary : List Bool → Bool
opaque bsrCell : Nat → Nat → Bool

/-- What a discarded restart request records as its opcode where it was a write to NSSR, which has none (R80, R546). -/
opaque nssrOpcode : BitVec 8

end Sys2Proof.Config
end

