-- ==== Sys2Proof/Machine/Operands.lean ====
section
/-!
DEFINITION. Bit fields, byte order and check sums that the command meanings share: field read and write of a register
word, little-endian bytes (R7), signed fields, CRC-32C, and the small arithmetic the chapters use.
-/
namespace Sys2Proof.Machine

/-- The field of `width` bits of `w` from bit `lo` up, as a number. -/
def getField {n : Nat} (w : BitVec n) (lo width : Nat) : Nat := (w.toNat / 2 ^ lo) % 2 ^ width

/-- `w` with its field of `width` bits from bit `lo` up replaced by `v` (taken modulo the field's size). -/
def setField {n : Nat} (w : BitVec n) (lo width v : Nat) : BitVec n :=
  let m : BitVec n := BitVec.ofNat n ((2 ^ width - 1) * 2 ^ lo)
  (w &&& ~~~m) ||| BitVec.ofNat n ((v % 2 ^ width) * 2 ^ lo)

/-- Bit `b` of a word. -/
def bitOf {n : Nat} (w : BitVec n) (b : Nat) : Bool := w.getLsbD b

/-- A word with only bit `b` set. -/
def oneBit (b : Nat) : Word := BitVec.ofNat 32 (2 ^ b)

/-- `w` with bit `b` set or cleared. -/
def putBit (w : Word) (b : Nat) (v : Bool) : Word :=
  if v then w ||| oneBit b else w &&& ~~~(oneBit b)

/-- A Boolean as a bit. -/
def b2n (b : Bool) : Nat := if b then 1 else 0

/-- The low `n` bytes of `v`, least significant first (R7). -/
def leBytes : Nat → Nat → List Byte
  | 0, _ => []
  | n + 1, v => BitVec.ofNat 8 v :: leBytes n (v / 256)

/-- The number that little-endian bytes spell (R7). -/
def ofLeBytes : List Byte → Nat
  | [] => 0
  | b :: bs => b.toNat + 256 * ofLeBytes bs

/-- A two's complement field of `width` bits as an integer. -/
def signed (width v : Nat) : Int :=
  if v % 2 ^ width < 2 ^ (width - 1) then ((v % 2 ^ width : Nat) : Int)
  else ((v % 2 ^ width : Nat) : Int) - ((2 ^ width : Nat) : Int)

/-- An integer as a two's complement field of `width` bits. -/
def unsigned (width : Nat) (i : Int) : Nat := (i % ((2 ^ width : Nat) : Int)).toNat

/-- Addition that stops at the largest value of a field of `width` bits ("saturates"). -/
def satAdd (width a b : Nat) : Nat := min (a + b) (2 ^ width - 1)

/-- One bit step of the reflected CRC-32C register (polynomial 0x82F6_3B78). -/
def crcStep (c : BitVec 32) : BitVec 32 :=
  if c.getLsbD 0 then (c >>> 1) ^^^ 0x82F63B78#32 else c >>> 1

/-- One byte of CRC-32C. -/
def crcByte (c : BitVec 32) (b : Byte) : BitVec 32 :=
  let x := c ^^^ b.setWidth 32
  crcStep (crcStep (crcStep (crcStep (crcStep (crcStep (crcStep (crcStep x)))))))

/-- CRC-32C of a list of bytes: the check sum of R112, R121, R124, R383, R394, R545 and the hash of R532. -/
def crc32c (bs : List Byte) : BitVec 32 := ~~~(bs.foldl crcByte 0xFFFFFFFF#32)

/-- `n` zero bytes. -/
def zeros (n : Nat) : List Byte := List.replicate n 0

/-- The first `n` bytes of a list, filled up with zeros. -/
def padTo (n : Nat) (bs : List Byte) : List Byte := bs.take n ++ List.replicate (n - bs.length) 0

/-- `a / b` rounded up. -/
def ceilDiv (a b : Nat) : Nat := (a + b - 1) / b

/-- The largest number of a list, 0 for the empty list. -/
def maxOf (l : List Nat) : Nat := l.foldl max 0

/-- The sum of a list of numbers. -/
def sumOf (l : List Nat) : Nat := l.foldl (· + ·) 0

/-- The numbers from `lo` to `lo + n - 1`, ascending. -/
def upFrom (lo : Nat) : Nat → List Nat
  | 0 => []
  | n + 1 => lo :: upFrom (lo + 1) n

end Sys2Proof.Machine
end

