-- ==== Sys2Proof/Machine/Regs.lean ====
section
/-!
DEFINITION. The register map (spec 19, R560 to R575, R590): the offset of every register of the register space, and
for each listing its replication, island, spaces, writable and W1C bits, and reset word, as the field tables of
the chapters give them.
-/
namespace Sys2Proof.Machine

/-- Where a register may be reached (R563): both spaces, management space only, read-only through the PF space,
or a chain register (R575: management space only for contexts 0 to 4, both spaces for 5 to 7). -/
inductive RegSpace where
  | both
  | mgmt
  | pfRead
  | chain
deriving DecidableEq, Repr

/-- One listing of R572 to R575: `count` registers from `off`, `stride` bytes apart, held in `island` (R590), with
the masks of their RW, W1C and WO bits and their reset word. -/
structure RegRow where
  off : Nat
  count : Nat
  stride : Nat
  island : Island
  space : RegSpace
  rw : BitVec 32
  w1c : BitVec 32
  wo : BitVec 32
  reset : BitVec 32
deriving DecidableEq, Repr

namespace Reg

/-- AON_PART_ID (R571). -/
def aonPartId : Nat := 0x0

/-- AON_FW_RELEASE (R571). -/
def aonFwRelease : Nat := 0x4

/-- AON_SERIAL (R571), 4 registers 0x4 apart. -/
def aonSerial : Nat := 0x10

/-- AON_MODE (R102). -/
def aonMode : Nat := 0x20

/-- AON_STRAP (R61). -/
def aonStrap : Nat := 0x24

/-- AON_START_CAUSE (R103). -/
def aonStartCause : Nat := 0x30

/-- AON_START_CAUSE_MASK (R556). -/
def aonStartCauseMask : Nat := 0x34

/-- AON_BOARD_CAUSE (R73). -/
def aonBoardCause : Nat := 0x38

/-- AON_BOARD_CAUSE_MASK (R556). -/
def aonBoardCauseMask : Nat := 0x3c

/-- AON_PHASE_TIME (R104), 4 registers 0x4 apart. -/
def aonPhaseTime : Nat := 0x40

/-- TOP_SUMMARY (R556). -/
def topSummary : Nat := 0x10000

/-- MGT_ALERT_MASK (R556). -/
def mgtAlertMask : Nat := 0x10004

/-- MGT_MSIX_MASK (R556). -/
def mgtMsixMask : Nat := 0x10008

/-- MGT_MSIX_CTL (R556). -/
def mgtMsixCtl : Nat := 0x1000c

/-- MGT_GROUP (R556), 11 registers 0x4 apart. -/
def mgtGroup : Nat := 0x10040

/-- MGT_CAUSE (R557). -/
def mgtCause : Nat := 0x10080

/-- MGT_CAUSE_MASK (R556). -/
def mgtCauseMask : Nat := 0x10084

/-- MGT_I3C_STATUS (R558). -/
def mgtI3cStatus : Nat := 0x10100

/-- MGT_PID_LO (R558). -/
def mgtPidLo : Nat := 0x10104

/-- MGT_PID_HI (R558). -/
def mgtPidHi : Nat := 0x10108

/-- MGT_WDOG_KICK (R558). -/
def mgtWdogKick : Nat := 0x10110

/-- MGT_WDOG_STATUS (R558). -/
def mgtWdogStatus : Nat := 0x10114

/-- MGT_DRAM_WIN (R569). -/
def mgtDramWin : Nat := 0x10120

/-- MGT_CHALLENGE (R558), 8 registers 0x4 apart. -/
def mgtChallenge : Nat := 0x10140

/-- MGT_CHALLENGE_CTL (R558). -/
def mgtChallengeCtl : Nat := 0x10160

/-- EVT_STATUS (R559). -/
def evtStatus : Nat := 0x20000

/-- EVT_EPOCH (R559). -/
def evtEpoch : Nat := 0x20004

/-- EVT_LOST (R559). -/
def evtLost : Nat := 0x20008

/-- EVT_CAUSE (R557). -/
def evtCause : Nat := 0x20010

/-- EVT_CAUSE_MASK (R556). -/
def evtCauseMask : Nat := 0x20014

/-- EVT_RD_SEL (R559). -/
def evtRdSel : Nat := 0x20020

/-- EVT_RD_DATA (R559), 16 registers 0x4 apart. -/
def evtRdData : Nat := 0x20040

/-- NOR_OP_ADDR (R129). -/
def norOpAddr : Nat := 0x30000

/-- NOR_OP_SRC (R129). -/
def norOpSrc : Nat := 0x30004

/-- NOR_OP_CMD (R129). -/
def norOpCmd : Nat := 0x30008

/-- NOR_OP_STATUS (R130). -/
def norOpStatus : Nat := 0x3000c

/-- XIP_GUARD (R128). -/
def xipGuard : Nat := 0x30010

/-- NOR_CAUSE (R131). -/
def norCause : Nat := 0x30020

/-- NOR_CAUSE_MASK (R556). -/
def norCauseMask : Nat := 0x30024

/-- NOR_SLOT_STATUS (R132). -/
def norSlotStatus : Nat := 0x30030

/-- NOR_SLOT_SEQ (R132), 2 registers 0x4 apart. -/
def norSlotSeq : Nat := 0x30034

/-- LAST_WAKE (R525). -/
def lastWake : Nat := 0x40000

/-- PWR_WAKE_TICK (R525), 2 registers 0x4 apart. -/
def pwrWakeTick : Nat := 0x40004

/-- PWR_WAKE_RTC (R525). -/
def pwrWakeRtc : Nat := 0x4000c

/-- PWR_WAKE_EN (R525). -/
def pwrWakeEn : Nat := 0x40010

/-- PWR_ALARM (R525). -/
def pwrAlarm : Nat := 0x40014

/-- PWR_RTC (R525). -/
def pwrRtc : Nat := 0x40018

/-- PWR_TIME (R525), 2 registers 0x4 apart. -/
def pwrTime : Nat := 0x40020

/-- PWR_TIME_STAT (R525). -/
def pwrTimeStat : Nat := 0x40028

/-- PWR_POH (R525). -/
def pwrPoh : Nat := 0x40030

/-- PWR_WEAR (R525). -/
def pwrWear : Nat := 0x40034

/-- PWR_CAUSE (R528). -/
def pwrCause : Nat := 0x40040

/-- PWR_CAUSE_MASK (R556). -/
def pwrCauseMask : Nat := 0x40044

/-- PWR_RSV_COVER (R406). -/
def pwrRsvCover : Nat := 0x40100

/-- PWR_RSV_LIMITS (R406). -/
def pwrRsvLimits : Nat := 0x40104

/-- PWR_RSV_SEG (R406), 8 registers 0x4 apart. -/
def pwrRsvSeg : Nat := 0x40110

/-- PWR_RSV_CAUSE (R407). -/
def pwrRsvCause : Nat := 0x40140

/-- PWR_RSV_CAUSE_MASK (R556). -/
def pwrRsvCauseMask : Nat := 0x40144

/-- THM_SENSOR (R526), 16 registers 0x4 apart. -/
def thmSensor : Nat := 0x50000

/-- THM_STATUS (R526). -/
def thmStatus : Nat := 0x50040

/-- THM_CAUSE (R528). -/
def thmCause : Nat := 0x50050

/-- THM_CAUSE_MASK (R556). -/
def thmCauseMask : Nat := 0x50054

/-- LOOP_CTL (R527), 4 registers 0x100 apart. -/
def loopCtl : Nat := 0x60000

/-- LOOP_SETPOINT (R527), 4 registers 0x100 apart. -/
def loopSetpoint : Nat := 0x60004

/-- LOOP_COEF0 (R527), 4 registers 0x100 apart. -/
def loopCoef0 : Nat := 0x60008

/-- LOOP_COEF1 (R527), 4 registers 0x100 apart. -/
def loopCoef1 : Nat := 0x6000c

/-- LOOP_STATUS (R527), 4 registers 0x100 apart. -/
def loopStatus : Nat := 0x60010

/-- LOOP_CAUSE (R528). -/
def loopCause : Nat := 0x60400

/-- LOOP_CAUSE_MASK (R556). -/
def loopCauseMask : Nat := 0x60404

/-- LDG_TICK (R154), 2 registers 0x4 apart. -/
def ldgTick : Nat := 0x100000

/-- LDG_FOLIO (R190). -/
def ldgFolio : Nat := 0x100010

/-- LDG_PHASE (R190). -/
def ldgPhase : Nat := 0x100014

/-- LDG_PLAN_REQ (R191). -/
def ldgPlanReq : Nat := 0x100020

/-- LDG_PLAN_CUR (R191). -/
def ldgPlanCur : Nat := 0x100024

/-- LDG_MEDIA_EXC (R192). -/
def ldgMediaExc : Nat := 0x100030

/-- LDG_MEDIA_EXC_MASK (R556). -/
def ldgMediaExcMask : Nat := 0x100034

/-- LDG_EXC_INFO (R192). -/
def ldgExcInfo : Nat := 0x100038

/-- LDG_PLAN_CAUSE (R213). -/
def ldgPlanCause : Nat := 0x100040

/-- LDG_PLAN_CAUSE_MASK (R556). -/
def ldgPlanCauseMask : Nat := 0x100044

/-- LDG_VAR_STATUS (R212), 16 registers 0x4 apart. -/
def ldgVarStatus : Nat := 0x100100

/-- LDG_VAR_WHERE (R212), 16 registers 0x4 apart. -/
def ldgVarWhere : Nat := 0x100140

/-- LDG_TRACE_CTL (R155). -/
def ldgTraceCtl : Nat := 0x100200

/-- LDG_TRACE_INFO (R155). -/
def ldgTraceInfo : Nat := 0x100204

/-- LDG_TRACE_SEQ (R155). -/
def ldgTraceSeq : Nat := 0x100208

/-- LDG_TRACE_EXT (R155). -/
def ldgTraceExt : Nat := 0x10020c

/-- LDG_TRACE_STAMP0 (R155). -/
def ldgTraceStamp0 : Nat := 0x100240

/-- LDG_TRACE_STAMP (R155), 15 registers 0x4 apart. -/
def ldgTraceStamp : Nat := 0x100244

/-- MED_ZONE_LIMITS (R243). -/
def medZoneLimits : Nat := 0x110000

/-- MED_ZONE_EXPORT (R243). -/
def medZoneExport : Nat := 0x110004

/-- MED_SLC_LIMIT (R244). -/
def medSlcLimit : Nat := 0x110010

/-- MED_SLC_LENT (R244). -/
def medSlcLent : Nat := 0x110014

/-- MED_SLC_STREAMS (R244). -/
def medSlcStreams : Nat := 0x110018

/-- MED_ZONE_CAUSE (R245). -/
def medZoneCause : Nat := 0x110020

/-- MED_ZONE_CAUSE_MASK (R556). -/
def medZoneCauseMask : Nat := 0x110024

/-- MED_INTEG_CAUSE (R281). -/
def medIntegCause : Nat := 0x110030

/-- MED_INTEG_CAUSE_MASK (R556). -/
def medIntegCauseMask : Nat := 0x110034

/-- MED_SPARE (R282). -/
def medSpare : Nat := 0x110040

/-- MED_TALLY (R282). -/
def medTally : Nat := 0x110044

/-- MED_RETRY_L1 (R282). -/
def medRetryL1 : Nat := 0x110050

/-- MED_RETRY_L2 (R282). -/
def medRetryL2 : Nat := 0x110054

/-- MED_RETRY_L3 (R282). -/
def medRetryL3 : Nat := 0x110058

/-- MED_UNCORR (R282). -/
def medUncorr : Nat := 0x11005c

/-- MED_ZQ_SEL (R246). -/
def medZqSel : Nat := 0x110080

/-- MED_ZQ_STATE (R246). -/
def medZqState : Nat := 0x110084

/-- MED_ZQ_FINISH (R246). -/
def medZqFinish : Nat := 0x110088

/-- MED_ZQ_SLOT (R246). -/
def medZqSlot : Nat := 0x11008c

/-- MED_ZQ_SLC (R246). -/
def medZqSlc : Nat := 0x110090

/-- MED_DIE_FAIL (R283), 32 registers 0x4 apart. -/
def medDieFail : Nat := 0x110100

/-- MED_CH_TRAIN (R106), 32 registers 0x4 apart. -/
def medChTrain : Nat := 0x110180

/-- HST_ORDER_CAUSE (R325). -/
def hstOrderCause : Nat := 0x120000

/-- HST_ORDER_CAUSE_MASK (R556). -/
def hstOrderCauseMask : Nat := 0x120004

/-- HST_LOCK_STATUS (R326). -/
def hstLockStatus : Nat := 0x120008

/-- HST_DB_STATUS (R404). -/
def hstDbStatus : Nat := 0x120010

/-- HST_DB_UNDELIV (R404). -/
def hstDbUndeliv : Nat := 0x120014

/-- HST_DB_CAUSE (R405). -/
def hstDbCause : Nat := 0x120020

/-- HST_DB_CAUSE_MASK (R556). -/
def hstDbCauseMask : Nat := 0x120024

/-- MEM_CAUSE (R432). -/
def memCause : Nat := 0x130000

/-- MEM_CAUSE_MASK (R556). -/
def memCauseMask : Nat := 0x130004

/-- MEM_ERR_ADDR (R433), 2 registers 0x4 apart. -/
def memErrAddr : Nat := 0x130010

/-- MEM_ERR_INFO (R433). -/
def memErrInfo : Nat := 0x130018

/-- MEM_SCRUB_CTL (R433). -/
def memScrubCtl : Nat := 0x130020

/-- MEM_SCRUB_STATUS (R433). -/
def memScrubStatus : Nat := 0x130024

/-- MEM_WBUF_STATUS (R433). -/
def memWbufStatus : Nat := 0x130028

/-- MEM_CBT_CTL (R433). -/
def memCbtCtl : Nat := 0x130030

/-- MEM_CBT_CHECK (R433), 4 registers 0x4 apart. -/
def memCbtCheck : Nat := 0x130040

/-- MEM_DEV_CE (R433), 40 registers 0x4 apart. -/
def memDevCe : Nat := 0x130100

/-- MEM_TRAIN_RESULT (R105), 80 registers 0x4 apart. -/
def memTrainResult : Nat := 0x130200

/-- SRM_CAUSE (R434). -/
def srmCause : Nat := 0x140000

/-- SRM_CAUSE_MASK (R556). -/
def srmCauseMask : Nat := 0x140004

/-- SRM_PWR_STATE (R435). -/
def srmPwrState : Nat := 0x140010

/-- SRM_ERR_INFO (R435). -/
def srmErrInfo : Nat := 0x140014

/-- SRM_REPAIR (R435). -/
def srmRepair : Nat := 0x140018

/-- SRM_CONFLICT_CLR (R435). -/
def srmConflictClr : Nat := 0x140020

/-- SRM_CONFLICT (R435), 20 registers 0x4 apart. -/
def srmConflict : Nat := 0x140040

/-- CRY_CAUSE (R459). -/
def cryCause : Nat := 0x150000

/-- CRY_CAUSE_MASK (R556). -/
def cryCauseMask : Nat := 0x150004

/-- CRY_KM_LOCK (R456). -/
def cryKmLock : Nat := 0x150010

/-- CRY_KM_CMD (R457). -/
def cryKmCmd : Nat := 0x150014

/-- CRY_KM_STATUS (R457). -/
def cryKmStatus : Nat := 0x150018

/-- CRY_KM_DATA (R457), 18 registers 0x4 apart. -/
def cryKmData : Nat := 0x150040

/-- CRY_SLOT_SEL (R458). -/
def crySlotSel : Nat := 0x150100

/-- CRY_SLOT_INFO (R458). -/
def crySlotInfo : Nat := 0x150104

/-- CRY_LIFECYCLE (R458). -/
def cryLifecycle : Nat := 0x150110

/-- NET_PORT_STATUS (R487), 2 registers 0x4 apart. -/
def netPortStatus : Nat := 0x160000

/-- NET_PORT_FEC_CORR (R488), 2 registers 0x8 apart. -/
def netPortFecCorr : Nat := 0x160010

/-- NET_PORT_FEC_UNCORR (R488), 2 registers 0x8 apart. -/
def netPortFecUncorr : Nat := 0x160014

/-- NET_CAUSE (R490). -/
def netCause : Nat := 0x160020

/-- NET_CAUSE_MASK (R556). -/
def netCauseMask : Nat := 0x160024

/-- NET_WAKE_TOKEN (R489), 2 registers 0x4 apart. -/
def netWakeToken : Nat := 0x160030

/-- NET_HOST_ADDR0 (R489), 512 registers 0x20 apart. -/
def netHostAddr0 : Nat := 0x161000

/-- NET_HOST_ADDR1 (R489), 512 registers 0x20 apart. -/
def netHostAddr1 : Nat := 0x161004

/-- NET_HOST_ADDR2 (R489), 512 registers 0x20 apart. -/
def netHostAddr2 : Nat := 0x161008

/-- NET_HOST_ADDR3 (R489), 512 registers 0x20 apart. -/
def netHostAddr3 : Nat := 0x16100c

/-- NET_HOST_CTL (R489), 512 registers 0x20 apart. -/
def netHostCtl : Nat := 0x161010

/-- MNT_CAUSE (R493). -/
def mntCause : Nat := 0x170000

/-- MNT_CAUSE_MASK (R556). -/
def mntCauseMask : Nat := 0x170004

/-- MNT_RCP_LOADED (R491), 2 registers 0x4 apart. -/
def mntRcpLoaded : Nat := 0x170010

/-- MNT_LANE_OPEN (R491), 16 registers 0x4 apart. -/
def mntLaneOpen : Nat := 0x170040

/-- MNT_LANE_STATUS (R492), 16 registers 0x4 apart. -/
def mntLaneStatus : Nat := 0x170080

/-- XFR_CAUSE (R378). -/
def xfrCause : Nat := 0x180000

/-- XFR_CAUSE_MASK (R556). -/
def xfrCauseMask : Nat := 0x180004

/-- XFR_CHAIN_CAUSE (R378). -/
def xfrChainCause : Nat := 0x180008

/-- XFR_CHAIN_CAUSE_MASK (R556). -/
def xfrChainCauseMask : Nat := 0x18000c

/-- XFR_CTX_SEL (R376). -/
def xfrCtxSel : Nat := 0x180010

/-- XFR_CTX_STATUS (R376). -/
def xfrCtxStatus : Nat := 0x180014

/-- XFR_CTX_ERR_ADDR (R376), 2 registers 0x4 apart. -/
def xfrCtxErrAddr : Nat := 0x180018

/-- XFR_CTX_ERR_SEQ (R376). -/
def xfrCtxErrSeq : Nat := 0x180020

/-- XFR_CTX_CTL (R376). -/
def xfrCtxCtl : Nat := 0x180024

/-- XFR_CTX_HALTED (R376), 64 registers 0x4 apart. -/
def xfrCtxHalted : Nat := 0x180100

/-- XFR_CH_CTL (R377), 8 registers 0x100 apart. -/
def xfrChCtl : Nat := 0x181000

/-- XFR_CH_STATUS (R377), 8 registers 0x100 apart. -/
def xfrChStatus : Nat := 0x181004

/-- XFR_CH_HEAD_LO (R377), 8 registers 0x100 apart. -/
def xfrChHeadLo : Nat := 0x181008

/-- XFR_CH_HEAD_HI (R377), 8 registers 0x100 apart. -/
def xfrChHeadHi : Nat := 0x18100c

/-- XFR_CH_APPEND (R377), 8 registers 0x100 apart. -/
def xfrChAppend : Nat := 0x181010

/-- XFR_CH_CONSUMED (R377), 8 registers 0x100 apart. -/
def xfrChConsumed : Nat := 0x181014

/-- XFR_CH_TAIL_LO (R377), 8 registers 0x100 apart. -/
def xfrChTailLo : Nat := 0x181018

/-- XFR_CH_TAIL_HI (R377), 8 registers 0x100 apart. -/
def xfrChTailHi : Nat := 0x18101c

/-- XFR_CH_CQ_BASE_LO (R377), 8 registers 0x100 apart. -/
def xfrChCqBaseLo : Nat := 0x181020

/-- XFR_CH_CQ_BASE_HI (R377), 8 registers 0x100 apart. -/
def xfrChCqBaseHi : Nat := 0x181024

/-- XFR_CH_CQ_HEAD (R377), 8 registers 0x100 apart. -/
def xfrChCqHead : Nat := 0x181028

/-- XFR_CH_CQ_TAIL (R377), 8 registers 0x100 apart. -/
def xfrChCqTail : Nat := 0x18102c

/-- XFR_CH_ERR_DESC_LO (R377), 8 registers 0x100 apart. -/
def xfrChErrDescLo : Nat := 0x181030

/-- XFR_CH_ERR_DESC_HI (R377), 8 registers 0x100 apart. -/
def xfrChErrDescHi : Nat := 0x181034

/-- XFR_CH_ERR_ADDR_LO (R377), 8 registers 0x100 apart. -/
def xfrChErrAddrLo : Nat := 0x181038

/-- XFR_CH_ERR_ADDR_HI (R377), 8 registers 0x100 apart. -/
def xfrChErrAddrHi : Nat := 0x18103c

/-- XFR_CH_ERR_DONE (R377), 8 registers 0x100 apart. -/
def xfrChErrDone : Nat := 0x181040

/-- ACT_CAUSE (R352). -/
def actCause : Nat := 0x200000

/-- ACT_CAUSE_MASK (R556). -/
def actCauseMask : Nat := 0x200004

/-- ACT_BIND_RESULT (R350). -/
def actBindResult : Nat := 0x200010

/-- ACT_QSLICE (R350). -/
def actQslice : Nat := 0x200020

/-- ACT_DLOG_BASE_LO (R351). -/
def actDlogBaseLo : Nat := 0x200030

/-- ACT_DLOG_BASE_HI (R351). -/
def actDlogBaseHi : Nat := 0x200034

/-- ACT_DLOG_CTL (R351). -/
def actDlogCtl : Nat := 0x200038

/-- ACT_DLOG_HEAD (R351). -/
def actDlogHead : Nat := 0x20003c

/-- ACT_DLOG_TAIL (R351). -/
def actDlogTail : Nat := 0x200040

/-- ACT_SLICE_CTL (R350), 64 registers 0x4 apart. -/
def actSliceCtl : Nat := 0x200100

/-- ACT_STATE (R349), 2048 registers 0x100 apart. -/
def actState : Nat := 0x800000

/-- ACT_CREDIT_RD (R193), 2112 registers 0x100 apart. -/
def actCreditRd : Nat := 0x800010

/-- ACT_CREDIT_WR (R193), 2112 registers 0x100 apart. -/
def actCreditWr : Nat := 0x800014

/-- ACT_CREDIT_BYTE (R193), 2112 registers 0x100 apart. -/
def actCreditByte : Nat := 0x800018

/-- ACT_EXTWAIT_MAX (R156), 2048 registers 0x100 apart. -/
def actExtwaitMax : Nat := 0x800020

/-- ACT_EXTWAIT_CNT (R156), 2048 registers 0x100 apart. -/
def actExtwaitCnt : Nat := 0x800024

/-- ACT_EXTWAIT_THR (R156), 2048 registers 0x100 apart. -/
def actExtwaitThr : Nat := 0x800028

/-- ACT_EXTWAIT_CTL (R156), 2048 registers 0x100 apart. -/
def actExtwaitCtl : Nat := 0x80002c

end Reg

/-- Listings of R572 to R575 and R564, part 1. -/
def regRows1 : List RegRow := [
  ⟨Reg.aonPartId, 1, 0x4, .aon, .both, 0x0, 0x0, 0x0, 0x49000b1⟩,
  ⟨Reg.aonFwRelease, 1, 0x4, .aon, .both, 0x0, 0x0, 0x0, 0x0⟩,
  ⟨Reg.aonSerial, 4, 0x4, .aon, .both, 0x0, 0x0, 0x0, 0x0⟩,
  ⟨Reg.aonMode, 1, 0x4, .aon, .both, 0x0, 0x0, 0x0, 0x1⟩,
  ⟨Reg.aonStrap, 1, 0x4, .aon, .both, 0x0, 0x0, 0x0, 0x0⟩,
  ⟨Reg.aonStartCause, 1, 0x4, .aon, .both, 0x0, 0x3ff, 0x0, 0x0⟩,
  ⟨Reg.aonStartCauseMask, 1, 0x4, .aon, .both, 0xffffffff, 0x0, 0x0, 0x0⟩,
  ⟨Reg.aonBoardCause, 1, 0x4, .aon, .both, 0x0, 0x1f, 0x0, 0x0⟩,
  ⟨Reg.aonBoardCauseMask, 1, 0x4, .aon, .both, 0xffffffff, 0x0, 0x0, 0x0⟩,
  ⟨Reg.aonPhaseTime, 4, 0x4, .aon, .both, 0x0, 0x0, 0x0, 0x0⟩,
  ⟨Reg.topSummary, 1, 0x4, .aon, .both, 0x0, 0x0, 0x0, 0x0⟩,
  ⟨Reg.mgtAlertMask, 1, 0x4, .aon, .both, 0x7ff, 0x0, 0x0, 0x0⟩,
  ⟨Reg.mgtMsixMask, 1, 0x4, .aon, .both, 0x7ff, 0x0, 0x0, 0x7ff⟩,
  ⟨Reg.mgtMsixCtl, 1, 0x4, .aon, .both, 0x7ff, 0x0, 0x0, 0x0⟩,
  ⟨Reg.mgtGroup, 11, 0x4, .aon, .both, 0x0, 0x0, 0x0, 0x0⟩,
  ⟨Reg.mgtCause, 1, 0x4, .mgt, .both, 0x0, 0x5f, 0x0, 0x0⟩,
  ⟨Reg.mgtCauseMask, 1, 0x4, .mgt, .both, 0xffffffff, 0x0, 0x0, 0x20⟩,
  ⟨Reg.mgtI3cStatus, 1, 0x4, .aon, .mgmt, 0x0, 0x400, 0x0, 0x0⟩,
  ⟨Reg.mgtPidLo, 1, 0x4, .aon, .mgmt, 0x0, 0x0, 0x0, 0x0⟩,
  ⟨Reg.mgtPidHi, 1, 0x4, .aon, .mgmt, 0x0, 0x0, 0x0, 0x98a⟩,
  ⟨Reg.mgtWdogKick, 1, 0x4, .aon, .mgmt, 0x0, 0x0, 0xffff, 0x0⟩,
  ⟨Reg.mgtWdogStatus, 1, 0x4, .aon, .mgmt, 0x0, 0x0, 0x0, 0x10000⟩,
  ⟨Reg.mgtDramWin, 1, 0x4, .mgt, .mgmt, 0x1f, 0x0, 0x0, 0x0⟩,
  ⟨Reg.mgtChallenge, 8, 0x4, .mgt, .both, 0x0, 0x0, 0x0, 0x0⟩,
  ⟨Reg.mgtChallengeCtl, 1, 0x4, .mgt, .both, 0x0, 0x0, 0x1, 0x0⟩,
  ⟨Reg.evtStatus, 1, 0x4, .mgt, .both, 0x0, 0x0, 0x0, 0x0⟩]

/-- Listings of R572 to R575 and R564, part 2. -/
def regRows2 : List RegRow := [
  ⟨Reg.evtEpoch, 1, 0x4, .mgt, .both, 0x0, 0x0, 0x0, 0x0⟩,
  ⟨Reg.evtLost, 1, 0x4, .mgt, .both, 0x0, 0x0, 0x0, 0x0⟩,
  ⟨Reg.evtCause, 1, 0x4, .mgt, .both, 0x0, 0xf, 0x0, 0x0⟩,
  ⟨Reg.evtCauseMask, 1, 0x4, .mgt, .both, 0xffffffff, 0x0, 0x0, 0x0⟩,
  ⟨Reg.evtRdSel, 1, 0x4, .mgt, .both, 0x7fff, 0x0, 0x0, 0x0⟩,
  ⟨Reg.evtRdData, 16, 0x4, .mgt, .both, 0x0, 0x0, 0x0, 0x0⟩,
  ⟨Reg.norOpAddr, 1, 0x4, .aon, .mgmt, 0x7ffffff, 0x0, 0x0, 0x0⟩,
  ⟨Reg.norOpSrc, 1, 0x4, .aon, .mgmt, 0xffffffff, 0x0, 0x0, 0x0⟩,
  ⟨Reg.norOpCmd, 1, 0x4, .aon, .mgmt, 0x0, 0x0, 0x1ff03, 0x0⟩,
  ⟨Reg.norOpStatus, 1, 0x4, .aon, .mgmt, 0x0, 0x2, 0x0, 0x0⟩,
  ⟨Reg.xipGuard, 1, 0x4, .aon, .mgmt, 0x1, 0x0, 0x0, 0x0⟩,
  ⟨Reg.norCause, 1, 0x4, .aon, .both, 0x0, 0xff, 0x0, 0x0⟩,
  ⟨Reg.norCauseMask, 1, 0x4, .aon, .both, 0xffffffff, 0x0, 0x0, 0x0⟩,
  ⟨Reg.norSlotStatus, 1, 0x4, .aon, .pfRead, 0x0, 0x0, 0x0, 0x0⟩,
  ⟨Reg.norSlotSeq, 2, 0x4, .aon, .pfRead, 0x0, 0x0, 0x0, 0x0⟩,
  ⟨Reg.lastWake, 1, 0x4, .aon, .both, 0x0, 0x0, 0x0, 0x0⟩,
  ⟨Reg.pwrWakeTick, 2, 0x4, .aon, .both, 0x0, 0x0, 0x0, 0x0⟩,
  ⟨Reg.pwrWakeRtc, 1, 0x4, .aon, .both, 0x0, 0x0, 0x0, 0x0⟩,
  ⟨Reg.pwrWakeEn, 1, 0x4, .aon, .both, 0x7e, 0x0, 0x0, 0x22⟩,
  ⟨Reg.pwrAlarm, 1, 0x4, .aon, .both, 0xffffffff, 0x0, 0x0, 0xffffffff⟩,
  ⟨Reg.pwrRtc, 1, 0x4, .aon, .both, 0x0, 0x0, 0x0, 0x0⟩,
  ⟨Reg.pwrTime, 2, 0x4, .aon, .both, 0x0, 0x0, 0x0, 0x0⟩,
  ⟨Reg.pwrTimeStat, 1, 0x4, .aon, .both, 0x0, 0x0, 0x0, 0x40⟩,
  ⟨Reg.pwrPoh, 1, 0x4, .aon, .both, 0x0, 0x0, 0x0, 0x0⟩,
  ⟨Reg.pwrWear, 1, 0x4, .aon, .both, 0x0, 0x0, 0x0, 0x100000⟩,
  ⟨Reg.pwrCause, 1, 0x4, .ldg, .both, 0x0, 0x1f, 0x0, 0x0⟩]

/-- Listings of R572 to R575 and R564, part 3. -/
def regRows3 : List RegRow := [
  ⟨Reg.pwrCauseMask, 1, 0x4, .ldg, .both, 0xffffffff, 0x0, 0x0, 0x0⟩,
  ⟨Reg.pwrRsvCover, 1, 0x4, .ldg, .both, 0x0, 0x0, 0x0, 0x0⟩,
  ⟨Reg.pwrRsvLimits, 1, 0x4, .ldg, .both, 0x0, 0x0, 0x0, 0x0⟩,
  ⟨Reg.pwrRsvSeg, 8, 0x4, .ldg, .both, 0x0, 0x0, 0x0, 0x0⟩,
  ⟨Reg.pwrRsvCause, 1, 0x4, .ldg, .both, 0x0, 0xf, 0x0, 0x0⟩,
  ⟨Reg.pwrRsvCauseMask, 1, 0x4, .ldg, .both, 0xffffffff, 0x0, 0x0, 0x0⟩,
  ⟨Reg.thmSensor, 16, 0x4, .ldg, .both, 0x0, 0x0, 0x0, 0x0⟩,
  ⟨Reg.thmStatus, 1, 0x4, .ldg, .both, 0x0, 0x0, 0x0, 0x0⟩,
  ⟨Reg.thmCause, 1, 0x4, .ldg, .both, 0x0, 0x1f, 0x0, 0x0⟩,
  ⟨Reg.thmCauseMask, 1, 0x4, .ldg, .both, 0xffffffff, 0x0, 0x0, 0x0⟩,
  ⟨Reg.loopCtl, 4, 0x100, .ldg, .mgmt, 0x1, 0x0, 0x0, 0x0⟩,
  ⟨Reg.loopSetpoint, 4, 0x100, .ldg, .mgmt, 0xffff, 0x0, 0x0, 0x0⟩,
  ⟨Reg.loopCoef0, 4, 0x100, .ldg, .mgmt, 0xffffffff, 0x0, 0x0, 0x0⟩,
  ⟨Reg.loopCoef1, 4, 0x100, .ldg, .mgmt, 0xffff, 0x0, 0x0, 0x0⟩,
  ⟨Reg.loopStatus, 4, 0x100, .ldg, .mgmt, 0x0, 0x0, 0x0, 0x0⟩,
  ⟨Reg.loopCause, 1, 0x4, .ldg, .both, 0x0, 0xfff, 0x0, 0x0⟩,
  ⟨Reg.loopCauseMask, 1, 0x4, .ldg, .both, 0xffffffff, 0x0, 0x0, 0x0⟩,
  ⟨Reg.ldgTick, 2, 0x4, .ldg, .both, 0x0, 0x0, 0x0, 0x0⟩,
  ⟨Reg.ldgFolio, 1, 0x4, .ldg, .both, 0x0, 0x0, 0x0, 0x0⟩,
  ⟨Reg.ldgPhase, 1, 0x4, .ldg, .both, 0x0, 0x0, 0x0, 0x0⟩,
  ⟨Reg.ldgPlanReq, 1, 0x4, .ldg, .pfRead, 0xf, 0x0, 0x0, 0x0⟩,
  ⟨Reg.ldgPlanCur, 1, 0x4, .ldg, .both, 0x0, 0x0, 0x0, 0x0⟩,
  ⟨Reg.ldgMediaExc, 1, 0x4, .ldg, .both, 0x0, 0xf, 0x0, 0x0⟩,
  ⟨Reg.ldgMediaExcMask, 1, 0x4, .ldg, .both, 0xffffffff, 0x0, 0x0, 0x0⟩,
  ⟨Reg.ldgExcInfo, 1, 0x4, .ldg, .both, 0x0, 0x0, 0x0, 0x0⟩,
  ⟨Reg.ldgPlanCause, 1, 0x4, .ldg, .both, 0x0, 0x3, 0x0, 0x0⟩]

/-- Listings of R572 to R575 and R564, part 4. -/
def regRows4 : List RegRow := [
  ⟨Reg.ldgPlanCauseMask, 1, 0x4, .ldg, .both, 0xffffffff, 0x0, 0x0, 0x0⟩,
  ⟨Reg.ldgVarStatus, 16, 0x4, .ldg, .both, 0x0, 0x0, 0x0, 0x0⟩,
  ⟨Reg.ldgVarWhere, 16, 0x4, .ldg, .both, 0x0, 0x0, 0x0, 0x0⟩,
  ⟨Reg.ldgTraceCtl, 1, 0x4, .ldg, .both, 0x3fff7ffd, 0x2, 0x0, 0x0⟩,
  ⟨Reg.ldgTraceInfo, 1, 0x4, .ldg, .both, 0x0, 0x0, 0x0, 0x0⟩,
  ⟨Reg.ldgTraceSeq, 1, 0x4, .ldg, .both, 0x0, 0x0, 0x0, 0x0⟩,
  ⟨Reg.ldgTraceExt, 1, 0x4, .ldg, .both, 0x0, 0x0, 0x0, 0x0⟩,
  ⟨Reg.ldgTraceStamp0, 1, 0x4, .ldg, .both, 0x0, 0x0, 0x0, 0x0⟩,
  ⟨Reg.ldgTraceStamp, 15, 0x4, .ldg, .both, 0x0, 0x0, 0x0, 0xffffffff⟩,
  ⟨Reg.medZoneLimits, 1, 0x4, .mdp, .both, 0x0, 0x0, 0x0, 0x0⟩,
  ⟨Reg.medZoneExport, 1, 0x4, .mdp, .both, 0x0, 0x0, 0x0, 0x0⟩,
  ⟨Reg.medSlcLimit, 1, 0x4, .mdp, .both, 0x0, 0x0, 0x0, 0x0⟩,
  ⟨Reg.medSlcLent, 1, 0x4, .mdp, .both, 0x0, 0x0, 0x0, 0x0⟩,
  ⟨Reg.medSlcStreams, 1, 0x4, .mdp, .both, 0x0, 0x0, 0x0, 0x0⟩,
  ⟨Reg.medZoneCause, 1, 0x4, .mdp, .both, 0x0, 0x3f, 0x0, 0x0⟩,
  ⟨Reg.medZoneCauseMask, 1, 0x4, .mdp, .both, 0xffffffff, 0x0, 0x0, 0x0⟩,
  ⟨Reg.medIntegCause, 1, 0x4, .mdp, .both, 0x0, 0x2ff, 0x0, 0x0⟩,
  ⟨Reg.medIntegCauseMask, 1, 0x4, .mdp, .both, 0xffffffff, 0x0, 0x0, 0x0⟩,
  ⟨Reg.medSpare, 1, 0x4, .mdp, .both, 0x0, 0x0, 0x0, 0x15e⟩,
  ⟨Reg.medTally, 1, 0x4, .mdp, .both, 0x0, 0x0, 0x0, 0x0⟩,
  ⟨Reg.medRetryL1, 1, 0x4, .mdp, .both, 0x0, 0x0, 0x0, 0x0⟩,
  ⟨Reg.medRetryL2, 1, 0x4, .mdp, .both, 0x0, 0x0, 0x0, 0x0⟩,
  ⟨Reg.medRetryL3, 1, 0x4, .mdp, .both, 0x0, 0x0, 0x0, 0x0⟩,
  ⟨Reg.medUncorr, 1, 0x4, .mdp, .both, 0x0, 0x0, 0x0, 0x0⟩,
  ⟨Reg.medZqSel, 1, 0x4, .mdp, .both, 0x3fffff, 0x0, 0x0, 0x0⟩,
  ⟨Reg.medZqState, 1, 0x4, .mdp, .both, 0x0, 0x0, 0x0, 0x0⟩]

/-- Listings of R572 to R575 and R564, part 5. -/
def regRows5 : List RegRow := [
  ⟨Reg.medZqFinish, 1, 0x4, .mdp, .both, 0x0, 0x0, 0x0, 0x80000⟩,
  ⟨Reg.medZqSlot, 1, 0x4, .mdp, .both, 0x0, 0x0, 0x0, 0x0⟩,
  ⟨Reg.medZqSlc, 1, 0x4, .mdp, .both, 0x0, 0x0, 0x0, 0x0⟩,
  ⟨Reg.medDieFail, 32, 0x4, .mdp, .both, 0x0, 0x0, 0x0, 0x0⟩,
  ⟨Reg.medChTrain, 32, 0x4, .mdp, .both, 0x0, 0x0, 0x0, 0x0⟩,
  ⟨Reg.hstOrderCause, 1, 0x4, .hst, .both, 0x0, 0x7, 0x0, 0x0⟩,
  ⟨Reg.hstOrderCauseMask, 1, 0x4, .hst, .both, 0xffffffff, 0x0, 0x0, 0x0⟩,
  ⟨Reg.hstLockStatus, 1, 0x4, .hst, .both, 0x0, 0x0, 0x0, 0x0⟩,
  ⟨Reg.hstDbStatus, 1, 0x4, .hst, .both, 0x0, 0x0, 0x0, 0x0⟩,
  ⟨Reg.hstDbUndeliv, 1, 0x4, .hst, .both, 0x0, 0x0, 0x0, 0x0⟩,
  ⟨Reg.hstDbCause, 1, 0x4, .hst, .both, 0x0, 0x1f, 0x0, 0x0⟩,
  ⟨Reg.hstDbCauseMask, 1, 0x4, .hst, .both, 0xffffffff, 0x0, 0x0, 0x0⟩,
  ⟨Reg.memCause, 1, 0x4, .mem, .both, 0x0, 0x7f, 0x0, 0x0⟩,
  ⟨Reg.memCauseMask, 1, 0x4, .mem, .both, 0xffffffff, 0x0, 0x0, 0x0⟩,
  ⟨Reg.memErrAddr, 2, 0x4, .mem, .both, 0x0, 0x0, 0x0, 0x0⟩,
  ⟨Reg.memErrInfo, 1, 0x4, .mem, .both, 0x0, 0x0, 0x0, 0x0⟩,
  ⟨Reg.memScrubCtl, 1, 0x4, .mem, .both, 0xff, 0x0, 0x0, 0xc⟩,
  ⟨Reg.memScrubStatus, 1, 0x4, .mem, .both, 0x0, 0x0, 0x0, 0x0⟩,
  ⟨Reg.memWbufStatus, 1, 0x4, .mem, .both, 0x0, 0x0, 0x0, 0x0⟩,
  ⟨Reg.memCbtCtl, 1, 0x4, .mem, .mgmt, 0x3, 0x0, 0x0, 0x0⟩,
  ⟨Reg.memCbtCheck, 4, 0x4, .mem, .mgmt, 0xffffffff, 0x0, 0x0, 0x0⟩,
  ⟨Reg.memDevCe, 40, 0x4, .mem, .both, 0x0, 0x0, 0x0, 0x0⟩,
  ⟨Reg.memTrainResult, 80, 0x4, .mem, .both, 0x0, 0x0, 0x0, 0x0⟩,
  ⟨Reg.srmCause, 1, 0x4, .mem, .both, 0x0, 0x7f, 0x0, 0x0⟩,
  ⟨Reg.srmCauseMask, 1, 0x4, .mem, .both, 0xffffffff, 0x0, 0x0, 0x0⟩,
  ⟨Reg.srmPwrState, 1, 0x4, .mem, .both, 0x0, 0x0, 0x0, 0x0⟩]

/-- Listings of R572 to R575 and R564, part 6. -/
def regRows6 : List RegRow := [
  ⟨Reg.srmErrInfo, 1, 0x4, .mem, .both, 0x0, 0x0, 0x0, 0x0⟩,
  ⟨Reg.srmRepair, 1, 0x4, .mem, .both, 0x0, 0x0, 0x0, 0x0⟩,
  ⟨Reg.srmConflictClr, 1, 0x4, .mem, .both, 0x0, 0x0, 0x1, 0x0⟩,
  ⟨Reg.srmConflict, 20, 0x4, .mem, .both, 0x0, 0x0, 0x0, 0x0⟩,
  ⟨Reg.cryCause, 1, 0x4, .cry, .both, 0x0, 0x1f, 0x0, 0x0⟩,
  ⟨Reg.cryCauseMask, 1, 0x4, .cry, .both, 0xffffffff, 0x0, 0x0, 0x0⟩,
  ⟨Reg.cryKmLock, 1, 0x4, .cry, .both, 0x0, 0x0, 0x18, 0x7⟩,
  ⟨Reg.cryKmCmd, 1, 0x4, .cry, .both, 0x0, 0x0, 0x7fff, 0x0⟩,
  ⟨Reg.cryKmStatus, 1, 0x4, .cry, .both, 0x0, 0x2, 0x0, 0x0⟩,
  ⟨Reg.cryKmData, 18, 0x4, .cry, .both, 0xffffffff, 0x0, 0x0, 0x0⟩,
  ⟨Reg.crySlotSel, 1, 0x4, .cry, .both, 0xfff, 0x0, 0x0, 0x0⟩,
  ⟨Reg.crySlotInfo, 1, 0x4, .cry, .both, 0x0, 0x0, 0x0, 0x0⟩,
  ⟨Reg.cryLifecycle, 1, 0x4, .cry, .both, 0x0, 0x0, 0x0, 0x0⟩,
  ⟨Reg.netPortStatus, 2, 0x4, .net, .both, 0x0, 0x0, 0x0, 0x0⟩,
  ⟨Reg.netPortFecCorr, 2, 0x8, .net, .both, 0x0, 0x0, 0x0, 0x0⟩,
  ⟨Reg.netPortFecUncorr, 2, 0x8, .net, .both, 0x0, 0x0, 0x0, 0x0⟩,
  ⟨Reg.netCause, 1, 0x4, .net, .both, 0x0, 0x1f, 0x0, 0x0⟩,
  ⟨Reg.netCauseMask, 1, 0x4, .net, .both, 0xffffffff, 0x0, 0x0, 0x0⟩,
  ⟨Reg.netWakeToken, 2, 0x4, .net, .both, 0xffffffff, 0x0, 0x0, 0x0⟩,
  ⟨Reg.netHostAddr0, 512, 0x20, .net, .both, 0xffffffff, 0x0, 0x0, 0x0⟩,
  ⟨Reg.netHostAddr1, 512, 0x20, .net, .both, 0xffffffff, 0x0, 0x0, 0x0⟩,
  ⟨Reg.netHostAddr2, 512, 0x20, .net, .both, 0xffffffff, 0x0, 0x0, 0x0⟩,
  ⟨Reg.netHostAddr3, 512, 0x20, .net, .both, 0xffffffff, 0x0, 0x0, 0x0⟩,
  ⟨Reg.netHostCtl, 512, 0x20, .net, .both, 0x3fff, 0x0, 0x0, 0x0⟩,
  ⟨Reg.mntCause, 1, 0x4, .mnt, .both, 0x0, 0xf, 0x0, 0x0⟩,
  ⟨Reg.mntCauseMask, 1, 0x4, .mnt, .both, 0xffffffff, 0x0, 0x0, 0x0⟩]

/-- Listings of R572 to R575 and R564, part 7. -/
def regRows7 : List RegRow := [
  ⟨Reg.mntRcpLoaded, 2, 0x4, .mnt, .both, 0x0, 0x0, 0x0, 0x0⟩,
  ⟨Reg.mntLaneOpen, 16, 0x4, .mnt, .both, 0x0, 0x0, 0x0, 0x0⟩,
  ⟨Reg.mntLaneStatus, 16, 0x4, .mnt, .both, 0x0, 0x0, 0x0, 0x0⟩,
  ⟨Reg.xfrCause, 1, 0x4, .xfr, .both, 0x0, 0x1, 0x0, 0x0⟩,
  ⟨Reg.xfrCauseMask, 1, 0x4, .xfr, .both, 0xffffffff, 0x0, 0x0, 0x0⟩,
  ⟨Reg.xfrChainCause, 1, 0x4, .xfr, .both, 0x0, 0xffff, 0x0, 0x0⟩,
  ⟨Reg.xfrChainCauseMask, 1, 0x4, .xfr, .both, 0xffffffff, 0x0, 0x0, 0x0⟩,
  ⟨Reg.xfrCtxSel, 1, 0x4, .xfr, .both, 0x7ff, 0x0, 0x0, 0x0⟩,
  ⟨Reg.xfrCtxStatus, 1, 0x4, .xfr, .both, 0x0, 0x0, 0x0, 0x0⟩,
  ⟨Reg.xfrCtxErrAddr, 2, 0x4, .xfr, .both, 0x0, 0x0, 0x0, 0x0⟩,
  ⟨Reg.xfrCtxErrSeq, 1, 0x4, .xfr, .both, 0x0, 0x0, 0x0, 0x0⟩,
  ⟨Reg.xfrCtxCtl, 1, 0x4, .xfr, .both, 0x0, 0x0, 0x3, 0x0⟩,
  ⟨Reg.xfrCtxHalted, 64, 0x4, .xfr, .both, 0x0, 0x0, 0x0, 0x0⟩,
  ⟨Reg.xfrChCtl, 8, 0x100, .xfr, .chain, 0x1ff1, 0x0, 0xe, 0x800⟩,
  ⟨Reg.xfrChStatus, 8, 0x100, .xfr, .chain, 0x0, 0x0, 0x0, 0x0⟩,
  ⟨Reg.xfrChHeadLo, 8, 0x100, .xfr, .chain, 0xffffffc0, 0x0, 0x0, 0x0⟩,
  ⟨Reg.xfrChHeadHi, 8, 0x100, .xfr, .chain, 0xffffffff, 0x0, 0x0, 0x0⟩,
  ⟨Reg.xfrChAppend, 8, 0x100, .xfr, .chain, 0xffffffff, 0x0, 0x0, 0x0⟩,
  ⟨Reg.xfrChConsumed, 8, 0x100, .xfr, .chain, 0x0, 0x0, 0x0, 0x0⟩,
  ⟨Reg.xfrChTailLo, 8, 0x100, .xfr, .chain, 0x0, 0x0, 0x0, 0x0⟩,
  ⟨Reg.xfrChTailHi, 8, 0x100, .xfr, .chain, 0x0, 0x0, 0x0, 0x0⟩,
  ⟨Reg.xfrChCqBaseLo, 8, 0x100, .xfr, .chain, 0xfffff000, 0x0, 0x0, 0x0⟩,
  ⟨Reg.xfrChCqBaseHi, 8, 0x100, .xfr, .chain, 0xffffffff, 0x0, 0x0, 0x0⟩,
  ⟨Reg.xfrChCqHead, 8, 0x100, .xfr, .chain, 0xffff, 0x0, 0x0, 0x0⟩,
  ⟨Reg.xfrChCqTail, 8, 0x100, .xfr, .chain, 0x0, 0x0, 0x0, 0x0⟩,
  ⟨Reg.xfrChErrDescLo, 8, 0x100, .xfr, .chain, 0x0, 0x0, 0x0, 0x0⟩]

/-- Listings of R572 to R575 and R564, part 8. -/
def regRows8 : List RegRow := [
  ⟨Reg.xfrChErrDescHi, 8, 0x100, .xfr, .chain, 0x0, 0x0, 0x0, 0x0⟩,
  ⟨Reg.xfrChErrAddrLo, 8, 0x100, .xfr, .chain, 0x0, 0x0, 0x0, 0x0⟩,
  ⟨Reg.xfrChErrAddrHi, 8, 0x100, .xfr, .chain, 0x0, 0x0, 0x0, 0x0⟩,
  ⟨Reg.xfrChErrDone, 8, 0x100, .xfr, .chain, 0x0, 0x0, 0x0, 0x0⟩,
  ⟨Reg.actCause, 1, 0x4, .hst, .both, 0x0, 0x7f, 0x0, 0x0⟩,
  ⟨Reg.actCauseMask, 1, 0x4, .hst, .both, 0xffffffff, 0x0, 0x0, 0x0⟩,
  ⟨Reg.actBindResult, 1, 0x4, .hst, .both, 0x0, 0x0, 0x0, 0x0⟩,
  ⟨Reg.actQslice, 1, 0x4, .hst, .both, 0x1fffff, 0x0, 0x200000, 0x0⟩,
  ⟨Reg.actDlogBaseLo, 1, 0x4, .hst, .both, 0xfffff000, 0x0, 0x0, 0x0⟩,
  ⟨Reg.actDlogBaseHi, 1, 0x4, .hst, .both, 0xffffffff, 0x0, 0x0, 0x0⟩,
  ⟨Reg.actDlogCtl, 1, 0x4, .hst, .both, 0x3f, 0x0, 0x0, 0x18⟩,
  ⟨Reg.actDlogHead, 1, 0x4, .hst, .both, 0xffffff, 0x0, 0x0, 0x0⟩,
  ⟨Reg.actDlogTail, 1, 0x4, .hst, .both, 0x0, 0x0, 0x0, 0x0⟩,
  ⟨Reg.actSliceCtl, 64, 0x4, .hst, .both, 0x1ffffff, 0x0, 0x0, 0x0⟩,
  ⟨Reg.actState, 2048, 0x100, .hst, .both, 0x0, 0x0, 0x0, 0x0⟩,
  ⟨Reg.actCreditRd, 2112, 0x100, .ldg, .both, 0x0, 0x0, 0x0, 0x0⟩,
  ⟨Reg.actCreditWr, 2112, 0x100, .ldg, .both, 0x0, 0x0, 0x0, 0x0⟩,
  ⟨Reg.actCreditByte, 2112, 0x100, .ldg, .both, 0x0, 0x0, 0x0, 0x0⟩,
  ⟨Reg.actExtwaitMax, 2048, 0x100, .hst, .both, 0x0, 0x0, 0x0, 0x0⟩,
  ⟨Reg.actExtwaitCnt, 2048, 0x100, .hst, .both, 0x0, 0x0, 0x0, 0x0⟩,
  ⟨Reg.actExtwaitThr, 2048, 0x100, .hst, .both, 0xffffffff, 0x0, 0x0, 0x10000⟩,
  ⟨Reg.actExtwaitCtl, 2048, 0x100, .hst, .both, 0x0, 0x0, 0x1, 0x0⟩]

/-- Every listing of the register space (R572 to R575, R564). -/
def regRows : List RegRow :=
  regRows1 ++ regRows2 ++ regRows3 ++ regRows4 ++ regRows5 ++ regRows6 ++ regRows7 ++ regRows8

/-- The listing names the register at this offset. -/
def RegRow.covers (r : RegRow) (o : Nat) : Bool :=
  decide (r.off ≤ o) && decide ((o - r.off) % r.stride = 0) && decide ((o - r.off) / r.stride < r.count)

/-- The listing of the register at an offset, if any names it. -/
def regRow (o : Nat) : Option RegRow := regRows.find? (fun r => r.covers o)

/-- The reset word of the register at an offset: 0 where no listing names it (R565). -/
def regReset (o : Nat) : BitVec 32 :=
  match regRow o with
  | some r => r.reset
  | none => 0

/-- The island that holds the register at an offset (R590). -/
def regIsland (o : Nat) : Option Island := (regRow o).map (·.island)

end Sys2Proof.Machine
end

