-- ==== Sys2Proof/Machine/State.lean ====
section
/-!
DEFINITION. The state of the block as plain data: the registers, and for everything the manual gives the part that is
not a register word, a structure for each of its sides, the queue of waiting commands, and the state after reset.
Replicated things are lists of (key, record) pairs in one canonical form: keys strictly rising, no record equal to the
one that an unlisted key stands for (Machine/Ops.lean).
-/
namespace Sys2Proof.Machine

/-! ## Stops -/

/-- Why a command could stop the block. No meaning of this model stops: a bus fault, a machine check or a decode error
that the manual describes (R17, R19, R33, R110) is state of the block. -/
inductive Fault where
  /-- Raised by no meaning; the type must not be empty for an outcome to be written. Safe: nothing ends in it. -/
  | machineCheck
deriving DecidableEq, Repr

/-- Why the model has no meaning for a command. -/
inductive Refusal where
  /-- Raised by an arm of `exec` whose command has no meaning yet. Safe: the run stops there. -/
  | notModelled (mnemonic : String)
deriving DecidableEq, Repr

/-! ## Pins, power and start-up (spec 02, 03, 17) -/

/-- The pins the manual gives a rule for. Inputs as last seen, outputs as driven. -/
structure Pins where
  porN : Bool := false
  pwrGood : Bool := false
  plossN : Bool := false
  perstN : Bool := false
  /-- CLKREQ_N as the device drives it: false while released (R497). -/
  clkreqLow : Bool := false
  pwrHold : Bool := false
  /-- ALERT_N: true while released. -/
  alertN : Bool := true
  segTest : BitVec 8 := 0
  ddrResetN : Bool := false
  /-- VREF_OUT in mV; none while high-impedance (R53). -/
  vrefOut : Option Nat := none
  /-- FLIO_REF_OUT in mV; none while high-impedance (R53). -/
  flioOut : Option Nat := none
  /-- CHG_PWM duty in ticks of 1,000 (R52). -/
  chgPwm : Nat := 0
  spareOut : Nat := 0
  /-- Loops 0 and 2 have closed since POR_N was last asserted, so that their outputs drive whenever LDG is powered (R53). -/
  vrefOnce : Bool := false
  flioOnce : Bool := false
deriving DecidableEq, Repr

/-- How OFF was entered, which decides how it ends (R79). -/
inductive OffReason where
  | por | ploss | thermal
deriving DecidableEq, Repr

/-- The DDR5 part of FILL (R84 step 3). -/
inductive DramFill where
  | sweeping | filling | done
deriving DecidableEq, Repr

/-- Progress of start-up (R82 to R95). -/
structure Boot where
  offReason : OffReason := .por
  /-- The 2 µs qualification of a low PLOSS_N is running (R50). -/
  plossFalling : Bool := false
  /-- The tick at which PLOSS_N was last released (R520). -/
  plossUp : Nat := 0
  /-- PLOSS_N as the device takes it: a low has registered and PLOSS_N has not returned high (R50). -/
  plossLow : Bool := false
  /-- The 100 ms count that ends OFF is running (R79). -/
  offCount : Bool := false
  /-- STRAP was entered from OFF (R84 step 2). -/
  fromOff : Bool := true
  strapPrev : Option (BitVec 8) := none
  strapCount : Nat := 0
  strapDone : Bool := false
  oscOk : Bool := false
  /-- The PLLs have locked in STRAP while the straps have not agreed yet: the µs of STRAP at the lock (log entry 145). -/
  pllLocked : Option Nat := none
  xtalStop : Bool := false
  /-- A wake from HIBERNATE has driven PWR_HOLD high and waits for PWR_GOOD and the oscillator (R95). -/
  waking : Bool := false
  phaseStart : Nat := 0
  calDone : Bool := false
  banksLeft : List Bank := []
  dram : DramFill := .sweeping
  /-- The LOAD step that is running, 1 to 9; 0 outside LOAD. -/
  step : Nat := 0
  slot : Option Slot := none
  cands : List Slot := []
  faults : Nat := 0
  /-- Levels swept in TRAIN, from P3 up. -/
  levelsDone : Nat := 0
  chLeft : List Nat := []
  /-- Words of MEM_TRAIN_RESULT and MED_CH_TRAIN as AON retention holds them for a resume (R95), by register offset. -/
  eyes : List (Nat × BitVec 32) := []
  /-- Resume form of TRAIN: the running level's verify pass has not ended, and the channels whose verify pass has not (R95). -/
  verify : Bool := false
  chVerify : List Nat := []
  /-- SHA-384 of the booted firmware section, copied into AON retention at LOAD step 4 (R95, R116). -/
  fwDigest : Option (BitVec 384) := none
  /-- The lane treated as erased on subchannel A and B (R86). -/
  erasedA : Option Nat := none
  erasedB : Option Nat := none
  /-- Sections of the booted image as placed at LOAD step 4 (R116); none before. -/
  image : Option Image := none
  /-- Dies found absent at LOAD step 7. -/
  absent : List Nat := []
deriving DecidableEq, Repr

/-- Why DRAIN runs and where it ends (R77, R80, R511). -/
inductive DrainFor where
  | shutdown | restart | maintenance | thermal
deriving DecidableEq, Repr

/-- A mode change that takes effect at the next Folio boundary (R77). -/
inductive FolioMove where
  | serviceAgain
deriving DecidableEq, Repr

/-- What a sleep request aims at (R496). -/
inductive SleepTarget where
  | doze | hibernate
deriving DecidableEq, Repr

/-- A sleep entry under way (R497, R498): its tick q, the abort points reached, the latched wake source. -/
structure SleepEntry where
  target : SleepTarget
  q : Nat
  ap : Nat
  wake : Option Nat
  /-- The request's command. -/
  via : Via
deriving DecidableEq, Repr

/-- Copies of device time kept in flash (R505). -/
structure TimeCopy where
  time : Nat := 0
  frac : Nat := 0
  hours : Nat := 0
  minutes : Nat := 0
  cycles : Nat := 0
deriving DecidableEq, Repr

/-- Power, sleep and time (spec 17). -/
structure Pwr where
  time : Nat := 0
  frac : Nat := 0
  uncertain : Bool := true
  synced : Bool := false
  hours : Nat := 0
  minutes : Nat := 0
  /-- Real-time periods counted of the current minute (R506). -/
  periods : Nat := 0
  /-- Starts from OFF since manufacture (R545). -/
  cycles : Nat := 0
  rtc : BitVec 32 := 0
  /-- Real-time count latched at the last LDG tick before HIBERNATE (R504). -/
  rtcLatch : BitVec 32 := 0
  sleep : Option SleepEntry := none
  /-- A wake event latched in DOZE, waiting for its boundary (R500), or in HIBERNATE for a real-time edge (R502). -/
  wakeSrc : Option Nat := none
  wakeTick : Nat := 0
  /-- The last enabled wake event and its tick (R499). -/
  wakeSeen : Option (Nat × Nat) := none
  drainFor : Option DrainFor := none
  /-- DRAIN after a shutdown notification has ended: CC.EN written 0 and then 1 leads back to SERVICE (R77). -/
  drained : Bool := false
  /-- How the OFF that ends the running FLUSH will end (R79). -/
  flushFor : OffReason := .ploss
  /-- The requests that DRAIN answers: a shutdown notification waits for its DRAIN (R80). -/
  shutdownWaits : Bool := false
  /-- Opcode and path (0 PF, 1 MI) of the restart or MAINTENANCE request that DRAIN answers (R80, R546). -/
  drainReq : Nat × Nat := (0, 0)
  folioMove : Option FolioMove := none
  flushCopy : TimeCopy := {}
  metaCopy : TimeCopy := {}
  /-- A (R514) at the last evaluations, newest first, at most seven. -/
  wearHist : List Nat := []
  /-- Another 24 power-on hours are over, and no evaluation has followed (R514). -/
  wearDue : Bool := false
  /-- LDG_TICK_HI shadows of R154 and R566, and the PWR_TIME_HI shadows, by requester (MP, MDP 0 to 3, PF). -/
  tickShadow : List (Nat × Nat) := []
  timeShadow : List (Nat × Nat) := []
deriving DecidableEq, Repr

/-- One junction sensor's history (R507, R510): readings newest first with their ticks, in 0.25 °C steps. -/
structure Sensor where
  hist : List (Nat × Int) := []
  /-- Tick since which every sample's rise exceeded RISE_RATE; none while it does not. -/
  riseFrom : Option Nat := none
deriving DecidableEq, Repr

/-- Thermal state (R507 to R511). -/
structure Thm where
  sensors : List (Nat × Sensor) := []
  /-- Folios in a row that were cool (R509). -/
  coolFolios : Nat := 0
  /-- Folio at which the last throttle step took effect. -/
  lastStep : Option Nat := none
  shutting : Bool := false
  /-- T_THROTTLE is crossed and not cleared (R508). -/
  crossed : Bool := false
  /-- A sample of the running Folio was not cool. -/
  hotFolio : Bool := false
deriving DecidableEq, Repr

/-- One control loop (R516 to R519). The profile's position is in µV. Its path is a commanded ramp from `base` whose slope
changes are `breaks` (scaled tick, scaled slope change), smoothed so that velocity, acceleration and jerk keep their limits
(Machine/Loops.lean). -/
structure Loop where
  pos : Int := 0
  base : Int := 0
  breaks : List (Nat × Int) := []
  target : Int := 0
  /-- The latest profile start, for rounding halves away from it (R517). -/
  from_ : Int := 0
  integ : Int := 0
  prevErr : Int := 0
  err : Int := 0
  /-- The last output stood at a clamp, so that the integrator is frozen. -/
  frozen : Bool := false
  /-- The loop has closed and its first output, equal to the held value, is not written yet (R519). -/
  preset : Bool := false
  /-- The output tick wrote the target value (R518). -/
  wroteTarget : Bool := false
  /-- Tick at which the profile reached its target. -/
  reachedAt : Option Nat := none
  lateSet : Bool := false
  /-- Consecutive samples outside 4 × SETTLE_MV (R518). -/
  faultRun : Nat := 0
  /-- The close or open request that waits for the next period, and its tick (R516). -/
  pendingClose : Option (Bool × Nat) := none
deriving DecidableEq, Repr

/-! ## The boot flash (spec 04) -/

inductive NorKind where
  | program | subsector | sector
deriving DecidableEq, Repr

/-- Who started a NOR operation (R109): the MP by register, the update firmware, the event recorder. -/
inductive NorOwner where
  | mp | update | recorder
deriving DecidableEq, Repr

/-- A NOR program or erase in progress. -/
structure NorOp where
  owner : NorOwner
  kind : NorKind
  addr : Nat
  data : List Byte
deriving DecidableEq, Repr

/-- The NOR operation that an update waits for (R123), or the data or the Commit it waits for in MAINTENANCE (R554). -/
inductive UpdPhase where
  | eraseControl | progBegun | eraseSector | progSector | progProgress | progWritten | progMarker | progCommitted
  | progReverted | awaitData | awaitCommit
deriving DecidableEq, Repr

/-- An update under way (R123): target slot, IMAGE_BYTES, the STAGE_DIGEST of its records, COMMIT_SEQ it will write, next sector, and
whom it answers. -/
structure Update where
  slot : Slot
  bytes : Nat
  digest : BitVec 352
  seq : Nat
  /-- Next sector to write. -/
  next : Nat
  /-- Sectors whose data has arrived: all of them outside MAINTENANCE. -/
  ready : Nat
  phase : UpdPhase
  /-- The command that waits for it; none after a resume. -/
  waiter : Option Via
  /-- Only the commit marker is written (Commit Action 010, R316). -/
  markOnly : Bool
  /-- It runs in MAINTENANCE, from downloads in order (R554); `expected` is the next offset. -/
  maint : Bool
  expected : Nat
deriving DecidableEq, Repr

/-- The NOR device and its controller. `mem` holds its bytes, an unlisted byte being 0xFF; the records of the log region stand in Evt.
`staged` holds the bytes of the staged image by their offset, an unlisted byte being 0 (R123, R553, R554). -/
structure Nor where
  mem : List Host.Cell := []
  op : Option NorOp := none
  /-- The watchdog expired during the operation: MGT resets when it ends (R126). -/
  haltMp : Bool := false
  staged : List Host.Cell := []
  stagedEnd : Nat := 0
  update : Option Update := none
  /-- The NVMe-MI request that waits for the calibration row's program (R537). -/
  calWaiter : Option Nat := none
  /-- The precise bus fault the MP holds: faulting address, and whether it was a fetch (R110). -/
  busFault : Option (Nat × Bool) := none
  /-- The restarted MP reads the progress record once the controller is free (R110, R125). -/
  resumeDue : Bool := false
deriving DecidableEq, Repr

/-! ## Management (spec 18) -/

inductive ClearStep where
  | eraseFirst | progCleared | eraseRest (next : Nat)
deriving DecidableEq, Repr

/-- The event recorder and the log region (R545 to R551). `log` holds the records that are not free, by index. -/
structure Evt where
  log : List (Nat × EvRec) := []
  /-- Programs of each 256-byte page since its last erase (R547). -/
  pagePrograms : List (Nat × Nat) := []
  queue : List EvRec := []
  deferred : List EvRec := []
  /-- The recorder may write: from the end of LOAD step 4, and in MAINTENANCE (R547, R548). -/
  ready : Bool := false
  next : Nat := 0
  epoch : Nat := 0
  seq : Nat := 0
  lost : Nat := 0
  full : Bool := false
  clearing : Option ClearStep := none
  resumedClear : Bool := false
  clearNonce : BitVec 256 := 0
  /-- NVMe-MI requests that a clear will answer (R550). -/
  clearIds : List Nat := []
  before : Nat := 0
  lostBefore : Nat := 0
  /-- Records of the page program in progress. -/
  prog : List EvRec := []
  /-- A read through EVT_RD_SEL waits behind a NOR operation (R552). -/
  rdWait : Bool := false
deriving DecidableEq, Repr

/-- A live nonce (R538): its value and the device time of its issue. -/
structure Nonce where
  value : BitVec 256
  issued : Nat
deriving DecidableEq, Repr

/-- One authorisation path (R538): live nonce, consecutive failures, and the device time its lockout began. -/
structure AuthSt where
  nonce : Option Nonce := none
  fails : Nat := 0
  lockFrom : Option Nat := none
deriving DecidableEq, Repr

inductive ProcSt where
  | running | restarting | halted
deriving DecidableEq, Repr

/-- A reply the MP has built for the management controller. -/
structure MiReply where
  id : Nat
  status : Nat
  dword0 : Nat
  data : List Byte
deriving DecidableEq, Repr

/-- The management side (spec 18). -/
structure Mgt where
  mp : ProcSt := .running
  mdpDown : List Nat := []
  clockStopped : Bool := false
  pf : AuthSt := {}
  mi : AuthSt := {}
  /-- Levels that ALERT_N will take, oldest change first, each with its tick, 64 after its change (R541). -/
  alertPipe : List (Bool × Nat) := []
  /-- Factory Test TEST 2 holds ALERT_N low (R537). -/
  alertForce : Bool := false
  /-- MSI-X vectors of messages sent for the cause tree, newest first (R544). -/
  msix : List Nat := []
  /-- The vector's message waits for its mask bit to clear (R544). -/
  msixPend : Bool := false
  /-- Real-time periods since MGT's clock stopped (R530). -/
  stopped : Nat := 0
  /-- A tick, and the register offsets written in it with the rank of their space (R576). -/
  wrote : Nat × List (Nat × Nat) := (0, [])
  /-- Payloads of the MCTP packets waiting to be read, oldest first. -/
  mctpOut : List (List Byte) := []
  /-- Replies built, newest first. -/
  replies : List MiReply := []
  /-- Stored SETMWL and SETMRL values. -/
  mwl : Nat := 69
  mrl : Nat := 69
  /-- The last I3C transfer: acknowledged or not, and the bytes returned. -/
  i3cAck : Bool := false
  i3cData : List Byte := []
  /-- NVMe-MI configuration values by identifier. -/
  miConfig : List (Nat × Nat) := []
  /-- Partly received MCTP message: its bytes so far. -/
  mctpIn : List Byte := []
  /-- Whole messages that wait for the MP, oldest first. -/
  mctpMsgs : List (List Byte) := []
deriving DecidableEq, Repr

/-! ## The Ledger (spec 05, 06, 07) -/

/-- A member's credit counters (R170). -/
structure Credit where
  rd : Int := 0
  wr : Int := 0
  byte : Int := 0
  /-- Tick since which each counter stands below 1 (R151). -/
  rdOut : Nat := 0
  wrOut : Nat := 0
  byteOut : Nat := 0
deriving DecidableEq, Repr

/-- An operation on a die. -/
structure DieOp where
  /-- Entry type code of R160. -/
  type : Nat
  cls : Nat
  /-- The block the operation works on. -/
  block : Nat
  /-- The command and sector number a read serves. -/
  cmd : Nat := 0
  sec : Nat := 0
  /-- Zone of a program (none for conventional data), and the sectors it carries: media key and sequence number. -/
  zone : Option Nat := none
  keys : List (Nat × Nat) := []
  toSlc : Bool := false
  /-- A tail page (R229). -/
  tail : Bool := false
  /-- Padding with filler sectors (R220). -/
  filler : Bool := false
  /-- The budget's end has been judged in budget (R165). -/
  inBudget : Bool := false
  /-- Read or copy of a move (R277), by its number. -/
  mv : Option Nat := none
  /-- A verification read (R257). -/
  verify : Bool := false
  /-- Start tick of a read or of an SLC program's entry (R160). -/
  start : Nat := 0
  /-- The segment in which a QLC program or an erase runs (R162): the tick from which its time counts toward the budget, the tick at which
  it stops counting, and the budget ticks of the segments before it. -/
  segFrom : Nat := 0
  segStop : Nat := 0
  used : Nat := 0
  /-- Tick at which the entry or segment ends. -/
  last : Nat := 0
  /-- A read in a suspend window (R161). -/
  window : Bool := false
  /-- The zone has been Reset, so that the result is discarded (R222). -/
  dead : Bool := false
deriving DecidableEq, Repr

/-- A class 15 entry that runs on a die (R160): its start, its end, whether it is a recovery entry, and the reads that it still has room
for, an SLC read counting 1 and any other 2 (R252). -/
structure Entry15 where
  start : Nat
  last : Nat
  recovery : Bool
  room : Nat
deriving DecidableEq, Repr

/-- Die state of the sequencer (R161 to R166). A read that awaits its transfer slot and a program or erase that resumes behind the slot
stand side by side (R164). -/
structure DieRt where
  read : Option DieOp := none
  /-- The program or erase that runs. -/
  op : Option DieOp := none
  /-- Programs and erases suspended between their segments, at most one of each type and class. -/
  susp : List DieOp := []
  /-- The operation that has overrun its budget, and the tick at which its budget ended (R166). -/
  late : Option DieOp := none
  overrunAt : Option Nat := none
  resetAt : Option Nat := none
  /-- Tick at which the latest entry ends: no other entry starts earlier (R184). -/
  busyTo : Nat := 0
  entry15 : Option Entry15 := none
  /-- Bus slots of the latest entry, by tick (R159). -/
  slots : List Nat := []
  /-- Entry counts per door since the last switch boundary, for SEATED classes (R176): key class × 4 + door. -/
  seatCount : List (Nat × Nat) := []
deriving DecidableEq, Repr

/-- The Ledger. -/
structure Ldg where
  /-- The 64-bit tick count (R154). -/
  tick : Nat := 0
  folio : BitVec 32 := 0
  folioStart : Nat := 0
  /-- Folios since SERVICE began from TRAIN, not wrapped. -/
  folios : Nat := 0
  /-- A write of LDG_PLAN_REQ is pending, and the tick at which it registered (R183). -/
  reqPending : Bool := false
  reqTick : Nat := 0
  /-- Plan and level of the latest write of LDG_PLAN_REQ that has taken effect. -/
  reqNow : Nat × Nat := (0, 0)
  /-- A change of THROTTLE_LEVEL is pending, its tick, and the throttle level that has taken effect (R509). -/
  thrPending : Bool := false
  thrTick : Nat := 0
  thrNow : Nat := 0
  /-- Commands waiting for the boundary of the pending request (R320). -/
  planWaiters : List Via := []
  dies : List (Nat × DieRt) := []
  credits : List (Nat × Credit) := []
  /-- Traced command (handle) while a trace runs (R155). -/
  traced : Option Nat := none
  traceFrom : Nat := 0
  /-- Variants accepted at LOAD step 6, by index (R202). -/
  accepted : List Nat := []
  /-- Bus slots carried over the latest switch: channel, and the tick at which the slot ends (R184). -/
  carried : List (Nat × Nat) := []
  /-- Copies kept in the PLAN bank for a resume: status, place, lane bits (R95). -/
  keptStatus : List (Nat × BitVec 32) := []
  /-- Mint turn layouts by door × 32 + variant (conservative 16 + level): (turn tick, lane) (R474). -/
  turns : List (Nat × List (Nat × Nat)) := []
deriving DecidableEq, Repr

/-! ## Media (spec 08, 09) -/

/-- How a die slot of a zone is placed (R224). -/
inductive SlotKind where
  | unplaced | direct | folded
deriving DecidableEq, Repr

/-- A die slot of a zone (R224, R228). -/
structure ZSlot where
  kind : SlotKind := .unplaced
  block : Nat := 0
  qlcUnits : Nat := 0
  /-- Lent blocks of the stream, first block first. -/
  stream : List Nat := []
  base : Nat := 0
  /-- Quarters programmed into the stream so far, counted from BASE. -/
  quarters : Nat := 0
deriving DecidableEq, Repr

/-- The Zoned Namespace states of R215. -/
inductive ZState where
  | empty | implicitOpen | explicitOpen | closed | readOnly | full | offline
deriving DecidableEq, Repr

/-- A device zone. -/
structure Zone where
  state : ZState := .empty
  /-- Accepted write pointer, as a sector offset. -/
  wp : Nat := 0
  /-- Secured write pointer. -/
  secWp : Nat := 0
  finish : Nat := 524288
  lclass : Option Nat := none
  short : Bool := false
  slots : List (Nat × ZSlot) := []
  /-- Active in the sense of R215 and R217. -/
  active : Bool := false
  /-- Holds a Tally (R265). -/
  holder : Bool := false
  /-- Account whose command made it active (R328 MAX_ACTIVE). -/
  by_ : Nat := 0
  /-- A claim on each die of the group that no placement has used yet. -/
  claims : List Nat := []
  /-- Live tail page: first sector offset and count, and its page in the ring of its die (R229). -/
  tail : Option (Nat × Nat) := none
  tailPage : Nat := 0
  /-- First page of each stripe's Tally in the ring of its target die (R265). -/
  tallyAt : List (Nat × Nat) := []
  /-- The stripe that the accumulator holds, and the quarters of it that have been added, by 4 × die slot + quarter (R263). -/
  accStripe : Nat := 0
  accQuarters : List Nat := []
  /-- Die slots whose Tally target moved on (R275): stripe → j added. -/
  tallyMoved : List (Nat × Nat) := []
  /-- The unit placed as filler by a Finish pad (R220). -/
  padUnit : Option Nat := none
  /-- Zone operations waiting for earlier writes (Finish or Reset): handles, in order. -/
  mgmt : List Nat := []
deriving DecidableEq, Repr

/-- Where the bytes of a stored sector stand (R231). -/
inductive Place where
  /-- Staged in DRAM, secured, not settled. -/
  | staged
  /-- Staged, and settled by a live tail page (R229). -/
  | tail
  | slc
  | qlc
  /-- In the Tally area of a target die, for a failed die's staged sectors (R274). -/
  | tallyArea
deriving DecidableEq, Repr

/-- A stored sector: what was written and under which key, with its poison mark (R247, R249). -/
structure Stored where
  place : Place
  payload : Payload
  appTag : Nat
  nsid : Nat
  lba : Nat
  member : Nat
  /-- The identity of the XTS key it was encrypted under (the slot's key number, CRY). -/
  key : Nat
  poison : Bool
  filler : Bool
  /-- Sequence number of the write that stored it. -/
  seq : Nat
  /-- Where a conventional sector lies: die, or pool block and sector in block (R240). -/
  die : Nat
  block : Nat
  idx : Nat
deriving DecidableEq, Repr

/-- Block states (R256). -/
inductive BState where
  | ready | lent | open_ | full | verified | retired
deriving DecidableEq, Repr

/-- Block metadata (R24, R250, R254, R256): an unlisted block is READY and erased with an erase count of 0. -/
structure Block where
  state : BState := .ready
  erases : Nat := 0
  awaiting : Bool := false
  learned : Nat := 0
  /-- Sector reads since it was programmed (R259). -/
  reads : Nat := 0
  /-- Device time of its latest program (R259). -/
  programmed : Nat := 0
  /-- Wordlines or SLC pages programmed since its erase. -/
  pages : Nat := 0
  overruns : Nat := 0
  refresh : Bool := false
  retention : Bool := false
  zone : Option Nat := none
  /-- Retired blocks' Folio, for the whole-die rule (R273). -/
  retiredAt : Nat := 0
  conv : Bool := false
  /-- A conventional SLC log block (R241). -/
  slc : Bool := false
  /-- Tick at which it was lent (R237). -/
  lentAt : Nat := 0
  /-- Cause for which it retires once its live data has moved (R270). -/
  doom : Option Nat := none
  /-- Verification reads made since it became FULL (R257). -/
  vreads : Nat := 0
  /-- Its zone has been Reset and it returns to the pool once the reads and programs on it have ended (R222). -/
  leaving : Bool := false
deriving DecidableEq, Repr

/-- The kinds of device-internal moves (R276). -/
inductive MoveKind where
  | fold | evacuation | refresh | retention | retirement | compaction
deriving DecidableEq, Repr

/-- A move (R277): `step` is 0 while it copies, 1 once a fold or granule is copied, 2 once it is verified, 4 once it is committed. `zone` is
none for conventional blocks. -/
structure Move where
  kind : MoveKind
  zone : Option Nat
  slot : Nat
  /-- Wordline of the destination that a fold or a granule of conventional sectors writes. -/
  unit : Nat
  srcDie : Nat
  srcBlock : Nat
  dstBlock : Nat
  step : Nat
  /-- The sectors of a fold or granule by their media keys (R276); none for a whole block. -/
  keys : List Nat
  /-- Source sectors read, and verification reads of the destination made. -/
  reads : Nat
  vreads : Nat
  /-- Source sectors that were uncorrectable (R279). -/
  poison : List Nat
deriving DecidableEq, Repr

/-- Per-die counts of the media processors. -/
structure DieMed where
  spares : Nat := 350
  failed : Bool := false
  /-- Blocks lent to the SLC buffer, floor blocks included. -/
  lent : Nat := 0
  /-- Pages written so far in the die's tail ring and in its Tally ring, modulo their size. -/
  tailPos : Nat := 0
  tallyPos : Nat := 0
  /-- Folios at which blocks of the die retired, newest first (R273). -/
  retiredAt : List Nat := []
  /-- Spares that have joined the zone share, and share blocks that left it (R271, R272). -/
  joined : Nat := 0
  shareLost : Nat := 0
deriving DecidableEq, Repr

/-- An Offline Zone log entry (R322). -/
structure OffEntry where
  zslba : Nat
  nsid : Nat
  die : Nat
  time : Nat
  zone : Nat
deriving DecidableEq, Repr

/-- A namespace (R290, R294). -/
structure Ns where
  zoned : Bool
  size : Nat
  format : Nat
  extended : Bool
  /-- Device zones bound to it, in order. -/
  zones : List Nat
  owner : Option Nat
  attached : List Nat
deriving DecidableEq, Repr

/-- The media side. Flash contents, block metadata and namespaces survive power loss. -/
structure Med where
  zones : List (Nat × Zone) := []
  /-- Sectors of zoned namespaces, by zone × 524,288 + offset. -/
  sectors : List (Nat × Stored) := []
  /-- Sectors of conventional namespaces, by NSID × 2^40 + LBA: the conventional map with what its entry names. -/
  conv : List (Nat × Stored) := []
  blocks : List (Nat × Block) := []
  dies : List (Nat × DieMed) := []
  moves : List (Nat × Move) := []
  nextMove : Nat := 0
  ns : List (Nat × Ns) := []
  offline : List OffEntry := []
  /-- Round-robin die position per class for conventional writes (R241). -/
  rr : List (Nat × Nat) := []
  /-- Accumulator rebuilds outstanding: zones (R267). -/
  rebuilds : List Nat := []
  /-- Geometry in force, learned at LOAD (dies of each group). -/
  groups : List (List Nat) := []
  /-- Highest SEQ that a metadata copy covers (R392). -/
  covered : Nat := 0
  /-- Tally pages on failed dies whose stripes must be recomputed: zone × 512 + stripe (R275). -/
  recompute : List Nat := []
  /-- Forced tail pages: zones (R230). -/
  forced : List Nat := []
  /-- Zones that wait for the evacuation of a die: die × 2^20 + zone (R237). -/
  evac : List Nat := []
deriving DecidableEq, Repr

/-! ## The Day Book and the Reserve (spec 13) -/

inductive RecState where
  | accepted | secured | settled
deriving DecidableEq, Repr

inductive RecKind where
  | read | write | nodata | mapCommit
deriving DecidableEq, Repr

/-- A Day Book record that is not RETIRED (R383), kept by its sequence number. -/
structure Rec where
  state : RecState
  kind : RecKind
  posted : Bool
  undelivered : Bool
  ended : Bool
  ordered : Bool
  net : Bool
  opcode : BitVec 8
  pending : Nat
  member : Nat
  queue : Nat
  cid : Nat
  nlb : Nat
  nsid : Nat
  slba : Nat
  stage : Nat
  status : Nat
  aux : Nat
  /-- Tick at which it became SECURED, for R392. -/
  securedAt : Nat
  /-- Ranges of a deallocation, whose range-list slot still counts (R393). -/
  ranges : List LbaRange
  /-- The map changes that its settlement made, as the descriptors of its placement block, in sector order (R391). -/
  places : List (BitVec 64)
deriving DecidableEq, Repr

/-- A flush area (R399, R401): the Day Book as it stood, the sectors written in step 2 by their media keys, and whether a
replay has run it. -/
structure Area where
  valid : Bool := false
  serial : Nat := 0
  highSeq : Nat := 0
  recs : List (Nat × Rec) := []
  sectors : List (Nat × Stored) := []
  conv : List (Nat × Stored) := []
  held : Bool := false
  drain : Bool := false
  replayed : Bool := false
  /-- An earlier replay of it has recorded its undelivered completions and its rollbacks. -/
  told : Bool := false
deriving DecidableEq, Repr

/-- The Day Book, staging and the spill log. -/
structure Db where
  recs : List (Nat × Rec) := []
  nextSeq : Nat := 1
  areaA : Area := {}
  areaB : Area := {}
  /-- Live spill entries by SEQ (R391). -/
  spill : List (Nat × Rec) := []
  /-- Tick at which FLUSH began. -/
  flushStart : Nat := 0
  lastFlushUs : Nat := 0
  stageNext : Nat := 0
  /-- W of R387 as the last refill or the last change of C_eff left it. -/
  wrSum : Nat := 0
  /-- LAST_STOP of the Start record (R546). -/
  lastStop : Nat := 0
deriving DecidableEq, Repr

/-- A Reserve segment (R396, R397). -/
structure Seg where
  /-- C_n in µF as the latest test measured it. -/
  capUf : Nat := 0
  /-- V_a in mV of the latest test. -/
  va : Nat := 0
  /-- Sensed voltage in mV. -/
  sensed : Nat := 0
  tested : Bool := false
  failed : Bool := false
  /-- It has sensed 0.98 × rated voltage or more since the start (R397). -/
  everCharged : Bool := false
  /-- Its sensed voltage has reached 0.98 × V_a, or before its first test 0.98 × rated voltage (R397). -/
  charged : Bool := false
  /-- A test ended and its recharge runs (R396 step 5). -/
  recharging : Bool := false
  testTime : Nat := 0
  /-- Device time at which its next test is due; none before Folio 0. -/
  due : Option Nat := none
deriving DecidableEq, Repr

/-- The Reserve. -/
structure Rsv where
  segs : List (Nat × Seg) := []
  /-- The segment under test, the tick at which its pin rose, and V_a once it is sampled (R396). -/
  test : Option Nat := none
  testFrom : Nat := 0
  testVa : Option Nat := none
  /-- Device time at which the 24-hour cycle of tests begins: 480 s after the first Folio 0 since OFF (R396). -/
  cycleFrom : Option Nat := none
  /-- C_eff, C_E (MiB), E_use (mJ) and MAR_E in force (R398). -/
  coverMib : Nat := 0
  energyMib : Nat := 0
  eUseMj : Nat := 0
  marE : Nat := 0
deriving DecidableEq, Repr

/-! ## Hosts, accounts and commands (spec 10, 11) -/

/-- What a command is, once its opcode is decoded. -/
inductive CmdOp where
  | flush | write | read | writeZeroes | dsm | copy | zoneMgmt (action : Nat) (all : Bool) | report | append | minted
  /-- An opcode that its namespace does not support (R288). -/
  | unsupported
deriving DecidableEq, Repr

inductive CmdPhase where
  /-- Fetched, and held before its arrival or not yet arrived. -/
  | fetched
  /-- Arrived: its acceptance runs. -/
  | arrived
  /-- Its opcode's acceptance work has been done in the arrival tick. -/
  | accepting
  /-- Acceptance has ended; its stages run. -/
  | running
  /-- Its completion is being posted. -/
  | posting
deriving DecidableEq, Repr

/-- Where a sector of a command stands. -/
inductive SecSt where
  | lookup | waiting | registered | granted | moved | decoded | retryWait | recovering | clear | checked | leaving | left
  | zeroFill | zeroReady | withdrawn
  | fetching | have | sealed | encrypted | stored
  | inRing | consumed
deriving DecidableEq, Repr

/-- A sector of a command. -/
structure Sec where
  /-- LBA in the namespace. -/
  lba : Nat
  /-- Key of the stored sector in the media maps. -/
  key : Nat
  die : Nat
  slc : Bool
  zero : Bool
  st : SecSt
  /-- Registration tick (R173). -/
  reg : Nat
  level : Nat
  tries : Nat
  /-- Tick at which L3 began. -/
  l3 : Nat
  poison : Bool
  payload : Payload
  appTag : Nat
  /-- Guard and reference tag of the host's protection information (R291). -/
  guardOk : Bool
  refTag : Nat
  /-- A source sector of a Copy. -/
  copySrc : Bool
  /-- Tick since which it waits for free transmitter time (R592). -/
  readyAt : Nat
  /-- Write stream of the XTS cores that it was assigned as it left the seal (R438). -/
  stream : Nat
  /-- The block it is read from, once its zone has been Reset or its read has been granted; else MAP names it (R222, R277). -/
  block : Option Nat
  /-- First tick of its egress slot (R179, R180). -/
  slotAt : Nat
  /-- Tick since which it waits to register behind other sectors, 0 while it does not (R174, R188). -/
  since : Nat
  /-- The XTS key that its cipher stage began with, none where its slot held none (R445, R446). -/
  xts : Option Nat
deriving DecidableEq, Repr

/-- An I/O command from fetch to its completion. -/
structure Cmd where
  sqe : Sqe
  op : CmdOp
  door : Door
  net : Bool
  /-- Device-wide queue index, or queue pair for a command that arrived through NET. -/
  queue : Nat
  account : Nat
  member : Nat
  fetchNo : Nat
  /-- Tick in which its entry was complete in the QUEUE bank. -/
  fetchTick : Nat
  phase : CmdPhase
  arrival : Nat
  /-- Acceptance sequence number; 0 before acceptance begins. -/
  seq : Nat
  nsid : Nat
  slba : Nat
  count : Nat
  ordered : Bool
  /-- Device zone of a zone command. -/
  zone : Option Nat
  /-- State and accepted write pointer of the zone before the command was accepted (R389). -/
  before : Option (ZState × Nat)
  secs : List Sec
  /-- Range-lock entries held: (first, last, write). -/
  locks : List (Nat × Nat × Bool)
  /-- Its entries have been taken; false while its namespace's share holds it (R305). -/
  locked : Bool
  status : Status
  dw0 : Nat
  dw1 : Nat
  /-- Staging slots taken, and the hold of R387. -/
  staged : Nat
  hold : Nat
  /-- It has taken those slots and its completed-pool record (R387). -/
  pooled : Bool
  /-- Its secure stage has ended and the result is held in zone order (R388). -/
  secureHeld : Bool
  secured : Bool
  /-- It is charged and admitted (R172). -/
  admitted : Bool
  /-- Its external waits, first and last tick of each, newest first (R156). -/
  waits : List (Nat × Nat)
  /-- Tick at which its host data fetch, with the waits counted with it, began (R151). -/
  waitFrom : Nat
  maxRetry : Nat
  /-- No completion may be posted for it (R390). -/
  silent : Bool
  /-- Detached by an FLR (R346). -/
  detached : Bool
  ranges : List LbaRange
  /-- Mint lane held. -/
  lane : Option Nat
  /-- Level at its arrival tick. -/
  level : Nat
deriving DecidableEq, Repr

/-- A completion the block has posted, and the PASID that its TLPs carry (R339). -/
structure Completion where
  func : Nat
  queue : Nat
  cid : Nat
  status : Status
  dw0 : Nat
  dw1 : Nat
  pasid : Option Nat := none
deriving DecidableEq, Repr

/-- An I/O queue by its device-wide index (R295). -/
structure IoQueue where
  func : Nat
  qid : Nat
  cqid : Nat
  size : Nat
  /-- Slice it serves, if assigned (R339). -/
  slice : Option Nat
  /-- Entries that doorbells have shown and that are not fetched. -/
  waiting : Nat
  tail : Nat
deriving DecidableEq, Repr

/-- A completion queue of a function. -/
structure CqSt where
  size : Nat
  head : Nat
  vector : Nat
deriving DecidableEq, Repr

/-- A function's controller. -/
structure Ctrl where
  /-- CC, as last written. -/
  cc : BitVec 32 := 0
  rdy : Bool := false
  /-- CSTS.CFS. -/
  cfs : Bool := false
  /-- CSTS.SHST. -/
  shst : Nat := 0
  resetting : Bool := false
  /-- Completion queues by queue identifier. -/
  cqs : List (Nat × CqSt) := []
  /-- Outstanding asynchronous event requests: command identifiers, oldest first. -/
  aers : List Nat := []
  events : List (BitVec 32) := []
  features : List (Nat × BitVec 32) := []
  /-- Keep Alive Timer in ms; 0 disables. -/
  kato : Nat := 0
  /-- Tick at which the Keep Alive Timer last started (R286). -/
  kaFrom : Nat := 0
  changedNs : List Nat := []
  resources : Nat := 0
  /-- The NVMe registers without a rule of their own here (INTMS, AQA, ASQ, ACQ) and the MSI-X table, by BAR0 offset. -/
  words : List (Nat × BitVec 32) := []
deriving DecidableEq, Repr

/-- A member's binding (R330). -/
structure Binding where
  cls : Nat
  seat : Nat
  logEn : Bool
  netEn : Bool
  mintEn : Bool
  lim : MemberLimits
deriving DecidableEq, Repr

/-- A quiesce under way (R343). -/
structure Quiesce where
  q : Nat
  flr : Bool
  cut : Bool
  /-- Account Quiesce commands that wait: command identifiers of the PF's admin queue. -/
  waiters : List Nat
deriving DecidableEq, Repr

/-- An account's state beside its binding (R349). -/
structure Acct where
  binding : Option Binding := none
  quiesce : Option Quiesce := none
  quiesced : Bool := false
  flrActive : Bool := false
  /-- An FLR or a controller reset ended its queues; CC.EN resumes it (R345). -/
  resumeOnEnable : Bool := false
  /-- CC.EN was written 1 while such an account was still quiescing (R345). -/
  enableWaits : Bool := false
  /-- Its limit entry broke R328 at LOAD (R329). -/
  badEntry : Bool := false
  /-- Credit limits bound after the latest refill began, applied at the next (R332). -/
  pendingLim : Option (List CreditLimit) := none
  /-- Tick of the Account Bind that left them (R332, R348). -/
  pendingTick : Nat := 0
  /-- The binding before the latest change, and the tick of that change: an entry that starts in it uses this binding (R189). -/
  priorBinding : Option Binding := none
  boundAt : Option Nat := none
deriving DecidableEq, Repr

/-- A mediation request (R335, R336). -/
structure MedReq where
  tag : Nat
  account : Nat
  sqe : Sqe
  data : List Byte
  tick : Nat
  received : Bool
  order : Nat
deriving DecidableEq, Repr

/-- A read sector as it left its door: its function, command identifier and index, the data the host receives, and the PASID of its
TLPs (R339). -/
structure SentSec where
  func : Nat
  cid : Nat
  index : Nat
  payload : Payload
  appTag : Nat
  pasid : Option Nat := none
deriving DecidableEq, Repr

/-- A Format NVM or a deletion that waits for its namespace's commands (R293, R324): its command, the new format (none: deletion), and
the fetch number from which on commands came after it. -/
structure NsWait where
  nsid : Nat
  func : Nat
  cid : Nat
  fmt : Option Nat
  since : Nat
deriving DecidableEq, Repr

/-- The host side: controllers, queues, commands in flight and what has been posted. -/
structure HostSt where
  linkUp : Bool := false
  /-- The trained rate and width of the link, and the Maximum Payload Size in force (R181). -/
  linkGen : Nat := 0
  linkWidth : Nat := 4
  linkMps : Nat := 256
  vfEnable : Bool := false
  numVfs : Nat := 0
  pasidEnable : Bool := false
  ctrls : List (Nat × Ctrl) := []
  queues : List (Nat × IoQueue) := []
  cmds : List (Nat × Cmd) := []
  nextCmd : Nat := 1
  nextFetch : Nat := 1
  /-- End tick of the last Ordered command by account (R300). -/
  orderEnd : List (Nat × Nat) := []
  /-- Read sectors that have left a door, newest first. -/
  sent : List SentSec := []
  posted : List Completion := []
  /-- Data the last admin or Receive command returned, newest first. -/
  dataOut : List (List Byte) := []
  lockHigh : Nat := 0
  accts : List (Nat × Acct) := []
  /-- Bindings in force by member (accounts, and 2,048 + slice). -/
  mediation : List (Nat × MedReq) := []
  medGen : List (Nat × Nat) := []
  medOrder : Nat := 0
  /-- The dirty-page log: entries written, newest first (R341). -/
  dlog : List (BitVec 64) := []
  /-- Round robin of PCIe over the queue indexes that show entries (R296): where the next visit starts. -/
  visitNext : Nat := 0
  /-- Commands of a namespace paused at its range-lock share (R305): NSIDs. -/
  paused : List Nat := []
  /-- Format or delete operations waiting for commands of a namespace. -/
  nsWait : List NsWait := []
  /-- Accounts 1 to this one keep their bindings in effect for NET since PERST_N has cleared VF Enable (R35, R99). -/
  netVfs : Nat := 0
  /-- Configuration requests are answered: the calibration row was read (R84). -/
  cfgReady : Bool := false
  /-- Crossing faults: transfers discarded (R17). -/
  crossFaults : Nat := 0
  msgs : List (Nat × Nat) := []
deriving DecidableEq, Repr

/-! ## Data movers (spec 12) -/

/-- What an account context was reading when it halted (R371, R376). -/
structure Ctx where
  halted : Bool := false
  /-- Non-posted reads not yet issued, and outstanding: (purpose, command handle or queue index). -/
  queue : List (Nat × Nat) := []
  reads : List (Nat × Nat) := []
  /-- Reads that failed and wait for a restart. -/
  failed : List (Nat × Nat) := []
  kind : Nat := 0
  purpose : Nat := 0
  errAddr : BitVec 64 := 0
  errSeq : Nat := 0
  /-- Tick of the halt, and the outstanding reads that were issued before the one latched (R375). -/
  haltAt : Nat := 0
  haltPos : Nat := 0
deriving DecidableEq, Repr

/-- A descriptor of a chain (R357), with whether its reserved bits are zero. -/
structure Desc where
  op : Nat
  crec : Bool
  int : Bool
  tag : Nat
  length : Nat
  src : Nat
  dst : Nat
  srcSpace : Nat
  dstSpace : Nat
  pattern : List Byte
  link : Nat
  reservedZero : Bool
deriving DecidableEq, Repr

inductive ChainSt where
  | stopped | running | idle | halted
deriving DecidableEq, Repr

/-- A completion record that waits for ring space (R363): its status, FENCED, INT, TAG, and whether the descriptor is done. -/
structure ChainRec where
  status : Nat
  fenced : Bool
  int : Bool
  tag : Nat
  consumed : Nat
  /-- The chain goes on after it; a halting record leaves the chain halted. -/
  goOn : Bool
deriving DecidableEq, Repr

/-- A chain context's engine state beside its registers (R359 to R370). -/
structure Chain where
  st : ChainSt := .stopped
  /-- The descriptor in hand and its address. -/
  cur : Option Desc := none
  curAddr : Nat := 0
  /-- Bytes of the current descriptor written. -/
  done : Nat := 0
  /-- A poisoned line has been moved by the current descriptor. -/
  poisoned : Bool := false
  /-- A read of the tail's LINK is outstanding, and whether it is the re-read that must find a link (R367). -/
  linkWait : Bool := false
  final : Bool := false
  /-- Tick at which the tail's LINK is read again. -/
  reread : Option Nat := none
  /-- PHASE of the next completion record (R363). -/
  phase : Bool := true
  /-- The record that a full ring holds back. -/
  held : Option ChainRec := none
  /-- A RESTART that waits for that record: its ACTION (R375). -/
  restart : Option Nat := none
  /-- Writes since the last FENCE that may not be acknowledged: to PF host memory, and to DRAM (R362). -/
  wroteHost : Bool := false
  wroteDram : Bool := false
deriving DecidableEq, Repr

/-- A request that the crossbar has refused (R19): the initiator's port and the address, which the crossbar latches, and what the
initiator receives, a decode error, with poisoned data where it asked to read. -/
structure XbarRefusal where
  port : Nat
  addr : Nat
  decodeError : Bool
  poisoned : Bool
deriving DecidableEq, Repr

/-- The data movers and the crossbar. -/
structure Xfr where
  /-- The latest request refused; none while its cause bit is clear (R19). -/
  xbarErr : Option XbarRefusal := none
  /-- Round-robin pointers of the crossbar's targets: the port that comes first where two initiators meet (R189). -/
  xbarPtr : List (Nat × Nat) := []
  ctxs : List (Nat × Ctx) := []
  /-- Round robin over the account contexts with work (R353): where the next service starts. -/
  ctxNext : Nat := 0
  chains : List (Nat × Chain) := []
  /-- Space contents that chains move: (space, address) key space × 2^64 + address, and the poisoned 64-byte lines. -/
  mem : List Host.Cell := []
  poison : List Nat := []
deriving DecidableEq, Repr

/-! ## Memories (spec 14) -/

inductive BankPower where
  | off | on | retention | waking
deriving DecidableEq, Repr

/-- DRAM, the write buffers and the on-chip banks. -/
structure Mem where
  /-- Write-buffer occupancy of subchannels A and B, and staging entries among them. -/
  occA : Nat := 0
  occB : Nat := 0
  stageA : Nat := 0
  stageB : Nat := 0
  batchA : Bool := false
  batchB : Bool := false
  drainEmpty : Bool := false
  /-- Gate lanes in use: command handles (R421). -/
  lanes : List Nat := []
  openRows : List (Nat × Nat) := []
  /-- Tick of the latest access to each open row, by bank, and of the latest DRAM request (R417). -/
  rowUse : List (Nat × Nat) := []
  lastReq : Nat := 0
  selfRefresh : Bool := false
  /-- The DRAM regions that LOAD has laid out (R24); nothing moves one afterwards. -/
  regions : List Region := []
  banks : List (Nat × BankPower) := []
  /-- Tick of each bank's latest access or change of power, by bank code (R427). -/
  bankMark : List (Nat × Nat) := []
  wiping : Bool := false
  /-- Tick of the latest wipe cause (R430). -/
  wipeFrom : Nat := 0
  lastScrub : Nat := 0
  /-- Device time of each bank's last scrub (R426), by bank code. -/
  bankScrub : List (Nat × Nat) := []
deriving DecidableEq, Repr

/-! ## Cipher (spec 15) -/

/-- A key slot: its type, the member in whose range it lies, and the key it holds as a number, byte 0 lowest (R444). -/
structure KeySlot where
  type : KeyType := .empty
  member : Nat := 0
  key : Nat := 0
deriving DecidableEq, Repr

inductive KmOpKind where
  | unwrap | wrapOut | wrapData | clear
deriving DecidableEq, Repr

/-- A key-management operation in progress (R449, R450), with the result it will end with: RESULT, the slot's new
contents, and the words it will put into the data registers. -/
structure KmOp where
  kind : KmOpKind
  slot : Nat
  result : Nat
  noKek : Bool
  new : KeySlot
  out : List (BitVec 32)
  /-- Cipher blocks that it takes, and the tick in which it began (R449). -/
  blocks : Nat := 0
  start : Nat := 0
deriving DecidableEq, Repr

/-- Life-cycle states (R454). -/
inductive LifeCycle where
  | blank | provisioned | decommissioned
deriving DecidableEq, Repr

/-- The cipher side. `life` and `deviceKey` are fuses. -/
structure Cry where
  slots : List (Nat × KeySlot) := []
  /-- The latest tick in which a slot changed, and the slots before it (R446, R455). -/
  keptAt : Option Nat := none
  kept : List (Nat × KeySlot) := []
  op : Option KmOp := none
  releasePending : Bool := false
  /-- Tick in which the lock was taken, and the latest tick with ACQUIREs, with their requester numbers (R451). -/
  lockAt : Option Nat := none
  acqAt : Option Nat := none
  acq : List Nat := []
  life : LifeCycle := .blank
  deviceKey : Option (BitVec 256) := none
  /-- Blocks since reseed by mask generator (R441). -/
  maskBlocks : List (Nat × Nat) := []
  /-- Restarts of the entropy source (R453). -/
  restarts : Nat := 0
deriving DecidableEq, Repr

/-! ## Network and Mint (spec 16) -/

/-- A RoCEv2 queue pair (R465). -/
structure Qp where
  account : Nat
  port : Nat
  /-- Connected NVMe queue: none before Connect; 0 is the admin queue. -/
  queue : Option Nat
  error : Bool
  /-- Send rate in Mb/s, and the ticks of the last CNP sent and received (R463). -/
  rate : Nat
  cnpSent : Option Nat
  cnpRecv : Option Nat
  /-- Tick from which its rate allows the next sector (R463). -/
  nextAt : Nat
  /-- Tick of the last step of its rate's recovery. -/
  rateAt : Nat
deriving DecidableEq, Repr

/-- One Ethernet port's flow control (R464). -/
structure Port where
  /-- Receive-buffer bytes. -/
  rxBytes : Nat := 0
  xoffSent : Bool := false
  pausedData : Bool := false
  pausedCnp : Bool := false
  /-- CNPs that wait for the end of a pause of their priority: queue pairs, oldest first. -/
  cnpHeld : List Nat := []
deriving DecidableEq, Repr

/-- Frames that NET has sent on its own account (R462 to R464). -/
inductive NetFrame where
  | arpReply (port : Nat) | ndReply (port : Nat) | cnp (qp : Nat) | xoff (port : Nat) | xon (port : Nat) | rnrNak (qp : Nat)
  | cmRep (qp : Nat) | cmRej (port : Nat)
deriving DecidableEq, Repr

structure Net where
  qps : List (Nat × Qp) := []
  ports : List (Nat × Port) := []
  sent : List NetFrame := []
deriving DecidableEq, Repr

inductive LaneSt where
  | free | held | setup | consuming
deriving DecidableEq, Repr

/-- A Mint lane (R470 to R475). -/
structure Lane where
  st : LaneSt := .free
  cmd : Nat := 0
  recipe : Nat := 0
  account : Nat := 0
  next : Nat := 0
  /-- Output bytes produced and sent. -/
  produced : Nat := 0
  sent : Nat := 0
  /-- Bytes of the segment, once its boxes are known (R467). -/
  segLen : Nat := 0
  consumedAll : Bool := false
  /-- Tick of the last consumption's start, at first of the setup's (R473), and the output produced before it (R475, R486). -/
  outAt : Nat := 0
  outBefore : Nat := 0
deriving DecidableEq, Repr

structure Mnt where
  lanes : List (Nat × Lane) := []
  laneTbl : List LaneBind := []
  recipes : List (Nat × Recipe) := []
  /-- Minted Reads registered for a lane: (handle, registration tick). -/
  waiting : List (Nat × Nat) := []
deriving DecidableEq, Repr

/-! ## JTAG (R44) -/

/-- The states of an IEEE 1149.1 TAP. -/
inductive Tap where
  | testLogicReset | runTestIdle | selectDr | captureDr | shiftDr | exit1Dr | pauseDr | exit2Dr | updateDr
  | selectIr | captureIr | shiftIr | exit1Ir | pauseIr | exit2Ir | updateIr
deriving DecidableEq, Repr

/-- The TAP and the registers of boundary scan, which is all that it reaches (R46): bit 0 of a register is the one next to TDO. -/
structure Jtag where
  tap : Tap := .testLogicReset
  tck : Bool := false
  tdoDriven : Bool := false
  /-- The bit on TDO while it is driven. -/
  tdo : Bool := false
  /-- The instruction in force; none while it is BYPASS. -/
  ir : Option (List Bool) := none
  /-- The shift path of the register that the TAP selects. -/
  path : List Bool := []
  /-- The boundary-scan register's update stage. -/
  bsr : List Bool := []
deriving DecidableEq, Repr

/-! ## The whole state -/

/-- The block. `regs` holds the register words that something has written since their reset, by offset in the register
space (R563); every other register holds its reset word (Machine/Regs.lean). `pending` is the queue of commands, first in first out. `freeCount` counts free values taken. -/
structure State where
  regs : List (Nat × BitVec 32) := []
  mode : Mode := .off
  prevMode : Mode := .off
  pins : Pins := {}
  boot : Boot := {}
  pwr : Pwr := {}
  thm : Thm := {}
  loops : List (Nat × Loop) := []
  nor : Nor := {}
  evt : Evt := {}
  mgt : Mgt := {}
  ldg : Ldg := {}
  med : Med := {}
  db : Db := {}
  rsv : Rsv := {}
  host : HostSt := {}
  xfr : Xfr := {}
  mem : Mem := {}
  cry : Cry := {}
  net : Net := {}
  mnt : Mnt := {}
  jtag : Jtag := {}
  freeCount : Nat := 0
  pending : List Instr := []
deriving DecidableEq, Repr

/-- The block right after power is applied: OFF with POR_N low, every register at its reset word (R570), nothing queued. -/
def State.reset : State := {}

end Sys2Proof.Machine
end

