-- ==== Sys2Proof/Machine/Ops.lean ====
section
/-!
DEFINITION. The named operations over the state: canonical maps, registers and the rules of every access to them, island
power, reset of registers, time, modes, and the replies and completions the block posts.
-/
namespace Sys2Proof.Machine

/-! ## Canonical maps -/

/-- The record of key `k`, `d` where the map lists none. -/
def cget {β : Type} (d : β) : List (Nat × β) → Nat → β
  | [], _ => d
  | (j, v) :: m, k => if j = k then v else cget d m k

/-- The map with record `v` at key `k` and no record `d` listed there. -/
def cset {β : Type} [DecidableEq β] (d : β) : List (Nat × β) → Nat → β → List (Nat × β)
  | [], k, v => if v = d then [] else [(k, v)]
  | (j, w) :: m, k, v =>
    if k < j then (if v = d then (j, w) :: m else (k, v) :: (j, w) :: m)
    else if k = j then (if v = d then m else (k, v) :: m)
    else (j, w) :: cset d m k v

/-- Optional record of key `k`. -/
def ofind {β : Type} : List (Nat × β) → Nat → Option β
  | [], _ => none
  | (j, v) :: m, k => if j = k then some v else ofind m k

/-- The map with key `k` bound to `v`. -/
def oput {β : Type} : List (Nat × β) → Nat → β → List (Nat × β)
  | [], k, v => [(k, v)]
  | (j, w) :: m, k, v =>
    if k < j then (k, v) :: (j, w) :: m
    else if k = j then (k, v) :: m
    else (j, w) :: oput m k v

/-- The map without key `k`. -/
def odel {β : Type} (m : List (Nat × β)) (k : Nat) : List (Nat × β) := m.filter (fun e => e.1 ≠ k)

/-- Every bound record mapped. -/
def omap {β : Type} (f : Nat → β → β) (m : List (Nat × β)) : List (Nat × β) := m.map (fun e => (e.1, f e.1 e.2))

/-- The lowest number from `lo` up, among the first `n`, that is no key of the map. -/
def firstFree {β : Type} (m : List (Nat × β)) (lo : Nat) : Nat → Option Nat
  | 0 => none
  | n + 1 => if (ofind m lo).isNone then some lo else firstFree m (lo + 1) n

/-- A list of keyed records is in the canonical form: keys strictly rising. -/
def keysRise {β : Type} : List (Nat × β) → Bool
  | [] => true
  | [_] => true
  | (j, _) :: (k, w) :: m => decide (j < k) && keysRise ((k, w) :: m)

/-- Canonical form of a map with default `d`: keys strictly rising and no record equal to `d`. -/
def mapWf {β : Type} [DecidableEq β] (d : β) (m : List (Nat × β)) : Bool :=
  keysRise m && m.all (fun e => decide (e.2 ≠ d))

/-! ## Byte memories -/

/-- What an unlisted byte of bank, DRAM and peer memory reads as: 0, as the fill engines leave it (R84). -/
def memDefault : Byte := 0

/-- What an unlisted byte of the NOR device reads as (R108: factory state 0xFF). -/
def norDefault : Byte := 0xFF

/-- The canonical form of a byte memory with default `d`. -/
def Memory.wf (d : Byte) (m : List Host.Cell) : Bool := mapWf d m

def memRead (d : Byte) (m : List Host.Cell) (a : Nat) : Byte := cget d m a

def memWrite (d : Byte) (m : List Host.Cell) (a : Nat) (v : Byte) : List Host.Cell := cset d m a v

/-- The bytes written from address `a` up. -/
def memWriteAll (d : Byte) (m : List Host.Cell) : Nat → List Byte → List Host.Cell
  | _, [] => m
  | a, b :: bs => memWriteAll d (memWrite d m a b) (a + 1) bs

def memReadAll (d : Byte) (m : List Host.Cell) (a : Nat) : Nat → List Byte
  | 0 => []
  | n + 1 => memRead d m a :: memReadAll d m (a + 1) n

/-! ## Modes and islands -/

/-- Mode codes of R74. -/
def modeCode : Mode → Nat
  | .off => 0 | .strap => 1 | .fill => 2 | .load => 3 | .train => 4 | .service => 5 | .throttle => 6 | .drain => 7
  | .flush => 8 | .doze => 9 | .hibernate => 10 | .maintenance => 11

/-- Power of an island in a mode (R75); in OFF, AON is on once POR_N is released. -/
def islandPower (m : Mode) (porN : Bool) (i : Island) : IslandPower :=
  match m, i with
  | .off, .aon => if porN then .on else .off
  | .off, _ => .off
  | .hibernate, .aon => .on
  | .hibernate, _ => .off
  | .maintenance, .aon => .on
  | .maintenance, .mgt => .on
  | .maintenance, _ => .off
  | _, .aon => .on
  | .strap, _ => .reset
  | .fill, .ldg => .on
  | .fill, .hst => .on
  | .fill, .mem => .on
  | .fill, .xfr => .on
  | .fill, _ => .reset
  | _, _ => .on

/-- An island of the state is on. -/
def State.islandOn (s : State) (i : Island) : Bool := islandPower s.mode s.pins.porN i = .on

/-- The LDG clock runs: from PLL lock on, in every mode that powers LDG (R154: it stops in HIBERNATE). -/
def State.clockRuns (s : State) : Bool := s.islandOn .ldg

/-- Modes in which the Ledger runs entries: SERVICE, THROTTLE, DRAIN and DOZE (R157). -/
def modeLedger : Mode → Bool
  | .service => true | .throttle => true | .drain => true | .doze => true
  | _ => false

/-- Modes in which commands are fetched (R77, R497): SERVICE and THROTTLE. -/
def modeFetching : Mode → Bool
  | .service => true | .throttle => true
  | _ => false

/-! ## Registers -/

/-- The word held for the register at offset `o`: its reset word where nothing has written it. -/
def State.reg (s : State) (o : Nat) : Word :=
  match ofind s.regs o with
  | some w => w
  | none => regReset o

/-- The state with word `w` held at offset `o`. -/
def State.setReg (s : State) (o : Nat) (w : Word) : State := { s with regs := oput s.regs o w }

/-- Field of a register. -/
def State.fld (s : State) (o lo width : Nat) : Nat := getField (s.reg o) lo width

/-- The state with a register's field replaced. -/
def State.setFld (s : State) (o lo width v : Nat) : State := s.setReg o (setField (s.reg o) lo width v)

/-- Add to a counter field that saturates. -/
def State.countFld (s : State) (o lo width n : Nat) : State :=
  s.setFld o lo width (satAdd width (s.fld o lo width) n)

/-- Return the registers that `p` names to their reset words. -/
def State.resetRegs (s : State) (p : Nat → Bool) : State := { s with regs := s.regs.filter (fun e => !p e.1) }

/-- The register at `o` is held in an island that is on, so that it can be read and written (R565). -/
def State.regAlive (s : State) (o : Nat) : Bool :=
  match regIsland o with
  | some i => s.islandOn i
  | none => false

/-! ## Device time (R503, R504) -/

/-- Device time after `n` real-time periods, with the fraction carried: R504. -/
def advanceTime (time frac n : Nat) : Nat × Nat :=
  let x := n * 1953125 + frac
  ((time + x / 64) % 2 ^ 64, x % 64)

/-- Advance device time by `n` real-time periods; UNCERTAIN is set (R503, R504). -/
def State.advanceRtc (s : State) (n : Nat) : State :=
  let p := advanceTime s.pwr.time s.pwr.frac n
  { s with pwr := { s.pwr with time := p.1, frac := p.2, uncertain := true } }

/-- One tick of the LDG clock: the tick count and device time rise by one (R154, R503). -/
def State.tickOnce (s : State) : State :=
  { s with ldg := { s.ldg with tick := (s.ldg.tick + 1) % 2 ^ 64 },
           pwr := { s.pwr with time := (s.pwr.time + 1) % 2 ^ 64 } }

/-- Move the tick count, and device time with it, on to tick `t` if it lies ahead. -/
def State.tickTo (s : State) (t : Nat) : State :=
  if s.ldg.tick < t then
    { s with ldg := { s.ldg with tick := t }, pwr := { s.pwr with time := (s.pwr.time + (t - s.ldg.tick)) % 2 ^ 64 } }
  else s

/-- The power-on hours word that PWR_POH and event records carry (R525, R545). -/
def State.pohWord (s : State) : BitVec 32 :=
  BitVec.ofNat 32 (s.pwr.hours % 2 ^ 24 + (s.pwr.minutes % 64) * 2 ^ 24)

/-! ## Level and plan in force (R182, R191) -/

/-- The level in force, 0 to 3 for P0 to P3. -/
def State.level (s : State) : Nat := s.fld Reg.ldgPlanCur 2 2

/-- The plan in force. -/
def State.plan (s : State) : Nat := s.fld Reg.ldgPlanCur 0 2

/-- The conservative plan's variant is in force. -/
def State.conservative (s : State) : Bool := bitOf (s.reg Reg.ldgPlanCur) 4

/-- THROTTLE_LEVEL. -/
def State.throttleLevel (s : State) : Nat := s.fld Reg.ldgPlanCur 6 2

/-- LDG_PLAN_REQ.LEVEL and PLAN. -/
def State.reqLevel (s : State) : Nat := s.fld Reg.ldgPlanReq 2 2
def State.reqPlan (s : State) : Nat := s.fld Reg.ldgPlanReq 0 2

/-- The plan variant in force, none while the conservative plan is. -/
def State.variant (s : State) : Option Variant :=
  if s.conservative then none
  else match s.boot.image with
    | some im => (im.planSet.variants.find? (fun v => v.1 = 4 * s.plan + s.level)).map (·.2)
    | none => none

/-! ## Free values -/

/-- Take a free value: an opaque word of the counter, which rises. -/
def State.freeWord (s : State) : BitVec 32 × State :=
  (Config.freeWord s.freeCount, { s with freeCount := s.freeCount + 1 })

/-- `n` free bytes. -/
def State.freeBytes (s : State) (n : Nat) : List Byte × State :=
  ((List.range n).map (fun i => Config.freeByte (s.freeCount + i)), { s with freeCount := s.freeCount + n })

/-! ## Replies -/

/-- A status that the manual does not state: 0 a firmware update that fails or is reverted, 1 a write that a crossing fault
ends, 2 a Minted Read whose output queue pair is in error, 3 a write placed after a Reset that then takes effect (log entries 14
and 30). -/
def stOpen (n : Nat) : Status :=
  let w := (Config.openStatus n).toNat
  ⟨w / 256 % 8, w % 256, decide (2048 ≤ w)⟩

/-- The success status. -/
def stOk : Status := ⟨0, 0, false⟩

/-- Generic statuses of the NVM Express Base Specification that the manual names; Do Not Retry is free where the manual does not
state it (log entry 31). -/
def stInvalidOpcode : Status := ⟨0, 0x01, Config.dnr 0 0x01⟩
def stInvalidField : Status := ⟨0, 0x02, Config.dnr 0 0x02⟩
def stDataTransferError : Status := ⟨0, 0x04, Config.dnr 0 0x04⟩
def stInternalError : Status := ⟨0, 0x06, false⟩

def stAbortRequested : Status := ⟨0, 0x07, Config.dnr 0 0x07⟩
def stInvalidNamespace : Status := ⟨0, 0x0B, Config.dnr 0 0x0B⟩
def stSequenceError : Status := ⟨0, 0x0C, Config.dnr 0 0x0C⟩
def stOperationDenied : Status := ⟨0, 0x15, Config.dnr 0 0x15⟩
def stCommandInterrupted : Status := ⟨0, 0x21, false⟩
def stLbaOutOfRange : Status := ⟨0, 0x80, Config.dnr 0 0x80⟩
def stCapacityExceeded : Status := ⟨1, 0x15, Config.dnr 1 0x15⟩
def stInvalidQueueId : Status := ⟨1, 0x01, Config.dnr 1 0x01⟩
def stInvalidQueueSize : Status := ⟨1, 0x02, Config.dnr 1 0x02⟩
def stAerLimit : Status := ⟨1, 0x05, Config.dnr 1 0x05⟩
def stInvalidFirmwareSlot : Status := ⟨1, 0x06, Config.dnr 1 0x06⟩
def stInvalidFirmwareImage : Status := ⟨1, 0x07, Config.dnr 1 0x07⟩
def stInvalidLogPage : Status := ⟨1, 0x09, Config.dnr 1 0x09⟩
def stInvalidFormat : Status := ⟨1, 0x0A, Config.dnr 1 0x0A⟩
def stFeatureNotSaveable : Status := ⟨1, 0x0D, Config.dnr 1 0x0D⟩
def stNeedsReset : Status := ⟨1, 0x10, Config.dnr 1 0x10⟩
def stInvalidQueueDeletion : Status := ⟨1, 0x0C, Config.dnr 1 0x0C⟩
def stCqInvalid : Status := ⟨1, 0x00, Config.dnr 1 0x00⟩
def stConnectInvalid : Status := ⟨1, 0x82, Config.dnr 1 0x82⟩
def stNsAttached : Status := ⟨1, 0x18, Config.dnr 1 0x18⟩
def stNsNotAttached : Status := ⟨1, 0x1A, Config.dnr 1 0x1A⟩
def stInvalidProtInfo : Status := ⟨1, 0x81, Config.dnr 1 0x81⟩
def stUnrecoveredRead : Status := ⟨2, 0x81, Config.dnr 2 0x81⟩
def stGuardCheck : Status := ⟨2, 0x82, Config.dnr 2 0x82⟩
def stAppTagCheck : Status := ⟨2, 0x83, Config.dnr 2 0x83⟩
def stRefTagCheck : Status := ⟨2, 0x84, Config.dnr 2 0x84⟩

/-- Zone statuses (R311). -/
def stZoneBoundary : Status := ⟨1, 0xB8, Config.dnr 1 0xB8⟩
def stZoneFull : Status := ⟨1, 0xB9, Config.dnr 1 0xB9⟩
def stZoneReadOnly : Status := ⟨1, 0xBA, Config.dnr 1 0xBA⟩
def stZoneOffline : Status := ⟨1, 0xBB, Config.dnr 1 0xBB⟩
def stZoneInvalidWrite : Status := ⟨1, 0xBC, Config.dnr 1 0xBC⟩
def stTooManyActive : Status := ⟨1, 0xBD, Config.dnr 1 0xBD⟩
def stInvalidTransition : Status := ⟨1, 0xBF, Config.dnr 1 0xBF⟩

/-- Vendor statuses (R321). -/
def stSegment : Status := ⟨1, 0xC0, Config.dnr 1 0xC0⟩
def stRecipeNotLoaded : Status := ⟨1, 0xC1, Config.dnr 1 0xC1⟩
def stKeySlot : Status := ⟨1, 0xC2, Config.dnr 1 0xC2⟩
def stOutputTooSmall : Status := ⟨1, 0xC3, Config.dnr 1 0xC3⟩
def stQpNotBound : Status := ⟨1, 0xC4, Config.dnr 1 0xC4⟩
def stBindingRefused : Status := ⟨1, 0xC5, Config.dnr 1 0xC5⟩
def stPlanSuperseded : Status := ⟨1, 0xC6, Config.dnr 1 0xC6⟩
def stAuthFailed : Status := ⟨1, 0xC7, Config.dnr 1 0xC7⟩
def stUnwrapFailed : Status := ⟨1, 0xC8, Config.dnr 1 0xC8⟩
def stLaneUnavailable : Status := ⟨1, 0xC9, Config.dnr 1 0xC9⟩
def stSleepAbandoned : Status := ⟨1, 0xCA, Config.dnr 1 0xCA⟩
def stDoorNotServed : Status := ⟨1, 0xCB, Config.dnr 1 0xCB⟩

/-- The 16-bit status of completion dword 3 [31:17] without the phase tag. -/
def statusCode (t : Status) : Nat := t.sc + 256 * t.sct + (if t.dnr then 0x4000 else 0)

/-- Completion of an admin command on a function's admin queue. -/
def State.adminDone (s : State) (func cid : Nat) (t : Status) (dw0 : Nat) : State :=
  { s with host := { s.host with posted := { func := func, queue := 0, cid := cid, status := t, dw0 := dw0, dw1 := 0 } :: s.host.posted } }

/-- Data returned to a function's host by a command. -/
def State.dataToHost (s : State) (bs : List Byte) : State :=
  { s with host := { s.host with dataOut := bs :: s.host.dataOut } }

/-- A controller of a function. -/
def State.ctrl (s : State) (f : Nat) : Ctrl := cget {} s.host.ctrls f

def State.setCtrl (s : State) (f : Nat) (c : Ctrl) : State :=
  { s with host := { s.host with ctrls := cset {} s.host.ctrls f c } }

/-- An account. -/
def State.acct (s : State) (a : Nat) : Acct := cget {} s.host.accts a

def State.setAcct (s : State) (a : Nat) (x : Acct) : State :=
  { s with host := { s.host with accts := cset {} s.host.accts a x } }

/-- A die of the Ledger, and of the media processors. -/
def State.die (s : State) (d : Nat) : DieRt := cget {} s.ldg.dies d

def State.setDie (s : State) (d : Nat) (x : DieRt) : State :=
  { s with ldg := { s.ldg with dies := cset {} s.ldg.dies d x } }

def State.dieMed (s : State) (d : Nat) : DieMed := cget {} s.med.dies d

def State.setDieMed (s : State) (d : Nat) (x : DieMed) : State :=
  { s with med := { s.med with dies := cset {} s.med.dies d x } }

/-- A device zone. -/
def State.zone (s : State) (z : Nat) : Zone := cget {} s.med.zones z

def State.setZone (s : State) (z : Nat) (x : Zone) : State :=
  { s with med := { s.med with zones := cset {} s.med.zones z x } }

/-- A block of a die. -/
def State.block (s : State) (d b : Nat) : Block := cget {} s.med.blocks (d * 4096 + b)

def State.setBlock (s : State) (d b : Nat) (x : Block) : State :=
  { s with med := { s.med with blocks := cset {} s.med.blocks (d * 4096 + b) x } }

/-- A command in flight. -/
def State.cmd (s : State) (h : Nat) : Option Cmd := ofind s.host.cmds h

def State.setCmd (s : State) (h : Nat) (c : Cmd) : State :=
  { s with host := { s.host with cmds := oput s.host.cmds h c } }

def State.dropCmd (s : State) (h : Nat) : State :=
  { s with host := { s.host with cmds := odel s.host.cmds h } }

/-- A junction sensor, a loop, a Reserve segment, a chain, an account context, a lane, a port, a key slot. -/
def State.sensor (s : State) (n : Nat) : Sensor := cget {} s.thm.sensors n
def State.setSensor (s : State) (n : Nat) (x : Sensor) : State :=
  { s with thm := { s.thm with sensors := cset {} s.thm.sensors n x } }
def State.loop (s : State) (n : Nat) : Loop := cget {} s.loops n
def State.setLoop (s : State) (n : Nat) (x : Loop) : State := { s with loops := cset {} s.loops n x }
def State.seg (s : State) (n : Nat) : Seg := cget {} s.rsv.segs n
def State.setSeg (s : State) (n : Nat) (x : Seg) : State :=
  { s with rsv := { s.rsv with segs := cset {} s.rsv.segs n x } }
def State.chain (s : State) (n : Nat) : Chain := cget {} s.xfr.chains n
def State.setChain (s : State) (n : Nat) (x : Chain) : State :=
  { s with xfr := { s.xfr with chains := cset {} s.xfr.chains n x } }
def State.ctx (s : State) (n : Nat) : Ctx := cget {} s.xfr.ctxs n
def State.setCtx (s : State) (n : Nat) (x : Ctx) : State :=
  { s with xfr := { s.xfr with ctxs := cset {} s.xfr.ctxs n x } }
def State.lane (s : State) (n : Nat) : Lane := cget {} s.mnt.lanes n
def State.setLane (s : State) (n : Nat) (x : Lane) : State :=
  { s with mnt := { s.mnt with lanes := cset {} s.mnt.lanes n x } }
def State.port (s : State) (n : Nat) : Port := cget {} s.net.ports n
def State.setPort (s : State) (n : Nat) (x : Port) : State :=
  { s with net := { s.net with ports := cset {} s.net.ports n x } }
def State.slot (s : State) (n : Nat) : KeySlot := cget {} s.cry.slots n
/-- The slots as they stood before the running tick are kept once in a tick in which one changes (R446). -/
def State.keepSlots (s : State) : State :=
  if s.cry.keptAt = some s.ldg.tick then s
  else { s with cry := { s.cry with keptAt := some s.ldg.tick, kept := s.cry.slots } }

/-- A slot as it was before the running tick (R455). -/
def State.slotBefore (s : State) (n : Nat) : KeySlot :=
  if s.cry.keptAt = some s.ldg.tick then cget {} s.cry.kept n else s.slot n

def State.setSlot (s : State) (n : Nat) (x : KeySlot) : State :=
  { s with cry := { s.keepSlots.cry with slots := cset {} s.cry.slots n x } }
def State.credit (s : State) (m : Nat) : Credit := cget {} s.ldg.credits m
def State.setCredit (s : State) (m : Nat) (x : Credit) : State :=
  { s with ldg := { s.ldg with credits := cset {} s.ldg.credits m x } }

/-! ## The calibration row (R112) -/

/-- A byte of the NOR device. -/
def State.norByte (s : State) (a : Nat) : Byte := memRead norDefault s.nor.mem a

/-- A little-endian number of `n` bytes of the calibration row at offset `o`. -/
def State.calLe (s : State) (o n : Nat) : Nat := ofLeBytes (memReadAll norDefault s.nor.mem (0x07FF0000 + o) n)

def State.calDramGib (s : State) : Nat := s.calLe 0x020 2
def State.calRanks (s : State) : Nat := s.calLe 0x022 1
def State.calMaxMts (s : State) : Nat := s.calLe 0x024 2
def State.calSerial (s : State) : BitVec 160 := BitVec.ofNat 160 (s.calLe 0x008 20)
def State.calKeyHash (s : State) : BitVec 384 := BitVec.ofNat 384 (s.calLe 0x228 48)

/-- SUBSYS_ID, which configuration requests are answered with; DEVICE_WIDTH; the boot read and write delays of a lane; a junction sensor's
trim (offset and gain); the divider ratio of a segment and of the bus; a byte of the PHY trims (R112). -/
def State.calSubsysId (s : State) : BitVec 32 := BitVec.ofNat 32 (s.calLe 0x01C 4)
def State.calDeviceWidth (s : State) : Nat := s.calLe 0x023 1
def State.calBootDelay (s : State) (subB : Bool) (lane : Fin 10) : Nat × Nat :=
  let o := 0x026 + 2 * (10 * b2n subB + lane.val)
  (s.calLe o 1, s.calLe (o + 1) 1)
def State.calSensorTrim (s : State) (n : Nat) : Nat × Nat := (s.calLe (0x060 + 8 * n) 2, s.calLe (0x062 + 8 * n) 2)
def State.calDivider (s : State) (n : Nat) : Nat := s.calLe (0x0E4 + 8 * n) 2
def State.calBusDivider (s : State) : Nat := s.calLe 0x120 8
def State.calPhyTrim (s : State) (i : Nat) : Byte := s.norByte (0x07FF0128 + i)

/-- Rated capacitance (µF) and voltage (mV) of Reserve segment `n`: the units of the row's record are the model's. -/
def State.ratedUf (s : State) (n : Nat) : Nat := s.calLe (0x0E0 + 8 * n) 2
def State.ratedMv (s : State) (n : Nat) : Nat := s.calLe (0x0E2 + 8 * n) 2

/-- The row passes its check: CAL_MAGIC, CAL_FORMAT and CAL_CRC (R84 step 1, R112). -/
def State.calValid (s : State) : Bool :=
  decide (s.calLe 0 4 = 0x4C414343) && decide (s.calLe 4 2 = 1) &&
  decide ((crc32c (memReadAll norDefault s.nor.mem 0x07FF0000 4092)).toNat = s.calLe 0xFFC 4)

/-- All 4,096 bytes of the row read 0xFF (R113). -/
def State.calBlank (s : State) : Bool :=
  s.nor.mem.all (fun c => !(decide (0x07FF0000 ≤ c.1) && decide (c.1 < 0x07FF1000)))

end Sys2Proof.Machine
end

