-- ==== Sys2Proof/Machine/Clocks.lean ====
section
/-!
DEFINITION. Clocks, banks and DRAM regions (R13 to R15, R22, R24): the clock of each island at each level and the DDR5 data rate,
the size of every bank, and the layout of external DRAM.
-/
namespace Sys2Proof.Machine

/-! ## Clocks (R13, R14) -/

/-- The entry of a table of four levels, P0 first. -/
def byLevel (p0 p1 p2 p3 level : Nat) : Nat :=
  match level with
  | 0 => p0 | 1 => p1 | 2 => p2 | _ => p3

/-- Frequency of a clock at a level, in Hz (R13): HST, the NET transport, XFR, CRY, MNT and MDP share the core clock. -/
def clockHz (d : ClockDomain) (level : Nat) : Nat :=
  match d with
  | .ldg => 1000000000
  | .aonRtc => 32768
  | .nor => 200000000
  | .core => byLevel 1200000000 1000000000 800000000 600000000 level
  | .mgt => byLevel 800000000 667000000 533000000 400000000 level
  | .mem => byLevel 1600000000 1400000000 1200000000 800000000 level
  | .chPhy => 1800000000
  | .chCodec => byLevel 1200000000 1000000000 800000000 600000000 level

/-- The DDR5 data rate of R13's table at a level, in MT/s. -/
def tableMts (level : Nat) : Nat := byLevel 6400 5600 4800 3200 level

/-- R14: the data rate at a level is the lesser of the table's and that of the devices that the image states. -/
def memMts (g : Geometry) (level : Nat) : Nat := min (tableMts level) g.dramMts

/-- The level whose clocks run (R84, R87, R93): FILL and LOAD run at P3, TRAIN at the level being swept, later modes at the level in
force. -/
def State.clockLevel (s : State) : Nat :=
  match s.mode with
  | .train => 3 - s.boot.levelsDone
  | .off => 3 | .strap => 3 | .fill => 3 | .load => 3 | .hibernate => 3 | .maintenance => 3
  | .service => s.level | .throttle => s.level | .drain => s.level | .flush => s.level | .doze => s.level

/-- The data rate that MEM runs at (R14, R84): 3,200 MT/s until the image's geometry is placed. -/
def State.memRate (s : State) : Nat :=
  match s.boot.image with
  | some im => memMts im.geometry s.clockLevel
  | none => 3200

/-- Ticks that `n` MEM cycles take, rounded up. -/
def memCycles (n level : Nat) : Nat := ceilDiv (n * clockHz .ldg level) (clockHz .mem level)

/-! ## Banks (R22) -/

/-- Bytes of a bank. -/
def bankBytes : Bank → Nat
  | .plan => 4 * 2 ^ 20 | .map => 16 * 2 ^ 20 | .dayBook => 4 * 2 ^ 20 | .queue => 8 * 2 ^ 20 | .mint => 4 * 2 ^ 20
  | .xfr => 7 * 2 ^ 20 | .mgt => 2 * 2 ^ 20 | .scratch => 4 * 512 * 2 ^ 10 | .secure => 256 * 2 ^ 10 | .aonRetention => 64 * 2 ^ 10

/-! ## DRAM regions (R24) -/

/-- Bytes of the fixed regions: write staging takes the image's cover limit, at most 2 GiB. -/
def regionBytes (g : Geometry) : RegionName → Nat
  | .staging => min (g.coverMib * 2 ^ 20) (2 * 2 ^ 30)
  | .tally => 2 * 2 ^ 30
  | .convMap => 2 * 2 ^ 30
  | .blockMeta => 256 * 2 ^ 20
  | .relocation => 256 * 2 ^ 20
  | .images => 256 * 2 ^ 20
  | .remainder => 0

/-- The regions of `l` one after the other from `base` up, and the remainder of `dram` bytes after them. -/
def layRegions (g : Geometry) (dram base : Nat) : List RegionName → List Region
  | [] => [⟨.remainder, base, dram - base⟩]
  | r :: rs => ⟨r, base, regionBytes g r⟩ :: layRegions g dram (base + regionBytes g r) rs

/-- The layout that LOAD fixes, in the order of R24's table from address 0 up: the image's geometry states the sizes and no address
(DESIGN CHOICE, log entry 146). -/
def dramRegions (g : Geometry) : List Region :=
  layRegions g (g.dramGib * 2 ^ 30) 0 [.staging, .tally, .convMap, .blockMeta, .relocation, .images]

/-- The region that an address lies in. -/
def State.regionOf (s : State) (a : Nat) : Option RegionName :=
  (s.mem.regions.find? (fun r => decide (r.base ≤ a) && decide (a < r.base + r.size))).map (·.name)

/-! ## Media processors (R32, R33) -/

/-- MDP that owns a die group. -/
def mdpOf (g : Nat) : Nat := g / 16

/-- The MDP of a die group is powered and not restarting. -/
def State.mdpActs (s : State) (g : Nat) : Bool := s.islandOn .mdp && !s.mgt.mdpDown.contains (mdpOf g)

/-! ## Clocks, counts and link terms (R13, R136, R138, R139, R141) -/

/-- The core clock by level in tenths of a GHz (R13): 1.2, 1.0, 0.8 and 0.6. -/
def clockTenths (level : Nat) : Nat := clockHz .core level / 100000000

/-- Release count of the crossings X01, X02, X15 and X16 by level (R138). -/
def crossing (level : Nat) : Nat := [10, 12, 15, 20].getD level 20

/-- Ticks of `n` work cycles at a level (R136). -/
def workTicks (n level : Nat) : Nat := ceilDiv (10 * n) (clockTenths level)

/-- PCIe link term of `n` data bytes (R141) at a generation, a width of 1, 2 or 4 lanes, and a Maximum Payload Size. -/
def pcieTerm (n gen width mps : Nat) : Nat :=
  let wire := n + ceilDiv n mps * (if gen ≤ 2 then 24 else 26)
  let lanes := 4 / width
  if gen ≤ 2 then ceilDiv (wire * lanes) (2 ^ (gen - 1)) else ceilDiv (wire * lanes * 130) (512 * 2 ^ (gen - 3))

/-- Ethernet link term of `n` payload bytes under `h` header bytes (R141). -/
def ethTerm (n h : Nat) (ipv6 tagged : Bool) : Nat := ceilDiv (8 * (n + h + 20 + 20 * b2n ipv6 + 4 * b2n tagged)) 100

/-- A link form: PCIe generation, width and MPS, and the Ethernet frame form. -/
structure LinkForm where
  gen : Nat
  width : Nat
  mps : Nat
  ipv6 : Bool
  tagged : Bool
deriving DecidableEq, Repr

def variantForm (v : Variant) : LinkForm := ⟨v.pcieGen, 2 ^ v.pcieWidth, 128 * 2 ^ v.mps, v.ipv6, v.tagged⟩

/-- The form that the conservative variants are taken to be compiled for: that of R139. -/
def romForm : LinkForm := ⟨5, 4, 256, false, false⟩

/-- Data and completion link terms of a door. -/
def dataTerm (f : LinkForm) (door : Nat) : Nat := if door = 0 then pcieTerm 4096 f.gen f.width f.mps else ethTerm 4096 78 f.ipv6 f.tagged
def cqeTerm (f : LinkForm) (door : Nat) : Nat := if door = 0 then pcieTerm 16 f.gen f.width f.mps else ethTerm 16 62 f.ipv6 f.tagged

/-- Egress and completion counts of a door at a level, without their link terms (R139). -/
def egressBase (level door : Nat) : Nat :=
  if door = 0 then workTicks 258 level + crossing level else workTicks 216 level + 2 * crossing level + 120
def completionBase (level door : Nat) : Nat :=
  if door = 0 then workTicks 344 level + crossing level else workTicks 180 level + 3 * crossing level + 120

/-- Decode, XTS and seal-check counts by level (R139), and their sum. -/
def sealStages (level : Nat) : List Nat :=
  [byLevel 3072 3686 4608 6144 level, byLevel 640 768 960 1280 level, byLevel 256 307 384 512 level]
def sealTicks (level : Nat) : Nat := sumOf (sealStages level)

/-- Seal-exit offset of a read type (R179). -/
def sealExit (type level : Nat) : Nat := [0, 72960, 21760, 24320].getD type 0 + sealTicks level

end Sys2Proof.Machine
end

