-- ==== Sys2Proof/Machine/Flags.lean ====
section
/-!
DEFINITION. The cause tree (R541 to R544), the event recorder's queueing (R545 to R547), and the mode change that
every transition shares (R77, R543, R546, R570).
-/
namespace Sys2Proof.Machine

/-! ## The cause tree -/

/-- The register of a leaf (R542). -/
def leafReg : Leaf → Nat
  | .boardCause => Reg.aonBoardCause | .startCause => Reg.aonStartCause | .norCause => Reg.norCause
  | .mgtCause => Reg.mgtCause | .evtCause => Reg.evtCause
  | .mediaExc => Reg.ldgMediaExc | .planCause => Reg.ldgPlanCause
  | .zoneCause => Reg.medZoneCause | .integCause => Reg.medIntegCause
  | .orderCause => Reg.hstOrderCause | .dbCause => Reg.hstDbCause
  | .actCause => Reg.actCause
  | .xfrCause => Reg.xfrCause | .chainCause => Reg.xfrChainCause
  | .memCause => Reg.memCause | .srmCause => Reg.srmCause
  | .cryCause => Reg.cryCause
  | .netCause => Reg.netCause | .mntCause => Reg.mntCause
  | .pwrCause => Reg.pwrCause | .rsvCause => Reg.pwrRsvCause | .thmCause => Reg.thmCause | .loopCause => Reg.loopCause

/-- Group and leaf number (R542). -/
def leafPlace : Leaf → Nat × Nat
  | .boardCause => (0, 0) | .startCause => (0, 1) | .norCause => (0, 2)
  | .mgtCause => (1, 0) | .evtCause => (1, 1)
  | .mediaExc => (2, 0) | .planCause => (2, 1)
  | .zoneCause => (3, 0) | .integCause => (3, 1)
  | .orderCause => (4, 0) | .dbCause => (4, 1)
  | .actCause => (5, 0)
  | .xfrCause => (6, 0) | .chainCause => (6, 1)
  | .memCause => (7, 0) | .srmCause => (7, 1)
  | .cryCause => (8, 0)
  | .netCause => (9, 0) | .mntCause => (9, 1)
  | .pwrCause => (10, 0) | .rsvCause => (10, 1) | .thmCause => (10, 2) | .loopCause => (10, 3)

/-- The island that holds a leaf (R590). -/
def leafIsland : Leaf → Island
  | .boardCause => .aon | .startCause => .aon | .norCause => .aon
  | .mgtCause => .mgt | .evtCause => .mgt
  | .mediaExc => .ldg | .planCause => .ldg
  | .zoneCause => .mdp | .integCause => .mdp
  | .orderCause => .hst | .dbCause => .hst
  | .actCause => .hst
  | .xfrCause => .xfr | .chainCause => .xfr
  | .memCause => .mem | .srmCause => .mem
  | .cryCause => .cry
  | .netCause => .net | .mntCause => .mnt
  | .pwrCause => .ldg | .rsvCause => .ldg | .thmCause => .ldg | .loopCause => .ldg

/-- Every leaf. -/
def allLeaves : List Leaf :=
  [.boardCause, .startCause, .norCause, .mgtCause, .evtCause, .mediaExc, .planCause, .zoneCause, .integCause,
   .orderCause, .dbCause, .actCause, .xfrCause, .chainCause, .memCause, .srmCause, .cryCause, .netCause, .mntCause,
   .pwrCause, .rsvCause, .thmCause, .loopCause]

/-- Unmasked bits of a leaf that are set; an unpowered leaf has none (R541, R543). -/
def State.leafBits (s : State) (l : Leaf) : Word :=
  if s.islandOn (leafIsland l) then s.reg (leafReg l) &&& ~~~(s.reg (leafReg l + 4)) else 0

/-- A leaf has an unmasked bit set. -/
def State.leafActive (s : State) (l : Leaf) : Bool := decide (s.leafBits l ≠ 0)

/-- MGT_GROUPn: bit l is the OR of leaf l's unmasked bits (R541). -/
def State.groupWord (s : State) (g : Nat) : Nat :=
  sumOf ((allLeaves.filter (fun l => decide ((leafPlace l).1 = g) && s.leafActive l)).map (fun l => 2 ^ (leafPlace l).2))

/-- TOP_SUMMARY: bit n is the OR of MGT_GROUPn (R541). -/
def State.topSummary (s : State) : BitVec 11 :=
  BitVec.ofNat 11 (sumOf ((List.range 11).map (fun g => if s.groupWord g = 0 then 0 else 2 ^ g)))

/-- The level the cause tree gives ALERT_N, true for released (R541); FLUSH (R97) and the factory pulse (R537) hold it low. -/
def State.alertLevel (s : State) : Bool :=
  decide ((s.topSummary &&& ~~~((s.reg Reg.mgtAlertMask).setWidth 11)) = 0) && decide (s.mode ≠ .flush) && !s.mgt.alertForce

/-- TOP_SUMMARY AND NOT MGT_MSIX_MASK is non-zero (R544). -/
def State.msixLevel (s : State) : Bool :=
  decide ((s.topSummary &&& ~~~((s.reg Reg.mgtMsixMask).setWidth 11)) ≠ 0)

/-- The level ALERT_N has or is already due to take. -/
def State.alertDue (s : State) : Bool := match s.mgt.alertPipe.getLast? with | some v => v.1 | none => s.pins.alertN

/-- ALERT_N follows a change of its level 64 ticks later (R541). -/
def State.alertSync (s : State) : State :=
  if s.alertLevel = s.alertDue then s
  else { s with mgt := { s.mgt with alertPipe := s.mgt.alertPipe ++ [(s.alertLevel, s.ldg.tick + 64)] } }

/-- The mask bit of the PF's MSI-X vector `v` (PRESUMED: PCI Express, where it is the lowest bit of a table entry's last word and resets
to 1). -/
def State.vectorMasked (s : State) (v : Nat) : Bool := bitOf ((ofind (s.ctrl 0).words (0x8000 + 16 * v + 12)).getD 1) 0

/-- The message of the PF's vector waits while the summary is non-zero, and is sent once the PCIe link is up and the vector's mask bit lets
it through (R544). -/
def State.msixSend (s : State) : State :=
  let v := s.fld Reg.mgtMsixCtl 0 11
  if s.mgt.msixPend && s.host.linkUp && !s.vectorMasked v then
    { s with mgt := { s.mgt with msixPend := false, msix := v :: s.mgt.msix } }
  else s

/-- A change of the summary from zero to non-zero makes the message due; a summary of zero takes one back that still waits (R544;
PRESUMED: PCI Express's pending bit). -/
def State.msixSync (s : State) (was : Bool) : State :=
  ({ s with mgt := { s.mgt with msixPend := s.msixLevel && (s.mgt.msixPend || !was) } }).msixSend

/-- An unmasked leaf bit of group 1 that was not set restarts MGT's clock (R530). -/
def State.clockSync (s old : State) : State :=
  let fresh (l : Leaf) : Bool := decide (s.leafBits l &&& ~~~(old.leafBits l) ≠ 0)
  if s.mgt.clockStopped && (fresh .mgtCause || fresh .evtCause) then { s with mgt := { s.mgt with clockStopped := false } } else s

/-- Propagate a change of the cause tree from `old` to `new`: to ALERT_N, to the PF's MSI-X vector, and to MGT's stopped clock. -/
def treeSync (old new : State) : State := ((new.alertSync).msixSync old.msixLevel).clockSync old

/-! ## Event records -/

/-- The record that an event of TYPE `ty` writes now (R545). -/
def State.evRec (s : State) (ty : Nat) (detail : List Byte) : EvRec :=
  ⟨ty, s.evt.epoch, s.evt.seq, s.pwr.time, s.pohWord ||| (if s.pwr.uncertain then oneBit 30 else 0), s.pwr.cycles, s.mode,
   !s.evt.ready, false, detail, true⟩

/-- Count an event that is not written (R547, R549). -/
def Evt.lose (e : Evt) : Evt := { e with lost := satAdd 32 e.lost 1, seq := e.seq + 1 }

/-- Set EVT_DROPPED without an event record of its own (R547). -/
def State.setDropped (s : State) : State :=
  if s.islandOn .mgt then s.setReg Reg.evtCause (putBit (s.reg Reg.evtCause) 1 true) else s

/-- Queue an event record: up to 1,024 in the MGT bank, or up to 64 in AON retention before the log can be written
(R547). A full log or a full queue loses it (R547, R549). -/
def State.event (s : State) (ty : Nat) (detail : List Byte) : State :=
  if !s.evt.ready then
    if s.evt.deferred.length < 64 then
      { s with evt := { s.evt with deferred := s.evt.deferred ++ [s.evRec ty detail], seq := s.evt.seq + 1 } }
    else { s with evt := s.evt.lose }
  else if s.evt.full && s.evt.clearing.isNone then { s with evt := s.evt.lose }
  else if s.evt.queue.length < 1024 then
    { s with evt := { s.evt with queue := s.evt.queue ++ [s.evRec ty detail], seq := s.evt.seq + 1 } }
  else ({ s with evt := s.evt.lose }).setDropped

/-- Detail words of a leaf's event record: the information registers its chapter lists (R546). -/
def State.leafDetail (s : State) (l : Leaf) : List Byte :=
  match l with
  | .mediaExc => leBytes 4 (s.reg Reg.ldgExcInfo).toNat
  | .memCause => leBytes 4 (s.reg Reg.memErrAddr).toNat ++ leBytes 4 (s.reg (Reg.memErrAddr + 4)).toNat ++
      leBytes 4 (s.reg Reg.memErrInfo).toNat
  | .srmCause => leBytes 4 (s.reg Reg.srmErrInfo).toNat
  | _ => []

/-- Hardware sets bit `b` of a leaf (R541): the bit latches if its island is on, its event record is queued, and the
change propagates. A bit that is already set stays set and gives no further record (log entry 72). The record of a leaf whose
island is off is queued though the bit is lost (R555). -/
def State.raise (s : State) (l : Leaf) (b : Nat) : State :=
  if bitOf (s.reg (leafReg l)) b then s
  else
    let s1 := if s.islandOn (leafIsland l) then s.setReg (leafReg l) (s.reg (leafReg l) ||| oneBit b) else s
    treeSync s (s1.event (0x8000 + 1024 * (leafPlace l).1 + 32 * (leafPlace l).2 + b) (s1.leafDetail l))

/-- Set a leaf bit with an event record of its own details, written each time: where a rule says that the device writes one. -/
def State.raiseWith (s : State) (l : Leaf) (b : Nat) (detail : List Byte) : State :=
  let s1 := if s.islandOn (leafIsland l) then s.setReg (leafReg l) (s.reg (leafReg l) ||| oneBit b) else s
  treeSync s (s1.event (0x8000 + 1024 * (leafPlace l).1 + 32 * (leafPlace l).2 + b) detail)

/-- Set a leaf bit with its event record, written each time. -/
def State.raiseEach (s : State) (l : Leaf) (b : Nat) : State := s.raiseWith l b (s.leafDetail l)

/-- Raise several bits of one leaf, lowest first. -/
def State.raiseAll (s : State) (l : Leaf) : List Nat → State
  | [] => s
  | b :: bs => (s.raise l b).raiseAll l bs

/-- Set or clear a level bit (an RO leaf bit that follows a condition: RESP_PENDING, TALLY_RECOMPUTE). -/
def State.levelBit (s : State) (l : Leaf) (b : Nat) (v : Bool) : State :=
  if v then s.raise l b
  else if bitOf (s.reg (leafReg l)) b then treeSync s (s.setReg (leafReg l) (putBit (s.reg (leafReg l)) b false))
  else s

/-! ## Reset of registers (R543, R570) -/

/-- The register at `o` is held in island `i`. -/
def regIn (i : Island) (o : Nat) : Bool := decide (regIsland o = some i)

/-- A leaf register or its mask. -/
def isLeafReg (o : Nat) : Bool := allLeaves.any (fun l => decide (leafReg l = o) || decide (leafReg l + 4 = o))

/-- Leaves and masks of islands that `off` names lose their bits (R543). -/
def State.dropLeaves (s : State) (off : Island → Bool) : State :=
  s.resetRegs (fun o => isLeafReg o && (match regIsland o with | some i => off i | none => false))

/-- Registers returned to reset by a restart through STRAP from DRAIN or MAINTENANCE: all except the AON_ block,
MGT_I3C_STATUS and the PWR_ time registers, which have their home outside the register words (R570). -/
def restartResets (o : Nat) : Bool := decide (0x10000 ≤ o) && decide (o ≠ Reg.mgtI3cStatus)

/-- Registers returned to reset when STRAP is entered from OFF with POR_N high: all except AON_START_CAUSE and
AON_BOARD_CAUSE (R570). -/
def offResets (o : Nat) : Bool := decide (o ≠ Reg.aonStartCause) && decide (o ≠ Reg.aonBoardCause)

/-- Registers returned to reset by a wake from HIBERNATE: those of every island that is off there (R570). -/
def wakeResets (o : Nat) : Bool := !regIn .aon o

/-! ## Mode changes (R74, R77) -/

/-- Modes whose entry writes a mode-change record, and those whose exit does (R546 TYPE 0x0004). -/
def modeRecorded (old new : Mode) : Bool :=
  match new with
  | .drain => true | .flush => true | .doze => true | .hibernate => true | .maintenance => true | .off => true
  | _ => decide (old = .doze) || decide (old = .hibernate)

/-- The causes of mode changes that the mode chapters name. -/
inductive ModeCause where
  | none | ploss | pwrGood | thermal | por | shutdown | restart | management | flushDone | sleep | wake | straps | cal | dram
  | slots | resume
deriving DecidableEq, Repr

/-- Which of them it is, for its code in the record, which the manual does not state. -/
def causeCode : ModeCause → Nat
  | .none => 0 | .ploss => 1 | .pwrGood => 2 | .thermal => 3 | .por => 4 | .shutdown => 5 | .restart => 6
  | .management => 7 | .flushDone => 8 | .sleep => 9 | .wake => 10 | .straps => 11 | .cal => 12 | .dram => 13
  | .slots => 14 | .resume => 15

/-- Change the mode: PREV_MODE and the phase start follow, the record of R546 is written, and the cause tree is judged
again, since leaves of unpowered islands no longer count. -/
def State.enter (s : State) (m : Mode) (c : ModeCause) : State :=
  let s1 := if modeRecorded s.mode m then
      s.event 0x0004 (leBytes 1 (modeCode s.mode) ++ leBytes 1 (modeCode m) ++ leBytes 2 (Config.modeCause (causeCode c)).toNat) else s
  let s2 : State := { s1 with mode := m, prevMode := s.mode, boot := { s1.boot with phaseStart := s1.ldg.tick } }
  treeSync s (s2.dropLeaves (fun i => decide (islandPower m s2.pins.porN i = .off)))

end Sys2Proof.Machine
end

