-- ==== Sys2Proof/Machine/ImageFmt.lean ====
section
/-!
DEFINITION. What the bytes of an Esvia image spell: header, directory and signature section (R114, R115, R119), geometry (R117),
plan set (R194 to R200), account table (R327, R328), verify table (R258, R259), recipes (R479, R480) and thresholds (R521, R522).
Multi-byte fields are little-endian (R7).
-/
namespace Sys2Proof.Machine

/-! ## Reading bytes -/

/-- A field of `n` bytes at offset `o` of the bytes `f`. -/
def leAt (f : Nat → Byte) (o : Nat) : Nat → Nat
  | 0 => 0
  | n + 1 => (f o).toNat + 256 * leAt f (o + 1) n

/-- The `n` bytes from offset `o` on. -/
def bytesAt (f : Nat → Byte) (o : Nat) : Nat → List Byte
  | 0 => []
  | n + 1 => f o :: bytesAt f (o + 1) n

/-- The `n` bytes from offset `o` on are all zero. -/
def zeroAt (f : Nat → Byte) (o : Nat) : Nat → Bool
  | 0 => true
  | n + 1 => decide (f o = 0) && zeroAt f (o + 1) n

/-- The bits of a number from bit `lo` up, `width` of them. -/
def bitsAt (v lo width : Nat) : Nat := v / 2 ^ lo % 2 ^ width

/-- The bytes of a section that begins at offset `o`. -/
def fromOff (f : Nat → Byte) (o : Nat) : Nat → Byte := fun i => f (o + i)

/-! ## Header and directory (R114, R115) -/

/-- Directory entry `k`. -/
def readDirEntry (f : Nat → Byte) (k : Nat) : DirEntry :=
  let o := 0x40 + 64 * k
  { type := leAt f o 2, offset := leAt f (o + 4) 4, length := leAt f (o + 8) 4,
    reservedZero := zeroAt f (o + 2) 2 && zeroAt f (o + 12) 4, digest := BitVec.ofNat 384 (leAt f (o + 16) 48),
    computed := Config.sha384 (bytesAt f (leAt f (o + 4) 4) (leAt f (o + 8) 4)) }

/-! ## Geometry (R117) -/

/-- Die group `g`: 16 die addresses. -/
def readGroup (f : Nat → Byte) (g : Nat) : List DieAddr :=
  (List.range 16).map (fun i => BitVec.ofNat 10 (leAt f (0x40 + 32 * g + 2 * i) 2))

def readGeometry (f : Nat → Byte) : Geometry :=
  let n := leAt f 0x14 1
  { chPresent := BitVec.ofNat 32 (leAt f 0 4), cePresent := BitVec.ofNat 128 (leAt f 4 16), flashMts := leAt f 0x16 2,
    flashId := BitVec.ofNat 64 (leAt f 0x18 8), dramGib := leAt f 0x20 2, dramRanks := leAt f 0x22 1, dramKept := bitOf (f 0x23) 0,
    dramMts := leAt f 0x24 2, coverMib := leAt f 0x26 2, pcieFlags := f 0x28, totalVfs := leAt f 0x2A 2,
    groups := (List.range (min n 64)).map (readGroup f),
    reservedZero := zeroAt f 0x15 1 && decide (bitsAt (leAt f 0x23 1) 1 7 = 0) && decide (bitsAt (leAt f 0x28 1) 4 4 = 0) &&
      zeroAt f 0x29 1 && zeroAt f 0x2C 20 && decide (n ≤ 64) &&
      (List.range (16 * min n 64)).all (fun i => decide (bitsAt (leAt f (0x40 + 2 * i) 2) 10 6 = 0)) &&
      zeroAt f (0x40 + 32 * n) (32 * (64 - n)) && zeroAt f 0x840 1984 }

/-! ## Plan set (R194 to R200) -/

/-- An entry record of 8 bytes (R200). -/
def readEntry (w : Nat) : EntryRec :=
  { start := bitsAt w 0 7, length := bitsAt w 7 8, type := bitsAt w 15 4, cls := bitsAt w 19 4, admCode := bitsAt w 23 4,
    door := bitsAt w 27 2, mask := BitVec.ofNat 4 (bitsAt w 29 4), reservedZero := decide (bitsAt w 33 31 = 0) }

/-- A template of 1,040 bytes (R199). -/
def readTemplate (f : Nat → Byte) : Template :=
  let n := leAt f 0 2
  { entryCount := n, records := (List.range (min n 128)).map (fun k => readEntry (leAt f (16 + 8 * k) 8)),
    restZero := zeroAt f 2 14 && zeroAt f (16 + 8 * n) (8 * (128 - n)) }

/-- A class entry of 16 bytes (R197). -/
def readClass (f : Nat → Byte) : ClassEntry :=
  { seated := bitOf (f 0) 0, depth := bitsAt (leAt f 0 1) 1 6 + 1, doors := BitVec.ofNat 4 (leAt f 1 1), maxGap := leAt f 2 2,
    rdSupply := leAt f 4 4, wrSupply := leAt f 8 4,
    reservedZero := !bitOf (f 0) 7 && decide (bitsAt (leAt f 1 1) 4 4 = 0) && zeroAt f 12 4 }

/-- A die map entry of 2 bytes (R198). -/
def readDieMap (w die : Nat) : DieMapEntry :=
  { die := die, template := bitsAt w 0 6, phase := bitsAt w 6 7, reservedZero := decide (bitsAt w 13 2 = 0), used := decide (bitsAt w 15 1 = 1) }

/-- A variant from its own start (R196). -/
def readVariant (f : Nat → Byte) : Variant :=
  let form := leAt f 7 1
  let eth := leAt f 8 1
  { magic := leAt f 0 4, plan := leAt f 4 1, level := leAt f 5 1, templateCount := leAt f 6 1,
    pcieGen := bitsAt form 0 3, pcieWidth := bitsAt form 3 2, ipv6 := decide (bitsAt eth 0 1 = 1), tagged := decide (bitsAt eth 1 1 = 1),
    mps := leAt f 9 1, classTbl := (List.range 14).map (fun c => readClass (fromOff f (0x40 + 16 * c))),
    domainCap := (List.range 8).map (fun d => leAt f (0x120 + 4 * d) 4),
    dieMap := ((List.range 1024).filter (fun d => decide (leAt f (0x200 + 2 * d) 2 ≠ 0))).map
      (fun d => readDieMap (leAt f (0x200 + 2 * d) 2) d),
    templates := (List.range (leAt f 6 1)).map (fun t => readTemplate (fromOff f (0xA00 + 1040 * t))),
    reservedZero := decide (bitsAt form 5 3 = 0) && decide (bitsAt eth 2 6 = 0) && zeroAt f 10 54 && zeroAt f 0x140 192 }

/-- Entry `i` of VAR_DIR: OFFSET and LENGTH. -/
def readVarDir (f : Nat → Byte) (i : Nat) : Nat × Nat := (leAt f (0x40 + 8 * i) 4, leAt f (0x44 + 8 * i) 4)

/-- The plan set section, of `len` bytes (R194). -/
def readPlanSet (f : Nat → Byte) (len : Nat) : PlanSet :=
  let start := leAt f 7 1
  { magic := leAt f 0 4, format := leAt f 4 2, planCount := leAt f 6 1, startPlan := bitsAt start 0 2, startLevel := bitsAt start 2 2,
    domainCount := leAt f 8 1, domainCh := (List.range 8).map (fun d => BitVec.ofNat 32 (leAt f (0x10 + 4 * d) 4)),
    varDir := (List.range 16).map (readVarDir f),
    curModel := (List.range 16).map (fun t => (leAt f (0xC0 + 4 * t) 2, leAt f (0xC2 + 4 * t) 2)),
    variants := ((List.range 16).filter (fun i => decide (readVarDir f i ≠ (0, 0)))).map
      (fun i => (i, readVariant (fromOff f (readVarDir f i).1))),
    sectionBytes := len, reservedZero := decide (bitsAt start 4 4 = 0) && zeroAt f 9 7 && zeroAt f 0x30 16 }

/-! ## Account table (R327, R328) -/

/-- MAX_QP to CREDIT, 52 bytes that a limit entry and an account entry share (R328, R330). -/
def readLimits (f : Nat → Byte) : MemberLimits :=
  { maxQp := leAt f 0 2, maxInflight := leAt f 2 2, keyBase := leAt f 4 2, keyCount := leAt f 6 2, zoneQuota := leAt f 8 4,
    convQuota := leAt f 12 2, maxActive := leAt f 14 2,
    credit := (List.range 4).map (fun l => ⟨leAt f (16 + 9 * l) 3, leAt f (19 + 9 * l) 3, leAt f (22 + 9 * l) 3⟩) }

def readLimitEntry (f : Nat → Byte) : LimitEntry :=
  { bindAtLoad := bitOf (f 0) 0, logOk := bitOf (f 0) 1, netOk := bitOf (f 0) 2, mintOk := bitOf (f 0) 3,
    defaultClass := bitsAt (leAt f 1 1) 0 4, classMask := BitVec.ofNat 14 (leAt f 2 2), lim := readLimits (fromOff f 4),
    reservedZero := decide (bitsAt (leAt f 0 1) 4 4 = 0) && decide (bitsAt (leAt f 1 1) 4 4 = 0) && decide (bitsAt (leAt f 2 2) 14 2 = 0) }

def readAccounts (f : Nat → Byte) (len : Nat) : AccountTable :=
  { magic := leAt f 0 4, format := leAt f 4 2, reservedZero := zeroAt f 6 58,
    entries := (List.range 2112).map (fun a => readLimitEntry (fromOff f (64 + 56 * a))), sectionBytes := len }

/-! ## Verify table (R258, R259) -/

def readBand (f : Nat → Byte) : VerifyBand :=
  { eraseMax := leAt f 0 4, qlcOffset := (List.range 15).map (fun i => signed 8 (leAt f (4 + i) 1)), slcOffset := signed 8 (leAt f 0x13 1),
    pageMask := BitVec.ofNat 4 (leAt f 0x14 1), planeMask := BitVec.ofNat 4 (leAt f 0x15 1), verifyMaxBits := leAt f 0x16 2,
    refreshMaxBits := leAt f 0x18 2, retentionDays := leAt f 0x1A 2, disturbReads := leAt f 0x1C 4,
    reservedZero := decide (bitsAt (leAt f 0x14 1) 4 4 = 0) && decide (bitsAt (leAt f 0x15 1) 4 4 = 0) }

def readVerify (f : Nat → Byte) (len : Nat) : VerifyTable :=
  let n := leAt f 6 1
  { magic := leAt f 0 4, format := leAt f 4 2, bands := (List.range n).map (fun b => readBand (fromOff f (64 + 32 * b))),
    softStep := leAt f 7 1, reservedZero := zeroAt f 8 56, lengthOk := decide (len = 64 + 32 * n) }

/-! ## Recipes (R479, R480) -/

def readLane (w : Nat) : LaneBind :=
  { cls := bitsAt w 0 4, door := match bitsAt w 4 2 with | 0 => .pcie | 1 => .eth0 | _ => .eth1, enabled := decide (bitsAt w 6 1 = 1),
    reservedZero := decide (bitsAt w 7 25 = 0) && decide (bitsAt w 4 2 ≠ 3) }

/-- The recipe record at offset `o` of a section of `len` bytes, whose directory entry states `n` bytes. -/
def readRecipe (f : Nat → Byte) (len o n : Nat) : Recipe :=
  let g := fromOff f o
  let cfg := leAt g 0x16 2
  { input := leAt g 0 1, output := leAt g 1 1, protect := leAt g 2 1, codec := leAt g 3 1, ivMode := bitOf (g 4) 0, cost := leAt g 5 1,
    timescale := leAt g 8 4, trackId := leAt g 0xC 4, tsPid := leAt g 0x10 2, tsPmtPid := leAt g 0x12 2, tsProgram := leAt g 0x14 2,
    configBytes := cfg, reservedZero := decide (bitsAt (leAt g 4 1) 1 7 = 0) && zeroAt g 6 2 && zeroAt g 0x18 8,
    placed := decide (o % 64 = 0) && decide (n = (32 + cfg + 63) / 64 * 64) && decide (o + n ≤ len) }

def readRecipes (f : Nat → Byte) (len : Nat) : Recipes :=
  { magic := leAt f 0 4, format := leAt f 4 2, recipeCount := leAt f 6 1, reservedZero := zeroAt f 7 57,
    lanes := (List.range 16).map (fun l => readLane (leAt f (0x40 + 4 * l) 4)),
    records := (List.range 64).map (fun r =>
      if leAt f (0x80 + 8 * r) 8 = 0 then none else some (readRecipe f len (leAt f (0x80 + 8 * r) 4) (leAt f (0x84 + 8 * r) 4))) }

/-! ## Thresholds (R521, R522) -/

def readLoop (f : Nat → Byte) : LoopCfg :=
  { enabled := bitOf (f 0) 0, settleMv := leAt f 1 1, corrMax := leAt f 2 2, kp := BitVec.ofNat 16 (leAt f 4 2),
    ki := BitVec.ofNat 16 (leAt f 6 2), kd := BitVec.ofNat 16 (leAt f 8 2), vel := leAt f 0xA 2, acc := leAt f 0xC 2, jerk := leAt f 0xE 2,
    setpoint := leAt f 0x10 2, outMin := leAt f 0x12 2, outMax := leAt f 0x14 2,
    reservedZero := decide (bitsAt (leAt f 0 1) 1 7 = 0) && zeroAt f 0x16 42 }

def readThresholds (f : Nat → Byte) (len : Nat) : Thresholds :=
  { magic := leAt f 0 4, format := leAt f 4 2, tWarn := leAt f 8 1, tThrottle := leAt f 9 1, tShut := leAt f 0xA 1, hyst := leAt f 0xB 1,
    riseRate := leAt f 0xC 2, riseTime := leAt f 0xE 1, govCap := bitOf (f 0xF) 0, peRated := leAt f 0x10 2, lifeDays := leAt f 0x12 2,
    rsvRt := leAt f 0x14 4, rsvVmin := leAt f 0x18 2, rsvPf := leAt f 0x1C 4, ethCr1 := (bitOf (f 0x20) 0, bitOf (f 0x20) 1),
    dataPrio := bitsAt (leAt f 0x21 1) 0 3, cnpPrio := bitsAt (leAt f 0x21 1) 4 3, vlan0 := BitVec.ofNat 16 (leAt f 0x24 2),
    vlan1 := BitVec.ofNat 16 (leAt f 0x26 2), loops := (List.range 4).map (fun n => readLoop (fromOff f (0x40 + 64 * n))),
    reservedZero := zeroAt f 6 2 && decide (bitsAt (leAt f 0xF 1) 1 7 = 0) && zeroAt f 0x1A 2 && decide (bitsAt (leAt f 0x20 1) 2 6 = 0) &&
      !bitOf (f 0x21) 3 && !bitOf (f 0x21) 7 && zeroAt f 0x22 2 && zeroAt f 0x28 24 && zeroAt f 0x140 3776,
    sectionBytes := len }

/-! ## The image -/

/-- The image that the bytes `f` spell (R114 to R119): sections are found by the position of their entry, which check 4 of R120 ties to
their type. -/
def readImage (f : Nat → Byte) : Image :=
  let dir := (List.range 8).map (readDirEntry f)
  let off (k : Nat) : Nat := leAt f (0x44 + 64 * k) 4
  let len (k : Nat) : Nat := leAt f (0x48 + 64 * k) 4
  let sec (k : Nat) : Nat → Byte := fromOff f (off k)
  let head := Config.sha384 (bytesAt f 0 0x440)
  let key := bytesAt (sec 7) 0xC8 97
  { magic := leAt f 0 4, format := leAt f 4 2, sectionCount := leAt f 6 2, imageBytes := leAt f 8 4,
    fwRelease := BitVec.ofNat 32 (leAt f 0xC 4), targetPart := BitVec.ofNat 32 (leAt f 0x10 4),
    kryconVersion := BitVec.ofNat 32 (leAt f 0x14 4), imageId := BitVec.ofNat 64 (leAt f 0x18 8), buildTime := BitVec.ofNat 64 (leAt f 0x20 8),
    reservedZero := zeroAt f 0x28 24, dir := dir, dirTailZero := zeroAt f 0x240 512, headDigest := head,
    sigMagic := leAt (sec 7) 0 4, sigReservedZero := zeroAt (sec 7) 4 4 && zeroAt (sec 7) 0x129 3799,
    fwSigOk := Config.ecdsaOk Config.lemlariKey (BitVec.ofNat 384 (leAt f 0x50 48)) (bytesAt (sec 7) 8 96),
    keyDigest := Config.sha384 key, imageSigOk := Config.ecdsaOk key head (bytesAt (sec 7) 0x68 96),
    planSet := readPlanSet (sec 1) (len 1), accounts := readAccounts (sec 2) (len 2), geometry := readGeometry (sec 3),
    verify := readVerify (sec 4) (len 4), recipes := readRecipes (sec 5) (len 5), thresholds := readThresholds (sec 6) (len 6) }

end Sys2Proof.Machine
end

