-- ==== Sys2Proof/Machine/Nor.lean ====
section
/-!
DEFINITION. The boot flash (spec 04): the NOR map, slot verification and choice (R118 to R122), starting and ending a
program or an erase (R109 to R113, R127, R130), the firmware update (R123 to R125, R553, R554), and the log clear's own
operations (R550).
-/
namespace Sys2Proof.Machine

/-! ## The NOR map (R107) -/

/-- First byte of a slot's image area, and of its control sector. -/
def slotBase : Slot → Nat
  | .a => 0 | .b => 0x04000000
def slotControl : Slot → Nat
  | .a => 0x03FF0000 | .b => 0x07DE0000

/-- The bank of a NOR address (R108). -/
def norBank (a : Nat) : Nat := if a < 0x04000000 then 0 else 1

/-- Largest image (R107). -/
def maxImage : Nat := 64880640

/-- The bytes of a slot from its start (R107), and the image that they spell. -/
def State.slotBytes (s : State) (x : Slot) : Nat → Byte := fun i => s.norByte (slotBase x + i)

def State.slotImage (s : State) (x : Slot) : Image := readImage (s.slotBytes x)

/-- The bytes of the staged image, and the image that they spell. -/
def State.stagedBytes (s : State) : Nat → Byte := fun i => memRead memDefault s.nor.staged i

def State.stagedImage (s : State) : Image := readImage s.stagedBytes

/-- STAGE_DIGEST of the staged bytes: the first 44 bytes of the SHA-384 of offsets 0x000 to 0x43F (R124). -/
def State.stageDigest (s : State) : BitVec 352 := (Config.sha384 (bytesAt s.stagedBytes 0 0x440)).setWidth 352

def otherSlot : Slot → Slot
  | .a => .b | .b => .a

/-- BOOT_SLOT of AON_MODE as a slot (R102). -/
def State.bootSlot (s : State) : Option Slot :=
  match s.fld Reg.aonMode 13 2 with
  | 1 => some .a | 2 => some .b | _ => none

/-- The slot not booted: slot B when none is booted. -/
def State.targetSlot (s : State) : Slot :=
  match s.bootSlot with
  | some x => otherSlot x
  | none => .b

/-- Half-open ranges meet. -/
def meets (a n b m : Nat) : Bool := decide (a < b + m) && decide (b < a + n)

/-! ## Verification (R118, R120) -/

/-- Population count of the low `n` bits. -/
def popCount (v : Nat) : Nat → Nat
  | 0 => 0
  | n + 1 => v % 2 + popCount (v / 2) n

def dieCh (d : DieAddr) : Nat := d.toNat % 32
def dieCe (d : DieAddr) : Nat := (d.toNat / 32) % 4
/-- A die lies on a present channel and chip enable. -/
def hasDie (g : Geometry) (d : DieAddr) : Bool :=
  g.chPresent.getLsbD (dieCh d) && g.cePresent.getLsbD (4 * dieCh d + dieCe d)

/-- A list names nothing twice. -/
def distinct {α : Type} [DecidableEq α] : List α → Bool
  | [] => true
  | x :: xs => !xs.contains x && distinct xs

/-- The fields of R117 within the ranges that it states, and its reserved fields 0 (log entry 147). -/
def geometryShape (g : Geometry) : Bool :=
  g.reservedZero && decide (1 ≤ g.groups.length) && decide (800 ≤ g.flashMts) && decide (g.flashMts ≤ 3600) &&
  (List.range 32).all (fun n => [0x0, 0x1, 0x3, 0x7, 0xF].contains (getField g.cePresent (4 * n) 4)) &&
  decide (8 ≤ g.dramGib) && decide (g.dramGib ≤ 64) && decide (1 ≤ g.dramRanks) && decide (g.dramRanks ≤ 2) &&
  decide (3200 ≤ g.dramMts) && decide (g.dramMts ≤ 6400) && decide (g.dramMts % 400 = 0) && decide (1 ≤ g.coverMib) &&
  decide (g.coverMib ≤ 2048) && decide (1 ≤ getField g.pcieFlags 1 3) && decide (getField g.pcieFlags 1 3 ≤ 5) &&
  decide (g.totalVfs ≤ 2047)

/-- The geometry section is consistent (R118), held against the calibration row. -/
def State.geometryOk (s : State) (g : Geometry) : Bool :=
  geometryShape g &&
  g.groups.all (fun ds => decide (ds.length = 16) && distinct (ds.map dieCh)) &&
  distinct g.groups.flatten &&
  g.groups.flatten.all (hasDie g) &&
  decide (g.groups.flatten.length = 8 * popCount g.cePresent.toNat 128) &&
  decide (g.dramGib = s.calDramGib) && decide (g.dramRanks = s.calRanks) && decide (g.dramMts ≤ s.calMaxMts)

/-- Largest length of a section by its position (R116). -/
def sectionLimit : List Nat :=
  [32 * 1048576, 3968 * 1024, 128 * 1024, 4096, 65536, 1048576, 4096, 4096]

/-- Section types in order (R116). -/
def sectionTypes : List Nat := [1, 2, 3, 4, 5, 6, 7, 15]

/-- Offsets ascend and sections do not overlap, an empty section included. -/
def dirAscends : List DirEntry → Bool
  | [] => true
  | [_] => true
  | a :: b :: r => decide (a.offset < b.offset) && decide (a.offset + a.length ≤ b.offset) && dirAscends (b :: r)

/-- The directory is as R115 and R116 state (check 4 of R120). -/
def dirOk (im : Image) : Bool :=
  decide (im.dir.map (·.type) = sectionTypes) && im.dirTailZero &&
  im.dir.all (fun e => e.reservedZero && decide (e.offset % 4096 = 0) && decide (4096 ≤ e.offset) &&
    decide (e.offset + e.length ≤ im.imageBytes)) &&
  (im.dir.zip sectionLimit).all (fun p => decide (p.1.length ≤ p.2)) &&
  dirAscends im.dir &&
  (match im.dir.getLast? with | some e => decide (e.offset + e.length = im.imageBytes) && decide (e.digest = 0) | none => false)

/-- Every computed section digest equals its DIGEST; the signature section has none (check 5 of R120). -/
def digestsOk (im : Image) : Bool := (im.dir.take 7).all (fun e => decide (e.digest = e.computed))

/-- FW_SIG is valid, in a signature section that is as R119 states (check 6 of R120, log entry 148). -/
def fwSigned (im : Image) : Bool := decide (im.sigMagic = 0x4E474953) && im.sigReservedZero && im.fwSigOk

/-- Header fields (check 2 of R120). -/
def headerOk (im : Image) : Bool :=
  decide (im.magic = 0x41565345) && decide (im.format = 1) && decide (im.sectionCount = 8) && im.reservedZero &&
  decide (im.imageBytes % 4096 = 0) && decide (im.imageBytes ≤ maxImage)

/-- The first failing check of R120 from `lo` up to `hi`, 0 if all pass. -/
def State.imageReason (s : State) (im : Image) (lo hi : Nat) : Nat :=
  let checks : List (Nat × Bool) :=
    [(2, headerOk im), (3, decide (im.targetPart = 0x049000B1#32)), (4, dirOk im),
     (5, digestsOk im), (6, fwSigned im),
     (7, decide (im.keyDigest = s.calKeyHash) && im.imageSigOk), (8, s.geometryOk im.geometry)]
  match checks.find? (fun c => decide (lo ≤ c.1) && decide (c.1 ≤ hi) && !c.2) with
  | some c => c.1
  | none => 0

/-- The reason of R120 for a slot as it stands, 0 where it passes. -/
def State.slotReason (s : State) (x : Slot) : Nat := s.imageReason (s.slotImage x) 2 8

/-! ## Markers and progress records (R121, R122, R124) -/

/-- COMMIT_SEQ of a slot's commit marker where it is valid (R121): its magic and CRC, its range, and IMAGE_BYTES and HEAD_DIGEST against
the slot as it stands. -/
def State.markerSeq (s : State) (x : Slot) : Option Nat :=
  let f : Nat → Byte := fun i => s.norByte (slotControl x + i)
  let seq := leAt f 4 4
  if decide (leAt f 0 4 = 0x544D4D43) && decide (1 ≤ seq) && decide (seq ≤ 0xFFFFFFFE) &&
    decide ((crc32c (bytesAt f 0 0x3C)).toNat = leAt f 0x3C 4) && decide (leAt f 8 4 = leAt (s.slotBytes x) 8 4) &&
    decide (BitVec.ofNat 384 (leAt f 0xC 48) = Config.sha384 (bytesAt (s.slotBytes x) 0 0x440)) then some seq else none

/-- The highest COMMIT_SEQ of any valid marker, 0 if none is valid. -/
def State.highSeq (s : State) : Nat := max ((s.markerSeq .a).getD 0) ((s.markerSeq .b).getD 0)

/-- The candidates of R122, in order: highest COMMIT_SEQ first, slot A first on equal values. -/
def State.slotCands (s : State) : List Slot :=
  match s.markerSeq .a, s.markerSeq .b with
  | some x, some y => if x ≥ y then [.a, .b] else [.b, .a]
  | some _, none => [.a]
  | none, some _ => [.b]
  | none, none => []

/-- Address of the place of progress record `k` (R124). -/
def progAddr (x : Slot) (k : Nat) : Nat := slotControl x + 0x1000 + 64 * k

/-- Places of progress records up to the last one that is not blank; the control sector holds 960. -/
def State.progUsed (s : State) (x : Slot) : Nat :=
  maxOf ((s.nor.mem.filter (fun c => decide (progAddr x 0 ≤ c.1) && decide (c.1 < progAddr x 960))).map
    (fun c => (c.1 - progAddr x 0) / 64 + 1))

/-- The progress record at place `k`, where its magic and its CRC are right. -/
def State.progRec (s : State) (x : Slot) (k : Nat) : Option Progress :=
  let f : Nat → Byte := fun i => s.norByte (progAddr x k + i)
  if decide (leAt f 0 4 = 0x474F5250) && decide ((crc32c (bytesAt f 0 0x3C)).toNat = leAt f 0x3C 4) then
    some ⟨leAt f 4 4, leAt f 8 1, leAt f 0xC 4, BitVec.ofNat 352 (leAt f 0x10 44)⟩
  else none

/-- The current progress record: the last one with a valid CRC (R124). -/
def State.progress (s : State) (x : Slot) : Option Progress := (List.range (s.progUsed x)).reverse.findSome? (s.progRec x)

/-! ## Operations (R109 to R113) -/

/-- Bytes that an operation covers. -/
def opRange (k : NorKind) (addr pages : Nat) : Nat × Nat :=
  match k with
  | .program => (addr, 256 * pages)
  | .subsector => (addr / 4096 * 4096, 4096)
  | .sector => (addr / 65536 * 65536, 65536)

/-- A program lies within one sector, on a 256-byte boundary, 1 to 256 pages long (R109). -/
def opShapeOk (k : NorKind) (addr pages : Nat) : Bool :=
  match k with
  | .program => decide (addr % 256 = 0) && decide (1 ≤ pages) && decide (pages ≤ 256) &&
      decide (addr / 65536 = (addr + 256 * pages - 1) / 65536)
  | _ => true

/-- The range touches the calibration sector, and is not a program of a calibration row that is blank (R113). -/
def State.calLocked (s : State) (k : NorKind) (addr pages : Nat) : Bool :=
  let r := opRange k addr pages
  meets r.1 r.2 0x07FF0000 0x10000 &&
  !(decide (k = .program) && decide (r.1 + r.2 ≤ 0x07FF1000) && decide (0x07FF0000 ≤ r.1) && s.calBlank)

/-- XIP_GUARD refuses a start on the bank of the MP's latest fetch (R111). -/
def State.xipRefuses (s : State) (addr : Nat) : Bool :=
  bitOf (s.reg Reg.xipGuard) 0 && decide (s.fld Reg.xipGuard 1 2 = norBank addr + 1)

/-- The bytes of a program stand at NOR_OP_SRC: 256-byte aligned, in the MGT bank or in the DRAM window (R129, R568), which reaches the
populated DRAM only while it is powered (R569). -/
def State.srcOk (s : State) (pages : Nat) : Bool :=
  let src := (s.reg Reg.norOpSrc).toNat
  let n := 256 * pages
  let dram := 2 ^ 31 * s.fld Reg.mgtDramWin 0 5 + (src - 2 ^ 31)
  decide (src % 256 = 0) &&
    (decide (src + n ≤ 2 * 2 ^ 20) ||
     (decide (2 ^ 31 ≤ src) && decide (src + n ≤ 2 ^ 32) && s.islandOn .mem && decide (dram + n ≤ s.calDramGib * 2 ^ 30)))

/-- The refusal reason of a start by the MP, 0 for none: checks in the order of their codes (log entry 12). -/
def State.norRefusal (s : State) (k : NorKind) (addr pages : Nat) : Nat :=
  if s.nor.op.isSome then 1
  else if s.calLocked k addr pages then 2
  else if s.xipRefuses addr then 3
  else if !opShapeOk k addr pages || (decide (k = .program) && !s.srcOk pages) then 4
  else 0

/-- The MP's latest instruction fetch came from this NOR address, or from outside the NOR window. -/
def State.setFetchBank (s : State) (f : Option Nat) : State :=
  s.setFld Reg.xipGuard 1 2 (match f with | some a => norBank a + 1 | none => 0)

/-- An operation of the MP begins: RESULT and REFUSE_REASON read 0 (R130). -/
def State.norBegin (s : State) (o : NorOp) : State :=
  let s1 := (s.setFld Reg.norOpStatus 2 2 0).setFld Reg.norOpStatus 4 3 0
  { s1 with nor := { s1.nor with op := some o } }

/-- The MP starts an operation by NOR_OP_CMD (R109, R111, R113, R129). -/
def State.norStart (s : State) (k : NorKind) (pages : Nat) (data : List Byte) (fetch : Option Nat) : State :=
  let s := s.setFetchBank fetch
  let addr := s.fld Reg.norOpAddr 0 27
  match s.norRefusal k addr pages with
  | 0 => s.norBegin ⟨.mp, k, addr, data.take (256 * pages)⟩
  | r =>
    let s := (s.setFld Reg.norOpStatus 2 2 1).setFld Reg.norOpStatus 4 3 r
    if r = 2 then s.raise .norCause 2 else if r = 3 then s.raise .norCause 1 else s

/-! ## What an operation leaves in the device -/

/-- Programming clears bits: the byte becomes the AND of what stands there and the data (log entry 13). -/
def progBytes (m : List Host.Cell) : Nat → List Byte → List Host.Cell
  | _, [] => m
  | a, b :: bs => progBytes (memWrite norDefault m a (memRead norDefault m a &&& b)) (a + 1) bs

/-- Free contents: what R127 leaves undefined. -/
def freeFill (m : List Host.Cell) (seed : Nat) (a : Nat) : Nat → List Host.Cell
  | 0 => m
  | n + 1 => freeFill (memWrite norDefault m a (Config.freeByte (seed + n))) seed (a + 1) n

/-- The bytes from `a` on, `n` of them, are erased. -/
def eraseBytes (m : List Host.Cell) (a n : Nat) : List Host.Cell :=
  m.filter (fun c => !(decide (a ≤ c.1) && decide (c.1 < a + n)))

/-- Records of the log in the bytes `a` to `a + n - 1` are lost: an erase frees them, and a program leaves them with a failing CRC. -/
def State.logTouch (s : State) (a n : Nat) (erase : Bool) : State :=
  let lo := 0x07DF0000
  let keep : List (Nat × EvRec) :=
    if erase then s.evt.log.filter (fun e => !meets a n (lo + 64 * e.1) 64)
    else omap (fun i (r : EvRec) => if meets a n (lo + 64 * i) 64 then { r with crcOk := false } else r) s.evt.log
  { s with evt := { s.evt with log := keep } }

/-- The device contents after a successful operation on raw bytes. -/
def State.norApply (s : State) (o : NorOp) : State :=
  let r := opRange o.kind o.addr ((o.data.length + 255) / 256)
  match o.kind with
  | .program =>
    let s := s.logTouch r.1 r.2 false
    { s with nor := { s.nor with mem := progBytes s.nor.mem o.addr o.data } }
  | _ =>
    let s := s.logTouch r.1 r.2 true
    { s with nor := { s.nor with mem := eraseBytes s.nor.mem r.1 r.2 } }

/-- The affected sector's contents become undefined (R127): free bytes. -/
def State.norSpoil (s : State) (o : NorOp) : State :=
  let base := o.addr / 65536 * 65536
  let s := s.logTouch base 65536 false
  { s with nor := { s.nor with mem := freeFill s.nor.mem s.freeCount base 65536 }, freeCount := s.freeCount + 65536 }

/-! ## The firmware update (R123 to R125, R553, R554) -/

/-- Sectors of `n` bytes. -/
def sectorsOf (n : Nat) : Nat := ceilDiv n 65536

/-- A message in payloads of at most 64 bytes (R535); `n` bounds the packets. -/
def packets : Nat → List Byte → List (List Byte)
  | 0, _ => []
  | n + 1, bs => if bs.length ≤ 64 then [bs] else bs.take 64 :: packets n (bs.drop 64)

/-- A response message goes into the packets waiting to be read, and RESP_PENDING is set (R535). -/
def State.sendMctp (s : State) (bs : List Byte) : State :=
  ({ s with mgt := { s.mgt with mctpOut := s.mgt.mctpOut ++ packets 80 bs } }).levelBit .mgtCause 5 true

/-- A response to an NVMe-MI request `id`: its status, dword 0 and data, and the packets of the response message: message
type 4 with its integrity check, the status, dword 0, the data, CRC-32C (PRESUMED: the NVMe-MI specification's layout). -/
def State.miReply (s : State) (id status dw0 : Nat) (data : List Byte) : State :=
  let body : List Byte := [0x84, 0x80, 0, 0] ++ leBytes 4 status ++ leBytes 4 dw0 ++ data
  ({ s with mgt := { s.mgt with replies := ⟨id, status, dw0, data⟩ :: s.mgt.replies } }).sendMctp
    (body ++ leBytes 4 (crc32c body).toNat)

/-- Reply to whoever sent an admin command. -/
def State.reply (s : State) (v : Via) (t : Status) (dw0 : Nat) : State :=
  match v with
  | .host f c => s.adminDone f c t dw0
  | .mi id => s.miReply id (statusCode t) dw0 []

/-- Reply with data. -/
def State.replyData (s : State) (v : Via) (t : Status) (dw0 : Nat) (bs : List Byte) : State :=
  match v with
  | .host f c => (s.adminDone f c t dw0).dataToHost bs
  | .mi id => s.miReply id (statusCode t) dw0 bs

/-- The update event record (R546 TYPE 0x0008). -/
def State.updEvent (s : State) (u : Update) (step outcome : Nat) : State :=
  s.event 0x0008 (leBytes 1 step ++ leBytes 1 outcome ++ leBytes 4 u.seq ++ leBytes 4 (u.next * 65536))

/-- STEP of the progress record that a phase programs (R124). -/
def phaseStep : UpdPhase → Nat
  | .progBegun => 1 | .progProgress => 2 | .progWritten => 3 | .progCommitted => 4 | .progReverted => 5
  | _ => 0

/-- Bytes with their CRC-32C after them. -/
def withCrc (bs : List Byte) : List Byte := bs ++ leBytes 4 (crc32c bs).toNat

/-- The 64 bytes of a progress record with STEP `step` (R124). -/
def progressRec (u : Update) (step : Nat) : List Byte :=
  withCrc (leBytes 4 0x474F5250 ++ leBytes 4 u.seq ++ leBytes 1 step ++ leBytes 3 0 ++ leBytes 4 (u.next * 65536) ++
    leBytes 44 u.digest.toNat)

/-- The 64 bytes of the commit marker (R121), with HEAD_DIGEST of the slot as it stands. -/
def State.markerRec (s : State) (u : Update) : List Byte :=
  withCrc (leBytes 4 0x544D4D43 ++ leBytes 4 u.seq ++ leBytes 4 u.bytes ++
    leBytes 48 (Config.sha384 (bytesAt (s.slotBytes u.slot) 0 0x440)).toNat)

/-- The program of 64 bytes at `a` within its page: the other bytes of the page stay, since programming 0xFF changes nothing. -/
def pageProgram (a : Nat) (bs : List Byte) : NorOp :=
  ⟨.update, .program, a / 256 * 256, List.replicate (a % 256) 0xFF ++ bs ++ List.replicate (192 - a % 256) 0xFF⟩

/-- What comes after a sector is written, or at the start of step 3: the next sector, or the wait for its data. Step 4 follows the last
one; in MAINTENANCE it waits for the Commit. -/
def updSectorPhase (u : Update) : UpdPhase :=
  if u.next ≥ sectorsOf u.bytes then (if u.maint then .awaitCommit else .progWritten)
  else if u.next < u.ready then .eraseSector else .awaitData

/-- Bytes of the image in sector `k`: the last one may be short. -/
def sectorBytes (u : Update) (k : Nat) : Nat := min 65536 (u.bytes - 65536 * k)

/-- The staged bytes of sector `k`. -/
def State.sectorData (s : State) (u : Update) (k : Nat) : List Byte := bytesAt s.stagedBytes (65536 * k) (sectorBytes u k)

/-- The operation that an update's phase needs: a record goes to the first place after the last one that is not blank (R124). -/
def State.updOp (s : State) (u : Update) : Option NorOp :=
  let sector := slotBase u.slot + 65536 * u.next
  match u.phase with
  | .eraseControl => some ⟨.update, .sector, slotControl u.slot, []⟩
  | .eraseSector => some ⟨.update, .sector, sector, []⟩
  | .progSector => some ⟨.update, .program, sector, s.sectorData u u.next⟩
  | .progMarker => some (pageProgram (slotControl u.slot) (s.markerRec u))
  | .awaitData => none
  | .awaitCommit => none
  | p => some (pageProgram (progAddr u.slot (min (s.progUsed u.slot) 959)) (progressRec u (phaseStep p)))

/-- A free controller takes the update's next operation, which the MP starts by NOR_OP_CMD with XIP_GUARD set (R111); nothing starts while
the MP is down (R109). -/
def State.updKick (s : State) : State :=
  match s.nor.op, s.nor.update with
  | none, some u =>
    if s.mgt.mp = .running && !s.nor.resumeDue then
      match s.updOp u with
      | some o => ((s.setFld Reg.xipGuard 0 3 1).setFld Reg.norOpAddr 0 27 o.addr).norBegin o
      | none => s
    else s
  | _, _ => s

/-- The update ends and answers its command. -/
def State.updEnd (s : State) (u : Update) (t : Status) : State :=
  let s : State := { s with nor := { s.nor with update := none } }
  match u.waiter with
  | some v => s.reply v t 0
  | none => s

/-- An operation of the update has failed, or a read-back differs: the update stops and its command ends with a status that the manual does
not state; the slot has no valid marker until its marker is programmed, so it is no candidate (R123; log entry 14). -/
def State.updFail (s : State) (u : Update) : State := s.updEnd u (stOpen 0)

/-- The update goes on in another phase. -/
def State.updPhase (s : State) (u : Update) (p : UpdPhase) : State :=
  { s with nor := { s.nor with update := some { u with phase := p } } }

/-- Step 4 begins (R123): checks 5 to 7 of R120 on the bytes read back, in MAINTENANCE 5 to 8 (R554). -/
def State.updVerify (s : State) (u : Update) : State :=
  if s.imageReason (s.slotImage u.slot) 5 (if u.maint then 8 else 7) = 0 then s.updPhase u .progWritten else s.updFail u

/-- The next sector's phase; the read-back of step 4 stands before its record. -/
def State.updNext (s : State) (u : Update) : State :=
  match updSectorPhase u with
  | .progWritten => s.updVerify u
  | p => s.updPhase u p

/-- Bytes of the staging buffer (R553). -/
def stagingBytes : Nat := 64880640

/-- In MAINTENANCE the MGT bank keeps the first 4,096 bytes of the image; of the data after them, what lies below offset `n` is dropped
(R554). -/
def State.dropStaged (s : State) (u : Update) (n : Nat) : State :=
  if u.maint then
    { s with nor := { s.nor with staged := s.nor.staged.filter (fun c => decide (c.1 < 4096) || decide (n ≤ c.1)) } }
  else s

/-- An operation of the update has succeeded (R123 steps 2 to 5): the device holds its result, which the sectors' and the marker's programs
read back. -/
def State.updStep (s0 : State) (u : Update) (o : NorOp) : State :=
  let s := s0.norApply o
  match u.phase with
  | .eraseControl => s.updPhase u (if u.markOnly then .progMarker else .progBegun)
  | .progBegun => (s.updEvent u 1 0).updNext u
  | .eraseSector => s.updPhase u .progSector
  | .progSector =>
    if bytesAt (s.slotBytes u.slot) (65536 * u.next) (sectorBytes u u.next) = s.sectorData u u.next then
      let u1 := { u with next := u.next + 1 }
      let s1 := s.dropStaged u1 (65536 * u1.next)
      if u1.next % 4 = 0 || sectorsOf u.bytes ≤ u1.next then s1.updPhase u1 .progProgress else s1.updNext u1
    else s.updFail u
  | .progProgress => (if sectorsOf u.bytes ≤ u.next then s.updEvent u 2 0 else s).updNext u
  | .progWritten => (s.updEvent u 3 0).updPhase u .progMarker
  | .progMarker => if s.markerSeq u.slot = some u.seq then s.updPhase u .progCommitted else s.updFail u
  | .progCommitted => (s.updEvent u 4 1).updEnd u stNeedsReset
  | .progReverted => (s.updEvent u 5 3).updEnd u (stOpen 0)
  | .awaitData => s
  | .awaitCommit => s

/-- R125: what the MP does with an interrupted update when it restarts: it goes on at step 3 from NEXT_OFFSET or at step 4 where the staged
image still matches STAGE_DIGEST, and otherwise a record with STEP 5 is written. Where the progress record names none under way, a command
that still waits ends (log entry 14). -/
def State.updResume (s : State) : State :=
  let s : State := { s with nor := { s.nor with resumeDue := false } }
  let drop (s : State) : State := match s.nor.update with | some u => s.updEnd u (stOpen 0) | none => s
  let x := match s.nor.update with | some u => u.slot | none => s.targetSlot
  match s.progress x with
  | some p =>
    if 1 ≤ p.step && p.step ≤ 3 then
      let maint := decide (s.mode = .maintenance)
      let next := p.nextOffset / 65536
      let n := leAt s.stagedBytes 8 4
      let u : Update := ⟨x, n, p.stageDigest, p.updateSeq, next, if maint then next else sectorsOf n, .awaitData,
        s.nor.update.bind (·.waiter), false, maint, p.nextOffset⟩
      if s.nor.stagedEnd ≠ 0 && s.stageDigest = p.stageDigest then
        let s1 := ((s.dropStaged u stagingBytes).raise .norCause 6).updEvent u p.step 2
        (if p.step = 3 then s1.updVerify u else s1.updNext u).updKick
      else ((s.raise .norCause 7).updPhase u .progReverted).updKick
    else drop s
  | none => drop s

/-- The MP reads the progress record now, or once the controller is free. -/
def State.updRestart (s : State) : State :=
  if s.nor.op.isNone then s.updResume else { s with nor := { s.nor with resumeDue := true } }

/-! ## The log clear (R550, R551) -/

/-- The recorder's next operation of a clear. -/
def clearOp : ClearStep → NorOp
  | .eraseFirst => ⟨.recorder, .sector, 0x07DF0000, []⟩
  | .progCleared => ⟨.recorder, .program, 0x07DF0000, []⟩
  | .eraseRest k => ⟨.recorder, .sector, 0x07DF0000 + 65536 * k, []⟩

/-- A free controller takes the clear's next operation. -/
def State.clearKick (s : State) : State :=
  match s.nor.op, s.evt.clearing with
  | none, some c => { s with nor := { s.nor with op := some (clearOp c) } }
  | _, _ => s

/-- The cleared record (R546 TYPE 0x0001). -/
def State.clearedRec (s : State) : EvRec :=
  { s.evRec 0x0001 (leBytes 4 s.evt.before ++ leBytes 4 s.evt.lostBefore ++ leBytes 24 s.evt.clearNonce.toNat) with
    epoch := (s.evt.epoch + 1) % 65536, seq := 0, resumed := s.evt.resumedClear, deferred := false }

/-- Log pages of a 64 KiB log sector lose their program counts with the erase. -/
def dropPages (k : Nat) (l : List (Nat × Nat)) : List (Nat × Nat) := l.filter (fun e => !decide (e.1 / 256 = k))

/-- An operation of the clear has succeeded. -/
def State.clearStep (s : State) : State :=
  match s.evt.clearing with
  | some .eraseFirst =>
    { s with evt := { s.evt with log := s.evt.log.filter (fun e => !decide (e.1 < 1024)),
                                 pagePrograms := dropPages 0 s.evt.pagePrograms, clearing := some .progCleared } }
  | some .progCleared =>
    { s with evt := { s.evt with log := oput s.evt.log 0 s.clearedRec, pagePrograms := oput s.evt.pagePrograms 0 1,
                                 epoch := (s.evt.epoch + 1) % 65536, clearing := some (.eraseRest 1) } }
  | some (.eraseRest k) =>
    let s1 : State := { s with evt := { s.evt with log := s.evt.log.filter (fun e => !decide (e.1 / 1024 = k)),
                                                   pagePrograms := dropPages k s.evt.pagePrograms,
                                                   clearing := some (.eraseRest (k + 1)) } }
    if k < 31 then s1
    else
      -- queued events are renumbered after the cleared record
      let q := s1.evt.queue
      let s2 : State := { s1 with evt := { s1.evt with clearing := none, full := false, lost := 0, next := 1,
                                                       seq := 1 + q.length, resumedClear := false,
                                                       queue := (q.zip (upFrom 1 q.length)).map (fun p =>
                                                         { p.1 with epoch := s1.evt.epoch, seq := p.2 }) } }
      let s3 := (s2.levelBit .evtCause 0 false).raise .evtCause 2
      s3.evt.clearIds.foldl (fun s id => s.miReply id 0 0 []) { s3 with evt := { s3.evt with clearIds := [] } }
  | none => s

/-! ## Stored records (R545, R548, R552) -/

/-- Bytes 0x00 to 0x3B of a record. -/
def recHead (r : EvRec) : List Byte :=
  leBytes 2 r.type ++ leBytes 2 r.epoch ++ leBytes 4 r.seq ++ leBytes 8 r.time ++ leBytes 4 r.poh.toNat ++
  leBytes 4 r.cycles ++ leBytes 1 (modeCode r.mode) ++ leBytes 1 (b2n r.deferred + 2 * b2n r.resumed) ++ leBytes 2 0 ++
  padTo 32 r.detail

/-- The 64 bytes of a record as stored. -/
def recBytes (r : EvRec) : List Byte :=
  if r.crcOk then recHead r ++ leBytes 4 (crc32c (recHead r)).toNat
  else (List.range 64).map (Config.cutByte r.epoch r.seq)

/-- The 64 bytes at an index of the log region: a free record reads 0xFF. -/
def State.logBytes (s : State) (i : Nat) : List Byte :=
  match ofind s.evt.log i with
  | some r => recBytes r
  | none => List.replicate 64 0xFF

/-- EVT_RD_DATA0 to 15 take the record that EVT_RD_SEL names, and READY is set. -/
def State.rdLoad (s : State) : State :=
  let i := s.fld Reg.evtRdSel 0 15
  let bs := s.logBytes i
  let s1 := (List.range 16).foldl
    (fun s k => s.setReg (Reg.evtRdData + 4 * k) (BitVec.ofNat 32 (ofLeBytes ((bs.drop (4 * k)).take 4)))) s
  let s2 := s1.setFld Reg.evtRdSel 31 1 1
  { s2 with evt := { s2.evt with rdWait := false } }

/-- Whatever waits for the controller goes on: a read of the log (R552), then starts in the order of R189 and R555, the
recorder before the MP. -/
def State.norKick (s : State) : State :=
  (if s.evt.rdWait && s.nor.op.isNone then s.rdLoad else s).clearKick.updKick

/-! ## Abandonment (R127) -/

/-- What an abandoned program of the recorder leaves (R127, R548): its records stay in place and fail their CRC, the cleared record of
R550 with them, and whether another record of that sector still stands is a free value. -/
def State.cutRecords (s : State) : State :=
  let recs := if s.evt.prog.isEmpty then [s.clearedRec] else s.evt.prog
  let at_ := if s.evt.prog.isEmpty then 0 else s.evt.next
  let kept := omap (fun i (r : EvRec) =>
    if i / 1024 = at_ / 1024 then { r with crcOk := r.crcOk && Config.cutKeeps s.freeCount i } else r) s.evt.log
  { s with freeCount := s.freeCount + 1,
           evt := { s.evt with
            prog := [], next := s.evt.next + s.evt.prog.length,
            log := ((upFrom at_ recs.length).zip recs).foldl (fun l p => oput l p.1 { p.2 with crcOk := false }) kept } }

/-- A FLUSH cause, or PLOSS_N low in MAINTENANCE, abandons a running operation: RESULT 3, OP_ABANDONED, and the
affected sector's contents undefined. Event records of a page program in progress fail their CRC. -/
def State.norAbandon (s : State) : State :=
  match s.nor.op with
  | none => s
  | some o =>
    let s := s.setFld Reg.norOpStatus 2 2 3
    let s := if o.owner = .recorder then s else s.setReg Reg.norOpStatus (putBit (s.reg Reg.norOpStatus) 1 true)
    let s := if o.owner = .recorder && o.kind = .program then s.cutRecords else s.norSpoil o
    ({ s with nor := { s.nor with op := none, update := none } }).raise .norCause 4

end Sys2Proof.Machine
end

