-- ==== Sys2Proof/Machine/Trans.lean ====
section
/-!
DEFINITION. What the mode changes share (R75 to R80, R84, R100, R570): the state that islands lose, the power of the
banks (R427), entering OFF, STRAP and MAINTENANCE, LOAD's faults (R88, R91), and the log's write-point search (R548).
-/
namespace Sys2Proof.Machine

/-! ## Banks (R427, R76) -/

/-- Bank codes of R435. -/
def bankCode : Bank → Nat
  | .plan => 0 | .map => 1 | .dayBook => 2 | .queue => 3 | .mint => 4 | .xfr => 5 | .mgt => 6 | .scratch => 7
  | .secure => 8 | .aonRetention => 9

/-- Every bank. -/
def allBanks : List Bank := [.plan, .map, .dayBook, .queue, .mint, .xfr, .mgt, .scratch, .secure, .aonRetention]

/-- Power of a bank in a mode (R427): OFF keeps no bank of an unpowered island, and AON keeps its own. -/
def bankMode (m : Mode) (b : Bank) : BankPower :=
  match m, b with
  | .off, .aonRetention => .on
  | .off, _ => .off
  | .doze, .mint => .retention
  | .doze, .xfr => .retention
  | .hibernate, .queue => .off
  | .hibernate, .scratch => .off
  | .hibernate, .mint => .off
  | .hibernate, .xfr => .off
  | .hibernate, _ => .retention
  | .maintenance, .mgt => .on
  | .maintenance, .aonRetention => .on
  | .maintenance, _ => .off
  | _, _ => .on

/-- A bank's power after a mode change: a bank in retention wakes, a bank that a mode lets rest stays on until its idle
count ends (R427). -/
def bankStep (now : BankPower) (want : BankPower) : BankPower :=
  match want, now with
  | .off, _ => .off
  | .retention, .off => .off
  | .retention, x => x
  | _, .retention => .waking
  | _, .waking => .waking
  | _, _ => .on

def State.bank (s : State) (b : Bank) : BankPower := cget .off s.mem.banks (bankCode b)

def State.setBank (s : State) (b : Bank) (p : BankPower) : State :=
  { s with mem := { s.mem with banks := cset .off s.mem.banks (bankCode b) p,
                               bankMark := if s.bank b = p then s.mem.bankMark else oput s.mem.bankMark (bankCode b) s.ldg.tick } }

/-- Every bank takes the power that the mode gives it. -/
def State.syncBanks (s : State) : State :=
  allBanks.foldl (fun s b => s.setBank b (bankStep (s.bank b) (bankMode s.mode b))) s

/-! ## What is lost -/

/-- The NOR controller without an operation, staged image or update; the device keeps its contents. -/
def norFresh (n : Nor) : Nor :=
  { n with op := none, haltMp := false, staged := [], stagedEnd := 0, update := none, busFault := none,
           resumeDue := false, calWaiter := none }

/-- Flash contents stay; what the media processors and the write staging held in DRAM or scratchpads is lost. -/
def medFresh (m : Med) : Med :=
  { m with
    sectors := m.sectors.filter (fun e => decide (e.2.place ≠ .staged)),
    conv := m.conv.filter (fun e => decide (e.2.place ≠ .staged)),
    zones := (m.zones.map (fun e => (e.1, { e.2 with mgmt := [] }))).filter (fun e => decide (e.2 ≠ {})),
    rr := [], rebuilds := [], forced := [], evac := [] }

/-- A flush area is replayed again where no FLUSH came after its replay: its records come back, and of its restaged sectors those that have
not settled (R70, R401). -/
def unreplay (m : Med) (f : Area) : Area :=
  let waits (l : List (Nat × Stored)) (e : Nat × Stored) : Bool :=
    match ofind l e.1 with | some x => decide (x.place = .staged) && decide (x.seq = e.2.seq) | none => false
  if f.replayed then
    { f with replayed := false, sectors := if f.held then f.sectors.filter (waits m.sectors) else [],
             conv := if f.held then f.conv.filter (waits m.conv) else [] }
  else f

/-- The movers' contexts are lost, and of the memory they reach only the spaces that `p` names stay. -/
def keepSpaces (p : Nat → Bool) (x : Xfr) : Xfr :=
  { mem := x.mem.filter (fun c => p (c.1 / 2 ^ 65)), poison := x.poison.filter (fun l => p (l * 64 / 2 ^ 65)) }

/-- The board keeps DRAM powered in HIBERNATE (R95, R117). -/
def State.dramKept (s : State) : Bool := match s.boot.image with | some im => im.geometry.dramKept | none => false

/-- The sides that lose power or are filled with zeros in OFF, in a restart through STRAP and in MAINTENANCE. Kept: flash
and NOR contents, fuses, device time, power-on hours, pins, and the account bindings are gone with the PLAN bank. -/
def State.dropVolatile (s : State) : State :=
  { s with
    thm := {}, loops := [], ldg := {}, xfr := keepSpaces (fun n => decide (9 ≤ n)) s.xfr, net := {}, mnt := {}, host := {},
    med := { medFresh s.med with groups := [] },
    db := { areaA := unreplay s.med s.db.areaA, areaB := unreplay s.med s.db.areaB, spill := s.db.spill, lastFlushUs := s.db.lastFlushUs,
            lastStop := s.db.lastStop },
    mem := { banks := s.mem.banks },
    nor := norFresh s.nor,
    cry := { life := s.cry.life, deviceKey := s.cry.deviceKey },
    evt := { log := s.evt.log, pagePrograms := s.evt.pagePrograms, deferred := s.evt.deferred },
    mgt := { alertPipe := s.mgt.alertPipe },
    pwr := { s.pwr with sleep := none, wakeSrc := none, drainFor := none, drained := false, shutdownWaits := false,
                        folioMove := none,
                        tickShadow := [], timeShadow := [] },
    boot := { s.boot with image := none, erasedA := none, erasedB := none } }

/-- What HIBERNATE loses: QUEUE, MINT, XFR and scratchpad banks and every island but AON. The PLAN, MAP, DAYBOOK, MGT and
SECURE banks are retained (R76), so bindings, media state, the Day Book, key slots and the event queue stay. -/
def State.dropHibernate (s : State) : State :=
  { s with
    thm := {}, loops := [], net := {}, mnt := {},
    xfr := keepSpaces (fun n => decide (9 ≤ n) || decide (n = 2) || decide (n = 8) || (decide (n = 0) && s.dramKept)) s.xfr,
    ldg := { tick := s.ldg.tick, accepted := s.ldg.accepted, keptStatus := s.ldg.keptStatus, turns := s.ldg.turns,
             credits := s.ldg.credits },
    host := { accts := omap (fun _ (a : Acct) => { a with quiesce := none, flrActive := false }) s.host.accts,
              medGen := s.host.medGen, posted := s.host.posted, dataOut := s.host.dataOut, sent := s.host.sent },
    med := { medFresh s.med with rr := s.med.rr, rebuilds := s.med.rebuilds },
    nor := { s.nor with op := none, haltMp := false, busFault := none },
    cry := { s.cry with op := none, releasePending := false },
    evt := { s.evt with ready := false, prog := [] },
    mem := { banks := s.mem.banks, selfRefresh := s.mem.selfRefresh, regions := s.mem.regions, lastScrub := s.mem.lastScrub,
             bankScrub := s.mem.bankScrub },
    mgt := { s.mgt with mctpOut := [], mctpIn := [], mctpMsgs := [], mdpDown := [], clockStopped := false },
    pwr := { s.pwr with sleep := none, drainFor := none, drained := false, shutdownWaits := false, folioMove := none, tickShadow := [],
                        timeShadow := [] } }

/-! ## Outputs that float without LDG (R53, R62) -/

/-- The LDG pads float: no reference driven, the charger and the segment tests off. -/
def State.floatLdg (s : State) : State :=
  { s with pins := { s.pins with vrefOut := none, flioOut := none, chgPwm := 0, spareOut := 0, segTest := 0 } }

/-- The reference outputs once LDG is powered (R53): high-impedance until their loop has closed since POR_N was asserted, from then on
they drive, from their first value where they floated. -/
def State.driveRefs (s : State) : State :=
  { s with pins := { s.pins with
      vrefOut := if s.pins.vrefOnce then some (s.pins.vrefOut.getD 800) else none,
      flioOut := if s.pins.flioOnce then some (s.pins.flioOut.getD 1200) else none } }

/-- The LDG pads in reset: inactive, but for the reference outputs, which hold (R53, R75). -/
def State.parkLdg (s : State) : State :=
  let s1 := s.driveRefs
  { s1 with pins := { s1.pins with chgPwm := 0, spareOut := 0, segTest := 0 } }

/-! ## OFF, STRAP, MAINTENANCE -/

/-- PLOSS_N as the device takes it is high: no low has registered that lasts (R50). -/
def State.plossHigh (s : State) : Bool := !s.boot.plossLow

/-- Enter OFF (R67, R77, R79): PWR_HOLD low, and the I3C address and the EID lost (R533, R535). DDR_RESET_N, an AON pad, stays as it is
driven (R63). The 100 ms of R79 begin here where both inputs are high already (R68). -/
def State.toOff (s : State) (why : OffReason) (c : ModeCause) : State :=
  let s1 := (s.enter .off c).dropVolatile.floatLdg.syncBanks
  let s2 := (s1.setFld Reg.mgtI3cStatus 0 10 0).setFld Reg.mgtI3cStatus 11 8 0
  { s2 with pins := { s2.pins with pwrHold := false, clkreqLow := false },
            rsv := {},
            boot := { offReason := why, plossLow := s.boot.plossLow, plossFalling := s.boot.plossFalling,
                      offCount := decide (why = .ploss) && s.pins.pwrGood && s.plossHigh } }

/-- Device time at a start from OFF: the later of the two copies, UNCERTAIN set and SYNCED clear; one more start (R505,
R545). -/
def State.restoreTime (s : State) : State :=
  let a := s.pwr.flushCopy
  let b := s.pwr.metaCopy
  let c := if a.time ≥ b.time then a else b
  { s with pwr := { s.pwr with
      time := c.time, frac := c.frac, hours := c.hours, minutes := c.minutes, cycles := c.cycles + 1,
      uncertain := true, synced := false } }

/-- Enter STRAP (R67, R82): PWR_HOLD high and the straps sampled afresh. The start is no resume (R102). -/
def State.toStrap (s : State) (fromOff : Bool) : State :=
  let s1 := (s.enter .strap (if fromOff then .none else .restart)).dropVolatile.parkLdg
  let s2 := ((s1.resetRegs (if fromOff then offResets else restartResets)).setFld Reg.aonMode 12 1 0).syncBanks
  let s3 := if fromOff then { s2.restoreTime with
      evt := { s2.evt with deferred := [], ready := false }, xfr := keepSpaces (fun n => decide (n = 10)) s2.xfr }
    else { s2 with evt := { s2.evt with ready := false } }
  { s3 with pins := { s3.pins with pwrHold := true },
            boot := { fromOff := fromOff, phaseStart := 0, plossLow := s.boot.plossLow,
                      plossFalling := s.boot.plossFalling } }

/-- Records of the log region that belong to the current log: not free, and either of EPOCH `e` or with a failing CRC. -/
def belongs (e : Nat) (r : EvRec) : Bool := decide (r.epoch = e) || !r.crcOk

/-- The first index from `i` on whose record does not belong, among `n`. -/
def writePoint (log : List (Nat × EvRec)) (e : Nat) (i : Nat) : Nat → Nat
  | 0 => i
  | n + 1 =>
    match ofind log i with
    | some r => if belongs e r then writePoint log e (i + 1) n else i
    | none => i

/-- The write-point search (R548), the resume of an interrupted clear (R551), and the deferred records joining the
queue (R547). The event number goes on after the last record of the current log. -/
def State.logSearch (s : State) : State :=
  let log := s.evt.log
  let e0 := match ofind log 0 with | some r => r.epoch | none => 0
  let top := maxOf (log.map (fun r => r.2.epoch))
  let wp := writePoint log e0 0 32768
  let lastSeq := match ofind log (wp - 1) with | some r => r.seq + 1 | none => 0
  let past := log.any (fun r => decide (wp < r.1))
  let base : Evt :=
    if (ofind log 0).isNone && !log.isEmpty then
      { s.evt with epoch := top, next := 0, clearing := some .progCleared, resumedClear := true, full := false }
    else if past then
      { s.evt with epoch := e0, next := wp, clearing := some (.eraseRest 1), resumedClear := true, full := false }
    else { s.evt with epoch := e0, next := wp, full := decide (wp = 32768) }
  let start := if wp = 0 then 0 else lastSeq
  let q := (s.evt.deferred.zip (upFrom start s.evt.deferred.length)).map
    (fun p => { p.1 with epoch := base.epoch, seq := p.2 })
  ({ s with evt := { base with ready := true, deferred := [], queue := q ++ s.evt.queue, seq := start + q.length,
                               prog := [] } }).clearKick

/-- The Start event record (R546 TYPE 0x0003). -/
def State.startEvent (s : State) : State :=
  s.event 0x0003
    (leBytes 4 (s.reg Reg.aonStartCause).toNat ++ leBytes 4 (s.reg Reg.aonBoardCause).toNat ++
     leBytes 4 (setField (setField (s.reg Reg.aonMode) 0 4 (modeCode s.mode)) 4 4 (modeCode s.prevMode)).toNat ++
     leBytes 4 (s.reg Reg.aonPhaseTime).toNat ++ leBytes 4 (s.reg (Reg.aonPhaseTime + 4)).toNat ++
     leBytes 4 (s.reg (Reg.aonPhaseTime + 8)).toNat ++ leBytes 4 (s.reg (Reg.aonPhaseTime + 12)).toNat ++ leBytes 4 s.db.lastStop)

/-- Enter MAINTENANCE (R100): every island but AON and MGT unpowered, the MGT bank filled, the recovery firmware started,
the cause in MAINT_CAUSE, the log's write point found and the Start record written. -/
def State.toMaint (s : State) (cause : Nat) (c : ModeCause) : State :=
  let s1 := s.dropVolatile.floatLdg
  let s2 := (s1.enter .maintenance c).syncBanks
  let s3 := (s2.setFld Reg.aonMode 8 4 cause).setReg Reg.aonFwRelease Config.recoveryRelease
  let s4 : State := { s3 with boot := { fromOff := s.boot.fromOff, plossLow := s.boot.plossLow,
                                        plossFalling := s.boot.plossFalling, strapDone := true },
                              mgt := { s3.mgt with mp := .running, pf := s.mgt.pf, mi := s.mgt.mi },
                              host := {} }
  s4.logSearch.startEvent.updRestart

/-! ## AON_PHASE_TIME (R104) -/

/-- Record the duration of phase `n` (0 STRAP, 1 FILL, 2 LOAD, 3 TRAIN) in µs. -/
def State.phaseTime (s : State) (n us : Nat) : State :=
  s.setReg (Reg.aonPhaseTime + 4 * n) (BitVec.ofNat 32 us)

/-- The phase that began at `phaseStart` ends now, with 1,000 ticks to the µs. -/
def State.phaseEnd (s : State) (n : Nat) : State := s.phaseTime n ((s.ldg.tick - s.boot.phaseStart) / 1000)

/-! ## LOAD: slots and faults (R60, R88, R91, R122) -/

/-- BOOT_SEL as sampled (R59, R61). -/
def State.bootSel (s : State) : Nat := s.fld Reg.aonStrap 6 2

/-- RESUME of AON_MODE (R102). -/
def State.resuming (s : State) : Bool := bitOf (s.reg Reg.aonMode) 12

def slotFailBit : Slot → Nat
  | .a => 4 | .b => 5

/-- Record a slot's reason code in NOR_SLOT_STATUS (R132). -/
def State.setSlotReason (s : State) (x : Slot) (r : Nat) : State :=
  match x with
  | .a => s.setFld Reg.norSlotStatus 0 4 r
  | .b => s.setFld Reg.norSlotStatus 4 4 r

/-- Reason 1 for each slot without a valid marker (R122). -/
def State.markNoCand (s : State) : State :=
  let s1 := if (s.markerSeq .a).isNone then s.setSlotReason .a 1 else s
  if (s1.markerSeq .b).isNone then s1.setSlotReason .b 1 else s1

/-- Begin a LOAD attempt at step 1 on slot `x`. -/
def State.loadOn (s : State) (x : Slot) : State :=
  { s with boot := { s.boot with step := 1, slot := some x, image := none } }

/-- A slot fails verification with `reason` (R60, R88): the next candidate under BOOT_SEL 0b00, else MAINTENANCE. -/
def State.slotFail (s : State) (x : Slot) (reason : Nat) : State :=
  let s1 := (s.setSlotReason x reason).raise .startCause (slotFailBit x)
  let s2 := s1.setFld Reg.aonMode 15 2 0
  if s.bootSel = 0 then
    match s.boot.cands.filter (fun c => decide (c ≠ x)) with
    | y :: r => ({ s2 with boot := { s2.boot with cands := y :: r, faults := 0 } }).loadOn y
    | [] => s2.markNoCand.toMaint 3 .slots
  else s2.toMaint 4 .slots

/-- A fault of the MP during LOAD (R91): restart on the same slot, or of the resume form; the third fault is a
verification failure of the slot, or ends a resume in MAINTENANCE. -/
def State.loadFault (s : State) : State :=
  let s1 := s.raise .startCause 6
  let n := s.boot.faults + 1
  let s2 : State := { s1 with boot := { s1.boot with faults := n } }
  if s.resuming then
    if 3 ≤ n then
      match s2.bootSlot with
      | some x => ((s2.setSlotReason x 9).raise .startCause (slotFailBit x)).toMaint 8 .resume
      | none => s2.toMaint 8 .resume
    else { s2 with boot := { s2.boot with step := 4 } }
  else
    match s.boot.slot with
    | some x =>
      if 3 ≤ n then s2.slotFail x 9
      else (s2.setFld Reg.aonMode 15 2 n).loadOn x
    | none => { s2 with boot := { s2.boot with step := 1 } }

/-! ## The key-management lock (R451) -/

/-- OWNER of CRY_KM_LOCK; 7 is free (R456). -/
def State.kmOwner (s : State) : Nat := s.fld Reg.cryKmLock 0 3

/-- The requester that takes a lock freed in this tick: the lowest number of those whose ACQUIREs came in the tick, which follow the release
(R451); 7 where none did. -/
def State.kmNext (s : State) : Nat :=
  if s.cry.acqAt = some s.ldg.tick then s.cry.acq.foldl min 7 else 7

/-- The lock is freed, and the data registers cleared (R451, R457). -/
def State.kmFree (s : State) : State :=
  let s1 := (s.setFld Reg.cryKmLock 0 3 s.kmNext).resetRegs
    (fun o => decide (Reg.cryKmData ≤ o) && decide (o < Reg.cryKmData + 72))
  { s1 with cry := { s1.cry with releasePending := false, lockAt := some s.ldg.tick } }

/-- A running operation is abandoned with RESULT 3 (R451, R455). -/
def State.kmAbandon (s : State) : State :=
  if s.cry.op.isSome then
    let s1 := (s.setFld Reg.cryKmStatus 1 1 1).setFld Reg.cryKmStatus 2 2 3
    { s1 with cry := { s1.cry with op := none } }
  else s

/-- The owner's processor resets: the lock is freed and a running operation abandoned (R451). -/
def State.kmIslandReset (s : State) (id : Nat) : State :=
  if s.islandOn .cry && decide (s.kmOwner = id) then s.kmAbandon.kmFree else s

/-! ## The MP's island reset (R33, R126, R529, R530) -/

/-- The MP's reset is released: REMAIN reloads (R570). -/
def State.mpRelease (s : State) : State :=
  let s1 := s.setFld Reg.mgtWdogStatus 0 17 65536
  { s1 with mgt := { s1.mgt with mp := .running } }

/-- MGT resets: the MP restarts, or LOAD restarts (R91). The MP's key-management lock is freed (R451). -/
def State.mpReset (s : State) : State :=
  let s := s.kmIslandReset 0
  let s : State := { s with
    mgt := { s.mgt with mp := .restarting, clockStopped := false, mctpIn := [], mctpMsgs := [] },
    nor := { s.nor with busFault := none } }
  if s.mode = .load then s.loadFault.mpRelease else s

end Sys2Proof.Machine
end

