-- ==== Sys2Proof/Machine/RegAccess.lean ====
section
/-!
DEFINITION. What a read of a register returns and who may reach it (spec 19): the values that have their home outside the
register words are computed here (R102, R190, R193, R349, R404, R435, R492, R525, R556 to R559, R571), each requester
has its own latch of an upper half (R154, R566), and a write reaches only the writable bits (R563, R565, R567).
-/
namespace Sys2Proof.Machine

/-! ## The PCIe view of the functions (R560 to R562) -/

/-- Device ID of a function, and its Routing ID on a PF at function 0: First VF Offset and VF Stride are 1 (R561). -/
def pciDeviceId (f : Nat) : Nat := if f = 0 then 0x0490 else 0x0491
def routingId (f : Nat) : Nat := f

/-- MSI-X vectors of a function, and the BAR0 offsets of its table, 16 bytes a vector (R561, R562). -/
def msixVectors (f : Nat) : Nat := if f = 0 then 1024 else 65
def msixBase (f : Nat) : Nat := if f = 0 then 0x8000 else 0x3000

/-- Size of a function's BAR0, and where VF n's begins above the VF BAR0 base (R560, R561). -/
def bar0Bytes (f : Nat) : Nat := if f = 0 then 0x10000 else 0x4000
def vfBarOffset (n : Nat) : Nat := (n - 1) * bar0Bytes n

/-- BAR0 offsets of the doorbells of queue `y`, and of the account view (R562). -/
def sqDoorbell (y : Nat) : Nat := 0x1000 + 8 * y
def cqDoorbell (y : Nat) : Nat := 0x1004 + 8 * y
def accountView (f : Nat) : Nat := if f = 0 then 0x4000 else 0x2000

/-! ## Who reaches which register (R563 to R567) -/

/-- Number of a requester for the latches of R566; a function BAR takes the PF's. -/
def reqNum : Requester → Nat
  | .mp => 0 | .mdp n => 1 + n.val | .pf => 5 | .func _ => 5

/-- Identity on CRY_KM_LOCK (R567); a function BAR reaches no such register. -/
def reqId : Requester → Nat
  | .mp => 0 | .mdp n => 1 + n.val | .pf => 5 | .func _ => 5

/-- The listing admits the requester (R563, R564, R567, R575): the management space reaches every register, a media
processor writes only its own chain, the key-management registers and MED_ZQ_SEL, the PF space follows the code of the
listing, and a function BAR reaches its own member page but for ACT_STATE. -/
def reaches (who : Requester) (o : Nat) (write : Bool) : Bool :=
  match regRow o with
  | none => false
  | some r =>
    match who with
    | .mp => true
    | .mdp n =>
      !write || decide (o / 0x100 = 0x1810 + n.val + 1) || (decide (Reg.cryKmLock ≤ o) && decide (o < Reg.crySlotSel)) ||
        decide (o = Reg.medZqSel)
    | .pf =>
      match r.space with
      | .both => true
      | .mgmt => false
      | .pfRead => !write
      | .chain => decide (5 ≤ (o - 0x181000) / 0x100)
    | .func f =>
      decide (0x800000 + 0x100 * f + 0x10 ≤ o) && decide (o < 0x800000 + 0x100 * f + 0x100) && decide (f < 2048)

/-- A write from `who` takes effect at offset `o`: the register exists, its island is on, and the space admits it. -/
def State.mayWrite (s : State) (who : Requester) (o : Nat) : Bool := s.regAlive o && reaches who o true

/-- Account state code (R349): an account is unbound, active, quiescing or quiesced. -/
def acctState (a : Acct) : Nat :=
  if a.binding.isNone then 0 else if a.quiesce.isSome then 2 else if a.quiesced then 3 else 1

/-- Commands of an account in flight. -/
def State.inflight (s : State) (a : Nat) : Nat := (s.host.cmds.filter (fun e => decide (e.2.account = a))).length

/-- Mediation requests of an account that are pending. -/
def State.medCount (s : State) (a : Nat) : Nat :=
  (s.host.mediation.filter (fun e => decide (e.2.account = a))).length

/-- The provisioned ID (R532). -/
def State.pid (s : State) : Nat :=
  let slot := s.fld Reg.aonStrap 0 6
  let hash := (crc32c (leBytes 16 Config.dieSerial.toNat)).toNat % 1024
  0x4C5 * 2 ^ 33 + 0x0490 * 2 ^ 16 + (slot % 16) * 2 ^ 12 + (slot / 16) * 2 ^ 10 + hash

/-- Records not RETIRED. -/
def State.dbLive (s : State) : Nat := s.db.recs.length

/-- Range-lock entries held: those of every command in flight (R302, R326). -/
def State.locksInUse (s : State) : Nat := sumOf (s.host.cmds.map (fun e => e.2.locks.length))

/-- State code of a Mint lane (R492). -/
def laneCode : LaneSt → Nat
  | .free => 0 | .held => 1 | .setup => 2 | .consuming => 3

/-- Codes of the life-cycle states (R454). -/
def lifeCode : LifeCycle → Nat
  | .blank => 0 | .provisioned => 1 | .decommissioned => 2

/-- Bit `b` of word `n` over a Boolean of the number 32 n + b. -/
def bitsOf (n : Nat) (p : Nat → Bool) : Nat :=
  sumOf ((List.range 32).map (fun b => if p (32 * n + b) then 2 ^ b else 0))

/-- Power code of a bank (R435). -/
def powerCode : BankPower → Nat
  | .off => 0 | .retention => 1 | .on => 2 | .waking => 3

/-- The state of an authorisation path. -/
def State.auth (s : State) : AuthPath → AuthSt
  | .pf => s.mgt.pf
  | .mi => s.mgt.mi

/-- 60 s of device time (R538). -/
def nonceLife : Nat := 60000000000

/-- The path's nonce is live: issued and not 60 s old. -/
def State.liveNonce (s : State) (p : AuthPath) : Option (BitVec 256) :=
  match (s.auth p).nonce with
  | some n => if s.pwr.time < n.issued + nonceLife then some n.value else none
  | none => none

/-- The value at an offset before the latches: a computed view where the value has its home elsewhere. LDG_PHASE before Folio 0 shows the
running tick modulo a Folio, since the manual gives no grid there (DESIGN CHOICE, log entry 156). EVT_STATUS.NEXT of a full log stays at
record 32,767, where the recorder has stopped (DEDUCED from R549, log entry 162). -/
def State.viewReg (s : State) (o : Nat) : Word :=
  let w := s.reg o
  let page := (o - 0x800000) / 0x100
  if o = Reg.aonMode then setField (setField w 0 4 (modeCode s.mode)) 4 4 (modeCode s.prevMode)
  else if Reg.aonSerial ≤ o && o < Reg.aonSerial + 16 then
    BitVec.ofNat 32 (Config.dieSerial.toNat / 2 ^ (8 * (o - Reg.aonSerial)))
  else if o = Reg.topSummary then s.topSummary.setWidth 32
  else if Reg.mgtGroup ≤ o && o < Reg.mgtGroup + 44 then BitVec.ofNat 32 (s.groupWord ((o - Reg.mgtGroup) / 4))
  else if o = Reg.mgtPidLo then BitVec.ofNat 32 s.pid
  else if o = Reg.mgtPidHi then BitVec.ofNat 32 (s.pid / 2 ^ 32)
  else if Reg.mgtChallenge ≤ o && o < Reg.mgtChallenge + 32 then
    match s.liveNonce .pf with
    | some n => BitVec.ofNat 32 (n.toNat / 2 ^ (8 * (o - Reg.mgtChallenge)))
    | none => 0
  else if o = Reg.mgtChallengeCtl then setField 0 1 1 (b2n (s.liveNonce .pf).isSome)
  else if o = Reg.evtStatus then
    BitVec.ofNat 32 (min s.evt.next 32767 + 2 ^ 15 * b2n s.evt.full + 2 ^ 16 * b2n s.evt.clearing.isSome +
      2 ^ 17 * s.evt.queue.length)
  else if o = Reg.evtEpoch then BitVec.ofNat 32 s.evt.epoch
  else if o = Reg.evtLost then BitVec.ofNat 32 s.evt.lost
  else if o = Reg.norOpStatus then setField w 0 1 (b2n s.nor.op.isSome)
  else if o = Reg.pwrRtc then s.pwr.rtc
  else if o = Reg.pwrTime then BitVec.ofNat 32 s.pwr.time
  else if o = Reg.pwrTimeStat then BitVec.ofNat 32 (s.pwr.frac + 64 * b2n s.pwr.uncertain + 128 * b2n s.pwr.synced)
  else if o = Reg.pwrPoh then s.pohWord
  else if o = Reg.ldgTick then BitVec.ofNat 32 s.ldg.tick
  else if o = Reg.ldgFolio then s.ldg.folio
  else if o = Reg.ldgPhase then
    let p := (s.ldg.tick - s.ldg.folioStart) % 1310720
    BitVec.ofNat 32 (p / 10240 + 128 * (p % 10240 / 1280) + 1024 * (p % 1280))
  else if o = Reg.hstLockStatus then setField (setField w 0 14 s.locksInUse) 14 14 s.host.lockHigh
  else if o = Reg.hstDbStatus then BitVec.ofNat 32 s.dbLive
  else if Reg.medDieFail ≤ o && o < Reg.medDieFail + 128 then
    BitVec.ofNat 32 (bitsOf 0 (fun b => (s.dieMed ((o - Reg.medDieFail) / 4 + 32 * (b / 8) + 128 * (b % 8))).failed))
  else if o = Reg.srmPwrState then
    BitVec.ofNat 32 (sumOf (allBanks.map (fun b => powerCode (s.bank b) * 4 ^ bankCode b)))
  else if o = Reg.srmRepair then Config.srmRepair &&& 0x01FFFFFF#32
  else if o = Reg.memWbufStatus then
    BitVec.ofNat 32 (s.mem.occA + 256 * s.mem.occB + 65536 * (2 ^ s.mem.lanes.length - 1))
  else if Reg.xfrCtxHalted ≤ o && o < Reg.xfrCtxHalted + 256 then
    BitVec.ofNat 32 (bitsOf ((o - Reg.xfrCtxHalted) / 4) (fun c => (s.ctx c).halted))
  else if Reg.netPortStatus ≤ o && o < Reg.netPortStatus + 8 then
    let p := (o - Reg.netPortStatus) / 4
    setField (setField w 3 1 (b2n (decide (s.mode = .doze)))) 4 13
      (s.net.qps.filter (fun e => decide (e.2.port = p) && !e.2.error)).length
  else if Reg.mntLaneStatus ≤ o && o < Reg.mntLaneStatus + 64 then
    let l := s.lane ((o - Reg.mntLaneStatus) / 4)
    BitVec.ofNat 32 (laneCode l.st + 4 * l.recipe + 256 * l.account + 2 ^ 19 * l.next)
  else if o = Reg.cryLifecycle then BitVec.ofNat 32 (lifeCode s.cry.life)
  else if o = Reg.cryKmStatus then setField w 0 1 (b2n s.cry.op.isSome)
  else if 0x800000 ≤ o && o % 0x100 = 0 then
    let a := s.acct page
    let logEn := match a.binding with | some b => b.logEn | none => false
    BitVec.ofNat 32 (acctState a + 4 * b2n logEn + 8 * b2n a.flrActive + 16 * s.medCount page + 256 * s.inflight page)
  else if 0x800000 ≤ o && o % 0x100 = 0x10 then BitVec.ofNat 32 (unsigned 24 (s.credit page).rd)
  else if 0x800000 ≤ o && o % 0x100 = 0x14 then BitVec.ofNat 32 (unsigned 24 (s.credit page).wr)
  else if 0x800000 ≤ o && o % 0x100 = 0x18 then BitVec.ofNat 32 (unsigned 24 (s.credit page).byte)
  else w

/-- A read by `who` (R565): 0 where the register is not reached, its island is off or no listing names it; an upper half
comes from the requester's latch as last set (R154), 0 where nothing has set it. -/
def State.readReg (s : State) (who : Requester) (o : Nat) : Word :=
  if s.regAlive o && reaches who o false then
    if o = Reg.ldgTick + 4 then
      BitVec.ofNat 32 ((ofind s.pwr.tickShadow (reqNum who)).getD 0)
    else if o = Reg.pwrTime + 4 then
      BitVec.ofNat 32 ((ofind s.pwr.timeShadow (reqNum who)).getD 0)
    else s.viewReg o
  else 0

/-- The word that a write of `v` leaves: RW bits taken from `v`, W1C bits cleared where `v` has 1, the rest kept. -/
def written (r : RegRow) (old v : Word) : Word := ((old &&& ~~~r.rw) ||| (v &&& r.rw)) &&& ~~~(v &&& r.w1c)

end Sys2Proof.Machine
end

