-- ==== Sys2Proof/Machine/Cipher.lean ====
section
/-!
DEFINITION. Keys and the cipher island (spec 15): the slots and the checks of a load (R443 to R448), the key-management
core and its lock (R449 to R451, R457), and the entropy source (R441, R453). No cipher is computed.
-/
namespace Sys2Proof.Machine

/-! ## Slots -/

/-- The member whose key range holds a slot (R444): an account, or 2,048 + slice. -/
def State.slotMember (s : State) (n : Nat) : Option Nat :=
  (s.host.accts.find? (fun e => match e.2.binding with
    | some b => decide (b.lim.keyBase ≤ n) && decide (n < b.lim.keyBase + b.lim.keyCount)
    | none => false)).map (·.1)

/-- KEY_BASE of a member. -/
def State.keyBase (s : State) (m : Nat) : Nat :=
  match (s.acct m).binding with | some b => b.lim.keyBase | none => 0

/-- KEY_COUNT of a member, 0 where it is unbound. -/
def State.keyCount (s : State) (m : Nat) : Nat :=
  match (s.acct m).binding with | some b => b.lim.keyCount | none => 0

/-- A type is permitted at a slot's position in its member's range (R444). -/
def typeAt (t : KeyType) (pos : Nat) : Bool :=
  match t with
  | .empty => true
  | .kek => decide (pos = 0)
  | .xts => decide (pos = 1)
  | .mint => decide (2 ≤ pos)

/-- Type of a code of R444, and the bytes of a type (R447). -/
def keyTypeOf : Nat → Option KeyType
  | 0 => some .empty | 1 => some .kek | 2 => some .xts | 3 => some .mint | _ => none

def keyTypeCode : KeyType → Nat
  | .empty => 0 | .kek => 1 | .xts => 2 | .mint => 3

def keyBytesOf : KeyType → Nat
  | .empty => 0 | .kek => 32 | .xts => 64 | .mint => 48

/-- The XTS slot of a member is loaded (R443, R445): the slot at KEY_BASE + 1, inside a range of at least two. -/
def State.xtsReady (s : State) (m : Nat) : Bool :=
  decide (2 ≤ s.keyCount m) && decide ((s.slot (s.keyBase m + 1)).type = .xts)

/-- The XTS key that a member's sector reads in the first cycle of its cipher stage, as it was before the tick; none where the slot holds
none or CRY holds every request for a wipe (R430, R445, R446). -/
def State.xtsRead (s : State) (m : Nat) : Option Nat :=
  let k := s.slotBefore (s.keyBase m + 1)
  if decide (2 ≤ s.keyCount m) && decide (k.type = .xts) && !s.mem.wiping then some k.key else none

/-- The XTS tweak of a sector (R442). -/
def xtsTweak (nsid lba : Nat) : BitVec 128 := BitVec.ofNat 128 (lba % 2 ^ 64 + 2 ^ 64 * (nsid % 2 ^ 32))

/-- Slots in a range are made EMPTY; an unwrap that targets one of them ends with RESULT 3 and writes nothing (R455). -/
def State.clearSlots (s : State) (lo n : Nat) : State :=
  let fix (o : KmOp) : KmOp :=
    if o.kind = .unwrap && decide (lo ≤ o.slot) && decide (o.slot < lo + n) then { o with result := 3 } else o
  { s.keepSlots with cry := { s.keepSlots.cry with
      slots := s.cry.slots.filter (fun e => !(decide (lo ≤ e.1) && decide (e.1 < lo + n))),
      op := s.cry.op.map fix } }

/-! ## The checks of R448 -/

/-- Status Code Type 2h, code 0x86. -/
def stAccessDenied : Status := ⟨2, 0x86, Config.dnr 2 0x86⟩

/-- The outcome of a load of type `t` into slot `n`: the failing check's status with the RESULT it gives on the core, or
the slot's new contents. Checks in the order of R448, without those of the command's fields and of the function. -/
def State.loadCheck (s : State) (n : Nat) (t : KeyType) (w : Wrapped) : Except (Status × Nat) KeySlot :=
  match s.slotMember n with
  | none => .error (stKeySlot, 2)
  | some m =>
    if s.cry.life ≠ .provisioned then .error (stAccessDenied, 2)
    else if (s.slot n).type = .xts && t ≠ .empty then .error (stSequenceError, 2)
    else match t with
    | .empty => .ok {}
    | .kek =>
      match s.cry.deviceKey with
      | some dk =>
        if w.intact && decide (w.under = dk.toNat) then .ok ⟨.kek, m, w.key⟩ else .error (stUnwrapFailed, 1)
      | none => .error (stUnwrapFailed, 1)
    | _ =>
      let kek := s.slot (s.keyBase m)
      if kek.type ≠ .kek then .error (stUnwrapFailed, 1)
      else if !(w.intact && decide (w.under = kek.key)) then .error (stUnwrapFailed, 1)
      else if t = .xts && decide (w.key % 2 ^ 256 = w.key / 2 ^ 256) then .error (stInvalidField, 2)
      else .ok ⟨t, m, w.key⟩

/-! ## The lock (R451, R456) -/

/-- An ACQUIRE of the running tick, for a RELEASE that comes in the same tick. -/
def State.noteAcquire (s : State) (id : Nat) : State :=
  { s with cry := { s.cry with
      acqAt := some s.ldg.tick, acq := id :: (if s.cry.acqAt = some s.ldg.tick then s.cry.acq else []) } }

/-- R451: a requester writes ACQUIRE: it takes a lock that is free, or that a higher requester number took in this tick. -/
def execAcquire (who : Requester) (s : State) : Host.Outcome State Fault Refusal :=
  .next (if !s.mayWrite who Reg.cryKmLock then s
    else
      let s1 := s.noteAcquire (reqId who)
      if s.kmOwner = 7 || (decide (s.cry.lockAt = some s.ldg.tick) && decide (reqId who < s.kmOwner) && s.cry.op.isNone) then
        let s2 := s1.setFld Reg.cryKmLock 0 3 (reqId who)
        { s2 with cry := { s2.cry with lockAt := some s.ldg.tick } }
      else s1)

/-- R451: a requester writes RELEASE; while an operation runs the lock is freed when it ends. -/
def execRelease (who : Requester) (s : State) : Host.Outcome State Fault Refusal :=
  .next (if s.mayWrite who Reg.cryKmLock && decide (s.kmOwner = reqId who) then
      (if s.cry.op.isSome then { s with cry := { s.cry with releasePending := true } } else s.kmFree)
    else s)

/-! ## The core (R449, R450, R457) -/

/-- Cipher blocks of a key wrap or unwrap of `n` bytes, 6 for each 64 bits (RFC 3394, R449). -/
def wrapBlocks (n : Nat) : Nat := 6 * ceilDiv n 8

/-- Ticks of an unwrap at a level: 18 cycles a block, and 32 to check the result and write the slot (R449). -/
def kmTicks (o : KmOp) (level : Nat) : Nat :=
  if o.kind = .unwrap && decide (0 < o.blocks) then workTicks (18 * o.blocks + 32) level else 0

/-- A write of CRY_KM_CMD by `who`: without the lock it is ignored and sets KM_REFUSED; while an operation runs it is
ignored (log entry 21); while a wipe runs CRY holds it off (R430). -/
def State.kmStart (s : State) (who : Requester) (o : KmOp) : State :=
  if !s.mayWrite who Reg.cryKmCmd then s
  else if s.kmOwner ≠ reqId who then s.raise .cryCause 1
  else if s.cry.op.isSome || s.mem.wiping then s
  else { s with cry := { s.cry with op := some { o with start := s.ldg.tick } } }

/-- R450 OP 1: unwrap TYPE and WRAPPED into a slot. -/
def execUnwrap (who : Requester) (slot : Nat) (t : KeyType) (w : Wrapped) (s : State) :
    Host.Outcome State Fault Refusal :=
  let pos := match s.slotMember slot with | some m => slot - s.keyBase m | none => 0
  let o : KmOp :=
    if !typeAt t pos then { kind := .unwrap, slot := slot, result := 2, noKek := false, new := {}, out := [] }
    else match s.loadCheck slot t w with
      | .ok k => { kind := .unwrap, slot := slot, result := 0, noKek := false, new := k, out := [], blocks := wrapBlocks (keyBytesOf t) }
      | .error e =>
        { kind := .unwrap, slot := slot, result := e.2, noKek := decide (e.2 = 1), new := {}, out := [],
          blocks := if e.2 = 1 then wrapBlocks (keyBytesOf t) else 0 }
  .next (s.kmStart who o)

/-- R450 OP 2: a MINT slot's key, wrapped under its member's KEK, 56 bytes. -/
def execWrapOut (who : Requester) (slot : Nat) (s : State) : Host.Outcome State Fault Refusal :=
  let k := s.slot slot
  let kek := s.slot (s.keyBase k.member)
  let o : KmOp :=
    if k.type = .mint && kek.type = .kek then
      { kind := .wrapOut, slot := slot, result := 0, noKek := false, new := {},
        out := (List.range 14).map (Config.wrapWord kek.key k.key), blocks := wrapBlocks 48 }
    else { kind := .wrapOut, slot := slot, result := 2, noKek := false, new := {}, out := [] }
  .next (s.kmStart who o)

/-- The number in the data registers, byte 0 lowest. -/
def State.kmData (s : State) : Nat :=
  sumOf ((List.range 18).map (fun i => (s.reg (Reg.cryKmData + 4 * i)).toNat * 2 ^ (32 * i)))

/-- R450 OP 3: 8 to 64 bytes of the data registers, wrapped under the KEK in the slot; the output is 8 bytes longer. -/
def execWrapData (who : Requester) (slot bytes : Nat) (s : State) : Host.Outcome State Fault Refusal :=
  let k := s.slot slot
  let o : KmOp :=
    if k.type = .kek && decide (8 ≤ bytes) && decide (bytes ≤ 64) then
      { kind := .wrapData, slot := slot, result := 0, noKek := false, new := {},
        out := (List.range (ceilDiv (bytes + 8) 4)).map (Config.wrapWord k.key (s.kmData % 2 ^ (8 * bytes))), blocks := wrapBlocks bytes }
    else { kind := .wrapData, slot := slot, result := 2, noKek := false, new := {}, out := [] }
  .next (s.kmStart who o)

/-- R450 OP 4: the slot is made EMPTY. -/
def execClear (who : Requester) (slot : Nat) (s : State) : Host.Outcome State Fault Refusal :=
  .next (s.kmStart who { kind := .clear, slot := slot, result := 0, noKek := false, new := {}, out := [] })

/-- Words into the data registers from register `i` on. -/
def State.putKmData (s : State) (i : Nat) : List (BitVec 32) → State
  | [] => s
  | w :: ws => (s.setReg (Reg.cryKmData + 4 * i) w).putKmData (i + 1) ws

/-- Blocks since its last seed of mask generator `g`: read streams 0 to 31 by channel, write streams 32 to 47, Mint core sides 48 to 63,
the key-management core 64. -/
def State.maskBlocks (s : State) (g : Nat) : Nat := cget 0 s.cry.maskBlocks g

/-- Blocks pass through the datapath of a mask generator (R437, R441). -/
def State.addBlocks (s : State) (g n : Nat) : State :=
  { s with cry := { s.cry with maskBlocks := cset 0 s.cry.maskBlocks g (s.maskBlocks g + n) } }

/-- R449: the operation in progress ends with its result; a pending release frees the lock (R451). -/
def execKmOpComplete (s : State) : Host.Outcome State Fault Refusal :=
  match s.cry.op with
  | none => .next s
  | some o =>
    if s.ldg.tick < o.start + kmTicks o s.clockLevel then .next s else
    let s1 := (s.setFld Reg.cryKmStatus 1 1 1).setFld Reg.cryKmStatus 2 2 o.result
    let s2 := s1.addBlocks 64 o.blocks
    let s2 : State := { s2 with cry := { s2.cry with op := none } }
    let s3 :=
      if o.result ≠ 0 then (if o.noKek then s2.raise .cryCause 0 else s2)
      else match o.kind with
        | .unwrap => s2.setSlot o.slot o.new
        | .clear => s2.setSlot o.slot {}
        | _ => s2.putKmData 0 o.out
    .next (if s3.cry.releasePending then s3.kmFree else s3)

/-- R458: a write of CRY_SLOT_SEL loads the slot's type and member. -/
def execCrySlotSelWrite (who : Requester) (v : BitVec 32) (s : State) : Host.Outcome State Fault Refusal :=
  .next (if s.mayWrite who Reg.crySlotSel then
      let n := getField v 0 12
      let m := (s.slotMember n).getD 0xFFF
      (s.setReg Reg.crySlotSel (BitVec.ofNat 32 n)).setReg Reg.crySlotInfo
        (BitVec.ofNat 32 (keyTypeCode (s.slot n).type + 4 * m))
    else s)

/-! ## Entropy and masks (R441, R453) -/

/-- R453: a health test fails; the source restarts. -/
def execEntropyFail (s : State) : Host.Outcome State Fault Refusal :=
  .next (if s.islandOn .cry then
      ({ s with cry := { s.cry with restarts := s.cry.restarts + 1 } }).raise .cryCause 3
    else s)

/-- R453: a generator has passed 2^20 blocks without a reseed; no core stops. -/
def execEntropyStale (g : Nat) (s : State) : Host.Outcome State Fault Refusal :=
  .next (if s.islandOn .cry && decide (2 ^ 20 ≤ s.maskBlocks g) then s.raise .cryCause 4 else s)

/-- R441: the DRBG reseeds a mask generator after 4,096 blocks. -/
def execMaskReseed (g : Nat) (s : State) : Host.Outcome State Fault Refusal :=
  .next (if s.islandOn .cry && decide (4096 ≤ s.maskBlocks g) then
      { s with cry := { s.cry with maskBlocks := cset 0 s.cry.maskBlocks g 0 } }
    else s)

end Sys2Proof.Machine
end

