-- ==== Sys2Proof/Machine/Zones.lean ====
section
/-!
DEFINITION. Zones as the commands see them (spec 08): where a sector lies (R214, R231), which reads a sector holds (R230),
the active limits (R216, R217, R265, R398), and where conventional sectors lie (R240).
-/
namespace Sys2Proof.Machine

/-! ## Geometry (R214) -/

/-- Sectors of a device zone. -/
def zoneSectors : Nat := 524288

def State.groupCount (s : State) : Nat := s.med.groups.length

/-- Dies that the geometry names: 16 in each group. -/
def State.populated (s : State) : Nat := 16 * s.groupCount

/-- The dies of a zone's group, by die slot. -/
def State.zoneDies (s : State) (z : Nat) : List Nat := s.med.groups.getD (z % s.groupCount) []

/-- Die slot and stripe wordline of a sector offset. -/
def dieSlot (o : Nat) : Nat := o / 64 % 16
def wordline (o : Nat) : Nat := o / 1024

/-- Die of a die slot of a zone. -/
def State.zoneDie (s : State) (z i : Nat) : Nat := (s.zoneDies z).getD i 0

/-- Key of a zone's sector in the media map, and of a conventional sector. -/
def zoneKey (z o : Nat) : Nat := z * zoneSectors + o
def convKey (nsid lba : Nat) : Nat := nsid * 2 ^ 40 + lba

/-- Group and slot of a die, none where the geometry does not name it. -/
def findDie (d : Nat) : List (List Nat) → Nat → Option (Nat × Nat)
  | [], _ => none
  | g :: gs, n =>
    match g.findIdx? (fun x => decide (x = d)) with
    | some i => some (n, i)
    | none => findDie d gs (n + 1)

/-! ## Namespaces -/

def State.ns (s : State) (n : Nat) : Option Ns := ofind s.med.ns n

/-- Device zone that holds an LBA of a zoned namespace. -/
def nsZone (x : Ns) (lba : Nat) : Option Nat := x.zones[lba / zoneSectors]?

/-- The member whose XTS key encrypts the namespace (R443). -/
def nsOwner (x : Ns) : Nat := x.owner.getD 0

/-- GiB of all conventional namespaces, zones' worth of blocks that their pool takes from each group, and the exportable zones
(R239). -/
def State.convGib (s : State) : Nat := ceilDiv (sumOf (s.med.ns.map (fun e => if e.2.zoned then 0 else e.2.size))) 262144
def State.convZones (s : State) : Nat := ceilDiv s.convGib (max 1 s.groupCount)
def State.exportZones (s : State) : Nat := s.groupCount * (3584 - s.convZones)

/-- MED_ZONE_EXPORT follows. -/
def State.syncExport (s : State) : State := s.setFld Reg.medZoneExport 0 18 s.exportZones

/-! ## Resolution (R231) -/

/-- The sector reads as zeros: the zone is Empty, or it lies at or past the accepted write pointer or the finish point. -/
def zeroIn (x : Zone) (o : Nat) : Bool := decide (x.state = .empty) || decide (x.wp ≤ o) || decide (x.finish ≤ o)

/-- A read of the sector is held (R230): below the accepted write pointer and not yet secured, or secured and not settled. -/
def State.zoneHeld (s : State) (z o : Nat) : Bool :=
  let x := s.zone z
  !zeroIn x o &&
    (decide (x.secWp ≤ o) ||
      (match ofind s.med.sectors (zoneKey z o) with | some e => decide (e.place = .staged) | none => false))

/-- The stored sector that a zoned read returns, none for a zero read. -/
def State.zoneSector (s : State) (z o : Nat) : Option Stored :=
  if zeroIn (s.zone z) o then none else ofind s.med.sectors (zoneKey z o)

/-- Die that a stored sector is read from: its slot's die, or the Tally area of another (R274). -/
def State.sectorDie (s : State) (z o : Nat) (e : Stored) : Nat :=
  if e.place = .tallyArea then e.die else s.zoneDie z (dieSlot o)

/-- The sector lies in an SLC page (R231, R232). -/
def inSlc (p : Place) : Bool := decide (p = .tail) || decide (p = .slc) || decide (p = .tallyArea)

/-- The sectors of a read: namespace LBA, with zone and offset where it is zoned. -/
def lbas (slba count : Nat) : List Nat := upFrom slba count

/-- A read of this LBA of the namespace is held (R230, R241). -/
def State.lbaHeld (s : State) (nsid lba : Nat) (x : Ns) : Bool :=
  if x.zoned then
    match nsZone x lba with
    | some z => s.zoneHeld z (lba % zoneSectors)
    | none => false
  else
    match ofind s.med.conv (convKey nsid lba) with
    | some e => decide (e.place = .staged)
    | none => false

/-! ## Active zones (R216, R217, R265, R398) -/

def State.activeZones (s : State) : Nat := (s.med.zones.filter (fun e => e.2.active)).length
def State.activeOf (s : State) (a : Nat) : Nat :=
  (s.med.zones.filter (fun e => e.2.active && decide (e.2.by_ = a))).length
def State.holders (s : State) : Nat := (s.med.zones.filter (fun e => e.2.holder)).length

/-- MAR as LOAD fixed it, and H. -/
def State.mar (s : State) : Nat := s.fld Reg.medZoneLimits 0 14
def State.tallyLimit (s : State) : Nat := 12 * s.populated

/-- MAX_ACTIVE of an account (R328). -/
def State.maxActive (s : State) (a : Nat) : Nat :=
  match (s.acct a).binding with | some b => b.lim.maxActive | none => 0

/-- What becomes of a command of account `a` that would make an Empty zone active. -/
inductive Activation where
  | ok | waits | tooMany | tallyFull
deriving DecidableEq, Repr

def State.activation (s : State) (a : Nat) : Activation :=
  if s.mar ≤ s.activeZones || s.rsv.marE ≤ s.activeZones || s.maxActive a ≤ s.activeOf a then .tooMany
  else if s.tallyLimit ≤ s.holders then
    (if s.med.zones.any (fun e => e.2.holder && !e.2.active) then .waits else .tallyFull)
  else .ok

/-- The cause bits of a refused activation: ACTIVE_LIMIT, COVER_LOW at MAR_E, TALLY_LIMIT. -/
def State.refuseActivation (s : State) (a : Activation) : State :=
  match a with
  | .tooMany =>
    let s1 := s.raise .zoneCause 0
    if s.rsv.marE < s.mar && s.rsv.marE ≤ s.activeZones then s1.raise .rsvCause 1 else s1
  | .tallyFull => s.raise .integCause 7
  | _ => s

/-- The zone becomes active for account `a` (R215, R265): it holds a Tally from this tick. -/
def activate (a : Nat) (x : Zone) : Zone := { x with active := true, holder := true, by_ := a }

/-- A zone state that is open, and one that counts as written to. -/
def isOpen (x : ZState) : Bool := decide (x = .implicitOpen) || decide (x = .explicitOpen)

/-- Zone state codes of R215. -/
def zstateCode : ZState → Nat
  | .empty => 1 | .implicitOpen => 2 | .explicitOpen => 3 | .closed => 4 | .readOnly => 0xD | .full => 0xE | .offline => 0xF

/-! ## Flash blocks given back (R221, R264) -/

/-- First block of a die's tail ring (log entry 34). -/
def tailBlock : Nat := 3712

/-- A sector's block: the one that it was granted or frozen to, else the one that MAP names. -/
def State.secBlock (s : State) (x : Sec) : Nat :=
  match x.block with
  | some b => b
  | none =>
    match ofind s.med.sectors x.key with
    | some e =>
      let z := s.zone (x.key / zoneSectors)
      let sl := cget {} z.slots (dieSlot (x.key % zoneSectors))
      match e.place with
      | .slc => sl.stream.getD ((4 * (wordline (x.key % zoneSectors) - sl.base)) / 512) e.block
      | .qlc => sl.block
      | .tail => tailBlock + z.tailPage / 512
      | _ => e.block
    | none => match ofind s.med.conv x.key with | some e => e.block | none => 0

/-- The sector has been resolved to flash, and its die read has not ended (R222). -/
def readPending (x : Sec) : Bool :=
  !x.zero &&
  (match x.st with
   | .waiting => true | .registered => true | .granted => true | .retryWait => true | .recovering => true
   | .moved => true | .decoded => true | .clear => true
   | .lookup => x.block.isSome || decide (x.key / zoneSectors < 2 ^ 21)
   | _ => false)

/-- An operation on the die works on the block. -/
def opOn (r : DieRt) (b : Nat) : Bool :=
  (r.read.toList ++ r.op.toList ++ r.late.toList ++ r.susp).any (fun o => decide (o.block = b))

/-- A read that was accepted will still read the block, or an operation works on it (R222). -/
def State.blockInUse (s : State) (d b : Nat) : Bool :=
  opOn (s.die d) b ||
  s.host.cmds.any (fun e => e.2.secs.any (fun x => readPending x && decide (x.die = d) && decide (s.secBlock x = b)))

/-- A block returns to the free pool, awaiting erase (R221); a lent one leaves its die's lent count. -/
def State.freeBlock (s : State) (d b : Nat) : State :=
  let x := s.block d b
  if x.state = .retired then s
  else
    let s1 := s.setBlock d b { x with
      state := .ready, awaiting := true, zone := none, programmed := 0, pages := 0, reads := 0, refresh := false, retention := false,
      conv := false, slc := false, lentAt := 0, vreads := 0, leaving := false }
    if x.state = .lent then s1.setDieMed d { s1.dieMed d with lent := (s1.dieMed d).lent - 1 } else s1

/-- The blocks of a die slot of a zone: its stream's, and the bound one. -/
def slotBlocks (x : ZSlot) : List Nat := x.stream ++ (if x.kind = .unplaced then [] else [x.block])

/-- A block of a Reset zone returns to the pool once the reads accepted before the Reset have read it, and a program that runs on it has
ended (R222). -/
def State.leaveBlock (s : State) (d b : Nat) : State :=
  if s.blockInUse d b then s.setBlock d b { s.block d b with zone := none, leaving := true, refresh := false, retention := false }
  else s.freeBlock d b

/-- The moves of a zone end: the destination of one that is not committed returns to the pool, and the source of one that is (R277, R280). -/
def State.freeMoves (s : State) (z : Nat) : State :=
  (s.med.moves.filter (fun e => decide (e.2.zone = some z))).foldl (fun s e =>
    s.leaveBlock e.2.srcDie (if e.2.step = 4 then e.2.srcBlock else e.2.dstBlock)) s

/-- Every block of the zone returns to the pool. -/
def State.freeZone (s : State) (z : Nat) : State :=
  (s.zone z).slots.foldl (fun s e => (slotBlocks e.2).foldl (fun s b => s.leaveBlock (s.zoneDie z e.1) b) s) (s.freeMoves z)

/-- Reads of the zone accepted so far keep the blocks that MAP names now (R222). -/
def State.freezeReads (s : State) (z : Nat) : State :=
  let keep (x : Sec) : Sec :=
    if readPending x && x.block.isNone && decide (x.key / zoneSectors = z) then { x with block := some (s.secBlock x) } else x
  { s with host := { s.host with cmds := omap (fun _ (c : Cmd) => { c with secs := c.secs.map keep }) s.host.cmds } }

/-- Programs of the zone that run, or are suspended, run to their end, and their results are discarded (R222). -/
def State.killPrograms (s : State) (z : Nat) : State :=
  let ofZone (o : DieOp) : Bool := decide (o.zone = some z) || (match o.mv with
    | some n => (match ofind s.med.moves n with | some m => decide (m.zone = some z) | none => false)
    | none => false)
  let kill (o : DieOp) : DieOp := if ofZone o then { o with dead := true } else o
  s.ldg.dies.foldl (fun s e => s.setDie e.1 { e.2 with
    read := e.2.read.map kill, op := e.2.op.map kill, late := e.2.late.map kill, susp := e.2.susp.map kill }) s

/-- Units of die slot `i` that hold sectors below the finish point. -/
def slotUnits (finish i : Nat) : Nat := (ceilDiv finish 64 + 15 - i) / 16

/-- An OPEN bound block becomes FULL with its last wordline, or with the last unit of a zone finished short (R256). -/
def State.fillBlock (s : State) (z : Nat) (e : Nat × ZSlot) : State :=
  let x := s.zone z
  let d := s.zoneDie z e.1
  let b := s.block d e.2.block
  let due := decide (e.2.qlcUnits = 512) ||
    (decide (x.state = .full) && x.padUnit.isNone && decide (slotUnits x.finish e.1 ≤ e.2.qlcUnits))
  if e.2.kind ≠ .unplaced && b.state = .open_ && due then s.setBlock d e.2.block { b with state := .full } else s

/-- A stream whose first block folding has emptied gives it back (R228): the others move up and BASE rises by 128. The last block of a zone
that is Full is emptied once every unit of its slot is folded. -/
def State.returnBlock (s : State) (z i : Nat) : State :=
  let x := s.zone z
  let sl := cget {} x.slots i
  match sl.stream with
  | [] => s
  | b :: bs =>
    if sl.base + 128 ≤ sl.qlcUnits then
      (s.setZone z { x with slots := cset {} x.slots i { sl with stream := bs, base := sl.base + 128, quarters := sl.quarters - 512 } }).leaveBlock
        (s.zoneDie z i) b
    else if x.state = .full && x.padUnit.isNone && bs.isEmpty && decide (slotUnits x.finish i ≤ sl.qlcUnits) then
      (s.setZone z { x with slots := cset {} x.slots i { sl with stream := [], quarters := 0 } }).leaveBlock (s.zoneDie z i) b
    else s

/-- What a slot's block and stream owe once a program, a fold or a Finish has changed them. -/
def State.fillBlocks (s : State) (z : Nat) : State :=
  (s.zone z).slots.foldl (fun s e => (s.fillBlock z e).returnBlock z e.1) s

/-- Sectors of a zone at offsets that `p` names are dropped from the media map. -/
def State.dropSectors (s : State) (z : Nat) (p : Nat → Bool) : State :=
  { s with med := { s.med with
      sectors := s.med.sectors.filter (fun e => !(decide (e.1 / zoneSectors = z) && p (e.1 % zoneSectors))) } }

end Sys2Proof.Machine
end

