-- ==== Sys2Proof/Machine/DayBook.lean ====
section
/-!
DEFINITION. The Day Book and staging (spec 13): records (R383, R384), the shares of cover and of the completed pool (R386,
R387), credit charges (R170 to R172), undelivered completions (R390), trace stamps (R155) and the external-wait record
(R156).
-/
namespace Sys2Proof.Machine

/-! ## Records -/

def State.dbRec (s : State) (q : Nat) : Option Rec := ofind s.db.recs q

def State.setRec (s : State) (q : Nat) (r : Rec) : State := { s with db := { s.db with recs := oput s.db.recs q r } }

/-- A record retires (R384). -/
def State.retire (s : State) (q : Nat) : State := { s with db := { s.db with recs := odel s.db.recs q } }

/-- Change a record that is not RETIRED. -/
def State.modRec (s : State) (q : Nat) (f : Rec → Rec) : State :=
  match s.dbRec q with
  | some r => s.setRec q (f r)
  | none => s

/-! ## The bytes of a record and of its spill entry (R383, R391) -/

def recStateCode : RecState → Nat
  | .accepted => 1 | .secured => 2 | .settled => 3

def recKindCode : RecKind → Nat
  | .read => 0 | .write => 1 | .nodata => 2 | .mapCommit => 3

/-- The 64 bytes of the record of sequence number `q`. -/
def dbRecBytes (q : Nat) (r : Rec) : List Byte :=
  let bs := leBytes 8 q ++ leBytes 1 (recStateCode r.state + 4 * recKindCode r.kind) ++
    leBytes 1 (b2n r.posted + 2 * b2n r.undelivered + 4 * b2n r.ended + 8 * b2n r.ordered + 16 * b2n r.net) ++
    leBytes 1 r.opcode.toNat ++ leBytes 1 r.pending ++ leBytes 2 (r.member % 4096) ++ leBytes 2 r.queue ++ leBytes 2 r.cid ++
    leBytes 2 r.nlb ++ leBytes 4 r.nsid ++ leBytes 8 r.slba ++ leBytes 4 (r.stage % 2 ^ 19) ++ leBytes 2 r.status ++ zeros 2 ++
    leBytes 8 r.aux ++ zeros 12
  bs ++ leBytes 4 (crc32c bs).toNat

/-- A placement descriptor: `n` sectors from the record's sector `i` on lie from position `pos` of an SLC page or a QLC wordline on. -/
def placeWord (die block page : Nat) (qlc : Bool) (i n pos : Nat) : BitVec 64 :=
  BitVec.ofNat 64 (die % 2 ^ 10 + 2 ^ 10 * (block % 2 ^ 12) + 2 ^ 22 * (page % 2 ^ 9) + 2 ^ 31 * b2n qlc + 2 ^ 32 * (i % 2 ^ 6) +
    2 ^ 38 * (n % 2 ^ 7) + 2 ^ 45 * (pos % 2 ^ 6) + 2 ^ 63)

/-- A descriptor joins a placement block in sector order, in place of one of the same sectors: a page that a tail page held part of. -/
def putPlace (w : BitVec 64) (ps : List (BitVec 64)) : List (BitVec 64) :=
  let first (x : BitVec 64) : Nat := getField x 32 6
  let n := getField w 38 7
  ps.filter (fun x => decide (first x < first w)) ++ w :: ps.filter (fun x => decide (first w + n ≤ first x))

/-- The 128 bytes of a spill entry. -/
def spillBytes (q : Nat) (r : Rec) : List Byte :=
  dbRecBytes q r ++ padTo 64 ((r.places.take 8).map (fun w => leBytes 8 w.toNat)).flatten

/-! ## What a command is -/

/-- Write-type commands (R379). -/
def writeType (o : CmdOp) : Bool :=
  match o with
  | .write => true | .append => true | .writeZeroes => true | .copy => true | .dsm => true | _ => false

/-- No-data commands (R379). -/
def noData (o : CmdOp) : Bool :=
  match o with
  | .flush => true | .zoneMgmt _ _ => true | _ => false

/-- KIND of a command's record (R383). -/
def recKind (o : CmdOp) : RecKind := if writeType o then .write else if noData o then .nodata else .read

/-- A deallocation: Dataset Management, or Write Zeroes of a conventional namespace (R393). -/
def isDealloc (c : Cmd) : Bool :=
  match c.op with
  | .dsm => true
  | .writeZeroes => decide (c.zone = none)
  | _ => false

/-- Sectors of a command that are written, and those that are read. -/
def destSecs (c : Cmd) : List Sec := c.secs.filter (fun x => !x.copySrc)
def srcSecs (c : Cmd) : List Sec := c.secs.filter (fun x => x.copySrc)

/-- Staging slots that a write-type command counts: its sectors, one range-list slot for Dataset Management, none for a
conventional Write Zeroes (R387, R393). -/
def slotCount (c : Cmd) : Nat :=
  match c.op with
  | .dsm => 1
  | .writeZeroes => if c.zone = none then 0 else c.count
  | _ => c.count

/-- A zone command counts a hold of o mod 16 further slots (R387). -/
def holdCount (c : Cmd) : Nat := if c.zone = none then 0 else c.slba % zoneSectors % 16

/-! ## Shares (R386, R387) -/

/-- The limits of a member at the level in force (R170). -/
def State.limits (s : State) (m : Nat) : CreditLimit :=
  match (s.acct m).binding with
  | some b => b.lim.credit.getD s.level ⟨0, 0, 0⟩
  | none => ⟨0, 0, 0⟩

/-- W: the sum of WR limits over bound accounts and enabled slices. -/
def State.wrTotal (s : State) : Nat := sumOf (s.host.accts.map (fun e => (s.limits e.1).wr))

/-- The shares are computed: W is taken anew at each refill and whenever C_eff changes (R387). -/
def State.setShares (s : State) : State := { s with db := { s.db with wrSum := s.wrTotal } }

/-- A member's share of a pool: no more than the pool. -/
def State.shareOf (s : State) (m pool : Nat) : Nat := if s.db.wrSum = 0 then 0 else min pool (pool * (s.limits m).wr / s.db.wrSum)

/-- The shared pool in slots: C_eff less 64 KiB for each of MAR_E zones (R386). -/
def State.poolSlots (s : State) : Nat := s.rsv.coverMib * 256 - 16 * s.rsv.marE

/-- A staged zone sector counts against its zone's reservation (R386). -/
def inReserve (x : Zone) (o : Nat) : Bool := decide (x.secWp % 16 ≠ 0) && decide (o / 16 = x.secWp / 16)

def isStaged (e : Stored) : Bool := !e.filler && (decide (e.place = .staged) || decide (e.place = .tail))

/-- Slots of a member that count against its share (R387): its secured sectors still staged, those of its commands that hold
slots and are not secured, with their holds, and its held range lists (R393). -/
def State.stagedOf (s : State) (m : Nat) : Nat :=
  (s.med.sectors.filter (fun e => isStaged e.2 && decide (e.2.member = m) &&
      !inReserve (s.zone (e.1 / zoneSectors)) (e.1 % zoneSectors))).length +
  (s.med.conv.filter (fun e => isStaged e.2 && decide (e.2.member = m))).length +
  sumOf (s.host.cmds.map (fun e => if e.2.member = m && !e.2.secured then e.2.staged + e.2.hold else 0)) +
  (s.db.recs.filter (fun e => decide (e.2.member = m) && !e.2.ranges.isEmpty && decide (e.2.opcode = 0x09) &&
      decide (e.2.state ≠ .accepted))).length

/-- Completed-pool records of a member: its secured write-type records, and those its fetching commands have taken (R387). -/
def State.doneRecs (s : State) (m : Nat) : Nat :=
  (s.db.recs.filter (fun e => decide (e.2.member = m) && decide (e.2.kind = .write) && decide (e.2.state ≠ .accepted))).length +
  (s.host.cmds.filter (fun e => decide (e.2.member = m) && e.2.pooled && !e.2.secured)).length

/-- The command may take its slots and its record (R387). -/
def State.mayStage (s : State) (c : Cmd) : Bool :=
  decide (s.stagedOf c.member + slotCount c + holdCount c ≤ s.shareOf c.member s.poolSlots) &&
  decide (s.doneRecs c.member + 1 ≤ s.shareOf c.member 30720)

/-- Slots of the write-staging region (R24). -/
def stageSlots : Nat := 524288

/-! ## Credit (R170, R171) -/

/-- RD, WR and BYTE of a charge. -/
structure Charge where
  rd : Nat := 0
  wr : Nat := 0
  byte : Nat := 0
deriving DecidableEq, Repr

/-- The member's account or slice is quiescing, or an active member waits for a sleep entry, so that admission is suspended
(R343, R497). -/
def State.quiescing (s : State) (m : Nat) : Bool :=
  let a := s.acct m
  a.quiesce.isSome || (s.pwr.sleep.isSome && a.binding.isSome && !a.quiesced)

/-- Work with this charge is admitted (R171): each counter that it charges is at least 1. A zero read's BYTE is charged without it. -/
def State.admits (s : State) (m : Nat) (k : Charge) : Bool :=
  s.quiescing m ||
  ((decide (k.rd = 0) || decide (1 ≤ (s.credit m).rd)) && (decide (k.wr = 0) || decide (1 ≤ (s.credit m).wr)) &&
   (decide (k.byte = 0) || decide (1 ≤ (s.credit m).byte)))

/-- A 24-bit signed counter after a charge: it stops at its least value, since no rule says what a charge that would take it lower leaves
(DESIGN CHOICE, log entry 153). -/
def debit (c : Int) (n : Nat) : Int := max (c - (n : Int)) (-8388608)

/-- Tick since which work with this charge has not been admitted; none where it is (R171). -/
def outSince (c : Credit) (k : Charge) : Option Nat :=
  let out := (if 0 < k.rd && c.rd < 1 then [c.rdOut] else []) ++ (if 0 < k.wr && c.wr < 1 then [c.wrOut] else []) ++
    (if 0 < k.byte && c.byte < 1 then [c.byteOut] else [])
  match out with
  | [] => none
  | t :: ts => some (ts.foldl min t)

/-- The tick since which a counter stands below 1, after it went from `old` to `new`. -/
def outMark (old new : Int) (mark now : Nat) : Nat := if new < 1 ∧ ¬ old < 1 then now else mark

/-- Charge a member. -/
def State.charge (s : State) (m : Nat) (k : Charge) : State :=
  let c := s.credit m
  let d : Credit := { c with rd := debit c.rd k.rd, wr := debit c.wr k.wr, byte := debit c.byte k.byte }
  s.setCredit m { d with
    rdOut := outMark c.rd d.rd c.rdOut s.ldg.tick, wrOut := outMark c.wr d.wr c.wrOut s.ldg.tick,
    byteOut := outMark c.byte d.byte c.byteOut s.ldg.tick }

/-- The charge of a write at the end of its acceptance (R171). -/
def writeCharge (c : Cmd) : Charge :=
  match c.op with
  | .write => ⟨0, c.count, c.count⟩
  | .append => ⟨0, c.count, c.count⟩
  | .copy => ⟨0, c.count, 0⟩
  | .writeZeroes => if c.zone = none then ⟨0, 0, 0⟩ else ⟨0, c.count, 0⟩
  | _ => ⟨0, 0, 0⟩

/-- The charge of a read sector at its grant (R171). -/
def readCharge (c : Cmd) : Charge := if c.op = .copy then ⟨1, 0, 0⟩ else ⟨1, 0, 1⟩

/-! ## Undelivered completions (R390) -/

/-- STATUS and the queue field of a command's record (R383). -/
def queueField (c : Cmd) : Nat := if c.net then 0x8000 + c.queue else c.queue

/-- A completion cannot be delivered: its event record, HST_DB_UNDELIV and UNDELIVERED (R390). -/
def State.undelivered (s : State) (member queue cid status seq : Nat) : State :=
  let s1 := s.event 0x0005 (leBytes 2 member ++ leBytes 2 queue ++ leBytes 2 cid ++ leBytes 2 status ++ leBytes 8 seq)
  (s1.countFld Reg.hstDbUndeliv 0 32 1).raise .dbCause 0

/-! ## Trace and external wait (R155, R156) -/

/-- The command was in an external wait from tick `a` to tick `b` (R151). -/
def Cmd.waited (c : Cmd) (a b : Nat) : Cmd := if a < b then { c with waits := (a, b) :: c.waits } else c

/-- Ticks that intervals cover together, the latest end first; `top` is the tick from which on they are counted already. -/
def coverTicks : List (Nat × Nat) → Nat → Nat
  | [], _ => 0
  | w :: ws, top => (min w.2 top - w.1) + coverTicks ws (min top w.1)

/-- A command's external wait: its total time in the kinds of R151, each tick once. -/
def waitTotal (c : Cmd) : Nat := coverTicks c.waits (2 ^ 64)

/-- Stamp `n` of the traced command at tick `t`, less its arrival tick. Of a command of several sectors the stamp of the sector whose stage
ended last stands: R155 says so of stamps 5, 10 and 11 of a read, and the model takes it for every stamp (DESIGN CHOICE, log entry 154). -/
def State.stampAt (s : State) (h n t : Nat) : State :=
  if s.ldg.traced = some h then s.setReg (Reg.ldgTraceStamp0 + 4 * n) (BitVec.ofNat 32 (t - s.ldg.traceFrom)) else s

/-- Stamp `n` in the running tick. -/
def State.stamp (s : State) (h n : Nat) : State := s.stampAt h n s.ldg.tick

/-- PATH of a command, none where it never matches (R155). -/
def tracePath (c : Cmd) (zoned : Bool) : Option Nat :=
  match c.op with
  | .read => if c.secs.all (fun x => x.zero) then some 2 else if zoned then some 0 else some 1
  | .write => some 3
  | .append => some 3
  | .writeZeroes => if zoned then some 3 else none
  | .minted => some 4
  | _ => none

/-- The command matches MATCH of LDG_TRACE_CTL, and arrived later than the tick of the write of ARM. Of two that arrive in one tick the one
with the lower sequence number is accepted first. -/
def State.traceMatches (s : State) (c : Cmd) : Bool :=
  bitOf (s.reg Reg.ldgTraceCtl) 0 && s.ldg.traced.isNone && decide (s.ldg.traceFrom < c.arrival) &&
  decide (s.fld Reg.ldgTraceCtl 4 11 = c.account) &&
  (match s.fld Reg.ldgTraceCtl 2 2 with
   | 0 => true
   | 1 => !c.net && decide (s.fld Reg.ldgTraceCtl 16 14 = c.queue)
   | 2 => decide (c.op = .minted)
   | _ => false)

/-- Capture begins with a matching command (R155). -/
def State.traceStart (s : State) (h : Nat) (c : Cmd) (zoned : Bool) : State :=
  match tracePath c zoned with
  | none => s
  | some p =>
    if s.traceMatches c then
      let s1 := (List.range 15).foldl (fun s n => s.setReg (Reg.ldgTraceStamp + 4 * n) 0xFFFFFFFF#32) s
      let s2 := s1.setReg Reg.ldgTraceStamp0 (BitVec.ofNat 32 c.arrival)
      let s3 := s2.setReg Reg.ldgTraceInfo (BitVec.ofNat 32 (p + 16 * b2n c.net + 32 * s.level))
      let s4 := s3.setReg Reg.ldgTraceSeq (BitVec.ofNat 32 c.seq)
      { s4 with ldg := { s4.ldg with traced := some h, traceFrom := c.arrival } }
    else s

/-- The traced command's end tick has passed: ARM cleared, DONE set. -/
def State.traceEnd (s : State) (h : Nat) (c : Cmd) : State :=
  if s.ldg.traced = some h then
    let s0 := if c.op = .read && !c.secs.isEmpty && c.secs.all (fun x => x.zero) then s.setFld Reg.ldgTraceInfo 0 4 2 else s
    let s1 := (s0.setReg Reg.ldgTraceExt (BitVec.ofNat 32 (waitTotal c))).setFld Reg.ldgTraceInfo 8 2 c.maxRetry
    let s2 := (s1.setFld Reg.ldgTraceCtl 0 1 0).setFld Reg.ldgTraceCtl 1 1 1
    { s2 with ldg := { s2.ldg with traced := none } }
  else s

/-- The account's external-wait record takes a command's wait (R156). -/
def State.recordWait (s : State) (account wait : Nat) : State :=
  let p := Reg.actExtwaitMax + 0x100 * account
  let s1 := if (s.reg p).toNat < wait then s.setReg p (BitVec.ofNat 32 (min wait (2 ^ 32 - 1))) else s
  if (s1.reg (Reg.actExtwaitThr + 0x100 * account)).toNat < wait then
    s1.countFld (Reg.actExtwaitCnt + 0x100 * account) 0 32 1
  else s1

/-! ## Zone effects that close records (R385, R388, R389) -/

/-- The records of SECURED writes with sectors staged for the zone move to SETTLED, their staged sectors discarded (R385). -/
def State.discardStaged (s : State) (z : Nat) : State :=
  let seqs := (s.med.sectors.filter (fun e => decide (e.1 / zoneSectors = z) && decide (e.2.place = .staged))).map (·.2.seq)
  { s with db := { s.db with
      recs := omap (fun q (r : Rec) =>
        if r.state = .secured && r.kind = .write && seqs.contains q then { r with state := .settled, pending := 0 } else r)
        s.db.recs } }

/-- A Reset takes effect (R221): the zone is Empty, its staged sectors, tail page and streams are discarded, its blocks
return, and its Tally is released (R264). -/
def State.resetZone (s : State) (z : Nat) : State :=
  let s1 := ((((s.discardStaged z).freezeReads z).killPrograms z).freeZone z).dropSectors z (fun _ => true)
  let s2 : State := { s1 with med := { s1.med with forced := s1.med.forced.filter (fun x => decide (x ≠ z)),
                                                   rebuilds := s1.med.rebuilds.filter (fun x => decide (x ≠ z)),
                                                   recompute := s1.med.recompute.filter (fun x => decide (x / 512 ≠ z)),
                                                   evac := s1.med.evac.filter (fun x => decide (x % 2 ^ 20 ≠ z)),
                                                   moves := s1.med.moves.filter (fun e => decide (e.2.zone ≠ some z)) } }
  let x := s2.zone z
  s2.setZone z { mgmt := x.mgmt }

/-- A Finish takes effect (R220): the finish point recorded, the pointer at the zone end, the current unit to be padded,
the claims of unplaced slots released, CLOSED_SHORT judged. The zone leaves the active set (R217); with nothing placed it
holds no Tally. -/
def State.finishZone (s : State) (z : Nat) : State :=
  let x := s.zone z
  if x.state = .full then s
  else
    let pad := decide (x.wp % 64 ≠ 0)
    let y : Zone := { x with
      state := .full, finish := x.wp, wp := zoneSectors, active := false, claims := [],
      padUnit := if pad then some (x.wp / 64) else none, short := decide (0 < x.wp) && decide (x.wp + 64 ≤ zoneSectors),
      holder := x.holder && decide (x.wp ≠ 0) }
    let s1 := s.setZone z y
    if pad then s1.raise .zoneCause 5 else s1.fillBlocks z

end Sys2Proof.Machine
end

