-- ==== Sys2Proof/Machine/Cmds.lean ====
section
/-!
DEFINITION. The life of an I/O command (spec 10, 11, 13): its decoding, its range-lock entries (R302 to R305), what holds
its arrival (R133, R230, R300, R301, R303), its end with or without effect (R385, R389, R390), and what an end sets going:
Flush, zone management, held secure results, quiesces, resets and Format.
-/
namespace Sys2Proof.Machine

/-! ## Decoding (R285, R302, R308, R313) -/

def sqeSlba (q : Sqe) : Nat := q.cdw10.toNat + 2 ^ 32 * q.cdw11.toNat
def sqeNlb (q : Sqe) : Nat := getField q.cdw12 0 16 + 1
def sqeOrdered (q : Sqe) : Bool := bitOf q.cdw13 31
def sqePract (q : Sqe) : Bool := bitOf q.cdw12 29

/-- The command of an opcode in a namespace of the kind given (R285). -/
def decodeOp (q : Sqe) (zoned : Bool) : CmdOp :=
  match q.opcode.toNat with
  | 0x00 => .flush
  | 0x01 => .write
  | 0x02 => .read
  | 0x08 => .writeZeroes
  | 0x09 => if zoned then .unsupported else .dsm
  | 0x19 => .copy
  | 0x79 => if zoned then .zoneMgmt (getField q.cdw13 0 8) (bitOf q.cdw13 8) else .unsupported
  | 0x7A => if zoned then .report else .unsupported
  | 0x7D => if zoned then .append else .unsupported
  | 0x9D => .minted
  | _ => .unsupported

/-- Sectors of the command: a Copy takes those of its source ranges. -/
def opCount (o : CmdOp) (q : Sqe) (ranges : List LbaRange) : Nat :=
  match o with
  | .copy => sumOf (ranges.map (·.count))
  | .flush => 0
  | .dsm => 0
  | .zoneMgmt _ _ => 0
  | .report => 0
  | .unsupported => 0
  | _ => sqeNlb q

/-- The device zone that a zone command names (R301), none for any other command. -/
def opZone (o : CmdOp) (x : Ns) (slba : Nat) : Option Nat :=
  if !x.zoned then none
  else match o with
    | .write => nsZone x slba
    | .append => nsZone x slba
    | .writeZeroes => nsZone x slba
    | .copy => nsZone x slba
    | .zoneMgmt _ all => if all then none else nsZone x slba
    | _ => none

/-- The zones a zone command names; Select All names every zone of its namespace. -/
def State.cmdZones (s : State) (c : Cmd) : List Nat :=
  match c.zone with
  | some z => [z]
  | none =>
    match c.op with
    | .zoneMgmt _ true => match s.ns c.nsid with | some x => x.zones | none => []
    | _ => []

/-- Span of a range list: first LBA and one past the last. -/
def rangeSpan (l : List LbaRange) : Nat × Nat :=
  match l with
  | [] => (0, 0)
  | r :: rs => rs.foldl (fun (p : Nat × Nat) r => (min p.1 r.slba, max p.2 (r.slba + r.count))) (r.slba, r.slba + r.count)

/-- The range-lock entries of a command of a conventional namespace (R302): first, last, write. -/
def lockNeeds (o : CmdOp) (x : Ns) (slba count : Nat) (ranges : List LbaRange) : List (Nat × Nat × Bool) :=
  if x.zoned then []
  else
    let span := rangeSpan ranges
    match o with
    | .read => [(slba, slba + count - 1, false)]
    | .minted => [(slba, slba + count - 1, false)]
    | .write => [(slba, slba + count - 1, true)]
    | .writeZeroes => [(slba, slba + count - 1, true)]
    | .dsm => if ranges.isEmpty then [] else [(span.1, span.2 - 1, true)]
    | .copy => (if ranges.isEmpty then [] else [(span.1, span.2 - 1, false)]) ++ [(slba, slba + count - 1, true)]
    | _ => []

/-! ## Range-lock shares (R305) -/

/-- Conventional namespaces that exist. -/
def State.convCount (s : State) : Nat := (s.med.ns.filter (fun e => !e.2.zoned)).length

/-- A conventional namespace's share of the 8,192 entries. -/
def State.lockShare (s : State) : Nat := if s.convCount = 0 then 8192 else 8192 / s.convCount

def State.locksOf (s : State) (nsid : Nat) : Nat :=
  sumOf (s.host.cmds.map (fun e => if e.2.nsid = nsid then e.2.locks.length else 0))

/-- The entries that a command of the namespace as it stands would take. -/
def State.cmdNeeds (s : State) (c : Cmd) : List (Nat × Nat × Bool) :=
  match s.ns c.nsid with | some x => lockNeeds c.op x c.slba c.count c.ranges | none => []

/-- Commands of a namespace take their entries in fetch order while its share holds them (R302, R305). -/
def State.takeLocks (s : State) : List Nat → State
  | [] => s
  | h :: hs =>
    match s.cmd h with
    | none => s.takeLocks hs
    | some c =>
      if c.locked then s.takeLocks hs
      else
        let earlier := s.host.cmds.any (fun e => decide (e.2.nsid = c.nsid) && !e.2.locked && decide (e.2.fetchNo < c.fetchNo))
        let need := s.cmdNeeds c
        if earlier || (!need.isEmpty && decide (s.lockShare < s.locksOf c.nsid + need.length)) then s.takeLocks hs
        else
          let s1 := s.setCmd h { c with locks := need, locked := true }
          let used := sumOf (s1.host.cmds.map (fun e => e.2.locks.length))
          ({ s1 with host := { s1.host with
              lockHigh := max s1.host.lockHigh used,
              paused := s1.host.paused.filter (fun n => decide (n ≠ c.nsid)) } }).takeLocks hs

/-- Commands by fetch number, lowest first. -/
def fetchInsert (e : Nat × Cmd) : List (Nat × Cmd) → List (Nat × Cmd)
  | [] => [e]
  | f :: fs => if e.2.fetchNo < f.2.fetchNo then e :: f :: fs else f :: fetchInsert e fs

/-- Handles in fetch order. -/
def State.handles (s : State) : List Nat := (s.host.cmds.foldr fetchInsert []).map (·.1)

def State.lockKick (s : State) : State := s.takeLocks s.handles

/-! ## What holds an arrival (R133, R230, R299 to R305) -/

/-- Two entries of one namespace hold each other (R303). -/
def locksClash (a b : Nat × Nat × Bool) : Bool :=
  decide (a.1 ≤ b.2.1) && decide (b.1 ≤ a.2.1) && (a.2.2 || b.2.2)

/-- The Ordered flag holds it (R300): an earlier flagged command of the account has not ended, or ended in this tick. -/
def State.heldByOrder (s : State) (c : Cmd) : Bool :=
  c.ordered &&
  (s.host.cmds.any (fun e => e.2.ordered && decide (e.2.account = c.account) && decide (e.2.fetchNo < c.fetchNo)) ||
   (match ofind s.host.orderEnd c.account with | some t => decide (s.ldg.tick ≤ t) | none => false))

/-- Zone order holds it (R301): an earlier zone command of a zone it names has not arrived, or arrives in this tick. -/
def State.heldByZone (s : State) (c : Cmd) : Bool :=
  (s.cmdZones c).any (fun z => s.host.cmds.any (fun e =>
    decide (e.2.fetchNo < c.fetchNo) && (s.cmdZones e.2).contains z &&
    (decide (e.2.phase = .fetched) || decide (s.ldg.tick ≤ e.2.arrival))))

/-- An overlapping entry taken earlier holds it, or its own entries are not taken yet (R303, R305). -/
def State.heldByLocks (s : State) (c : Cmd) : Bool :=
  !c.locked ||
  s.host.cmds.any (fun e => decide (e.2.nsid = c.nsid) && decide (e.2.fetchNo < c.fetchNo) &&
    e.2.locks.any (fun a => c.locks.any (locksClash a)))

/-- LBAs that a command reads. -/
def readLbas (c : Cmd) : List Nat :=
  match c.op with
  | .read => lbas c.slba c.count
  | .minted => lbas c.slba c.count
  | .copy => c.ranges.flatMap (fun r => lbas r.slba r.count)
  | _ => []

/-- A sector that it reads is held (R230). -/
def State.heldByRead (s : State) (c : Cmd) : Bool :=
  match s.ns c.nsid with
  | some x => (readLbas c).any (fun l => s.lbaHeld c.nsid l x)
  | none => false

/-- The command would make its Empty zone active (R217). -/
def activates (c : Cmd) : Bool :=
  match c.op with
  | .zoneMgmt a all => decide (a = 3) && !all
  | o => writeType o

/-- The zone-binding wait holds it (R133, R218, R265): its Empty zone has no claims yet. -/
def State.heldByBinding (s : State) (c : Cmd) : Bool :=
  match c.zone with
  | none => false
  | some z =>
    activates c && decide ((s.zone z).state = .empty) &&
    (match s.activation c.account with
     | .waits => true
     | .ok => (s.zone z).claims.isEmpty
     | _ => false)

/-- Nothing holds the command, so that it can arrive. -/
def State.canArrive (s : State) (c : Cmd) : Bool :=
  decide (c.phase = .fetched) && !s.heldByOrder c && !s.heldByZone c && !s.heldByLocks c && !s.heldByRead c && !s.heldByBinding c

/-! ## Tail pages forced by held reads (R230) -/

/-- Zones whose incomplete quarter a held read names. -/
def State.forceFor (s : State) (x : Ns) (l : Nat) : Option Nat :=
  if !x.zoned then none
  else match nsZone x l with
    | none => none
    | some z =>
      let y := s.zone z
      let o := l % zoneSectors
      if decide (o < y.secWp) && s.zoneHeld z o && inReserve y o then some z else none

def State.forceTail (s : State) (z : Nat) : State :=
  if s.med.forced.contains z then s
  else ({ s with med := { s.med with forced := z :: s.med.forced } }).raise .zoneCause 4

/-- Every read that is fetched and held forces the tail pages it needs. -/
def State.forceKick (s : State) : State :=
  s.host.cmds.foldl (fun s e =>
    if e.2.phase = .fetched then
      match s.ns e.2.nsid with
      | some x => (readLbas e.2).foldl (fun s l => match s.forceFor x l with | some z => s.forceTail z | none => s) s
      | none => s
    else s) s

/-! ## Registration (R143, R173, R174) -/

def State.setSec (s : State) (h i : Nat) (x : Sec) : State :=
  match s.cmd h with
  | some c => s.setCmd h { c with secs := c.secs.set i x }
  | none => s

def State.sec (s : State) (h i : Nat) : Option (Cmd × Sec) :=
  match s.cmd h with
  | some c => match c.secs[i]? with | some x => some (c, x) | none => none
  | none => none

/-- Sectors of a member on a die that are registered and not granted; under the conservative plan those of every member on
one door (R174, R188). -/
def State.registeredOn (s : State) (c : Cmd) (d : Nat) : Nat :=
  sumOf (s.host.cmds.map (fun e =>
    if (if s.conservative then decide (e.2.door = c.door) else decide (e.2.member = c.member)) then
      (e.2.secs.filter (fun x => decide (x.die = d) && decide (x.st = .registered))).length
    else 0))

/-- Positions of a command's sectors in state `t`, lowest first. -/
def secsIn (c : Cmd) (t : SecSt) : List Nat :=
  (List.range c.secs.length).filter (fun i => match c.secs[i]? with | some x => decide (x.st = t) | none => false)

/-- Sector `i` of a Minted Read registers only while it holds its lane and i < n_c + 40 (R472). -/
def State.secAllowed (s : State) (c : Cmd) (i : Nat) : Bool :=
  decide (c.op ≠ .minted) || (match c.lane with | some l => decide (i < (s.lane l).next + 40) | none => false)

/-- A Minted Read's sector enters its lane's input ring; setup begins with sector 0 (R473). -/
def State.enterRing (s : State) (h i : Nat) (c : Cmd) (x : Sec) : State :=
  let s1 := s.setSec h i { x with st := .inRing }
  match c.lane with
  | some l => if i = 0 && (s1.lane l).st = LaneSt.held then s1.setLane l { s1.lane l with st := .setup, outAt := s.ldg.tick } else s1
  | none => s1

/-- A sector registers, which ends its wait behind others (R174, R188: credit wait). -/
def State.registerSec (s : State) (h i : Nat) (c : Cmd) (x : Sec) : State :=
  (s.setCmd h (if x.since = 0 then c else c.waited x.since s.ldg.tick)).setSec h i
    { x with st := .registered, reg := s.ldg.tick, since := 0 }

/-- Sectors waiting to register do so in acceptance order while their die admits them (R174, R188). -/
def State.registerCmd (s : State) (h : Nat) : List Nat → State
  | [] => s
  | i :: is =>
    match s.sec h i with
    | none => s.registerCmd h is
    | some (c, x) =>
      if !s.secAllowed c i then s.registerCmd h is
      else if s.registeredOn c x.die < (if s.conservative then 10 else 1) then (s.registerSec h i c x).registerCmd h is
      else (s.setSec h i { x with since := if x.since = 0 then s.ldg.tick else x.since }).registerCmd h is

/-- Commands by acceptance sequence number, lowest first. -/
def seqInsert (e : Nat × Cmd) : List (Nat × Cmd) → List (Nat × Cmd)
  | [] => [e]
  | f :: fs => if e.2.seq < f.2.seq then e :: f :: fs else f :: seqInsert e fs

def State.bySeq (s : State) : List (Nat × Cmd) := s.host.cmds.foldr seqInsert []

def State.registerKick (s : State) : State :=
  s.bySeq.foldl (fun s e => match s.cmd e.1 with | some c => s.registerCmd e.1 (secsIn c .waiting) | none => s) s

/-! ## The end of a command -/

/-- A function's BAR0 registers, controller state and I/O queues return to reset, and its queue indexes are free (R346, R593). -/
def State.resetFunction (s : State) (f : Nat) : State :=
  let s1 := s.setCtrl f {}
  { s1 with
    host := { s1.host with queues := s1.host.queues.filter (fun e => decide (e.2.func ≠ f)) },
    net := { s1.net with qps := s1.net.qps.map (fun e =>
      if e.2.account = f && e.2.queue ≠ some 0 then (e.1, { e.2 with queue := none }) else e) } }

/-- A member has commands in flight that are not detached. -/
def State.memberBusy (s : State) (m : Nat) (detached : Bool) : Bool :=
  s.host.cmds.any (fun e => decide (e.2.member = m) && (detached || !e.2.detached))

/-- Slices' members. -/
def sliceMember (n : Nat) : Nat := 2048 + n

/-- The PASID that every transfer of a slice's queue pairs carries in a TLP prefix, none for an account's own (R339). -/
def State.slicePasid (s : State) (m : Nat) : Option Nat :=
  if 2048 ≤ m then some (s.fld (Reg.actSliceCtl + 4 * (m - 2048)) 0 20) else none

/-- An FLR's function is reset (R346): its queues, its pending mediation requests, its MINT key slots and its registers. -/
def State.flrReset (s : State) (a : Nat) : State :=
  let s1 := s.resetFunction a
  let s2 := s1.clearSlots (s.keyBase a + 2) (s.keyCount a - 2)
  let s3 : State := { s2 with host := { s2.host with
    mediation := s2.host.mediation.filter (fun e => decide (e.2.account ≠ a)),
    cmds := omap (fun _ (c : Cmd) => if c.account = a then { c with detached := true, silent := true } else c) s2.host.cmds } }
  s3.setAcct a { s3.acct a with flrActive := false, resumeOnEnable := (s3.acct a).binding.isSome }

/-- The quiesce of a member ends once its last command has completed (R343, R340, R346). -/
def State.quiesceEnd (s : State) (m : Nat) : State :=
  let a := s.acct m
  match a.quiesce with
  | none => s
  | some q =>
    if s.memberBusy m true then s
    else
      let s1 := if a.flrActive then s.flrReset m else s
      let s2 := (s1.setAcct m { s1.acct m with quiesce := none, quiesced := true }).raise .actCause 1
      let s3 := q.waiters.foldl (fun s cid => s.adminDone 0 cid stOk 0) s2
      if 2048 ≤ m then
        let o := Reg.actSliceCtl + 4 * (m - 2048)
        if bitOf (s3.reg o) 20 then s3.setFld o 25 2 3
        else
          let s4 := s3.clearSlots (s.keyBase m) (s.keyCount m)
          (s4.setAcct m {}).setFld o 25 2 0
      else if (s3.ctrl m).shst = 1 && (s3.acct m).resumeOnEnable then s3.setCtrl m { s3.ctrl m with shst := 2 }
      else s3

/-- Members of an account's quiesce: account 0 takes every enabled slice with it (R340). -/
def State.quiesceGroup (s : State) (a : Nat) : List Nat :=
  if a = 0 then 0 :: (s.host.accts.filter (fun e => decide (2048 ≤ e.1) && e.2.binding.isSome)).map (·.1) else [a]

/-- Every quiesce whose member is idle ends; account 0's own ends with its slices (R340). -/
def State.quiesceKick (s : State) : State :=
  let s1 := (s.host.accts.filter (fun e => decide (e.1 ≠ 0))).foldl (fun s e => s.quiesceEnd e.1) s
  if (s1.quiesceGroup 0).any (fun m => decide (m ≠ 0) && (s1.acct m).quiesce.isSome) then s1 else s1.quiesceEnd 0

/-- A function under an FLR whose commands have all completed is reset (R346). -/
def State.flrKick (s : State) : State :=
  s.host.accts.foldl (fun s e =>
    if (s.acct e.1).flrActive && !s.memberBusy e.1 false then s.flrReset e.1 else s) s

/-- A controller reset ends once the function's commands have ended (R593): queues deleted, registers reset, RDY at 0. -/
def State.ctrlResetKick (s : State) : State :=
  s.host.ctrls.foldl (fun s e =>
    let c := s.ctrl e.1
    if c.resetting && !s.host.cmds.any (fun f => decide (f.2.account = e.1)) then s.resetFunction e.1 else s) s

/-- A VF's account is in effect (R331): VF Enable covers it, LOAD step 4 has placed the accounts, or PERST_N took VF Enable from it (R35,
R99; log entry 159). -/
def State.vfActs (s : State) (f : Nat) : Bool :=
  (s.host.vfEnable && decide (1 ≤ f) && decide (f ≤ s.host.numVfs) && s.boot.image.isSome) || (decide (1 ≤ f) && decide (f ≤ s.host.netVfs))

/-- An enabled controller is ready from Folio 0 on (R97): a VF's only while its account is in effect and bound (R331, R345). -/
def State.readyNow (s : State) (f : Nat) : State :=
  let c := s.ctrl f
  let a := s.acct f
  if modeLedger s.mode && bitOf c.cc 0 && !c.resetting && !a.enableWaits &&
     (decide (f = 0) || (s.vfActs f && a.binding.isSome)) then
    s.setCtrl f { c with rdy := true }
  else s

/-- A controller whose enable waited for its account's quiesce resumes the account (R345). -/
def State.enableKick (s : State) : State :=
  s.host.accts.foldl (fun s e =>
    let a := s.acct e.1
    if a.enableWaits && a.quiesced && a.quiesce.isNone then
      (s.setAcct e.1 { a with enableWaits := false, resumeOnEnable := false, quiesced := false }).readyNow e.1
    else s) s

/-- Secured writes on a zone, and everything earlier, are done: no earlier zone write is unsecured (R217, R220, R221, R388). -/
def State.earlierZoneOpen (s : State) (z seq : Nat) : Bool :=
  s.host.cmds.any (fun e => (s.cmdZones e.2).contains z && decide (e.2.seq ≠ 0) && decide (e.2.seq < seq) && !e.2.secured &&
    decide (e.2.phase ≠ .posting))

/-- The conventional map entries of a namespace read 0b00 from here on (R241, R293). -/
def State.dropConv (s : State) (nsid : Nat) (p : Nat → Bool) : State :=
  { s with med := { s.med with
      conv := s.med.conv.filter (fun e => !(decide (e.1 / 2 ^ 40 = nsid) && p (e.1 % 2 ^ 40))) } }

/-- Format's or deletion's work on a namespace whose commands have completed (R293, R324). -/
def State.formatApply (s : State) (nsid : Nat) (x : Ns) (fmt : Option Nat) : State :=
  let s1 := if x.zoned then
      x.zones.foldl (fun s z => if (s.zone z).state = .offline then s else s.resetZone z) s
    else s.dropConv nsid (fun _ => true)
  match fmt with
  | some f => { s1 with med := { s1.med with ns := oput s1.med.ns nsid { x with format := f % 4, extended := decide (4 ≤ f) } } }
  | none => ({ s1 with med := { s1.med with ns := odel s1.med.ns nsid } }).syncExport

def State.nsKick (s : State) : State :=
  s.host.nsWait.foldl (fun s w =>
    match s.ns w.nsid with
    | none => s
    | some x =>
      if s.host.cmds.any (fun e => decide (e.2.nsid = w.nsid) && decide (e.2.fetchNo < w.since)) then s
      else
        let s1 := s.formatApply w.nsid x w.fmt
        let s2 : State := { s1 with host := { s1.host with nsWait := s1.host.nsWait.filter (fun v => decide (v ≠ w)) } }
        s2.adminDone w.func w.cid stOk 0) s

/-- The command ends: its completion is posted or cannot be (R390), its record takes POSTED or UNDELIVERED or retires (R384),
its entries (R304), lane and slots are given back, and its external wait is recorded (R156). -/
def State.finish (s : State) (h : Nat) (c : Cmd) : State :=
  let s1 : State :=
    if c.silent then
      (if c.seq = 0 then s else s.undelivered c.member (queueField c) c.sqe.cid (statusCode c.status) c.seq)
    else { s with host := { s.host with posted := ⟨c.account, c.queue, c.sqe.cid, c.status, c.dw0, c.dw1, s.slicePasid c.member⟩ :: s.host.posted } }
  let s2 :=
    match s1.dbRec c.seq with
    | none => s1
    | some r =>
      if r.state = RecState.accepted then s1.retire c.seq
      else s1.setRec c.seq { r with posted := !c.silent, undelivered := c.silent, status := statusCode c.status }
  let c0 := if c.seq = 0 then c.waited c.fetchTick s.ldg.tick else c
  let s3 := (s2.traceEnd h c0).recordWait c.account (waitTotal c0)
  let s4 := s3.dropCmd h
  { s4 with
    host := { s4.host with
      orderEnd := if c.ordered then oput s4.host.orderEnd c.account s.ldg.tick else s4.host.orderEnd },
    mem := { s4.mem with lanes := s4.mem.lanes.filter (fun x => decide (x ≠ h)) } }

/-- The command goes to its completion post (R146, R298), or ends at once where none may be posted. -/
def State.toPost (s : State) (h : Nat) (c : Cmd) (t : Status) : State :=
  let c1 := { c with phase := .posting, status := t, waitFrom := 0 }
  if c.silent then (s.setCmd h c1).finish h c1 else s.setCmd h c1

/-- End one write-type command without effect, its record closed with ENDED (R384, R385). -/
def State.endOne (s : State) (h : Nat) (c : Cmd) (t : Status) : State :=
  let s1 := s.modRec c.seq (fun r => { r with ended := true })
  let s2 : State := { s1 with mem := { s1.mem with lanes := s1.mem.lanes.filter (fun x => decide (x ≠ h)) } }
  s2.toPost h { c with staged := 0, hold := 0, pooled := false, secs := [], secureHeld := false } t

/-- The command holds a place in a zone: its zone checks passed at its acceptance. -/
def placed (c : Cmd) : Bool := writeType c.op && c.before.isSome

/-- Later write-type zone commands of the zone that are not yet secured (R389). -/
def State.laterWrites (s : State) (z seq : Nat) : List Nat :=
  (s.host.cmds.filter (fun e => decide (e.2.zone = some z) && placed e.2 && decide (seq < e.2.seq) && !e.2.secured &&
    decide (e.2.phase ≠ .posting))).map (·.1)

/-- A zone whose write pointer and state return to what they were before a write that ends (R389). A Read Only or Offline zone
keeps its state; a zone that a Finish has made Full stays Full with the finish point at the returned pointer (log entry 30). -/
def rollZone (x : Zone) (b : ZState × Nat) : Zone :=
  match x.state with
  | .readOnly | .offline => { x with wp := b.2 }
  | .full =>
    if x.active then { x with state := if b.1 = .empty then .implicitOpen else b.1, wp := b.2 }
    else { x with finish := b.2, padUnit := if b.2 % 64 ≠ 0 then some (b.2 / 64) else none,
                  short := decide (0 < b.2) && decide (b.2 + 64 ≤ zoneSectors) }
  | _ => { x with state := if b.1 = .empty then .implicitOpen else b.1, wp := b.2 }

/-- A write-type command ends without effect (R385); in a zone, every later unsecured write ends with it, and the pointer and
the state return (R389). -/
def State.endWrite (s : State) (h : Nat) (t : Status) : State :=
  match s.cmd h with
  | none => s
  | some c =>
    match c.zone, c.before with
    | some z, some b =>
      let later := s.laterWrites z c.seq
      let s1 := s.endOne h c t
      let s2 := later.foldl (fun s k => match s.cmd k with | some d => s.endOne k d stCommandInterrupted | none => s) s1
      (s2.setZone z (rollZone (s2.zone z) b)).raise .dbCause 1
    | _, _ => s.endOne h c t

/-- Withdraw a read's sectors that have not been granted (R343, R593, R591). -/
def State.withdraw (s : State) (h : Nat) (c : Cmd) (t : Status) : State :=
  let out (x : Sec) : Bool := decide (x.st = .lookup) || decide (x.st = .waiting) || decide (x.st = .registered)
  if c.secs.any out then
    s.setCmd h { c with status := t, secs := c.secs.map (fun x => if out x then { x with st := .withdrawn } else x) }
  else s

/-- Every sector of a read has left or been withdrawn, so that its completion is due. -/
def readDone (c : Cmd) : Bool := c.secs.all (fun x => decide (x.st = .left) || decide (x.st = .withdrawn))

/-- A read whose sectors are all done goes to its completion post (R146); its read entry has been released (R304). -/
def State.readKick (s : State) (h : Nat) : State :=
  match s.cmd h with
  | some c => if c.phase = .running && c.op = .read && readDone c then s.toPost h c c.status else s
  | none => s

/-! ## Zone management whose effect was waiting (R220, R221) -/

/-- A Reset leaves no place for a write that was accepted after it: the first ends with a free status, the others by R389
(log entry 30). -/
def State.endPlaced (s : State) (z seq : Nat) : State :=
  match s.bySeq.find? (fun e => (s.laterWrites z seq).contains e.1) with
  | some e => s.endWrite e.1 (stOpen 3)
  | none => s

/-- Apply a Finish or Reset at the head of a zone's waiting operations once every earlier write is secured. A write that a
Finish finds accepted counts in its finish point, the write pointer at that tick (R220). -/
def State.mgmtOne (s : State) (z : Nat) : State :=
  match (s.zone z).mgmt with
  | [] => s
  | h :: hs =>
    match s.cmd h with
    | none => s.setZone z { s.zone z with mgmt := hs }
    | some c =>
      if c.phase ≠ .running || s.earlierZoneOpen z c.seq then s
      else
        let s1 := match c.op with | .zoneMgmt 4 _ => s.endPlaced z c.seq | _ => s
        let s2 := s1.setZone z { s1.zone z with mgmt := hs }
        match c.op with
        | .zoneMgmt 2 _ => s2.finishZone z
        | .zoneMgmt 4 _ => s2.resetZone z
        | _ => s2

/-- A no-data command's effect has applied everywhere it names: its record moves to SECURED and SETTLED (R384). -/
def State.noDataDone (s : State) (h : Nat) (c : Cmd) : State :=
  (s.modRec c.seq (fun r => { r with state := .settled })).toPost h { c with secured := true } stOk

/-- The zone command waits in some zone. -/
def State.mgmtWaits (s : State) (h : Nat) : Bool := s.med.zones.any (fun e => e.2.mgmt.contains h)

def State.mgmtKick (s : State) : State :=
  let s1 := (s.med.zones.filter (fun e => !e.2.mgmt.isEmpty)).foldl (fun s e => s.mgmtOne e.1) s
  s1.host.cmds.foldl (fun s e =>
    match e.2.op with
    | .zoneMgmt _ _ => if e.2.phase = .running && !s.mgmtWaits e.1 then s.noDataDone e.1 e.2 else s
    | _ => s) s1

/-! ## Flush (R306) -/

/-- The write is of a namespace that the Flush covers, and earlier in fetch order. -/
def State.flushCovers (s : State) (f c : Cmd) : Bool :=
  writeType c.op && decide (c.fetchNo < f.fetchNo) && !c.secured && decide (c.phase ≠ .posting) &&
  (decide (c.nsid = f.nsid) ||
   (decide (f.nsid = 0xFFFFFFFF) && (match s.ns c.nsid with | some x => x.attached.contains f.account | none => false)))

def State.flushKick (s : State) : State :=
  s.host.cmds.foldl (fun s e =>
    if e.2.op = .flush && e.2.phase = .running && !s.host.cmds.any (fun d => s.flushCovers e.2 d.2) then s.toPost e.1 e.2 stOk
    else s) s

/-! ## Securing (R223, R384, R388) -/

/-- The stored sector of a written one. -/
def storedOf (c : Cmd) (x : Sec) (die idx : Nat) : Stored :=
  ⟨.staged, x.payload, x.appTag, c.nsid, x.lba, c.member, x.xts.getD 0, x.poison, false, c.seq, die, 0, idx⟩

/-- Every destination sector becomes secured, in the zone or in the conventional map (R240, R388). -/
def State.storeSecs (s : State) (c : Cmd) : State :=
  (destSecs c).foldl (fun s x =>
    match c.zone with
    | some z => { s with med := { s.med with
        sectors := oput s.med.sectors (zoneKey z (x.lba % zoneSectors)) (storedOf c x 0 0) } }
    | none => { s with med := { s.med with
        conv := oput s.med.conv (convKey c.nsid x.lba) (storedOf c x x.die 0) } }) s

/-- The secured sectors of earlier commands in the quarter that a zone command completes move from the zone's reservation to its member's
share, in place of its hold (R387); those that a replay restaged take no cover (R401). -/
def State.takeOver (s : State) (c : Cmd) (z : Nat) : State :=
  let a := (s.zone z).secWp
  if a % 16 = 0 || c.slba % zoneSectors + c.count < a / 16 * 16 + 16 then s
  else { s with med := { s.med with sectors := omap (fun k (e : Stored) =>
    if decide (k / zoneSectors = z) && decide (k % zoneSectors / 16 = a / 16) && decide (k % zoneSectors < a) && isStaged e &&
       decide (e.member ≠ 0xFFF) then { e with member := c.member } else e) s.med.sectors } }

/-- The record becomes SECURED in this tick, and the zone's secured pointer follows (R384, R387, R217). The write entry is
released with its map entries set (R304). -/
def State.secureNow (s : State) (h : Nat) (c : Cmd) : State :=
  -- a held result applies in the tick after the last command that it waited for (R388)
  let now := if c.secureHeld then s.ldg.tick + 1 else s.ldg.tick
  let s1 := (match c.zone with
    | some z => s.takeOver c z
    | none => s).storeSecs c
  let s2 := s1.modRec c.seq (fun r => { r with state := .secured, pending := c.count, securedAt := now })
  let s3 :=
    match c.zone with
    | none => s2
    | some z =>
      let x := s2.zone z
      let w := c.slba % zoneSectors + c.count
      let y : Zone := { x with secWp := w }
      s2.setZone z (if y.state = ZState.full && decide (y.finish = zoneSectors) && decide (w = zoneSectors) then
          { y with active := false } else y)
  let c1 := if c.secureHeld then c.waited c.waitFrom now else c
  (s3.stampAt h 6 now).toPost h { c1 with secured := true, secureHeld := false, locks := [], secs := [] } stOk

/-- Held results apply once every earlier zone command of the zone is secured or has ended (R388). -/
def State.heldKick (s : State) : State :=
  s.bySeq.foldl (fun s e =>
    match s.cmd e.1 with
    | some c =>
      match c.zone with
      | some z => if c.secureHeld && !s.earlierZoneOpen z c.seq then s.secureNow e.1 c else s
      | none => s
    | none => s) s

/-! ## Classes and doors (R168, R169, R188, R591) -/

/-- The class that a member is bound to, and the class that serves it: 0 while the conservative plan is in force (R188). -/
def State.boundClass (s : State) (m : Nat) : Nat := match (s.acct m).binding with | some b => b.cls | none => 0
def State.classOf (s : State) (m : Nat) : Nat := if s.conservative then 0 else s.boundClass m

/-- Door codes of R200. -/
def doorCode : Door → Nat
  | .pcie => 0 | .eth0 => 1 | .eth1 => 2

/-- A record is a read entry: a QLC or SLC read, or a suspend window that admits one. -/
def isReadEntry (r : EntryRec) : Bool :=
  decide (r.type = 1) || decide (r.type = 2) || (decide (r.type = 7) && (decide (r.admCode = 1) || decide (r.admCode = 2)))

/-- The class has read entries on the door in the variant in force (R591); the conservative plan serves every door. -/
def State.doorServed (s : State) (cls door : Nat) : Bool :=
  match s.variant with
  | none => true
  | some v => v.dieMap.any (fun e => match v.templates[e.template]? with
      | some t => t.records.any (fun r => isReadEntry r && decide (r.cls = cls) && decide (r.door = door))
      | none => false)

/-! ## Minted Reads waiting for a lane (R467, R471) -/

/-- DEST and QP of a Minted Read (R317). -/
def mintDest (q : Sqe) : Nat := getField q.cdw14 12 2
def mintQp (q : Sqe) : Nat := getField q.cdw15 0 12

/-- Door of the output (R467). -/
def State.mintDoor (s : State) (c : Cmd) : Door :=
  if mintDest c.sqe = 0 then c.door
  else match ofind s.net.qps (mintQp c.sqe) with
    | some q => if q.port = 0 then .eth0 else .eth1
    | none => .eth0

/-- A lane is open in the variant in force (R474). -/
def State.laneOpen (s : State) (l : Nat) : Bool :=
  if s.conservative then bitOf (s.reg (Reg.mntLaneOpen + 4 * l)) (16 + s.level)
  else bitOf (s.reg (Reg.mntLaneOpen + 4 * l)) (4 * s.plan + s.level)

/-- Lanes that a class may use on a door. -/
def State.classLanes (s : State) (cls : Nat) (d : Door) : List Nat :=
  (List.range s.mnt.laneTbl.length).filter (fun l => match s.mnt.laneTbl[l]? with
    | some b => b.enabled && decide (b.cls = cls) && decide (b.door = d) && s.laneOpen l
    | none => false)

/-- The Minted Read is registered for a lane or holds one. -/
def State.mintBusy (s : State) (e : Nat × Cmd) : Bool := e.2.lane.isSome || s.mnt.waiting.any (fun w => decide (w.1 = e.1))

/-- Minted Reads register for a lane, one of a member at a time for each door, in acceptance order; the time before is credit wait
(R471). -/
def State.mintKick (s : State) : State :=
  s.bySeq.foldl (fun s e =>
    if e.2.op = .minted && e.2.phase = .running && !s.mintBusy e &&
       !s.host.cmds.any (fun f => decide (f.2.op = .minted) && decide (f.2.member = e.2.member) && decide (f.1 ≠ e.1) &&
          decide (s.mintDoor f.2 = s.mintDoor e.2) && s.mintBusy f) then
      let s1 := s.setCmd e.1 { e.2.waited e.2.waitFrom s.ldg.tick with waitFrom := 0 }
      { s1 with mnt := { s1.mnt with waiting := s1.mnt.waiting ++ [(e.1, s1.ldg.tick)] } }
    else s) s

/-! ## What every end, arrival and settlement may set going -/

/-- A sector that has been granted its entry, or reads no die, and is still on its way. -/
def secUnderWay (x : Sec) : Bool :=
  match x.st with
  | .granted => true | .moved => true | .decoded => true | .retryWait => true | .recovering => true | .clear => true
  | .leaving => true | .zeroFill => true | .zeroReady => true
  | _ => false

/-- A Copy or a Minted Read that has lost sectors to a switch completes with Door Not Served once those that were granted have left
(R591). -/
def State.doorKick (s : State) : State :=
  s.host.cmds.foldl (fun s e =>
    match s.cmd e.1 with
    | some c =>
      if c.phase = .running && c.status = stDoorNotServed && !c.secs.any secUnderWay then
        if c.op = .copy then s.endWrite e.1 stDoorNotServed
        else if c.op = .minted then
          let s1 : State := { s with mnt := { s.mnt with
            waiting := s.mnt.waiting.filter (fun w => decide (w.1 ≠ e.1)),
            lanes := match c.lane with | some l => cset {} s.mnt.lanes l {} | none => s.mnt.lanes } }
          s1.toPost e.1 { c with lane := none, secs := [], locks := [] } stDoorNotServed
        else s
      else s
    | none => s) s

/-- The claims of an Empty zone go back where no command that would make it active is left (R215, R218). -/
def State.claimKick (s : State) : State :=
  (s.med.zones.filter (fun e => decide (e.2.state = .empty) && !e.2.claims.isEmpty)).foldl (fun s e =>
    if s.host.cmds.any (fun f => decide (f.2.zone = some e.1) && activates f.2 && decide (f.2.phase ≠ .posting)) then s
    else s.setZone e.1 { s.zone e.1 with claims := [] }) s

/-- Blocks of a Reset zone return to the pool once nothing works on them any more (R222). -/
def State.leaveKick (s : State) : State :=
  (s.med.blocks.filter (fun e => e.2.leaving)).foldl (fun s e =>
    if s.blockInUse (e.1 / 4096) (e.1 % 4096) then s else s.freeBlock (e.1 / 4096) (e.1 % 4096)) s

/-- Everything that waits for another command is judged again. -/
def State.kick (s : State) : State :=
  ((((((((s.heldKick).mgmtKick).flushKick).lockKick).forceKick).flrKick).quiesceKick.ctrlResetKick.enableKick).nsKick.mintKick).doorKick.leaveKick.claimKick

/-! ## Failed decodes and uncorrectable sectors (R148, R251, R253) -/

/-- The block that holds a sector is queued for refresh (R253, R254). -/
def State.queueRefresh (s : State) (d b : Nat) : State := s.setBlock d b { s.block d b with refresh := true }

/-- A sector that is uncorrectable (R253): its data is not sent, and its command ends with Unrecovered Read Error (R395). -/
def State.uncorrectable (s : State) (h i : Nat) (c : Cmd) (x : Sec) : State :=
  let s1 := ((s.raiseEach .integCause 0).countFld Reg.medUncorr 0 32 1).queueRefresh x.die (s.secBlock x)
  let s2 := (s1.setCmd h { c with status := stUnrecoveredRead }).setSec h i { x with st := .withdrawn, poison := true }
  if c.op = .copy then s2.endWrite h stUnrecoveredRead
  else if c.op = .minted then s2
  else s2.readKick h

/-- A failed decode (R251): L0 to L1, L1 to L2, L2 after its third read to L3, and L3 after its sixth read to its end. A
read by recovery counts its own level. -/
def State.failDecode (s : State) (h i : Nat) (c : Cmd) (x : Sec) : State :=
  let up (n : Nat) : Sec := { x with level := n, tries := 0, st := .retryWait, reg := s.ldg.tick }
  let c1 (n : Nat) : Cmd := { c with maxRetry := max c.maxRetry n }
  if x.level = 0 then (s.setCmd h (c1 1)).setSec h i (up 1)
  else if x.level = 1 then (s.setCmd h (c1 2)).setSec h i (up 2)
  else if x.level = 2 then
    if x.tries < 2 then s.setSec h i { x with tries := x.tries + 1, st := .retryWait, reg := s.ldg.tick }
    else (s.setCmd h (c1 3)).setSec h i { up 3 with l3 := s.ldg.tick, st := .recovering }
  else if x.tries < 5 then s.setSec h i { x with tries := x.tries + 1, st := .recovering }
  else s.uncorrectable h i c x

end Sys2Proof.Machine
end

