-- ==== Sys2Proof/Machine/Grid.lean ====
section
/-!
DEFINITION. The die's timeline (spec 06): the template of a die and the start ticks of its entries (R158, R161, R188, R200), bus slots and
transfer columns (R160, R164), budgets and segments (R160, R162), and the egress slots of retry reads (R180).
-/
namespace Sys2Proof.Machine

/-! ## Plan entries (R158, R163, R188, R200) -/

def folioTicks : Nat := 1310720

/-- LUN within the chip enable, the die's slot lane (R158), and its position on its channel (R188). -/
def laneOf (d : Nat) : Nat := d / 128 % 8
def posOf (d : Nat) : Nat := 8 * (d / 32 % 4) + laneOf d

/-- A record of the conservative template. -/
def romRec (start length type cls admCode door mask : Nat) : EntryRec :=
  ⟨start, length, type, cls, admCode, door, BitVec.ofNat 4 mask, true⟩

/-- The conservative template on a die (R188): window k at position i carries the door (k + i) mod 3. -/
def romTemplate (d : Nat) : List EntryRec :=
  let win (k start : Nat) : EntryRec := romRec start 8 7 0 1 ((k + posOf d) % 3) 15
  [romRec 0 3 3 15 0 0 15, romRec 3 5 5 14 0 0 15, win 0 8, romRec 16 1 5 14 0 0 15, romRec 17 12 5 14 0 0 2,
   romRec 17 6 5 14 0 0 13, romRec 23 6 5 14 0 0 13, win 1 29, romRec 37 1 5 14 0 0 15, romRec 38 8 8 15 0 0 8,
   romRec 46 4 5 14 0 0 8, romRec 38 6 5 14 0 0 7, romRec 44 6 5 14 0 0 7, win 2 50, romRec 58 1 5 14 0 0 15,
   romRec 59 3 4 0 0 0 1, romRec 62 10 6 14 0 0 15, win 3 72, romRec 80 13 6 14 0 0 15, win 4 93,
   romRec 101 13 6 14 0 0 15, win 5 114, romRec 122 6 6 14 0 0 15]

/-- The template records and the phase of a die in the variant in force. -/
def State.dieTemplate (s : State) (d : Nat) : List EntryRec × Nat :=
  match s.variant with
  | none => (romTemplate d, Config.romPhase d)
  | some v =>
    match v.dieMap.find? (fun e => decide (e.die = d)) with
    | some m => ((match v.templates[m.template]? with | some t => t.records | none => []), m.phase)
    | none => ([], 0)

/-- The read type of an entry: its own, or the one that its window admits. -/
def readType (e : EntryRec) : Nat := if e.type = 7 then e.admCode else e.type

/-- Ticks from an entry's first column to the start of its read: one column in a suspend window (R161). -/
def overhead (e : EntryRec) : Nat := if e.type = 7 then 10240 else 0

/-- Die column of a template column. -/
def dieCol (phase c : Nat) : Nat := (c + phase) % 128

/-- Tick of the first column of an entry in the Folio that begins at `base` (R158). -/
def colTick (d phase base : Nat) (e : EntryRec) : Nat := base + dieCol phase e.start * 10240 + laneOf d * 1280

/-- The tick at which an entry of the die starts in the Folio that runs, none where it is not present (R158, R200). A suspend window whose
read begins in this Folio may have started in the one before. -/
def State.startOf (s : State) (d : Nat) (e : EntryRec) : Option Nat :=
  let t := s.dieTemplate d
  let now := colTick d t.2 s.ldg.folioStart e
  let before := now - 1310720
  if !t.1.contains e then none
  else if e.type = 7 && 0 < s.ldg.folios && bitOf e.mask ((s.ldg.folio.toNat + 3) % 4) && s.ldg.folioStart ≤ before + overhead e &&
      s.ldg.tick ≤ before + overhead e then some before
  else if bitOf e.mask (s.ldg.folio.toNat % 4) then some now
  else none

/-- Record `a` ends in the die column in which `e` begins, in the Folio in which `e` is present (R164). -/
def State.endsAt (s : State) (phase : Nat) (a e : EntryRec) : Bool :=
  let f := s.ldg.folio.toNat
  decide ((a.start + a.length) % 128 = e.start % 128) &&
  bitOf a.mask ((if dieCol phase a.start < dieCol phase e.start then f else f + 3) % 4)

/-- Record `b` begins in the die column after the last one of `e`. -/
def State.startsAfter (s : State) (phase : Nat) (e b : EntryRec) : Bool :=
  let f := s.ldg.folio.toNat
  decide ((e.start + e.length) % 128 = b.start % 128) &&
  bitOf b.mask ((if dieCol phase e.start < dieCol phase b.start then f else f + 1) % 4)

/-- A record is a read of flash in a standalone entry or a window: its next column is a transfer column (R164). -/
def State.inTransfer (s : State) (d : Nat) (e : EntryRec) : Bool :=
  let t := s.dieTemplate d
  t.1.any (fun a => isReadEntry a && s.endsAt t.2 a e)

/-- A suspend window, or a segment of the same type and class, follows the segment directly, so that it runs to its end (R162). -/
def State.runsOn (s : State) (d : Nat) (e : EntryRec) : Bool :=
  let t := s.dieTemplate d
  t.1.any (fun b => s.startsAfter t.2 e b && (decide (b.type = 7) || (decide (b.type = e.type) && decide (b.cls = e.cls))))

/-- Bus slots of an entry, counted from its start (R160). -/
def busSlots (r : EntryRec) : List Nat :=
  match r.type with
  | 1 => [56]
  | 2 => [16]
  | 3 => [0, 17, 18]
  | 4 => List.range 16
  | 5 => if 8 ≤ r.length then List.range 64 else []
  | 7 => match r.admCode with | 1 => [64] | 2 => [24] | 3 => [8, 25, 26] | _ => []
  | 8 => [0, 8, 16, 24, 32, 40, 48, 56]
  | _ => []

/-- Die ticks and end of the transfer slot of a read, from its start (R160, R164). -/
def readTicks (type : Nat) : Nat := [0, 71680, 20480, 21760].getD type 0
def slotEnd (type : Nat) : Nat := [0, 72960, 21760, 24320].getD type 0

/-- The tick in which the budget of an operation ends (R160): of a read the end of its die columns, of a retry read that of its sense, of an
SLC program 9,600 ticks after offset 20,480, of a QLC program or an erase once its segments have counted the budget. -/
def budgetEnd (o : DieOp) : Nat :=
  match o.type with
  | 4 => o.start + 30080
  | 5 => o.segFrom + (2400000 - o.used)
  | 6 => o.segFrom + (12000000 - o.used)
  | t => o.start + readTicks t

/-! ## Segments (R162, R164, R184) -/

/-- The operation's results stand from a program or erase: it runs in segments. -/
def inSegments (o : DieOp) : Bool := decide (o.type = 5) || decide (o.type = 6)

/-- A segment that has ended by tick `t` leaves its program or erase suspended, its time counted (R162). -/
def closeSeg (r : DieRt) (t : Nat) : DieRt :=
  match r.op with
  | some o =>
    if inSegments o && !o.inBudget && decide (o.last ≤ t) then
      { r with op := none, susp := r.susp ++ [{ o with used := o.used + (o.segStop - o.segFrom) }] }
    else r
  | none => r

/-- The times of an operation whose entry `e` begins at tick `t`. Time counts toward a QLC program's budget from the end of its data-in
slots and from the end of the transfer slot in a transfer column, up to the segment's last 1,280 ticks unless the die runs on (R160, R162,
R164). -/
def State.timed (s : State) (d : Nat) (e : EntryRec) (t : Nat) (o : DieOp) (resumed : Bool) : DieOp :=
  let stop := t + 10240 * e.length
  let first := if o.type = 5 && !resumed then 81920 else if s.inTransfer d e then 1280 else 0
  { o with start := t, segFrom := t + first, segStop := if s.runsOn d e then stop else stop - 1280, last := stop }

/-- A program or erase of the entry's type and class resumes in it (R162). -/
def State.resumeOp (s : State) (d : Nat) (e : EntryRec) (t : Nat) : Option DieRt :=
  let r := s.die d
  match r.susp.find? (fun o => decide (o.type = e.type) && decide (o.cls = e.cls)) with
  | none => none
  | some o => some { r with op := some (s.timed d e t o true), susp := r.susp.erase o }

/-- Bus slots of an entry that starts at `t0`, by tick. -/
def slotTicks (e : EntryRec) (t0 : Nat) : List Nat := (busSlots e).map (fun k => t0 + 1280 * k)

/-- A carried entry of the die runs still, or a bus slot of the entry begins before a carried slot of its channel ends, so that the entry
runs as Idle (R184; log entry 158). -/
def State.carriedOver (s : State) (d : Nat) (e : EntryRec) (t0 : Nat) : Bool :=
  decide (t0 < (s.die d).busyTo) ||
  (slotTicks e t0).any (fun x => s.ldg.carried.any (fun c => decide (c.1 = d % 32) && decide (x < c.2)))

/-- At a switch: the ends of the bus slots that entries begun before it still hold, by channel. -/
def State.carriedSlots (s : State) : List (Nat × Nat) :=
  s.ldg.dies.flatMap (fun e => (e.2.slots.filter (fun x => decide (s.ldg.tick < x + 1280))).map (fun x => (e.1 % 32, x + 1280)))

/-- The die's template has segments of the type and class. -/
def State.hasSegment (s : State) (d type cls : Nat) : Bool :=
  (s.dieTemplate d).1.any (fun e => decide (e.type = type) && decide (e.cls = cls) && bitOf e.mask (s.ldg.folio.toNat % 4))

/-- A program or erase whose type and class have no segment within one Folio of a switch goes on in class 14 segments (R184). -/
def State.rehome (s : State) (d : Nat) (o : DieOp) : DieOp :=
  if inSegments o && !s.hasSegment d o.type o.cls then { o with cls := 14 } else o

/-! ## Egress slots (R137, R179, R180, R186) -/

/-- End of a stage that began at `from_`, with its count at the old level and at the new one, the level changing at tick `b` (R137). -/
def stageEnd (b from_ old new : Nat) : Nat := from_ + (if b < from_ + old then max old new else old)

/-- A carried sector's egress slot is moved where its later stages grow (R186). -/
def movedSlot (b old new slot : Nat) : Nat :=
  let at_ (k : Nat) (l : Nat) : Nat := (sealStages l).getD k 0
  let from_ := slot - sealTicks old
  let e1 := stageEnd b from_ (at_ 0 old) (at_ 0 new)
  let e2 := stageEnd b e1 (at_ 1 old) (at_ 1 new)
  stageEnd b e2 (at_ 2 old) (at_ 2 new)

/-- The egress slots of the die's class 15 retry reads in this Folio and the five after it. -/
def State.retrySlots (s : State) (d : Nat) : List Nat :=
  let t := s.dieTemplate d
  (List.range 6).flatMap (fun k => (t.1.filter (fun e => decide (readType e = 3) && bitOf e.mask ((s.ldg.folio.toNat + k) % 4))).map
    (fun e => colTick d t.2 (s.ldg.folioStart + 1310720 * k) e + overhead e + sealExit 3 s.level))

/-- A sector uses the slot of the die's retry read on the door. -/
def State.slotUsed (s : State) (d : Nat) (door : Door) (t : Nat) : Bool :=
  s.host.cmds.any (fun e => decide (e.2.door = door) && e.2.secs.any (fun x => decide (x.die = d) && decide (x.slotAt = t) &&
    (decide (x.st = .moved) || decide (x.st = .decoded) || decide (x.st = .clear) || decide (x.st = .checked) || decide (x.st = .leaving) ||
     decide (x.st = .granted))))

/-- The slot that a sector recovered in L3 takes: that of the first retry read of its die from tick `t` on that no other sector uses
(R180). -/
def State.l3Slot (s : State) (d : Nat) (door : Door) (t : Nat) : Option Nat :=
  match (s.retrySlots d).filter (fun x => decide (t ≤ x) && !s.slotUsed d door x) with
  | [] => none
  | x :: xs => some (xs.foldl min x)

/-- A read or a rebuild whose seal check would end at tick `t` can still reach an egress slot within the limit of L3 (R253). -/
def State.l3Reaches (s : State) (c : Cmd) (x : Sec) (t : Nat) : Bool :=
  match s.l3Slot x.die c.door t with
  | some a => decide (a ≤ x.l3 + 5242880)
  | none => false

end Sys2Proof.Machine
end

