-- ==== Sys2Proof/Machine/Memories.lean ====
section
/-!
DEFINITION. DDR5 and the on-chip banks (spec 14): the symbol code's outcome of a read (R410 to R413), scrub (R414, R415),
rows and self-refresh (R409, R417), the write buffers (R419, R420), bank scrub, retention and wake (R426, R427), the
SECURE bank's wipe (R430) and the conflict counters (R435).
-/
namespace Sys2Proof.Machine

/-! ## The symbol code -/

/-- Subchannel of a DRAM address, 0 for A and 1 for B (R409). -/
def subchOf (addr : Nat) : Nat := addr / 64 % 2

/-- Rank of a DRAM address: bit 19 with two ranks (R409). -/
def State.rankOf (s : State) (addr : Nat) : Nat := if s.calRanks = 2 then addr / 2 ^ 19 % 2 else 0

/-- MEM_DEV_CE of a device (R433). -/
def devReg (sub rank dev : Nat) : Nat := Reg.memDevCe + 4 * (20 * sub + 10 * rank + dev)

/-- The device of a subchannel and rank is erased: at training (R86) or by count (R413). -/
def State.devErased (s : State) (sub rank dev : Nat) : Bool :=
  bitOf (s.reg (devReg sub rank dev)) 16 ||
  (if sub = 0 then decide (s.boot.erasedA = some dev) else decide (s.boot.erasedB = some dev))

/-- Some device of the subchannel and rank is erased. -/
def State.anyErased (s : State) (sub rank : Nat) : Bool := (List.range 10).any (fun d => s.devErased sub rank d)

/-- Symbols in error on a line: those of the read, with the poison pattern added where the line is stored poisoned
(R411). -/
def State.lineErrs (s : State) (addr : Nat) (errs : List SymErr) : List SymErr :=
  if s.xfr.poison.contains (addr / 64) then
    let flip (n : Nat) : SymErr := ⟨n, ((errs.find? (fun e => e.symbol = n)).map (·.value)).getD 0 ^^^ 0xFF⟩
    ([flip 64, flip 72] ++ errs.filter (fun e => decide (e.symbol ≠ 64) && decide (e.symbol ≠ 72))).filter
      (fun e => decide (e.value ≠ 0))
  else errs.filter (fun e => decide (e.value ≠ 0))

/-- The four outcomes of a DRAM read (R412). -/
inductive DramOut where
  | clean | corrected | poisoned | uncorrectable
deriving DecidableEq, Repr

/-- Exactly symbols 64 and 72, each with error value 0xFF (R411). -/
def poisonPattern (errs : List SymErr) : Bool :=
  decide (errs.length = 2) && errs.contains ⟨64, 0xFF⟩ && errs.contains ⟨72, 0xFF⟩

/-- Errors outside erased devices: e of R410. -/
def State.liveErrs (s : State) (addr : Nat) (errs : List SymErr) : List SymErr :=
  errs.filter (fun e => !s.devErased (subchOf addr) (s.rankOf addr) (e.symbol / 8))

/-- The decode (R410): e symbol errors and f erasures are corrected while 2e + f ≤ 16; an erased device gives 8 erasures. -/
def State.dramOutcome (s : State) (addr : Nat) (errs : List SymErr) : DramOut :=
  let all := s.lineErrs addr errs
  let live := s.liveErrs addr all
  let f := if s.anyErased (subchOf addr) (s.rankOf addr) then 8 else 0
  if poisonPattern all || poisonPattern live then .poisoned
  else if live.isEmpty then .clean
  else if 2 * live.length + f ≤ 16 then .corrected
  else .uncorrectable

/-- Devices in error, each once. -/
def errDevs (errs : List SymErr) : List Nat := (List.range 10).filter (fun d => errs.any (fun e => decide (e.symbol / 8 = d)))

/-- MEM_ERR_ADDR and MEM_ERR_INFO of the latest error (R433). -/
def State.setMemErr (s : State) (addr : Nat) (errs : List SymErr) (kind : Nat) : State :=
  let dev := match errDevs errs with | [d] => d | _ => 0xF
  let info := subchOf addr + 2 * s.rankOf addr + 4 * dev + 64 * kind + 256 * errs.length
  ((s.setReg Reg.memErrAddr (BitVec.ofNat 32 addr)).setReg (Reg.memErrAddr + 4) (BitVec.ofNat 32 (addr / 2 ^ 32))).setReg
    Reg.memErrInfo (BitVec.ofNat 32 info)

/-- Count a correction of a device; at 4,096 the device is erased, or DEV_LIMIT is set (R413). -/
def State.countCe (s : State) (sub rank dev : Nat) : State :=
  let o := devReg sub rank dev
  let s1 := s.countFld o 0 16 1
  if s1.fld o 0 16 = 4096 && s.fld o 0 16 = 4095 && !s.devErased sub rank dev then
    if s.anyErased sub rank then s1.raiseEach .memCause 3
    else (s1.setReg o (putBit (s1.reg o) 16 true)).raise .memCause 2
  else s1

/-- Record the outcome of a read (R412): CE and the device's count, or UE with its event record. -/
def State.dramRecord (s : State) (addr : Nat) (errs : List SymErr) : State :=
  let live := s.liveErrs addr (s.lineErrs addr errs)
  match s.dramOutcome addr errs with
  | .clean => s
  | .poisoned => s
  | .corrected =>
    let s1 := (s.setMemErr addr live 1).raise .memCause 0
    (errDevs live).foldl (fun s d => s.countCe (subchOf addr) (s.rankOf addr) d) s1
  | .uncorrectable => (s.setMemErr addr live 2).raiseEach .memCause 1

/-- A read delivers poisoned data (R412). -/
def State.dramPoisoned (s : State) (addr : Nat) (errs : List SymErr) : Bool :=
  match s.dramOutcome addr errs with
  | .poisoned => true
  | .uncorrectable => true
  | _ => false

/-! ## Scrub (R414, R415) -/

/-- An hour of device time. -/
def hourNs : Nat := 3600000000000

/-- Modes in which the scrub runs (R414). -/
def scrubMode : Mode → Bool
  | .service => true | .throttle => true | .drain => true | .doze => true | _ => false

/-- What scrub does with one line it found in error. -/
def State.scrubLine (s : State) (f : ScrubFind) : State :=
  let s1 := s.dramRecord f.addr f.errs
  match s.dramOutcome f.addr f.errs with
  | .uncorrectable =>
    if f.overtaken then s1
    else
      let s2 := s1.setFld Reg.memErrInfo 6 2 3
      { s2 with xfr := { s2.xfr with poison := (f.addr / 64) :: s2.xfr.poison } }
  | _ => s1

/-- The counts of every device restart at 0 (R413). -/
def State.clearCeCounts (s : State) : State :=
  (List.range 40).foldl (fun s n => s.setFld (Reg.memDevCe + 4 * n) 0 16 0) s

/-- A pass is due: HOURS hours of device time since the last one began (R414). -/
def State.scrubDue (s : State) : Bool :=
  decide (s.mem.lastScrub + s.fld Reg.memScrubCtl 0 8 * hourNs ≤ s.pwr.time) && scrubMode s.mode

/-- R414: a scrub pass with the lines it finds in error. -/
def execScrubPassStart (found : List ScrubFind) (s : State) : Host.Outcome State Fault Refusal :=
  .next (if s.scrubDue then
      let s1 := ({ s with mem := { s.mem with lastScrub := s.pwr.time } }).clearCeCounts
      (found.foldl State.scrubLine s1).countFld Reg.memScrubStatus 0 32 1
    else s)

/-! ## Rows and self-refresh (R409, R417) -/

/-- Bank of a DRAM address: bank group and bank with their hashes, and the rank (R409). -/
def State.dramBank (s : State) (addr : Nat) : Nat :=
  let bg := (addr / 2 ^ 12 % 8) ^^^ (addr / 2 ^ 20 % 8)
  let bk := (addr / 2 ^ 15 % 4) ^^^ (addr / 2 ^ 23 % 4)
  32 * s.rankOf addr + 4 * bg + bk

/-- Row of a DRAM address. -/
def State.dramRow (s : State) (addr : Nat) : Nat := if s.calRanks = 2 then addr / 2 ^ 20 else addr / 2 ^ 19

/-- An access with the OPEN hint leaves its row open; another row of the bank closes (R416, R417). -/
def State.openRow (s : State) (addr : Nat) : State :=
  { s with mem := { s.mem with
      openRows := oput s.mem.openRows (s.dramBank addr) (s.dramRow addr), rowUse := oput s.mem.rowUse (s.dramBank addr) s.ldg.tick,
      lastReq := s.ldg.tick, selfRefresh := false } }

/-- An access with the CLOSED hint ends with its bank closed (R416). -/
def State.closeRow (s : State) (addr : Nat) : State :=
  { s with mem := { s.mem with openRows := odel s.mem.openRows (s.dramBank addr), lastReq := s.ldg.tick, selfRefresh := false } }

/-- R417: an open row of a bank has seen no access for 64 MEM cycles. -/
def execRowCloseTimeout (bank : Nat) (s : State) : Host.Outcome State Fault Refusal :=
  .next (if (ofind s.mem.rowUse bank).getD 0 + memCycles 64 s.clockLevel ≤ s.ldg.tick then
      { s with mem := { s.mem with openRows := odel s.mem.openRows bank } }
    else s)

/-- R417: in DOZE, with the write buffers empty and no request for 4,096 MEM cycles. -/
def execSelfRefreshEntry (s : State) : Host.Outcome State Fault Refusal :=
  .next (if s.mode = .doze && s.mem.occA = 0 && s.mem.occB = 0 && s.mem.lastReq + memCycles 4096 s.clockLevel ≤ s.ldg.tick then
      { s with mem := { s.mem with selfRefresh := true, openRows := [] } }
    else s)

/-- R418: DDR_ALERT_N asserted; recorded, and no other action. -/
def execDdrAlert (s : State) : Host.Outcome State Fault Refusal :=
  .next (if s.islandOn .mem then s.raiseEach .memCause 5 else s)

/-! ## Write buffers (R419, R420) -/

/-- A staged sector enters the buffers: 32 lines on each subchannel, in the 64 staging entries of each (R419, R422). -/
def State.bufferSector (s : State) : State :=
  { s with mem := { s.mem with
      occA := s.mem.occA + 32, occB := s.mem.occB + 32, stageA := s.mem.stageA + 32, stageB := s.mem.stageB + 32,
      lastReq := s.ldg.tick } }

/-- DRAM address of a write-staging slot (R24, R386). -/
def State.stageAddr (s : State) (slot : Nat) : Nat :=
  match s.mem.regions.find? (fun r => decide (r.name = .staging)) with
  | some r => r.base + 4096 * (slot % 2 ^ 19)
  | none => 4096 * (slot % 2 ^ 19)

/-- Some line of a staging slot is poisoned (R412). -/
def State.stageBad (s : State) (slot : Nat) : Bool :=
  s.xfr.poison.any (fun l => decide (l / 64 = s.stageAddr slot / 4096))

/-- A slot is written: its lines hold new data. -/
def State.cleanSlot (s : State) (slot : Nat) : State :=
  { s with xfr := { s.xfr with poison := s.xfr.poison.filter (fun l => decide (l / 64 ≠ s.stageAddr slot / 4096)) } }

/-- The buffers have staging entries for a sector. -/
def State.bufferRoom (s : State) : Bool :=
  decide (s.mem.stageA + 32 ≤ 64) && decide (s.mem.stageB + 32 ≤ 64)

/-- R420: a batch starts at 48 entries, for a staging entry that has waited 128 MEM cycles, or for a drain to empty. -/
def execDrainBatchStart (subB aged : Bool) (s : State) : Host.Outcome State Fault Refusal :=
  let occ := if subB then s.mem.occB else s.mem.occA
  let stage := if subB then s.mem.stageB else s.mem.stageA
  .next (if decide (48 ≤ occ) || (aged && decide (0 < stage)) || s.mem.drainEmpty then
      (if subB then { s with mem := { s.mem with batchB := true } } else { s with mem := { s.mem with batchA := true } })
    else s)

/-- Entries left when a batch ends: 16, or 0 for a drain to empty (R420). -/
def State.batchLow (s : State) : Nat := if s.mem.drainEmpty then 0 else 16

/-- R420: a batch has written staging entries first, then the others, down to its end. -/
def execDrainBatchEnd (subB : Bool) (s : State) : Host.Outcome State Fault Refusal :=
  let low := s.batchLow
  let m := s.mem
  .next (if subB then
      (if m.batchB then
        let occ := min m.occB low
        let m1 := { m with occB := occ, stageB := m.stageB - (m.occB - occ), batchB := false }
        { s with mem := { m1 with drainEmpty := m1.drainEmpty && !(decide (m1.occA = 0) && decide (m1.occB = 0)) } }
      else s)
    else
      (if m.batchA then
        let occ := min m.occA low
        let m1 := { m with occA := occ, stageA := m.stageA - (m.occA - occ), batchA := false }
        { s with mem := { m1 with drainEmpty := m1.drainEmpty && !(decide (m1.occA = 0) && decide (m1.occB = 0)) } }
      else s))

/-! ## Banks (R426, R427) -/

/-- One word that a bank read or scrub found in error: recorded in SRM_ERR_INFO and SRM_CAUSE (R426, R435). -/
def State.bankError (s : State) (b : Bank) (word : Nat) (double : Bool) : State :=
  let s1 := if s.islandOn .mem then
      s.setReg Reg.srmErrInfo (BitVec.ofNat 32 (bankCode b + 16 * (word % 2 ^ 22) + 2 ^ 26 * (if double then 2 else 1)))
    else s
  s1.raise .srmCause (if double then 1 else 0)

/-- A bank may be scrubbed: it is on, and an hour of device time has passed (R426). -/
def State.bankScrubDue (s : State) (b : Bank) : Bool :=
  decide (s.bank b = .on) &&
  (match ofind s.mem.bankScrub (bankCode b) with | some t => decide (t + hourNs ≤ s.pwr.time) | none => true)

/-- R426: a bank is scrubbed, with the words found in error and whether each was a double error. In HIBERNATE and
MAINTENANCE no bit latches; in MAINTENANCE the event record is still written. -/
def execBankScrub (b : Bank) (words : List (Nat × Bool)) (s : State) : Host.Outcome State Fault Refusal :=
  .next (if s.bankScrubDue b then
      let s1 : State := { s with mem := { s.mem with bankScrub := oput s.mem.bankScrub (bankCode b) s.pwr.time } }
      words.foldl (fun s w => s.bankError b w.1 w.2) s1
    else s)

/-- Ticks since a bank's latest access or change of power. -/
def State.bankIdle (s : State) (b : Bank) : Nat := s.ldg.tick - (ofind s.mem.bankMark (bankCode b)).getD 0

/-- R427: 256 ticks after its last access a bank that the mode lets rest enters retention. -/
def execBankRetentionEntry (b : Bank) (s : State) : Host.Outcome State Fault Refusal :=
  .next (if s.bank b = .on && bankMode s.mode b = .retention && decide (256 ≤ s.bankIdle b) then s.setBank b .retention else s)

/-- A request to a bank: one in retention starts its wake, one that is on counts its idle ticks anew (R427). -/
def State.wakeBank (s : State) (b : Bank) : State :=
  if s.bank b = .retention then s.setBank b .waking
  else if s.bank b = .on then { s with mem := { s.mem with bankMark := oput s.mem.bankMark (bankCode b) s.ldg.tick } }
  else s

/-- R427: a waking bank is on after 1,024 ticks, with its contents. -/
def execBankWakeDone (b : Bank) (s : State) : Host.Outcome State Fault Refusal :=
  .next (if s.bank b = .waking && decide (1024 ≤ s.bankIdle b) then s.setBank b .on else s)

/-! ## The SECURE bank's wipe (R430) -/

/-- Blocks in progress in CRY are poisoned: sectors in an XTS stage. -/
def State.poisonCry (s : State) : State :=
  let fix (x : Sec) : Sec := if x.st = .sealed || x.st = .decoded then { x with poison := true } else x
  { s with host := { s.host with cmds := omap (fun _ (c : Cmd) => { c with secs := c.secs.map fix }) s.host.cmds } }

/-- A wipe cause registers (R430): a running key-management operation is abandoned and the lock freed (R455). -/
def State.startWipe (s : State) (bit : Nat) : State :=
  let s1 := (s.raise .srmCause bit).poisonCry
  let s1 := if s1.cry.op.isSome then s1.kmAbandon.kmFree else s1
  { s1 with mem := { s1.mem with wiping := true, wipeFrom := s.ldg.tick } }

/-- CRY is powered, so that a tamper cause is seen and the bank can be wiped. -/
def State.tamperSeen (s : State) : Bool := s.islandOn .cry

/-- R430: VDD_CORE sensed at `mv` for `ticks` ticks. -/
def execTamperV (mv ticks : Nat) (s : State) : Host.Outcome State Fault Refusal :=
  .next (if s.tamperSeen && (decide (mv < 600) || decide (950 < mv)) && decide (16 ≤ ticks) then s.startWipe 2 else s)

/-- R430: an LDG clock period of `ps` for `cycles` cycles. -/
def execTamperClk (ps cycles : Nat) (s : State) : Host.Outcome State Fault Refusal :=
  .next (if s.tamperSeen && (decide (ps < 900) || decide (1100 < ps)) && decide (16 ≤ cycles) then s.startWipe 3 else s)

/-- R430: continuity lost in the mesh. -/
def execTamperShield (s : State) : Host.Outcome State Fault Refusal :=
  .next (if s.tamperSeen then s.startWipe 4 else s)

/-- R430: the fill ends: every key slot empty, WIPE_DONE, and CRY resumes. -/
def execWipeDone (s : State) : Host.Outcome State Fault Refusal :=
  .next (if s.mem.wiping && decide (s.mem.wipeFrom + bankBytes .secure / 32 ≤ s.ldg.tick) then
      ({ s with mem := { s.mem with wiping := false }, cry := { s.cry with slots := [] } }).raise .srmCause 6
    else s)

/-- R435: a write of CLEAR clears all 20 counters. -/
def execSrmConflictClr (who : Requester) (v : BitVec 32) (s : State) : Host.Outcome State Fault Refusal :=
  .next (if s.mayWrite who Reg.srmConflictClr && bitOf v 0 then
      s.resetRegs (fun o => decide (Reg.srmConflict ≤ o) && decide (o < Reg.srmConflict + 80))
    else s)

end Sys2Proof.Machine
end

