-- ==== Sys2Proof/Machine/HostPath.lean ====
section
/-!
DEFINITION. The stages of the host paths (spec 05, 10, 13): doorbells, fetch, arrival and acceptance, map lookups, the read
path from decrypt to egress, the write path from host data to the Day Book, and the completion post.
-/
namespace Sys2Proof.Machine

/-! ## Account contexts' reads (R353, R354, R371) -/

/-- Reads outstanding device-wide. -/
def State.readsOut (s : State) : Nat := sumOf (s.xfr.ctxs.map (fun e => e.2.reads.length))

/-- Drop the first element equal to `r`. -/
def dropFirst (r : Nat × Nat) : List (Nat × Nat) → List (Nat × Nat)
  | [] => []
  | x :: xs => if x = r then xs else x :: dropFirst r xs

/-- The least number of a list from `n` on, else the least of all: the next of a round robin. -/
def nextOf (n : Nat) (l : List Nat) : Option Nat :=
  let least (l : List Nat) : Option Nat := l.foldl (fun b x => match b with | some y => some (min x y) | none => some x) none
  match least (l.filter (fun x => decide (n ≤ x))) with | some x => some x | none => least l

/-- A context has a read to issue, and may: at most 8 are outstanding, and none while it is halted (R354, R372). -/
def ctxReady (x : Ctx) : Bool := !x.halted && decide (x.reads.length < 8) && !x.queue.isEmpty

/-- The read that a context issues next: its oldest, where of its entry fetches the queue's turn decides (R296). -/
def nextRead (visit : Nat) (x : Ctx) : Option (Nat × Nat) :=
  match x.queue with
  | [] => none
  | r :: _ => if r.1 = 0 then (nextOf visit ((x.queue.filter (fun r => decide (r.1 = 0))).map (·.2))).map (fun i => (0, i)) else some r

/-- A context issues one read and gives its engine back (R354). -/
def State.issueOne (s : State) (a : Nat) : State :=
  let x := s.ctx a
  match nextRead s.host.visitNext x with
  | none => s
  | some r =>
    let s1 : State := if r.1 = 0 then { s with host := { s.host with visitNext := r.2 + 1 } } else s
    let s2 := s1.setCtx a { x with reads := x.reads ++ [r], queue := dropFirst r x.queue }
    { s2 with xfr := { s2.xfr with ctxNext := a + 1 } }

/-- At most `n` reads leave, one for each visit, in round robin over the contexts that may issue, while fewer than 512 are outstanding
(R353, R354). -/
def State.issueN (s : State) : Nat → State
  | 0 => s
  | n + 1 =>
    if 512 ≤ s.readsOut then s
    else match nextOf s.xfr.ctxNext ((s.xfr.ctxs.filter (fun e => ctxReady e.2)).map (·.1)) with
      | none => s
      | some a => (s.issueOne a).issueN n

/-- The engines issue what waits. -/
def State.issueAll (s : State) : State := s.issueN 512

/-- Context `a` is asked for `n` reads of purpose `p` for queue or command `ref`. -/
def State.queueReads (s : State) (a p ref n : Nat) : State :=
  (s.setCtx a { s.ctx a with queue := (s.ctx a).queue ++ List.replicate n (p, ref) }).issueAll

/-- Entries of a queue whose fetch has not completed. -/
def State.entriesOut (s : State) (a i : Nat) : Nat :=
  let x := s.ctx a
  ((x.queue ++ x.reads ++ x.failed).filter (fun r => decide (r = (0, i)))).length

/-! ## Doorbells (R333, R343, R562) -/

/-- An asynchronous event of a function's controller: it completes a waiting request, or waits for one. -/
def State.asyncEvent (s : State) (f : Nat) (dw0 : BitVec 32) : State :=
  let c := s.ctrl f
  match c.aers with
  | cid :: r => (s.setCtrl f { c with aers := r }).adminDone f cid stOk dw0.toNat
  | [] => s.setCtrl f { c with events := c.events ++ [dw0] }

/-- The I/O submission queue of a function by its identifier. -/
def State.findQueue (s : State) (f qid : Nat) : Option (Nat × IoQueue) :=
  s.host.queues.find? (fun e => decide (e.2.func = f) && decide (e.2.qid = qid))

def State.setQueue (s : State) (i : Nat) (q : IoQueue) : State :=
  { s with host := { s.host with queues := oput s.host.queues i q } }

/-- R562: a doorbell write; the admin queue's doorbell shows entries that the admin rows stand for. -/
def execDoorbellWrite (func qid : Nat) (cq : Bool) (value : Nat) (s : State) : Host.Outcome State Fault Refusal :=
  .next (if !s.islandOn .hst || !s.host.linkUp then s
    else if cq then
      match ofind (s.ctrl func).cqs qid with
      | some q =>
        if value < q.size then
          s.setCtrl func { s.ctrl func with cqs := oput (s.ctrl func).cqs qid { q with head := value } }
        else s.asyncEvent func 0x00010100#32
      | none => if qid = 0 then s else s.asyncEvent func 0x00010000#32
    else if qid = 0 then s
    else
      match s.findQueue func qid with
      | none => s.asyncEvent func 0x00010000#32
      | some (i, q) =>
        if value < q.size then
          let n := (value + q.size - q.tail) % q.size
          (s.setQueue i { q with tail := value, waiting := q.waiting + n }).queueReads func 0 i n
        else s.asyncEvent func 0x00010100#32)

/-- A command needed a slot that is empty or of another type: EMPTY_SLOT_USE and Access Denied (R445, R459). -/
def State.denyKey (s : State) (h : Nat) (c : Cmd) : State := (s.raise .cryCause 2).toPost h c stAccessDenied

/-! ## Fetch (R295 to R297, R302) -/

/-- A member's own limit on commands in flight (R328). -/
def State.maxInflight (s : State) (m : Nat) : Nat :=
  match (s.acct m).binding with | some b => b.lim.maxInflight | none => 0

def State.memberInflight (s : State) (m : Nat) : Nat := (s.host.cmds.filter (fun e => decide (e.2.member = m))).length

/-- The member is bound and neither quiescing nor quiesced. -/
def State.memberActive (s : State) (m : Nat) : Bool :=
  (s.acct m).binding.isSome && (s.acct m).quiesce.isNone && !(s.acct m).quiesced

/-- A function's controller is enabled and serves commands. -/
def State.ctrlServes (s : State) (f : Nat) : Bool :=
  let c := s.ctrl f
  c.rdy && !c.resetting && !c.cfs && decide (c.shst = 0)

/-- Commands are fetched in this state for a member of a function (R77, R293, R297, R343, R497). -/
def State.fetches (s : State) (f m nsid : Nat) : Bool :=
  modeFetching s.mode && s.pwr.sleep.isNone && s.ctrlServes f && s.memberActive f && s.memberActive m &&
  decide (s.host.cmds.length < 32768) && decide (s.memberInflight m < s.maxInflight m) &&
  !s.host.nsWait.any (fun w => decide (w.nsid = nsid) && w.fmt.isSome)

/-- The fetched command: decoded, its zone found, its entries not taken yet. -/
def State.newCmd (s : State) (q : Sqe) (ranges : List LbaRange) (door : Door) (net : Bool) (queue f m : Nat) : Cmd :=
  let x := s.ns q.nsid
  let zoned := match x with | some y => y.zoned | none => true
  let op := decodeOp q zoned
  let slba := sqeSlba q
  { sqe := q, op := op, door := door, net := net, queue := queue, account := f, member := m, fetchNo := s.host.nextFetch,
    fetchTick := s.ldg.tick, phase := .fetched, arrival := 0, seq := 0, nsid := q.nsid, slba := slba,
    count := opCount op q ranges, ordered := sqeOrdered q,
    zone := match x with | some y => opZone op y slba | none => none,
    before := none, secs := [], locks := [], locked := false, status := stOk, dw0 := 0, dw1 := 0, staged := 0, hold := 0,
    pooled := false, secureHeld := false, secured := false, admitted := false, waits := [], waitFrom := 0, maxRetry := 0, silent := false,
    detached := false, ranges := ranges, lane := none, level := 0 }

/-- Of two entries of one tick the first comes first in fetch order: PCIe, then Ethernet port 0, then port 1; within PCIe the lower
queue index, within a port the earlier capsule (R189, R296). -/
def arrivesFirst (a b : Cmd) : Bool :=
  let rank (c : Cmd) : Nat := match c.door with | .pcie => 0 | .eth0 => 1 | .eth1 => 2
  decide (rank a < rank b) ||
  (decide (rank a = rank b) && (if a.net then decide (a.fetchNo < b.fetchNo)
    else decide (a.queue < b.queue) || (decide (a.queue = b.queue) && decide (a.fetchNo < b.fetchNo))))

/-- A command fetched in this tick and not yet arrived comes after `c` in fetch order. -/
def State.fetchedAfter (s : State) (c d : Cmd) : Bool :=
  decide (d.phase = .fetched) && decide (d.fetchTick = s.ldg.tick) && arrivesFirst c d

/-- The place of a command that is fetched now: before those of its tick that come after it, which move up by one and take their entries
again (R296, R302). -/
def State.makeRoom (s : State) (c : Cmd) : Nat × State :=
  let n := s.host.cmds.foldl (fun n e => if s.fetchedAfter c e.2 then min n e.2.fetchNo else n) s.host.nextFetch
  let move (d : Cmd) : Cmd :=
    if n ≤ d.fetchNo then { d with fetchNo := d.fetchNo + 1, locked := false, locks := [] } else d
  (n, { s with host := { s.host with cmds := omap (fun _ d => move d) s.host.cmds } })

/-- The command enters the QUEUE bank: it takes its entries, or its namespace is paused (R302, R305). -/
def State.fetchCmd (s : State) (c : Cmd) : State :=
  let h := s.host.nextCmd
  let p := (s.setCtrl c.account { s.ctrl c.account with kaFrom := s.ldg.tick }).makeRoom c
  let s0 := p.2
  let s1 : State := { s0 with host := { s0.host with
    cmds := oput s0.host.cmds h { c with fetchNo := p.1 }, nextCmd := h + 1, nextFetch := s0.host.nextFetch + 1 } }
  let s2 := s1.lockKick
  let paused := match s2.cmd h with | some d => !d.locked | none => false
  let s3 := if paused then
      ({ s2 with host := { s2.host with paused := c.nsid :: s2.host.paused.filter (fun n => decide (n ≠ c.nsid)) } }).raise
        .orderCause 0
    else s2
  s3.forceKick

/-- The device-wide limit stops every door, and FETCH_LIMIT is set (R297). -/
def State.fetchLimit (s : State) : State := if 32768 ≤ s.host.cmds.length then s.raise .orderCause 2 else s

/-- R296: an entry of a PCIe queue is complete in the QUEUE bank. `ranges` is the range list that a Copy or a Dataset
Management command names. -/
def execCommandFetch (queue : Nat) (sqe : Sqe) (ranges : List LbaRange) (s : State) : Host.Outcome State Fault Refusal :=
  .next (match ofind s.host.queues queue with
    | none => s
    | some q =>
      let m := match q.slice with | some n => sliceMember n | none => q.func
      if decide (s.entriesOut q.func queue < q.waiting) && s.host.linkUp && !(s.ctx q.func).halted && s.fetches q.func m sqe.nsid then
        let s1 := s.setQueue queue { q with waiting := q.waiting - 1 }
        s1.fetchCmd (s1.newCmd sqe ranges .pcie false queue q.func m)
      else s.fetchLimit)

/-- Bytes in a port's receive buffer at which XOFF and XON are sent (R464). -/
def xoffBytes : Nat := 786432
def xonBytes : Nat := 524288

def State.sendFrame (s : State) (f : NetFrame) : State := { s with net := { s.net with sent := f :: s.net.sent } }

/-- The receive buffer of a port holds `n` bytes: XOFF at 768 KiB, XON at 512 KiB (R464). -/
def State.rxLevel (s : State) (p n : Nat) : State :=
  let x := s.port p
  if xoffBytes ≤ n && !x.xoffSent then ((s.setPort p { x with rxBytes := n, xoffSent := true }).sendFrame (.xoff p)).raise .netCause 4
  else if n ≤ xonBytes && x.xoffSent then (s.setPort p { x with rxBytes := n, xoffSent := false }).sendFrame (.xon p)
  else s.setPort p { x with rxBytes := n }

/-- R133: a capsule has passed its ICRC check on an I/O queue pair; `buffered` is the port's receive-buffer level with it. A
quiescing or quiesced account refuses it with RNR NAK, and so does every account in DRAIN and during a sleep entry (R97, R343,
R497). -/
def execCapsuleReceive (qp : Nat) (sqe : Sqe) (ranges : List LbaRange) (buffered : Nat) (s : State) :
    Host.Outcome State Fault Refusal :=
  .next (if !s.islandOn .net then s
    else match ofind s.net.qps qp with
    | none => s
    | some q =>
      let s0 := s.rxLevel q.port buffered
      if q.error || !bitOf (s.reg (Reg.netPortStatus + 4 * q.port)) 0 then s
      else if q.queue = none || q.queue = some 0 then s0
      else if !s.memberActive q.account || s.mode = .drain || s.pwr.sleep.isSome then s0.sendFrame (.rnrNak qp)
      else if s0.fetches q.account q.account sqe.nsid then
        s0.fetchCmd (s0.newCmd sqe ranges (if q.port = 0 then .eth0 else .eth1) true qp q.account q.account)
      else s0.fetchLimit)

/-! ## Arrival (R133, R135, R298) -/

/-- The reserved bits that the manual places in a command: CDW13 [26:16] where it carries a class hint and bit 9 of a Zone Management Send
(R308), and those of a Minted Read (R317). `reservedZero` stands for the fields that the manual leaves to the base specification. -/
def fieldsOk (o : CmdOp) (q : Sqe) : Bool :=
  let hint : Bool := decide (getField q.cdw13 16 11 = 0)
  match o with
  | .write => hint | .append => hint | .writeZeroes => hint | .copy => hint
  | .zoneMgmt a _ => !bitOf q.cdw13 9 && (decide (a ≠ 3) || hint)
  | .minted =>
    decide (getField q.cdw12 16 10 = 0) && decide (getField q.cdw12 30 2 = 0) && decide (getField q.cdw13 0 16 = 0) &&
    decide (getField q.cdw13 22 9 = 0) && decide (getField q.cdw14 14 18 = 0) && decide (getField q.cdw15 12 20 = 0)
  | _ => true

/-- Status of the checks that every I/O command passes first (R285, R288, R334). -/
def State.firstCheck (s : State) (c : Cmd) : Option Status :=
  let mintOk := match (s.acct c.member).binding with | some b => b.mintEn | none => false
  let known := match s.ns c.nsid with
    | some x => x.attached.contains c.account && !s.host.nsWait.any (fun w =>
        decide (w.nsid = c.nsid) && w.fmt.isNone && decide (w.since ≤ c.fetchNo))
    | none => false
  let action := match c.op with
    | .zoneMgmt a _ => (decide (1 ≤ a) && decide (a ≤ 5)) || decide (a = 0x10)
    | _ => true
  if c.op = .minted && !mintOk then some stInvalidOpcode
  else if c.op = .unsupported && (known || (decodeOp c.sqe true = .unsupported && decodeOp c.sqe false = .unsupported)) then
    some stInvalidOpcode
  else if !c.sqe.reservedZero || !fieldsOk c.op c.sqe then some stInvalidField
  else if c.op = .flush && c.nsid = 0xFFFFFFFF then none
  else if !known then some stInvalidNamespace
  else if !action then some stInvalidField
  else none

/-- R133: the last hold has ended; acceptance begins in this tick and the command takes its sequence number (R189, R298). -/
def execCommandArrival (h : Nat) (s : State) : Host.Outcome State Fault Refusal :=
  .next (match s.cmd h with
    | none => s
    | some c =>
      if modeLedger s.mode && s.canArrive c && !s.host.cmds.any (fun e => decide (e.2.phase = .arrived) ||
          (arrivesFirst e.2 c && s.canArrive e.2)) then
        let q := s.db.nextSeq
        let c1 := { c.waited c.fetchTick s.ldg.tick with phase := .arrived, arrival := s.ldg.tick, seq := q, level := s.level }
        let s1 : State := { s with db := { s.db with nextSeq := q + 1 } }
        match s1.firstCheck c1 with
        | some t => s1.toPost h c1 t
        | none => s1.setCmd h c1
      else s)

/-! ## The end of acceptance (R143, R171, R172, R384, R591) -/

/-- The record of an accepted command (R383). -/
def acceptedRec (c : Cmd) : Rec :=
  ⟨.accepted, recKind c.op, false, false, false, c.ordered, c.net, c.sqe.opcode, 0, c.member, queueField c, c.sqe.cid,
   (if c.op = .dsm then c.ranges.length else c.count) - 1, c.nsid, c.slba, 0, 0,
   (match c.before with | some b => b.2 | none => 0), 0, if isDealloc c then c.ranges else [], []⟩

/-- Some sector of the command needs a die read on its door (R591); the Mint's entries are those with DOOR 3. -/
def State.needsDie (s : State) (c : Cmd) : Bool :=
  c.secs.any (fun x => (x.copySrc || decide (c.op = .read) || decide (c.op = .minted)) && !x.zero &&
    (decide (x.key / zoneSectors < 2 ^ 21) || (ofind s.med.conv x.key).isSome))

def State.doorRefused (s : State) (c : Cmd) : Bool :=
  s.needsDie c && !s.doorServed (s.classOf c.member) (if c.op = .minted then 3 else doorCode c.door)

/-- A write is admitted and charged, or it is held: a refill tries the member's held writes again in acceptance order (R171, R172). The
time that it was held is credit wait. -/
def State.admitWrite (s : State) (h : Nat) (c : Cmd) : State :=
  let k := writeCharge c
  if s.admits c.member k then
    (s.charge c.member k).setCmd h { c.waited c.waitFrom s.ldg.tick with admitted := true, waitFrom := s.ldg.tick }
  else s

/-- Sectors begin the wait, the lookup or zero fill that follows acceptance. -/
def startSec (zoned minted : Bool) (x : Sec) : Sec :=
  if !zoned || minted then x
  else if x.st = .lookup then { x with st := if x.zero then .zeroFill else .waiting }
  else x

/-- R143: acceptance ends. A deallocation's lookups and a Minted Read's sectors follow their own rules. -/
def execAcceptanceEnd (h : Nat) (s : State) : Host.Outcome State Fault Refusal :=
  .next (match s.cmd h with
    | none => s
    | some c =>
      if c.phase ≠ .accepting then s
      else
        let s := s.stamp h 1
        if s.doorRefused c then
          (if writeType c.op then s.endWrite h stDoorNotServed else s.toPost h c stDoorNotServed).kick
        else
          let zoned := match s.ns c.nsid with | some x => x.zoned | none => false
          let c1 := { c with phase := .running, waitFrom := s.ldg.tick, secs := c.secs.map (startSec zoned (c.op = .minted)) }
          let s1 := (s.setCmd h c1).setRec c.seq (acceptedRec c1)
          let s2 := if writeType c.op then s1.admitWrite h c1 else s1
          (if c.op = .report then s2.toPost h c1 stOk else s2.registerKick).kick)

/-! ## Map lookups (R139, R240, R412, R424) -/

/-- Positions of the sectors of the lowest 16-LBA line whose lookup has not ended: the lookups run in LBA order (R139). -/
def nextLine (c : Cmd) : List Nat :=
  let lines := (secsIn c .lookup).filterMap (fun i => (c.secs[i]?).map (fun x => (i, x.lba / 16)))
  (lines.filter (fun e => lines.all (fun f => decide (e.2 ≤ f.2)))).map (·.1)

/-- A looked-up sector: a zero fill where its entry is 0b00 (R241), else a wait for its die. -/
def State.lookedUp (s : State) (poison : Bool) (x : Sec) : Sec :=
  if poison then { x with st := .withdrawn, poison := true }
  else match ofind s.med.conv x.key with
    | none => { x with zero := true, st := .zeroFill, payload := 0 }
    | some e => { x with zero := false, st := .waiting, die := e.die, slc := decide (e.place = .slc), payload := e.payload,
                         appTag := e.appTag, poison := e.poison }

/-- R139: the lookup of one line at DRAM address `addr` ends, with the symbol errors found; `queued` says that the bank had
an earlier lookup pending (R424). -/
def execMapLookupEnd (h addr : Nat) (errs : List SymErr) (queued : Bool) (s : State) : Host.Outcome State Fault Refusal :=
  .next (match s.cmd h with
    | none => s
    | some c =>
      let line := nextLine c
      if c.phase ≠ .running || line.isEmpty || c.op = .minted && c.lane.isNone then s
      else
        let bad := s.dramPoisoned addr errs
        let s1 := (s.dramRecord addr errs).closeRow addr
        let s2 := if queued && s.host.cmds.any (fun e => decide (e.1 ≠ h) && !(secsIn e.2 .lookup).isEmpty) then
            s1.raise .memCause 4 else s1
        let secs := line.foldl (fun (l : List Sec) i => match l[i]? with | some x => l.set i (s.lookedUp bad x) | none => l) c.secs
        let c1 := { c with secs := secs, status := if bad then stUnrecoveredRead else c.status }
        let s3 := s2.setCmd h c1
        if bad && c.op = .copy then (s3.endWrite h stUnrecoveredRead).kick
        else (s3.readKick h).registerKick)

/-! ## The read path (R437, R394, R395, R291) -/

/-- The stored application tag is checked at egress (R291). -/
def appTagFails (c : Cmd) (x : Sec) (fmt : Nat) : Bool :=
  decide (fmt ≠ 0) && !sqePract c.sqe && bitOf c.sqe.cdw12 27 && decide (x.appTag ≠ 0xFFFF) &&
  decide ((BitVec.ofNat 16 x.appTag &&& BitVec.ofNat 16 (getField c.sqe.cdw15 16 16)) ≠
    (BitVec.ofNat 16 (getField c.sqe.cdw15 0 16) &&& BitVec.ofNat 16 (getField c.sqe.cdw15 16 16)))

/-- LBA format of the command's namespace, and the XTS owner. -/
def State.fmtOf (s : State) (c : Cmd) : Nat := match s.ns c.nsid with | some x => x.format | none => 0
def State.ownerOf (s : State) (c : Cmd) : Nat := match s.ns c.nsid with | some x => nsOwner x | none => 0

/-- A sector's key is the one that it was stored under, so that its seal can pass. -/
def State.keyMatches (s : State) (c : Cmd) (x : Sec) : Bool :=
  let fits (e : Stored) : Bool := decide (some e.key = x.xts) && decide (xtsTweak e.nsid e.lba = xtsTweak c.nsid x.lba)
  match ofind s.med.sectors x.key with
  | some e => fits e
  | none => match ofind s.med.conv x.key with | some e => fits e | none => true

/-- When the last source sector of a Copy has been read, its destination's data is complete (R314). -/
def copyReady (c : Cmd) : Bool := decide (c.op = .copy) && (srcSecs c).all (fun x => decide (x.st = .checked))

/-- The destination sectors of a Copy take the source sectors' data in order; its wait for a gate lane begins. -/
def copyOver (c : Cmd) (now : Nat) : Cmd :=
  let src := srcSecs c
  let dst := (destSecs c).zip src
  { c with waitFrom := now, secs := src ++ dst.map (fun p => { p.1 with
      st := .have, payload := p.2.payload, appTag := p.2.appTag, poison := p.2.poison }) }

/-- R437: an XTS core ends one sector, on the read stream of its channel or on its write stream (R438). A slot that is no longer of its
type refuses it (R445); the sector's 257 blocks count toward the next reseed of the stream's mask generator (R441). -/
def execXtsStageEnd (h i : Nat) (carrierOk : Bool) (s : State) : Host.Outcome State Fault Refusal :=
  .next (match s.sec h i with
    | none => s
    | some (c, x) =>
      if s.mem.wiping then s
      else match x.st with
      | .decoded =>
        if x.poison then s.failDecode h i c { x with poison := false }
        else if x.xts.isNone then
          let c1 := { c with status := stAccessDenied, secs := c.secs.set i { x with st := .withdrawn } }
          let s := s.raise .cryCause 2
          if c.op = .copy then (s.endWrite h stAccessDenied).kick
          else (s.setCmd h c1).readKick h
        else if !carrierOk then s.failDecode h i c x
        else if c.op = .minted then (s.addBlocks (x.die % 32) 257).enterRing h i c x
        else ((s.addBlocks (x.die % 32) 257).stamp h 6).setSec h i { x with st := .clear }
      | .sealed =>
        if x.xts.isNone then ((s.raise .cryCause 2).endWrite h stAccessDenied).kick
        else if x.poison || !carrierOk then (s.endWrite h stInternalError).kick
        else ((s.addBlocks (32 + x.stream) 257).stamp h 4).setSec h i { x with st := .encrypted }
      | _ => s)

/-- Zero-read sectors of one command pass zero fill and seal check one after another (R592). -/
def firstZero (c : Cmd) (t : SecSt) (i : Nat) : Bool := decide ((secsIn c t).head? = some i)

/-- The egress slot of a sector whose seal check ends: that of its entry, or of the retry read that a sector recovered in L3 takes (R179,
R180). -/
def State.exitSlot (s : State) (c : Cmd) (x : Sec) : Nat :=
  if x.level = 3 && !x.copySrc then (s.l3Slot x.die c.door s.ldg.tick).getD (x.l3 + 5242881) else x.slotAt

/-- R139: the seal check and PI generation of a read sector end; `ok` says whether the seal matches. -/
def execSealCheckEnd (h i : Nat) (ok : Bool) (s : State) : Host.Outcome State Fault Refusal :=
  .next (match s.sec h i with
    | none => s
    | some (c, x) =>
      if x.st = .zeroReady && firstZero c .zeroReady i then
        let c1 := { c with secs := c.secs.set i { x with st := .checked, readyAt := s.ldg.tick } }
        (s.stamp h 7).setCmd h (if copyReady c1 then copyOver c1 s.ldg.tick else c1)
      else if x.st ≠ .clear then s
      else if !ok || !s.keyMatches c x then s.failDecode h i c x
      else if appTagFails c x (s.fmtOf c) && !x.copySrc then
        (s.setCmd h { c with status := stAppTagCheck, secs := c.secs.set i { x with st := .withdrawn } }).readKick h
      else
        let c1 := { c with secs := c.secs.set i { x with st := .checked, slotAt := s.exitSlot c x } }
        (s.stamp h 7).setCmd h (if copyReady c1 then copyOver c1 s.ldg.tick else c1))

/-- A received pause stops the data priority of the door's port (R464). -/
def State.doorPaused (s : State) (d : Door) : Bool :=
  match d with
  | .pcie => false
  | .eth0 => (s.port 0).pausedData
  | .eth1 => (s.port 1).pausedData

/-- A queue pair's rate does not allow its next sector yet (R463). -/
def State.rateHolds (s : State) (c : Cmd) : Bool :=
  c.net && (match ofind s.net.qps c.queue with | some q => decide (s.ldg.tick < q.nextAt) | none => false)

/-- A sector leaves on its queue pair: its rate allows the next one after the sector's payload at that rate (R463; log entry 88). -/
def State.rateTake (s : State) (c : Cmd) : State :=
  if c.net then
    match ofind s.net.qps c.queue with
    | some q => { s with net := { s.net with
        qps := oput s.net.qps c.queue { q with nextAt := s.ldg.tick + ceilDiv (8 * 4096 * 1000) (max 1 q.rate) } } }
    | none => s
  else s

/-- The wait that `from_` marks, none where it is 0, ends in this tick. -/
def State.waitEnd (s : State) (c : Cmd) (from_ : Nat) : Cmd := if from_ = 0 then c else c.waited from_ s.ldg.tick

/-- The mark of a wait that began at `from_`, or begins now. -/
def State.waitMark (s : State) (from_ : Nat) : Nat := if from_ = 0 then s.ldg.tick else from_

/-! ## The dirty-page log (R341, R342) -/

def State.logging (s : State) (a : Nat) : Bool :=
  bitOf (s.reg Reg.actDlogCtl) 0 && (match (s.acct a).binding with | some b => b.logEn | none => false)

def State.dlogSize (s : State) : Nat := 2 ^ s.fld Reg.actDlogCtl 1 5

/-- Free entries of the ring. -/
def State.dlogRoom (s : State) : Nat :=
  (s.fld Reg.actDlogHead 0 24 + s.dlogSize - s.fld Reg.actDlogTail 0 24 - 1) % s.dlogSize

/-- One entry for each page, TAIL advancing after each (R341). -/
def State.dlogWrite (s : State) (a : Nat) : List (BitVec 64) → State
  | [] => s
  | p :: ps =>
    let e := (p &&& ~~~0xFFF#64) ||| BitVec.ofNat 64 (a % 2048)
    let s1 : State := { s with host := { s.host with dlog := e :: s.host.dlog } }
    (s1.setFld Reg.actDlogTail 0 24 ((s1.fld Reg.actDlogTail 0 24 + 1) % s1.dlogSize)).dlogWrite a ps

/-- Tick at which a sector's egress ends on the PCIe link as it is trained (R139, R141); what it takes longer is a stall of the link (R151). -/
def State.pcieDue (s : State) (x : Sec) : Nat :=
  x.slotAt + egressBase s.level 0 + pcieTerm 4096 s.host.linkGen s.host.linkWidth s.host.linkMps

/-- The external wait of an egress that ends in this tick: a stall by a full log ring, and of the PCIe link. -/
def State.egressWait (s : State) (c : Cmd) (x : Sec) : Cmd :=
  let c1 := s.waitEnd c x.readyAt
  if c.door = .pcie then c1.waited (s.pcieDue x) s.ldg.tick else c1

/-- R146: a sector's egress ends; `pages` are the host pages that its TLPs touched. A full log ring stalls it, as external wait
(R342). -/
def execEgressEnd (h i : Nat) (pages : List (BitVec 64)) (s : State) : Host.Outcome State Fault Refusal :=
  .next (match s.sec h i with
    | none => s
    | some (c, x) =>
      if x.st ≠ .leaving then s
      else
        let logs := decide (c.door = .pcie) && s.logging c.account
        if logs && decide (s.dlogRoom < pages.length) then
          (s.raise .actCause 3).setSec h i { x with readyAt := s.waitMark x.readyAt }
        else
          let s0 := s.setCmd h (s.egressWait c x)
          let s1 := if logs then s0.dlogWrite c.account pages else s0
          let pi := if s.fmtOf c = 0 || sqePract c.sqe then 0 else x.appTag
          let out : List SentSec := if c.silent then [] else [⟨c.account, c.sqe.cid, i, x.payload, pi, s.slicePasid c.member⟩]
          let s2 : State := { s1 with host := { s1.host with sent := out ++ s1.host.sent } }
          (((s2.stamp h 8).setSec h i { x with st := .left }).readKick h).kick)

/-- R133: the completion leaves the transmitter and the command ends. `page` is the host page of its entry. A full log ring and a
paused port hold it, as external wait (R342, R464). -/
def execCompletionPostEnd (h : Nat) (page : BitVec 64) (s : State) : Host.Outcome State Fault Refusal :=
  .next (match s.cmd h with
    | none => s
    | some c =>
      if c.phase ≠ .posting then s
      else
        let logs := !c.net && !c.silent && s.logging c.account
        let held := s.setCmd h { c with waitFrom := s.waitMark c.waitFrom }
        if logs && s.dlogRoom = 0 then held.raise .actCause 3
        else if s.doorPaused c.door then held
        else
          let s1 := if logs then s.dlogWrite c.account [page] else s
          ((s1.stamp h (if writeType c.op then 7 else 9)).finish h (s.waitEnd c c.waitFrom)).kick)

/-! ## The write path (R147, R291, R292, R387, R421, R422) -/

/-- R387: a write-type command takes its staging slots and its completed-pool record, and its fetch begins with `lists`
list reads and `datas` data reads over PCIe. -/
def execStagingSlotsTaken (h lists datas : Nat) (s : State) : Host.Outcome State Fault Refusal :=
  .next (match s.cmd h with
    | none => s
    | some c =>
      if c.phase = .running && writeType c.op && c.admitted && !c.pooled && !c.secured && s.mayStage c then
        let n := slotCount c
        let at_ := s.db.stageNext
        let c1 := if c.op = .copy || c.op = .writeZeroes then c.waited c.waitFrom s.ldg.tick else c
        let s1 := (s.setCmd h { c1 with staged := n, hold := holdCount c, pooled := true }).modRec c.seq (fun r => { r with stage := at_ })
        let s2 : State := { s1 with db := { s1.db with stageNext := (at_ + n) % stageSlots } }
        if c.net || c.op = .copy || (c.op = .writeZeroes) then s2
        else (s2.queueReads c.account 1 h lists).queueReads c.account 2 h datas
      else s)

/-- Reads of a command that a context still has queued, outstanding or failed. -/
def State.readsFor (s : State) (a h : Nat) : Bool :=
  let x := s.ctx a
  (x.queue ++ x.reads ++ x.failed).any (fun r => decide (r.1 ≠ 0) && decide (r.2 = h))

/-- The command holds what R387 asks before its fetch. -/
def stagedReady (c : Cmd) : Bool := c.phase = .running && c.admitted && c.pooled && !c.secured

/-- R27: all of a write's host data is in the XFR bank. -/
def execHostDataFetchEnd (h : Nat) (data : List HostSec) (s : State) : Host.Outcome State Fault Refusal :=
  .next (match s.cmd h with
    | none => s
    | some c =>
      if (c.op = .write || c.op = .append) && stagedReady c && decide (data.length = c.count) &&
         decide ((secsIn c .fetching).length = c.count) && !s.readsFor c.account h then
        (s.stamp h 2).setCmd h { c with secs := (c.secs.zip data).map (fun p => { p.1 with
          st := .have, payload := p.2.payload, appTag := p.2.appTag, guardOk := p.2.guardOk, refTag := p.2.refTag }) }
      else s)

/-- R145, R592: a zero fill of one sector ends: of a zero read, a Copy's source, or a zoned Write Zeroes. -/
def execZeroFillEnd (h i : Nat) (s : State) : Host.Outcome State Fault Refusal :=
  .next (match s.sec h i with
    | none => s
    | some (c, x) =>
      if c.op = .minted && x.st = .zeroFill && s.secAllowed c i then s.enterRing h i c { x with payload := 0 }
      else if c.op ≠ .minted && x.st = .zeroFill && firstZero c .zeroFill i && (!writeType c.op || x.copySrc || stagedReady c) then
        let t : SecSt := if c.op = .writeZeroes then .have else .zeroReady
        let c1 := { c with secs := c.secs.set i { x with st := t, payload := 0 } }
        -- a read entry is released with the last zero fill of a command that reads no die (R304)
        let c2 := if c.op = .read && c1.secs.all (fun y => y.zero) && (secsIn c1 .zeroFill).isEmpty then
            { c1 with locks := c1.locks.filter (fun l => l.2.2) } else c1
        let c3 := if c.op = .writeZeroes then { c2 with waitFrom := s.ldg.tick } else c2
        let s1 := if c.op = .writeZeroes then s.stamp h 2 else s
        (s1.setCmd h c3).kick
      else s)

/-- All of a write-type command's data is in the XFR bank. -/
def dataComplete (c : Cmd) : Bool := !(destSecs c).isEmpty && (destSecs c).all (fun x => decide (x.st = .have))

/-- R421: a command with complete data takes one of the two gate lanes. What is external of the time before it is a write's host data fetch,
and of a Copy or a zoned Write Zeroes the wait since its data was complete (R145, R151). -/
def execGateLaneGrant (h : Nat) (s : State) : Host.Outcome State Fault Refusal :=
  .next (match s.cmd h with
    | none => s
    | some c =>
      if stagedReady c && dataComplete c && decide (s.mem.lanes.length < 2) && !s.mem.lanes.contains h &&
         !s.host.cmds.any (fun e => stagedReady e.2 && dataComplete e.2 && !s.mem.lanes.contains e.1 && decide (e.2.seq < c.seq)) then
        let s1 := s.setCmd h (c.waited c.waitFrom s.ldg.tick)
        { s1 with mem := { s1.mem with lanes := s1.mem.lanes ++ [h] } }
      else s)

/-- The protection information of a write sector, checked at ingress (R291, R292): the failing check's status. The reference
tag counts on from SLBA, for a Zone Append from its zone's start. -/
def piFails (c : Cmd) (i : Nat) (x : Sec) (fmt : Nat) : Option Status :=
  let lim := if fmt = 1 then 2 ^ 32 else 2 ^ 48
  if fmt = 0 || sqePract c.sqe || x.appTag = 0xFFFF || (c.op ≠ .write && c.op ≠ .append) then none
  else if bitOf c.sqe.cdw12 28 && !x.guardOk then some stGuardCheck
  else if bitOf c.sqe.cdw12 27 &&
      decide ((BitVec.ofNat 16 x.appTag &&& BitVec.ofNat 16 (getField c.sqe.cdw15 16 16)) ≠
        (BitVec.ofNat 16 (getField c.sqe.cdw15 0 16) &&& BitVec.ofNat 16 (getField c.sqe.cdw15 16 16))) then some stAppTagCheck
  else if bitOf c.sqe.cdw12 26 && decide (x.refTag % lim ≠ (sqeSlba c.sqe + i) % lim) then some stRefTagCheck
  else none

/-- The application tag that is stored (R247, R291): 0 for format 0 and where the device generates the information. -/
def storedTag (c : Cmd) (x : Sec) (fmt : Nat) : Nat :=
  if fmt = 0 then 0 else if c.op = .copy then x.appTag else if sqePract c.sqe || c.op = .writeZeroes then 0 else x.appTag

/-- The lowest-numbered write stream that no sector holds (R438). -/
def State.freeStream (s : State) : Nat :=
  let busy := s.host.cmds.flatMap (fun e => (e.2.secs.filter (fun x => decide (x.st = .sealed))).map (·.stream))
  ((List.range 16).find? (fun n => !busy.contains n)).getD 0

/-- R147: the seal of a write sector ends; the sectors pass one at a time, in order, while the command holds a lane. A failed
PI check ends the command without effect (R292). The lane is free after the last seal (R421). -/
def execSealEnd (h i : Nat) (s : State) : Host.Outcome State Fault Refusal :=
  .next (match s.sec h i with
    | none => s
    | some (c, x) =>
      if x.st = .have && s.mem.lanes.contains h && decide ((secsIn c .have).head? = some i) then
        match piFails c i x (s.fmtOf c) with
        | some t => (s.endWrite h t).kick
        | none =>
          let c1 := { c with secs := c.secs.set i { x with
            st := .sealed, appTag := storedTag c x (s.fmtOf c), stream := s.freeStream, xts := s.xtsRead (s.ownerOf c) } }
          let s1 := (s.stamp h 3).setCmd h c1
          if (secsIn c1 .have).isEmpty then
            { s1 with mem := { s1.mem with lanes := s1.mem.lanes.filter (fun y => decide (y ≠ h)) } } else s1
      else s)

/-- R422: the last burst of a staged sector is in the write buffer. -/
def execDramWriteEnd (h i : Nat) (s : State) : Host.Outcome State Fault Refusal :=
  .next (match s.sec h i with
    | none => s
    | some (c, x) =>
      let slot := ((s.dbRec c.seq).map (·.stage)).getD 0 + (i - (srcSecs c).length)
      if x.st = .encrypted && s.bufferRoom then (((s.bufferSector).cleanSlot slot).stamp h 5).setSec h i { x with st := .stored } else s)

/-- R388: the secure stage ends after the last sector's DRAM write; the result is held behind an earlier zone command. -/
def execDayBookSecure (h : Nat) (s : State) : Host.Outcome State Fault Refusal :=
  .next (match s.cmd h with
    | none => s
    | some c =>
      if c.phase = .running && !c.secured && !c.secureHeld && !(destSecs c).isEmpty &&
         (destSecs c).all (fun x => decide (x.st = .stored)) then
        match c.zone with
        | some z =>
          if s.earlierZoneOpen z c.seq then s.setCmd h { c with secureHeld := true, waitFrom := s.ldg.tick }
          else (s.secureNow h c).kick
        | none => (s.secureNow h c).kick
      else s)

/-- R393: every map entry of a deallocation reads 0b00; the record becomes SECURED and SETTLED in this tick. -/
def execDeallocationSecure (h : Nat) (s : State) : Host.Outcome State Fault Refusal :=
  .next (match s.cmd h with
    | none => s
    | some c =>
      if isDealloc c && stagedReady c && !s.readsFor c.account h then
        let rs := if c.op = .dsm then c.ranges else [⟨c.slba, c.count⟩]
        let s1 := s.dropConv c.nsid (fun l => rs.any (fun r => decide (r.slba ≤ l) && decide (l < r.slba + r.count)))
        let s2 := s1.modRec c.seq (fun r => { r with state := .settled, securedAt := s.ldg.tick })
        (s2.toPost h { c.waited c.waitFrom s.ldg.tick with secured := true, locks := [] } stOk).kick
      else s)

end Sys2Proof.Machine
end

