-- ==== Sys2Proof/Machine/MediaOps.lean ====
section
/-!
DEFINITION. The media processors' shared operations (spec 06, 08, 09): grants (R173, R176), lending and the Vaults (R228, R233 to R236), programs and their placement (R225, R226, R263), the tail and Tally
rings (R229, R265), retirement, spares and whole-die failure (R270 to R275).
-/
namespace Sys2Proof.Machine

/-! ## Grants (R173, R176, R232) -/

/-- The class's seating in the variant in force: DEPTH where it is SEATED. -/
def State.seating (s : State) (cls : Nat) : Option Nat :=
  match s.variant with
  | none => none
  | some v => match v.classTbl[cls]? with | some c => if c.seated then some c.depth else none | none => none

/-- The seat whose turn an entry is (R176). -/
def State.seatTurn (s : State) (d cls door : Nat) : Nat := cget 0 (s.die d).seatCount (4 * cls + door)

/-- The binding that a grant in this tick uses: the one in force before the tick (R189). -/
def State.grantBinding (s : State) (m : Nat) : Option Binding :=
  let a := s.acct m
  if a.boundAt = some s.ldg.tick then a.priorBinding else a.binding

def State.seatOk (s : State) (d cls door m : Nat) : Bool :=
  match s.seating cls with
  | none => true
  | some n => match s.grantBinding m with
    | some b => decide (b.seat = s.seatTurn d cls door % max 1 n)
    | none => false

/-- The class in which a grant finds the member's sectors. -/
def State.grantClass (s : State) (m : Nat) : Nat :=
  if s.conservative then 0 else match s.grantBinding m with | some b => b.cls | none => 0

/-- The entry's door serves the command (R179, R472). -/
def State.doorOk (s : State) (e : EntryRec) (c : Cmd) : Bool :=
  if c.op = .minted then s.conservative || decide (e.door = 3) else decide (e.door = doorCode c.door)

/-- A sector may take the entry (R173, R232). -/
def State.eligible (s : State) (d : Nat) (e : EntryRec) (c : Cmd) (x : Sec) : Bool :=
  decide (x.st = .registered) && decide (x.die = d) && decide (s.grantClass c.member = e.cls) && s.doorOk e c &&
  (decide (readType e = 1) || x.slc) && s.seatOk d e.cls e.door c.member && s.admits c.member (readCharge c)

/-- Every sector that may take the entry: registration tick, sequence number, handle, position. -/
def State.candidates (s : State) (d : Nat) (e : EntryRec) : List (Nat × Nat × Nat × Nat) :=
  s.host.cmds.flatMap (fun f =>
    ((List.range f.2.secs.length).filterMap (fun i =>
      match f.2.secs[i]? with
      | some x => if s.eligible d e f.2 x then some (x.reg, f.2.seq, f.1, i) else none
      | none => none)))

/-- The earliest registration, then the lowest sequence number, wins (R173). -/
def earliest (a b : Nat × Nat × Nat × Nat) : Nat × Nat × Nat × Nat :=
  if b.1 < a.1 || (decide (b.1 = a.1) && decide (b.2.1 < a.2.1)) then b else a

def pick : List (Nat × Nat × Nat × Nat) → Option (Nat × Nat × Nat × Nat)
  | [] => none
  | x :: xs => some (xs.foldl earliest x)

/-- A band entry of R259. -/
def bandOk (b : VerifyBand) : Bool :=
  b.reservedZero && decide (b.pageMask ≠ 0) && decide (b.planeMask ≠ 0) && decide (b.qlcOffset.length = 15) &&
  b.qlcOffset.all (fun o => decide (-128 ≤ o) && decide (o ≤ 127)) && decide (-128 ≤ b.slcOffset) && decide (b.slcOffset ≤ 127)

/-- ERASE_MAX ascends strictly, and the last band takes every erase count. -/
def erasesRise : List VerifyBand → Bool
  | [] => false
  | [b] => decide (b.eraseMax = 0xFFFFFFFF)
  | a :: b :: r => decide (a.eraseMax < b.eraseMax) && erasesRise (b :: r)

/-- The verify table conforms to R258 and R259. -/
def verifyOk (t : VerifyTable) : Bool :=
  decide (t.magic = 0x59465256) && decide (t.format = 1) && t.reservedZero && decide (1 ≤ t.softStep) && decide (t.softStep ≤ 63) &&
  decide (t.bands.length ≤ 16) && t.lengthOk && t.bands.all bandOk && erasesRise t.bands

/-- The boot ROM's verify table (R260), and the table in force. -/
def romVerify : VerifyTable :=
  ⟨0x59465256, 1, [⟨2 ^ 32 - 1, List.replicate 15 (-4), -4, 8#4, 15#4, 40, 60, 90, 200000, true⟩], 6, true, true⟩

def State.verifyTable (s : State) : VerifyTable :=
  match s.boot.image with
  | some im => if verifyOk im.verify then im.verify else romVerify
  | none => romVerify

/-- The band of an erase count: the first whose ERASE_MAX is not below it (R257). -/
def State.band (s : State) (erases : Nat) : Option VerifyBand := s.verifyTable.bands.find? (fun b => decide (erases ≤ b.eraseMax))

/-- A sector of a block is read: at DISTURB_READS the block is queued for refresh (R259). -/
def State.countRead (s : State) (d b : Nat) : State :=
  let x := s.block d b
  let due := match s.band x.erases with | some v => decide (v.disturbReads ≤ x.reads + 1) | none => false
  s.setBlock d b { x with reads := x.reads + 1, refresh := x.refresh || due }

/-- Grant a read that starts at tick `t` to a sector: the charge, the die's read, the sector's egress slot, and the member's next sector
registers (R171, R174, R179). -/
def State.grant (s : State) (d type cls h i t : Nat) (window : Bool) : State :=
  match s.sec h i with
  | none => s
  | some (c, x) =>
    let b := s.secBlock x
    let s1 := ((s.charge c.member (readCharge c)).setSec h i
      { x with st := .granted, block := some b, slotAt := t + sealExit type s.level }).stampAt h 2 t
    let s2 := s1.countRead d b
    (s2.setDie d { s2.die d with read := some {
      type := type, cls := cls, block := b, cmd := h, sec := i, start := t, last := t + readTicks type, window := window } }).registerKick

/-! ## Blocks, lending and the Vaults (R233 to R237) -/

/-- Blocks of the zone share: 0 to 3,583, and the spares that have joined it (log entry 34). -/
def State.shareBlocks (s : State) (d : Nat) : List Nat := List.range 3584 ++ upFrom 3746 (s.dieMed d).joined

/-- A block of a die is bound to a zone (R235). -/
def bound (b : Block) : Bool :=
  b.zone.isSome && (decide (b.state = .open_) || decide (b.state = .full) || decide (b.state = .verified))

/-- P(d): blocks of the share that no zone is bound to, retired ones and the conventional pool's excluded (R235, R239). -/
def State.freePool (s : State) (d : Nat) : Nat :=
  let used := (s.med.blocks.filter (fun e => decide (e.1 / 4096 = d) && (decide (e.2.state = .retired) || bound e.2))).length
  3584 + (s.dieMed d).joined - (s.dieMed d).shareLost - s.convZones - used

/-- L(d) (R235). -/
def State.lendLimit (s : State) (d : Nat) : Nat := max 2 (min (262144 / max 1 s.populated) (s.freePool d))

/-- Insert a block by erase count, then number. -/
def rankInsert (e : Nat × Nat) : List (Nat × Nat) → List (Nat × Nat)
  | [] => [e]
  | f :: fs => if e.1 < f.1 || (decide (e.1 = f.1) && decide (e.2 < f.2)) then e :: f :: fs else f :: rankInsert e fs

/-- The die's ready blocks in rank order (R233). -/
def State.ready (s : State) (d : Nat) : List Nat :=
  (((s.shareBlocks d).filter (fun b => decide ((s.block d b).state = .ready) && (s.block d b).doom.isNone)).foldr
    (fun b l => rankInsert ((s.block d b).erases, b) l) []).map (·.2)

/-- Block at a Vault's position num × N / den of the ranking. -/
def State.vaultBlock (s : State) (d num den : Nat) : Option Nat :=
  let r := s.ready d
  r[num * r.length / den]?

/-- Live streams of the stream table. -/
def State.streams (s : State) : Nat :=
  sumOf (s.med.zones.map (fun e => (e.2.slots.filter (fun x => !x.2.stream.isEmpty)).length))

/-- A die slot of a zone. -/
def zslot (x : Zone) (i : Nat) : ZSlot := cget {} x.slots i
def setZslot (x : Zone) (i : Nat) (v : ZSlot) : Zone := { x with slots := cset {} x.slots i v }

/-- Bind a slot at its first placement (R234): a block from the zone class's Vault. None where the die has no ready block or
the chosen one still awaits its erase (R221). -/
def State.bindSlot (s : State) (z i : Nat) (toSlc : Bool) : Option State :=
  let x := s.zone z
  let d := s.zoneDie z i
  match s.vaultBlock d (2 * x.lclass.getD 3 + 1) 16 with
  | none => none
  | some b =>
    if (s.block d b).awaiting then none
    else
      let s1 := s.setBlock d b { s.block d b with state := .open_, zone := some z }
      let y := { x with claims := x.claims.filter (fun c => decide (c ≠ d)) }
      some (s1.setZone z (setZslot y i { zslot y i with kind := if toSlc then .folded else .direct, block := b }))

/-- A binding that cannot be made waits: for an evacuation where the die has no ready block (R234, R237), else for an erase. -/
def State.bindWaits (s : State) (z i : Nat) : State :=
  let d := s.zoneDie z i
  let code := 2 ^ 20 * d + z
  let s1 : State := if s.med.evac.contains code then s else { s with med := { s.med with evac := s.med.evac ++ [code] } }
  if (s.ready d).isEmpty then s1.raise .zoneCause 1 else s1

/-- Blocks of the SLC floor (R269), as the model numbers the held-back eighth (log entry 34). -/
def floorBlocks : List Nat := [3720, 3721]

/-- Block to lend on a die (R233, R235): a pool block up to min(cap, P(d)), else one of the floor. -/
def State.lendBlock (s : State) (d : Nat) : Option Nat :=
  if (s.dieMed d).lent < min (262144 / max 1 s.populated) (s.freePool d) then s.vaultBlock d 1 2
  else floorBlocks.find? (fun b => decide ((s.block d b).state = .ready))

/-- Lend a block to a slot's stream (R228, R236), or the cause bit of the refusal: LEND_AT_LIMIT at L(d), STREAM_TABLE_FULL
for a new stream. A block that awaits its erase cannot be lent yet (R221). -/
def State.lend (s : State) (z i : Nat) : Except (Option Nat) State :=
  let d := s.zoneDie z i
  let sl := zslot (s.zone z) i
  if sl.stream.isEmpty && decide (131072 ≤ s.streams) then .error (some 2)
  else if s.lendLimit d ≤ (s.dieMed d).lent then .error (some 3)
  else match s.lendBlock d with
    | none => .error (some 3)
    | some b =>
      if (s.block d b).awaiting then .error none
      else
        let s1 := s.setBlock d b { s.block d b with state := .lent, zone := some z, lentAt := s.ldg.tick }
        let s2 := s1.setDieMed d { s1.dieMed d with lent := (s1.dieMed d).lent + 1 }
        let sl2 := if sl.stream.isEmpty then { sl with base := sl.qlcUnits, quarters := 0 } else sl
        .ok (s2.setZone z (setZslot (s2.zone z) i { sl2 with stream := sl2.stream ++ [b] }))

/-- The die's open SLC log block, or a new one of at most 4, drawn from CONV (R233, R241). -/
def State.logBlock (s : State) (d : Nat) : Option (Nat × State) :=
  let logs := s.med.blocks.filter (fun e => decide (e.1 / 4096 = d) && e.2.conv && e.2.slc)
  match logs.find? (fun e => decide (e.2.pages < 512) && e.2.doom.isNone && decide (e.2.state = .open_)) with
  | some e => some (e.1 % 4096, s)
  | none =>
    if 4 ≤ logs.length then none
    else match s.vaultBlock d 1 2 with
      | none => none
      | some b =>
        if (s.block d b).awaiting then none
        else some (b, s.setBlock d b { s.block d b with state := .open_, conv := true, slc := true })

/-! ## What a program takes (R178, R223 to R226, R263) -/

/-- First sector offset of unit row `w` of die slot `i`. -/
def unitStart (w i : Nat) : Nat := (16 * w + i) * 64

/-- The staged sectors of `n` offsets from `o`, if every one is secured and not placed. -/
def State.stagedRun (s : State) (z o n : Nat) : Option (List (Nat × Stored)) :=
  let l := (upFrom o n).filterMap (fun a => match ofind s.med.sectors (zoneKey z a) with
    | some e => if e.place = .staged || e.place = .tail then some (zoneKey z a, e) else none
    | none => none)
  if l.length = n then some l else none

/-- Highest sequence number of a run: that of its last-secured sector. -/
def lastSeq (l : List (Nat × Stored)) : Nat := maxOf (l.map (fun e => e.2.seq))

/-- Class of staged data: that of the member that secured its last sector. -/
def State.runClass (s : State) (l : List (Nat × Stored)) : Nat :=
  match l.find? (fun e => decide (e.2.seq = lastSeq l)) with
  | some e => s.classOf e.2.member
  | none => 0

/-- The stripe may take data: the accumulator holds it (R263); with one group no Tally is kept (R262). -/
def State.stripeOpen (s : State) (x : Zone) (w : Nat) : Bool := decide (s.groupCount < 2) || decide (x.accStripe = w)

/-- What a program entry could take from a zone: the zone, its die slot, first offset, the run. -/
structure Take where
  zone : Option Nat
  slot : Nat
  first : Nat
  run : List (Nat × Stored)
deriving DecidableEq, Repr

/-- The next quarter of slot `i` of zone `z`, if complete and in the open stripe (R225). -/
def State.nextQuarter (s : State) (z i : Nat) : Option Take :=
  let x := s.zone z
  let sl := zslot x i
  if sl.kind = .direct then none
  else
    let k := sl.quarters
    let w := (if sl.stream.isEmpty then sl.qlcUnits else sl.base) + k / 4
    let o := unitStart w i + 16 * (k % 4)
    let bad := match sl.stream[k / 512]? with | some b => (s.block (s.zoneDie z i) b).doom.isSome | none => false
    if s.stripeOpen x w && decide (k / 512 < 4) && !bad then
      match s.stagedRun z o 16 with | some r => some ⟨some z, i, o, r⟩ | none => none
    else none

/-- The next unit of slot `i` of zone `z`, if complete (R226). -/
def State.nextUnit (s : State) (z i : Nat) : Option Take :=
  let x := s.zone z
  let sl := zslot x i
  if sl.kind = .folded then none
  else
    let o := unitStart sl.qlcUnits i
    let bad := decide (sl.kind = .direct) && (s.block (s.zoneDie z i) sl.block).doom.isSome
    if s.stripeOpen x sl.qlcUnits && !bad then
      match s.stagedRun z o 64 with | some r => some ⟨some z, i, o, r⟩ | none => none
    else none

/-- Die slot of die `d` in zone `z`. -/
def State.slotOfDie (s : State) (z d : Nat) : Option Nat := (s.zoneDies z).findIdx? (fun x => decide (x = d))

/-- Sixteen staged sectors of one namespace and class on the die, lowest sequence number first (R241). -/
def State.convQuarter (s : State) (d cls nsid : Nat) : Option Take :=
  let l := s.med.conv.filter (fun e => decide (e.1 / 2 ^ 40 = nsid) && decide (e.2.place = .staged) && decide (e.2.die = d) &&
    decide (s.classOf e.2.member = cls))
  let l := (l.foldr (fun e (m : List (Nat × Nat)) => rankInsert (e.2.seq, e.1) m) []).take 16
  let run := l.filterMap (fun p => match ofind s.med.conv p.2 with | some e => some (p.2, e) | none => none)
  if run.length = 16 then some ⟨none, 0, 0, run⟩ else none

/-- Takes by the sequence number of their last-secured sector, lowest first (R225, R226). -/
def takeInsert (t : Take) : List Take → List Take
  | [] => [t]
  | u :: us => if lastSeq t.run ≤ lastSeq u.run then t :: u :: us else u :: takeInsert t us

def takesBySeq (l : List Take) : List Take := l.foldr takeInsert []

/-- What an SLC program entry of a class can choose from, and what a first QLC program segment can. -/
def State.slcTakes (s : State) (d cls : Nat) : List Take :=
  takesBySeq ((s.med.zones.filterMap (fun e => match s.slotOfDie e.1 d with | some i => s.nextQuarter e.1 i | none => none)).filter
    (fun t => decide (s.runClass t.run = cls)) ++
  s.med.ns.filterMap (fun e => if e.2.zoned then none else s.convQuarter d cls e.1))

def State.qlcTakes (s : State) (d cls : Nat) : List Take :=
  takesBySeq ((s.med.zones.filterMap (fun e => match s.slotOfDie e.1 d with | some i => s.nextUnit e.1 i | none => none)).filter
    (fun t => decide (s.runClass t.run = cls)))

/-- The accumulator adds the quarters of a run (R263). -/
def addTally (x : Zone) (o n : Nat) : Zone :=
  let q := (upFrom (o / 16) (n / 16)).map (fun a => a % 64)
  { x with accQuarters := x.accQuarters ++ q.filter (fun a => !x.accQuarters.contains a) }

/-- A program of `n` sectors starts on the die with what it takes; fillers fill what the run lacks. -/
def State.startProgram (s : State) (d type cls block n : Nat) (t : Take) (toSlc : Bool) : State :=
  let keys := t.run.map (fun e => (e.1, e.2.seq))
  let s1 := match t.zone with
    | some z => s.setZone z (addTally (s.zone z) t.first n)
    | none => s
  s1.setDie d { s1.die d with op := some {
    type := type, cls := cls, block := block, zone := t.zone, keys := keys, toSlc := toSlc, filler := decide (t.run.length < n) } }

/-- A quarter goes to its slot's stream (R228, R234): a slot is bound first, a stream block lent where it is due. Where it cannot enter the
stream, what the refusal leaves (R234, R236). -/
def State.putSlc (s : State) (d cls z : Nat) (t : Take) : Except State State :=
  let bound := if (zslot (s.zone z) t.slot).kind = .unplaced then s.bindSlot z t.slot true else some s
  match bound with
  | none => .error (s.bindWaits z t.slot)
  | some s1 =>
    let sl := zslot (s1.zone z) t.slot
    if sl.quarters / 512 < sl.stream.length then
      .ok (s1.startProgram d 4 cls (sl.stream.getD (sl.quarters / 512) 0) 16 t true)
    else match s1.lend z t.slot with
      | .error none => .error s
      | .error (some b) => .error (s.raise .zoneCause b)
      | .ok s2 => .ok (s2.startProgram d 4 cls ((zslot (s2.zone z) t.slot).stream.getD (sl.quarters / 512) 0) 16 t true)

/-- A unit goes to its slot's bound block, which is bound first (R226, R234). -/
def State.putQlc (s : State) (d cls z : Nat) (t : Take) : Except State State :=
  match (if (zslot (s.zone z) t.slot).kind = .unplaced then s.bindSlot z t.slot false else some s) with
  | none => .error (s.bindWaits z t.slot)
  | some s1 => .ok (s1.startProgram d 5 cls (zslot (s1.zone z) t.slot).block 64 t false)

/-- The program of one take: a quarter or a unit of a zone, or a quarter of conventional sectors (R225, R226, R241). -/
def State.putTake (s : State) (d cls : Nat) (toSlc : Bool) (t : Take) : Except State State :=
  match t.zone with
  | some z => if toSlc then s.putSlc d cls z t else s.putQlc d cls z t
  | none => match s.logBlock d with
    | some (b, s1) => .ok (s1.startProgram d 4 cls b 16 t true)
    | none => .error s

/-- The first take that can be programmed; those before it leave what their refusal leaves, and the entry runs Idle where none can (R225). -/
def State.takeFirst (s : State) (d cls : Nat) (toSlc : Bool) : List Take → State
  | [] => s
  | t :: ts => match s.putTake d cls toSlc t with
    | .ok s1 => s1
    | .error s1 => s1.takeFirst d cls toSlc ts

/-- An SLC program entry takes a quarter (R225, R241), and a first QLC program segment a unit (R226). -/
def State.takeSlc (s : State) (d cls : Nat) : State := s.takeFirst d cls true (s.slcTakes d cls)
def State.takeQlc (s : State) (d cls : Nat) : State := s.takeFirst d cls false (s.qlcTakes d cls)

/-- Staged sectors of the offsets from `o` to `o + n - 1`. -/
def State.stagedIn (s : State) (z o n : Nat) : List (Nat × Stored) :=
  (upFrom o n).filterMap (fun a => match ofind s.med.sectors (zoneKey z a) with
    | some e => if e.place = .staged || e.place = .tail then some (zoneKey z a, e) else none
    | none => none)

/-- The next program of the padded unit of a Finish, in a class 14 entry of its slot's kind (R220, R268), once every write below the finish
point is secured. -/
def State.padTake (s : State) (d z : Nat) (toSlc : Bool) : Option Take :=
  let x := s.zone z
  match x.padUnit with
  | none => none
  | some u =>
    let i := u % 16
    let sl := zslot x i
    if s.zoneDie z i ≠ d || !s.stripeOpen x (u / 16) || x.secWp < x.finish then none
    else if toSlc then
      let w := (if sl.stream.isEmpty then sl.qlcUnits else sl.base) + sl.quarters / 4
      let o := unitStart w i + 16 * (sl.quarters % 4)
      if sl.kind = .direct || w ≠ u / 16 then none else some ⟨some z, i, o, s.stagedIn z o 16⟩
    else if sl.kind = .folded || sl.qlcUnits ≠ u / 16 then none
    else some ⟨some z, i, unitStart (u / 16) i, s.stagedIn z (unitStart (u / 16) i) 64⟩

def State.takePad (s : State) (d z : Nat) (toSlc : Bool) : State := s.takeFirst d 14 toSlc (s.padTake d z toSlc).toList

/-- A padded SLC program of the die's staged conventional sectors of a namespace (R392). -/
def State.takeConvPad (s : State) (d nsid : Nat) : State :=
  let l := s.med.conv.filter (fun e => decide (e.1 / 2 ^ 40 = nsid) && decide (e.2.place = .staged) && decide (e.2.die = d))
  let l := (l.foldr (fun e (m : List (Nat × Nat)) => rankInsert (e.2.seq, e.1) m) []).take 16
  let run := l.filterMap (fun p => match ofind s.med.conv p.2 with | some e => some (p.2, e) | none => none)
  if run.isEmpty then s
  else match s.logBlock d with
    | some (b, s1) => s1.startProgram d 4 14 b 16 ⟨none, 0, 0, run⟩ true
    | none => s

/-! ## The tail ring and the Tally rings (R229, R265) -/

/-- A ring at page `pos` takes `n` more pages: what is left of its block keeps room for the `live` pages of the block that it reuses next. -/
def ringOk (pos n live : Nat) : Bool := decide (live = 0) || decide (n + live ≤ 512 - pos % 512)

/-- Zones whose live tail page lies in a block of the die's tail ring. -/
def State.liveTails (s : State) (d b : Nat) : List Nat :=
  (s.med.zones.filter (fun e => match e.2.tail with
    | some t => decide (s.zoneDie e.1 (dieSlot t.1) = d) && decide (e.2.tailPage / 512 = b)
    | none => false)).map (·.1)

/-- The block that a ring of `n` blocks reuses after the one that holds page `pos`. -/
def nextBlock (pos n : Nat) : Nat := (pos / 512 + 1) % n

/-- The zone's incomplete current quarter lies on the die, staged, and its tail page can be programmed (R229, R230). -/
def State.tailRun (s : State) (d z : Nat) : Option (List (Nat × Stored)) :=
  let x := s.zone z
  let o := x.secWp / 16 * 16
  let p := (s.dieMed d).tailPos
  if s.zoneDie z (dieSlot o) = d && x.secWp % 16 ≠ 0 && ringOk p 1 (s.liveTails d (nextBlock p 8)).length then
    s.stagedRun z o (x.secWp % 16)
  else none

/-- A tail page of the zone's incomplete current quarter. -/
def State.takeTail (s : State) (d z : Nat) : State :=
  match s.tailRun d z with
  | none => s
  | some r =>
    let s1 : State := { s with med := { s.med with forced := s.med.forced.filter (fun y => decide (y ≠ z)) } }
    s1.setDie d { s1.die d with op := some {
      type := 4, cls := 14, block := tailBlock + (s1.dieMed d).tailPos / 512, zone := some z, keys := r.map (fun e => (e.1, e.2.seq)),
      toSlc := true, tail := true } }

/-- The live tail pages of the ring's next block move to the pages from the ring's position on (R229). -/
def State.copyTails (s : State) (d : Nat) (zs : List Nat) : State :=
  zs.foldl (fun s z =>
    let p := (s.dieMed d).tailPos
    (s.setZone z { s.zone z with tailPage := p }).setDieMed d { s.dieMed d with tailPos := (p + 1) % 4096 }) s

/-! ## Retirement, spares and whole-die failure (R270 to R275) -/

/-- Exportable zones of a group, highest first (R214). -/
def State.groupZones (s : State) (g : Nat) : List Nat :=
  (List.range (3584 - s.convZones)).reverse.map (fun k => k * s.groupCount + g)

/-- Namespace and start LBA of a device zone. -/
def State.zoneHome (s : State) (z : Nat) : Option (Nat × Nat) :=
  s.med.ns.findSome? (fun e => match e.2.zones.findIdx? (fun x => decide (x = z)) with
    | some i => some (e.1, i * zoneSectors)
    | none => none)

/-- An Offline zone joins the Offline Zone log, with its asynchronous event (R274, R322). -/
def State.logOffline (s : State) (z d : Nat) : State :=
  match s.zoneHome z with
  | none => s
  | some (n, l) =>
    let s1 : State := { s with med := { s.med with
      offline := if s.med.offline.length < 65536 then s.med.offline ++ [⟨l, n, d, s.pwr.time, z⟩] else s.med.offline } }
    match s1.ns n with
    | some x => x.attached.foldl (fun s a => s.asyncEvent a 0x00C00007#32) s1
    | none => s1

/-- A zone becomes Offline: it is not active, and its Tally is released (R264, R274). -/
def State.offlineZone (s : State) (z d : Nat) : State :=
  (s.setZone z { s.zone z with state := .offline, active := false, holder := false, tallyAt := [] }).logOffline z d

/-- Queue settlement messages for sectors that have settled: sequence number and count (R384). -/
def State.settleMsgs (s : State) (seqs : List Nat) : State :=
  { s with host := { s.host with
      msgs := seqs.foldl (fun (m : List (Nat × Nat)) q =>
        match m.find? (fun e => decide (e.1 = q)) with
        | some _ => m.map (fun e => if e.1 = q then (e.1, e.2 + 1) else e)
        | none => m ++ [(q, 1)]) s.host.msgs } }

/-- Target die of stripe `w` of zone `z` (R262), moved on by recomputes (R275). -/
def State.tallyDie (s : State) (z w : Nat) : Nat :=
  let g := s.groupCount
  let j := z / max 1 g + cget 0 (s.zone z).tallyMoved w
  let h := (z % max 1 g + 1 + (w + j) % max 1 (g - 1)) % max 1 g
  (s.med.groups.getD h []).getD ((w + j) % 16) 0

/-- Stripes of zones whose live Tally pages lie in a block of the die's Tally ring: zone and stripe (R265). -/
def State.liveTallies (s : State) (d b : Nat) : List (Nat × Nat) :=
  s.med.zones.flatMap (fun e => if e.2.holder then
      (e.2.tallyAt.filter (fun w => decide (s.tallyDie e.1 w.1 = d) && decide (w.2 / 512 = b))).map (fun w => (e.1, w.1))
    else [])

/-- The die's Tally ring takes the four pages of a stripe. -/
def State.tallyRoom (s : State) (d : Nat) : Bool :=
  let p := (s.dieMed d).tallyPos
  ringOk p 4 (4 * (s.liveTallies d (nextBlock p 128)).length)

/-- A stripe's Tally is written at the ring's position (R262, R265). -/
def State.writeTally (s : State) (d : Nat) (w : Nat × Nat) : State :=
  let p := (s.dieMed d).tallyPos
  let x := s.zone w.1
  (s.setZone w.1 { x with tallyAt := cset 0 x.tallyAt w.2 p }).setDieMed d { s.dieMed d with tallyPos := (p + 4) % 65536 }

/-- Staged sectors destined for a failed die go to the Tally area of their stripe's target die (R274). -/
def State.divert (s : State) (z d : Nat) : State :=
  let mine := s.med.sectors.filter (fun e => decide (e.1 / zoneSectors = z) && decide (e.2.place = .staged) &&
    decide (s.zoneDie z (dieSlot (e.1 % zoneSectors)) = d))
  let s1 := mine.foldl (fun (s : State) e => { s with med := { s.med with
    sectors := oput s.med.sectors e.1 { e.2 with place := .tallyArea, die := s.tallyDie z (wordline (e.1 % zoneSectors)) } } }) s
  s1.settleMsgs (mine.map (fun e => e.2.seq))

/-- Staged sectors of every zone that a failed die would hold (R274): a replay restages them after LOAD step 7 has failed the die. -/
def State.divertFailed (s : State) : State :=
  let due := (s.med.sectors.filter (fun e => decide (e.2.place = .staged))).map (fun e =>
    (e.1 / zoneSectors, s.zoneDie (e.1 / zoneSectors) (dieSlot (e.1 % zoneSectors))))
  (due.eraseDups.filter (fun p => (s.dieMed p.2).failed)).foldl (fun s p => s.divert p.1 p.2) s

/-- A zone of a failed die's group (R274). -/
def State.failZone (s : State) (z d i : Nat) : State :=
  let x := s.zone z
  let sl := zslot x i
  let onDie := decide (0 < sl.qlcUnits) || decide (0 < sl.quarters)
  let lost := decide ((s.block d sl.block).state = .verified) || !x.holder || decide (s.groupCount < 2) || s.med.rebuilds.contains z
  match x.state with
  | .offline => s
  | .empty => s.offlineZone z d
  | _ =>
    if onDie && lost then s.offlineZone z d
    else (s.setZone z { x with state := .readOnly, active := false }).divert z d

/-- Stripes of other groups whose Tally lay on the die (R275). -/
def State.lostTallies (s : State) (d : Nat) : List Nat :=
  s.med.zones.flatMap (fun e =>
    if e.2.holder && decide (2 ≤ s.groupCount) then
      ((List.range e.2.accStripe).filter (fun w => decide (s.tallyDie e.1 w = d))).map (fun w => 512 * e.1 + w)
    else [])

/-- A whole-die failure (R273 to R275). -/
def State.failDie (s : State) (d : Nat) : State :=
  if (s.dieMed d).failed then s
  else match findDie d s.med.groups 0 with
    | none => s
    | some (g, i) =>
      let s1 := (s.setDieMed d { s.dieMed d with failed := true }).raiseWith .integCause 5 []
      let s2 := s1.setDie d {}
      let s3 := (s2.groupZones g).reverse.foldl (fun s z => s.failZone z d i) s2
      { s3 with med := { s3.med with
        recompute := s3.med.recompute ++ s3.lostTallies d,
        evac := s3.med.evac.filter (fun c => decide (c / 2 ^ 20 ≠ d) && decide ((s3.zone (c % 2 ^ 20)).state ≠ .offline) &&
          decide ((s3.zone (c % 2 ^ 20)).state ≠ .readOnly)) } }

/-- A die with no spare left (R272): the highest-numbered Empty zone of its group is made Offline, and the other dies gain
its share block; else the zone that held the block becomes Read Only. -/
def State.spareOut (s : State) (d : Nat) (z : Option Nat) : State :=
  let s0 := s.raiseWith .integCause 4 []
  match findDie d s.med.groups 0 with
  | none => s0
  | some (g, _) =>
    match (s0.groupZones g).find? (fun y => decide ((s0.zone y).state = .empty)) with
    | some y =>
      ((s0.med.groups.getD g []).filter (fun e => decide (e ≠ d))).foldl (fun s e =>
        s.setDieMed e { s.dieMed e with spares := (s.dieMed e).spares + 1, shareLost := (s.dieMed e).shareLost + 1 })
        (s0.setZone y { s0.zone y with state := .offline })
    | none =>
      match z with
      | some y => s0.setZone y { s0.zone y with state := .readOnly, active := false }
      | none => s0

/-- Retire a block (R270 to R273): causes 0 program failure, 1 erase failure, 2 repeated overrun, 3 verification failure. -/
def State.retireBlock (s : State) (d b cause : Nat) : State :=
  let x := s.block d b
  if x.state = .retired then s
  else
    let s1 := (s.setBlock d b { x with state := .retired, retiredAt := s.ldg.folios }).raiseWith .integCause 3
      (leBytes 4 d ++ leBytes 4 b ++ leBytes 4 (Config.retireCause cause).toNat)
    let m := s1.dieMed d
    let recent := (s1.ldg.folios :: m.retiredAt).filter (fun f => decide (s1.ldg.folios < f + 64))
    let m1 := { m with retiredAt := recent, lent := if x.state = .lent then m.lent - 1 else m.lent }
    let s2 := if 0 < m.spares then s1.setDieMed d { m1 with spares := m.spares - 1, joined := m.joined + 1 }
      else (s1.setDieMed d m1).spareOut d x.zone
    if 8 ≤ recent.length then s2.failDie d else s2

end Sys2Proof.Machine
end

