-- ==== Sys2Proof/Machine/Plans.lean ====
section
/-!
DEFINITION. The plan set's checks at LOAD (R194 to R213): the header, the 14 checks of a variant, the pairing of variants, and
the credit fit that later bindings also meet (R206).
-/
namespace Sys2Proof.Machine

/-! ## A variant on the horizon (R158, R188, R200) -/

/-- An entry on a die at its horizon column, 0 to 511. -/
structure Placed where
  die : Nat
  col : Nat
  entry : EntryRec
deriving DecidableEq, Repr

def layDie (die phase : Nat) (recs : List EntryRec) : List Placed :=
  (List.range 4).flatMap (fun f => (recs.filter (fun r => bitOf r.mask f)).map (fun r => ⟨die, 128 * f + (r.start + phase) % 128, r⟩))

/-- A variant laid out: its level, link form, and each present die's entries. -/
structure Laid where
  level : Nat
  form : LinkForm
  dies : List (Nat × List Placed)

/-- The used die map entry of a die. -/
def usedDie (v : Variant) (d : Nat) : Option DieMapEntry := v.dieMap.find? (fun e => decide (e.die = d) && e.used)

/-- The present dies of a variant with their entries, lowest die address first. -/
def layVariant (v : Variant) : Laid :=
  ⟨v.level, variantForm v, (List.range 1024).filterMap (fun d => (usedDie v d).map (fun m =>
    (d, layDie d m.phase (match v.templates[m.template]? with | some t => t.records | none => []))))⟩

/-- A conservative variant (R188) over the geometry's dies, lowest die address first. -/
def layRom (level : Nat) (dies : List Nat) : Laid :=
  ⟨level, romForm, ((List.range 1024).filter dies.contains).map (fun d => (d, layDie d (Config.romPhase d) (romTemplate d)))⟩

/-- Why a variant is rejected, and where (R202, R212). -/
structure Reject where
  reason : Nat
  die : Nat
  aux : Nat
  pos : Nat
  cons : Bool
  self : Bool
deriving DecidableEq, Repr

def rej (reason die aux pos : Nat) : Reject := ⟨reason, die, aux, pos, false, false⟩

/-- The QLC or SLC read of a record, standalone or admitted. -/
def hostRead (r : EntryRec) : Bool := isReadEntry r && decide (r.cls ≤ 13)

/-- A retry read, standalone or admitted. -/
def retryRead (r : EntryRec) : Bool := decide (r.type = 3) || (decide (r.type = 7) && decide (r.admCode = 3))

/-- Column at which a read begins: one on in a suspend window (R161). R204's counts and check 7's Folio take a read in a window from
there (DEDUCED, log entry 151). -/
def readCol (p : Placed) : Nat := if p.entry.type = 7 then (p.col + 1) % 512 else p.col

/-! ## Checks 1 to 4 -/

def sumLengths (v : Variant) : Nat := 2560 + 1040 * v.templateCount

/-- The variant that a directory entry names. -/
def psVariant (p : PlanSet) (i : Nat) : Option Variant := (p.variants.find? (fun e => decide (e.1 = i))).map (·.2)

/-- The header is valid (R195). Beyond R195's list the model asks for PSET_MAGIC, PSET_FORMAT, the ranges of PLAN_COUNT and DOMAIN_COUNT, the
reserved bytes and the zero codes of CUR_MODEL that R194 states (DESIGN CHOICE, log entry 149). -/
def headerValid (p : PlanSet) (g : Geometry) : Bool :=
  let masks := p.domainCh.take p.domainCount
  let used := (List.range (4 * p.planCount))
  let dir (i : Nat) : Nat × Nat := p.varDir.getD i (0, 0)
  decide (p.magic = 0x54534C50) && decide (p.format = 1) && p.reservedZero &&
  decide (1 ≤ p.planCount) && decide (p.planCount ≤ 4) && decide (1 ≤ p.domainCount) && decide (p.domainCount ≤ 8) &&
  decide (p.domainCh.length = 8) && decide (p.varDir.length = 16) &&
  (p.curModel.drop 9).all (fun c => decide (c = (0, 0))) &&
  masks.all (fun m => decide (m ≠ 0)) && (p.domainCh.drop p.domainCount).all (fun m => decide (m = 0)) &&
  (List.range 32).all (fun c =>
    decide ((masks.filter (fun m => bitOf m c)).length = b2n (bitOf g.chPresent c))) &&
  (List.range 16).all (fun i => if i < 4 * p.planCount then decide ((dir i).1 ≠ 0) && decide ((dir i).2 ≠ 0) else decide (dir i = (0, 0))) &&
  used.all (fun i => decide ((dir i).1 % 64 = 0) && decide ((dir i).1 + (dir i).2 ≤ p.sectionBytes) &&
    (decide (i = 0) || decide ((dir (i - 1)).1 + (dir (i - 1)).2 ≤ (dir i).1))) &&
  decide (p.startPlan < p.planCount) && decide (p.startLevel < 4)

/-- Check 2: the header, the caps and the class table; AUX is the class of the first bad class entry, 0 for a fault outside the class
table. A class with DOORS 0 whose MAX_GAP is not 0 (R197) is found here and not by check 11 (DESIGN CHOICE, log entry 150). -/
def check2 (p : PlanSet) (i : Nat) (v : Variant) : Option Reject :=
  let header := decide (v.magic = 0x5241564C) && decide (v.plan = i / 4) && decide (v.level = i % 4) && decide (1 ≤ v.templateCount) &&
    decide (v.templateCount ≤ 64) && decide (v.templates.length = v.templateCount) &&
    decide ((p.varDir.getD i (0, 0)).2 = sumLengths v) && decide (1 ≤ v.pcieGen) && decide (v.pcieGen ≤ 5) && decide (v.pcieWidth ≤ 2) &&
    decide (v.mps ≤ 2) && v.reservedZero && decide (v.classTbl.length = 14) && decide (v.domainCap.length = 8) &&
    (v.domainCap.drop p.domainCount).all (fun c => decide (c = 0))
  let bad (c : Nat) : Bool := match v.classTbl[c]? with
    | none => true
    | some e => !(decide (1 ≤ e.depth) && decide (e.depth ≤ 64) && e.reservedZero && (decide (e.doors ≠ 0) || decide (e.maxGap = 0)))
  if !header then some (rej 2 0 0 0) else ((List.range 14).find? bad).map (fun c => rej 2 0 c 0)

/-- Check 3: the die map names the geometry's dies and templates that exist. -/
def check3 (g : Geometry) (v : Variant) : Option Reject :=
  let named := g.groups.flatten
  let bad (d : Nat) : Bool := match v.dieMap.find? (fun e => decide (e.die = d)) with
    | none => (named.map (·.toNat)).contains d
    | some e => !((named.map (·.toNat)).contains d) || !e.used || !e.reservedZero || decide (v.templateCount ≤ e.template) ||
        decide (128 ≤ e.phase)
  ((List.range 1024).find? bad).map (fun d => rej 3 d 0 0)

/-- Length that a type fixes, or the range it admits (R201). -/
def lengthOk (r : EntryRec) : Bool :=
  match r.type with
  | 1 => decide (r.length = 7)
  | 2 => decide (r.length = 2)
  | 3 => decide (r.length = 3)
  | 4 => decide (r.length = 3)
  | 5 => decide (1 ≤ r.length) && decide (r.length ≤ 128)
  | 6 => decide (1 ≤ r.length) && decide (r.length ≤ 16)
  | 7 => match r.admCode with | 1 => decide (r.length = 8) | 2 => decide (r.length = 3) | 3 => decide (r.length = 4) | _ => false
  | 8 => decide (r.length = 8)
  | _ => false

/-- Class that a type permits (R160). -/
def classOk (r : EntryRec) : Bool :=
  match r.type with
  | 3 => decide (r.cls = 15)
  | 8 => decide (r.cls = 15)
  | 7 => if r.admCode = 3 then decide (r.cls = 15) else decide (r.cls ≤ 14)
  | _ => decide (r.cls ≤ 14)

/-- R201, with the record's place in START order (R199). -/
def recordOk (v : Variant) (prev : Option EntryRec) (r : EntryRec) : Bool :=
  lengthOk r && classOk r && decide (r.start < 128) && decide (r.mask ≠ 0) && r.reservedZero &&
  (decide (r.type = 7) || decide (r.admCode = 0)) &&
  (if hostRead r then (match v.classTbl[r.cls]? with | some e => bitOf e.doors r.door | none => false) else decide (r.door = 0)) &&
  (match prev with | some q => decide (q.start ≤ r.start) | none => true)

/-- Check 4: every used record well formed; AUX is the template and POS the record, 0 where the fault is the template's own: ENTRY_COUNT,
a reserved byte or an unused record that is not zero (DESIGN CHOICE, log entry 150). -/
def check4 (v : Variant) : Option Reject :=
  (List.range v.templates.length).findSome? (fun t =>
    match v.templates[t]? with
    | none => none
    | some x =>
      if x.entryCount ≠ x.records.length || 128 < x.entryCount || !x.restZero then some (rej 4 0 t 0)
      else ((List.range x.records.length).find? (fun k =>
        match x.records[k]? with
        | some r => !recordOk v (if k = 0 then none else x.records[k - 1]?) r
        | none => false)).map (fun k => rej 4 0 t k))

/-! ## Checks 5 to 8 -/

/-- The entry covers a die column of the horizon. -/
def covers (p : Placed) (k : Nat) : Bool := decide ((k + 512 - p.col) % 512 < p.entry.length)

/-- Check 5: no column held twice, and no forbidden start in a transfer column (R164). -/
def check5 (l : Laid) : Option Reject :=
  l.dies.findSome? (fun d => ((List.range 512).find? (fun k =>
    decide (1 < (d.2.filter (fun p => covers p k)).length) ||
    (d.2.any (fun p => isReadEntry p.entry && decide ((p.col + p.entry.length) % 512 = k)) &&
     d.2.any (fun p => decide (p.col = k) && !(decide (p.entry.type = 5) || decide (p.entry.type = 6) || decide (p.entry.type = 7)))))).map
    (fun k => rej 5 d.1 0 k))

/-- Check 6: R203 on one die at one column. -/
def windowOk (l : List Placed) (p : Placed) : Bool :=
  let next := (p.col + p.entry.length) % 512
  if p.entry.type = 7 then
    l.any (fun a => decide ((a.col + a.entry.length) % 512 = p.col) && (decide (a.entry.type = 5) || decide (a.entry.type = 6)) &&
      l.any (fun b => decide (b.col = next) && decide (b.entry.type = a.entry.type)))
  else if p.entry.type = 6 then !l.any (fun b => decide (b.col = next) && decide (b.entry.type = 6))
  else true

def check6 (l : Laid) : Option Reject :=
  l.dies.findSome? (fun d => ((List.range 512).find? (fun k => d.2.any (fun p => decide (p.col = k) && !windowOk d.2 p))).map
    (fun k => rej 6 d.1 0 k))

/-- Check 7: door coverage in every Folio of the horizon. -/
def check7 (v : Variant) (l : Laid) : Option Reject :=
  l.dies.findSome? (fun d => (List.range 4).findSome? (fun f => (List.range 14).findSome? (fun c => (List.range 4).findSome? (fun o =>
    match v.classTbl[c]? with
    | none => none
    | some e =>
      if bitOf e.doors o && !d.2.any (fun p => hostRead p.entry && decide (p.entry.cls = c) && decide (p.entry.door = o) &&
          decide (readCol p / 128 = f)) then some (rej 7 d.1 c o) else none))))

def slotsOf (p : Placed) : List Nat := (busSlots p.entry).map (fun m => (8 * p.col + laneOf p.die + m) % 4096)

/-- The first entry is earlier in the horizon than the second. Of two that begin in one column the one on the lower die, and on one die the
one of the lower type code, counts as earlier (DESIGN CHOICE, log entry 150). -/
def earlierThan (a b : Placed) : Bool :=
  decide (a.col < b.col) || (decide (a.col = b.col) && (decide (a.die < b.die) || (decide (a.die = b.die) && decide (a.entry.type < b.entry.type))))

/-- Check 8: no grid slot of a channel held twice; the die is that of the later entry. -/
def check8 (l : Laid) : Option Reject :=
  l.dies.findSome? (fun d =>
    let others := (l.dies.filter (fun e => decide (e.1 % 32 = d.1 % 32))).flatMap (·.2)
    let bad := (d.2.flatMap (fun p => (slotsOf p).filter (fun s =>
      others.any (fun q => earlierThan q p && (slotsOf q).contains s))))
    match bad with
    | [] => none
    | s :: ss => some (rej 8 d.1 0 (ss.foldl min s)))

/-! ## Checks 9 to 12 (R204 to R206) -/

/-- Current of a die column (R205). -/
def columnCur (cur : List (Nat × Nat)) (l : List Placed) (k : Nat) : Nat :=
  match l.find? (fun p => covers p k) with
  | none => (cur.getD 0 (0, 0)).1
  | some p =>
    let j := (k + 512 - p.col) % 512
    if p.entry.type = 7 then
      if j = 0 then (cur.getD 7 (0, 0)).1
      else if j = 1 then (cur.getD p.entry.admCode (0, 0)).1 else (cur.getD p.entry.admCode (0, 0)).2
    else if j = 0 then (cur.getD p.entry.type (0, 0)).1 else (cur.getD p.entry.type (0, 0)).2

def gridCur (cur : List (Nat × Nat)) (d : Nat × List Placed) (g : Nat) : Nat :=
  columnCur cur d.2 g + (if laneOf d.1 = 0 then 0 else columnCur cur d.2 ((g + 511) % 512))

/-- Check 9: every domain within its cap in every grid column. -/
def check9 (p : PlanSet) (v : Variant) (l : Laid) : Option Reject :=
  (List.range 512).findSome? (fun g => (List.range p.domainCount).findSome? (fun m =>
    let mask := p.domainCh.getD m 0
    let sum := sumOf ((l.dies.filter (fun d => bitOf mask (d.1 % 32))).map (fun d => gridCur p.curModel d g))
    if v.domainCap.getD m 0 < sum then some (rej 9 0 m g) else none))

/-- Check 10: a retry read and a recovery entry on every die. -/
def check10 (l : Laid) : Option Reject :=
  (l.dies.find? (fun d => !(d.2.any (fun p => retryRead p.entry) && d.2.any (fun p => decide (p.entry.type = 8))))).map
    (fun d => rej 10 d.1 0 0)

/-- Columns from one read of the class to the next on one die and door (R204). -/
def nextGap (cols : List Nat) (a : Nat) : Nat := (cols.map (fun b => if (b + 512 - a) % 512 = 0 then 512 else (b + 512 - a) % 512)).foldl min 512

def classGap (l : Laid) (c : Nat) : Nat :=
  maxOf (l.dies.flatMap (fun d => (List.range 4).flatMap (fun o =>
    let cols := (d.2.filter (fun p => hostRead p.entry && decide (p.entry.cls = c) && decide (p.entry.door = o))).map readCol
    cols.map (nextGap cols))))

/-- Least over the four Folios of a sum over the entries that start in each. -/
def leastFolio (l : Laid) (col : Placed → Nat) (w : Placed → Nat) : Nat :=
  let sums := (List.range 4).map (fun f => sumOf (l.dies.map (fun d => sumOf ((d.2.filter (fun p => decide (col p / 128 = f))).map w))))
  sums.foldl min (sums.headD 0)

def rdSupply (l : Laid) (c : Nat) : Nat := leastFolio l readCol (fun p => b2n (hostRead p.entry && decide (p.entry.cls = c)))

def wrSupply (l : Laid) (c : Nat) : Nat :=
  leastFolio l (fun p => p.col) (fun p => if p.entry.cls ≠ c then 0 else if p.entry.type = 4 then 16
    else if p.entry.type = 5 && decide (8 ≤ p.entry.length) then 64 else 0)

/-- Check 11: the declared class values are the device's. -/
def check11 (v : Variant) (l : Laid) : Option Reject :=
  ((List.range 14).find? (fun c => match v.classTbl[c]? with
    | none => true
    | some e => !(decide (e.maxGap = classGap l c) && decide (e.rdSupply = rdSupply l c) && decide (e.wrSupply = wrSupply l c)))).map
    (fun c => rej 11 0 c 0)

/-- The bindings fit a class of a variant (R206). -/
def classFits (v : Variant) (bs : List Binding) (c : Nat) : Bool :=
  match v.classTbl[c]? with
  | none => false
  | some e =>
    let mine := bs.filter (fun b => decide (b.cls = c))
    let lim (b : Binding) : CreditLimit := b.lim.credit.getD v.level ⟨0, 0, 0⟩
    decide (mine.length ≤ e.depth) && decide (sumOf (mine.map (fun b => (lim b).rd)) ≤ e.rdSupply) &&
    decide (sumOf (mine.map (fun b => (lim b).wr)) ≤ e.wrSupply) &&
    decide (sumOf (mine.map (fun b => (lim b).byte)) ≤ e.rdSupply + e.wrSupply)

/-- Check 12: credit fit and DEPTH. -/
def check12 (v : Variant) (bs : List Binding) : Option Reject :=
  ((List.range 14).find? (fun c => !classFits v bs c)).map (fun c => rej 12 0 c 0)

/-! ## Checks 13 and 14 (R207, R208) -/

def horizonTicks : Nat := 5242880

/-- A transmitter reservation: door, first tick, length, and the entry that holds it. -/
structure Resv where
  door : Nat
  at_ : Nat
  len : Nat
  owner : Placed

/-- Start tick of a read in the horizon. -/
def readTick (p : Placed) : Nat := readCol p * 10240 + laneOf p.die * 1280

/-- Egress and completion counts of a door with the link terms of a variant's compiled form (R139, R141, R207). -/
def egressCount (l : Laid) (door : Nat) : Nat := egressBase l.level door + dataTerm l.form door
def completionCount (l : Laid) (door : Nat) : Nat := completionBase l.level door + cqeTerm l.form door

/-- The reservations on one door of a read whose seal ends at `x` (R207), with the larger of the two variants' counts for each stage (R208).
Where the forms differ, a reservation lasts the larger of the two link terms (DESIGN CHOICE, log entry 152). -/
def doorResv (a b : Laid) (x door : Nat) (p : Placed) : List Resv :=
  let w := max (dataTerm a.form door) (dataTerm b.form door)
  let q := max (cqeTerm a.form door) (cqeTerm b.form door)
  let tail := if door = 0 then 0 else 120
  let e := max (egressCount a door) (egressCount b door)
  let c := max (completionCount a door) (completionCount b door)
  [⟨door, x + e - tail - w, w, p⟩, ⟨door, x + e + c - tail - q, q, p⟩]

/-- Every reservation of an entry: of a host read on its door, of a retry read on all three (R180, R207). -/
def entryResv (a b : Laid) (p : Placed) : List Resv :=
  let type := readType p.entry
  let x := readTick p + sealExit type (max a.level b.level)
  if hostRead p.entry then (if p.entry.door = 3 then [] else doorResv a b x p.entry.door p)
  else if retryRead p.entry then (List.range 3).flatMap (fun o => doorResv a b x o p)
  else []

/-- Two reservations of a door overlap on the cyclic horizon. -/
def overlapCyc (r q : Resv) : Bool :=
  decide (r.door = q.door) &&
  (decide ((q.at_ + horizonTicks - r.at_ % horizonTicks) % horizonTicks < r.len) ||
   decide ((r.at_ + horizonTicks - q.at_ % horizonTicks) % horizonTicks < q.len))

def allPlaced (l : Laid) : List Placed := l.dies.flatMap (·.2)

/-- Check 13: no two reservations overlap on one door. -/
def check13 (l : Laid) : Option Reject :=
  let all := (allPlaced l).flatMap (entryResv l l)
  l.dies.findSome? (fun d =>
    let mine := d.2.flatMap (entryResv l l)
    let bad := mine.filter (fun r => all.any (fun q => earlierThan q.owner r.owner && overlapCyc r q))
    match bad with
    | [] => none
    | r :: rs =>
      let m := rs.foldl (fun (a : Resv) b => if b.at_ % horizonTicks < a.at_ % horizonTicks then b else a) r
      some (rej 13 d.1 m.door (m.at_ % horizonTicks)))

/-- Reservations overlap on the line of ticks that runs through a boundary. -/
def overlapLin (r q : Resv) : Bool :=
  decide (r.door = q.door) && decide (r.at_ < q.at_ + q.len) && decide (q.at_ < r.at_ + r.len)

/-- The carried reservations of V at the boundary before horizon Folio `f` (R208), and those of W from it on. The boundary
stands at one horizon plus f Folios, so that V's last Folio lies before it. -/
def carriedResv (v w : Laid) (f : Nat) : List Resv :=
  let b := horizonTicks + f * folioTicks
  ((allPlaced v).filter (fun p => !(entryResv v w p).isEmpty)).flatMap (fun p =>
    let t := readTick p
    let shift := if t < f * folioTicks then horizonTicks else 0
    let rs := (entryResv v w p).map (fun r => { r with at_ := r.at_ + shift })
    if rs.any (fun r => decide (b < r.at_ + r.len)) then rs else [])

def enteringResv (w : Laid) (f : Nat) : List Resv :=
  (allPlaced w).flatMap (fun p =>
    let t := readTick p
    let shift := if t < f * folioTicks then 2 * horizonTicks else horizonTicks
    (entryResv w w p).map (fun r => { r with at_ := r.at_ + shift }))

/-- Lowest die first, then the earliest tick of the horizon (R202). -/
def firstPlace : List (Nat × Nat) → Option (Nat × Nat)
  | [] => none
  | x :: xs => some (xs.foldl (fun a b => if b.1 < a.1 || (decide (b.1 = a.1) && decide (b.2 < a.2)) then b else a) x)

/-- The first failing place of an ordered pair over the four horizon phases: the die of the carried entry and the tick in the horizon. -/
def pairFails (v w : Laid) : Option (Nat × Nat) :=
  firstPlace ((List.range 4).flatMap (fun f =>
    let c := carriedResv v w f
    let n := enteringResv w f
    (c.filter (fun r => c.any (fun q => decide (q.owner ≠ r.owner) && overlapLin r q) || n.any (overlapLin r))).map
      (fun r => (r.owner.die, r.at_ % horizonTicks))))

/-- Check 14: W paired with every variant accepted before it and with the conservative variants, in that order and (V, W) before (W, V);
the first pair that fails is recorded (log entry 150). -/
def check14 (w : Laid) (partners : List (Nat × Laid)) : Option Reject :=
  partners.findSome? (fun p =>
    match pairFails p.2 w with
    | some x => some ⟨14, x.1, p.1 % 16, x.2, decide (16 ≤ p.1), false⟩
    | none => (pairFails w p.2).map (fun x => ⟨14, x.1, p.1 % 16, x.2, decide (16 ≤ p.1), true⟩))

/-! ## LOAD step 6 (R202, R209, R210, R212) -/

/-- Checks 2 to 14 of variant `i`, in order. -/
def checkVariant (p : PlanSet) (g : Geometry) (bs : List Binding) (partners : List (Nat × Laid)) (i : Nat) (v : Variant) : Option Reject :=
  let l := layVariant v
  check2 p i v |>.orElse fun _ => check3 g v |>.orElse fun _ => check4 v |>.orElse fun _ => check5 l |>.orElse fun _ =>
  check6 l |>.orElse fun _ => check7 v l |>.orElse fun _ => check8 l |>.orElse fun _ => check9 p v l |>.orElse fun _ =>
  check10 l |>.orElse fun _ => check11 v l |>.orElse fun _ => check12 v bs |>.orElse fun _ => check13 l |>.orElse fun _ =>
  check14 l partners

/-- Status and place words of a rejection (R212). AUX keeps the low four bits of its value: R212 says so of a partner's index, the model of
a template number above 15 too (DESIGN CHOICE, log entry 150). -/
def statusWord (r : Reject) : BitVec 32 :=
  BitVec.ofNat 32 (2 + 4 * r.reason + 2 ^ 6 * r.die + 2 ^ 16 * (r.aux % 16) + 2 ^ 20 * b2n r.cons + 2 ^ 21 * b2n r.self)
def whereWord (r : Reject) : BitVec 32 := BitVec.ofNat 32 (r.pos % 2 ^ 23)

/-- Bindings made at LOAD step 4, by member. -/
def State.bindings (s : State) : List Binding := s.host.accts.filterMap (fun e => e.2.binding)

/-- The event record of a rejection, TYPE 0x0006 (R210, R546). -/
def State.rejectEvent (s : State) (i : Nat) (r : Reject) : State :=
  s.event 0x0006 (leBytes 4 i ++ leBytes 4 (statusWord r).toNat ++ leBytes 4 (whereWord r).toNat)

/-- A variant's status and place registers (R212). -/
def State.putVarResult (s : State) (i : Nat) (status place : BitVec 32) : State :=
  (s.setReg (Reg.ldgVarStatus + 4 * i) status).setReg (Reg.ldgVarWhere + 4 * i) place

/-- Record one variant's result. -/
def State.varResult (s : State) (i : Nat) (r : Option Reject) : State :=
  match r with
  | none => s.putVarResult i 1 0
  | some r => ((s.putVarResult i (statusWord r) (whereWord r)).rejectEvent i r).raise .planCause 0

/-- Check the variants in VAR_DIR order; one that VAR_DIR leaves empty reads as absent (R209). -/
def State.checkVariants (s : State) (p : PlanSet) (g : Geometry) (rom : List (Nat × Laid)) : List (Nat × Laid) → List Nat → State
  | _, [] => s
  | ok, i :: is =>
    match psVariant p i with
    | none => (s.putVarResult i 0 0).checkVariants p g rom ok is
    | some v =>
      match checkVariant p g s.bindings (ok ++ rom) i v with
      | none =>
        let s1 : State := { s.varResult i none with ldg := { (s.varResult i none).ldg with accepted := s.ldg.accepted ++ [i] } }
        s1.checkVariants p g rom (ok ++ [(i, layVariant v)]) is
      | some r => (s.varResult i (some r)).checkVariants p g rom ok is

/-- LOAD step 6: every variant is checked; a header that is not valid rejects all 16 with reason 1 (R195, R210). -/
def State.loadPlans (s : State) (im : Image) : State :=
  let s0 : State := { s with ldg := { s.ldg with accepted := [] } }
  let p := im.planSet
  if headerValid p im.geometry then
    let dies := (im.geometry.groups.flatten).map (·.toNat)
    s0.checkVariants p im.geometry ((List.range 4).map (fun l => (16 + l, layRom l dies))) [] (List.range 16)
  else
    let r := rej 1 0 0 0
    let s1 := (List.range 16).foldl (fun s i => s.putVarResult i (statusWord r) (whereWord r)) s0
    (s1.rejectEvent 0xFFFFFFFF r).raiseAll .planCause [0, 1]

/-- The bindings fit every accepted variant (R206, R332 check 5). -/
def State.fitsAll (s : State) (bs : List Binding) (c : Nat) : Bool :=
  s.ldg.accepted.all (fun i => match s.boot.image with
    | some im => match psVariant im.planSet i with | some v => classFits v bs c | none => true
    | none => true)

end Sys2Proof.Machine
end

