-- ==== Sys2Proof/Machine/Accounts.lean ====
section
/-!
DEFINITION. Accounts (spec 11): limit entries and the checks of a binding (R328 to R332), quiesces (R343 to R345), controller and
function resets (R346, R593), slices (R338 to R340), the dirty-page log's head (R342), and VF Enable (R331).
-/
namespace Sys2Proof.Machine

/-! ## Limit entries (R327 to R329) -/

/-- A limit entry conforms to R328: member `m` is an account, or 2,048 + slice. -/
def limitOk (m : Nat) (e : LimitEntry) : Bool :=
  let l := e.lim
  e.reservedZero && decide (e.defaultClass ≤ 13) && bitOf e.classMask e.defaultClass &&
  decide (1 ≤ l.maxQp) && decide (l.maxQp ≤ if m = 0 || 2048 ≤ m then 1024 else 64) &&
  decide (1 ≤ l.maxInflight) && decide (l.maxInflight ≤ 32768) && decide (l.keyBase ≤ 4095) && decide (l.keyCount ≤ 4096) &&
  decide (l.keyBase + l.keyCount ≤ 4096) && decide (l.zoneQuota ≤ 229376) && decide (l.convQuota ≤ 2048) && decide (l.maxActive ≤ 8192) &&
  decide (l.credit.length = 4) && l.credit.all (fun c => decide (c.rd ≤ 8388607) && decide (c.wr ≤ 8388607) && decide (c.byte ≤ 8388607)) &&
  (decide (m < 2048) || (!e.bindAtLoad && !e.logOk && !e.netOk && decide (l.zoneQuota = 0) && decide (l.convQuota = 0) && decide (l.maxActive = 0)))

/-- The limit entry of a member. -/
def State.limitEntry (s : State) (m : Nat) : Option LimitEntry :=
  match s.boot.image with | some im => im.accounts.entries[m]? | none => none

/-! ## The checks of a binding (R332) -/

/-- What an account uses of its quotas: queue pairs, zones, GiB of conventional namespaces, active zones. -/
def State.netQueues (s : State) (a : Nat) : Nat :=
  (s.net.qps.filter (fun e => decide (e.2.account = a) && (match e.2.queue with | some q => decide (1 ≤ q) | none => false))).length
def State.qpUsed (s : State) (a : Nat) : Nat := (s.host.queues.filter (fun e => decide (e.2.func = a))).length + s.netQueues a
def State.zonesUsed (s : State) (a : Nat) : Nat :=
  sumOf (s.med.ns.map (fun e => if e.2.zoned && e.2.attached.contains a then e.2.zones.length else 0))
def State.convUsed (s : State) (a : Nat) : Nat :=
  sumOf (s.med.ns.map (fun e => if !e.2.zoned && e.2.attached.contains a then e.2.size / 262144 else 0))

/-- The account owns a namespace (R443). -/
def State.ownsNs (s : State) (a : Nat) : Bool := s.med.ns.any (fun e => decide (e.2.owner = some a))

/-- Bindings of the members other than `m`, with the credit limits that the next refill puts in force (R206, R332). -/
def State.others (s : State) (m : Nat) : List Binding :=
  (s.host.accts.filter (fun e => decide (e.1 ≠ m))).filterMap (fun e => e.2.binding.map (fun b =>
    match e.2.pendingLim with | some l => { b with lim := { b.lim with credit := l } } | none => b))

/-- Two key ranges overlap. -/
def keysMeet (a b : MemberLimits) : Bool :=
  decide (a.keyBase < b.keyBase + b.keyCount) && decide (b.keyBase < a.keyBase + a.keyCount)

def creditWithin (l : CreditLimit) (h : CreditLimit) : Bool := decide (l.rd ≤ h.rd) && decide (l.wr ≤ h.wr) && decide (l.byte ≤ h.byte)

/-- Each value is at or below its limit, and the key range lies inside the limit entry's. -/
def withinLimits (l h : MemberLimits) : Bool :=
  decide (l.maxQp ≤ h.maxQp) && decide (l.maxInflight ≤ h.maxInflight) && decide (h.keyBase ≤ l.keyBase) &&
  decide (l.keyBase + l.keyCount ≤ h.keyBase + h.keyCount) && decide (l.zoneQuota ≤ h.zoneQuota) && decide (l.convQuota ≤ h.convQuota) &&
  decide (l.maxActive ≤ h.maxActive) && decide (l.credit.length = 4) && (l.credit.zip h.credit).all (fun p => creditWithin p.1 p.2)

/-- The lowest seat that no other member of the class holds. -/
def State.freeSeat (s : State) (m cls : Nat) : Nat :=
  let taken := ((s.others m).filter (fun b => decide (b.cls = cls))).map (·.seat)
  ((List.range 64).find? (fun n => !taken.contains n)).getD 0

/-- Check 2. -/
def State.bindCheck2 (s : State) (m : Nat) (e : AccountEntry) : Bool :=
  match s.limitEntry m with
  | none => false
  | some h =>
    limitOk m h && !(s.acct m).badEntry && decide (e.cls ≤ 13) && bitOf h.classMask e.cls && withinLimits e.lim h.lim &&
    (!e.logEn || h.logOk) && (!e.netEn || h.netOk) && (!e.mintEn || h.mintOk)

/-- Checks 3 and 4. -/
def State.bindCheck3 (s : State) (m : Nat) (l : MemberLimits) : Bool := (s.others m).all (fun b => !keysMeet l b.lim)
def State.bindCheck4 (s : State) (m : Nat) (l : MemberLimits) : Bool :=
  let o := s.others m
  decide (sumOf (o.map (fun b => b.lim.maxInflight)) + l.maxInflight ≤ 32768) &&
  decide (sumOf (o.map (fun b => b.lim.maxQp)) + l.maxQp ≤ 16384) &&
  decide (sumOf (o.map (fun b => b.lim.maxActive)) + l.maxActive ≤ s.mar)

/-- The binding that an entry asks for. -/
def State.newBinding (s : State) (m : Nat) (e : AccountEntry) : Binding :=
  let seat := match (s.acct m).binding with
    | some b => if b.cls = e.cls then b.seat else s.freeSeat m e.cls
    | none => s.freeSeat m e.cls
  ⟨e.cls, seat, e.logEn, e.netEn, e.mintEn, e.lim⟩

/-- Check 5, of the bindings as they would stand. -/
def State.bindCheck5 (s : State) (m : Nat) (e : AccountEntry) : Bool := s.fitsAll (s.newBinding m e :: s.others m) e.cls

/-- Check 6. -/
def State.bindCheck6 (s : State) (m : Nat) (e : AccountEntry) : Bool :=
  match (s.acct m).binding with
  | none => true
  | some b =>
    let idle := (s.acct m).quiesced && (s.acct m).quiesce.isNone
    let keyMove := decide (e.lim.keyBase ≠ b.lim.keyBase) || decide (e.lim.keyCount ≠ b.lim.keyCount)
    let slotMove := decide (e.lim.keyBase ≠ b.lim.keyBase) || (decide (e.lim.keyCount < 2) && decide (2 ≤ b.lim.keyCount))
    if !e.bound then idle && !s.ownsNs m
    else
      (idle || (decide (e.cls = b.cls) && !keyMove)) && (!slotMove || !s.ownsNs m) &&
      decide (s.qpUsed m ≤ e.lim.maxQp) && decide (s.activeOf m ≤ e.lim.maxActive) &&
      (decide (m = 0) || (decide (s.zonesUsed m ≤ e.lim.zoneQuota) && decide (s.convUsed m ≤ e.lim.convQuota)))

/-- The first failing check of Account Bind, 0 where all pass. An unbind meets checks 1 and 6. -/
def State.bindCheck (s : State) (m : Nat) (e : AccountEntry) : Nat :=
  if !e.reservedZero || 2048 ≤ m || (decide (m ≠ 0) && !(s.host.vfEnable && decide (m ≤ s.host.numVfs))) then 1
  else if !e.bound then (if s.bindCheck6 m e then 0 else 6)
  else if !s.bindCheck2 m e then 2
  else if !s.bindCheck3 m e.lim then 3
  else if !s.bindCheck4 m e.lim then 4
  else if !s.bindCheck5 m e then 5
  else if !s.bindCheck6 m e then 6
  else 0

/-- ACT_BIND_RESULT (R350). -/
def State.bindResult (s : State) (m check : Nat) : State :=
  s.setReg Reg.actBindResult (BitVec.ofNat 32 (check + 16 * m))

/-- The binding comes into force; its credit limits wait for the next refill (R332). -/
def State.bindNow (s : State) (m : Nat) (e : AccountEntry) : State :=
  let a := s.acct m
  let b := s.newBinding m e
  let old : List CreditLimit := match a.binding with | some x => x.lim.credit | none => List.replicate 4 ⟨0, 0, 0⟩
  let a1 : Acct := { a with
    binding := some { b with lim := { b.lim with credit := old } }, pendingLim := some e.lim.credit, pendingTick := s.ldg.tick,
    priorBinding := a.binding, boundAt := some s.ldg.tick }
  (s.setAcct m a1).readyNow m

/-- A queue pair enters the error state (R34, R466, R490). -/
def State.qpError (s : State) (i : Nat) : State :=
  match ofind s.net.qps i with
  | some q => if q.error then s
    else ({ s with net := { s.net with qps := oput s.net.qps i { q with error := true } } }).raise .netCause 3
  | none => s

/-- Queue pairs of an account, and of a port, that are not in error. -/
def State.qpsOf (s : State) (p : Qp → Bool) : List Nat := (s.net.qps.filter (fun e => p e.2 && !e.2.error)).map (·.1)

/-- An unbind clears the account's key slots (R332), and its queue pairs enter the error state (R466). -/
def State.unbind (s : State) (m : Nat) : State :=
  let s0 := (s.qpsOf (fun q => decide (q.account = m))).foldl (fun s i => s.qpError i) s
  let s1 := s0.clearSlots (s0.keyBase m) (s0.keyCount m)
  let s2 := s1.setAcct m { badEntry := (s.acct m).badEntry }
  if m = 0 then s2 else s2.setCtrl m { s2.ctrl m with rdy := false }

/-- A failing entry at LOAD: BIND_LOAD_FAIL and a record each (R329). -/
def State.bindLoadFail (s : State) (m : Nat) : State :=
  (s.setAcct m { s.acct m with badEntry := true }).raiseWith .actCause 4 []

/-- One account's binding at LOAD: checks 1 to 4 without the VF Enable condition (R331). -/
def State.bindAtLoad (s : State) (m : Nat) (h : LimitEntry) : State :=
  let e : AccountEntry := ⟨true, h.logOk, h.netOk, h.mintOk, h.defaultClass, h.lim, true⟩
  if s.bindCheck2 m e && s.bindCheck3 m h.lim && s.bindCheck4 m h.lim then
    s.setAcct m { s.acct m with binding := some (s.newBinding m e) }
  else s.raiseWith .actCause 4 []

/-- Account 0's binding where the header fails (R329); its credit is set once the variants are known. -/
def wholeBinding (rd wr : Nat → Nat) : Binding :=
  ⟨0, 0, false, false, false, ⟨1024, 32768, 0, 4096, 0, 0, 8192,
    (List.range 4).map (fun l => ⟨rd l, wr l, rd l + wr l⟩)⟩⟩

def tableOk (t : AccountTable) : Bool := decide (t.magic = 0x54434341) && decide (t.format = 1) && t.reservedZero && decide (t.sectionBytes = 118336)

/-- LOAD step 4: the table is checked and its accounts are bound (R329, R331). -/
def State.loadAccounts (s : State) (im : Image) : State :=
  let t := im.accounts
  if !tableOk t then
    (s.setAcct 0 { binding := some (wholeBinding (fun _ => 0) (fun _ => 0)) }).raiseWith .actCause 4 []
  else
    let s1 := (List.range t.entries.length).foldl (fun s m => match t.entries[m]? with
      | some h => if limitOk m h then s else s.bindLoadFail m
      | none => s) s
    (List.range (min 2048 t.entries.length)).foldl (fun s m => match t.entries[m]? with
      | some h => if h.bindAtLoad && !(s.acct m).badEntry then s.bindAtLoad m h else s
      | none => s) s1

/-- Account 0's credit where the table's header failed: the least supply over the accepted variants of each level (R329). -/
def State.wholeCredit (s : State) (im : Image) : State :=
  if tableOk im.accounts then s
  else
    let least (f : ClassEntry → Nat) (l : Nat) : Nat :=
      let vs := ((s.ldg.accepted.filter (fun i => decide (i % 4 = l))).filterMap (psVariant im.planSet)).filterMap
        (fun v => (v.classTbl.head?).map f)
      vs.foldl min (vs.headD 0)
    s.setAcct 0 { s.acct 0 with binding := some (wholeBinding (least (·.rdSupply)) (least (·.wrSupply))) }

/-! ## Quiesces (R343, R344, R345) -/

/-- A fetched command that has not arrived completes with Command Interrupted, its entries released (R343 step 2). -/
def State.interruptHeld (s : State) (h : Nat) : State :=
  match s.cmd h with
  | some c => if c.phase = .fetched then s.toPost h { c with locks := [] } stCommandInterrupted else s
  | none => s

/-- Handles of a member's commands. -/
def State.memberCmds (s : State) (m : Nat) : List Nat := (s.host.cmds.filter (fun e => decide (e.2.member = m))).map (·.1)

/-- A quiesce of one member begins, or joins one that runs. -/
def State.quiesceMember (s : State) (m : Nat) (flr : Bool) : State :=
  let a := s.acct m
  match a.quiesce with
  | some q => s.setAcct m { a with quiesce := some { q with flr := q.flr || flr } }
  | none => (s.memberCmds m).foldl (fun s h => s.interruptHeld h)
      (s.setAcct m { a with quiesce := some ⟨s.ldg.tick, flr, false, []⟩ })

/-- Every member of an account's quiesce; slices show SSTATE 2 (R340, R343). -/
def State.startQuiesce (s : State) (a : Nat) (flr : Bool) : State :=
  (s.quiesceGroup a).foldl (fun s m =>
    if (s.acct m).binding.isNone then s
    else
      let s1 := if (s.acct m).quiesced then s else s.quiesceMember m flr
      if 2048 ≤ m then s1.setFld (Reg.actSliceCtl + 4 * (m - 2048)) 25 2 (acctState (s1.acct m)) else s1) s

/-- A command's data fetch has not ended, or a Copy's sources are not all granted (R343 step 4). -/
def unfetched (c : Cmd) : Bool :=
  c.phase = .running && !c.secured &&
  (match c.op with
   | .write => !(secsIn c .fetching).isEmpty
   | .append => !(secsIn c .fetching).isEmpty
   | .copy => c.secs.any (fun x => x.copySrc && (decide (x.st = .lookup) || decide (x.st = .waiting) || decide (x.st = .registered)))
   | _ => false)

/-- A Minted Read's lane has begun (R344, R346). -/
def State.laneBegun (s : State) (c : Cmd) : Bool :=
  match c.lane with | some l => decide ((s.lane l).st = .setup) || decide ((s.lane l).st = .consuming) | none => false

/-- A Minted Read leaves its lane, or the wait for one. -/
def State.freeLane (s : State) (h : Nat) : State :=
  let s1 : State := { s with mnt := { s.mnt with waiting := s.mnt.waiting.filter (fun w => decide (w.1 ≠ h)) } }
  match s1.cmd h with
  | some c => match c.lane with
    | some l => (s1.setLane l {}).setCmd h { c with lane := none }
    | none => s1
  | none => s1

/-- The cut of one command: a write without its data ends, a read's ungranted sectors are withdrawn (R343 step 4). -/
def State.cutOne (s : State) (h : Nat) : State :=
  match s.cmd h with
  | none => s
  | some c =>
    if c.phase ≠ .running then s
    else if unfetched c then (s.raise .actCause 6).endWrite h stCommandInterrupted
    else if c.op = .minted then
      if s.laneBegun c then s
      else
        let s1 := (s.raise .actCause 6).freeLane h
        match s1.cmd h with | some d => s1.toPost h { d with secs := [] } stCommandInterrupted | none => s1
    else if c.op = .read then
      let s1 := s.withdraw h c stCommandInterrupted
      if s1 = s then s else (s1.raise .actCause 6).readKick h
    else s

/-- R343: the cut tick of a member's quiesce, 5,079,040 ticks after it began; a sleep entry cuts every active member so, with its
own q (R497). -/
def execQuiesceCut (member : Nat) (s : State) : Host.Outcome State Fault Refusal :=
  .next (match (s.acct member).quiesce with
    | none =>
      match s.pwr.sleep with
      | some e =>
        if s.memberActive member && decide (e.q + 5079040 ≤ s.ldg.tick) then
          ((s.memberCmds member).foldl (fun s h => s.cutOne h) s).kick
        else s
      | none => s
    | some q =>
      if q.cut || s.ldg.tick < q.q + 5079040 then s
      else
        let s1 := s.setAcct member { s.acct member with quiesce := some { q with cut := true } }
        ((s1.memberCmds member).foldl (fun s h => s.cutOne h) s1).kick)

/-! ## Controller reset and enable (R345, R593) -/

/-- A Read's arrived command in a controller reset: it sends no more, and its ungranted sectors are withdrawn. A write without
its data ends. No completion is posted. -/
def State.resetOne (s : State) (h : Nat) : State :=
  match s.cmd h with
  | none => s
  | some c =>
    let c1 := { c with silent := true }
    let s1 := s.setCmd h c1
    if c.phase = .fetched then (s1.toPost h { c1 with locks := [] } stAbortRequested)
    else if c.phase = .posting then s1.finish h c1
    else if unfetched c1 && c.op ≠ .copy then s1.endWrite h stAbortRequested
    else if c.op = .read then (s1.withdraw h c1 stAbortRequested).readKick h
    else s1

/-- A controller reset begins (R593). -/
def State.beginReset (s : State) (f : Nat) : State :=
  let c := s.ctrl f
  let s1 := s.setCtrl f { c with cc := c.cc &&& ~~~1#32, resetting := true, aers := [], events := [] }
  let s2 := s1.setCtx f { s1.ctx f with queue := [] }
  ((s2.host.cmds.filter (fun e => decide (e.2.account = f))).foldl (fun s e => s.resetOne e.1) s2).kick

/-- CC.EN is written 0 (R593). -/
def State.writeEnOff (s : State) (func : Nat) : State :=
  if s.islandOn .hst && bitOf (s.ctrl func).cc 0 && !(s.ctrl func).resetting then s.beginReset func else s

/-- R593: CC.EN of a function's controller is written 0. -/
def execControllerReset (func : Nat) (s : State) : Host.Outcome State Fault Refusal := .next (s.writeEnOff func)

/-- The function exists: the PF, or a VF that VF Enable covers, which answers once LOAD step 4 has ended (R97). -/
def State.functionExists (s : State) (f : Nat) : Bool :=
  decide (f = 0) || (s.host.vfEnable && s.boot.image.isSome && decide (1 ≤ f) && decide (f ≤ s.host.numVfs))

/-- The bits of CC that are not reserved (PRESUMED: the NVM Express Base Specification's register; log entry 160). -/
def ccMask : Word := 0x01FFFFF1#32

/-- CC.EN is written 1. A VF whose account a shutdown notification or an FLR quiesced resumes it once it is QUIESCED (R345). After a
DRAIN for a shutdown notification the PF's enable leads back to SERVICE at the next Folio (R77). -/
def State.writeEnOn (s : State) (func : Nat) (cc : BitVec 32) : State :=
  let c := s.ctrl func
  if !s.islandOn .hst || bitOf c.cc 0 || c.resetting || !bitOf cc 0 || !(s.functionExists func || s.vfActs func) then s
  else
    let s0 := s.setCtrl func { c with cc := cc &&& ccMask, shst := 0 }
    let s1 : State := if func = 0 && s.pwr.drained then
        { s0 with pwr := { s0.pwr with folioMove := some .serviceAgain } } else s0
    let a := s1.acct func
    if a.resumeOnEnable then ((s1.setAcct func { a with enableWaits := true }).enableKick) else s1.readyNow func

/-- R345: CC.EN of a function's controller is written 1. -/
def execControllerEnable (func : Nat) (cc : BitVec 32) (s : State) : Host.Outcome State Fault Refusal := .next (s.writeEnOn func cc)

/-! ## Shutdown and Function Level Reset of a VF (R343, R346) -/

/-- A VF's CC.SHN asks for a shutdown: its account is quiesced, and CSTS.SHST shows it (R343). -/
def State.shutdownVf (s : State) (func : Nat) : State :=
  if !s.islandOn .hst || func = 0 || !(s.functionExists func || s.vfActs func) then s
  else
    let s1 := s.setCtrl func { s.ctrl func with shst := 1 }
    let s2 := s1.setAcct func { s1.acct func with resumeOnEnable := (s1.acct func).binding.isSome }
    if s2.memberActive func || (s2.acct func).quiesce.isSome then (s2.startQuiesce func false).kick
    else s2.setCtrl func { s2.ctrl func with shst := 2 }

/-- R343: a VF's shutdown notification. -/
def execVfShutdownNotification (func : Nat) (s : State) : Host.Outcome State Fault Refusal := .next (s.shutdownVf func)

/-- What an FLR does to one command in its tick: nothing more is posted for it, its fetch is cancelled, and a Minted Read whose
lane has begun ends. -/
def State.flrOne (s : State) (h : Nat) : State :=
  match s.cmd h with
  | none => s
  | some c =>
    let c1 := { c with silent := true }
    let s1 := s.setCmd h c1
    if c.phase = .fetched then s1.toPost h { c1 with locks := [] } stAbortRequested
    else if c.phase = .posting then s1.finish h c1
    else if unfetched c1 && c.op ≠ .copy then s1.endWrite h stAbortRequested
    else if c.op = .minted && s1.laneBegun c1 then
      let s2 := s1.freeLane h
      match s2.cmd h with | some d => s2.toPost h { d with secs := [] } stAbortRequested | none => s2
    else s1

/-- An FLR ends its context's halt and drops its reads; the latched fields stay readable until the next halt (R374). -/
def State.endHalt (s : State) (a : Nat) : State :=
  s.setCtx a { s.ctx a with halted := false, queue := [], reads := [], failed := [] }

/-- R346: an FLR of a VF. -/
def execFlr (func : Nat) (s : State) : Host.Outcome State Fault Refusal :=
  .next (if !s.islandOn .hst || func = 0 || !s.functionExists func then s
    else if s.memberActive func || (s.acct func).quiesce.isSome then
      let s0 := s.setAcct func { s.acct func with flrActive := true }
      let s1 := (s0.startQuiesce func true).raise .actCause 2
      let s2 := s1.endHalt func
      ((s2.memberCmds func).foldl (fun s h => s.flrOne h) s2).kick
    else (s.endHalt func).flrReset func)

/-- R346: 12 ms have passed since the FLR, or the account's commands have all completed: the function is reset, and work that
remains runs on detached. -/
def execFlrTimeout (func : Nat) (s : State) : Host.Outcome State Fault Refusal :=
  .next (match (s.acct func).quiesce with
    | some q => if (s.acct func).flrActive && decide (q.q + 12000000 ≤ s.ldg.tick) then (s.flrReset func).kick else s
    | none => s)

/-! ## PASID slices (R338 to R340, R350) -/

def sliceReg (n : Nat) : Nat := Reg.actSliceCtl + 4 * n

/-- The entry that a slice's enable asks for: its limit entry's values in the class written. -/
def sliceEntry (h : LimitEntry) (cls : Nat) : AccountEntry := ⟨true, false, false, h.mintOk, cls, h.lim, true⟩

/-- The first failing check of an enable, checks 2 to 5 of R332. -/
def State.sliceCheck (s : State) (m : Nat) (e : AccountEntry) : Nat :=
  if !s.bindCheck2 m e then 2
  else if !s.bindCheck3 m e.lim then 3
  else if !s.bindCheck4 m e.lim then 4
  else if !s.bindCheck5 m e then 5
  else 0

/-- Enabled slice `k` holds the PASID. -/
def State.holdsPasid (s : State) (k pasid : Nat) : Bool := bitOf (s.reg (sliceReg k)) 20 && decide (s.fld (sliceReg k) 0 20 = pasid)

/-- Another enabled slice holds the PASID. -/
def State.pasidHeld (s : State) (n pasid : Nat) : Bool := (List.range 64).any (fun k => decide (k ≠ n) && s.holdsPasid k pasid)

/-- Two slices enabled in one tick with one PASID: the lower slice number is enabled, so that a higher one, enabled in this tick ahead of
slice `n`, is refused after all (R348). -/
def State.pasidYield (s : State) (n pasid : Nat) : State :=
  (upFrom (n + 1) (63 - n)).foldl (fun s k =>
    if s.holdsPasid k pasid && decide ((s.acct (sliceMember k)).boundAt = some s.ldg.tick) then
      let s1 := (s.setAcct (sliceMember k) {}).raise .actCause 5
      s1.setReg (sliceReg k) (setField (setField (s1.reg (sliceReg k)) 20 1 0) 25 2 0)
    else s) s

/-- R338: a write of ACT_SLICE_CTLn with ENABLE at 1, and PASID Enable of the PF's configuration space as it stands. While
ENABLE is 1 the other fields are kept (R350). -/
def execSliceEnable (who : Requester) (n : Nat) (value : BitVec 32) (pasidOn : Bool) (s : State) : Host.Outcome State Fault Refusal :=
  let s : State := { s with host := { s.host with pasidEnable := pasidOn } }
  .next (if 64 ≤ n || !s.mayWrite who (sliceReg n) || !bitOf value 20 || bitOf (s.reg (sliceReg n)) 20 then s
    else
      let m := sliceMember n
      let pasid := getField value 0 20
      let cls := getField value 21 4
      let s0 := if s.host.pasidEnable then s.pasidYield n pasid else s
      let s1 := s0.setReg (sliceReg n) (setField (setField (s0.reg (sliceReg n)) 0 20 pasid) 21 4 cls)
      if !s.host.pasidEnable || s1.pasidHeld n pasid || (s.acct m).binding.isSome then s1.raise .actCause 5
      else match s.limitEntry m with
        | none => s1.bindResult m 2
        | some h =>
          let e := sliceEntry h cls
          let c := s1.sliceCheck m e
          if c ≠ 0 then s1.bindResult m c
          else ((s1.bindResult m 0).bindNow m e).setReg (sliceReg n)
            (setField (setField (s1.reg (sliceReg n)) 20 1 1) 25 2 1))

/-- R340: ENABLE of a slice is cleared: the slice is quiesced, and its key slots are cleared when that ends. -/
def execSliceDisable (who : Requester) (n : Nat) (s : State) : Host.Outcome State Fault Refusal :=
  .next (if 64 ≤ n || !s.mayWrite who (sliceReg n) || !bitOf (s.reg (sliceReg n)) 20 then s
    else
      let m := sliceMember n
      let s1 := s.setFld (sliceReg n) 20 1 0
      if (s1.acct m).quiesced then
        ((s1.clearSlots (s1.keyBase m) (s1.keyCount m)).setAcct m {}).setFld (sliceReg n) 25 2 0
      else ((s1.quiesceMember m false).setFld (sliceReg n) 25 2 2).kick)

/-- R339: a write of ACT_QSLICE; with APPLY it assigns an I/O queue of the PF to a slice, or back to account 0. -/
def execQsliceApply (who : Requester) (value : BitVec 32) (s : State) : Host.Outcome State Fault Refusal :=
  .next (if !s.mayWrite who Reg.actQslice then s
    else
      let i := getField value 0 14
      let s1 := s.setReg Reg.actQslice (setField (value &&& 0x1FFFFF#32) 22 1 (s.fld Reg.actQslice 22 1))
      if !bitOf value 21 then s1
      else
        let busy := s.host.cmds.any (fun e => !e.2.net && decide (e.2.queue = i))
        match ofind s.host.queues i with
        | some q =>
          if q.func ≠ 0 || busy then s1.setFld Reg.actQslice 22 1 1
          else
            (s1.setQueue i { q with slice := if bitOf value 20 then some (getField value 14 6) else none }).setFld Reg.actQslice 22 1 0
        | none => s1.setFld Reg.actQslice 22 1 1)

/-! ## The dirty-page log and VF Enable (R331, R342) -/

/-- R342: the manager moves ACT_DLOG_HEAD on; stalled host writes find room again. -/
def execDlogHeadWrite (who : Requester) (value : BitVec 32) (s : State) : Host.Outcome State Fault Refusal :=
  .next (if s.mayWrite who Reg.actDlogHead then s.setReg Reg.actDlogHead (value &&& 0xFFFFFF#32) else s)

/-- TotalVFs of the geometry (R117). -/
def State.totalVfs (s : State) : Nat := match s.boot.image with | some im => im.geometry.totalVfs | none => 0

/-- VFs that VF Enable may cover: TotalVFs, and before LOAD step 4 has placed the geometry as many as the device has (R5, R97). -/
def State.vfLimit (s : State) : Nat := if s.boot.image.isSome then s.totalVfs else 2047

/-- R331: VF Enable is set with `vfs` VFs, and the load-time bindings take effect for them. -/
def execVfEnable (vfs : Nat) (s : State) : Host.Outcome State Fault Refusal :=
  .next (if !s.islandOn .hst || s.host.vfEnable || s.vfLimit < vfs then s
    else
      let s1 : State := { s with host := { s.host with vfEnable := true, numVfs := vfs, netVfs := 0 } }
      s1.host.ctrls.foldl (fun s e => s.readyNow e.1) s1)

end Sys2Proof.Machine
end

