-- ==== Sys2Proof/Machine/IoCmds.lean ====
section
/-!
DEFINITION. The I/O commands' acceptance (spec 08, 10): the checks of each opcode in the order the manual gives, the zone
transitions, the advance of the accepted write pointer, and the sectors that the command reads or writes.
-/
namespace Sys2Proof.Machine

/-! ## Shared checks -/

/-- The command `h` has just arrived and its operation satisfies `p`. -/
def State.arrivedCmd (s : State) (h : Nat) (p : CmdOp → Bool) : Option (Cmd × Ns) :=
  match s.cmd h with
  | some c => if c.phase = .arrived && p c.op then
      match s.ns c.nsid with | some x => some (c, x) | none => none
    else none
  | none => none

/-- Largest transfer: MDTS, WZSL and ZASL are 64 sectors (R289). -/
def maxSectors : Nat := 64

/-- DTYPE must be 0 (R308). -/
def dtypeOk (q : Sqe) : Bool := decide (getField q.cdw12 20 4 = 0)

/-- ILBRT: 32 bits in format 1, 48 in format 2. -/
def ilbrt (q : Sqe) (fmt : Nat) : Nat :=
  if fmt = 2 then q.cdw14.toNat + 2 ^ 32 * getField q.cdw3 0 16 else q.cdw14.toNat

/-- For the reference tag check, ILBRT equals the low bits of SLBA (R291). -/
def ilbrtOk (q : Sqe) (fmt : Nat) : Bool :=
  decide (fmt = 0) || sqePract q || !bitOf q.cdw12 26 || decide (ilbrt q fmt = sqeSlba q % (if fmt = 2 then 2 ^ 48 else 2 ^ 32))

/-- Lifetime hint of CDW13 (R308). -/
def hintOf (q : Sqe) : Option Nat := if bitOf q.cdw13 27 then some (getField q.cdw13 28 3) else none

/-- The class after a Zone Open, or a first write, that may carry a hint (R218): a first write without one fixes class 3. -/
def fixClass (x : Zone) (h : Option Nat) (write : Bool) : Option Nat :=
  match x.lclass with
  | some c => some c
  | none => match h with
    | some c => some c
    | none => if write then some 3 else none

/-- Checks of field, range and protection information that a read or write passes, in order; none passes. -/
def rangeCheck (c : Cmd) (x : Ns) : Option Status :=
  if maxSectors < c.count || !dtypeOk c.sqe then some stInvalidField
  else if x.size < c.slba + c.count then some stLbaOutOfRange
  else if !ilbrtOk c.sqe x.format then some stInvalidProtInfo
  else none

/-- The zone checks of a write of `n` sectors at offset `o` (R311), in the table's order; an Append has no pointer to meet. -/
def State.zoneCheck (s : State) (c : Cmd) (z o n : Nat) (append : Bool) : Option Status × Activation :=
  let x := s.zone z
  let a := if x.state = .empty then s.activation c.account else .ok
  if x.state = .offline then (some stZoneOffline, .ok)
  else if x.state = .readOnly then (some stZoneReadOnly, .ok)
  else if x.state = .full then (some stZoneFull, .ok)
  else if a ≠ .ok then (some stTooManyActive, a)
  else if !append && decide (o ≠ x.wp) then (some stZoneInvalidWrite, .ok)
  else if zoneSectors < o + n then (some stZoneBoundary, .ok)
  else (none, .ok)

/-- A refused zone command: the cause bits of its status, and its completion. -/
def State.zoneRefuse (s : State) (h : Nat) (c : Cmd) (t : Status) (a : Activation) : State :=
  let s1 := s.refuseActivation a
  (if t = stZoneInvalidWrite then s1.raise .orderCause 1 else s1).toPost h c t

/-- The accepted write pointer advances by `n`, and the zone's state follows (R215, R217, R301, R311). -/
def State.advance (s : State) (c : Cmd) (z n : Nat) : State :=
  let x := s.zone z
  let y := if x.active then x else activate c.account x
  let w := x.wp + n
  s.setZone z { y with
    wp := w,
    lclass := if x.wp = 0 then fixClass x (hintOf c.sqe) true else x.lclass,
    state := if w = zoneSectors then .full
      else if x.state = .explicitOpen then .explicitOpen else .implicitOpen }

/-! ## Sectors -/

/-- A sector of a command before its first stage. -/
def mkSec (lba key die : Nat) (st : SecSt) (src : Bool) : Sec :=
  ⟨lba, key, die, false, false, st, 0, 0, 0, 0, false, 0, 0, true, 0, src, 0, 0, none, 0, 0, none⟩

/-- A sector to be read, resolved as its zone stands now (R231); a conventional one at its map lookup (R139). -/
def State.readSec (s : State) (nsid lba : Nat) (x : Ns) (src : Bool) : Sec :=
  if x.zoned then
    match nsZone x lba with
    | none => { mkSec lba 0 0 .lookup src with zero := true }
    | some z =>
      let o := lba % zoneSectors
      let k := zoneKey z o
      match s.zoneSector z o with
      | none => { mkSec lba k 0 .lookup src with zero := true }
      | some e => { mkSec lba k (s.sectorDie z o e) .lookup src with
          slc := inSlc e.place, payload := e.payload, appTag := e.appTag, poison := e.poison }
  else mkSec lba (convKey nsid lba) 0 .lookup src

/-- Some sector of the list needs the namespace's key (R445). -/
def State.needsKey (s : State) (l : List Sec) : Bool :=
  l.any (fun x => !x.zero && (decide (x.key / zoneSectors < 2 ^ 21) || (ofind s.med.conv x.key).isSome))

/-- Some sector of the list lies in an Offline zone. -/
def State.offlineIn (s : State) (x : Ns) (l : List Nat) : Bool :=
  l.any (fun a => match nsZone x a with | some z => decide ((s.zone z).state = .offline) | none => false)

/-- The dies of a conventional write (R241), skipping failed ones. -/
def State.liveDies (s : State) : List Nat := (s.med.groups.flatten).filter (fun d => !(s.dieMed d).failed)

def State.convDie (s : State) (cls j : Nat) : Nat :=
  let l := s.liveDies
  if l.length = 0 then 0 else l.getD ((cget 0 s.med.rr cls + j / 16) % l.length) 0

/-- Destination sectors of a write of `n` sectors at `slba`. -/
def State.writeSecs (s : State) (c : Cmd) (x : Ns) (slba n : Nat) (st : SecSt) : List Sec :=
  (List.range n).map (fun j =>
    let l := slba + j
    if x.zoned then
      match nsZone x l with
      | some z => mkSec l (zoneKey z (l % zoneSectors)) (s.zoneDie z (dieSlot (l % zoneSectors))) st false
      | none => mkSec l 0 0 st false
    else mkSec l (convKey c.nsid l) (s.convDie (s.boundClass c.member) j) st false)

/-- The round robin of the class moves on past the dies that a conventional write of `n` sectors takes. -/
def State.takeDies (s : State) (c : Cmd) (x : Ns) (n : Nat) : State :=
  if x.zoned then s
  else
    let k := s.boundClass c.member
    { s with med := { s.med with rr := cset 0 s.med.rr k ((cget 0 s.med.rr k + ceilDiv n 16) % (max 1 s.liveDies.length)) } }

/-- A write that passed its checks is accepted at `slba`: its pointer advances and its sectors stand ready. -/
def State.acceptWrite (s : State) (h : Nat) (c : Cmd) (x : Ns) (slba : Nat) (src : List Sec) (st : SecSt) : State :=
  let dst := s.writeSecs c x slba c.count st
  let b := match c.zone with | some z => some ((s.zone z).state, (s.zone z).wp) | none => none
  let s1 := match c.zone with | some z => s.advance c z c.count | none => s.takeDies c x c.count
  let c1 := { c with slba := slba, before := b, secs := src ++ dst, phase := .accepting }
  (s1.setCmd h c1).traceStart h c1 x.zoned

/-- The checks and acceptance of a Write, zoned Write Zeroes or Copy destination at SLBA. -/
def State.tryWrite (s : State) (h : Nat) (c : Cmd) (x : Ns) (src : List Sec) (st : SecSt) : State :=
  if !s.xtsReady (nsOwner x) then s.denyKey h c
  else match c.zone with
    | none => s.acceptWrite h c x c.slba src st
    | some z =>
      match s.zoneCheck c z (c.slba % zoneSectors) c.count false with
      | (some t, a) => s.zoneRefuse h c t a
      | (none, _) => s.acceptWrite h c x c.slba src st

/-! ## Commands -/

/-- R306: Flush; it completes once every earlier write of its namespace is secured. -/
def execFlush (h : Nat) (s : State) : Host.Outcome State Fault Refusal :=
  .next (match s.cmd h with
    | some c => if c.phase = .arrived && c.op = .flush then s.setCmd h { c with phase := .accepting } else s
    | none => s)

/-- R301: Write. -/
def execWrite (h : Nat) (s : State) : Host.Outcome State Fault Refusal :=
  .next (match s.arrivedCmd h (fun o => decide (o = .write)) with
    | none => s
    | some (c, x) =>
      match rangeCheck c x with
      | some t => s.toPost h c t
      | none => s.tryWrite h c x [] .fetching)

/-- R143, R231: Read. -/
def execRead (h : Nat) (s : State) : Host.Outcome State Fault Refusal :=
  .next (match s.arrivedCmd h (fun o => decide (o = .read)) with
    | none => s
    | some (c, x) =>
      match rangeCheck c x with
      | some t => s.toPost h c t
      | none =>
        let l := lbas c.slba c.count
        let secs := l.map (fun a => s.readSec c.nsid a x false)
        if x.zoned && s.offlineIn x l then s.toPost h c stZoneOffline
        else if s.needsKey secs && !s.xtsReady (nsOwner x) then s.denyKey h c
        else
          let c1 := { c with secs := secs, phase := .accepting }
          (s.setCmd h c1).traceStart h c1 x.zoned)

/-- R145: Write Zeroes; in a conventional namespace it deallocates. -/
def execWriteZeroes (h : Nat) (s : State) : Host.Outcome State Fault Refusal :=
  .next (match s.arrivedCmd h (fun o => decide (o = .writeZeroes)) with
    | none => s
    | some (c, x) =>
      match rangeCheck c x with
      | some t => s.toPost h c t
      | none =>
        if x.zoned then s.tryWrite h c x [] .zeroFill
        else s.setCmd h { c with phase := .accepting })

/-- R393: Dataset Management. Attributes other than Deallocate are ignored (R285). -/
def execDatasetManagement (h : Nat) (s : State) : Host.Outcome State Fault Refusal :=
  .next (match s.arrivedCmd h (fun o => decide (o = .dsm)) with
    | none => s
    | some (c, x) =>
      if decide (c.ranges.length ≠ getField c.sqe.cdw10 0 8 + 1) || c.ranges.any (fun r => decide (262144 < r.count)) ||
         decide (16777216 < sumOf (c.ranges.map (·.count))) then s.toPost h c stInvalidField
      else if c.ranges.any (fun r => decide (x.size < r.slba + r.count)) then s.toPost h c stLbaOutOfRange
      else if !bitOf c.sqe.cdw11 2 then s.toPost h c stOk
      else s.setCmd h { c with phase := .accepting })

/-- R313, R314: Copy; its sources resolve before its own advance of the pointer. -/
def execCopy (h : Nat) (s : State) : Host.Outcome State Fault Refusal :=
  .next (match s.arrivedCmd h (fun o => decide (o = .copy)) with
    | none => s
    | some (c, x) =>
      let fmtOk := decide (getField c.sqe.cdw12 8 4 = (if x.format = 2 then 1 else 0))
      if decide (c.ranges.length ≠ getField c.sqe.cdw12 0 8 + 1) || decide (32 < c.ranges.length) ||
         c.ranges.any (fun r => decide (r.count = 0) || decide (64 < r.count)) || decide (64 < c.count) || !fmtOk ||
         !dtypeOk c.sqe then s.toPost h c stInvalidField
      else if decide (x.size < c.slba + c.count) || c.ranges.any (fun r => decide (x.size < r.slba + r.count)) then
        s.toPost h c stLbaOutOfRange
      else
        let l := readLbas c
        if x.zoned && s.offlineIn x l then s.toPost h c stZoneOffline
        else s.tryWrite h c x (l.map (fun a => s.readSec c.nsid a x true)) .fetching)

/-- R310: Zone Append at the accepted write pointer; the assigned LBA is returned. -/
def execZoneAppend (h : Nat) (s : State) : Host.Outcome State Fault Refusal :=
  .next (match s.arrivedCmd h (fun o => decide (o = .append)) with
    | none => s
    | some (c, x) =>
      if c.slba % zoneSectors ≠ 0 then s.toPost h c stInvalidField
      else if x.size ≤ c.slba then s.toPost h c stLbaOutOfRange
      else if maxSectors < c.count || !dtypeOk c.sqe then s.toPost h c stInvalidField
      else if !ilbrtOk c.sqe x.format then s.toPost h c stInvalidProtInfo
      else if !s.xtsReady (nsOwner x) then s.denyKey h c
      else match c.zone with
        | none => s
        | some z =>
          match s.zoneCheck c z (s.zone z).wp c.count true with
          | (some t, a) => s.zoneRefuse h c t a
          | (none, _) =>
            let lba := c.slba + (s.zone z).wp
            s.acceptWrite h { c with dw0 := lba % 2 ^ 32, dw1 := lba / 2 ^ 32 } x lba [] .fetching)

/-! ## Zone management (R215, R217 to R222, R309) -/

/-- The zones that a Zone Management Send acts on: the named one, or with Select All those in a state that it permits. -/
def State.sendZones (s : State) (c : Cmd) (x : Ns) (permits : ZState → Bool) : List Nat :=
  match c.zone with
  | some z => [z]
  | none => x.zones.filter (fun z => permits (s.zone z).state)

/-- Checks of a Zone Management Send on one zone: the SLBA names a zone, and the zone's state permits the action. -/
def State.sendCheck (s : State) (c : Cmd) (x : Ns) (all : Bool) (permits : ZState → Bool) : Option Status :=
  if all then none
  else if x.size ≤ c.slba then some stLbaOutOfRange
  else if c.slba % zoneSectors ≠ 0 then some stInvalidField
  else match c.zone with
    | none => some stInvalidField
    | some z =>
      let t := (s.zone z).state
      if t = .offline then some stZoneOffline
      else if permits t then none
      else some stInvalidTransition

/-- The command of action `a`, with its Select All bit. -/
def State.sendCmd (s : State) (h a : Nat) : Option (Cmd × Ns × Bool) :=
  match s.arrivedCmd h (fun o => match o with | .zoneMgmt b _ => decide (b = a) | _ => false) with
  | some (c, x) => some (c, x, c.zone.isNone)
  | none => none

/-- A Finish or Reset joins the waiting operations of each of its zones (R220, R221). -/
def State.waitIn (s : State) (h : Nat) (zs : List Nat) : State :=
  zs.foldl (fun s z => s.setZone z { s.zone z with mgmt := (s.zone z).mgmt ++ [h] }) s

/-- R219: Zone Close keeps claims, blocks, streams, tail and reservation. -/
def State.zoneClose (s : State) (h : Nat) : State :=
  match s.sendCmd h 1 with
    | none => s
    | some (c, x, all) =>
      let ok (t : ZState) : Bool := isOpen t || decide (t = .closed)
      match s.sendCheck c x all ok with
      | some t => s.toPost h c t
      | none =>
        ((s.sendZones c x ok).foldl (fun s z => s.setZone z { s.zone z with state := .closed }) s).setCmd h
          { c with phase := .accepting }

/-- R219: Zone Close. -/
def execZoneClose (h : Nat) (s : State) : Host.Outcome State Fault Refusal := .next (s.zoneClose h)

/-- R220: Zone Finish. -/
def State.zoneFinish (s : State) (h : Nat) : State :=
  match s.sendCmd h 2 with
    | none => s
    | some (c, x, all) =>
      let ok (t : ZState) : Bool := isOpen t || decide (t = .closed) || (!all && (decide (t = .empty) || decide (t = .full)))
      match s.sendCheck c x all ok with
      | some t => s.toPost h c t
      | none => (s.waitIn h (s.sendZones c x ok)).setCmd h { c with phase := .accepting }

/-- R220: Zone Finish. -/
def execZoneFinish (h : Nat) (s : State) : Host.Outcome State Fault Refusal := .next (s.zoneFinish h)

/-- R217, R218: Zone Open; with Select All it opens Closed zones only. -/
def State.zoneOpen (s : State) (h : Nat) : State :=
  match s.sendCmd h 3 with
    | none => s
    | some (c, x, all) =>
      let ok (t : ZState) : Bool := decide (t = .closed) || (!all && (isOpen t || decide (t = .empty)))
      match s.sendCheck c x all ok with
      | some t => s.toPost h c t
      | none =>
        let a := match c.zone with
          | some z => if (s.zone z).state = .empty then s.activation c.account else .ok
          | none => .ok
        if a ≠ .ok then s.zoneRefuse h c stTooManyActive a
        else
          let openOne (s : State) (z : Nat) : State :=
            let y := s.zone z
            let w := if y.active then y else activate c.account y
            s.setZone z { w with state := .explicitOpen,
                                 lclass := if y.wp = 0 then fixClass y (hintOf c.sqe) false else y.lclass }
          ((s.sendZones c x ok).foldl openOne s).setCmd h { c with phase := .accepting }

/-- R217, R218: Zone Open. -/
def execZoneOpen (h : Nat) (s : State) : Host.Outcome State Fault Refusal := .next (s.zoneOpen h)

/-- R221, R222: Zone Reset. -/
def State.zoneReset (s : State) (h : Nat) : State :=
  match s.sendCmd h 4 with
    | none => s
    | some (c, x, all) =>
      let ok (t : ZState) : Bool := isOpen t || decide (t = .closed) || decide (t = .full) || (!all && decide (t = .empty))
      match s.sendCheck c x all ok with
      | some t => s.toPost h c t
      | none => (s.waitIn h (s.sendZones c x ok)).setCmd h { c with phase := .accepting }

/-- R221, R222: Zone Reset. -/
def execZoneReset (h : Nat) (s : State) : Host.Outcome State Fault Refusal := .next (s.zoneReset h)

/-- R309: Zone Offline of a Read Only zone; its Tally is released (R264). -/
def State.zoneOffline (s : State) (h : Nat) : State :=
  match s.sendCmd h 5 with
    | none => s
    | some (c, x, all) =>
      let ok (t : ZState) : Bool := decide (t = .readOnly)
      match s.sendCheck c x all ok with
      | some t => s.toPost h c t
      | none =>
        ((s.sendZones c x ok).foldl (fun s z => s.setZone z { s.zone z with state := .offline, holder := false }) s).setCmd h
          { c with phase := .accepting }

/-- R309: Zone Offline. -/
def execZoneOffline (h : Nat) (s : State) : Host.Outcome State Fault Refusal := .next (s.zoneOffline h)

/-- The checks and acceptance of an arrived Zone Management Send, by its action (R309). -/
def State.runSend (s : State) (h : Nat) (o : CmdOp) : State :=
  match o with
  | .zoneMgmt 1 _ => s.zoneClose h
  | .zoneMgmt 2 _ => s.zoneFinish h
  | .zoneMgmt 3 _ => s.zoneOpen h
  | .zoneMgmt 4 _ => s.zoneReset h
  | .zoneMgmt 5 _ => s.zoneOffline h
  | _ => s

/-- R309: Set Zone Descriptor Extension is not supported. -/
def execSetZoneDescriptorExtension (h : Nat) (s : State) : Host.Outcome State Fault Refusal :=
  .next (match s.sendCmd h 0x10 with
    | some (c, _, _) => s.toPost h c stInvalidField
    | none => s)

/-! ## Report Zones (R312) -/

/-- The reporting option selects the zone state. -/
def reportsState (opt : Nat) (t : ZState) : Bool :=
  match opt with
  | 0 => true
  | 1 => decide (t = .empty)
  | 2 => decide (t = .implicitOpen)
  | 3 => decide (t = .explicitOpen)
  | 4 => decide (t = .closed)
  | 5 => decide (t = .full)
  | 6 => decide (t = .readOnly)
  | 7 => decide (t = .offline)
  | _ => false

/-- A zone descriptor: type, state, capacity, start and the accepted write pointer. -/
def State.zoneDesc (s : State) (z start : Nat) : List Byte :=
  let x := s.zone z
  [2#8, BitVec.ofNat 8 (16 * zstateCode x.state)] ++ leBytes 6 0 ++ leBytes 8 zoneSectors ++ leBytes 8 start ++
    leBytes 8 (start + x.wp) ++ List.replicate 32 0#8

/-- R312: Report Zones. -/
def execReportZones (h : Nat) (s : State) : Host.Outcome State Fault Refusal :=
  .next (match s.arrivedCmd h (fun o => decide (o = .report)) with
    | none => s
    | some (c, x) =>
      let opt := getField c.sqe.cdw13 8 8
      if getField c.sqe.cdw13 0 8 ≠ 0 || decide (7 < opt) then s.toPost h c stInvalidField
      else if x.size ≤ c.slba then s.toPost h c stLbaOutOfRange
      else
        let first := c.slba / zoneSectors
        let zs := ((x.zones.zip (upFrom 0 x.zones.length)).drop first).filter (fun p => reportsState opt (s.zone p.1).state)
        let bytes := 4 * (c.sqe.cdw12.toNat + 1)
        let room := (bytes - 64) / 64
        let count := if bitOf c.sqe.cdw13 16 then min room zs.length else zs.length
        let out := leBytes 8 count ++ List.replicate 56 0#8 ++
          (zs.take (room + 1)).flatMap (fun p => s.zoneDesc p.1 (p.2 * zoneSectors))
        (s.dataToHost (out.take bytes)).setCmd h { c with phase := .accepting })

end Sys2Proof.Machine
end

