-- ==== Sys2Proof/Machine/MintPlan.lean ====
section
/-!
DEFINITION. What LOAD does for the Mint: the recipes section and its checks (R479 to R481), and the turns of each door (R474).
-/
namespace Sys2Proof.Machine

/-! ## Recipes (R479 to R481) -/

def laneOk (l : LaneBind) : Bool := l.reservedZero && decide (l.cls ≤ 13)

/-- The header conforms to R479. -/
def recipesOk (r : Recipes) : Bool :=
  decide (r.magic = 0x50434552) && decide (r.format = 1) && decide (r.recipeCount ≤ 64) && r.reservedZero &&
  decide (r.lanes.length = 16) && r.lanes.all laneOk && decide (r.records.length ≤ 64)

/-- The fields of MPEG-2 TS output, all 0 for CMAF. -/
def tsOk (r : Recipe) : Bool :=
  if r.output = 1 then
    decide (0x20 ≤ r.tsPid) && decide (r.tsPid ≤ 0x1FFE) && decide (0x20 ≤ r.tsPmtPid) && decide (r.tsPmtPid ≤ 0x1FFE) &&
    decide (r.tsPid ≠ r.tsPmtPid) && decide (1 ≤ r.tsProgram) && decide (r.tsProgram ≤ 65535)
  else decide (r.tsPid = 0) && decide (r.tsPmtPid = 0) && decide (r.tsProgram = 0)

/-- A recipe record conforms to R480; OUTPUT 1 does not go with PROTECT 1 or 2 (R481). -/
def recipeOk (r : Recipe) : Bool :=
  decide (r.input ≤ 1) && decide (r.output ≤ 1) && decide (r.protect ≤ 3) && decide (1 ≤ r.codec) && decide (r.codec ≤ 3) &&
  decide (r.cost = b2n (decide (r.input = 1)) + b2n (decide (r.protect ≠ 0))) && r.reservedZero && r.placed && decide (r.timescale ≠ 0) &&
  tsOk r && decide (r.configBytes ≤ 1024) && !(decide (r.output = 1) && (decide (r.protect = 1) || decide (r.protect = 2)))

/-- The recipes section is placed: a bad header loads nothing and opens no lane, a bad record is not loaded (R481). -/
def State.loadRecipes (s : State) (x : Recipes) : State :=
  if !recipesOk x then ({ s with mnt := { s.mnt with laneTbl := [], recipes := [] } }).raise .mntCause 0
  else
    let all := (List.range x.records.length).filterMap (fun i => match x.records[i]? with | some (some r) => some (i, r) | _ => none)
    let good := all.filter (fun e => recipeOk e.2)
    let s1 : State := { s with mnt := { s.mnt with laneTbl := x.lanes, recipes := good } }
    let has (n : Nat) : Bool := good.any (fun e => decide (e.1 = n))
    let s2 := (s1.setReg Reg.mntRcpLoaded (BitVec.ofNat 32 (bitsOf 0 has))).setReg (Reg.mntRcpLoaded + 4) (BitVec.ofNat 32 (bitsOf 1 has))
    if good.length < all.length then s2.raise .mntCause 1 else s2

/-! ## Turns (R474) -/

/-- The variant in force, laid out. -/
def State.laid (s : State) : Laid :=
  match s.variant with
  | some v => layVariant v
  | none => layRom s.level s.med.groups.flatten

/-- The place of the running tick on the horizon. -/
def State.horizonTick (s : State) : Nat :=
  (1310720 * (s.ldg.folio.toNat % 4) + (s.ldg.tick - s.ldg.folioStart)) % horizonTicks

/-- The two windows of a turn at `t`: first tick and length. -/
def turnWindows (l : Laid) (door t : Nat) : List (Nat × Nat) :=
  let w := dataTerm l.form door
  let e := egressBase l.level door + w
  let c := completionBase l.level door + cqeTerm l.form door
  if door = 0 then [(t + e - w, w), (t + e + c - 3, 3)] else [(t + e - 120 - w, w), (t + e + c - 128, 8)]

/-- Two windows overlap on the cyclic horizon. -/
def windowsMeet (a b : Nat × Nat) : Bool :=
  decide ((b.1 + horizonTicks - a.1 % horizonTicks) % horizonTicks < a.2) ||
  decide ((a.1 + horizonTicks - b.1 % horizonTicks) % horizonTicks < b.2)

/-- Scan the horizon: a turn at each tick whose windows overlap nothing taken. `n` ticks are left, from `t` on. -/
def scanTurns (l : Laid) (door : Nat) (taken : List (Nat × Nat)) (t : Nat) : Nat → List Nat
  | 0 => []
  | n + 1 =>
    let w := turnWindows l door t
    if w.any (fun a => taken.any (windowsMeet a)) then scanTurns l door taken (t + 1) n
    else t :: scanTurns l door (w ++ taken) (t + 1) n

/-- Turns dealt to a door's lanes in cycle: (tick, lane). -/
def layTurns (l : Laid) (door : Nat) (lanes : List Nat) : List (Nat × Nat) :=
  if lanes.isEmpty then []
  else
    let resv := ((allPlaced l).flatMap (entryResv l l)).filter (fun r => decide (r.door = door))
    let ts := scanTurns l door (resv.map (fun r => (r.at_, r.len))) 0 horizonTicks
    (ts.zip (List.range ts.length)).map (fun p => (p.1, lanes.getD (p.2 % lanes.length) 0))

/-- Largest cyclic gap of a lane's turns, the whole horizon where it has none. -/
def turnGap (ts : List (Nat × Nat)) (lane : Nat) : Nat :=
  let mine := (ts.filter (fun t => decide (t.2 = lane))).map (·.1)
  match mine with
  | [] => horizonTicks
  | a :: r => maxOf ((mine.zip (r ++ [a + horizonTicks])).map (fun p => p.2 - p.1))

def doorNum : Door → Nat
  | .pcie => 0 | .eth0 => 1 | .eth1 => 2

/-- Enabled lanes of a door, in lane order. -/
def doorLanes (tbl : List LaneBind) (door : Nat) : List Nat :=
  (List.range tbl.length).filter (fun i => match tbl[i]? with | some b => b.enabled && decide (doorNum b.door = door) | none => false)

/-- One door of one variant, `v` its number (16 + level for a conservative one): its turns, and the lanes open in it. -/
def State.layDoor (s : State) (l : Laid) (v door : Nat) : State :=
  let lanes := doorLanes s.mnt.laneTbl door
  let ts := layTurns l door lanes
  let s1 : State := { s with ldg := { s.ldg with turns := oput s.ldg.turns (door * 32 + v) ts } }
  lanes.foldl (fun s i =>
    if turnGap ts i ≤ 1792 then s.setReg (Reg.mntLaneOpen + 4 * i) (putBit (s.reg (Reg.mntLaneOpen + 4 * i)) v true)
    else if v < 16 then s.raise .mntCause 2 else s) s1

def State.layLanes (s : State) (l : Laid) (v : Nat) : State := (List.range 3).foldl (fun s d => s.layDoor l v d) s

/-- The layouts of the accepted variants and of the conservative plan's. -/
def State.layAll (s : State) (im : Image) : State :=
  let s1 := s.ldg.accepted.foldl (fun s i => match psVariant im.planSet i with | some v => s.layLanes (layVariant v) i | none => s) s
  let dies := (im.geometry.groups.flatten).map (·.toNat)
  (List.range 4).foldl (fun s l => s.layLanes (layRom l dies) (16 + l)) s1

/-- The copies that the PLAN bank keeps for a resume: LDG_VAR_STATUS, LDG_VAR_WHERE and MNT_LANE_OPEN by register (R95, R474). -/
def planKept : List Nat :=
  (List.range 16).flatMap (fun i => [Reg.ldgVarStatus + 4 * i, Reg.ldgVarWhere + 4 * i, Reg.mntLaneOpen + 4 * i])
def State.keepPlan (s : State) : State :=
  { s with ldg := { s.ldg with keptStatus := planKept.map (fun o => (o, s.reg o)) } }
def State.restorePlan (s : State) : State := s.ldg.keptStatus.foldl (fun s e => s.setReg e.1 e.2) s

end Sys2Proof.Machine
end

