-- ==== Sys2Proof/Machine/MintRows.lean ====
section
/-!
DEFINITION. Minted Reads and the Mint lanes (R317, R467 to R476, R482 to R484). The bytes of the repackaged output are not computed: they
are free values (log entry 89); what only the segment's contents decide comes with the commands.
-/
namespace Sys2Proof.Machine

/-! ## The command (R317, R467 to R471) -/

/-- RECIPE and KEY_SLOT of a Minted Read. -/
def mintRecipe (q : Sqe) : Nat := getField q.cdw13 16 6
def mintSlot (q : Sqe) : Nat := getField q.cdw14 0 12

/-- Key slots that a recipe uses from KEY_SLOT on: the output key, then the input key (R469). -/
def recipeKeys (r : Recipe) : Nat := b2n (decide (r.protect ≠ 0)) + b2n (decide (r.input = 1))

/-- DEST 1's queue pair is bound to the command's account. -/
def State.mintQpOk (s : State) (c : Cmd) : Bool :=
  decide (mintDest c.sqe = 0) ||
  (match ofind s.net.qps (mintQp c.sqe) with | some q => decide (q.account = c.account) && !q.error | none => false)

/-- Every slot used lies in the member's key range (R334), and is of type MINT (R445). -/
def State.mintKeysOwned (s : State) (c : Cmd) (n : Nat) : Bool :=
  decide (n = 0) ||
  (decide (s.keyBase c.member ≤ mintSlot c.sqe) && decide (mintSlot c.sqe + n ≤ s.keyBase c.member + s.keyCount c.member))
def State.mintKeysLoaded (s : State) (c : Cmd) (n : Nat) : Bool :=
  (List.range n).all (fun i => decide ((s.slot (mintSlot c.sqe + i)).type = .mint))

/-- The checks of a Minted Read's acceptance (log entry 90 for their order), none where all pass. -/
def State.mintCheck (s : State) (c : Cmd) (x : Ns) : Option Status :=
  if 1024 < c.count || 2 ≤ mintDest c.sqe || (decide (x.format ≠ 0) && !sqePract c.sqe) then some stInvalidField
  else if x.size < c.slba + c.count then some stLbaOutOfRange
  else if !s.mintQpOk c then some stQpNotBound
  else match ofind s.mnt.recipes (mintRecipe c.sqe) with
    | none => some stRecipeNotLoaded
    | some r =>
      if !s.mintKeysOwned c (recipeKeys r) then some stKeySlot
      else if x.zoned && s.offlineIn x (lbas c.slba c.count) then some stZoneOffline
      else none

/-- Key slots that the named recipe uses. -/
def State.mintKeyCount (s : State) (c : Cmd) : Nat :=
  match ofind s.mnt.recipes (mintRecipe c.sqe) with | some r => recipeKeys r | none => 0

/-- R467: Minted Read. -/
def execMintedRead (h : Nat) (s : State) : Host.Outcome State Fault Refusal :=
  .next (match s.arrivedCmd h (fun o => decide (o = .minted)) with
    | none => s
    | some (c, x) =>
      match s.mintCheck c x with
      | some t => s.toPost h c t
      | none =>
        let secs := (lbas c.slba c.count).map (fun a => s.readSec c.nsid a x false)
        if !s.mintKeysLoaded c (s.mintKeyCount c) || (s.needsKey secs && !s.xtsReady (nsOwner x)) then s.denyKey h c
        else if (s.classLanes (s.classOf c.member) (s.mintDoor c)).isEmpty then s.toPost h c stLaneUnavailable
        else
          let c1 := { c with secs := secs, phase := .accepting }
          (s.setCmd h c1).traceStart h c1 x.zoned)

/-! ## Lanes (R471, R472, R473) -/

/-- Enabled lanes of a class on a door, open or not, in lane order. -/
def State.boundLanes (s : State) (cls : Nat) (d : Door) : List Nat :=
  (List.range s.mnt.laneTbl.length).filter (fun l => match s.mnt.laneTbl[l]? with
    | some b => b.enabled && decide (b.cls = cls) && decide (b.door = d)
    | none => false)

/-- A SEATED class's lane k serves only members whose seat is k modulo the class's lanes on the door (R471). -/
def State.laneSeat (s : State) (l : Nat) (b : LaneBind) (m : Nat) : Bool :=
  match s.seating b.cls, (s.acct m).binding with
  | some _, some x =>
    let all := s.boundLanes b.cls b.door
    decide (all[x.seat % max 1 all.length]? = some l)
  | _, _ => true

/-- The registered Minted Read may hold the lane. -/
def State.laneFits (s : State) (l : Nat) (b : LaneBind) (h : Nat) : Bool :=
  match s.cmd h with
  | some c => decide (s.classOf c.member = b.cls) && decide (s.mintDoor c = b.door) && s.laneSeat l b c.member
  | none => false

/-- The earliest registered of a list of (handle, tick), ties to the lower sequence number. -/
def State.earliest (s : State) : List (Nat × Nat) → Option (Nat × Nat)
  | [] => none
  | w :: ws =>
    match s.earliest ws with
    | none => some w
    | some v =>
      let q (h : Nat) : Nat := match s.cmd h with | some c => c.seq | none => 0
      if decide (w.2 < v.2) || (decide (w.2 = v.2) && decide (q w.1 ≤ q v.1)) then some w else some v

/-- A zoned sector waits for its die or its zero fill; a conventional one for its map lookup. -/
def beginSec (zoned : Bool) (x : Sec) : Sec :=
  if zoned && x.st = .lookup then { x with st := if x.zero then .zeroFill else .waiting } else x

/-- R471: a free lane goes to the earliest registered Minted Read that may use it, whose sectors begin to register. -/
def execMintLaneGrant (l : Nat) (s : State) : Host.Outcome State Fault Refusal :=
  .next (match s.mnt.laneTbl[l]? with
    | none => s
    | some b =>
      if !b.enabled || !s.laneOpen l || (s.lane l).st ≠ .free then s
      else match s.earliest (s.mnt.waiting.filter (fun w => s.laneFits l b w.1)) with
        | none => s
        | some w =>
          match s.cmd w.1 with
          | none => s
          | some c =>
            let zoned := match s.ns c.nsid with | some x => x.zoned | none => false
            let s1 := s.setLane l { st := .held, cmd := w.1, recipe := mintRecipe c.sqe, account := c.account }
            let s2 : State := { s1 with mnt := { s1.mnt with waiting := s1.mnt.waiting.filter (fun v => decide (v.1 ≠ w.1)) } }
            (s2.setCmd w.1 { c with lane := some l, secs := c.secs.map (beginSec zoned) }).registerKick.kick)

/-- The Minted Read that a lane serves. -/
def State.laneCmd (s : State) (l : Nat) : Option Cmd :=
  match s.cmd (s.lane l).cmd with
  | some c => if c.lane = some l then some c else none
  | none => none

/-- A Minted Read ends: the lane is free, and dword 0 returns the bytes written (R468, R484). -/
def State.mintEnd (s : State) (l : Nat) (t : Status) : State :=
  let h := (s.lane l).cmd
  let n := (s.lane l).sent
  let s1 := s.freeLane h
  match s1.cmd h with
  | some c => (s1.toPost h { c with dw0 := n, secs := [], locks := [] } t).kick
  | none => s1

/-- R473: the setup ends, 2,048 ticks after sector 0 entered the ring, and the lane consumes. A key slot that is no longer of its type ends the command (R445, R446). -/
def execMintSetupEnd (l : Nat) (s : State) : Host.Outcome State Fault Refusal :=
  .next (match s.laneCmd l with
    | none => s
    | some c =>
      if (s.lane l).st ≠ .setup || s.ldg.tick < (s.lane l).outAt + 2048 then s
      else if !s.mintKeysLoaded c (s.mintKeyCount c) then (s.raise .cryCause 2).mintEnd l stAccessDenied
      else s.setLane l { s.lane l with st := .consuming })

/-- Output limit of a segment of `n` bytes: 9/8 × L + 4,096 (R468). -/
def mintLimit (n : Nat) : Nat := 9 * n / 8 + 4096

/-- R473: the lane begins consuming its next sector, 2,048 ticks or more after the one before. `sealOk`: the seal matches; `conforms`: no byte of the sector departs from R482;
`seg`: the segment's length as its boxes give it; `out`: output bytes made from the sector. A seal that fails sends the sector back
as a failed decode. -/
def execSectorConsume (l : Nat) (sealOk conforms : Bool) (seg out : Nat) (s : State) : Host.Outcome State Fault Refusal :=
  .next (match s.laneCmd l with
    | none => s
    | some c =>
      let x := s.lane l
      if x.st ≠ .consuming || x.consumedAll || s.ldg.tick < x.outAt + 2048 || (decide (0 < x.next) && decide (x.segLen ≤ 4096 * x.next)) then s
      else match c.secs[x.next]? with
        | none => s
        | some y =>
          if y.poison then s.mintEnd l stUnrecoveredRead
          else if y.st = .withdrawn then s.mintEnd l c.status
          else if y.st ≠ .inRing then s
          else if !y.zero && (!sealOk || !s.keyMatches c y) then s.failDecode x.cmd x.next c y
          else if !conforms || 4096 * c.count < seg || mintLimit seg < x.produced + out then
            (s.raise .mntCause 3).mintEnd l stSegment
          else
            let cost := match ofind s.mnt.recipes x.recipe with | some r => r.cost | none => 0
            let s1 := ((s.addBlocks (48 + l) (256 * cost)).stamp x.cmd 7).setSec x.cmd x.next { y with st := .consumed }
            (s1.setLane l { x with next := x.next + 1, produced := x.produced + out, segLen := seg, outAt := s.ldg.tick,
                                   outBefore := x.produced }).registerKick)

/-! ## Output (R474 to R476) -/

/-- A turn of the lane begins in this tick: one of the variant in force, or of the conservative variant of its level where the lane is
closed (R476). -/
def State.turnNow (s : State) (l : Nat) (d : Door) : Bool :=
  let v := if s.conservative || !s.laneOpen l then 16 + s.level else 4 * s.plan + s.level
  (cget [] s.ldg.turns (32 * doorNum d + v)).contains (s.horizonTick, l)

/-- The turn that begins now overlaps no reservation that a sector granted before the switch still has on the door (R186, R476). -/
def State.turnClear (s : State) (d : Door) : Bool :=
  let door := doorNum d
  let mine := turnWindows s.laid door s.horizonTick
  !s.host.cmds.any (fun e => decide (e.2.door = d) && decide (e.2.op = .read) && e.2.secs.any (fun x =>
    (secUnderWay x || decide (x.st = .checked)) && !x.zero && decide (s.ldg.tick < x.slotAt + horizonTicks) &&
    (turnWindows s.laid door (s.horizonTick + horizonTicks + x.slotAt - s.ldg.tick)).any (fun a => mine.any (windowsMeet a))))

/-- Output bytes complete before this tick. -/
def State.outReady (s : State) (x : Lane) : Nat := if x.outAt < s.ldg.tick then x.produced else x.outBefore

/-- Bytes of the chunk that leaves next, 0 while it is not complete (R475). -/
def State.chunkBytes (s : State) (x : Lane) : Nat :=
  let n := s.outReady x - x.sent
  if 4096 ≤ n then 4096 else if x.consumedAll then n else 0

/-- The whole output has left. -/
def State.mintDone (s : State) (l : Nat) : State :=
  let x := s.lane l
  if x.consumedAll && decide (x.sent = x.produced) then s.mintEnd l stOk else s

/-- Egress count of a chunk of `n` bytes on a door, at the form that the variant in force was compiled for (R139, R141, R475). -/
def State.chunkTicks (s : State) (d : Door) (n : Nat) : Nat :=
  let f := match s.variant with | some v => variantForm v | none => romForm
  egressBase s.level (doorNum d) + (if d = .pcie then pcieTerm n f.gen f.width f.mps else ethTerm n 78 f.ipv6 f.tagged)

/-- R475: a turn of the lane begins; a complete chunk leaves. `room`: bytes left at the destination; `pages`: the host pages that its
writes touch, which a full log ring stalls (R342). A paused port holds the turn (R464). -/
def execMintChunkTurn (l room : Nat) (pages : List (BitVec 64)) (s : State) : Host.Outcome State Fault Refusal :=
  .next (match s.laneCmd l with
    | none => s
    | some c =>
      let x := s.lane l
      let n := s.chunkBytes x
      let d := s.mintDoor c
      let logs := decide (d = .pcie) && s.logging c.account
      let held := s.setCmd x.cmd { c with waitFrom := s.waitMark c.waitFrom }
      if n = 0 || !s.turnNow l d || !s.turnClear d then s
      else if room < n then s.mintEnd l stOutputTooSmall
      else if s.doorPaused d then held
      else if logs && decide (s.dlogRoom < pages.length) then held.raise .actCause 3
      else
        let s1 := if logs then s.dlogWrite c.account pages else s
        let s2 := (s1.setCmd x.cmd { s.waitEnd c c.waitFrom with waitFrom := 0 }).stampAt x.cmd 8 (s1.ldg.tick + s1.chunkTicks d n)
        let p := s2.freeBytes n
        let s3 := if c.silent then p.2 else p.2.dataToHost p.1
        (s3.setLane l { x with sent := x.sent + n }).mintDone l)

/-- R473: the lane has consumed the segment's last byte, at 2 bytes a tick. -/
def execMintLaneEnd (l : Nat) (s : State) : Host.Outcome State Fault Refusal :=
  .next (match s.laneCmd l with
    | none => s
    | some _ =>
      let x := s.lane l
      if x.st = .consuming && !x.consumedAll && decide (0 < x.next) && decide (x.segLen ≤ 4096 * x.next) &&
         decide (x.outAt + ceilDiv (x.segLen - 4096 * (x.next - 1)) 2 ≤ s.ldg.tick) then
        ((s.stamp x.cmd 6).setLane l { x with consumedAll := true }).mintDone l
      else s)

end Sys2Proof.Machine
end

