-- ==== Sys2Proof/Machine/Auth.lean ====
section
/-!
DEFINITION. Authorisation (R538 to R540): the nonce of each path, the checks in their order and what a check leaves behind.
-/
namespace Sys2Proof.Machine

def State.setAuth (s : State) (p : AuthPath) (a : AuthSt) : State :=
  match p with
  | .pf => { s with mgt := { s.mgt with pf := a } }
  | .mi => { s with mgt := { s.mgt with mi := a } }

def pathCode : AuthPath → Nat
  | .pf => 0 | .mi => 1

/-- 10 s of device time (R538). -/
def lockoutTime : Nat := 10000000000

/-- The path is in its lockout. -/
def State.lockedOut (s : State) (p : AuthPath) : Bool :=
  match (s.auth p).lockFrom with
  | some t => decide (s.pwr.time < t + lockoutTime)
  | none => false

/-- The 512 bytes of an authorisation (R539); bytes that are not there read as 0. -/
def readAuth (bs : List Byte) : Auth :=
  let f (i : Nat) : Byte := bs.getD i 0
  let key := bytesAt f 0x80 97
  { magic := leAt f 0 4, action := leAt f 4 1,
    reservedZero := zeroAt f 5 3 && zeroAt f 0x3C 4 && zeroAt f 0x60 32 && zeroAt f 0xE1 31 && zeroAt f 0x160 160,
    nonce := BitVec.ofNat 256 (leAt f 8 32), driveSerial := BitVec.ofNat 160 (leAt f 0x28 20),
    deviceKey := BitVec.ofNat 256 (leAt f 0x40 32), keyDigest := Config.sha384 key,
    sigOk := Config.ecdsaOk key (Config.sha384 (bytesAt f 0 0x100)) (bytesAt f 0x100 96) }

/-- A path issues a fresh nonce, which replaces its live one; none during its lockout (R538). -/
def State.issueNonce (s : State) (p : AuthPath) : Option (BitVec 256) × State :=
  if s.lockedOut p then (none, s)
  else
    let v := Config.freeNonce s.freeCount
    let s1 : State := { s with freeCount := s.freeCount + 1 }
    (some v, s1.setAuth p { s1.auth p with nonce := some ⟨v, s.pwr.time⟩ })

/-- DRAIN began in this tick: what registers in it is judged beside its cause (R80, R555). -/
def State.drainTick (s : State) : Bool := s.mode = .drain && decide (s.boot.phaseStart = s.ldg.tick)

/-- Where an ACTION is admitted (check 2 of R540). -/
def State.actionAdmitted (s : State) (action : Nat) : Bool :=
  match action with
  | 1 => s.mode = .service || s.mode = .throttle || s.mode = .maintenance || s.drainTick
  | 2 => s.mode = .service || s.mode = .throttle || s.drainTick
  | 3 => s.mode = .service || s.mode = .throttle || s.mode = .drain || s.mode = .doze || s.mode = .maintenance
  | 4 => s.mode = .maintenance && decide (s.cry.life = .blank)
  | 5 => s.mode = .maintenance && decide (s.cry.life = .provisioned)
  | _ => false

/-- The first failing check of R540, 0 where all pass. A DEVICE_KEY that R539 wants 0 counts among the reserved fields of check 1 (DEDUCED,
log entry 163). -/
def State.authFails (s : State) (p : AuthPath) (want : Nat) (a : Auth) : Nat :=
  if !(decide (a.magic = 0x48545541) && a.reservedZero && decide (a.action = want) &&
      (decide (a.action = 4) || decide (a.deviceKey = 0))) then 1
  else if !s.actionAdmitted want then 2
  else if s.liveNonce p ≠ some a.nonce then 3
  else if a.driveSerial ≠ s.calSerial then 4
  else if a.keyDigest ≠ s.calKeyHash then 5
  else if !a.sigOk then 6
  else 0

/-- One failure more on a path; the 16th in a row begins its lockout (R538). -/
def State.authFailure (s : State) (p : AuthPath) : State :=
  let a := s.auth p
  if a.fails + 1 = 16 then s.setAuth p { a with fails := 0, lockFrom := some s.pwr.time, nonce := none }
  else s.setAuth p { a with fails := a.fails + 1 }

/-- An attempt: its failing check, and the state after the AUTH record, AUTH_FAIL, the spent nonce and the path's counts
(R540). -/
def State.authorise (s : State) (p : AuthPath) (want : Nat) (a : Auth) : Nat × State :=
  let c := s.authFails p want a
  let s1 := s.event 0x0007 (leBytes 1 a.action ++ leBytes 1 (pathCode p) ++ leBytes 2 c)
  let s2 := if c = 0 || 3 ≤ c then s1.setAuth p { s1.auth p with nonce := none } else s1
  let s3 := if c = 0 then s2.setAuth p { s2.auth p with fails := 0 } else (s2.authFailure p).raise .mgtCause 3
  (c, s3)

/-- Admin status of a failing check (R540). -/
def authStatus (c : Nat) : Status :=
  match c with
  | 1 => stInvalidField
  | 2 => stSequenceError
  | _ => stAuthFailed

/-- NVMe-MI response statuses (PRESUMED: the NVMe-MI specification's values). -/
def miOk : Nat := 0
def miMore : Nat := 1
def miInvalidParam : Nat := 4
def miDenied : Nat := 7

/-- Answer a failed authorisation: the admin status, or Access Denied with the check in dword 0 (R540). -/
def State.authReply (s : State) (v : Via) (c : Nat) : State :=
  match v with
  | .host f cid => s.adminDone f cid (authStatus c) 0
  | .mi id => s.miReply id miDenied c []

def viaPath : Via → AuthPath
  | .host _ _ => .pf
  | .mi _ => .mi

end Sys2Proof.Machine
end

