-- ==== Sys2Proof/Machine/Loops.lean ====
section
/-!
DEFINITION. The thresholds section and its defaults (R521 to R523), and the profile generator of the control loops (R517): a ramp
at VEL toward the target, averaged over VEL / ACC and then over ACC / JERK, so that a move from rest takes the times that R517
states. Slope changes keep VEL / ACC + ACC / JERK apart, which holds every limit.
-/
namespace Sys2Proof.Machine

/-! ## Thresholds (R521 to R523) -/

/-- Output range of a loop (R515). -/
def loopRange (n : Nat) : Nat × Nat := [(650, 900), (0, 1000), (1140, 1260), (0, 1000)].getD n (0, 0)

/-- A loop entry conforms to R522. -/
def loopCfgOk (n : Nat) (l : LoopCfg) : Bool :=
  l.reservedZero && (l.enabled || decide (n = 1) || decide (n = 3)) && decide (1 ≤ l.settleMv) && decide (l.settleMv ≤ 50) &&
  decide (l.vel ≠ 0) && decide (l.acc ≠ 0) && decide (l.jerk ≠ 0) && (decide (n ≠ 0) || decide (l.setpoint = 0)) &&
  decide ((loopRange n).1 ≤ l.outMin) && decide (l.outMin < l.outMax) && decide (l.outMax ≤ (loopRange n).2)

/-- The section conforms to R521 and R522, held against the calibration row's rated segment voltages. -/
def State.thrOk (s : State) (t : Thresholds) : Bool :=
  decide (t.magic = 0x53524854) && decide (t.format = 1) && t.reservedZero && decide (t.sectionBytes = 4096) &&
  decide (60 ≤ t.tWarn) && decide (t.tWarn ≤ 100) && decide (t.tWarn ≤ t.tThrottle) && decide (t.tThrottle ≤ 105) &&
  decide (t.tThrottle < t.tShut) && decide (t.tShut ≤ 115) && decide (1 ≤ t.hyst) && decide (t.hyst ≤ 10) &&
  decide (t.riseRate ≤ 1000) && decide (1 ≤ t.riseTime) && decide (t.riseTime ≤ 30) &&
  decide (100 ≤ t.peRated) && decide (t.peRated ≤ 65535) && decide (365 ≤ t.lifeDays) && decide (t.lifeDays ≤ 36500) &&
  decide (t.rsvRt ≠ 0) && (List.range 8).all (fun n => decide (t.rsvVmin < s.ratedMv n)) && decide (t.rsvPf ≠ 0) &&
  decide (t.dataPrio ≠ t.cnpPrio) && decide (getField t.vlan0 12 3 = 0) && decide (getField t.vlan1 12 3 = 0) &&
  decide (t.loops.length = 4) && (List.range 4).all (fun n => match t.loops[n]? with | some l => loopCfgOk n l | none => false)

/-- The boot ROM's loop entries: loops 0 and 2 (R523), loops 1 and 3 open. Fields that R523 does not list are 0. -/
def romLoop (n : Nat) : LoopCfg :=
  let base : LoopCfg := ⟨true, 6, 25, 0x0400, 0x0100, 0, 50, 20, 10, 0, 650, 900, true⟩
  if n = 0 then base
  else if n = 2 then { base with setpoint := 1200, outMin := 1140, outMax := 1260 }
  else ⟨false, 0, 0, 0, 0, 0, 0, 0, 0, 0, 0, 0, true⟩

/-- The boot ROM defaults (R523). The Reserve fields have none. -/
def romThresholds : Thresholds :=
  ⟨0x53524854, 1, 100, 105, 115, 5, 20, 3, false, 1000, 1826, 0, 0, 0, (false, false), 3, 6, 0, 0, true,
   (List.range 4).map romLoop, 4096⟩

/-- The image's section, where it is placed and conforms. -/
def State.imageThr (s : State) : Option Thresholds :=
  match s.boot.image with
  | some im => if s.thrOk im.thresholds then some im.thresholds else none
  | none => none

/-- The thresholds in force. -/
def State.thr (s : State) : Thresholds := s.imageThr.getD romThresholds

def State.loopCfg (s : State) (n : Nat) : LoopCfg := s.thr.loops.getD n (romLoop 3)

/-! ## The profile (R517) -/

/-- Limits of a profile in the section's units, none 0. -/
structure Limits where
  vel : Nat
  acc : Nat
  jerk : Nat

def limitsOf (c : LoopCfg) : Limits := ⟨max 1 c.vel, max 1 c.acc, max 1 c.jerk⟩

/-- Scaled ticks to the tick, the two averaging times, and their sum. -/
def Limits.scale (l : Limits) : Nat := l.vel * l.acc * l.jerk
def Limits.t1 (l : Limits) : Nat := 1000 * l.vel * l.vel * l.jerk
def Limits.t2 (l : Limits) : Nat := 1000 * l.vel * l.acc * l.acc
def Limits.w (l : Limits) : Nat := l.t1 + l.t2

/-- Scaled distance of a µV: 10 × ACC × JERK × w. -/
def Limits.dist (l : Limits) (uv : Int) : Int := uv * (10 * l.acc * l.jerk * l.w : Nat)

def cube (t a : Nat) : Int := ((t - a) * (t - a) * (t - a) : Nat)

/-- The smoothed unit ramp. -/
def Limits.smooth (l : Limits) (x : Nat) : Int := cube x 0 - cube x l.t1 - cube x l.t2 + cube x l.w

/-- The commanded ramp at scaled tick `t`, scaled; its slope; and the position in µV. -/
def rampAt (l : Limits) (x : Loop) (t : Nat) : Int :=
  x.breaks.foldl (fun p b => p + b.2 * ((t - b.1 : Nat) : Int)) (l.dist x.base)
def slopeOf (bs : List (Nat × Int)) : Int := bs.foldl (fun p b => p + b.2) 0
def profileAt (l : Limits) (x : Loop) (t : Nat) : Int :=
  x.base + (l.jerk : Int) * x.breaks.foldl (fun p b => p + b.2 * l.smooth (t - b.1)) 0 /
    (60000000 * l.scale * l.scale * l.scale * l.w : Nat)

/-- A move by a scaled distance from rest at `t`: at VEL, or slower where the distance is short. -/
def restMove (l : Limits) (t : Nat) (d : Int) : List (Nat × Int) :=
  let n := d.natAbs / l.w
  let dir : Int := if d < 0 then -1 else 1
  if d = 0 then []
  else if l.w ≤ n then [(t, dir * (l.w : Int)), (t + n, -dir * (l.w : Int))]
  else [(t, dir * (n : Int)), (t + l.w, -dir * (n : Int))]

/-- The path is planned anew from the present state (R517). -/
def replan (l : Limits) (x : Loop) (tick : Nat) (target : Int) : Loop :=
  let now := tick * l.scale
  let kept := x.breaks.filter (fun b => decide (b.1 ≤ now))
  let y : Loop := { x with breaks := kept, target := target }
  let s := slopeOf kept
  let te := match kept.getLast? with | some b => max now (b.1 + l.w) | none => now
  let d := l.dist target - rampAt l y te
  let more :=
    if s = 0 then restMove l te d
    else if (0 ≤ d ∧ 0 < s) ∨ (d ≤ 0 ∧ s < 0) then [(te + d.natAbs / s.natAbs, -s)]
    else (te, -s) :: restMove l (te + l.w) d
  { y with breaks := kept ++ more }

/-- One step of the profile at a tick: the position, and the end of the path. -/
def profileStep (l : Limits) (x : Loop) (tick : Nat) : Loop :=
  let now := tick * l.scale
  match x.breaks.getLast? with
  | none => x
  | some b =>
    if b.1 + l.w ≤ now then
      { x with pos := x.target, base := x.target, breaks := [], reachedAt := some tick }
    else { x with pos := profileAt l x now }

end Sys2Proof.Machine
end

