-- ==== Sys2Proof/Machine/Levels.lean ====
section
/-!
DEFINITION. Plan and level requests (R182, R183, R187, R320, R494, R509) and the set-point of the core rail that follows them
(R515, R517): what registers a change, and what the boundary applies.
-/
namespace Sys2Proof.Machine

/-- Core voltage of a level in mV (R494). -/
def levelMv : Nat → Nat
  | 0 => 850 | 1 => 780 | 2 => 720 | _ => 680

/-- The lower-performing of the requested level and the throttle level (R182). -/
def State.levelDue (s : State) : Nat := max s.reqLevel s.throttleLevel

/-! ## Set-points (R517) -/

def loopReg (base n : Nat) : Nat := base + 0x100 * n
def State.loopClosed (s : State) (n : Nat) : Bool := bitOf (s.reg (loopReg Reg.loopCtl n)) 1
def State.loopSettled (s : State) (n : Nat) : Bool := bitOf (s.reg (loopReg Reg.loopCtl n)) 3

/-- MOVING and SETTLED follow a profile that starts toward a target. -/
def State.profileStarts (s : State) (n : Nat) : State :=
  let o := loopReg Reg.loopCtl n
  (s.setFld o 2 1 (b2n (s.loopClosed n && !(s.loop n).breaks.isEmpty))).setFld o 3 1 0

/-- A loop's profile is planned toward its target from its present state. A profile that stands at its target has reached it. -/
def State.planLoop (s : State) (n : Nat) (target : Int) : State :=
  let x := s.loop n
  let y := replan (limitsOf (s.loopCfg n)) x s.ldg.tick target
  let z : Loop := { y with
    from_ := x.pos, wroteTarget := false, lateSet := false, reachedAt := if y.breaks.isEmpty then some s.ldg.tick else none }
  (s.setLoop n z).profileStarts n

/-- A loop's target becomes `mv`. An open loop's profile stands until it closes (R517, R519). -/
def State.setTarget (s : State) (n mv : Nat) : State :=
  let x := s.loop n
  let t : Int := (mv : Int) * 1000
  if x.target = t then s
  else
    let s1 := s.setFld (loopReg Reg.loopSetpoint n) 0 16 mv
    if s1.loopClosed n then s1.planLoop n t
    else (s1.setLoop n { x with target := t, wroteTarget := false, lateSet := false, reachedAt := none }).setFld
      (loopReg Reg.loopCtl n) 3 1 0

/-- Loop 0's set-point: the higher voltage of the level in force and the one due, since a rise moves first and a fall waits
for its boundary (R183). In DOZE it is P3's until a wake registers (R497, R500). -/
def State.syncRail (s : State) : State :=
  if s.mode = .doze && s.pwr.wakeSrc.isNone then s.setTarget 0 (levelMv 3)
  else s.setTarget 0 (levelMv (min s.level s.levelDue))

/-! ## Requests (R182, R320) -/

/-- PENDING of LDG_PLAN_CUR (R191). -/
def State.syncPending (s : State) : State :=
  s.setFld Reg.ldgPlanCur 5 1 (b2n (s.ldg.reqPending || s.ldg.thrPending))

/-- The commands whose request a later write discards complete at once (R320). -/
def State.supersede (s : State) : State :=
  s.ldg.planWaiters.foldl (fun s v => s.reply v stPlanSuperseded 0) { s with ldg := { s.ldg with planWaiters := [] } }

/-- A write of PLAN and LEVEL to LDG_PLAN_REQ registers (R182). -/
def State.planRequest (s : State) (plan level : Nat) : State :=
  let s1 := s.supersede
  let s2 := s1.setReg Reg.ldgPlanReq (setField (setField 0 0 2 plan) 2 2 level)
  ({ s2 with ldg := { s2.ldg with reqPending := true, reqTick := s2.ldg.tick } }).syncPending.syncRail

/-- A command that waits for the boundary of its request (R320). -/
def State.awaitPlan (s : State) (v : Via) : State := { s with ldg := { s.ldg with planWaiters := s.ldg.planWaiters ++ [v] } }

/-- THROTTLE_LEVEL changes to `l` and registers (R509). -/
def State.throttleTo (s : State) (l : Nat) : State :=
  let s1 := s.setFld Reg.ldgPlanCur 6 2 l
  ({ s1 with ldg := { s1.ldg with thrPending := true, thrTick := s1.ldg.tick } }).syncPending.syncRail

/-! ## The boundary (R183, R185, R187) -/

/-- What is due at a boundary: the plan and level of the request, and the throttle level, each only with its lead time. -/
def State.requestDue (s : State) : Bool := s.ldg.reqPending && decide (s.ldg.reqTick + 10240 ≤ s.ldg.tick)
def State.throttleDue (s : State) : Bool := s.ldg.thrPending && decide (s.ldg.thrTick + 10240 ≤ s.ldg.tick)

/-- The accepted variants hold this plan and level. -/
def State.variantAccepted (s : State) (plan level : Nat) : Bool := s.ldg.accepted.contains (4 * plan + level)

/-- A sector whose running stage keeps counting in ticks of a level (R137). -/
def secInStage : SecSt → Bool
  | .lookup => true | .moved => true | .decoded => true | .clear => true | .leaving => true | .zeroFill => true | .zeroReady => true
  | .have => true | .sealed => true | .encrypted => true | .stored => true | .granted => true | .recovering => true
  | .waiting => false | .registered => false | .retryWait => false | .checked => false | .left => false | .withdrawn => false
  | .fetching => false | .inRing => false | .consumed => false

/-- LEVEL_CHANGED of the trace: a stage of the traced command runs across the change of level (R155). -/
def State.traceLevel (s : State) (level : Nat) : State :=
  match s.ldg.traced with
  | none => s
  | some h =>
    match s.cmd h with
    | some c =>
      if decide (level ≠ s.level) && (decide (c.phase ≠ .running) || c.secs.any (fun x => secInStage x.st)) then
        s.setFld Reg.ldgTraceInfo 7 1 1
      else s
    | none => s

/-- What dies carry over a switch: programs and erases go on in the new variant's segments (R184), and seats are counted anew (R176). -/
def State.carryDie (s : State) (d : Nat) (r : DieRt) : State :=
  s.setDie d { r with op := r.op.map (s.rehome d), susp := r.susp.map (s.rehome d), seatCount := [] }

/-- The egress slots of carried sectors are moved where the new level lengthens their later stages (R137, R186). -/
def State.carrySlots (s : State) (old new : Nat) : State :=
  let move (x : Sec) : Sec :=
    if (decide (x.st = .granted) || decide (x.st = .moved) || decide (x.st = .decoded) || decide (x.st = .clear)) then
      { x with slotAt := movedSlot s.ldg.tick old new x.slotAt } else x
  { s with host := { s.host with cmds := omap (fun _ (c : Cmd) => { c with secs := c.secs.map move }) s.host.cmds } }

/-- The variant of a plan and level comes into force: LDG_PLAN_CUR, the conservative plan where it was not accepted (R187), and what the
dies, the bus slots and the egress slots carry over the boundary (R184, R186). -/
def State.putVariant (s : State) (plan level : Nat) : State :=
  let s := s.traceLevel level
  let w := setField (setField (setField (s.reg Reg.ldgPlanCur) 0 2 plan) 2 2 level) 4 1 (b2n (!s.variantAccepted plan level))
  let s1 := ({ s with ldg := { s.ldg with carried := s.carriedSlots } }.carrySlots s.level level).setReg Reg.ldgPlanCur w
  s1.ldg.dies.foldl (fun s e => s.carryDie e.1 e.2) s1

/-- A registered sector whose class has no read entries on its door any more is withdrawn (R591). -/
def State.withdrawUnserved (s : State) : State :=
  s.host.cmds.foldl (fun s e =>
    let door := if e.2.op = .minted then 3 else doorCode e.2.door
    if e.2.phase = .running && !s.doorServed (s.classOf e.2.member) door &&
       e.2.secs.any (fun x => decide (x.st = .waiting) || decide (x.st = .registered)) then
      let out (x : Sec) : Bool := decide (x.st = .waiting) || decide (x.st = .registered)
      let c := { e.2 with status := stDoorNotServed,
                          secs := e.2.secs.map (fun x => if out x then { x with st := .withdrawn } else x) }
      let s1 := s.setCmd e.1 c
      (s1.readKick e.1).doorKick
    else s) s

/-- Switch boundary: a pending change whose lead time has passed takes effect, a rise only once loop 0 has settled at its
voltage (R183). In DOZE the level in force stays P3 until the wake (R497). -/
def State.switchPlan (s : State) (level : Option Nat) : State :=
  let req := if s.requestDue then (s.reqPlan, s.reqLevel) else s.ldg.reqNow
  let thr := if s.throttleDue then s.throttleLevel else s.ldg.thrNow
  let l := level.getD (max req.2 thr)
  let rises := decide (l < s.level)
  if rises && !(s.loopSettled 0 && decide ((s.loop 0).target = (levelMv l : Int) * 1000)) then s
  else if !s.requestDue && !s.throttleDue && decide (l = s.level) then s
  else
    let answered := if s.requestDue then s.ldg.planWaiters else []
    let s1 := s.putVariant req.1 l
    let s2 : State := { s1 with
      ldg := { s1.ldg with
        reqPending := s.ldg.reqPending && !s.requestDue, reqNow := req,
        thrPending := s.ldg.thrPending && !s.throttleDue, thrNow := thr,
        planWaiters := if s.requestDue then [] else s.ldg.planWaiters },
      thm := { s1.thm with lastStep :=
        if s.throttleDue && decide (s.ldg.thrNow < thr) then some s.ldg.folios else s.thm.lastStep } }
    let s3 := s2.syncPending.syncRail.withdrawUnserved
    answered.foldl (fun s v => s.reply v stOk (s.reg Reg.ldgPlanCur).toNat) s3

end Sys2Proof.Machine
end

