-- ==== Sys2Proof/Machine/ReserveOps.lean ====
section
/-!
DEFINITION. The Reserve (R396 to R398, R406, R407): segment tests, charge states, faults and the cover.
-/
namespace Sys2Proof.Machine

/-! ## The cover (R397, R398) -/

/-- Capacitance and V_a that a segment counts with: half its rated value before its first test (R397). -/
def State.segCap (s : State) (n : Nat) : Nat :=
  let x := s.seg n
  if x.failed || !x.charged then 0 else if x.tested then x.capUf else s.ratedUf n / 2
def State.segVa (s : State) (n : Nat) : Nat :=
  let x := s.seg n
  if x.tested then x.va else min x.sensed (s.ratedMv n)

/-- C_n × (V_a² − V_MIN²) in µF × mV², which is 2 × E_n in pJ. -/
def State.segEnergy (s : State) (n : Nat) : Nat := s.segCap n * (s.segVa n * s.segVa n - s.thr.rsvVmin * s.thr.rsvVmin)

/-- 16 × E_use in pJ: 8 × the lesser of 7/8 of the sum and the sum less its largest term. -/
def State.useEnergy (s : State) : Nat :=
  let l := (List.range 8).map s.segEnergy
  min (7 * sumOf l) (8 * (sumOf l - maxOf l))

/-- C_E in MiB: the energy left after 20 ms at P_F, at 24 GB/s × 15/16. -/
def State.coverEnergy (s : State) : Nat :=
  if s.thr.rsvPf = 0 then 0
  else (45 * s.useEnergy - 14400000000 * s.thr.rsvPf) / (32 * s.thr.rsvPf * 1048576)

/-- C_A in MiB. -/
def State.coverArea (s : State) : Nat := 90 * s.populated - 8

def State.coverLimit (s : State) : Nat := match s.boot.image with | some im => im.geometry.coverMib | none => 0

/-- The registers of one segment (R406). -/
def State.syncSeg (s : State) (n : Nat) : State :=
  let x := s.seg n
  let st := if x.failed then 3 else if x.recharging || !x.charged then 2 else if x.tested then 1 else 0
  s.setReg (Reg.pwrRsvSeg + 4 * n) (BitVec.ofNat 32
    (min (if x.tested then x.capUf else s.ratedUf n / 2) (2 ^ 20 - 1) + 2 ^ 20 * st + 2 ^ 22 * b2n (decide (s.rsv.test = some n))))

/-- The cover is computed (R398); COVER_LOW is set in the tick MAR_E falls below MAR. Without an image's thresholds C_eff is 0
(R523). -/
def State.computeCover (s : State) : State :=
  let ce := s.coverEnergy
  let eff := if s.imageThr.isNone then 0 else min s.coverLimit (min ce s.coverArea)
  let mare := min s.mar (4 * eff)
  let fell := decide (s.mar ≤ s.rsv.marE) && decide (mare < s.mar)
  let s1 : State := { s with rsv := { s.rsv with
    coverMib := eff, energyMib := ce, eUseMj := s.useEnergy / 16000000000, marE := mare } }
  let s2 := ((if eff = s.rsv.coverMib then s1 else s1.setShares).setReg Reg.pwrRsvCover (BitVec.ofNat 32 (eff + 2 ^ 12 * min ce 65535))).setReg Reg.pwrRsvLimits
    (BitVec.ofNat 32 mare)
  if fell then s2.raise .rsvCause 1 else s2

/-- Cover keeps its value while a test and its recharge run (R397). -/
def State.coverHeld (s : State) : Bool := s.rsv.test.isSome || s.rsv.segs.any (fun e => e.2.recharging)
def State.recover (s : State) : State := if s.coverHeld then s else s.computeCover

/-! ## Tests (R396) -/

/-- A segment's 24-hour cycle and its place in it. -/
def hours24 : Nat := 24 * 3600000000000
def testPlace (n : Nat) : Nat := (n + 1) * 3 * 3600000000000

/-- Folio 0 begins: the first round of tests is due 60 × (n + 1) s on, and the cycle follows (R396). A restart that does not pass
through OFF keeps the times. -/
def State.scheduleTests (s : State) : State :=
  match s.rsv.cycleFrom with
  | some _ => s
  | none =>
    let t := s.pwr.time
    (List.range 8).foldl (fun s n => s.setSeg n { s.seg n with due := some (t + 60000000000 * (n + 1)) })
      { s with rsv := { s.rsv with cycleFrom := some (t + 480000000000) } }

/-- When segment `n` is due again after a test that was due at `d`. -/
def State.nextDue (s : State) (n d : Nat) : Nat :=
  let c := s.rsv.cycleFrom.getD 0
  if d ≤ c then c + testPlace n else d + hours24

/-- The pin of the running test goes low, and the test is over. -/
def State.endTest (s : State) : State :=
  match s.rsv.test with
  | none => s
  | some n =>
    ({ s with rsv := { s.rsv with test := none, testVa := none },
              pins := { s.pins with segTest := s.pins.segTest &&& ~~~(BitVec.ofNat 8 (2 ^ n)) } }).syncSeg n

/-- A test is stopped without a result: it is due again at once (R51, R396). -/
def State.stopTest (s : State) : State :=
  match s.rsv.test with
  | none => s
  | some n => (s.endTest).setSeg n { s.seg n with due := some s.pwr.time }

/-- Modes in which segments are tested. -/
def testMode : Mode → Bool
  | .service => true | .throttle => true | .doze => true | _ => false

/-- R396: the test of segment `n` starts. -/
def execSegmentTestStart (n : Nat) (s : State) : Host.Outcome State Fault Refusal :=
  .next (let x := s.seg n
    match x.due with
    | none => s
    | some d =>
      if testMode s.mode && decide (n < 8) && s.rsv.test.isNone && x.charged && !x.recharging && s.pins.plossN &&
         decide (d ≤ s.pwr.time) then
        let s1 : State := { s with
          rsv := { s.rsv with test := some n, testFrom := s.ldg.tick, testVa := none },
          pins := { s.pins with segTest := BitVec.ofNat 8 (2 ^ n) } }
        (s1.setSeg n { x with due := some (s.nextDue n d) }).syncSeg n
      else s)

/-- A test has measured C_n in µF: t_d / (R_T × 0.10536), capped at the rated capacitance; SEG_WEAK below 80 % of it. -/
def State.testResult (s : State) (n va td : Nat) : State :=
  let c := if s.thr.rsvRt = 0 then 0 else min (s.ratedUf n) (td * 100000 / (s.thr.rsvRt * 10536))
  let x := { s.seg n with capUf := c, va := va, tested := true, failed := false, recharging := true, testTime := s.pwr.time }
  let s1 := ((s.endTest).setSeg n x).syncSeg n
  if c * 100 < s.ratedUf n * 80 then s1.raise .rsvCause 3 else s1

/-- R396: a sample of the segment under test, in mV: V_a at +100,000 ticks, then every 1,000 ticks until 0.9 × V_a. -/
def execSegmentTestSample (mv : Nat) (s : State) : Host.Outcome State Fault Refusal :=
  .next (match s.rsv.test with
    | none => s
    | some n =>
      let t := s.ldg.tick - s.rsv.testFrom
      match s.rsv.testVa with
      | none => if t = 100000 then { s with rsv := { s.rsv with testVa := some mv } } else s
      | some va =>
        if decide (100000 < t) && decide ((t - 100000) % 1000 = 0) && decide (10 * mv ≤ 9 * va) then s.testResult n va (t - 100000)
        else s)

/-- R396: the test has not ended 100,000,000 ticks after its first sample: TEST_INVALID, and the previous C_n is kept. -/
def execTestInvalid (s : State) : Host.Outcome State Fault Refusal :=
  .next (match s.rsv.test with
    | none => s
    | some n =>
      if s.rsv.testFrom + 100000 + 100000000 ≤ s.ldg.tick then
        (((s.endTest).setSeg n { s.seg n with recharging := true, testTime := s.pwr.time }).syncSeg n).raise .rsvCause 2
      else s)

/-! ## Charge states (R397) -/

/-- The Reserve is sensed: the LDG island is on. -/
def State.rsvSensed (s : State) : Bool := s.islandOn .ldg

/-- R397: segment `n` senses below 0.90 of its voltage outside a test and its recharge, and fails. A fault ends another
segment's test, and both count as 0 (R403). -/
def execSegFault (n mv : Nat) (s : State) : Host.Outcome State Fault Refusal :=
  .next (let x := s.seg n
    let base := if x.tested then x.va else s.ratedMv n
    if !s.rsvSensed || decide (8 ≤ n) || decide (s.rsv.test = some n) || x.recharging || x.failed ||
       !(x.tested || x.everCharged) || decide (90 * base ≤ 100 * mv) then s
    else
      let s1 := (s.setSeg n { x with sensed := mv, failed := true, charged := false }).syncSeg n
      let s2 := match s1.rsv.test with
        | some k => let s2 := s1.stopTest
                    (s2.setSeg k { s2.seg k with charged := false, recharging := true }).syncSeg k
        | none => s1
      (s2.raise .rsvCause 0).computeCover)

/-- R397: a segment's sensed voltage crosses 0.98 of its V_a, or before its first test of its rated voltage. -/
def execSegmentCharged (n mv : Nat) (s : State) : Host.Outcome State Fault Refusal :=
  .next (let x := s.seg n
    let base := if x.tested then x.va else s.ratedMv n
    let full := decide (98 * base ≤ 100 * mv)
    if !s.rsvSensed || decide (8 ≤ n) || decide (s.rsv.test = some n) then s
    else
      let y := { x with sensed := mv, charged := full, everCharged := x.everCharged || full,
                        recharging := x.recharging && !full }
      ((s.setSeg n y).syncSeg n).recover)

end Sys2Proof.Machine
end

