-- ==== Sys2Proof/Machine/Drain.lean ====
section
/-!
DEFINITION. DRAIN and FLUSH (R77, R80, R399, R400) and the replay that follows them (R400, R401): what their causes do at once,
the flush area, and what LOAD step 9 restores.
-/
namespace Sys2Proof.Machine

/-! ## Causes (R77, R80, R496) -/

/-- A sleep request loses to another transition and completes with Sleep Abandoned (R80, R496). -/
def State.loseSleep (s : State) : State :=
  match s.pwr.sleep with
  | some e => ({ s with pwr := { s.pwr with sleep := none } }).reply e.via stSleepAbandoned 0
  | none => s

/-- CSTS.SHST of every enabled controller in DRAIN (R97): 1 until drained, then 2. -/
def State.showShst (s : State) (v : Nat) : State :=
  s.host.ctrls.foldl (fun s e => if bitOf e.2.cc 0 then s.setCtrl e.1 { s.ctrl e.1 with shst := v } else s) s

/-- DRAIN begins, from SERVICE or THROTTLE (R77); a running segment test ends (R396). -/
def State.enterDrain (s : State) (why : DrainFor) (c : ModeCause) : State :=
  if s.mode = .service || s.mode = .throttle then
    let s1 := (s.loseSleep.stopTest.enter .drain c).showShst 1
    { s1 with pwr := { s1.pwr with drainFor := some why, drained := false, folioMove := none } }
  else s

/-- The detail of a discarded request, by its opcode (0 for a write to NSSR) and its path (R546 TYPE 0x0009). -/
def lostRequest (from_ : Nat × Nat) : List Byte :=
  leBytes 1 (if from_.1 = 0 then Config.nssrOpcode.toNat else from_.1) ++ leBytes 1 from_.2

/-- A restart or MAINTENANCE request that loses is discarded and recorded (R80, R546 TYPE 0x0009). -/
def State.discardRequest (s : State) : State :=
  if s.pwr.drainFor = some .restart || s.pwr.drainFor = some .maintenance then
    s.event 0x0009 (lostRequest s.pwr.drainReq)
  else s

/-! ## FLUSH step 1 (R399) -/

/-- All of a write's data is in the XFR bank, or is made by the device; a deallocation's work is not (R393). -/
def dataHeld (c : Cmd) : Bool :=
  c.phase = .running && c.admitted && !isDealloc c && c.pooled &&
  (destSecs c).all (fun x => decide (x.st ≠ .fetching))

/-- The seal and cipher stages of a write's remaining sectors: none where the protection information of one of them fails (R292) or the
key is not there (R445). -/
def State.sealAll (s : State) (c : Cmd) : Option Cmd :=
  let f := s.fmtOf c
  let open_ (x : Sec) : Bool := decide (x.st = .have)
  if ((List.range c.secs.length).zip c.secs).any (fun p => open_ p.2 && (piFails c p.1 p.2 f).isSome) then none
  else
    let d := { c with secs := c.secs.map (fun x =>
      if open_ x || decide (x.st = .zeroFill) then { x with appTag := storedTag c x f, xts := s.xtsRead (s.ownerOf c) } else x) }
    if (destSecs d).any (fun x => x.xts.isNone) then none else some d

/-- One write-type command at FLUSH, in acceptance order: secured where its data is held and its zone has lost no earlier write;
else it stays ACCEPTED, and its zone returns to what it was before the first such command (R389). -/
def State.flushOne (p : State × List Nat) (e : Nat × Cmd) : State × List Nat :=
  match p.1.cmd e.1 with
  | none => p
  | some c =>
    if !writeType c.op || c.secured || c.seq = 0 || c.phase = .posting then p
    else
      let lost := match c.zone with | some z => p.2.contains z | none => false
      match (if dataHeld c && !lost then p.1.sealAll c else none) with
      | some d => (p.1.secureNow e.1 d, p.2)
      | none =>
        match c.zone, c.before with
        | some z, some b =>
          if lost then p else (p.1.setZone z (rollZone (p.1.zone z) b), z :: p.2)
        | _, _ => p

/-- An acceptance that has begun finishes (R399 step 1): its record is written, and a Zone Management Send that passes its checks runs. -/
def State.acceptOne (s : State) (h : Nat) : State :=
  match s.cmd h with
  | none => s
  | some c =>
    if c.phase ≠ .arrived && c.phase ≠ .accepting then s
    else match c.op with
      | .zoneMgmt _ _ =>
        let s1 := if c.phase = .arrived then s.runSend h c.op else s
        match s1.cmd h with
        | some d => if d.phase = .accepting then (s1.setCmd h { d with phase := .running }).setRec d.seq (acceptedRec d) else s1
        | none => s1
      | _ => s.setRec c.seq (acceptedRec c)

/-- The acceptances of FLUSH end in acceptance order. -/
def State.flushAccept (s : State) : State := s.bySeq.foldl (fun s e => s.acceptOne e.1) s

/-- The commands left at FLUSH: data held runs to SECURED, waiting Finish and Reset operations take effect, and no completion is
posted. -/
def State.flushCommands (s : State) : State :=
  let s1 := s.flushAccept
  let s2 := (s1.bySeq.foldl State.flushOne (s1, [])).1
  let s3 : State := { s2 with host := { s2.host with cmds := s2.host.cmds.filter (fun e => !writeType e.2.op) } }
  let s4 := s3.mgmtKick
  { s4 with host := { s4.host with cmds := [] } }

/-- Every die is reset; its programs and erases count as not done, and replay judges the moves (R399, R279). -/
def State.flushDies (s : State) : State :=
  s.ldg.dies.foldl (fun s e => s.setDie e.1 { e.2 with
    read := none, op := none, susp := [], entry15 := none, slots := [] }) s

/-- A FLUSH cause in SERVICE, THROTTLE, DRAIN or DOZE (R77, R399). -/
def State.enterFlush (s : State) (why : OffReason) (c : ModeCause) : State :=
  if modeLedger s.mode then
    let s1 := s.discardRequest.loseSleep
    let s2 : State := { s1 with pwr := { s1.pwr with drainFor := none, folioMove := none, flushFor := why } }
    let s3 := (s2.stopTest.norAbandon.flushDies.flushCommands).enter .flush c
    ({ s3 with db := { s3.db with flushStart := s3.ldg.tick } }).setTarget 0 (levelMv 0)
  else s

/-! ## The flush area (R399 to R401) -/

/-- An area is held until the last sector restaged from it settles. -/
def State.areaHeld (s : State) (a : Area) : Bool :=
  a.held && (s.med.sectors.any (fun e => decide (e.2.place = .staged) && decide (e.2.seq ≤ a.highSeq)) ||
             s.med.conv.any (fun e => decide (e.2.place = .staged) && decide (e.2.seq ≤ a.highSeq)))

/-- Area A is the newest valid one. -/
def State.newestA (s : State) : Bool := s.db.areaA.valid && (!s.db.areaB.valid || decide (s.db.areaB.serial < s.db.areaA.serial))

/-- The area is written: not the one held, else not the newest valid one; the other is released. -/
def State.writeArea (s : State) (drain : Bool) : State :=
  let x : Area := {
    valid := true, serial := max s.db.areaA.serial s.db.areaB.serial + 1, highSeq := s.db.nextSeq - 1, recs := s.db.recs,
    sectors := s.med.sectors.filter (fun e => decide (e.2.place = .staged)),
    conv := s.med.conv.filter (fun e => decide (e.2.place = .staged)), drain := drain }
  let useA := if s.areaHeld s.db.areaA then false else if s.areaHeld s.db.areaB then true else !s.newestA
  let db := if useA then { s.db with areaA := x, areaB := { s.db.areaB with held := false } }
    else { s.db with areaB := x, areaA := { s.db.areaA with held := false } }
  { s with db := db, pwr := { s.pwr with flushCopy :=
      ⟨s.pwr.time, s.pwr.frac, s.pwr.hours, s.pwr.minutes, s.pwr.cycles⟩ } }

/-! ## Replay (R401, R279) -/

/-- The newest valid area, with a marker for A. -/
def State.newestArea (s : State) : Option (Bool × Area) :=
  if s.newestA then some (true, s.db.areaA) else if s.db.areaB.valid then some (false, s.db.areaB) else none

/-- The sectors of one record come back into staging; they take no cover, so they count for no member. -/
def State.restage (s : State) (f : Area) (q : Nat) : State :=
  { s with med := { s.med with
      sectors := (f.sectors.filter (fun e => decide (e.2.seq = q))).foldl (fun m e => oput m e.1 { e.2 with member := 0xFFF }) s.med.sectors,
      conv := (f.conv.filter (fun e => decide (e.2.seq = q))).foldl (fun m e => oput m e.1 { e.2 with member := 0xFFF }) s.med.conv } }

/-- Sectors of a record that stand in staging. -/
def State.stagedWith (s : State) (q : Nat) : Nat :=
  let mine (e : Nat × Stored) : Bool := decide (e.2.place = .staged) && decide (e.2.seq = q)
  (s.med.sectors.filter mine).length + (s.med.conv.filter mine).length

/-- A SECURED record after its sectors are restaged: PENDING counts those still to settle, and with none left it is SETTLED (R384). -/
def restaged (r : Rec) (n : Nat) : Rec := { r with pending := n, state := if n = 0 then .settled else .secured }

/-- One record of the area; one that an earlier replay brought back and that has been spilled or covered since is RETIRED. -/
def State.replayRec (f : Area) (s : State) (e : Nat × Rec) : State :=
  if decide (e.1 ≤ s.med.covered) || (ofind s.db.spill e.1).isSome then s else
  let r := e.2
  let told := !f.told && !r.posted && decide (r.kind ≠ .mapCommit)
  let s1 := if told then s.undelivered r.member r.queue r.cid r.status e.1 else s
  let r1 : Rec := { r with undelivered := r.undelivered || told }
  match r.state with
  | .settled => s1.setRec e.1 r1
  | .secured => let s2 := s1.restage f e.1; s2.setRec e.1 (restaged r1 (s2.stagedWith e.1))
  | .accepted =>
    if r.kind = .write && !f.told && (match s1.ns r.nsid with | some x => x.zoned | none => false) then s1.raise .dbCause 1
    else s1

/-- Length of the stored prefix of a zone, up to `n` sectors. -/
def prefixLen (m : List (Nat × Stored)) (z : Nat) (o : Nat) : Nat → Nat
  | 0 => o
  | n + 1 => if (ofind m (zoneKey z o)).isSome then prefixLen m z (o + 1) n else o

/-- A zone's pointers return to the end of its stored data, where a loss that no FLUSH preceded took some of it. -/
def State.clipZone (s : State) (z : Nat) : State :=
  let x := s.zone z
  let top := min x.secWp x.finish
  let p := prefixLen s.med.sectors z 0 top
  if x.state = .full && decide (x.finish = zoneSectors) && decide (p < zoneSectors) then
    s.setZone z { x with state := .implicitOpen, wp := p, secWp := p }
  else if x.state = .full && decide (p = top) then s
  else if x.state = .full then s.setZone z { x with finish := p, secWp := p }
  else if x.state = .empty || x.state = .offline || x.state = .readOnly then s
  else s.setZone z { x with wp := p, secWp := p }

/-- A move outlives a restart: one that is committed, and a fold whose wordline is written, whose verification reads are run anew (R279). -/
def keptMove (m : Move) : Bool :=
  decide (m.step = 4) || (decide (m.step = 1) && (decide (m.kind = .fold) || decide (m.kind = .evacuation)))

/-- Other data than the move's copy stands in its destination: a bound block's units, or a pool block's sectors. -/
def State.dstShared (s : State) (m : Move) : Bool :=
  !m.keys.isEmpty && (m.zone.isSome || s.med.conv.any (fun e => decide (e.2.place ≠ .staged) && decide (e.2.die = m.srcDie) &&
    decide (e.2.block = m.dstBlock)))

/-- Moves not committed before the restart are not resumed, and their destination blocks go to erase (R279). -/
def State.dropMoves (s : State) : State :=
  let s1 := (s.med.moves.filter (fun e => !keptMove e.2 && !s.dstShared e.2)).foldl (fun s e => s.freeBlock e.2.srcDie e.2.dstBlock) s
  { s1 with med := { s1.med with moves := omap (fun _ (m : Move) => { m with vreads := 0 }) (s1.med.moves.filter (fun e => keptMove e.2)) } }

/-- The sequence number after every one that flash names: in the metadata, the spill log and a flush area. -/
def State.seqAfter (s : State) (high : Nat) : Nat := max (max high s.med.covered) (maxOf (s.db.spill.map (·.1))) + 1

/-- LOAD step 9. -/
def State.replay (s : State) : State :=
  let s0 := match s.newestArea with
    | none => ({ s with db := { s.db with nextSeq := s.seqAfter 0, lastStop := 0 } }).raise .dbCause 2
    | some (isA, f) =>
      let s1 : State := { s with db := { s.db with nextSeq := s.seqAfter f.highSeq, lastStop := if f.drain then 1 else 2 } }
      if f.replayed then s1
      else
        let s2 := f.recs.foldl (State.replayRec f) s1
        let g : Area := { f with replayed := true, told := true, held := !(f.sectors.isEmpty && f.conv.isEmpty) }
        { s2 with db := if isA then { s2.db with areaA := g } else { s2.db with areaB := g } }
  (s0.med.zones.foldl (fun s e => s.clipZone e.1) s0).dropMoves.divertFailed

end Sys2Proof.Machine
end

