-- ==== Sys2Proof/Machine/NorFlash.lean ====
section
/-!
DEFINITION. The boot flash commands (spec 04): NOR_OP_CMD by the MP (R109, R111, R113, R129), the end of an operation
(R123, R126, R130, R550), and the BUSY_BANK fault (R110).
-/
namespace Sys2Proof.Machine

/-- The NOR registers are reached by the MP, in a mode that powers MGT, while the MP runs. -/
def State.mpActs (s : State) : Bool := s.islandOn .mgt && decide (s.mgt.mp = .running) && !s.mgt.clockStopped

/-- R109: NOR_OP_CMD OP 0b01 with PAGES, the bytes at NOR_OP_SRC, and the address of the MP's latest NOR fetch. -/
def execNorProgram (pages : Nat) (data : List Byte) (fetch : Option Nat) (s : State) : Host.Outcome State Fault Refusal :=
  .next (if s.mpActs then s.norStart .program pages data fetch else s)

/-- R109: NOR_OP_CMD OP 0b10. -/
def execNorSubsectorErase (fetch : Option Nat) (s : State) : Host.Outcome State Fault Refusal :=
  .next (if s.mpActs then s.norStart .subsector 0 [] fetch else s)

/-- R109: NOR_OP_CMD OP 0b11. -/
def execNorSectorErase (fetch : Option Nat) (s : State) : Host.Outcome State Fault Refusal :=
  .next (if s.mpActs then s.norStart .sector 0 [] fetch else s)

/-- The status of an operation that the MP started, as it ends (R130). -/
def State.norDone (s : State) (ok : Bool) : State :=
  (s.setReg Reg.norOpStatus (putBit (s.reg Reg.norOpStatus) 1 true)).setFld Reg.norOpStatus 2 2 (if ok then 0 else 2)

/-- What the end of an operation does for its owner; a failure sets OP_FAILED whoever started it (R131). -/
def State.norOwnerEnd (s : State) (o : NorOp) (ok : Bool) : State :=
  match o.owner with
  | .mp =>
    let s1 := s.norDone ok
    let s2 := if ok then s1.norApply o else (s1.norSpoil o).raise .norCause 5
    match s2.nor.calWaiter with
    | some id => ({ s2 with nor := { s2.nor with calWaiter := none } }).miReply id (if ok then 0 else 2) 0 []
    | none => s2
  | .update =>
    let s1 := s.norDone ok
    match s.nor.update with
    | some u => if ok then s1.updStep u o else ((s1.norSpoil o).raise .norCause 5).updFail u
    | none => if ok then s1.norApply o else (s1.norSpoil o).raise .norCause 5
  | .recorder => if ok then s.clearStep else (s.raise .norCause 5).raise .evtCause 3

/-- The operation ends: its owner's effect, then the reset that a watchdog expiry held back (R126), then whatever waits for
the controller. -/
def State.norEnd (s : State) (o : NorOp) (ok : Bool) : State :=
  let s1 := ({ s with nor := { s.nor with op := none } }).norOwnerEnd o ok
  let s2 := if s1.nor.haltMp then ({ s1 with nor := { s1.nor with haltMp := false } }).mpReset else s1
  let s3 := if s2.nor.resumeDue && s2.mgt.mp = .running then s2.updResume else s2
  s3.norKick

/-- R130: an operation ends; the recorder's page programs end with EVT_PROGRAM_DONE. -/
def execNorOpComplete (ok : Bool) (s : State) : Host.Outcome State Fault Refusal :=
  match s.nor.op with
  | none => .next s
  | some o => .next (if o.owner = .recorder && !s.evt.prog.isEmpty then s else s.norEnd o ok)

/-- R110: the MP reads or fetches from `addr` while a program or erase runs in that bank. A fetch also shows in FETCH_BANK
(R111). -/
def execBusyBankFault (addr : Nat) (fetch : Bool) (s : State) : Host.Outcome State Fault Refusal :=
  match s.nor.op with
  | none => .next s
  | some o =>
    .next (if norBank o.addr = norBank addr && s.islandOn .mgt then
        let s1 := if fetch then s.setFetchBank (some addr) else s
        ({ s1 with nor := { s1.nor with busFault := some (addr, fetch) } }).raise .norCause 0
      else s)

end Sys2Proof.Machine
end

