-- ==== Sys2Proof/Machine/Proc.lean ====
section
/-!
DEFINITION. The embedded processors (R33, R529) and the MP watchdog (R126, R530).
-/
namespace Sys2Proof.Machine

/-- Identity of a processor on the key-management lock (R567). -/
def procId : Proc → Nat
  | .mp => 0 | .mdp n => 1 + n.val

/-- A processor is powered and out of reset (R75). -/
def State.procUp (s : State) : Proc → Bool
  | .mp => s.islandOn .mgt && decide (s.mgt.mp = .running)
  | .mdp n => s.islandOn .mdp && !s.mgt.mdpDown.contains n.val

/-- R33: a processor faults and its island reset begins; an MP fault during LOAD restarts LOAD (R91). A reset frees the
key-management lock it holds (R451). -/
def execProcessorFault (p : Proc) (s : State) : Host.Outcome State Fault Refusal :=
  .next (if s.procUp p then
      match p with
      | .mp => s.mpReset
      | .mdp n =>
        let s1 := s.kmIslandReset (procId p)
        { s1 with mgt := { s1.mgt with mdpDown := n.val :: s1.mgt.mdpDown } }
    else s)

/-- R33: a restarted processor returns to service; the MP sets MP_RESTART (R557) and reads its progress record (R125). -/
def execIslandRestartComplete (p : Proc) (s : State) : Host.Outcome State Fault Refusal :=
  .next (match p with
    | .mp =>
      if s.mgt.mp = .restarting then
        (s.mpRelease.raise .mgtCause 2).updRestart
      else s
    | .mdp n => { s with mgt := { s.mgt with mdpDown := s.mgt.mdpDown.filter (fun m => decide (m ≠ n.val)) } })

/-- An expiry (R126, R530): WDOG_EXPIRED and its event record, then MGT resets, or the MP halts until a running NOR operation
ends. -/
def State.watchdogExpire (s : State) : State :=
  let s1 := (s.countFld Reg.mgtWdogStatus 24 8 1).raiseEach .mgtCause 0
  if s1.nor.op.isSome then
    ({ s1 with mgt := { s1.mgt with mp := .halted }, nor := { s1.nor with haltMp := true } }).raise .norCause 3
  else s1.mpReset

/-- R530: the MP writes MGT_WDOG_KICK. -/
def execWatchdogKick (key : BitVec 16) (s : State) : Host.Outcome State Fault Refusal :=
  .next (if s.mpActs then
      (if key = 0xA5C3 then s.setFld Reg.mgtWdogStatus 0 17 65536 else (s.raise .mgtCause 1).watchdogExpire)
    else s)

/-- R530: the count has reached 0. -/
def execWatchdogExpiry (s : State) : Host.Outcome State Fault Refusal :=
  .next (if s.mpActs && s.fld Reg.mgtWdogStatus 0 17 = 0 then s.watchdogExpire else s)

/-- R530: the idle MP stops MGT's clock. -/
def execMgtClockStop (s : State) : Host.Outcome State Fault Refusal :=
  .next (if s.mpActs && (s.mode = .doze || s.mode = .maintenance) then
      { s with mgt := { s.mgt with clockStopped := true, stopped := 0 } }
    else s)

/-- R530: AON restarts MGT's clock. -/
def execMgtClockRestart (s : State) : Host.Outcome State Fault Refusal :=
  .next { s with mgt := { s.mgt with clockStopped := false } }

end Sys2Proof.Machine
end

