-- ==== Sys2Proof/Machine/I3c.lean ====
section
/-!
DEFINITION. The I3C target (R531 to R535): the CCCs it answers and when, and MCTP packets in private transfers. `i3cAck` and
`i3cData` hold what the target drove in the last transfer.
-/
namespace Sys2Proof.Machine

/-- What the target does with CCCs in a mode (R533): answered, or not (NACKed when direct, ignored when broadcast). -/
def State.cccServed (s : State) : Bool :=
  s.islandOn .aon && (match s.mode with
    | .off => false | .strap => false | .hibernate => false | _ => true)

/-- Private transfers are served by the MP (R529, R533). -/
def State.privateServed (s : State) : Bool :=
  s.mpActs && (match s.mode with
    | .load => decide (4 < s.boot.step)
    | .train => true | .service => true | .throttle => true | .drain => true | .doze => true | .maintenance => true
    | _ => false)

def State.dynAddr (s : State) : Nat := s.fld Reg.mgtI3cStatus 0 7
def State.daValid (s : State) : Bool := bitOf (s.reg Reg.mgtI3cStatus) 7
def State.eid (s : State) : Nat := s.fld Reg.mgtI3cStatus 11 8

/-- 0x30 + SLOT_ID[3:0]. -/
def State.staticAddr (s : State) : Nat := 0x30 + s.fld Reg.aonStrap 0 4

/-- The target is addressed at its dynamic address. -/
def State.addressed (s : State) (addr : BitVec 7) : Bool := s.daValid && decide (s.dynAddr = addr.toNat)

/-- The target acknowledges and returns bytes, or does not acknowledge. -/
def State.i3cOk (s : State) (bs : List Byte) : State := { s with mgt := { s.mgt with i3cAck := true, i3cData := bs } }
def State.i3cNack (s : State) : State := { s with mgt := { s.mgt with i3cAck := false, i3cData := [] } }

/-- A direct CCC that returns bytes. -/
def State.cccRead (s : State) (addr : BitVec 7) (bs : List Byte) : State :=
  if s.cccServed && s.addressed addr then s.i3cOk bs else s.i3cNack

/-- Take a dynamic address: DYN_ADDR, DA_VALID, DA_HOW (R558). -/
def State.takeAddr (s : State) (addr : BitVec 7) (how : Nat) : State :=
  s.setFld Reg.mgtI3cStatus 0 10 (addr.toNat + 128 + 256 * how)

/-- The provisioned ID, most significant byte first, then BCR and DCR (R531, R532). -/
def State.pidBytes (s : State) : List Byte := (leBytes 6 s.pid).reverse

/-- R531: ENTDAA; the round that the target takes part in gives it an address where it wins the arbitration. -/
def execEntdaa (won : Option (BitVec 7)) (s : State) : Host.Outcome State Fault Refusal :=
  .next (if s.cccServed && !s.daValid then
      let s1 := s.i3cOk (s.pidBytes ++ [0, 0])
      match won with
      | some a => s1.takeAddr a 1
      | none => s1
    else s.i3cNack)

/-- R531, R533: RSTDAA clears the dynamic address, and the EID that is held with it (R535). -/
def execRstdaa (s : State) : Host.Outcome State Fault Refusal :=
  .next (if s.cccServed then ((s.i3cOk []).setFld Reg.mgtI3cStatus 0 10 0).setFld Reg.mgtI3cStatus 11 8 0 else s)

/-- R531: SETDASA at the static address while there is no dynamic address. -/
def execSetdasa (staticA new : BitVec 7) (s : State) : Host.Outcome State Fault Refusal :=
  .next (if s.cccServed && !s.daValid && decide (staticA.toNat = s.staticAddr) then (s.i3cOk []).takeAddr new 2
    else s.i3cNack)

/-- R531: SETNEWDA replaces the dynamic address. -/
def execSetnewda (addr new : BitVec 7) (s : State) : Host.Outcome State Fault Refusal :=
  .next (if s.cccServed && s.addressed addr then (s.i3cOk []).takeAddr new 3 else s.i3cNack)

/-- R532: GETPID. -/
def execGetpid (addr : BitVec 7) (s : State) : Host.Outcome State Fault Refusal := .next (s.cccRead addr s.pidBytes)

/-- R531: GETBCR. -/
def execGetbcr (addr : BitVec 7) (s : State) : Host.Outcome State Fault Refusal := .next (s.cccRead addr [0x00])

/-- R531: GETDCR. -/
def execGetdcr (addr : BitVec 7) (s : State) : Host.Outcome State Fault Refusal := .next (s.cccRead addr [0x00])

/-- R531: GETSTATUS: MCTP packets waiting, 0 to 15, in bits [3:0]. -/
def execGetstatus (addr : BitVec 7) (s : State) : Host.Outcome State Fault Refusal :=
  .next (s.cccRead addr [0, BitVec.ofNat 8 (min s.mgt.mctpOut.length 15)])

/-- R531: GETMWL, 69 bytes, most significant byte first. -/
def execGetmwl (addr : BitVec 7) (s : State) : Host.Outcome State Fault Refusal := .next (s.cccRead addr [0, 69])

/-- R531: GETMRL. -/
def execGetmrl (addr : BitVec 7) (s : State) : Host.Outcome State Fault Refusal := .next (s.cccRead addr [0, 69])

/-- R531: SETMWL: below 69 NACKed, otherwise stored without effect. -/
def execSetmwl (addr : BitVec 7) (v : Nat) (s : State) : Host.Outcome State Fault Refusal :=
  .next (if s.cccServed && s.addressed addr && decide (69 ≤ v) then
      (let s1 := s.i3cOk []
       { s1 with mgt := { s1.mgt with mwl := v } })
    else s.i3cNack)

/-- R531: SETMRL. -/
def execSetmrl (addr : BitVec 7) (v : Nat) (s : State) : Host.Outcome State Fault Refusal :=
  .next (if s.cccServed && s.addressed addr && decide (69 ≤ v) then
      (let s1 := s.i3cOk []
       { s1 with mgt := { s1.mgt with mrl := v } })
    else s.i3cNack)

/-- ENEC and DISEC: broadcast (no address) or direct, accepted without effect. -/
def State.cccIdle (s : State) (addr : Option (BitVec 7)) : State :=
  match addr with
  | none => if s.cccServed then s.i3cOk [] else s
  | some a => if s.cccServed && s.addressed a then s.i3cOk [] else s.i3cNack

/-- R531: ENEC. -/
def execEnec (addr : Option (BitVec 7)) (s : State) : Host.Outcome State Fault Refusal := .next (s.cccIdle addr)

/-- R531: DISEC. -/
def execDisec (addr : Option (BitVec 7)) (s : State) : Host.Outcome State Fault Refusal := .next (s.cccIdle addr)

/-! ## MCTP packets (R534, R535) -/

/-- A private transfer while only AON is up: NACKed, and a match of the static address sets EARLY_MATCH (R533). -/
def State.earlyMatch (s : State) (addr : BitVec 7) : State :=
  if s.islandOn .aon && (s.mode = .off || s.mode = .strap) && decide (addr.toNat = s.staticAddr) then
    (s.i3cNack).setFld Reg.mgtI3cStatus 10 1 1
  else s.i3cNack

/-- A whole message reaches the MP where its type is MCTP control or NVMe-MI; other types are dropped (R535). -/
def State.takeMsg (s : State) (m : List Byte) : State :=
  let t := (m.getD 0 0).toNat % 128
  let s : State := { s with mgt := { s.mgt with mctpIn := [] } }
  if t = 0 || t = 4 then { s with mgt := { s.mgt with mctpMsgs := s.mgt.mctpMsgs ++ [m] } } else s

/-- A packet: version, destination EID, source EID, flags (SOM, EOM), payload, PEC. A message over 4,352 bytes is dropped and
MCTP_DROP set (R535); a packet for another endpoint, or that continues nothing, is dropped. -/
def State.takePacket (s : State) (bs : List Byte) : State :=
  let dest := (bs.getD 1 0).toNat
  let flags := (bs.getD 3 0).toNat
  let pay := (bs.drop 4).take (bs.length - 5)
  let som := decide (128 ≤ flags)
  let eom := decide (64 ≤ flags % 128)
  if bs.length < 6 || decide (69 < bs.length) then s
  else if dest ≠ 0 && dest ≠ s.eid then s
  else if !som && s.mgt.mctpIn.isEmpty then s
  else
    let m := (if som then [] else s.mgt.mctpIn) ++ pay
    if decide (4352 < m.length) then ({ s with mgt := { s.mgt with mctpIn := [] } }).raise .mgtCause 4
    else if eom then s.takeMsg m
    else { s with mgt := { s.mgt with mctpIn := m } }

/-- R535: an I3C private read returns a waiting packet, or is NACKed; RESP_PENDING follows. -/
def execMctpPacketRead (addr : BitVec 7) (s : State) : Host.Outcome State Fault Refusal :=
  .next (if s.privateServed && s.addressed addr then
      match s.mgt.mctpOut with
      | [] => s.i3cNack
      | p :: ps =>
        let s1 := s.i3cOk p
        ({ s1 with mgt := { s1.mgt with mctpOut := ps } }).levelBit .mgtCause 5 (!ps.isEmpty)
    else s.earlyMatch addr)

end Sys2Proof.Machine
end

