-- ==== Sys2Proof/Machine/Relocation.lean ====
section
/-!
DEFINITION. Class 14 work (spec 09): moves and what they still have to read, program and verify (R276, R277, R279), the order in which the
MDPs place their work on a die (R236, R268), and the operation that each piece of work starts.
-/
namespace Sys2Proof.Machine

/-! ## Blocks and their live data -/

/-- Sectors that conventional entries name in a block, by sequence of LBA. -/
def State.convIn (s : State) (d b : Nat) : List (Nat × Stored) :=
  s.med.conv.filter (fun e => decide (e.2.place ≠ .staged) && decide (e.2.die = d) && decide (e.2.block = b))

/-- The block is in SLC mode: lent, or a conventional log block. -/
def slcBlock (x : Block) : Bool := decide (x.state = .lent) || x.slc

/-- Wordlines of a block that hold placed data: of a slot's bound block those of its units in QLC, so that a wordline of a fold that did not
commit is not one of them. -/
def State.livePages (s : State) (d b : Nat) : Nat :=
  let x := s.block d b
  match x.zone with
  | some z => match s.slotOfDie z d with
    | some i =>
      let sl := zslot (s.zone z) i
      if sl.kind ≠ .unplaced && sl.block = b then min x.pages sl.qlcUnits else x.pages
    | none => x.pages
  | none => x.pages

/-- The block holds data that a move would copy. -/
def State.liveBlock (s : State) (d b : Nat) : Bool :=
  let x := s.block d b
  decide (x.state ≠ .ready) && decide (x.state ≠ .retired) && !x.leaving &&
  (if x.conv then !(s.convIn d b).isEmpty else decide (0 < s.livePages d b))

/-- Verification reads of `n` programmed wordlines of a block: a read of each page of PAGE_MASK on each plane of PLANE_MASK, an SLC wordline
being one page (R257). -/
def State.verifyReads (s : State) (d b n : Nat) : Nat :=
  let x := s.block d b
  let ones (m : BitVec 4) : Nat := ((List.range 4).filter (bitOf m)).length
  match s.band x.erases with
  | some v => n * (if slcBlock x then 1 else ones v.pageMask) * ones v.planeMask
  | none => 0

/-! ## Moves (R276, R277, R279) -/

/-- A move of one wordline: a fold, or a granule of conventional sectors. The others are of whole blocks. -/
def oneLine (m : Move) : Bool := !m.keys.isEmpty

/-- Sectors in a page or wordline of the move's destination. -/
def State.moveUnit (s : State) (m : Move) : Nat :=
  if !oneLine m && decide ((s.block m.srcDie m.srcBlock).state = .lent) then 16 else 64

/-- Wordlines that a move writes, and source sectors that it reads. -/
def State.movePages (s : State) (m : Move) : Nat := if oneLine m then 1 else s.livePages m.srcDie m.srcBlock
def State.moveSectors (s : State) (m : Move) : Nat := if oneLine m then m.keys.length else s.moveUnit m * s.movePages m

/-- Wordlines of the destination that hold the move's copy. -/
def State.moveDone (s : State) (m : Move) : Nat :=
  if oneLine m then (if m.step = 0 then 0 else 1) else (s.block m.srcDie m.dstBlock).pages

/-- The move reads on: the wordline after those programmed is not read whole yet. -/
def State.moveReads (s : State) (m : Move) : Bool :=
  decide (m.step = 0) && decide (m.reads < min (s.moveSectors m) (s.moveUnit m * (s.moveDone m + 1)))

/-- The move's next wordline has been read and can be programmed. -/
def State.movePrograms (s : State) (m : Move) : Bool :=
  decide (m.step = 0) && decide (s.moveDone m < s.movePages m) &&
  decide (min (s.moveSectors m) (s.moveUnit m * (s.moveDone m + 1)) ≤ m.reads)

/-- The wordlines that a move has written still have verification reads to come (R257, R277 step 2). -/
def State.moveVerifies (s : State) (m : Move) : Bool :=
  decide (m.step = 1) && decide (m.vreads < s.verifyReads m.srcDie m.dstBlock (s.movePages m))

def State.setMove (s : State) (n : Nat) (m : Move) : State := { s with med := { s.med with moves := oput s.med.moves n m } }
def State.dropMove (s : State) (n : Nat) : State := { s with med := { s.med with moves := odel s.med.moves n } }

/-- The move that is not committed of a slot's units, or out of a block. -/
def State.foldMove (s : State) (z i : Nat) : Option (Nat × Move) :=
  s.med.moves.find? (fun e => (decide (e.2.kind = .fold) || decide (e.2.kind = .evacuation)) && decide (e.2.zone = some z) &&
    decide (e.2.slot = i) && decide (e.2.step < 4))
def State.blockMove (s : State) (d b : Nat) : Option (Nat × Move) :=
  s.med.moves.find? (fun e => decide (e.2.kind ≠ .fold) && decide (e.2.kind ≠ .evacuation) && decide (e.2.srcDie = d) &&
    decide (e.2.srcBlock = b) && decide (e.2.step < 4))

/-- The move whose copy in a destination block is to be verified. -/
def State.copyMove (s : State) (d b : Nat) : Option (Nat × Move) :=
  s.med.moves.find? (fun e => decide (e.2.srcDie = d) && decide (e.2.dstBlock = b) && decide (e.2.step = 1))

/-- A new move. -/
def State.addMove (s : State) (m : Move) : State :=
  { s.setMove s.med.nextMove m with med := { (s.setMove s.med.nextMove m).med with nextMove := s.med.nextMove + 1 } }

/-- Vault position, over 16, from which a whole block's destination comes (R233, R271): a lent block's as for lending, a replacement's from
the Vault of its zone's class, and RELOC. -/
def State.moveVault (s : State) (k : MoveKind) (x : Block) : Nat :=
  match x.zone with
  | none => 8
  | some z =>
    if x.state = .lent then 8
    else if k = .retirement then 2 * (s.zone z).lclass.getD 3 + 1
    else 15

/-- The die's conventional pool block that takes the next wordline: the open one that no uncommitted granule goes to, or a new block from
CONV (R233, R241). None while the chosen block awaits its erase. -/
def State.poolBlock (s : State) (d : Nat) : Option (Nat × State) :=
  if s.med.moves.any (fun e => decide (e.2.srcDie = d) && decide (e.2.zone = none) && decide (e.2.step < 4)) then none
  else match s.med.blocks.find? (fun e => decide (e.1 / 4096 = d) && e.2.conv && !e.2.slc && decide (e.2.state = .open_) &&
      e.2.doom.isNone && decide (e.2.pages < 512)) with
    | some e => some (e.1 % 4096, s)
    | none => match s.vaultBlock d 1 2 with
      | none => none
      | some b => if (s.block d b).awaiting then none else some (b, s.setBlock d b { s.block d b with state := .open_, conv := true })

/-- Begin a move out of a block (R271, R276): of up to 64 of a conventional block's valid sectors, or of a whole block of a zone. -/
def State.startMove (s : State) (k : MoveKind) (d b : Nat) : Option State :=
  let x := s.block d b
  if x.conv then
    match s.poolBlock d with
    | none => none
    | some (t, s1) =>
      let keys := ((s.convIn d b).take 64).map (·.1)
      if keys.isEmpty || t = b then none
      else some (s1.addMove ⟨k, none, 0, (s1.block d t).pages, d, b, t, 0, keys, 0, 0, []⟩)
  else match s.vaultBlock d (s.moveVault k x) 16 with
    | none => none
    | some t =>
      if (s.block d t).awaiting then none
      else
        let slot := match x.zone with | some z => (s.slotOfDie z d).getD 0 | none => 0
        let s1 := s.setBlock d t { s.block d t with state := .open_, zone := x.zone }
        some (s1.addMove ⟨k, x.zone, slot, 0, d, b, t, 0, [], 0, 0, []⟩)

/-- The slot's next unit lies whole in its stream, and its bound block can take it (R227). -/
def State.foldable (s : State) (z i : Nat) : Bool :=
  let sl := zslot (s.zone z) i
  decide (sl.kind = .folded) && decide (4 * (sl.qlcUnits - sl.base) + 4 ≤ sl.quarters) &&
  decide ((s.block (s.zoneDie z i) sl.block).state = .open_) && (s.block (s.zoneDie z i) sl.block).doom.isNone

/-- Begin the fold of a slot's next unit. -/
def State.startFold (s : State) (k : MoveKind) (z i : Nat) : State :=
  let sl := zslot (s.zone z) i
  s.addMove ⟨k, some z, i, sl.qlcUnits, s.zoneDie z i, sl.stream.getD ((sl.qlcUnits - sl.base) / 128) 0, sl.block, 0,
    upFrom (zoneKey z (unitStart sl.qlcUnits i)) 64, 0, 0, []⟩

/-- A failed block: its live data moves and it then retires; with none it retires at once (R270). -/
def State.moveAndRetire (s : State) (d b cause : Nat) : State :=
  let x := s.block d b
  if x.doom.isSome || x.state = .retired then s
  else if s.liveBlock d b then s.setBlock d b { x with doom := some cause }
  else s.retireBlock d b cause

/-- The destination of a move fails (R270, R279): it is retired and a copy begins anew. The bound block of a fold holds other units, which
move before it retires, and the stream stays authoritative for the unit; so with the pool block of a granule. -/
def State.moveFailed (s : State) (n cause : Nat) : State :=
  match ofind s.med.moves n with
  | none => s
  | some m =>
    let s1 := (s.dropMove n).raise .integCause 9
    if oneLine m then s1.moveAndRetire m.srcDie m.dstBlock cause
    else
      let s2 := s1.retireBlock m.srcDie m.dstBlock cause
      (s2.startMove m.kind m.srcDie m.srcBlock).getD s2

/-! ## What waits for a binding (R237) -/

/-- The slot whose stream's first pool-lent block was lent earliest on a die: tick, zone, slot, and that block's index. -/
def State.evacChoice (s : State) (d : Nat) : Option (Nat × Nat × Nat × Nat) :=
  pick (s.med.zones.filterMap (fun e => match s.slotOfDie e.1 d with
    | none => none
    | some i =>
      let st := (zslot e.2 i).stream
      match st.findIdx? (fun b => decide (b < 3584) || decide (3746 ≤ b)) with
      | some j => some ((s.block d (st.getD j 0)).lentAt, e.1, i, j)
      | none => none))

/-- A binding waits on the die. -/
def State.evacWaits (s : State) (d : Nat) : Bool := s.med.evac.any (fun c => decide (c / 2 ^ 20 = d))

/-! ## The order of class 14 work (R236, R268) -/

/-- Work that can run now: its place in R268's list, its age within that place, and the work. -/
structure Due where
  rank : Nat
  age : Nat
  work : Work14
deriving DecidableEq, Repr

/-- Places of R268's list. Item 5 holds three places in order, item 7 holds three. Erases that no binding waits for stand last: the list does
not name them (DESIGN CHOICE, log entry 46). -/
def rankTail : Nat := 10
def rankEvac : Nat := 20
def rankRetire : Nat := 30
def rankForced : Nat := 40
def rankRebuild : Nat := 50
def rankTally : Nat := 51
def rankRing : Nat := 52
def rankVerify : Nat := 60
def rankFold : Nat := 80
def rankErase : Nat := 90

def moveRank : MoveKind → Nat
  | .evacuation => 20 | .retirement => 30 | .refresh => 70 | .retention => 71 | .compaction => 72 | .fold => 80

/-- Place of a fold of a slot (R236, R237): of the stream that an evacuation has chosen, of any while more is lent than L(d), else last. -/
def State.foldRank (s : State) (d z i : Nat) : Nat :=
  let chosen := s.evacWaits d && (s.ready d).isEmpty && (match s.evacChoice d with
    | some w => decide (w.2.1 = z) && decide (w.2.2.1 = i)
    | none => false)
  if chosen then rankEvac else if s.lendLimit d < (s.dieMed d).lent then rankForced else rankFold

/-- Folds of which an entry of the type could carry the next part: reads of SLC pages, or the program. -/
def State.foldDue (s : State) (d type : Nat) : List Due :=
  s.med.zones.filterMap (fun e => match s.slotOfDie e.1 d with
    | none => none
    | some i =>
      let go := match s.foldMove e.1 i with
        | none => decide (type ≤ 2)
        | some m => if type = 5 then s.movePrograms m.2 else decide (type ≤ 2) && s.moveReads m.2
      if s.foldable e.1 i && go then
        some ⟨s.foldRank d e.1 i, (s.block d ((zslot e.2 i).stream.headD 0)).lentAt, .fold e.1 i⟩
      else none)

/-- Why a block's data has to move, none where it need not. A refresh waits until the block has been programmed whole (log entry 46), and
compaction is the MDP's own decision. -/
def State.moveReason (s : State) (d b : Nat) (w : Work14) : Option MoveKind :=
  let x := s.block d b
  let whole := decide (x.state = .full) || decide (x.state = .verified) || decide (x.pages = 512) || x.conv
  if !s.liveBlock d b then none
  else if x.doom.isSome then some .retirement
  else if x.refresh && whole then some .refresh
  else if x.retention && whole then some .retention
  else if x.conv && w = .move b then some .compaction
  else none

/-- An entry of the type can carry the next part of a move out of the block. -/
def State.moveFits (s : State) (d b type : Nat) (k : MoveKind) : Bool :=
  let slc := slcBlock (s.block d b)
  match s.blockMove d b with
  | none => (decide (type = 1) || (decide (type = 2) && slc)) && (s.startMove k d b).isSome
  | some m =>
    ((decide (type = 1) || (decide (type = 2) && slc)) && s.moveReads m.2) ||
    (decide (type = if s.moveUnit m.2 = 16 then 4 else 5) && s.movePrograms m.2)

/-- The numbers of a die's blocks that metadata lists. -/
def State.blocksOf (s : State) (d : Nat) : List Nat := (s.med.blocks.filter (fun e => decide (e.1 / 4096 = d))).map (fun e => e.1 % 4096)

def State.moveDue (s : State) (d type : Nat) (w : Work14) : List Due :=
  (s.blocksOf d).filterMap (fun b => match s.moveReason d b w with
    | none => none
    | some k => if s.moveFits d b type k then some ⟨moveRank k, 0, .move b⟩ else none)

/-- Verification reads: of a FULL block, the oldest first, and of what a move has written, in the move's own place (R257, R277). -/
def State.verifyDue (s : State) (d type : Nat) : List Due :=
  (s.blocksOf d).filterMap (fun b =>
    let x := s.block d b
    let fits := decide (type = 1) || (decide (type = 2) && slcBlock x)
    match s.copyMove d b with
    | some m =>
      if fits && s.moveVerifies m.2 then
        some ⟨match m.2.zone with | some z => if oneLine m.2 then s.foldRank d z m.2.slot else moveRank m.2.kind | none => moveRank m.2.kind, 0,
          .verify b⟩
      else none
    | none =>
      if fits && x.state = .full && x.doom.isNone && !x.leaving && decide (x.vreads < s.verifyReads d b x.pages) then
        some ⟨rankVerify, x.programmed, .verify b⟩
      else none)

/-- Blocks that await their erase (R221, R237). -/
def State.eraseDue (s : State) (d : Nat) : List Due :=
  (s.blocksOf d).filterMap (fun b =>
    let x := s.block d b
    if x.awaiting && x.state = .ready && !x.leaving then some ⟨if s.evacWaits d then rankEvac else rankErase, 0, .erase b⟩ else none)

/-- Forced tail pages and Finish padding (R220, R230). -/
def State.tailDue (s : State) (d : Nat) : List Due :=
  (s.med.forced.filter (fun z => decide (z < 2 ^ 20) && (s.tailRun d z).isSome)).map (fun z => ⟨rankTail, 0, .tailPage z⟩)
def State.padDue (s : State) (d : Nat) (toSlc : Bool) : List Due :=
  (s.med.zones.filter (fun e => (s.padTake d e.1 toSlc).isSome)).map (fun e => ⟨rankRetire, 0, .pad e.1⟩)

/-- All class 14 work that an entry of the type could carry on the die. -/
def State.due14 (s : State) (d type : Nat) (w : Work14) : List Due :=
  match type with
  | 1 => s.moveDue d 1 w ++ s.foldDue d 1 ++ s.verifyDue d 1
  | 2 => s.moveDue d 2 w ++ s.foldDue d 2 ++ s.verifyDue d 2
  | 4 => s.tailDue d ++ s.padDue d true ++ s.moveDue d 4 w
  | 5 => s.padDue d false ++ s.moveDue d 5 w ++ s.foldDue d 5
  | 6 => s.eraseDue d
  | _ => []

def dueBefore (a b : Due) : Bool := decide (a.rank < b.rank) || (decide (a.rank = b.rank) && decide (a.age < b.age))

def firstDue : List Due → Option Due
  | [] => none
  | x :: xs => some (xs.foldl (fun a b => if dueBefore b a then b else a) x)

/-- The work that an entry carries: that which the MDP names, where no other comes before it, else the first. -/
def pick14 (l : List Due) (w : Work14) : Option Work14 :=
  match firstDue l with
  | none => none
  | some a => if l.any (fun e => decide (e.work = w) && !dueBefore a e) then some w else some a.work

/-- No class 14 work of an earlier place waits for the die's SLC program entries. -/
def State.turn14 (s : State) (d rank : Nat) : Bool := !(s.due14 d 4 .other).any (fun e => decide (e.rank < rank))

/-- The MDP that owns the die's group acts (R32, R33). -/
def State.acts14 (s : State) (d : Nat) : Bool :=
  match findDie d s.med.groups 0 with
  | some g => s.mdpActs g.1
  | none => false

/-! ## What the work starts -/

/-- A class 14 read of a block, for a move or for verification. -/
def State.read14 (s : State) (d type b : Nat) (mv : Option Nat) (verify : Bool) : State :=
  let s1 := s.countRead d b
  s1.setDie d { s1.die d with read := some { type := type, cls := 14, block := b, mv := mv, verify := verify } }

/-- The next part of a move: a read of its source, or a program of its destination. -/
def State.moveStep (s : State) (d type : Nat) (e : Nat × Move) : State :=
  if type ≤ 2 then s.read14 d type e.2.srcBlock (some e.1) false
  else s.setDie d { s.die d with op := some { type := type, cls := 14, block := e.2.dstBlock, mv := some e.1, toSlc := decide (type = 4) } }

/-- A piece of class 14 work takes the entry. -/
def State.doWork (s : State) (d type : Nat) (w : Work14) : State :=
  match w with
  | .other => s
  | .tailPage z => s.takeTail d z
  | .pad z => s.takePad d z (decide (type = 4))
  | .erase b => s.setDie d { s.die d with op := some { type := 6, cls := 14, block := b } }
  | .fold z i =>
    let s1 := if (s.foldMove z i).isNone then s.startFold (if s.foldRank d z i = rankEvac then .evacuation else .fold) z i else s
    match s1.foldMove z i with
    | some m => s1.moveStep d type m
    | none => s
  | .move b =>
    let s1 := if (s.blockMove d b).isNone then
        (match s.moveReason d b w with | some k => (s.startMove k d b).getD s | none => s) else s
    match s1.blockMove d b with
    | some m => s1.moveStep d type m
    | none => s1
  | .verify b => s.read14 d type b ((s.copyMove d b).map (·.1)) true

/-- The namespace for which the die owes a padded SLC program (R392). -/
def State.convDue (s : State) (d : Nat) : Option Nat :=
  (s.med.forced.find? (fun x => decide (2 ^ 20 ≤ x) && decide (x % 2 ^ 20 = d))).map (fun x => x / 2 ^ 20)

/-- A class 14 entry takes the first work in order (R177, R268), a padded program of old conventional sectors behind the forced tail pages
(R392). -/
def State.run14 (s : State) (d type : Nat) (w : Work14) : State :=
  match (if type = 4 && (s.tailDue d).isEmpty then s.convDue d else none) with
  | some n => ({ s with med := { s.med with forced := s.med.forced.filter (fun x => decide (x ≠ 2 ^ 20 * n + d)) } }).takeConvPad d n
  | none => match pick14 (s.due14 d type w) w with
    | none => s
    | some x => s.doWork d type x

/-- Source sectors of a move that the DRAM or the die could not give back are copied with POISON set (R249, R279). -/
def State.poisonMove (s : State) (n : Nat) (bad : List Nat) : State :=
  match ofind s.med.moves n with
  | none => s
  | some m =>
    let mine (k : Nat) : Bool := if oneLine m then m.keys.contains k else match m.zone with
      | some z => decide (k / zoneSectors = z) && decide (dieSlot (k % zoneSectors) = m.slot)
      | none => false
    s.setMove n { m with poison := m.poison ++ bad.filter mine }

end Sys2Proof.Machine
end

