-- ==== Sys2Proof/Machine/Media.lean ====
section
/-!
DEFINITION. The media commands: plan entries (R160 to R166, R173, R225), reads and their retries (R148, R250 to R254, R266), the
results of programs and erases (R165, R229, R263, R270), claims, folds, verification and moves (R218, R227, R237, R257, R277),
and the Day Book's settlement, spill and metadata (R384, R391, R392).
-/
namespace Sys2Proof.Machine

/-! ## The end of an operation -/

/-- A sector's write to flash succeeded: the settlement message goes out where it was not settled before (R229, R384). -/
def State.placeKey (s : State) (d block : Nat) (pl : Place) (k : Nat × Nat) : State :=
  match ofind s.med.sectors k.1 with
  | some e =>
    if e.seq = k.2 && (e.place = .staged || (e.place = .tail && pl ≠ .tail)) then
      let s1 : State := { s with med := { s.med with sectors := oput s.med.sectors k.1 { e with place := pl } } }
      if e.place = .staged then s1.settleMsgs [k.2] else s1
    else s
  | none =>
    match ofind s.med.conv k.1 with
    | some e =>
      if e.seq = k.2 && e.place = .staged then
        ({ s with med := { s.med with
            conv := oput s.med.conv k.1 { e with
              place := .slc, die := d, block := block, idx := 16 * ((s.block d block).pages - 1) } } }).settleMsgs [k.2]
      else s
    | none => s

/-- The sector that a key of a program still names. -/
def State.keySec (s : State) (k : Nat × Nat) : Option Stored :=
  let live (e : Option Stored) : Option Stored := e.filter (fun x => decide (x.seq = k.2))
  match ofind s.med.sectors k.1 with | some e => live (some e) | none => live (ofind s.med.conv k.1)

/-- The records whose sectors a page or wordline now holds take its placement descriptor (R391). -/
def State.notePlaces (s : State) (d block page : Nat) (qlc : Bool) (keys : List (Nat × Nat)) : State :=
  (keys.map (·.2)).eraseDups.foldl (fun (s : State) q =>
    let mine := ((List.range keys.length).zip keys).filterMap (fun p =>
      if p.2.2 = q then (s.keySec p.2).map (fun e => (p.1, e.lba)) else none)
    match mine with
    | [] => s
    | m :: _ => s.modRec q (fun r => { r with places := putPlace (placeWord d block page qlc (m.2 - r.slba) mine.length m.1) r.places })) s

/-- The slot's counters and the block's page count after a program of a zone; the pad of a Finish may be complete (R220). -/
def State.advanceSlot (s : State) (z i block : Nat) (toSlc : Bool) : State :=
  let x := s.zone z
  let sl := zslot x i
  let d := s.zoneDie z i
  let b := s.block d block
  let b1 := { b with pages := b.pages + 1, programmed := s.pwr.time }
  if toSlc then
    if sl.stream.contains block then
      let sl1 := { sl with quarters := sl.quarters + 1 }
      let u := 16 * (sl.base + sl1.quarters / 4) + i
      let x1 := setZslot x i sl1
      let pad := match x.padUnit with | some p => decide (u = p + 16 && sl1.quarters % 4 = 0) | none => false
      ((s.setBlock d block b1).setZone z (if pad then { x1 with padUnit := none } else x1)).fillBlocks z
    else s
  else if sl.kind = .direct && sl.block = block then
    let pad := match x.padUnit with | some p => decide (16 * sl.qlcUnits + i = p) | none => false
    let x1 := setZslot x i { sl with qlcUnits := sl.qlcUnits + 1 }
    ((s.setBlock d block b1).setZone z (if pad then { x1 with padUnit := none } else x1)).fillBlocks z
  else s

/-- A tail page is superseded once the quarter that it holds part of is placed (R229). -/
def State.dropTail (s : State) (z : Nat) : State :=
  let x := s.zone z
  match x.tail with
  | some t =>
    if (upFrom t.1 t.2).all (fun o => match ofind s.med.sectors (zoneKey z o) with | some e => decide (e.place ≠ .tail) | none => true)
    then s.setZone z { x with tail := none } else s
  | none => s

/-- A move's program succeeded: one more wordline of its destination is written, the last of which ends step 1 of R277. -/
def State.moveWrote (s : State) (n : Nat) : State :=
  match ofind s.med.moves n with
  | none => s
  | some m =>
    let x := s.block m.srcDie m.dstBlock
    let s1 := s.setBlock m.srcDie m.dstBlock { x with pages := x.pages + 1, programmed := s.pwr.time }
    if oneLine m || s.movePages m ≤ x.pages + 1 then s1.setMove n { m with step := 1 } else s1

/-- A page of the die's tail ring has been used. -/
def State.tailAdvance (s : State) (d : Nat) : State := s.setDieMed d { s.dieMed d with tailPos := ((s.dieMed d).tailPos + 1) % 4096 }

/-- A forced tail page is no longer due where its quarter has been placed or padded (R230). -/
def State.unforce (s : State) (z : Nat) : State :=
  if (s.zone z).secWp % 16 = 0 || (s.stagedRun z ((s.zone z).secWp / 16 * 16) ((s.zone z).secWp % 16)).isNone then
    { s with med := { s.med with forced := s.med.forced.filter (fun y => decide (y ≠ z)) } }
  else s

/-- A tail page was programmed: it settles its sectors and supersedes the zone's older one (R229). -/
def State.tailOk (s : State) (d z : Nat) (op : DieOp) : State :=
  let p := (s.dieMed d).tailPos
  let s0 := s.notePlaces d op.block (p % 512) false op.keys
  let s1 := (op.keys.foldl (fun s k => s.placeKey d op.block .tail k) s0).tailAdvance d
  match op.keys.head? with
  | some k => if (ofind s1.med.sectors k.1).isSome then
      s1.setZone z { s1.zone z with tail := some (k.1 % zoneSectors, op.keys.length), tailPage := p } else s1
  | none => s1

/-- A conventional log block is FULL with its last page (R256). -/
def State.fillLog (s : State) (d b : Nat) : State :=
  let x := s.block d b
  if x.conv && x.state = .open_ && decide (512 ≤ x.pages) then s.setBlock d b { x with state := .full } else s

/-- A program succeeded. -/
def State.programOk (s : State) (d : Nat) (op : DieOp) : State :=
  match op.mv, op.zone with
  | some n, _ => s.moveWrote n
  | none, none =>
    let s0 := s.setBlock d op.block { s.block d op.block with pages := (s.block d op.block).pages + 1, programmed := s.pwr.time }
    let s1 := s0.notePlaces d op.block (s.block d op.block).pages false op.keys
    (op.keys.foldl (fun s k => s.placeKey d op.block .slc k) s1).fillLog d op.block
  | none, some z =>
    if op.tail then s.tailOk d z op
    else
      let s0 := (match s.slotOfDie z d with
        | some i => s.advanceSlot z i op.block op.toSlc
        | none => s).notePlaces d op.block (s.block d op.block).pages (!op.toSlc) op.keys
      ((op.keys.foldl (fun s k => s.placeKey d op.block (if op.toSlc then .slc else .qlc) k) s0).dropTail z).unforce z

/-- A bound or lent block on which nothing stands is given up: its slot binds or lends again, or where its stream goes on is bound to a
replacement at once (R270, R271). -/
def State.dropEmpty (s : State) (z d block : Nat) : State :=
  match s.slotOfDie z d with
  | none => s
  | some i =>
    let x := s.zone z
    let sl := zslot x i
    if s.livePages d block ≠ 0 then s
    else if sl.stream.contains block then
      s.setZone z (setZslot x i { sl with stream := sl.stream.filter (fun b => decide (b ≠ block)) })
    else if sl.kind ≠ .unplaced && sl.block = block && sl.qlcUnits = 0 then
      if sl.stream.isEmpty then s.setZone z { setZslot x i {} with claims := d :: x.claims }
      else match s.bindSlot z i true with
        | some s1 => s1
        | none => s.bindWaits z i
    else s

/-- A program failed: its staged sectors stay staged, and the block's other data moves (R270, R279). -/
def State.programFailed (s : State) (d : Nat) (op : DieOp) : State :=
  match op.mv, op.zone with
  | some n, _ => s.moveFailed n 0
  | none, some z =>
    if op.tail then
      let s1 := s.tailAdvance d
      { s1 with med := { s1.med with forced := if s1.med.forced.contains z then s1.med.forced else z :: s1.med.forced } }
    else (s.moveAndRetire d op.block 0).dropEmpty z d op.block
  | none, none => s.moveAndRetire d op.block 0

/-- An erase ended (R165, R270). A block that was to retire retires. -/
def State.eraseEnd (s : State) (d b : Nat) (ok : Bool) : State :=
  let x := s.block d b
  if !ok then s.retireBlock d b 1
  else match x.doom with
    | some c => s.retireBlock d b c
    | none => s.setBlock d b { x with awaiting := false, erases := x.erases + 1, pages := 0 }

/-- A read whose data was not transferred: the sector waits for its next read, of L1 where it was its first, from this tick on (R166). A
retry read or an L3 read that overran is made again at its level (DEDUCED, log entry 155). -/
def State.readLost (s : State) (op : DieOp) : State :=
  match s.sec op.cmd op.sec with
  | some (_, x) =>
    if x.st = .granted then s.setSec op.cmd op.sec { x with st := if x.level = 3 then .recovering else .retryWait, reg := s.ldg.tick } else s
  | none => s

/-- The outcome of an operation whose die is ready, judged by its status (R165, R166). What worked for a zone that has been Reset is
discarded (R222). -/
def State.outcome (s : State) (d : Nat) (op : DieOp) (ok : Bool) : State :=
  if op.dead then (if op.tail then s.tailAdvance d else s)
  else if op.type ≤ 3 then (if op.cls = 14 then s else s.readLost op)
  else if op.type = 6 then s.eraseEnd d op.block ok
  else if ok then s.programOk d op
  else s.programFailed d op

/-! ## Overruns (R166, R273) -/

/-- An exception of the Ledger: LDG_EXC_INFO and the cause bit, with an event record each time where `each`. -/
def State.mediaExc (s : State) (d type cls bit : Nat) (each : Bool) : State :=
  let s1 := s.setReg Reg.ldgExcInfo (BitVec.ofNat 32 (d + 2 ^ 10 * type + 2 ^ 14 * cls))
  if each then s1.raiseWith .mediaExc bit (s1.leafDetail .mediaExc) else s1.raise .mediaExc bit

/-- The block counts an overrun; the third retires it (R270). Programs of tail pages lie in no block of the share. -/
def State.countOverrun (s : State) (d : Nat) (op : DieOp) : State :=
  if op.tail then s
  else
    let x := s.block d op.block
    let s1 := s.setBlock d op.block { x with overruns := x.overruns + 1 }
    if x.overruns = 2 then s1.moveAndRetire d op.block 2 else s1

/-- A die is still busy as its budget ends (R166 steps 1 to 4). A read's retry level counts L1 from this tick. -/
def State.overrun (s : State) (d : Nat) (op : DieOp) : State :=
  let s1 := s.mediaExc d (if op.window then 7 else op.type) op.cls 0 true
  let r := s1.die d
  let busy := { r with late := some op, overrunAt := some s.ldg.tick, entry15 := none, slots := [] }
  let s2 := s1.setDie d (if op.type ≤ 3 then { busy with read := none } else { busy with op := none })
  let s3 := s2.countOverrun d op
  if op.type ≤ 3 && decide (op.cls ≠ 14) then
    match s3.sec op.cmd op.sec with
    | some (c, x) => (s3.setCmd op.cmd { c with maxRetry := max c.maxRetry 1 }).setSec op.cmd op.sec { x with level := max x.level 1 }
    | none => s3
  else s3

/-- The operation whose budget ends next on the die: its read, else its program or erase, in a segment that reaches the budget's end. -/
def judged (r : DieRt) : Option DieOp :=
  let due (o : DieOp) : Bool := !o.inBudget && (!inSegments o || decide (budgetEnd o ≤ o.segStop))
  match r.read with
  | some o => if due o then some o else r.op.filter due
  | none => r.op.filter due

/-- The die's operation ended within its budget. -/
def passBudget (r : DieRt) (o : DieOp) : DieRt :=
  if o.type ≤ 3 then { r with read := some { o with inBudget := true } } else { r with op := some { o with inBudget := true } }

/-- R165: the budget of the die's operation ends; `ready` is the die's status in that tick. -/
def execBudgetCheck (die : Nat) (ready : Bool) (s : State) : Host.Outcome State Fault Refusal :=
  .next (match judged (s.die die) with
    | none => s
    | some op =>
      if (s.die die).overrunAt.isSome || (s.dieMed die).failed || !modeLedger s.mode then s
      else
        let s1 := s.tickTo (budgetEnd op)
        if ready then s1.setDie die (passBudget (s1.die die) op) else s1.overrun die op)

/-- The status read of an overrun or reset die in a class 15 entry (R166 step 4, R273). -/
def State.statusRead (s : State) (d : Nat) (ready ok : Bool) : State :=
  let r := s.die d
  if ready then
    let s1 := s.setDie d { r with overrunAt := none, resetAt := none, late := none }
    match r.late with
    | some op => s1.outcome d op ok
    | none => s1
  else match r.resetAt with
    | some t => if t + 4 * folioTicks ≤ s.ldg.tick then s.failDie d else s
    | none => s

/-- R166: a die still busy 4 Folios after its budget ended is reset in its next class 15 entry; its operation is failed, and with it the
programs and erases that were suspended on the die, which the reset ends too (DEDUCED, log entry 155). -/
def execDieReset (die : Nat) (s : State) : Host.Outcome State Fault Refusal :=
  .next (let r := s.die die
    match r.overrunAt, r.resetAt, r.entry15 with
    | some t, none, some e =>
      if s.ldg.tick < t + 4 * folioTicks || e.last < s.ldg.tick || (s.dieMed die).failed || !modeLedger s.mode then s
      else
        let ty := match r.late with | some op => (if op.window then 7 else op.type, op.cls) | none => (0, 15)
        let s1 := s.setDie die { r with late := none, op := none, susp := [], resetAt := some s.ldg.tick }
        let s2 := (r.late.toList ++ r.op.toList ++ r.susp).foldl (fun s o => s.outcome die o false) s1
        s2.mediaExc die ty.1 ty.2 1 true
    | _, _, _ => s)

/-! ## Plan entries (R163, R166, R173, R176, R225, R226, R236, R268) -/

/-- A read entry of a host class is counted for its seats, granted or not (R176). -/
def State.countSeat (s : State) (d : Nat) (e : EntryRec) : State :=
  let r := s.die d
  if isReadEntry e && decide (e.cls < 14) && (s.seating e.cls).isSome then
    let k := 4 * e.cls + e.door
    s.setDie d { r with seatCount := cset 0 r.seatCount k (cget 0 r.seatCount k + 1) }
  else s

/-- A read entry of a host class grants its read, which starts at tick `t` (R173). -/
def State.readEntry (s : State) (d : Nat) (e : EntryRec) (t : Nat) : State :=
  match pick (s.candidates d e) with
  | some w => s.grant d (readType e) e.cls w.2.2.1 w.2.2.2 t (decide (e.type = 7))
  | none => s

/-- A class 15 entry: the status read of a die that is still busy, which takes the whole of a retry read entry and leaves a recovery entry
its reads; else the entry stands open for its reads (R166, R177, R252). -/
def State.enter15 (s : State) (d : Nat) (e : EntryRec) (t : Nat) (ready ok : Bool) : State :=
  let recovery := decide (e.type = 8)
  let s1 := if (s.die d).overrunAt.isSome then s.statusRead d ready ok else s
  let free := (s1.die d).overrunAt.isNone && (recovery || (s.die d).overrunAt.isNone) && (s1.die d).op.isNone && (s1.die d).read.isNone
  if (s1.dieMed d).failed then s1
  else s1.setDie d { s1.die d with
    entry15 := some ⟨t, t + 10240 * (if recovery then 8 else 3), recovery, if free then 2 else 0⟩ }

/-- A program or erase entry whose die is idle starts an operation (R162, R178, R225, R226); a QLC program begins only in a segment of 8
columns or more. A transfer column leaves a read's data on the die, so that only an erase can begin in it (R164). -/
def State.startEntry (s : State) (d : Nat) (e : EntryRec) (w : Work14) : State :=
  if (s.die d).read.isSome && decide (e.type ≠ 6) || decide (e.type = 5) && decide (e.length < 8) then s
  else if e.cls = 14 then (if s.acts14 d then s.run14 d e.type w else s)
  else if e.type = 4 then s.takeSlc d e.cls
  else if e.type = 5 then s.takeQlc d e.cls
  else s

/-- What an entry begins on its die in its first tick `t`. -/
def State.beginEntry (s : State) (d : Nat) (e : EntryRec) (t : Nat) (w : Work14) (ready ok : Bool) : State :=
  let r := s.die d
  if e.cls = 15 then s.enter15 d e t ready ok
  else if r.overrunAt.isSome then
    if isReadEntry e && !(s.candidates d e).isEmpty then s.mediaExc d e.type e.cls 2 false else s
  else if r.op.isSome then s
  else if isReadEntry e then
    if r.read.isSome then s
    else if e.cls < 14 then s.readEntry d e t
    else if s.acts14 d then s.run14 d (readType e) w
    else s
  else match s.resumeOp d e t with
    | some r1 => s.setDie d r1
    | none => s.startEntry d e w

/-- The operation that an entry has just begun takes its times, and its bus slots stand while it does (R159, R160). -/
def State.setTimes (s : State) (d : Nat) (e : EntryRec) (t0 t : Nat) : State :=
  let r := s.die d
  let opTimes (o : DieOp) : DieOp := if o.last = 0 then s.timed d e t o false else o
  let readTimes (o : DieOp) : DieOp :=
    if o.last = 0 then { o with start := t, last := t + readTicks o.type, window := decide (e.type = 7) } else o
  let r1 : DieRt := { r with op := r.op.map opTimes, read := r.read.map readTimes }
  let begun (o : DieOp) : Bool := decide (o.start = t) && decide (o.used = 0)
  let runs := decide (e.cls = 15) || r1.read.any begun || r1.op.any begun
  s.setDie d { r1 with busyTo := t0 + 10240 * e.length, slots := if runs then slotTicks e t0 else [] }

/-- Staged sectors that a program takes and whose DRAM lines are uncorrectable: programmed with POISON set, payload zero (R249, R395). -/
def State.stagePoison (s : State) (d : Nat) (bad : List Nat) : State :=
  match (s.die d).op with
  | none => s
  | some op =>
    let lost (e : Stored) : Bool := match s.dbRec e.seq with | some r => s.stageBad (r.stage + (e.lba - r.slba)) | none => false
    let hit (k : Nat) (e : Stored) : Bool := op.keys.contains (k, e.seq) && (bad.contains k || lost e)
    let spoil (m : List (Nat × Stored)) : List (Nat × Stored) :=
      omap (fun k (e : Stored) => if hit k e && e.place = .staged then { e with poison := true, payload := 0 } else e) m
    let s1 : State := { s with med := { s.med with sectors := spoil s.med.sectors, conv := spoil s.med.conv } }
    if s1.med = s.med then s else s1.raise .dbCause 3

/-- What the entry finds bad: staged sectors of a program, or source sectors of a move (R249, R279, R395). -/
def State.entryBad (s : State) (d : Nat) (bad : List Nat) : State :=
  if bad.isEmpty && s.xfr.poison.isEmpty then s
  else match (s.die d).read with
    | some o => match o.mv with
      | some n => if o.verify then s else s.poisonMove n bad
      | none => s
    | none => s.stagePoison d bad

/-- R163: a plan entry of a die reaches its start tick. `work` is what the owning MDP asked for in a class 14 entry, `ready` and `ok` are the
status that a class 15 entry reads, if it reads one, and `bad` the sectors, by their media keys, whose DRAM lines a program finds
uncorrectable or that a move's read cannot recover. An entry whose start has passed runs as Idle. -/
def execEntryStart (die : Nat) (e : EntryRec) (work : Work14) (ready ok : Bool) (bad : List Nat) (s : State) : Host.Outcome State Fault Refusal :=
  .next (match s.startOf die e with
    | none => s
    | some t0 =>
      let t := t0 + overhead e
      if t < s.ldg.tick || !modeLedger s.mode || (s.dieMed die).failed then s
      else
        let s1 := (s.tickTo t).setDie die { closeSeg (s.die die) t0 with entry15 := none }
        if s1.carriedOver die e t0 then s1.countSeat die e
        else ((((s1.beginEntry die e t work ready ok).setTimes die e t0 t).entryBad die bad).countSeat die e).leaveKick)

/-! ## Reads (R164, R148, R177, R250 to R254, R266) -/

/-- The read's locks are given up once every sector's data has left the die (R304). -/
def State.releaseRead (s : State) (h : Nat) : State :=
  match s.cmd h with
  | some c =>
    let onDie (x : Sec) : Bool := decide (x.st = .lookup) || decide (x.st = .waiting) || decide (x.st = .registered) || decide (x.st = .granted)
    if (c.op = .read || c.op = .minted) && !c.secs.any onDie then s.setCmd h { c with locks := [] } else s
  | none => s

/-- A class 14 read ends: one more source sector of a move, or verification read of a block or of a move's destination (R257, R276). -/
def State.read14End (s : State) (d : Nat) (op : DieOp) : State :=
  if op.dead then s
  else match op.mv with
    | some n => match ofind s.med.moves n with
      | some m => s.setMove n (if op.verify then { m with vreads := m.vreads + 1 } else { m with reads := m.reads + 1 })
      | none => s
    | none => s.setBlock d op.block { s.block d op.block with vreads := (s.block d op.block).vreads + 1 }

/-- R164: the transfer slot of the die's read moves its data to the channel staging buffer. -/
def execTransferSlot (die : Nat) (s : State) : Host.Outcome State Fault Refusal :=
  .next (let r := s.die die
    match r.read with
    | none => s
    | some op =>
      if !op.inBudget || r.overrunAt.isSome then s
      else
        let t := op.start + slotEnd op.type
        let s1 := (s.tickTo t).setDie die { r with read := none }
        if op.cls = 14 then (s1.read14End die op).leaveKick
        else match s1.sec op.cmd op.sec with
          | some (_, x) =>
            if x.st = .granted then
              let s2 := if op.cls = 15 then s1.stampAt op.cmd 11 t
                else (s1.stampAt op.cmd 3 (op.start + readTicks op.type)).stampAt op.cmd 4 t
              ((s2.setSec op.cmd op.sec { x with st := .moved }).releaseRead op.cmd).kick
            else s1
          | none => s1)

/-- Recoveries by level (R282), the learned set and the refresh queue (R254) after a decode. -/
def State.recovered (s : State) (x : Sec) (bits : Nat) : State :=
  let b := s.secBlock x
  let y := s.block x.die b
  if x.level = 0 then
    match s.band y.erases with
    | some v => if v.refreshMaxBits < bits then s.queueRefresh x.die b else s
    | none => s
  else
    let o := if x.level = 1 then Reg.medRetryL1 else if x.level = 2 then Reg.medRetryL2 else Reg.medRetryL3
    let s1 := (s.countFld o 0 32 1).setBlock x.die b { y with learned := (y.learned + 1) % 16 }
    if 2 ≤ x.level then s1.queueRefresh x.die b else s1

/-- R148: a decode ends; `ok` says that it succeeded, with `bits` corrected bits. A poisoned codeword is uncorrectable without
any retry (R249). -/
def execLdpcDecodeEnd (h i : Nat) (ok : Bool) (bits : Nat) (s : State) : Host.Outcome State Fault Refusal :=
  .next (match s.sec h i with
    | none => s
    | some (c, x) =>
      if x.st ≠ .moved then s
      else if x.poison then (s.uncorrectable h i c x).kick
      else if ok then ((s.recovered x bits).stamp h 5).setSec h i { x with st := .decoded, xts := s.xtsRead (s.ownerOf c) }
      else (s.failDecode h i c x).kick)

/-- The sector's stripe holds a Tally (R264, R265). -/
def State.tallyHeld (s : State) (x : Sec) : Bool :=
  decide (2 ≤ s.groupCount) && (ofind s.med.sectors x.key).isSome && (s.zone (x.key / zoneSectors)).holder

/-- A sector waits for a class 15 read of its die that starts at tick `t`: of L1 or L2, or a soft read of L3 that can still reach an egress
slot (R148, R251, R253). -/
def State.retriesAt (s : State) (c : Cmd) (x : Sec) (t : Nat) : Bool :=
  (decide (x.st = .retryWait) && decide (x.reg ≤ t)) ||
  (decide (x.st = .recovering) && decide (x.l3 ≤ t) && !s.tallyHeld x && (c.op = .minted || s.l3Reaches c x (t + sealExit 3 s.level)))

/-- The sectors that a class 15 entry of the die could read: sequence number, tick at which L3 began (0 before it), handle, position. -/
def State.retries (s : State) (d t : Nat) : List (Nat × Nat × Nat × Nat) :=
  s.host.cmds.flatMap (fun e => (List.range e.2.secs.length).filterMap (fun i => match e.2.secs[i]? with
    | some x => if x.die = d && s.retriesAt e.2 x t then some (e.2.seq, if x.level = 3 then x.l3 else 0, e.1, i) else none
    | none => none))

/-- A class 15 read of a sector begins on its die, `off` ticks into the entry, and takes `room` of what the entry can carry (R252). Stamp 10
is its start (R155). -/
def State.read15 (s : State) (h i : Nat) (x : Sec) (e : Entry15) (type off room : Nat) : State :=
  let b := s.secBlock x
  let t := e.start + off
  let s1 := (((s.tickTo t).countRead x.die b).setSec h i { x with
    st := .granted, block := some b, slotAt := t + sealExit 3 s.level }).stampAt h 10 t
  s1.setDie x.die { s1.die x.die with
    entry15 := some { e with room := e.room - room },
    read := some { type := type, cls := 15, block := b, cmd := h, sec := i, start := t, last := t + readTicks type } }

/-- The class 15 entry that runs on a die, with room for a read and its die idle, in the tick at which the read would start. -/
def State.open15 (s : State) (d off : Nat) : Option Entry15 :=
  let r := s.die d
  match r.entry15 with
  | some e =>
    if modeLedger s.mode && !(s.dieMed d).failed && r.overrunAt.isNone && r.read.isNone && decide (0 < e.room) &&
      decide (s.ldg.tick ≤ e.start + off) then some e else none
  | none => none

/-- R148: a class 15 retry read runs an L1 or L2 read of the sector with the lowest sequence number; another retry on the die waits one
spacing (R177). -/
def execRetryRead (h i : Nat) (s : State) : Host.Outcome State Fault Refusal :=
  .next (match s.sec h i with
    | none => s
    | some (c, x) =>
      match s.open15 x.die 0 with
      | none => s
      | some e =>
        let l := s.retries x.die e.start
        if x.st ≠ .retryWait || e.start < x.reg || e.recovery || l.any (fun r => decide (r.1 < c.seq) || (decide (r.1 = c.seq) && decide (r.2.2.2 < i)))
        then s
        else
          let s1 := if 1 < l.length then s.mediaExc x.die 3 15 3 false else s
          s1.read15 h i x e 3 0 2)

/-- R252: a class 15 entry carries an L3 soft read of the sector, where its block holds no Tally (R251): a retry read entry one read, by
sequence number, and a recovery entry one QLC or two SLC reads, in the order in which their L3 began (R177). -/
def execRecoveryRead (h i : Nat) (s : State) : Host.Outcome State Fault Refusal :=
  .next (match s.sec h i with
    | none => s
    | some (c, x) =>
      let need := if x.slc then 1 else 2
      let off := match (s.die x.die).entry15 with | some e => if e.recovery && decide (e.room = 1) then 30720 else 0 | none => 0
      match s.open15 x.die off with
      | none => s
      | some e =>
        let l := s.retries x.die e.start
        let before (r : Nat × Nat × Nat × Nat) : Bool :=
          if e.recovery then decide (0 < r.2.1) && (decide (r.2.1 < x.l3) || (decide (r.2.1 = x.l3) && decide (r.1 < c.seq)))
          else decide (r.1 < c.seq) || (decide (r.1 = c.seq) && decide (r.2.2.2 < i))
        if x.st ≠ .recovering || !s.retriesAt c x e.start || l.any before || (e.recovery && decide (e.room < need)) then s
        else if e.recovery then s.read15 h i x e (if x.slc then 2 else 1) off need
        else
          let s1 := if 1 < l.length then s.mediaExc x.die 3 15 3 false else s
          s1.read15 h i x e 3 0 2)

/-- R253: four Folios of L3 have passed, and the sector is uncorrectable; so is one whose egress slot would begin later. -/
def execL3Timeout (h i : Nat) (s : State) : Host.Outcome State Fault Refusal :=
  .next (match s.sec h i with
    | none => s
    | some (c, x) =>
      let waits := decide (x.st = .recovering) || decide (x.st = .granted) || decide (x.st = .moved) || decide (x.st = .decoded) ||
        decide (x.st = .clear) || decide (x.st = .checked)
      if x.level = 3 && waits && x.l3 + 4 * folioTicks ≤ s.ldg.tick then (s.uncorrectable h i c x).kick else s)

/-- R266: a sector in L3, or one that lies on a failed die (R274), is rebuilt from its stripe's Tally and other units; where
one of those or the rebuilt codeword is bad it is uncorrectable. No rebuild is made that could not reach an egress slot in time (R253). -/
def execTallyRebuild (h i : Nat) (ok : Bool) (s : State) : Host.Outcome State Fault Refusal :=
  .next (match s.sec h i with
    | none => s
    | some (c, x) =>
      let lost := (s.dieMed x.die).failed && (decide (x.st = .registered) || decide (x.st = .waiting) || decide (x.st = .granted) ||
        decide (x.st = .retryWait))
      let y := if x.level = 3 then x else { x with l3 := s.ldg.tick }
      if !(x.st = .recovering || lost) || !s.tallyHeld x || !modeLedger s.mode then s
      else if ok && !x.poison then
        if c.op ≠ .minted && !x.copySrc && !s.l3Reaches c y (s.ldg.tick + sealTicks s.level) then s
        else
          let c1 := { c with maxRetry := 3, secs := c.secs.set i { y with st := .decoded, level := 3, xts := s.xtsRead (s.ownerOf c) } }
          ((((s.raise .integCause 1).countFld Reg.medRetryL3 0 32 1).stamp h 5).setCmd h c1).registerKick
      else (s.uncorrectable h i c x).kick)

/-! ## Results (R165, R384) -/

/-- The operation of a die whose result can be taken: its budget ended in time, and it is of one of the types `p` names. -/
def State.resultOf (s : State) (d : Nat) (p : Nat → Bool) : Option DieOp :=
  let r := s.die d
  match r.op with
  | some op => if p op.type && op.inBudget && r.overrunAt.isNone then some op else none
  | none => none

/-- The result of the die's program or erase is taken in the tick its entry ends (R165). -/
def State.takeResult (s : State) (d : Nat) (op : DieOp) (ok : Bool) : State :=
  let s1 := s.tickTo op.last
  ((s1.setDie d { s1.die d with op := none }).outcome d op ok).leaveKick

/-- R165: the result of the die's program is taken as its entry ends. -/
def execProgramResult (die : Nat) (ok : Bool) (s : State) : Host.Outcome State Fault Refusal :=
  .next (match s.resultOf die (fun t => decide (t = 4) || decide (t = 5)) with
    | some op => s.takeResult die op ok
    | none => s)

/-- R165: the result of the die's erase is taken as its last segment ends. -/
def execEraseResult (die : Nat) (ok : Bool) (s : State) : Host.Outcome State Fault Refusal :=
  .next (match s.resultOf die (fun t => decide (t = 6)) with
    | some op => s.takeResult die op ok
    | none => s)

/-- R384: the acceptance engine applies the settlement message that arrived first: PENDING falls, and at 0 the record is
SETTLED. Reads that the unsettled sectors held may arrive (R230). -/
def execSettlementMessage (s : State) : Host.Outcome State Fault Refusal :=
  .next (match s.host.msgs with
    | [] => s
    | m :: ms =>
      let s1 : State := { s with host := { s.host with msgs := ms } }
      (s1.modRec m.1 (fun r =>
        if r.state = .secured then
          { r with pending := r.pending - m.2, state := if r.pending ≤ m.2 then .settled else r.state }
        else r)).kick)

/-! ## Claims, folds and the SLC buffer (R218, R227, R228, R234, R237) -/

/-- A fetched command would make the zone active and may (R133, R217). -/
def State.claimWanted (s : State) (z : Nat) : Bool :=
  s.host.cmds.any (fun e => decide (e.2.zone = some z) && decide (e.2.phase = .fetched) && activates e.2 &&
    decide (s.activation e.2.account = .ok))

/-- R218: the owning MDP has claimed one block on each die of the zone's group (R32, R33). -/
def execZoneClaimDone (zone : Nat) (s : State) : Host.Outcome State Fault Refusal :=
  .next (let x := s.zone zone
    if x.state = .empty && x.claims.isEmpty && s.claimWanted zone && s.mdpActs (zone % max 1 s.groupCount) then
      (s.setZone zone { x with claims := s.zoneDies zone }).kick
    else s)

/-- A slot that waits for its binding is bound where the die has an erased block to give, its kind fixed by the entry that will place it
(R234): one that is not placed yet, or one whose block was retired under its stream. -/
def State.bindWaiting (s : State) (zone slot : Nat) (toSlc : Bool) : State :=
  let d := s.zoneDie zone slot
  let code := 2 ^ 20 * d + zone
  let x := s.zone zone
  let sl := zslot x slot
  let waits := decide (sl.kind = .unplaced) || decide ((s.block d sl.block).state = .retired)
  if s.med.evac.contains code && waits && s.acts14 d && decide (x.state ≠ .empty) && decide (x.state ≠ .offline) && decide (x.state ≠ .readOnly) then
    match s.bindSlot zone slot (toSlc || decide (sl.kind = .folded)) with
    | some s1 => { s1 with med := { s1.med with evac := s1.med.evac.filter (fun y => decide (y ≠ code)) } }
    | none => s
  else s

/-- R234: a slot that waited for its binding is bound. -/
def execSlotBinding (zone slot : Nat) (toSlc : Bool) (s : State) : Host.Outcome State Fault Refusal :=
  .next (s.bindWaiting zone slot toSlc)

/-- A map-commit record's SLBA and AUX words (R383). -/
def commitSource (d b w : Nat) : Nat := d + 2 ^ 10 * b + 2 ^ 22 * w
def moveCode : MoveKind → Nat
  | .fold => 0 | .evacuation => 1 | .refresh => 2 | .retention => 3 | .retirement => 4 | .compaction => 5
def commitTarget (d b n k : Nat) : Nat := d + 2 ^ 10 * b + 2 ^ 22 * (n % 1024) + 2 ^ 32 * (Config.moveKind k).toNat

/-- A map-commit record (R384): SECURED by its message, SETTLED once MAP is updated. -/
def commitRec (src dst at_ : Nat) (st : RecState) : Rec :=
  ⟨st, .mapCommit, true, false, false, false, false, 0, 0, 0, 0, 0, 0, 0, src, 0, 0, dst, at_, [], []⟩

/-- Map-commit records held in the internal pool. -/
def State.commits (s : State) : Nat := (s.db.recs.filter (fun e => decide (e.2.kind = .mapCommit))).length

/-- The next free sequence number goes to a map commit (R383). -/
def State.addCommit (s : State) (src dst : Nat) (st : RecState) : State :=
  let q := s.db.nextSeq
  let s1 := s.setRec q (commitRec src dst s.ldg.tick st)
  { s1 with db := { s1.db with nextSeq := q + 1 } }

/-- Sectors that a commit has moved to QLC register only on QLC read entries (R232). -/
def State.movedToQlc (s : State) (keys : List Nat) : State :=
  let waits (x : Sec) : Bool := decide (x.st = .lookup) || decide (x.st = .waiting) || decide (x.st = .registered)
  { s with host := { s.host with cmds := omap (fun _ (c : Cmd) => { c with
      secs := c.secs.map (fun x => if waits x && x.block.isNone && keys.contains x.key then { x with slc := false } else x) }) s.host.cmds } }

/-- A copy of an uncorrectable source sector is stored with POISON set (R249, R279). -/
def copied (m : Move) (k : Nat) (e : Stored) : Stored := if m.poison.contains k then { e with poison := true, payload := 0 } else e

/-- MAP names the bound block for a fold's unit, and the slot's next unit follows (R277 step 4). -/
def State.applyFold (s : State) (m : Move) (z : Nat) : State :=
  let x := s.zone z
  let sl := zslot x m.slot
  let s1 : State := { s with med := { s.med with
    sectors := omap (fun n (e : Stored) => if m.keys.contains n && e.place = .slc then copied m n { e with place := .qlc } else e) s.med.sectors } }
  ((s1.setZone z (setZslot x m.slot { sl with qlcUnits := sl.qlcUnits + 1 })).movedToQlc m.keys).fillBlocks z

/-- A zone's Tally is released once every bound block is VERIFIED and its streams are empty (R264). A command that waits for a
release may bind (R265). -/
def State.tallyRelease (s : State) (z : Nat) : State :=
  let x := s.zone z
  if x.holder && !x.active && decide (x.state = .full) && x.padUnit.isNone &&
     x.slots.all (fun e => decide (e.2.kind = .unplaced) ||
       (decide ((s.block (s.zoneDie z e.1) e.2.block).state = .verified) && e.2.stream.isEmpty)) then
    (s.setZone z { x with holder := false, tallyAt := [] }).kick
  else s

/-- R227: the verification reads of a fold's wordline end, and with `ok` its map-commit record is written and MAP updated (R277). A
destination that fails retires with the stream still authoritative (R279). -/
def execFoldDone (zone slot : Nat) (ok : Bool) (s : State) : Host.Outcome State Fault Refusal :=
  .next (match s.foldMove zone slot with
    | none => s
    | some (n, m) =>
      if m.step ≠ 1 || 2048 ≤ s.commits || (s.dieMed m.srcDie).failed || !modeLedger s.mode || !s.acts14 m.srcDie ||
        (ok && s.moveVerifies m) then s
      else if ok then
        let sl := zslot (s.zone zone) slot
        let s1 := s.addCommit (commitSource m.srcDie m.srcBlock (4 * ((sl.qlcUnits - sl.base) % 128)))
          (commitTarget m.srcDie m.dstBlock 1 (moveCode m.kind)) .settled
        ((s1.dropMove n).applyFold m zone).tallyRelease zone
      else (s.raise .integCause 2).moveFailed n 3)

/-- R237: the evacuation for a waiting binding has ended: its folds have freed a block, the block is erased, and it is bound. -/
def execEvacuationDone (zone slot : Nat) (toSlc : Bool) (s : State) : Host.Outcome State Fault Refusal :=
  .next (if modeLedger s.mode then s.bindWaiting zone slot toSlc else s)

/-! ## Tail ring and Tally (R229, R262 to R267, R275) -/

/-- R229: the live tail pages of `block`, where it is the one that the ring reuses next, are copied forward, in the die's turn of class 14 (R268). -/
def execTailRingCopy (die block : Nat) (s : State) : Host.Outcome State Fault Refusal :=
  .next (let p := (s.dieMed die).tailPos
    let l := s.liveTails die block
    if decide (block ≠ nextBlock p 8) || l.isEmpty || 512 - p % 512 < l.length || (s.dieMed die).failed || !modeLedger s.mode || !s.acts14 die || !s.turn14 die rankRing ||
      !s.tallyRoom die || (s.die die).op.any (fun o => o.tail) then s
    else s.copyTails die l)

/-- R265: the live pages of `block`, where it is the one that the Tally ring reuses next, are copied forward, in the die's turn of class 14 (R268). -/
def execTallyForwardCopy (die block : Nat) (s : State) : Host.Outcome State Fault Refusal :=
  .next (let p := (s.dieMed die).tallyPos
    let l := s.liveTallies die block
    if decide (block ≠ nextBlock p 128) || l.isEmpty || 512 - p % 512 < 4 * l.length || (s.dieMed die).failed || !modeLedger s.mode || !s.acts14 die ||
      !s.turn14 die rankTally then s
    else l.foldl (fun s w => s.writeTally die w) s)

/-- The accumulator's stripe is complete: its 16 units, or all that a finished zone holds (R263). -/
def stripeDone (x : Zone) : Bool :=
  decide (x.accQuarters.length = 64) ||
  (decide (x.state = .full) && x.padUnit.isNone && decide (x.finish ≤ 1024 * (x.accStripe + 1)) && decide (1024 * x.accStripe < x.finish) &&
   decide (4 * (ceilDiv x.finish 64 - 16 * x.accStripe) ≤ x.accQuarters.length))

/-- The target die of a stripe's Tally takes it now: its MDP acts, its class 14 SLC program entries owe nothing that comes before, and the ring
has room (R263, R265, R268). -/
def State.tallyTurn (s : State) (d : Nat) : Bool :=
  !(s.dieMed d).failed && s.acts14 d && s.turn14 d rankRetire && s.tallyRoom d

/-- R263, R275: the Tally of stripe `w` is programmed on its target die: a completed stripe's from the accumulator, or one that
was recomputed, at its next target. -/
def execTallyProgram (zone w : Nat) (s : State) : Host.Outcome State Fault Refusal :=
  .next (let x := s.zone zone
    let code := 512 * zone + w
    if !x.holder || s.groupCount < 2 || !modeLedger s.mode then s
    else if s.med.recompute.contains code then
      let s1 := s.setZone zone { x with tallyMoved := cset 0 x.tallyMoved w (cget 0 x.tallyMoved w + 1) }
      let d := s1.tallyDie zone w
      if (s1.dieMed d).failed then s1
      else if s1.tallyTurn d then
        let s2 := s1.writeTally d (zone, w)
        { s2 with med := { s2.med with recompute := s2.med.recompute.filter (fun y => decide (y ≠ code)) } }
      else s
    else if x.accStripe = w && stripeDone x && !s.med.rebuilds.contains zone && s.tallyTurn (s.tallyDie zone w) then
      (s.setZone zone { x with accStripe := w + 1, accQuarters := [] }).writeTally (s.tallyDie zone w) (zone, w)
    else s)

/-- R267: a zone's lost accumulator has been rebuilt from its placed units, in the turn of class 14 of the zone's dies (R268). -/
def execAccumulatorRebuild (zone : Nat) (s : State) : Host.Outcome State Fault Refusal :=
  .next (if !s.med.rebuilds.contains zone || !modeLedger s.mode || !s.mdpActs (zone % max 1 s.groupCount) ||
      !(s.zoneDies zone).all (fun d => s.turn14 d rankRebuild) then s
    else
      let s1 : State := { s with med := { s.med with rebuilds := s.med.rebuilds.filter (fun z => decide (z ≠ zone)) } }
      s1.levelBit .integCause 8 (!s1.med.rebuilds.isEmpty))

/-! ## Verification and moves (R257, R264, R270, R277, R279) -/

/-- R257: the verification reads of a block end: all of them where they passed. What a move has written goes on to its commit, or the move
restarts (R279); a FULL block becomes VERIFIED, or is moved and retired. -/
def execBlockVerifyDone (die block : Nat) (ok : Bool) (s : State) : Host.Outcome State Fault Refusal :=
  .next (let x := s.block die block
    match s.copyMove die block with
    | some e =>
      if e.2.kind = .fold || e.2.kind = .evacuation || (ok && s.moveVerifies e.2) || e.2.vreads = 0 then s
      else if ok then s.setMove e.1 { e.2 with step := 2 }
      else (s.raise .integCause 2).moveFailed e.1 3
    | none =>
      if x.state ≠ .full || x.leaving || x.vreads = 0 || (ok && decide (x.vreads < s.verifyReads die block x.pages)) then s
      else if ok then
        let s1 := s.setBlock die block { x with state := .verified }
        match x.zone with | some z => s1.tallyRelease z | none => s1
      else (s.raise .integCause 2).moveAndRetire die block 3)

/-- MAP names the destination of a committed move of a whole block (R277 step 4). -/
def State.applyBlock (s : State) (m : Move) (z : Nat) : State :=
  let src := s.block m.srcDie m.srcBlock
  let x := s.zone z
  let sl := zslot x m.slot
  let swap (b : Nat) : Nat := if b = m.srcBlock then m.dstBlock else b
  let st : BState := if src.state = .lent then .lent else if src.state = .open_ then .open_ else .verified
  let s0 := if src.state = .lent then s.setDieMed m.srcDie { s.dieMed m.srcDie with lent := (s.dieMed m.srcDie).lent + 1 } else s
  let s1 := s0.setBlock m.srcDie m.dstBlock { s0.block m.srcDie m.dstBlock with state := st, lentAt := src.lentAt }
  let s2 : State := { s1 with med := { s1.med with sectors := omap (fun n (e : Stored) => copied m n e) s1.med.sectors } }
  s2.setZone z (setZslot x m.slot { sl with
    block := if sl.kind = .unplaced then sl.block else swap sl.block, stream := sl.stream.map swap })

/-- The sectors of a granule whose entries still name the source take their place in the pool block (R278). -/
def State.applyGranule (s : State) (m : Move) : State :=
  let s1 := ((List.range m.keys.length).zip m.keys).foldl (fun (s : State) p =>
    match ofind s.med.conv p.2 with
    | some e =>
      if e.place ≠ .staged && e.die = m.srcDie && e.block = m.srcBlock then
        { s with med := { s.med with
          conv := oput s.med.conv p.2 (copied m p.2 { e with place := .qlc, block := m.dstBlock, idx := 64 * m.unit + p.1 }) } }
      else s
    | none => s) s
  (s1.movedToQlc m.keys).fillLog m.srcDie m.dstBlock

/-- R277: the map-commit message of a verified move: the record is SECURED, MAP is updated, and it is SETTLED (R384). -/
def execMapCommitMessage (mv : Nat) (s : State) : Host.Outcome State Fault Refusal :=
  .next (match ofind s.med.moves mv with
    | none => s
    | some m =>
      if m.step ≠ 2 || 2048 ≤ s.commits then s
      else
        let s1 := (s.addCommit (commitSource m.srcDie m.srcBlock 0)
          (commitTarget m.srcDie m.dstBlock (s.movePages m) (moveCode m.kind)) .settled).setMove mv { m with step := 4 }
        match m.zone with
        | some z => (s1.applyBlock m z).tallyRelease z
        | none => s1.applyGranule m)

/-- R277: the source of a committed move is given up once every move out of it has committed and nothing reads it any more; it goes to erase
in class 14, or retires where it is being retired (R270). -/
def execSourceErase (mv : Nat) (s : State) : Host.Outcome State Fault Refusal :=
  .next (match ofind s.med.moves mv with
    | none => s
    | some m =>
      if m.step ≠ 4 then s
      else if m.zone.isNone && !(s.convIn m.srcDie m.srcBlock).isEmpty then s.dropMove mv
      else if s.blockInUse m.srcDie m.srcBlock || (s.blockMove m.srcDie m.srcBlock).isSome then s
      else
        let s1 := s.dropMove mv
        match (s1.block m.srcDie m.srcBlock).doom with
        | some c => s1.retireBlock m.srcDie m.srcBlock c
        | none => s1.freeBlock m.srcDie m.srcBlock)

/-! ## Spill and metadata (R384, R391 to R393) -/

/-- The record can be spilled (R384, R391, R393): SETTLED, its completion posted or undelivered, and no deallocation. -/
def spillable (r : Rec) : Bool := decide (r.state = .settled) && (r.posted || r.undelivered) && r.ranges.isEmpty

/-- R391: a spill program of up to 512 settled records in SEQ order succeeds, and they retire. -/
def execSpillProgram (s : State) : Host.Outcome State Fault Refusal :=
  .next (let l := (s.db.recs.filter (fun e => spillable e.2)).take 512
    if l.isEmpty || 524288 < s.db.spill.length + l.length then s
    else { s with db := { s.db with
      recs := s.db.recs.filter (fun e => !(l.any (fun f => decide (f.1 = e.1)))),
      spill := l.foldl (fun m e => oput m e.1 e.2) s.db.spill } })

/-- R392: the MDPs write a metadata copy that covers every record up to SEQ `top`: spill entries up to it are released, and
deallocations up to it retire (R393). -/
def execMetadataWrite (top : Nat) (s : State) : Host.Outcome State Fault Refusal :=
  .next (if s.db.nextSeq ≤ top || s.db.recs.any (fun e => decide (e.1 ≤ top) && decide (e.2.state ≠ .settled)) then s
    else { s with
      med := { s.med with covered := max s.med.covered top },
      db := { s.db with
        spill := s.db.spill.filter (fun e => decide (top < e.1)),
        recs := s.db.recs.filter (fun e => !(decide (e.1 ≤ top) && !e.2.ranges.isEmpty && (e.2.posted || e.2.undelivered))) },
      pwr := { s.pwr with metaCopy :=
        { time := s.pwr.time, frac := s.pwr.frac, hours := s.pwr.hours, minutes := s.pwr.minutes, cycles := s.pwr.cycles } } })

/-- Zones and padded programs that a record's staged sectors call for (R392). -/
def State.staleWork (s : State) (q : Nat) : State :=
  let zs := (s.med.sectors.filter (fun e => decide (e.2.seq = q) && decide (e.2.place = .staged))).map (fun e => e.1 / zoneSectors)
  let cs := (s.med.conv.filter (fun e => decide (e.2.seq = q) && decide (e.2.place = .staged))).map
    (fun e => 2 ^ 20 * (e.1 / 2 ^ 40) + e.2.die)
  let s1 := zs.foldl (fun s z => if (s.zone z).secWp % 16 = 0 then s else s.forceTail z) s
  cs.foldl (fun (s : State) c => if s.med.forced.contains c then s
    else { s with med := { s.med with forced := c :: s.med.forced } }) s1

/-- R392: a record SECURED for 64 Folios without settling forces a tail page or a padded SLC program. -/
def execStaleSecuredRecord (q : Nat) (s : State) : Host.Outcome State Fault Refusal :=
  .next (match s.dbRec q with
    | some r => if r.state = .secured && r.securedAt + 64 * folioTicks ≤ s.ldg.tick then s.staleWork q else s
    | none => s)

/-- Ticks of a day of device time. -/
def dayTicks : Nat := 86400000000000

/-- R259: the block's age since it was programmed reaches RETENTION_DAYS. -/
def execRetentionRefreshDue (die block : Nat) (s : State) : Host.Outcome State Fault Refusal :=
  .next (let x := s.block die block
    match s.band x.erases with
    | some v =>
      if (x.state = .full || x.state = .verified) && decide (x.programmed + v.retentionDays * dayTicks ≤ s.pwr.time) then
        s.setBlock die block { x with retention := true }
      else s
    | none => s)

/-! ## Zone query (R246) -/

/-- R246: a write of MED_ZQ_SEL loads the query registers from one tick and sets READY. -/
def execMedZqSelWrite (who : Requester) (value : BitVec 32) (s : State) : Host.Outcome State Fault Refusal :=
  .next (if !s.mayWrite who Reg.medZqSel then s
    else
      let z := getField value 0 18
      let i := getField value 18 4
      let x := s.zone z
      let sl := zslot x i
      let lclass := x.lclass.getD 3
      let kind := match sl.kind with | .unplaced => 0 | .direct => 1 | .folded => 2
      let units := (sl.quarters + 3) / 4 - (sl.qlcUnits - sl.base)
      let onSlot := match x.tail with | some t => decide (dieSlot t.1 = i) | none => false
      let s1 := s.setReg Reg.medZqSel (BitVec.ofNat 32 (z + 2 ^ 18 * i + 2 ^ 31))
      let s2 := s1.setReg Reg.medZqState (BitVec.ofNat 32
        (zstateCode x.state + 2 ^ 4 * (if x.state = .empty then 0 else lclass) + 2 ^ 7 * b2n x.short + 2 ^ 8 * x.wp))
      let s3 := s2.setReg Reg.medZqFinish (BitVec.ofNat 32 x.finish)
      let s4 := s3.setReg Reg.medZqSlot (BitVec.ofNat 32 (kind + 2 ^ 2 * sl.block + 2 ^ 14 * sl.qlcUnits))
      s4.setReg Reg.medZqSlc (BitVec.ofNat 32
        (if sl.stream.isEmpty then 2 ^ 13 * b2n onSlot
         else units % 1024 + 2 ^ 10 * sl.stream.length + 2 ^ 13 * b2n onSlot)))

end Sys2Proof.Machine
end

