-- ==== Sys2Proof/Machine/Sleep.lean ====
section
/-!
DEFINITION. Sleep entry, its abort points and the wake events (R485, R495 to R502), and the real-time clock (R502 to R505, R530).
-/
namespace Sys2Proof.Machine

/-! ## Wake events (R498 to R502) -/

/-- The source wakes the device from its sleep (R502). -/
def wakesFrom (t : SleepTarget) (src : Nat) : Bool :=
  match t with
  | .doze => [1, 3, 4, 5, 6].contains src
  | .hibernate => [1, 2, 5, 6].contains src

def State.wakeEnabled (s : State) (src : Nat) : Bool :=
  decide (1 ≤ src) && decide (src ≤ 6) && bitOf (s.reg Reg.pwrWakeEn) src

/-- LAST_WAKE, PWR_WAKE_TICK and PWR_WAKE_RTC are loaded together (R525). -/
def State.recordWake (s : State) (src : Nat) (abandoned : Bool) (ap : Nat) (fromHib : Bool) : State :=
  (((s.setReg Reg.lastWake (BitVec.ofNat 32 (src + 16 * b2n abandoned + 32 * ap + 128 * b2n fromHib))).setReg Reg.pwrWakeTick
    (BitVec.ofNat 32 s.ldg.tick)).setReg (Reg.pwrWakeTick + 4) (BitVec.ofNat 32 (s.ldg.tick / 2 ^ 32))).setReg Reg.pwrWakeRtc s.pwr.rtc

/-- Entry is abandoned at abort point `ap`, AP1 to AP4 as 0 to 3: fetching and credit admission resume (R498). -/
def State.abandonSleep (s : State) (src ap : Nat) : State :=
  match s.pwr.sleep with
  | none => s
  | some e =>
    let s1 : State := { s with pwr := { s.pwr with sleep := none } }
    (((s1.recordWake src true ap false).raise .pwrCause 0).reply e.via stSleepAbandoned 0).kick

/-- An enabled wake event. It restarts MGT's clock (R530). During an entry it is latched, and one in the request's tick or the next is found at AP1; in DOZE it
registers at once, in HIBERNATE at the next real-time edge (R498 to R500, R502). -/
def State.wakeEvent (s : State) (src : Nat) : State :=
  if !s.wakeEnabled src then s
  else
    let s0 : State := { s with pwr := { s.pwr with wakeSeen := some (src, s.ldg.tick) }, mgt := { s.mgt with clockStopped := false } }
    let s1 := match s0.pwr.sleep with
      | some e =>
        if e.wake.isSome || !wakesFrom e.target src then s0
        else if e.ap ≤ 1 && decide (s.ldg.tick ≤ e.q + 1) then s0.abandonSleep src 0
        else { s0 with pwr := { s0.pwr with sleep := some { e with wake := some src } } }
      | none => s0
    if s1.mode = .doze && wakesFrom .doze src && s1.pwr.wakeSrc.isNone then
      let s2 : State := { s1 with pwr := { s1.pwr with wakeSrc := some src, wakeTick := s1.ldg.tick } }
      (s2.recordWake src false 0 false).syncRail
    else if s1.mode = .hibernate && wakesFrom .hibernate src && s1.pwr.wakeSrc.isNone then
      { s1 with pwr := { s1.pwr with wakeSrc := some src } }
    else s1

/-! ## A sleep request (R496, R497) -/

/-- Some wake source that applies to the target is enabled (R496). -/
def State.canWake (s : State) (t : SleepTarget) : Bool := (List.range 7).any (fun c => wakesFrom t c && s.wakeEnabled c)

/-- A request is accepted: fetching stops, every active member's held commands end, and an event of the same tick is found at AP1
(R497, R499). A hibernate request in DOZE begins at AP3. -/
def State.sleepEntry (s : State) (t : SleepTarget) (v : Via) : State :=
  let e : SleepEntry := ⟨t, s.ldg.tick, if s.mode = .doze then 2 else 1, none, v⟩
  let s1 : State := { s with pwr := { s.pwr with sleep := some e } }
  let s2 := ((s.host.cmds.filter (fun c => s.memberActive c.2.member)).foldl (fun s c => s.interruptHeld c.1) s1).kick
  match s.pwr.wakeSeen with
  | some (src, t0) => if t0 = s.ldg.tick && wakesFrom t src then s2.abandonSleep src 0 else s2
  | none => s2

/-- A throttle cause has registered in this tick and leads out of SERVICE, so that a sleep request of the tick loses to it (R80). -/
def State.throttledNow (s : State) : Bool :=
  decide (s.mode = .service) && s.ldg.thrPending && decide (s.ldg.thrTick = s.ldg.tick) && decide (s.ldg.thrNow < s.throttleLevel)

/-- The answer of a sleep request that is turned away, none where it may run (R80, R496). -/
def State.sleepRefusal (s : State) (t : SleepTarget) : Option Status :=
  if s.mode = .drain || s.mode = .flush || s.throttledNow then some stSleepAbandoned
  else if !s.canWake t then some stInvalidField
  else if s.pwr.sleep.isSome || (s.mode = .doze && decide (t = .doze)) then some stSequenceError
  else none

def State.sleepRequest (s : State) (t : SleepTarget) (v : Via) : State :=
  match s.sleepRefusal t with
  | some st => s.reply v st 0
  | none => s.sleepEntry t v

/-! ## The abort points (R497) -/

/-- Tail pages and padded programs for every staged sector (R497, R400). -/
def State.forceAll (s : State) : State := s.db.recs.foldl (fun s r => if r.2.state = .secured then s.staleWork r.1 else s) s

/-- Every secured sector has settled. -/
def State.allSettled (s : State) : Bool :=
  s.med.sectors.all (fun e => decide (e.2.place ≠ .staged)) && s.med.conv.all (fun e => decide (e.2.place ≠ .staged)) &&
  s.db.recs.all (fun r => decide (r.2.state = .settled))

/-- A point is reached: the entry goes on, or a latched wake abandons it there. -/
def State.passPoint (s : State) (e : SleepEntry) (ap : Nat) : State :=
  match e.wake with
  | some w => s.abandonSleep w ap
  | none => { s with pwr := { s.pwr with sleep := some { e with ap := ap + 1 } } }

/-- R497: AP2, every fetched command has completed. A hibernate entry then forces the tail pages that settling needs. -/
def execAbortPointAp2 (s : State) : Host.Outcome State Fault Refusal :=
  .next (match s.pwr.sleep with
    | none => s
    | some e =>
      if decide (e.ap = 1) && decide (e.q < s.ldg.tick) && s.host.cmds.isEmpty then
        let s1 := s.passPoint e 1
        if e.target = .hibernate && s1.pwr.sleep.isSome then s1.forceAll else s1
      else s)

/-- R497: AP3. For DOZE the write buffers are empty; for HIBERNATE everything has settled and its records are written. -/
def execAbortPointAp3 (s : State) : Host.Outcome State Fault Refusal :=
  .next (match s.pwr.sleep with
    | none => s
    | some e =>
      let ready := match e.target with
        | .doze => decide (s.mem.occA = 0) && decide (s.mem.occB = 0)
        | .hibernate => s.allSettled && s.db.recs.isEmpty
      if decide (e.ap = 2) && ready then s.passPoint e 2 else s)

/-- The entry is at AP4 in this boundary's first tick: DOZE begins, channels parked and the level P3 (R497). -/
def State.enterDoze (s : State) : State :=
  let s1 := (s.enter .doze .sleep).syncBanks
  let s2 : State := { s1 with pwr := { s1.pwr with sleep := none, wakeSrc := none }, pins := { s1.pins with clkreqLow := false } }
  (s2.putVariant s2.ldg.reqNow.1 3).syncRail.withdrawUnserved

/-- HIBERNATE begins: DRAM in self-refresh, the real-time count latched, PWR_HOLD low, every island but AON off (R67, R497). -/
def State.enterHibernate (s : State) : State :=
  let s0 := s.stopTest
  let s1 : State := { s0 with mem := { s0.mem with selfRefresh := true }, pwr := { s0.pwr with rtcLatch := s0.pwr.rtc, wakeSrc := none } }
  let s2 := (s1.enter .hibernate .sleep).dropHibernate.floatLdg.syncBanks
  { s2 with pins := { s2.pins with pwrHold := false, clkreqLow := false } }

/-- R497: AP4, judged at a Folio boundary. A DRAIN that runs has taken the request away (R80, R496). -/
def State.sleepBoundary (s : State) : State :=
  match s.pwr.sleep with
  | none => s
  | some e =>
    if e.ap ≠ 3 || decide (s.mode = .drain) then s
    else match e.wake with
      | some w => s.abandonSleep w 3
      | none =>
        let s1 := ({ s with pwr := { s.pwr with sleep := none } }).reply e.via stOk 0
        match e.target with
        | .doze => s1.enterDoze
        | .hibernate => s1.enterHibernate

/-! ## Events of the management bus and of the real-time clock -/

/-- R502: an I3C private write of 0x57 to the dynamic address. DOZE and HIBERNATE acknowledge it; during an entry it is latched. One that
comes while MGT's clock is stopped is NACKed at its address, so that its first byte is never seen (R533). -/
def execMgmtWake (s : State) : Host.Outcome State Fault Refusal :=
  .next (if s.daValid && s.islandOn .aon && (s.mode = .doze || s.mode = .hibernate || s.pwr.sleep.isSome) then
      (if s.mode ≠ .hibernate && s.mgt.clockStopped then s.i3cNack else (s.i3cOk []).wakeEvent 5)
    else s)

/-- R535: an I3C private write. In DOZE a first byte of 0x57 is the MGMT wake, which the MP ignores as MCTP; in HIBERNATE the
matcher takes a first byte and acknowledges (R533). -/
def execMctpPacketWrite (addr : BitVec 7) (bs : List Byte) (s : State) : Host.Outcome State Fault Refusal :=
  .next (let wake := decide (bs.head? = some 0x57)
    if s.privateServed && s.addressed addr then
      (if s.mode = .doze && wake then (s.i3cOk []).wakeEvent 5 else (s.i3cOk []).takePacket bs)
    else if s.mode = .hibernate && s.addressed addr then
      (if wake then (s.i3cOk []).wakeEvent 5 else s.i3cOk [])
    else s.earlyMatch addr)

/-- R502: the real-time count equals PWR_ALARM. -/
def execAlarmMatch (s : State) : Host.Outcome State Fault Refusal :=
  .next (if s.islandOn .aon && decide (s.pwr.rtc = s.reg Reg.pwrAlarm) then s.wakeEvent 6 else s)

/-- Real-time periods of a minute. -/
def minutePeriods : Nat := 1966080

/-- Minutes of the current hour: one each 60 × 32,768 periods in the modes that count. The last minute stands complete until its
hour ends (R506). -/
def State.rtcMinute (s : State) : State :=
  if !modeLedger s.mode then s
  else
    let n := min minutePeriods (s.pwr.periods + 1)
    if n = minutePeriods && decide (s.pwr.minutes < 59) then { s with pwr := { s.pwr with minutes := s.pwr.minutes + 1, periods := 0 } }
    else { s with pwr := { s.pwr with periods := n } }

/-- A power-on hour is over: its 60 minutes have been counted. -/
def State.hourOver (s : State) : Bool := decide (59 ≤ s.pwr.minutes) && decide (s.pwr.periods = minutePeriods)

/-- The MP watchdog counts while MGT is out of reset and its clock runs; a stopped clock runs again after 32,768 periods (R530). -/
def State.wdogTick (s : State) : State :=
  if !s.islandOn .mgt || decide (s.mgt.mp = .restarting) then s
  else if s.mgt.clockStopped then
    { s with mgt := { s.mgt with stopped := s.mgt.stopped + 1, clockStopped := decide (s.mgt.stopped + 1 < 32768) } }
  else s.setFld Reg.mgtWdogStatus 0 17 (s.fld Reg.mgtWdogStatus 0 17 - 1)

/-- R502, R503: an edge of the 32.768 kHz clock: the real-time count, device time in MAINTENANCE, the watchdog, and a wake that
waits in HIBERNATE, which drives PWR_HOLD high (R72). -/
def execRtcPeriod (s : State) : Host.Outcome State Fault Refusal :=
  .next (if !s.islandOn .aon then s
    else
      let s1 : State := { s with pwr := { s.pwr with rtc := s.pwr.rtc + 1 } }
      let s2 := s1.rtcMinute.wdogTick
      if s.mode = .maintenance then s2.advanceRtc 1
      else if s.mode = .hibernate && s.pwr.wakeSrc.isSome && !s.boot.waking then
        let s3 := s2.recordWake (s.pwr.wakeSrc.getD 0) false 0 true
        { s3 with pins := { s3.pins with pwrHold := true }, boot := { s3.boot with waking := true, oscOk := false } }
      else s2)

end Sys2Proof.Machine
end

