-- ==== Sys2Proof/Machine/Thermal.lean ====
section
/-!
DEFINITION. Temperature (R507 to R511, R526), the wear governor (R514), power-on hours (R505), and the control loops (R515 to R520,
R527).
-/
namespace Sys2Proof.Machine

/-! ## Sensors (R507, R526) -/

/-- Quarters of a degree that a failed sensor counts as: 125 °C. -/
def failedReading : Int := 500

/-- Highest reading and its sensor, the lowest of equals. -/
def State.hottest (s : State) : Int × Nat :=
  s.thm.sensors.foldl (fun p e => match e.2.hist with
    | (_, r) :: _ => if p.1 < r then (r, e.1) else p
    | [] => p) (-1024, 0)

def State.anyAtLeast (s : State) (q : Int) : Bool :=
  s.thm.sensors.any (fun e => match e.2.hist with | (_, r) :: _ => decide (q ≤ r) | [] => false)

/-- A rise limit is holding on some sensor. -/
def State.rising (s : State) : Bool := s.thm.sensors.any (fun e => e.2.riseFrom.isSome)

/-- THM_STATUS follows the readings, THROTTLE_LEVEL and the rise limits. -/
def State.syncThm (s : State) : State :=
  let h := s.hottest
  let m := if s.thm.sensors.any (fun e => !e.2.hist.isEmpty) then h else (0, 0)
  let w := s.reg Reg.thmStatus
  s.setReg Reg.thmStatus (setField (setField (setField (setField w 0 11 (unsigned 11 m.1)) 11 4 m.2) 16 1
    (b2n (decide (s.throttleLevel ≠ 0)))) 17 1 (b2n s.rising))

/-- History that the rise rules need: back to the latest reading at or before one second ago, and at least 10 readings. -/
def trimHist (tick : Nat) (h : List (Nat × Int)) : List (Nat × Int) :=
  h.take (max 10 ((h.takeWhile (fun e => decide (tick < e.1 + 1000000000))).length + 1))

/-- The rise over the last second at a sample, none where no reading is that old (R510). -/
def riseOf (tick : Nat) (r : Int) (h : List (Nat × Int)) : Option Int :=
  (h.find? (fun e => decide (e.1 + 1000000000 ≤ tick))).map (fun e => r - e.2)

/-! ## Throttle steps (R509, R510) -/

/-- A sleep request of the same tick loses to a throttle cause that leads out of SERVICE (R80). -/
def State.throttleWins (s : State) : State :=
  match s.pwr.sleep with
  | some e => if s.mode = .service && decide (e.q = s.ldg.tick) then s.loseSleep.kick else s
  | none => s

/-- A throttle step: one level below the level in force, at most P3. A step to the level that THROTTLE_LEVEL holds already, whether in
force or on its way (R183), changes nothing. -/
def State.throttleStep (s : State) : State :=
  if decide (s.throttleLevel = 3) || decide (s.throttleLevel = s.level + 1) then s else ((s.throttleWins.raise .thmCause 1).throttleTo (min 3 (s.level + 1))).syncThm

/-- Modes in which a throttle cause is a SERVICE cause (R81). -/
def throttleMode (m : Mode) : Bool := modeLedger m

/-- What a sample does for the throttle rules: a crossing, a further step, or a rise limit; one step at one sample (R524). -/
def State.judgeThrottle (s : State) (reading : Int) (riseStep : Bool) : State :=
  let t := s.thr
  let limit : Int := 4 * t.tThrottle
  let crosses := decide (limit ≤ reading) && !s.thm.crossed
  let further := s.thm.crossed && s.anyAtLeast limit && !s.ldg.thrPending &&
    (match s.thm.lastStep with | some f => decide (f + 64 ≤ s.ldg.folios) | none => false)
  let s1 : State := { s with thm := { s.thm with
    crossed := (s.thm.crossed || crosses) && s.anyAtLeast (limit - 4 * t.hyst),
    hotFolio := s.thm.hotFolio || decide (limit - 4 * t.hyst ≤ reading) || s.rising } }
  let s2 := if riseStep then s1.raise .thmCause 2 else s1
  if (crosses || further || riseStep) && throttleMode s.mode then s2.throttleStep else s2

/-! ## Shutdown (R511) -/

/-- Quiesce bound by level (R149). -/
def quiesceBound (level : Nat) : Nat := [10923008, 10925464, 10929152, 10935296].getD level 10935296

/-- Least number of SLC program entries of host classes that start in a Folio of the variant in force. -/
def State.slcPerFolio (s : State) : Nat :=
  let l := match s.variant with
    | some v => layVariant v
    | none => layRom s.level s.med.groups.flatten
  leastFolio l (fun p => p.col) (fun p => b2n (decide (p.entry.type = 4) && decide (p.entry.cls ≤ 13)))

/-- Ticks to settle the cover at that rate, none where the rate is 0. -/
def State.settleBound (s : State) : Option Nat :=
  if s.slcPerFolio = 0 then none else some (ceilDiv (s.rsv.coverMib * 16 * folioTicks) s.slcPerFolio)

/-- 20 ms and the cover at 24 GB/s × 15/16 (R399). -/
def State.flushBound (s : State) : Nat := 20000000 + ceilDiv (s.rsv.coverMib * 1048576 * 16) 360

/-- The time left of a sensor in ns, none where it is unlimited. -/
def timeLeft (h : List (Nat × Int)) : Option Nat :=
  match h, (h.take 10).getLast? with
  | (t1, r1) :: _, some (t0, r0) =>
    if r1 ≤ r0 then none else some ((failedReading - r1).toNat * (t1 - t0) / (r1 - r0).toNat)
  | _, _ => none

def State.timeToDrain (s : State) (left : Option Nat) : Bool :=
  match left, s.settleBound with
  | none, some _ => true
  | none, none => false
  | some n, some b => decide (quiesceBound s.level + b + 10000000 + s.flushBound ≤ n)
  | some _, none => false

/-- Time is left for no FLUSH even. -/
def State.noTime (s : State) (left : Option Nat) : Bool :=
  match left with | some n => decide (n < s.flushBound) | none => false

/-- A shutdown in the mode the device is in. In DRAIN it becomes the cause that DRAIN ends for (R80). -/
def State.shutDown (s : State) (left : Option Nat) : State :=
  match s.mode with
  | .service => if s.timeToDrain left then s.enterDrain .thermal .thermal else s.enterFlush .thermal .thermal
  | .throttle => if s.timeToDrain left then s.enterDrain .thermal .thermal else s.enterFlush .thermal .thermal
  | .drain =>
    if s.timeToDrain left then
      let s1 := s.discardRequest
      { s1 with pwr := { s1.pwr with shutdownWaits := s.pwr.shutdownWaits || decide (s.pwr.drainFor = some .shutdown),
                                     drainFor := some .thermal } }
    else s.enterFlush .thermal .thermal
  | .doze => s.enterFlush .thermal .thermal
  | .fill => (s.raise .startCause 9).toOff .thermal .thermal
  | .load => (s.raise .startCause 9).toOff .thermal .thermal
  | .train => (s.raise .startCause 9).toOff .thermal .thermal
  | _ => s

def State.judgeShutdown (s : State) (reading : Int) (h : List (Nat × Int)) : State :=
  let left := timeLeft h
  if 4 * (s.thr.tShut : Int) ≤ reading && !s.thm.shutting then
    (({ s with thm := { s.thm with shutting := true } }).raise .thmCause 3).shutDown left
  else if s.thm.shutting && s.mode = .drain && s.noTime left then s.enterFlush .thermal .thermal
  else s

/-! ## The warning (R508) -/

/-- The asynchronous event goes to every enabled controller (PRESUMED: the NVMe code of a temperature threshold). -/
def State.warnEvent (s : State) : State :=
  s.host.ctrls.foldl (fun s e => if e.2.rdy then s.asyncEvent e.1 0x00020101#32 else s) s

def State.judgeWarn (s : State) (reading : Int) : State :=
  let limit : Int := 4 * s.thr.tWarn
  if limit ≤ reading && !bitOf (s.reg Reg.thmStatus) 15 then
    ((s.setFld Reg.thmStatus 15 1 1).raise .thmCause 0).warnEvent
  else if !s.anyAtLeast (limit - 4 * s.thr.hyst) then s.setFld Reg.thmStatus 15 1 0
  else s

/-- R507: junction sensor `n` takes a reading in quarters of a degree; `ok` says whether its reference check passes. -/
def execSensorSample (n : Nat) (reading : Int) (ok : Bool) (s : State) : Host.Outcome State Fault Refusal :=
  .next (let x := s.sensor n
    let fast := bitOf (s.reg (Reg.thmSensor + 4 * n)) 12
    if !s.islandOn .ldg || decide (16 ≤ n) || decide (s.ldg.tick % (if fast then 100000 else 1000000) ≠ 0) then s
    else
      let fails := !ok || decide (reading < -80) || decide (560 < reading)
      let r := if fails then failedReading else reading
      let t := s.thr
      let exceeds := decide (t.riseRate ≠ 0) && (match riseOf s.ldg.tick r x.hist with
        | some d => decide (2 * (t.riseRate : Int) < 5 * d) | none => false)
      let from_ := x.riseFrom.getD s.ldg.tick
      let riseStep := exceeds && decide (from_ + 1000000000 * t.riseTime ≤ s.ldg.tick)
      let h := trimHist s.ldg.tick ((s.ldg.tick, r) :: x.hist)
      let y : Sensor := { hist := h, riseFrom := if exceeds then some (if riseStep then s.ldg.tick else from_) else none }
      let w := BitVec.ofNat 32 (unsigned 11 r + 2048 * b2n fails + 4096 * b2n (decide (4 * ((t.tWarn : Int) - 10) ≤ r)))
      let s1 := ((s.setSensor n y).setReg (Reg.thmSensor + 4 * n) w).syncThm
      let s2 := if fails then s1.raise .thmCause 4 else s1
      ((s2.judgeWarn r).judgeThrottle r riseStep).judgeShutdown r h)

/-- R509: 763 cool Folios in a row raise THROTTLE_LEVEL by one. -/
def execThrottleRise (s : State) : Host.Outcome State Fault Refusal :=
  .next (if modeLedger s.mode && decide (763 ≤ s.thm.coolFolios) && decide (s.throttleLevel ≠ 0) then
      let s1 : State := { s with thm := { s.thm with coolFolios := 0 } }
      (s1.throttleTo (s.throttleLevel - 1)).syncThm
    else s)

/-- A Folio's end counts it as cool or not (R509). -/
def State.countCool (s : State) : State :=
  let hotNow := s.rising || s.anyAtLeast (4 * (s.thr.tThrottle : Int) - 4 * s.thr.hyst)
  { s with thm := { s.thm with coolFolios := if s.thm.hotFolio || hotNow then 0 else s.thm.coolFolios + 1, hotFolio := hotNow } }

/-! ## The wear governor and power-on hours (R505, R514) -/

/-- Blocks of the zone share and the conventional pool, and the mean of their erase counts. -/
def State.shareCount (s : State) : Nat := sumOf (s.med.groups.flatten.map (fun d => 3584 + (s.dieMed d).joined))
def State.meanErases (s : State) : Nat :=
  let n := s.shareCount
  if n = 0 then 0
  else sumOf ((s.med.blocks.filter (fun e => decide (e.1 % 4096 < 3584) ||
    (decide (3746 ≤ e.1 % 4096) && decide (e.1 % 4096 < 3746 + (s.dieMed (e.1 / 4096)).joined)))).map (fun e => e.2.erases)) / n

/-- R514: an evaluation of the wear governor. -/
def execWearEvaluation (s : State) : Host.Outcome State Fault Refusal :=
  .next (if !modeLedger s.mode || !s.pwr.wearDue then s
    else
      let t := s.thr
      let a := s.meanErases
      let a7 := s.pwr.wearHist.getLast?.getD a
      let rem := max 1 (t.lifeDays - s.pwr.hours / 24)
      let room := t.peRated - a
      let gain := a - a7
      let ahead := decide (7 * room < gain * rem)
      let factor := if ahead then min 16 (max 1 (ceilDiv (16 * 7 * room) (gain * rem))) else 16
      let pct := min 255 (100 * a / max 1 t.peRated)
      let w := BitVec.ofNat 32 (min a 65535 + 2 ^ 16 * factor + 2 ^ 21 * pct)
      let s1 : State := { s with pwr := { s.pwr with wearHist := (a :: s.pwr.wearHist).take 7, wearDue := false } }
      let s2 := s1.setReg Reg.pwrWear w
      let s3 := if ahead then s2.raiseWith .pwrCause 1 [] else s2
      if t.peRated ≤ a then s3.raise .pwrCause 2 else s3)

/-- R505, R506: a power-on hour ends: the count, and the copy in the metadata blocks. An evaluation of the wear governor is due once
every 24 of them (R514). -/
def execPowerOnHour (s : State) : Host.Outcome State Fault Refusal :=
  .next (if !modeLedger s.mode || !s.hourOver then s
    else
      let n := s.pwr.hours + 1
      let p := { s.pwr with hours := min (2 ^ 24 - 1) n, minutes := 0, periods := 0, wearDue := s.pwr.wearDue || decide (n % 24 = 0) }
      { s with pwr := { p with metaCopy := ⟨p.time, p.frac, p.hours, p.minutes, p.cycles⟩ } })

/-! ## Loops (R515 to R520) -/

/-- Output range of a loop: its entry's, or loop 0's and loop 2's whole range. -/
def State.outRange (s : State) (n : Nat) : Int × Int := ((s.loopCfg n).outMin, (s.loopCfg n).outMax)

/-- The value that a loop last wrote. -/
def State.loopOut (s : State) (n : Nat) : Int := (s.fld (loopReg Reg.loopStatus n) 16 16 : Nat)

/-- A loop's output goes to its pin (R52, R53). -/
def State.drive (s : State) (n : Nat) (v : Nat) : State :=
  let s1 := s.setFld (loopReg Reg.loopStatus n) 16 16 v
  { s1 with pins := match n with
    | 0 => { s1.pins with vrefOut := some v }
    | 1 => { s1.pins with chgPwm := v }
    | 2 => { s1.pins with flioOut := some v }
    | _ => { s1.pins with spareOut := v } }

/-- Loops 0 and 2 drive their reference outputs from their first close on: the value held, or the first value where the output
floated (R53). -/
def State.driveHeld (s : State) (n : Nat) : State :=
  match n with
  | 0 => let s1 := s.drive 0 (s.pins.vrefOut.getD 800); { s1 with pins := { s1.pins with vrefOnce := true } }
  | 2 => let s1 := s.drive 2 (s.pins.flioOut.getD 1200); { s1 with pins := { s1.pins with flioOnce := true } }
  | _ => s

/-- A loop closes: a reference output that floats begins at its first value, and the profile starts from the held value with the
first output (R519). -/
def State.closeLoop (s : State) (n : Nat) : State :=
  let s1 := s.driveHeld n
  let held : Int := s1.loopOut n * 1000
  let x := s1.loop n
  let y : Loop := { x with pos := held, base := held, breaks := [], integ := 0, prevErr := 0, err := 0, frozen := false, preset := true,
                           faultRun := 0, pendingClose := none }
  (s1.setLoop n y).setFld (loopReg Reg.loopCtl n) 0 4 3

/-- A loop opens: its output holds and its profile stops (R519). -/
def State.openLoop (s : State) (n : Nat) : State :=
  let x := s.loop n
  let s1 := s.setLoop n { x with base := x.pos, breaks := [], preset := false, faultRun := 0, pendingClose := none }
  s1.setFld (loopReg Reg.loopCtl n) 0 4 0

/-- A close or open request takes effect with the first tick of the next period (R516). -/
def State.syncClose (s : State) (n : Nat) : State :=
  match (s.loop n).pendingClose with
  | some (v, t) =>
    if t / 10000 < s.ldg.tick / 10000 then
      (if v then (if s.loopClosed n then s.setLoop n { s.loop n with pendingClose := none } else s.closeLoop n) else s.openLoop n)
    else s
  | none => s

/-- R516, R518: loop `n`'s sense is latched at period tick 6,250, in mV, and its settled state is judged. -/
def execLoopSample (n mv : Nat) (s : State) : Host.Outcome State Fault Refusal :=
  .next (if !s.islandOn .ldg || decide (4 ≤ n) || decide (s.ldg.tick % 10000 ≠ 6250) then s
    else
      let s := s.syncClose n
      let x := s.loop n
      let out := s.loopOut n
      let cfg := s.loopCfg n
      let e := out - (mv : Int)
      let s1 := s.setFld (loopReg Reg.loopStatus n) 0 16 mv
      if !s.loopClosed n then s1.setLoop n { x with err := e }
      else
        let settled := x.wroteTarget && decide (((mv : Int) * 1000 - x.target).natAbs ≤ 1000 * cfg.settleMv)
        let run := if x.breaks.isEmpty && decide (4 * cfg.settleMv < e.natAbs) then x.faultRun + 1 else 0
        let s2 := s1.setLoop n { x with err := e, faultRun := run }
        let s3 := if settled then s2.setFld (loopReg Reg.loopCtl n) 3 1 1 else s2
        if run = 3 then s3.raiseEach .loopCause (8 + n) else if 3 < run then s3.raise .loopCause (8 + n) else s3)

/-- A signed coefficient in 1/4,096. -/
def coef (w : Nat) : Int := signed 16 w

/-- The PID correction in 1/4,096 mV with an integrator (PRESUMED: proportional, sum and difference of e, once per period). -/
def State.pidCorr (s : State) (n : Nat) (x : Loop) (integ : Int) : Int :=
  coef (s.fld (loopReg Reg.loopCoef0 n) 0 16) * x.err + coef (s.fld (loopReg Reg.loopCoef0 n) 16 16) * integ +
    coef (s.fld (loopReg Reg.loopCoef1 n) 0 16) * (x.err - x.prevErr)

/-- The profile in whole mV, halves away from the start value. -/
def roundPos (x : Loop) : Int := if x.from_ ≤ x.pos then (x.pos + 500) / 1000 else -((-x.pos + 500) / 1000)

def clampInt (lo hi v : Int) : Int := max lo (min hi v)

/-- R516, R517: loop `n` writes its output at period tick 8,000. -/
def execLoopOutput (n : Nat) (s : State) : Host.Outcome State Fault Refusal :=
  .next (if !s.islandOn .ldg || decide (4 ≤ n) || decide (s.ldg.tick % 10000 ≠ 8000) then s
    else
      let s := s.syncClose n
      if !s.loopClosed n then s
      else
        let x := s.loop n
        let cfg := s.loopCfg n
        let p := roundPos x
        if x.preset then
          let ki := coef (s.fld (loopReg Reg.loopCoef0 n) 16 16)
          let integ := if ki = 0 then 0 else ((s.loopOut n - p) * 4096 - s.pidCorr n x 0) / ki
          let s1 := (s.setLoop n { x with preset := false, integ := integ, prevErr := x.err }).planLoop n x.target
          let y := s1.loop n
          s1.setLoop n { y with wroteTarget := decide (y.pos = y.target) && y.breaks.isEmpty }
        else
          let integ := if x.frozen then x.integ else x.integ + x.err
          let raw := s.pidCorr n x integ / 4096
          let corr := clampInt (-(cfg.corrMax : Int)) cfg.corrMax raw
          let want := p + corr
          let old := s.loopOut n
          let v := clampInt (old - cfg.vel) (old + cfg.vel) (clampInt (s.outRange n).1 (s.outRange n).2 want)
          let y : Loop := { x with integ := integ, prevErr := x.err, frozen := decide (v ≠ want),
                                   wroteTarget := decide (x.pos = x.target) && x.breaks.isEmpty }
          (s.setLoop n y).drive n v.toNat)

/-- One loop's step of the profile generator. -/
def State.stepLoop (s : State) (n : Nat) : State :=
  let s := s.syncClose n
  let x := s.loop n
  if !s.loopClosed n || x.preset then s
  else
    let y := profileStep (limitsOf (s.loopCfg n)) x s.ldg.tick
    (s.setLoop n y).setFld (loopReg Reg.loopCtl n) 2 1 (b2n !y.breaks.isEmpty)

/-- R517: the profile generator steps every 1,000 ticks. -/
def execProfileStep (s : State) : Host.Outcome State Fault Refusal :=
  .next (if s.islandOn .ldg && decide (s.ldg.tick % 1000 = 0) then (List.range 4).foldl (fun s n => s.stepLoop n) s else s)

/-- R518: loop `n` has not settled 100 µs after its profile reached the target. -/
def execSettleLate (n : Nat) (s : State) : Host.Outcome State Fault Refusal :=
  .next (let x := s.loop n
    match x.reachedAt with
    | some t =>
      if decide (n < 4) && s.loopClosed n && !s.loopSettled n && !x.lateSet && decide (t + 100000 ≤ s.ldg.tick) then
        (s.setLoop n { x with lateSet := true }).raise .loopCause (4 + n)
      else s
    | none => s)

/-- R519: a write of LOOP_n_CTL; CLOSE takes effect at the next period. -/
def execLoopCloseWrite (who : Requester) (n : Nat) (close : Bool) (s : State) : Host.Outcome State Fault Refusal :=
  .next (if 4 ≤ n || !s.mayWrite who (loopReg Reg.loopCtl n) then s
    else
      let s1 := s.syncClose n
      (s1.setLoop n { s1.loop n with pendingClose := some (close, s.ldg.tick) }).setFld (loopReg Reg.loopCtl n) 0 1 (b2n close))

/-- R519: a write of LOOP_n_COEF0 or, with `second`, of LOOP_n_COEF1; ignored while the loop is closed. -/
def execCoefWrite (who : Requester) (n : Nat) (second : Bool) (value : BitVec 32) (s : State) : Host.Outcome State Fault Refusal :=
  .next (let o := loopReg (if second then Reg.loopCoef1 else Reg.loopCoef0) n
    if 4 ≤ n || !s.mayWrite who o then s
    else
      let s1 := s.syncClose n
      if s1.loopClosed n then s1.raise .loopCause n
      else s1.setReg o (if second then value &&& 0xFFFF#32 else value))

/-- R517: a write of LOOP_n_SETPOINT; loop 0's is read only (R527). -/
def execSetpointWrite (who : Requester) (n : Nat) (value : BitVec 32) (s : State) : Host.Outcome State Fault Refusal :=
  .next (if n = 0 || 4 ≤ n || !s.mayWrite who (loopReg Reg.loopSetpoint n) then s
    else (s.syncClose n).setTarget n (getField value 0 16))

/-- R520: loop 1 closes again once PLOSS_N has been high for 100 ms. -/
def execLoop1Reclose (s : State) : Host.Outcome State Fault Refusal :=
  .next (if s.islandOn .ldg && s.plossHigh && decide (s.boot.plossUp + 100000000 ≤ s.ldg.tick) &&
      bitOf (s.reg (loopReg Reg.loopCtl 1)) 0 && !s.loopClosed 1 then s.closeLoop 1 else s)

end Sys2Proof.Machine
end

