-- ==== Sys2Proof/Machine/Power.lean ====
section
/-!
DEFINITION. Board signals and start-up (spec 02, 03): POR_N, PLOSS_N and PWR_GOOD, STRAP, FILL, LOAD and TRAIN up to Folio 0, and the
PCIe sideband signals.
-/
namespace Sys2Proof.Machine

/-! ## POR_N, PLOSS_N and PWR_GOOD (R50, R51, R66 to R72, R77, R79) -/

/-- OFF ends into STRAP where R66 holds. -/
def State.tryStrap (s : State) : State :=
  if s.mode = .off && s.pins.porN && s.pins.pwrGood && s.plossHigh then s.toStrap true else s

/-- R77: POR_N goes low: OFF at once, every register reset, and AON with its retention bank lost. -/
def execPorNAssert (s : State) : Host.Outcome State Fault Refusal :=
  .next (let s0 := s.norAbandon
    let s1 := ({ s0 with pins := { s0.pins with porN := false } }).toOff .por .por
    { s1 with
      regs := [], boot := {}, mgt := {}, jtag := {},
      evt := { log := s1.evt.log, pagePrograms := s1.evt.pagePrograms },
      pwr := { flushCopy := s1.pwr.flushCopy, metaCopy := s1.pwr.metaCopy, wearHist := s1.pwr.wearHist, wearDue := s1.pwr.wearDue },
      xfr := keepSpaces (fun n => decide (n = 10)) s1.xfr, mem := {},
      pins := { s1.pins with alertN := true, ddrResetN := false, vrefOnce := false, flioOnce := false } })

/-- R66: POR_N rises: AON runs, and STRAP is entered once PWR_GOOD and PLOSS_N are high too. A PLOSS_N that is low then is taken as
low: AON has seen no edge to qualify (R50). -/
def execPorNRelease (s : State) : Host.Outcome State Fault Refusal :=
  .next (if s.pins.porN then s
    else ({ s with pins := { s.pins with porN := true },
                   boot := { s.boot with offReason := .por, plossFalling := false, plossLow := !s.pins.plossN } }).syncBanks.tryStrap)

/-- R50: a falling edge of PLOSS_N starts the 2 µs qualification, where AON runs; nothing acts on the low before it registers. -/
def execPlossNFall (s : State) : Host.Outcome State Fault Refusal :=
  .next (if s.pins.plossN then
      { s with pins := { s.pins with plossN := false }, boot := { s.boot with plossFalling := s.pins.porN } }
    else s)

/-- Loop 1 opens with CHG_PWM low (R520). -/
def State.chargerOff (s : State) : State :=
  if s.islandOn .ldg then
    let s1 := s.setLoop 1 { s.loop 1 with base := (s.loop 1).pos, breaks := [], preset := false }
    let s2 := s1.setFld (loopReg Reg.loopCtl 1) 1 3 0
    (s2.setFld (loopReg Reg.loopStatus 1) 16 16 0)
  else s

/-- What power loss does in each mode (R51, R69 to R71, R77, R101, R520). -/
def State.powerLoss (s : State) (c : ModeCause) : State :=
  let s0 : State := if s.rsv.test.isSome then s.stopTest.raise .boardCause 4 else s
  let s1 := s0.chargerOff
  let s2 : State := { s1 with pins := { s1.pins with chgPwm := 0 } }
  match s.mode with
  | .strap => (s2.raise .boardCause 3).toOff .ploss c
  | .fill => (s2.raise .boardCause 3).toOff .ploss c
  | .load => (s2.norAbandon.raise .boardCause 3).toOff .ploss c
  | .train => (s2.norAbandon.raise .boardCause 3).toOff .ploss c
  | .service => s2.enterFlush .ploss c
  | .throttle => s2.enterFlush .ploss c
  | .drain => s2.enterFlush .ploss c
  | .doze => s2.enterFlush .ploss c
  | .hibernate => s2.raise .boardCause 0
  | .maintenance => s2.norAbandon.toOff .ploss c
  | .flush => s2
  | .off => s2

/-- R50: PLOSS_N has been low for 2 µs, and the assertion registers: the 100 ms count of OFF starts again (R79). -/
def execPlossNAssert (s : State) : Host.Outcome State Fault Refusal :=
  .next (if s.boot.plossFalling && !s.pins.plossN && s.pins.porN then
      ({ s with boot := { s.boot with plossFalling := false, plossLow := true, offCount := false } }).powerLoss .ploss
    else s)

/-- OFF after a loss waits 100 ms with both inputs high; a wait for R66 ends at once (R66, R79). -/
def State.inputsHigh (s : State) : State :=
  if s.mode = .off && s.pins.porN && s.pins.pwrGood && s.plossHigh then
    match s.boot.offReason with
    | .por => s.tryStrap
    | .ploss => { s with boot := { s.boot with offCount := true } }
    | .thermal => s
  else s

/-- R79: PLOSS_N returns high. A low pulse that has not registered changes nothing else (R50). -/
def execPlossNRise (s : State) : Host.Outcome State Fault Refusal :=
  .next (let s1 : State := { s with pins := { s.pins with plossN := true },
                                    boot := { s.boot with plossFalling := false, plossLow := false } }
    if s.boot.plossLow then ({ s1 with boot := { s1.boot with plossUp := s.ldg.tick } }).inputsHigh else s1)

/-- R79: PLOSS_N and PWR_GOOD have been high for 100 ms. -/
def execOffExitCountExpiry (s : State) : Host.Outcome State Fault Refusal :=
  .next (if s.boot.offCount && s.boot.offReason = .ploss then s.tryStrap else s)

/-- R69: PWR_GOOD falls; with PWR_HOLD and PLOSS_N high that is a power loss. A wake from HIBERNATE waits for it to rise again, and
qualifies the oscillator then (R95). -/
def execPwrGoodDrop (s : State) : Host.Outcome State Fault Refusal :=
  .next (if !s.pins.pwrGood then s
    else
      let s1 : State := { s with pins := { s.pins with pwrGood := false },
                                 boot := { s.boot with offCount := false, oscOk := s.boot.oscOk && !s.boot.waking } }
      if s.pins.pwrHold && s.plossHigh then (s1.raise .boardCause 2).powerLoss .pwrGood else s1)

/-- R95: PWR_GOOD rises: OFF goes on as its cause allows, and a wake from HIBERNATE qualifies its oscillator. -/
def execPwrGoodRise (s : State) : Host.Outcome State Fault Refusal :=
  .next (({ s with pins := { s.pins with pwrGood := true } }).inputsHigh)

/-- R72: PWR_GOOD is not high 328 real-time periods after PWR_HOLD rose. -/
def execRailTimeout (s : State) : Host.Outcome State Fault Refusal :=
  .next (if s.mode = .hibernate && s.boot.waking && !s.pins.pwrGood then s.raise .boardCause 1 else s)

/-! ## STRAP (R58, R59, R61, R77, R82, R83) -/


/-- Banks that FILL writes: all, the nine beside AON retention, or those that HIBERNATE does not retain (R84, R95). -/
def fillBanks (fromOff resume : Bool) : List Bank :=
  if resume then [.queue, .mint, .xfr, .scratch]
  else if fromOff then allBanks
  else allBanks.filter (fun b => decide (b ≠ .aonRetention))

/-- FILL begins, with DDR_RESET_N high (R63, R84), the crossbar's pointers at port 0 (R189) and no watchdog expiry counted (R558). -/
def State.enterFill (s : State) (resume : Bool) (c : ModeCause) : State :=
  let s1 := ((s.enter .fill c).syncBanks.driveRefs).setFld Reg.mgtWdogStatus 24 8 0
  { s1 with
    boot := { s1.boot with banksLeft := fillBanks s.boot.fromOff resume, calDone := false, waking := false, pllLocked := none,
                           dram := if resume && s.dramKept then .done else .sweeping },
    mem := { s1.mem with selfRefresh := false },
    xfr := { s1.xfr with xbarPtr := [] },
    pins := { s1.pins with ddrResetN := true } }

/-- STRAP ends into FILL with the LDG tick count at 0, `us` µs after STRAP began (R82, R104). -/
def State.strapEnds (s : State) (us : Nat) : State :=
  let s1 := s.phaseTime 0 us
  let s2 : State := { s1 with ldg := { s1.ldg with tick := 0 }, boot := { s1.boot with plossUp := 0 },
                              mgt := { s1.mgt with alertPipe := s1.mgt.alertPipe.map (fun v => (v.1, 64)) } }
  s2.enterFill false .none

/-- What STRAP does once its straps are decoded: BOOT_SEL 0b11 or unstable straps lead to MAINTENANCE once the oscillator is
qualified; otherwise FILL follows where the PLLs have locked already (R77; log entry 145). -/
def State.strapCheck (s : State) : State :=
  if s.mode = .strap && s.boot.strapDone && s.boot.oscOk then
    if bitOf (s.reg Reg.aonStrap) 15 then s.toMaint 2 .straps
    else if s.bootSel = 3 then s.toMaint 1 .straps
    else match s.boot.pllLocked with | some us => s.strapEnds us | none => s
  else s

/-- AON_STRAP takes a sample (R61). -/
def State.setStrap (s : State) (v : BitVec 8) (unstable : Bool) : State :=
  let s1 := s.setReg Reg.aonStrap (BitVec.ofNat 32 (v.toNat + 256 * (0x30 + getField v 0 4) + 2 ^ 15 * b2n unstable))
  { s1 with boot := { s1.boot with strapDone := true } }

/-- R58: a sample of the straps, SLOT_ID in [5:0] and BOOT_SEL in [7:6]; two alike in a row end the sampling, or the 32nd. -/
def execStrapSample (v : BitVec 8) (s : State) : Host.Outcome State Fault Refusal :=
  .next (if s.mode ≠ .strap || s.boot.strapDone then s
    else
      let n := s.boot.strapCount + 1
      if s.boot.strapPrev = some v then (s.setStrap v false).strapCheck
      else if 32 ≤ n then (s.setStrap v true).strapCheck
      else { s with boot := { s.boot with strapPrev := some v, strapCount := n } })

/-- R82, R95: the 25 MHz oscillator is qualified. -/
def execOscillatorQualified (s : State) : Host.Outcome State Fault Refusal :=
  .next (if s.boot.xtalStop then s
    else if s.mode = .strap || (s.mode = .hibernate && s.boot.waking && s.pins.pwrGood) then
      ({ s with boot := { s.boot with oscOk := true } }).strapCheck
    else s)

/-- R82, R95: the PLLs lock, `us` µs after STRAP began. The tick count starts at 0 (R154); after HIBERNATE it resumes, and device
time advances by the real-time periods that have passed (R504). A lock that comes before the straps have agreed is held until they do:
R82 ends STRAP in the tick of the lock and R77 asks for stable straps too (DESIGN CHOICE, log entry 145). -/
def execPllLock (us : Nat) (s : State) : Host.Outcome State Fault Refusal :=
  .next (if s.boot.xtalStop || !s.boot.oscOk then s
    else if s.mode = .strap then
      (if s.boot.strapDone then s.strapEnds us else { s with boot := { s.boot with pllLocked := some us } })
    else if s.mode = .hibernate && s.boot.waking && s.pins.pwrGood then
      let n := (s.pwr.rtc - s.pwr.rtcLatch).toNat
      let s1 := (s.advanceRtc n).resetRegs wakeResets
      let s2 := (s1.setReg Reg.pwrWakeTick (BitVec.ofNat 32 s1.ldg.tick)).setReg (Reg.pwrWakeTick + 4)
        (BitVec.ofNat 32 (s1.ldg.tick / 2 ^ 32))
      let s3 := s2.setFld Reg.aonMode 12 1 1
      ({ s3 with pwr := { s3.pwr with wakeSrc := none } }).enterFill true .wake
    else s)

/-- R83, R95: the oscillator has not qualified in 10 ms; only a POR_N cycle goes on. -/
def execXtalFail (s : State) : Host.Outcome State Fault Refusal :=
  .next (if !s.boot.oscOk && (s.mode = .strap || (s.mode = .hibernate && s.boot.waking && s.pins.pwrGood)) then
      ({ s with boot := { s.boot with xtalStop := true } }).raise .startCause 0
    else s)

/-! ## FILL (R84 to R86) -/

/-- FILL ends into LOAD once every fill is complete: step 1, or the resume form's step 4 (R95). -/
def State.fillCheck (s : State) : State :=
  if s.mode = .fill && s.boot.calDone && s.boot.banksLeft.isEmpty && s.boot.dram = .done then
    let s1 := (s.phaseEnd 1).enter .load .none
    { s1 with boot := { s1.boot with step := if s.resuming then 4 else 1, slot := if s.resuming then s.bootSlot else none,
                                     cands := [], faults := 0 } }
  else s

/-- R84: the calibration row has been read and checked. -/
def execCalRowReadDone (s : State) : Host.Outcome State Fault Refusal :=
  .next (if s.mode ≠ .fill || s.boot.calDone then s
    else if s.calValid then
      ({ s with boot := { s.boot with calDone := true }, host := { s.host with cfgReady := true } }).fillCheck
    else (s.raise .startCause 1).toMaint 5 .cal)

/-- R84: a fill engine has filled its bank. -/
def execBankFillDone (b : Bank) (s : State) : Host.Outcome State Fault Refusal :=
  .next (if s.mode = .fill then
      ({ s with boot := { s.boot with banksLeft := s.boot.banksLeft.filter (fun x => decide (x ≠ b)) } }).fillCheck
    else s)

/-- Lanes of a subchannel whose eyes are too narrow (R86). -/
def badLanes (eyes : List LaneEye) (subB : Bool) : List Nat :=
  (List.range 10).filter (fun n => eyes.any (fun e => decide (e.subB = subB) && decide (e.lane.val = n) &&
    (decide (e.rdWidth.toNat < 16) || decide (e.wrWidth.toNat < 16))))

/-- The lane treated as erased after a sweep: at most one, and the same at every level (R86, R93); `none` where the sweep fails. -/
def eraseLane (old : Option Nat) (bad : List Nat) : Option (Option Nat) :=
  match bad with
  | [] => some old
  | [n] => if old.getD n = n then some (some n) else none
  | _ => none

/-- The outcome of a DDR5 sweep: the state after it, with DRAM_DEGRADED where it has erased a device, or none where it fails beyond the
degraded limit (R86). -/
def State.sweep (s : State) (eyes : List LaneEye) : Option State :=
  match eraseLane s.boot.erasedA (badLanes eyes false), eraseLane s.boot.erasedB (badLanes eyes true) with
  | some a, some b =>
    let s1 : State := { s with boot := { s.boot with erasedA := a, erasedB := b } }
    some (if decide (a ≠ s.boot.erasedA) || decide (b ≠ s.boot.erasedB) then s1.raise .startCause 2 else s1)
  | _, _ => none

/-- R86: the boot eye sweep ends. -/
def execDdr5BootSweepDone (eyes : List LaneEye) (s : State) : Host.Outcome State Fault Refusal :=
  .next (if s.mode ≠ .fill || s.boot.dram ≠ .sweeping then s
    else match ({ s with boot := { s.boot with erasedA := none, erasedB := none } } : State).sweep eyes with
      | some s1 => { s1 with boot := { s1.boot with dram := .filling } }
      | none => (s.raise .startCause 3).toMaint 6 .dram)

/-- R84: the DRAM zero fill ends. -/
def execDramFillDone (s : State) : Host.Outcome State Fault Refusal :=
  .next (if s.mode = .fill && s.boot.dram = .filling then ({ s with boot := { s.boot with dram := .done } }).fillCheck else s)

/-! ## PCIe sideband (R84, R99, R502) -/

/-- Every function's NVMe state and the PCIe queues return to reset: accepted commands run on without completions, the others are
gone (R99, R570). -/
def State.pcieReset (s : State) : State :=
  let s1 := (s.host.cmds.filter (fun e => !e.2.net)).foldl (fun s e => s.resetOne e.1) s
  let h := s1.host
  let s2 : State := { s1 with host := { h with linkUp := false, ctrls := [], queues := [], vfEnable := false, numVfs := 0,
                                               netVfs := if h.vfEnable then h.numVfs else h.netVfs, pasidEnable := false, mediation := [], nsWait := [] } }
  s2.kick

/-- R99: PERST_N goes low; after FILL it resets the PCIe and NVMe state of HST. -/
def execPerstNAssert (s : State) : Host.Outcome State Fault Refusal :=
  .next (let s1 : State := { s with pins := { s.pins with perstN := false } }
    if s.islandOn .hst && s.mode ≠ .fill then s1.pcieReset else { s1 with host := { s1.host with linkUp := false } })

/-- R99, R502: PERST_N goes high; a rising edge is a wake event. -/
def execPerstNRelease (s : State) : Host.Outcome State Fault Refusal :=
  .next (if s.pins.perstN then s else ({ s with pins := { s.pins with perstN := true } }).wakeEvent 2)

/-- R84: the LTSSM has trained at generation `gen` and `width` lanes; `mps` is the Maximum Payload Size in force (R181). -/
def execPcieLinkUp (link : LinkUp) (s : State) : Host.Outcome State Fault Refusal :=
  .next (if s.islandOn .hst && s.pins.perstN then
      { s with host := { s.host with linkUp := true, linkGen := link.gen, linkWidth := link.width, linkMps := link.mps } }
    else s)

/-- R502: CLKREQ_N has been low for 1 µs. -/
def execClkreqNAssert (s : State) : Host.Outcome State Fault Refusal :=
  .next (s.wakeEvent 1)

/-! ## LOAD (R87 to R92, R95) -/

/-- Step 1: the markers are read under BOOT_SEL 0b00 only (R122). -/
def State.readMarkers (s : State) : State :=
  let a := if s.bootSel = 0 then s.markerSeq .a else none
  let b := if s.bootSel = 0 then s.markerSeq .b else none
  ((s.setReg Reg.norSlotStatus (BitVec.ofNat 32 (256 * b2n a.isSome + 512 * b2n b.isSome))).setReg Reg.norSlotSeq
    (BitVec.ofNat 32 (a.getD 0))).setReg (Reg.norSlotSeq + 4) (BitVec.ofNat 32 (b.getD 0))

def State.loadGo (s : State) (n : Nat) : State := { s with boot := { s.boot with step := n } }

def State.loadStep1 (s : State) : State :=
  if s.boot.slot.isSome then s.loadGo 2
  else
    let s1 := s.readMarkers
    if s.bootSel = 0 then
      match s.slotCands with
      | x :: r => ({ s1 with boot := { s1.boot with slot := some x, cands := x :: r } }).loadGo 2
      | [] => s1.markNoCand.toMaint 3 .slots
    else ({ s1 with boot := { s1.boot with slot := some (if s.bootSel = 1 then .a else .b) } }).loadGo 2

/-- Step 3: the slot passes R120, or fails verification (R88). -/
def State.loadStep3 (s : State) : State :=
  match s.boot.slot with
  | some x =>
    let r := s.slotReason x
    if r = 0 then (s.setSlotReason x 0).loadGo 4 else s.slotFail x r
  | none => s

/-- Loop registers and targets take the thresholds section (R521, R527). -/
def State.placeLoops (s : State) : State :=
  (List.range 4).foldl (fun s n =>
    let c := s.loopCfg n
    let mv := if n = 0 then 800 else c.setpoint
    let s1 := ((s.setReg (loopReg Reg.loopCoef0 n) (c.kp.setWidth 32 ||| (c.ki.setWidth 32 <<< 16))).setReg (loopReg Reg.loopCoef1 n)
      (c.kd.setWidth 32)).setReg (loopReg Reg.loopSetpoint n) (BitVec.ofNat 32 mv)
    s1.setLoop n { s1.loop n with target := (mv : Int) * 1000 }) s

/-- The active-zone limit that LOAD fixes (R216), the geometry's groups (R117), and the DRAM regions (R24). -/
def State.placeGeometry (s : State) (g : Geometry) : State :=
  let s1 := s.setFld Reg.medZoneLimits 0 14 (min 8192 (4 * g.coverMib))
  { s1 with med := { s1.med with groups := g.groups.map (fun ds => ds.map (·.toNat)) },
            mem := { s1.mem with regions := dramRegions g } }

/-- The sections that both forms of step 4 place. -/
def State.placeCommon (s : State) (im : Image) : State :=
  let s1 : State := { s with boot := { s.boot with image := some im } }
  let s2 := (s1.placeGeometry im.geometry).loadRecipes im.recipes
  (if s2.imageThr.isNone then s2.raise .pwrCause 3 else s2).placeLoops

/-- Step 4: the sections are placed, the firmware's DIGEST copied into AON retention, accounts bound, and the log's write point found
(R116, R331, R548). -/
def State.loadStep4 (s : State) (x : Slot) (im : Image) : State :=
  let sp := s.placeCommon im
  let s0 := ({ sp with boot := { sp.boot with fwDigest := (im.dir[0]?).map DirEntry.digest } }).setReg Reg.aonFwRelease im.fwRelease
  let s1 := s0.setFld Reg.aonMode 13 2 (match x with | .a => 1 | .b => 2)
  let s1 : State := if s1.totalVfs < s1.host.numVfs then { s1 with host := { s1.host with vfEnable := false, numVfs := 0 } } else s1
  let s2 := if verifyOk im.verify then s1 else s1.raise .integCause 6
  ((s2.loadAccounts im).logSearch).loadGo 5

/-- The section of a directory entry, read again from slot `x`, has the DIGEST `d`. -/
def State.sectionIs (s : State) (x : Slot) (e : DirEntry) (d : BitVec 384) : Bool :=
  decide (Config.sha384 (bytesAt (s.slotBytes x) e.offset e.length) = d)

/-- The held image with its geometry, recipes and thresholds read again from the booted slot (R95): none where one of them fails its
DIGEST in the directory held, or, where DRAM was not kept, the firmware section fails the digest in AON retention. -/
def State.resumeImage (s : State) (x : Slot) (im : Image) : Option Image :=
  let again (k : Nat) : Bool := match im.dir[k]? with | some e => s.sectionIs x e e.digest | none => false
  let fw : Bool := match im.dir[0]?, s.boot.fwDigest with | some e, some d => s.sectionIs x e d | _, _ => false
  let sec (k : Nat) : Nat → Byte := fromOff (s.slotBytes x) (match im.dir[k]? with | some e => e.offset | none => 0)
  let len (k : Nat) : Nat := match im.dir[k]? with | some e => e.length | none => 0
  if again 3 && again 5 && again 6 && (im.geometry.dramKept || fw) then
    some { im with geometry := readGeometry (sec 3), recipes := readRecipes (sec 5) (len 5), thresholds := readThresholds (sec 6) (len 6) }
  else none

/-- Step 4 in resume form: the geometry, recipes and thresholds are placed again, the PLAN bank's copies restored, and deferred
records join the queue (R95). A section that fails its digest is a fault under R91. -/
def State.resumeStep4 (s : State) : State :=
  match s.bootSlot, s.boot.image with
  | some x, some held =>
    match s.resumeImage x held with
    | some im =>
      let s1 := (s.placeCommon im).restorePlan
      { s1 with evt := { s1.evt with ready := true, queue := s1.evt.queue ++ s1.evt.deferred, deferred := [] },
                boot := { s1.boot with step := 5 } }
    | none => s.loadFault
  | _, _ => s.loadFault

/-- Step 5: loops 0 and 2 close, and the core rail moves to P3's voltage. -/
def State.loadStep5 (s : State) : State :=
  let close (s : State) (n : Nat) : State := (s.setFld (loopReg Reg.loopCtl n) 0 1 1).closeLoop n
  (close (close s 0) 2).setTarget 0 (levelMv 3)

/-- Step 6: the variants are checked and the Mint's turns laid out. -/
def State.loadStep6 (s : State) (im : Image) : State := ((((s.loadPlans im).wholeCredit im).layAll im).keepPlan).loadGo 7

/-- A LUN answers its ID read with FLASH_ID, and its parameter page is not among those that misfit the geometry (R90, R117). -/
def lunOk (g : Geometry) (ids : List (Nat × BitVec 64)) (misfit : List Nat) (d : Nat) : Bool :=
  ids.any (fun l => decide (l.1 = d) && decide (l.2 = g.flashId)) && !misfit.contains d

/-- Step 7: dies that the geometry names and that do not answer so set DIE_ABSENT at every start, and those that have not failed before are
whole-die failures (R90). -/
def State.loadStep7 (s : State) (ids : List (Nat × BitVec 64)) (misfit : List Nat) : State :=
  let absent : List Nat := match s.boot.image with
    | some im => s.med.groups.flatten.filter (fun d => !lunOk im.geometry ids misfit d)
    | none => []
  let s1 : State := { s with boot := { s.boot with absent := absent } }
  (absent.filter (fun d => !(s.dieMed d).failed)).foldl (fun s d => s.failDie d)
    (if absent.isEmpty then s1 else s1.raise .startCause 8)

/-- Step 8: the media state; accumulators of stripes with units placed are lost with DRAM (R267). -/
def State.loadStep8 (s : State) : State :=
  let lost := if s.groupCount < 2 then [] else
    (s.med.zones.filter (fun e => e.2.holder && !e.2.accQuarters.isEmpty)).map (·.1)
  let s1 : State := { s with med := { s.med with rebuilds := lost } }
  (s1.syncExport).levelBit .integCause 8 (!lost.isEmpty)

/-- The eye centres that AON retention holds are applied (R95). -/
def State.applyEyes (s : State) : State := s.boot.eyes.foldl (fun s e => s.setReg e.1 e.2) s

/-- TRAIN begins: the restart count is cleared, and every present channel is swept (R91, R93); a resume applies the eyes kept and
verifies every level and channel first (R95). -/
def State.enterTrain (s : State) : State :=
  let s1 := ((s.phaseEnd 2).setFld Reg.aonMode 15 2 0).enter .train .none
  let ch := match s.boot.image with | some im => (List.range 32).filter (fun c => bitOf im.geometry.chPresent c) | none => []
  let s2 : State := { s1 with boot := { s1.boot with
    step := 0, faults := 0, levelsDone := 0, chLeft := ch, verify := s.resuming, chVerify := if s.resuming then ch else [] } }
  if s.resuming then s2.applyEyes else s2

/-- R87: the running LOAD step ends. `luns` are the answers that step 7 gets: die address, ID bytes, and whether the parameter page is as
the geometry states. -/
def execLoadStepComplete (ids : List (Nat × BitVec 64)) (misfit : List Nat) (s : State) : Host.Outcome State Fault Refusal :=
  .next (if s.mode ≠ .load then s
    else match s.boot.step with
      | 1 => s.loadStep1
      | 2 => s.loadGo 3
      | 3 => s.loadStep3
      | 4 =>
        if s.resuming then s.resumeStep4
        else match s.boot.slot with
          | some x => s.loadStep4 x (s.slotImage x)
          | none => s.loadFault
      | 5 => s.loadStep5.loadGo (if s.resuming then 7 else 6)
      | 6 => match s.boot.image with | some im => s.loadStep6 im | none => s.loadFault
      | 7 =>
        let s1 := s.loadStep7 ids misfit
        if s.resuming && s.dramKept then s1.syncExport.enterTrain else s1.loadGo 8
      | 8 => if s.resuming then s.loadStep8.enterTrain else s.loadStep8.loadGo 9
      | 9 => s.replay.enterTrain
      | _ => s)

/-! ## TRAIN (R93, R94) -/

/-- A training result takes its register, and its copy in AON retention (R95, R105, R106). -/
def State.storeEye (s : State) (o : Nat) (w : Word) : State :=
  let s1 := s.setReg o w
  { s1 with boot := { s1.boot with eyes := oput s1.boot.eyes o w } }

/-- MEM_TRAIN_RESULT of a level takes the eyes found (R105). -/
def State.storeEyes (s : State) (level : Nat) (eyes : List LaneEye) : State :=
  eyes.foldl (fun s e => s.storeEye (Reg.memTrainResult + 4 * (20 * level + 10 * b2n e.subB + e.lane.val))
    (BitVec.ofNat 32 (e.rdCentre.toNat + 2 ^ 8 * e.rdWidth.toNat + 2 ^ 16 * e.wrCentre.toNat + 2 ^ 24 * e.wrWidth.toNat))) s

/-- A level is done: the core rail moves on to the next level's voltage (R93), and the next level of a resume begins with its verify
pass (R95). -/
def State.levelDone (s : State) : State :=
  let s1 : State := { s with boot := { s.boot with levelsDone := s.boot.levelsDone + 1, verify := s.resuming } }
  s1.setTarget 0 (levelMv (3 - s.boot.levelsDone - 1))

/-- The verify pass of a resume finds the level as its kept eyes leave it: no lane too narrow but the one treated as erased (R95). -/
def State.eyesHold (s : State) (eyes : List LaneEye) : Bool :=
  decide (eraseLane s.boot.erasedA (badLanes eyes false) = some s.boot.erasedA) &&
  decide (eraseLane s.boot.erasedB (badLanes eyes true) = some s.boot.erasedB)

/-- R93, R95: the DDR5 sweep of one level ends, in the order P3 to P0, or in a resume its verify pass, after whose failure the level
gets the full sweep. -/
def execDdr5LevelSweepDone (eyes : List LaneEye) (s : State) : Host.Outcome State Fault Refusal :=
  .next (if s.mode ≠ .train || 4 ≤ s.boot.levelsDone then s
    else if s.boot.verify then
      (if s.eyesHold eyes then s.levelDone else { s with boot := { s.boot with verify := false } })
    else
      let s0 := s.storeEyes (3 - s.boot.levelsDone) eyes
      match s0.sweep eyes with
      | some s1 => s1.levelDone
      | none => (s0.raise .startCause 3).toMaint 6 .dram)

/-- Dies of the geometry on a channel. -/
def State.chDies (s : State) (c : Nat) : List Nat := s.med.groups.flatten.filter (fun d => decide (d % 32 = c) && !(s.dieMed d).failed)

/-- Channel `c` has been swept or verified. -/
def State.chDone (s : State) (c : Nat) : State :=
  { s with boot := { s.boot with chLeft := s.boot.chLeft.filter (fun x => decide (x ≠ c)),
                                 chVerify := s.boot.chVerify.filter (fun x => decide (x ≠ c)) } }

/-- R93, R106: a sweep attempt of a channel ends with its narrowest read and write eyes; the third failure fails the channel. In a
resume the verify pass comes first; a channel that fails it gets the full sweep (R95). -/
def execChannelSweepDone (c rd wr : Nat) (s : State) : Host.Outcome State Fault Refusal :=
  .next (if s.mode ≠ .train || !s.boot.chLeft.contains c then s
    else if s.boot.chVerify.contains c then
      (if 20 ≤ rd && 20 ≤ wr then s.chDone c
       else ({ s with boot := { s.boot with chVerify := s.boot.chVerify.filter (fun x => decide (x ≠ c)) } }).storeEye
         (Reg.medChTrain + 4 * c) 0)
    else
      let o := Reg.medChTrain + 4 * c
      let n := s.fld o 16 2 + 1
      let good := decide (20 ≤ rd) && decide (20 ≤ wr)
      let fails := !good && decide (3 ≤ n)
      let s1 := s.storeEye o (BitVec.ofNat 32 (rd % 256 + 256 * (wr % 256) + 2 ^ 16 * n + 2 ^ 18 * b2n fails))
      let s2 := if good || fails then s1.chDone c else s1
      if fails then (s2.chDies c).foldl (fun s d => s.failDie d) (s2.raise .startCause 7) else s2)

/-! ## Folio 0 (R94, R157, R170, R187, R396) -/

/-- The wear governor's cap on a WR limit (R514). -/
def State.govWr (s : State) (wr : Nat) : Nat := if s.thr.govCap then wr * s.fld Reg.pwrWear 16 5 / 16 else wr

/-- A refill ends the time for which a member's registered sectors were not admitted (R151, R172): from their registration, or from the
tick at which a counter that they are charged fell below 1. -/
def State.creditWait (s : State) (m : Nat) (c : Credit) : State :=
  let waited : Nat → Cmd → Cmd := fun _ x =>
    if x.member = m then
      (x.secs.filter (fun y => decide (y.st = .registered))).foldl (fun x y =>
        match outSince c (readCharge x) with
        | some t => x.waited (max y.reg t) s.ldg.tick
        | none => x) x
    else x
  { s with host := { s.host with cmds := omap waited s.host.cmds } }

/-- One member's refill: L + min(C, 0) (R170), with limits bound in an earlier tick in force (R332, R348). -/
def State.refillOne (s : State) (m : Nat) : State :=
  let a := s.acct m
  match a.binding with
  | none => s
  | some b =>
    let due := decide (a.pendingTick < s.ldg.tick)
    let b1 : Binding := match a.pendingLim with
      | some l => if due then { b with lim := { b.lim with credit := l } } else b
      | none => b
    let s1 := s.setAcct m { a with binding := some b1, pendingLim := if due then none else a.pendingLim }
    let l := s1.limits m
    let c := s1.credit m
    (s1.creditWait m c).setCredit m
      { rd := l.rd + min c.rd 0, wr := s1.govWr l.wr + min c.wr 0, byte := l.byte + min c.byte 0,
        rdOut := s.ldg.tick, wrOut := s.ldg.tick, byteOut := s.ldg.tick }

/-- The refill of every member; held writes are then admitted in acceptance order (R170, R172). -/
def State.refill (s : State) : State :=
  let s1 := s.host.accts.foldl (fun s e => s.refillOne e.1) s
  s1.bySeq.foldl (fun s e => match s.cmd e.1 with
    | some c => if writeType c.op && c.phase = .running && !c.admitted then s.admitWrite e.1 c else s
    | none => s) s1.setShares

/-- The registers that show a Folio's start (R244, R282). -/
def State.folioViews (s : State) : State :=
  let dies := s.med.groups.flatten
  let live := dies.filter (fun d => !(s.dieMed d).failed)
  let least := live.foldl (fun (p : Nat × Nat) d =>
    if (s.dieMed d).spares < p.1 || (decide ((s.dieMed d).spares = p.1) && decide (d < p.2)) then ((s.dieMed d).spares, d) else p) (350, 1023)
  let s1 := s.setReg Reg.medSlcLimit (BitVec.ofNat 32 (sumOf (dies.map s.lendLimit) % 2 ^ 19))
  let s2 := s1.setReg Reg.medSlcLent (BitVec.ofNat 32 (sumOf (dies.map (fun d => (s.dieMed d).lent)) % 2 ^ 19))
  let s3 := s2.setReg Reg.medSlcStreams (BitVec.ofNat 32 (s.streams % 2 ^ 18))
  let s4 := s3.setReg Reg.medSpare (BitVec.ofNat 32 (least.1 + 2 ^ 9 * (if live.isEmpty then 0 else least.2)))
  s4.setReg Reg.medTally (BitVec.ofNat 32 (s.holders % 2 ^ 15 + 2 ^ 15 * s.tallyLimit))

/-- Start plan and level of the image (R94); under a header that is not valid the conservative plan runs at P3 (R195). -/
def State.startPoint (s : State) : Nat × Nat :=
  match s.boot.image with
  | some im => if headerValid im.planSet im.geometry then (im.planSet.startPlan % 4, im.planSet.startLevel % 4) else (0, 3)
  | none => (0, 3)

/-- SERVICE begins with Folio 0. A throttle cause that stands takes effect at Folio 1 (R81). -/
def State.beginService (s : State) : State :=
  let p := s.startPoint
  let s0 := (s.phaseEnd 3).enter .service .none
  let s1 : State := { s0 with
    ldg := { s0.ldg with folio := 0, folioStart := s0.ldg.tick, folios := 0, reqNow := p, reqPending := false },
    mem := { s0.mem with lastScrub := s0.pwr.time } }
  let s2 := (s1.setReg Reg.ldgPlanReq (BitVec.ofNat 32 (p.1 + 4 * p.2))).putVariant p.1 p.2
  let s3 := s2.syncPending.syncRail.refill.folioViews.startEvent.scheduleTests.computeCover
  let s4 := if s3.thm.crossed && s3.anyAtLeast (4 * (s3.thr.tThrottle : Int)) then s3.throttleStep else s3
  let s5 := s4.host.ctrls.foldl (fun s e => s.readyNow e.1) s4
  s5.updRestart.kick

/-- R93: the junction-sensor self-check ends TRAIN once the sweeps are complete. -/
def execSensorSelfCheckDone (s : State) : Host.Outcome State Fault Refusal :=
  .next (if s.mode = .train && s.boot.levelsDone = 4 && s.boot.chLeft.isEmpty then s.beginService else s)

end Sys2Proof.Machine
end

