-- ==== Sys2Proof/Machine/Service.lean ====
section
/-!
DEFINITION. Folio boundaries (R157, R183, R496, R500), and DRAIN, its causes and its end, and the end of FLUSH (R77, R80, R316, R399,
R400).
-/
namespace Sys2Proof.Machine

/-! ## The boundary -/

/-- R500: a wake registered 10,240 ticks or more before this boundary ends DOZE, once loop 0 has settled at the requested level's
voltage. -/
def State.wakeBoundary (s : State) : State :=
  if s.pwr.wakeSrc.isSome && decide (s.pwr.wakeTick + 10240 ≤ s.ldg.tick) &&
     (decide (s.levelDue = 3) || (s.loopSettled 0 && decide ((s.loop 0).target = (levelMv s.levelDue : Int) * 1000))) then
    let s1 := (s.enter .service .wake).syncBanks
    ({ s1 with pwr := { s1.pwr with wakeSrc := none }, pins := { s1.pins with clkreqLow := true } }).switchPlan none
  else s.switchPlan (some 3)

/-- The PF's enable after a DRAIN for a shutdown notification leads back to SERVICE (R77). -/
def State.serviceAgain (s : State) : State :=
  if s.mode = .drain && s.pwr.drained && decide (s.pwr.folioMove = some .serviceAgain) then
    let s1 := s.enter .service .none
    let s2 : State := { s1 with pwr := { s1.pwr with drainFor := none, drained := false, folioMove := none, shutdownWaits := false } }
    let s3 := s2.host.ctrls.foldl (fun s e =>
      if bitOf e.2.cc 14 || bitOf e.2.cc 15 then s else s.setCtrl e.1 { s.ctrl e.1 with shst := 0 }) s2
    s3.readyNow 0
  else s

/-- SERVICE and THROTTLE follow the throttle level in force (R77, R509). -/
def State.followThrottle (s : State) : State :=
  let low := decide (s.ldg.reqNow.2 < s.ldg.thrNow)
  if s.mode = .service && low then s.enter .throttle .thermal
  else if s.mode = .throttle && !low then s.enter .service .none
  else s

/-- Writes and reads that waited for the boundary's refill or variant go on (R168, R172, R182). -/
def State.resumeWork (s : State) : State := (s.refill.folioViews.registerKick).kick

/-- R157: a Folio begins. Sleep and wake take effect here, then the plan and level due, then the refill. -/
def execFolioBoundary (s : State) : Host.Outcome State Fault Refusal :=
  .next (if modeLedger s.mode && decide (s.ldg.folioStart + 1310720 ≤ s.ldg.tick) then
      let s0 : State := { s with ldg := { s.ldg with
        folioStart := s.ldg.folioStart + 1310720, folio := s.ldg.folio + 1, folios := s.ldg.folios + 1 } }
      let s1 := s0.countCool.sleepBoundary
      if s1.mode = .hibernate then s1
      else
        let s2 := if s0.mode = .doze then s1.wakeBoundary else if s1.mode = .doze then s1 else s1.serviceAgain.switchPlan none
        s2.followThrottle.resumeWork
    else s)

/-! ## Causes of DRAIN (R77, R80, R316) -/

/-- CC.SHN of the PF (R77). A DRAIN that runs for another cause satisfies it (R80). -/
def State.shutdownPf (s : State) (shn : Nat) : State :=
  if !s.islandOn .hst || shn = 0 || 2 < shn then s
  else
    let c := s.ctrl 0
    let s0 := s.setCtrl 0 { c with cc := setField c.cc 14 2 shn }
    if s.mode = .service || s.mode = .throttle then
      (s0.setCtrl 0 { s0.ctrl 0 with shst := 1 }).enterDrain .shutdown .shutdown
    else if s.mode = .drain && s.pwr.drainFor ≠ some .shutdown then
      { s0 with pwr := { s0.pwr with shutdownWaits := true } }
    else s0

/-- R77: the PF's shutdown notification. -/
def execShutdownNotification (shn : Nat) (s : State) : Host.Outcome State Fault Refusal := .next (s.shutdownPf shn)

/-- A restart or MAINTENANCE request that loses is recorded (R80, R546 TYPE 0x0009). -/
def State.recordLost (s : State) (from_ : Nat × Nat) : State := s.event 0x0009 (lostRequest from_)

def State.takeRestart (s : State) (why : DrainFor) (from_ : Nat × Nat) : State :=
  { s with pwr := { s.pwr with drainFor := some why, drainReq := from_ } }

/-- A restart or MAINTENANCE request, with its opcode and its path (0 PF, 1 MI). In the tick that DRAIN began it wins over a shutdown
notification and loses to a shutdown threshold; of two requests the PF's runs (R80, R555). -/
def State.restartRequest (s : State) (why : DrainFor) (c : ModeCause) (from_ : Nat × Nat) : State :=
  if s.mode = .service || s.mode = .throttle then (s.enterDrain why c).takeRestart why from_
  else if s.drainTick then
    match s.pwr.drainFor with
    | some .shutdown => ({ s with pwr := { s.pwr with shutdownWaits := true } }).takeRestart why from_
    | some .thermal => s.recordLost from_
    | _ => if from_.2 < s.pwr.drainReq.2 then (s.recordLost s.pwr.drainReq).takeRestart why from_ else s.recordLost from_
  else if s.mode = .flush && decide (s.boot.phaseStart = s.ldg.tick) then s.recordLost from_
  else s

/-- R316: a write to NSSR on the PF; any other value does nothing. -/
def execNssrWrite (value : BitVec 32) (s : State) : Host.Outcome State Fault Refusal :=
  .next (if s.islandOn .hst && decide (value = 0x4E564D65#32) then s.restartRequest .restart .restart (0, 0) else s)

/-! ## The ends of DRAIN and FLUSH (R77, R399, R400) -/

/-- SHST shows the end of the shutdown, where DRAIN served one (R80, R97). -/
def State.drainDone (s : State) : State :=
  let s1 := (s.writeArea true).showShst 2
  if s.pwr.shutdownWaits || decide (s.pwr.drainFor = some .shutdown) then s1.setCtrl 0 { s1.ctrl 0 with shst := 2 } else s1

/-- R77, R400: nothing is in flight and everything has settled. A DRAIN with sectors still staged forces their tail pages and goes
on. -/
def execDrainComplete (s : State) : Host.Outcome State Fault Refusal :=
  .next (if s.mode ≠ .drain || s.pwr.drained || !s.host.cmds.isEmpty || s.nor.op.isSome then s
    else if !s.allSettled then s.forceAll
    else match s.pwr.drainFor with
      | some .shutdown => let s1 := s.drainDone; { s1 with pwr := { s1.pwr with drained := true } }
      | some .restart => s.drainDone.toStrap false
      | some .maintenance => s.drainDone.toMaint 7 .management
      | some .thermal => s.drainDone.enterFlush .thermal .thermal
      | none => s)

/-- R399 step 4: the flush header has been read back; PWR_HOLD goes low. -/
def execFlushComplete (s : State) : Host.Outcome State Fault Refusal :=
  .next (if s.mode = .flush then
      let s1 := s.writeArea false
      ({ s1 with db := { s1.db with lastFlushUs := (s1.ldg.tick - s1.db.flushStart) / 1000 } }).toOff s.pwr.flushFor .flushDone
    else s)

end Sys2Proof.Machine
end

