-- ==== Sys2Proof/Machine/Fabric.lean ====
section
/-!
DEFINITION. Crossing faults and crossbar refusals (R17 to R20, R380, R568). The listing names no register for the two cause bits: they
are `crossFaults` and `xbarErr` of the state.
-/
namespace Sys2Proof.Machine

/-! ## Crossing faults (R17, R380) -/

/-- What a crossing fault does to a sector, by where it stands: a read sector that carries data, a write sector, a stage that reads no
die, and output of a Mint lane; the others carry nothing through a crossing. -/
inductive CrossEffect where
  | decode | write | stage | mint | none
deriving DecidableEq, Repr

def crossEffect (writes : Bool) (t : SecSt) : CrossEffect :=
  match t with
  | .granted | .moved | .decoded | .recovering | .clear | .checked | .leaving | .inRing => .decode
  | .fetching | .have | .sealed | .encrypted | .stored => .write
  | .zeroFill | .zeroReady => if writes then .write else .stage
  | .lookup => .stage
  | .consumed => .mint
  | .waiting | .registered | .retryWait | .left | .withdrawn => .none

/-- A stage that reads no die has an uncorrectable result (R17): the sector is poisoned and leaves with no data, and its command ends with
Unrecovered Read Error (R395). -/
def State.stageFails (s : State) (h i : Nat) (c : Cmd) (x : Sec) : State :=
  let s1 := (s.setCmd h { c with status := stUnrecoveredRead }).setSec h i { x with st := .withdrawn, poison := true }
  if c.op = .copy then s1.endWrite h stUnrecoveredRead else s1.readKick h

/-- R17: a crossing delivers late with sector `i` of command `h`: the data is discarded and the cause bit rises. A read sector enters
L1 as after a failed decode; a write sector ends its command without effect (R380). -/
def execCrossingFault (h i : Nat) (s : State) : Host.Outcome State Fault Refusal :=
  .next (match s.sec h i with
    | none => s
    | some (c, x) =>
      let s1 : State := { s with host := { s.host with crossFaults := s.host.crossFaults + 1 } }
      match crossEffect (writeType c.op && !x.copySrc) x.st with
      | .decode => (s1.failDecode h i c x).kick
      | .write => if c.secured then s1 else (s1.endWrite h (stOpen 1)).kick
      | .stage => (s1.stageFails h i c x).kick
      | .mint => match c.lane with | some l => s1.mintEnd l stUnrecoveredRead | none => s1
      | .none => s1)

/-! ## The crossbar (R18 to R22) -/

/-- Targets that an initiator port may reach, and those it may only read (R18). -/
def xbarTargets (port : Nat) : List XbarTarget :=
  if port ≤ 1 || port = 3 then [.xfr, .mem, .queue]
  else if port = 2 then [.dayBook, .queue, .zoneLookup, .mem]
  else if port ≤ 8 then [.xfr, .mem]
  else if port = 9 then [.xfr, .mint]
  else if port ≤ 13 then [.map, .scratch, .mem, .xfr]
  else if port = 14 then [.xfr, .mem, .map, .scratch, .queue, .aonRetention]
  else if port = 15 then [.plan, .mem, .mgt, .aonRetention]
  else []

def xbarReads (port : Nat) : List XbarTarget :=
  if 10 ≤ port && port ≤ 14 then [.dayBook] else if port = 15 then [.map, .dayBook, .queue] else []

/-- A request is listed: R18 gives the port the target, and MGT writes the PLAN bank during LOAD only (R22). -/
def xbarListed (m : Mode) (port : Nat) (t : XbarTarget) (write : Bool) : Bool :=
  ((xbarTargets port).contains t && !(write && decide (t = .plan) && decide (m ≠ .load))) || (!write && (xbarReads port).contains t)

/-- Numbers of the targets, under which their round-robin pointers stand; each scratchpad is a target of its own. -/
def xbarCode (t : XbarTarget) (addr : Nat) : Nat :=
  match t with
  | .xfr => 0 | .mem => 1 | .queue => 2 | .dayBook => 3 | .map => 4 | .zoneLookup => 5 | .mint => 6
  | .plan => 7 | .mgt => 8 | .aonRetention => 9 | .secure => 10
  | .scratch => 16 + addr / (512 * 2 ^ 10) % 4

/-- The bank owner's ports of a target (R22); LDG and AON own theirs without a port. -/
def xbarOwners (t : XbarTarget) (addr : Nat) : List Nat :=
  match t with
  | .map => [10, 11, 12, 13] | .zoneLookup => [10, 11, 12, 13] | .dayBook => [2] | .queue => [0, 1, 2] | .mint => [9] | .mgt => [15]
  | .scratch => [10 + addr / (512 * 2 ^ 10) % 4]
  | .xfr => [] | .mem => [] | .plan => [] | .aonRetention => [] | .secure => []

/-- The first of `ports` from the pointer up, in round robin over the 16 ports. -/
def firstFrom (ptr : Nat) (ports : List Nat) : Option Nat :=
  ((List.range 16).map (fun i => (ptr + i) % 16)).find? (fun p => ports.contains p)

/-- R189: of the ports that meet at a target, the owner's wins; otherwise the pointer picks. -/
def xbarWinner (ptr : Nat) (owners ports : List Nat) : Option Nat :=
  match firstFrom ptr (ports.filter (fun p => owners.contains p)) with
  | some p => some p
  | none => firstFrom ptr ports

/-- A master's conflict counter of a scratchpad (R435): none for the ports that have none. -/
def conflictReg (pad port : Nat) : Option Nat :=
  if 10 ≤ port && port ≤ 14 then some (Reg.srmConflict + 4 * (5 * pad + (port - 10))) else none

/-- A request of `port` for a scratchpad has lost a bank cycle (R429). -/
def State.lostCycle (s : State) (t : XbarTarget) (addr port : Nat) : State :=
  match t, conflictReg (addr / (512 * 2 ^ 10) % 4) port with
  | .scratch, some o => s.countFld o 0 32 1
  | _, _ => s

/-- The ports that meet at a target take it one bank cycle each, at most `n`. The XFR bank's rota gives every port its own slot, so that
none waits for another (R21). A port that wins by the pointer moves it past itself. -/
def State.xbarServe (s : State) (t : XbarTarget) (addr : Nat) (ports : List Nat) : Nat → State
  | 0 => s
  | n + 1 =>
    if ports.length < 2 || t = .xfr then s
    else
      let k := xbarCode t addr
      match xbarWinner (cget 0 s.xfr.xbarPtr k) (xbarOwners t addr) ports with
      | none => s
      | some w =>
        let rest := ports.filter (fun p => decide (p ≠ w))
        let s1 : State := if (xbarOwners t addr).contains w then s
          else { s with xfr := { s.xfr with xbarPtr := cset 0 s.xfr.xbarPtr k ((w + 1) % 16) } }
        (rest.foldl (fun s p => s.lostCycle t addr p) s1).xbarServe t addr rest n

/-- The crossbar target that the MP reaches at an address of its map, none outside every range (R568). The DRAM window reaches the populated
DRAM only (R569); the register space, the boot ROM and the NOR window are no targets of the crossbar. -/
def State.mpTarget (s : State) (a : Nat) : Option XbarTarget :=
  if a < 0x200000 then some .mgt
  else if decide (0x20000000 ≤ a) && decide (a < 0x20400000) then some .plan
  else if decide (0x21000000 ≤ a) && decide (a < 0x22000000) then some .map
  else if decide (0x22000000 ≤ a) && decide (a < 0x22400000) then some .dayBook
  else if decide (0x23000000 ≤ a) && decide (a < 0x23800000) then some .queue
  else if decide (0x24000000 ≤ a) && decide (a < 0x24010000) then some .aonRetention
  else if decide (0x80000000 ≤ a) && decide (a < 0x100000000) &&
      decide (2 ^ 31 * s.fld Reg.mgtDramWin 0 5 + (a - 2 ^ 31) < s.calDramGib * 2 ^ 30) then some .mem
  else none

/-- A request from a port is listed, and the MP's address, behind port 15, lies in the target's range. -/
def State.xbarOk (s : State) (port : Nat) (t : XbarTarget) (write : Bool) (addr : Nat) : Bool :=
  xbarListed s.mode port t write && (decide (port ≠ 15) || decide (s.mpTarget addr = some t))

/-- R19: a request from an initiator port to a target at an address, which behind port 15 is one of the MP's map (R568). One that R18 does not list is refused without effect: the port and
the address are latched, and the initiator receives a decode error, a read poisoned data. `rivals` are the other ports whose requests
for the target come in the same tick; those that are listed are ordered as R189 states. -/
def execCrossbarRefusal (ask : XbarAsk) (target : XbarTarget) (write : Bool) (addr : Nat) (s : State) :
    Host.Outcome State Fault Refusal :=
  .next (let port := ask.port
    if 16 ≤ port then s
    else
      let ok := s.xbarOk port target write addr
      let meet := (List.range 16).filter (fun p => (ok && decide (p = port)) ||
        (ask.rivals.contains p && decide (p ≠ port) && xbarListed s.mode p target write))
      let s1 := s.xbarServe target addr meet 16
      if ok then s1 else { s1 with xfr := { s1.xfr with xbarErr := some ⟨port, addr, true, !write⟩ } })

end Sys2Proof.Machine
end

