-- ==== Sys2Proof/Machine/Mi.lean ====
section
/-!
DEFINITION. MCTP control and NVMe-MI (R287, R535 to R540): what each mode admits (R536), the MI commands, the vendor MI commands
(R537), and the nonces (R538). `id` names a request; a request reaches the MP only where private transfers are served.
-/
namespace Sys2Proof.Machine

/-- The columns of R536. -/
inductive MiCol where
  | early | full | maint | none
deriving DecidableEq, Repr

def State.miCol (s : State) : MiCol :=
  if !s.privateServed then .none
  else match s.mode with
  | .load => .early
  | .train => .early
  | .maintenance => .maint
  | _ => .full

/-- The oldest message that waits is the one the MP serves. -/
def State.miTake (s : State) : State := { s with mgt := { s.mgt with mctpMsgs := s.mgt.mctpMsgs.drop 1 } }

/-- Access Denied (R536). -/
def State.miRefuse (s : State) (id : Nat) : State := s.miReply id miDenied 0 []

/-- Serve a request: nothing reaches a device that does not serve transfers, a column that does not take it refuses it. -/
def State.miServe (s : State) (id : Nat) (early full maint : Bool) (f : State → State) : State :=
  match s.miCol with
  | .none => s
  | .early => if early then f s.miTake else s.miTake.miRefuse id
  | .full => if full then f s.miTake else s.miTake.miRefuse id
  | .maint => if maint then f s.miTake else s.miTake.miRefuse id

/-! ## MCTP control (R535) -/

/-- An MCTP control response: message type 0, command code, completion code, data (PRESUMED: the MCTP base specification). -/
def State.ctlReply (s : State) (id code cc : Nat) (data : List Byte) : State :=
  ({ s with mgt := { s.mgt with replies := ⟨id, cc, 0, data⟩ :: s.mgt.replies } }).sendMctp
    ([0x00, 0x00] ++ leBytes 1 code ++ leBytes 1 cc ++ data)

/-- R535: Set Endpoint ID; EIDs 0x00 and 0xFF are not assignable (PRESUMED: the MCTP base specification). -/
def execSetEndpointId (id eid : Nat) (s : State) : Host.Outcome State Fault Refusal :=
  .next (s.miServe id true true true (fun s =>
    if decide (1 ≤ eid) && decide (eid ≤ 254) then
      (s.setFld Reg.mgtI3cStatus 11 8 eid).ctlReply id 1 0 ([0] ++ leBytes 1 eid ++ [0])
    else s.ctlReply id 1 2 []))

/-- R535: Get Endpoint ID: the EID, a simple endpoint with a dynamic EID. -/
def execGetEndpointId (id : Nat) (s : State) : Host.Outcome State Fault Refusal :=
  .next (s.miServe id true true true (fun s => s.ctlReply id 2 0 (leBytes 1 s.eid ++ [0, 0])))

/-- R535: Get Endpoint UUID. -/
def execGetEndpointUuid (id : Nat) (s : State) : Host.Outcome State Fault Refusal :=
  .next (s.miServe id true true true (fun s => s.ctlReply id 3 0 (leBytes 16 Config.endpointUuid.toNat)))

/-- R535: Get MCTP Version Support for a message type. -/
def execGetMctpVersionSupport (id type : Nat) (s : State) : Host.Outcome State Fault Refusal :=
  .next (s.miServe id true true true (fun s =>
    if type = 0 || type = 4 || type = 0xFF then s.ctlReply id 4 0 ([1] ++ leBytes 4 (Config.mctpVersion type).toNat)
    else s.ctlReply id 4 0x80 []))

/-- R535: Get Message Type Support: types 0x00 and 0x04. -/
def execGetMessageTypeSupport (id : Nat) (s : State) : Host.Outcome State Fault Refusal :=
  .next (s.miServe id true true true (fun s => s.ctlReply id 5 0 [2, 0x00, 0x04]))

/-! ## NVMe-MI commands (R287, R536) -/

/-- Functions whose controllers exist: the PF and the enabled VFs (R5). -/
def State.functions (s : State) : List Nat := 0 :: (if s.host.vfEnable && s.boot.image.isSome then upFrom 1 s.host.numVfs else [])

/-- R287: Read NVMe-MI Data Structure; type 2 is the controller list, the others are not stated. -/
def execReadNvmeMiDataStructure (id type : Nat) (s : State) : Host.Outcome State Fault Refusal :=
  .next (s.miServe id true true true (fun s =>
    let data : List Byte :=
      if type = 2 then leBytes 2 s.functions.length ++ (s.functions.map (leBytes 2)).flatten
      else (List.range 32).map (Config.miStruct type)
    s.miReply id miOk 0 data))

/-- A reading in quarters of a degree as whole °C, rounded up (R512). -/
def ceilC (q : Int) : Int := (q + 3) / 4

/-- The highest reading in whole °C, 0 where it is below 0, and in kelvin (R512). -/
def State.compositeC (s : State) : Nat := (ceilC (signed 11 (s.fld Reg.thmStatus 0 11))).toNat
def State.compositeK (s : State) : Nat := (ceilC (signed 11 (s.fld Reg.thmStatus 0 11)) + 273).toNat

/-- R287: the subsystem health poll: whether the subsystem is ready (R536), the composite temperature, PCT_USED. -/
def execNvmSubsystemHealthStatusPoll (id : Nat) (s : State) : Host.Outcome State Fault Refusal :=
  .next (s.miServe id true true true (fun s =>
    s.miReply id miOk 0
      ([if s.miCol = .full then 0x28 else 0x00] ++ [0xFF] ++ leBytes 1 s.compositeC ++
       leBytes 1 (s.fld Reg.pwrWear 21 8) ++ [0, 0, 0, 0])))

/-- R287: the health poll of a controller: its identifier, RDY, CFS and SHST, the temperature in kelvin, PCT_USED. -/
def execControllerHealthStatusPoll (id func : Nat) (s : State) : Host.Outcome State Fault Refusal :=
  .next (s.miServe id true true true (fun s =>
    let c := s.ctrl func
    let csts := if s.miCol = .full then b2n c.rdy + 2 * b2n c.cfs + 4 * c.shst else 0
    s.miReply id miOk 0
      (leBytes 2 func ++ leBytes 2 csts ++ leBytes 2 s.compositeK ++ leBytes 1 (s.fld Reg.pwrWear 21 8))))

/-- R287: Configuration Set. -/
def execConfigurationSet (id cfg value : Nat) (s : State) : Host.Outcome State Fault Refusal :=
  .next (s.miServe id false true true (fun s =>
    ({ s with mgt := { s.mgt with miConfig := oput s.mgt.miConfig cfg value } }).miReply id miOk 0 []))

/-- R287: Configuration Get. -/
def execConfigurationGet (id cfg : Nat) (s : State) : Host.Outcome State Fault Refusal :=
  .next (s.miServe id false true true (fun s =>
    s.miReply id miOk ((ofind s.mgt.miConfig cfg).getD (Config.miDefault cfg)) []))

/-- R536: Reset, only in MAINTENANCE with MAINT_CAUSE 5, where it restarts without authorisation. -/
def execMiReset (id : Nat) (s : State) : Host.Outcome State Fault Refusal :=
  .next (s.miServe id false false (decide (s.fld Reg.aonMode 8 4 = 5)) (fun s => (s.miReply id miOk 0 []).toStrap false))

/-! ## Vendor MI commands (R537) -/

/-- R538: Get Challenge; during a lockout Access Denied and no nonce. -/
def execGetChallenge (id : Nat) (s : State) : Host.Outcome State Fault Refusal :=
  .next (s.miServe id false true true (fun s =>
    match s.issueNonce .mi with
    | (some v, s1) => s1.miReply id miOk 0 (leBytes 32 v.toNat)
    | (none, s1) => s1.miRefuse id))

/-- R537: Event Log Read of COUNT records from FIRST; dword 0 of a refusal names the parameter's first byte in the request. -/
def execEventLogRead (id first count : Nat) (s : State) : Host.Outcome State Fault Refusal :=
  .next (s.miServe id true true true (fun s =>
    if count < 1 || 64 < count then s.miReply id miInvalidParam 12 []
    else if 32768 < first + count then s.miReply id miInvalidParam 8 []
    else s.miReply id miOk 0 ((upFrom first count).map s.logBytes).flatten))

/-- A clear of the log begins (R550), or joins the one that runs. -/
def State.startClear (s : State) (nonce : BitVec 256) : State :=
  if s.evt.clearing.isSome then s
  else
    ({ s with evt := { s.evt with
        clearing := some .eraseFirst, resumedClear := false, clearNonce := nonce, before := s.evt.next,
        lostBefore := s.evt.lost } }).clearKick

/-- R550: an authorised Event Log Clear; it answers More Processing Required until its last step ends. -/
def execEventLogClear (id : Nat) (auth : List Byte) (s : State) : Host.Outcome State Fault Refusal :=
  .next (s.miServe id false true true (fun s =>
    let a := readAuth auth
    match s.authorise .mi 3 a with
    | (0, s1) =>
      (({ s1 with evt := { s1.evt with clearIds := s1.evt.clearIds ++ [id] } }).miReply id miMore 0 []).startClear a.nonce
    | (c, s1) => s1.authReply (.mi id) c))

/-- R537: Calibration Row Read. -/
def execCalibrationRowRead (id : Nat) (s : State) : Host.Outcome State Fault Refusal :=
  .next (s.miServe id true true true (fun s =>
    s.miReply id miOk 0 (memReadAll norDefault s.nor.mem 0x07FF0000 4096)))

/-- R113, R537: Calibration Row Write: the recovery firmware starts the program of 16 pages, or is refused. -/
def execCalibrationRowWrite (id : Nat) (row : List Byte) (s : State) : Host.Outcome State Fault Refusal :=
  .next (s.miServe id false false true (fun s =>
    let s1 := ((s.setFld Reg.norOpAddr 0 27 0x07FF0000).setReg Reg.norOpSrc 0).norStart .program 16 row none
    if s.nor.op.isNone && s1.nor.op.isSome then { s1 with nor := { s1.nor with calWaiter := some id } } else s1.miRefuse id))

/-- A life-cycle change (R454, R540). -/
def State.lifeChange (s : State) (id action : Nat) (a : Auth) (life : LifeCycle) (key : BitVec 256) : State :=
  match s.authorise .mi action a with
  | (0, s1) =>
    (({ s1 with cry := { s1.cry with life := life, deviceKey := some key } }).raise .mgtCause 6).miReply id miOk 0 []
  | (c, s1) => s1.authReply (.mi id) c

/-- R540: Life-cycle Change with ACTION 4 burns the device key. -/
def execProvision (id : Nat) (auth : List Byte) (s : State) : Host.Outcome State Fault Refusal :=
  .next (s.miServe id false false true (fun s => s.lifeChange id 4 (readAuth auth) .provisioned (readAuth auth).deviceKey))

/-- R540: Life-cycle Change with ACTION 5 burns every device-key fuse to 1 (R454). -/
def execDecommission (id : Nat) (auth : List Byte) (s : State) : Host.Outcome State Fault Refusal :=
  .next (s.miServe id false false true (fun s => s.lifeChange id 5 (readAuth auth) .decommissioned (BitVec.allOnes 256)))

/-- The 16-byte answer of Factory Test: its result in [3:0]. -/
def testData (r : Nat) : List Byte := leBytes 16 (r % 16)

/-- R537: Factory Test TEST 0 or 1 runs R120 on slot A or B. -/
def execFactoryTestVerifySlot (id : Nat) (slot : Slot) (s : State) : Host.Outcome State Fault Refusal :=
  .next (s.miServe id false false true (fun s => s.miReply id miOk 0 (testData (s.slotReason slot))))

/-- R537: Factory Test TEST 2 drives ALERT_N low for 1 ms. -/
def execFactoryTestAlert (id : Nat) (s : State) : Host.Outcome State Fault Refusal :=
  .next (s.miServe id false false true (fun s =>
    ({ s with mgt := { s.mgt with alertForce := true }, pins := { s.pins with alertN := false } }).miReply id miOk 0
      (testData 0)))

/-- R537: the pulse ends; ALERT_N takes the level that the cause tree gives it. -/
def execFactoryAlertPulseEnd (s : State) : Host.Outcome State Fault Refusal :=
  .next (if s.mgt.alertForce then
      let s1 : State := { s with mgt := { s.mgt with alertForce := false, alertPipe := [] } }
      { s1 with pins := { s1.pins with alertN := s1.alertLevel } }
    else s)

/-- R537: Factory Test TEST 3 runs the entropy health tests, with what they find. -/
def execFactoryTestEntropy (id : Nat) (ok : Bool) (s : State) : Host.Outcome State Fault Refusal :=
  .next (s.miServe id false false true (fun s => s.miReply id miOk 0 (testData (if ok then 0 else 1))))

/-! ## Nonces (R538) -/

/-- R538: NEW written to MGT_CHALLENGE_CTL; ignored during the PF path's lockout. -/
def execChallengeNew (who : Requester) (s : State) : Host.Outcome State Fault Refusal :=
  .next (if s.mayWrite who Reg.mgtChallengeCtl then (s.issueNonce .pf).2 else s)

/-- R538: a nonce is 60 s old. -/
def execNonceExpiry (p : AuthPath) (s : State) : Host.Outcome State Fault Refusal :=
  match (s.auth p).nonce with
  | some n => .next (if n.issued + nonceLife ≤ s.pwr.time then s.setAuth p { s.auth p with nonce := none } else s)
  | none => .next s

/-- R538: a lockout has lasted 10 s. -/
def execAuthLockoutEnd (p : AuthPath) (s : State) : Host.Outcome State Fault Refusal :=
  match (s.auth p).lockFrom with
  | some t => .next (if t + lockoutTime ≤ s.pwr.time then s.setAuth p { s.auth p with lockFrom := none } else s)
  | none => .next s

end Sys2Proof.Machine
end

