-- ==== Sys2Proof/Machine/Admin.lean ====
section
/-!
DEFINITION. Admin commands of the queues (R284, R295), Abort (R315), asynchronous events, keep alive and virtualization management;
what every admin command passes first (R284, R288, R536).
-/
namespace Sys2Proof.Machine

/-! ## Admission (R284, R288, R343, R536) -/

def viaFunc : Via → Nat
  | .host f _ => f
  | .mi _ => 0

/-- A function's admin queue is fetched: the device fetches, the controller serves, the MP runs, and the account is neither quiescing
nor quiesced. The PF's own queue stays served. -/
def State.adminServed (s : State) (f : Nat) : Bool :=
  modeFetching s.mode && s.pwr.sleep.isNone && s.ctrlServes f && s.mpActs && s.functionExists f &&
  (decide (f = 0) || s.memberActive f)

/-- A command restarts its controller's Keep Alive Timer. -/
def State.keepAlive (s : State) (f : Nat) : State := s.setCtrl f { s.ctrl f with kaFrom := s.ldg.tick }

/-- The reserved fields are judged once the opcode is admitted (R288). -/
def State.adminFields (s : State) (a : Adm) (g : State → State) : State :=
  if a.reservedZero then g s else s.reply a.via stInvalidField 0

/-- An admin command: from a function's queue where `onFunc` admits the opcode, or over NVMe-MI where `mi` and, in MAINTENANCE,
`maint` accept it. -/
def State.adminRun (s : State) (a : Adm) (onFunc : Nat → Bool) (mi maint : Bool) (g : State → State) : State :=
  match a.via with
  | .host f _ =>
    if !s.adminServed f then s
    else
      let s1 := s.keepAlive f
      if onFunc f then s1.adminFields a g else s1.reply a.via stInvalidOpcode 0
  | .mi id => s.miServe id false mi maint (fun s => s.adminFields a g)

def anyFunc (_ : Nat) : Bool := true
def pfOnly (f : Nat) : Bool := decide (f = 0)

/-! ## Queues (R284, R289, R295) -/

/-- Most I/O queues of a function: MAX_QP of its account (R328). -/
def State.maxQp (s : State) (f : Nat) : Nat := match (s.acct f).binding with | some b => b.lim.maxQp | none => 0

def sizeOk (n : Nat) : Bool := decide (2 ≤ n) && decide (n ≤ 4096)

/-- R284: Delete I/O Submission Queue. Its held commands end without a completion; those that have arrived run on. -/
def execDeleteIoSubmissionQueue (a : Adm) (qid : Nat) (s : State) : Host.Outcome State Fault Refusal :=
  .next (s.adminRun a anyFunc false false (fun s =>
    match s.findQueue (viaFunc a.via) qid with
    | none => s.reply a.via stInvalidQueueId 0
    | some (i, _) =>
      let mine := s.host.cmds.filter (fun e => !e.2.net && decide (e.2.queue = i))
      let s1 := mine.foldl (fun (s : State) (e : Nat × Cmd) =>
        let c : Cmd := { e.2 with silent := true }
        let s1 := s.setCmd e.1 c
        if c.phase = .fetched then s1.toPost e.1 { c with locks := [] } stAbortRequested else s1) s
      let s2 : State := { s1 with host := { s1.host with queues := odel s1.host.queues i } }
      (s2.kick).reply a.via stOk 0))

/-- R295: Create I/O Submission Queue at the lowest free device-wide index. -/
def execCreateIoSubmissionQueue (a : Adm) (qid size cqid : Nat) (contiguous : Bool) (s : State) :
    Host.Outcome State Fault Refusal :=
  .next (s.adminRun a anyFunc false false (fun s =>
    let f := viaFunc a.via
    if !contiguous then s.reply a.via stInvalidField 0
    else if !sizeOk size then s.reply a.via stInvalidQueueSize 0
    else if qid = 0 || s.maxQp f < qid || (s.findQueue f qid).isSome || s.maxQp f ≤ s.qpUsed f then s.reply a.via stInvalidQueueId 0
    else if (ofind (s.ctrl f).cqs cqid).isNone then s.reply a.via stCqInvalid 0
    else match firstFree s.host.queues 0 16384 with
      | none => s.reply a.via stInvalidQueueId 0
      | some i => (s.setQueue i ⟨f, qid, cqid, size, none, 0, 0⟩).reply a.via stOk 0))

/-- R284: Delete I/O Completion Queue. -/
def execDeleteIoCompletionQueue (a : Adm) (qid : Nat) (s : State) : Host.Outcome State Fault Refusal :=
  .next (s.adminRun a anyFunc false false (fun s =>
    let f := viaFunc a.via
    let c := s.ctrl f
    if (ofind c.cqs qid).isNone then s.reply a.via stInvalidQueueId 0
    else if s.host.queues.any (fun e => decide (e.2.func = f) && decide (e.2.cqid = qid)) then s.reply a.via stInvalidQueueDeletion 0
    else (s.setCtrl f { c with cqs := odel c.cqs qid }).reply a.via stOk 0))

/-- Interrupt vectors of a function's MSI-X table (R3). -/
def vectors (f : Nat) : Nat := if f = 0 then 1024 else 65

/-- Invalid Interrupt Vector (PRESUMED: the code of the NVM Express Base Specification). -/
def stInvalidVector : Status := ⟨1, 0x08, Config.dnr 1 0x08⟩

/-- R295: Create I/O Completion Queue. -/
def execCreateIoCompletionQueue (a : Adm) (qid size vector : Nat) (contiguous : Bool) (s : State) :
    Host.Outcome State Fault Refusal :=
  .next (s.adminRun a anyFunc false false (fun s =>
    let f := viaFunc a.via
    let c := s.ctrl f
    if !contiguous then s.reply a.via stInvalidField 0
    else if !sizeOk size then s.reply a.via stInvalidQueueSize 0
    else if qid = 0 || s.maxQp f < qid || (ofind c.cqs qid).isSome || s.maxQp f ≤ c.cqs.length then s.reply a.via stInvalidQueueId 0
    else if vectors f ≤ vector then s.reply a.via stInvalidVector 0
    else (s.setCtrl f { c with cqs := oput c.cqs qid ⟨size, 0, vector⟩ }).reply a.via stOk 0))

/-! ## Abort, events, keep alive (R284, R286, R315) -/

/-- R315: Abort of command `cid` of submission queue `sqid`: it ends a command that is held. One that nothing holds arrives in this tick,
and the arrival wins. -/
def execAbort (a : Adm) (sqid cid : Nat) (s : State) : Host.Outcome State Fault Refusal :=
  .next (s.adminRun a anyFunc false false (fun s =>
    match s.findQueue (viaFunc a.via) sqid with
    | none => s.reply a.via stOk 1
    | some (i, _) =>
      match s.host.cmds.find? (fun e => !e.2.net && decide (e.2.queue = i) && decide (e.2.sqe.cid = cid) &&
          decide (e.2.phase = .fetched) && !s.canArrive e.2) with
      | some (h, c) => ((s.toPost h { c with locks := [] } stAbortRequested).kick).reply a.via stOk 0
      | none => s.reply a.via stOk 1))

/-- R284: Asynchronous Event Request, at most 8 outstanding; an event that waits answers it at once. -/
def execAsynchronousEventRequest (a : Adm) (s : State) : Host.Outcome State Fault Refusal :=
  .next (s.adminRun a anyFunc false false (fun s =>
    match a.via with
    | .mi _ => s
    | .host f cid =>
      let c := s.ctrl f
      if 8 ≤ c.aers.length then s.reply a.via stAerLimit 0
      else match c.events with
        | e :: r => (s.setCtrl f { c with events := r }).reply a.via stOk e.toNat
        | [] => s.setCtrl f { c with aers := c.aers ++ [cid] }))

/-- R284: Keep Alive. -/
def execKeepAlive (a : Adm) (s : State) : Host.Outcome State Fault Refusal :=
  .next (s.adminRun a anyFunc false false (fun s => s.reply a.via stOk 0))

/-! ## Virtualization Management (R284) -/

/-- The controllers a Virtualization Management command can name: the VFs. -/
def State.isVf (s : State) (f : Nat) : Bool := decide (1 ≤ f) && s.functionExists f

/-- R284: Virtualization Management on the PF: action 8 assigns `count` resources to a VF's controller, 7 and 9 take it offline and
online, 1 sets the PF's own count (PRESUMED: the actions of the NVM Express Base Specification; the manual names the command only). -/
def execVirtualizationManagement (a : Adm) (action cntlid count : Nat) (s : State) : Host.Outcome State Fault Refusal :=
  .next (s.adminRun a pfOnly false false (fun s =>
    let put (f : Nat) (c : Ctrl) : State := (s.setCtrl f c).reply a.via stOk count
    if action = 1 then put 0 { s.ctrl 0 with resources := count }
    else if !s.isVf cntlid then s.reply a.via stInvalidField 0
    else if action = 7 then put cntlid { s.ctrl cntlid with rdy := false }
    else if action = 8 then put cntlid { s.ctrl cntlid with resources := count }
    else if action = 9 then ((s.readyNow cntlid).reply a.via stOk count)
    else s.reply a.via stInvalidField 0))

end Sys2Proof.Machine
end

