-- ==== Sys2Proof/Machine/ChainOps.lean ====
section
/-!
DEFINITION. The chain engines (spec 12): spaces and their permission (R355, R358), descriptors (R357), the copy and its
direction (R359 to R361), completion records (R363), the end of a chain and its links (R365 to R368), and halts
(R369, R370).
-/
namespace Sys2Proof.Machine

/-! ## Spaces -/

/-- Bytes of DRAM that the calibration row states. -/
def State.dramBytes (s : State) : Nat := s.calDramGib * 2 ^ 30

/-- Size of a space (R22, R355, R358); reserved codes have none. -/
def State.spaceSize (s : State) (sp : Nat) : Nat :=
  match sp with
  | 0 => s.dramBytes
  | 1 => 7 * 2 ^ 20
  | 2 => 16 * 2 ^ 20
  | 3 => 512 * 1024
  | 4 => 512 * 1024
  | 5 => 512 * 1024
  | 6 => 512 * 1024
  | 7 => 8 * 2 ^ 20
  | 8 => 4 * 2 ^ 20
  | 9 => 64 * 1024
  | 10 => 2 ^ 64
  | 11 => 2 ^ 28
  | _ => 0

/-- The byte of the movers' memory that an address of a space names: the manager window is the top 256 MiB of DRAM. -/
def State.spaceKey (s : State) (sp addr : Nat) : Nat :=
  if sp = 11 then s.dramBytes - 2 ^ 28 + addr else sp * 2 ^ 65 + addr

/-- Spaces a context may read, write, and hold descriptors and its ring in (R355). -/
def srcSpaces (ch : Nat) : List Nat :=
  if ch = 0 then [0, 1, 2, 7, 8, 9] else if ch ≤ 4 then [0, 2, 3, 4, 5, 6, 1, 8] else [10, 11]
def dstSpaces (ch : Nat) : List Nat :=
  if ch = 0 then [0, 1, 7, 9] else if ch ≤ 4 then [0, 2, 3, 4, 5, 6, 1] else [10, 11]
def descSpaces (ch : Nat) : List Nat :=
  if ch = 0 then [0] else if ch ≤ 4 then [0, 2 + ch] else [10]

/-! ## Registers of a context -/

/-- A register of context `ch` by its offset in XFR_CH0_. -/
def chReg (base ch : Nat) : Nat := base + 0x100 * ch

def State.chFld (s : State) (base ch lo width : Nat) : Nat := s.fld (chReg base ch) lo width

/-- A 64-bit register pair. -/
def State.pair (s : State) (lo hi : Nat) : Nat := (s.reg lo).toNat + 2 ^ 32 * (s.reg hi).toNat

def State.setPair (s : State) (lo hi v : Nat) : State :=
  (s.setReg lo (BitVec.ofNat 32 v)).setReg hi (BitVec.ofNat 32 (v / 2 ^ 32))

def State.chAppend (s : State) (ch : Nat) : Nat := (s.reg (chReg Reg.xfrChAppend ch)).toNat
def State.chConsumed (s : State) (ch : Nat) : Nat := (s.reg (chReg Reg.xfrChConsumed ch)).toNat
def State.chDescSpace (s : State) (ch : Nat) : Nat := s.chFld Reg.xfrChCtl ch 4 4
def State.chRun (s : State) (ch : Nat) : Bool := bitOf (s.reg (chReg Reg.xfrChCtl ch)) 0

def chainCode : ChainSt → Nat
  | .stopped => 0 | .running => 1 | .idle => 2 | .halted => 3

/-- The context's state changes, and STATE with it (R377). -/
def State.chState (s : State) (ch : Nat) (st : ChainSt) : State :=
  (s.setChain ch { s.chain ch with st := st }).setFld (chReg Reg.xfrChStatus ch) 0 2 (chainCode st)

/-! ## Descriptors -/

/-- The descriptor that 64 bytes spell (R357). -/
def descOf (bs : List Byte) : Desc :=
  let le (o n : Nat) : Nat := ofLeBytes ((bs.drop o).take n)
  let c := le 0 1
  ⟨c % 16, decide (c / 16 % 2 = 1), decide (c / 32 % 2 = 1), le 2 2, le 4 4 % 2 ^ 25, le 8 8, le 16 8, le 24 1 % 16,
   le 25 1 % 16, (bs.drop 32).take 8, le 56 8,
   decide (c / 64 = 0) && decide (le 1 1 = 0) && decide (le 4 4 / 2 ^ 25 = 0) && decide (le 24 1 / 16 = 0) &&
   decide (le 25 1 / 16 = 0) && decide (le 26 6 = 0) && decide (le 40 16 = 0)⟩

/-- What a descriptor's fields must hold for its OP (R357, R358). -/
def descFormOk (d : Desc) : Bool :=
  d.reservedZero && decide (d.link % 64 = 0) &&
  (match d.op with
   | 1 => true
   | 2 => decide (d.src = 0)
   | 3 => decide (d.src = 0) && decide (d.dst = 0) && decide (d.length = 0)
   | _ => false)

/-- The status and side with which a descriptor is refused before it moves anything, none where it may run: malformed,
then the spaces, then the ranges (R355, R364; log entry 23). Sides: 0 source, 1 destination, 2 link. -/
def State.descRefusal (s : State) (ch : Nat) (d : Desc) : Option (Nat × Nat) :=
  if !descFormOk d then some (4, if d.link % 64 ≠ 0 then 2 else 0)
  else if d.op = 3 then none
  else if d.op = 1 && !(srcSpaces ch).contains d.srcSpace then some (2, 0)
  else if !(dstSpaces ch).contains d.dstSpace then some (2, 1)
  else if d.length = 0 || decide (2 ^ 24 < d.length) then some (3, 1)
  else if d.op = 1 && decide (s.spaceSize d.srcSpace < d.src + d.length) then some (3, 0)
  else if s.spaceSize d.dstSpace < d.dst + d.length then some (3, 1)
  else none

/-! ## Completion records (R363) -/

/-- Ring size, and whether the ring is full. -/
def State.ringSize (s : State) (ch : Nat) : Nat := 2 ^ s.chFld Reg.xfrChCtl ch 8 5

def State.ringFull (s : State) (ch : Nat) : Bool :=
  decide ((s.chFld Reg.xfrChCqTail ch 0 16 + 1) % s.ringSize ch = s.chFld Reg.xfrChCqHead ch 0 16)

/-- Write a record at TAIL; INT raises the owner's interrupt (R357, R378). -/
def State.putRecord (s : State) (ch : Nat) (r : ChainRec) : State :=
  let tail := s.chFld Reg.xfrChCqTail ch 0 16
  let base := s.pair (chReg Reg.xfrChCqBaseLo ch) (chReg Reg.xfrChCqBaseHi ch)
  let c := s.chain ch
  let bs := leBytes 2 r.tag ++ leBytes 1 r.status ++ leBytes 1 (b2n c.phase + 2 * b2n r.fenced) ++
    leBytes 4 r.consumed ++ leBytes 8 s.ldg.tick
  let s1 : State := { s with xfr := { s.xfr with
    mem := memWriteAll memDefault s.xfr.mem (s.spaceKey (s.chDescSpace ch) (base + 16 * tail)) bs } }
  let next := (tail + 1) % s.ringSize ch
  let s2 := s1.setFld (chReg Reg.xfrChCqTail ch) 0 16 next
  let s3 := if next = 0 then s2.setChain ch { s2.chain ch with phase := !c.phase } else s2
  if r.int then s3.raise .chainCause (8 + ch) else s3

/-! ## Fetching, ending and halting -/

/-- Halt (R369): the descriptor, the failing address and side latched, STATE HALTED, CHAIN_HALT set, the bytes written
kept; a record is written whatever CREC holds, or waits for ring space. -/
def State.chainHalt (s : State) (ch status side addr : Nat) : State :=
  let c := s.chain ch
  let s1 := (s.setPair (chReg Reg.xfrChErrDescLo ch) (chReg Reg.xfrChErrDescHi ch) c.curAddr).setPair
    (chReg Reg.xfrChErrAddrLo ch) (chReg Reg.xfrChErrAddrHi ch) addr
  let s2 := (s1.setFld (chReg Reg.xfrChStatus ch) 2 4 status).setFld (chReg Reg.xfrChStatus ch) 6 2 side
  let s3 := (s2.setReg (chReg Reg.xfrChErrDone ch) (BitVec.ofNat 32 (c.done % 2 ^ 25))).chState ch .halted
  let s4 := s3.raise .chainCause ch
  let r : ChainRec := ⟨status, false, (c.cur.map (·.int)).getD false, (c.cur.map (·.tag)).getD 0, s4.chConsumed ch, false⟩
  if s4.ringFull ch then s4.setChain ch { s4.chain ch with held := some r } else s4.putRecord ch r

/-- Fetch the descriptor at `addr` (R365): from the context's descriptor space, refused as R364 states. -/
def State.fetchDesc (s : State) (ch addr : Nat) : State :=
  let sp := s.chDescSpace ch
  let c := s.chain ch
  let fresh : Chain := { c with
    cur := none, curAddr := addr, done := 0, poisoned := false, linkWait := false, final := false, reread := none }
  let s1 := (s.setChain ch fresh).chState ch .running
  if !(descSpaces ch).contains sp then s1.chainHalt ch 2 2 addr
  else if s.spaceSize sp < addr + 64 then s1.chainHalt ch 3 2 addr
  else
    let d := descOf (memReadAll memDefault s.xfr.mem (s.spaceKey sp addr) 64)
    let s2 := s1.setChain ch { s1.chain ch with cur := some d }
    match s.descRefusal ch d with
    | some e => s2.chainHalt ch e.1 e.2 (if e.2 = 0 then d.src else if e.2 = 1 then d.dst else d.link)
    | none => s2

/-- Follow the descriptor's LINK, or read the tail's LINK again where it was 0 (R367). RUN at 0 stops the chain there
(log entry 24). -/
def State.chainNext (s : State) (ch : Nat) : State :=
  if !s.chRun ch then s.chState ch .stopped
  else
    match (s.chain ch).cur with
    | some d =>
      if d.link = 0 then s.setChain ch { s.chain ch with linkWait := true, final := false, reread := none }
      else s.fetchDesc ch d.link
    | none => s

/-- The descriptor is consumed (R359): CONSUMED rises and TAIL names it. -/
def State.consume (s : State) (ch : Nat) : State :=
  (s.setReg (chReg Reg.xfrChConsumed ch) (BitVec.ofNat 32 (s.chConsumed ch + 1))).setPair
    (chReg Reg.xfrChTailLo ch) (chReg Reg.xfrChTailHi ch) (s.chain ch).curAddr

/-- The descriptor ends with a status that does not halt: its record if CREC asks for one, then the next descriptor. -/
def State.descEnd (s : State) (ch status : Nat) (fenced : Bool) : State :=
  let s1 := s.consume ch
  match (s1.chain ch).cur with
  | none => s1
  | some d =>
    let r : ChainRec := ⟨status, fenced, d.int, d.tag, s1.chConsumed ch, true⟩
    if !d.crec then s1.chainNext ch
    else if s1.ringFull ch then s1.setChain ch { s1.chain ch with held := some r }
    else (s1.putRecord ch r).chainNext ch

/-! ## Moving data (R359 to R361) -/

/-- A copy within one space whose ranges overlap with DST above SRC runs from the highest address down (R360). -/
def State.copiesDown (s : State) (d : Desc) : Bool :=
  decide (d.op = 1) && decide (s.spaceKey d.srcSpace d.src < s.spaceKey d.dstSpace d.dst) &&
  decide (s.spaceKey d.dstSpace d.dst < s.spaceKey d.srcSpace d.src + d.length)

/-- The offsets, first and count, of the bytes that are written after `done` of them, `n` more. -/
def moveWindow (down : Bool) (length done n : Nat) : Nat :=
  if down then length - done - n else done

/-- 64-byte lines that `n` bytes from `a` on touch. -/
def linesOf (a n : Nat) : List Nat := if n = 0 then [] else upFrom (a / 64) ((a + n - 1) / 64 - a / 64 + 1)

/-- Some byte of the source lies in a poisoned line. -/
def poisonIn (p : List Nat) (a n : Nat) : Bool := (linesOf a n).any (fun l => p.contains l)

/-- Lines of the destination that take the mark: those that receive a byte of a poisoned source line (R361). -/
def markedLines (p : List Nat) (src dst n : Nat) : List Nat :=
  (linesOf dst n).filter (fun l =>
    let lo := max (64 * l) dst
    let hi := min (64 * l + 64) (dst + n)
    poisonIn p (src + (lo - dst)) (hi - lo))

/-- `n` further bytes of a COPY or FILL leave the engine, after the `done` ones already written. -/
def State.moveBytes (s : State) (ch : Nat) (d : Desc) (n : Nat) : State :=
  let c := s.chain ch
  let off := moveWindow (s.copiesDown d) d.length c.done n
  let src := s.spaceKey d.srcSpace (d.src + off)
  let dst := s.spaceKey d.dstSpace (d.dst + off)
  let bs : List Byte :=
    if d.op = 1 then memReadAll memDefault s.xfr.mem src n
    else (upFrom off n).map (fun i => d.pattern.getD (i % 8) 0)
  let bad := if d.op = 1 then markedLines s.xfr.poison src dst n else []
  let clean := (linesOf dst n).filter (fun l => !bad.contains l && decide (dst ≤ 64 * l) && decide (64 * l + 64 ≤ dst + n))
  let s1 : State := { s with xfr := { s.xfr with
    mem := memWriteAll memDefault s.xfr.mem dst bs,
    poison := bad ++ s.xfr.poison.filter (fun l => !clean.contains l && !bad.contains l) } }
  s1.setChain ch { c with
    done := c.done + n, poisoned := c.poisoned || !bad.isEmpty, wroteHost := c.wroteHost || decide (d.dstSpace = 10),
    wroteDram := c.wroteDram || decide (d.dstSpace = 0) || decide (d.dstSpace = 11) }

/-- A COPY or FILL reaches DRAM with the OPEN hint (R416). -/
def State.touchDram (s : State) (space addr : Nat) : State :=
  if space = 0 || space = 11 then s.openRow (s.spaceKey space addr) else s

/-- A COPY or FILL in hand runs to its end, or to a PCIe error after `n` further bytes on a side (R364, R369). -/
def State.runMove (s : State) (ch op : Nat) (err : Option (Nat × Nat)) : State :=
  let c := s.chain ch
  match c.st, c.cur with
  | .running, some d =>
    if d.op ≠ op || c.held.isSome || c.linkWait then s
    else
      let s := (if op = 1 then s.touchDram d.srcSpace d.src else s).touchDram d.dstSpace d.dst
      match err with
      | some e =>
        let n := min e.1 (d.length - c.done)
        let s1 := s.moveBytes ch d n
        let a := (if e.2 = 0 then d.src else d.dst) + moveWindow (s.copiesDown d) d.length (c.done + n) 0
        s1.chainHalt ch 1 e.2 a
      | none =>
        let s1 := s.moveBytes ch d (d.length - c.done)
        s1.descEnd ch (if (s1.chain ch).poisoned then 5 else 0) false
  | _, _ => s

/-! ## Links (R367) -/

/-- The tail's LINK as it stands in memory. -/
def State.tailLink (s : State) (ch : Nat) : Nat :=
  ofLeBytes (memReadAll memDefault s.xfr.mem (s.spaceKey (s.chDescSpace ch) ((s.chain ch).curAddr + 56)) 8)

/-- The read of the tail's LINK returns. -/
def State.linkReturn (s : State) (ch : Nat) : State :=
  let c := s.chain ch
  let l := s.tailLink ch
  if l ≠ 0 then
    if l % 64 = 0 then s.fetchDesc ch l
    else (s.setChain ch { c with linkWait := false }).chainHalt ch 4 2 l
  else if c.final then (s.setChain ch { c with linkWait := false, final := false }).chainHalt ch 6 2 (c.curAddr + 56)
  else if s.chAppend ch = s.chConsumed ch then
    (s.setChain ch { c with linkWait := false, reread := none }).chState ch .idle
  else s.setChain ch { c with linkWait := false, reread := some (s.ldg.tick + 64) }

/-! ## Restart (R370) -/

/-- End a halt with an ACTION: 0 RETRY, 1 SKIP, 2 ABORT. -/
def State.chainRestart (s : State) (ch action : Nat) : State :=
  let c := s.chain ch
  let status := s.chFld Reg.xfrChStatus ch 2 4
  match action with
  | 0 =>
    if status = 6 then
      (s.setChain ch { c with linkWait := true, final := true }).chState ch .running
    else if decide (2 ≤ status) && decide (status ≤ 4) then
      let s1 := s.fetchDesc ch c.curAddr
      if (s1.chain ch).st = .running then s1.setChain ch { s1.chain ch with done := c.done } else s1
    else s.chState ch .running
  | 1 =>
    let s1 := s.chState ch .running
    if status = 6 then s1.setChain ch { s1.chain ch with linkWait := true, final := false }
    else (s1.consume ch).chainNext ch
  | 2 =>
    let s1 := s.setReg (chReg Reg.xfrChConsumed ch) (s.reg (chReg Reg.xfrChAppend ch))
    (s1.setChain ch { c with cur := none, linkWait := false, reread := none, final := false }).chState ch .stopped
  | _ => s

end Sys2Proof.Machine
end

