-- ==== Sys2Proof/Machine/Movers.lean ====
section
/-!
DEFINITION. The data movers (spec 12): the chain contexts' run, descriptors, fences, links and restarts (R365 to R370), and
the account contexts' reads, halts and restarts (R354, R371 to R376).
-/
namespace Sys2Proof.Machine

/-! ## Chains -/

/-- What an owner wrote to its spaces beforehand, and made visible: space, address and bytes (R365, R366). -/
def State.ownerWrites (s : State) (ws : List (Nat × Nat × List Byte)) : State :=
  ws.foldl (fun s w => { s with xfr := { s.xfr with
    mem := memWriteAll memDefault s.xfr.mem (s.spaceKey w.1 w.2.1) w.2.2 } }) s

/-- The chain registers of context `ch` take a write from `who`. -/
def State.chWrites (s : State) (who : Requester) (ch : Nat) : Bool :=
  decide (ch < 8) && s.mayWrite who (chReg Reg.xfrChCtl ch)

/-- HEAD is fetched if RUN is 1 and APPEND_COUNT differs from CONSUMED (R365). -/
def State.chainStart (s : State) (ch : Nat) : State :=
  if s.chRun ch && s.chAppend ch ≠ s.chConsumed ch then
    (s.wakeBank .xfr).fetchDesc ch (s.pair (chReg Reg.xfrChHeadLo ch) (chReg Reg.xfrChHeadHi ch) / 64 * 64)
  else s

/-- A chain whose RUN has risen starts where it stands still (R365). -/
def State.runRises (s : State) (ch : Nat) : State :=
  match (s.chain ch).st with
  | .stopped => s.chainStart ch
  | .idle => s.chainStart ch
  | _ => s

/-- R365: RUN goes to 1, after the owner has written its descriptors. -/
def execChainRun (who : Requester) (ch : Nat) (writes : List (Nat × Nat × List Byte)) (s : State) :
    Host.Outcome State Fault Refusal :=
  .next (if s.chWrites who ch && !s.chRun ch then
      ((s.ownerWrites writes).setFld (chReg Reg.xfrChCtl ch) 0 1 1).runRises ch
    else s)

/-- R366, R367: APPEND_COUNT is written, after the owner's writes are visible. A stopped context with RUN at 1 fetches HEAD;
an idle one reads its tail's LINK again 64 ticks later. -/
def execAppendCountWrite (who : Requester) (ch count : Nat) (writes : List (Nat × Nat × List Byte)) (s : State) :
    Host.Outcome State Fault Refusal :=
  .next (if s.chWrites who ch then
      let s1 := (s.ownerWrites writes).setReg (chReg Reg.xfrChAppend ch) (BitVec.ofNat 32 count)
      match (s1.chain ch).st with
      | .stopped => s1.chainStart ch
      | .idle =>
        if s1.chAppend ch ≠ s1.chConsumed ch && (s1.chain ch).reread.isNone then
          s1.setChain ch { s1.chain ch with reread := some (s1.ldg.tick + 64) }
        else s1
      | _ => s1
    else s)

/-- R358: a COPY runs to its last write, or to a PCIe error (bytes written since, side). -/
def execDescriptorCopy (ch : Nat) (err : Option (Nat × Nat)) (s : State) : Host.Outcome State Fault Refusal :=
  .next (if s.islandOn .xfr then s.runMove ch 1 err else s)

/-- R358: a FILL runs to its last write, or to a PCIe error. -/
def execDescriptorFill (ch : Nat) (err : Option (Nat × Nat)) (s : State) : Host.Outcome State Fault Refusal :=
  .next (if s.islandOn .xfr then s.runMove ch 2 err else s)

/-- R362: a FENCE ends once every earlier write is acknowledged; writes to DRAM ask for a drain to empty. `err` is the
address of a write to host memory that failed (R369). -/
def execFence (ch : Nat) (err : Option Nat) (s : State) : Host.Outcome State Fault Refusal :=
  .next (
    let c := s.chain ch
    match c.st, c.cur with
    | .running, some d =>
      if d.op ≠ 3 || c.held.isSome || c.linkWait || !s.islandOn .xfr then s
      else if c.wroteDram && !(decide (s.mem.occA = 0) && decide (s.mem.occB = 0)) then
        { s with mem := { s.mem with drainEmpty := true } }
      else match (if c.wroteHost then err else none) with
        | some a => s.chainHalt ch 1 1 a
        | none => (s.setChain ch { c with wroteHost := false, wroteDram := false }).descEnd ch 0 true
    | _, _ => s)

/-- R367: the re-read of the tail's LINK returns, or fails with a PCIe error. -/
def execLinkReadReturn (ch : Nat) (err : Bool) (s : State) : Host.Outcome State Fault Refusal :=
  .next (
    let c := s.chain ch
    if c.st = .running && c.linkWait && s.islandOn .xfr then
      if err then (s.setChain ch { c with linkWait := false }).chainHalt ch 1 2 (c.curAddr + 56)
      else s.linkReturn ch
    else s)

/-- R367: 64 ticks after the compare or the append, the tail's LINK is read again. -/
def execLinkReread (ch : Nat) (s : State) : Host.Outcome State Fault Refusal :=
  .next (
    let c := s.chain ch
    match c.reread with
    | some t =>
      if decide (t ≤ s.ldg.tick) && s.islandOn .xfr && (c.st = .running || c.st = .idle) then
        (s.setChain ch { c with reread := none, linkWait := true, final := true }).chState ch .running
      else s
    | none => s)

/-- A RESTART of a halted context; it waits for a record that the full ring holds back (R370, R375). -/
def State.restartChain (s : State) (who : Requester) (ch action : Nat) : State :=
  let c := s.chain ch
  if s.chWrites who ch && c.st = .halted then
    if c.held.isSome then s.setChain ch { c with restart := some action } else s.chainRestart ch action
  else s

/-- A write of XFR_CHn_CTL (R9, R377): the RW fields take their bits, a RUN that rises starts the chain, and RESTART ends a halt as ACTION
says; ACTION 3 is reserved and ends none. `v` is the word written and `w` the word that it leaves. -/
def State.writeChCtl (s : State) (who : Requester) (ch : Nat) (v w : Word) : State :=
  if !s.chWrites who ch then s
  else
    let s1 := s.setReg (chReg Reg.xfrChCtl ch) w
    let s2 := if bitOf v 0 && !s.chRun ch then s1.runRises ch else s1
    if bitOf v 1 && decide (getField v 2 2 ≤ 2) then s2.restartChain who ch (getField v 2 2) else s2

/-- R370: ACTION 0, RETRY. -/
def execChainRetry (who : Requester) (ch : Nat) (s : State) : Host.Outcome State Fault Refusal :=
  .next (s.restartChain who ch 0)

/-- R370: ACTION 1, SKIP. -/
def execChainSkip (who : Requester) (ch : Nat) (s : State) : Host.Outcome State Fault Refusal :=
  .next (s.restartChain who ch 1)

/-- R370: ACTION 2, ABORT. -/
def execChainAbort (who : Requester) (ch : Nat) (s : State) : Host.Outcome State Fault Refusal :=
  .next (s.restartChain who ch 2)

/-- R363: the owner advances HEAD; a record that waited is written, and the chain or a waiting RESTART goes on (R375). -/
def execCqHeadWrite (who : Requester) (ch head : Nat) (s : State) : Host.Outcome State Fault Refusal :=
  .next (if s.chWrites who ch then
      let s1 := s.setFld (chReg Reg.xfrChCqHead ch) 0 16 head
      let c := s1.chain ch
      match c.held with
      | none => s1
      | some r =>
        if s1.ringFull ch then s1
        else
          let s2 := (s1.setChain ch { c with held := none, restart := none }).putRecord ch r
          if r.goOn then s2.chainNext ch
          else match c.restart with
            | some a => s2.chainRestart ch a
            | none => s2
    else s)

/-! ## Account contexts -/

/-- R354: an outstanding read of context `a` (purpose, queue or command) completes; the engines issue what waits. -/
def execContextReadComplete (a purpose ref : Nat) (s : State) : Host.Outcome State Fault Refusal :=
  .next (
    let x := s.ctx a
    if x.reads.contains (purpose, ref) then
      (s.setCtx a { x with reads := dropFirst (purpose, ref) x.reads }).issueAll
    else s)

/-- R371: a read fails with KIND 1 UR, 2 CA, 3 poisoned completion, 4 timeout: the context halts and latches it; a further
failure is marked against its own command only. Of reads that fail in one tick the one issued earlier is latched (R375). -/
def execCtxHalt (a purpose ref kind : Nat) (addr : BitVec 64) (s : State) : Host.Outcome State Fault Refusal :=
  .next (
    let x := s.ctx a
    if x.reads.contains (purpose, ref) then
      let pos := x.reads.findIdx (fun r => decide (r = (purpose, ref)))
      let y := { x with reads := dropFirst (purpose, ref) x.reads, failed := x.failed ++ [(purpose, ref)] }
      let seq := if purpose = 0 then 0xFFFFFFFF else match s.cmd ref with | some c => c.seq % 2 ^ 32 | none => 0xFFFFFFFF
      let z := { y with halted := true, kind := kind % 8, purpose := purpose, errAddr := addr, errSeq := seq, haltAt := s.ldg.tick,
                        haltPos := pos }
      if !x.halted then (s.setCtx a z).raise .xfrCause 0
      else if x.haltAt = s.ldg.tick && decide (pos < x.haltPos) then s.setCtx a z
      else s.setCtx a y
    else s)

/-- Load the status registers of a context (R376). -/
def State.loadCtx (s : State) (a : Nat) : State :=
  let x := s.ctx a
  let w := b2n x.halted + 2 * x.kind + 16 * x.purpose + 64 * x.reads.length
  (((s.setReg Reg.xfrCtxStatus (BitVec.ofNat 32 w)).setReg Reg.xfrCtxErrAddr (x.errAddr.setWidth 32)).setReg
    (Reg.xfrCtxErrAddr + 4) (BitVec.ofNat 32 (x.errAddr.toNat / 2 ^ 32))).setReg Reg.xfrCtxErrSeq (BitVec.ofNat 32 x.errSeq)

/-- R376: a context is selected and its status loaded. -/
def execXfrCtxSelWrite (who : Requester) (a : BitVec 11) (s : State) : Host.Outcome State Fault Refusal :=
  .next (if s.mayWrite who Reg.xfrCtxSel then (s.setReg Reg.xfrCtxSel (a.setWidth 32)).loadCtx a.toNat else s)

/-- The context that XFR_CTX_SEL names. -/
def State.selCtx (s : State) : Nat := s.fld Reg.xfrCtxSel 0 11

/-- A read belongs to a command still in flight, or to a queue that exists. -/
def State.readLive (s : State) (r : Nat × Nat) : Bool :=
  if r.1 = 0 then (ofind s.host.queues r.2).isSome
  else match s.cmd r.2 with | some c => decide (c.phase ≠ .posting) | none => false

/-- R373 ACTION 0: failed reads of what is still in flight are issued again, and fetching resumes. -/
def execContextRestartRetry (who : Requester) (s : State) : Host.Outcome State Fault Refusal :=
  .next (
    let a := s.selCtx
    let x := s.ctx a
    if s.mayWrite who Reg.xfrCtxCtl && x.halted then
      (s.setCtx a { x with halted := false, queue := x.failed.filter s.readLive ++ x.queue, failed := [] }).issueAll
    else s)

/-- R373 ACTION 1: each command with a failed read completes with Data Transfer Error and secures nothing; a failed entry
fetch sets CSTS.CFS. -/
def execContextRestartFail (who : Requester) (s : State) : Host.Outcome State Fault Refusal :=
  .next (
    let a := s.selCtx
    let x := s.ctx a
    if s.mayWrite who Reg.xfrCtxCtl && x.halted then
      let dead := (x.failed.filter (fun r => decide (r.1 ≠ 0))).map (·.2)
      let keep (r : Nat × Nat) : Bool := !(decide (r.1 ≠ 0) && dead.contains r.2)
      let s1 := s.setCtx a { x with
        halted := false, failed := [], queue := x.queue.filter keep, reads := x.reads.filter keep }
      let s2 := if x.failed.any (fun r => decide (r.1 = 0)) then s1.setCtrl a { s1.ctrl a with cfs := true } else s1
      let s3 := dead.foldl (fun s h =>
        match s.cmd h with
        | some c => if c.phase = .running && !c.secured then s.endWrite h stDataTransferError else s
        | none => s) s2
      s3.kick.issueAll
    else s)

end Sys2Proof.Machine
end

