-- ==== Sys2Proof/Machine/NetRows.lean ====
section
/-!
DEFINITION. The network ports and their queue pairs (R34, R461 to R466, R485 to R490), the Fabrics commands (R284, R466, R593), the PCIe
link's loss (R35), and the Keep Alive Timer (R286).
-/
namespace Sys2Proof.Machine

/-- The port's link is up. -/
def State.portUp (s : State) (p : Nat) : Bool := s.islandOn .net && bitOf (s.reg (Reg.netPortStatus + 4 * p)) 0

/-- A queue pair that is bound, on a port that is up. -/
def State.liveQp (s : State) (i : Nat) : Option Qp :=
  match ofind s.net.qps i with
  | some q => if !q.error && s.portUp q.port then some q else none
  | none => none

def State.setQp (s : State) (i : Nat) (q : Qp) : State := { s with net := { s.net with qps := oput s.net.qps i q } }

/-! ## Queue pairs (R465, R466) -/

/-- Remote address of host table entry `n`. -/
def State.hostAddr (s : State) (n : Nat) : Nat :=
  let w (o : Nat) : Nat := (s.reg (o + 0x20 * n)).toNat
  w Reg.netHostAddr0 + 2 ^ 32 * w Reg.netHostAddr1 + 2 ^ 64 * w Reg.netHostAddr2 + 2 ^ 96 * w Reg.netHostAddr3

/-- Host table entry `n` is valid, has the source address and allows the port (R466, R489). -/
def State.hostFits (s : State) (src : BitVec 128) (p n : Nat) : Bool :=
  let c := s.reg (Reg.netHostCtl + 0x20 * n)
  bitOf c 13 && bitOf c (11 + p) && decide (s.hostAddr n = src.toNat)

/-- The account of the first entry that fits. -/
def State.hostAccount (s : State) (src : BitVec 128) (p : Nat) : Option Nat :=
  ((List.range 512).find? (s.hostFits src p)).map (fun n => s.fld (Reg.netHostCtl + 0x20 * n) 0 11)

/-- Queue pairs in use: bound ones, and those in error whose commands have not all ended (log entry 91). -/
def State.qpsInUse (s : State) : List (Nat × Qp) :=
  s.net.qps.filter (fun e => !e.2.error || s.host.cmds.any (fun c => c.2.net && decide (c.2.queue = e.1)))

/-- Line rate in Mb/s, the floor, and the step of its recovery (R463). -/
def lineRate : Nat := 100000
def rateFloor : Nat := 1000
def rateStep : Nat := 5000

/-- R466: a CM REQ from `src` arrives at a port. -/
def execCmReq (port : Nat) (src : BitVec 128) (s : State) : Host.Outcome State Fault Refusal :=
  .next (if 2 ≤ port || !s.portUp port || !s.mpActs || !modeLedger s.mode then s
    else
      let reject := (s.sendFrame (.cmRej port)).raise .netCause 2
      match s.hostAccount src port with
      | none => reject
      | some a =>
        let netOk := match (s.acct a).binding with | some b => b.netEn | none => false
        match netOk, firstFree s.qpsInUse 0 4096 with
        | true, some i => (s.setQp i ⟨a, port, none, false, lineRate, none, none, 0, 0⟩).sendFrame (.cmRep i)
        | _, _ => reject)

/-! ## Congestion (R463, R464) -/

/-- R463: a CE-marked packet of a queue pair arrives. At most one CNP leaves in 50,000 ticks; one that its priority's pause stops waits. -/
def execCeMarkedPacket (qp : Nat) (s : State) : Host.Outcome State Fault Refusal :=
  .next (match s.liveQp qp with
    | none => s
    | some q =>
      let early := match q.cnpSent with | some t => decide (s.ldg.tick < t + 50000) | none => false
      if early then s
      else
        let s1 := s.setQp qp { q with cnpSent := some s.ldg.tick }
        let x := s.port q.port
        if x.pausedCnp then s1.setPort q.port { x with cnpHeld := x.cnpHeld ++ [qp] } else s1.sendFrame (.cnp qp))

/-- R463: a CNP arrives: the send rate halves, with a floor of 1 Gb/s. -/
def execCnpReceive (qp : Nat) (s : State) : Host.Outcome State Fault Refusal :=
  .next (match s.liveQp qp with
    | none => s
    | some q => s.setQp qp { q with rate := max rateFloor (q.rate / 2), cnpRecv := some s.ldg.tick, rateAt := s.ldg.tick })

/-- R463: 55,000 ticks have passed without a CNP: the rate rises by 5 Gb/s, up to the line rate. -/
def execRateRecovery (qp : Nat) (s : State) : Host.Outcome State Fault Refusal :=
  .next (match s.liveQp qp with
    | none => s
    | some q =>
      if decide (q.rate < lineRate) && decide (q.rateAt + 55000 ≤ s.ldg.tick) then
        s.setQp qp { q with rate := min lineRate (q.rate + rateStep), rateAt := q.rateAt + 55000 }
      else s)

/-- R464: a pause frame arrives for DATA_PRIO, or for CNP_PRIO. -/
def execPfcPauseReceive (port : Nat) (cnp : Bool) (s : State) : Host.Outcome State Fault Refusal :=
  .next (if 2 ≤ port || !s.portUp port then s
    else
      let x := s.port port
      s.setPort port (if cnp then { x with pausedCnp := true } else { x with pausedData := true }))

/-- R464: the pause time of a priority has run out; waiting CNPs leave. -/
def execPfcPauseExpiry (port : Nat) (cnp : Bool) (s : State) : Host.Outcome State Fault Refusal :=
  .next (let x := s.port port
    if cnp then
      if x.pausedCnp then
        x.cnpHeld.foldl (fun s i => s.sendFrame (.cnp i)) (s.setPort port { x with pausedCnp := false, cnpHeld := [] })
      else s
    else s.setPort port { x with pausedData := false })

/-- R464: the receive buffer drains to `bytes`; at 512 KiB NET sends XON. -/
def execPfcXon (port bytes : Nat) (s : State) : Host.Outcome State Fault Refusal :=
  .next (if 2 ≤ port || !s.islandOn .net || (s.port port).rxBytes < bytes then s else s.rxLevel port bytes)

/-! ## Frames answered in hardware (R462, R485) -/

/-- R462: an ARP request arrives; `own` says that it asks for the port's address. -/
def execArpRequest (port : Nat) (own : Bool) (s : State) : Host.Outcome State Fault Refusal :=
  .next (if decide (port < 2) && own && s.portUp port && modeLedger s.mode then s.sendFrame (.arpReply port) else s)

/-- R462: a Neighbor Solicitation arrives. -/
def execNeighborDiscovery (port : Nat) (own : Bool) (s : State) : Host.Outcome State Fault Refusal :=
  .next (if decide (port < 2) && own && s.portUp port && modeLedger s.mode then s.sendFrame (.ndReply port) else s)

/-- NET_WAKE_TOKEN, byte 0 lowest. -/
def State.wakeToken (s : State) : Nat := (s.reg Reg.netWakeToken).toNat + 2 ^ 32 * (s.reg (Reg.netWakeToken + 4)).toNat

/-- R485: a frame arrives that may wake: a frame of the wake form with payload bytes 0 to 7 in `token`, or with `roce` a RoCEv2 packet
for that queue pair. In DOZE a match is a wake event; elsewhere the frame is discarded. -/
def execWakeFrame (port : Nat) (form : Bool) (token : BitVec 64) (roce : Option Nat) (s : State) : Host.Outcome State Fault Refusal :=
  .next (if 2 ≤ port || s.mode ≠ .doze || !s.portUp port then s
    else
      let bound := match roce with
        | some i => (match s.liveQp i with | some q => decide (q.port = port) | none => false)
        | none => false
      if bound || (form && decide (token.toNat ≠ 0) && decide (token.toNat = s.wakeToken)) then s.wakeEvent (3 + port) else s)

/-! ## Links (R34, R35, R461) -/

/-- FEC codewords corrected and uncorrectable since the last report of them (R488). -/
def State.countFec (s : State) (p corr uncorr : Nat) : State :=
  (s.countFld (Reg.netPortFecCorr + 8 * p) 0 32 corr).countFld (Reg.netPortFecUncorr + 8 * p) 0 32 uncorr

/-- The port's mode: CR1 where the thresholds section says so. -/
def State.portCr1 (s : State) (p : Nat) : Bool :=
  match s.boot.image with
  | some im => if p = 0 then im.thresholds.ethCr1.1 else im.thresholds.ethCr1.2
  | none => false

/-- Links train from TRAIN on (R93, R461). -/
def modeNet (m : Mode) : Bool := decide (m = .train) || modeLedger m

/-- R461: a port trains, and reaches block lock and FEC codeword lock. -/
def execLinkUp (port corr uncorr : Nat) (s : State) : Host.Outcome State Fault Refusal :=
  .next (if 2 ≤ port || !modeNet s.mode then s
    else (s.setReg (Reg.netPortStatus + 4 * port) (BitVec.ofNat 32 (5 + 2 * b2n (s.portCr1 port)))).countFec port corr uncorr)

/-- A command of a failed port runs on without a response (R34, R390). -/
def State.silence (s : State) (h : Nat) : State :=
  match s.cmd h with
  | some c =>
    let c1 := { c with silent := true }
    if c.phase = .posting then s.finish h c1 else s.setCmd h c1
  | none => s

/-- The queue pair that receives a Minted Read's output over RoCEv2 (R467). -/
def mintTarget (c : Cmd) : Option Nat :=
  if c.op ≠ .minted then none
  else if mintDest c.sqe = 1 then some (mintQp c.sqe)
  else if c.net then some c.queue
  else none

/-- A Minted Read whose output queue pair is in error ends (R484); the manual names no status (log entry 92). -/
def State.mintCut (s : State) (h : Nat) : State :=
  match s.cmd h with
  | none => s
  | some c =>
    if c.phase ≠ .running then s
    else match c.lane with
      | some l => s.mintEnd l (stOpen 2)
      | none => (s.freeLane h).toPost h { c with secs := [], locks := [] } (stOpen 2)

/-- Queue pairs enter the error state: their commands' responses cannot be delivered (R34), and the Minted Reads that write to them end
(R484). -/
def State.failQps (s : State) (qs : List Nat) : State :=
  let s1 := qs.foldl (fun s i => s.qpError i) s
  let mine := (s1.host.cmds.filter (fun e => e.2.net && qs.contains e.2.queue)).map (·.1)
  let s2 := mine.foldl (fun s h => s.silence h) s1
  let minted := (s2.host.cmds.filter (fun e => match mintTarget e.2 with | some q => qs.contains q | none => false)).map (·.1)
  (minted.foldl (fun s h => s.mintCut h) s2).kick

/-- R461: a port loses LINK_UP. -/
def execLinkDown (port corr uncorr : Nat) (s : State) : Host.Outcome State Fault Refusal :=
  .next (if 2 ≤ port || !s.portUp port then s
    else
      let s1 := (s.setReg (Reg.netPortStatus + 4 * port) 0).countFec port corr uncorr
      let s2 := (s1.setPort port {}).raise .netCause port
      s2.failQps (s2.qpsOf (fun q => decide (q.port = port))))

/-- R35: the PCIe link goes down without PERST_N; NET and the media side run on. -/
def execPcieLinkDown (s : State) : Host.Outcome State Fault Refusal :=
  .next (if s.islandOn .hst then { s with host := { s.host with linkUp := false } } else s)

/-- R286: the Keep Alive Timer of a function's controller expires: no command for KATO milliseconds. The controller's fatal status is the
NVM Express Base Specification's (PRESUMED, log entry 93). -/
def execKeepAliveTimeout (func : Nat) (s : State) : Host.Outcome State Fault Refusal :=
  .next (let c := s.ctrl func
    if s.islandOn .hst && decide (c.kato ≠ 0) && c.rdy && !c.cfs && decide (c.kaFrom + c.kato * 1000000 ≤ s.ldg.tick) then
      s.setCtrl func { c with cfs := true }
    else s)

/-! ## Fabrics commands (R284, R466, R593) -/

/-- The response capsule of a Fabrics command. -/
def State.fabricDone (s : State) (a qp cid : Nat) (t : Status) (dw0 dw1 : Nat) : State :=
  { s with host := { s.host with posted := { func := a, queue := qp, cid := cid, status := t, dw0 := dw0, dw1 := dw1 } :: s.host.posted } }

/-- A capsule of a Fabrics command on a queue pair whose connected queue satisfies `p`: `g` runs it. An account that is quiescing or
quiesced, DRAIN and a sleep entry refuse it with RNR NAK (R97, R343, R497). -/
def State.fabricRun (s : State) (qp : Nat) (p : Option Nat → Bool) (g : State → Qp → State) : State :=
  match s.liveQp qp with
  | none => s
  | some q =>
    if !p q.queue || !modeLedger s.mode || s.mode = .doze then s
    else if !s.memberActive q.account || s.mode = .drain || s.pwr.sleep.isSome then s.sendFrame (.rnrNak qp)
    else g (s.keepAlive q.account) q

/-- An I/O queue of the account with that identifier is connected. -/
def State.netHas (s : State) (a qid : Nat) : Bool :=
  s.net.qps.any (fun e => decide (e.2.account = a) && !e.2.error && decide (e.2.queue = some qid))

/-- R466: Connect on a bound queue pair: `qid` 0 is the admin queue, `size` its entries. -/
def execFabricsConnect (qp cid cntlid qid size : Nat) (s : State) : Host.Outcome State Fault Refusal :=
  .next (s.fabricRun qp (fun o => o.isNone) (fun s q =>
    let a := q.account
    let bad := (decide (cntlid ≠ 0xFFFF) && decide (cntlid ≠ a)) || !sizeOk size || s.netHas a qid ||
      (decide (1 ≤ qid) && (decide (s.maxQp a < qid) || decide (s.maxQp a ≤ s.qpUsed a)))
    if bad then s.fabricDone a qp cid stConnectInvalid 0 0
    else (s.setQp qp { q with queue := some qid }).fabricDone a qp cid stOk a 0))

/-- CAP of a function's controller, low and high words (R98, R289, R562); fields that the manual does not state are free values. -/
def capLow (f : Nat) : Word :=
  let w := setField (setField (Config.property 0) 0 19 (4095 + 2 ^ 16)) 19 5 0
  if f = 0 then setField w 24 8 15 else w
def capHigh (f : Nat) : Word := setField (Config.property 4) 0 5 (if f = 0 then 16 else 0)

/-- CSTS of a controller. -/
def cstsWord (c : Ctrl) : Nat := b2n c.rdy + 2 * b2n c.cfs + 4 * c.shst

/-- A property's value by offset; none for one that is not a property. -/
def State.property (s : State) (f o : Nat) : Option (Nat × Nat) :=
  match o with
  | 0x00 => some ((capLow f).toNat, (capHigh f).toNat)
  | 0x08 => some ((Config.property 8).toNat, 0)
  | 0x14 => some ((s.ctrl f).cc.toNat, 0)
  | 0x1C => some (cstsWord (s.ctrl f), 0)
  | 0x20 => some (0, 0)
  | _ => none

/-- R284: Property Get of a controller property. -/
def execPropertyGet (qp cid offset : Nat) (s : State) : Host.Outcome State Fault Refusal :=
  .next (s.fabricRun qp (fun o => decide (o = some 0)) (fun s q =>
    match s.property q.account offset with
    | some v => s.fabricDone q.account qp cid stOk v.1 v.2
    | none => s.fabricDone q.account qp cid stInvalidField 0 0))

/-- A write of CC: EN cleared resets the controller, EN set enables it, and SHN asks for a shutdown (R77, R343, R593). -/
def State.writeCc (s : State) (f : Nat) (v : BitVec 32) : State :=
  let old := (s.ctrl f).cc
  let s1 := if bitOf old 0 && !bitOf v 0 then s.writeEnOff f else if !bitOf old 0 && bitOf v 0 then s.writeEnOn f v else s
  let s1 := if bitOf old 0 = bitOf v 0 then s1.setCtrl f { s1.ctrl f with cc := setField (v &&& ccMask) 14 2 (getField old 14 2) } else s1
  if getField v 14 2 = getField old 14 2 || getField v 14 2 = 0 then s1
  else if f = 0 then s1.shutdownPf (getField v 14 2) else s1.shutdownVf f

/-- R593: Property Set of CC, and of NSSR on the PF's controller (R316). -/
def execPropertySet (qp cid offset : Nat) (value : BitVec 32) (s : State) : Host.Outcome State Fault Refusal :=
  .next (s.fabricRun qp (fun o => decide (o = some 0)) (fun s q =>
    if offset = 0x14 then (s.fabricDone q.account qp cid stOk 0 0).writeCc q.account value
    else if offset = 0x20 && q.account = 0 then
      let s1 := s.fabricDone 0 qp cid stOk 0 0
      if value = 0x4E564D65#32 then s1.restartRequest .restart .restart (0, 0) else s1
    else s.fabricDone q.account qp cid stInvalidField 0 0))

/-- R284: Disconnect ends the association of a queue pair with its queue; its commands run on without a response. -/
def execDisconnect (qp cid : Nat) (s : State) : Host.Outcome State Fault Refusal :=
  .next (s.fabricRun qp (fun o => o.isSome) (fun s q =>
    let s1 := (s.setQp qp { q with queue := none }).fabricDone q.account qp cid stOk 0 0
    (((s1.host.cmds.filter (fun e => e.2.net && decide (e.2.queue = qp))).map (·.1)).foldl (fun s h => s.silence h) s1).kick))

end Sys2Proof.Machine
end

