-- ==== Sys2Proof/Machine/Causes.lean ====
section
/-!
DEFINITION. The cause tree's own events (R541 to R544), the event recorder's programs and reads (R547 to R552), the latched
and selected reads (R154, R155, R156, R525), and the write of a register with no behaviour of its own (R565).
-/
namespace Sys2Proof.Machine

/-- The bit of a leaf can be set by hardware: it is W1C in its listing. -/
def leafHasBit (l : Leaf) (b : Nat) : Bool :=
  match regRow (leafReg l) with
  | some r => bitOf r.w1c b
  | none => false

/-- R541: hardware sets a leaf bit. -/
def execCauseLeafSet (l : Leaf) (b : Nat) (s : State) : Host.Outcome State Fault Refusal :=
  .next (if leafHasBit l b then s.raise l b else s)

/-- The word that a write leaves in a register, by its listing. -/
def State.writtenAt (s : State) (o : Nat) (v : Word) : Word :=
  match regRow o with
  | some r => written r (s.reg o) v
  | none => s.reg o

/-- R541: a W1C write of `v` to a leaf. -/
def execCauseLeafClear (who : Requester) (l : Leaf) (v : BitVec 32) (s : State) : Host.Outcome State Fault Refusal :=
  .next (if s.mayWrite who (leafReg l) then treeSync s (s.setReg (leafReg l) (s.writtenAt (leafReg l) v)) else s)

/-- R541: 64 ticks after a change ALERT_N takes its level. Where the LDG clock is off, no tick counts them, and the update is the end of
the 64. -/
def execAlertNUpdate (s : State) : Host.Outcome State Fault Refusal :=
  .next (match s.mgt.alertPipe with
    | [] => s
    | v :: vs =>
      if s.islandOn .ldg && decide (s.ldg.tick < v.2) then s
      else { s with mgt := { s.mgt with alertPipe := vs }, pins := { s.pins with alertN := v.1 && !s.mgt.alertForce } })

/-! ## The recorder -/

/-- The recorder may start a program (R33, R547): the log can be written, the controller is free, no clear runs, the MP is up,
FLUSH has not begun, and no LOAD attempt stands before the end of its step 4. -/
def State.recorderFree (s : State) : Bool :=
  s.evt.ready && s.evt.clearing.isNone && s.nor.op.isNone && !s.evt.full && s.islandOn .mgt &&
  decide (s.mgt.mp = .running) && decide (s.mode ≠ .flush) && (decide (s.mode ≠ .load) || decide (4 < s.boot.step))

/-- The records of the next page program: those that fit into the page of the write point; at record 32,767 the log-full
record (R549). -/
def State.nextPage (s : State) : List EvRec :=
  if s.evt.next = 32767 then [{ s.evRec 0x0002 [] with deferred := false }]
  else s.evt.queue.take (min (4 - s.evt.next % 4) (32767 - s.evt.next))

/-- R547: the recorder starts a page program of queued records. -/
def execEvtRecordProgram (s : State) : Host.Outcome State Fault Refusal :=
  let recs := s.nextPage
  let page := s.evt.next / 4
  let count := (ofind s.evt.pagePrograms page).getD 0
  .next (if s.recorderFree && !recs.isEmpty && decide (count < 4) then
      { s with
        evt := { s.evt with
          prog := recs, queue := if s.evt.next = 32767 then s.evt.queue else s.evt.queue.drop recs.length,
          pagePrograms := oput s.evt.pagePrograms page (count + 1) },
        nor := { s.nor with op := some ⟨.recorder, .program, 0x07DF0000 + 64 * s.evt.next, []⟩ } }
    else s)

/-- Records stored from the write point on. -/
def State.storeRecs (s : State) (recs : List EvRec) : State :=
  { s with evt := { s.evt with
      log := ((upFrom s.evt.next recs.length).zip recs).foldl (fun l p => oput l p.1 p.2) s.evt.log } }

/-- The log is full (R549): EVT_FULL, and every event that is queued or comes later is counted in EVT_LOST. -/
def State.logFull (s : State) : State :=
  let e := s.evt
  ({ s with evt := { e with full := true, lost := satAdd 32 e.lost e.queue.length, queue := [] } }).raise .evtCause 0

/-- R547: a page program ends; after a failure the recorder goes on at the next page. -/
def execEvtProgramDone (ok : Bool) (s : State) : Host.Outcome State Fault Refusal :=
  let recs := s.evt.prog
  .next (if recs.isEmpty || s.nor.op.isNone then s
    else
      let s0 : State := { s with nor := { s.nor with op := none }, evt := { s.evt with prog := [] } }
      let s1 : State :=
        if ok then
          let s1 := s0.storeRecs recs
          { s1 with evt := { s1.evt with next := s1.evt.next + recs.length } }
        else
          let s1 := s0.storeRecs (recs.map (fun r => { r with crcOk := false }))
          (({ s1 with evt := { s1.evt with
              next := (s1.evt.next / 4 + 1) * 4, lost := satAdd 32 s1.evt.lost recs.length } }).raise .norCause 5).raise .evtCause 3
      let s2 := if s1.evt.next = 32768 then s1.logFull else s1
      let s3 := if s2.nor.haltMp then ({ s2 with nor := { s2.nor with haltMp := false } }).mpReset else s2
      let s4 := if s3.nor.resumeDue && s3.mgt.mp = .running then s3.updResume else s3
      s4.norKick)

/-- R552: a write of INDEX loads that record and then sets READY, behind any running NOR operation. -/
def execEvtRdSelWrite (who : Requester) (v : BitVec 32) (s : State) : Host.Outcome State Fault Refusal :=
  .next (if s.mayWrite who Reg.evtRdSel then
      let s1 := s.setReg Reg.evtRdSel (BitVec.ofNat 32 (getField v 0 15))
      if s1.nor.op.isNone then s1.rdLoad else { s1 with evt := { s1.evt with rdWait := true } }
    else s)

/-! ## Trace, external wait, latched reads -/

/-- R155: a write of LDG_TRACE_CTL with ARM at 1 selects the next matching command. -/
def execTraceArm (who : Requester) (v : BitVec 32) (s : State) : Host.Outcome State Fault Refusal :=
  .next (if s.mayWrite who Reg.ldgTraceCtl && bitOf v 0 then
      let s1 := s.setReg Reg.ldgTraceCtl (s.writtenAt Reg.ldgTraceCtl v)
      { s1 with ldg := { s1.ldg with traced := none, traceFrom := s1.ldg.tick } }
    else s)

/-- R156: a write of CLEAR to an account's ACT_EXTWAIT_CTL. -/
def execExtwaitClear (who : Requester) (account : Nat) (s : State) : Host.Outcome State Fault Refusal :=
  .next (if decide (account < 2048) && s.mayWrite who (Reg.actExtwaitCtl + 0x100 * account) then
      (s.setReg (Reg.actExtwaitMax + 0x100 * account) 0).setReg (Reg.actExtwaitCnt + 0x100 * account) 0
    else s)

/-- R154: a read of LDG_TICK_LO latches the upper half for its requester. -/
def execTickLoRead (who : Requester) (s : State) : Host.Outcome State Fault Refusal :=
  .next (if s.regAlive Reg.ldgTick && reaches who Reg.ldgTick false then
      { s with pwr := { s.pwr with tickShadow := oput s.pwr.tickShadow (reqNum who) (s.ldg.tick / 2 ^ 32) } }
    else s)

/-- R525: a read of PWR_TIME_LO latches PWR_TIME_HI for its requester. -/
def execTimeLoRead (who : Requester) (s : State) : Host.Outcome State Fault Refusal :=
  .next (if s.regAlive Reg.pwrTime && reaches who Reg.pwrTime false then
      { s with pwr := { s.pwr with timeShadow := oput s.pwr.timeShadow (reqNum who) (s.pwr.time / 2 ^ 32) } }
    else s)

/-! ## The write of a register with no behaviour of its own (R565) -/

/-- Registers whose writes are rows of their own. -/
def ownRow (o : Nat) : Bool :=
  [Reg.norOpCmd, Reg.mgtWdogKick, Reg.mgtChallengeCtl, Reg.evtRdSel, Reg.medZqSel, Reg.ldgPlanReq, Reg.srmConflictClr,
   Reg.cryKmLock, Reg.cryKmCmd, Reg.crySlotSel, Reg.xfrCtxSel, Reg.xfrCtxCtl, Reg.actDlogHead].contains o ||
  allLeaves.any (fun l => decide (leafReg l = o)) ||
  (decide (Reg.loopCtl ≤ o) && decide (o < Reg.loopStatus + 0x300) && decide (o % 0x100 < 0x10)) ||
  (decide (0x181000 ≤ o) && decide (o < 0x181800) && [0x10, 0x28].contains (o % 0x100)) ||
  (decide (0x800000 ≤ o) && decide (o % 0x100 = 0x2C))

/-- Chain context of an offset in its registers, and which register. -/
def chainAt (o : Nat) : Option (Nat × Nat) :=
  if decide (0x181000 ≤ o) && decide (o < 0x181800) then some ((o - 0x181000) / 0x100, o % 0x100) else none

/-- A write is held off by a rule of its register: HEAD of a running or halted context is ignored (R377), a write with ARM, APPLY or a change of ENABLE is a row of its own (R155,
R350), and PASID and CLASS keep their values while ENABLE is 1 (R350). -/
def State.writeHeld (s : State) (o : Nat) (v : Word) : Bool :=
  (match chainAt o with
   | some (ch, 8) => decide ((s.chain ch).st = .running) || decide ((s.chain ch).st = .halted)
   | some (ch, 12) => decide ((s.chain ch).st = .running) || decide ((s.chain ch).st = .halted)
   | _ => false) ||
  (decide (o = Reg.ldgTraceCtl) && bitOf v 0) ||
  (decide (o = Reg.actQslice) && bitOf v 21) ||
  (decide (Reg.actSliceCtl ≤ o) && decide (o < Reg.actSliceCtl + 256) &&
    (bitOf (s.reg o) 20 || bitOf v 20))

/-- Offsets of a function's BAR0 whose words the model keeps: INTMS and INTMC, AQA, ASQ, ACQ, and the MSI-X table (R562). -/
def barWord (f o : Nat) : Bool :=
  o % 4 = 0 && ([0x0C, 0x10, 0x24, 0x28, 0x2C, 0x30, 0x34].contains o ||
    (decide (msixBase f ≤ o) && decide (o < msixBase f + 16 * msixVectors f)))

/-- The bits of a kept word that are not reserved (R8; PRESUMED: the registers of the NVM Express Base Specification and of PCI Express,
log entry 160): AQA's two sizes, the page-aligned ASQ and ACQ, an MSI-X message address of whole doublewords and one mask bit. -/
def barMask (o : Nat) : Word :=
  if o = 0x24 then 0x0FFF0FFF#32
  else if o = 0x28 || o = 0x30 then 0xFFFFF000#32
  else if o < 0x3000 then 0xFFFFFFFF#32
  else match o % 16 with
    | 0 => 0xFFFFFFFC#32
    | 12 => 1#32
    | _ => 0xFFFFFFFF#32

/-- A write to a function's BAR0 outside the account view; INTMS sets and INTMC clears mask bits, and CC acts as it is written. -/
def State.barWrite (s : State) (f o : Nat) (v : Word) : State :=
  if s.islandOn .hst && s.host.linkUp && s.functionExists f && decide (o = 0x14) then s.writeCc f v
  else if s.islandOn .hst && s.host.linkUp && barWord f o then
    let c := s.ctrl f
    let old := (ofind c.words 0x0C).getD 0
    let w : Nat × Word := if o = 0x0C then (0x0C, old ||| v) else if o = 0x10 then (0x0C, old &&& ~~~v) else (o, v &&& barMask o)
    (s.setCtrl f { c with words := oput c.words w.1 w.2 }).msixSend
  else s

/-- The offset is one of CRY_KM_DATA0 to 17, which only the holder of the lock drives (R450). -/
def State.kmDataAt (_ : State) (o : Nat) : Bool := decide (Reg.cryKmData ≤ o) && decide (o < Reg.cryKmData + 72)

/-- A word with the bytes of `v` that are enabled, and the others of `old`. -/
def mergeBytes (be : BitVec 4) (old v : Word) : Word :=
  let m := BitVec.ofNat 32 (sumOf ((List.range 4).map (fun i => 0xFF * 2 ^ (8 * i) * b2n (be.getLsbD i))))
  (old &&& ~~~m) ||| (v &&& m)

/-- What a write that enables only some bytes of an NVMe register asks of the register: the others keep their value, and set or clear no
mask bit (PRESUMED: the NVM Express Base Specification). -/
def State.barMerged (s : State) (f o : Nat) (be : BitVec 4) (v : Word) : Word :=
  let c := s.ctrl f
  mergeBytes be (if o = 0x0C || o = 0x10 then 0 else if o = 0x14 then c.cc else (ofind c.words o).getD 0) v

/-- The order in which the writes of one tick apply (R576): the management space last, a function's account view first. -/
def spaceRank : Requester → Nat
  | .mp => 2 | .mdp _ => 2 | .pf => 1 | .func _ => 0

/-- A space of a higher rank has written the register in this tick. -/
def State.outranked (s : State) (who : Requester) (o : Nat) : Bool :=
  decide (s.mgt.wrote.1 = s.ldg.tick) && s.mgt.wrote.2.any (fun w => decide (w.1 = o) && decide (spaceRank who < w.2))

/-- The word that a write leaves: where a space of a higher rank has written in this tick, its writable bits stand (R576). -/
def State.rankedAt (s : State) (who : Requester) (o : Nat) (v : Word) : Word :=
  match regRow o with
  | some r => written (if s.outranked who o then { r with rw := 0 } else r) (s.reg o) v
  | none => s.reg o

/-- The write is remembered for the rest of its tick (R576). -/
def State.noteWrite (s : State) (who : Requester) (o : Nat) : State :=
  let now := if s.mgt.wrote.1 = s.ldg.tick then s.mgt.wrote.2 else []
  { s with mgt := { s.mgt with wrote := (s.ldg.tick, (o, spaceRank who) :: now) } }

/-- A plain write of a register of the listings. -/
def State.plainWrite (s : State) (who : Requester) (o : Nat) (v : Word) : State :=
  treeSync s ((s.setReg o (s.rankedAt who o v)).noteWrite who o)

/-- R565: a write at offset `o` of a word with its byte enables. A function BAR's offsets below 0x10000 are those of R562; its account view is
named by the member page's offset. A write that does not enable all four bytes is ignored outside the NVMe registers. -/
def execRegisterWrite (who : Requester) (o : Nat) (b : BusWord) (s : State) : Host.Outcome State Fault Refusal :=
  let v := b.word
  .next (match who with
    | .func f =>
      if o < 0x1000 then s.barWrite f o (s.barMerged f o b.be v)
      else if b.be ≠ 15 then s
      else if o < 0x10000 then s.barWrite f o v
      else if s.mayWrite who o && !ownRow o then s.plainWrite who o v else s
    | _ =>
      if b.be ≠ 15 then s
      else if s.mayWrite who o && s.kmDataAt o && decide (s.kmOwner ≠ reqId who) then s.raise .cryCause 1
      else match chainAt o with
        | some (ch, 0) => s.writeChCtl who ch v (s.rankedAt who o v)
        | _ => if s.mayWrite who o && !ownRow o && !s.writeHeld o v then s.plainWrite who o v else s)

end Sys2Proof.Machine
end

