-- ==== Sys2Proof/Machine/Egress.lean ====
section
/-!
DEFINITION. The start of a sector's egress (spec 05, 06): in its slot (R142, R179), later where the door was held or its link is slower than
compiled for (R152, R181, R463, R464), and of zero-read sectors in free transmitter time (R592).
-/
namespace Sys2Proof.Machine

/-! ## The door as it runs (R141, R181) -/

/-- The form that a door runs: the trained PCIe link, and the frame form that the variant was compiled for, since no rule gives a queue
pair's frames another (DEDUCED, log entry 157). -/
def State.runForm (s : State) : LinkForm :=
  { s.laid.form with gen := s.host.linkGen, width := s.host.linkWidth, mps := s.host.linkMps }

/-- Some link term of the door is larger as it runs than as compiled (R181). -/
def State.linkSlower (s : State) (door : Nat) : Bool :=
  decide (dataTerm s.laid.form door < dataTerm s.runForm door) || decide (cqeTerm s.laid.form door < cqeTerm s.runForm door)

/-- Ticks of a sector's transmission on the door, and of its whole egress (R139, R141). -/
def State.wireTicks (s : State) (door : Nat) : Nat := dataTerm s.runForm door
def State.egressTicks (s : State) (door : Nat) : Nat := egressBase s.level door + s.wireTicks door

/-- The transmitter of the door sends one sector at a time: one whose egress began less than a transmission ago still holds it (R142). -/
def State.doorBusy (s : State) (door : Door) : Bool :=
  s.host.cmds.any (fun e => decide (e.2.door = door) && e.2.secs.any (fun x =>
    decide (x.st = .leaving) && decide (s.ldg.tick < x.slotAt + s.wireTicks (doorNum door))))

/-- Transmitter ticks of a sector whose egress begins now, on the horizon. -/
def State.wireWindow (s : State) (door : Nat) : Nat × Nat :=
  let w := s.wireTicks door
  (s.horizonTick + s.egressTicks door - (if door = 0 then 0 else 120) - w, w)

/-- No reservation of R207 and no Mint turn holds any tick of a transmission that begins now (R463, R592). -/
def State.wireFree (s : State) (door : Nat) : Bool :=
  let l := s.laid
  let w := s.wireWindow door
  let v := if s.conservative then 16 + s.level else 4 * s.plan + s.level
  !(allPlaced l).any (fun p => (entryResv l l p).any (fun r => decide (r.door = door) && windowsMeet (r.at_, r.len) w)) &&
  !(cget [] s.ldg.turns (32 * door + v)).any (fun t => (turnWindows l door t.1).any (fun a => windowsMeet a w))

/-- A sector whose slot came earlier waits on the door. -/
def State.earlierSlot (s : State) (door : Door) (t : Nat) : Bool :=
  s.host.cmds.any (fun e => decide (e.2.door = door) && decide (e.2.op = .read) && !s.rateHolds e.2 && e.2.secs.any (fun x =>
    decide (x.st = .checked) && !x.zero && decide (x.slotAt < t)))

/-- A sector may start in this tick: in its slot; later in slot order on a link that is slower than compiled or that stalled (R152, R181);
else, once a pause or its queue pair's rate has held it, in free transmitter time (R463). -/
def State.mayLeave (s : State) (c : Cmd) (x : Sec) : Bool :=
  let door := doorNum c.door
  if s.doorBusy c.door then false
  else if s.ldg.tick = x.slotAt then true
  else if x.readyAt = 0 && (decide (c.door = .pcie) || s.linkSlower door) then !s.earlierSlot c.door x.slotAt
  else s.wireFree door

/-- The sector's egress begins: what it waited since its slot is external wait (R151, R152, R181). -/
def State.beginEgress (s : State) (h i : Nat) (c : Cmd) (x : Sec) (since : Nat) : State :=
  ((s.rateTake c).setCmd h (c.waited since s.ldg.tick)).setSec h i { x with st := .leaving, readyAt := 0, slotAt := s.ldg.tick }

/-- R142: a sector's egress slot begins, and the door transmits it. No sector leaves before its slot (R181), and one whose slot lies beyond
the limit of L3 does not leave (R253). A failed guard ends its command (R395). -/
def execEgressSlotStart (h i : Nat) (guardOk : Bool) (s : State) : Host.Outcome State Fault Refusal :=
  .next (match s.sec h i with
    | none => s
    | some (c, x) =>
      if c.op ≠ .read || x.st ≠ .checked || x.zero || (decide (x.level = 3) && decide (x.l3 + 4 * folioTicks < x.slotAt)) then s
      else
        let s := s.tickTo x.slotAt
        if s.doorPaused c.door || s.rateHolds c then s.setSec h i { x with readyAt := s.waitMark x.readyAt }
        else if !s.mayLeave c x then s
        else if !guardOk then
          (s.setCmd h { c with status := stUnrecoveredRead, secs := c.secs.set i { x with st := .withdrawn } }).readKick h
        else s.beginEgress h i c x x.slotAt)

/-- R592: a zero-read sector leaves its door in the first free transmitter time, in the order of its command. It is charged then (R171), and
the time since its seal check is external wait. -/
def execZeroReadEgress (h i : Nat) (s : State) : Host.Outcome State Fault Refusal :=
  .next (match s.sec h i with
    | none => s
    | some (c, x) =>
      let first := (List.range i).all (fun k => match c.secs[k]? with
        | some y => !(y.zero && decide (y.st = .checked))
        | none => true)
      if c.op ≠ .read || x.st ≠ .checked || !x.zero || !first then s
      else if s.doorPaused c.door || s.rateHolds c || s.doorBusy c.door || !s.wireFree (doorNum c.door) then s
      else (s.charge c.member ⟨0, 0, 1⟩).beginEgress h i c x x.readyAt)

end Sys2Proof.Machine
end

