-- ==== Sys2Proof/Machine/Identify.lean ====
section
/-!
DEFINITION. Identify and Get Log Page (R286, R289, R322, R323, R506, R512). The offsets of fields that the manual names without a place
are those of the NVM Express specifications (PRESUMED); bytes that the manual does not state are free values.
-/
namespace Sys2Proof.Machine

/-! ## Pages -/

/-- Bytes placed at an offset of a page. -/
def overlay (bs : List Byte) (o : Nat) (v : List Byte) : List Byte := bs.take o ++ v ++ bs.drop (o + v.length)

/-- Fields placed over a page: offset, bytes. -/
def overlays (bs : List Byte) (fs : List (Nat × List Byte)) : List Byte := fs.foldl (fun b f => overlay b f.1 f.2) bs

/-- A page of `n` free bytes with fields placed over it. -/
def State.page (s : State) (n : Nat) (fs : List (Nat × List Byte)) : List Byte × State :=
  let p := s.freeBytes n
  (overlays p.1 fs, p.2)

/-- A page of zeros with fields placed over it. -/
def zeroPage (n : Nat) (fs : List (Nat × List Byte)) : List Byte := overlays (zeros n) fs

/-- Eight hexadecimal digits, the first byte from [31:28] on (R553). -/
def hexDigit (n : Nat) : Byte := BitVec.ofNat 8 (if n < 10 then 48 + n else 55 + n)
def hexAscii (v : BitVec 32) : List Byte := ((List.range 8).map (fun i => hexDigit (v.toNat / 16 ^ (7 - i) % 16)))

/-! ## Controller data (R98, R289, R512) -/

/-- FW_RELEASE of the image that runs. -/
def State.release (s : State) : List Byte :=
  match s.boot.image with | some im => hexAscii im.fwRelease | none => hexAscii 0

/-- Fields of the Identify Controller data that the manual states. -/
def State.ctrlFields (s : State) (f : Nat) : List (Nat × List Byte) :=
  [(4, leBytes 20 s.calSerial.toNat), (64, s.release), (77, [6]), (78, leBytes 2 f),
   (84, leBytes 4 7500000), (88, leBytes 4 112000), (256, leBytes 2 (if f = 0 then 0x8E else 0x0A)), (259, [7]), (260, [4]),
   (262, [63]), (263, [5]), (265, [0]), (266, leBytes 2 (s.thr.tWarn + 273)), (268, leBytes 2 (s.thr.tShut + 273)),
   (512, [0x66, 0x44]), (516, leBytes 4 4096), (520, leBytes 2 0x10C), (522, leBytes 2 0), (525, [0]),
   (526, leBytes 2 63), (528, leBytes 2 63), (532, leBytes 2 0), (536, leBytes 4 5)]

/-! ## Namespace data (R289, R290) -/

/-- The three LBA formats (R290): metadata bytes and 2^12 data bytes. -/
def lbaFormats : List Byte := leBytes 2 0 ++ [12, 0] ++ leBytes 2 8 ++ [12, 0] ++ leBytes 2 16 ++ [12, 0]

def nsFields (x : Ns) : List (Nat × List Byte) :=
  [(0, leBytes 8 x.size), (8, leBytes 8 x.size), (25, [2]), (26, [BitVec.ofNat 8 (x.format + 16 * b2n x.extended)]), (27, [3]),
   (29, [BitVec.ofNat 8 (if x.format = 0 then 0 else 1)]), (34, leBytes 2 63), (36, leBytes 2 63), (74, leBytes 2 64),
   (76, leBytes 4 64), (80, [31]), (128, lbaFormats)]

/-- Fields common to every namespace. -/
def nsCommon : List (Nat × List Byte) := [(25, [2]), (27, [3]), (34, leBytes 2 63), (36, leBytes 2 63), (128, lbaFormats)]

/-- The zoned command set's namespace fields: ZOC, OZCS, MAR, MOR and the zone sizes of the three formats. -/
def State.znsFields (s : State) : List (Nat × List Byte) :=
  let lbafe : List Byte := leBytes 8 524288 ++ zeros 8
  [(0, leBytes 2 0), (2, leBytes 2 1), (4, leBytes 4 (s.mar - 1)), (8, leBytes 4 (s.mar - 1)), (2816, lbafe ++ lbafe ++ lbafe)]

/-- NSIDs that pass a test, above `n`, ascending, as a list page of 1,024 entries. -/
def State.nsList (s : State) (n : Nat) (p : Ns → Bool) : List Byte :=
  let ids := ((s.med.ns.filter (fun e => decide (n < e.1) && p e.2)).map (·.1)).take 1024
  zeroPage 4096 [(0, (ids.map (leBytes 4)).flatten)]

/-- A controller list page. -/
def ctrlList (ids : List Nat) : List Byte :=
  let l := ids.take 2047
  zeroPage 4096 [(0, leBytes 2 l.length ++ (l.map (leBytes 2)).flatten)]

/-- A namespace belongs to command set `csi`: 0 NVM, 2 zoned. -/
def ofSet (csi : Nat) (x : Ns) : Bool := (decide (csi = 0) && !x.zoned) || (decide (csi = 2) && x.zoned)

/-! ## Identify -/

/-- The data of an Identify command, or its status. -/
def State.identify (s : State) (f cns nsid cntid csi : Nat) : Except Status (List Byte × State) :=
  let named : Bool := decide (1 ≤ nsid) && decide (nsid ≤ 4096)
  let mine (x : Ns) : Bool := x.attached.contains f
  let nsPage (p : Ns → Bool) (g : Ns → List (Nat × List Byte)) (all : List (Nat × List Byte)) : Except Status (List Byte × State) :=
    if nsid = 0xFFFFFFFF then .ok (s.page 4096 all)
    else if !named then .error stInvalidNamespace
    else match s.ns nsid with
      | some x => if p x then .ok (s.page 4096 (g x)) else .ok (zeros 4096, s)
      | none => .ok (zeros 4096, s)
  match cns with
  | 0x00 => nsPage mine nsFields nsCommon
  | 0x01 => .ok (s.page 4096 (s.ctrlFields f))
  | 0x02 => .ok (s.nsList nsid mine, s)
  | 0x03 => nsPage mine (fun _ => []) []
  | 0x05 =>
    if csi = 0 then nsPage (fun x => mine x && !x.zoned) (fun _ => []) []
    else if csi = 2 then nsPage (fun x => mine x && x.zoned) (fun _ => s.znsFields) s.znsFields
    else .error stInvalidField
  | 0x06 =>
    if csi = 0 then .ok (s.page 4096 [(1, [6]), (4, leBytes 4 262144), (8, leBytes 8 16777216)])
    else if csi = 2 then .ok (s.page 4096 [(0, [6])])
    else .error stInvalidField
  | 0x07 => .ok (s.nsList nsid (fun x => mine x && ofSet csi x), s)
  | 0x10 => .ok (s.nsList nsid (fun _ => true), s)
  | 0x11 => nsPage (fun _ => true) nsFields nsCommon
  | 0x12 =>
    if !named then .error stInvalidNamespace
    else match s.ns nsid with
      | some x => .ok (ctrlList (x.attached.filter (fun c => decide (cntid ≤ c))), s)
      | none => .ok (ctrlList [], s)
  | 0x13 => .ok (ctrlList (s.functions.filter (fun c => decide (cntid ≤ c))), s)
  | 0x14 => if f = 0 then .ok (s.page 4096 [(0, leBytes 2 0)]) else .error stInvalidField
  | 0x15 => if f = 0 then .ok (s.page 4096 []) else .error stInvalidField
  | 0x1C => .ok (zeroPage 4096 [(0, leBytes 8 5)], s)
  | _ => .error stInvalidField

def State.dataReply (s : State) (a : Adm) (r : Except Status (List Byte × State)) : State :=
  match r with
  | .ok p => p.2.replyData a.via stOk 0 p.1
  | .error t => s.reply a.via t 0

/-- R284: Identify. -/
def execIdentify (a : Adm) (cns nsid cntid csi : Nat) (s : State) : Host.Outcome State Fault Refusal :=
  .next (s.adminRun a anyFunc true true (fun s => s.dataReply a (s.identify (viaFunc a.via) cns nsid cntid csi)))

/-! ## Log pages (R286) -/

/-- Log pages that a function, or NVMe-MI, may read. -/
def logPages (pf : Bool) : List Nat := [0x00, 0x01, 0x02, 0x03, 0x04, 0x05, 0xC0] ++ (if pf then [0xC1] else [])

/-- Admin opcodes of a function, and I/O opcodes (R284, R285, R317, R318). -/
def adminOpcodes (f : Nat) : List Nat :=
  [0x00, 0x01, 0x02, 0x04, 0x05, 0x06, 0x08, 0x09, 0x0A, 0x0C, 0x0D, 0x15, 0x18, 0x80, 0xC9] ++
  (if f = 0 then [0x10, 0x11, 0x1C, 0xC0, 0xC2, 0xC4, 0xC5, 0xC6, 0xC8, 0xCA, 0xCD, 0xCE] else [])
def ioOpcodes : List Nat := [0x00, 0x01, 0x02, 0x08, 0x09, 0x19, 0x79, 0x7A, 0x7D, 0x9D]

/-- Page 0x00: bit 0 of an identifier's dword. -/
def supportedPages (pf : Bool) : List Byte := zeroPage 1024 ((logPages pf).map (fun i => (4 * i, leBytes 4 1)))

/-- Page 0x05: CSUPP of each opcode; what the effects are the manual does not state. -/
def State.effectsPage (s : State) (f : Nat) : List Byte × State :=
  let at_ (base i : Nat) : Nat × List Byte := (base + 4 * i, [1, 0, 0, 0])
  (zeroPage 4096 ((adminOpcodes f).map (at_ 0) ++ ioOpcodes.map (at_ 1024)), s)

/-- Reading of temperature sensor n, 1 to 8, in kelvin (R512). -/
def State.sensorK (s : State) (n : Nat) : Nat :=
  let r (k : Nat) : Int := signed 11 (s.fld (Reg.thmSensor + 4 * k) 0 11)
  (ceilC (max (r (2 * n - 2)) (r (2 * n - 1))) + 273).toNat

/-- Page 0x02: SMART (R506, R508, R512, R514). Critical warning bit 1 is WARN, bit 2 WEAR_OUT's condition. -/
def State.smartPage (s : State) : List Byte × State :=
  let f := s.freeBytes 512
  let worn := match s.pwr.wearHist with | x :: _ => decide (s.thr.peRated ≤ x) | [] => false
  let w := ((f.1.headD 0) &&& 0xE9#8) ||| BitVec.ofNat 8 (2 * b2n (bitOf (s.reg Reg.thmStatus) 15) + 4 * b2n worn)
  (overlays f.1
    [(0, [w]), (1, leBytes 2 s.compositeK), (5, leBytes 1 (s.fld Reg.pwrWear 21 8)), (112, leBytes 16 s.pwr.cycles),
     (128, leBytes 16 s.pwr.hours), (200, ((upFrom 1 8).map (fun n => leBytes 2 (s.sensorK n))).flatten)], f.2)

/-- Page 0x03: AFI names the booted slot, FRS1 and FRS2 the releases (R553). -/
def State.slotPage (s : State) : List Byte × State :=
  let rel (x : Slot) : List (Nat × List Byte) :=
    if headerOk (s.slotImage x) then [(match x with | .a => 8 | .b => 16, hexAscii (s.slotImage x).fwRelease)] else []
  s.page 512 ([(0, leBytes 1 (s.fld Reg.aonMode 13 2))] ++ rel .a ++ rel .b)

/-- Entries in order of failure and then of ZSLBA (R322). -/
def offBefore (a b : OffEntry) : Bool := decide (a.time < b.time) || (decide (a.time = b.time) && decide (a.zslba ≤ b.zslba))
def offInsert (e : OffEntry) : List OffEntry → List OffEntry
  | [] => [e]
  | x :: r => if offBefore e x then e :: x :: r else x :: offInsert e r

def offBytes (e : OffEntry) : List Byte :=
  leBytes 8 e.zslba ++ leBytes 4 e.nsid ++ leBytes 2 e.die ++ leBytes 2 0 ++ leBytes 8 e.time ++ leBytes 8 0

/-- Page 0xC0: the Offline Zone log of a controller's namespaces. -/
def State.offlinePage (s : State) (f : Nat) : List Byte :=
  let mine := s.med.offline.filter (fun e => match s.ns e.nsid with | some x => x.attached.contains f | none => false)
  let l := mine.foldr offInsert []
  leBytes 4 l.length ++ zeros 12 ++ (l.map offBytes).flatten

/-- Page 0xC1: a die's factory calibration data (R323). -/
def diePage (d : Nat) : List Byte :=
  let n := min 16384 (Config.dieCalLength d).toNat
  leBytes 2 d ++ leBytes 2 n ++ zeros 60 ++ (List.range (256 + n)).map (Config.dieCal d)

/-- A log page's bytes, or the status of a page that is not there. Reading the Changed Namespace List clears it (PRESUMED). -/
def State.logPage (s : State) (f page lsi : Nat) : Except Status (List Byte × State) :=
  if !(logPages (decide (f = 0))).contains page then .error stInvalidLogPage
  else match page with
    | 0x00 => .ok (supportedPages (decide (f = 0)), s)
    | 0x01 => .ok (s.freeBytes 4096)
    | 0x02 => .ok s.smartPage
    | 0x03 => .ok s.slotPage
    | 0x04 =>
      let c := s.ctrl f
      .ok (zeroPage 4096 [(0, (c.changedNs.map (leBytes 4)).flatten)], s.setCtrl f { c with changedNs := [] })
    | 0x05 => .ok (s.effectsPage f)
    | 0xC0 => .ok (s.offlinePage f, s)
    | _ => if s.med.groups.flatten.contains lsi then .ok (diePage lsi, s) else .error stInvalidField

/-- R286: Get Log Page, from `offset` for `bytes` bytes. SMART is of controller scope only. -/
def execGetLogPage (a : Adm) (page nsid lsi offset bytes : Nat) (s : State) : Host.Outcome State Fault Refusal :=
  .next (s.adminRun a anyFunc true (decide (page = 0x00) || decide (page = 0x03)) (fun s =>
    if page = 0x02 && nsid ≠ 0 && nsid ≠ 0xFFFFFFFF then s.reply a.via stInvalidField 0
    else match s.logPage (viaFunc a.via) page lsi with
      | .error t => s.reply a.via t 0
      | .ok p =>
        if p.1.length < offset then s.reply a.via stInvalidField 0
        else p.2.replyData a.via stOk 0 ((p.1.drop offset).take bytes)))

end Sys2Proof.Machine
end

