-- ==== Sys2Proof/Machine/Features.lean ====
section
/-!
DEFINITION. Set Features and Get Features (R286), with power states and sleep (R495 to R497) and the Timestamp (R503).
-/
namespace Sys2Proof.Machine

/-! ## Power Management (R320, R495, R496) -/

/-- PS 0 to 3 write LEVEL alone and wait for the boundary; 4 and 5 ask for DOZE and HIBERNATE. Only the PF and NVMe-MI may. -/
def State.setPower (s : State) (a : Adm) (ps : Nat) (save : Bool) : State :=
  if viaFunc a.via ≠ 0 then s.reply a.via stInvalidField 0
  else if save then s.reply a.via stFeatureNotSaveable 0
  else if ps ≤ 3 then (s.planRequest s.reqPlan ps).awaitPlan a.via
  else if ps = 4 then s.sleepRequest .doze a.via
  else if ps = 5 then s.sleepRequest .hibernate a.via
  else s.reply a.via stInvalidField 0

/-- R495: Set Features Power Management with PS 0 to 3. -/
def execPowerStateSet (a : Adm) (ps : Nat) (save : Bool) (s : State) : Host.Outcome State Fault Refusal :=
  .next (s.adminRun a anyFunc true false (fun s => s.setPower a ps save))

/-- R497: Set Features Power Management with PS 4. -/
def execDozeRequest (a : Adm) (save : Bool) (s : State) : Host.Outcome State Fault Refusal :=
  .next (s.adminRun a anyFunc true false (fun s => s.setPower a 4 save))

/-- R497: Set Features Power Management with PS 5. -/
def execHibernateRequest (a : Adm) (save : Bool) (s : State) : Host.Outcome State Fault Refusal :=
  .next (s.adminRun a anyFunc true false (fun s => s.setPower a 5 save))

/-! ## Timestamp (R503) -/

/-- R503: Set Features Timestamp: device time moves forward to the host's milliseconds, or TIME_BACKWARD is set. -/
def execTimestamp (a : Adm) (ms : Nat) (save : Bool) (s : State) : Host.Outcome State Fault Refusal :=
  .next (s.adminRun a anyFunc true false (fun s =>
    if save then s.reply a.via stFeatureNotSaveable 0
    else
      let t := ms % 2 ^ 48 * 1000000
      let s1 : State :=
        if s.pwr.time < t then { s with pwr := { s.pwr with time := t, uncertain := false, synced := true } }
        else ({ s with pwr := { s.pwr with uncertain := false, synced := true } }).raise .pwrCause 4
      s1.reply a.via stOk 0))

/-! ## The other features (R286) -/

/-- Where a feature's value is kept: by identifier, and by selector or vector for 0x04 and 0x09. -/
def featureKey (fid : Nat) (v : BitVec 32) : Nat :=
  if fid = 0x04 then 0x04 + 256 * getField v 16 6 else if fid = 0x09 then 0x09 + 256 * getField v 0 16 else fid

/-- Queues that a function may have, less one, in both halves (R286, R295). -/
def State.queueCount (s : State) (f : Nat) (v : BitVec 32) : Nat :=
  let most := s.maxQp f - 1
  min (getField v 0 16) most + 65536 * min (getField v 16 16) most

/-- A value of a feature that the device takes: what it stores, with completion dword 0. -/
def State.featureValue (s : State) (f fid : Nat) (v : BitVec 32) : Except Status (BitVec 32 × Nat) :=
  match fid with
  | 0x01 => .ok (v &&& ~~~0x7#32, 0)
  | 0x04 =>
    if getField v 20 2 ≤ 1 && (getField v 16 4 ≤ 8 || getField v 16 4 = 15) then .ok (v, 0) else .error stInvalidField
  | 0x07 =>
    if getField v 0 16 = 65535 || getField v 16 16 = 65535 then .error stInvalidField
    else .ok (BitVec.ofNat 32 (s.queueCount f v), s.queueCount f v)
  | 0x08 => .ok (v, 0)
  | 0x09 => if getField v 0 16 < vectors f then .ok (v, 0) else .error stInvalidField
  | 0x0A => .ok (v, 0)
  | 0x0B => .ok (v, 0)
  | 0x0F => .ok (v, 0)
  | _ => .error stInvalidField

/-- R286: Set Features of a feature without a row of its own. -/
def execSetFeatures (a : Adm) (fid : Nat) (value : BitVec 32) (save : Bool) (s : State) : Host.Outcome State Fault Refusal :=
  .next (s.adminRun a anyFunc true false (fun s =>
    let f := viaFunc a.via
    if fid = 0x02 then s.setPower a (getField value 0 5) save
    else match s.featureValue f fid value with
      | .error t => s.reply a.via t 0
      | .ok (v, dw0) =>
        if save then s.reply a.via stFeatureNotSaveable 0
        else
          let c := s.ctrl f
          let c1 : Ctrl := { c with features := oput c.features (featureKey fid value) v }
          let c2 : Ctrl := if fid = 0x0F then { c1 with kato := v.toNat, kaFrom := s.ldg.tick } else c1
          (s.setCtrl f c2).reply a.via stOk dw0))

def knownFeatures : List Nat := [0x01, 0x02, 0x04, 0x07, 0x08, 0x09, 0x0A, 0x0B, 0x0E, 0x0F]

/-- Timestamp data: 48-bit milliseconds, Synch while UNCERTAIN, Origin once synced (R504, R505). -/
def State.timestampBytes (s : State) : List Byte :=
  leBytes 6 (s.pwr.time / 1000000) ++ leBytes 1 (b2n s.pwr.uncertain + 2 * b2n s.pwr.synced) ++ [0]

/-- A feature's default: a free value but for what the manual states. -/
def State.featureDflt (s : State) (f fid : Nat) : BitVec 32 :=
  if fid = 0x01 then Config.featureDefault fid &&& ~~~0x7#32
  else if fid = 0x07 then BitVec.ofNat 32 (s.queueCount f 0xFFFEFFFE#32)
  else if fid = 0x0F then 0
  else Config.featureDefault fid

/-- R286: Get Features with SELECT `sel`: current, default, saved (as current: no feature is saveable), or capabilities. -/
def execGetFeatures (a : Adm) (fid sel : Nat) (value : BitVec 32) (s : State) : Host.Outcome State Fault Refusal :=
  .next (s.adminRun a anyFunc true false (fun s =>
    let f := viaFunc a.via
    if !knownFeatures.contains fid || 3 < sel then s.reply a.via stInvalidField 0
    else if sel = 3 then s.reply a.via stOk 4
    else if fid = 0x02 then s.reply a.via stOk (if s.mode = .doze then 4 else s.level)
    else if fid = 0x0E then s.replyData a.via stOk 0 s.timestampBytes
    else if sel = 1 then s.reply a.via stOk (s.featureDflt f fid).toNat
    else s.reply a.via stOk ((ofind (s.ctrl f).features (featureKey fid value)).getD (s.featureDflt f fid)).toNat))

end Sys2Proof.Machine
end

