-- ==== Sys2Proof/Machine/NsAdmin.lean ====
section
/-!
DEFINITION. Namespace commands (R284, R293, R294, R324, R443) and mediation (R335 to R337). A command comes as its submission queue
entry and its data; the places of its fields are those of the NVM Express specifications (PRESUMED).
-/
namespace Sys2Proof.Machine

/-- Namespace Identifier Unavailable, Controller List Invalid and Namespace Insufficient Capacity are of the base specification. -/
def stNsidUnavailable : Status := ⟨1, 0x16, Config.dnr 1 0x16⟩
def stCtrlListInvalid : Status := ⟨1, 0x1C, Config.dnr 1 0x1C⟩

/-! ## Creation (R294, R239, R337) -/

/-- What a creation asks for: zoned or conventional, sectors, LBA format, extended metadata, protection type. -/
structure NsAsk where
  csi : Nat
  size : Nat
  format : Nat
  extended : Bool
  pi : Nat
deriving DecidableEq, Repr

def dataByte (data : List Byte) (i : Nat) : Nat := (data.getD i 0).toNat

def nsAsk (q : Sqe) (data : List Byte) : NsAsk :=
  ⟨getField q.cdw11 24 8, ofLeBytes (data.take 8), dataByte data 26 % 16, decide (dataByte data 26 / 16 % 2 = 1), dataByte data 29 % 8⟩

/-- A device zone belongs to a namespace. -/
def State.zoneTaken (s : State) (z : Nat) : Bool := s.med.ns.any (fun e => e.2.zones.contains z)

/-- The lowest `n` free zones below `hi`, from `z` up. -/
def State.freeZones (s : State) (z : Nat) : Nat → Nat → List Nat
  | 0, _ => []
  | _, 0 => []
  | hi + 1, n + 1 => if s.zoneTaken z then s.freeZones (z + 1) hi (n + 1) else z :: s.freeZones (z + 1) hi n

/-- A namespace would take an account beyond a quota, where quotas apply: mediated commands, and not to account 0. -/
def State.overQuota (s : State) (account : Nat) (zoned : Bool) (zones gib : Nat) : Bool :=
  match (s.acct account).binding with
  | none => false
  | some b =>
    decide (account ≠ 0) &&
    (if zoned then decide (b.lim.zoneQuota < s.zonesUsed account + zones) else decide (b.lim.convQuota < s.convUsed account + gib))

/-- The state with a new namespace, or the status of a creation that is refused. `quota` is the account whose quotas apply. -/
def State.nsCreate (s : State) (x : NsAsk) (quota : Option Nat) : Except Status (Nat × State) :=
  let zoned := decide (x.csi = 2)
  let n := x.size / zoneSectors
  let gib := x.size / 262144
  if x.csi ≠ 0 && x.csi ≠ 2 then .error stInvalidField
  else if 2 < x.format then .error stInvalidFormat
  else if 1 < x.pi || (decide (x.format = 0) && decide (x.pi ≠ 0)) then .error stInvalidField
  else if x.size = 0 || x.size % (if zoned then zoneSectors else 262144) ≠ 0 then .error stInvalidField
  else if (match quota with | some a => s.overQuota a zoned n gib | none => false) then .error stCapacityExceeded
  else match firstFree s.med.ns 1 4096 with
    | none => .error stNsidUnavailable
    | some id =>
      let zs := if zoned then s.freeZones 0 s.exportZones n else []
      let y : Ns := ⟨zoned, if zoned then n * zoneSectors else x.size, x.format, x.extended, zs, none, []⟩
      let s1 : State := { s with med := { s.med with ns := oput s.med.ns id y } }
      if zoned then (if zs.length < n then .error stCapacityExceeded else .ok (id, s1))
      else if 2048 < s1.convGib || s.med.ns.any (fun e => e.2.zones.any (fun z => decide (s1.exportZones ≤ z))) then
        .error stCapacityExceeded
      else .ok (id, s1.syncExport)

/-! ## Deletion, format and attachment -/

/-- The Changed Namespace List and its notice (PRESUMED: the base specification's event). -/
def State.nsChanged (s : State) (f nsid : Nat) : State :=
  let c := s.ctrl f
  let s1 := s.setCtrl f { c with changedNs := c.changedNs.filter (fun n => decide (n ≠ nsid)) ++ [nsid] }
  if bitOf ((ofind c.features 0x0B).getD 0) 8 then s1.asyncEvent f 0x00040002#32 else s1

/-- A deletion or a format waits for the commands of the namespace (R293, R324). -/
def State.nsDefer (s : State) (f cid nsid : Nat) (fmt : Option Nat) : State :=
  ({ s with host := { s.host with nsWait := s.host.nsWait ++ [({ nsid := nsid, func := f, cid := cid, fmt := fmt, since := s.host.nextFetch } : NsWait)] } }).kick

/-- Namespace Management by controller `f`: SEL 0 creates, 1 deletes. -/
def State.nsManage (s : State) (f cid : Nat) (quota : Option Nat) (q : Sqe) (data : List Byte) : State :=
  let v : Via := .host f cid
  match getField q.cdw10 0 4 with
  | 0 =>
    match s.nsCreate (nsAsk q data) quota with
    | .ok (id, s1) => s1.reply v stOk id
    | .error t => s.reply v t 0
  | 1 =>
    match s.ns q.nsid with
    | none => s.reply v stInvalidNamespace 0
    | some x =>
      if s.host.nsWait.any (fun w => decide (w.nsid = q.nsid) && w.fmt.isNone) then s.reply v stInvalidNamespace 0
      else (x.attached.foldl (fun s c => s.nsChanged c q.nsid) s).nsDefer f cid q.nsid none
  | _ => s.reply v stInvalidField 0

/-- The controllers of an attachment's list. -/
def ctrlIds (data : List Byte) : List Nat :=
  (List.range (min 2047 (ofLeBytes (data.take 2)))).map (fun i => ofLeBytes ((data.drop (2 + 2 * i)).take 2))

/-- Namespace Attachment: SEL 0 attaches, 1 detaches; the first attachment fixes the owner (R443). -/
def State.nsAttach (s : State) (f cid : Nat) (quota : Bool) (q : Sqe) (data : List Byte) : State :=
  let v : Via := .host f cid
  let ids := ctrlIds data
  let sel := getField q.cdw10 0 4
  match s.ns q.nsid with
  | none => s.reply v stInvalidNamespace 0
  | some x =>
    let put (y : Ns) : State :=
      let s1 : State := { s with med := { s.med with ns := oput s.med.ns q.nsid y } }
      (ids.foldl (fun s c => s.nsChanged c q.nsid) s1).reply v stOk 0
    if 1 < sel then s.reply v stInvalidField 0
    else if ids.isEmpty || ids.any (fun c => !s.functionExists c) || !distinct ids then s.reply v stCtrlListInvalid 0
    else if sel = 0 then
      if ids.any (fun c => x.attached.contains c) then s.reply v stNsAttached 0
      else if quota && ids.any (fun c => s.overQuota c x.zoned x.zones.length (x.size / 262144)) then s.reply v stCapacityExceeded 0
      else put { x with attached := x.attached ++ ids, owner := match x.owner with | some o => some o | none => ids.head? }
    else if ids.any (fun c => !x.attached.contains c) then s.reply v stNsNotAttached 0
    else put { x with attached := x.attached.filter (fun c => !ids.contains c) }

/-- Format NVM of one namespace (R293). -/
def State.nsFormat (s : State) (f cid : Nat) (q : Sqe) : State :=
  let v : Via := .host f cid
  let format := getField q.cdw10 0 4 + 16 * getField q.cdw10 12 2
  let pi := getField q.cdw10 5 3
  match s.ns q.nsid with
  | none => s.reply v (if q.nsid = 0xFFFFFFFF then stInvalidField else stInvalidNamespace) 0
  | some x =>
    if f ≠ 0 && !x.attached.contains f then s.reply v stInvalidNamespace 0
    else if 2 < format then s.reply v stInvalidFormat 0
    else if getField q.cdw10 9 3 ≠ 0 || 1 < pi || (decide (format = 0) && decide (pi ≠ 0)) then s.reply v stInvalidField 0
    else s.nsDefer f cid q.nsid (some (format + 4 * getField q.cdw10 4 1))

/-! ## Mediation (R335 to R337) -/

/-- Opcodes that R284 marks "mediated" on a VF. -/
def mediatedOp (q : Sqe) : Bool := decide (q.opcode = 0x0D#8) || decide (q.opcode = 0x15#8) || decide (q.opcode = 0x80#8)

/-- A VF's mediated command takes the lowest free slot of the ring, whose generation has advanced; a fifth ends with Command
Interrupted (R335, R336). -/
def State.mediate (s : State) (f cid : Nat) (q : Sqe) (data : List Byte) : State :=
  if 4 ≤ s.medCount f then s.reply (.host f cid) stCommandInterrupted 0
  else match firstFree s.host.mediation 0 8192 with
    | none => s.reply (.host f cid) stCommandInterrupted 0
    | some n =>
      let g := (ofind s.host.medGen n).getD 0
      let r : MedReq := ⟨n + 8192 * g, f, { q with cid := cid }, data, s.pwr.time, false, s.host.medOrder⟩
      ({ s with host := { s.host with
          mediation := oput s.host.mediation n r, medGen := oput s.host.medGen n ((g + 1) % 8),
          medOrder := s.host.medOrder + 1 } }).raise .actCause 0

/-- An approved command runs for the controller that sent it, with its account's quotas (R337). -/
def State.runMediated (s : State) (r : MedReq) : State :=
  let q := r.sqe
  if !q.reservedZero then s.reply (.host r.account q.cid) stInvalidField 0
  else if q.opcode = 0x0D#8 then s.nsManage r.account q.cid (some r.account) q r.data
  else if q.opcode = 0x15#8 then s.nsAttach r.account q.cid true q r.data
  else s.nsFormat r.account q.cid q

/-! ## The rows -/

/-- The PF runs the command; a VF's becomes a mediation request (R284, R335). -/
def State.nsRow (s : State) (a : Adm) (q : Sqe) (data : List Byte) (g : State → Nat → State) : State :=
  s.adminRun a anyFunc false false (fun s =>
    match a.via with
    | .host f cid => if f = 0 then g s cid else s.mediate f cid q data
    | .mi _ => s)

/-- R294: Namespace Management. -/
def execNamespaceManagement (a : Adm) (q : Sqe) (data : List Byte) (s : State) : Host.Outcome State Fault Refusal :=
  let q : Sqe := { q with opcode := 0x0D#8, reservedZero := a.reservedZero }
  .next (s.nsRow a q data (fun s cid => s.nsManage 0 cid none q data))

/-- R337, R443: Namespace Attachment. -/
def execNamespaceAttachment (a : Adm) (q : Sqe) (data : List Byte) (s : State) : Host.Outcome State Fault Refusal :=
  let q : Sqe := { q with opcode := 0x15#8, reservedZero := a.reservedZero }
  .next (s.nsRow a q data (fun s cid => s.nsAttach 0 cid false q data))

/-- R293: Format NVM. -/
def execFormatNvm (a : Adm) (q : Sqe) (s : State) : Host.Outcome State Fault Refusal :=
  let q : Sqe := { q with opcode := 0x80#8, reservedZero := a.reservedZero }
  .next (s.nsRow a q [] (fun s cid => s.nsFormat 0 cid q))

/-- R335: a VF's admin command that R284 marks "mediated" is fetched; any other opcode here is not supported on its function. -/
def execMediatedCommand (func cid : Nat) (q : Sqe) (data : List Byte) (s : State) : Host.Outcome State Fault Refusal :=
  .next (if func = 0 || !s.adminServed func then s
    else
      let s1 := s.keepAlive func
      if mediatedOp q then s1.mediate func cid q (if q.opcode = 0x80#8 then [] else data)
      else s1.reply (.host func cid) stInvalidOpcode 0)

end Sys2Proof.Machine
end

