-- ==== Sys2Proof/Machine/FwAdmin.lean ====
section
/-!
DEFINITION. Firmware Image Download and Firmware Commit (R123, R316, R553, R554).
-/
namespace Sys2Proof.Machine

/-- COMMIT_SEQ of a slot's valid marker, 0 if it has none. -/
def State.slotSeq (s : State) (x : Slot) : Nat := (s.markerSeq x).getD 0

/-- The slot with the lower COMMIT_SEQ, B where they are equal (R554). -/
def State.lowerSlot (s : State) : Slot := if s.slotSeq .a < s.slotSeq .b then .a else .b

/-- The slot that a Commit names: 0 the one not booted, in MAINTENANCE the one with the lower COMMIT_SEQ; none where it names the
booted slot or one above 2 (R316, R554). -/
def State.commitSlot (s : State) (n : Nat) : Option Slot :=
  let named : Option Slot := match n with | 1 => some .a | 2 => some .b | _ => none
  if s.mode = .maintenance then (if n = 0 then some s.lowerSlot else named)
  else if n = 0 then some s.targetSlot
  else match named with | some x => if s.bootSlot = some x then none else some x | none => none

/-- COMMIT_SEQ for a slot: one above the marker that stays (R123 step 5). -/
def State.nextSeqFor (s : State) (x : Slot) : Nat := s.slotSeq (otherSlot x) + 1

/-- Sectors of an image of `total` bytes whose data has arrived, `n` bytes of it. -/
def readySectors (total n : Nat) : Nat := if total ≤ n then sectorsOf total else n / 65536

def State.beginUpdate (s : State) (u : Update) : State := ({ s with nor := { s.nor with update := some u } }).updKick

/-- An image may be written: its checks from `lo` to `hi` pass, and a COMMIT_SEQ is left (R123). -/
def State.imageTaken (s : State) (im : Image) (lo hi : Nat) : Bool := decide (s.imageReason im lo hi = 0) && decide (s.highSeq ≠ 0xFFFFFFFE)

/-! ## Commit (R316, R553, R554) -/

/-- An update of slot `x` with the staged image (R123), whose sectors below `ready` have arrived. -/
def State.stagedUpdate (s : State) (x : Slot) (ready : Nat) (v : Option Via) (maint : Bool) (expected : Nat) : Update :=
  ⟨x, s.stagedImage.imageBytes, s.stageDigest, s.nextSeqFor x, 0, ready, .eraseControl, v, false, maint, expected⟩

/-- Commit Action 001 on the host path: the staged image ends at the highest offset plus length (R553). -/
def State.commitHost (s : State) (v : Via) (x : Slot) : State :=
  let im := s.stagedImage
  if im.imageBytes ≤ s.nor.stagedEnd && s.imageTaken im 2 8 then
    s.beginUpdate (s.stagedUpdate x (sectorsOf im.imageBytes) (some v) false 0)
  else s.reply v stInvalidFirmwareImage 0

/-- Commit Action 001 in MAINTENANCE: steps 4 and 5 of the update whose downloads have all arrived, after checks 5 to 8 of the image as read
back. -/
def State.commitMaint (s : State) (v : Via) (n : Nat) : State :=
  match s.nor.update with
  | none => s.reply v stInvalidFirmwareImage 0
  | some u =>
    if u.phase ≠ .awaitCommit then s.reply v stSequenceError 0
    else if n ≠ 0 && s.commitSlot n ≠ some u.slot then s.reply v stInvalidFirmwareSlot 0
    else if s.imageReason (s.slotImage u.slot) 5 8 ≠ 0 then
      ({ s with nor := { s.nor with update := none } }).reply v stInvalidFirmwareImage 0
    else s.beginUpdate { u with phase := .progWritten, waiter := some v }

def State.commitUpdate (s : State) (v : Via) (n : Nat) : State :=
  match s.commitSlot n with
  | none => s.reply v stInvalidFirmwareSlot 0
  | some x =>
    if s.mode = .maintenance then s.commitMaint v n
    else if s.nor.update.isSome then s.reply v stSequenceError 0
    else s.commitHost v x

/-- Commit Action 010: a marker for a slot that passes R120 as it stands. -/
def State.commitMark (s : State) (v : Via) (n : Nat) : State :=
  match s.commitSlot n with
  | none => s.reply v stInvalidFirmwareSlot 0
  | some x =>
    if s.nor.update.isSome then s.reply v stSequenceError 0
    else
      let im := s.slotImage x
      if s.imageTaken im 2 8 then
        s.beginUpdate ⟨x, im.imageBytes, im.headDigest.setWidth 352, s.nextSeqFor x, sectorsOf im.imageBytes, sectorsOf im.imageBytes,
          .eraseControl, some v, true, false, 0⟩
      else s.reply v stInvalidFirmwareImage 0

/-- R123, R316: Firmware Commit with action 001; an action other than 001 and 010 completes with Invalid Field in Command. -/
def execFirmwareCommitUpdate (a : Adm) (action slot : Nat) (s : State) : Host.Outcome State Fault Refusal :=
  .next (s.adminRun a pfOnly true true (fun s =>
    if action = 1 then s.commitUpdate a.via slot
    else if action = 2 then s.commitMark a.via slot
    else s.reply a.via stInvalidField 0))

/-- R316: Firmware Commit with action 010. -/
def execFirmwareCommitMark (a : Adm) (slot : Nat) (s : State) : Host.Outcome State Fault Refusal :=
  .next (s.adminRun a pfOnly true true (fun s => s.commitMark a.via slot))

/-! ## Download (R553, R554) -/

/-- A piece takes its place in the staged image (R553). -/
def State.stage (s : State) (offset : Nat) (data : List Byte) : State :=
  { s with nor := { s.nor with staged := memWriteAll memDefault s.nor.staged offset data,
                               stagedEnd := max s.nor.stagedEnd (offset + data.length) } }

/-- A new image begins in MAINTENANCE: what was staged before is gone; checks 2 to 4, then R123 step 2 on the target slot. -/
def State.begin0 (s : State) (v : Via) (data : List Byte) : State :=
  let s1 := ({ s with nor := { s.nor with staged := [], stagedEnd := 0 } }).stage 0 data
  if !s1.imageTaken s1.stagedImage 2 4 then s.reply v stInvalidFirmwareImage 0
  else
    (s1.beginUpdate (s1.stagedUpdate s.lowerSlot (readySectors s1.stagedImage.imageBytes data.length) none true data.length)).reply v stOk 0

/-- A piece in MAINTENANCE: offset 0 begins an update, and later pieces come in order. -/
def State.downloadMaint (s : State) (v : Via) (offset : Nat) (data : List Byte) : State :=
  let busy (u : Update) : Bool := decide (u.phase ≠ .awaitData) && decide (u.phase ≠ .awaitCommit)
  match s.nor.update with
  | some u =>
    if offset = 0 && !busy u then s.begin0 v data
    else if offset ≠ u.expected || u.phase = .awaitCommit then s.reply v stInvalidField u.expected
    else
      let n := u.expected + data.length
      let u1 : Update := { u with expected := n, ready := readySectors u.bytes n }
      let u2 : Update := if u1.phase = .awaitData then { u1 with phase := updSectorPhase u1 } else u1
      ((s.stage offset data).beginUpdate u2).reply v stOk 0
  | none => if offset = 0 then s.begin0 v data else s.reply v stInvalidField 0

/-- R553: Firmware Image Download of `length` bytes, of which the host brings `data`, at `offset`. -/
def execFirmwareImageDownload (a : Adm) (offset length : Nat) (data : List Byte) (s : State) : Host.Outcome State Fault Refusal :=
  .next (s.adminRun a pfOnly true true (fun s =>
    let piece := padTo length data
    if offset % 4096 ≠ 0 || length % 4096 ≠ 0 || length = 0 || stagingBytes < offset + length then s.reply a.via stInvalidField 0
    else if s.mode = .maintenance then s.downloadMaint a.via offset piece
    else if s.nor.update.isSome then s.reply a.via stSequenceError 0
    else (s.stage offset piece).reply a.via stOk 0))

end Sys2Proof.Machine
end

