-- ==== Sys2Proof/Machine/JtagRows.lean ====
section
/-!
DEFINITION. JTAG (R44, R46): the TAP controller of IEEE 1149.1 (PRESUMED, log entry 60; the manual names its states), the drive of TDO,
and boundary scan behind it, which is all that the TAP gives access to: an instruction register, the one-bit bypass register and
the boundary-scan register, whose lengths, instructions and cells the manual does not state.
-/
namespace Sys2Proof.Machine

/-- The TAP's next state on a rising TCK edge. -/
def tapNext (t : Tap) (tms : Bool) : Tap :=
  match t, tms with
  | .testLogicReset, true => .testLogicReset | .testLogicReset, false => .runTestIdle
  | .runTestIdle, true => .selectDr | .runTestIdle, false => .runTestIdle
  | .selectDr, true => .selectIr | .selectDr, false => .captureDr
  | .captureDr, true => .exit1Dr | .captureDr, false => .shiftDr
  | .shiftDr, true => .exit1Dr | .shiftDr, false => .shiftDr
  | .exit1Dr, true => .updateDr | .exit1Dr, false => .pauseDr
  | .pauseDr, true => .exit2Dr | .pauseDr, false => .pauseDr
  | .exit2Dr, true => .updateDr | .exit2Dr, false => .shiftDr
  | .updateDr, true => .selectDr | .updateDr, false => .runTestIdle
  | .selectIr, true => .testLogicReset | .selectIr, false => .captureIr
  | .captureIr, true => .exit1Ir | .captureIr, false => .shiftIr
  | .shiftIr, true => .exit1Ir | .shiftIr, false => .shiftIr
  | .exit1Ir, true => .updateIr | .exit1Ir, false => .pauseIr
  | .pauseIr, true => .exit2Ir | .pauseIr, false => .pauseIr
  | .exit2Ir, true => .updateIr | .exit2Ir, false => .shiftIr
  | .updateIr, true => .selectDr | .updateIr, false => .runTestIdle

/-- The states in which TDO is driven (R44). -/
def tapShifts : Tap → Bool
  | .shiftDr => true | .shiftIr => true | _ => false

/-- The boundary-scan register is selected; every other instruction, and all ones, selects the bypass register. -/
def Jtag.boundary (j : Jtag) : Bool := match j.ir with | some w => !w.all (· = true) && Config.selectsBoundary w | none => false

/-- What a rising edge of TCK does in the state it finds: a capture loads the selected register's shift path, a shift moves it by one bit
with TDI behind. `free` is the free-value counter. -/
def Jtag.clocked (j : Jtag) (tdi : Bool) (free : Nat) : Jtag :=
  match j.tap with
  | .captureIr => { j with path := true :: List.replicate (Config.irLength - 1) false }
  | .captureDr => { j with path := if j.boundary then (List.range Config.bsrLength).map (Config.bsrCell free) else [false] }
  | .shiftIr => { j with path := j.path.drop 1 ++ [tdi] }
  | .shiftDr => { j with path := j.path.drop 1 ++ [tdi] }
  | .testLogicReset => j | .runTestIdle => j | .selectDr => j | .exit1Dr => j | .pauseDr => j | .exit2Dr => j | .updateDr => j
  | .selectIr => j | .exit1Ir => j | .pauseIr => j | .exit2Ir => j | .updateIr => j

/-- What a falling edge does in the state it finds: an update takes the shift path, and a reset returns to BYPASS. -/
def Jtag.updated (j : Jtag) : Jtag :=
  match j.tap with
  | .updateIr => { j with ir := some j.path }
  | .updateDr => if j.boundary then { j with bsr := j.path } else j
  | .testLogicReset => { j with ir := none }
  | .runTestIdle => j | .selectDr => j | .captureDr => j | .shiftDr => j | .exit1Dr => j | .pauseDr => j | .exit2Dr => j
  | .selectIr => j | .captureIr => j | .shiftIr => j | .exit1Ir => j | .pauseIr => j | .exit2Ir => j

/-- R44: an edge of TCK, rising or falling, with TMS and TDI. The state moves on a rising edge; TDO begins to be driven on a falling
edge in a shift state, with the shift path's first bit, and stops when the state is left. -/
def execTckEdge (rising : Bool) (pins : TapPins) (s : State) : Host.Outcome State Fault Refusal :=
  let j := s.jtag
  .next (if !s.islandOn .aon || j.tck = rising then s
    else if rising then
      let t := tapNext j.tap pins.tms
      { s with jtag := { j.clocked pins.tdi s.freeCount with tap := t, tck := true, tdoDriven := j.tdoDriven && tapShifts t },
               freeCount := s.freeCount + b2n (decide (j.tap = .captureDr)) }
    else { s with jtag := { j.updated with tck := false, tdoDriven := tapShifts j.tap, tdo := j.path.headD false } })

/-- R44: TRST_N low resets the TAP, and with it the instruction. -/
def execTrstNAssert (s : State) : Host.Outcome State Fault Refusal :=
  .next { s with jtag := { s.jtag with tap := .testLogicReset, tdoDriven := false, ir := none } }

end Sys2Proof.Machine
end

