-- ==== Sys2Proof/Machine/Vendor.lean ====
section
/-!
DEFINITION. Vendor admin commands (R318 to R321): plans (R182, R319, R320), accounts (R330, R332, R343, R345), mediation (R336, R337),
keys (R448), restarts (R540) and the Reserve status (R402).
-/
namespace Sys2Proof.Machine

/-! ## Plans (R182, R319, R320) -/

/-- R320: Plan Select writes LDG_PLAN_REQ and completes at its boundary. -/
def execPlanSelect (a : Adm) (plan level : Nat) (s : State) : Host.Outcome State Fault Refusal :=
  .next (s.adminRun a pfOnly false false (fun s => (s.planRequest (plan % 4) (level % 4)).awaitPlan a.via))

/-- R182: a write to LDG_PLAN_REQ. -/
def execPlanReqWrite (who : Requester) (value : BitVec 32) (s : State) : Host.Outcome State Fault Refusal :=
  .next (if s.mayWrite who Reg.ldgPlanReq then s.planRequest (getField value 0 2) (getField value 2 2) else s)

/-- The 256 bytes of Plan Status (R319). -/
def State.planStatus (s : State) : List Byte :=
  let w (o : Nat) : List Byte := leBytes 4 (s.viewReg o).toNat
  ((List.range 16).map (fun i => w (Reg.ldgVarStatus + 4 * i))).flatten ++
  ((List.range 16).map (fun i => w (Reg.ldgVarWhere + 4 * i))).flatten ++
  w Reg.ldgPlanCur ++ w Reg.ldgPlanReq ++ w Reg.ldgPlanCause ++ zeros 116

/-- R319: Plan Status. -/
def execPlanStatus (a : Adm) (s : State) : Host.Outcome State Fault Refusal :=
  .next (s.adminRun a pfOnly true false (fun s => s.replyData a.via stOk (s.viewReg Reg.ldgPlanCur).toNat s.planStatus))

/-! ## Accounts (R330, R332, R343, R345) -/

/-- R343: Account Quiesce with RESUME 0: it completes when the account is quiesced. -/
def execAccountQuiesce (a : Adm) (account : Nat) (s : State) : Host.Outcome State Fault Refusal :=
  .next (s.adminRun a pfOnly false false (fun s =>
    let x := s.acct account
    if x.binding.isNone then s.reply a.via stSequenceError 0
    else if x.quiesced && x.quiesce.isNone then s.reply a.via stOk 0
    else match a.via with
      | .mi _ => s
      | .host _ cid =>
        let s1 := if x.quiesce.isSome then s else s.startQuiesce account false
        let y := s1.acct account
        match y.quiesce with
        | some q => (s1.setAcct account { y with quiesce := some { q with waiters := q.waiters ++ [cid] } }).kick
        | none => s1.reply a.via stOk 0))

/-- A quiesced member of an account's group becomes active again; an enabled slice shows it (R340, R345). -/
def State.resumeMember (s : State) (m : Nat) : State :=
  let x := s.acct m
  let shown := m < 2048 || bitOf (s.reg (Reg.actSliceCtl + 4 * (m - 2048))) 20
  if x.quiesced && x.quiesce.isNone && shown then
    let s1 := s.setAcct m { x with quiesced := false, resumeOnEnable := false }
    if 2048 ≤ m then s1.setFld (Reg.actSliceCtl + 4 * (m - 2048)) 25 2 1 else s1.readyNow m
  else s

/-- R345: Account Quiesce with RESUME 1. -/
def execAccountResume (a : Adm) (account : Nat) (s : State) : Host.Outcome State Fault Refusal :=
  .next (s.adminRun a pfOnly false false (fun s =>
    let x := s.acct account
    if x.quiesced && x.quiesce.isNone then
      (((s.quiesceGroup account).foldl (fun s m => s.resumeMember m) s).kick).reply a.via stOk 0
    else s.reply a.via stSequenceError 0))

/-- R332: Account Bind: the checks in order, then a binding, a change or an unbind. -/
def execAccountBind (a : Adm) (account : Nat) (e : AccountEntry) (s : State) : Host.Outcome State Fault Refusal :=
  .next (s.adminRun a pfOnly false false (fun s =>
    let c := s.bindCheck account e
    let s1 := s.bindResult account c
    if c ≠ 0 then s1.reply a.via stBindingRefused 0
    else ((if e.bound then s1.bindNow account e else s1.unbind account).kick).reply a.via stOk 0))

/-- The 64 bytes of an account entry (R328, R330). -/
def State.accountBytes (s : State) (m : Nat) : List Byte :=
  let x := s.acct m
  let st := leBytes 1 (acctState x)
  match x.binding with
  | none => [0, 0, 0] ++ st ++ zeros 60
  | some b =>
    let l := b.lim
    leBytes 1 (1 + 2 * b2n b.logEn + 4 * b2n b.netEn + 8 * b2n b.mintEn) ++ leBytes 1 b.cls ++ leBytes 1 b.seat ++ st ++
    leBytes 2 l.maxQp ++ leBytes 2 l.maxInflight ++ leBytes 2 l.keyBase ++ leBytes 2 l.keyCount ++ leBytes 4 l.zoneQuota ++
    leBytes 2 l.convQuota ++ leBytes 2 l.maxActive ++
    (l.credit.map (fun c => leBytes 3 c.rd ++ leBytes 3 c.wr ++ leBytes 3 c.byte)).flatten ++ zeros 8

/-- R330: Account Query. -/
def execAccountQuery (a : Adm) (account : Nat) (s : State) : Host.Outcome State Fault Refusal :=
  .next (s.adminRun a pfOnly true false (fun s => s.replyData a.via stOk 0 (s.accountBytes account)))

/-! ## Mediation (R336, R337) -/

/-- R337: Mediation Reply; a TAG that names no pending request completes with Invalid Field in Command. -/
def execMediationReply (a : Adm) (tag : Nat) (approve : Bool) (s : State) : Host.Outcome State Fault Refusal :=
  .next (s.adminRun a pfOnly false false (fun s =>
    match ofind s.host.mediation (tag % 8192) with
    | none => s.reply a.via stInvalidField 0
    | some r =>
      if r.tag ≠ tag then s.reply a.via stInvalidField 0
      else
        let s1 : State := { s with host := { s.host with mediation := odel s.host.mediation (tag % 8192) } }
        let s2 := if approve then s1.runMediated r else s1.reply (.host r.account r.sqe.cid) stOperationDenied 0
        s2.reply a.via stOk 0))

/-- The 64 bytes of a submission queue entry (PRESUMED: the base specification's layout). -/
def sqeBytes (q : Sqe) : List Byte :=
  leBytes 1 q.opcode.toNat ++ [0] ++ leBytes 2 q.cid ++ leBytes 4 q.nsid ++ leBytes 4 0 ++ leBytes 4 q.cdw3.toNat ++ zeros 8 ++
  leBytes 8 q.prp1.toNat ++ leBytes 8 q.prp2.toNat ++
  ([q.cdw10, q.cdw11, q.cdw12, q.cdw13, q.cdw14, q.cdw15].map (fun w => leBytes 4 w.toNat)).flatten

/-- The 4,224 bytes of a mediation request (R336). -/
def medBytes (r : MedReq) : List Byte :=
  leBytes 2 r.tag ++ leBytes 2 r.account ++ leBytes 4 (if r.data.isEmpty then 0 else 4096) ++ leBytes 8 r.tick ++ zeros 48 ++
  sqeBytes r.sqe ++ padTo 4096 r.data

/-- The oldest request that has not been received. -/
def State.oldestRequest (s : State) : Option (Nat × MedReq) :=
  s.host.mediation.foldl (fun best e =>
    if e.2.received then best
    else match best with
      | some b => if e.2.order < b.2.order then some e else best
      | none => some e) none

/-- R336: Mediation Receive: dword 0 is the TAG, or 0xFFFFFFFF where none waits. -/
def execMediationReceive (a : Adm) (s : State) : Host.Outcome State Fault Refusal :=
  .next (s.adminRun a pfOnly false false (fun s =>
    match s.oldestRequest with
    | none => s.reply a.via stOk 0xFFFFFFFF
    | some (n, r) =>
      let s1 : State := { s with host := { s.host with mediation := oput s.host.mediation n { r with received := true } } }
      s1.replyData a.via stOk r.tag (medBytes r)))

/-! ## Keys (R448) -/

/-- The slot is one that the function may load. -/
def State.mayLoad (s : State) (f slot : Nat) : Bool :=
  match s.slotMember slot with | some m => decide (f = 0) || decide (m = f) | none => false

/-- A slot's new contents by Key Load, or the status of the first failing check. -/
def State.keyLoad (s : State) (f slot : Nat) (k : KeyLoadData) : Except Status KeySlot :=
  match keyTypeOf k.typeCode with
  | none => .error stInvalidField
  | some t =>
    let pos := match s.slotMember slot with | some m => typeAt t (slot - s.keyBase m) | none => true
    if !k.reservedZero || k.keyBytes ≠ keyBytesOf t || !pos then .error stInvalidField
    else if !s.mayLoad f slot then .error stKeySlot
    else match s.loadCheck slot t k.wrapped with
      | .ok x => .ok x
      | .error e => .error e.1

/-- R448: Key Load. -/
def execKeyLoad (a : Adm) (slot : Nat) (k : KeyLoadData) (s : State) : Host.Outcome State Fault Refusal :=
  .next (s.adminRun a anyFunc false false (fun s =>
    match s.keyLoad (viaFunc a.via) slot k with
    | .ok x => (s.setSlot slot x).reply a.via stOk 0
    | .error t => (if t = stUnwrapFailed then s.raise .cryCause 0 else s).reply a.via t 0))

/-! ## Restart (R540) -/

/-- An authorised request runs, with success at its acceptance; one that a collision discards ends with Command Sequence Error. -/
def State.restartNow (s : State) (v : Via) (why : DrainFor) (c : ModeCause) : State :=
  if s.mode = .maintenance then (s.reply v stOk 0).toStrap false
  else
    let from_ : Nat × Nat := (0xCD, pathCode (viaPath v))
    let s1 := s.restartRequest why c from_
    if s1.mode = .drain && decide (s1.pwr.drainReq = from_) && decide (s1.pwr.drainFor = some why) then s1.reply v stOk 0
    else s1.reply v stSequenceError 0

/-- R540: Restart with TARGET 0, ACTION 1. -/
def execRestart (a : Adm) (auth : List Byte) (s : State) : Host.Outcome State Fault Refusal :=
  .next (s.adminRun a pfOnly true true (fun s =>
    let r := s.authorise (viaPath a.via) 1 (readAuth auth)
    if r.1 ≠ 0 then r.2.authReply a.via r.1 else r.2.restartNow a.via .restart .restart))

/-- R540: Restart with TARGET 1, ACTION 2. -/
def execMaintenanceRequest (a : Adm) (auth : List Byte) (s : State) : Host.Outcome State Fault Refusal :=
  .next (s.adminRun a pfOnly true true (fun s =>
    let r := s.authorise (viaPath a.via) 2 (readAuth auth)
    if r.1 ≠ 0 then r.2.authReply a.via r.1 else r.2.restartNow a.via .maintenance .management))

/-! ## The Reserve (R402) -/

/-- One segment's entry: CAP_UF, ENERGY_MJ, TEST_TIME. -/
def State.segBytes (s : State) (n : Nat) : List Byte :=
  let x := s.seg n
  leBytes 4 (if x.tested then x.capUf else s.ratedUf n / 2) ++ leBytes 4 (s.segEnergy n / 2000000000) ++ leBytes 8 x.testTime

/-- Sectors that are secured and not settled. -/
def State.unsettled (s : State) : Nat :=
  (s.med.sectors.filter (fun e => decide (e.2.place = .staged))).length + (s.med.conv.filter (fun e => decide (e.2.place = .staged))).length

/-- The 256 bytes of Reserve Status. -/
def State.reserveBytes (s : State) : List Byte :=
  leBytes 4 s.rsv.coverMib ++ leBytes 4 (min s.rsv.energyMib 0xFFFFFFFF) ++ leBytes 4 s.rsv.eUseMj ++ leBytes 2 s.rsv.marE ++
  leBytes 1 (sumOf ((List.range 8).map (fun n => 2 ^ n * b2n (s.seg n).failed))) ++ [0] ++
  ((List.range 8).map s.segBytes).flatten ++ leBytes 4 (ceilDiv s.unsettled 256) ++ leBytes 4 s.db.lastFlushUs ++ zeros 104

/-- R402: Reserve Status. -/
def execReserveStatus (a : Adm) (s : State) : Host.Outcome State Fault Refusal :=
  .next (s.adminRun a pfOnly true false (fun s => s.replyData a.via stOk 0 s.reserveBytes))

end Sys2Proof.Machine
end

