-- ==== Sys2Proof/Machine/Dispatch.lean ====
section
/-!
DEFINITION. The dispatch: one arm per command, each one call of its meaning.
-/
namespace Sys2Proof.Machine

def exec (i : Instr) (s : State) : Host.Outcome State Fault Refusal :=
  match i with
  | .porNAssert => Sys2Proof.Machine.execPorNAssert s
  | .porNRelease => Sys2Proof.Machine.execPorNRelease s
  | .plossNFall => Sys2Proof.Machine.execPlossNFall s
  | .plossNAssert => Sys2Proof.Machine.execPlossNAssert s
  | .plossNRise => Sys2Proof.Machine.execPlossNRise s
  | .offExitCountExpiry => Sys2Proof.Machine.execOffExitCountExpiry s
  | .pwrGoodDrop => Sys2Proof.Machine.execPwrGoodDrop s
  | .pwrGoodRise => Sys2Proof.Machine.execPwrGoodRise s
  | .railTimeout => Sys2Proof.Machine.execRailTimeout s
  | .strapSample v => Sys2Proof.Machine.execStrapSample v s
  | .oscillatorQualified => Sys2Proof.Machine.execOscillatorQualified s
  | .pllLock us => Sys2Proof.Machine.execPllLock us s
  | .xtalFail => Sys2Proof.Machine.execXtalFail s
  | .calRowReadDone => Sys2Proof.Machine.execCalRowReadDone s
  | .bankFillDone b => Sys2Proof.Machine.execBankFillDone b s
  | .ddr5BootSweepDone eyes => Sys2Proof.Machine.execDdr5BootSweepDone eyes s
  | .dramFillDone => Sys2Proof.Machine.execDramFillDone s
  | .perstNAssert => Sys2Proof.Machine.execPerstNAssert s
  | .perstNRelease => Sys2Proof.Machine.execPerstNRelease s
  | .pcieLinkUp link => Sys2Proof.Machine.execPcieLinkUp link s
  | .clkreqNAssert => Sys2Proof.Machine.execClkreqNAssert s
  | .loadStepComplete ids misfit => Sys2Proof.Machine.execLoadStepComplete ids misfit s
  | .ddr5LevelSweepDone eyes => Sys2Proof.Machine.execDdr5LevelSweepDone eyes s
  | .channelSweepDone c rd wr => Sys2Proof.Machine.execChannelSweepDone c rd wr s
  | .sensorSelfCheckDone => Sys2Proof.Machine.execSensorSelfCheckDone s
  | .folioBoundary => Sys2Proof.Machine.execFolioBoundary s
  | .shutdownNotification shn => Sys2Proof.Machine.execShutdownNotification shn s
  | .drainComplete => Sys2Proof.Machine.execDrainComplete s
  | .flushComplete => Sys2Proof.Machine.execFlushComplete s
  | .nssrWrite value => Sys2Proof.Machine.execNssrWrite value s
  | .processorFault p => Sys2Proof.Machine.execProcessorFault p s
  | .islandRestartComplete p => Sys2Proof.Machine.execIslandRestartComplete p s
  | .watchdogKick key => Sys2Proof.Machine.execWatchdogKick key s
  | .watchdogExpiry => Sys2Proof.Machine.execWatchdogExpiry s
  | .mgtClockStop => Sys2Proof.Machine.execMgtClockStop s
  | .mgtClockRestart => Sys2Proof.Machine.execMgtClockRestart s
  | .norProgram pages data fetch => Sys2Proof.Machine.execNorProgram pages data fetch s
  | .norSubsectorErase fetch => Sys2Proof.Machine.execNorSubsectorErase fetch s
  | .norSectorErase fetch => Sys2Proof.Machine.execNorSectorErase fetch s
  | .norOpComplete ok => Sys2Proof.Machine.execNorOpComplete ok s
  | .busyBankFault addr fetch => Sys2Proof.Machine.execBusyBankFault addr fetch s
  | .crossingFault h k => Sys2Proof.Machine.execCrossingFault h k s
  | .crossbarRefusal ask target write addr => Sys2Proof.Machine.execCrossbarRefusal ask target write addr s
  | .doorbellWrite func qid cq value => Sys2Proof.Machine.execDoorbellWrite func qid cq value s
  | .commandFetch queue sqe ranges => Sys2Proof.Machine.execCommandFetch queue sqe ranges s
  | .capsuleReceive qp sqe ranges buffered => Sys2Proof.Machine.execCapsuleReceive qp sqe ranges buffered s
  | .commandArrival h => Sys2Proof.Machine.execCommandArrival h s
  | .acceptanceEnd h => Sys2Proof.Machine.execAcceptanceEnd h s
  | .mapLookupEnd h addr errs queued => Sys2Proof.Machine.execMapLookupEnd h addr errs queued s
  | .entryStart die e work ready ok bad => Sys2Proof.Machine.execEntryStart die e work ready ok bad s
  | .budgetCheck die ready => Sys2Proof.Machine.execBudgetCheck die ready s
  | .dieReset die => Sys2Proof.Machine.execDieReset die s
  | .transferSlot die => Sys2Proof.Machine.execTransferSlot die s
  | .ldpcDecodeEnd h k ok bits => Sys2Proof.Machine.execLdpcDecodeEnd h k ok bits s
  | .retryRead h k => Sys2Proof.Machine.execRetryRead h k s
  | .recoveryRead h k => Sys2Proof.Machine.execRecoveryRead h k s
  | .l3Timeout h k => Sys2Proof.Machine.execL3Timeout h k s
  | .tallyRebuild h k ok => Sys2Proof.Machine.execTallyRebuild h k ok s
  | .xtsStageEnd h k carrierOk => Sys2Proof.Machine.execXtsStageEnd h k carrierOk s
  | .sealCheckEnd h k ok => Sys2Proof.Machine.execSealCheckEnd h k ok s
  | .egressSlotStart h k guardOk => Sys2Proof.Machine.execEgressSlotStart h k guardOk s
  | .egressEnd h k pages => Sys2Proof.Machine.execEgressEnd h k pages s
  | .zeroReadEgress h k => Sys2Proof.Machine.execZeroReadEgress h k s
  | .completionPostEnd h page => Sys2Proof.Machine.execCompletionPostEnd h page s
  | .hostDataFetchEnd h data => Sys2Proof.Machine.execHostDataFetchEnd h data s
  | .stagingSlotsTaken h lists datas => Sys2Proof.Machine.execStagingSlotsTaken h lists datas s
  | .gateLaneGrant h => Sys2Proof.Machine.execGateLaneGrant h s
  | .sealEnd h k => Sys2Proof.Machine.execSealEnd h k s
  | .zeroFillEnd h k => Sys2Proof.Machine.execZeroFillEnd h k s
  | .dramWriteEnd h k => Sys2Proof.Machine.execDramWriteEnd h k s
  | .dayBookSecure h => Sys2Proof.Machine.execDayBookSecure h s
  | .deallocationSecure h => Sys2Proof.Machine.execDeallocationSecure h s
  | .programResult die ok => Sys2Proof.Machine.execProgramResult die ok s
  | .settlementMessage => Sys2Proof.Machine.execSettlementMessage s
  | .eraseResult die ok => Sys2Proof.Machine.execEraseResult die ok s
  | .zoneClaimDone zone => Sys2Proof.Machine.execZoneClaimDone zone s
  | .slotBinding zone slot toSlc => Sys2Proof.Machine.execSlotBinding zone slot toSlc s
  | .evacuationDone zone slot toSlc => Sys2Proof.Machine.execEvacuationDone zone slot toSlc s
  | .foldDone zone slot ok => Sys2Proof.Machine.execFoldDone zone slot ok s
  | .tailRingCopy die block => Sys2Proof.Machine.execTailRingCopy die block s
  | .tallyProgram zone w => Sys2Proof.Machine.execTallyProgram zone w s
  | .accumulatorRebuild zone => Sys2Proof.Machine.execAccumulatorRebuild zone s
  | .blockVerifyDone die block ok => Sys2Proof.Machine.execBlockVerifyDone die block ok s
  | .mapCommitMessage mv => Sys2Proof.Machine.execMapCommitMessage mv s
  | .sourceErase mv => Sys2Proof.Machine.execSourceErase mv s
  | .spillProgram => Sys2Proof.Machine.execSpillProgram s
  | .metadataWrite top => Sys2Proof.Machine.execMetadataWrite top s
  | .staleSecuredRecord q => Sys2Proof.Machine.execStaleSecuredRecord q s
  | .segmentTestStart n => Sys2Proof.Machine.execSegmentTestStart n s
  | .segmentTestSample mv => Sys2Proof.Machine.execSegmentTestSample mv s
  | .testInvalid => Sys2Proof.Machine.execTestInvalid s
  | .segFault n mv => Sys2Proof.Machine.execSegFault n mv s
  | .scrubPassStart found => Sys2Proof.Machine.execScrubPassStart found s
  | .drainBatchStart subB aged => Sys2Proof.Machine.execDrainBatchStart subB aged s
  | .drainBatchEnd subB => Sys2Proof.Machine.execDrainBatchEnd subB s
  | .rowCloseTimeout bank => Sys2Proof.Machine.execRowCloseTimeout bank s
  | .selfRefreshEntry => Sys2Proof.Machine.execSelfRefreshEntry s
  | .ddrAlert => Sys2Proof.Machine.execDdrAlert s
  | .bankScrub b words => Sys2Proof.Machine.execBankScrub b words s
  | .bankRetentionEntry b => Sys2Proof.Machine.execBankRetentionEntry b s
  | .bankWakeDone b => Sys2Proof.Machine.execBankWakeDone b s
  | .tamperV mv ticks => Sys2Proof.Machine.execTamperV mv ticks s
  | .tamperClk ps cycles => Sys2Proof.Machine.execTamperClk ps cycles s
  | .tamperShield => Sys2Proof.Machine.execTamperShield s
  | .wipeDone => Sys2Proof.Machine.execWipeDone s
  | .srmConflictClr who v => Sys2Proof.Machine.execSrmConflictClr who v s
  | .acquire who => Sys2Proof.Machine.execAcquire who s
  | .release who => Sys2Proof.Machine.execRelease who s
  | .unwrap who slot t w => Sys2Proof.Machine.execUnwrap who slot t w s
  | .wrapOut who slot => Sys2Proof.Machine.execWrapOut who slot s
  | .wrapData who slot bytes => Sys2Proof.Machine.execWrapData who slot bytes s
  | .clear who slot => Sys2Proof.Machine.execClear who slot s
  | .kmOpComplete => Sys2Proof.Machine.execKmOpComplete s
  | .crySlotSelWrite who v => Sys2Proof.Machine.execCrySlotSelWrite who v s
  | .entropyFail => Sys2Proof.Machine.execEntropyFail s
  | .entropyStale g => Sys2Proof.Machine.execEntropyStale g s
  | .maskReseed g => Sys2Proof.Machine.execMaskReseed g s
  | .chainRun who ch writes => Sys2Proof.Machine.execChainRun who ch writes s
  | .appendCountWrite who ch count writes => Sys2Proof.Machine.execAppendCountWrite who ch count writes s
  | .descriptorCopy ch err => Sys2Proof.Machine.execDescriptorCopy ch err s
  | .descriptorFill ch err => Sys2Proof.Machine.execDescriptorFill ch err s
  | .fence ch err => Sys2Proof.Machine.execFence ch err s
  | .linkReadReturn ch err => Sys2Proof.Machine.execLinkReadReturn ch err s
  | .linkReread ch => Sys2Proof.Machine.execLinkReread ch s
  | .chainRetry who ch => Sys2Proof.Machine.execChainRetry who ch s
  | .chainSkip who ch => Sys2Proof.Machine.execChainSkip who ch s
  | .chainAbort who ch => Sys2Proof.Machine.execChainAbort who ch s
  | .contextReadComplete a purpose ref => Sys2Proof.Machine.execContextReadComplete a purpose ref s
  | .ctxHalt a purpose ref kind addr => Sys2Proof.Machine.execCtxHalt a purpose ref kind addr s
  | .xfrCtxSelWrite who a => Sys2Proof.Machine.execXfrCtxSelWrite who a s
  | .contextRestartRetry who => Sys2Proof.Machine.execContextRestartRetry who s
  | .contextRestartFail who => Sys2Proof.Machine.execContextRestartFail who s
  | .deleteIoSubmissionQueue a qid => Sys2Proof.Machine.execDeleteIoSubmissionQueue a qid s
  | .createIoSubmissionQueue a qid size cqid contiguous => Sys2Proof.Machine.execCreateIoSubmissionQueue a qid size cqid contiguous s
  | .getLogPage a page nsid lsi offset bytes => Sys2Proof.Machine.execGetLogPage a page nsid lsi offset bytes s
  | .deleteIoCompletionQueue a qid => Sys2Proof.Machine.execDeleteIoCompletionQueue a qid s
  | .createIoCompletionQueue a qid size vector contiguous => Sys2Proof.Machine.execCreateIoCompletionQueue a qid size vector contiguous s
  | .identify a cns nsid cntid csi => Sys2Proof.Machine.execIdentify a cns nsid cntid csi s
  | .abort a sqid cid => Sys2Proof.Machine.execAbort a sqid cid s
  | .setFeatures a fid value save => Sys2Proof.Machine.execSetFeatures a fid value save s
  | .powerStateSet a ps save => Sys2Proof.Machine.execPowerStateSet a ps save s
  | .dozeRequest a save => Sys2Proof.Machine.execDozeRequest a save s
  | .hibernateRequest a save => Sys2Proof.Machine.execHibernateRequest a save s
  | .timestamp a ms save => Sys2Proof.Machine.execTimestamp a ms save s
  | .getFeatures a fid sel value => Sys2Proof.Machine.execGetFeatures a fid sel value s
  | .asynchronousEventRequest a => Sys2Proof.Machine.execAsynchronousEventRequest a s
  | .namespaceManagement a q data => Sys2Proof.Machine.execNamespaceManagement a q data s
  | .firmwareCommitUpdate a action slot => Sys2Proof.Machine.execFirmwareCommitUpdate a action slot s
  | .firmwareCommitMark a slot => Sys2Proof.Machine.execFirmwareCommitMark a slot s
  | .firmwareImageDownload a offset length data => Sys2Proof.Machine.execFirmwareImageDownload a offset length data s
  | .namespaceAttachment a q data => Sys2Proof.Machine.execNamespaceAttachment a q data s
  | .keepAlive a => Sys2Proof.Machine.execKeepAlive a s
  | .virtualizationManagement a action cntlid count => Sys2Proof.Machine.execVirtualizationManagement a action cntlid count s
  | .fabricsConnect qp cid cntlid qid size => Sys2Proof.Machine.execFabricsConnect qp cid cntlid qid size s
  | .propertyGet qp cid offset => Sys2Proof.Machine.execPropertyGet qp cid offset s
  | .propertySet qp cid offset value => Sys2Proof.Machine.execPropertySet qp cid offset value s
  | .disconnect qp cid => Sys2Proof.Machine.execDisconnect qp cid s
  | .formatNvm a q => Sys2Proof.Machine.execFormatNvm a q s
  | .mediatedCommand func cid q data => Sys2Proof.Machine.execMediatedCommand func cid q data s
  | .planSelect a plan level => Sys2Proof.Machine.execPlanSelect a plan level s
  | .planReqWrite who value => Sys2Proof.Machine.execPlanReqWrite who value s
  | .planStatus a => Sys2Proof.Machine.execPlanStatus a s
  | .accountQuiesce a account => Sys2Proof.Machine.execAccountQuiesce a account s
  | .accountResume a account => Sys2Proof.Machine.execAccountResume a account s
  | .quiesceCut member => Sys2Proof.Machine.execQuiesceCut member s
  | .accountBind a account e => Sys2Proof.Machine.execAccountBind a account e s
  | .accountQuery a account => Sys2Proof.Machine.execAccountQuery a account s
  | .mediationReply a tag approve => Sys2Proof.Machine.execMediationReply a tag approve s
  | .keyLoad a slot k => Sys2Proof.Machine.execKeyLoad a slot k s
  | .mediationReceive a => Sys2Proof.Machine.execMediationReceive a s
  | .restart a auth => Sys2Proof.Machine.execRestart a auth s
  | .maintenanceRequest a auth => Sys2Proof.Machine.execMaintenanceRequest a auth s
  | .reserveStatus a => Sys2Proof.Machine.execReserveStatus a s
  | .flush h => Sys2Proof.Machine.execFlush h s
  | .write h => Sys2Proof.Machine.execWrite h s
  | .read h => Sys2Proof.Machine.execRead h s
  | .writeZeroes h => Sys2Proof.Machine.execWriteZeroes h s
  | .datasetManagement h => Sys2Proof.Machine.execDatasetManagement h s
  | .copy h => Sys2Proof.Machine.execCopy h s
  | .zoneClose h => Sys2Proof.Machine.execZoneClose h s
  | .zoneFinish h => Sys2Proof.Machine.execZoneFinish h s
  | .zoneOpen h => Sys2Proof.Machine.execZoneOpen h s
  | .zoneReset h => Sys2Proof.Machine.execZoneReset h s
  | .zoneOffline h => Sys2Proof.Machine.execZoneOffline h s
  | .setZoneDescriptorExtension h => Sys2Proof.Machine.execSetZoneDescriptorExtension h s
  | .reportZones h => Sys2Proof.Machine.execReportZones h s
  | .zoneAppend h => Sys2Proof.Machine.execZoneAppend h s
  | .mintedRead h => Sys2Proof.Machine.execMintedRead h s
  | .controllerReset func => Sys2Proof.Machine.execControllerReset func s
  | .controllerEnable func cc => Sys2Proof.Machine.execControllerEnable func cc s
  | .vfShutdownNotification func => Sys2Proof.Machine.execVfShutdownNotification func s
  | .flr func => Sys2Proof.Machine.execFlr func s
  | .flrTimeout func => Sys2Proof.Machine.execFlrTimeout func s
  | .sliceEnable who n value pasidOn => Sys2Proof.Machine.execSliceEnable who n value pasidOn s
  | .sliceDisable who n => Sys2Proof.Machine.execSliceDisable who n s
  | .qsliceApply who value => Sys2Proof.Machine.execQsliceApply who value s
  | .dlogHeadWrite who value => Sys2Proof.Machine.execDlogHeadWrite who value s
  | .cmReq port src => Sys2Proof.Machine.execCmReq port src s
  | .ceMarkedPacket qp => Sys2Proof.Machine.execCeMarkedPacket qp s
  | .cnpReceive qp => Sys2Proof.Machine.execCnpReceive qp s
  | .rateRecovery qp => Sys2Proof.Machine.execRateRecovery qp s
  | .pfcPauseReceive port cnp => Sys2Proof.Machine.execPfcPauseReceive port cnp s
  | .pfcXon port bytes => Sys2Proof.Machine.execPfcXon port bytes s
  | .arpRequest port own => Sys2Proof.Machine.execArpRequest port own s
  | .neighborDiscovery port own => Sys2Proof.Machine.execNeighborDiscovery port own s
  | .wakeFrame port form token roce => Sys2Proof.Machine.execWakeFrame port form token roce s
  | .linkUp port corr uncorr => Sys2Proof.Machine.execLinkUp port corr uncorr s
  | .linkDown port corr uncorr => Sys2Proof.Machine.execLinkDown port corr uncorr s
  | .mintLaneGrant l => Sys2Proof.Machine.execMintLaneGrant l s
  | .mintSetupEnd l => Sys2Proof.Machine.execMintSetupEnd l s
  | .sectorConsume l sealOk conforms seg out => Sys2Proof.Machine.execSectorConsume l sealOk conforms seg out s
  | .mintChunkTurn l room pages => Sys2Proof.Machine.execMintChunkTurn l room pages s
  | .mintLaneEnd l => Sys2Proof.Machine.execMintLaneEnd l s
  | .abortPointAp2 => Sys2Proof.Machine.execAbortPointAp2 s
  | .abortPointAp3 => Sys2Proof.Machine.execAbortPointAp3 s
  | .mgmtWake => Sys2Proof.Machine.execMgmtWake s
  | .alarmMatch => Sys2Proof.Machine.execAlarmMatch s
  | .rtcPeriod => Sys2Proof.Machine.execRtcPeriod s
  | .sensorSample n reading ok => Sys2Proof.Machine.execSensorSample n reading ok s
  | .throttleRise => Sys2Proof.Machine.execThrottleRise s
  | .wearEvaluation => Sys2Proof.Machine.execWearEvaluation s
  | .powerOnHour => Sys2Proof.Machine.execPowerOnHour s
  | .loopSample n mv => Sys2Proof.Machine.execLoopSample n mv s
  | .loopOutput n => Sys2Proof.Machine.execLoopOutput n s
  | .profileStep => Sys2Proof.Machine.execProfileStep s
  | .settleLate n => Sys2Proof.Machine.execSettleLate n s
  | .loopCloseWrite who n close => Sys2Proof.Machine.execLoopCloseWrite who n close s
  | .coefWrite who n second value => Sys2Proof.Machine.execCoefWrite who n second value s
  | .setpointWrite who n value => Sys2Proof.Machine.execSetpointWrite who n value s
  | .loop1Reclose => Sys2Proof.Machine.execLoop1Reclose s
  | .entdaa won => Sys2Proof.Machine.execEntdaa won s
  | .rstdaa => Sys2Proof.Machine.execRstdaa s
  | .setdasa staticA new => Sys2Proof.Machine.execSetdasa staticA new s
  | .setnewda addr new => Sys2Proof.Machine.execSetnewda addr new s
  | .getpid addr => Sys2Proof.Machine.execGetpid addr s
  | .getbcr addr => Sys2Proof.Machine.execGetbcr addr s
  | .getdcr addr => Sys2Proof.Machine.execGetdcr addr s
  | .getstatus addr => Sys2Proof.Machine.execGetstatus addr s
  | .getmwl addr => Sys2Proof.Machine.execGetmwl addr s
  | .getmrl addr => Sys2Proof.Machine.execGetmrl addr s
  | .setmwl addr v => Sys2Proof.Machine.execSetmwl addr v s
  | .setmrl addr v => Sys2Proof.Machine.execSetmrl addr v s
  | .enec addr => Sys2Proof.Machine.execEnec addr s
  | .disec addr => Sys2Proof.Machine.execDisec addr s
  | .mctpPacketWrite addr bs => Sys2Proof.Machine.execMctpPacketWrite addr bs s
  | .mctpPacketRead addr => Sys2Proof.Machine.execMctpPacketRead addr s
  | .setEndpointId id eid => Sys2Proof.Machine.execSetEndpointId id eid s
  | .getEndpointId id => Sys2Proof.Machine.execGetEndpointId id s
  | .getEndpointUuid id => Sys2Proof.Machine.execGetEndpointUuid id s
  | .getMctpVersionSupport id type => Sys2Proof.Machine.execGetMctpVersionSupport id type s
  | .getMessageTypeSupport id => Sys2Proof.Machine.execGetMessageTypeSupport id s
  | .readNvmeMiDataStructure id type => Sys2Proof.Machine.execReadNvmeMiDataStructure id type s
  | .nvmSubsystemHealthStatusPoll id => Sys2Proof.Machine.execNvmSubsystemHealthStatusPoll id s
  | .controllerHealthStatusPoll id func => Sys2Proof.Machine.execControllerHealthStatusPoll id func s
  | .configurationSet id cfg value => Sys2Proof.Machine.execConfigurationSet id cfg value s
  | .configurationGet id cfg => Sys2Proof.Machine.execConfigurationGet id cfg s
  | .miReset id => Sys2Proof.Machine.execMiReset id s
  | .getChallenge id => Sys2Proof.Machine.execGetChallenge id s
  | .eventLogRead id first count => Sys2Proof.Machine.execEventLogRead id first count s
  | .eventLogClear id a => Sys2Proof.Machine.execEventLogClear id a s
  | .calibrationRowRead id => Sys2Proof.Machine.execCalibrationRowRead id s
  | .calibrationRowWrite id row => Sys2Proof.Machine.execCalibrationRowWrite id row s
  | .provision id a => Sys2Proof.Machine.execProvision id a s
  | .decommission id a => Sys2Proof.Machine.execDecommission id a s
  | .factoryTestVerifySlot id slot => Sys2Proof.Machine.execFactoryTestVerifySlot id slot s
  | .factoryTestAlert id => Sys2Proof.Machine.execFactoryTestAlert id s
  | .factoryAlertPulseEnd => Sys2Proof.Machine.execFactoryAlertPulseEnd s
  | .factoryTestEntropy id ok => Sys2Proof.Machine.execFactoryTestEntropy id ok s
  | .challengeNew who => Sys2Proof.Machine.execChallengeNew who s
  | .nonceExpiry p => Sys2Proof.Machine.execNonceExpiry p s
  | .authLockoutEnd p => Sys2Proof.Machine.execAuthLockoutEnd p s
  | .causeLeafSet l b => Sys2Proof.Machine.execCauseLeafSet l b s
  | .causeLeafClear who l v => Sys2Proof.Machine.execCauseLeafClear who l v s
  | .alertNUpdate => Sys2Proof.Machine.execAlertNUpdate s
  | .evtRecordProgram => Sys2Proof.Machine.execEvtRecordProgram s
  | .evtProgramDone ok => Sys2Proof.Machine.execEvtProgramDone ok s
  | .evtRdSelWrite who v => Sys2Proof.Machine.execEvtRdSelWrite who v s
  | .medZqSelWrite who value => Sys2Proof.Machine.execMedZqSelWrite who value s
  | .traceArm who v => Sys2Proof.Machine.execTraceArm who v s
  | .extwaitClear who account => Sys2Proof.Machine.execExtwaitClear who account s
  | .tickLoRead who => Sys2Proof.Machine.execTickLoRead who s
  | .timeLoRead who => Sys2Proof.Machine.execTimeLoRead who s
  | .registerWrite who o v => Sys2Proof.Machine.execRegisterWrite who o v s
  | .segmentCharged n mv => Sys2Proof.Machine.execSegmentCharged n mv s
  | .tallyForwardCopy die block => Sys2Proof.Machine.execTallyForwardCopy die block s
  | .retentionRefreshDue die block => Sys2Proof.Machine.execRetentionRefreshDue die block s
  | .cqHeadWrite who ch head => Sys2Proof.Machine.execCqHeadWrite who ch head s
  | .vfEnable vfs => Sys2Proof.Machine.execVfEnable vfs s
  | .pcieLinkDown => Sys2Proof.Machine.execPcieLinkDown s
  | .keepAliveTimeout func => Sys2Proof.Machine.execKeepAliveTimeout func s
  | .pfcPauseExpiry port cnp => Sys2Proof.Machine.execPfcPauseExpiry port cnp s
  | .tckEdge rising pins => Sys2Proof.Machine.execTckEdge rising pins s
  | .trstNAssert => Sys2Proof.Machine.execTrstNAssert s

end Sys2Proof.Machine
end

