-- ==== Sys2Proof/Machine/Step.lean ====
section
/-!
DEFINITION. One step of the block: the command at the front of the queue, or on an empty queue one tick of the LDG
clock (a DESIGN CHOICE, log entry 2).
-/
namespace Sys2Proof.Machine

/-- On an empty queue the block idles: where the LDG clock runs, one tick passes (R154, R503). -/
def idle (s : State) : State := if s.clockRuns then s.tickOnce else s

/-- One step. -/
def step (s : State) : Host.Outcome State Fault Refusal :=
  match s.pending with
  | [] => .next (idle s)
  | c :: rest => exec c { s with pending := rest }

/-- The command that a word spells put at the front of the queue; the table spells none. -/
def State.withFetchWord (s : State) (nbits w : Nat) : State :=
  match decodeTableWord nbits w with
  | some c => { s with pending := c :: s.pending }
  | none => s

end Sys2Proof.Machine
end

