-- ==== Sys2Proof/Safety.lean ====
section
/-!
DEFINITION. The terms in which claims about the whole block are stated: the canonical form of its maps, its fuses, and which components
of the state each command may change.
-/
namespace Sys2Proof.Machine

/-- The registers that something has written stand in strictly rising order of their offsets, and the byte memories of the NOR device
and of the movers' spaces are in their canonical form. -/
def Canonical (s : State) : Prop :=
  keysRise s.regs = true ∧ Memory.wf norDefault s.nor.mem = true ∧ Memory.wf memDefault s.xfr.mem = true

/-- The fuses: the life-cycle state and the device key (R454). -/
abbrev Fuses := LifeCycle × Option (BitVec 256)

def State.fuses (s : State) : Fuses := (s.cry.life, s.cry.deviceKey)

/-! ## Frames -/

/-- The components of the state, but for the queue of commands. -/
inductive Part where
  /-- The register words. -/
  | regs
  /-- The mode. -/
  | mode
  /-- PREV_MODE. -/
  | prevMode
  /-- The pins. -/
  | pins
  /-- Start-up. -/
  | boot
  /-- Power states and device time. -/
  | pwr
  /-- Junction sensors. -/
  | thm
  /-- The four loops. -/
  | loops
  /-- The NOR device and its operation. -/
  | nor
  /-- The event recorder and its log. -/
  | evt
  /-- Management. -/
  | mgt
  /-- The Ledger. -/
  | ldg
  /-- Zones, blocks and dies. -/
  | med
  /-- The Day Book. -/
  | db
  /-- The Reserve. -/
  | rsv
  /-- Accounts, controllers, queues and commands. -/
  | host
  /-- Movers and their spaces. -/
  | xfr
  /-- DRAM and the banks. -/
  | mem
  /-- Ciphers, key slots and fuses. -/
  | cry
  /-- Queue pairs and ports. -/
  | net
  /-- Mint lanes and recipes. -/
  | mnt
  /-- The TAP. -/
  | jtag
  /-- The model's counter of free values (no state of the spec). -/
  | freeCount
deriving DecidableEq, Repr

/-- A component is the same in two states. -/
def Part.same : Part → State → State → Prop
  | .regs, s, t => t.regs = s.regs
  | .mode, s, t => t.mode = s.mode
  | .prevMode, s, t => t.prevMode = s.prevMode
  | .pins, s, t => t.pins = s.pins
  | .boot, s, t => t.boot = s.boot
  | .pwr, s, t => t.pwr = s.pwr
  | .thm, s, t => t.thm = s.thm
  | .loops, s, t => t.loops = s.loops
  | .nor, s, t => t.nor = s.nor
  | .evt, s, t => t.evt = s.evt
  | .mgt, s, t => t.mgt = s.mgt
  | .ldg, s, t => t.ldg = s.ldg
  | .med, s, t => t.med = s.med
  | .db, s, t => t.db = s.db
  | .rsv, s, t => t.rsv = s.rsv
  | .host, s, t => t.host = s.host
  | .xfr, s, t => t.xfr = s.xfr
  | .mem, s, t => t.mem = s.mem
  | .cry, s, t => t.cry = s.cry
  | .net, s, t => t.net = s.net
  | .mnt, s, t => t.mnt = s.mnt
  | .jtag, s, t => t.jtag = s.jtag
  | .freeCount, s, t => t.freeCount = s.freeCount

/-- `t` differs from `s` in the components of `ps` at most. -/
def OnlyIn (ps : List Part) (s t : State) : Prop := ∀ p, p ∉ ps → p.same s t

/-- The components that a command may change: its frame leaves every other one as it stands. -/
def footprint : Instr → List Part
  | .porNAssert =>
      [.regs, .mode, .prevMode, .pins, .boot, .pwr, .thm, .loops, .nor, .evt, .mgt, .ldg, .med, .db, .rsv, .host, .xfr,
      .mem, .cry, .net, .mnt, .jtag, .freeCount]
  | .porNRelease | .plossNRise | .offExitCountExpiry | .pwrGoodRise | .strapSample .. | .oscillatorQualified
    | .calRowReadDone | .ddr5BootSweepDone .. | .loadStepComplete .. | .ddr5LevelSweepDone .. | .processorFault ..
    | .watchdogKick .. | .watchdogExpiry | .miReset .. | .evtProgramDone .. =>
      [.regs, .mode, .prevMode, .pins, .boot, .pwr, .thm, .loops, .nor, .evt, .mgt, .ldg, .med, .db, .host, .xfr, .mem,
      .cry, .net, .mnt]
  | .plossNFall =>
      [.pins, .boot]
  | .plossNAssert | .pwrGoodDrop | .drainComplete | .sensorSample .. =>
      [.regs, .mode, .prevMode, .pins, .boot, .pwr, .thm, .loops, .nor, .evt, .mgt, .ldg, .med, .db, .rsv, .host, .xfr,
      .mem, .cry, .net, .mnt, .freeCount]
  | .railTimeout | .ddrAlert | .entropyStale .. | .mctpPacketRead .. | .setEndpointId .. | .getEndpointId ..
    | .getEndpointUuid .. | .getMctpVersionSupport .. | .getMessageTypeSupport .. | .readNvmeMiDataStructure ..
    | .nvmSubsystemHealthStatusPoll .. | .controllerHealthStatusPoll .. | .configurationSet .. | .configurationGet ..
    | .eventLogRead .. | .calibrationRowRead .. | .factoryTestVerifySlot .. | .factoryTestEntropy ..
    | .causeLeafSet .. =>
      [.regs, .evt, .mgt]
  | .pllLock .. =>
      [.regs, .mode, .prevMode, .pins, .boot, .pwr, .evt, .mgt, .ldg, .xfr, .mem]
  | .xtalFail =>
      [.regs, .boot, .evt, .mgt]
  | .bankFillDone .. | .dramFillDone =>
      [.regs, .mode, .prevMode, .boot, .evt, .mgt]
  | .perstNAssert =>
      [.regs, .pins, .evt, .mgt, .ldg, .med, .db, .host, .mem, .cry, .net, .mnt]
  | .perstNRelease =>
      [.regs, .pins, .pwr, .loops, .evt, .mgt, .ldg, .med, .db, .host, .mem, .cry, .net, .mnt]
  | .pcieLinkUp .. | .flush .. | .vfEnable .. | .pcieLinkDown | .keepAliveTimeout .. =>
      [.host]
  | .clkreqNAssert | .setFeatures .. | .powerStateSet .. | .dozeRequest .. | .hibernateRequest .. | .wakeFrame ..
    | .mgmtWake | .alarmMatch | .mctpPacketWrite .. =>
      [.regs, .pwr, .loops, .evt, .mgt, .ldg, .med, .db, .host, .mem, .cry, .net, .mnt]
  | .channelSweepDone .. =>
      [.regs, .boot, .evt, .mgt, .ldg, .med, .host]
  | .sensorSelfCheckDone =>
      [.regs, .mode, .prevMode, .boot, .pwr, .loops, .nor, .evt, .mgt, .ldg, .med, .db, .rsv, .host, .mem, .cry, .net,
      .mnt]
  | .folioBoundary | .flushComplete | .restart .. | .maintenanceRequest .. =>
      [.regs, .mode, .prevMode, .pins, .boot, .pwr, .thm, .loops, .nor, .evt, .mgt, .ldg, .med, .db, .rsv, .host, .xfr,
      .mem, .cry, .net, .mnt]
  | .shutdownNotification .. | .nssrWrite .. =>
      [.regs, .mode, .prevMode, .pins, .boot, .pwr, .evt, .mgt, .rsv, .host]
  | .islandRestartComplete .. | .firmwareCommitUpdate .. | .firmwareCommitMark .. | .firmwareImageDownload ..
    | .eventLogClear .. =>
      [.regs, .nor, .evt, .mgt, .host]
  | .mgtClockStop | .mgtClockRestart | .getpid .. | .getbcr .. | .getdcr .. | .getstatus .. | .getmwl .. | .getmrl ..
    | .setmwl .. | .setmrl .. | .enec .. | .disec .. | .nonceExpiry .. | .authLockoutEnd .. =>
      [.mgt]
  | .norProgram .. | .norSubsectorErase .. | .norSectorErase .. | .busyBankFault .. | .calibrationRowWrite .. =>
      [.regs, .nor, .evt, .mgt]
  | .norOpComplete .. =>
      [.regs, .mode, .prevMode, .pins, .boot, .pwr, .thm, .loops, .nor, .evt, .mgt, .ldg, .med, .db, .host, .xfr, .mem,
      .cry, .net, .mnt, .freeCount]
  | .crossingFault .. | .acceptanceEnd .. | .mapLookupEnd .. | .ldpcDecodeEnd .. | .l3Timeout .. | .tallyRebuild ..
    | .xtsStageEnd .. | .egressEnd .. | .completionPostEnd .. | .sealEnd .. | .zeroFillEnd .. | .dayBookSecure ..
    | .deallocationSecure .. | .settlementMessage | .zoneClaimDone .. | .foldDone .. | .blockVerifyDone ..
    | .mapCommitMessage .. | .deleteIoSubmissionQueue .. | .abort .. | .namespaceManagement .. | .disconnect ..
    | .formatNvm .. | .accountQuiesce .. | .accountResume .. | .quiesceCut .. | .accountBind .. | .mediationReply ..
    | .vfShutdownNotification .. | .flrTimeout .. | .sliceDisable .. | .linkDown .. | .mintLaneGrant ..
    | .mintSetupEnd .. | .sectorConsume .. | .mintLaneEnd .. =>
      [.regs, .evt, .mgt, .ldg, .med, .db, .host, .mem, .cry, .net, .mnt]
  | .crossbarRefusal .. | .linkReread .. =>
      [.regs, .xfr]
  | .doorbellWrite .. | .contextReadComplete .. | .contextRestartRetry .. =>
      [.host, .xfr]
  | .commandFetch .. | .namespaceAttachment .. =>
      [.regs, .evt, .mgt, .med, .host]
  | .capsuleReceive .. =>
      [.regs, .evt, .mgt, .med, .host, .net]
  | .commandArrival .. | .read .. | .datasetManagement .. | .setZoneDescriptorExtension .. | .reportZones ..
    | .mintedRead .. =>
      [.regs, .evt, .mgt, .ldg, .db, .host, .mem]
  | .entryStart .. | .programResult .. | .eraseResult .. =>
      [.regs, .pwr, .evt, .mgt, .ldg, .med, .db, .host]
  | .budgetCheck .. | .retryRead .. | .recoveryRead .. =>
      [.regs, .pwr, .evt, .mgt, .ldg, .med, .host]
  | .dieReset .. =>
      [.regs, .evt, .mgt, .ldg, .med, .db, .host]
  | .transferSlot .. | .abortPointAp2 | .abortPointAp3 =>
      [.regs, .pwr, .evt, .mgt, .ldg, .med, .db, .host, .mem, .cry, .net, .mnt]
  | .sealCheckEnd .. | .write .. | .writeZeroes .. | .copy .. | .zoneClose .. | .zoneFinish .. | .zoneOpen ..
    | .zoneReset .. | .zoneOffline .. | .zoneAppend .. =>
      [.regs, .evt, .mgt, .ldg, .med, .db, .host, .mem]
  | .egressSlotStart .. =>
      [.regs, .pwr, .evt, .mgt, .ldg, .db, .host, .mem, .net]
  | .zeroReadEgress .. =>
      [.ldg, .host, .net]
  | .hostDataFetchEnd .. | .qsliceApply .. =>
      [.regs, .host]
  | .stagingSlotsTaken .. =>
      [.db, .host, .xfr]
  | .gateLaneGrant .. =>
      [.host, .mem]
  | .dramWriteEnd .. =>
      [.regs, .host, .xfr, .mem]
  | .slotBinding .. | .evacuationDone .. | .tailRingCopy .. | .tallyProgram .. | .tallyForwardCopy ..
    | .retentionRefreshDue .. =>
      [.med]
  | .accumulatorRebuild .. | .staleSecuredRecord .. =>
      [.regs, .evt, .mgt, .med]
  | .sourceErase .. =>
      [.regs, .evt, .mgt, .ldg, .med, .host]
  | .spillProgram =>
      [.db]
  | .metadataWrite .. =>
      [.pwr, .med, .db]
  | .segmentTestStart .. =>
      [.regs, .pins, .rsv]
  | .segmentTestSample .. | .testInvalid =>
      [.regs, .pins, .evt, .mgt, .rsv]
  | .segFault .. =>
      [.regs, .pins, .evt, .mgt, .db, .rsv]
  | .scrubPassStart .. | .chainRun .. | .appendCountWrite .. | .descriptorCopy .. | .descriptorFill .. | .fence .. =>
      [.regs, .evt, .mgt, .xfr, .mem]
  | .drainBatchStart .. | .drainBatchEnd .. | .rowCloseTimeout .. | .selfRefreshEntry | .bankRetentionEntry ..
    | .bankWakeDone .. =>
      [.mem]
  | .bankScrub .. =>
      [.regs, .evt, .mgt, .mem]
  | .tamperV .. | .tamperClk .. | .tamperShield =>
      [.regs, .evt, .mgt, .host, .mem, .cry]
  | .wipeDone =>
      [.regs, .evt, .mgt, .mem, .cry]
  | .srmConflictClr .. | .crySlotSelWrite .. | .xfrCtxSelWrite .. | .dlogHeadWrite .. | .linkUp .. | .medZqSelWrite ..
    | .extwaitClear .. =>
      [.regs]
  | .acquire .. | .release .. =>
      [.regs, .cry]
  | .unwrap .. | .wrapOut .. | .wrapData .. | .clear .. | .kmOpComplete | .entropyFail =>
      [.regs, .evt, .mgt, .cry]
  | .maskReseed .. =>
      [.cry]
  | .linkReadReturn .. | .chainRetry .. | .chainSkip .. | .chainAbort .. | .ctxHalt .. | .cqHeadWrite .. =>
      [.regs, .evt, .mgt, .xfr]
  | .contextRestartFail .. | .controllerReset .. | .flr .. =>
      [.regs, .evt, .mgt, .ldg, .med, .db, .host, .xfr, .mem, .cry, .net, .mnt]
  | .createIoSubmissionQueue .. | .deleteIoCompletionQueue .. | .createIoCompletionQueue .. | .getFeatures ..
    | .asynchronousEventRequest .. | .keepAlive .. | .virtualizationManagement .. | .mediatedCommand ..
    | .planStatus .. | .accountQuery .. | .mediationReceive .. | .reserveStatus .. | .sliceEnable .. =>
      [.regs, .evt, .mgt, .host]
  | .getLogPage .. | .identify .. =>
      [.regs, .evt, .mgt, .host, .freeCount]
  | .timestamp .. =>
      [.regs, .pwr, .evt, .mgt, .host]
  | .fabricsConnect .. | .propertyGet .. =>
      [.host, .net]
  | .propertySet .. | .registerWrite .. =>
      [.regs, .mode, .prevMode, .pins, .boot, .pwr, .evt, .mgt, .ldg, .med, .db, .rsv, .host, .xfr, .mem, .cry, .net,
      .mnt]
  | .planSelect .. | .planReqWrite .. =>
      [.regs, .loops, .evt, .mgt, .ldg, .host]
  | .keyLoad .. | .provision .. | .decommission .. =>
      [.regs, .evt, .mgt, .host, .cry]
  | .controllerEnable .. =>
      [.pwr, .host]
  | .cmReq .. | .pfcXon .. =>
      [.regs, .evt, .mgt, .net]
  | .ceMarkedPacket .. | .cnpReceive .. | .rateRecovery .. | .pfcPauseReceive .. | .arpRequest ..
    | .neighborDiscovery .. | .pfcPauseExpiry .. =>
      [.net]
  | .mintChunkTurn .. =>
      [.regs, .evt, .mgt, .ldg, .med, .db, .host, .mem, .cry, .net, .mnt, .freeCount]
  | .rtcPeriod =>
      [.regs, .pins, .boot, .pwr, .mgt]
  | .throttleRise =>
      [.regs, .thm, .loops, .ldg]
  | .wearEvaluation =>
      [.regs, .pwr, .evt, .mgt]
  | .powerOnHour | .tickLoRead .. | .timeLoRead .. =>
      [.pwr]
  | .loopSample .. | .coefWrite .. =>
      [.regs, .pins, .loops, .evt, .mgt]
  | .loopOutput .. | .profileStep | .loopCloseWrite .. | .setpointWrite .. | .loop1Reclose =>
      [.regs, .pins, .loops]
  | .settleLate .. =>
      [.regs, .loops, .evt, .mgt]
  | .entdaa .. | .rstdaa | .setdasa .. | .setnewda .. | .causeLeafClear .. =>
      [.regs, .mgt]
  | .getChallenge .. =>
      [.regs, .evt, .mgt, .freeCount]
  | .factoryTestAlert .. =>
      [.regs, .pins, .evt, .mgt]
  | .factoryAlertPulseEnd | .alertNUpdate =>
      [.pins, .mgt]
  | .challengeNew .. =>
      [.mgt, .freeCount]
  | .evtRecordProgram =>
      [.nor, .evt]
  | .evtRdSelWrite .. =>
      [.regs, .evt]
  | .traceArm .. =>
      [.regs, .ldg]
  | .segmentCharged .. =>
      [.regs, .evt, .mgt, .db, .rsv]
  | .tckEdge .. =>
      [.jtag, .freeCount]
  | .trstNAssert =>
      [.jtag]

/-! ## Modes -/

/-- The edges of the table of R77 between modes, but for POR_N's, which leads from any mode to OFF. -/
def modeEdge : Mode → Mode → Bool
  | .off, .strap => true
  | .strap, .fill => true
  | .strap, .maintenance => true
  | .strap, .off => true
  | .fill, .off => true
  | .load, .off => true
  | .train, .off => true
  | .fill, .load => true
  | .fill, .maintenance => true
  | .load, .train => true
  | .load, .maintenance => true
  | .train, .service => true
  | .train, .maintenance => true
  | .service, .throttle => true
  | .throttle, .service => true
  | .service, .drain => true
  | .throttle, .drain => true
  | .service, .flush => true
  | .throttle, .flush => true
  | .drain, .flush => true
  | .doze, .flush => true
  | .drain, .service => true
  | .drain, .strap => true
  | .drain, .maintenance => true
  | .flush, .off => true
  | .service, .doze => true
  | .throttle, .doze => true
  | .doze, .service => true
  | .service, .hibernate => true
  | .throttle, .hibernate => true
  | .doze, .hibernate => true
  | .hibernate, .fill => true
  | .maintenance, .strap => true
  | .maintenance, .off => true
  | _, _ => false

end Sys2Proof.Machine
end

