-- ==== Sys2Proof/Certificates/Slice0/Obligations.lean ====
section
/-!
DEFINITION. The statements of this row: what a step does, what every command leaves alone, the invariants, and for each family of
commands what its rows do to the state. Where a statement gives the next state in terms of the model's named operations, the rule that
each operation follows stands at the operation.
-/
open Sys2Proof Sys2Proof.Machine

/-! ## The block as a whole -/

/-- A step takes the command at the front of the queue and runs it with the queue's rest (log entry 1). -/
def Obligations.StepTakesFront : Prop :=
  ∀ (c : Instr) (rest : List Instr) (s : State), s.pending = c :: rest → step s = exec c { s with pending := rest }

/-- An empty queue: one tick of the LDG clock where it runs (R154, R503; the model's choice, log entry 2). -/
def Obligations.IdleTick : Prop :=
  (∀ s : State, s.pending = [] → s.clockRuns = true →
    ∃ t, step s = .next t ∧ t.ldg.tick = (s.ldg.tick + 1) % 2 ^ 64 ∧ t.pwr.time = (s.pwr.time + 1) % 2 ^ 64 ∧
      t = { s with ldg := { s.ldg with tick := t.ldg.tick }, pwr := { s.pwr with time := t.pwr.time } }) ∧
  (∀ s : State, s.pending = [] → s.clockRuns = false → step s = .next s)

/-- Every command answers a next state: no meaning stops (log entry 3). -/
def Obligations.EveryCommandAnswers : Prop :=
  (∀ (c : Instr) (s : State), ∃ t, exec c s = .next t) ∧ ∀ s : State, ∃ t, step s = .next t

/-- No meaning touches the queue, so a step takes the front command off it and nothing else (log entry 1). -/
def Obligations.QueueKept : Prop :=
  (∀ (c : Instr) (s t : State), exec c s = .next t → t.pending = s.pending) ∧
  (∀ s t : State, step s = .next t → t.pending = s.pending.tail)

/-- The frame of every command: the components outside its footprint are unchanged. -/
def Obligations.FootprintKept : Prop :=
  ∀ (c : Instr) (s t : State), exec c s = .next t → OnlyIn (footprint c) s t

/-- What reset leaves (R77, R570, R108, R454, R53). -/
def Obligations.ResetState : Prop :=
  State.reset.mode = .off ∧ State.reset.pins.porN = false ∧ State.reset.pins.pwrHold = false ∧ State.reset.pins.alertN = true ∧
  State.reset.pins.vrefOut = none ∧ State.reset.pins.flioOut = none ∧ (∀ o, State.reset.reg o = regReset o) ∧
  (∀ a, State.reset.norByte a = 0xFF) ∧ State.reset.fuses = (.blank, none) ∧ State.reset.pending = [] ∧
  (∀ i, State.reset.islandOn i = false)

/-- The canonical form holds after reset. -/
def Obligations.CanonicalReset : Prop := Canonical State.reset

/-- The canonical form is an invariant of every step. -/
def Obligations.CanonicalKept : Prop := ∀ s t : State, Canonical s → step s = .next t → Canonical t

/-- The fuses change in no other way than R454 states. -/
def Obligations.FusesBurnOnlyByLifeCycle : Prop :=
  ∀ (c : Instr) (s t : State), Canonical s → exec c s = .next t → t.fuses = s.fuses ∨
    (∃ id a, c = .provision id a ∧ s.mode = .maintenance ∧ s.cry.life = .blank ∧ s.miTake.authFails .mi 4 (readAuth a) = 0 ∧
      t.fuses = (.provisioned, some (readAuth a).deviceKey)) ∨
    (∃ id a, c = .decommission id a ∧ s.mode = .maintenance ∧ s.cry.life = .provisioned ∧ s.miTake.authFails .mi 5 (readAuth a) = 0 ∧
      t.fuses = (.decommissioned, some (BitVec.allOnes 256)))

/-- R77: the device changes mode only as its table states. -/
def Obligations.ModeFollowsTable : Prop :=
  ∀ (c : Instr) (s t : State), exec c s = .next t →
    t.mode = s.mode ∨ modeEdge s.mode t.mode = true ∨ (c = .porNAssert ∧ t.mode = .off) ∨
    (c = .folioBoundary ∧ modeEdge s.mode .service = true ∧ t.mode = .throttle)

/-- R66, R79: how OFF ends. -/
def Obligations.StrapOnlyWithInputsHigh : Prop :=
  ∀ (c : Instr) (s t : State), s.mode = .off → exec c s = .next t → t.mode ≠ .off →
    t.mode = .strap ∧ (c = .porNRelease ∨ c = .plossNRise ∨ c = .pwrGoodRise ∨ c = .offExitCountExpiry) ∧
    t.pins.porN = true ∧ t.pins.pwrGood = true ∧ t.plossHigh = true ∧ t.pins.pwrHold = true

/-! ## Board signals and start-up -/

/-- POR_N falls and rises (R66, R77, R570). -/
def Obligations.PowerOnReset : Prop :=
  (∀ s : State, ∃ t, exec .porNAssert s = .next t ∧ t.mode = .off ∧ t.pins.porN = false ∧ t.pins.pwrHold = false ∧
    t.pins.alertN = true ∧ t.regs = [] ∧ t.boot = {} ∧ t.mgt = {} ∧ t.jtag = {} ∧ t.net = {} ∧ t.fuses = s.fuses) ∧
  (∀ s : State, s.mode = .off → s.pins.porN = false → s.pins.pwrGood = true → s.pins.plossN = true →
    ∃ t, exec .porNRelease s = .next t ∧ t.mode = .strap ∧ t.pins.porN = true ∧ t.pins.pwrHold = true ∧ t.boot.fromOff = true) ∧
  (∀ s : State, s.mode = .off → s.pins.porN = false → (s.pins.pwrGood = false ∨ s.pins.plossN = false) →
    ∃ t, exec .porNRelease s = .next t ∧ t.mode = .off ∧ t.pins = { s.pins with porN := true })

/-- The inputs that end OFF (R50, R66, R68, R79). -/
def Obligations.PowerInputsInOff : Prop :=
  (∀ s : State, s.pins.plossN = true → exec .plossNFall s = .next { s with
    pins := { s.pins with plossN := false }, boot := { s.boot with plossFalling := s.pins.porN } }) ∧
  (∀ s : State, s.pins.plossN = false → exec .plossNFall s = .next s) ∧
  (∀ s : State, s.boot.plossLow = false → exec .plossNRise s = .next { s with
    pins := { s.pins with plossN := true }, boot := { s.boot with plossFalling := false } }) ∧
  (∀ s : State, s.mode = .off → s.pins.porN = true → s.pins.pwrGood = true → s.boot.plossLow = true → s.boot.offReason = .ploss →
    exec .plossNRise s = .next { s with
      pins := { s.pins with plossN := true },
      boot := { s.boot with plossFalling := false, plossLow := false, plossUp := s.ldg.tick, offCount := true } }) ∧
  (∀ s : State, s.mode = .off → s.pins.porN = true → s.pins.pwrGood = true → s.boot.plossLow = true → s.boot.offReason = .por →
    ∃ t, exec .plossNRise s = .next t ∧ t.mode = .strap ∧ t.pins.pwrHold = true) ∧
  (∀ s : State, s.mode = .off → s.pins.porN = true → s.plossHigh = true → s.boot.offReason = .ploss →
    exec .pwrGoodRise s = .next { s with pins := { s.pins with pwrGood := true }, boot := { s.boot with offCount := true } }) ∧
  (∀ s : State, s.mode = .off → s.pins.porN = true → s.plossHigh = true → s.boot.offReason = .por →
    ∃ t, exec .pwrGoodRise s = .next t ∧ t.mode = .strap ∧ t.pins.pwrHold = true) ∧
  (∀ s : State, s.mode = .off → s.pins.porN = true → s.pins.pwrGood = true → s.plossHigh = true → s.boot.offReason = .ploss →
    s.boot.offCount = true → ∃ t, exec .offExitCountExpiry s = .next t ∧ t.mode = .strap ∧ t.pins.pwrHold = true) ∧
  (∀ s : State, s.mode = .flush → ∃ t, exec .flushComplete s = .next t ∧ t.mode = .off ∧
    t.boot.offCount = (decide (s.pwr.flushFor = .ploss) && s.pins.pwrGood && s.plossHigh))

/-- A power loss in each mode (R50, R69 to R71, R77, R101). -/
def Obligations.PowerLossByMode : Prop :=
  (∀ s : State, s.boot.plossFalling = true → s.pins.plossN = false → s.pins.porN = true →
    s.mode ∈ [Mode.strap, .fill, .load, .train, .maintenance] →
    ∃ t, exec .plossNAssert s = .next t ∧ t.mode = .off ∧ t.pins.pwrHold = false ∧ t.boot.offReason = .ploss ∧
      t.boot.plossLow = true ∧ t.boot.offCount = false) ∧
  (∀ s : State, s.boot.plossFalling = true → s.pins.plossN = false → s.pins.porN = true →
    s.mode ∈ [Mode.service, .throttle, .drain, .doze] →
    ∃ t, exec .plossNAssert s = .next t ∧ t.mode = .flush ∧ t.host.cmds = []) ∧
  (∀ s : State, s.boot.plossFalling = true → s.pins.plossN = false → s.pins.porN = true → s.mode = .hibernate →
    s.rsv.test = none →
    ∃ t, exec .plossNAssert s = .next t ∧ t.mode = .hibernate ∧ bitOf (t.reg Reg.aonBoardCause) 0 = true) ∧
  (∀ s : State, (s.boot.plossFalling = false ∨ s.pins.plossN = true) → exec .plossNAssert s = .next s) ∧
  (∀ s : State, s.pins.pwrGood = true → s.pins.pwrHold = true → s.plossHigh = true →
    exec .pwrGoodDrop s = .next ((({ s with
      pins := { s.pins with pwrGood := false },
      boot := { s.boot with offCount := false, oscOk := s.boot.oscOk && !s.boot.waking } } : State).raise
        .boardCause 2).powerLoss .pwrGood)) ∧
  (∀ s : State, s.pins.pwrGood = true → (s.pins.pwrHold = false ∨ s.plossHigh = false) →
    exec .pwrGoodDrop s = .next { s with
      pins := { s.pins with pwrGood := false },
      boot := { s.boot with offCount := false, oscOk := s.boot.oscOk && !s.boot.waking } })

/-- STRAP (R58, R61, R77, R82, R83) and the rail timeout of a wake (R72). A PLL lock before the straps agree is kept (log entry 145). -/
def Obligations.StrapsAndOscillator : Prop :=
  (∀ (s : State) (v : BitVec 8), s.mode = .strap → s.boot.strapDone = false → s.boot.strapPrev ≠ some v → s.boot.strapCount < 31 →
    exec (.strapSample v) s = .next { s with boot := { s.boot with strapPrev := some v, strapCount := s.boot.strapCount + 1 } }) ∧
  (∀ (s : State) (v : BitVec 8), s.mode = .strap → s.boot.strapDone = false → s.boot.strapPrev = some v → s.boot.oscOk = false →
    ∃ t, exec (.strapSample v) s = .next t ∧ t.mode = .strap ∧ t.boot.strapDone = true ∧
      t.reg Reg.aonStrap = BitVec.ofNat 32 (v.toNat + 256 * (0x30 + getField v 0 4))) ∧
  (∀ (s : State) (v : BitVec 8) (us : Nat), s.mode = .strap → s.boot.strapDone = false → s.boot.strapPrev = some v →
    s.boot.oscOk = true → (s.setStrap v false).bootSel ≠ 3 → s.boot.pllLocked = some us →
    exec (.strapSample v) s = .next ((s.setStrap v false).strapEnds us) ∧ ((s.setStrap v false).strapEnds us).mode = .fill) ∧
  (∀ (s : State) (v : BitVec 8), s.mode = .strap → s.boot.strapDone = false → s.boot.strapPrev = some v →
    s.boot.oscOk = true → (s.setStrap v false).bootSel = 3 →
    ∃ t, exec (.strapSample v) s = .next t ∧ t.mode = .maintenance ∧ t.fld Reg.aonMode 8 4 = 1) ∧
  (∀ (s : State) (v : BitVec 8), s.mode = .strap → s.boot.strapDone = false → s.boot.strapPrev ≠ some v → s.boot.strapCount = 31 →
    s.boot.oscOk = true → ∃ t, exec (.strapSample v) s = .next t ∧ t.mode = .maintenance ∧ t.fld Reg.aonMode 8 4 = 2) ∧
  (∀ s : State, s.mode = .strap → s.boot.xtalStop = false → s.boot.strapDone = false →
    exec .oscillatorQualified s = .next { s with boot := { s.boot with oscOk := true } }) ∧
  (∀ (s : State) (us : Nat), s.mode = .strap → s.boot.xtalStop = false → s.boot.oscOk = true → s.boot.strapDone = true →
    ∃ t, exec (.pllLock us) s = .next t ∧ t.mode = .fill ∧ t.ldg.tick = 0 ∧ t.pins.ddrResetN = true ∧
      t.reg Reg.aonPhaseTime = BitVec.ofNat 32 us) ∧
  (∀ (s : State) (us : Nat), s.mode = .strap → s.boot.xtalStop = false → s.boot.oscOk = true → s.boot.strapDone = false →
    exec (.pllLock us) s = .next { s with boot := { s.boot with pllLocked := some us } }) ∧
  (∀ s : State, s.mode = .strap → s.pins.porN = true → s.boot.oscOk = false →
    ∃ t, exec .xtalFail s = .next t ∧ t.mode = .strap ∧ t.boot.xtalStop = true ∧ bitOf (t.reg Reg.aonStartCause) 0 = true) ∧
  (∀ s : State, s.mode = .hibernate → s.pins.porN = true → s.boot.waking = true → s.pins.pwrGood = false →
    ∃ t, exec .railTimeout s = .next t ∧ t.mode = .hibernate ∧ t.boot = s.boot ∧ t.pins = s.pins ∧
      bitOf (t.reg Reg.aonBoardCause) 1 = true)

/-- R504: time across HIBERNATE, and R154: the tick count resumes. -/
def Obligations.ResumeTime : Prop :=
  ∀ (s : State) (us : Nat), s.mode = .hibernate → s.boot.waking = true → s.pins.pwrGood = true → s.boot.xtalStop = false →
    s.boot.oscOk = true →
    ∃ t, exec (.pllLock us) s = .next t ∧ t.mode = .fill ∧ t.resuming = true ∧ t.ldg.tick = s.ldg.tick ∧
      (64 * t.pwr.time + t.pwr.frac) % 2 ^ 70 =
        (64 * s.pwr.time + ((s.pwr.rtc - s.pwr.rtcLatch).toNat * 1953125 + s.pwr.frac)) % 2 ^ 70 ∧
      t.pwr.frac < 64 ∧ t.pwr.uncertain = true

/-- FILL (R77, R84, R86). -/
def Obligations.FillEnds : Prop :=
  (∀ s : State, s.mode = .fill → s.boot.calDone = false → s.calValid = true → s.boot.banksLeft ≠ [] →
    exec .calRowReadDone s = .next { s with boot := { s.boot with calDone := true }, host := { s.host with cfgReady := true } }) ∧
  (∀ s : State, s.mode = .fill → s.boot.calDone = false → s.calValid = false →
    ∃ t, exec .calRowReadDone s = .next t ∧ t.mode = .maintenance ∧ t.fld Reg.aonMode 8 4 = 5) ∧
  (∀ (s : State) (b : Bank), s.mode = .fill → s.boot.calDone = false →
    exec (.bankFillDone b) s = .next { s with boot := { s.boot with banksLeft := s.boot.banksLeft.filter (fun x => decide (x ≠ b)) } }) ∧
  (∀ (s : State) (eyes : List LaneEye), s.mode = .fill → s.boot.dram = .sweeping → badLanes eyes false = [] → badLanes eyes true = [] →
    exec (.ddr5BootSweepDone eyes) s = .next { s with boot := { s.boot with erasedA := none, erasedB := none, dram := .filling } }) ∧
  (∀ (s : State) (eyes : List LaneEye) (n : Nat), s.mode = .fill → s.pins.porN = true → s.boot.dram = .sweeping →
    badLanes eyes false = [n] → badLanes eyes true = [] →
    ∃ t, exec (.ddr5BootSweepDone eyes) s = .next t ∧ t.mode = .fill ∧ t.boot.erasedA = some n ∧ t.boot.erasedB = none ∧
      t.boot.dram = .filling ∧ bitOf (t.reg Reg.aonStartCause) 2 = true) ∧
  (∀ (s : State) (eyes : List LaneEye), s.mode = .fill → s.boot.dram = .sweeping → 2 ≤ (badLanes eyes false).length →
    ∃ t, exec (.ddr5BootSweepDone eyes) s = .next t ∧ t.mode = .maintenance ∧ t.fld Reg.aonMode 8 4 = 6) ∧
  (∀ s : State, s.mode = .fill → s.boot.dram = .filling → s.boot.calDone = true → s.boot.banksLeft = [] → s.resuming = false →
    ∃ t, exec .dramFillDone s = .next t ∧ t.mode = .load ∧ t.boot.step = 1 ∧ t.boot.dram = .done) ∧
  (∀ s : State, s.mode = .fill → s.boot.dram = .filling → s.boot.calDone = true → s.boot.banksLeft = [] → s.resuming = true →
    ∃ t, exec .dramFillDone s = .next t ∧ t.mode = .load ∧ t.boot.step = 4 ∧ t.boot.slot = s.bootSlot)

/-- PERST_N, CLKREQ_N and the link (R35, R84, R99, R502). -/
def Obligations.PcieSideband : Prop :=
  (∀ s : State, s.islandOn .hst = true → s.mode ≠ .fill →
    ∃ t, exec .perstNAssert s = .next t ∧ t = ({ s with pins := { s.pins with perstN := false } } : State).pcieReset ∧
      t.mode = s.mode ∧ t.pins = { s.pins with perstN := false } ∧ t.nor = s.nor ∧ t.loops = s.loops ∧ t.rsv = s.rsv) ∧
  (∀ s : State, s.islandOn .hst = false → exec .perstNAssert s = .next { s with
    pins := { s.pins with perstN := false }, host := { s.host with linkUp := false } }) ∧
  (∀ s : State, s.pins.perstN = false →
    exec .perstNRelease s = .next (({ s with pins := { s.pins with perstN := true } } : State).wakeEvent 2)) ∧
  (∀ s : State, s.pins.perstN = true → exec .perstNRelease s = .next s) ∧
  (∀ s : State, s.wakeEnabled 1 = true → s.mode = .hibernate → s.pwr.sleep = none → s.pwr.wakeSrc = none →
    exec .clkreqNAssert s = .next { s with
      pwr := { s.pwr with wakeSeen := some (1, s.ldg.tick), wakeSrc := some 1 }, mgt := { s.mgt with clockStopped := false } }) ∧
  (∀ s : State, s.wakeEnabled 1 = false → exec .clkreqNAssert s = .next s) ∧
  (∀ (s : State) (gen width mps : Nat), s.islandOn .hst = true → s.pins.perstN = true →
    exec (.pcieLinkUp ⟨gen, width, mps⟩) s = .next { s with
      host := { s.host with linkUp := true, linkGen := gen, linkWidth := width, linkMps := mps } }) ∧
  (∀ (s : State) (gen width mps : Nat), s.pins.perstN = false → exec (.pcieLinkUp ⟨gen, width, mps⟩) s = .next s) ∧
  (∀ s : State, s.islandOn .hst = true → exec .pcieLinkDown s = .next { s with host := { s.host with linkUp := false } })

/-- LOAD and TRAIN (R77, R86, R87, R88, R91, R93, R95, R106). -/
def Obligations.LoadAndTrain : Prop :=
  (∀ (s : State) (ids : List (Nat × BitVec 64)) (misfit : List Nat), s.mode = .load → s.boot.step = 1 → s.boot.slot = none → s.bootSel = 1 →
    ∃ t, exec (.loadStepComplete ids misfit) s = .next t ∧ t.mode = .load ∧ t.boot.step = 2 ∧ t.boot.slot = some .a) ∧
  (∀ (s : State) (ids : List (Nat × BitVec 64)) (misfit : List Nat), s.mode = .load → s.boot.step = 2 →
    exec (.loadStepComplete ids misfit) s = .next { s with boot := { s.boot with step := 3 } }) ∧
  (∀ (s : State) (ids : List (Nat × BitVec 64)) (misfit : List Nat) (x : Slot), s.mode = .load → s.boot.step = 3 → s.boot.slot = some x →
    exec (.loadStepComplete ids misfit) s = .next (if s.slotReason x = 0 then { s.setSlotReason x 0 with boot := { s.boot with step := 4 } }
      else s.slotFail x (s.slotReason x))) ∧
  (∀ (s : State) (ids : List (Nat × BitVec 64)) (misfit : List Nat), s.mode = .load → s.boot.step = 9 →
    ∃ t, exec (.loadStepComplete ids misfit) s = .next t ∧ t.mode = .train ∧ t.boot.step = 0 ∧ t.boot.faults = 0 ∧ t.boot.levelsDone = 0) ∧
  (∀ (s : State) (ids : List (Nat × BitVec 64)) (misfit : List Nat), s.mode = .load → s.boot.step = 8 → s.resuming = true →
    ∃ t, exec (.loadStepComplete ids misfit) s = .next t ∧ t.mode = .train ∧ t.boot.levelsDone = 0 ∧ t.boot.chVerify = t.boot.chLeft) ∧
  (∀ (s : State) (eyes : List LaneEye), s.mode = .train → s.boot.levelsDone < 4 → s.boot.verify = false →
    badLanes eyes false = [] → badLanes eyes true = [] →
    exec (.ddr5LevelSweepDone eyes) s = .next (s.storeEyes (3 - s.boot.levelsDone) eyes).levelDone) ∧
  (∀ (s : State) (eyes : List LaneEye) (n : Nat), s.mode = .train → s.pins.porN = true → s.boot.levelsDone < 4 →
    s.boot.verify = false → badLanes eyes false = [n] → badLanes eyes true = [] → s.boot.erasedA = none →
    ∃ t, exec (.ddr5LevelSweepDone eyes) s = .next t ∧ t.mode = .train ∧ t.boot.erasedA = some n ∧
      t.boot.levelsDone = s.boot.levelsDone + 1 ∧ bitOf (t.reg Reg.aonStartCause) 2 = true) ∧
  (∀ (s : State) (eyes : List LaneEye), s.mode = .train → s.boot.levelsDone < 4 → s.boot.verify = false →
    2 ≤ (badLanes eyes false).length →
    ∃ t, exec (.ddr5LevelSweepDone eyes) s = .next t ∧ t.mode = .maintenance ∧ t.fld Reg.aonMode 8 4 = 6) ∧
  (∀ (s : State) (eyes : List LaneEye), s.mode = .train → s.boot.levelsDone < 4 → s.boot.verify = true → s.eyesHold eyes = true →
    exec (.ddr5LevelSweepDone eyes) s = .next s.levelDone) ∧
  (∀ (s : State) (eyes : List LaneEye), s.mode = .train → s.boot.levelsDone < 4 → s.boot.verify = true → s.eyesHold eyes = false →
    exec (.ddr5LevelSweepDone eyes) s = .next { s with boot := { s.boot with verify := false } }) ∧
  (∀ (s : State) (c rd wr : Nat), s.mode = .train → c ∈ s.boot.chLeft → c ∉ s.boot.chVerify → 20 ≤ rd → 20 ≤ wr →
    exec (.channelSweepDone c rd wr) s = .next ((s.storeEye (Reg.medChTrain + 4 * c)
      (BitVec.ofNat 32 (rd % 256 + 256 * (wr % 256) + 2 ^ 16 * (s.fld (Reg.medChTrain + 4 * c) 16 2 + 1)))).chDone c)) ∧
  (∀ (s : State) (c rd wr : Nat), s.mode = .train → c ∈ s.boot.chLeft → c ∈ s.boot.chVerify → 20 ≤ rd → 20 ≤ wr →
    exec (.channelSweepDone c rd wr) s = .next (s.chDone c)) ∧
  (∀ s : State, s.mode = .train → s.boot.levelsDone = 4 → s.boot.chLeft = [] →
    ∃ t, exec .sensorSelfCheckDone s = .next t ∧ t.mode = .service)

/-- Folio boundaries, DRAIN and FLUSH (R77, R157, R316, R399, R400). -/
def Obligations.ServiceDrainFlush : Prop :=
  (∀ s : State, s.mode = .service → s.pwr.sleep = none → s.ldg.folioStart + 1310720 ≤ s.ldg.tick →
    exec .folioBoundary s = .next ((({ s with ldg := { s.ldg with
      folioStart := s.ldg.folioStart + 1310720, folio := s.ldg.folio + 1,
      folios := s.ldg.folios + 1 } } : State).countCool.switchPlan none).followThrottle.resumeWork)) ∧
  (∀ s : State, s.ldg.tick < s.ldg.folioStart + 1310720 → exec .folioBoundary s = .next s) ∧
  (∀ (s : State) (shn : Nat), s.islandOn .hst = true → (s.mode = .service ∨ s.mode = .throttle) → (shn = 1 ∨ shn = 2) →
    ∃ t, exec (.shutdownNotification shn) s = .next t ∧ t.mode = .drain ∧ t.pwr.drainFor = some .shutdown ∧ t.pwr.drained = false) ∧
  (∀ s : State, s.islandOn .hst = true → (s.mode = .service ∨ s.mode = .throttle) →
    ∃ t, exec (.nssrWrite 0x4E564D65#32) s = .next t ∧ t.mode = .drain ∧ t.pwr.drainFor = some .restart) ∧
  (∀ (s : State) (v : BitVec 32), v ≠ 0x4E564D65#32 → exec (.nssrWrite v) s = .next s) ∧
  (∀ s : State, s.mode = .drain → s.pwr.drained = false → s.host.cmds = [] → s.nor.op = none → s.allSettled = true →
    ∃ t, exec .drainComplete s = .next t ∧
      (s.pwr.drainFor = some .shutdown → t.mode = .drain ∧ t.pwr.drained = true) ∧
      (s.pwr.drainFor = some .restart → t.mode = .strap ∧ t.pins.pwrHold = true ∧ t.boot.fromOff = false) ∧
      (s.pwr.drainFor = some .maintenance → t.mode = .maintenance) ∧
      (s.pwr.drainFor = some .thermal → t.mode = .flush)) ∧
  (∀ s : State, s.mode = .flush → ∃ t, exec .flushComplete s = .next t ∧ t.mode = .off ∧ t.pins.pwrHold = false)

/-- Processors and the watchdog (R33, R126, R451, R530, R557). -/
def Obligations.ProcessorsAndWatchdog : Prop :=
  (∀ (s : State) (n : Fin 4), s.islandOn .mdp = true → n.val ∉ s.mgt.mdpDown → s.kmOwner ≠ 1 + n.val →
    exec (.processorFault (.mdp n)) s = .next { s with mgt := { s.mgt with mdpDown := n.val :: s.mgt.mdpDown } }) ∧
  (∀ s : State, s.islandOn .mgt = true → s.mgt.mp = .running → s.mode ≠ .load →
    ∃ t, exec (.processorFault .mp) s = .next t ∧ t.mode = s.mode ∧ t.mgt.mp = .restarting ∧ t.mgt.clockStopped = false ∧
      t.nor.busFault = none) ∧
  (∀ s : State, s.mgt.mp = .restarting →
    exec (.islandRestartComplete .mp) s = .next (s.mpRelease.raise .mgtCause 2).updRestart ∧
    s.mpRelease.mgt.mp = .running ∧ s.mpRelease.fld Reg.mgtWdogStatus 0 17 = 65536) ∧
  (∀ (s : State) (n : Fin 4), exec (.islandRestartComplete (.mdp n)) s = .next { s with
    mgt := { s.mgt with mdpDown := s.mgt.mdpDown.filter (fun m => decide (m ≠ n.val)) } }) ∧
  (∀ s : State, s.mpActs = true → exec (.watchdogKick 0xA5C3) s = .next (s.setFld Reg.mgtWdogStatus 0 17 65536)) ∧
  (∀ (s : State) (k : BitVec 16), s.mpActs = true → k ≠ 0xA5C3 →
    exec (.watchdogKick k) s = .next (s.raise .mgtCause 1).watchdogExpire) ∧
  (∀ s : State, s.mpActs = true → s.fld Reg.mgtWdogStatus 0 17 = 0 → s.nor.op.isSome = true →
    ∃ t, exec .watchdogExpiry s = .next t ∧ t.mgt.mp = .halted ∧ t.nor.haltMp = true ∧ t.nor.op = s.nor.op ∧ t.mode = s.mode) ∧
  (∀ s : State, s.mpActs = true → (s.mode = .doze ∨ s.mode = .maintenance) →
    exec .mgtClockStop s = .next { s with mgt := { s.mgt with clockStopped := true, stopped := 0 } }) ∧
  (∀ s : State, exec .mgtClockRestart s = .next { s with mgt := { s.mgt with clockStopped := false } })

/-! ## The boot flash and the fabric -/

/-- Starts of NOR operations (R109, R111, R113, R129) and the busy-bank fault (R110). -/
def Obligations.NorStarts : Prop :=
  (∀ (s : State) (pages : Nat) (data : List Byte), s.mpActs = true →
    (s.setFetchBank none).norRefusal .program (s.fld Reg.norOpAddr 0 27) pages = 0 →
    ∃ t, exec (.norProgram pages data none) s = .next t ∧
      t.nor = { s.nor with op := some ⟨.mp, .program, s.fld Reg.norOpAddr 0 27, data.take (256 * pages)⟩ } ∧
      t.fld Reg.norOpStatus 2 2 = 0 ∧ t.fld Reg.norOpStatus 4 3 = 0) ∧
  (∀ s : State, s.mpActs = true → (s.setFetchBank none).norRefusal .subsector (s.fld Reg.norOpAddr 0 27) 0 = 0 →
    ∃ t, exec (.norSubsectorErase none) s = .next t ∧
      t.nor = { s.nor with op := some ⟨.mp, .subsector, s.fld Reg.norOpAddr 0 27, []⟩ }) ∧
  (∀ s : State, s.mpActs = true → (s.setFetchBank none).norRefusal .sector (s.fld Reg.norOpAddr 0 27) 0 = 0 →
    ∃ t, exec (.norSectorErase none) s = .next t ∧
      t.nor = { s.nor with op := some ⟨.mp, .sector, s.fld Reg.norOpAddr 0 27, []⟩ }) ∧
  (∀ (s : State) (f : Option Nat), s.mpActs = true → s.nor.op.isSome = true →
    ∃ t, exec (.norSectorErase f) s = .next t ∧ t.nor = s.nor ∧ t.fld Reg.norOpStatus 2 2 = 1 ∧ t.fld Reg.norOpStatus 4 3 = 1) ∧
  (∀ (s : State) (a : Nat) (o : NorOp), s.nor.op = some o → norBank o.addr = norBank a → s.islandOn .mgt = true →
    ∃ t, exec (.busyBankFault a false) s = .next t ∧ t.nor = { s.nor with busFault := some (a, false) } ∧
      bitOf (t.reg Reg.norCause) 0 = true)

/-- What a successful operation leaves in the device (R108, R109, R130; the AND is log entry 13). -/
def Obligations.NorProgramClearsBits : Prop :=
  ∀ (s : State) (o : NorOp), Canonical s → s.nor.op = some o → o.owner = .mp → s.nor.haltMp = false → s.nor.resumeDue = false →
    s.nor.calWaiter = none → s.nor.update = none → s.evt.rdWait = false → s.evt.clearing = none →
    ∃ t, exec (.norOpComplete true) s = .next t ∧ t.nor.op = none ∧
      (o.kind = .program → ∀ a,
        (∀ i, a = o.addr + i → (h : i < o.data.length) → t.norByte a = s.norByte a &&& o.data[i]) ∧
        (a < o.addr ∨ o.addr + o.data.length ≤ a → t.norByte a = s.norByte a)) ∧
      (o.kind ≠ .program → ∀ a,
        ((opRange o.kind o.addr 0).1 ≤ a ∧ a < (opRange o.kind o.addr 0).1 + (opRange o.kind o.addr 0).2 → t.norByte a = 0xFF) ∧
        (a < (opRange o.kind o.addr 0).1 ∨ (opRange o.kind o.addr 0).1 + (opRange o.kind o.addr 0).2 ≤ a →
          t.norByte a = s.norByte a))

/-- Crossing faults (R17; the count and the free status of an ended write are log entries 127 and 14), crossbar refusals and meetings
(R18, R19, R189) and doorbells (R562). -/
def Obligations.FabricAndDoorbells : Prop :=
  (∀ (s : State) (p : Nat) (tg : XbarTarget) (w : Bool) (a : Nat), p < 16 → s.xbarOk p tg w a = false →
    exec (.crossbarRefusal ⟨p, []⟩ tg w a) s = .next { s with xfr := { s.xfr with xbarErr := some ⟨p, a, true, !w⟩ } }) ∧
  (∀ (s : State) (p : Nat) (tg : XbarTarget) (w : Bool) (a : Nat), p < 16 → s.xbarOk p tg w a = true →
    exec (.crossbarRefusal ⟨p, []⟩ tg w a) s = .next s) ∧
  (∀ (s : State) (p q v n : Nat) (w : Bool) (a : Nat), p < 15 → q < 15 → p ≠ q →
    xbarListed s.mode p .mem w = true → xbarListed s.mode q .mem w = true → cget 0 s.xfr.xbarPtr 1 = v → v < 16 →
    n = (if (p + 16 - v) % 16 < (q + 16 - v) % 16 then p else q) →
    exec (.crossbarRefusal ⟨p, [q]⟩ .mem w a) s = .next { s with xfr := { s.xfr with
      xbarPtr := cset 0 s.xfr.xbarPtr 1 ((n + 1) % 16) } }) ∧
  (∀ (s : State) (h i : Nat) (c : Cmd) (x : Sec), s.sec h i = some (c, x) → crossEffect (writeType c.op && !x.copySrc) x.st = .write →
    c.secured = false → exec (.crossingFault h i) s = .next ((({ s with
      host := { s.host with crossFaults := s.host.crossFaults + 1 } } : State).endWrite h (stOpen 1)).kick)) ∧
  (∀ (s : State) (h i : Nat) (c : Cmd) (x : Sec), s.sec h i = some (c, x) → crossEffect (writeType c.op && !x.copySrc) x.st = .decode →
    exec (.crossingFault h i) s = .next ((({ s with
      host := { s.host with crossFaults := s.host.crossFaults + 1 } } : State).failDecode h i c x).kick)) ∧
  (∀ (s : State) (h i : Nat) (c : Cmd) (x : Sec), s.sec h i = some (c, x) → crossEffect (writeType c.op && !x.copySrc) x.st = .stage →
    exec (.crossingFault h i) s = .next ((({ s with
      host := { s.host with crossFaults := s.host.crossFaults + 1 } } : State).stageFails h i c x).kick)) ∧
  (∀ (s : State) (h i l : Nat) (c : Cmd) (x : Sec), s.sec h i = some (c, x) → x.st = .consumed → c.lane = some l →
    exec (.crossingFault h i) s = .next (({ s with
      host := { s.host with crossFaults := s.host.crossFaults + 1 } } : State).mintEnd l stUnrecoveredRead)) ∧
  (∀ (s : State) (h i : Nat) (c : Cmd) (x : Sec), s.sec h i = some (c, x) → x.st = .left →
    exec (.crossingFault h i) s = .next { s with host := { s.host with crossFaults := s.host.crossFaults + 1 } }) ∧
  (∀ (s : State) (f qid v : Nat) (q : CqSt), s.islandOn .hst = true → s.host.linkUp = true →
    ofind (s.ctrl f).cqs qid = some q → v < q.size →
    exec (.doorbellWrite f qid true v) s = .next (s.setCtrl f { s.ctrl f with cqs := oput (s.ctrl f).cqs qid { q with head := v } })) ∧
  (∀ (s : State) (f qid v i : Nat) (q : IoQueue), s.islandOn .hst = true → s.host.linkUp = true → qid ≠ 0 →
    s.findQueue f qid = some (i, q) → v < q.size →
    exec (.doorbellWrite f qid false v) s = .next ((s.setQueue i { q with
      tail := v, waiting := q.waiting + (v + q.size - q.tail) % q.size }).queueReads f 0 i ((v + q.size - q.tail) % q.size))) ∧
  (∀ (s : State) (f qid v i : Nat) (q : IoQueue), s.islandOn .hst = true → s.host.linkUp = true → qid ≠ 0 →
    s.findQueue f qid = some (i, q) → q.size ≤ v →
    exec (.doorbellWrite f qid false v) s = .next (s.asyncEvent f 0x00010100#32))

/-! ## Host commands -/

/-- How commands enter, arrive and are accepted (R133, R135, R143, R296, R298). -/
def Obligations.CommandsEnter : Prop :=
  (∀ (s : State) (k : Nat) (e : Sqe) (rs : List LbaRange) (q : IoQueue), ofind s.host.queues k = some q → q.slice = none →
    s.entriesOut q.func k < q.waiting → s.host.linkUp = true → (s.ctx q.func).halted = false →
    s.fetches q.func q.func e.nsid = true →
    ∃ s1 : State, s1 = s.setQueue k { q with waiting := q.waiting - 1 } ∧
      exec (.commandFetch k e rs) s = .next (s1.fetchCmd (s1.newCmd e rs .pcie false k q.func q.func))) ∧
  (∀ (s : State) (k b : Nat) (e : Sqe) (rs : List LbaRange) (q : Qp), s.islandOn .net = true → ofind s.net.qps k = some q →
    q.error = false → bitOf (s.reg (Reg.netPortStatus + 4 * q.port)) 0 = true → q.queue ≠ none → q.queue ≠ some 0 →
    s.memberActive q.account = true → s.mode = .service → s.pwr.sleep = none →
    (s.rxLevel q.port b).fetches q.account q.account e.nsid = true →
    exec (.capsuleReceive k e rs b) s = .next ((s.rxLevel q.port b).fetchCmd ((s.rxLevel q.port b).newCmd e rs
      (if q.port = 0 then .eth0 else .eth1) true k q.account q.account))) ∧
  (∀ (s : State) (k b : Nat) (e : Sqe) (rs : List LbaRange) (q : Qp), s.islandOn .net = true → ofind s.net.qps k = some q →
    q.error = false → bitOf (s.reg (Reg.netPortStatus + 4 * q.port)) 0 = true → q.queue ≠ none → q.queue ≠ some 0 →
    s.mode = .drain → exec (.capsuleReceive k e rs b) s = .next ((s.rxLevel q.port b).sendFrame (.rnrNak k))) ∧
  (∀ (s : State) (h : Nat) (c : Cmd), s.cmd h = some c → modeLedger s.mode = true → s.canArrive c = true →
    s.host.cmds.any (fun e => decide (e.2.phase = .arrived) || (arrivesFirst e.2 c && s.canArrive e.2)) = false →
    ∃ (s1 : State) (c1 : Cmd), s1 = { s with db := { s.db with nextSeq := s.db.nextSeq + 1 } } ∧
      c1 = { c.waited c.fetchTick s.ldg.tick with
        phase := .arrived, arrival := s.ldg.tick, seq := s.db.nextSeq, level := s.level } ∧
      (s1.firstCheck c1 = none → exec (.commandArrival h) s = .next (s1.setCmd h c1)) ∧
      (∀ st, s1.firstCheck c1 = some st → exec (.commandArrival h) s = .next (s1.toPost h c1 st))) ∧
  (∀ (s : State) (h : Nat) (c : Cmd) (x : Ns), s.cmd h = some c → c.phase = .accepting → c.op = .read → (s.stamp h 1).ns c.nsid = some x →
    (s.stamp h 1).doorRefused c = false →
    ∃ c1 : Cmd, c1 = { c with phase := .running, waitFrom := (s.stamp h 1).ldg.tick, secs := c.secs.map (startSec x.zoned false) } ∧
      exec (.acceptanceEnd h) s = .next ((((s.stamp h 1).setCmd h c1).setRec c.seq (acceptedRec c1)).registerKick.kick))

/-- The read-type and no-data commands at acceptance (R143, R231, R285, R306, R312, R393). -/
def Obligations.IoReadForms : Prop :=
  (∀ (s : State) (h : Nat) (c : Cmd), s.cmd h = some c → c.phase = .arrived → c.op = .flush →
    exec (.flush h) s = .next (s.setCmd h { c with phase := .accepting })) ∧
  (∀ (s : State) (h : Nat) (c : Cmd) (x : Ns), s.arrivedCmd h (fun o => decide (o = .read)) = some (c, x) → rangeCheck c x = none →
    (x.zoned && s.offlineIn x (lbas c.slba c.count)) = false →
    ∃ c1 : Cmd, c1 = { c with secs := (lbas c.slba c.count).map (fun a => s.readSec c.nsid a x false), phase := .accepting } ∧
      ((s.needsKey c1.secs = false ∨ s.xtsReady (nsOwner x) = true) →
        exec (.read h) s = .next ((s.setCmd h c1).traceStart h c1 x.zoned)) ∧
      (s.needsKey c1.secs = true → s.xtsReady (nsOwner x) = false → exec (.read h) s = .next (s.denyKey h c))) ∧
  (∀ (s : State) (h : Nat) (c : Cmd) (x : Ns) (t : Status), s.arrivedCmd h (fun o => decide (o = .read)) = some (c, x) →
    rangeCheck c x = some t → exec (.read h) s = .next (s.toPost h c t)) ∧
  (∀ (s : State) (h : Nat) (c : Cmd) (x : Ns), s.arrivedCmd h (fun o => decide (o = .dsm)) = some (c, x) →
    c.ranges.length = getField c.sqe.cdw10 0 8 + 1 → (∀ r ∈ c.ranges, r.count ≤ 262144 ∧ r.slba + r.count ≤ x.size) →
    sumOf (c.ranges.map (·.count)) ≤ 16777216 →
    (bitOf c.sqe.cdw11 2 = false → exec (.datasetManagement h) s = .next (s.toPost h c stOk)) ∧
    (bitOf c.sqe.cdw11 2 = true → exec (.datasetManagement h) s = .next (s.setCmd h { c with phase := .accepting }))) ∧
  (∀ (s : State) (h : Nat) (c : Cmd) (x : Ns), s.arrivedCmd h (fun o => decide (o = .report)) = some (c, x) →
    getField c.sqe.cdw13 0 8 ≠ 0 → exec (.reportZones h) s = .next (s.toPost h c stInvalidField)) ∧
  (∀ (s : State) (h : Nat) (c : Cmd) (x : Ns), s.arrivedCmd h (fun o => decide (o = .report)) = some (c, x) →
    getField c.sqe.cdw13 0 8 = 0 → getField c.sqe.cdw13 8 8 ≤ 7 → c.slba < x.size →
    ∃ bs : List Byte, exec (.reportZones h) s = .next ((s.dataToHost bs).setCmd h { c with phase := .accepting }) ∧
      bs.length ≤ 4 * (c.sqe.cdw12.toNat + 1))

/-- The write-type commands at acceptance (R145, R285, R301, R310, R313, R314). -/
def Obligations.IoWriteForms : Prop :=
  (∀ (s : State) (h : Nat) (c : Cmd) (x : Ns), s.arrivedCmd h (fun o => decide (o = .write)) = some (c, x) →
    (rangeCheck c x = none → exec (.write h) s = .next (s.tryWrite h c x [] .fetching)) ∧
    (∀ t, rangeCheck c x = some t → exec (.write h) s = .next (s.toPost h c t))) ∧
  (∀ (s : State) (h : Nat) (c : Cmd) (x : Ns), s.arrivedCmd h (fun o => decide (o = .writeZeroes)) = some (c, x) →
    rangeCheck c x = none →
    (x.zoned = false → exec (.writeZeroes h) s = .next (s.setCmd h { c with phase := .accepting })) ∧
    (x.zoned = true → exec (.writeZeroes h) s = .next (s.tryWrite h c x [] .zeroFill))) ∧
  (∀ (s : State) (h : Nat) (c : Cmd) (x : Ns), s.arrivedCmd h (fun o => decide (o = .copy)) = some (c, x) →
    (x.zoned && s.offlineIn x (readLbas c)) = false → getField c.sqe.cdw12 8 4 = (if x.format = 2 then 1 else 0) → c.ranges.length = getField c.sqe.cdw12 0 8 + 1 → c.ranges.length ≤ 32 →
    (∀ r ∈ c.ranges, 1 ≤ r.count ∧ r.count ≤ 64 ∧ r.slba + r.count ≤ x.size) → c.count ≤ 64 → c.slba + c.count ≤ x.size →
    dtypeOk c.sqe = true →
    exec (.copy h) s = .next (s.tryWrite h c x ((readLbas c).map (fun a => s.readSec c.nsid a x true)) .fetching)) ∧
  (∀ (s : State) (h z : Nat) (c : Cmd) (x : Ns) (a : Activation), s.arrivedCmd h (fun o => decide (o = .append)) = some (c, x) →
    c.slba % zoneSectors = 0 → c.slba < x.size → c.count ≤ maxSectors → dtypeOk c.sqe = true → ilbrtOk c.sqe x.format = true →
    s.xtsReady (nsOwner x) = true → c.zone = some z → s.zoneCheck c z (s.zone z).wp c.count true = (none, a) →
    ∃ lba, lba = c.slba + (s.zone z).wp ∧
      exec (.zoneAppend h) s = .next (s.acceptWrite h { c with dw0 := lba % 2 ^ 32, dw1 := lba / 2 ^ 32 } x lba [] .fetching))

/-- Zone Management Send (R217 to R221, R309). -/
def Obligations.ZoneSends : Prop :=
  (∀ (s : State) (h : Nat) (c : Cmd) (x : Ns) (all : Bool), s.sendCmd h 1 = some (c, x, all) →
    s.sendCheck c x all (fun t => isOpen t || decide (t = .closed)) = none →
    exec (.zoneClose h) s = .next (((s.sendZones c x (fun t => isOpen t || decide (t = .closed))).foldl
      (fun (s : State) z => s.setZone z { s.zone z with state := .closed }) s).setCmd h { c with phase := .accepting })) ∧
  (∀ (s : State) (h : Nat) (c : Cmd) (x : Ns) (all : Bool) (t : Status), s.sendCmd h 1 = some (c, x, all) →
    s.sendCheck c x all (fun t => isOpen t || decide (t = .closed)) = some t → exec (.zoneClose h) s = .next (s.toPost h c t)) ∧
  (∀ (s : State) (h : Nat) (c : Cmd) (x : Ns), s.sendCmd h 2 = some (c, x, true) →
    s.sendCheck c x true (fun t => isOpen t || decide (t = .closed)) = none →
    exec (.zoneFinish h) s = .next ((s.waitIn h (s.sendZones c x (fun t => isOpen t || decide (t = .closed)))).setCmd h
      { c with phase := .accepting })) ∧
  (∀ (s : State) (h : Nat) (c : Cmd) (x : Ns), s.sendCmd h 3 = some (c, x, true) → c.zone = none →
    s.sendCheck c x true (fun t => decide (t = .closed)) = none → s.sendZones c x (fun t => decide (t = .closed)) = [] →
    exec (.zoneOpen h) s = .next (s.setCmd h { c with phase := .accepting })) ∧
  (∀ (s : State) (h z : Nat) (c : Cmd) (x : Ns), s.sendCmd h 3 = some (c, x, false) → c.zone = some z → (s.zone z).state = .closed →
    (s.zone z).active = true → (s.zone z).wp ≠ 0 →
    s.sendCheck c x false (fun t => decide (t = .closed) || (isOpen t || decide (t = .empty))) = none →
    s.sendZones c x (fun t => decide (t = .closed) || (isOpen t || decide (t = .empty))) = [z] →
    exec (.zoneOpen h) s = .next ((s.setZone z { s.zone z with state := .explicitOpen }).setCmd h { c with phase := .accepting })) ∧
  (∀ (s : State) (h : Nat) (c : Cmd) (x : Ns), s.sendCmd h 4 = some (c, x, true) →
    s.sendCheck c x true (fun t => isOpen t || decide (t = .closed) || decide (t = .full)) = none →
    exec (.zoneReset h) s = .next ((s.waitIn h (s.sendZones c x (fun t => isOpen t || decide (t = .closed) || decide (t = .full)))).setCmd
      h { c with phase := .accepting })) ∧
  (∀ (s : State) (h : Nat) (c : Cmd) (x : Ns) (all : Bool), s.sendCmd h 5 = some (c, x, all) →
    s.sendCheck c x all (fun t => decide (t = .readOnly)) = none →
    exec (.zoneOffline h) s = .next (((s.sendZones c x (fun t => decide (t = .readOnly))).foldl
      (fun (s : State) z => s.setZone z { s.zone z with state := .offline, holder := false }) s).setCmd h
        { c with phase := .accepting })) ∧
  (∀ (s : State) (h : Nat) (c : Cmd) (x : Ns) (all : Bool), s.sendCmd h 0x10 = some (c, x, all) →
    exec (.setZoneDescriptorExtension h) s = .next (s.toPost h c stInvalidField))

/-! ## The path of a sector -/

/-- The steps of a read sector from lookup to egress (R139, R142, R146, R179, R180, R395, R437, R445). -/
def Obligations.ReadSectorSteps : Prop :=
  (∀ (s : State) (h a : Nat) (errs : List SymErr) (c : Cmd), s.cmd h = some c → c.phase = .running → (nextLine c).isEmpty = false →
    c.op = .read → s.dramPoisoned a errs = false →
    exec (.mapLookupEnd h a errs false) s = .next ((((((s.dramRecord a errs).closeRow a).setCmd h { c with
      secs := (nextLine c).foldl (fun (l : List Sec) i =>
        match l[i]? with | some x => l.set i (s.lookedUp false x) | none => l) c.secs }).readKick h).registerKick))) ∧
  (∀ (s : State) (h i : Nat) (c : Cmd) (x : Sec), s.sec h i = some (c, x) → x.st = .decoded → s.mem.wiping = false →
    x.poison = false → x.xts.isSome = true → c.op = .read →
    exec (.xtsStageEnd h i true) s = .next (((s.addBlocks (x.die % 32) 257).stamp h 6).setSec h i { x with st := .clear }) ∧
    exec (.xtsStageEnd h i false) s = .next (s.failDecode h i c x)) ∧
  (∀ (s : State) (h i : Nat) (c : Cmd) (x : Sec), s.sec h i = some (c, x) → x.st = .decoded → s.mem.wiping = false →
    x.poison = false → x.xts = none → c.op = .read →
    exec (.xtsStageEnd h i true) s = .next (((s.raise .cryCause 2).setCmd h { c with
      status := stAccessDenied, secs := c.secs.set i { x with st := .withdrawn } }).readKick h)) ∧
  (∀ (s : State) (h i : Nat) (c : Cmd) (x : Sec), s.sec h i = some (c, x) → x.st = .sealed → s.mem.wiping = false →
    x.poison = false → x.xts.isSome = true →
    exec (.xtsStageEnd h i true) s = .next (((s.addBlocks (32 + x.stream) 257).stamp h 4).setSec h i { x with st := .encrypted }) ∧
    exec (.xtsStageEnd h i false) s = .next (s.endWrite h stInternalError).kick) ∧
  (∀ (s : State) (h i : Nat) (c : Cmd) (x : Sec), s.sec h i = some (c, x) → x.st = .clear → s.keyMatches c x = true →
    appTagFails c x (s.fmtOf c) = false → c.op = .read →
    exec (.sealCheckEnd h i true) s = .next ((s.stamp h 7).setCmd h { c with
      secs := c.secs.set i { x with st := .checked, slotAt := s.exitSlot c x } }) ∧
    exec (.sealCheckEnd h i false) s = .next (s.failDecode h i c x)) ∧
  (∀ (s : State) (h i : Nat) (c : Cmd) (x : Sec), s.sec h i = some (c, x) → c.op = .read → x.st = .checked → x.zero = false →
    x.level < 3 → (s.tickTo x.slotAt).doorPaused c.door = false → (s.tickTo x.slotAt).rateHolds c = false →
    (s.tickTo x.slotAt).mayLeave c x = true →
    exec (.egressSlotStart h i true) s = .next ((s.tickTo x.slotAt).beginEgress h i c x x.slotAt) ∧
    exec (.egressSlotStart h i false) s = .next (((s.tickTo x.slotAt).setCmd h
      { c with status := stUnrecoveredRead, secs := c.secs.set i { x with st := .withdrawn } }).readKick h)) ∧
  (∀ (s : State) (h i : Nat) (g : Bool) (c : Cmd) (x : Sec), s.sec h i = some (c, x) → c.op = .read → x.st = .checked →
    x.zero = false → x.level < 3 →
    ((s.tickTo x.slotAt).doorPaused c.door = true ∨ (s.tickTo x.slotAt).rateHolds c = true) →
    exec (.egressSlotStart h i g) s = .next ((s.tickTo x.slotAt).setSec h i
      { x with readyAt := (s.tickTo x.slotAt).waitMark x.readyAt })) ∧
  (∀ (s : State) (h i : Nat) (pages : List (BitVec 64)) (c : Cmd) (x : Sec), s.sec h i = some (c, x) → x.st = .leaving →
    s.logging c.account = false → c.silent = false →
    ∃ s1 : State, s1 = s.setCmd h (s.egressWait c x) ∧
      exec (.egressEnd h i pages) s = .next ((((({ s1 with host := { s1.host with
        sent := ⟨c.account, c.sqe.cid, i, x.payload, if s.fmtOf c = 0 || sqePract c.sqe then 0 else x.appTag, s.slicePasid c.member⟩ ::
          s1.host.sent } } : State).stamp h 8).setSec h i { x with st := .left }).readKick h).kick))

/-- Zero reads (R145, R171, R592) and completions (R133, R342). -/
def Obligations.ZeroReadsAndCompletions : Prop :=
  (∀ (s : State) (h : Nat) (c : Cmd) (x : Sec), s.sec h 0 = some (c, x) → c.op = .read → x.st = .checked → x.zero = true →
    s.doorPaused c.door = false → s.rateHolds c = false → s.doorBusy c.door = false → s.wireFree (doorNum c.door) = true →
    exec (.zeroReadEgress h 0) s = .next ((s.charge c.member ⟨0, 0, 1⟩).beginEgress h 0 c x x.readyAt)) ∧
  (∀ (s : State) (h i : Nat) (c : Cmd) (x : Sec), s.sec h i = some (c, x) → c.op = .read → x.st = .checked → x.zero = true →
    (s.doorPaused c.door = true ∨ s.rateHolds c = true ∨ s.doorBusy c.door = true ∨ s.wireFree (doorNum c.door) = false) →
    exec (.zeroReadEgress h i) s = .next s) ∧
  (∀ (s : State) (h i : Nat) (c : Cmd) (x : Sec), s.sec h i = some (c, x) → c.op = .copy → x.st = .zeroFill → x.copySrc = true →
    firstZero c .zeroFill i = true →
    exec (.zeroFillEnd h i) s = .next ((s.setCmd h { c with secs := c.secs.set i { x with st := .zeroReady, payload := 0 } }).kick)) ∧
  (∀ (s : State) (h i : Nat) (c : Cmd) (x : Sec), s.sec h i = some (c, x) → c.op = .writeZeroes → x.st = .zeroFill →
    stagedReady c = true → firstZero c .zeroFill i = true →
    exec (.zeroFillEnd h i) s = .next (((s.stamp h 2).setCmd h { c with
      waitFrom := s.ldg.tick, secs := c.secs.set i { x with st := .have, payload := 0 } }).kick)) ∧
  (∀ (s : State) (h : Nat) (p : BitVec 64) (c : Cmd), s.cmd h = some c → c.phase = .posting → s.logging c.account = false →
    s.doorPaused c.door = false →
    exec (.completionPostEnd h p) s = .next (((s.stamp h (if writeType c.op then 7 else 9)).finish h (s.waitEnd c c.waitFrom)).kick)) ∧
  (∀ (s : State) (h : Nat) (p : BitVec 64) (c : Cmd), s.cmd h = some c → c.phase = .posting → s.logging c.account = false →
    s.doorPaused c.door = true →
    exec (.completionPostEnd h p) s = .next (s.setCmd h { c with waitFrom := s.waitMark c.waitFrom })) ∧
  (∀ (s : State) (h : Nat) (p : BitVec 64) (c : Cmd), s.cmd h = some c → c.phase = .posting → c.net = false → c.silent = false →
    s.logging c.account = true → s.dlogRoom = 0 →
    exec (.completionPostEnd h p) s = .next ((s.setCmd h { c with waitFrom := s.waitMark c.waitFrom }).raise .actCause 3))

/-- The steps of a write (R27, R147, R387, R388, R393, R421, R422). -/
def Obligations.WriteSteps : Prop :=
  (∀ (s : State) (h l d : Nat) (c : Cmd), s.cmd h = some c → c.phase = .running → writeType c.op = true → c.admitted = true →
    c.pooled = false → c.secured = false → s.mayStage c = true →
    ∃ (c1 : Cmd) (s1 s2 : State), c1 = (if c.op = .copy || c.op = .writeZeroes then c.waited c.waitFrom s.ldg.tick else c) ∧
      s1 = (s.setCmd h { c1 with staged := slotCount c, hold := holdCount c, pooled := true }).modRec c.seq
        (fun r => { r with stage := s.db.stageNext }) ∧
      s2 = { s1 with db := { s1.db with stageNext := (s.db.stageNext + slotCount c) % stageSlots } } ∧
      ((c.net = true ∨ c.op = .copy ∨ c.op = .writeZeroes) → exec (.stagingSlotsTaken h l d) s = .next s2) ∧
      (c.net = false → c.op ≠ .copy → c.op ≠ .writeZeroes →
        exec (.stagingSlotsTaken h l d) s = .next ((s2.queueReads c.account 1 h l).queueReads c.account 2 h d))) ∧
  (∀ (s : State) (h : Nat) (data : List HostSec) (c : Cmd), s.cmd h = some c → (c.op = .write ∨ c.op = .append) →
    stagedReady c = true → data.length = c.count → (secsIn c .fetching).length = c.count → s.readsFor c.account h = false →
    exec (.hostDataFetchEnd h data) s = .next ((s.stamp h 2).setCmd h { c with secs := (c.secs.zip data).map (fun p => { p.1 with
      st := .have, payload := p.2.payload, appTag := p.2.appTag, guardOk := p.2.guardOk, refTag := p.2.refTag }) })) ∧
  (∀ (s : State) (h : Nat) (c : Cmd), s.cmd h = some c → stagedReady c = true → dataComplete c = true → s.mem.lanes.length < 2 →
    h ∉ s.mem.lanes → (∀ e ∈ s.host.cmds, stagedReady e.2 = true → dataComplete e.2 = true → e.1 ∉ s.mem.lanes → c.seq ≤ e.2.seq) →
    exec (.gateLaneGrant h) s = .next { s.setCmd h (c.waited c.waitFrom s.ldg.tick) with
      mem := { s.mem with lanes := s.mem.lanes ++ [h] } }) ∧
  (∀ (s : State) (h i : Nat) (c : Cmd) (x : Sec), s.sec h i = some (c, x) → x.st = .have → h ∈ s.mem.lanes →
    (secsIn c .have).head? = some i →
    (∀ t, piFails c i x (s.fmtOf c) = some t → exec (.sealEnd h i) s = .next ((s.endWrite h t).kick)) ∧
    (∀ c1 : Cmd, piFails c i x (s.fmtOf c) = none → c1 = { c with secs := c.secs.set i { x with
        st := .sealed, appTag := storedTag c x (s.fmtOf c), stream := s.freeStream, xts := s.xtsRead (s.ownerOf c) } } →
      ((secsIn c1 .have).isEmpty = false → exec (.sealEnd h i) s = .next ((s.stamp h 3).setCmd h c1)) ∧
      ((secsIn c1 .have).isEmpty = true → exec (.sealEnd h i) s = .next { (s.stamp h 3).setCmd h c1 with
        mem := { ((s.stamp h 3).setCmd h c1).mem with
          lanes := ((s.stamp h 3).setCmd h c1).mem.lanes.filter (fun y => decide (y ≠ h)) } }))) ∧
  (∀ (s : State) (h i : Nat) (c : Cmd) (x : Sec) (r : Rec), s.sec h i = some (c, x) → x.st = .encrypted → s.bufferRoom = true →
    s.dbRec c.seq = some r →
    exec (.dramWriteEnd h i) s = .next (((s.bufferSector.cleanSlot (r.stage + (i - (srcSecs c).length))).stamp h 5).setSec h i
      { x with st := .stored })) ∧
  (∀ (s : State) (h : Nat) (c : Cmd), s.cmd h = some c → c.phase = .running → c.secured = false → c.secureHeld = false →
    (destSecs c).isEmpty = false → (∀ x ∈ destSecs c, x.st = .stored) →
    (c.zone = none → exec (.dayBookSecure h) s = .next ((s.secureNow h c).kick)) ∧
    (∀ z, c.zone = some z → s.earlierZoneOpen z c.seq = true →
      exec (.dayBookSecure h) s = .next (s.setCmd h { c with secureHeld := true, waitFrom := s.ldg.tick })) ∧
    (∀ z, c.zone = some z → s.earlierZoneOpen z c.seq = false → exec (.dayBookSecure h) s = .next ((s.secureNow h c).kick))) ∧
  (∀ (s : State) (h : Nat) (c : Cmd), s.cmd h = some c → isDealloc c = true → stagedReady c = true → s.readsFor c.account h = false →
    c.op = .dsm →
    exec (.deallocationSecure h) s = .next ((((s.dropConv c.nsid (fun l => c.ranges.any (fun r => decide (r.slba ≤ l) &&
      decide (l < r.slba + r.count)))).modRec c.seq (fun r => { r with state := .settled, securedAt := s.ldg.tick })).toPost h
        { c.waited c.waitFrom s.ldg.tick with secured := true, locks := [] } stOk).kick))

/-! ## The media -/

/-- Die operations, decodes and retries (R148, R160 to R166, R177, R184, R249, R251 to R253, R266, R274). -/
def Obligations.DieOperationsAndRetries : Prop :=
  (∀ (s : State) (d t : Nat) (e : EntryRec) (w : Work14) (rdy ok : Bool) (bad : List Nat), s.startOf d e = some t →
    s.ldg.tick ≤ t + overhead e → modeLedger s.mode = true → (s.dieMed d).failed = false →
    ∃ s1 : State, s1 = (s.tickTo (t + overhead e)).setDie d { closeSeg (s.die d) t with entry15 := none } ∧
      (s1.carriedOver d e t = true → exec (.entryStart d e w rdy ok bad) s = .next (s1.countSeat d e)) ∧
      (s1.carriedOver d e t = false → exec (.entryStart d e w rdy ok bad) s = .next
        ((((s1.beginEntry d e (t + overhead e) w rdy ok).setTimes d e t (t + overhead e)).entryBad d bad).countSeat d e).leaveKick)) ∧
  (∀ (s : State) (d t : Nat) (e : EntryRec) (w : Work14) (rdy ok : Bool),
    (e.cls = 15 → s.beginEntry d e t w rdy ok = s.enter15 d e t rdy ok) ∧
    (e.cls < 14 → isReadEntry e = true → (s.die d).overrunAt = none → (s.die d).op = none → (s.die d).read = none →
      s.beginEntry d e t w rdy ok = s.readEntry d e t) ∧
    (e.cls < 14 → isReadEntry e = true → (s.die d).overrunAt.isSome = true → (s.candidates d e).isEmpty = false →
      s.beginEntry d e t w rdy ok = s.mediaExc d e.type e.cls 2 false) ∧
    (e.cls ≠ 15 → isReadEntry e = false → (s.die d).overrunAt = none → (s.die d).op = none → s.resumeOp d e t = none →
      s.beginEntry d e t w rdy ok = s.startEntry d e w)) ∧
  (∀ (s : State) (d : Nat) (op : DieOp), judged (s.die d) = some op → (s.die d).overrunAt = none →
    (s.dieMed d).failed = false → modeLedger s.mode = true →
    exec (.budgetCheck d true) s = .next ((s.tickTo (budgetEnd op)).setDie d (passBudget ((s.tickTo (budgetEnd op)).die d) op)) ∧
    exec (.budgetCheck d false) s = .next ((s.tickTo (budgetEnd op)).overrun d op)) ∧
  (∀ (s s1 : State) (d : Nat) (op : DieOp) (c : Cmd) (x : Sec), (s.die d).read = some op → op.inBudget = true → op.cls < 14 →
    (s.die d).overrunAt = none → s1 = (s.tickTo (op.start + slotEnd op.type)).setDie d { s.die d with read := none } →
    s1.sec op.cmd op.sec = some (c, x) → x.st = .granted →
    exec (.transferSlot d) s = .next (((((s1.stampAt op.cmd 3 (op.start + readTicks op.type)).stampAt op.cmd 4
      (op.start + slotEnd op.type)).setSec op.cmd op.sec { x with st := .moved }).releaseRead op.cmd).kick)) ∧
  (∀ (s : State) (d : Nat) (ok : Bool) (op : DieOp), (s.die d).op = some op → op.inBudget = true → (s.die d).overrunAt = none →
    ((op.type = 4 ∨ op.type = 5) → exec (.programResult d ok) s = .next (s.takeResult d op ok)) ∧
    (op.type = 6 → exec (.eraseResult d ok) s = .next (s.takeResult d op ok))) ∧
  (∀ (s : State) (d t : Nat) (op : DieOp) (e : Entry15), (s.die d).late = some op → (s.die d).op = none → (s.die d).susp = [] →
    (s.die d).overrunAt = some t → (s.die d).resetAt = none → (s.die d).entry15 = some e → s.ldg.tick ≤ e.last →
    t + 4 * folioTicks ≤ s.ldg.tick → (s.dieMed d).failed = false → modeLedger s.mode = true →
    exec (.dieReset d) s = .next (((s.setDie d { s.die d with late := none, op := none, susp := [], resetAt := some s.ldg.tick }).outcome
      d op false).mediaExc d (if op.window then 7 else op.type) op.cls 1 true)) ∧
  (∀ (s : State) (h i bits : Nat) (c : Cmd) (x : Sec), s.sec h i = some (c, x) → x.st = .moved → x.poison = false →
    exec (.ldpcDecodeEnd h i true bits) s = .next (((s.recovered x bits).stamp h 5).setSec h i
      { x with st := .decoded, xts := s.xtsRead (s.ownerOf c) }) ∧
    exec (.ldpcDecodeEnd h i false bits) s = .next (s.failDecode h i c x).kick) ∧
  (∀ (s : State) (h i bits : Nat) (ok : Bool) (c : Cmd) (x : Sec), s.sec h i = some (c, x) → x.st = .moved → x.poison = true →
    exec (.ldpcDecodeEnd h i ok bits) s = .next (s.uncorrectable h i c x).kick) ∧
  (∀ (s : State) (h i : Nat) (c : Cmd) (x : Sec) (e : Entry15), s.sec h i = some (c, x) → x.st = .retryWait →
    s.open15 x.die 0 = some e → e.recovery = false → x.reg ≤ e.start →
    (∀ r ∈ s.retries x.die e.start, c.seq < r.1 ∨ (c.seq = r.1 ∧ i ≤ r.2.2.2)) → (s.retries x.die e.start).length ≤ 1 →
    exec (.retryRead h i) s = .next (s.read15 h i x e 3 0 2)) ∧
  (∀ (s : State) (h i : Nat) (c : Cmd) (x : Sec) (e : Entry15), s.sec h i = some (c, x) → x.st = .recovering →
    s.open15 x.die 0 = some e → s.retriesAt c x e.start = true →
    (e.recovery = false → (∀ r ∈ s.retries x.die e.start, c.seq < r.1 ∨ (c.seq = r.1 ∧ i ≤ r.2.2.2)) →
      (s.retries x.die e.start).length ≤ 1 → exec (.recoveryRead h i) s = .next (s.read15 h i x e 3 0 2)) ∧
    (e.recovery = true → 2 ≤ e.room →
      (∀ r ∈ s.retries x.die e.start, r.2.1 = 0 ∨ x.l3 < r.2.1 ∨ (x.l3 = r.2.1 ∧ c.seq ≤ r.1)) →
      exec (.recoveryRead h i) s = .next (s.read15 h i x e (if x.slc then 2 else 1) 0 (if x.slc then 1 else 2)))) ∧
  (∀ (s : State) (h i : Nat) (c : Cmd) (x : Sec), s.sec h i = some (c, x) → x.level = 3 →
    (x.st = .recovering ∨ x.st = .granted ∨ x.st = .moved ∨ x.st = .decoded ∨ x.st = .clear ∨ x.st = .checked) →
    x.l3 + 4 * folioTicks ≤ s.ldg.tick → exec (.l3Timeout h i) s = .next (s.uncorrectable h i c x).kick) ∧
  (∀ (s : State) (h i : Nat) (c : Cmd) (x : Sec), s.sec h i = some (c, x) → x.st = .recovering → s.tallyHeld x = true →
    modeLedger s.mode = true →
    (x.poison = false → x.level = 3 → (c.op = .minted ∨ x.copySrc = true ∨ s.l3Reaches c x (s.ldg.tick + sealTicks s.level) = true) →
      ∃ x1 : Sec, x1 = { x with st := .decoded, level := 3, xts := s.xtsRead (s.ownerOf c) } ∧
        exec (.tallyRebuild h i true) s = .next ((((((s.raise .integCause 1).countFld Reg.medRetryL3 0 32 1).stamp h 5).setCmd h
          { c with maxRetry := 3, secs := c.secs.set i x1 }).registerKick))) ∧
    exec (.tallyRebuild h i false) s = .next (s.uncorrectable h i c x).kick)

/-! ## Settlement, zones and blocks -/

/-- Settlement and moves (R277, R384, R391, R392). -/
def Obligations.SettlementAndRecords : Prop :=
  (∀ (s : State) (q n : Nat) (ms : List (Nat × Nat)), s.host.msgs = (q, n) :: ms →
    exec .settlementMessage s = .next ((({ s with host := { s.host with msgs := ms } } : State).modRec q (fun r =>
      if r.state = .secured then
        { r with pending := r.pending - n, state := if r.pending ≤ n then .settled else r.state } else r)).kick)) ∧
  (∀ s : State, ((s.db.recs.filter (fun e => spillable e.2)).take 512).isEmpty = false →
    s.db.spill.length + ((s.db.recs.filter (fun e => spillable e.2)).take 512).length ≤ 524288 →
    ∃ l, l = (s.db.recs.filter (fun e => spillable e.2)).take 512 ∧ exec .spillProgram s = .next { s with db := { s.db with
      recs := s.db.recs.filter (fun e => !(l.any (fun f => decide (f.1 = e.1)))),
      spill := l.foldl (fun m e => oput m e.1 e.2) s.db.spill } }) ∧
  (∀ (s : State) (top : Nat), top < s.db.nextSeq → (∀ e ∈ s.db.recs, e.1 ≤ top → e.2.state = .settled) →
    ∃ t, exec (.metadataWrite top) s = .next t ∧ t.med.covered = max s.med.covered top ∧
      t.db.spill = s.db.spill.filter (fun e => decide (top < e.1)) ∧ t.pwr.metaCopy.time = s.pwr.time ∧
      t.pwr.metaCopy.hours = s.pwr.hours ∧ t.pwr.metaCopy.cycles = s.pwr.cycles ∧
      t.db.recs = s.db.recs.filter (fun e => !(decide (e.1 ≤ top) && !e.2.ranges.isEmpty && (e.2.posted || e.2.undelivered)))) ∧
  (∀ (s : State) (q : Nat) (r : Rec), s.dbRec q = some r → r.state = .secured →
    (r.securedAt + 64 * folioTicks ≤ s.ldg.tick → exec (.staleSecuredRecord q) s = .next (s.staleWork q)) ∧
    (s.ldg.tick < r.securedAt + 64 * folioTicks → exec (.staleSecuredRecord q) s = .next s)) ∧
  (∀ (s s1 : State) (mv : Nat) (m : Move), ofind s.med.moves mv = some m → m.step = 2 → s.commits < 2048 →
    s1 = (s.addCommit (commitSource m.srcDie m.srcBlock 0)
      (commitTarget m.srcDie m.dstBlock (s.movePages m) (moveCode m.kind)) .settled).setMove mv { m with step := 4 } →
    (m.zone = none → exec (.mapCommitMessage mv) s = .next (s1.applyGranule m)) ∧
    (∀ z, m.zone = some z → exec (.mapCommitMessage mv) s = .next ((s1.applyBlock m z).tallyRelease z))) ∧
  (∀ (s s1 : State) (mv : Nat) (m : Move), ofind s.med.moves mv = some m → m.step = 4 → s1 = s.dropMove mv →
    ((m.zone.isSome = true ∨ s.convIn m.srcDie m.srcBlock = []) → s.blockInUse m.srcDie m.srcBlock = false →
      s.blockMove m.srcDie m.srcBlock = none →
      ((s1.block m.srcDie m.srcBlock).doom = none → exec (.sourceErase mv) s = .next (s1.freeBlock m.srcDie m.srcBlock)) ∧
      (∀ c, (s1.block m.srcDie m.srcBlock).doom = some c →
        exec (.sourceErase mv) s = .next (s1.retireBlock m.srcDie m.srcBlock c))) ∧
    ((m.zone.isSome = true ∨ s.convIn m.srcDie m.srcBlock = []) → s.blockInUse m.srcDie m.srcBlock = true →
      exec (.sourceErase mv) s = .next s) ∧
    (m.zone = none → s.convIn m.srcDie m.srcBlock ≠ [] → exec (.sourceErase mv) s = .next s1))

/-- Zone media work (R218, R227, R229, R234, R237, R263, R265, R267, R268). -/
def Obligations.ZoneBlocksAndFolds : Prop :=
  (∀ (s : State) (z : Nat), (s.zone z).state = .empty → (s.zone z).claims = [] → s.claimWanted z = true →
    (s.mdpActs (z % max 1 s.groupCount) = true →
      exec (.zoneClaimDone z) s = .next (s.setZone z { s.zone z with claims := s.zoneDies z }).kick) ∧
    (s.mdpActs (z % max 1 s.groupCount) = false → exec (.zoneClaimDone z) s = .next s)) ∧
  (∀ (s t : State) (z i : Nat) (slc : Bool), 2 ^ 20 * s.zoneDie z i + z ∈ s.med.evac →
    ((zslot (s.zone z) i).kind = .unplaced ∨ (s.block (s.zoneDie z i) (zslot (s.zone z) i).block).state = .retired) →
    s.acts14 (s.zoneDie z i) = true → (s.zone z).state ≠ .empty → (s.zone z).state ≠ .offline → (s.zone z).state ≠ .readOnly →
    s.bindSlot z i (slc || decide ((zslot (s.zone z) i).kind = .folded)) = some t →
    ∃ u : State, u = { t with med := { t.med with evac := t.med.evac.filter (fun x => decide (x ≠ 2 ^ 20 * s.zoneDie z i + z)) } } ∧
      exec (.slotBinding z i slc) s = .next u ∧ (modeLedger s.mode = true → exec (.evacuationDone z i slc) s = .next u)) ∧
  (∀ (s : State) (z i n : Nat) (m : Move), s.foldMove z i = some (n, m) → m.step = 1 → s.commits < 2048 →
    (s.dieMed m.srcDie).failed = false → modeLedger s.mode = true → s.acts14 m.srcDie = true →
    (s.moveVerifies m = false → ∃ s1 : State,
      s1 = (s.addCommit (commitSource m.srcDie m.srcBlock
          (4 * (((zslot (s.zone z) i).qlcUnits - (zslot (s.zone z) i).base) % 128)))
        (commitTarget m.srcDie m.dstBlock 1 (moveCode m.kind)) .settled).dropMove n ∧
      exec (.foldDone z i true) s = .next ((s1.applyFold m z).tallyRelease z)) ∧
    (s.moveVerifies m = true → exec (.foldDone z i true) s = .next s) ∧
    exec (.foldDone z i false) s = .next ((s.raise .integCause 2).moveFailed n 3)) ∧
  (∀ (s : State) (d b : Nat), b ≠ nextBlock (s.dieMed d).tailPos 8 → exec (.tailRingCopy d b) s = .next s) ∧
  (∀ (s : State) (d b : Nat), b ≠ nextBlock (s.dieMed d).tallyPos 128 → exec (.tallyForwardCopy d b) s = .next s) ∧
  (∀ (s : State) (d b : Nat) (l : List Nat), b = nextBlock (s.dieMed d).tailPos 8 → l = s.liveTails d b → l ≠ [] →
    l.length ≤ 512 - (s.dieMed d).tailPos % 512 → (s.dieMed d).failed = false → modeLedger s.mode = true → s.acts14 d = true →
    s.turn14 d rankRing = true → s.tallyRoom d = true → (∀ o, (s.die d).op = some o → o.tail = false) →
    exec (.tailRingCopy d b) s = .next (s.copyTails d l)) ∧
  (∀ (s : State) (d b : Nat) (l : List (Nat × Nat)), b = nextBlock (s.dieMed d).tallyPos 128 → l = s.liveTallies d b → l ≠ [] →
    4 * l.length ≤ 512 - (s.dieMed d).tallyPos % 512 → (s.dieMed d).failed = false → modeLedger s.mode = true → s.acts14 d = true →
    s.turn14 d rankTally = true → exec (.tallyForwardCopy d b) s = .next (l.foldl (fun s w => s.writeTally d w) s)) ∧
  (∀ (s : State) (z w : Nat), (s.zone z).holder = true → 2 ≤ s.groupCount → modeLedger s.mode = true →
    512 * z + w ∉ s.med.recompute → (s.zone z).accStripe = w → stripeDone (s.zone z) = true → z ∉ s.med.rebuilds →
    (s.tallyTurn (s.tallyDie z w) = true → ∃ s1 : State, s1 = s.setZone z { s.zone z with accStripe := w + 1, accQuarters := [] } ∧
      exec (.tallyProgram z w) s = .next (s1.writeTally (s.tallyDie z w) (z, w))) ∧
    (s.tallyTurn (s.tallyDie z w) = false → exec (.tallyProgram z w) s = .next s)) ∧
  (∀ (s : State) (z : Nat), z ∈ s.med.rebuilds → modeLedger s.mode = true → s.mdpActs (z % max 1 s.groupCount) = true →
    (∀ d ∈ s.zoneDies z, s.turn14 d rankRebuild = true) → ∃ t, exec (.accumulatorRebuild z) s = .next t ∧
      t.med = { s.med with rebuilds := s.med.rebuilds.filter (fun y => decide (y ≠ z)) })

/-- Blocks (R246, R257, R259, R278, R279). -/
def Obligations.BlockChecks : Prop :=
  (∀ (s : State) (d b : Nat), s.copyMove d b = none → (s.block d b).state = .full → (s.block d b).leaving = false →
    0 < (s.block d b).vreads →
    (s.verifyReads d b (s.block d b).pages ≤ (s.block d b).vreads →
      ((s.block d b).zone = none → exec (.blockVerifyDone d b true) s = .next (s.setBlock d b { s.block d b with state := .verified })) ∧
      (∀ z, (s.block d b).zone = some z →
        exec (.blockVerifyDone d b true) s = .next ((s.setBlock d b { s.block d b with state := .verified }).tallyRelease z))) ∧
    exec (.blockVerifyDone d b false) s = .next ((s.raise .integCause 2).moveAndRetire d b 3)) ∧
  (∀ (s : State) (d b mv : Nat) (m : Move), s.copyMove d b = some (mv, m) → m.kind ≠ .fold → m.kind ≠ .evacuation → 0 < m.vreads →
    (s.moveVerifies m = false → exec (.blockVerifyDone d b true) s = .next (s.setMove mv { m with step := 2 })) ∧
    exec (.blockVerifyDone d b false) s = .next ((s.raise .integCause 2).moveFailed mv 3)) ∧
  (∀ (s : State) (d b : Nat) (v : VerifyBand), s.band (s.block d b).erases = some v →
    ((s.block d b).state = .full ∨ (s.block d b).state = .verified) →
    ((s.block d b).programmed + v.retentionDays * dayTicks ≤ s.pwr.time →
      exec (.retentionRefreshDue d b) s = .next (s.setBlock d b { s.block d b with retention := true })) ∧
    (s.pwr.time < (s.block d b).programmed + v.retentionDays * dayTicks → exec (.retentionRefreshDue d b) s = .next s)) ∧
  (∀ (s : State) (who : Requester) (v : BitVec 32), s.mayWrite who Reg.medZqSel = true →
    ∃ t, exec (.medZqSelWrite who v) s = .next t ∧
      t.reg Reg.medZqSel = BitVec.ofNat 32 (getField v 0 18 + 2 ^ 18 * getField v 18 4 + 2 ^ 31) ∧
      t.fld Reg.medZqState 0 4 = zstateCode (s.zone (getField v 0 18)).state ∧
      t.reg Reg.medZqFinish = BitVec.ofNat 32 (s.zone (getField v 0 18)).finish ∧ t.med = s.med)

/-! ## Accounts and functions -/

/-- Controllers and functions (R331, R343, R345, R346, R593). -/
def Obligations.ControllersAndFunctions : Prop :=
  (∀ (s : State) (m : Nat) (q : Quiesce), (s.acct m).quiesce = some q → q.cut = false →
    (q.q + 5079040 ≤ s.ldg.tick → ∃ s1 : State, s1 = s.setAcct m { s.acct m with quiesce := some { q with cut := true } } ∧
      exec (.quiesceCut m) s = .next (((s1.memberCmds m).foldl (fun (s : State) h => s.cutOne h) s1).kick)) ∧
    (s.ldg.tick < q.q + 5079040 → exec (.quiesceCut m) s = .next s)) ∧
  (∀ (s : State) (f : Nat), s.islandOn .hst = true → bitOf (s.ctrl f).cc 0 = true → (s.ctrl f).resetting = false →
    exec (.controllerReset f) s = .next (s.beginReset f)) ∧
  (∀ (s : State) (f : Nat) (cc : BitVec 32), s.islandOn .hst = true → bitOf (s.ctrl f).cc 0 = false → (s.ctrl f).resetting = false →
    bitOf cc 0 = true → s.functionExists f = true → f ≠ 0 →
    ∃ s0 : State, s0 = s.setCtrl f { s.ctrl f with cc := cc &&& ccMask, shst := 0 } ∧
      ((s.acct f).resumeOnEnable = false → exec (.controllerEnable f cc) s = .next (s0.readyNow f)) ∧
      ((s.acct f).resumeOnEnable = true →
        exec (.controllerEnable f cc) s = .next ((s0.setAcct f { s.acct f with enableWaits := true }).enableKick))) ∧
  (∀ (s : State) (f : Nat), s.islandOn .hst = true → f ≠ 0 → s.functionExists f = true → (s.acct f).binding = none →
    (s.acct f).quiesce = none →
    exec (.vfShutdownNotification f) s = .next (((s.setCtrl f { s.ctrl f with shst := 1 }).setAcct f
      { s.acct f with resumeOnEnable := false }).setCtrl f { s.ctrl f with shst := 2 })) ∧
  (∀ (s : State) (f : Nat), s.islandOn .hst = true → f ≠ 0 → s.functionExists f = true → s.memberActive f = true →
    exec (.vfShutdownNotification f) s = .next ((((s.setCtrl f { s.ctrl f with shst := 1 }).setAcct f
      { s.acct f with resumeOnEnable := true }).startQuiesce f false).kick)) ∧
  (∀ (s : State) (f : Nat), s.islandOn .hst = true → f ≠ 0 → s.functionExists f = true →
    (s.memberActive f = true → ∃ s2 : State,
      s2 = (((s.setAcct f { s.acct f with flrActive := true }).startQuiesce f true).raise .actCause 2).endHalt f ∧
      exec (.flr f) s = .next (((s2.memberCmds f).foldl (fun (s : State) h => s.flrOne h) s2).kick)) ∧
    (s.memberActive f = false → (s.acct f).quiesce = none → exec (.flr f) s = .next ((s.endHalt f).flrReset f))) ∧
  (∀ (s : State) (f : Nat) (q : Quiesce), (s.acct f).quiesce = some q → (s.acct f).flrActive = true → q.q + 12000000 ≤ s.ldg.tick →
    exec (.flrTimeout f) s = .next (s.flrReset f).kick) ∧
  (∀ (s : State) (n : Nat), s.islandOn .hst = true → s.host.vfEnable = false → n ≤ 2047 → (s.boot.image.isSome = true → n ≤ s.totalVfs) →
    exec (.vfEnable n) s = .next (s.host.ctrls.foldl (fun (s : State) e => s.readyNow e.1)
      { s with host := { s.host with vfEnable := true, numVfs := n, netVfs := 0 } }))

/-- Slices and the log (R338 to R340, R342, R350). -/
def Obligations.SlicesAndLog : Prop :=
  (∀ (s : State) (who : Requester) (n : Nat) (v : BitVec 32) (p : Bool) (h : LimitEntry) (s0 y s1 : State), n < 64 →
    s0 = { s with host := { s.host with pasidEnable := p } } → s0.mayWrite who (sliceReg n) = true → bitOf v 20 = true →
    bitOf (s.reg (sliceReg n)) 20 = false → y = (if p then s0.pasidYield n (getField v 0 20) else s0) →
    s1 = y.setReg (sliceReg n) (setField (setField (y.reg (sliceReg n)) 0 20 (getField v 0 20)) 21 4 (getField v 21 4)) →
    ((p = false ∨ s1.pasidHeld n (getField v 0 20) = true ∨ (s1.acct (sliceMember n)).binding.isSome = true) →
      exec (.sliceEnable who n v p) s = .next (s1.raise .actCause 5)) ∧
    (p = true → s1.pasidHeld n (getField v 0 20) = false → (s1.acct (sliceMember n)).binding = none →
      s1.limitEntry (sliceMember n) = some h →
      (s1.sliceCheck (sliceMember n) (sliceEntry h (getField v 21 4)) = 0 →
        exec (.sliceEnable who n v p) s = .next (((s1.bindResult (sliceMember n) 0).bindNow (sliceMember n)
          (sliceEntry h (getField v 21 4))).setReg (sliceReg n) (setField (setField (s1.reg (sliceReg n)) 20 1 1) 25 2 1))) ∧
      (s1.sliceCheck (sliceMember n) (sliceEntry h (getField v 21 4)) ≠ 0 →
        exec (.sliceEnable who n v p) s = .next (s1.bindResult (sliceMember n)
          (s1.sliceCheck (sliceMember n) (sliceEntry h (getField v 21 4))))))) ∧
  (∀ (s : State) (who : Requester) (n : Nat), n < 64 → s.mayWrite who (sliceReg n) = true → bitOf (s.reg (sliceReg n)) 20 = true →
    ((s.setFld (sliceReg n) 20 1 0).acct (sliceMember n)).quiesced = false →
    exec (.sliceDisable who n) s = .next ((((s.setFld (sliceReg n) 20 1 0).quiesceMember (sliceMember n) false).setFld
      (sliceReg n) 25 2 2).kick)) ∧
  (∀ (s : State) (who : Requester) (v : BitVec 32) (s1 : State), s.mayWrite who Reg.actQslice = true →
    s1 = s.setReg Reg.actQslice (setField (v &&& 0x1FFFFF#32) 22 1 (s.fld Reg.actQslice 22 1)) →
    (bitOf v 21 = false → exec (.qsliceApply who v) s = .next s1) ∧
    (bitOf v 21 = true → ofind s.host.queues (getField v 0 14) = none →
      exec (.qsliceApply who v) s = .next (s1.setFld Reg.actQslice 22 1 1)) ∧
    (∀ q, bitOf v 21 = true → ofind s.host.queues (getField v 0 14) = some q → q.func = 0 →
      (∀ e ∈ s.host.cmds, e.2.net = true ∨ e.2.queue ≠ getField v 0 14) →
      exec (.qsliceApply who v) s = .next ((s1.setQueue (getField v 0 14)
        { q with slice := if bitOf v 20 then some (getField v 14 6) else none }).setFld Reg.actQslice 22 1 0))) ∧
  (∀ (s : State) (who : Requester) (v : BitVec 32), s.mayWrite who Reg.actDlogHead = true →
    exec (.dlogHeadWrite who v) s = .next (s.setReg Reg.actDlogHead (v &&& 0xFFFFFF#32)))

/-! ## The Reserve, the DRAM and the banks -/

/-- The Reserve (R396, R397). -/
def Obligations.ReserveTests : Prop :=
  (∀ (s : State) (n d : Nat), (s.seg n).due = some d → testMode s.mode = true → n < 8 → s.rsv.test = none → (s.seg n).charged = true →
    (s.seg n).recharging = false → s.pins.plossN = true → d ≤ s.pwr.time →
    ∃ s1 : State, s1 = { s with
        rsv := { s.rsv with test := some n, testFrom := s.ldg.tick, testVa := none },
        pins := { s.pins with segTest := BitVec.ofNat 8 (2 ^ n) } } ∧
      exec (.segmentTestStart n) s = .next ((s1.setSeg n { s.seg n with due := some (s.nextDue n d) }).syncSeg n)) ∧
  (∀ (s : State) (n mv : Nat), s.rsv.test = some n → s.rsv.testVa = none → s.ldg.tick = s.rsv.testFrom + 100000 →
    exec (.segmentTestSample mv) s = .next { s with rsv := { s.rsv with testVa := some mv } }) ∧
  (∀ (s : State) (n k va mv : Nat), s.rsv.test = some n → s.rsv.testVa = some va → s.ldg.tick = s.rsv.testFrom + 100000 + 1000 * k →
    1 ≤ k → (10 * mv ≤ 9 * va → exec (.segmentTestSample mv) s = .next (s.testResult n va (1000 * k))) ∧
      (9 * va < 10 * mv → exec (.segmentTestSample mv) s = .next s)) ∧
  (∀ (s : State) (n : Nat), s.rsv.test = some n → s.rsv.testFrom + 100000 + 100000000 ≤ s.ldg.tick →
    exec .testInvalid s = .next ((((s.endTest).setSeg n { s.seg n with recharging := true, testTime := s.pwr.time }).syncSeg n).raise
      .rsvCause 2)) ∧
  (∀ (s : State) (n mv base : Nat), s.rsvSensed = true → n < 8 → s.rsv.test = none → (s.seg n).recharging = false →
    (s.seg n).failed = false → ((s.seg n).tested = true ∨ (s.seg n).everCharged = true) →
    base = (if (s.seg n).tested then (s.seg n).va else s.ratedMv n) → 100 * mv < 90 * base →
    exec (.segFault n mv) s = .next ((((s.setSeg n { s.seg n with
      sensed := mv, failed := true, charged := false }).syncSeg n).raise .rsvCause 0).computeCover)) ∧
  (∀ (s : State) (n mv base : Nat), s.rsvSensed = true → n < 8 → s.rsv.test ≠ some n →
    base = (if (s.seg n).tested then (s.seg n).va else s.ratedMv n) →
    (98 * base ≤ 100 * mv → exec (.segmentCharged n mv) s = .next (((s.setSeg n { s.seg n with
      sensed := mv, charged := true, everCharged := true, recharging := false }).syncSeg n).recover)) ∧
    (100 * mv < 98 * base →
      exec (.segmentCharged n mv) s = .next (((s.setSeg n { s.seg n with sensed := mv, charged := false }).syncSeg n).recover)))

/-- The DRAM and the banks (R414, R417, R420, R426, R427, R435). -/
def Obligations.DramAndBanks : Prop :=
  (∀ s : State, s.scrubDue = true → exec (.scrubPassStart []) s = .next
    ((({ s with mem := { s.mem with lastScrub := s.pwr.time } } : State).clearCeCounts).countFld Reg.memScrubStatus 0 32 1)) ∧
  (∀ (s : State) (b : Nat),
    ((ofind s.mem.rowUse b).getD 0 + memCycles 64 s.clockLevel ≤ s.ldg.tick →
      exec (.rowCloseTimeout b) s = .next { s with mem := { s.mem with openRows := odel s.mem.openRows b } }) ∧
    (s.ldg.tick < (ofind s.mem.rowUse b).getD 0 + memCycles 64 s.clockLevel → exec (.rowCloseTimeout b) s = .next s)) ∧
  (∀ s : State, s.mode = .doze → s.mem.occA = 0 → s.mem.occB = 0 → s.mem.lastReq + memCycles 4096 s.clockLevel ≤ s.ldg.tick →
    exec .selfRefreshEntry s = .next { s with mem := { s.mem with selfRefresh := true, openRows := [] } }) ∧
  (∀ (s : State) (aged : Bool),
    (48 ≤ s.mem.occA ∨ (aged = true ∧ 0 < s.mem.stageA) ∨ s.mem.drainEmpty = true →
      exec (.drainBatchStart false aged) s = .next { s with mem := { s.mem with batchA := true } }) ∧
    (48 ≤ s.mem.occB ∨ (aged = true ∧ 0 < s.mem.stageB) ∨ s.mem.drainEmpty = true →
      exec (.drainBatchStart true aged) s = .next { s with mem := { s.mem with batchB := true } })) ∧
  (∀ s : State, s.mem.batchA = true → ∃ t, exec (.drainBatchEnd false) s = .next t ∧
    t.mem.occA = min s.mem.occA s.batchLow ∧ t.mem.batchA = false ∧ t.mem.occB = s.mem.occB ∧
    t.mem.stageA = s.mem.stageA - (s.mem.occA - min s.mem.occA s.batchLow) ∧ t = { s with mem := t.mem }) ∧
  (∀ s : State, s.mem.batchB = true → ∃ t, exec (.drainBatchEnd true) s = .next t ∧
    t.mem.occB = min s.mem.occB s.batchLow ∧ t.mem.batchB = false ∧ t.mem.occA = s.mem.occA ∧
    t.mem.stageB = s.mem.stageB - (s.mem.occB - min s.mem.occB s.batchLow) ∧ t = { s with mem := t.mem }) ∧
  (∀ (s : State) (b : Bank), s.bankScrubDue b = true → exec (.bankScrub b []) s =
    .next { s with mem := { s.mem with bankScrub := oput s.mem.bankScrub (bankCode b) s.pwr.time } }) ∧
  (∀ (s : State) (b : Bank), s.bank b = .on → bankMode s.mode b = .retention →
    (256 ≤ s.bankIdle b → exec (.bankRetentionEntry b) s = .next (s.setBank b .retention)) ∧
    (s.bankIdle b < 256 → exec (.bankRetentionEntry b) s = .next s)) ∧
  (∀ (s : State) (b : Bank), s.bank b = .waking → 1024 ≤ s.bankIdle b → exec (.bankWakeDone b) s = .next (s.setBank b .on)) ∧
  (∀ (s : State) (who : Requester) (v : BitVec 32), s.mayWrite who Reg.srmConflictClr = true → bitOf v 0 = true →
    ∃ t, exec (.srmConflictClr who v) s = .next t ∧ (∀ k, k < 20 → t.reg (Reg.srmConflict + 4 * k) = regReset (Reg.srmConflict + 4 * k)) ∧
      (∀ o, o < Reg.srmConflict ∨ Reg.srmConflict + 80 ≤ o → t.reg o = s.reg o) ∧ t = { s with regs := t.regs })

/-- R418: DDR_ALERT_N. -/
def Obligations.DdrAlertOnlyRecords : Prop :=
  ∀ s : State, s.islandOn .mem = true → ∃ t, exec .ddrAlert s = .next t ∧ bitOf (t.reg Reg.memCause) 5 = true ∧
    t = { s with regs := t.regs, evt := t.evt,
                 mgt := { s.mgt with alertPipe := t.mgt.alertPipe, msix := t.mgt.msix, msixPend := t.mgt.msixPend,
                                     clockStopped := t.mgt.clockStopped } } ∧
    t.evt = (s.event 0x9C05 (s.leafDetail .memCause)).evt ∧
    (s.evt.ready = true → s.evt.full = false → s.evt.queue.length < 1024 →
      t.evt.queue = s.evt.queue ++ [s.evRec 0x9C05 (s.leafDetail .memCause)]) ∧
    (∀ o, o ≠ Reg.memCause → o ≠ Reg.evtCause → t.reg o = s.reg o)

/-! ## Keys -/

/-- R451: the lock. -/
def Obligations.KeyManagementLock : Prop :=
  (∀ (s : State) (who : Requester), s.mayWrite who Reg.cryKmLock = true →
    ((s.kmOwner = 7 ∨ (s.cry.lockAt = some s.ldg.tick ∧ reqId who < s.kmOwner ∧ s.cry.op = none)) →
      ∃ t, exec (.acquire who) s = .next t ∧ t.kmOwner = reqId who ∧ t.cry.op = s.cry.op ∧ t.cry.slots = s.cry.slots) ∧
    (s.kmOwner ≠ 7 → (s.cry.lockAt ≠ some s.ldg.tick ∨ s.kmOwner ≤ reqId who ∨ s.cry.op.isSome = true) →
      exec (.acquire who) s = .next (s.noteAcquire (reqId who))) ∧
    (s.noteAcquire (reqId who)).kmOwner = s.kmOwner ∧
    (s.kmOwner = reqId who → s.cry.op = none → ∃ t, exec (.release who) s = .next t ∧ t.cry.releasePending = false ∧
      t.kmOwner = (if s.cry.acqAt = some s.ldg.tick then s.cry.acq.foldl min 7 else 7)) ∧
    (s.kmOwner = reqId who → s.cry.op.isSome = true →
      exec (.release who) s = .next { s with cry := { s.cry with releasePending := true } }) ∧
    (s.kmOwner ≠ reqId who → exec (.release who) s = .next s)) ∧
  (∀ (s t : State) (who : Requester) (slot n : Nat) (ty : KeyType) (w : Wrapped) (c : Instr), s.kmOwner ≠ reqId who →
    c ∈ [.unwrap who slot ty w, .wrapOut who slot, .wrapData who slot n, .clear who slot] → exec c s = .next t → t.cry = s.cry) ∧
  (∀ (s : State) (o : KmOp), s.cry.op = some o → s.cry.releasePending = true → o.start + kmTicks o s.clockLevel ≤ s.ldg.tick →
    ∃ t, exec .kmOpComplete s = .next t ∧ t.cry.op = none ∧ t.cry.releasePending = false ∧
      t.kmOwner = (if s.cry.acqAt = some s.ldg.tick then s.cry.acq.foldl min 7 else 7))

/-- Key-management operations (R444, R445, R449, R450, R458). -/
def Obligations.KeyOperations : Prop :=
  (∀ (s : State) (who : Requester) (slot : Nat), s.mayWrite who Reg.cryKmCmd = true → s.kmOwner = reqId who → s.cry.op = none →
    s.mem.wiping = false →
    exec (.clear who slot) s = .next { s with cry := { s.cry with op := some ⟨.clear, slot, 0, false, {}, [], 0, s.ldg.tick⟩ } } ∧
    (∀ (m : Nat) (t : KeyType) (w : Wrapped) (k : KeySlot), s.slotMember slot = some m → typeAt t (slot - s.keyBase m) = true →
      s.loadCheck slot t w = .ok k →
      exec (.unwrap who slot t w) s = .next { s with cry := { s.cry with op := some ⟨.unwrap, slot, 0, false, k, [],
        wrapBlocks (keyBytesOf t), s.ldg.tick⟩ } }) ∧
    (∀ (m : Nat) (t : KeyType) (w : Wrapped), s.slotMember slot = some m → typeAt t (slot - s.keyBase m) = false →
      exec (.unwrap who slot t w) s = .next { s with cry := { s.cry with op := some ⟨.unwrap, slot, 2, false, {}, [],
        0, s.ldg.tick⟩ } }) ∧
    ((s.slot slot).type = .mint → (s.slot (s.keyBase (s.slot slot).member)).type = .kek →
      exec (.wrapOut who slot) s = .next { s with cry := { s.cry with op := some ⟨.wrapOut, slot, 0, false, {},
        (List.range 14).map (Config.wrapWord (s.slot (s.keyBase (s.slot slot).member)).key (s.slot slot).key), wrapBlocks 48, s.ldg.tick⟩ } }) ∧
    ((s.slot slot).type ≠ .mint →
      exec (.wrapOut who slot) s = .next { s with cry := { s.cry with op := some ⟨.wrapOut, slot, 2, false, {}, [], 0, s.ldg.tick⟩ } }) ∧
    (∀ n, (s.slot slot).type = .kek → 8 ≤ n → n ≤ 64 →
      exec (.wrapData who slot n) s = .next { s with cry := { s.cry with op := some ⟨.wrapData, slot, 0, false, {},
        (List.range (ceilDiv (n + 8) 4)).map (Config.wrapWord (s.slot slot).key (s.kmData % 2 ^ (8 * n))),
        wrapBlocks n, s.ldg.tick⟩ } }) ∧
    (∀ n, ((s.slot slot).type ≠ .kek ∨ n < 8 ∨ 64 < n) →
      exec (.wrapData who slot n) s = .next { s with cry := { s.cry with op := some ⟨.wrapData, slot, 2, false, {}, [], 0, s.ldg.tick⟩ } })) ∧
  (∀ (s : State) (o : KmOp), s.cry.op = some o → o.result = 0 → s.cry.releasePending = false → (o.kind = .unwrap ∨ o.kind = .clear) →
    o.start + kmTicks o s.clockLevel ≤ s.ldg.tick →
    ∃ s1 : State, s1 = ((s.setFld Reg.cryKmStatus 1 1 1).setFld Reg.cryKmStatus 2 2 0).addBlocks 64 o.blocks ∧
      exec .kmOpComplete s = .next (({ s1 with cry := { s1.cry with op := none } } : State).setSlot o.slot
        (if o.kind = .unwrap then o.new else {}))) ∧
  (∀ (s : State) (who : Requester) (v : BitVec 32), s.mayWrite who Reg.crySlotSel = true →
    ∃ t, exec (.crySlotSelWrite who v) s = .next t ∧ t.reg Reg.crySlotSel = BitVec.ofNat 32 (getField v 0 12) ∧
      t.fld Reg.crySlotInfo 0 2 = keyTypeCode (s.slot (getField v 0 12)).type ∧
      t.fld Reg.crySlotInfo 2 12 = (s.slotMember (getField v 0 12)).getD 0xFFF % 4096 ∧ t = { s with regs := t.regs })

/-- R430, R453, R441. -/
def Obligations.TamperWipesKeys : Prop :=
  (∀ (s : State) (mv n : Nat), s.islandOn .cry = true →
    ((mv < 600 ∨ 950 < mv) → 16 ≤ n → ∃ t, exec (.tamperV mv n) s = .next t ∧ t.mem.wiping = true ∧ t.cry.op = none ∧
      bitOf (t.reg Reg.srmCause) 2 = true) ∧
    (600 ≤ mv → mv ≤ 950 → exec (.tamperV mv n) s = .next s) ∧ (n < 16 → exec (.tamperV mv n) s = .next s)) ∧
  (∀ (s : State) (ps n : Nat), s.islandOn .cry = true →
    ((ps < 900 ∨ 1100 < ps) → 16 ≤ n → ∃ t, exec (.tamperClk ps n) s = .next t ∧ t.mem.wiping = true ∧ t.cry.op = none ∧
      bitOf (t.reg Reg.srmCause) 3 = true) ∧
    (900 ≤ ps → ps ≤ 1100 → exec (.tamperClk ps n) s = .next s) ∧ (n < 16 → exec (.tamperClk ps n) s = .next s)) ∧
  (∀ s : State, s.islandOn .cry = true → ∃ t, exec .tamperShield s = .next t ∧ t.mem.wiping = true ∧ t.cry.op = none ∧
    bitOf (t.reg Reg.srmCause) 4 = true) ∧
  (∀ s : State, s.mem.wiping = true → s.islandOn .mem = true →
    (s.mem.wipeFrom + 8192 ≤ s.ldg.tick → ∃ t, exec .wipeDone s = .next t ∧ t.mem.wiping = false ∧
      (∀ n, t.slot n = {}) ∧ bitOf (t.reg Reg.srmCause) 6 = true) ∧
    (s.ldg.tick < s.mem.wipeFrom + 8192 → exec .wipeDone s = .next s)) ∧
  (∀ s : State, s.islandOn .cry = true → ∃ t, exec .entropyFail s = .next t ∧ t.cry = { s.cry with restarts := s.cry.restarts + 1 } ∧
    bitOf (t.reg Reg.cryCause) 3 = true ∧ t.mode = s.mode ∧ t.host = s.host) ∧
  (∀ (s : State) (g : Nat), s.islandOn .cry = true → 2 ^ 20 ≤ s.maskBlocks g → ∃ t, exec (.entropyStale g) s = .next t ∧ t.cry = s.cry ∧
    bitOf (t.reg Reg.cryCause) 4 = true ∧ t.mode = s.mode ∧ t.host = s.host) ∧
  (∀ (s : State) (g : Nat), s.islandOn .cry = true → 4096 ≤ s.maskBlocks g → ∃ t, exec (.maskReseed g) s = .next t ∧ t.maskBlocks g = 0 ∧
    ∀ k, k ≠ g → t.maskBlocks k = s.maskBlocks k)

/-! ## The movers -/

/-- Chains (R358, R362, R363, R365 to R367, R370). -/
def Obligations.ChainsStartAndStop : Prop :=
  (∀ (s s1 : State) (who : Requester) (ch : Nat) (ws : List (Nat × Nat × List Byte)), s.chWrites who ch = true → s.chRun ch = false →
    s1 = (s.ownerWrites ws).setFld (chReg Reg.xfrChCtl ch) 0 1 1 → ((s1.chain ch).st = .stopped ∨ (s1.chain ch).st = .idle) →
    exec (.chainRun who ch ws) s = .next (s1.chainStart ch)) ∧
  (∀ (s s1 : State) (who : Requester) (ch n : Nat) (ws : List (Nat × Nat × List Byte)), s.chWrites who ch = true →
    s1 = (s.ownerWrites ws).setReg (chReg Reg.xfrChAppend ch) (BitVec.ofNat 32 n) →
    ((s1.chain ch).st = .running → exec (.appendCountWrite who ch n ws) s = .next s1) ∧
    ((s1.chain ch).st = .stopped → exec (.appendCountWrite who ch n ws) s = .next (s1.chainStart ch)) ∧
    ((s1.chain ch).st = .idle → s1.chAppend ch ≠ s1.chConsumed ch → (s1.chain ch).reread = none →
      exec (.appendCountWrite who ch n ws) s = .next (s1.setChain ch { s1.chain ch with reread := some (s1.ldg.tick + 64) }))) ∧
  (∀ (s : State) (ch : Nat) (d : Desc), s.islandOn .xfr = true → (s.chain ch).st = .running → (s.chain ch).cur = some d →
    (s.chain ch).held = none → (s.chain ch).linkWait = false →
    (d.op = 1 → ∃ s1 : State, s1 = ((s.touchDram d.srcSpace d.src).touchDram d.dstSpace d.dst).moveBytes ch d
        (d.length - (s.chain ch).done) ∧
      exec (.descriptorCopy ch none) s = .next (s1.descEnd ch (if (s1.chain ch).poisoned then 5 else 0) false)) ∧
    (d.op = 2 → ∃ s1 : State, s1 = (s.touchDram d.dstSpace d.dst).moveBytes ch d (d.length - (s.chain ch).done) ∧
      exec (.descriptorFill ch none) s = .next (s1.descEnd ch (if (s1.chain ch).poisoned then 5 else 0) false)) ∧
    (d.op = 3 → (s.chain ch).wroteDram = false → exec (.fence ch none) s =
      .next ((s.setChain ch { s.chain ch with wroteHost := false, wroteDram := false }).descEnd ch 0 true)) ∧
    (∀ a, d.op = 3 → (s.chain ch).wroteDram = false → (s.chain ch).wroteHost = true →
      exec (.fence ch (some a)) s = .next (s.chainHalt ch 1 1 a)) ∧
    (d.op = 3 → (s.chain ch).wroteDram = true → (s.mem.occA ≠ 0 ∨ s.mem.occB ≠ 0) → exec (.fence ch none) s =
      .next { s with mem := { s.mem with drainEmpty := true } })) ∧
  (∀ (s : State) (ch : Nat), s.islandOn .xfr = true → (s.chain ch).st = .running → (s.chain ch).linkWait = true →
    exec (.linkReadReturn ch false) s = .next (s.linkReturn ch) ∧
    exec (.linkReadReturn ch true) s =
      .next ((s.setChain ch { s.chain ch with linkWait := false }).chainHalt ch 1 2 ((s.chain ch).curAddr + 56))) ∧
  (∀ (s : State) (ch t : Nat), s.islandOn .xfr = true → ((s.chain ch).st = .running ∨ (s.chain ch).st = .idle) →
    (s.chain ch).reread = some t → t ≤ s.ldg.tick → exec (.linkReread ch) s =
      .next ((s.setChain ch { s.chain ch with reread := none, linkWait := true, final := true }).chState ch .running)) ∧
  (∀ (s : State) (who : Requester) (ch : Nat), s.chWrites who ch = true → (s.chain ch).st = .halted → (s.chain ch).held = none →
    exec (.chainRetry who ch) s = .next (s.chainRestart ch 0) ∧ exec (.chainSkip who ch) s = .next (s.chainRestart ch 1) ∧
    exec (.chainAbort who ch) s = .next (s.chainRestart ch 2)) ∧
  (∀ (s : State) (who : Requester) (ch v : Nat), s.chWrites who ch = true →
    ((s.setFld (chReg Reg.xfrChCqHead ch) 0 16 v).chain ch).held = none →
    exec (.cqHeadWrite who ch v) s = .next (s.setFld (chReg Reg.xfrChCqHead ch) 0 16 v))

/-- Contexts (R354, R371, R373, R376). -/
def Obligations.ContextReads : Prop :=
  (∀ (s : State) (a p r : Nat), (p, r) ∈ (s.ctx a).reads →
    exec (.contextReadComplete a p r) s = .next ((s.setCtx a { s.ctx a with reads := dropFirst (p, r) (s.ctx a).reads }).issueAll)) ∧
  (∀ (s : State) (a r k : Nat) (ad : BitVec 64), (0, r) ∈ (s.ctx a).reads → (s.ctx a).halted = false →
    exec (.ctxHalt a 0 r k ad) s = .next ((s.setCtx a { s.ctx a with
      reads := dropFirst (0, r) (s.ctx a).reads, failed := (s.ctx a).failed ++ [(0, r)], halted := true, kind := k % 8,
      purpose := 0, errAddr := ad, errSeq := 0xFFFFFFFF, haltAt := s.ldg.tick,
      haltPos := (s.ctx a).reads.findIdx (fun r' => decide (r' = (0, r))) }).raise .xfrCause 0)) ∧
  (∀ (s : State) (a p r k : Nat) (ad : BitVec 64), (p, r) ∈ (s.ctx a).reads → (s.ctx a).halted = true →
    (s.ctx a).haltAt ≠ s.ldg.tick → exec (.ctxHalt a p r k ad) s = .next (s.setCtx a { s.ctx a with
      reads := dropFirst (p, r) (s.ctx a).reads, failed := (s.ctx a).failed ++ [(p, r)] })) ∧
  (∀ (s : State) (who : Requester) (a : BitVec 11), s.mayWrite who Reg.xfrCtxSel = true →
    exec (.xfrCtxSelWrite who a) s = .next ((s.setReg Reg.xfrCtxSel (a.setWidth 32)).loadCtx a.toNat)) ∧
  (∀ (s : State) (who : Requester), s.mayWrite who Reg.xfrCtxCtl = true → (s.ctx s.selCtx).halted = true →
    exec (.contextRestartRetry who) s = .next ((s.setCtx s.selCtx { s.ctx s.selCtx with
      halted := false, queue := (s.ctx s.selCtx).failed.filter s.readLive ++ (s.ctx s.selCtx).queue, failed := [] }).issueAll) ∧
    ((s.ctx s.selCtx).failed = [] →
      exec (.contextRestartFail who) s = .next (((s.setCtx s.selCtx { s.ctx s.selCtx with halted := false }).kick).issueAll)))

/-! ## Causes, the recorder and the registers -/

/-- The cause tree and the recorder (R541, R547, R552). -/
def Obligations.CausesAndRecorder : Prop :=
  (∀ (s : State) (l : Leaf) (b : Nat), leafHasBit l b = true → b < 32 → s.islandOn (leafIsland l) = true →
    ∃ t, exec (.causeLeafSet l b) s = .next t ∧ bitOf (t.reg (leafReg l)) b = true ∧ t.mode = s.mode ∧ t.host = s.host ∧
      ∀ o, o ≠ leafReg l → o ≠ Reg.evtCause → t.reg o = s.reg o) ∧
  (∀ (s : State) (who : Requester) (l : Leaf) (v : BitVec 32) (r : RegRow), s.mayWrite who (leafReg l) = true →
    regRow (leafReg l) = some r →
    ∃ t, exec (.causeLeafClear who l v) s = .next t ∧ t.reg (leafReg l) = written r (s.reg (leafReg l)) v ∧ t.evt = s.evt ∧
      ∀ o, o ≠ leafReg l → t.reg o = s.reg o) ∧
  (∀ (s : State) (v : Bool) (due : Nat) (vs : List (Bool × Nat)), s.mgt.alertPipe = (v, due) :: vs →
    (due ≤ s.ldg.tick → exec .alertNUpdate s = .next { s with
      mgt := { s.mgt with alertPipe := vs }, pins := { s.pins with alertN := v && !s.mgt.alertForce } }) ∧
    (s.islandOn .ldg = true → s.ldg.tick < due → exec .alertNUpdate s = .next s)) ∧
  (∀ s : State, s.recorderFree = true → s.nextPage ≠ [] → (ofind s.evt.pagePrograms (s.evt.next / 4)).getD 0 < 4 → s.evt.next ≠ 32767 →
    exec .evtRecordProgram s = .next { s with
      evt := { s.evt with
        prog := s.nextPage, queue := s.evt.queue.drop s.nextPage.length,
        pagePrograms := oput s.evt.pagePrograms (s.evt.next / 4) ((ofind s.evt.pagePrograms (s.evt.next / 4)).getD 0 + 1) },
      nor := { s.nor with op := some ⟨.recorder, .program, 0x07DF0000 + 64 * s.evt.next, []⟩ } }) ∧
  (∀ s : State, s.evt.prog ≠ [] → s.nor.op.isSome = true → s.nor.haltMp = false → s.nor.resumeDue = false →
    s.evt.next + s.evt.prog.length ≠ 32768 →
    ∃ s0 : State, s0 = { s with nor := { s.nor with op := none }, evt := { s.evt with prog := [] } } ∧
      exec (.evtProgramDone true) s = .next ({ s0.storeRecs s.evt.prog with
        evt := { (s0.storeRecs s.evt.prog).evt with next := s.evt.next + s.evt.prog.length } } : State).norKick) ∧
  (∀ s : State, s.evt.prog ≠ [] → s.nor.op.isSome = true → s.nor.haltMp = false → s.nor.resumeDue = false →
    (s.evt.next / 4 + 1) * 4 ≠ 32768 →
    ∃ s1 : State, s1 = ({ s with nor := { s.nor with op := none }, evt := { s.evt with prog := [] } } : State).storeRecs
        (s.evt.prog.map (fun r => { r with crcOk := false })) ∧
      exec (.evtProgramDone false) s = .next (((({ s1 with evt := { s1.evt with
        next := (s.evt.next / 4 + 1) * 4, lost := satAdd 32 s.evt.lost s.evt.prog.length } } : State).raise .norCause 5).raise
          .evtCause 3).norKick)) ∧
  (∀ (s : State) (who : Requester) (v : BitVec 32), s.mayWrite who Reg.evtRdSel = true →
    ∃ s1 : State, s1 = s.setReg Reg.evtRdSel (BitVec.ofNat 32 (getField v 0 15)) ∧
      (s.nor.op = none → exec (.evtRdSelWrite who v) s = .next s1.rdLoad) ∧
      (s.nor.op.isSome = true → exec (.evtRdSelWrite who v) s = .next { s1 with evt := { s1.evt with rdWait := true } }))

/-- R566: the shadows. -/
def Obligations.RequesterShadows : Prop :=
  (∀ (s : State) (who : Requester), s.regAlive Reg.ldgTick = true → s.regAlive (Reg.ldgTick + 4) = true →
    reaches who Reg.ldgTick false = true → reaches who (Reg.ldgTick + 4) false = true →
    ∃ t, exec (.tickLoRead who) s = .next t ∧ t.readReg who (Reg.ldgTick + 4) = BitVec.ofNat 32 (s.ldg.tick / 2 ^ 32) ∧
      (∀ w, reqNum w ≠ reqNum who → t.readReg w (Reg.ldgTick + 4) = s.readReg w (Reg.ldgTick + 4)) ∧
      (∀ w, t.readReg w (Reg.pwrTime + 4) = s.readReg w (Reg.pwrTime + 4)) ∧ t.regs = s.regs) ∧
  (∀ (s : State) (who : Requester), s.regAlive Reg.pwrTime = true → s.regAlive (Reg.pwrTime + 4) = true →
    reaches who Reg.pwrTime false = true → reaches who (Reg.pwrTime + 4) false = true →
    ∃ t, exec (.timeLoRead who) s = .next t ∧ t.readReg who (Reg.pwrTime + 4) = BitVec.ofNat 32 (s.pwr.time / 2 ^ 32) ∧
      (∀ w, reqNum w ≠ reqNum who → t.readReg w (Reg.pwrTime + 4) = s.readReg w (Reg.pwrTime + 4)) ∧
      (∀ w, t.readReg w (Reg.ldgTick + 4) = s.readReg w (Reg.ldgTick + 4)) ∧ t.regs = s.regs) ∧
  (∀ (f : BitVec 11) (m n : Fin 4), reqNum .mp ≠ reqNum (.mdp n) ∧ reqNum .mp ≠ reqNum .pf ∧ reqNum (.mdp n) ≠ reqNum .pf ∧
    (m ≠ n → reqNum (.mdp m) ≠ reqNum (.mdp n)) ∧ reqNum (.func f.toNat) = reqNum .pf) ∧
  (∀ (s : State) (f o : Nat), o ∈ [Reg.ldgTick, Reg.ldgTick + 4, Reg.pwrTime, Reg.pwrTime + 4] →
    s.readReg (.func f) o = 0 ∧ exec (.tickLoRead (.func f)) s = .next s ∧ exec (.timeLoRead (.func f)) s = .next s)

/-- Register writes (R155, R156, R563, R565). -/
def Obligations.RegisterWriteMasks : Prop :=
  (∀ (s : State) (who : Requester) (o : Nat) (v : BitVec 32) (r : RegRow), (∀ f, who ≠ .func f) → s.mayWrite who o = true →
    s.kmDataAt o = false → ownRow o = false → s.writeHeld o v = false → (∀ ch, chainAt o ≠ some (ch, 0)) → regRow o = some r →
    ∃ t, exec (.registerWrite who o ⟨15, v⟩) s = .next t ∧
      t.reg o = written (if s.outranked who o then { r with rw := 0 } else r) (s.reg o) v ∧ (∀ p, p ≠ o → t.reg p = s.reg p) ∧
      t.mode = s.mode ∧ t.host = s.host ∧ t.evt = s.evt) ∧
  (∀ (s : State) (who : Requester) (o : Nat), s.mgt.wrote.1 ≠ s.ldg.tick → s.outranked who o = false) ∧
  (∀ (s : State) (who : Requester) (o ch : Nat) (v : BitVec 32), (∀ f, who ≠ .func f) → s.mayWrite who o = true → s.kmDataAt o = false →
    chainAt o = some (ch, 0) → exec (.registerWrite who o ⟨15, v⟩) s = .next (s.writeChCtl who ch v (s.rankedAt who o v))) ∧
  (∀ (s : State) (who : Requester) (o : Nat) (be : BitVec 4) (v : BitVec 32), (∀ f, who ≠ .func f) → be ≠ 15 →
    exec (.registerWrite who o ⟨be, v⟩) s = .next s) ∧
  (∀ (s : State) (who : Requester) (o : Nat) (be : BitVec 4) (v : BitVec 32), (∀ f, who ≠ .func f) → s.mayWrite who o = false →
    exec (.registerWrite who o ⟨be, v⟩) s = .next s) ∧
  (∀ (s : State) (who : Requester) (o : Nat) (v : BitVec 32), (∀ f, who ≠ .func f) → s.mayWrite who o = true → s.kmDataAt o = true →
    s.kmOwner ≠ reqId who → exec (.registerWrite who o ⟨15, v⟩) s = .next (s.raise .cryCause 1)) ∧
  (∀ (s : State) (who : Requester) (v : BitVec 32), s.mayWrite who Reg.ldgTraceCtl = true → bitOf v 0 = true →
    ∃ t, exec (.traceArm who v) s = .next t ∧ t.reg Reg.ldgTraceCtl = s.writtenAt Reg.ldgTraceCtl v ∧ t.ldg.traced = none ∧
      t.ldg.traceFrom = s.ldg.tick ∧ (∀ o, o ≠ Reg.ldgTraceCtl → t.reg o = s.reg o)) ∧
  (∀ (s : State) (who : Requester) (a : Nat), a < 2048 → s.mayWrite who (Reg.actExtwaitCtl + 0x100 * a) = true →
    ∃ t, exec (.extwaitClear who a) s = .next t ∧ t.reg (Reg.actExtwaitMax + 0x100 * a) = 0 ∧ t.reg (Reg.actExtwaitCnt + 0x100 * a) = 0 ∧
      (∀ o, o ≠ Reg.actExtwaitMax + 0x100 * a → o ≠ Reg.actExtwaitCnt + 0x100 * a → t.reg o = s.reg o) ∧ t = { s with regs := t.regs })

/-- R44, R46: the TAP (its state graph and its registers' lengths are log entry 60). -/
def Obligations.JtagTap : Prop :=
  (∀ (s : State) (up tms tdi : Bool), s.islandOn .aon = true → s.jtag.tck ≠ up →
    (s.jtag.tdoDriven = true → tapShifts s.jtag.tap = true) →
    ∃ t, exec (.tckEdge up ⟨tms, tdi⟩) s = .next t ∧ t.jtag.tck = up ∧ (t.jtag.tdoDriven = true → tapShifts t.jtag.tap = true) ∧
      (up = true → t.jtag.tap = tapNext s.jtag.tap tms) ∧
      (up = true → tapShifts s.jtag.tap = true → t.jtag.path = s.jtag.path.drop 1 ++ [tdi]) ∧
      (up = false → t.jtag.tap = s.jtag.tap ∧ t.jtag.tdoDriven = tapShifts s.jtag.tap ∧ t.jtag.tdo = s.jtag.path.headD false) ∧
      t = { s with jtag := t.jtag, freeCount := t.freeCount }) ∧
  (∀ s : State, exec .trstNAssert s = .next { s with jtag := { s.jtag with tap := .testLogicReset, tdoDriven := false, ir := none } }) ∧
  (∀ (s : State) (tdi : Bool), s.islandOn .aon = true → s.jtag.tck = false →
    ∃ t, (List.replicate 5 [Instr.tckEdge true ⟨true, tdi⟩, Instr.tckEdge false ⟨true, tdi⟩]).flatten.foldl
      (fun (o : Host.Outcome State Fault Refusal) c => match o with | .next u => exec c u | x => x) (Host.Outcome.next s) = .next t ∧
      t.jtag.tap = .testLogicReset ∧ t.jtag.ir = none)

/-! ## Sleep, thermal and the loops -/

/-- Sleep entries, wakes and the real-time count (R497, R502, R503). -/
def Obligations.SleepAndWake : Prop :=
  (∀ (s : State) (e : SleepEntry), s.pwr.sleep = some e → e.ap = 1 → e.q < s.ldg.tick → s.host.cmds = [] →
    (e.target = .doze → exec .abortPointAp2 s = .next (s.passPoint e 1)) ∧
    (e.target = .hibernate → e.wake = none → exec .abortPointAp2 s = .next (s.passPoint e 1).forceAll)) ∧
  (∀ (s : State) (e : SleepEntry), s.pwr.sleep = some e → e.ap = 2 →
    (e.target = .doze → s.mem.occA = 0 → s.mem.occB = 0 → exec .abortPointAp3 s = .next (s.passPoint e 2)) ∧
    (e.target = .hibernate → s.allSettled = true → s.db.recs = [] → exec .abortPointAp3 s = .next (s.passPoint e 2))) ∧
  (∀ s : State, s.daValid = true → s.islandOn .aon = true → (s.mode = .doze ∨ s.mode = .hibernate) →
    ((s.mode = .hibernate ∨ s.mgt.clockStopped = false) → exec .mgmtWake s = .next ((s.i3cOk []).wakeEvent 5)) ∧
    (s.mode = .doze → s.mgt.clockStopped = true → exec .mgmtWake s = .next s.i3cNack)) ∧
  (∀ s : State, s.islandOn .aon = true → s.pwr.rtc = s.reg Reg.pwrAlarm → exec .alarmMatch s = .next (s.wakeEvent 6)) ∧
  (∀ s : State, s.islandOn .aon = true → ∃ t, exec .rtcPeriod s = .next t ∧ t.pwr.rtc = s.pwr.rtc + 1 ∧ t.mode = s.mode ∧
    (s.mode = .hibernate → s.pwr.wakeSrc.isSome = true → s.boot.waking = false → t.pins.pwrHold = true ∧ t.boot.waking = true) ∧
    (s.mode = .maintenance → (64 * t.pwr.time + t.pwr.frac) % 2 ^ 70 = (64 * s.pwr.time + s.pwr.frac + 1953125) % 2 ^ 70))

/-- Thermal, wear and the loops (R505 to R507, R509, R514, R516 to R520). -/
def Obligations.ThermalAndLoops : Prop :=
  (∀ (s : State) (n : Nat) (r : Int), n < 16 → s.islandOn .ldg = true → s.ldg.tick % 1000000 = 0 → -80 ≤ r → r ≤ 560 → s.thr.riseRate = 0 →
    ∃ h, h = trimHist s.ldg.tick ((s.ldg.tick, r) :: (s.sensor n).hist) ∧
      exec (.sensorSample n r true) s = .next ((((((s.setSensor n { hist := h, riseFrom := none }).setReg (Reg.thmSensor + 4 * n)
        (BitVec.ofNat 32 (unsigned 11 r + 2048 * 0 + 4096 * b2n (decide (4 * ((s.thr.tWarn : Int) - 10) ≤ r))))).syncThm).judgeWarn
          r).judgeThrottle r false).judgeShutdown r h)) ∧
  (∀ s : State, modeLedger s.mode = true → 763 ≤ s.thm.coolFolios → s.throttleLevel ≠ 0 →
    exec .throttleRise s = .next (({ s with thm := { s.thm with coolFolios := 0 } } : State).throttleTo (s.throttleLevel - 1)).syncThm) ∧
  (∀ s : State, modeLedger s.mode = true → s.pwr.wearDue = true → s.meanErases ≤ s.pwr.wearHist.getLast?.getD s.meanErases →
    s.meanErases < s.thr.peRated →
    exec .wearEvaluation s = .next (({ s with pwr := { s.pwr with
      wearHist := (s.meanErases :: s.pwr.wearHist).take 7, wearDue := false } } : State).setReg
      Reg.pwrWear (BitVec.ofNat 32 (min s.meanErases 65535 + 2 ^ 16 * 16 + 2 ^ 21 * min 255 (100 * s.meanErases / max 1 s.thr.peRated))))) ∧
  (∀ s : State, modeLedger s.mode = true →
    (s.hourOver = true → ∃ t, exec .powerOnHour s = .next t ∧ t.pwr.hours = min (2 ^ 24 - 1) (s.pwr.hours + 1) ∧ t.pwr.minutes = 0 ∧
      t.pwr.wearDue = (s.pwr.wearDue || decide ((s.pwr.hours + 1) % 24 = 0)) ∧
      t.pwr.metaCopy.hours = t.pwr.hours ∧ t = { s with pwr := t.pwr }) ∧
    (s.hourOver = false → exec .powerOnHour s = .next s)) ∧
  (∀ (s : State) (n mv : Nat), s.islandOn .ldg = true → n < 4 → s.ldg.tick % 10000 = 6250 → (s.loop n).pendingClose = none →
    s.loopClosed n = false →
    exec (.loopSample n mv) s = .next ((s.setFld (loopReg Reg.loopStatus n) 0 16 mv).setLoop n
      { s.loop n with err := s.loopOut n - (mv : Int) })) ∧
  (∀ s : State, s.islandOn .ldg = true → s.ldg.tick % 1000 = 0 →
    exec .profileStep s = .next ((((s.stepLoop 0).stepLoop 1).stepLoop 2).stepLoop 3)) ∧
  (∀ (s : State) (n t : Nat), n < 4 → (s.loop n).reachedAt = some t → s.loopClosed n = true → s.loopSettled n = false →
    (s.loop n).lateSet = false → t + 100000 ≤ s.ldg.tick →
    exec (.settleLate n) s = .next ((s.setLoop n { s.loop n with lateSet := true }).raise .loopCause (4 + n))) ∧
  (∀ (s : State) (who : Requester) (n : Nat) (c : Bool), n < 4 → s.mayWrite who (loopReg Reg.loopCtl n) = true →
    (s.loop n).pendingClose = none →
    exec (.loopCloseWrite who n c) s = .next ((s.setLoop n { s.loop n with pendingClose := some (c, s.ldg.tick) }).setFld
      (loopReg Reg.loopCtl n) 0 1 (b2n c))) ∧
  (∀ (s : State) (who : Requester) (n : Nat) (v : BitVec 32), n < 4 → s.mayWrite who (loopReg Reg.loopCoef0 n) = true →
    (s.loop n).pendingClose = none →
    (s.loopClosed n = false → exec (.coefWrite who n false v) s = .next (s.setReg (loopReg Reg.loopCoef0 n) v)) ∧
    (s.loopClosed n = true → exec (.coefWrite who n false v) s = .next (s.raise .loopCause n))) ∧
  (∀ (s : State) (who : Requester) (n : Nat) (v : BitVec 32), n < 4 → n ≠ 0 → s.mayWrite who (loopReg Reg.loopSetpoint n) = true →
    (s.loop n).pendingClose = none → exec (.setpointWrite who n v) s = .next (s.setTarget n (getField v 0 16))) ∧
  (∀ s : State, s.islandOn .ldg = true → s.plossHigh = true → s.boot.plossUp + 100000000 ≤ s.ldg.tick →
    bitOf (s.reg (loopReg Reg.loopCtl 1)) 0 = true → s.loopClosed 1 = false → exec .loop1Reclose s = .next (s.closeLoop 1))

/-- R517: the clamps of the output. -/
def Obligations.LoopOutputWithinVelocity : Prop :=
  ∀ (s : State) (n : Nat), n < 4 → s.islandOn .ldg = true → s.ldg.tick % 10000 = 8000 → (s.loop n).pendingClose = none →
    s.loopClosed n = true → (s.loop n).preset = false → (s.loopCfg n).outMax < 65536 →
    ((s.loopCfg n).outMin : Int) ≤ s.loopOut n → s.loopOut n ≤ ((s.loopCfg n).outMax : Int) →
    ∃ t, exec (.loopOutput n) s = .next t ∧ ((s.loopCfg n).outMin : Int) ≤ t.loopOut n ∧ t.loopOut n ≤ ((s.loopCfg n).outMax : Int) ∧
      t.loopOut n - s.loopOut n ≤ ((s.loopCfg n).vel : Int) ∧ s.loopOut n - t.loopOut n ≤ ((s.loopCfg n).vel : Int) ∧
      (n = 0 → t.pins.vrefOut = some (t.loopOut 0).toNat) ∧ (n = 1 → t.pins.chgPwm = (t.loopOut 1).toNat) ∧
      (n = 2 → t.pins.flioOut = some (t.loopOut 2).toNat) ∧ (n = 3 → t.pins.spareOut = (t.loopOut 3).toNat) ∧
      ((s.loop n).frozen = true → (t.loop n).integ = (s.loop n).integ)

/-! ## Admin commands -/

/-- Admin queues, information and features (R284, R286, R295, R315, R320, R495, R497, R503; codes of log entries 77 and 93). -/
def Obligations.AdminQueuesAndFeatures : Prop :=
  (∀ (s u : State) (f cid : Nat) (v : Via) (a : Adm), s.adminServed f = true → u = s.keepAlive f → v = .host f cid → a = ⟨v, true⟩ →
    (∀ qid n vec, 2 ≤ n → n ≤ 4096 → 1 ≤ qid → qid ≤ u.maxQp f → ofind (u.ctrl f).cqs qid = none → (u.ctrl f).cqs.length < u.maxQp f →
      vec < vectors f → exec (.createIoCompletionQueue a qid n vec true) s =
        .next ((u.setCtrl f { u.ctrl f with cqs := oput (u.ctrl f).cqs qid ⟨n, 0, vec⟩ }).reply v stOk 0)) ∧
    (∀ qid n cq i, 2 ≤ n → n ≤ 4096 → 1 ≤ qid → qid ≤ u.maxQp f → u.findQueue f qid = none → u.qpUsed f < u.maxQp f →
      (ofind (u.ctrl f).cqs cq).isSome = true → firstFree u.host.queues 0 16384 = some i →
      exec (.createIoSubmissionQueue a qid n cq true) s = .next ((u.setQueue i ⟨f, qid, cq, n, none, 0, 0⟩).reply v stOk 0)) ∧
    (∀ qid, (ofind (u.ctrl f).cqs qid).isSome = true → (∀ e ∈ u.host.queues, e.2.func = f → e.2.cqid ≠ qid) →
      exec (.deleteIoCompletionQueue a qid) s =
        .next ((u.setCtrl f { u.ctrl f with cqs := odel (u.ctrl f).cqs qid }).reply v stOk 0)) ∧
    (∀ qid i q, u.findQueue f qid = some (i, q) → (∀ e ∈ u.host.cmds, e.2.net = true ∨ e.2.queue ≠ i) →
      exec (.deleteIoSubmissionQueue a qid) s =
        .next ((({ u with host := { u.host with queues := odel u.host.queues i } } : State).kick).reply v stOk 0)) ∧
    (∀ sq c, u.findQueue f sq = none → exec (.abort a sq c) s = .next (u.reply v stOk 1)) ∧
    (∀ sq c i q h x, u.findQueue f sq = some (i, q) → u.host.cmds.find? (fun e => !e.2.net && decide (e.2.queue = i) &&
        decide (e.2.sqe.cid = c) && decide (e.2.phase = .fetched) && !u.canArrive e.2) = some (h, x) →
      exec (.abort a sq c) s = .next (((u.toPost h { x with locks := [] } stAbortRequested).kick).reply v stOk 0)) ∧
    (8 ≤ (u.ctrl f).aers.length → exec (.asynchronousEventRequest a) s = .next (u.reply v stAerLimit 0)) ∧
    ((u.ctrl f).aers.length < 8 → (u.ctrl f).events = [] →
      exec (.asynchronousEventRequest a) s = .next (u.setCtrl f { u.ctrl f with aers := (u.ctrl f).aers ++ [cid] })) ∧
    exec (.keepAlive a) s = .next (u.reply v stOk 0) ∧
    (∀ page lsi off n p, page ≠ 0x02 → u.logPage f page lsi = .ok p → off ≤ p.1.length →
      exec (.getLogPage a page 0 lsi off n) s = .next (p.2.replyData v stOk 0 ((p.1.drop off).take n))) ∧
    (∀ cns ns cn csi, exec (.identify a cns ns cn csi) s = .next (u.dataReply a (u.identify f cns ns cn csi))) ∧
    (∀ fid w x dw, fid ≠ 0x02 → fid ≠ 0x0F → u.featureValue f fid w = .ok (x, dw) →
      exec (.setFeatures a fid w false) s =
        .next ((u.setCtrl f { u.ctrl f with features := oput (u.ctrl f).features (featureKey fid w) x }).reply v stOk dw) ∧
      exec (.setFeatures a fid w true) s = .next (u.reply v stFeatureNotSaveable 0)) ∧
    (∀ fid w, knownFeatures.contains fid = true → fid ≠ 0x02 → fid ≠ 0x0E → exec (.getFeatures a fid 0 w) s =
      .next (u.reply v stOk ((ofind (u.ctrl f).features (featureKey fid w)).getD (u.featureDflt f fid)).toNat)) ∧
    (∀ ms, u.pwr.time < ms % 2 ^ 48 * 1000000 → exec (.timestamp a ms false) s = .next (({ u with pwr := { u.pwr with
      time := ms % 2 ^ 48 * 1000000, uncertain := false, synced := true } } : State).reply v stOk 0)) ∧
    (f = 0 → (∀ ps, ps ≤ 3 → exec (.powerStateSet a ps false) s = .next ((u.planRequest u.reqPlan ps).awaitPlan v)) ∧
      exec (.dozeRequest a false) s = .next (u.sleepRequest .doze v) ∧
      exec (.hibernateRequest a false) s = .next (u.sleepRequest .hibernate v) ∧
      (∀ c n, u.isVf c = true → exec (.virtualizationManagement a 8 c n) s =
        .next ((u.setCtrl c { u.ctrl c with resources := n }).reply v stOk n)))) ∧
  (∀ (s : State) (f : Nat), s.islandOn .hst = true → (s.ctrl f).kato ≠ 0 → (s.ctrl f).rdy = true → (s.ctrl f).cfs = false →
    (s.ctrl f).kaFrom + (s.ctrl f).kato * 1000000 ≤ s.ldg.tick →
    exec (.keepAliveTimeout f) s = .next (s.setCtrl f { s.ctrl f with cfs := true }))

/-- Namespaces and firmware (R123, R293, R294, R316, R335, R337, R553). -/
def Obligations.NamespacesAndFirmware : Prop :=
  (∀ (s u : State) (cid : Nat) (v : Via) (a : Adm), s.adminServed 0 = true → u = s.keepAlive 0 → v = .host 0 cid → a = ⟨v, true⟩ →
    (∀ (q : Sqe) (data : List Byte) id s1, getField q.cdw10 0 4 = 0 →
      u.nsCreate (nsAsk { q with opcode := 0x0D#8, reservedZero := true } data) none = .ok (id, s1) →
      exec (.namespaceManagement a q data) s = .next (s1.reply v stOk id)) ∧
    (∀ (q : Sqe) (data : List Byte), u.ns q.nsid = none →
      exec (.namespaceAttachment a q data) s = .next (u.reply v stInvalidNamespace 0)) ∧
    (∀ (q : Sqe) (data : List Byte) (x y : Ns) (c : Nat), u.ns q.nsid = some x → getField q.cdw10 0 4 = 0 → ctrlIds data = [c] →
      u.functionExists c = true → x.attached.contains c = false →
      y = { x with attached := x.attached ++ [c], owner := some (x.owner.getD c) } →
      exec (.namespaceAttachment a q data) s = .next ((({ u with med := { u.med with ns := oput u.med.ns q.nsid y } } : State).nsChanged
        c q.nsid).reply v stOk 0)) ∧
    (∀ (q : Sqe) (x : Ns), u.ns q.nsid = some x → getField q.cdw10 0 4 + 16 * getField q.cdw10 12 2 ≤ 2 → getField q.cdw10 9 3 = 0 →
      getField q.cdw10 5 3 = 0 →
      exec (.formatNvm a q) s = .next (u.nsDefer 0 cid q.nsid
        (some (getField q.cdw10 0 4 + 16 * getField q.cdw10 12 2 + 4 * getField q.cdw10 4 1)))) ∧
    (∀ (off n : Nat) (data : List Byte), off % 4096 = 0 → n % 4096 = 0 → n ≠ 0 → off + n ≤ stagingBytes →
      u.mode ≠ .maintenance → u.nor.update = none →
      exec (.firmwareImageDownload a off n data) s = .next (({ u with nor := { u.nor with
        staged := memWriteAll memDefault u.nor.staged off (padTo n data),
        stagedEnd := max u.nor.stagedEnd (off + n) } } : State).reply v stOk 0)) ∧
    (∀ slot x, u.commitSlot slot = some x → u.mode ≠ .maintenance → u.nor.update = none →
      exec (.firmwareCommitUpdate a 1 slot) s = .next (u.commitHost v x)) ∧
    (∀ act slot, act ≠ 1 → act ≠ 2 → exec (.firmwareCommitUpdate a act slot) s = .next (u.reply v stInvalidField 0)) ∧
    (∀ (slot : Nat) (x : Slot) (im : Image), u.commitSlot slot = some x → u.nor.update = none → im = u.slotImage x →
      exec (.firmwareCommitMark a slot) s = .next (if u.imageTaken im 2 8 then u.beginUpdate ⟨x, im.imageBytes,
        im.headDigest.setWidth 352, u.nextSeqFor x, sectorsOf im.imageBytes, sectorsOf im.imageBytes, .eraseControl, some v, true,
        false, 0⟩ else u.reply v stInvalidFirmwareImage 0))) ∧
  (∀ (s : State) (f cid : Nat) (q : Sqe) (data : List Byte), f ≠ 0 → s.adminServed f = true →
    (mediatedOp q = false → exec (.mediatedCommand f cid q data) s = .next ((s.keepAlive f).reply (.host f cid) stInvalidOpcode 0)) ∧
    (q.opcode = 0x80#8 → exec (.mediatedCommand f cid q data) s = .next ((s.keepAlive f).mediate f cid q [])))

/-- Vendor admin commands (R182, R320, R330, R332, R336, R337, R343, R345, R402, R448, R540). -/
def Obligations.VendorAdmin : Prop :=
  (∀ (s u : State) (cid : Nat) (v : Via) (a : Adm), s.adminServed 0 = true → u = s.keepAlive 0 → v = .host 0 cid → a = ⟨v, true⟩ →
    (∀ p l, exec (.planSelect a p l) s = .next ((u.planRequest (p % 4) (l % 4)).awaitPlan v)) ∧
    (∀ n, (u.acct n).binding = none → exec (.accountQuiesce a n) s = .next (u.reply v stSequenceError 0)) ∧
    (∀ n, (u.acct n).binding.isSome = true → (u.acct n).quiesced = true → (u.acct n).quiesce = none →
      exec (.accountQuiesce a n) s = .next (u.reply v stOk 0) ∧
      exec (.accountResume a n) s = .next ((((u.quiesceGroup n).foldl (fun (s : State) m => s.resumeMember m) u).kick).reply v stOk 0)) ∧
    (∀ n q, (u.acct n).binding.isSome = true → (u.acct n).quiesced = false → (u.acct n).quiesce = some q →
      exec (.accountQuiesce a n) s =
        .next ((u.setAcct n { u.acct n with quiesce := some { q with waiters := q.waiters ++ [cid] } }).kick)) ∧
    (∀ n e, u.bindCheck n e = 0 → e.bound = true → exec (.accountBind a n e) s =
      .next ((((u.bindResult n 0).bindNow n e).kick).reply v stOk 0)) ∧
    (∀ n e, u.bindCheck n e ≠ 0 → exec (.accountBind a n e) s = .next ((u.bindResult n (u.bindCheck n e)).reply v stBindingRefused 0)) ∧
    (∀ n, exec (.accountQuery a n) s = .next (u.replyData v stOk 0 (u.accountBytes n))) ∧
    (∀ tag r, ofind u.host.mediation (tag % 8192) = some r → r.tag = tag → exec (.mediationReply a tag false) s =
      .next ((({ u with host := { u.host with mediation := odel u.host.mediation (tag % 8192) } } : State).reply
        (.host r.account r.sqe.cid) stOperationDenied 0).reply v stOk 0)) ∧
    (u.oldestRequest = none → exec (.mediationReceive a) s = .next (u.reply v stOk 0xFFFFFFFF)) ∧
    (∀ n r, u.oldestRequest = some (n, r) → exec (.mediationReceive a) s = .next (({ u with host := { u.host with
      mediation := oput u.host.mediation n { r with received := true } } } : State).replyData v stOk r.tag (medBytes r))) ∧
    (∀ (bs : List Byte) (r1 r2 : Nat × State), r1 = u.authorise .pf 1 (readAuth bs) → r2 = u.authorise .pf 2 (readAuth bs) →
      exec (.restart a bs) s = .next (if r1.1 = 0 then r1.2.restartNow v .restart .restart else r1.2.authReply v r1.1) ∧
      exec (.maintenanceRequest a bs) s =
        .next (if r2.1 = 0 then r2.2.restartNow v .maintenance .management else r2.2.authReply v r2.1)) ∧
    exec (.reserveStatus a) s = .next (u.replyData v stOk 0 u.reserveBytes)) ∧
  (∀ (s u : State) (f cid slot : Nat) (k : KeyLoadData), s.adminServed f = true → u = s.keepAlive f →
    (∀ x, u.keyLoad f slot k = .ok x → exec (.keyLoad ⟨.host f cid, true⟩ slot k) s = .next ((u.setSlot slot x).reply (.host f cid) stOk 0)) ∧
    (∀ t, u.keyLoad f slot k = .error t → exec (.keyLoad ⟨.host f cid, true⟩ slot k) s =
      .next ((if t = stUnwrapFailed then u.raise .cryCause 0 else u).reply (.host f cid) t 0))) ∧
  (∀ (s : State) (who : Requester) (w : BitVec 32), s.mayWrite who Reg.ldgPlanReq = true →
    exec (.planReqWrite who w) s = .next (s.planRequest (getField w 0 2) (getField w 2 2)))

/-- R319: the bytes of Plan Status. -/
def Obligations.PlanStatusBytes : Prop :=
  ∀ s : State, ∃ bs : List Byte, bs.length = 256 ∧
    (∀ i, i < 16 → (bs.drop (4 * i)).take 4 = leBytes 4 (s.viewReg (Reg.ldgVarStatus + 4 * i)).toNat) ∧
    (∀ i, i < 16 → (bs.drop (64 + 4 * i)).take 4 = leBytes 4 (s.viewReg (Reg.ldgVarWhere + 4 * i)).toNat) ∧
    (bs.drop 0x80).take 4 = leBytes 4 (s.viewReg Reg.ldgPlanCur).toNat ∧
    (bs.drop 0x84).take 4 = leBytes 4 (s.viewReg Reg.ldgPlanReq).toNat ∧
    (bs.drop 0x88).take 4 = leBytes 4 (s.viewReg Reg.ldgPlanCause).toNat ∧
    (∀ i, 0x8C ≤ i → i < 256 → bs[i]? = some 0#8) ∧
    (∀ cid, s.adminServed 0 = true → ∃ t, exec (.planStatus ⟨.host 0 cid, true⟩) s = .next t ∧
      t.host.dataOut = bs :: s.host.dataOut ∧ t.regs = s.regs ∧ ∃ c, t.host.posted = c :: s.host.posted ∧ c.cid = cid ∧ c.status = stOk) ∧
    (∀ id, s.miCol = .full → ∃ t d, exec (.planStatus ⟨.mi id, true⟩) s = .next t ∧
      t.mgt.replies = ⟨id, statusCode stOk, d, bs⟩ :: s.mgt.replies)

/-! ## The network and Mint -/

/-- The network (R284, R461 to R464, R466, R485, R593). -/
def Obligations.NetworkPorts : Prop :=
  (∀ (s : State) (p : Nat) (src : BitVec 128), p < 2 → s.portUp p = true → s.mpActs = true → modeLedger s.mode = true →
    (s.hostAccount src p = none → exec (.cmReq p src) s = .next ((s.sendFrame (.cmRej p)).raise .netCause 2)) ∧
    (∀ a b i, s.hostAccount src p = some a → (s.acct a).binding = some b → b.netEn = true → firstFree s.qpsInUse 0 4096 = some i →
      exec (.cmReq p src) s = .next ((s.setQp i ⟨a, p, none, false, lineRate, none, none, 0, 0⟩).sendFrame (.cmRep i)))) ∧
  (∀ (s : State) (i : Nat) (q : Qp), s.liveQp i = some q →
    (q.cnpSent = none → (s.port q.port).pausedCnp = false →
      exec (.ceMarkedPacket i) s = .next ((s.setQp i { q with cnpSent := some s.ldg.tick }).sendFrame (.cnp i))) ∧
    (∀ t, q.cnpSent = some t → s.ldg.tick < t + 50000 → exec (.ceMarkedPacket i) s = .next s) ∧
    exec (.cnpReceive i) s = .next (s.setQp i { q with
      rate := max rateFloor (q.rate / 2), cnpRecv := some s.ldg.tick, rateAt := s.ldg.tick }) ∧
    (q.rate < lineRate → q.rateAt + 55000 ≤ s.ldg.tick → exec (.rateRecovery i) s = .next (s.setQp i { q with
      rate := min lineRate (q.rate + rateStep), rateAt := q.rateAt + 55000 }))) ∧
  (∀ (s : State) (p : Nat), p < 2 → s.portUp p = true →
    exec (.pfcPauseReceive p false) s = .next (s.setPort p { s.port p with pausedData := true }) ∧
    exec (.pfcPauseReceive p true) s = .next (s.setPort p { s.port p with pausedCnp := true }) ∧
    exec (.pfcPauseExpiry p false) s = .next (s.setPort p { s.port p with pausedData := false }) ∧
    (∀ n, n ≤ (s.port p).rxBytes → s.islandOn .net = true → exec (.pfcXon p n) s = .next (s.rxLevel p n)) ∧
    (modeLedger s.mode = true → exec (.arpRequest p true) s = .next (s.sendFrame (.arpReply p)) ∧
      exec (.neighborDiscovery p true) s = .next (s.sendFrame (.ndReply p))) ∧
    (∀ w, s.mode = .doze → w.toNat = s.wakeToken → s.wakeToken ≠ 0 → exec (.wakeFrame p true w none) s = .next (s.wakeEvent (3 + p))) ∧
    (∀ c u s2, s2 = (((s.setReg (Reg.netPortStatus + 4 * p) 0).countFec p c u).setPort p {}).raise .netCause p →
      exec (.linkDown p c u) s = .next (s2.failQps (s2.qpsOf (fun q => decide (q.port = p)))))) ∧
  (∀ (s : State) (p c u : Nat), p < 2 → modeNet s.mode = true → exec (.linkUp p c u) s =
    .next ((s.setReg (Reg.netPortStatus + 4 * p) (BitVec.ofNat 32 (5 + 2 * b2n (s.portCr1 p)))).countFec p c u)) ∧
  (∀ (s u : State) (i cid : Nat) (q : Qp), s.liveQp i = some q → modeLedger s.mode = true → s.mode ≠ .doze → s.mode ≠ .drain →
    s.pwr.sleep = none → s.memberActive q.account = true → u = s.keepAlive q.account →
    (∀ n, q.queue = none → 2 ≤ n → n ≤ 4096 → u.netHas q.account 0 = false → exec (.fabricsConnect i cid 0xFFFF 0 n) s =
      .next ((u.setQp i { q with queue := some 0 }).fabricDone q.account i cid stOk q.account 0)) ∧
    (∀ o v, q.queue = some 0 → u.property q.account o = some v →
      exec (.propertyGet i cid o) s = .next (u.fabricDone q.account i cid stOk v.1 v.2)) ∧
    (∀ w, q.queue = some 0 → exec (.propertySet i cid 0x14 w) s =
      .next ((u.fabricDone q.account i cid stOk 0 0).writeCc q.account w)) ∧
    (∀ n, q.queue = some n → (∀ e ∈ u.host.cmds, e.2.net = false ∨ e.2.queue ≠ i) → exec (.disconnect i cid) s =
      .next (((u.setQp i { q with queue := none }).fabricDone q.account i cid stOk 0 0).kick)))

/-- Mint (R464, R467, R471, R473, R475, R482; the output's bytes are log entry 89). -/
def Obligations.MintLanes : Prop :=
  (∀ (s : State) (h : Nat) (c : Cmd) (x : Ns), s.arrivedCmd h (fun o => decide (o = .minted)) = some (c, x) →
    (∀ t, s.mintCheck c x = some t → exec (.mintedRead h) s = .next (s.toPost h c t)) ∧
    (∀ c1 : Cmd, s.mintCheck c x = none → s.mintKeysLoaded c (s.mintKeyCount c) = true → s.xtsReady (nsOwner x) = true →
      (s.classLanes (s.classOf c.member) (s.mintDoor c)).isEmpty = false →
      c1 = { c with secs := (lbas c.slba c.count).map (fun a => s.readSec c.nsid a x false), phase := .accepting } →
      exec (.mintedRead h) s = .next ((s.setCmd h c1).traceStart h c1 x.zoned))) ∧
  (∀ (s s1 s2 : State) (l : Nat) (b : LaneBind) (w : Nat × Nat) (c : Cmd) (x : Ns), s.mnt.laneTbl[l]? = some b → b.enabled = true →
    s.laneOpen l = true → (s.lane l).st = .free → s.earliest (s.mnt.waiting.filter (fun w => s.laneFits l b w.1)) = some w →
    s.cmd w.1 = some c → s.ns c.nsid = some x →
    s1 = s.setLane l { st := .held, cmd := w.1, recipe := mintRecipe c.sqe, account := c.account } →
    s2 = { s1 with mnt := { s1.mnt with waiting := s1.mnt.waiting.filter (fun v => decide (v.1 ≠ w.1)) } } →
    exec (.mintLaneGrant l) s =
      .next (((s2.setCmd w.1 { c with lane := some l, secs := c.secs.map (beginSec x.zoned) }).registerKick).kick)) ∧
  (∀ (s : State) (l : Nat) (c : Cmd), s.laneCmd l = some c → (s.lane l).st = .setup →
    (s.ldg.tick < (s.lane l).outAt + 2048 → exec (.mintSetupEnd l) s = .next s) ∧
    ((s.lane l).outAt + 2048 ≤ s.ldg.tick →
      (s.mintKeysLoaded c (s.mintKeyCount c) = true → exec (.mintSetupEnd l) s = .next (s.setLane l { s.lane l with st := .consuming })) ∧
      (s.mintKeysLoaded c (s.mintKeyCount c) = false →
        exec (.mintSetupEnd l) s = .next ((s.raise .cryCause 2).mintEnd l stAccessDenied)))) ∧
  (∀ (s s1 : State) (l seg out : Nat) (c : Cmd) (y : Sec), s.laneCmd l = some c → (s.lane l).st = .consuming →
    (s.lane l).consumedAll = false → ((s.lane l).next = 0 ∨ 4096 * (s.lane l).next < (s.lane l).segLen) →
    (s.lane l).outAt + 2048 ≤ s.ldg.tick → c.secs[(s.lane l).next]? = some y → y.poison = false → y.st = .inRing → y.zero = false →
    s.keyMatches c y = true →
    (∀ r, ofind s.mnt.recipes (s.lane l).recipe = some r → seg ≤ 4096 * c.count → (s.lane l).produced + out ≤ mintLimit seg →
      s1 = ((s.addBlocks (48 + l) (256 * r.cost)).stamp (s.lane l).cmd 7).setSec (s.lane l).cmd (s.lane l).next { y with st := .consumed } →
      exec (.sectorConsume l true true seg out) s = .next ((s1.setLane l { s.lane l with
          next := (s.lane l).next + 1, produced := (s.lane l).produced + out, segLen := seg, outAt := s.ldg.tick,
          outBefore := (s.lane l).produced }).registerKick)) ∧
    exec (.sectorConsume l true false seg out) s = .next ((s.raise .mntCause 3).mintEnd l stSegment)) ∧
  (∀ (s s1 : State) (l room : Nat) (pages : List (BitVec 64)) (c : Cmd), s.laneCmd l = some c → 0 < s.chunkBytes (s.lane l) →
    s.turnNow l (s.mintDoor c) = true → s.turnClear (s.mintDoor c) = true →
    (room < s.chunkBytes (s.lane l) → exec (.mintChunkTurn l room pages) s = .next (s.mintEnd l stOutputTooSmall)) ∧
    (s.chunkBytes (s.lane l) ≤ room → s.doorPaused (s.mintDoor c) = true → exec (.mintChunkTurn l room pages) s =
      .next (s.setCmd (s.lane l).cmd { c with waitFrom := s.waitMark c.waitFrom })) ∧
    (s.chunkBytes (s.lane l) ≤ room → s.doorPaused (s.mintDoor c) = false → (s.mintDoor c ≠ .pcie ∨ s.logging c.account = false) →
      c.silent = false →
      s1 = (s.setCmd (s.lane l).cmd { s.waitEnd c c.waitFrom with waitFrom := 0 }).stampAt (s.lane l).cmd 8
        (s.ldg.tick + s.chunkTicks (s.mintDoor c) (s.chunkBytes (s.lane l))) →
      exec (.mintChunkTurn l room pages) s = .next ((((s1.freeBytes (s.chunkBytes (s.lane l))).2.dataToHost
        (s1.freeBytes (s.chunkBytes (s.lane l))).1).setLane l
          { s.lane l with sent := (s.lane l).sent + s.chunkBytes (s.lane l) }).mintDone l))) ∧
  (∀ (s : State) (l : Nat) (c : Cmd), s.laneCmd l = some c → (s.lane l).st = .consuming → (s.lane l).consumedAll = false →
    0 < (s.lane l).next → (s.lane l).segLen ≤ 4096 * (s.lane l).next →
    (s.lane l).outAt + ceilDiv ((s.lane l).segLen - 4096 * ((s.lane l).next - 1)) 2 ≤ s.ldg.tick →
    exec (.mintLaneEnd l) s =
      .next (((s.stamp (s.lane l).cmd 6).setLane l { s.lane l with consumedAll := true }).mintDone l))

/-! ## The management path -/

/-- The management path (R287, R531 to R533, R535 to R538, R540, R550; layouts of log entries 61 and 62). -/
def Obligations.ManagementBus : Prop :=
  (∀ s : State, s.cccServed = true →
    (∀ a, s.daValid = false → exec (.entdaa (some a)) s = .next ((s.i3cOk (s.pidBytes ++ [0, 0])).takeAddr a 1)) ∧
    exec .rstdaa s = .next (((s.i3cOk []).setFld Reg.mgtI3cStatus 0 10 0).setFld Reg.mgtI3cStatus 11 8 0) ∧
    (∀ st n, s.daValid = false → st.toNat = s.staticAddr → exec (.setdasa st n) s = .next ((s.i3cOk []).takeAddr n 2)) ∧
    (∀ o, exec (.enec none) s = .next (s.i3cOk []) ∧ exec (.disec none) s = .next (s.i3cOk []) ∧
      (s.addressed o = true → exec (.enec (some o)) s = .next (s.i3cOk []) ∧ exec (.disec (some o)) s = .next (s.i3cOk []))) ∧
    (∀ o, s.addressed o = true →
      (∀ n, exec (.setnewda o n) s = .next ((s.i3cOk []).takeAddr n 3)) ∧ exec (.getpid o) s = .next (s.i3cOk s.pidBytes) ∧
      exec (.getbcr o) s = .next (s.i3cOk [0x00]) ∧ exec (.getdcr o) s = .next (s.i3cOk [0x00]) ∧
      exec (.getstatus o) s = .next (s.i3cOk [0, BitVec.ofNat 8 (min s.mgt.mctpOut.length 15)]) ∧
      exec (.getmwl o) s = .next (s.i3cOk [0, 69]) ∧ exec (.getmrl o) s = .next (s.i3cOk [0, 69]) ∧
      (∀ n, 69 ≤ n → exec (.setmwl o n) s = .next { s.i3cOk [] with mgt := { (s.i3cOk []).mgt with mwl := n } } ∧
        exec (.setmrl o n) s = .next { s.i3cOk [] with mgt := { (s.i3cOk []).mgt with mrl := n } }) ∧
      (∀ n, n < 69 → exec (.setmwl o n) s = .next s.i3cNack ∧ exec (.setmrl o n) s = .next s.i3cNack))) ∧
  (∀ (s : State) (o : BitVec 7), s.privateServed = true → s.addressed o = true →
    (∀ bs, s.mode ≠ .doze → exec (.mctpPacketWrite o bs) s = .next ((s.i3cOk []).takePacket bs)) ∧
    (s.mgt.mctpOut = [] → exec (.mctpPacketRead o) s = .next s.i3cNack) ∧
    (∀ p ps, s.mgt.mctpOut = p :: ps → exec (.mctpPacketRead o) s =
      .next (({ s.i3cOk p with mgt := { (s.i3cOk p).mgt with mctpOut := ps } } : State).levelBit .mgtCause 5 (!ps.isEmpty)))) ∧
  (∀ (s u : State) (id : Nat), s.miCol ≠ .none → u = s.miTake →
    (∀ e, 1 ≤ e → e ≤ 254 → exec (.setEndpointId id e) s =
      .next ((u.setFld Reg.mgtI3cStatus 11 8 e).ctlReply id 1 0 ([0] ++ leBytes 1 e ++ [0]))) ∧
    exec (.getEndpointId id) s = .next (u.ctlReply id 2 0 (leBytes 1 u.eid ++ [0, 0])) ∧
    exec (.getEndpointUuid id) s = .next (u.ctlReply id 3 0 (leBytes 16 Config.endpointUuid.toNat)) ∧
    exec (.getMctpVersionSupport id 0) s = .next (u.ctlReply id 4 0 ([1] ++ leBytes 4 (Config.mctpVersion 0).toNat)) ∧
    exec (.getMessageTypeSupport id) s = .next (u.ctlReply id 5 0 [2, 0x00, 0x04]) ∧
    exec (.readNvmeMiDataStructure id 2) s =
      .next (u.miReply id miOk 0 (leBytes 2 u.functions.length ++ (u.functions.map (leBytes 2)).flatten)) ∧
    exec (.nvmSubsystemHealthStatusPoll id) s = .next (u.miReply id miOk 0 ([if u.miCol = .full then 0x28 else 0x00] ++ [0xFF] ++
      leBytes 1 u.compositeC ++ leBytes 1 (u.fld Reg.pwrWear 21 8) ++ [0, 0, 0, 0])) ∧
    (∀ f, exec (.controllerHealthStatusPoll id f) s = .next (u.miReply id miOk 0 (leBytes 2 f ++ leBytes 2 (if u.miCol = .full then
      b2n (u.ctrl f).rdy + 2 * b2n (u.ctrl f).cfs + 4 * (u.ctrl f).shst else 0) ++ leBytes 2 u.compositeK ++
        leBytes 1 (u.fld Reg.pwrWear 21 8)))) ∧
    (∀ i n, 1 ≤ n → n ≤ 64 → i + n ≤ 32768 → exec (.eventLogRead id i n) s =
      .next (u.miReply id miOk 0 ((upFrom i n).map u.logBytes).flatten)) ∧
    exec (.calibrationRowRead id) s = .next (u.miReply id miOk 0 (memReadAll norDefault u.nor.mem 0x07FF0000 4096))) ∧
  (∀ (s u : State) (id : Nat), (s.miCol = .full ∨ s.miCol = .maint) → u = s.miTake →
    (∀ c v, exec (.configurationSet id c v) s =
      .next (({ u with mgt := { u.mgt with miConfig := oput u.mgt.miConfig c v } } : State).miReply id miOk 0 [])) ∧
    (∀ c, exec (.configurationGet id c) s = .next (u.miReply id miOk ((ofind u.mgt.miConfig c).getD (Config.miDefault c)) [])) ∧
    ((u.auth .mi).lockFrom = none → ∃ t : State, exec (.getChallenge id) s = .next (t.miReply id miOk 0 (leBytes 32 (Config.freeNonce u.freeCount).toNat)) ∧
      (t.auth .mi).nonce = some ⟨Config.freeNonce u.freeCount, u.pwr.time⟩ ∧ t.freeCount = u.freeCount + 1) ∧
    (∀ (bs : List Byte) (c : Nat) (s1 : State), u.authorise .mi 3 (readAuth bs) = (c, s1) →
      exec (.eventLogClear id bs) s = .next (if c = 0 then (({ s1 with evt := { s1.evt with
        clearIds := s1.evt.clearIds ++ [id] } } : State).miReply id miMore 0 []).startClear (readAuth bs).nonce
        else s1.authReply (.mi id) c))) ∧
  (∀ (s u : State) (id : Nat), s.miCol = .maint → u = s.miTake →
    (u.fld Reg.aonMode 8 4 = 5 → exec (.miReset id) s = .next ((u.miReply id miOk 0 []).toStrap false)) ∧
    (∀ row s1, s1 = ((u.setFld Reg.norOpAddr 0 27 0x07FF0000).setReg Reg.norOpSrc 0).norStart .program 16 row none → u.nor.op = none →
      s1.nor.op.isSome = true → exec (.calibrationRowWrite id row) s = .next { s1 with nor := { s1.nor with calWaiter := some id } }) ∧
    (∀ (bs : List Byte) (c : Nat) (s1 : State), u.authorise .mi 4 (readAuth bs) = (c, s1) →
      exec (.provision id bs) s = .next (if c = 0 then (({ s1 with cry := { s1.cry with
        life := .provisioned, deviceKey := some (readAuth bs).deviceKey } } : State).raise .mgtCause 6).miReply id miOk 0 []
        else s1.authReply (.mi id) c)) ∧
    (∀ (bs : List Byte) (c : Nat) (s1 : State), u.authorise .mi 5 (readAuth bs) = (c, s1) →
      exec (.decommission id bs) s = .next (if c = 0 then (({ s1 with cry := { s1.cry with
        life := .decommissioned, deviceKey := some (BitVec.allOnes 256) } } : State).raise .mgtCause 6).miReply id miOk 0 []
        else s1.authReply (.mi id) c)) ∧
    (∀ x, exec (.factoryTestVerifySlot id x) s = .next (u.miReply id miOk 0 (testData (u.slotReason x)))) ∧
    exec (.factoryTestAlert id) s = .next (({ u with
      mgt := { u.mgt with alertForce := true }, pins := { u.pins with alertN := false } } : State).miReply id miOk 0 (testData 0)) ∧
    (∀ ok, exec (.factoryTestEntropy id ok) s = .next (u.miReply id miOk 0 (testData (if ok then 0 else 1))))) ∧
  (∀ s : State, s.mgt.alertForce = true → ∃ t, exec .factoryAlertPulseEnd s = .next t ∧
    t.mgt = { s.mgt with alertForce := false, alertPipe := [] } ∧ t.pins.alertN = t.alertLevel) ∧
  (∀ (s : State) (who : Requester), s.mayWrite who Reg.mgtChallengeCtl = true → exec (.challengeNew who) s = .next (s.issueNonce .pf).2) ∧
  (∀ (s : State) (p : AuthPath) (n : Nonce), (s.auth p).nonce = some n → n.issued + nonceLife ≤ s.pwr.time →
    exec (.nonceExpiry p) s = .next (s.setAuth p { s.auth p with nonce := none })) ∧
  (∀ (s : State) (p : AuthPath) (t : Nat), (s.auth p).lockFrom = some t → t + lockoutTime ≤ s.pwr.time →
    exec (.authLockoutEnd p) s = .next (s.setAuth p { s.auth p with lockFrom := none }))
end

