-- ==== Sys2Proof/Laws/FrameRules.lean ====
section
/-!
SUPPORT. Frames: which components of the state a function may change, as a bit mask over the components in the order of State's fields.
-/
namespace Sys2Proof.Machine

/-- Outside the bits of `m` the components are those of `s`. -/
structure FrameP (m : Nat) (s : State) (a0 : List (Nat × Word)) (a1 : Mode) (a2 : Mode) (a3 : Pins) (a4 : Boot) (a5 : Pwr) (a6 : Thm) (a7 : List (Nat × Loop)) (a8 : Nor) (a9 : Evt) (a10 : Mgt) (a11 : Ldg) (a12 : Med) (a13 : Db) (a14 : Rsv) (a15 : HostSt) (a16 : Xfr) (a17 : Mem) (a18 : Cry) (a19 : Net) (a20 : Mnt) (a21 : Jtag) (a22 : Nat) (a23 : List Instr) : Prop where
  regs : m.testBit 0 = true ∨ a0 = s.regs
  mode : m.testBit 1 = true ∨ a1 = s.mode
  prevMode : m.testBit 2 = true ∨ a2 = s.prevMode
  pins : m.testBit 3 = true ∨ a3 = s.pins
  boot : m.testBit 4 = true ∨ a4 = s.boot
  pwr : m.testBit 5 = true ∨ a5 = s.pwr
  thm : m.testBit 6 = true ∨ a6 = s.thm
  loops : m.testBit 7 = true ∨ a7 = s.loops
  nor : m.testBit 8 = true ∨ a8 = s.nor
  evt : m.testBit 9 = true ∨ a9 = s.evt
  mgt : m.testBit 10 = true ∨ a10 = s.mgt
  ldg : m.testBit 11 = true ∨ a11 = s.ldg
  med : m.testBit 12 = true ∨ a12 = s.med
  db : m.testBit 13 = true ∨ a13 = s.db
  rsv : m.testBit 14 = true ∨ a14 = s.rsv
  host : m.testBit 15 = true ∨ a15 = s.host
  xfr : m.testBit 16 = true ∨ a16 = s.xfr
  mem : m.testBit 17 = true ∨ a17 = s.mem
  cry : m.testBit 18 = true ∨ a18 = s.cry
  net : m.testBit 19 = true ∨ a19 = s.net
  mnt : m.testBit 20 = true ∨ a20 = s.mnt
  jtag : m.testBit 21 = true ∨ a21 = s.jtag
  freeCount : m.testBit 22 = true ∨ a22 = s.freeCount
  pending : m.testBit 23 = true ∨ a23 = s.pending

/-- Outside the components of the mask `m`, `t` is `s`. -/
def Frame (m : Nat) (s t : State) : Prop :=
  FrameP m s t.regs t.mode t.prevMode t.pins t.boot t.pwr t.thm t.loops t.nor t.evt t.mgt t.ldg t.med t.db t.rsv t.host t.xfr t.mem t.cry t.net t.mnt t.jtag t.freeCount t.pending

/-- The same of an outcome's state. -/
def FrameO (m : Nat) (s : State) (o : Host.Outcome State Fault Refusal) : Prop := ∀ t, o = .next t → Frame m s t

theorem frame_refl (m : Nat) (s : State) : Frame m s s := by
  constructor <;> exact Or.inr rfl

theorem frame_next {m : Nat} {s t : State} (h : Frame m s t) : FrameO m s (.next t) := by
  intro u e
  cases e
  exact h

theorem bit_lor {k m i : Nat} (h : Nat.lor k m = m) (hi : k.testBit i = true) : m.testBit i = true := by
  rw [← h]
  show (k ||| m).testBit i = true
  rw [Nat.testBit_or, hi, Bool.true_or]

theorem lor_self (m : Nat) : Nat.lor m m = m := Nat.or_self m

theorem lor_sub {k l m : Nat} (h1 : Nat.lor k l = l) (h2 : Nat.lor l m = m) : Nat.lor k m = m := by
  change k ||| m = m
  change k ||| l = l at h1
  change l ||| m = m at h2
  rw [← h2, ← Nat.or_assoc, h1]

theorem or_trans_eq {α : Type} {k m i : Nat} {a b c : α} (h : Nat.lor k m = m) (h1 : k.testBit i = true ∨ c = b)
    (h2 : m.testBit i = true ∨ b = a) : m.testBit i = true ∨ c = a := by
  rcases h1 with h1 | h1
  · exact Or.inl (bit_lor h h1)
  · rw [h1]
    exact h2

theorem frame_trans {k m : Nat} {s0 s t : State} (h2 : Frame k s t) (h : Nat.lor k m = m) (h1 : Frame m s0 s) : Frame m s0 t :=
  ⟨or_trans_eq h h2.regs h1.regs,
   or_trans_eq h h2.mode h1.mode,
   or_trans_eq h h2.prevMode h1.prevMode,
   or_trans_eq h h2.pins h1.pins,
   or_trans_eq h h2.boot h1.boot,
   or_trans_eq h h2.pwr h1.pwr,
   or_trans_eq h h2.thm h1.thm,
   or_trans_eq h h2.loops h1.loops,
   or_trans_eq h h2.nor h1.nor,
   or_trans_eq h h2.evt h1.evt,
   or_trans_eq h h2.mgt h1.mgt,
   or_trans_eq h h2.ldg h1.ldg,
   or_trans_eq h h2.med h1.med,
   or_trans_eq h h2.db h1.db,
   or_trans_eq h h2.rsv h1.rsv,
   or_trans_eq h h2.host h1.host,
   or_trans_eq h h2.xfr h1.xfr,
   or_trans_eq h h2.mem h1.mem,
   or_trans_eq h h2.cry h1.cry,
   or_trans_eq h h2.net h1.net,
   or_trans_eq h h2.mnt h1.mnt,
   or_trans_eq h h2.jtag h1.jtag,
   or_trans_eq h h2.freeCount h1.freeCount,
   or_trans_eq h h2.pending h1.pending⟩

theorem frame_ite {m : Nat} {s0 : State} {c : Prop} [Decidable c] {a b : State} (h1 : Frame m s0 a) (h2 : Frame m s0 b) :
    Frame m s0 (if c then a else b) := by
  split
  · exact h1
  · exact h2

theorem frame_foldl {m : Nat} {α : Type} {f : State → α → State} {l : List α} (hf : ∀ s x, Frame m s (f s x)) {s0 s : State}
    (h : Frame m s0 s) : Frame m s0 (l.foldl f s) := by
  induction l generalizing s with
  | nil => exact h
  | cons x l ih => exact ih (frame_trans (hf s x) (Nat.or_self m) h)

/-- An update of some components: every component is one of the mask's, or that of the state that is updated. -/
theorem frame_upd {m : Nat} {s0 s : State} {a0 : List (Nat × Word)} {a1 : Mode} {a2 : Mode} {a3 : Pins} {a4 : Boot} {a5 : Pwr} {a6 : Thm} {a7 : List (Nat × Loop)} {a8 : Nor} {a9 : Evt} {a10 : Mgt} {a11 : Ldg} {a12 : Med} {a13 : Db} {a14 : Rsv} {a15 : HostSt} {a16 : Xfr} {a17 : Mem} {a18 : Cry} {a19 : Net} {a20 : Mnt} {a21 : Jtag} {a22 : Nat} {a23 : List Instr}
    (h23 : m.testBit 23 = true ∨ a23 = s.pending)
    (h0 : m.testBit 0 = true ∨ a0 = s.regs)
    (h1 : m.testBit 1 = true ∨ a1 = s.mode)
    (h2 : m.testBit 2 = true ∨ a2 = s.prevMode)
    (h3 : m.testBit 3 = true ∨ a3 = s.pins)
    (h4 : m.testBit 4 = true ∨ a4 = s.boot)
    (h5 : m.testBit 5 = true ∨ a5 = s.pwr)
    (h6 : m.testBit 6 = true ∨ a6 = s.thm)
    (h7 : m.testBit 7 = true ∨ a7 = s.loops)
    (h8 : m.testBit 8 = true ∨ a8 = s.nor)
    (h9 : m.testBit 9 = true ∨ a9 = s.evt)
    (h10 : m.testBit 10 = true ∨ a10 = s.mgt)
    (h11 : m.testBit 11 = true ∨ a11 = s.ldg)
    (h12 : m.testBit 12 = true ∨ a12 = s.med)
    (h13 : m.testBit 13 = true ∨ a13 = s.db)
    (h14 : m.testBit 14 = true ∨ a14 = s.rsv)
    (h15 : m.testBit 15 = true ∨ a15 = s.host)
    (h16 : m.testBit 16 = true ∨ a16 = s.xfr)
    (h17 : m.testBit 17 = true ∨ a17 = s.mem)
    (h18 : m.testBit 18 = true ∨ a18 = s.cry)
    (h19 : m.testBit 19 = true ∨ a19 = s.net)
    (h20 : m.testBit 20 = true ∨ a20 = s.mnt)
    (h21 : m.testBit 21 = true ∨ a21 = s.jtag)
    (h22 : m.testBit 22 = true ∨ a22 = s.freeCount)
    (h : Frame m s0 s) : Frame m s0 ⟨a0, a1, a2, a3, a4, a5, a6, a7, a8, a9, a10, a11, a12, a13, a14, a15, a16, a17, a18, a19, a20, a21, a22, a23⟩ :=
  ⟨or_trans_eq (Nat.or_self m) h0 h.regs,
   or_trans_eq (Nat.or_self m) h1 h.mode,
   or_trans_eq (Nat.or_self m) h2 h.prevMode,
   or_trans_eq (Nat.or_self m) h3 h.pins,
   or_trans_eq (Nat.or_self m) h4 h.boot,
   or_trans_eq (Nat.or_self m) h5 h.pwr,
   or_trans_eq (Nat.or_self m) h6 h.thm,
   or_trans_eq (Nat.or_self m) h7 h.loops,
   or_trans_eq (Nat.or_self m) h8 h.nor,
   or_trans_eq (Nat.or_self m) h9 h.evt,
   or_trans_eq (Nat.or_self m) h10 h.mgt,
   or_trans_eq (Nat.or_self m) h11 h.ldg,
   or_trans_eq (Nat.or_self m) h12 h.med,
   or_trans_eq (Nat.or_self m) h13 h.db,
   or_trans_eq (Nat.or_self m) h14 h.rsv,
   or_trans_eq (Nat.or_self m) h15 h.host,
   or_trans_eq (Nat.or_self m) h16 h.xfr,
   or_trans_eq (Nat.or_self m) h17 h.mem,
   or_trans_eq (Nat.or_self m) h18 h.cry,
   or_trans_eq (Nat.or_self m) h19 h.net,
   or_trans_eq (Nat.or_self m) h20 h.mnt,
   or_trans_eq (Nat.or_self m) h21 h.jtag,
   or_trans_eq (Nat.or_self m) h22 h.freeCount,
   or_trans_eq (Nat.or_self m) h23 h.pending⟩

end Sys2Proof.Machine
end

