-- ==== Sys2Proof/Laws/FrameBase.lean ====
section
/-!
SUPPORT. Frames: what the functions may change of the shared operations: registers, modes, the boot flash, key management, zones, the Day Book, commands, memories; one lemma for each function.
-/
set_option linter.all false
set_option Elab.async false

namespace Sys2Proof.Machine

theorem frame_setReg {M : Nat} {s0 s : State} (o) (w) (hM : Nat.lor 1 M = M) (h0 : Frame M s0 s) : Frame M s0 (State.setReg s o w) := by
  refine frame_trans (k := 1) ?_ hM h0
  unfold State.setReg
  repeat' (first | with_reducible exact frame_refl _ _ | with_reducible exact Or.inr rfl | exact Or.inl rfl | exact (rfl : Nat.lor _ _ = _) | with_reducible assumption | extract_lets | with_reducible apply frame_ite | with_reducible apply frame_next | (with_reducible apply frame_upd; with_reducible exact Or.inr rfl; fail_if_success (iterate 23 (with_reducible exact Or.inr rfl))) | (with_reducible apply frame_foldl; intro _ _) | (split) | (dsimp +zetaDelta only))

theorem frame_setFld {M : Nat} {s0 s : State} (o) (lo) (width) (v) (hM : Nat.lor 1 M = M) (h0 : Frame M s0 s) : Frame M s0 (State.setFld s o lo width v) := by
  refine frame_trans (k := 1) ?_ hM h0
  unfold State.setFld
  repeat' (first | with_reducible exact frame_refl _ _ | with_reducible exact Or.inr rfl | exact Or.inl rfl | exact (rfl : Nat.lor _ _ = _) | with_reducible assumption | extract_lets | with_reducible apply frame_ite | with_reducible apply frame_next | (with_reducible apply frame_upd; with_reducible exact Or.inr rfl; fail_if_success (iterate 23 (with_reducible exact Or.inr rfl))) | (with_reducible apply frame_foldl; intro _ _) | with_reducible apply frame_setReg | (split) | (dsimp +zetaDelta only))

theorem frame_countFld {M : Nat} {s0 s : State} (o) (lo) (width) (n) (hM : Nat.lor 1 M = M) (h0 : Frame M s0 s) : Frame M s0 (State.countFld s o lo width n) := by
  refine frame_trans (k := 1) ?_ hM h0
  unfold State.countFld
  repeat' (first | with_reducible exact frame_refl _ _ | with_reducible exact Or.inr rfl | exact Or.inl rfl | exact (rfl : Nat.lor _ _ = _) | with_reducible assumption | extract_lets | with_reducible apply frame_ite | with_reducible apply frame_next | (with_reducible apply frame_upd; with_reducible exact Or.inr rfl; fail_if_success (iterate 23 (with_reducible exact Or.inr rfl))) | (with_reducible apply frame_foldl; intro _ _) | with_reducible apply frame_setFld | (split) | (dsimp +zetaDelta only))

theorem frame_resetRegs {M : Nat} {s0 s : State} (p) (hM : Nat.lor 1 M = M) (h0 : Frame M s0 s) : Frame M s0 (State.resetRegs s p) := by
  refine frame_trans (k := 1) ?_ hM h0
  unfold State.resetRegs
  repeat' (first | with_reducible exact frame_refl _ _ | with_reducible exact Or.inr rfl | exact Or.inl rfl | exact (rfl : Nat.lor _ _ = _) | with_reducible assumption | extract_lets | with_reducible apply frame_ite | with_reducible apply frame_next | (with_reducible apply frame_upd; with_reducible exact Or.inr rfl; fail_if_success (iterate 23 (with_reducible exact Or.inr rfl))) | (with_reducible apply frame_foldl; intro _ _) | (split) | (dsimp +zetaDelta only))

theorem frame_advanceRtc {M : Nat} {s0 s : State} (n) (hM : Nat.lor 32 M = M) (h0 : Frame M s0 s) : Frame M s0 (State.advanceRtc s n) := by
  refine frame_trans (k := 32) ?_ hM h0
  unfold State.advanceRtc
  repeat' (first | with_reducible exact frame_refl _ _ | with_reducible exact Or.inr rfl | exact Or.inl rfl | exact (rfl : Nat.lor _ _ = _) | with_reducible assumption | extract_lets | with_reducible apply frame_ite | with_reducible apply frame_next | (with_reducible apply frame_upd; with_reducible exact Or.inr rfl; fail_if_success (iterate 23 (with_reducible exact Or.inr rfl))) | (with_reducible apply frame_foldl; intro _ _) | (split) | (dsimp +zetaDelta only))

theorem frame_tickOnce {M : Nat} {s0 s : State} (hM : Nat.lor 2080 M = M) (h0 : Frame M s0 s) : Frame M s0 (State.tickOnce s) := by
  refine frame_trans (k := 2080) ?_ hM h0
  unfold State.tickOnce
  repeat' (first | with_reducible exact frame_refl _ _ | with_reducible exact Or.inr rfl | exact Or.inl rfl | exact (rfl : Nat.lor _ _ = _) | with_reducible assumption | extract_lets | with_reducible apply frame_ite | with_reducible apply frame_next | (with_reducible apply frame_upd; with_reducible exact Or.inr rfl; fail_if_success (iterate 23 (with_reducible exact Or.inr rfl))) | (with_reducible apply frame_foldl; intro _ _) | (split) | (dsimp +zetaDelta only))

theorem frame_tickTo {M : Nat} {s0 s : State} (x1) (hM : Nat.lor 2080 M = M) (h0 : Frame M s0 s) : Frame M s0 (State.tickTo s x1) := by
  refine frame_trans (k := 2080) ?_ hM h0
  unfold State.tickTo
  repeat' (first | with_reducible exact frame_refl _ _ | with_reducible exact Or.inr rfl | exact Or.inl rfl | exact (rfl : Nat.lor _ _ = _) | with_reducible assumption | extract_lets | with_reducible apply frame_ite | with_reducible apply frame_next | (with_reducible apply frame_upd; with_reducible exact Or.inr rfl; fail_if_success (iterate 23 (with_reducible exact Or.inr rfl))) | (with_reducible apply frame_foldl; intro _ _) | (split) | (dsimp +zetaDelta only))

theorem frame_freeWord {M : Nat} {s0 s : State} (hM : Nat.lor 4194304 M = M) (h0 : Frame M s0 s) : Frame M s0 (State.freeWord s).2 := by
  refine frame_trans (k := 4194304) ?_ hM h0
  unfold State.freeWord
  repeat' (first | with_reducible exact frame_refl _ _ | with_reducible exact Or.inr rfl | exact Or.inl rfl | exact (rfl : Nat.lor _ _ = _) | with_reducible assumption | extract_lets | with_reducible apply frame_ite | with_reducible apply frame_next | (with_reducible apply frame_upd; with_reducible exact Or.inr rfl; fail_if_success (iterate 23 (with_reducible exact Or.inr rfl))) | (with_reducible apply frame_foldl; intro _ _) | (split) | (dsimp +zetaDelta only))

theorem frame_freeWord_eq {s : State} {x} {t : State} (e : State.freeWord s = (x, t)) : Frame 4194304 s t := by
  have := frame_freeWord (M := 4194304) (s := s) rfl (frame_refl _ _)
  rw [e] at this
  exact this

theorem frame_freeBytes {M : Nat} {s0 s : State} (n) (hM : Nat.lor 4194304 M = M) (h0 : Frame M s0 s) : Frame M s0 (State.freeBytes s n).2 := by
  refine frame_trans (k := 4194304) ?_ hM h0
  unfold State.freeBytes
  repeat' (first | with_reducible exact frame_refl _ _ | with_reducible exact Or.inr rfl | exact Or.inl rfl | exact (rfl : Nat.lor _ _ = _) | with_reducible assumption | extract_lets | with_reducible apply frame_ite | with_reducible apply frame_next | (with_reducible apply frame_upd; with_reducible exact Or.inr rfl; fail_if_success (iterate 23 (with_reducible exact Or.inr rfl))) | (with_reducible apply frame_foldl; intro _ _) | (split) | (dsimp +zetaDelta only))

theorem frame_freeBytes_eq {s : State} {n} {x} {t : State} (e : State.freeBytes s n = (x, t)) : Frame 4194304 s t := by
  have := frame_freeBytes (M := 4194304) (s := s) n rfl (frame_refl _ _)
  rw [e] at this
  exact this

theorem frame_adminDone {M : Nat} {s0 s : State} (func) (cid) (x3) (dw0) (hM : Nat.lor 32768 M = M) (h0 : Frame M s0 s) : Frame M s0 (State.adminDone s func cid x3 dw0) := by
  refine frame_trans (k := 32768) ?_ hM h0
  unfold State.adminDone
  repeat' (first | with_reducible exact frame_refl _ _ | with_reducible exact Or.inr rfl | exact Or.inl rfl | exact (rfl : Nat.lor _ _ = _) | with_reducible assumption | extract_lets | with_reducible apply frame_ite | with_reducible apply frame_next | (with_reducible apply frame_upd; with_reducible exact Or.inr rfl; fail_if_success (iterate 23 (with_reducible exact Or.inr rfl))) | (with_reducible apply frame_foldl; intro _ _) | (split) | (dsimp +zetaDelta only))

theorem frame_dataToHost {M : Nat} {s0 s : State} (bs) (hM : Nat.lor 32768 M = M) (h0 : Frame M s0 s) : Frame M s0 (State.dataToHost s bs) := by
  refine frame_trans (k := 32768) ?_ hM h0
  unfold State.dataToHost
  repeat' (first | with_reducible exact frame_refl _ _ | with_reducible exact Or.inr rfl | exact Or.inl rfl | exact (rfl : Nat.lor _ _ = _) | with_reducible assumption | extract_lets | with_reducible apply frame_ite | with_reducible apply frame_next | (with_reducible apply frame_upd; with_reducible exact Or.inr rfl; fail_if_success (iterate 23 (with_reducible exact Or.inr rfl))) | (with_reducible apply frame_foldl; intro _ _) | (split) | (dsimp +zetaDelta only))

theorem frame_setCtrl {M : Nat} {s0 s : State} (f) (c) (hM : Nat.lor 32768 M = M) (h0 : Frame M s0 s) : Frame M s0 (State.setCtrl s f c) := by
  refine frame_trans (k := 32768) ?_ hM h0
  unfold State.setCtrl
  repeat' (first | with_reducible exact frame_refl _ _ | with_reducible exact Or.inr rfl | exact Or.inl rfl | exact (rfl : Nat.lor _ _ = _) | with_reducible assumption | extract_lets | with_reducible apply frame_ite | with_reducible apply frame_next | (with_reducible apply frame_upd; with_reducible exact Or.inr rfl; fail_if_success (iterate 23 (with_reducible exact Or.inr rfl))) | (with_reducible apply frame_foldl; intro _ _) | (split) | (dsimp +zetaDelta only))

theorem frame_setAcct {M : Nat} {s0 s : State} (a) (x2) (hM : Nat.lor 32768 M = M) (h0 : Frame M s0 s) : Frame M s0 (State.setAcct s a x2) := by
  refine frame_trans (k := 32768) ?_ hM h0
  unfold State.setAcct
  repeat' (first | with_reducible exact frame_refl _ _ | with_reducible exact Or.inr rfl | exact Or.inl rfl | exact (rfl : Nat.lor _ _ = _) | with_reducible assumption | extract_lets | with_reducible apply frame_ite | with_reducible apply frame_next | (with_reducible apply frame_upd; with_reducible exact Or.inr rfl; fail_if_success (iterate 23 (with_reducible exact Or.inr rfl))) | (with_reducible apply frame_foldl; intro _ _) | (split) | (dsimp +zetaDelta only))

theorem frame_setDie {M : Nat} {s0 s : State} (d) (x2) (hM : Nat.lor 2048 M = M) (h0 : Frame M s0 s) : Frame M s0 (State.setDie s d x2) := by
  refine frame_trans (k := 2048) ?_ hM h0
  unfold State.setDie
  repeat' (first | with_reducible exact frame_refl _ _ | with_reducible exact Or.inr rfl | exact Or.inl rfl | exact (rfl : Nat.lor _ _ = _) | with_reducible assumption | extract_lets | with_reducible apply frame_ite | with_reducible apply frame_next | (with_reducible apply frame_upd; with_reducible exact Or.inr rfl; fail_if_success (iterate 23 (with_reducible exact Or.inr rfl))) | (with_reducible apply frame_foldl; intro _ _) | (split) | (dsimp +zetaDelta only))

theorem frame_setDieMed {M : Nat} {s0 s : State} (d) (x2) (hM : Nat.lor 4096 M = M) (h0 : Frame M s0 s) : Frame M s0 (State.setDieMed s d x2) := by
  refine frame_trans (k := 4096) ?_ hM h0
  unfold State.setDieMed
  repeat' (first | with_reducible exact frame_refl _ _ | with_reducible exact Or.inr rfl | exact Or.inl rfl | exact (rfl : Nat.lor _ _ = _) | with_reducible assumption | extract_lets | with_reducible apply frame_ite | with_reducible apply frame_next | (with_reducible apply frame_upd; with_reducible exact Or.inr rfl; fail_if_success (iterate 23 (with_reducible exact Or.inr rfl))) | (with_reducible apply frame_foldl; intro _ _) | (split) | (dsimp +zetaDelta only))

theorem frame_setZone {M : Nat} {s0 s : State} (z) (x2) (hM : Nat.lor 4096 M = M) (h0 : Frame M s0 s) : Frame M s0 (State.setZone s z x2) := by
  refine frame_trans (k := 4096) ?_ hM h0
  unfold State.setZone
  repeat' (first | with_reducible exact frame_refl _ _ | with_reducible exact Or.inr rfl | exact Or.inl rfl | exact (rfl : Nat.lor _ _ = _) | with_reducible assumption | extract_lets | with_reducible apply frame_ite | with_reducible apply frame_next | (with_reducible apply frame_upd; with_reducible exact Or.inr rfl; fail_if_success (iterate 23 (with_reducible exact Or.inr rfl))) | (with_reducible apply frame_foldl; intro _ _) | (split) | (dsimp +zetaDelta only))

theorem frame_setBlock {M : Nat} {s0 s : State} (d) (b) (x3) (hM : Nat.lor 4096 M = M) (h0 : Frame M s0 s) : Frame M s0 (State.setBlock s d b x3) := by
  refine frame_trans (k := 4096) ?_ hM h0
  unfold State.setBlock
  repeat' (first | with_reducible exact frame_refl _ _ | with_reducible exact Or.inr rfl | exact Or.inl rfl | exact (rfl : Nat.lor _ _ = _) | with_reducible assumption | extract_lets | with_reducible apply frame_ite | with_reducible apply frame_next | (with_reducible apply frame_upd; with_reducible exact Or.inr rfl; fail_if_success (iterate 23 (with_reducible exact Or.inr rfl))) | (with_reducible apply frame_foldl; intro _ _) | (split) | (dsimp +zetaDelta only))

theorem frame_setCmd {M : Nat} {s0 s : State} (h) (c) (hM : Nat.lor 32768 M = M) (h0 : Frame M s0 s) : Frame M s0 (State.setCmd s h c) := by
  refine frame_trans (k := 32768) ?_ hM h0
  unfold State.setCmd
  repeat' (first | with_reducible exact frame_refl _ _ | with_reducible exact Or.inr rfl | exact Or.inl rfl | exact (rfl : Nat.lor _ _ = _) | with_reducible assumption | extract_lets | with_reducible apply frame_ite | with_reducible apply frame_next | (with_reducible apply frame_upd; with_reducible exact Or.inr rfl; fail_if_success (iterate 23 (with_reducible exact Or.inr rfl))) | (with_reducible apply frame_foldl; intro _ _) | (split) | (dsimp +zetaDelta only))

theorem frame_dropCmd {M : Nat} {s0 s : State} (h) (hM : Nat.lor 32768 M = M) (h0 : Frame M s0 s) : Frame M s0 (State.dropCmd s h) := by
  refine frame_trans (k := 32768) ?_ hM h0
  unfold State.dropCmd
  repeat' (first | with_reducible exact frame_refl _ _ | with_reducible exact Or.inr rfl | exact Or.inl rfl | exact (rfl : Nat.lor _ _ = _) | with_reducible assumption | extract_lets | with_reducible apply frame_ite | with_reducible apply frame_next | (with_reducible apply frame_upd; with_reducible exact Or.inr rfl; fail_if_success (iterate 23 (with_reducible exact Or.inr rfl))) | (with_reducible apply frame_foldl; intro _ _) | (split) | (dsimp +zetaDelta only))

theorem frame_setSensor {M : Nat} {s0 s : State} (n) (x2) (hM : Nat.lor 64 M = M) (h0 : Frame M s0 s) : Frame M s0 (State.setSensor s n x2) := by
  refine frame_trans (k := 64) ?_ hM h0
  unfold State.setSensor
  repeat' (first | with_reducible exact frame_refl _ _ | with_reducible exact Or.inr rfl | exact Or.inl rfl | exact (rfl : Nat.lor _ _ = _) | with_reducible assumption | extract_lets | with_reducible apply frame_ite | with_reducible apply frame_next | (with_reducible apply frame_upd; with_reducible exact Or.inr rfl; fail_if_success (iterate 23 (with_reducible exact Or.inr rfl))) | (with_reducible apply frame_foldl; intro _ _) | (split) | (dsimp +zetaDelta only))

theorem frame_setLoop {M : Nat} {s0 s : State} (n) (x2) (hM : Nat.lor 128 M = M) (h0 : Frame M s0 s) : Frame M s0 (State.setLoop s n x2) := by
  refine frame_trans (k := 128) ?_ hM h0
  unfold State.setLoop
  repeat' (first | with_reducible exact frame_refl _ _ | with_reducible exact Or.inr rfl | exact Or.inl rfl | exact (rfl : Nat.lor _ _ = _) | with_reducible assumption | extract_lets | with_reducible apply frame_ite | with_reducible apply frame_next | (with_reducible apply frame_upd; with_reducible exact Or.inr rfl; fail_if_success (iterate 23 (with_reducible exact Or.inr rfl))) | (with_reducible apply frame_foldl; intro _ _) | (split) | (dsimp +zetaDelta only))

theorem frame_setSeg {M : Nat} {s0 s : State} (n) (x2) (hM : Nat.lor 16384 M = M) (h0 : Frame M s0 s) : Frame M s0 (State.setSeg s n x2) := by
  refine frame_trans (k := 16384) ?_ hM h0
  unfold State.setSeg
  repeat' (first | with_reducible exact frame_refl _ _ | with_reducible exact Or.inr rfl | exact Or.inl rfl | exact (rfl : Nat.lor _ _ = _) | with_reducible assumption | extract_lets | with_reducible apply frame_ite | with_reducible apply frame_next | (with_reducible apply frame_upd; with_reducible exact Or.inr rfl; fail_if_success (iterate 23 (with_reducible exact Or.inr rfl))) | (with_reducible apply frame_foldl; intro _ _) | (split) | (dsimp +zetaDelta only))

theorem frame_setChain {M : Nat} {s0 s : State} (n) (x2) (hM : Nat.lor 65536 M = M) (h0 : Frame M s0 s) : Frame M s0 (State.setChain s n x2) := by
  refine frame_trans (k := 65536) ?_ hM h0
  unfold State.setChain
  repeat' (first | with_reducible exact frame_refl _ _ | with_reducible exact Or.inr rfl | exact Or.inl rfl | exact (rfl : Nat.lor _ _ = _) | with_reducible assumption | extract_lets | with_reducible apply frame_ite | with_reducible apply frame_next | (with_reducible apply frame_upd; with_reducible exact Or.inr rfl; fail_if_success (iterate 23 (with_reducible exact Or.inr rfl))) | (with_reducible apply frame_foldl; intro _ _) | (split) | (dsimp +zetaDelta only))

theorem frame_setCtx {M : Nat} {s0 s : State} (n) (x2) (hM : Nat.lor 65536 M = M) (h0 : Frame M s0 s) : Frame M s0 (State.setCtx s n x2) := by
  refine frame_trans (k := 65536) ?_ hM h0
  unfold State.setCtx
  repeat' (first | with_reducible exact frame_refl _ _ | with_reducible exact Or.inr rfl | exact Or.inl rfl | exact (rfl : Nat.lor _ _ = _) | with_reducible assumption | extract_lets | with_reducible apply frame_ite | with_reducible apply frame_next | (with_reducible apply frame_upd; with_reducible exact Or.inr rfl; fail_if_success (iterate 23 (with_reducible exact Or.inr rfl))) | (with_reducible apply frame_foldl; intro _ _) | (split) | (dsimp +zetaDelta only))

theorem frame_setLane {M : Nat} {s0 s : State} (n) (x2) (hM : Nat.lor 1048576 M = M) (h0 : Frame M s0 s) : Frame M s0 (State.setLane s n x2) := by
  refine frame_trans (k := 1048576) ?_ hM h0
  unfold State.setLane
  repeat' (first | with_reducible exact frame_refl _ _ | with_reducible exact Or.inr rfl | exact Or.inl rfl | exact (rfl : Nat.lor _ _ = _) | with_reducible assumption | extract_lets | with_reducible apply frame_ite | with_reducible apply frame_next | (with_reducible apply frame_upd; with_reducible exact Or.inr rfl; fail_if_success (iterate 23 (with_reducible exact Or.inr rfl))) | (with_reducible apply frame_foldl; intro _ _) | (split) | (dsimp +zetaDelta only))

theorem frame_setPort {M : Nat} {s0 s : State} (n) (x2) (hM : Nat.lor 524288 M = M) (h0 : Frame M s0 s) : Frame M s0 (State.setPort s n x2) := by
  refine frame_trans (k := 524288) ?_ hM h0
  unfold State.setPort
  repeat' (first | with_reducible exact frame_refl _ _ | with_reducible exact Or.inr rfl | exact Or.inl rfl | exact (rfl : Nat.lor _ _ = _) | with_reducible assumption | extract_lets | with_reducible apply frame_ite | with_reducible apply frame_next | (with_reducible apply frame_upd; with_reducible exact Or.inr rfl; fail_if_success (iterate 23 (with_reducible exact Or.inr rfl))) | (with_reducible apply frame_foldl; intro _ _) | (split) | (dsimp +zetaDelta only))

theorem frame_keepSlots {M : Nat} {s0 s : State} (hM : Nat.lor 262144 M = M) (h0 : Frame M s0 s) : Frame M s0 (State.keepSlots s) := by
  refine frame_trans (k := 262144) ?_ hM h0
  unfold State.keepSlots
  repeat' (first | with_reducible exact frame_refl _ _ | with_reducible exact Or.inr rfl | exact Or.inl rfl | exact (rfl : Nat.lor _ _ = _) | with_reducible assumption | extract_lets | with_reducible apply frame_ite | with_reducible apply frame_next | (with_reducible apply frame_upd; with_reducible exact Or.inr rfl; fail_if_success (iterate 23 (with_reducible exact Or.inr rfl))) | (with_reducible apply frame_foldl; intro _ _) | (split) | (dsimp +zetaDelta only))

theorem frame_setSlot {M : Nat} {s0 s : State} (n) (x2) (hM : Nat.lor 262144 M = M) (h0 : Frame M s0 s) : Frame M s0 (State.setSlot s n x2) := by
  refine frame_trans (k := 262144) ?_ hM h0
  unfold State.setSlot
  repeat' (first | with_reducible exact frame_refl _ _ | with_reducible exact Or.inr rfl | exact Or.inl rfl | exact (rfl : Nat.lor _ _ = _) | with_reducible assumption | extract_lets | with_reducible apply frame_ite | with_reducible apply frame_next | (with_reducible apply frame_upd; with_reducible exact Or.inr rfl; fail_if_success (iterate 23 (with_reducible exact Or.inr rfl))) | (with_reducible apply frame_foldl; intro _ _) | with_reducible apply frame_keepSlots | (split) | (dsimp +zetaDelta only))

theorem frame_setCredit {M : Nat} {s0 s : State} (m) (x2) (hM : Nat.lor 2048 M = M) (h0 : Frame M s0 s) : Frame M s0 (State.setCredit s m x2) := by
  refine frame_trans (k := 2048) ?_ hM h0
  unfold State.setCredit
  repeat' (first | with_reducible exact frame_refl _ _ | with_reducible exact Or.inr rfl | exact Or.inl rfl | exact (rfl : Nat.lor _ _ = _) | with_reducible assumption | extract_lets | with_reducible apply frame_ite | with_reducible apply frame_next | (with_reducible apply frame_upd; with_reducible exact Or.inr rfl; fail_if_success (iterate 23 (with_reducible exact Or.inr rfl))) | (with_reducible apply frame_foldl; intro _ _) | (split) | (dsimp +zetaDelta only))

theorem frame_alertSync {M : Nat} {s0 s : State} (hM : Nat.lor 1024 M = M) (h0 : Frame M s0 s) : Frame M s0 (State.alertSync s) := by
  refine frame_trans (k := 1024) ?_ hM h0
  unfold State.alertSync
  repeat' (first | with_reducible exact frame_refl _ _ | with_reducible exact Or.inr rfl | exact Or.inl rfl | exact (rfl : Nat.lor _ _ = _) | with_reducible assumption | extract_lets | with_reducible apply frame_ite | with_reducible apply frame_next | (with_reducible apply frame_upd; with_reducible exact Or.inr rfl; fail_if_success (iterate 23 (with_reducible exact Or.inr rfl))) | (with_reducible apply frame_foldl; intro _ _) | (split) | (dsimp +zetaDelta only))

theorem frame_msixSend {M : Nat} {s0 s : State} (hM : Nat.lor 1024 M = M) (h0 : Frame M s0 s) : Frame M s0 (State.msixSend s) := by
  refine frame_trans (k := 1024) ?_ hM h0
  unfold State.msixSend
  repeat' (first | with_reducible exact frame_refl _ _ | with_reducible exact Or.inr rfl | exact Or.inl rfl | exact (rfl : Nat.lor _ _ = _) | with_reducible assumption | extract_lets | with_reducible apply frame_ite | with_reducible apply frame_next | (with_reducible apply frame_upd; with_reducible exact Or.inr rfl; fail_if_success (iterate 23 (with_reducible exact Or.inr rfl))) | (with_reducible apply frame_foldl; intro _ _) | (split) | (dsimp +zetaDelta only))

theorem frame_msixSync {M : Nat} {s0 s : State} (was) (hM : Nat.lor 1024 M = M) (h0 : Frame M s0 s) : Frame M s0 (State.msixSync s was) := by
  refine frame_trans (k := 1024) ?_ hM h0
  unfold State.msixSync
  repeat' (first | with_reducible exact frame_refl _ _ | with_reducible exact Or.inr rfl | exact Or.inl rfl | exact (rfl : Nat.lor _ _ = _) | with_reducible assumption | extract_lets | with_reducible apply frame_ite | with_reducible apply frame_next | (with_reducible apply frame_upd; with_reducible exact Or.inr rfl; fail_if_success (iterate 23 (with_reducible exact Or.inr rfl))) | (with_reducible apply frame_foldl; intro _ _) | with_reducible apply frame_msixSend | (split) | (dsimp +zetaDelta only))

theorem frame_clockSync {M : Nat} {s0 s : State} (old) (hM : Nat.lor 1024 M = M) (h0 : Frame M s0 s) : Frame M s0 (State.clockSync s old) := by
  refine frame_trans (k := 1024) ?_ hM h0
  unfold State.clockSync
  repeat' (first | with_reducible exact frame_refl _ _ | with_reducible exact Or.inr rfl | exact Or.inl rfl | exact (rfl : Nat.lor _ _ = _) | with_reducible assumption | extract_lets | with_reducible apply frame_ite | with_reducible apply frame_next | (with_reducible apply frame_upd; with_reducible exact Or.inr rfl; fail_if_success (iterate 23 (with_reducible exact Or.inr rfl))) | (with_reducible apply frame_foldl; intro _ _) | (split) | (dsimp +zetaDelta only))

theorem frame_treeSync {M : Nat} {s0 s : State} (old) (hM : Nat.lor 1024 M = M) (h0 : Frame M s0 s) : Frame M s0 (treeSync old s) := by
  refine frame_trans (k := 1024) ?_ hM h0
  unfold treeSync
  repeat' (first | with_reducible exact frame_refl _ _ | with_reducible exact Or.inr rfl | exact Or.inl rfl | exact (rfl : Nat.lor _ _ = _) | with_reducible assumption | extract_lets | with_reducible apply frame_ite | with_reducible apply frame_next | (with_reducible apply frame_upd; with_reducible exact Or.inr rfl; fail_if_success (iterate 23 (with_reducible exact Or.inr rfl))) | (with_reducible apply frame_foldl; intro _ _) | with_reducible apply frame_alertSync | with_reducible apply frame_msixSync | with_reducible apply frame_clockSync | (split) | (dsimp +zetaDelta only))

theorem frame_setDropped {M : Nat} {s0 s : State} (hM : Nat.lor 1 M = M) (h0 : Frame M s0 s) : Frame M s0 (State.setDropped s) := by
  refine frame_trans (k := 1) ?_ hM h0
  unfold State.setDropped
  repeat' (first | with_reducible exact frame_refl _ _ | with_reducible exact Or.inr rfl | exact Or.inl rfl | exact (rfl : Nat.lor _ _ = _) | with_reducible assumption | extract_lets | with_reducible apply frame_ite | with_reducible apply frame_next | (with_reducible apply frame_upd; with_reducible exact Or.inr rfl; fail_if_success (iterate 23 (with_reducible exact Or.inr rfl))) | (with_reducible apply frame_foldl; intro _ _) | with_reducible apply frame_setReg | (split) | (dsimp +zetaDelta only))

theorem frame_event {M : Nat} {s0 s : State} (ty) (detail) (hM : Nat.lor 513 M = M) (h0 : Frame M s0 s) : Frame M s0 (State.event s ty detail) := by
  refine frame_trans (k := 513) ?_ hM h0
  unfold State.event
  repeat' (first | with_reducible exact frame_refl _ _ | with_reducible exact Or.inr rfl | exact Or.inl rfl | exact (rfl : Nat.lor _ _ = _) | with_reducible assumption | extract_lets | with_reducible apply frame_ite | with_reducible apply frame_next | (with_reducible apply frame_upd; with_reducible exact Or.inr rfl; fail_if_success (iterate 23 (with_reducible exact Or.inr rfl))) | (with_reducible apply frame_foldl; intro _ _) | with_reducible apply frame_setDropped | (split) | (dsimp +zetaDelta only))

theorem frame_raise {M : Nat} {s0 s : State} (l) (b) (hM : Nat.lor 1537 M = M) (h0 : Frame M s0 s) : Frame M s0 (State.raise s l b) := by
  refine frame_trans (k := 1537) ?_ hM h0
  unfold State.raise
  repeat' (first | with_reducible exact frame_refl _ _ | with_reducible exact Or.inr rfl | exact Or.inl rfl | exact (rfl : Nat.lor _ _ = _) | with_reducible assumption | extract_lets | with_reducible apply frame_ite | with_reducible apply frame_next | (with_reducible apply frame_upd; with_reducible exact Or.inr rfl; fail_if_success (iterate 23 (with_reducible exact Or.inr rfl))) | (with_reducible apply frame_foldl; intro _ _) | with_reducible apply frame_setReg | with_reducible apply frame_treeSync | with_reducible apply frame_event | (split) | (dsimp +zetaDelta only))

theorem frame_raiseWith {M : Nat} {s0 s : State} (l) (b) (detail) (hM : Nat.lor 1537 M = M) (h0 : Frame M s0 s) : Frame M s0 (State.raiseWith s l b detail) := by
  refine frame_trans (k := 1537) ?_ hM h0
  unfold State.raiseWith
  repeat' (first | with_reducible exact frame_refl _ _ | with_reducible exact Or.inr rfl | exact Or.inl rfl | exact (rfl : Nat.lor _ _ = _) | with_reducible assumption | extract_lets | with_reducible apply frame_ite | with_reducible apply frame_next | (with_reducible apply frame_upd; with_reducible exact Or.inr rfl; fail_if_success (iterate 23 (with_reducible exact Or.inr rfl))) | (with_reducible apply frame_foldl; intro _ _) | with_reducible apply frame_setReg | with_reducible apply frame_treeSync | with_reducible apply frame_event | (split) | (dsimp +zetaDelta only))

theorem frame_raiseEach {M : Nat} {s0 s : State} (l) (b) (hM : Nat.lor 1537 M = M) (h0 : Frame M s0 s) : Frame M s0 (State.raiseEach s l b) := by
  refine frame_trans (k := 1537) ?_ hM h0
  unfold State.raiseEach
  repeat' (first | with_reducible exact frame_refl _ _ | with_reducible exact Or.inr rfl | exact Or.inl rfl | exact (rfl : Nat.lor _ _ = _) | with_reducible assumption | extract_lets | with_reducible apply frame_ite | with_reducible apply frame_next | (with_reducible apply frame_upd; with_reducible exact Or.inr rfl; fail_if_success (iterate 23 (with_reducible exact Or.inr rfl))) | (with_reducible apply frame_foldl; intro _ _) | with_reducible apply frame_raiseWith | (split) | (dsimp +zetaDelta only))

theorem frame_raiseAll {M : Nat} {s0 s : State} (l) (a) (hM : Nat.lor 1537 M = M) (h0 : Frame M s0 s) : Frame M s0 (State.raiseAll s l a) := by
  refine frame_trans (k := 1537) ?_ hM h0
  clear hM h0
  induction a generalizing s l with
  | nil =>
    unfold State.raiseAll
    exact frame_refl _ _
  | cons _ _ ih =>
    unfold State.raiseAll
    repeat' (first | with_reducible exact frame_refl _ _ | with_reducible exact Or.inr rfl | exact Or.inl rfl | exact (rfl : Nat.lor _ _ = _) | with_reducible assumption | extract_lets | with_reducible apply frame_ite | with_reducible apply frame_next | (with_reducible apply frame_upd; with_reducible exact Or.inr rfl; fail_if_success (iterate 23 (with_reducible exact Or.inr rfl))) | (with_reducible apply frame_foldl; intro _ _) | (with_reducible refine frame_trans (ih _) ?_ ?_) | with_reducible apply frame_raise | (split) | (dsimp +zetaDelta only))

theorem frame_levelBit {M : Nat} {s0 s : State} (l) (b) (v) (hM : Nat.lor 1537 M = M) (h0 : Frame M s0 s) : Frame M s0 (State.levelBit s l b v) := by
  refine frame_trans (k := 1537) ?_ hM h0
  unfold State.levelBit
  repeat' (first | with_reducible exact frame_refl _ _ | with_reducible exact Or.inr rfl | exact Or.inl rfl | exact (rfl : Nat.lor _ _ = _) | with_reducible assumption | extract_lets | with_reducible apply frame_ite | with_reducible apply frame_next | (with_reducible apply frame_upd; with_reducible exact Or.inr rfl; fail_if_success (iterate 23 (with_reducible exact Or.inr rfl))) | (with_reducible apply frame_foldl; intro _ _) | with_reducible apply frame_setReg | with_reducible apply frame_treeSync | with_reducible apply frame_raise | (split) | (dsimp +zetaDelta only))

theorem frame_dropLeaves {M : Nat} {s0 s : State} (off) (hM : Nat.lor 1 M = M) (h0 : Frame M s0 s) : Frame M s0 (State.dropLeaves s off) := by
  refine frame_trans (k := 1) ?_ hM h0
  unfold State.dropLeaves
  repeat' (first | with_reducible exact frame_refl _ _ | with_reducible exact Or.inr rfl | exact Or.inl rfl | exact (rfl : Nat.lor _ _ = _) | with_reducible assumption | extract_lets | with_reducible apply frame_ite | with_reducible apply frame_next | (with_reducible apply frame_upd; with_reducible exact Or.inr rfl; fail_if_success (iterate 23 (with_reducible exact Or.inr rfl))) | (with_reducible apply frame_foldl; intro _ _) | with_reducible apply frame_resetRegs | (split) | (dsimp +zetaDelta only))

theorem frame_enter {M : Nat} {s0 s : State} (m) (c) (hM : Nat.lor 1559 M = M) (h0 : Frame M s0 s) : Frame M s0 (State.enter s m c) := by
  refine frame_trans (k := 1559) ?_ hM h0
  unfold State.enter
  repeat' (first | with_reducible exact frame_refl _ _ | with_reducible exact Or.inr rfl | exact Or.inl rfl | exact (rfl : Nat.lor _ _ = _) | with_reducible assumption | extract_lets | with_reducible apply frame_ite | with_reducible apply frame_next | (with_reducible apply frame_upd; with_reducible exact Or.inr rfl; fail_if_success (iterate 23 (with_reducible exact Or.inr rfl))) | (with_reducible apply frame_foldl; intro _ _) | with_reducible apply frame_treeSync | with_reducible apply frame_event | with_reducible apply frame_dropLeaves | (split) | (dsimp +zetaDelta only))

theorem frame_setFetchBank {M : Nat} {s0 s : State} (f) (hM : Nat.lor 1 M = M) (h0 : Frame M s0 s) : Frame M s0 (State.setFetchBank s f) := by
  refine frame_trans (k := 1) ?_ hM h0
  unfold State.setFetchBank
  repeat' (first | with_reducible exact frame_refl _ _ | with_reducible exact Or.inr rfl | exact Or.inl rfl | exact (rfl : Nat.lor _ _ = _) | with_reducible assumption | extract_lets | with_reducible apply frame_ite | with_reducible apply frame_next | (with_reducible apply frame_upd; with_reducible exact Or.inr rfl; fail_if_success (iterate 23 (with_reducible exact Or.inr rfl))) | (with_reducible apply frame_foldl; intro _ _) | with_reducible apply frame_setFld | (split) | (dsimp +zetaDelta only))

theorem frame_norBegin {M : Nat} {s0 s : State} (o) (hM : Nat.lor 257 M = M) (h0 : Frame M s0 s) : Frame M s0 (State.norBegin s o) := by
  refine frame_trans (k := 257) ?_ hM h0
  unfold State.norBegin
  repeat' (first | with_reducible exact frame_refl _ _ | with_reducible exact Or.inr rfl | exact Or.inl rfl | exact (rfl : Nat.lor _ _ = _) | with_reducible assumption | extract_lets | with_reducible apply frame_ite | with_reducible apply frame_next | (with_reducible apply frame_upd; with_reducible exact Or.inr rfl; fail_if_success (iterate 23 (with_reducible exact Or.inr rfl))) | (with_reducible apply frame_foldl; intro _ _) | with_reducible apply frame_setFld | (split) | (dsimp +zetaDelta only))

theorem frame_norStart {M : Nat} {s0 s : State} (k) (pages) (data) (fetch) (hM : Nat.lor 1793 M = M) (h0 : Frame M s0 s) : Frame M s0 (State.norStart s k pages data fetch) := by
  refine frame_trans (k := 1793) ?_ hM h0
  unfold State.norStart
  repeat' (first | with_reducible exact frame_refl _ _ | with_reducible exact Or.inr rfl | exact Or.inl rfl | exact (rfl : Nat.lor _ _ = _) | with_reducible assumption | extract_lets | with_reducible apply frame_ite | with_reducible apply frame_next | (with_reducible apply frame_upd; with_reducible exact Or.inr rfl; fail_if_success (iterate 23 (with_reducible exact Or.inr rfl))) | (with_reducible apply frame_foldl; intro _ _) | with_reducible apply frame_setFld | with_reducible apply frame_raise | with_reducible apply frame_setFetchBank | with_reducible apply frame_norBegin | (split) | (dsimp +zetaDelta only))

theorem frame_logTouch {M : Nat} {s0 s : State} (a) (n) (erase) (hM : Nat.lor 512 M = M) (h0 : Frame M s0 s) : Frame M s0 (State.logTouch s a n erase) := by
  refine frame_trans (k := 512) ?_ hM h0
  unfold State.logTouch
  repeat' (first | with_reducible exact frame_refl _ _ | with_reducible exact Or.inr rfl | exact Or.inl rfl | exact (rfl : Nat.lor _ _ = _) | with_reducible assumption | extract_lets | with_reducible apply frame_ite | with_reducible apply frame_next | (with_reducible apply frame_upd; with_reducible exact Or.inr rfl; fail_if_success (iterate 23 (with_reducible exact Or.inr rfl))) | (with_reducible apply frame_foldl; intro _ _) | (split) | (dsimp +zetaDelta only))

theorem frame_norApply {M : Nat} {s0 s : State} (o) (hM : Nat.lor 768 M = M) (h0 : Frame M s0 s) : Frame M s0 (State.norApply s o) := by
  refine frame_trans (k := 768) ?_ hM h0
  unfold State.norApply
  repeat' (first | with_reducible exact frame_refl _ _ | with_reducible exact Or.inr rfl | exact Or.inl rfl | exact (rfl : Nat.lor _ _ = _) | with_reducible assumption | extract_lets | with_reducible apply frame_ite | with_reducible apply frame_next | (with_reducible apply frame_upd; with_reducible exact Or.inr rfl; fail_if_success (iterate 23 (with_reducible exact Or.inr rfl))) | (with_reducible apply frame_foldl; intro _ _) | with_reducible apply frame_logTouch | (split) | (dsimp +zetaDelta only))

theorem frame_norSpoil {M : Nat} {s0 s : State} (o) (hM : Nat.lor 4195072 M = M) (h0 : Frame M s0 s) : Frame M s0 (State.norSpoil s o) := by
  refine frame_trans (k := 4195072) ?_ hM h0
  unfold State.norSpoil
  generalize 65536 = w
  extract_lets b t
  have h1 : Frame 4195072 s t := frame_logTouch _ _ _ rfl (frame_refl _ _)
  clear_value t
  repeat' (first | with_reducible exact h1 | (with_reducible apply frame_upd; with_reducible exact Or.inr rfl; fail_if_success (iterate 23 (with_reducible exact Or.inr rfl))) | with_reducible exact Or.inr rfl | exact Or.inl rfl)

theorem frame_sendMctp {M : Nat} {s0 s : State} (bs) (hM : Nat.lor 1537 M = M) (h0 : Frame M s0 s) : Frame M s0 (State.sendMctp s bs) := by
  refine frame_trans (k := 1537) ?_ hM h0
  unfold State.sendMctp
  repeat' (first | with_reducible exact frame_refl _ _ | with_reducible exact Or.inr rfl | exact Or.inl rfl | exact (rfl : Nat.lor _ _ = _) | with_reducible assumption | extract_lets | with_reducible apply frame_ite | with_reducible apply frame_next | (with_reducible apply frame_upd; with_reducible exact Or.inr rfl; fail_if_success (iterate 23 (with_reducible exact Or.inr rfl))) | (with_reducible apply frame_foldl; intro _ _) | with_reducible apply frame_levelBit | (split) | (dsimp +zetaDelta only))

theorem frame_miReply {M : Nat} {s0 s : State} (id) (status) (dw0) (data) (hM : Nat.lor 1537 M = M) (h0 : Frame M s0 s) : Frame M s0 (State.miReply s id status dw0 data) := by
  refine frame_trans (k := 1537) ?_ hM h0
  unfold State.miReply
  repeat' (first | with_reducible exact frame_refl _ _ | with_reducible exact Or.inr rfl | exact Or.inl rfl | exact (rfl : Nat.lor _ _ = _) | with_reducible assumption | extract_lets | with_reducible apply frame_ite | with_reducible apply frame_next | (with_reducible apply frame_upd; with_reducible exact Or.inr rfl; fail_if_success (iterate 23 (with_reducible exact Or.inr rfl))) | (with_reducible apply frame_foldl; intro _ _) | with_reducible apply frame_sendMctp | (split) | (dsimp +zetaDelta only))

theorem frame_reply {M : Nat} {s0 s : State} (v) (x2) (dw0) (hM : Nat.lor 34305 M = M) (h0 : Frame M s0 s) : Frame M s0 (State.reply s v x2 dw0) := by
  refine frame_trans (k := 34305) ?_ hM h0
  unfold State.reply
  repeat' (first | with_reducible exact frame_refl _ _ | with_reducible exact Or.inr rfl | exact Or.inl rfl | exact (rfl : Nat.lor _ _ = _) | with_reducible assumption | extract_lets | with_reducible apply frame_ite | with_reducible apply frame_next | (with_reducible apply frame_upd; with_reducible exact Or.inr rfl; fail_if_success (iterate 23 (with_reducible exact Or.inr rfl))) | (with_reducible apply frame_foldl; intro _ _) | with_reducible apply frame_adminDone | with_reducible apply frame_miReply | (split) | (dsimp +zetaDelta only))

theorem frame_replyData {M : Nat} {s0 s : State} (v) (x2) (dw0) (bs) (hM : Nat.lor 34305 M = M) (h0 : Frame M s0 s) : Frame M s0 (State.replyData s v x2 dw0 bs) := by
  refine frame_trans (k := 34305) ?_ hM h0
  unfold State.replyData
  repeat' (first | with_reducible exact frame_refl _ _ | with_reducible exact Or.inr rfl | exact Or.inl rfl | exact (rfl : Nat.lor _ _ = _) | with_reducible assumption | extract_lets | with_reducible apply frame_ite | with_reducible apply frame_next | (with_reducible apply frame_upd; with_reducible exact Or.inr rfl; fail_if_success (iterate 23 (with_reducible exact Or.inr rfl))) | (with_reducible apply frame_foldl; intro _ _) | with_reducible apply frame_adminDone | with_reducible apply frame_dataToHost | with_reducible apply frame_miReply | (split) | (dsimp +zetaDelta only))

theorem frame_updEvent {M : Nat} {s0 s : State} (u) (step) (outcome) (hM : Nat.lor 513 M = M) (h0 : Frame M s0 s) : Frame M s0 (State.updEvent s u step outcome) := by
  refine frame_trans (k := 513) ?_ hM h0
  unfold State.updEvent
  repeat' (first | with_reducible exact frame_refl _ _ | with_reducible exact Or.inr rfl | exact Or.inl rfl | exact (rfl : Nat.lor _ _ = _) | with_reducible assumption | extract_lets | with_reducible apply frame_ite | with_reducible apply frame_next | (with_reducible apply frame_upd; with_reducible exact Or.inr rfl; fail_if_success (iterate 23 (with_reducible exact Or.inr rfl))) | (with_reducible apply frame_foldl; intro _ _) | with_reducible apply frame_event | (split) | (dsimp +zetaDelta only))

theorem frame_updKick {M : Nat} {s0 s : State} (hM : Nat.lor 257 M = M) (h0 : Frame M s0 s) : Frame M s0 (State.updKick s) := by
  refine frame_trans (k := 257) ?_ hM h0
  unfold State.updKick
  repeat' (first | with_reducible exact frame_refl _ _ | with_reducible exact Or.inr rfl | exact Or.inl rfl | exact (rfl : Nat.lor _ _ = _) | with_reducible assumption | extract_lets | with_reducible apply frame_ite | with_reducible apply frame_next | (with_reducible apply frame_upd; with_reducible exact Or.inr rfl; fail_if_success (iterate 23 (with_reducible exact Or.inr rfl))) | (with_reducible apply frame_foldl; intro _ _) | with_reducible apply frame_setFld | with_reducible apply frame_norBegin | (split) | (dsimp +zetaDelta only))

theorem frame_updEnd {M : Nat} {s0 s : State} (u) (x2) (hM : Nat.lor 34561 M = M) (h0 : Frame M s0 s) : Frame M s0 (State.updEnd s u x2) := by
  refine frame_trans (k := 34561) ?_ hM h0
  unfold State.updEnd
  repeat' (first | with_reducible exact frame_refl _ _ | with_reducible exact Or.inr rfl | exact Or.inl rfl | exact (rfl : Nat.lor _ _ = _) | with_reducible assumption | extract_lets | with_reducible apply frame_ite | with_reducible apply frame_next | (with_reducible apply frame_upd; with_reducible exact Or.inr rfl; fail_if_success (iterate 23 (with_reducible exact Or.inr rfl))) | (with_reducible apply frame_foldl; intro _ _) | with_reducible apply frame_reply | (split) | (dsimp +zetaDelta only))

theorem frame_updFail {M : Nat} {s0 s : State} (u) (hM : Nat.lor 34561 M = M) (h0 : Frame M s0 s) : Frame M s0 (State.updFail s u) := by
  refine frame_trans (k := 34561) ?_ hM h0
  unfold State.updFail
  repeat' (first | with_reducible exact frame_refl _ _ | with_reducible exact Or.inr rfl | exact Or.inl rfl | exact (rfl : Nat.lor _ _ = _) | with_reducible assumption | extract_lets | with_reducible apply frame_ite | with_reducible apply frame_next | (with_reducible apply frame_upd; with_reducible exact Or.inr rfl; fail_if_success (iterate 23 (with_reducible exact Or.inr rfl))) | (with_reducible apply frame_foldl; intro _ _) | with_reducible apply frame_updEnd | (split) | (dsimp +zetaDelta only))

theorem frame_updPhase {M : Nat} {s0 s : State} (u) (p) (hM : Nat.lor 256 M = M) (h0 : Frame M s0 s) : Frame M s0 (State.updPhase s u p) := by
  refine frame_trans (k := 256) ?_ hM h0
  unfold State.updPhase
  repeat' (first | with_reducible exact frame_refl _ _ | with_reducible exact Or.inr rfl | exact Or.inl rfl | exact (rfl : Nat.lor _ _ = _) | with_reducible assumption | extract_lets | with_reducible apply frame_ite | with_reducible apply frame_next | (with_reducible apply frame_upd; with_reducible exact Or.inr rfl; fail_if_success (iterate 23 (with_reducible exact Or.inr rfl))) | (with_reducible apply frame_foldl; intro _ _) | (split) | (dsimp +zetaDelta only))

theorem frame_updVerify {M : Nat} {s0 s : State} (u) (hM : Nat.lor 34561 M = M) (h0 : Frame M s0 s) : Frame M s0 (State.updVerify s u) := by
  refine frame_trans (k := 34561) ?_ hM h0
  unfold State.updVerify
  repeat' (first | with_reducible exact frame_refl _ _ | with_reducible exact Or.inr rfl | exact Or.inl rfl | exact (rfl : Nat.lor _ _ = _) | with_reducible assumption | extract_lets | with_reducible apply frame_ite | with_reducible apply frame_next | (with_reducible apply frame_upd; with_reducible exact Or.inr rfl; fail_if_success (iterate 23 (with_reducible exact Or.inr rfl))) | (with_reducible apply frame_foldl; intro _ _) | with_reducible apply frame_updFail | with_reducible apply frame_updPhase | (split) | (dsimp +zetaDelta only))

theorem frame_updNext {M : Nat} {s0 s : State} (u) (hM : Nat.lor 34561 M = M) (h0 : Frame M s0 s) : Frame M s0 (State.updNext s u) := by
  refine frame_trans (k := 34561) ?_ hM h0
  unfold State.updNext
  repeat' (first | with_reducible exact frame_refl _ _ | with_reducible exact Or.inr rfl | exact Or.inl rfl | exact (rfl : Nat.lor _ _ = _) | with_reducible assumption | extract_lets | with_reducible apply frame_ite | with_reducible apply frame_next | (with_reducible apply frame_upd; with_reducible exact Or.inr rfl; fail_if_success (iterate 23 (with_reducible exact Or.inr rfl))) | (with_reducible apply frame_foldl; intro _ _) | with_reducible apply frame_updPhase | with_reducible apply frame_updVerify | (split) | (dsimp +zetaDelta only))

theorem frame_dropStaged {M : Nat} {s0 s : State} (u) (n) (hM : Nat.lor 256 M = M) (h0 : Frame M s0 s) : Frame M s0 (State.dropStaged s u n) := by
  refine frame_trans (k := 256) ?_ hM h0
  unfold State.dropStaged
  repeat' (first | with_reducible exact frame_refl _ _ | with_reducible exact Or.inr rfl | exact Or.inl rfl | exact (rfl : Nat.lor _ _ = _) | with_reducible assumption | extract_lets | with_reducible apply frame_ite | with_reducible apply frame_next | (with_reducible apply frame_upd; with_reducible exact Or.inr rfl; fail_if_success (iterate 23 (with_reducible exact Or.inr rfl))) | (with_reducible apply frame_foldl; intro _ _) | (split) | (dsimp +zetaDelta only))

theorem frame_updStep {M : Nat} {s0 s : State} (u) (o) (hM : Nat.lor 34561 M = M) (h0 : Frame M s0 s) : Frame M s0 (State.updStep s u o) := by
  refine frame_trans (k := 34561) ?_ hM h0
  unfold State.updStep
  repeat' (first | with_reducible exact frame_refl _ _ | with_reducible exact Or.inr rfl | exact Or.inl rfl | exact (rfl : Nat.lor _ _ = _) | with_reducible assumption | extract_lets | with_reducible apply frame_ite | with_reducible apply frame_next | (with_reducible apply frame_upd; with_reducible exact Or.inr rfl; fail_if_success (iterate 23 (with_reducible exact Or.inr rfl))) | (with_reducible apply frame_foldl; intro _ _) | with_reducible apply frame_norApply | with_reducible apply frame_updEvent | with_reducible apply frame_updEnd | with_reducible apply frame_updFail | with_reducible apply frame_updPhase | with_reducible apply frame_updNext | with_reducible apply frame_dropStaged | (split) | (dsimp +zetaDelta only))

theorem frame_updResume {M : Nat} {s0 s : State} (hM : Nat.lor 34561 M = M) (h0 : Frame M s0 s) : Frame M s0 (State.updResume s) := by
  refine frame_trans (k := 34561) ?_ hM h0
  unfold State.updResume
  repeat' (first | with_reducible exact frame_refl _ _ | with_reducible exact Or.inr rfl | exact Or.inl rfl | exact (rfl : Nat.lor _ _ = _) | with_reducible assumption | extract_lets | with_reducible apply frame_ite | with_reducible apply frame_next | (with_reducible apply frame_upd; with_reducible exact Or.inr rfl; fail_if_success (iterate 23 (with_reducible exact Or.inr rfl))) | (with_reducible apply frame_foldl; intro _ _) | with_reducible apply frame_raise | with_reducible apply frame_updEvent | with_reducible apply frame_updKick | with_reducible apply frame_updEnd | with_reducible apply frame_updPhase | with_reducible apply frame_updVerify | with_reducible apply frame_updNext | with_reducible apply frame_dropStaged | (split) | (dsimp +zetaDelta only))

theorem frame_updRestart {M : Nat} {s0 s : State} (hM : Nat.lor 34561 M = M) (h0 : Frame M s0 s) : Frame M s0 (State.updRestart s) := by
  refine frame_trans (k := 34561) ?_ hM h0
  unfold State.updRestart
  repeat' (first | with_reducible exact frame_refl _ _ | with_reducible exact Or.inr rfl | exact Or.inl rfl | exact (rfl : Nat.lor _ _ = _) | with_reducible assumption | extract_lets | with_reducible apply frame_ite | with_reducible apply frame_next | (with_reducible apply frame_upd; with_reducible exact Or.inr rfl; fail_if_success (iterate 23 (with_reducible exact Or.inr rfl))) | (with_reducible apply frame_foldl; intro _ _) | with_reducible apply frame_updResume | (split) | (dsimp +zetaDelta only))

theorem frame_clearKick {M : Nat} {s0 s : State} (hM : Nat.lor 256 M = M) (h0 : Frame M s0 s) : Frame M s0 (State.clearKick s) := by
  refine frame_trans (k := 256) ?_ hM h0
  unfold State.clearKick
  repeat' (first | with_reducible exact frame_refl _ _ | with_reducible exact Or.inr rfl | exact Or.inl rfl | exact (rfl : Nat.lor _ _ = _) | with_reducible assumption | extract_lets | with_reducible apply frame_ite | with_reducible apply frame_next | (with_reducible apply frame_upd; with_reducible exact Or.inr rfl; fail_if_success (iterate 23 (with_reducible exact Or.inr rfl))) | (with_reducible apply frame_foldl; intro _ _) | (split) | (dsimp +zetaDelta only))

theorem frame_clearStep {M : Nat} {s0 s : State} (hM : Nat.lor 1537 M = M) (h0 : Frame M s0 s) : Frame M s0 (State.clearStep s) := by
  refine frame_trans (k := 1537) ?_ hM h0
  unfold State.clearStep
  repeat' (first | with_reducible exact frame_refl _ _ | with_reducible exact Or.inr rfl | exact Or.inl rfl | exact (rfl : Nat.lor _ _ = _) | with_reducible assumption | extract_lets | with_reducible apply frame_ite | with_reducible apply frame_next | (with_reducible apply frame_upd; with_reducible exact Or.inr rfl; fail_if_success (iterate 23 (with_reducible exact Or.inr rfl))) | (with_reducible apply frame_foldl; intro _ _) | with_reducible apply frame_raise | with_reducible apply frame_levelBit | with_reducible apply frame_miReply | (split) | (dsimp +zetaDelta only))

theorem frame_rdLoad {M : Nat} {s0 s : State} (hM : Nat.lor 513 M = M) (h0 : Frame M s0 s) : Frame M s0 (State.rdLoad s) := by
  refine frame_trans (k := 513) ?_ hM h0
  unfold State.rdLoad
  repeat' (first | with_reducible exact frame_refl _ _ | with_reducible exact Or.inr rfl | exact Or.inl rfl | exact (rfl : Nat.lor _ _ = _) | with_reducible assumption | extract_lets | with_reducible apply frame_ite | with_reducible apply frame_next | (with_reducible apply frame_upd; with_reducible exact Or.inr rfl; fail_if_success (iterate 23 (with_reducible exact Or.inr rfl))) | (with_reducible apply frame_foldl; intro _ _) | with_reducible apply frame_setReg | with_reducible apply frame_setFld | (split) | (dsimp +zetaDelta only))

theorem frame_norKick {M : Nat} {s0 s : State} (hM : Nat.lor 769 M = M) (h0 : Frame M s0 s) : Frame M s0 (State.norKick s) := by
  refine frame_trans (k := 769) ?_ hM h0
  unfold State.norKick
  repeat' (first | with_reducible exact frame_refl _ _ | with_reducible exact Or.inr rfl | exact Or.inl rfl | exact (rfl : Nat.lor _ _ = _) | with_reducible assumption | extract_lets | with_reducible apply frame_ite | with_reducible apply frame_next | (with_reducible apply frame_upd; with_reducible exact Or.inr rfl; fail_if_success (iterate 23 (with_reducible exact Or.inr rfl))) | (with_reducible apply frame_foldl; intro _ _) | with_reducible apply frame_updKick | with_reducible apply frame_clearKick | with_reducible apply frame_rdLoad | (split) | (dsimp +zetaDelta only))

theorem frame_cutRecords {M : Nat} {s0 s : State} (hM : Nat.lor 4194816 M = M) (h0 : Frame M s0 s) : Frame M s0 (State.cutRecords s) := by
  refine frame_trans (k := 4194816) ?_ hM h0
  unfold State.cutRecords
  repeat' (first | with_reducible exact frame_refl _ _ | with_reducible exact Or.inr rfl | exact Or.inl rfl | exact (rfl : Nat.lor _ _ = _) | with_reducible assumption | extract_lets | with_reducible apply frame_ite | with_reducible apply frame_next | (with_reducible apply frame_upd; with_reducible exact Or.inr rfl; fail_if_success (iterate 23 (with_reducible exact Or.inr rfl))) | (with_reducible apply frame_foldl; intro _ _) | (split) | (dsimp +zetaDelta only))

theorem frame_norAbandon {M : Nat} {s0 s : State} (hM : Nat.lor 4196097 M = M) (h0 : Frame M s0 s) : Frame M s0 (State.norAbandon s) := by
  refine frame_trans (k := 4196097) ?_ hM h0
  unfold State.norAbandon
  repeat' (first | with_reducible exact frame_refl _ _ | with_reducible exact Or.inr rfl | exact Or.inl rfl | exact (rfl : Nat.lor _ _ = _) | with_reducible assumption | extract_lets | with_reducible apply frame_ite | with_reducible apply frame_next | (with_reducible apply frame_upd; with_reducible exact Or.inr rfl; fail_if_success (iterate 23 (with_reducible exact Or.inr rfl))) | (with_reducible apply frame_foldl; intro _ _) | with_reducible apply frame_setReg | with_reducible apply frame_setFld | with_reducible apply frame_raise | with_reducible apply frame_norSpoil | with_reducible apply frame_cutRecords | (split) | (dsimp +zetaDelta only))

theorem frame_setBank {M : Nat} {s0 s : State} (b) (p) (hM : Nat.lor 131072 M = M) (h0 : Frame M s0 s) : Frame M s0 (State.setBank s b p) := by
  refine frame_trans (k := 131072) ?_ hM h0
  unfold State.setBank
  repeat' (first | with_reducible exact frame_refl _ _ | with_reducible exact Or.inr rfl | exact Or.inl rfl | exact (rfl : Nat.lor _ _ = _) | with_reducible assumption | extract_lets | with_reducible apply frame_ite | with_reducible apply frame_next | (with_reducible apply frame_upd; with_reducible exact Or.inr rfl; fail_if_success (iterate 23 (with_reducible exact Or.inr rfl))) | (with_reducible apply frame_foldl; intro _ _) | (split) | (dsimp +zetaDelta only))

theorem frame_syncBanks {M : Nat} {s0 s : State} (hM : Nat.lor 131072 M = M) (h0 : Frame M s0 s) : Frame M s0 (State.syncBanks s) := by
  refine frame_trans (k := 131072) ?_ hM h0
  unfold State.syncBanks
  repeat' (first | with_reducible exact frame_refl _ _ | with_reducible exact Or.inr rfl | exact Or.inl rfl | exact (rfl : Nat.lor _ _ = _) | with_reducible assumption | extract_lets | with_reducible apply frame_ite | with_reducible apply frame_next | (with_reducible apply frame_upd; with_reducible exact Or.inr rfl; fail_if_success (iterate 23 (with_reducible exact Or.inr rfl))) | (with_reducible apply frame_foldl; intro _ _) | with_reducible apply frame_setBank | (split) | (dsimp +zetaDelta only))

theorem frame_dropVolatile {M : Nat} {s0 s : State} (hM : Nat.lor 2080752 M = M) (h0 : Frame M s0 s) : Frame M s0 (State.dropVolatile s) := by
  refine frame_trans (k := 2080752) ?_ hM h0
  unfold State.dropVolatile
  repeat' (first | with_reducible exact frame_refl _ _ | with_reducible exact Or.inr rfl | exact Or.inl rfl | exact (rfl : Nat.lor _ _ = _) | with_reducible assumption | extract_lets | with_reducible apply frame_ite | with_reducible apply frame_next | (with_reducible apply frame_upd; with_reducible exact Or.inr rfl; fail_if_success (iterate 23 (with_reducible exact Or.inr rfl))) | (with_reducible apply frame_foldl; intro _ _) | (split) | (dsimp +zetaDelta only))

theorem frame_dropHibernate {M : Nat} {s0 s : State} (hM : Nat.lor 2072544 M = M) (h0 : Frame M s0 s) : Frame M s0 (State.dropHibernate s) := by
  refine frame_trans (k := 2072544) ?_ hM h0
  unfold State.dropHibernate
  repeat' (first | with_reducible exact frame_refl _ _ | with_reducible exact Or.inr rfl | exact Or.inl rfl | exact (rfl : Nat.lor _ _ = _) | with_reducible assumption | extract_lets | with_reducible apply frame_ite | with_reducible apply frame_next | (with_reducible apply frame_upd; with_reducible exact Or.inr rfl; fail_if_success (iterate 23 (with_reducible exact Or.inr rfl))) | (with_reducible apply frame_foldl; intro _ _) | (split) | (dsimp +zetaDelta only))

theorem frame_floatLdg {M : Nat} {s0 s : State} (hM : Nat.lor 8 M = M) (h0 : Frame M s0 s) : Frame M s0 (State.floatLdg s) := by
  refine frame_trans (k := 8) ?_ hM h0
  unfold State.floatLdg
  repeat' (first | with_reducible exact frame_refl _ _ | with_reducible exact Or.inr rfl | exact Or.inl rfl | exact (rfl : Nat.lor _ _ = _) | with_reducible assumption | extract_lets | with_reducible apply frame_ite | with_reducible apply frame_next | (with_reducible apply frame_upd; with_reducible exact Or.inr rfl; fail_if_success (iterate 23 (with_reducible exact Or.inr rfl))) | (with_reducible apply frame_foldl; intro _ _) | (split) | (dsimp +zetaDelta only))

theorem frame_driveRefs {M : Nat} {s0 s : State} (hM : Nat.lor 8 M = M) (h0 : Frame M s0 s) : Frame M s0 (State.driveRefs s) := by
  refine frame_trans (k := 8) ?_ hM h0
  unfold State.driveRefs
  repeat' (first | with_reducible exact frame_refl _ _ | with_reducible exact Or.inr rfl | exact Or.inl rfl | exact (rfl : Nat.lor _ _ = _) | with_reducible assumption | extract_lets | with_reducible apply frame_ite | with_reducible apply frame_next | (with_reducible apply frame_upd; with_reducible exact Or.inr rfl; fail_if_success (iterate 23 (with_reducible exact Or.inr rfl))) | (with_reducible apply frame_foldl; intro _ _) | (split) | (dsimp +zetaDelta only))

theorem frame_parkLdg {M : Nat} {s0 s : State} (hM : Nat.lor 8 M = M) (h0 : Frame M s0 s) : Frame M s0 (State.parkLdg s) := by
  refine frame_trans (k := 8) ?_ hM h0
  unfold State.parkLdg
  repeat' (first | with_reducible exact frame_refl _ _ | with_reducible exact Or.inr rfl | exact Or.inl rfl | exact (rfl : Nat.lor _ _ = _) | with_reducible assumption | extract_lets | with_reducible apply frame_ite | with_reducible apply frame_next | (with_reducible apply frame_upd; with_reducible exact Or.inr rfl; fail_if_success (iterate 23 (with_reducible exact Or.inr rfl))) | (with_reducible apply frame_foldl; intro _ _) | with_reducible apply frame_driveRefs | (split) | (dsimp +zetaDelta only))

theorem frame_toOff {M : Nat} {s0 s : State} (why) (c) (hM : Nat.lor 2097151 M = M) (h0 : Frame M s0 s) : Frame M s0 (State.toOff s why c) := by
  refine frame_trans (k := 2097151) ?_ hM h0
  unfold State.toOff
  repeat' (first | with_reducible exact frame_refl _ _ | with_reducible exact Or.inr rfl | exact Or.inl rfl | exact (rfl : Nat.lor _ _ = _) | with_reducible assumption | extract_lets | with_reducible apply frame_ite | with_reducible apply frame_next | (with_reducible apply frame_upd; with_reducible exact Or.inr rfl; fail_if_success (iterate 23 (with_reducible exact Or.inr rfl))) | (with_reducible apply frame_foldl; intro _ _) | with_reducible apply frame_setFld | with_reducible apply frame_enter | with_reducible apply frame_syncBanks | with_reducible apply frame_dropVolatile | with_reducible apply frame_floatLdg | (split) | (dsimp +zetaDelta only))

theorem frame_restoreTime {M : Nat} {s0 s : State} (hM : Nat.lor 32 M = M) (h0 : Frame M s0 s) : Frame M s0 (State.restoreTime s) := by
  refine frame_trans (k := 32) ?_ hM h0
  unfold State.restoreTime
  repeat' (first | with_reducible exact frame_refl _ _ | with_reducible exact Or.inr rfl | exact Or.inl rfl | exact (rfl : Nat.lor _ _ = _) | with_reducible assumption | extract_lets | with_reducible apply frame_ite | with_reducible apply frame_next | (with_reducible apply frame_upd; with_reducible exact Or.inr rfl; fail_if_success (iterate 23 (with_reducible exact Or.inr rfl))) | (with_reducible apply frame_foldl; intro _ _) | (split) | (dsimp +zetaDelta only))

theorem frame_toStrap {M : Nat} {s0 s : State} (fromOff) (hM : Nat.lor 2080767 M = M) (h0 : Frame M s0 s) : Frame M s0 (State.toStrap s fromOff) := by
  refine frame_trans (k := 2080767) ?_ hM h0
  unfold State.toStrap
  extract_lets s1 s2 a b s3
  have h2 : Frame 2080767 s s2 :=
    frame_syncBanks rfl (frame_setFld _ _ _ _ rfl (frame_resetRegs _ rfl (frame_parkLdg rfl (frame_dropVolatile rfl
      (frame_enter _ _ rfl (frame_refl _ _))))))
  clear_value s2
  have h3 : Frame 2080767 s s3 := by
    unfold s3
    with_reducible apply frame_ite
    · repeat' (first | (with_reducible apply frame_upd; with_reducible exact Or.inr rfl; fail_if_success (iterate 23 (with_reducible exact Or.inr rfl))) | with_reducible exact Or.inr rfl | exact Or.inl rfl | exact frame_restoreTime rfl h2)
    · repeat' (first | (with_reducible apply frame_upd; with_reducible exact Or.inr rfl; fail_if_success (iterate 23 (with_reducible exact Or.inr rfl))) | with_reducible exact Or.inr rfl | exact Or.inl rfl | exact h2)
  clear_value s3
  repeat' (first | (with_reducible apply frame_upd; with_reducible exact Or.inr rfl; fail_if_success (iterate 23 (with_reducible exact Or.inr rfl))) | with_reducible exact Or.inr rfl | exact Or.inl rfl | exact h3)

theorem frame_logSearch {M : Nat} {s0 s : State} (hM : Nat.lor 768 M = M) (h0 : Frame M s0 s) : Frame M s0 (State.logSearch s) := by
  refine frame_trans (k := 768) ?_ hM h0
  unfold State.logSearch
  repeat' (first | with_reducible exact frame_refl _ _ | with_reducible exact Or.inr rfl | exact Or.inl rfl | exact (rfl : Nat.lor _ _ = _) | with_reducible assumption | extract_lets | with_reducible apply frame_ite | with_reducible apply frame_next | (with_reducible apply frame_upd; with_reducible exact Or.inr rfl; fail_if_success (iterate 23 (with_reducible exact Or.inr rfl))) | (with_reducible apply frame_foldl; intro _ _) | with_reducible apply frame_clearKick | (split) | (dsimp +zetaDelta only))

theorem frame_startEvent {M : Nat} {s0 s : State} (hM : Nat.lor 513 M = M) (h0 : Frame M s0 s) : Frame M s0 (State.startEvent s) := by
  refine frame_trans (k := 513) ?_ hM h0
  unfold State.startEvent
  repeat' (first | with_reducible exact frame_refl _ _ | with_reducible exact Or.inr rfl | exact Or.inl rfl | exact (rfl : Nat.lor _ _ = _) | with_reducible assumption | extract_lets | with_reducible apply frame_ite | with_reducible apply frame_next | (with_reducible apply frame_upd; with_reducible exact Or.inr rfl; fail_if_success (iterate 23 (with_reducible exact Or.inr rfl))) | (with_reducible apply frame_foldl; intro _ _) | with_reducible apply frame_event | (split) | (dsimp +zetaDelta only))

theorem frame_toMaint {M : Nat} {s0 s : State} (cause) (c) (hM : Nat.lor 2080767 M = M) (h0 : Frame M s0 s) : Frame M s0 (State.toMaint s cause c) := by
  refine frame_trans (k := 2080767) ?_ hM h0
  unfold State.toMaint
  repeat' (first | with_reducible exact frame_refl _ _ | with_reducible exact Or.inr rfl | exact Or.inl rfl | exact (rfl : Nat.lor _ _ = _) | with_reducible assumption | extract_lets | with_reducible apply frame_ite | with_reducible apply frame_next | (with_reducible apply frame_upd; with_reducible exact Or.inr rfl; fail_if_success (iterate 23 (with_reducible exact Or.inr rfl))) | (with_reducible apply frame_foldl; intro _ _) | with_reducible apply frame_setReg | with_reducible apply frame_setFld | with_reducible apply frame_enter | with_reducible apply frame_updRestart | with_reducible apply frame_syncBanks | with_reducible apply frame_dropVolatile | with_reducible apply frame_floatLdg | with_reducible apply frame_logSearch | with_reducible apply frame_startEvent | (split) | (dsimp +zetaDelta only))

theorem frame_phaseTime {M : Nat} {s0 s : State} (n) (us) (hM : Nat.lor 1 M = M) (h0 : Frame M s0 s) : Frame M s0 (State.phaseTime s n us) := by
  refine frame_trans (k := 1) ?_ hM h0
  unfold State.phaseTime
  repeat' (first | with_reducible exact frame_refl _ _ | with_reducible exact Or.inr rfl | exact Or.inl rfl | exact (rfl : Nat.lor _ _ = _) | with_reducible assumption | extract_lets | with_reducible apply frame_ite | with_reducible apply frame_next | (with_reducible apply frame_upd; with_reducible exact Or.inr rfl; fail_if_success (iterate 23 (with_reducible exact Or.inr rfl))) | (with_reducible apply frame_foldl; intro _ _) | with_reducible apply frame_setReg | (split) | (dsimp +zetaDelta only))

theorem frame_phaseEnd {M : Nat} {s0 s : State} (n) (hM : Nat.lor 1 M = M) (h0 : Frame M s0 s) : Frame M s0 (State.phaseEnd s n) := by
  refine frame_trans (k := 1) ?_ hM h0
  unfold State.phaseEnd
  repeat' (first | with_reducible exact frame_refl _ _ | with_reducible exact Or.inr rfl | exact Or.inl rfl | exact (rfl : Nat.lor _ _ = _) | with_reducible assumption | extract_lets | with_reducible apply frame_ite | with_reducible apply frame_next | (with_reducible apply frame_upd; with_reducible exact Or.inr rfl; fail_if_success (iterate 23 (with_reducible exact Or.inr rfl))) | (with_reducible apply frame_foldl; intro _ _) | with_reducible apply frame_phaseTime | (split) | (dsimp +zetaDelta only))

theorem frame_setSlotReason {M : Nat} {s0 s : State} (x1) (r) (hM : Nat.lor 1 M = M) (h0 : Frame M s0 s) : Frame M s0 (State.setSlotReason s x1 r) := by
  refine frame_trans (k := 1) ?_ hM h0
  unfold State.setSlotReason
  repeat' (first | with_reducible exact frame_refl _ _ | with_reducible exact Or.inr rfl | exact Or.inl rfl | exact (rfl : Nat.lor _ _ = _) | with_reducible assumption | extract_lets | with_reducible apply frame_ite | with_reducible apply frame_next | (with_reducible apply frame_upd; with_reducible exact Or.inr rfl; fail_if_success (iterate 23 (with_reducible exact Or.inr rfl))) | (with_reducible apply frame_foldl; intro _ _) | with_reducible apply frame_setFld | (split) | (dsimp +zetaDelta only))

theorem frame_markNoCand {M : Nat} {s0 s : State} (hM : Nat.lor 1 M = M) (h0 : Frame M s0 s) : Frame M s0 (State.markNoCand s) := by
  refine frame_trans (k := 1) ?_ hM h0
  unfold State.markNoCand
  repeat' (first | with_reducible exact frame_refl _ _ | with_reducible exact Or.inr rfl | exact Or.inl rfl | exact (rfl : Nat.lor _ _ = _) | with_reducible assumption | extract_lets | with_reducible apply frame_ite | with_reducible apply frame_next | (with_reducible apply frame_upd; with_reducible exact Or.inr rfl; fail_if_success (iterate 23 (with_reducible exact Or.inr rfl))) | (with_reducible apply frame_foldl; intro _ _) | with_reducible apply frame_setSlotReason | (split) | (dsimp +zetaDelta only))

theorem frame_loadOn {M : Nat} {s0 s : State} (x1) (hM : Nat.lor 16 M = M) (h0 : Frame M s0 s) : Frame M s0 (State.loadOn s x1) := by
  refine frame_trans (k := 16) ?_ hM h0
  unfold State.loadOn
  repeat' (first | with_reducible exact frame_refl _ _ | with_reducible exact Or.inr rfl | exact Or.inl rfl | exact (rfl : Nat.lor _ _ = _) | with_reducible assumption | extract_lets | with_reducible apply frame_ite | with_reducible apply frame_next | (with_reducible apply frame_upd; with_reducible exact Or.inr rfl; fail_if_success (iterate 23 (with_reducible exact Or.inr rfl))) | (with_reducible apply frame_foldl; intro _ _) | (split) | (dsimp +zetaDelta only))

theorem frame_slotFail {M : Nat} {s0 s : State} (x1) (reason) (hM : Nat.lor 2080767 M = M) (h0 : Frame M s0 s) : Frame M s0 (State.slotFail s x1 reason) := by
  refine frame_trans (k := 2080767) ?_ hM h0
  unfold State.slotFail
  repeat' (first | with_reducible exact frame_refl _ _ | with_reducible exact Or.inr rfl | exact Or.inl rfl | exact (rfl : Nat.lor _ _ = _) | with_reducible assumption | extract_lets | with_reducible apply frame_ite | with_reducible apply frame_next | (with_reducible apply frame_upd; with_reducible exact Or.inr rfl; fail_if_success (iterate 23 (with_reducible exact Or.inr rfl))) | (with_reducible apply frame_foldl; intro _ _) | with_reducible apply frame_setFld | with_reducible apply frame_raise | with_reducible apply frame_toMaint | with_reducible apply frame_setSlotReason | with_reducible apply frame_markNoCand | with_reducible apply frame_loadOn | (split) | (dsimp +zetaDelta only))

theorem frame_loadFault {M : Nat} {s0 s : State} (hM : Nat.lor 2080767 M = M) (h0 : Frame M s0 s) : Frame M s0 (State.loadFault s) := by
  refine frame_trans (k := 2080767) ?_ hM h0
  unfold State.loadFault
  repeat' (first | with_reducible exact frame_refl _ _ | with_reducible exact Or.inr rfl | exact Or.inl rfl | exact (rfl : Nat.lor _ _ = _) | with_reducible assumption | extract_lets | with_reducible apply frame_ite | with_reducible apply frame_next | (with_reducible apply frame_upd; with_reducible exact Or.inr rfl; fail_if_success (iterate 23 (with_reducible exact Or.inr rfl))) | (with_reducible apply frame_foldl; intro _ _) | with_reducible apply frame_setFld | with_reducible apply frame_raise | with_reducible apply frame_toMaint | with_reducible apply frame_setSlotReason | with_reducible apply frame_loadOn | with_reducible apply frame_slotFail | (split) | (dsimp +zetaDelta only))

theorem frame_kmFree {M : Nat} {s0 s : State} (hM : Nat.lor 262145 M = M) (h0 : Frame M s0 s) : Frame M s0 (State.kmFree s) := by
  refine frame_trans (k := 262145) ?_ hM h0
  unfold State.kmFree
  repeat' (first | with_reducible exact frame_refl _ _ | with_reducible exact Or.inr rfl | exact Or.inl rfl | exact (rfl : Nat.lor _ _ = _) | with_reducible assumption | extract_lets | with_reducible apply frame_ite | with_reducible apply frame_next | (with_reducible apply frame_upd; with_reducible exact Or.inr rfl; fail_if_success (iterate 23 (with_reducible exact Or.inr rfl))) | (with_reducible apply frame_foldl; intro _ _) | with_reducible apply frame_setFld | with_reducible apply frame_resetRegs | (split) | (dsimp +zetaDelta only))

theorem frame_kmAbandon {M : Nat} {s0 s : State} (hM : Nat.lor 262145 M = M) (h0 : Frame M s0 s) : Frame M s0 (State.kmAbandon s) := by
  refine frame_trans (k := 262145) ?_ hM h0
  unfold State.kmAbandon
  repeat' (first | with_reducible exact frame_refl _ _ | with_reducible exact Or.inr rfl | exact Or.inl rfl | exact (rfl : Nat.lor _ _ = _) | with_reducible assumption | extract_lets | with_reducible apply frame_ite | with_reducible apply frame_next | (with_reducible apply frame_upd; with_reducible exact Or.inr rfl; fail_if_success (iterate 23 (with_reducible exact Or.inr rfl))) | (with_reducible apply frame_foldl; intro _ _) | with_reducible apply frame_setFld | (split) | (dsimp +zetaDelta only))

theorem frame_kmIslandReset {M : Nat} {s0 s : State} (id) (hM : Nat.lor 262145 M = M) (h0 : Frame M s0 s) : Frame M s0 (State.kmIslandReset s id) := by
  refine frame_trans (k := 262145) ?_ hM h0
  unfold State.kmIslandReset
  repeat' (first | with_reducible exact frame_refl _ _ | with_reducible exact Or.inr rfl | exact Or.inl rfl | exact (rfl : Nat.lor _ _ = _) | with_reducible assumption | extract_lets | with_reducible apply frame_ite | with_reducible apply frame_next | (with_reducible apply frame_upd; with_reducible exact Or.inr rfl; fail_if_success (iterate 23 (with_reducible exact Or.inr rfl))) | (with_reducible apply frame_foldl; intro _ _) | with_reducible apply frame_kmFree | with_reducible apply frame_kmAbandon | (split) | (dsimp +zetaDelta only))

theorem frame_mpRelease {M : Nat} {s0 s : State} (hM : Nat.lor 1025 M = M) (h0 : Frame M s0 s) : Frame M s0 (State.mpRelease s) := by
  refine frame_trans (k := 1025) ?_ hM h0
  unfold State.mpRelease
  repeat' (first | with_reducible exact frame_refl _ _ | with_reducible exact Or.inr rfl | exact Or.inl rfl | exact (rfl : Nat.lor _ _ = _) | with_reducible assumption | extract_lets | with_reducible apply frame_ite | with_reducible apply frame_next | (with_reducible apply frame_upd; with_reducible exact Or.inr rfl; fail_if_success (iterate 23 (with_reducible exact Or.inr rfl))) | (with_reducible apply frame_foldl; intro _ _) | with_reducible apply frame_setFld | (split) | (dsimp +zetaDelta only))

theorem frame_mpReset {M : Nat} {s0 s : State} (hM : Nat.lor 2080767 M = M) (h0 : Frame M s0 s) : Frame M s0 (State.mpReset s) := by
  refine frame_trans (k := 2080767) ?_ hM h0
  unfold State.mpReset
  repeat' (first | with_reducible exact frame_refl _ _ | with_reducible exact Or.inr rfl | exact Or.inl rfl | exact (rfl : Nat.lor _ _ = _) | with_reducible assumption | extract_lets | with_reducible apply frame_ite | with_reducible apply frame_next | (with_reducible apply frame_upd; with_reducible exact Or.inr rfl; fail_if_success (iterate 23 (with_reducible exact Or.inr rfl))) | (with_reducible apply frame_foldl; intro _ _) | with_reducible apply frame_loadFault | with_reducible apply frame_kmIslandReset | with_reducible apply frame_mpRelease | (split) | (dsimp +zetaDelta only))

theorem frame_clearSlots {M : Nat} {s0 s : State} (lo) (n) (hM : Nat.lor 262144 M = M) (h0 : Frame M s0 s) : Frame M s0 (State.clearSlots s lo n) := by
  refine frame_trans (k := 262144) ?_ hM h0
  unfold State.clearSlots
  repeat' (first | with_reducible exact frame_refl _ _ | with_reducible exact Or.inr rfl | exact Or.inl rfl | exact (rfl : Nat.lor _ _ = _) | with_reducible assumption | extract_lets | with_reducible apply frame_ite | with_reducible apply frame_next | (with_reducible apply frame_upd; with_reducible exact Or.inr rfl; fail_if_success (iterate 23 (with_reducible exact Or.inr rfl))) | (with_reducible apply frame_foldl; intro _ _) | with_reducible apply frame_keepSlots | (split) | (dsimp +zetaDelta only))

theorem frame_noteAcquire {M : Nat} {s0 s : State} (id) (hM : Nat.lor 262144 M = M) (h0 : Frame M s0 s) : Frame M s0 (State.noteAcquire s id) := by
  refine frame_trans (k := 262144) ?_ hM h0
  unfold State.noteAcquire
  repeat' (first | with_reducible exact frame_refl _ _ | with_reducible exact Or.inr rfl | exact Or.inl rfl | exact (rfl : Nat.lor _ _ = _) | with_reducible assumption | extract_lets | with_reducible apply frame_ite | with_reducible apply frame_next | (with_reducible apply frame_upd; with_reducible exact Or.inr rfl; fail_if_success (iterate 23 (with_reducible exact Or.inr rfl))) | (with_reducible apply frame_foldl; intro _ _) | (split) | (dsimp +zetaDelta only))

theorem frame_execAcquire {s : State} (who) : FrameO 262145 s (execAcquire who s) := by
  unfold execAcquire
  repeat' (first | with_reducible exact frame_refl _ _ | with_reducible exact Or.inr rfl | exact Or.inl rfl | exact (rfl : Nat.lor _ _ = _) | with_reducible assumption | extract_lets | with_reducible apply frame_ite | with_reducible apply frame_next | (with_reducible apply frame_upd; with_reducible exact Or.inr rfl; fail_if_success (iterate 23 (with_reducible exact Or.inr rfl))) | (with_reducible apply frame_foldl; intro _ _) | with_reducible apply frame_setFld | with_reducible apply frame_noteAcquire | (split) | (dsimp +zetaDelta only))

theorem frame_execRelease {s : State} (who) : FrameO 262145 s (execRelease who s) := by
  unfold execRelease
  repeat' (first | with_reducible exact frame_refl _ _ | with_reducible exact Or.inr rfl | exact Or.inl rfl | exact (rfl : Nat.lor _ _ = _) | with_reducible assumption | extract_lets | with_reducible apply frame_ite | with_reducible apply frame_next | (with_reducible apply frame_upd; with_reducible exact Or.inr rfl; fail_if_success (iterate 23 (with_reducible exact Or.inr rfl))) | (with_reducible apply frame_foldl; intro _ _) | with_reducible apply frame_kmFree | (split) | (dsimp +zetaDelta only))

theorem frame_kmStart {M : Nat} {s0 s : State} (who) (o) (hM : Nat.lor 263681 M = M) (h0 : Frame M s0 s) : Frame M s0 (State.kmStart s who o) := by
  refine frame_trans (k := 263681) ?_ hM h0
  unfold State.kmStart
  repeat' (first | with_reducible exact frame_refl _ _ | with_reducible exact Or.inr rfl | exact Or.inl rfl | exact (rfl : Nat.lor _ _ = _) | with_reducible assumption | extract_lets | with_reducible apply frame_ite | with_reducible apply frame_next | (with_reducible apply frame_upd; with_reducible exact Or.inr rfl; fail_if_success (iterate 23 (with_reducible exact Or.inr rfl))) | (with_reducible apply frame_foldl; intro _ _) | with_reducible apply frame_raise | (split) | (dsimp +zetaDelta only))

theorem frame_execUnwrap {s : State} (who) (slot) (x2) (w) : FrameO 263681 s (execUnwrap who slot x2 w s) := by
  unfold execUnwrap
  repeat' (first | with_reducible exact frame_refl _ _ | with_reducible exact Or.inr rfl | exact Or.inl rfl | exact (rfl : Nat.lor _ _ = _) | with_reducible assumption | extract_lets | with_reducible apply frame_ite | with_reducible apply frame_next | (with_reducible apply frame_upd; with_reducible exact Or.inr rfl; fail_if_success (iterate 23 (with_reducible exact Or.inr rfl))) | (with_reducible apply frame_foldl; intro _ _) | with_reducible apply frame_kmStart | (split) | (dsimp +zetaDelta only))

theorem frame_execWrapOut {s : State} (who) (slot) : FrameO 263681 s (execWrapOut who slot s) := by
  unfold execWrapOut
  repeat' (first | with_reducible exact frame_refl _ _ | with_reducible exact Or.inr rfl | exact Or.inl rfl | exact (rfl : Nat.lor _ _ = _) | with_reducible assumption | extract_lets | with_reducible apply frame_ite | with_reducible apply frame_next | (with_reducible apply frame_upd; with_reducible exact Or.inr rfl; fail_if_success (iterate 23 (with_reducible exact Or.inr rfl))) | (with_reducible apply frame_foldl; intro _ _) | with_reducible apply frame_kmStart | (split) | (dsimp +zetaDelta only))

theorem frame_execWrapData {s : State} (who) (slot) (bytes) : FrameO 263681 s (execWrapData who slot bytes s) := by
  unfold execWrapData
  repeat' (first | with_reducible exact frame_refl _ _ | with_reducible exact Or.inr rfl | exact Or.inl rfl | exact (rfl : Nat.lor _ _ = _) | with_reducible assumption | extract_lets | with_reducible apply frame_ite | with_reducible apply frame_next | (with_reducible apply frame_upd; with_reducible exact Or.inr rfl; fail_if_success (iterate 23 (with_reducible exact Or.inr rfl))) | (with_reducible apply frame_foldl; intro _ _) | with_reducible apply frame_kmStart | (split) | (dsimp +zetaDelta only))

theorem frame_execClear {s : State} (who) (slot) : FrameO 263681 s (execClear who slot s) := by
  unfold execClear
  repeat' (first | with_reducible exact frame_refl _ _ | with_reducible exact Or.inr rfl | exact Or.inl rfl | exact (rfl : Nat.lor _ _ = _) | with_reducible assumption | extract_lets | with_reducible apply frame_ite | with_reducible apply frame_next | (with_reducible apply frame_upd; with_reducible exact Or.inr rfl; fail_if_success (iterate 23 (with_reducible exact Or.inr rfl))) | (with_reducible apply frame_foldl; intro _ _) | with_reducible apply frame_kmStart | (split) | (dsimp +zetaDelta only))

theorem frame_putKmData {M : Nat} {s0 s : State} (i) (a) (hM : Nat.lor 1 M = M) (h0 : Frame M s0 s) : Frame M s0 (State.putKmData s i a) := by
  refine frame_trans (k := 1) ?_ hM h0
  clear hM h0
  induction a generalizing s i with
  | nil =>
    unfold State.putKmData
    exact frame_refl _ _
  | cons _ _ ih =>
    unfold State.putKmData
    repeat' (first | with_reducible exact frame_refl _ _ | with_reducible exact Or.inr rfl | exact Or.inl rfl | exact (rfl : Nat.lor _ _ = _) | with_reducible assumption | extract_lets | with_reducible apply frame_ite | with_reducible apply frame_next | (with_reducible apply frame_upd; with_reducible exact Or.inr rfl; fail_if_success (iterate 23 (with_reducible exact Or.inr rfl))) | (with_reducible apply frame_foldl; intro _ _) | (with_reducible refine frame_trans (ih _) ?_ ?_) | with_reducible apply frame_setReg | (split) | (dsimp +zetaDelta only))

theorem frame_addBlocks {M : Nat} {s0 s : State} (g) (n) (hM : Nat.lor 262144 M = M) (h0 : Frame M s0 s) : Frame M s0 (State.addBlocks s g n) := by
  refine frame_trans (k := 262144) ?_ hM h0
  unfold State.addBlocks
  repeat' (first | with_reducible exact frame_refl _ _ | with_reducible exact Or.inr rfl | exact Or.inl rfl | exact (rfl : Nat.lor _ _ = _) | with_reducible assumption | extract_lets | with_reducible apply frame_ite | with_reducible apply frame_next | (with_reducible apply frame_upd; with_reducible exact Or.inr rfl; fail_if_success (iterate 23 (with_reducible exact Or.inr rfl))) | (with_reducible apply frame_foldl; intro _ _) | (split) | (dsimp +zetaDelta only))

theorem frame_execKmOpComplete {s : State} : FrameO 263681 s (execKmOpComplete s) := by
  unfold execKmOpComplete
  repeat' (first | with_reducible exact frame_refl _ _ | with_reducible exact Or.inr rfl | exact Or.inl rfl | exact (rfl : Nat.lor _ _ = _) | with_reducible assumption | extract_lets | with_reducible apply frame_ite | with_reducible apply frame_next | (with_reducible apply frame_upd; with_reducible exact Or.inr rfl; fail_if_success (iterate 23 (with_reducible exact Or.inr rfl))) | (with_reducible apply frame_foldl; intro _ _) | with_reducible apply frame_setFld | with_reducible apply frame_setSlot | with_reducible apply frame_raise | with_reducible apply frame_kmFree | with_reducible apply frame_putKmData | with_reducible apply frame_addBlocks | (split) | (dsimp +zetaDelta only))

theorem frame_execCrySlotSelWrite {s : State} (who) (v) : FrameO 1 s (execCrySlotSelWrite who v s) := by
  unfold execCrySlotSelWrite
  repeat' (first | with_reducible exact frame_refl _ _ | with_reducible exact Or.inr rfl | exact Or.inl rfl | exact (rfl : Nat.lor _ _ = _) | with_reducible assumption | extract_lets | with_reducible apply frame_ite | with_reducible apply frame_next | (with_reducible apply frame_upd; with_reducible exact Or.inr rfl; fail_if_success (iterate 23 (with_reducible exact Or.inr rfl))) | (with_reducible apply frame_foldl; intro _ _) | with_reducible apply frame_setReg | (split) | (dsimp +zetaDelta only))

theorem frame_execEntropyFail {s : State} : FrameO 263681 s (execEntropyFail s) := by
  unfold execEntropyFail
  repeat' (first | with_reducible exact frame_refl _ _ | with_reducible exact Or.inr rfl | exact Or.inl rfl | exact (rfl : Nat.lor _ _ = _) | with_reducible assumption | extract_lets | with_reducible apply frame_ite | with_reducible apply frame_next | (with_reducible apply frame_upd; with_reducible exact Or.inr rfl; fail_if_success (iterate 23 (with_reducible exact Or.inr rfl))) | (with_reducible apply frame_foldl; intro _ _) | with_reducible apply frame_raise | (split) | (dsimp +zetaDelta only))

theorem frame_execEntropyStale {s : State} (g) : FrameO 1537 s (execEntropyStale g s) := by
  unfold execEntropyStale
  repeat' (first | with_reducible exact frame_refl _ _ | with_reducible exact Or.inr rfl | exact Or.inl rfl | exact (rfl : Nat.lor _ _ = _) | with_reducible assumption | extract_lets | with_reducible apply frame_ite | with_reducible apply frame_next | (with_reducible apply frame_upd; with_reducible exact Or.inr rfl; fail_if_success (iterate 23 (with_reducible exact Or.inr rfl))) | (with_reducible apply frame_foldl; intro _ _) | with_reducible apply frame_raise | (split) | (dsimp +zetaDelta only))

theorem frame_execMaskReseed {s : State} (g) : FrameO 262144 s (execMaskReseed g s) := by
  unfold execMaskReseed
  repeat' (first | with_reducible exact frame_refl _ _ | with_reducible exact Or.inr rfl | exact Or.inl rfl | exact (rfl : Nat.lor _ _ = _) | with_reducible assumption | extract_lets | with_reducible apply frame_ite | with_reducible apply frame_next | (with_reducible apply frame_upd; with_reducible exact Or.inr rfl; fail_if_success (iterate 23 (with_reducible exact Or.inr rfl))) | (with_reducible apply frame_foldl; intro _ _) | (split) | (dsimp +zetaDelta only))

theorem frame_syncExport {M : Nat} {s0 s : State} (hM : Nat.lor 1 M = M) (h0 : Frame M s0 s) : Frame M s0 (State.syncExport s) := by
  refine frame_trans (k := 1) ?_ hM h0
  unfold State.syncExport
  repeat' (first | with_reducible exact frame_refl _ _ | with_reducible exact Or.inr rfl | exact Or.inl rfl | exact (rfl : Nat.lor _ _ = _) | with_reducible assumption | extract_lets | with_reducible apply frame_ite | with_reducible apply frame_next | (with_reducible apply frame_upd; with_reducible exact Or.inr rfl; fail_if_success (iterate 23 (with_reducible exact Or.inr rfl))) | (with_reducible apply frame_foldl; intro _ _) | with_reducible apply frame_setFld | (split) | (dsimp +zetaDelta only))

theorem frame_refuseActivation {M : Nat} {s0 s : State} (a) (hM : Nat.lor 1537 M = M) (h0 : Frame M s0 s) : Frame M s0 (State.refuseActivation s a) := by
  refine frame_trans (k := 1537) ?_ hM h0
  unfold State.refuseActivation
  repeat' (first | with_reducible exact frame_refl _ _ | with_reducible exact Or.inr rfl | exact Or.inl rfl | exact (rfl : Nat.lor _ _ = _) | with_reducible assumption | extract_lets | with_reducible apply frame_ite | with_reducible apply frame_next | (with_reducible apply frame_upd; with_reducible exact Or.inr rfl; fail_if_success (iterate 23 (with_reducible exact Or.inr rfl))) | (with_reducible apply frame_foldl; intro _ _) | with_reducible apply frame_raise | (split) | (dsimp +zetaDelta only))

theorem frame_freeBlock {M : Nat} {s0 s : State} (d) (b) (hM : Nat.lor 4096 M = M) (h0 : Frame M s0 s) : Frame M s0 (State.freeBlock s d b) := by
  refine frame_trans (k := 4096) ?_ hM h0
  unfold State.freeBlock
  repeat' (first | with_reducible exact frame_refl _ _ | with_reducible exact Or.inr rfl | exact Or.inl rfl | exact (rfl : Nat.lor _ _ = _) | with_reducible assumption | extract_lets | with_reducible apply frame_ite | with_reducible apply frame_next | (with_reducible apply frame_upd; with_reducible exact Or.inr rfl; fail_if_success (iterate 23 (with_reducible exact Or.inr rfl))) | (with_reducible apply frame_foldl; intro _ _) | with_reducible apply frame_setDieMed | with_reducible apply frame_setBlock | (split) | (dsimp +zetaDelta only))

theorem frame_leaveBlock {M : Nat} {s0 s : State} (d) (b) (hM : Nat.lor 4096 M = M) (h0 : Frame M s0 s) : Frame M s0 (State.leaveBlock s d b) := by
  refine frame_trans (k := 4096) ?_ hM h0
  unfold State.leaveBlock
  repeat' (first | with_reducible exact frame_refl _ _ | with_reducible exact Or.inr rfl | exact Or.inl rfl | exact (rfl : Nat.lor _ _ = _) | with_reducible assumption | extract_lets | with_reducible apply frame_ite | with_reducible apply frame_next | (with_reducible apply frame_upd; with_reducible exact Or.inr rfl; fail_if_success (iterate 23 (with_reducible exact Or.inr rfl))) | (with_reducible apply frame_foldl; intro _ _) | with_reducible apply frame_setBlock | with_reducible apply frame_freeBlock | (split) | (dsimp +zetaDelta only))

theorem frame_freeMoves {M : Nat} {s0 s : State} (z) (hM : Nat.lor 4096 M = M) (h0 : Frame M s0 s) : Frame M s0 (State.freeMoves s z) := by
  refine frame_trans (k := 4096) ?_ hM h0
  unfold State.freeMoves
  repeat' (first | with_reducible exact frame_refl _ _ | with_reducible exact Or.inr rfl | exact Or.inl rfl | exact (rfl : Nat.lor _ _ = _) | with_reducible assumption | extract_lets | with_reducible apply frame_ite | with_reducible apply frame_next | (with_reducible apply frame_upd; with_reducible exact Or.inr rfl; fail_if_success (iterate 23 (with_reducible exact Or.inr rfl))) | (with_reducible apply frame_foldl; intro _ _) | with_reducible apply frame_leaveBlock | (split) | (dsimp +zetaDelta only))

theorem frame_freeZone {M : Nat} {s0 s : State} (z) (hM : Nat.lor 4096 M = M) (h0 : Frame M s0 s) : Frame M s0 (State.freeZone s z) := by
  refine frame_trans (k := 4096) ?_ hM h0
  unfold State.freeZone
  repeat' (first | with_reducible exact frame_refl _ _ | with_reducible exact Or.inr rfl | exact Or.inl rfl | exact (rfl : Nat.lor _ _ = _) | with_reducible assumption | extract_lets | with_reducible apply frame_ite | with_reducible apply frame_next | (with_reducible apply frame_upd; with_reducible exact Or.inr rfl; fail_if_success (iterate 23 (with_reducible exact Or.inr rfl))) | (with_reducible apply frame_foldl; intro _ _) | with_reducible apply frame_leaveBlock | with_reducible apply frame_freeMoves | (split) | (dsimp +zetaDelta only))

theorem frame_freezeReads {M : Nat} {s0 s : State} (z) (hM : Nat.lor 32768 M = M) (h0 : Frame M s0 s) : Frame M s0 (State.freezeReads s z) := by
  refine frame_trans (k := 32768) ?_ hM h0
  unfold State.freezeReads
  repeat' (first | with_reducible exact frame_refl _ _ | with_reducible exact Or.inr rfl | exact Or.inl rfl | exact (rfl : Nat.lor _ _ = _) | with_reducible assumption | extract_lets | with_reducible apply frame_ite | with_reducible apply frame_next | (with_reducible apply frame_upd; with_reducible exact Or.inr rfl; fail_if_success (iterate 23 (with_reducible exact Or.inr rfl))) | (with_reducible apply frame_foldl; intro _ _) | (split) | (dsimp +zetaDelta only))

theorem frame_killPrograms {M : Nat} {s0 s : State} (z) (hM : Nat.lor 2048 M = M) (h0 : Frame M s0 s) : Frame M s0 (State.killPrograms s z) := by
  refine frame_trans (k := 2048) ?_ hM h0
  unfold State.killPrograms
  repeat' (first | with_reducible exact frame_refl _ _ | with_reducible exact Or.inr rfl | exact Or.inl rfl | exact (rfl : Nat.lor _ _ = _) | with_reducible assumption | extract_lets | with_reducible apply frame_ite | with_reducible apply frame_next | (with_reducible apply frame_upd; with_reducible exact Or.inr rfl; fail_if_success (iterate 23 (with_reducible exact Or.inr rfl))) | (with_reducible apply frame_foldl; intro _ _) | with_reducible apply frame_setDie | (split) | (dsimp +zetaDelta only))

theorem frame_fillBlock {M : Nat} {s0 s : State} (z) (x2) (hM : Nat.lor 4096 M = M) (h0 : Frame M s0 s) : Frame M s0 (State.fillBlock s z x2) := by
  refine frame_trans (k := 4096) ?_ hM h0
  unfold State.fillBlock
  repeat' (first | with_reducible exact frame_refl _ _ | with_reducible exact Or.inr rfl | exact Or.inl rfl | exact (rfl : Nat.lor _ _ = _) | with_reducible assumption | extract_lets | with_reducible apply frame_ite | with_reducible apply frame_next | (with_reducible apply frame_upd; with_reducible exact Or.inr rfl; fail_if_success (iterate 23 (with_reducible exact Or.inr rfl))) | (with_reducible apply frame_foldl; intro _ _) | with_reducible apply frame_setBlock | (split) | (dsimp +zetaDelta only))

theorem frame_returnBlock {M : Nat} {s0 s : State} (z) (i) (hM : Nat.lor 4096 M = M) (h0 : Frame M s0 s) : Frame M s0 (State.returnBlock s z i) := by
  refine frame_trans (k := 4096) ?_ hM h0
  unfold State.returnBlock
  repeat' (first | with_reducible exact frame_refl _ _ | with_reducible exact Or.inr rfl | exact Or.inl rfl | exact (rfl : Nat.lor _ _ = _) | with_reducible assumption | extract_lets | with_reducible apply frame_ite | with_reducible apply frame_next | (with_reducible apply frame_upd; with_reducible exact Or.inr rfl; fail_if_success (iterate 23 (with_reducible exact Or.inr rfl))) | (with_reducible apply frame_foldl; intro _ _) | with_reducible apply frame_setZone | with_reducible apply frame_leaveBlock | (split) | (dsimp +zetaDelta only))

theorem frame_fillBlocks {M : Nat} {s0 s : State} (z) (hM : Nat.lor 4096 M = M) (h0 : Frame M s0 s) : Frame M s0 (State.fillBlocks s z) := by
  refine frame_trans (k := 4096) ?_ hM h0
  unfold State.fillBlocks
  repeat' (first | with_reducible exact frame_refl _ _ | with_reducible exact Or.inr rfl | exact Or.inl rfl | exact (rfl : Nat.lor _ _ = _) | with_reducible assumption | extract_lets | with_reducible apply frame_ite | with_reducible apply frame_next | (with_reducible apply frame_upd; with_reducible exact Or.inr rfl; fail_if_success (iterate 23 (with_reducible exact Or.inr rfl))) | (with_reducible apply frame_foldl; intro _ _) | with_reducible apply frame_fillBlock | with_reducible apply frame_returnBlock | (split) | (dsimp +zetaDelta only))

theorem frame_dropSectors {M : Nat} {s0 s : State} (z) (p) (hM : Nat.lor 4096 M = M) (h0 : Frame M s0 s) : Frame M s0 (State.dropSectors s z p) := by
  refine frame_trans (k := 4096) ?_ hM h0
  unfold State.dropSectors
  repeat' (first | with_reducible exact frame_refl _ _ | with_reducible exact Or.inr rfl | exact Or.inl rfl | exact (rfl : Nat.lor _ _ = _) | with_reducible assumption | extract_lets | with_reducible apply frame_ite | with_reducible apply frame_next | (with_reducible apply frame_upd; with_reducible exact Or.inr rfl; fail_if_success (iterate 23 (with_reducible exact Or.inr rfl))) | (with_reducible apply frame_foldl; intro _ _) | (split) | (dsimp +zetaDelta only))

theorem frame_setRec {M : Nat} {s0 s : State} (q) (r) (hM : Nat.lor 8192 M = M) (h0 : Frame M s0 s) : Frame M s0 (State.setRec s q r) := by
  refine frame_trans (k := 8192) ?_ hM h0
  unfold State.setRec
  repeat' (first | with_reducible exact frame_refl _ _ | with_reducible exact Or.inr rfl | exact Or.inl rfl | exact (rfl : Nat.lor _ _ = _) | with_reducible assumption | extract_lets | with_reducible apply frame_ite | with_reducible apply frame_next | (with_reducible apply frame_upd; with_reducible exact Or.inr rfl; fail_if_success (iterate 23 (with_reducible exact Or.inr rfl))) | (with_reducible apply frame_foldl; intro _ _) | (split) | (dsimp +zetaDelta only))

theorem frame_retire {M : Nat} {s0 s : State} (q) (hM : Nat.lor 8192 M = M) (h0 : Frame M s0 s) : Frame M s0 (State.retire s q) := by
  refine frame_trans (k := 8192) ?_ hM h0
  unfold State.retire
  repeat' (first | with_reducible exact frame_refl _ _ | with_reducible exact Or.inr rfl | exact Or.inl rfl | exact (rfl : Nat.lor _ _ = _) | with_reducible assumption | extract_lets | with_reducible apply frame_ite | with_reducible apply frame_next | (with_reducible apply frame_upd; with_reducible exact Or.inr rfl; fail_if_success (iterate 23 (with_reducible exact Or.inr rfl))) | (with_reducible apply frame_foldl; intro _ _) | (split) | (dsimp +zetaDelta only))

theorem frame_modRec {M : Nat} {s0 s : State} (q) (f) (hM : Nat.lor 8192 M = M) (h0 : Frame M s0 s) : Frame M s0 (State.modRec s q f) := by
  refine frame_trans (k := 8192) ?_ hM h0
  unfold State.modRec
  repeat' (first | with_reducible exact frame_refl _ _ | with_reducible exact Or.inr rfl | exact Or.inl rfl | exact (rfl : Nat.lor _ _ = _) | with_reducible assumption | extract_lets | with_reducible apply frame_ite | with_reducible apply frame_next | (with_reducible apply frame_upd; with_reducible exact Or.inr rfl; fail_if_success (iterate 23 (with_reducible exact Or.inr rfl))) | (with_reducible apply frame_foldl; intro _ _) | with_reducible apply frame_setRec | (split) | (dsimp +zetaDelta only))

theorem frame_setShares {M : Nat} {s0 s : State} (hM : Nat.lor 8192 M = M) (h0 : Frame M s0 s) : Frame M s0 (State.setShares s) := by
  refine frame_trans (k := 8192) ?_ hM h0
  unfold State.setShares
  repeat' (first | with_reducible exact frame_refl _ _ | with_reducible exact Or.inr rfl | exact Or.inl rfl | exact (rfl : Nat.lor _ _ = _) | with_reducible assumption | extract_lets | with_reducible apply frame_ite | with_reducible apply frame_next | (with_reducible apply frame_upd; with_reducible exact Or.inr rfl; fail_if_success (iterate 23 (with_reducible exact Or.inr rfl))) | (with_reducible apply frame_foldl; intro _ _) | (split) | (dsimp +zetaDelta only))

theorem frame_charge {M : Nat} {s0 s : State} (m) (k) (hM : Nat.lor 2048 M = M) (h0 : Frame M s0 s) : Frame M s0 (State.charge s m k) := by
  refine frame_trans (k := 2048) ?_ hM h0
  unfold State.charge
  repeat' (first | with_reducible exact frame_refl _ _ | with_reducible exact Or.inr rfl | exact Or.inl rfl | exact (rfl : Nat.lor _ _ = _) | with_reducible assumption | extract_lets | with_reducible apply frame_ite | with_reducible apply frame_next | (with_reducible apply frame_upd; with_reducible exact Or.inr rfl; fail_if_success (iterate 23 (with_reducible exact Or.inr rfl))) | (with_reducible apply frame_foldl; intro _ _) | with_reducible apply frame_setCredit | (split) | (dsimp +zetaDelta only))

theorem frame_undelivered {M : Nat} {s0 s : State} (member) (queue) (cid) (status) (seq) (hM : Nat.lor 1537 M = M) (h0 : Frame M s0 s) : Frame M s0 (State.undelivered s member queue cid status seq) := by
  refine frame_trans (k := 1537) ?_ hM h0
  unfold State.undelivered
  repeat' (first | with_reducible exact frame_refl _ _ | with_reducible exact Or.inr rfl | exact Or.inl rfl | exact (rfl : Nat.lor _ _ = _) | with_reducible assumption | extract_lets | with_reducible apply frame_ite | with_reducible apply frame_next | (with_reducible apply frame_upd; with_reducible exact Or.inr rfl; fail_if_success (iterate 23 (with_reducible exact Or.inr rfl))) | (with_reducible apply frame_foldl; intro _ _) | with_reducible apply frame_countFld | with_reducible apply frame_event | with_reducible apply frame_raise | (split) | (dsimp +zetaDelta only))

theorem frame_stampAt {M : Nat} {s0 s : State} (h) (n) (x3) (hM : Nat.lor 1 M = M) (h0 : Frame M s0 s) : Frame M s0 (State.stampAt s h n x3) := by
  refine frame_trans (k := 1) ?_ hM h0
  unfold State.stampAt
  repeat' (first | with_reducible exact frame_refl _ _ | with_reducible exact Or.inr rfl | exact Or.inl rfl | exact (rfl : Nat.lor _ _ = _) | with_reducible assumption | extract_lets | with_reducible apply frame_ite | with_reducible apply frame_next | (with_reducible apply frame_upd; with_reducible exact Or.inr rfl; fail_if_success (iterate 23 (with_reducible exact Or.inr rfl))) | (with_reducible apply frame_foldl; intro _ _) | with_reducible apply frame_setReg | (split) | (dsimp +zetaDelta only))

theorem frame_stamp {M : Nat} {s0 s : State} (h) (n) (hM : Nat.lor 1 M = M) (h0 : Frame M s0 s) : Frame M s0 (State.stamp s h n) := by
  refine frame_trans (k := 1) ?_ hM h0
  unfold State.stamp
  repeat' (first | with_reducible exact frame_refl _ _ | with_reducible exact Or.inr rfl | exact Or.inl rfl | exact (rfl : Nat.lor _ _ = _) | with_reducible assumption | extract_lets | with_reducible apply frame_ite | with_reducible apply frame_next | (with_reducible apply frame_upd; with_reducible exact Or.inr rfl; fail_if_success (iterate 23 (with_reducible exact Or.inr rfl))) | (with_reducible apply frame_foldl; intro _ _) | with_reducible apply frame_stampAt | (split) | (dsimp +zetaDelta only))

theorem frame_traceStart {M : Nat} {s0 s : State} (h) (c) (zoned) (hM : Nat.lor 2049 M = M) (h0 : Frame M s0 s) : Frame M s0 (State.traceStart s h c zoned) := by
  refine frame_trans (k := 2049) ?_ hM h0
  unfold State.traceStart
  repeat' (first | with_reducible exact frame_refl _ _ | with_reducible exact Or.inr rfl | exact Or.inl rfl | exact (rfl : Nat.lor _ _ = _) | with_reducible assumption | extract_lets | with_reducible apply frame_ite | with_reducible apply frame_next | (with_reducible apply frame_upd; with_reducible exact Or.inr rfl; fail_if_success (iterate 23 (with_reducible exact Or.inr rfl))) | (with_reducible apply frame_foldl; intro _ _) | with_reducible apply frame_setReg | (split) | (dsimp +zetaDelta only))

theorem frame_traceEnd {M : Nat} {s0 s : State} (h) (c) (hM : Nat.lor 2049 M = M) (h0 : Frame M s0 s) : Frame M s0 (State.traceEnd s h c) := by
  refine frame_trans (k := 2049) ?_ hM h0
  unfold State.traceEnd
  repeat' (first | with_reducible exact frame_refl _ _ | with_reducible exact Or.inr rfl | exact Or.inl rfl | exact (rfl : Nat.lor _ _ = _) | with_reducible assumption | extract_lets | with_reducible apply frame_ite | with_reducible apply frame_next | (with_reducible apply frame_upd; with_reducible exact Or.inr rfl; fail_if_success (iterate 23 (with_reducible exact Or.inr rfl))) | (with_reducible apply frame_foldl; intro _ _) | with_reducible apply frame_setReg | with_reducible apply frame_setFld | (split) | (dsimp +zetaDelta only))

theorem frame_recordWait {M : Nat} {s0 s : State} (account) (wait) (hM : Nat.lor 1 M = M) (h0 : Frame M s0 s) : Frame M s0 (State.recordWait s account wait) := by
  refine frame_trans (k := 1) ?_ hM h0
  unfold State.recordWait
  repeat' (first | with_reducible exact frame_refl _ _ | with_reducible exact Or.inr rfl | exact Or.inl rfl | exact (rfl : Nat.lor _ _ = _) | with_reducible assumption | extract_lets | with_reducible apply frame_ite | with_reducible apply frame_next | (with_reducible apply frame_upd; with_reducible exact Or.inr rfl; fail_if_success (iterate 23 (with_reducible exact Or.inr rfl))) | (with_reducible apply frame_foldl; intro _ _) | with_reducible apply frame_setReg | with_reducible apply frame_countFld | (split) | (dsimp +zetaDelta only))

theorem frame_discardStaged {M : Nat} {s0 s : State} (z) (hM : Nat.lor 8192 M = M) (h0 : Frame M s0 s) : Frame M s0 (State.discardStaged s z) := by
  refine frame_trans (k := 8192) ?_ hM h0
  unfold State.discardStaged
  repeat' (first | with_reducible exact frame_refl _ _ | with_reducible exact Or.inr rfl | exact Or.inl rfl | exact (rfl : Nat.lor _ _ = _) | with_reducible assumption | extract_lets | with_reducible apply frame_ite | with_reducible apply frame_next | (with_reducible apply frame_upd; with_reducible exact Or.inr rfl; fail_if_success (iterate 23 (with_reducible exact Or.inr rfl))) | (with_reducible apply frame_foldl; intro _ _) | (split) | (dsimp +zetaDelta only))

theorem frame_resetZone {M : Nat} {s0 s : State} (z) (hM : Nat.lor 47104 M = M) (h0 : Frame M s0 s) : Frame M s0 (State.resetZone s z) := by
  refine frame_trans (k := 47104) ?_ hM h0
  unfold State.resetZone
  repeat' (first | with_reducible exact frame_refl _ _ | with_reducible exact Or.inr rfl | exact Or.inl rfl | exact (rfl : Nat.lor _ _ = _) | with_reducible assumption | extract_lets | with_reducible apply frame_ite | with_reducible apply frame_next | (with_reducible apply frame_upd; with_reducible exact Or.inr rfl; fail_if_success (iterate 23 (with_reducible exact Or.inr rfl))) | (with_reducible apply frame_foldl; intro _ _) | with_reducible apply frame_setZone | with_reducible apply frame_freeZone | with_reducible apply frame_freezeReads | with_reducible apply frame_killPrograms | with_reducible apply frame_dropSectors | with_reducible apply frame_discardStaged | (split) | (dsimp +zetaDelta only))

theorem frame_finishZone {M : Nat} {s0 s : State} (z) (hM : Nat.lor 5633 M = M) (h0 : Frame M s0 s) : Frame M s0 (State.finishZone s z) := by
  refine frame_trans (k := 5633) ?_ hM h0
  unfold State.finishZone
  repeat' (first | with_reducible exact frame_refl _ _ | with_reducible exact Or.inr rfl | exact Or.inl rfl | exact (rfl : Nat.lor _ _ = _) | with_reducible assumption | extract_lets | with_reducible apply frame_ite | with_reducible apply frame_next | (with_reducible apply frame_upd; with_reducible exact Or.inr rfl; fail_if_success (iterate 23 (with_reducible exact Or.inr rfl))) | (with_reducible apply frame_foldl; intro _ _) | with_reducible apply frame_setZone | with_reducible apply frame_raise | with_reducible apply frame_fillBlocks | (split) | (dsimp +zetaDelta only))

theorem frame_takeLocks {M : Nat} {s0 s : State} (a) (hM : Nat.lor 32768 M = M) (h0 : Frame M s0 s) : Frame M s0 (State.takeLocks s a) := by
  refine frame_trans (k := 32768) ?_ hM h0
  clear hM h0
  induction a generalizing s with
  | nil =>
    unfold State.takeLocks
    exact frame_refl _ _
  | cons _ _ ih =>
    unfold State.takeLocks
    repeat' (first | with_reducible exact frame_refl _ _ | with_reducible exact Or.inr rfl | exact Or.inl rfl | exact (rfl : Nat.lor _ _ = _) | with_reducible assumption | extract_lets | with_reducible apply frame_ite | with_reducible apply frame_next | (with_reducible apply frame_upd; with_reducible exact Or.inr rfl; fail_if_success (iterate 23 (with_reducible exact Or.inr rfl))) | (with_reducible apply frame_foldl; intro _ _) | (with_reducible refine frame_trans (ih) ?_ ?_) | with_reducible apply frame_setCmd | (split) | (dsimp +zetaDelta only))

theorem frame_lockKick {M : Nat} {s0 s : State} (hM : Nat.lor 32768 M = M) (h0 : Frame M s0 s) : Frame M s0 (State.lockKick s) := by
  refine frame_trans (k := 32768) ?_ hM h0
  unfold State.lockKick
  repeat' (first | with_reducible exact frame_refl _ _ | with_reducible exact Or.inr rfl | exact Or.inl rfl | exact (rfl : Nat.lor _ _ = _) | with_reducible assumption | extract_lets | with_reducible apply frame_ite | with_reducible apply frame_next | (with_reducible apply frame_upd; with_reducible exact Or.inr rfl; fail_if_success (iterate 23 (with_reducible exact Or.inr rfl))) | (with_reducible apply frame_foldl; intro _ _) | with_reducible apply frame_takeLocks | (split) | (dsimp +zetaDelta only))

theorem frame_forceTail {M : Nat} {s0 s : State} (z) (hM : Nat.lor 5633 M = M) (h0 : Frame M s0 s) : Frame M s0 (State.forceTail s z) := by
  refine frame_trans (k := 5633) ?_ hM h0
  unfold State.forceTail
  repeat' (first | with_reducible exact frame_refl _ _ | with_reducible exact Or.inr rfl | exact Or.inl rfl | exact (rfl : Nat.lor _ _ = _) | with_reducible assumption | extract_lets | with_reducible apply frame_ite | with_reducible apply frame_next | (with_reducible apply frame_upd; with_reducible exact Or.inr rfl; fail_if_success (iterate 23 (with_reducible exact Or.inr rfl))) | (with_reducible apply frame_foldl; intro _ _) | with_reducible apply frame_raise | (split) | (dsimp +zetaDelta only))

theorem frame_forceKick {M : Nat} {s0 s : State} (hM : Nat.lor 5633 M = M) (h0 : Frame M s0 s) : Frame M s0 (State.forceKick s) := by
  refine frame_trans (k := 5633) ?_ hM h0
  unfold State.forceKick
  repeat' (first | with_reducible exact frame_refl _ _ | with_reducible exact Or.inr rfl | exact Or.inl rfl | exact (rfl : Nat.lor _ _ = _) | with_reducible assumption | extract_lets | with_reducible apply frame_ite | with_reducible apply frame_next | (with_reducible apply frame_upd; with_reducible exact Or.inr rfl; fail_if_success (iterate 23 (with_reducible exact Or.inr rfl))) | (with_reducible apply frame_foldl; intro _ _) | with_reducible apply frame_forceTail | (split) | (dsimp +zetaDelta only))

theorem frame_setSec {M : Nat} {s0 s : State} (h) (i) (x3) (hM : Nat.lor 32768 M = M) (h0 : Frame M s0 s) : Frame M s0 (State.setSec s h i x3) := by
  refine frame_trans (k := 32768) ?_ hM h0
  unfold State.setSec
  repeat' (first | with_reducible exact frame_refl _ _ | with_reducible exact Or.inr rfl | exact Or.inl rfl | exact (rfl : Nat.lor _ _ = _) | with_reducible assumption | extract_lets | with_reducible apply frame_ite | with_reducible apply frame_next | (with_reducible apply frame_upd; with_reducible exact Or.inr rfl; fail_if_success (iterate 23 (with_reducible exact Or.inr rfl))) | (with_reducible apply frame_foldl; intro _ _) | with_reducible apply frame_setCmd | (split) | (dsimp +zetaDelta only))

theorem frame_enterRing {M : Nat} {s0 s : State} (h) (i) (c) (x4) (hM : Nat.lor 1081344 M = M) (h0 : Frame M s0 s) : Frame M s0 (State.enterRing s h i c x4) := by
  refine frame_trans (k := 1081344) ?_ hM h0
  unfold State.enterRing
  repeat' (first | with_reducible exact frame_refl _ _ | with_reducible exact Or.inr rfl | exact Or.inl rfl | exact (rfl : Nat.lor _ _ = _) | with_reducible assumption | extract_lets | with_reducible apply frame_ite | with_reducible apply frame_next | (with_reducible apply frame_upd; with_reducible exact Or.inr rfl; fail_if_success (iterate 23 (with_reducible exact Or.inr rfl))) | (with_reducible apply frame_foldl; intro _ _) | with_reducible apply frame_setLane | with_reducible apply frame_setSec | (split) | (dsimp +zetaDelta only))

theorem frame_registerSec {M : Nat} {s0 s : State} (h) (i) (c) (x4) (hM : Nat.lor 32768 M = M) (h0 : Frame M s0 s) : Frame M s0 (State.registerSec s h i c x4) := by
  refine frame_trans (k := 32768) ?_ hM h0
  unfold State.registerSec
  repeat' (first | with_reducible exact frame_refl _ _ | with_reducible exact Or.inr rfl | exact Or.inl rfl | exact (rfl : Nat.lor _ _ = _) | with_reducible assumption | extract_lets | with_reducible apply frame_ite | with_reducible apply frame_next | (with_reducible apply frame_upd; with_reducible exact Or.inr rfl; fail_if_success (iterate 23 (with_reducible exact Or.inr rfl))) | (with_reducible apply frame_foldl; intro _ _) | with_reducible apply frame_setCmd | with_reducible apply frame_setSec | (split) | (dsimp +zetaDelta only))

theorem frame_registerCmd {M : Nat} {s0 s : State} (h) (a) (hM : Nat.lor 32768 M = M) (h0 : Frame M s0 s) : Frame M s0 (State.registerCmd s h a) := by
  refine frame_trans (k := 32768) ?_ hM h0
  clear hM h0
  induction a generalizing s h with
  | nil =>
    unfold State.registerCmd
    exact frame_refl _ _
  | cons _ _ ih =>
    unfold State.registerCmd
    repeat' (first | with_reducible exact frame_refl _ _ | with_reducible exact Or.inr rfl | exact Or.inl rfl | exact (rfl : Nat.lor _ _ = _) | with_reducible assumption | extract_lets | with_reducible apply frame_ite | with_reducible apply frame_next | (with_reducible apply frame_upd; with_reducible exact Or.inr rfl; fail_if_success (iterate 23 (with_reducible exact Or.inr rfl))) | (with_reducible apply frame_foldl; intro _ _) | (with_reducible refine frame_trans (ih _) ?_ ?_) | with_reducible apply frame_setSec | with_reducible apply frame_registerSec | (split) | (dsimp +zetaDelta only))

theorem frame_registerKick {M : Nat} {s0 s : State} (hM : Nat.lor 32768 M = M) (h0 : Frame M s0 s) : Frame M s0 (State.registerKick s) := by
  refine frame_trans (k := 32768) ?_ hM h0
  unfold State.registerKick
  repeat' (first | with_reducible exact frame_refl _ _ | with_reducible exact Or.inr rfl | exact Or.inl rfl | exact (rfl : Nat.lor _ _ = _) | with_reducible assumption | extract_lets | with_reducible apply frame_ite | with_reducible apply frame_next | (with_reducible apply frame_upd; with_reducible exact Or.inr rfl; fail_if_success (iterate 23 (with_reducible exact Or.inr rfl))) | (with_reducible apply frame_foldl; intro _ _) | with_reducible apply frame_registerCmd | (split) | (dsimp +zetaDelta only))

theorem frame_resetFunction {M : Nat} {s0 s : State} (f) (hM : Nat.lor 557056 M = M) (h0 : Frame M s0 s) : Frame M s0 (State.resetFunction s f) := by
  refine frame_trans (k := 557056) ?_ hM h0
  unfold State.resetFunction
  repeat' (first | with_reducible exact frame_refl _ _ | with_reducible exact Or.inr rfl | exact Or.inl rfl | exact (rfl : Nat.lor _ _ = _) | with_reducible assumption | extract_lets | with_reducible apply frame_ite | with_reducible apply frame_next | (with_reducible apply frame_upd; with_reducible exact Or.inr rfl; fail_if_success (iterate 23 (with_reducible exact Or.inr rfl))) | (with_reducible apply frame_foldl; intro _ _) | with_reducible apply frame_setCtrl | (split) | (dsimp +zetaDelta only))

theorem frame_flrReset {M : Nat} {s0 s : State} (a) (hM : Nat.lor 819200 M = M) (h0 : Frame M s0 s) : Frame M s0 (State.flrReset s a) := by
  refine frame_trans (k := 819200) ?_ hM h0
  unfold State.flrReset
  repeat' (first | with_reducible exact frame_refl _ _ | with_reducible exact Or.inr rfl | exact Or.inl rfl | exact (rfl : Nat.lor _ _ = _) | with_reducible assumption | extract_lets | with_reducible apply frame_ite | with_reducible apply frame_next | (with_reducible apply frame_upd; with_reducible exact Or.inr rfl; fail_if_success (iterate 23 (with_reducible exact Or.inr rfl))) | (with_reducible apply frame_foldl; intro _ _) | with_reducible apply frame_setAcct | with_reducible apply frame_clearSlots | with_reducible apply frame_resetFunction | (split) | (dsimp +zetaDelta only))

theorem frame_quiesceEnd {M : Nat} {s0 s : State} (m) (hM : Nat.lor 820737 M = M) (h0 : Frame M s0 s) : Frame M s0 (State.quiesceEnd s m) := by
  refine frame_trans (k := 820737) ?_ hM h0
  unfold State.quiesceEnd
  repeat' (first | with_reducible exact frame_refl _ _ | with_reducible exact Or.inr rfl | exact Or.inl rfl | exact (rfl : Nat.lor _ _ = _) | with_reducible assumption | extract_lets | with_reducible apply frame_ite | with_reducible apply frame_next | (with_reducible apply frame_upd; with_reducible exact Or.inr rfl; fail_if_success (iterate 23 (with_reducible exact Or.inr rfl))) | (with_reducible apply frame_foldl; intro _ _) | with_reducible apply frame_setFld | with_reducible apply frame_adminDone | with_reducible apply frame_setCtrl | with_reducible apply frame_setAcct | with_reducible apply frame_raise | with_reducible apply frame_clearSlots | with_reducible apply frame_flrReset | (split) | (dsimp +zetaDelta only))

theorem frame_quiesceKick {M : Nat} {s0 s : State} (hM : Nat.lor 820737 M = M) (h0 : Frame M s0 s) : Frame M s0 (State.quiesceKick s) := by
  refine frame_trans (k := 820737) ?_ hM h0
  unfold State.quiesceKick
  repeat' (first | with_reducible exact frame_refl _ _ | with_reducible exact Or.inr rfl | exact Or.inl rfl | exact (rfl : Nat.lor _ _ = _) | with_reducible assumption | extract_lets | with_reducible apply frame_ite | with_reducible apply frame_next | (with_reducible apply frame_upd; with_reducible exact Or.inr rfl; fail_if_success (iterate 23 (with_reducible exact Or.inr rfl))) | (with_reducible apply frame_foldl; intro _ _) | with_reducible apply frame_quiesceEnd | (split) | (dsimp +zetaDelta only))

theorem frame_flrKick {M : Nat} {s0 s : State} (hM : Nat.lor 819200 M = M) (h0 : Frame M s0 s) : Frame M s0 (State.flrKick s) := by
  refine frame_trans (k := 819200) ?_ hM h0
  unfold State.flrKick
  repeat' (first | with_reducible exact frame_refl _ _ | with_reducible exact Or.inr rfl | exact Or.inl rfl | exact (rfl : Nat.lor _ _ = _) | with_reducible assumption | extract_lets | with_reducible apply frame_ite | with_reducible apply frame_next | (with_reducible apply frame_upd; with_reducible exact Or.inr rfl; fail_if_success (iterate 23 (with_reducible exact Or.inr rfl))) | (with_reducible apply frame_foldl; intro _ _) | with_reducible apply frame_flrReset | (split) | (dsimp +zetaDelta only))

theorem frame_ctrlResetKick {M : Nat} {s0 s : State} (hM : Nat.lor 557056 M = M) (h0 : Frame M s0 s) : Frame M s0 (State.ctrlResetKick s) := by
  refine frame_trans (k := 557056) ?_ hM h0
  unfold State.ctrlResetKick
  repeat' (first | with_reducible exact frame_refl _ _ | with_reducible exact Or.inr rfl | exact Or.inl rfl | exact (rfl : Nat.lor _ _ = _) | with_reducible assumption | extract_lets | with_reducible apply frame_ite | with_reducible apply frame_next | (with_reducible apply frame_upd; with_reducible exact Or.inr rfl; fail_if_success (iterate 23 (with_reducible exact Or.inr rfl))) | (with_reducible apply frame_foldl; intro _ _) | with_reducible apply frame_resetFunction | (split) | (dsimp +zetaDelta only))

theorem frame_readyNow {M : Nat} {s0 s : State} (f) (hM : Nat.lor 32768 M = M) (h0 : Frame M s0 s) : Frame M s0 (State.readyNow s f) := by
  refine frame_trans (k := 32768) ?_ hM h0
  unfold State.readyNow
  repeat' (first | with_reducible exact frame_refl _ _ | with_reducible exact Or.inr rfl | exact Or.inl rfl | exact (rfl : Nat.lor _ _ = _) | with_reducible assumption | extract_lets | with_reducible apply frame_ite | with_reducible apply frame_next | (with_reducible apply frame_upd; with_reducible exact Or.inr rfl; fail_if_success (iterate 23 (with_reducible exact Or.inr rfl))) | (with_reducible apply frame_foldl; intro _ _) | with_reducible apply frame_setCtrl | (split) | (dsimp +zetaDelta only))

theorem frame_enableKick {M : Nat} {s0 s : State} (hM : Nat.lor 32768 M = M) (h0 : Frame M s0 s) : Frame M s0 (State.enableKick s) := by
  refine frame_trans (k := 32768) ?_ hM h0
  unfold State.enableKick
  repeat' (first | with_reducible exact frame_refl _ _ | with_reducible exact Or.inr rfl | exact Or.inl rfl | exact (rfl : Nat.lor _ _ = _) | with_reducible assumption | extract_lets | with_reducible apply frame_ite | with_reducible apply frame_next | (with_reducible apply frame_upd; with_reducible exact Or.inr rfl; fail_if_success (iterate 23 (with_reducible exact Or.inr rfl))) | (with_reducible apply frame_foldl; intro _ _) | with_reducible apply frame_setAcct | with_reducible apply frame_readyNow | (split) | (dsimp +zetaDelta only))

theorem frame_dropConv {M : Nat} {s0 s : State} (nsid) (p) (hM : Nat.lor 4096 M = M) (h0 : Frame M s0 s) : Frame M s0 (State.dropConv s nsid p) := by
  refine frame_trans (k := 4096) ?_ hM h0
  unfold State.dropConv
  repeat' (first | with_reducible exact frame_refl _ _ | with_reducible exact Or.inr rfl | exact Or.inl rfl | exact (rfl : Nat.lor _ _ = _) | with_reducible assumption | extract_lets | with_reducible apply frame_ite | with_reducible apply frame_next | (with_reducible apply frame_upd; with_reducible exact Or.inr rfl; fail_if_success (iterate 23 (with_reducible exact Or.inr rfl))) | (with_reducible apply frame_foldl; intro _ _) | (split) | (dsimp +zetaDelta only))

theorem frame_formatApply {M : Nat} {s0 s : State} (nsid) (x2) (fmt) (hM : Nat.lor 47105 M = M) (h0 : Frame M s0 s) : Frame M s0 (State.formatApply s nsid x2 fmt) := by
  refine frame_trans (k := 47105) ?_ hM h0
  unfold State.formatApply
  repeat' (first | with_reducible exact frame_refl _ _ | with_reducible exact Or.inr rfl | exact Or.inl rfl | exact (rfl : Nat.lor _ _ = _) | with_reducible assumption | extract_lets | with_reducible apply frame_ite | with_reducible apply frame_next | (with_reducible apply frame_upd; with_reducible exact Or.inr rfl; fail_if_success (iterate 23 (with_reducible exact Or.inr rfl))) | (with_reducible apply frame_foldl; intro _ _) | with_reducible apply frame_syncExport | with_reducible apply frame_resetZone | with_reducible apply frame_dropConv | (split) | (dsimp +zetaDelta only))

theorem frame_nsKick {M : Nat} {s0 s : State} (hM : Nat.lor 47105 M = M) (h0 : Frame M s0 s) : Frame M s0 (State.nsKick s) := by
  refine frame_trans (k := 47105) ?_ hM h0
  unfold State.nsKick
  repeat' (first | with_reducible exact frame_refl _ _ | with_reducible exact Or.inr rfl | exact Or.inl rfl | exact (rfl : Nat.lor _ _ = _) | with_reducible assumption | extract_lets | with_reducible apply frame_ite | with_reducible apply frame_next | (with_reducible apply frame_upd; with_reducible exact Or.inr rfl; fail_if_success (iterate 23 (with_reducible exact Or.inr rfl))) | (with_reducible apply frame_foldl; intro _ _) | with_reducible apply frame_adminDone | with_reducible apply frame_formatApply | (split) | (dsimp +zetaDelta only))

theorem frame_finish {M : Nat} {s0 s : State} (h) (c) (hM : Nat.lor 175617 M = M) (h0 : Frame M s0 s) : Frame M s0 (State.finish s h c) := by
  refine frame_trans (k := 175617) ?_ hM h0
  unfold State.finish
  repeat' (first | with_reducible exact frame_refl _ _ | with_reducible exact Or.inr rfl | exact Or.inl rfl | exact (rfl : Nat.lor _ _ = _) | with_reducible assumption | extract_lets | with_reducible apply frame_ite | with_reducible apply frame_next | (with_reducible apply frame_upd; with_reducible exact Or.inr rfl; fail_if_success (iterate 23 (with_reducible exact Or.inr rfl))) | (with_reducible apply frame_foldl; intro _ _) | with_reducible apply frame_dropCmd | with_reducible apply frame_setRec | with_reducible apply frame_retire | with_reducible apply frame_undelivered | with_reducible apply frame_traceEnd | with_reducible apply frame_recordWait | (split) | (dsimp +zetaDelta only))

theorem frame_toPost {M : Nat} {s0 s : State} (h) (c) (x3) (hM : Nat.lor 175617 M = M) (h0 : Frame M s0 s) : Frame M s0 (State.toPost s h c x3) := by
  refine frame_trans (k := 175617) ?_ hM h0
  unfold State.toPost
  repeat' (first | with_reducible exact frame_refl _ _ | with_reducible exact Or.inr rfl | exact Or.inl rfl | exact (rfl : Nat.lor _ _ = _) | with_reducible assumption | extract_lets | with_reducible apply frame_ite | with_reducible apply frame_next | (with_reducible apply frame_upd; with_reducible exact Or.inr rfl; fail_if_success (iterate 23 (with_reducible exact Or.inr rfl))) | (with_reducible apply frame_foldl; intro _ _) | with_reducible apply frame_setCmd | with_reducible apply frame_finish | (split) | (dsimp +zetaDelta only))

theorem frame_endOne {M : Nat} {s0 s : State} (h) (c) (x3) (hM : Nat.lor 175617 M = M) (h0 : Frame M s0 s) : Frame M s0 (State.endOne s h c x3) := by
  refine frame_trans (k := 175617) ?_ hM h0
  unfold State.endOne
  repeat' (first | with_reducible exact frame_refl _ _ | with_reducible exact Or.inr rfl | exact Or.inl rfl | exact (rfl : Nat.lor _ _ = _) | with_reducible assumption | extract_lets | with_reducible apply frame_ite | with_reducible apply frame_next | (with_reducible apply frame_upd; with_reducible exact Or.inr rfl; fail_if_success (iterate 23 (with_reducible exact Or.inr rfl))) | (with_reducible apply frame_foldl; intro _ _) | with_reducible apply frame_modRec | with_reducible apply frame_toPost | (split) | (dsimp +zetaDelta only))

theorem frame_endWrite {M : Nat} {s0 s : State} (h) (x2) (hM : Nat.lor 179713 M = M) (h0 : Frame M s0 s) : Frame M s0 (State.endWrite s h x2) := by
  refine frame_trans (k := 179713) ?_ hM h0
  unfold State.endWrite
  repeat' (first | with_reducible exact frame_refl _ _ | with_reducible exact Or.inr rfl | exact Or.inl rfl | exact (rfl : Nat.lor _ _ = _) | with_reducible assumption | extract_lets | with_reducible apply frame_ite | with_reducible apply frame_next | (with_reducible apply frame_upd; with_reducible exact Or.inr rfl; fail_if_success (iterate 23 (with_reducible exact Or.inr rfl))) | (with_reducible apply frame_foldl; intro _ _) | with_reducible apply frame_setZone | with_reducible apply frame_raise | with_reducible apply frame_endOne | (split) | (dsimp +zetaDelta only))

theorem frame_withdraw {M : Nat} {s0 s : State} (h) (c) (x3) (hM : Nat.lor 32768 M = M) (h0 : Frame M s0 s) : Frame M s0 (State.withdraw s h c x3) := by
  refine frame_trans (k := 32768) ?_ hM h0
  unfold State.withdraw
  repeat' (first | with_reducible exact frame_refl _ _ | with_reducible exact Or.inr rfl | exact Or.inl rfl | exact (rfl : Nat.lor _ _ = _) | with_reducible assumption | extract_lets | with_reducible apply frame_ite | with_reducible apply frame_next | (with_reducible apply frame_upd; with_reducible exact Or.inr rfl; fail_if_success (iterate 23 (with_reducible exact Or.inr rfl))) | (with_reducible apply frame_foldl; intro _ _) | with_reducible apply frame_setCmd | (split) | (dsimp +zetaDelta only))

theorem frame_readKick {M : Nat} {s0 s : State} (h) (hM : Nat.lor 175617 M = M) (h0 : Frame M s0 s) : Frame M s0 (State.readKick s h) := by
  refine frame_trans (k := 175617) ?_ hM h0
  unfold State.readKick
  repeat' (first | with_reducible exact frame_refl _ _ | with_reducible exact Or.inr rfl | exact Or.inl rfl | exact (rfl : Nat.lor _ _ = _) | with_reducible assumption | extract_lets | with_reducible apply frame_ite | with_reducible apply frame_next | (with_reducible apply frame_upd; with_reducible exact Or.inr rfl; fail_if_success (iterate 23 (with_reducible exact Or.inr rfl))) | (with_reducible apply frame_foldl; intro _ _) | with_reducible apply frame_toPost | (split) | (dsimp +zetaDelta only))

theorem frame_endPlaced {M : Nat} {s0 s : State} (z) (seq) (hM : Nat.lor 179713 M = M) (h0 : Frame M s0 s) : Frame M s0 (State.endPlaced s z seq) := by
  refine frame_trans (k := 179713) ?_ hM h0
  unfold State.endPlaced
  repeat' (first | with_reducible exact frame_refl _ _ | with_reducible exact Or.inr rfl | exact Or.inl rfl | exact (rfl : Nat.lor _ _ = _) | with_reducible assumption | extract_lets | with_reducible apply frame_ite | with_reducible apply frame_next | (with_reducible apply frame_upd; with_reducible exact Or.inr rfl; fail_if_success (iterate 23 (with_reducible exact Or.inr rfl))) | (with_reducible apply frame_foldl; intro _ _) | with_reducible apply frame_endWrite | (split) | (dsimp +zetaDelta only))

theorem frame_mgmtOne {M : Nat} {s0 s : State} (z) (hM : Nat.lor 179713 M = M) (h0 : Frame M s0 s) : Frame M s0 (State.mgmtOne s z) := by
  refine frame_trans (k := 179713) ?_ hM h0
  unfold State.mgmtOne
  repeat' (first | with_reducible exact frame_refl _ _ | with_reducible exact Or.inr rfl | exact Or.inl rfl | exact (rfl : Nat.lor _ _ = _) | with_reducible assumption | extract_lets | with_reducible apply frame_ite | with_reducible apply frame_next | (with_reducible apply frame_upd; with_reducible exact Or.inr rfl; fail_if_success (iterate 23 (with_reducible exact Or.inr rfl))) | (with_reducible apply frame_foldl; intro _ _) | with_reducible apply frame_setZone | with_reducible apply frame_resetZone | with_reducible apply frame_finishZone | with_reducible apply frame_endPlaced | (split) | (dsimp +zetaDelta only))

theorem frame_noDataDone {M : Nat} {s0 s : State} (h) (c) (hM : Nat.lor 175617 M = M) (h0 : Frame M s0 s) : Frame M s0 (State.noDataDone s h c) := by
  refine frame_trans (k := 175617) ?_ hM h0
  unfold State.noDataDone
  repeat' (first | with_reducible exact frame_refl _ _ | with_reducible exact Or.inr rfl | exact Or.inl rfl | exact (rfl : Nat.lor _ _ = _) | with_reducible assumption | extract_lets | with_reducible apply frame_ite | with_reducible apply frame_next | (with_reducible apply frame_upd; with_reducible exact Or.inr rfl; fail_if_success (iterate 23 (with_reducible exact Or.inr rfl))) | (with_reducible apply frame_foldl; intro _ _) | with_reducible apply frame_modRec | with_reducible apply frame_toPost | (split) | (dsimp +zetaDelta only))

theorem frame_mgmtKick {M : Nat} {s0 s : State} (hM : Nat.lor 179713 M = M) (h0 : Frame M s0 s) : Frame M s0 (State.mgmtKick s) := by
  refine frame_trans (k := 179713) ?_ hM h0
  unfold State.mgmtKick
  repeat' (first | with_reducible exact frame_refl _ _ | with_reducible exact Or.inr rfl | exact Or.inl rfl | exact (rfl : Nat.lor _ _ = _) | with_reducible assumption | extract_lets | with_reducible apply frame_ite | with_reducible apply frame_next | (with_reducible apply frame_upd; with_reducible exact Or.inr rfl; fail_if_success (iterate 23 (with_reducible exact Or.inr rfl))) | (with_reducible apply frame_foldl; intro _ _) | with_reducible apply frame_mgmtOne | with_reducible apply frame_noDataDone | (split) | (dsimp +zetaDelta only))

theorem frame_flushKick {M : Nat} {s0 s : State} (hM : Nat.lor 175617 M = M) (h0 : Frame M s0 s) : Frame M s0 (State.flushKick s) := by
  refine frame_trans (k := 175617) ?_ hM h0
  unfold State.flushKick
  repeat' (first | with_reducible exact frame_refl _ _ | with_reducible exact Or.inr rfl | exact Or.inl rfl | exact (rfl : Nat.lor _ _ = _) | with_reducible assumption | extract_lets | with_reducible apply frame_ite | with_reducible apply frame_next | (with_reducible apply frame_upd; with_reducible exact Or.inr rfl; fail_if_success (iterate 23 (with_reducible exact Or.inr rfl))) | (with_reducible apply frame_foldl; intro _ _) | with_reducible apply frame_toPost | (split) | (dsimp +zetaDelta only))

theorem frame_storeSecs {M : Nat} {s0 s : State} (c) (hM : Nat.lor 4096 M = M) (h0 : Frame M s0 s) : Frame M s0 (State.storeSecs s c) := by
  refine frame_trans (k := 4096) ?_ hM h0
  unfold State.storeSecs
  repeat' (first | with_reducible exact frame_refl _ _ | with_reducible exact Or.inr rfl | exact Or.inl rfl | exact (rfl : Nat.lor _ _ = _) | with_reducible assumption | extract_lets | with_reducible apply frame_ite | with_reducible apply frame_next | (with_reducible apply frame_upd; with_reducible exact Or.inr rfl; fail_if_success (iterate 23 (with_reducible exact Or.inr rfl))) | (with_reducible apply frame_foldl; intro _ _) | (split) | (dsimp +zetaDelta only))

theorem frame_takeOver {M : Nat} {s0 s : State} (c) (z) (hM : Nat.lor 4096 M = M) (h0 : Frame M s0 s) : Frame M s0 (State.takeOver s c z) := by
  refine frame_trans (k := 4096) ?_ hM h0
  unfold State.takeOver
  repeat' (first | with_reducible exact frame_refl _ _ | with_reducible exact Or.inr rfl | exact Or.inl rfl | exact (rfl : Nat.lor _ _ = _) | with_reducible assumption | extract_lets | with_reducible apply frame_ite | with_reducible apply frame_next | (with_reducible apply frame_upd; with_reducible exact Or.inr rfl; fail_if_success (iterate 23 (with_reducible exact Or.inr rfl))) | (with_reducible apply frame_foldl; intro _ _) | (split) | (dsimp +zetaDelta only))

theorem frame_secureNow {M : Nat} {s0 s : State} (h) (c) (hM : Nat.lor 179713 M = M) (h0 : Frame M s0 s) : Frame M s0 (State.secureNow s h c) := by
  refine frame_trans (k := 179713) ?_ hM h0
  unfold State.secureNow
  repeat' (first | with_reducible exact frame_refl _ _ | with_reducible exact Or.inr rfl | exact Or.inl rfl | exact (rfl : Nat.lor _ _ = _) | with_reducible assumption | extract_lets | with_reducible apply frame_ite | with_reducible apply frame_next | (with_reducible apply frame_upd; with_reducible exact Or.inr rfl; fail_if_success (iterate 23 (with_reducible exact Or.inr rfl))) | (with_reducible apply frame_foldl; intro _ _) | with_reducible apply frame_setZone | with_reducible apply frame_modRec | with_reducible apply frame_stampAt | with_reducible apply frame_toPost | with_reducible apply frame_storeSecs | with_reducible apply frame_takeOver | (split) | (dsimp +zetaDelta only))

theorem frame_heldKick {M : Nat} {s0 s : State} (hM : Nat.lor 179713 M = M) (h0 : Frame M s0 s) : Frame M s0 (State.heldKick s) := by
  refine frame_trans (k := 179713) ?_ hM h0
  unfold State.heldKick
  repeat' (first | with_reducible exact frame_refl _ _ | with_reducible exact Or.inr rfl | exact Or.inl rfl | exact (rfl : Nat.lor _ _ = _) | with_reducible assumption | extract_lets | with_reducible apply frame_ite | with_reducible apply frame_next | (with_reducible apply frame_upd; with_reducible exact Or.inr rfl; fail_if_success (iterate 23 (with_reducible exact Or.inr rfl))) | (with_reducible apply frame_foldl; intro _ _) | with_reducible apply frame_secureNow | (split) | (dsimp +zetaDelta only))

theorem frame_mintKick {M : Nat} {s0 s : State} (hM : Nat.lor 1081344 M = M) (h0 : Frame M s0 s) : Frame M s0 (State.mintKick s) := by
  refine frame_trans (k := 1081344) ?_ hM h0
  unfold State.mintKick
  repeat' (first | with_reducible exact frame_refl _ _ | with_reducible exact Or.inr rfl | exact Or.inl rfl | exact (rfl : Nat.lor _ _ = _) | with_reducible assumption | extract_lets | with_reducible apply frame_ite | with_reducible apply frame_next | (with_reducible apply frame_upd; with_reducible exact Or.inr rfl; fail_if_success (iterate 23 (with_reducible exact Or.inr rfl))) | (with_reducible apply frame_foldl; intro _ _) | with_reducible apply frame_setCmd | (split) | (dsimp +zetaDelta only))

theorem frame_doorKick {M : Nat} {s0 s : State} (hM : Nat.lor 1228289 M = M) (h0 : Frame M s0 s) : Frame M s0 (State.doorKick s) := by
  refine frame_trans (k := 1228289) ?_ hM h0
  unfold State.doorKick
  repeat' (first | with_reducible exact frame_refl _ _ | with_reducible exact Or.inr rfl | exact Or.inl rfl | exact (rfl : Nat.lor _ _ = _) | with_reducible assumption | extract_lets | with_reducible apply frame_ite | with_reducible apply frame_next | (with_reducible apply frame_upd; with_reducible exact Or.inr rfl; fail_if_success (iterate 23 (with_reducible exact Or.inr rfl))) | (with_reducible apply frame_foldl; intro _ _) | with_reducible apply frame_toPost | with_reducible apply frame_endWrite | (split) | (dsimp +zetaDelta only))

theorem frame_claimKick {M : Nat} {s0 s : State} (hM : Nat.lor 4096 M = M) (h0 : Frame M s0 s) : Frame M s0 (State.claimKick s) := by
  refine frame_trans (k := 4096) ?_ hM h0
  unfold State.claimKick
  repeat' (first | with_reducible exact frame_refl _ _ | with_reducible exact Or.inr rfl | exact Or.inl rfl | exact (rfl : Nat.lor _ _ = _) | with_reducible assumption | extract_lets | with_reducible apply frame_ite | with_reducible apply frame_next | (with_reducible apply frame_upd; with_reducible exact Or.inr rfl; fail_if_success (iterate 23 (with_reducible exact Or.inr rfl))) | (with_reducible apply frame_foldl; intro _ _) | with_reducible apply frame_setZone | (split) | (dsimp +zetaDelta only))

theorem frame_leaveKick {M : Nat} {s0 s : State} (hM : Nat.lor 4096 M = M) (h0 : Frame M s0 s) : Frame M s0 (State.leaveKick s) := by
  refine frame_trans (k := 4096) ?_ hM h0
  unfold State.leaveKick
  repeat' (first | with_reducible exact frame_refl _ _ | with_reducible exact Or.inr rfl | exact Or.inl rfl | exact (rfl : Nat.lor _ _ = _) | with_reducible assumption | extract_lets | with_reducible apply frame_ite | with_reducible apply frame_next | (with_reducible apply frame_upd; with_reducible exact Or.inr rfl; fail_if_success (iterate 23 (with_reducible exact Or.inr rfl))) | (with_reducible apply frame_foldl; intro _ _) | with_reducible apply frame_freeBlock | (split) | (dsimp +zetaDelta only))

theorem frame_kick {M : Nat} {s0 s : State} (hM : Nat.lor 2014721 M = M) (h0 : Frame M s0 s) : Frame M s0 (State.kick s) := by
  refine frame_trans (k := 2014721) ?_ hM h0
  unfold State.kick
  repeat' (first | with_reducible exact frame_refl _ _ | with_reducible exact Or.inr rfl | exact Or.inl rfl | exact (rfl : Nat.lor _ _ = _) | with_reducible assumption | extract_lets | with_reducible apply frame_ite | with_reducible apply frame_next | (with_reducible apply frame_upd; with_reducible exact Or.inr rfl; fail_if_success (iterate 23 (with_reducible exact Or.inr rfl))) | (with_reducible apply frame_foldl; intro _ _) | with_reducible apply frame_lockKick | with_reducible apply frame_forceKick | with_reducible apply frame_quiesceKick | with_reducible apply frame_flrKick | with_reducible apply frame_ctrlResetKick | with_reducible apply frame_enableKick | with_reducible apply frame_nsKick | with_reducible apply frame_mgmtKick | with_reducible apply frame_flushKick | with_reducible apply frame_heldKick | with_reducible apply frame_mintKick | with_reducible apply frame_doorKick | with_reducible apply frame_claimKick | with_reducible apply frame_leaveKick | (split) | (dsimp +zetaDelta only))

theorem frame_queueRefresh {M : Nat} {s0 s : State} (d) (b) (hM : Nat.lor 4096 M = M) (h0 : Frame M s0 s) : Frame M s0 (State.queueRefresh s d b) := by
  refine frame_trans (k := 4096) ?_ hM h0
  unfold State.queueRefresh
  repeat' (first | with_reducible exact frame_refl _ _ | with_reducible exact Or.inr rfl | exact Or.inl rfl | exact (rfl : Nat.lor _ _ = _) | with_reducible assumption | extract_lets | with_reducible apply frame_ite | with_reducible apply frame_next | (with_reducible apply frame_upd; with_reducible exact Or.inr rfl; fail_if_success (iterate 23 (with_reducible exact Or.inr rfl))) | (with_reducible apply frame_foldl; intro _ _) | with_reducible apply frame_setBlock | (split) | (dsimp +zetaDelta only))

theorem frame_uncorrectable {M : Nat} {s0 s : State} (h) (i) (c) (x4) (hM : Nat.lor 179713 M = M) (h0 : Frame M s0 s) : Frame M s0 (State.uncorrectable s h i c x4) := by
  refine frame_trans (k := 179713) ?_ hM h0
  unfold State.uncorrectable
  repeat' (first | with_reducible exact frame_refl _ _ | with_reducible exact Or.inr rfl | exact Or.inl rfl | exact (rfl : Nat.lor _ _ = _) | with_reducible assumption | extract_lets | with_reducible apply frame_ite | with_reducible apply frame_next | (with_reducible apply frame_upd; with_reducible exact Or.inr rfl; fail_if_success (iterate 23 (with_reducible exact Or.inr rfl))) | (with_reducible apply frame_foldl; intro _ _) | with_reducible apply frame_countFld | with_reducible apply frame_setCmd | with_reducible apply frame_raiseEach | with_reducible apply frame_setSec | with_reducible apply frame_endWrite | with_reducible apply frame_readKick | with_reducible apply frame_queueRefresh | (split) | (dsimp +zetaDelta only))

theorem frame_failDecode {M : Nat} {s0 s : State} (h) (i) (c) (x4) (hM : Nat.lor 179713 M = M) (h0 : Frame M s0 s) : Frame M s0 (State.failDecode s h i c x4) := by
  refine frame_trans (k := 179713) ?_ hM h0
  unfold State.failDecode
  repeat' (first | with_reducible exact frame_refl _ _ | with_reducible exact Or.inr rfl | exact Or.inl rfl | exact (rfl : Nat.lor _ _ = _) | with_reducible assumption | extract_lets | with_reducible apply frame_ite | with_reducible apply frame_next | (with_reducible apply frame_upd; with_reducible exact Or.inr rfl; fail_if_success (iterate 23 (with_reducible exact Or.inr rfl))) | (with_reducible apply frame_foldl; intro _ _) | with_reducible apply frame_setCmd | with_reducible apply frame_setSec | with_reducible apply frame_uncorrectable | (split) | (dsimp +zetaDelta only))

end Sys2Proof.Machine
end

