-- ==== Sys2Proof/Laws/FrameMedia.lean ====
section
/-!
SUPPORT. Frames: what the functions may change of the host path, programs and reads of the media, plan checks, accounts; one lemma for each function.
-/
set_option linter.all false
set_option Elab.async false

namespace Sys2Proof.Machine

theorem frame_setMemErr {M : Nat} {s0 s : State} (addr) (errs) (kind) (hM : Nat.lor 1 M = M) (h0 : Frame M s0 s) : Frame M s0 (State.setMemErr s addr errs kind) := by
  refine frame_trans (k := 1) ?_ hM h0
  unfold State.setMemErr
  repeat' (first | with_reducible exact frame_refl _ _ | with_reducible exact Or.inr rfl | exact Or.inl rfl | exact (rfl : Nat.lor _ _ = _) | with_reducible assumption | extract_lets | with_reducible apply frame_ite | with_reducible apply frame_next | (with_reducible apply frame_upd; with_reducible exact Or.inr rfl; fail_if_success (iterate 23 (with_reducible exact Or.inr rfl))) | (with_reducible apply frame_foldl; intro _ _) | with_reducible apply frame_setReg | (split) | (dsimp +zetaDelta only))

theorem frame_countCe {M : Nat} {s0 s : State} (sub) (rank) (dev) (hM : Nat.lor 1537 M = M) (h0 : Frame M s0 s) : Frame M s0 (State.countCe s sub rank dev) := by
  refine frame_trans (k := 1537) ?_ hM h0
  unfold State.countCe
  repeat' (first | with_reducible exact frame_refl _ _ | with_reducible exact Or.inr rfl | exact Or.inl rfl | exact (rfl : Nat.lor _ _ = _) | with_reducible assumption | extract_lets | with_reducible apply frame_ite | with_reducible apply frame_next | (with_reducible apply frame_upd; with_reducible exact Or.inr rfl; fail_if_success (iterate 23 (with_reducible exact Or.inr rfl))) | (with_reducible apply frame_foldl; intro _ _) | with_reducible apply frame_setReg | with_reducible apply frame_countFld | with_reducible apply frame_raise | with_reducible apply frame_raiseEach | (split) | (dsimp +zetaDelta only))

theorem frame_dramRecord {M : Nat} {s0 s : State} (addr) (errs) (hM : Nat.lor 1537 M = M) (h0 : Frame M s0 s) : Frame M s0 (State.dramRecord s addr errs) := by
  refine frame_trans (k := 1537) ?_ hM h0
  unfold State.dramRecord
  repeat' (first | with_reducible exact frame_refl _ _ | with_reducible exact Or.inr rfl | exact Or.inl rfl | exact (rfl : Nat.lor _ _ = _) | with_reducible assumption | extract_lets | with_reducible apply frame_ite | with_reducible apply frame_next | (with_reducible apply frame_upd; with_reducible exact Or.inr rfl; fail_if_success (iterate 23 (with_reducible exact Or.inr rfl))) | (with_reducible apply frame_foldl; intro _ _) | with_reducible apply frame_raise | with_reducible apply frame_raiseEach | with_reducible apply frame_setMemErr | with_reducible apply frame_countCe | (split) | (dsimp +zetaDelta only))

theorem frame_scrubLine {M : Nat} {s0 s : State} (f) (hM : Nat.lor 67073 M = M) (h0 : Frame M s0 s) : Frame M s0 (State.scrubLine s f) := by
  refine frame_trans (k := 67073) ?_ hM h0
  unfold State.scrubLine
  repeat' (first | with_reducible exact frame_refl _ _ | with_reducible exact Or.inr rfl | exact Or.inl rfl | exact (rfl : Nat.lor _ _ = _) | with_reducible assumption | extract_lets | with_reducible apply frame_ite | with_reducible apply frame_next | (with_reducible apply frame_upd; with_reducible exact Or.inr rfl; fail_if_success (iterate 23 (with_reducible exact Or.inr rfl))) | (with_reducible apply frame_foldl; intro _ _) | with_reducible apply frame_setFld | with_reducible apply frame_dramRecord | (split) | (dsimp +zetaDelta only))

theorem frame_clearCeCounts {M : Nat} {s0 s : State} (hM : Nat.lor 1 M = M) (h0 : Frame M s0 s) : Frame M s0 (State.clearCeCounts s) := by
  refine frame_trans (k := 1) ?_ hM h0
  unfold State.clearCeCounts
  repeat' (first | with_reducible exact frame_refl _ _ | with_reducible exact Or.inr rfl | exact Or.inl rfl | exact (rfl : Nat.lor _ _ = _) | with_reducible assumption | extract_lets | with_reducible apply frame_ite | with_reducible apply frame_next | (with_reducible apply frame_upd; with_reducible exact Or.inr rfl; fail_if_success (iterate 23 (with_reducible exact Or.inr rfl))) | (with_reducible apply frame_foldl; intro _ _) | with_reducible apply frame_setFld | (split) | (dsimp +zetaDelta only))

theorem frame_execScrubPassStart {s : State} (found) : FrameO 198145 s (execScrubPassStart found s) := by
  unfold execScrubPassStart
  repeat' (first | with_reducible exact frame_refl _ _ | with_reducible exact Or.inr rfl | exact Or.inl rfl | exact (rfl : Nat.lor _ _ = _) | with_reducible assumption | extract_lets | with_reducible apply frame_ite | with_reducible apply frame_next | (with_reducible apply frame_upd; with_reducible exact Or.inr rfl; fail_if_success (iterate 23 (with_reducible exact Or.inr rfl))) | (with_reducible apply frame_foldl; intro _ _) | with_reducible apply frame_countFld | with_reducible apply frame_scrubLine | with_reducible apply frame_clearCeCounts | (split) | (dsimp +zetaDelta only))

theorem frame_openRow {M : Nat} {s0 s : State} (addr) (hM : Nat.lor 131072 M = M) (h0 : Frame M s0 s) : Frame M s0 (State.openRow s addr) := by
  refine frame_trans (k := 131072) ?_ hM h0
  unfold State.openRow
  repeat' (first | with_reducible exact frame_refl _ _ | with_reducible exact Or.inr rfl | exact Or.inl rfl | exact (rfl : Nat.lor _ _ = _) | with_reducible assumption | extract_lets | with_reducible apply frame_ite | with_reducible apply frame_next | (with_reducible apply frame_upd; with_reducible exact Or.inr rfl; fail_if_success (iterate 23 (with_reducible exact Or.inr rfl))) | (with_reducible apply frame_foldl; intro _ _) | (split) | (dsimp +zetaDelta only))

theorem frame_closeRow {M : Nat} {s0 s : State} (addr) (hM : Nat.lor 131072 M = M) (h0 : Frame M s0 s) : Frame M s0 (State.closeRow s addr) := by
  refine frame_trans (k := 131072) ?_ hM h0
  unfold State.closeRow
  repeat' (first | with_reducible exact frame_refl _ _ | with_reducible exact Or.inr rfl | exact Or.inl rfl | exact (rfl : Nat.lor _ _ = _) | with_reducible assumption | extract_lets | with_reducible apply frame_ite | with_reducible apply frame_next | (with_reducible apply frame_upd; with_reducible exact Or.inr rfl; fail_if_success (iterate 23 (with_reducible exact Or.inr rfl))) | (with_reducible apply frame_foldl; intro _ _) | (split) | (dsimp +zetaDelta only))

theorem frame_execRowCloseTimeout {s : State} (bank) : FrameO 131072 s (execRowCloseTimeout bank s) := by
  unfold execRowCloseTimeout
  repeat' (first | with_reducible exact frame_refl _ _ | with_reducible exact Or.inr rfl | exact Or.inl rfl | exact (rfl : Nat.lor _ _ = _) | with_reducible assumption | extract_lets | with_reducible apply frame_ite | with_reducible apply frame_next | (with_reducible apply frame_upd; with_reducible exact Or.inr rfl; fail_if_success (iterate 23 (with_reducible exact Or.inr rfl))) | (with_reducible apply frame_foldl; intro _ _) | (split) | (dsimp +zetaDelta only))

theorem frame_execSelfRefreshEntry {s : State} : FrameO 131072 s (execSelfRefreshEntry s) := by
  unfold execSelfRefreshEntry
  repeat' (first | with_reducible exact frame_refl _ _ | with_reducible exact Or.inr rfl | exact Or.inl rfl | exact (rfl : Nat.lor _ _ = _) | with_reducible assumption | extract_lets | with_reducible apply frame_ite | with_reducible apply frame_next | (with_reducible apply frame_upd; with_reducible exact Or.inr rfl; fail_if_success (iterate 23 (with_reducible exact Or.inr rfl))) | (with_reducible apply frame_foldl; intro _ _) | (split) | (dsimp +zetaDelta only))

theorem frame_execDdrAlert {s : State} : FrameO 1537 s (execDdrAlert s) := by
  unfold execDdrAlert
  repeat' (first | with_reducible exact frame_refl _ _ | with_reducible exact Or.inr rfl | exact Or.inl rfl | exact (rfl : Nat.lor _ _ = _) | with_reducible assumption | extract_lets | with_reducible apply frame_ite | with_reducible apply frame_next | (with_reducible apply frame_upd; with_reducible exact Or.inr rfl; fail_if_success (iterate 23 (with_reducible exact Or.inr rfl))) | (with_reducible apply frame_foldl; intro _ _) | with_reducible apply frame_raiseEach | (split) | (dsimp +zetaDelta only))

theorem frame_bufferSector {M : Nat} {s0 s : State} (hM : Nat.lor 131072 M = M) (h0 : Frame M s0 s) : Frame M s0 (State.bufferSector s) := by
  refine frame_trans (k := 131072) ?_ hM h0
  unfold State.bufferSector
  repeat' (first | with_reducible exact frame_refl _ _ | with_reducible exact Or.inr rfl | exact Or.inl rfl | exact (rfl : Nat.lor _ _ = _) | with_reducible assumption | extract_lets | with_reducible apply frame_ite | with_reducible apply frame_next | (with_reducible apply frame_upd; with_reducible exact Or.inr rfl; fail_if_success (iterate 23 (with_reducible exact Or.inr rfl))) | (with_reducible apply frame_foldl; intro _ _) | (split) | (dsimp +zetaDelta only))

theorem frame_cleanSlot {M : Nat} {s0 s : State} (slot) (hM : Nat.lor 65536 M = M) (h0 : Frame M s0 s) : Frame M s0 (State.cleanSlot s slot) := by
  refine frame_trans (k := 65536) ?_ hM h0
  unfold State.cleanSlot
  repeat' (first | with_reducible exact frame_refl _ _ | with_reducible exact Or.inr rfl | exact Or.inl rfl | exact (rfl : Nat.lor _ _ = _) | with_reducible assumption | extract_lets | with_reducible apply frame_ite | with_reducible apply frame_next | (with_reducible apply frame_upd; with_reducible exact Or.inr rfl; fail_if_success (iterate 23 (with_reducible exact Or.inr rfl))) | (with_reducible apply frame_foldl; intro _ _) | (split) | (dsimp +zetaDelta only))

theorem frame_execDrainBatchStart {s : State} (subB) (aged) : FrameO 131072 s (execDrainBatchStart subB aged s) := by
  unfold execDrainBatchStart
  repeat' (first | with_reducible exact frame_refl _ _ | with_reducible exact Or.inr rfl | exact Or.inl rfl | exact (rfl : Nat.lor _ _ = _) | with_reducible assumption | extract_lets | with_reducible apply frame_ite | with_reducible apply frame_next | (with_reducible apply frame_upd; with_reducible exact Or.inr rfl; fail_if_success (iterate 23 (with_reducible exact Or.inr rfl))) | (with_reducible apply frame_foldl; intro _ _) | (split) | (dsimp +zetaDelta only))

theorem frame_execDrainBatchEnd {s : State} (subB) : FrameO 131072 s (execDrainBatchEnd subB s) := by
  unfold execDrainBatchEnd
  repeat' (first | with_reducible exact frame_refl _ _ | with_reducible exact Or.inr rfl | exact Or.inl rfl | exact (rfl : Nat.lor _ _ = _) | with_reducible assumption | extract_lets | with_reducible apply frame_ite | with_reducible apply frame_next | (with_reducible apply frame_upd; with_reducible exact Or.inr rfl; fail_if_success (iterate 23 (with_reducible exact Or.inr rfl))) | (with_reducible apply frame_foldl; intro _ _) | (split) | (dsimp +zetaDelta only))

theorem frame_bankError {M : Nat} {s0 s : State} (b) (word) (double) (hM : Nat.lor 1537 M = M) (h0 : Frame M s0 s) : Frame M s0 (State.bankError s b word double) := by
  refine frame_trans (k := 1537) ?_ hM h0
  unfold State.bankError
  repeat' (first | with_reducible exact frame_refl _ _ | with_reducible exact Or.inr rfl | exact Or.inl rfl | exact (rfl : Nat.lor _ _ = _) | with_reducible assumption | extract_lets | with_reducible apply frame_ite | with_reducible apply frame_next | (with_reducible apply frame_upd; with_reducible exact Or.inr rfl; fail_if_success (iterate 23 (with_reducible exact Or.inr rfl))) | (with_reducible apply frame_foldl; intro _ _) | with_reducible apply frame_setReg | with_reducible apply frame_raise | (split) | (dsimp +zetaDelta only))

theorem frame_execBankScrub {s : State} (b) (words) : FrameO 132609 s (execBankScrub b words s) := by
  unfold execBankScrub
  repeat' (first | with_reducible exact frame_refl _ _ | with_reducible exact Or.inr rfl | exact Or.inl rfl | exact (rfl : Nat.lor _ _ = _) | with_reducible assumption | extract_lets | with_reducible apply frame_ite | with_reducible apply frame_next | (with_reducible apply frame_upd; with_reducible exact Or.inr rfl; fail_if_success (iterate 23 (with_reducible exact Or.inr rfl))) | (with_reducible apply frame_foldl; intro _ _) | with_reducible apply frame_bankError | (split) | (dsimp +zetaDelta only))

theorem frame_execBankRetentionEntry {s : State} (b) : FrameO 131072 s (execBankRetentionEntry b s) := by
  unfold execBankRetentionEntry
  repeat' (first | with_reducible exact frame_refl _ _ | with_reducible exact Or.inr rfl | exact Or.inl rfl | exact (rfl : Nat.lor _ _ = _) | with_reducible assumption | extract_lets | with_reducible apply frame_ite | with_reducible apply frame_next | (with_reducible apply frame_upd; with_reducible exact Or.inr rfl; fail_if_success (iterate 23 (with_reducible exact Or.inr rfl))) | (with_reducible apply frame_foldl; intro _ _) | with_reducible apply frame_setBank | (split) | (dsimp +zetaDelta only))

theorem frame_wakeBank {M : Nat} {s0 s : State} (b) (hM : Nat.lor 131072 M = M) (h0 : Frame M s0 s) : Frame M s0 (State.wakeBank s b) := by
  refine frame_trans (k := 131072) ?_ hM h0
  unfold State.wakeBank
  repeat' (first | with_reducible exact frame_refl _ _ | with_reducible exact Or.inr rfl | exact Or.inl rfl | exact (rfl : Nat.lor _ _ = _) | with_reducible assumption | extract_lets | with_reducible apply frame_ite | with_reducible apply frame_next | (with_reducible apply frame_upd; with_reducible exact Or.inr rfl; fail_if_success (iterate 23 (with_reducible exact Or.inr rfl))) | (with_reducible apply frame_foldl; intro _ _) | with_reducible apply frame_setBank | (split) | (dsimp +zetaDelta only))

theorem frame_execBankWakeDone {s : State} (b) : FrameO 131072 s (execBankWakeDone b s) := by
  unfold execBankWakeDone
  repeat' (first | with_reducible exact frame_refl _ _ | with_reducible exact Or.inr rfl | exact Or.inl rfl | exact (rfl : Nat.lor _ _ = _) | with_reducible assumption | extract_lets | with_reducible apply frame_ite | with_reducible apply frame_next | (with_reducible apply frame_upd; with_reducible exact Or.inr rfl; fail_if_success (iterate 23 (with_reducible exact Or.inr rfl))) | (with_reducible apply frame_foldl; intro _ _) | with_reducible apply frame_setBank | (split) | (dsimp +zetaDelta only))

theorem frame_poisonCry {M : Nat} {s0 s : State} (hM : Nat.lor 32768 M = M) (h0 : Frame M s0 s) : Frame M s0 (State.poisonCry s) := by
  refine frame_trans (k := 32768) ?_ hM h0
  unfold State.poisonCry
  repeat' (first | with_reducible exact frame_refl _ _ | with_reducible exact Or.inr rfl | exact Or.inl rfl | exact (rfl : Nat.lor _ _ = _) | with_reducible assumption | extract_lets | with_reducible apply frame_ite | with_reducible apply frame_next | (with_reducible apply frame_upd; with_reducible exact Or.inr rfl; fail_if_success (iterate 23 (with_reducible exact Or.inr rfl))) | (with_reducible apply frame_foldl; intro _ _) | (split) | (dsimp +zetaDelta only))

theorem frame_startWipe {M : Nat} {s0 s : State} (bit) (hM : Nat.lor 427521 M = M) (h0 : Frame M s0 s) : Frame M s0 (State.startWipe s bit) := by
  refine frame_trans (k := 427521) ?_ hM h0
  unfold State.startWipe
  repeat' (first | with_reducible exact frame_refl _ _ | with_reducible exact Or.inr rfl | exact Or.inl rfl | exact (rfl : Nat.lor _ _ = _) | with_reducible assumption | extract_lets | with_reducible apply frame_ite | with_reducible apply frame_next | (with_reducible apply frame_upd; with_reducible exact Or.inr rfl; fail_if_success (iterate 23 (with_reducible exact Or.inr rfl))) | (with_reducible apply frame_foldl; intro _ _) | with_reducible apply frame_raise | with_reducible apply frame_kmFree | with_reducible apply frame_kmAbandon | with_reducible apply frame_poisonCry | (split) | (dsimp +zetaDelta only))

theorem frame_execTamperV {s : State} (mv) (ticks) : FrameO 427521 s (execTamperV mv ticks s) := by
  unfold execTamperV
  repeat' (first | with_reducible exact frame_refl _ _ | with_reducible exact Or.inr rfl | exact Or.inl rfl | exact (rfl : Nat.lor _ _ = _) | with_reducible assumption | extract_lets | with_reducible apply frame_ite | with_reducible apply frame_next | (with_reducible apply frame_upd; with_reducible exact Or.inr rfl; fail_if_success (iterate 23 (with_reducible exact Or.inr rfl))) | (with_reducible apply frame_foldl; intro _ _) | with_reducible apply frame_startWipe | (split) | (dsimp +zetaDelta only))

theorem frame_execTamperClk {s : State} (ps) (cycles) : FrameO 427521 s (execTamperClk ps cycles s) := by
  unfold execTamperClk
  repeat' (first | with_reducible exact frame_refl _ _ | with_reducible exact Or.inr rfl | exact Or.inl rfl | exact (rfl : Nat.lor _ _ = _) | with_reducible assumption | extract_lets | with_reducible apply frame_ite | with_reducible apply frame_next | (with_reducible apply frame_upd; with_reducible exact Or.inr rfl; fail_if_success (iterate 23 (with_reducible exact Or.inr rfl))) | (with_reducible apply frame_foldl; intro _ _) | with_reducible apply frame_startWipe | (split) | (dsimp +zetaDelta only))

theorem frame_execTamperShield {s : State} : FrameO 427521 s (execTamperShield s) := by
  unfold execTamperShield
  repeat' (first | with_reducible exact frame_refl _ _ | with_reducible exact Or.inr rfl | exact Or.inl rfl | exact (rfl : Nat.lor _ _ = _) | with_reducible assumption | extract_lets | with_reducible apply frame_ite | with_reducible apply frame_next | (with_reducible apply frame_upd; with_reducible exact Or.inr rfl; fail_if_success (iterate 23 (with_reducible exact Or.inr rfl))) | (with_reducible apply frame_foldl; intro _ _) | with_reducible apply frame_startWipe | (split) | (dsimp +zetaDelta only))

theorem frame_execWipeDone {s : State} : FrameO 394753 s (execWipeDone s) := by
  unfold execWipeDone
  repeat' (first | with_reducible exact frame_refl _ _ | with_reducible exact Or.inr rfl | exact Or.inl rfl | exact (rfl : Nat.lor _ _ = _) | with_reducible assumption | extract_lets | with_reducible apply frame_ite | with_reducible apply frame_next | (with_reducible apply frame_upd; with_reducible exact Or.inr rfl; fail_if_success (iterate 23 (with_reducible exact Or.inr rfl))) | (with_reducible apply frame_foldl; intro _ _) | with_reducible apply frame_raise | (split) | (dsimp +zetaDelta only))

theorem frame_execSrmConflictClr {s : State} (who) (v) : FrameO 1 s (execSrmConflictClr who v s) := by
  unfold execSrmConflictClr
  repeat' (first | with_reducible exact frame_refl _ _ | with_reducible exact Or.inr rfl | exact Or.inl rfl | exact (rfl : Nat.lor _ _ = _) | with_reducible assumption | extract_lets | with_reducible apply frame_ite | with_reducible apply frame_next | (with_reducible apply frame_upd; with_reducible exact Or.inr rfl; fail_if_success (iterate 23 (with_reducible exact Or.inr rfl))) | (with_reducible apply frame_foldl; intro _ _) | with_reducible apply frame_resetRegs | (split) | (dsimp +zetaDelta only))

theorem frame_issueOne {M : Nat} {s0 s : State} (a) (hM : Nat.lor 98304 M = M) (h0 : Frame M s0 s) : Frame M s0 (State.issueOne s a) := by
  refine frame_trans (k := 98304) ?_ hM h0
  unfold State.issueOne
  repeat' (first | with_reducible exact frame_refl _ _ | with_reducible exact Or.inr rfl | exact Or.inl rfl | exact (rfl : Nat.lor _ _ = _) | with_reducible assumption | extract_lets | with_reducible apply frame_ite | with_reducible apply frame_next | (with_reducible apply frame_upd; with_reducible exact Or.inr rfl; fail_if_success (iterate 23 (with_reducible exact Or.inr rfl))) | (with_reducible apply frame_foldl; intro _ _) | with_reducible apply frame_setCtx | (split) | (dsimp +zetaDelta only))

theorem frame_issueN {M : Nat} {s0 s : State} (a) (hM : Nat.lor 98304 M = M) (h0 : Frame M s0 s) : Frame M s0 (State.issueN s a) := by
  refine frame_trans (k := 98304) ?_ hM h0
  clear hM h0
  induction a generalizing s with
  | zero =>
    unfold State.issueN
    exact frame_refl _ _
  | succ _ ih =>
    unfold State.issueN
    repeat' (first | with_reducible exact frame_refl _ _ | with_reducible exact Or.inr rfl | exact Or.inl rfl | exact (rfl : Nat.lor _ _ = _) | with_reducible assumption | extract_lets | with_reducible apply frame_ite | with_reducible apply frame_next | (with_reducible apply frame_upd; with_reducible exact Or.inr rfl; fail_if_success (iterate 23 (with_reducible exact Or.inr rfl))) | (with_reducible apply frame_foldl; intro _ _) | (with_reducible refine frame_trans (ih) ?_ ?_) | with_reducible apply frame_issueOne | (split) | (dsimp +zetaDelta only))

theorem frame_issueAll {M : Nat} {s0 s : State} (hM : Nat.lor 98304 M = M) (h0 : Frame M s0 s) : Frame M s0 (State.issueAll s) := by
  refine frame_trans (k := 98304) ?_ hM h0
  unfold State.issueAll
  repeat' (first | with_reducible exact frame_refl _ _ | with_reducible exact Or.inr rfl | exact Or.inl rfl | exact (rfl : Nat.lor _ _ = _) | with_reducible assumption | extract_lets | with_reducible apply frame_ite | with_reducible apply frame_next | (with_reducible apply frame_upd; with_reducible exact Or.inr rfl; fail_if_success (iterate 23 (with_reducible exact Or.inr rfl))) | (with_reducible apply frame_foldl; intro _ _) | with_reducible apply frame_issueN | (split) | (dsimp +zetaDelta only))

theorem frame_queueReads {M : Nat} {s0 s : State} (a) (p) (ref) (n) (hM : Nat.lor 98304 M = M) (h0 : Frame M s0 s) : Frame M s0 (State.queueReads s a p ref n) := by
  refine frame_trans (k := 98304) ?_ hM h0
  unfold State.queueReads
  repeat' (first | with_reducible exact frame_refl _ _ | with_reducible exact Or.inr rfl | exact Or.inl rfl | exact (rfl : Nat.lor _ _ = _) | with_reducible assumption | extract_lets | with_reducible apply frame_ite | with_reducible apply frame_next | (with_reducible apply frame_upd; with_reducible exact Or.inr rfl; fail_if_success (iterate 23 (with_reducible exact Or.inr rfl))) | (with_reducible apply frame_foldl; intro _ _) | with_reducible apply frame_setCtx | with_reducible apply frame_issueAll | (split) | (dsimp +zetaDelta only))

theorem frame_asyncEvent {M : Nat} {s0 s : State} (f) (dw0) (hM : Nat.lor 32768 M = M) (h0 : Frame M s0 s) : Frame M s0 (State.asyncEvent s f dw0) := by
  refine frame_trans (k := 32768) ?_ hM h0
  unfold State.asyncEvent
  repeat' (first | with_reducible exact frame_refl _ _ | with_reducible exact Or.inr rfl | exact Or.inl rfl | exact (rfl : Nat.lor _ _ = _) | with_reducible assumption | extract_lets | with_reducible apply frame_ite | with_reducible apply frame_next | (with_reducible apply frame_upd; with_reducible exact Or.inr rfl; fail_if_success (iterate 23 (with_reducible exact Or.inr rfl))) | (with_reducible apply frame_foldl; intro _ _) | with_reducible apply frame_adminDone | with_reducible apply frame_setCtrl | (split) | (dsimp +zetaDelta only))

theorem frame_setQueue {M : Nat} {s0 s : State} (i) (q) (hM : Nat.lor 32768 M = M) (h0 : Frame M s0 s) : Frame M s0 (State.setQueue s i q) := by
  refine frame_trans (k := 32768) ?_ hM h0
  unfold State.setQueue
  repeat' (first | with_reducible exact frame_refl _ _ | with_reducible exact Or.inr rfl | exact Or.inl rfl | exact (rfl : Nat.lor _ _ = _) | with_reducible assumption | extract_lets | with_reducible apply frame_ite | with_reducible apply frame_next | (with_reducible apply frame_upd; with_reducible exact Or.inr rfl; fail_if_success (iterate 23 (with_reducible exact Or.inr rfl))) | (with_reducible apply frame_foldl; intro _ _) | (split) | (dsimp +zetaDelta only))

theorem frame_execDoorbellWrite {s : State} (func) (qid) (cq) (value) : FrameO 98304 s (execDoorbellWrite func qid cq value s) := by
  unfold execDoorbellWrite
  repeat' (first | with_reducible exact frame_refl _ _ | with_reducible exact Or.inr rfl | exact Or.inl rfl | exact (rfl : Nat.lor _ _ = _) | with_reducible assumption | extract_lets | with_reducible apply frame_ite | with_reducible apply frame_next | (with_reducible apply frame_upd; with_reducible exact Or.inr rfl; fail_if_success (iterate 23 (with_reducible exact Or.inr rfl))) | (with_reducible apply frame_foldl; intro _ _) | with_reducible apply frame_setCtrl | with_reducible apply frame_queueReads | with_reducible apply frame_asyncEvent | with_reducible apply frame_setQueue | (split) | (dsimp +zetaDelta only))

theorem frame_denyKey {M : Nat} {s0 s : State} (h) (c) (hM : Nat.lor 175617 M = M) (h0 : Frame M s0 s) : Frame M s0 (State.denyKey s h c) := by
  refine frame_trans (k := 175617) ?_ hM h0
  unfold State.denyKey
  repeat' (first | with_reducible exact frame_refl _ _ | with_reducible exact Or.inr rfl | exact Or.inl rfl | exact (rfl : Nat.lor _ _ = _) | with_reducible assumption | extract_lets | with_reducible apply frame_ite | with_reducible apply frame_next | (with_reducible apply frame_upd; with_reducible exact Or.inr rfl; fail_if_success (iterate 23 (with_reducible exact Or.inr rfl))) | (with_reducible apply frame_foldl; intro _ _) | with_reducible apply frame_raise | with_reducible apply frame_toPost | (split) | (dsimp +zetaDelta only))

theorem frame_makeRoom {M : Nat} {s0 s : State} (c) (hM : Nat.lor 32768 M = M) (h0 : Frame M s0 s) : Frame M s0 (State.makeRoom s c).2 := by
  refine frame_trans (k := 32768) ?_ hM h0
  unfold State.makeRoom
  repeat' (first | with_reducible exact frame_refl _ _ | with_reducible exact Or.inr rfl | exact Or.inl rfl | exact (rfl : Nat.lor _ _ = _) | with_reducible assumption | extract_lets | with_reducible apply frame_ite | with_reducible apply frame_next | (with_reducible apply frame_upd; with_reducible exact Or.inr rfl; fail_if_success (iterate 23 (with_reducible exact Or.inr rfl))) | (with_reducible apply frame_foldl; intro _ _) | (split) | (dsimp +zetaDelta only))

theorem frame_makeRoom_eq {s : State} {c} {x} {t : State} (e : State.makeRoom s c = (x, t)) : Frame 32768 s t := by
  have := frame_makeRoom (M := 32768) (s := s) c rfl (frame_refl _ _)
  rw [e] at this
  exact this

theorem frame_fetchCmd {M : Nat} {s0 s : State} (c) (hM : Nat.lor 38401 M = M) (h0 : Frame M s0 s) : Frame M s0 (State.fetchCmd s c) := by
  refine frame_trans (k := 38401) ?_ hM h0
  unfold State.fetchCmd
  repeat' (first | with_reducible exact frame_refl _ _ | with_reducible exact Or.inr rfl | exact Or.inl rfl | exact (rfl : Nat.lor _ _ = _) | with_reducible assumption | extract_lets | with_reducible apply frame_ite | with_reducible apply frame_next | (with_reducible apply frame_upd; with_reducible exact Or.inr rfl; fail_if_success (iterate 23 (with_reducible exact Or.inr rfl))) | (with_reducible apply frame_foldl; intro _ _) | with_reducible apply frame_setCtrl | with_reducible apply frame_raise | with_reducible apply frame_lockKick | with_reducible apply frame_forceKick | (with_reducible refine frame_trans (frame_makeRoom_eq (by assumption)) ?_ ?_) | with_reducible apply frame_makeRoom | (split) | (dsimp +zetaDelta only))

theorem frame_fetchLimit {M : Nat} {s0 s : State} (hM : Nat.lor 1537 M = M) (h0 : Frame M s0 s) : Frame M s0 (State.fetchLimit s) := by
  refine frame_trans (k := 1537) ?_ hM h0
  unfold State.fetchLimit
  repeat' (first | with_reducible exact frame_refl _ _ | with_reducible exact Or.inr rfl | exact Or.inl rfl | exact (rfl : Nat.lor _ _ = _) | with_reducible assumption | extract_lets | with_reducible apply frame_ite | with_reducible apply frame_next | (with_reducible apply frame_upd; with_reducible exact Or.inr rfl; fail_if_success (iterate 23 (with_reducible exact Or.inr rfl))) | (with_reducible apply frame_foldl; intro _ _) | with_reducible apply frame_raise | (split) | (dsimp +zetaDelta only))

theorem frame_execCommandFetch {s : State} (queue) (sqe) (ranges) : FrameO 38401 s (execCommandFetch queue sqe ranges s) := by
  unfold execCommandFetch
  repeat' (first | with_reducible exact frame_refl _ _ | with_reducible exact Or.inr rfl | exact Or.inl rfl | exact (rfl : Nat.lor _ _ = _) | with_reducible assumption | extract_lets | with_reducible apply frame_ite | with_reducible apply frame_next | (with_reducible apply frame_upd; with_reducible exact Or.inr rfl; fail_if_success (iterate 23 (with_reducible exact Or.inr rfl))) | (with_reducible apply frame_foldl; intro _ _) | with_reducible apply frame_setQueue | with_reducible apply frame_fetchCmd | with_reducible apply frame_fetchLimit | (split) | (dsimp +zetaDelta only))

theorem frame_sendFrame {M : Nat} {s0 s : State} (f) (hM : Nat.lor 524288 M = M) (h0 : Frame M s0 s) : Frame M s0 (State.sendFrame s f) := by
  refine frame_trans (k := 524288) ?_ hM h0
  unfold State.sendFrame
  repeat' (first | with_reducible exact frame_refl _ _ | with_reducible exact Or.inr rfl | exact Or.inl rfl | exact (rfl : Nat.lor _ _ = _) | with_reducible assumption | extract_lets | with_reducible apply frame_ite | with_reducible apply frame_next | (with_reducible apply frame_upd; with_reducible exact Or.inr rfl; fail_if_success (iterate 23 (with_reducible exact Or.inr rfl))) | (with_reducible apply frame_foldl; intro _ _) | (split) | (dsimp +zetaDelta only))

theorem frame_rxLevel {M : Nat} {s0 s : State} (p) (n) (hM : Nat.lor 525825 M = M) (h0 : Frame M s0 s) : Frame M s0 (State.rxLevel s p n) := by
  refine frame_trans (k := 525825) ?_ hM h0
  unfold State.rxLevel
  repeat' (first | with_reducible exact frame_refl _ _ | with_reducible exact Or.inr rfl | exact Or.inl rfl | exact (rfl : Nat.lor _ _ = _) | with_reducible assumption | extract_lets | with_reducible apply frame_ite | with_reducible apply frame_next | (with_reducible apply frame_upd; with_reducible exact Or.inr rfl; fail_if_success (iterate 23 (with_reducible exact Or.inr rfl))) | (with_reducible apply frame_foldl; intro _ _) | with_reducible apply frame_setPort | with_reducible apply frame_raise | with_reducible apply frame_sendFrame | (split) | (dsimp +zetaDelta only))

theorem frame_execCapsuleReceive {s : State} (qp) (sqe) (ranges) (buffered) : FrameO 562689 s (execCapsuleReceive qp sqe ranges buffered s) := by
  unfold execCapsuleReceive
  repeat' (first | with_reducible exact frame_refl _ _ | with_reducible exact Or.inr rfl | exact Or.inl rfl | exact (rfl : Nat.lor _ _ = _) | with_reducible assumption | extract_lets | with_reducible apply frame_ite | with_reducible apply frame_next | (with_reducible apply frame_upd; with_reducible exact Or.inr rfl; fail_if_success (iterate 23 (with_reducible exact Or.inr rfl))) | (with_reducible apply frame_foldl; intro _ _) | with_reducible apply frame_fetchCmd | with_reducible apply frame_fetchLimit | with_reducible apply frame_sendFrame | with_reducible apply frame_rxLevel | (split) | (dsimp +zetaDelta only))

theorem frame_execCommandArrival {s : State} (h) : FrameO 175617 s (execCommandArrival h s) := by
  unfold execCommandArrival
  repeat' (first | with_reducible exact frame_refl _ _ | with_reducible exact Or.inr rfl | exact Or.inl rfl | exact (rfl : Nat.lor _ _ = _) | with_reducible assumption | extract_lets | with_reducible apply frame_ite | with_reducible apply frame_next | (with_reducible apply frame_upd; with_reducible exact Or.inr rfl; fail_if_success (iterate 23 (with_reducible exact Or.inr rfl))) | (with_reducible apply frame_foldl; intro _ _) | with_reducible apply frame_setCmd | with_reducible apply frame_toPost | (split) | (dsimp +zetaDelta only))

theorem frame_admitWrite {M : Nat} {s0 s : State} (h) (c) (hM : Nat.lor 34816 M = M) (h0 : Frame M s0 s) : Frame M s0 (State.admitWrite s h c) := by
  refine frame_trans (k := 34816) ?_ hM h0
  unfold State.admitWrite
  repeat' (first | with_reducible exact frame_refl _ _ | with_reducible exact Or.inr rfl | exact Or.inl rfl | exact (rfl : Nat.lor _ _ = _) | with_reducible assumption | extract_lets | with_reducible apply frame_ite | with_reducible apply frame_next | (with_reducible apply frame_upd; with_reducible exact Or.inr rfl; fail_if_success (iterate 23 (with_reducible exact Or.inr rfl))) | (with_reducible apply frame_foldl; intro _ _) | with_reducible apply frame_setCmd | with_reducible apply frame_charge | (split) | (dsimp +zetaDelta only))

theorem frame_execAcceptanceEnd {s : State} (h) : FrameO 2014721 s (execAcceptanceEnd h s) := by
  unfold execAcceptanceEnd
  repeat' (first | with_reducible exact frame_refl _ _ | with_reducible exact Or.inr rfl | exact Or.inl rfl | exact (rfl : Nat.lor _ _ = _) | with_reducible assumption | extract_lets | with_reducible apply frame_ite | with_reducible apply frame_next | (with_reducible apply frame_upd; with_reducible exact Or.inr rfl; fail_if_success (iterate 23 (with_reducible exact Or.inr rfl))) | (with_reducible apply frame_foldl; intro _ _) | with_reducible apply frame_setCmd | with_reducible apply frame_setRec | with_reducible apply frame_stamp | with_reducible apply frame_registerKick | with_reducible apply frame_toPost | with_reducible apply frame_endWrite | with_reducible apply frame_kick | with_reducible apply frame_admitWrite | (split) | (dsimp +zetaDelta only))

theorem frame_execMapLookupEnd {s : State} (h) (addr) (errs) (queued) : FrameO 2014721 s (execMapLookupEnd h addr errs queued s) := by
  unfold execMapLookupEnd
  repeat' (first | with_reducible exact frame_refl _ _ | with_reducible exact Or.inr rfl | exact Or.inl rfl | exact (rfl : Nat.lor _ _ = _) | with_reducible assumption | extract_lets | with_reducible apply frame_ite | with_reducible apply frame_next | (with_reducible apply frame_upd; with_reducible exact Or.inr rfl; fail_if_success (iterate 23 (with_reducible exact Or.inr rfl))) | (with_reducible apply frame_foldl; intro _ _) | with_reducible apply frame_setCmd | with_reducible apply frame_raise | with_reducible apply frame_registerKick | with_reducible apply frame_endWrite | with_reducible apply frame_readKick | with_reducible apply frame_kick | with_reducible apply frame_dramRecord | with_reducible apply frame_closeRow | (split) | (dsimp +zetaDelta only))

theorem frame_execXtsStageEnd {s : State} (h) (i) (carrierOk) : FrameO 2014721 s (execXtsStageEnd h i carrierOk s) := by
  unfold execXtsStageEnd
  repeat' (first | with_reducible exact frame_refl _ _ | with_reducible exact Or.inr rfl | exact Or.inl rfl | exact (rfl : Nat.lor _ _ = _) | with_reducible assumption | extract_lets | with_reducible apply frame_ite | with_reducible apply frame_next | (with_reducible apply frame_upd; with_reducible exact Or.inr rfl; fail_if_success (iterate 23 (with_reducible exact Or.inr rfl))) | (with_reducible apply frame_foldl; intro _ _) | with_reducible apply frame_setCmd | with_reducible apply frame_raise | with_reducible apply frame_addBlocks | with_reducible apply frame_stamp | with_reducible apply frame_setSec | with_reducible apply frame_enterRing | with_reducible apply frame_endWrite | with_reducible apply frame_readKick | with_reducible apply frame_kick | with_reducible apply frame_failDecode | (split) | (dsimp +zetaDelta only))

theorem frame_execSealCheckEnd {s : State} (h) (i) (ok) : FrameO 179713 s (execSealCheckEnd h i ok s) := by
  unfold execSealCheckEnd
  repeat' (first | with_reducible exact frame_refl _ _ | with_reducible exact Or.inr rfl | exact Or.inl rfl | exact (rfl : Nat.lor _ _ = _) | with_reducible assumption | extract_lets | with_reducible apply frame_ite | with_reducible apply frame_next | (with_reducible apply frame_upd; with_reducible exact Or.inr rfl; fail_if_success (iterate 23 (with_reducible exact Or.inr rfl))) | (with_reducible apply frame_foldl; intro _ _) | with_reducible apply frame_setCmd | with_reducible apply frame_stamp | with_reducible apply frame_readKick | with_reducible apply frame_failDecode | (split) | (dsimp +zetaDelta only))

theorem frame_rateTake {M : Nat} {s0 s : State} (c) (hM : Nat.lor 524288 M = M) (h0 : Frame M s0 s) : Frame M s0 (State.rateTake s c) := by
  refine frame_trans (k := 524288) ?_ hM h0
  unfold State.rateTake
  repeat' (first | with_reducible exact frame_refl _ _ | with_reducible exact Or.inr rfl | exact Or.inl rfl | exact (rfl : Nat.lor _ _ = _) | with_reducible assumption | extract_lets | with_reducible apply frame_ite | with_reducible apply frame_next | (with_reducible apply frame_upd; with_reducible exact Or.inr rfl; fail_if_success (iterate 23 (with_reducible exact Or.inr rfl))) | (with_reducible apply frame_foldl; intro _ _) | (split) | (dsimp +zetaDelta only))

theorem frame_dlogWrite {M : Nat} {s0 s : State} (a) (x2) (hM : Nat.lor 32769 M = M) (h0 : Frame M s0 s) : Frame M s0 (State.dlogWrite s a x2) := by
  refine frame_trans (k := 32769) ?_ hM h0
  clear hM h0
  induction x2 generalizing s a with
  | nil =>
    unfold State.dlogWrite
    exact frame_refl _ _
  | cons _ _ ih =>
    unfold State.dlogWrite
    repeat' (first | with_reducible exact frame_refl _ _ | with_reducible exact Or.inr rfl | exact Or.inl rfl | exact (rfl : Nat.lor _ _ = _) | with_reducible assumption | extract_lets | with_reducible apply frame_ite | with_reducible apply frame_next | (with_reducible apply frame_upd; with_reducible exact Or.inr rfl; fail_if_success (iterate 23 (with_reducible exact Or.inr rfl))) | (with_reducible apply frame_foldl; intro _ _) | (with_reducible refine frame_trans (ih _) ?_ ?_) | with_reducible apply frame_setFld | (split) | (dsimp +zetaDelta only))

theorem frame_execEgressEnd {s : State} (h) (i) (pages) : FrameO 2014721 s (execEgressEnd h i pages s) := by
  unfold execEgressEnd
  repeat' (first | with_reducible exact frame_refl _ _ | with_reducible exact Or.inr rfl | exact Or.inl rfl | exact (rfl : Nat.lor _ _ = _) | with_reducible assumption | extract_lets | with_reducible apply frame_ite | with_reducible apply frame_next | (with_reducible apply frame_upd; with_reducible exact Or.inr rfl; fail_if_success (iterate 23 (with_reducible exact Or.inr rfl))) | (with_reducible apply frame_foldl; intro _ _) | with_reducible apply frame_setCmd | with_reducible apply frame_raise | with_reducible apply frame_stamp | with_reducible apply frame_setSec | with_reducible apply frame_readKick | with_reducible apply frame_kick | with_reducible apply frame_dlogWrite | (split) | (dsimp +zetaDelta only))

theorem frame_execCompletionPostEnd {s : State} (h) (page) : FrameO 2014721 s (execCompletionPostEnd h page s) := by
  unfold execCompletionPostEnd
  repeat' (first | with_reducible exact frame_refl _ _ | with_reducible exact Or.inr rfl | exact Or.inl rfl | exact (rfl : Nat.lor _ _ = _) | with_reducible assumption | extract_lets | with_reducible apply frame_ite | with_reducible apply frame_next | (with_reducible apply frame_upd; with_reducible exact Or.inr rfl; fail_if_success (iterate 23 (with_reducible exact Or.inr rfl))) | (with_reducible apply frame_foldl; intro _ _) | with_reducible apply frame_setCmd | with_reducible apply frame_raise | with_reducible apply frame_stamp | with_reducible apply frame_finish | with_reducible apply frame_kick | with_reducible apply frame_dlogWrite | (split) | (dsimp +zetaDelta only))

theorem frame_execStagingSlotsTaken {s : State} (h) (lists) (datas) : FrameO 106496 s (execStagingSlotsTaken h lists datas s) := by
  unfold execStagingSlotsTaken
  repeat' (first | with_reducible exact frame_refl _ _ | with_reducible exact Or.inr rfl | exact Or.inl rfl | exact (rfl : Nat.lor _ _ = _) | with_reducible assumption | extract_lets | with_reducible apply frame_ite | with_reducible apply frame_next | (with_reducible apply frame_upd; with_reducible exact Or.inr rfl; fail_if_success (iterate 23 (with_reducible exact Or.inr rfl))) | (with_reducible apply frame_foldl; intro _ _) | with_reducible apply frame_setCmd | with_reducible apply frame_modRec | with_reducible apply frame_queueReads | (split) | (dsimp +zetaDelta only))

theorem frame_execHostDataFetchEnd {s : State} (h) (data) : FrameO 32769 s (execHostDataFetchEnd h data s) := by
  unfold execHostDataFetchEnd
  repeat' (first | with_reducible exact frame_refl _ _ | with_reducible exact Or.inr rfl | exact Or.inl rfl | exact (rfl : Nat.lor _ _ = _) | with_reducible assumption | extract_lets | with_reducible apply frame_ite | with_reducible apply frame_next | (with_reducible apply frame_upd; with_reducible exact Or.inr rfl; fail_if_success (iterate 23 (with_reducible exact Or.inr rfl))) | (with_reducible apply frame_foldl; intro _ _) | with_reducible apply frame_setCmd | with_reducible apply frame_stamp | (split) | (dsimp +zetaDelta only))

theorem frame_execZeroFillEnd {s : State} (h) (i) : FrameO 2014721 s (execZeroFillEnd h i s) := by
  unfold execZeroFillEnd
  repeat' (first | with_reducible exact frame_refl _ _ | with_reducible exact Or.inr rfl | exact Or.inl rfl | exact (rfl : Nat.lor _ _ = _) | with_reducible assumption | extract_lets | with_reducible apply frame_ite | with_reducible apply frame_next | (with_reducible apply frame_upd; with_reducible exact Or.inr rfl; fail_if_success (iterate 23 (with_reducible exact Or.inr rfl))) | (with_reducible apply frame_foldl; intro _ _) | with_reducible apply frame_setCmd | with_reducible apply frame_stamp | with_reducible apply frame_enterRing | with_reducible apply frame_kick | (split) | (dsimp +zetaDelta only))

theorem frame_execGateLaneGrant {s : State} (h) : FrameO 163840 s (execGateLaneGrant h s) := by
  unfold execGateLaneGrant
  repeat' (first | with_reducible exact frame_refl _ _ | with_reducible exact Or.inr rfl | exact Or.inl rfl | exact (rfl : Nat.lor _ _ = _) | with_reducible assumption | extract_lets | with_reducible apply frame_ite | with_reducible apply frame_next | (with_reducible apply frame_upd; with_reducible exact Or.inr rfl; fail_if_success (iterate 23 (with_reducible exact Or.inr rfl))) | (with_reducible apply frame_foldl; intro _ _) | with_reducible apply frame_setCmd | (split) | (dsimp +zetaDelta only))

theorem frame_execSealEnd {s : State} (h) (i) : FrameO 2014721 s (execSealEnd h i s) := by
  unfold execSealEnd
  repeat' (first | with_reducible exact frame_refl _ _ | with_reducible exact Or.inr rfl | exact Or.inl rfl | exact (rfl : Nat.lor _ _ = _) | with_reducible assumption | extract_lets | with_reducible apply frame_ite | with_reducible apply frame_next | (with_reducible apply frame_upd; with_reducible exact Or.inr rfl; fail_if_success (iterate 23 (with_reducible exact Or.inr rfl))) | (with_reducible apply frame_foldl; intro _ _) | with_reducible apply frame_setCmd | with_reducible apply frame_stamp | with_reducible apply frame_endWrite | with_reducible apply frame_kick | (split) | (dsimp +zetaDelta only))

theorem frame_execDramWriteEnd {s : State} (h) (i) : FrameO 229377 s (execDramWriteEnd h i s) := by
  unfold execDramWriteEnd
  repeat' (first | with_reducible exact frame_refl _ _ | with_reducible exact Or.inr rfl | exact Or.inl rfl | exact (rfl : Nat.lor _ _ = _) | with_reducible assumption | extract_lets | with_reducible apply frame_ite | with_reducible apply frame_next | (with_reducible apply frame_upd; with_reducible exact Or.inr rfl; fail_if_success (iterate 23 (with_reducible exact Or.inr rfl))) | (with_reducible apply frame_foldl; intro _ _) | with_reducible apply frame_stamp | with_reducible apply frame_setSec | with_reducible apply frame_bufferSector | with_reducible apply frame_cleanSlot | (split) | (dsimp +zetaDelta only))

theorem frame_execDayBookSecure {s : State} (h) : FrameO 2014721 s (execDayBookSecure h s) := by
  unfold execDayBookSecure
  repeat' (first | with_reducible exact frame_refl _ _ | with_reducible exact Or.inr rfl | exact Or.inl rfl | exact (rfl : Nat.lor _ _ = _) | with_reducible assumption | extract_lets | with_reducible apply frame_ite | with_reducible apply frame_next | (with_reducible apply frame_upd; with_reducible exact Or.inr rfl; fail_if_success (iterate 23 (with_reducible exact Or.inr rfl))) | (with_reducible apply frame_foldl; intro _ _) | with_reducible apply frame_setCmd | with_reducible apply frame_secureNow | with_reducible apply frame_kick | (split) | (dsimp +zetaDelta only))

theorem frame_execDeallocationSecure {s : State} (h) : FrameO 2014721 s (execDeallocationSecure h s) := by
  unfold execDeallocationSecure
  repeat' (first | with_reducible exact frame_refl _ _ | with_reducible exact Or.inr rfl | exact Or.inl rfl | exact (rfl : Nat.lor _ _ = _) | with_reducible assumption | extract_lets | with_reducible apply frame_ite | with_reducible apply frame_next | (with_reducible apply frame_upd; with_reducible exact Or.inr rfl; fail_if_success (iterate 23 (with_reducible exact Or.inr rfl))) | (with_reducible apply frame_foldl; intro _ _) | with_reducible apply frame_modRec | with_reducible apply frame_dropConv | with_reducible apply frame_toPost | with_reducible apply frame_kick | (split) | (dsimp +zetaDelta only))

theorem frame_countRead {M : Nat} {s0 s : State} (d) (b) (hM : Nat.lor 4096 M = M) (h0 : Frame M s0 s) : Frame M s0 (State.countRead s d b) := by
  refine frame_trans (k := 4096) ?_ hM h0
  unfold State.countRead
  repeat' (first | with_reducible exact frame_refl _ _ | with_reducible exact Or.inr rfl | exact Or.inl rfl | exact (rfl : Nat.lor _ _ = _) | with_reducible assumption | extract_lets | with_reducible apply frame_ite | with_reducible apply frame_next | (with_reducible apply frame_upd; with_reducible exact Or.inr rfl; fail_if_success (iterate 23 (with_reducible exact Or.inr rfl))) | (with_reducible apply frame_foldl; intro _ _) | with_reducible apply frame_setBlock | (split) | (dsimp +zetaDelta only))

theorem frame_grant {M : Nat} {s0 s : State} (d) (type) (cls) (h) (i) (x6) (window) (hM : Nat.lor 38913 M = M) (h0 : Frame M s0 s) : Frame M s0 (State.grant s d type cls h i x6 window) := by
  refine frame_trans (k := 38913) ?_ hM h0
  unfold State.grant
  repeat' (first | with_reducible exact frame_refl _ _ | with_reducible exact Or.inr rfl | exact Or.inl rfl | exact (rfl : Nat.lor _ _ = _) | with_reducible assumption | extract_lets | with_reducible apply frame_ite | with_reducible apply frame_next | (with_reducible apply frame_upd; with_reducible exact Or.inr rfl; fail_if_success (iterate 23 (with_reducible exact Or.inr rfl))) | (with_reducible apply frame_foldl; intro _ _) | with_reducible apply frame_setDie | with_reducible apply frame_charge | with_reducible apply frame_stampAt | with_reducible apply frame_setSec | with_reducible apply frame_registerKick | with_reducible apply frame_countRead | (split) | (dsimp +zetaDelta only))

theorem frame_bindSlot {s : State} {z} {i} {toSlc} {t : State} (e : State.bindSlot s z i toSlc = some t) : Frame 4096 s t := by
  unfold State.bindSlot at e
  repeat' (first | extract_lets at e | (split at e))
  all_goals (cases e)
  all_goals (repeat' (first | with_reducible exact frame_refl _ _ | with_reducible exact Or.inr rfl | exact Or.inl rfl | exact (rfl : Nat.lor _ _ = _) | with_reducible assumption | extract_lets | with_reducible apply frame_ite | with_reducible apply frame_next | (with_reducible apply frame_upd; with_reducible exact Or.inr rfl; fail_if_success (iterate 23 (with_reducible exact Or.inr rfl))) | (with_reducible apply frame_foldl; intro _ _) | with_reducible apply frame_setZone | with_reducible apply frame_setBlock | (split) | (dsimp +zetaDelta only)))

theorem frame_bindWaits {M : Nat} {s0 s : State} (z) (i) (hM : Nat.lor 5633 M = M) (h0 : Frame M s0 s) : Frame M s0 (State.bindWaits s z i) := by
  refine frame_trans (k := 5633) ?_ hM h0
  unfold State.bindWaits
  repeat' (first | with_reducible exact frame_refl _ _ | with_reducible exact Or.inr rfl | exact Or.inl rfl | exact (rfl : Nat.lor _ _ = _) | with_reducible assumption | extract_lets | with_reducible apply frame_ite | with_reducible apply frame_next | (with_reducible apply frame_upd; with_reducible exact Or.inr rfl; fail_if_success (iterate 23 (with_reducible exact Or.inr rfl))) | (with_reducible apply frame_foldl; intro _ _) | with_reducible apply frame_raise | (split) | (dsimp +zetaDelta only))

theorem frame_lend {s : State} {z} {i} {t : State} (e : State.lend s z i = .ok t) : Frame 4096 s t := by
  unfold State.lend at e
  repeat' (first | extract_lets at e | (split at e))
  all_goals (cases e)
  all_goals (repeat' (first | with_reducible exact frame_refl _ _ | with_reducible exact Or.inr rfl | exact Or.inl rfl | exact (rfl : Nat.lor _ _ = _) | with_reducible assumption | extract_lets | with_reducible apply frame_ite | with_reducible apply frame_next | (with_reducible apply frame_upd; with_reducible exact Or.inr rfl; fail_if_success (iterate 23 (with_reducible exact Or.inr rfl))) | (with_reducible apply frame_foldl; intro _ _) | with_reducible apply frame_setDieMed | with_reducible apply frame_setZone | with_reducible apply frame_setBlock | (split) | (dsimp +zetaDelta only)))

theorem frame_logBlock {s : State} {d} {x} {t : State} (e : State.logBlock s d = some (x, t)) : Frame 4096 s t := by
  unfold State.logBlock at e
  repeat' (first | extract_lets at e | (split at e))
  all_goals (cases e)
  all_goals (repeat' (first | with_reducible exact frame_refl _ _ | with_reducible exact Or.inr rfl | exact Or.inl rfl | exact (rfl : Nat.lor _ _ = _) | with_reducible assumption | extract_lets | with_reducible apply frame_ite | with_reducible apply frame_next | (with_reducible apply frame_upd; with_reducible exact Or.inr rfl; fail_if_success (iterate 23 (with_reducible exact Or.inr rfl))) | (with_reducible apply frame_foldl; intro _ _) | with_reducible apply frame_setBlock | (split) | (dsimp +zetaDelta only)))

theorem frame_startProgram {M : Nat} {s0 s : State} (d) (type) (cls) (block) (n) (x6) (toSlc) (hM : Nat.lor 6144 M = M) (h0 : Frame M s0 s) : Frame M s0 (State.startProgram s d type cls block n x6 toSlc) := by
  refine frame_trans (k := 6144) ?_ hM h0
  unfold State.startProgram
  repeat' (first | with_reducible exact frame_refl _ _ | with_reducible exact Or.inr rfl | exact Or.inl rfl | exact (rfl : Nat.lor _ _ = _) | with_reducible assumption | extract_lets | with_reducible apply frame_ite | with_reducible apply frame_next | (with_reducible apply frame_upd; with_reducible exact Or.inr rfl; fail_if_success (iterate 23 (with_reducible exact Or.inr rfl))) | (with_reducible apply frame_foldl; intro _ _) | with_reducible apply frame_setDie | with_reducible apply frame_setZone | (split) | (dsimp +zetaDelta only))

theorem frame_putSlc_any {s : State} (d) (cls) (z) (t) :
    (∀ u, State.putSlc s d cls z t = .ok u → Frame 7681 s u) ∧ (∀ u, State.putSlc s d cls z t = .error u → Frame 7681 s u) := by
  unfold State.putSlc
  extract_lets bound
  have hb : ∀ u, bound = some u → Frame 7681 s u := by
    intro u e
    unfold bound at e
    split at e
    · exact frame_trans (frame_bindSlot e) rfl (frame_refl _ _)
    · cases e
      exact frame_refl _ _
  clear_value bound
  cases bound with
  | none =>
    refine ⟨fun u e => (nomatch e), fun u e => ?_⟩
    rw [← Except.error.inj e]
    exact frame_bindWaits _ _ rfl (frame_refl _ _)
  | some s1 =>
    have h1 := hb s1 rfl
    dsimp only
    split
    · refine ⟨fun u e => ?_, fun u e => (nomatch e)⟩
      rw [← Except.ok.inj e]
      exact frame_startProgram _ _ _ _ _ _ _ rfl h1
    · split
      · refine ⟨fun u e => (nomatch e), fun u e => ?_⟩
        rw [← Except.error.inj e]
        exact frame_refl _ _
      · refine ⟨fun u e => (nomatch e), fun u e => ?_⟩
        rw [← Except.error.inj e]
        exact frame_raise _ _ rfl (frame_refl _ _)
      · rename_i e2
        have h2 := frame_trans (m := 7681) (frame_lend e2) rfl h1
        refine ⟨fun u e => ?_, fun u e => (nomatch e)⟩
        rw [← Except.ok.inj e]
        exact frame_startProgram _ _ _ _ _ _ _ rfl h2

theorem frame_putSlc_ok {s : State} {d} {cls} {z} {x4} {t : State} (e : State.putSlc s d cls z x4 = .ok t) : Frame 7681 s t :=
  (frame_putSlc_any d cls z x4).1 t e

theorem frame_putSlc_error {s : State} {d} {cls} {z} {x4} {t : State} (e : State.putSlc s d cls z x4 = .error t) : Frame 7681 s t :=
  (frame_putSlc_any d cls z x4).2 t e

theorem frame_putQlc_any {s : State} (d) (cls) (z) (t) :
    (∀ u, State.putQlc s d cls z t = .ok u → Frame 7681 s u) ∧ (∀ u, State.putQlc s d cls z t = .error u → Frame 7681 s u) := by
  unfold State.putQlc
  split
  · refine ⟨fun u e => (nomatch e), fun u e => ?_⟩
    rw [← Except.error.inj e]
    exact frame_bindWaits _ _ rfl (frame_refl _ _)
  · rename_i s1 e
    have h1 : Frame 7681 s s1 := by
      split at e
      · exact frame_trans (frame_bindSlot e) rfl (frame_refl _ _)
      · cases e
        exact frame_refl _ _
    refine ⟨fun u e => ?_, fun u e => (nomatch e)⟩
    rw [← Except.ok.inj e]
    exact frame_startProgram _ _ _ _ _ _ _ rfl h1

theorem frame_putQlc_ok {s : State} {d} {cls} {z} {x4} {t : State} (e : State.putQlc s d cls z x4 = .ok t) : Frame 7681 s t :=
  (frame_putQlc_any d cls z x4).1 t e

theorem frame_putQlc_error {s : State} {d} {cls} {z} {x4} {t : State} (e : State.putQlc s d cls z x4 = .error t) : Frame 7681 s t :=
  (frame_putQlc_any d cls z x4).2 t e

theorem frame_putTake_ok {s : State} {d} {cls} {toSlc} {x4} {t : State} (e : State.putTake s d cls toSlc x4 = .ok t) : Frame 7681 s t := by
  unfold State.putTake at e
  split at e
  · split at e
    · exact frame_trans (frame_putSlc_ok e) rfl (frame_refl _ _)
    · exact frame_trans (frame_putQlc_ok e) rfl (frame_refl _ _)
  · split at e
    · rename_i e1
      cases e
      exact frame_startProgram _ _ _ _ _ _ _ rfl (frame_trans (frame_logBlock e1) rfl (frame_refl _ _))
    · cases e

theorem frame_putTake_error {s : State} {d} {cls} {toSlc} {x4} {t : State} (e : State.putTake s d cls toSlc x4 = .error t) : Frame 7681 s t := by
  unfold State.putTake at e
  split at e
  · split at e
    · exact frame_trans (frame_putSlc_error e) rfl (frame_refl _ _)
    · exact frame_trans (frame_putQlc_error e) rfl (frame_refl _ _)
  · split at e
    · cases e
    · cases e
      exact frame_refl _ _

theorem frame_takeFirst {M : Nat} {s0 s : State} (d) (cls) (toSlc) (a) (hM : Nat.lor 7681 M = M) (h0 : Frame M s0 s) : Frame M s0 (State.takeFirst s d cls toSlc a) := by
  refine frame_trans (k := 7681) ?_ hM h0
  clear hM h0
  induction a generalizing s d cls toSlc with
  | nil =>
    unfold State.takeFirst
    exact frame_refl _ _
  | cons _ _ ih =>
    unfold State.takeFirst
    repeat' (first | with_reducible exact frame_refl _ _ | with_reducible exact Or.inr rfl | exact Or.inl rfl | exact (rfl : Nat.lor _ _ = _) | with_reducible assumption | extract_lets | with_reducible apply frame_ite | with_reducible apply frame_next | (with_reducible apply frame_upd; with_reducible exact Or.inr rfl; fail_if_success (iterate 23 (with_reducible exact Or.inr rfl))) | (with_reducible apply frame_foldl; intro _ _) | (with_reducible refine frame_trans (ih _ _ _) ?_ ?_) | (with_reducible refine frame_trans (frame_putTake_ok (by assumption)) ?_ ?_) | (with_reducible refine frame_trans (frame_putTake_error (by assumption)) ?_ ?_) | (split) | (dsimp +zetaDelta only))

theorem frame_takeSlc {M : Nat} {s0 s : State} (d) (cls) (hM : Nat.lor 7681 M = M) (h0 : Frame M s0 s) : Frame M s0 (State.takeSlc s d cls) := by
  refine frame_trans (k := 7681) ?_ hM h0
  unfold State.takeSlc
  repeat' (first | with_reducible exact frame_refl _ _ | with_reducible exact Or.inr rfl | exact Or.inl rfl | exact (rfl : Nat.lor _ _ = _) | with_reducible assumption | extract_lets | with_reducible apply frame_ite | with_reducible apply frame_next | (with_reducible apply frame_upd; with_reducible exact Or.inr rfl; fail_if_success (iterate 23 (with_reducible exact Or.inr rfl))) | (with_reducible apply frame_foldl; intro _ _) | with_reducible apply frame_takeFirst | (split) | (dsimp +zetaDelta only))

theorem frame_takeQlc {M : Nat} {s0 s : State} (d) (cls) (hM : Nat.lor 7681 M = M) (h0 : Frame M s0 s) : Frame M s0 (State.takeQlc s d cls) := by
  refine frame_trans (k := 7681) ?_ hM h0
  unfold State.takeQlc
  repeat' (first | with_reducible exact frame_refl _ _ | with_reducible exact Or.inr rfl | exact Or.inl rfl | exact (rfl : Nat.lor _ _ = _) | with_reducible assumption | extract_lets | with_reducible apply frame_ite | with_reducible apply frame_next | (with_reducible apply frame_upd; with_reducible exact Or.inr rfl; fail_if_success (iterate 23 (with_reducible exact Or.inr rfl))) | (with_reducible apply frame_foldl; intro _ _) | with_reducible apply frame_takeFirst | (split) | (dsimp +zetaDelta only))

theorem frame_takePad {M : Nat} {s0 s : State} (d) (z) (toSlc) (hM : Nat.lor 7681 M = M) (h0 : Frame M s0 s) : Frame M s0 (State.takePad s d z toSlc) := by
  refine frame_trans (k := 7681) ?_ hM h0
  unfold State.takePad
  repeat' (first | with_reducible exact frame_refl _ _ | with_reducible exact Or.inr rfl | exact Or.inl rfl | exact (rfl : Nat.lor _ _ = _) | with_reducible assumption | extract_lets | with_reducible apply frame_ite | with_reducible apply frame_next | (with_reducible apply frame_upd; with_reducible exact Or.inr rfl; fail_if_success (iterate 23 (with_reducible exact Or.inr rfl))) | (with_reducible apply frame_foldl; intro _ _) | with_reducible apply frame_takeFirst | (split) | (dsimp +zetaDelta only))

theorem frame_takeConvPad {M : Nat} {s0 s : State} (d) (nsid) (hM : Nat.lor 6144 M = M) (h0 : Frame M s0 s) : Frame M s0 (State.takeConvPad s d nsid) := by
  refine frame_trans (k := 6144) ?_ hM h0
  unfold State.takeConvPad
  repeat' (first | with_reducible exact frame_refl _ _ | with_reducible exact Or.inr rfl | exact Or.inl rfl | exact (rfl : Nat.lor _ _ = _) | with_reducible assumption | extract_lets | with_reducible apply frame_ite | with_reducible apply frame_next | (with_reducible apply frame_upd; with_reducible exact Or.inr rfl; fail_if_success (iterate 23 (with_reducible exact Or.inr rfl))) | (with_reducible apply frame_foldl; intro _ _) | (with_reducible refine frame_trans (frame_logBlock (by assumption)) ?_ ?_) | with_reducible apply frame_startProgram | (split) | (dsimp +zetaDelta only))

theorem frame_takeTail {M : Nat} {s0 s : State} (d) (z) (hM : Nat.lor 6144 M = M) (h0 : Frame M s0 s) : Frame M s0 (State.takeTail s d z) := by
  refine frame_trans (k := 6144) ?_ hM h0
  unfold State.takeTail
  repeat' (first | with_reducible exact frame_refl _ _ | with_reducible exact Or.inr rfl | exact Or.inl rfl | exact (rfl : Nat.lor _ _ = _) | with_reducible assumption | extract_lets | with_reducible apply frame_ite | with_reducible apply frame_next | (with_reducible apply frame_upd; with_reducible exact Or.inr rfl; fail_if_success (iterate 23 (with_reducible exact Or.inr rfl))) | (with_reducible apply frame_foldl; intro _ _) | with_reducible apply frame_setDie | (split) | (dsimp +zetaDelta only))

theorem frame_copyTails {M : Nat} {s0 s : State} (d) (zs) (hM : Nat.lor 4096 M = M) (h0 : Frame M s0 s) : Frame M s0 (State.copyTails s d zs) := by
  refine frame_trans (k := 4096) ?_ hM h0
  unfold State.copyTails
  repeat' (first | with_reducible exact frame_refl _ _ | with_reducible exact Or.inr rfl | exact Or.inl rfl | exact (rfl : Nat.lor _ _ = _) | with_reducible assumption | extract_lets | with_reducible apply frame_ite | with_reducible apply frame_next | (with_reducible apply frame_upd; with_reducible exact Or.inr rfl; fail_if_success (iterate 23 (with_reducible exact Or.inr rfl))) | (with_reducible apply frame_foldl; intro _ _) | with_reducible apply frame_setDieMed | with_reducible apply frame_setZone | (split) | (dsimp +zetaDelta only))

theorem frame_logOffline {M : Nat} {s0 s : State} (z) (d) (hM : Nat.lor 36864 M = M) (h0 : Frame M s0 s) : Frame M s0 (State.logOffline s z d) := by
  refine frame_trans (k := 36864) ?_ hM h0
  unfold State.logOffline
  repeat' (first | with_reducible exact frame_refl _ _ | with_reducible exact Or.inr rfl | exact Or.inl rfl | exact (rfl : Nat.lor _ _ = _) | with_reducible assumption | extract_lets | with_reducible apply frame_ite | with_reducible apply frame_next | (with_reducible apply frame_upd; with_reducible exact Or.inr rfl; fail_if_success (iterate 23 (with_reducible exact Or.inr rfl))) | (with_reducible apply frame_foldl; intro _ _) | with_reducible apply frame_asyncEvent | (split) | (dsimp +zetaDelta only))

theorem frame_offlineZone {M : Nat} {s0 s : State} (z) (d) (hM : Nat.lor 36864 M = M) (h0 : Frame M s0 s) : Frame M s0 (State.offlineZone s z d) := by
  refine frame_trans (k := 36864) ?_ hM h0
  unfold State.offlineZone
  repeat' (first | with_reducible exact frame_refl _ _ | with_reducible exact Or.inr rfl | exact Or.inl rfl | exact (rfl : Nat.lor _ _ = _) | with_reducible assumption | extract_lets | with_reducible apply frame_ite | with_reducible apply frame_next | (with_reducible apply frame_upd; with_reducible exact Or.inr rfl; fail_if_success (iterate 23 (with_reducible exact Or.inr rfl))) | (with_reducible apply frame_foldl; intro _ _) | with_reducible apply frame_setZone | with_reducible apply frame_logOffline | (split) | (dsimp +zetaDelta only))

theorem frame_settleMsgs {M : Nat} {s0 s : State} (seqs) (hM : Nat.lor 32768 M = M) (h0 : Frame M s0 s) : Frame M s0 (State.settleMsgs s seqs) := by
  refine frame_trans (k := 32768) ?_ hM h0
  unfold State.settleMsgs
  repeat' (first | with_reducible exact frame_refl _ _ | with_reducible exact Or.inr rfl | exact Or.inl rfl | exact (rfl : Nat.lor _ _ = _) | with_reducible assumption | extract_lets | with_reducible apply frame_ite | with_reducible apply frame_next | (with_reducible apply frame_upd; with_reducible exact Or.inr rfl; fail_if_success (iterate 23 (with_reducible exact Or.inr rfl))) | (with_reducible apply frame_foldl; intro _ _) | (split) | (dsimp +zetaDelta only))

theorem frame_writeTally {M : Nat} {s0 s : State} (d) (w) (hM : Nat.lor 4096 M = M) (h0 : Frame M s0 s) : Frame M s0 (State.writeTally s d w) := by
  refine frame_trans (k := 4096) ?_ hM h0
  unfold State.writeTally
  repeat' (first | with_reducible exact frame_refl _ _ | with_reducible exact Or.inr rfl | exact Or.inl rfl | exact (rfl : Nat.lor _ _ = _) | with_reducible assumption | extract_lets | with_reducible apply frame_ite | with_reducible apply frame_next | (with_reducible apply frame_upd; with_reducible exact Or.inr rfl; fail_if_success (iterate 23 (with_reducible exact Or.inr rfl))) | (with_reducible apply frame_foldl; intro _ _) | with_reducible apply frame_setDieMed | with_reducible apply frame_setZone | (split) | (dsimp +zetaDelta only))

theorem frame_divert {M : Nat} {s0 s : State} (z) (d) (hM : Nat.lor 36864 M = M) (h0 : Frame M s0 s) : Frame M s0 (State.divert s z d) := by
  refine frame_trans (k := 36864) ?_ hM h0
  unfold State.divert
  repeat' (first | with_reducible exact frame_refl _ _ | with_reducible exact Or.inr rfl | exact Or.inl rfl | exact (rfl : Nat.lor _ _ = _) | with_reducible assumption | extract_lets | with_reducible apply frame_ite | with_reducible apply frame_next | (with_reducible apply frame_upd; with_reducible exact Or.inr rfl; fail_if_success (iterate 23 (with_reducible exact Or.inr rfl))) | (with_reducible apply frame_foldl; intro _ _) | with_reducible apply frame_settleMsgs | (split) | (dsimp +zetaDelta only))

theorem frame_divertFailed {M : Nat} {s0 s : State} (hM : Nat.lor 36864 M = M) (h0 : Frame M s0 s) : Frame M s0 (State.divertFailed s) := by
  refine frame_trans (k := 36864) ?_ hM h0
  unfold State.divertFailed
  repeat' (first | with_reducible exact frame_refl _ _ | with_reducible exact Or.inr rfl | exact Or.inl rfl | exact (rfl : Nat.lor _ _ = _) | with_reducible assumption | extract_lets | with_reducible apply frame_ite | with_reducible apply frame_next | (with_reducible apply frame_upd; with_reducible exact Or.inr rfl; fail_if_success (iterate 23 (with_reducible exact Or.inr rfl))) | (with_reducible apply frame_foldl; intro _ _) | with_reducible apply frame_divert | (split) | (dsimp +zetaDelta only))

theorem frame_failZone {M : Nat} {s0 s : State} (z) (d) (i) (hM : Nat.lor 36864 M = M) (h0 : Frame M s0 s) : Frame M s0 (State.failZone s z d i) := by
  refine frame_trans (k := 36864) ?_ hM h0
  unfold State.failZone
  repeat' (first | with_reducible exact frame_refl _ _ | with_reducible exact Or.inr rfl | exact Or.inl rfl | exact (rfl : Nat.lor _ _ = _) | with_reducible assumption | extract_lets | with_reducible apply frame_ite | with_reducible apply frame_next | (with_reducible apply frame_upd; with_reducible exact Or.inr rfl; fail_if_success (iterate 23 (with_reducible exact Or.inr rfl))) | (with_reducible apply frame_foldl; intro _ _) | with_reducible apply frame_setZone | with_reducible apply frame_offlineZone | with_reducible apply frame_divert | (split) | (dsimp +zetaDelta only))

theorem frame_failDie {M : Nat} {s0 s : State} (d) (hM : Nat.lor 40449 M = M) (h0 : Frame M s0 s) : Frame M s0 (State.failDie s d) := by
  refine frame_trans (k := 40449) ?_ hM h0
  unfold State.failDie
  repeat' (first | with_reducible exact frame_refl _ _ | with_reducible exact Or.inr rfl | exact Or.inl rfl | exact (rfl : Nat.lor _ _ = _) | with_reducible assumption | extract_lets | with_reducible apply frame_ite | with_reducible apply frame_next | (with_reducible apply frame_upd; with_reducible exact Or.inr rfl; fail_if_success (iterate 23 (with_reducible exact Or.inr rfl))) | (with_reducible apply frame_foldl; intro _ _) | with_reducible apply frame_setDie | with_reducible apply frame_setDieMed | with_reducible apply frame_raiseWith | with_reducible apply frame_failZone | (split) | (dsimp +zetaDelta only))

theorem frame_spareOut {M : Nat} {s0 s : State} (d) (z) (hM : Nat.lor 5633 M = M) (h0 : Frame M s0 s) : Frame M s0 (State.spareOut s d z) := by
  refine frame_trans (k := 5633) ?_ hM h0
  unfold State.spareOut
  repeat' (first | with_reducible exact frame_refl _ _ | with_reducible exact Or.inr rfl | exact Or.inl rfl | exact (rfl : Nat.lor _ _ = _) | with_reducible assumption | extract_lets | with_reducible apply frame_ite | with_reducible apply frame_next | (with_reducible apply frame_upd; with_reducible exact Or.inr rfl; fail_if_success (iterate 23 (with_reducible exact Or.inr rfl))) | (with_reducible apply frame_foldl; intro _ _) | with_reducible apply frame_setDieMed | with_reducible apply frame_setZone | with_reducible apply frame_raiseWith | (split) | (dsimp +zetaDelta only))

theorem frame_retireBlock {M : Nat} {s0 s : State} (d) (b) (cause) (hM : Nat.lor 40449 M = M) (h0 : Frame M s0 s) : Frame M s0 (State.retireBlock s d b cause) := by
  refine frame_trans (k := 40449) ?_ hM h0
  unfold State.retireBlock
  repeat' (first | with_reducible exact frame_refl _ _ | with_reducible exact Or.inr rfl | exact Or.inl rfl | exact (rfl : Nat.lor _ _ = _) | with_reducible assumption | extract_lets | with_reducible apply frame_ite | with_reducible apply frame_next | (with_reducible apply frame_upd; with_reducible exact Or.inr rfl; fail_if_success (iterate 23 (with_reducible exact Or.inr rfl))) | (with_reducible apply frame_foldl; intro _ _) | with_reducible apply frame_setDieMed | with_reducible apply frame_setBlock | with_reducible apply frame_raiseWith | with_reducible apply frame_failDie | with_reducible apply frame_spareOut | (split) | (dsimp +zetaDelta only))

theorem frame_rejectEvent {M : Nat} {s0 s : State} (i) (r) (hM : Nat.lor 513 M = M) (h0 : Frame M s0 s) : Frame M s0 (State.rejectEvent s i r) := by
  refine frame_trans (k := 513) ?_ hM h0
  unfold State.rejectEvent
  repeat' (first | with_reducible exact frame_refl _ _ | with_reducible exact Or.inr rfl | exact Or.inl rfl | exact (rfl : Nat.lor _ _ = _) | with_reducible assumption | extract_lets | with_reducible apply frame_ite | with_reducible apply frame_next | (with_reducible apply frame_upd; with_reducible exact Or.inr rfl; fail_if_success (iterate 23 (with_reducible exact Or.inr rfl))) | (with_reducible apply frame_foldl; intro _ _) | with_reducible apply frame_event | (split) | (dsimp +zetaDelta only))

theorem frame_putVarResult {M : Nat} {s0 s : State} (i) (status) (place) (hM : Nat.lor 1 M = M) (h0 : Frame M s0 s) : Frame M s0 (State.putVarResult s i status place) := by
  refine frame_trans (k := 1) ?_ hM h0
  unfold State.putVarResult
  repeat' (first | with_reducible exact frame_refl _ _ | with_reducible exact Or.inr rfl | exact Or.inl rfl | exact (rfl : Nat.lor _ _ = _) | with_reducible assumption | extract_lets | with_reducible apply frame_ite | with_reducible apply frame_next | (with_reducible apply frame_upd; with_reducible exact Or.inr rfl; fail_if_success (iterate 23 (with_reducible exact Or.inr rfl))) | (with_reducible apply frame_foldl; intro _ _) | with_reducible apply frame_setReg | (split) | (dsimp +zetaDelta only))

theorem frame_varResult {M : Nat} {s0 s : State} (i) (r) (hM : Nat.lor 1537 M = M) (h0 : Frame M s0 s) : Frame M s0 (State.varResult s i r) := by
  refine frame_trans (k := 1537) ?_ hM h0
  unfold State.varResult
  repeat' (first | with_reducible exact frame_refl _ _ | with_reducible exact Or.inr rfl | exact Or.inl rfl | exact (rfl : Nat.lor _ _ = _) | with_reducible assumption | extract_lets | with_reducible apply frame_ite | with_reducible apply frame_next | (with_reducible apply frame_upd; with_reducible exact Or.inr rfl; fail_if_success (iterate 23 (with_reducible exact Or.inr rfl))) | (with_reducible apply frame_foldl; intro _ _) | with_reducible apply frame_raise | with_reducible apply frame_rejectEvent | with_reducible apply frame_putVarResult | (split) | (dsimp +zetaDelta only))

theorem frame_checkVariants {M : Nat} {s0 s : State} (p) (g) (rom) (x4) (x5) (hM : Nat.lor 3585 M = M) (h0 : Frame M s0 s) :
    Frame M s0 (State.checkVariants s p g rom x4 x5) := by
  refine frame_trans (k := 3585) ?_ hM h0
  clear hM h0
  induction x5 generalizing s x4 with
  | nil => exact frame_refl _ _
  | cons i is ih =>
    change Frame 3585 s (match psVariant p i with
      | none => (s.putVarResult i 0 0).checkVariants p g rom x4 is
      | some v =>
        match checkVariant p g s.bindings (x4 ++ rom) i v with
        | none => State.checkVariants { s.varResult i none with ldg := { (s.varResult i none).ldg with accepted := s.ldg.accepted ++ [i] } }
            p g rom (x4 ++ [(i, layVariant v)]) is
        | some r => (s.varResult i (some r)).checkVariants p g rom x4 is)
    cases psVariant p i with
    | none => exact frame_trans (ih _) rfl (frame_putVarResult _ _ _ rfl (frame_refl _ _))
    | some v =>
      dsimp only
      generalize checkVariant p g s.bindings (x4 ++ rom) i v = r
      cases r with
      | none =>
        have h1 : Frame 3585 s (s.varResult i none) := frame_varResult i none rfl (frame_refl _ _)
        refine frame_trans (ih _) rfl ?_
        generalize s.varResult i none = t at h1
        repeat' (first | with_reducible exact frame_refl _ _ | (with_reducible apply frame_upd; with_reducible exact Or.inr rfl; fail_if_success (iterate 23 (with_reducible exact Or.inr rfl))) | with_reducible exact Or.inr rfl | exact Or.inl rfl | exact (rfl : Nat.lor _ _ = _) | exact h1)
      | some r => exact frame_trans (ih _) rfl (frame_varResult _ _ rfl (frame_refl _ _))

theorem frame_loadPlans {M : Nat} {s0 s : State} (im) (hM : Nat.lor 3585 M = M) (h0 : Frame M s0 s) : Frame M s0 (State.loadPlans s im) := by
  refine frame_trans (k := 3585) ?_ hM h0
  unfold State.loadPlans
  repeat' (first | with_reducible exact frame_refl _ _ | with_reducible exact Or.inr rfl | exact Or.inl rfl | exact (rfl : Nat.lor _ _ = _) | with_reducible assumption | extract_lets | with_reducible apply frame_ite | with_reducible apply frame_next | (with_reducible apply frame_upd; with_reducible exact Or.inr rfl; fail_if_success (iterate 23 (with_reducible exact Or.inr rfl))) | (with_reducible apply frame_foldl; intro _ _) | with_reducible apply frame_raiseAll | with_reducible apply frame_rejectEvent | with_reducible apply frame_putVarResult | with_reducible apply frame_checkVariants | (split) | (dsimp +zetaDelta only))

theorem frame_bindResult {M : Nat} {s0 s : State} (m) (check) (hM : Nat.lor 1 M = M) (h0 : Frame M s0 s) : Frame M s0 (State.bindResult s m check) := by
  refine frame_trans (k := 1) ?_ hM h0
  unfold State.bindResult
  repeat' (first | with_reducible exact frame_refl _ _ | with_reducible exact Or.inr rfl | exact Or.inl rfl | exact (rfl : Nat.lor _ _ = _) | with_reducible assumption | extract_lets | with_reducible apply frame_ite | with_reducible apply frame_next | (with_reducible apply frame_upd; with_reducible exact Or.inr rfl; fail_if_success (iterate 23 (with_reducible exact Or.inr rfl))) | (with_reducible apply frame_foldl; intro _ _) | with_reducible apply frame_setReg | (split) | (dsimp +zetaDelta only))

theorem frame_bindNow {M : Nat} {s0 s : State} (m) (x2) (hM : Nat.lor 32768 M = M) (h0 : Frame M s0 s) : Frame M s0 (State.bindNow s m x2) := by
  refine frame_trans (k := 32768) ?_ hM h0
  unfold State.bindNow
  repeat' (first | with_reducible exact frame_refl _ _ | with_reducible exact Or.inr rfl | exact Or.inl rfl | exact (rfl : Nat.lor _ _ = _) | with_reducible assumption | extract_lets | with_reducible apply frame_ite | with_reducible apply frame_next | (with_reducible apply frame_upd; with_reducible exact Or.inr rfl; fail_if_success (iterate 23 (with_reducible exact Or.inr rfl))) | (with_reducible apply frame_foldl; intro _ _) | with_reducible apply frame_setAcct | with_reducible apply frame_readyNow | (split) | (dsimp +zetaDelta only))

theorem frame_qpError {M : Nat} {s0 s : State} (i) (hM : Nat.lor 525825 M = M) (h0 : Frame M s0 s) : Frame M s0 (State.qpError s i) := by
  refine frame_trans (k := 525825) ?_ hM h0
  unfold State.qpError
  repeat' (first | with_reducible exact frame_refl _ _ | with_reducible exact Or.inr rfl | exact Or.inl rfl | exact (rfl : Nat.lor _ _ = _) | with_reducible assumption | extract_lets | with_reducible apply frame_ite | with_reducible apply frame_next | (with_reducible apply frame_upd; with_reducible exact Or.inr rfl; fail_if_success (iterate 23 (with_reducible exact Or.inr rfl))) | (with_reducible apply frame_foldl; intro _ _) | with_reducible apply frame_raise | (split) | (dsimp +zetaDelta only))

theorem frame_unbind {M : Nat} {s0 s : State} (m) (hM : Nat.lor 820737 M = M) (h0 : Frame M s0 s) : Frame M s0 (State.unbind s m) := by
  refine frame_trans (k := 820737) ?_ hM h0
  unfold State.unbind
  repeat' (first | with_reducible exact frame_refl _ _ | with_reducible exact Or.inr rfl | exact Or.inl rfl | exact (rfl : Nat.lor _ _ = _) | with_reducible assumption | extract_lets | with_reducible apply frame_ite | with_reducible apply frame_next | (with_reducible apply frame_upd; with_reducible exact Or.inr rfl; fail_if_success (iterate 23 (with_reducible exact Or.inr rfl))) | (with_reducible apply frame_foldl; intro _ _) | with_reducible apply frame_setCtrl | with_reducible apply frame_setAcct | with_reducible apply frame_clearSlots | with_reducible apply frame_qpError | (split) | (dsimp +zetaDelta only))

theorem frame_bindLoadFail {M : Nat} {s0 s : State} (m) (hM : Nat.lor 34305 M = M) (h0 : Frame M s0 s) : Frame M s0 (State.bindLoadFail s m) := by
  refine frame_trans (k := 34305) ?_ hM h0
  unfold State.bindLoadFail
  repeat' (first | with_reducible exact frame_refl _ _ | with_reducible exact Or.inr rfl | exact Or.inl rfl | exact (rfl : Nat.lor _ _ = _) | with_reducible assumption | extract_lets | with_reducible apply frame_ite | with_reducible apply frame_next | (with_reducible apply frame_upd; with_reducible exact Or.inr rfl; fail_if_success (iterate 23 (with_reducible exact Or.inr rfl))) | (with_reducible apply frame_foldl; intro _ _) | with_reducible apply frame_setAcct | with_reducible apply frame_raiseWith | (split) | (dsimp +zetaDelta only))

theorem frame_bindAtLoad {M : Nat} {s0 s : State} (m) (h) (hM : Nat.lor 34305 M = M) (h0 : Frame M s0 s) : Frame M s0 (State.bindAtLoad s m h) := by
  refine frame_trans (k := 34305) ?_ hM h0
  unfold State.bindAtLoad
  repeat' (first | with_reducible exact frame_refl _ _ | with_reducible exact Or.inr rfl | exact Or.inl rfl | exact (rfl : Nat.lor _ _ = _) | with_reducible assumption | extract_lets | with_reducible apply frame_ite | with_reducible apply frame_next | (with_reducible apply frame_upd; with_reducible exact Or.inr rfl; fail_if_success (iterate 23 (with_reducible exact Or.inr rfl))) | (with_reducible apply frame_foldl; intro _ _) | with_reducible apply frame_setAcct | with_reducible apply frame_raiseWith | (split) | (dsimp +zetaDelta only))

theorem frame_loadAccounts {M : Nat} {s0 s : State} (im) (hM : Nat.lor 34305 M = M) (h0 : Frame M s0 s) : Frame M s0 (State.loadAccounts s im) := by
  refine frame_trans (k := 34305) ?_ hM h0
  unfold State.loadAccounts
  repeat' (first | with_reducible exact frame_refl _ _ | with_reducible exact Or.inr rfl | exact Or.inl rfl | exact (rfl : Nat.lor _ _ = _) | with_reducible assumption | extract_lets | with_reducible apply frame_ite | with_reducible apply frame_next | (with_reducible apply frame_upd; with_reducible exact Or.inr rfl; fail_if_success (iterate 23 (with_reducible exact Or.inr rfl))) | (with_reducible apply frame_foldl; intro _ _) | with_reducible apply frame_setAcct | with_reducible apply frame_raiseWith | with_reducible apply frame_bindLoadFail | with_reducible apply frame_bindAtLoad | (split) | (dsimp +zetaDelta only))

theorem frame_wholeCredit {M : Nat} {s0 s : State} (im) (hM : Nat.lor 32768 M = M) (h0 : Frame M s0 s) : Frame M s0 (State.wholeCredit s im) := by
  refine frame_trans (k := 32768) ?_ hM h0
  unfold State.wholeCredit
  repeat' (first | with_reducible exact frame_refl _ _ | with_reducible exact Or.inr rfl | exact Or.inl rfl | exact (rfl : Nat.lor _ _ = _) | with_reducible assumption | extract_lets | with_reducible apply frame_ite | with_reducible apply frame_next | (with_reducible apply frame_upd; with_reducible exact Or.inr rfl; fail_if_success (iterate 23 (with_reducible exact Or.inr rfl))) | (with_reducible apply frame_foldl; intro _ _) | with_reducible apply frame_setAcct | (split) | (dsimp +zetaDelta only))

theorem frame_interruptHeld {M : Nat} {s0 s : State} (h) (hM : Nat.lor 175617 M = M) (h0 : Frame M s0 s) : Frame M s0 (State.interruptHeld s h) := by
  refine frame_trans (k := 175617) ?_ hM h0
  unfold State.interruptHeld
  repeat' (first | with_reducible exact frame_refl _ _ | with_reducible exact Or.inr rfl | exact Or.inl rfl | exact (rfl : Nat.lor _ _ = _) | with_reducible assumption | extract_lets | with_reducible apply frame_ite | with_reducible apply frame_next | (with_reducible apply frame_upd; with_reducible exact Or.inr rfl; fail_if_success (iterate 23 (with_reducible exact Or.inr rfl))) | (with_reducible apply frame_foldl; intro _ _) | with_reducible apply frame_toPost | (split) | (dsimp +zetaDelta only))

theorem frame_quiesceMember {M : Nat} {s0 s : State} (m) (flr) (hM : Nat.lor 175617 M = M) (h0 : Frame M s0 s) : Frame M s0 (State.quiesceMember s m flr) := by
  refine frame_trans (k := 175617) ?_ hM h0
  unfold State.quiesceMember
  repeat' (first | with_reducible exact frame_refl _ _ | with_reducible exact Or.inr rfl | exact Or.inl rfl | exact (rfl : Nat.lor _ _ = _) | with_reducible assumption | extract_lets | with_reducible apply frame_ite | with_reducible apply frame_next | (with_reducible apply frame_upd; with_reducible exact Or.inr rfl; fail_if_success (iterate 23 (with_reducible exact Or.inr rfl))) | (with_reducible apply frame_foldl; intro _ _) | with_reducible apply frame_setAcct | with_reducible apply frame_interruptHeld | (split) | (dsimp +zetaDelta only))

theorem frame_startQuiesce {M : Nat} {s0 s : State} (a) (flr) (hM : Nat.lor 175617 M = M) (h0 : Frame M s0 s) : Frame M s0 (State.startQuiesce s a flr) := by
  refine frame_trans (k := 175617) ?_ hM h0
  unfold State.startQuiesce
  repeat' (first | with_reducible exact frame_refl _ _ | with_reducible exact Or.inr rfl | exact Or.inl rfl | exact (rfl : Nat.lor _ _ = _) | with_reducible assumption | extract_lets | with_reducible apply frame_ite | with_reducible apply frame_next | (with_reducible apply frame_upd; with_reducible exact Or.inr rfl; fail_if_success (iterate 23 (with_reducible exact Or.inr rfl))) | (with_reducible apply frame_foldl; intro _ _) | with_reducible apply frame_setFld | with_reducible apply frame_quiesceMember | (split) | (dsimp +zetaDelta only))

theorem frame_freeLane {M : Nat} {s0 s : State} (h) (hM : Nat.lor 1081344 M = M) (h0 : Frame M s0 s) : Frame M s0 (State.freeLane s h) := by
  refine frame_trans (k := 1081344) ?_ hM h0
  unfold State.freeLane
  repeat' (first | with_reducible exact frame_refl _ _ | with_reducible exact Or.inr rfl | exact Or.inl rfl | exact (rfl : Nat.lor _ _ = _) | with_reducible assumption | extract_lets | with_reducible apply frame_ite | with_reducible apply frame_next | (with_reducible apply frame_upd; with_reducible exact Or.inr rfl; fail_if_success (iterate 23 (with_reducible exact Or.inr rfl))) | (with_reducible apply frame_foldl; intro _ _) | with_reducible apply frame_setCmd | with_reducible apply frame_setLane | (split) | (dsimp +zetaDelta only))

theorem frame_cutOne {M : Nat} {s0 s : State} (h) (hM : Nat.lor 1228289 M = M) (h0 : Frame M s0 s) : Frame M s0 (State.cutOne s h) := by
  refine frame_trans (k := 1228289) ?_ hM h0
  unfold State.cutOne
  repeat' (first | with_reducible exact frame_refl _ _ | with_reducible exact Or.inr rfl | exact Or.inl rfl | exact (rfl : Nat.lor _ _ = _) | with_reducible assumption | extract_lets | with_reducible apply frame_ite | with_reducible apply frame_next | (with_reducible apply frame_upd; with_reducible exact Or.inr rfl; fail_if_success (iterate 23 (with_reducible exact Or.inr rfl))) | (with_reducible apply frame_foldl; intro _ _) | with_reducible apply frame_raise | with_reducible apply frame_toPost | with_reducible apply frame_endWrite | with_reducible apply frame_withdraw | with_reducible apply frame_readKick | with_reducible apply frame_freeLane | (split) | (dsimp +zetaDelta only))

theorem frame_execQuiesceCut {s : State} (member) : FrameO 2014721 s (execQuiesceCut member s) := by
  unfold execQuiesceCut
  repeat' (first | with_reducible exact frame_refl _ _ | with_reducible exact Or.inr rfl | exact Or.inl rfl | exact (rfl : Nat.lor _ _ = _) | with_reducible assumption | extract_lets | with_reducible apply frame_ite | with_reducible apply frame_next | (with_reducible apply frame_upd; with_reducible exact Or.inr rfl; fail_if_success (iterate 23 (with_reducible exact Or.inr rfl))) | (with_reducible apply frame_foldl; intro _ _) | with_reducible apply frame_setAcct | with_reducible apply frame_kick | with_reducible apply frame_cutOne | (split) | (dsimp +zetaDelta only))

theorem frame_resetOne {M : Nat} {s0 s : State} (h) (hM : Nat.lor 179713 M = M) (h0 : Frame M s0 s) : Frame M s0 (State.resetOne s h) := by
  refine frame_trans (k := 179713) ?_ hM h0
  unfold State.resetOne
  repeat' (first | with_reducible exact frame_refl _ _ | with_reducible exact Or.inr rfl | exact Or.inl rfl | exact (rfl : Nat.lor _ _ = _) | with_reducible assumption | extract_lets | with_reducible apply frame_ite | with_reducible apply frame_next | (with_reducible apply frame_upd; with_reducible exact Or.inr rfl; fail_if_success (iterate 23 (with_reducible exact Or.inr rfl))) | (with_reducible apply frame_foldl; intro _ _) | with_reducible apply frame_setCmd | with_reducible apply frame_finish | with_reducible apply frame_toPost | with_reducible apply frame_endWrite | with_reducible apply frame_withdraw | with_reducible apply frame_readKick | (split) | (dsimp +zetaDelta only))

theorem frame_beginReset {M : Nat} {s0 s : State} (f) (hM : Nat.lor 2080257 M = M) (h0 : Frame M s0 s) : Frame M s0 (State.beginReset s f) := by
  refine frame_trans (k := 2080257) ?_ hM h0
  unfold State.beginReset
  repeat' (first | with_reducible exact frame_refl _ _ | with_reducible exact Or.inr rfl | exact Or.inl rfl | exact (rfl : Nat.lor _ _ = _) | with_reducible assumption | extract_lets | with_reducible apply frame_ite | with_reducible apply frame_next | (with_reducible apply frame_upd; with_reducible exact Or.inr rfl; fail_if_success (iterate 23 (with_reducible exact Or.inr rfl))) | (with_reducible apply frame_foldl; intro _ _) | with_reducible apply frame_setCtrl | with_reducible apply frame_setCtx | with_reducible apply frame_kick | with_reducible apply frame_resetOne | (split) | (dsimp +zetaDelta only))

theorem frame_writeEnOff {M : Nat} {s0 s : State} (func) (hM : Nat.lor 2080257 M = M) (h0 : Frame M s0 s) : Frame M s0 (State.writeEnOff s func) := by
  refine frame_trans (k := 2080257) ?_ hM h0
  unfold State.writeEnOff
  repeat' (first | with_reducible exact frame_refl _ _ | with_reducible exact Or.inr rfl | exact Or.inl rfl | exact (rfl : Nat.lor _ _ = _) | with_reducible assumption | extract_lets | with_reducible apply frame_ite | with_reducible apply frame_next | (with_reducible apply frame_upd; with_reducible exact Or.inr rfl; fail_if_success (iterate 23 (with_reducible exact Or.inr rfl))) | (with_reducible apply frame_foldl; intro _ _) | with_reducible apply frame_beginReset | (split) | (dsimp +zetaDelta only))

theorem frame_execControllerReset {s : State} (func) : FrameO 2080257 s (execControllerReset func s) := by
  unfold execControllerReset
  repeat' (first | with_reducible exact frame_refl _ _ | with_reducible exact Or.inr rfl | exact Or.inl rfl | exact (rfl : Nat.lor _ _ = _) | with_reducible assumption | extract_lets | with_reducible apply frame_ite | with_reducible apply frame_next | (with_reducible apply frame_upd; with_reducible exact Or.inr rfl; fail_if_success (iterate 23 (with_reducible exact Or.inr rfl))) | (with_reducible apply frame_foldl; intro _ _) | with_reducible apply frame_writeEnOff | (split) | (dsimp +zetaDelta only))

theorem frame_writeEnOn {M : Nat} {s0 s : State} (func) (cc) (hM : Nat.lor 32800 M = M) (h0 : Frame M s0 s) : Frame M s0 (State.writeEnOn s func cc) := by
  refine frame_trans (k := 32800) ?_ hM h0
  unfold State.writeEnOn
  repeat' (first | with_reducible exact frame_refl _ _ | with_reducible exact Or.inr rfl | exact Or.inl rfl | exact (rfl : Nat.lor _ _ = _) | with_reducible assumption | extract_lets | with_reducible apply frame_ite | with_reducible apply frame_next | (with_reducible apply frame_upd; with_reducible exact Or.inr rfl; fail_if_success (iterate 23 (with_reducible exact Or.inr rfl))) | (with_reducible apply frame_foldl; intro _ _) | with_reducible apply frame_setCtrl | with_reducible apply frame_setAcct | with_reducible apply frame_readyNow | with_reducible apply frame_enableKick | (split) | (dsimp +zetaDelta only))

theorem frame_execControllerEnable {s : State} (func) (cc) : FrameO 32800 s (execControllerEnable func cc s) := by
  unfold execControllerEnable
  repeat' (first | with_reducible exact frame_refl _ _ | with_reducible exact Or.inr rfl | exact Or.inl rfl | exact (rfl : Nat.lor _ _ = _) | with_reducible assumption | extract_lets | with_reducible apply frame_ite | with_reducible apply frame_next | (with_reducible apply frame_upd; with_reducible exact Or.inr rfl; fail_if_success (iterate 23 (with_reducible exact Or.inr rfl))) | (with_reducible apply frame_foldl; intro _ _) | with_reducible apply frame_writeEnOn | (split) | (dsimp +zetaDelta only))

theorem frame_shutdownVf {M : Nat} {s0 s : State} (func) (hM : Nat.lor 2014721 M = M) (h0 : Frame M s0 s) : Frame M s0 (State.shutdownVf s func) := by
  refine frame_trans (k := 2014721) ?_ hM h0
  unfold State.shutdownVf
  repeat' (first | with_reducible exact frame_refl _ _ | with_reducible exact Or.inr rfl | exact Or.inl rfl | exact (rfl : Nat.lor _ _ = _) | with_reducible assumption | extract_lets | with_reducible apply frame_ite | with_reducible apply frame_next | (with_reducible apply frame_upd; with_reducible exact Or.inr rfl; fail_if_success (iterate 23 (with_reducible exact Or.inr rfl))) | (with_reducible apply frame_foldl; intro _ _) | with_reducible apply frame_setCtrl | with_reducible apply frame_setAcct | with_reducible apply frame_kick | with_reducible apply frame_startQuiesce | (split) | (dsimp +zetaDelta only))

theorem frame_execVfShutdownNotification {s : State} (func) : FrameO 2014721 s (execVfShutdownNotification func s) := by
  unfold execVfShutdownNotification
  repeat' (first | with_reducible exact frame_refl _ _ | with_reducible exact Or.inr rfl | exact Or.inl rfl | exact (rfl : Nat.lor _ _ = _) | with_reducible assumption | extract_lets | with_reducible apply frame_ite | with_reducible apply frame_next | (with_reducible apply frame_upd; with_reducible exact Or.inr rfl; fail_if_success (iterate 23 (with_reducible exact Or.inr rfl))) | (with_reducible apply frame_foldl; intro _ _) | with_reducible apply frame_shutdownVf | (split) | (dsimp +zetaDelta only))

theorem frame_flrOne {M : Nat} {s0 s : State} (h) (hM : Nat.lor 1228289 M = M) (h0 : Frame M s0 s) : Frame M s0 (State.flrOne s h) := by
  refine frame_trans (k := 1228289) ?_ hM h0
  unfold State.flrOne
  repeat' (first | with_reducible exact frame_refl _ _ | with_reducible exact Or.inr rfl | exact Or.inl rfl | exact (rfl : Nat.lor _ _ = _) | with_reducible assumption | extract_lets | with_reducible apply frame_ite | with_reducible apply frame_next | (with_reducible apply frame_upd; with_reducible exact Or.inr rfl; fail_if_success (iterate 23 (with_reducible exact Or.inr rfl))) | (with_reducible apply frame_foldl; intro _ _) | with_reducible apply frame_setCmd | with_reducible apply frame_finish | with_reducible apply frame_toPost | with_reducible apply frame_endWrite | with_reducible apply frame_freeLane | (split) | (dsimp +zetaDelta only))

theorem frame_endHalt {M : Nat} {s0 s : State} (a) (hM : Nat.lor 65536 M = M) (h0 : Frame M s0 s) : Frame M s0 (State.endHalt s a) := by
  refine frame_trans (k := 65536) ?_ hM h0
  unfold State.endHalt
  repeat' (first | with_reducible exact frame_refl _ _ | with_reducible exact Or.inr rfl | exact Or.inl rfl | exact (rfl : Nat.lor _ _ = _) | with_reducible assumption | extract_lets | with_reducible apply frame_ite | with_reducible apply frame_next | (with_reducible apply frame_upd; with_reducible exact Or.inr rfl; fail_if_success (iterate 23 (with_reducible exact Or.inr rfl))) | (with_reducible apply frame_foldl; intro _ _) | with_reducible apply frame_setCtx | (split) | (dsimp +zetaDelta only))

theorem frame_execFlr {s : State} (func) : FrameO 2080257 s (execFlr func s) := by
  unfold execFlr
  repeat' (first | with_reducible exact frame_refl _ _ | with_reducible exact Or.inr rfl | exact Or.inl rfl | exact (rfl : Nat.lor _ _ = _) | with_reducible assumption | extract_lets | with_reducible apply frame_ite | with_reducible apply frame_next | (with_reducible apply frame_upd; with_reducible exact Or.inr rfl; fail_if_success (iterate 23 (with_reducible exact Or.inr rfl))) | (with_reducible apply frame_foldl; intro _ _) | with_reducible apply frame_setAcct | with_reducible apply frame_raise | with_reducible apply frame_flrReset | with_reducible apply frame_kick | with_reducible apply frame_startQuiesce | with_reducible apply frame_flrOne | with_reducible apply frame_endHalt | (split) | (dsimp +zetaDelta only))

theorem frame_execFlrTimeout {s : State} (func) : FrameO 2014721 s (execFlrTimeout func s) := by
  unfold execFlrTimeout
  repeat' (first | with_reducible exact frame_refl _ _ | with_reducible exact Or.inr rfl | exact Or.inl rfl | exact (rfl : Nat.lor _ _ = _) | with_reducible assumption | extract_lets | with_reducible apply frame_ite | with_reducible apply frame_next | (with_reducible apply frame_upd; with_reducible exact Or.inr rfl; fail_if_success (iterate 23 (with_reducible exact Or.inr rfl))) | (with_reducible apply frame_foldl; intro _ _) | with_reducible apply frame_flrReset | with_reducible apply frame_kick | (split) | (dsimp +zetaDelta only))

theorem frame_pasidYield {M : Nat} {s0 s : State} (n) (pasid) (hM : Nat.lor 34305 M = M) (h0 : Frame M s0 s) : Frame M s0 (State.pasidYield s n pasid) := by
  refine frame_trans (k := 34305) ?_ hM h0
  unfold State.pasidYield
  repeat' (first | with_reducible exact frame_refl _ _ | with_reducible exact Or.inr rfl | exact Or.inl rfl | exact (rfl : Nat.lor _ _ = _) | with_reducible assumption | extract_lets | with_reducible apply frame_ite | with_reducible apply frame_next | (with_reducible apply frame_upd; with_reducible exact Or.inr rfl; fail_if_success (iterate 23 (with_reducible exact Or.inr rfl))) | (with_reducible apply frame_foldl; intro _ _) | with_reducible apply frame_setReg | with_reducible apply frame_setAcct | with_reducible apply frame_raise | (split) | (dsimp +zetaDelta only))

theorem frame_execSliceEnable {s : State} (who) (n) (value) (pasidOn) : FrameO 34305 s (execSliceEnable who n value pasidOn s) := by
  unfold execSliceEnable
  repeat' (first | with_reducible exact frame_refl _ _ | with_reducible exact Or.inr rfl | exact Or.inl rfl | exact (rfl : Nat.lor _ _ = _) | with_reducible assumption | extract_lets | with_reducible apply frame_ite | with_reducible apply frame_next | (with_reducible apply frame_upd; with_reducible exact Or.inr rfl; fail_if_success (iterate 23 (with_reducible exact Or.inr rfl))) | (with_reducible apply frame_foldl; intro _ _) | with_reducible apply frame_setReg | with_reducible apply frame_raise | with_reducible apply frame_bindResult | with_reducible apply frame_bindNow | with_reducible apply frame_pasidYield | (split) | (dsimp +zetaDelta only))

theorem frame_execSliceDisable {s : State} (who) (n) : FrameO 2014721 s (execSliceDisable who n s) := by
  unfold execSliceDisable
  repeat' (first | with_reducible exact frame_refl _ _ | with_reducible exact Or.inr rfl | exact Or.inl rfl | exact (rfl : Nat.lor _ _ = _) | with_reducible assumption | extract_lets | with_reducible apply frame_ite | with_reducible apply frame_next | (with_reducible apply frame_upd; with_reducible exact Or.inr rfl; fail_if_success (iterate 23 (with_reducible exact Or.inr rfl))) | (with_reducible apply frame_foldl; intro _ _) | with_reducible apply frame_setFld | with_reducible apply frame_setAcct | with_reducible apply frame_clearSlots | with_reducible apply frame_kick | with_reducible apply frame_quiesceMember | (split) | (dsimp +zetaDelta only))

theorem frame_execQsliceApply {s : State} (who) (value) : FrameO 32769 s (execQsliceApply who value s) := by
  unfold execQsliceApply
  repeat' (first | with_reducible exact frame_refl _ _ | with_reducible exact Or.inr rfl | exact Or.inl rfl | exact (rfl : Nat.lor _ _ = _) | with_reducible assumption | extract_lets | with_reducible apply frame_ite | with_reducible apply frame_next | (with_reducible apply frame_upd; with_reducible exact Or.inr rfl; fail_if_success (iterate 23 (with_reducible exact Or.inr rfl))) | (with_reducible apply frame_foldl; intro _ _) | with_reducible apply frame_setReg | with_reducible apply frame_setFld | with_reducible apply frame_setQueue | (split) | (dsimp +zetaDelta only))

theorem frame_execDlogHeadWrite {s : State} (who) (value) : FrameO 1 s (execDlogHeadWrite who value s) := by
  unfold execDlogHeadWrite
  repeat' (first | with_reducible exact frame_refl _ _ | with_reducible exact Or.inr rfl | exact Or.inl rfl | exact (rfl : Nat.lor _ _ = _) | with_reducible assumption | extract_lets | with_reducible apply frame_ite | with_reducible apply frame_next | (with_reducible apply frame_upd; with_reducible exact Or.inr rfl; fail_if_success (iterate 23 (with_reducible exact Or.inr rfl))) | (with_reducible apply frame_foldl; intro _ _) | with_reducible apply frame_setReg | (split) | (dsimp +zetaDelta only))

theorem frame_execVfEnable {s : State} (vfs) : FrameO 32768 s (execVfEnable vfs s) := by
  unfold execVfEnable
  repeat' (first | with_reducible exact frame_refl _ _ | with_reducible exact Or.inr rfl | exact Or.inl rfl | exact (rfl : Nat.lor _ _ = _) | with_reducible assumption | extract_lets | with_reducible apply frame_ite | with_reducible apply frame_next | (with_reducible apply frame_upd; with_reducible exact Or.inr rfl; fail_if_success (iterate 23 (with_reducible exact Or.inr rfl))) | (with_reducible apply frame_foldl; intro _ _) | with_reducible apply frame_readyNow | (split) | (dsimp +zetaDelta only))

end Sys2Proof.Machine
end

