-- ==== Sys2Proof/Laws/FramePower.lean ====
section
/-!
SUPPORT. Frames: what the functions may change of loops, levels, the Reserve, I/O commands, the drain, processors, management messages, relocation, media commands, sleep; one lemma for each function.
-/
set_option linter.all false
set_option Elab.async false

namespace Sys2Proof.Machine

theorem frame_loadRecipes {M : Nat} {s0 s : State} (x1) (hM : Nat.lor 1050113 M = M) (h0 : Frame M s0 s) : Frame M s0 (State.loadRecipes s x1) := by
  refine frame_trans (k := 1050113) ?_ hM h0
  unfold State.loadRecipes
  repeat' (first | with_reducible exact frame_refl _ _ | with_reducible exact Or.inr rfl | exact Or.inl rfl | exact (rfl : Nat.lor _ _ = _) | with_reducible assumption | extract_lets | with_reducible apply frame_ite | with_reducible apply frame_next | (with_reducible apply frame_upd; with_reducible exact Or.inr rfl; fail_if_success (iterate 23 (with_reducible exact Or.inr rfl))) | (with_reducible apply frame_foldl; intro _ _) | with_reducible apply frame_setReg | with_reducible apply frame_raise | (split) | (dsimp +zetaDelta only))

theorem frame_layDoor {M : Nat} {s0 s : State} (l) (v) (door) (hM : Nat.lor 3585 M = M) (h0 : Frame M s0 s) : Frame M s0 (State.layDoor s l v door) := by
  refine frame_trans (k := 3585) ?_ hM h0
  unfold State.layDoor
  repeat' (first | with_reducible exact frame_refl _ _ | with_reducible exact Or.inr rfl | exact Or.inl rfl | exact (rfl : Nat.lor _ _ = _) | with_reducible assumption | extract_lets | with_reducible apply frame_ite | with_reducible apply frame_next | (with_reducible apply frame_upd; with_reducible exact Or.inr rfl; fail_if_success (iterate 23 (with_reducible exact Or.inr rfl))) | (with_reducible apply frame_foldl; intro _ _) | with_reducible apply frame_setReg | with_reducible apply frame_raise | (split) | (dsimp +zetaDelta only))

theorem frame_layLanes {M : Nat} {s0 s : State} (l) (v) (hM : Nat.lor 3585 M = M) (h0 : Frame M s0 s) : Frame M s0 (State.layLanes s l v) := by
  refine frame_trans (k := 3585) ?_ hM h0
  unfold State.layLanes
  repeat' (first | with_reducible exact frame_refl _ _ | with_reducible exact Or.inr rfl | exact Or.inl rfl | exact (rfl : Nat.lor _ _ = _) | with_reducible assumption | extract_lets | with_reducible apply frame_ite | with_reducible apply frame_next | (with_reducible apply frame_upd; with_reducible exact Or.inr rfl; fail_if_success (iterate 23 (with_reducible exact Or.inr rfl))) | (with_reducible apply frame_foldl; intro _ _) | with_reducible apply frame_layDoor | (split) | (dsimp +zetaDelta only))

theorem frame_layAll {M : Nat} {s0 s : State} (im) (hM : Nat.lor 3585 M = M) (h0 : Frame M s0 s) : Frame M s0 (State.layAll s im) := by
  refine frame_trans (k := 3585) ?_ hM h0
  unfold State.layAll
  repeat' (first | with_reducible exact frame_refl _ _ | with_reducible exact Or.inr rfl | exact Or.inl rfl | exact (rfl : Nat.lor _ _ = _) | with_reducible assumption | extract_lets | with_reducible apply frame_ite | with_reducible apply frame_next | (with_reducible apply frame_upd; with_reducible exact Or.inr rfl; fail_if_success (iterate 23 (with_reducible exact Or.inr rfl))) | (with_reducible apply frame_foldl; intro _ _) | with_reducible apply frame_layLanes | (split) | (dsimp +zetaDelta only))

theorem frame_keepPlan {M : Nat} {s0 s : State} (hM : Nat.lor 2048 M = M) (h0 : Frame M s0 s) : Frame M s0 (State.keepPlan s) := by
  refine frame_trans (k := 2048) ?_ hM h0
  unfold State.keepPlan
  repeat' (first | with_reducible exact frame_refl _ _ | with_reducible exact Or.inr rfl | exact Or.inl rfl | exact (rfl : Nat.lor _ _ = _) | with_reducible assumption | extract_lets | with_reducible apply frame_ite | with_reducible apply frame_next | (with_reducible apply frame_upd; with_reducible exact Or.inr rfl; fail_if_success (iterate 23 (with_reducible exact Or.inr rfl))) | (with_reducible apply frame_foldl; intro _ _) | (split) | (dsimp +zetaDelta only))

theorem frame_restorePlan {M : Nat} {s0 s : State} (hM : Nat.lor 1 M = M) (h0 : Frame M s0 s) : Frame M s0 (State.restorePlan s) := by
  refine frame_trans (k := 1) ?_ hM h0
  unfold State.restorePlan
  repeat' (first | with_reducible exact frame_refl _ _ | with_reducible exact Or.inr rfl | exact Or.inl rfl | exact (rfl : Nat.lor _ _ = _) | with_reducible assumption | extract_lets | with_reducible apply frame_ite | with_reducible apply frame_next | (with_reducible apply frame_upd; with_reducible exact Or.inr rfl; fail_if_success (iterate 23 (with_reducible exact Or.inr rfl))) | (with_reducible apply frame_foldl; intro _ _) | with_reducible apply frame_setReg | (split) | (dsimp +zetaDelta only))

theorem frame_profileStarts {M : Nat} {s0 s : State} (n) (hM : Nat.lor 1 M = M) (h0 : Frame M s0 s) : Frame M s0 (State.profileStarts s n) := by
  refine frame_trans (k := 1) ?_ hM h0
  unfold State.profileStarts
  repeat' (first | with_reducible exact frame_refl _ _ | with_reducible exact Or.inr rfl | exact Or.inl rfl | exact (rfl : Nat.lor _ _ = _) | with_reducible assumption | extract_lets | with_reducible apply frame_ite | with_reducible apply frame_next | (with_reducible apply frame_upd; with_reducible exact Or.inr rfl; fail_if_success (iterate 23 (with_reducible exact Or.inr rfl))) | (with_reducible apply frame_foldl; intro _ _) | with_reducible apply frame_setFld | (split) | (dsimp +zetaDelta only))

theorem frame_planLoop {M : Nat} {s0 s : State} (n) (target) (hM : Nat.lor 129 M = M) (h0 : Frame M s0 s) : Frame M s0 (State.planLoop s n target) := by
  refine frame_trans (k := 129) ?_ hM h0
  unfold State.planLoop
  repeat' (first | with_reducible exact frame_refl _ _ | with_reducible exact Or.inr rfl | exact Or.inl rfl | exact (rfl : Nat.lor _ _ = _) | with_reducible assumption | extract_lets | with_reducible apply frame_ite | with_reducible apply frame_next | (with_reducible apply frame_upd; with_reducible exact Or.inr rfl; fail_if_success (iterate 23 (with_reducible exact Or.inr rfl))) | (with_reducible apply frame_foldl; intro _ _) | with_reducible apply frame_setLoop | with_reducible apply frame_profileStarts | (split) | (dsimp +zetaDelta only))

theorem frame_setTarget {M : Nat} {s0 s : State} (n) (mv) (hM : Nat.lor 129 M = M) (h0 : Frame M s0 s) : Frame M s0 (State.setTarget s n mv) := by
  refine frame_trans (k := 129) ?_ hM h0
  unfold State.setTarget
  repeat' (first | with_reducible exact frame_refl _ _ | with_reducible exact Or.inr rfl | exact Or.inl rfl | exact (rfl : Nat.lor _ _ = _) | with_reducible assumption | extract_lets | with_reducible apply frame_ite | with_reducible apply frame_next | (with_reducible apply frame_upd; with_reducible exact Or.inr rfl; fail_if_success (iterate 23 (with_reducible exact Or.inr rfl))) | (with_reducible apply frame_foldl; intro _ _) | with_reducible apply frame_setFld | with_reducible apply frame_setLoop | with_reducible apply frame_planLoop | (split) | (dsimp +zetaDelta only))

theorem frame_syncRail {M : Nat} {s0 s : State} (hM : Nat.lor 129 M = M) (h0 : Frame M s0 s) : Frame M s0 (State.syncRail s) := by
  refine frame_trans (k := 129) ?_ hM h0
  unfold State.syncRail
  repeat' (first | with_reducible exact frame_refl _ _ | with_reducible exact Or.inr rfl | exact Or.inl rfl | exact (rfl : Nat.lor _ _ = _) | with_reducible assumption | extract_lets | with_reducible apply frame_ite | with_reducible apply frame_next | (with_reducible apply frame_upd; with_reducible exact Or.inr rfl; fail_if_success (iterate 23 (with_reducible exact Or.inr rfl))) | (with_reducible apply frame_foldl; intro _ _) | with_reducible apply frame_setTarget | (split) | (dsimp +zetaDelta only))

theorem frame_syncPending {M : Nat} {s0 s : State} (hM : Nat.lor 1 M = M) (h0 : Frame M s0 s) : Frame M s0 (State.syncPending s) := by
  refine frame_trans (k := 1) ?_ hM h0
  unfold State.syncPending
  repeat' (first | with_reducible exact frame_refl _ _ | with_reducible exact Or.inr rfl | exact Or.inl rfl | exact (rfl : Nat.lor _ _ = _) | with_reducible assumption | extract_lets | with_reducible apply frame_ite | with_reducible apply frame_next | (with_reducible apply frame_upd; with_reducible exact Or.inr rfl; fail_if_success (iterate 23 (with_reducible exact Or.inr rfl))) | (with_reducible apply frame_foldl; intro _ _) | with_reducible apply frame_setFld | (split) | (dsimp +zetaDelta only))

theorem frame_supersede {M : Nat} {s0 s : State} (hM : Nat.lor 36353 M = M) (h0 : Frame M s0 s) : Frame M s0 (State.supersede s) := by
  refine frame_trans (k := 36353) ?_ hM h0
  unfold State.supersede
  repeat' (first | with_reducible exact frame_refl _ _ | with_reducible exact Or.inr rfl | exact Or.inl rfl | exact (rfl : Nat.lor _ _ = _) | with_reducible assumption | extract_lets | with_reducible apply frame_ite | with_reducible apply frame_next | (with_reducible apply frame_upd; with_reducible exact Or.inr rfl; fail_if_success (iterate 23 (with_reducible exact Or.inr rfl))) | (with_reducible apply frame_foldl; intro _ _) | with_reducible apply frame_reply | (split) | (dsimp +zetaDelta only))

theorem frame_planRequest {M : Nat} {s0 s : State} (plan) (level) (hM : Nat.lor 36481 M = M) (h0 : Frame M s0 s) : Frame M s0 (State.planRequest s plan level) := by
  refine frame_trans (k := 36481) ?_ hM h0
  unfold State.planRequest
  repeat' (first | with_reducible exact frame_refl _ _ | with_reducible exact Or.inr rfl | exact Or.inl rfl | exact (rfl : Nat.lor _ _ = _) | with_reducible assumption | extract_lets | with_reducible apply frame_ite | with_reducible apply frame_next | (with_reducible apply frame_upd; with_reducible exact Or.inr rfl; fail_if_success (iterate 23 (with_reducible exact Or.inr rfl))) | (with_reducible apply frame_foldl; intro _ _) | with_reducible apply frame_setReg | with_reducible apply frame_syncRail | with_reducible apply frame_syncPending | with_reducible apply frame_supersede | (split) | (dsimp +zetaDelta only))

theorem frame_awaitPlan {M : Nat} {s0 s : State} (v) (hM : Nat.lor 2048 M = M) (h0 : Frame M s0 s) : Frame M s0 (State.awaitPlan s v) := by
  refine frame_trans (k := 2048) ?_ hM h0
  unfold State.awaitPlan
  repeat' (first | with_reducible exact frame_refl _ _ | with_reducible exact Or.inr rfl | exact Or.inl rfl | exact (rfl : Nat.lor _ _ = _) | with_reducible assumption | extract_lets | with_reducible apply frame_ite | with_reducible apply frame_next | (with_reducible apply frame_upd; with_reducible exact Or.inr rfl; fail_if_success (iterate 23 (with_reducible exact Or.inr rfl))) | (with_reducible apply frame_foldl; intro _ _) | (split) | (dsimp +zetaDelta only))

theorem frame_throttleTo {M : Nat} {s0 s : State} (l) (hM : Nat.lor 2177 M = M) (h0 : Frame M s0 s) : Frame M s0 (State.throttleTo s l) := by
  refine frame_trans (k := 2177) ?_ hM h0
  unfold State.throttleTo
  repeat' (first | with_reducible exact frame_refl _ _ | with_reducible exact Or.inr rfl | exact Or.inl rfl | exact (rfl : Nat.lor _ _ = _) | with_reducible assumption | extract_lets | with_reducible apply frame_ite | with_reducible apply frame_next | (with_reducible apply frame_upd; with_reducible exact Or.inr rfl; fail_if_success (iterate 23 (with_reducible exact Or.inr rfl))) | (with_reducible apply frame_foldl; intro _ _) | with_reducible apply frame_setFld | with_reducible apply frame_syncRail | with_reducible apply frame_syncPending | (split) | (dsimp +zetaDelta only))

theorem frame_traceLevel {M : Nat} {s0 s : State} (level) (hM : Nat.lor 1 M = M) (h0 : Frame M s0 s) : Frame M s0 (State.traceLevel s level) := by
  refine frame_trans (k := 1) ?_ hM h0
  unfold State.traceLevel
  repeat' (first | with_reducible exact frame_refl _ _ | with_reducible exact Or.inr rfl | exact Or.inl rfl | exact (rfl : Nat.lor _ _ = _) | with_reducible assumption | extract_lets | with_reducible apply frame_ite | with_reducible apply frame_next | (with_reducible apply frame_upd; with_reducible exact Or.inr rfl; fail_if_success (iterate 23 (with_reducible exact Or.inr rfl))) | (with_reducible apply frame_foldl; intro _ _) | with_reducible apply frame_setFld | (split) | (dsimp +zetaDelta only))

theorem frame_carryDie {M : Nat} {s0 s : State} (d) (r) (hM : Nat.lor 2048 M = M) (h0 : Frame M s0 s) : Frame M s0 (State.carryDie s d r) := by
  refine frame_trans (k := 2048) ?_ hM h0
  unfold State.carryDie
  repeat' (first | with_reducible exact frame_refl _ _ | with_reducible exact Or.inr rfl | exact Or.inl rfl | exact (rfl : Nat.lor _ _ = _) | with_reducible assumption | extract_lets | with_reducible apply frame_ite | with_reducible apply frame_next | (with_reducible apply frame_upd; with_reducible exact Or.inr rfl; fail_if_success (iterate 23 (with_reducible exact Or.inr rfl))) | (with_reducible apply frame_foldl; intro _ _) | with_reducible apply frame_setDie | (split) | (dsimp +zetaDelta only))

theorem frame_carrySlots {M : Nat} {s0 s : State} (old) (new) (hM : Nat.lor 32768 M = M) (h0 : Frame M s0 s) : Frame M s0 (State.carrySlots s old new) := by
  refine frame_trans (k := 32768) ?_ hM h0
  unfold State.carrySlots
  repeat' (first | with_reducible exact frame_refl _ _ | with_reducible exact Or.inr rfl | exact Or.inl rfl | exact (rfl : Nat.lor _ _ = _) | with_reducible assumption | extract_lets | with_reducible apply frame_ite | with_reducible apply frame_next | (with_reducible apply frame_upd; with_reducible exact Or.inr rfl; fail_if_success (iterate 23 (with_reducible exact Or.inr rfl))) | (with_reducible apply frame_foldl; intro _ _) | (split) | (dsimp +zetaDelta only))

theorem frame_putVariant {M : Nat} {s0 s : State} (plan) (level) (hM : Nat.lor 34817 M = M) (h0 : Frame M s0 s) : Frame M s0 (State.putVariant s plan level) := by
  refine frame_trans (k := 34817) ?_ hM h0
  unfold State.putVariant
  repeat' (first | with_reducible exact frame_refl _ _ | with_reducible exact Or.inr rfl | exact Or.inl rfl | exact (rfl : Nat.lor _ _ = _) | with_reducible assumption | extract_lets | with_reducible apply frame_ite | with_reducible apply frame_next | (with_reducible apply frame_upd; with_reducible exact Or.inr rfl; fail_if_success (iterate 23 (with_reducible exact Or.inr rfl))) | (with_reducible apply frame_foldl; intro _ _) | with_reducible apply frame_setReg | with_reducible apply frame_traceLevel | with_reducible apply frame_carryDie | with_reducible apply frame_carrySlots | (split) | (dsimp +zetaDelta only))

theorem frame_withdrawUnserved {M : Nat} {s0 s : State} (hM : Nat.lor 1228289 M = M) (h0 : Frame M s0 s) : Frame M s0 (State.withdrawUnserved s) := by
  refine frame_trans (k := 1228289) ?_ hM h0
  unfold State.withdrawUnserved
  repeat' (first | with_reducible exact frame_refl _ _ | with_reducible exact Or.inr rfl | exact Or.inl rfl | exact (rfl : Nat.lor _ _ = _) | with_reducible assumption | extract_lets | with_reducible apply frame_ite | with_reducible apply frame_next | (with_reducible apply frame_upd; with_reducible exact Or.inr rfl; fail_if_success (iterate 23 (with_reducible exact Or.inr rfl))) | (with_reducible apply frame_foldl; intro _ _) | with_reducible apply frame_setCmd | with_reducible apply frame_readKick | with_reducible apply frame_doorKick | (split) | (dsimp +zetaDelta only))

theorem frame_switchPlan {M : Nat} {s0 s : State} (level) (hM : Nat.lor 1228481 M = M) (h0 : Frame M s0 s) : Frame M s0 (State.switchPlan s level) := by
  refine frame_trans (k := 1228481) ?_ hM h0
  unfold State.switchPlan
  repeat' (first | with_reducible exact frame_refl _ _ | with_reducible exact Or.inr rfl | exact Or.inl rfl | exact (rfl : Nat.lor _ _ = _) | with_reducible assumption | extract_lets | with_reducible apply frame_ite | with_reducible apply frame_next | (with_reducible apply frame_upd; with_reducible exact Or.inr rfl; fail_if_success (iterate 23 (with_reducible exact Or.inr rfl))) | (with_reducible apply frame_foldl; intro _ _) | with_reducible apply frame_reply | with_reducible apply frame_syncRail | with_reducible apply frame_syncPending | with_reducible apply frame_putVariant | with_reducible apply frame_withdrawUnserved | (split) | (dsimp +zetaDelta only))

theorem frame_syncSeg {M : Nat} {s0 s : State} (n) (hM : Nat.lor 1 M = M) (h0 : Frame M s0 s) : Frame M s0 (State.syncSeg s n) := by
  refine frame_trans (k := 1) ?_ hM h0
  unfold State.syncSeg
  repeat' (first | with_reducible exact frame_refl _ _ | with_reducible exact Or.inr rfl | exact Or.inl rfl | exact (rfl : Nat.lor _ _ = _) | with_reducible assumption | extract_lets | with_reducible apply frame_ite | with_reducible apply frame_next | (with_reducible apply frame_upd; with_reducible exact Or.inr rfl; fail_if_success (iterate 23 (with_reducible exact Or.inr rfl))) | (with_reducible apply frame_foldl; intro _ _) | with_reducible apply frame_setReg | (split) | (dsimp +zetaDelta only))

theorem frame_computeCover {M : Nat} {s0 s : State} (hM : Nat.lor 26113 M = M) (h0 : Frame M s0 s) : Frame M s0 (State.computeCover s) := by
  refine frame_trans (k := 26113) ?_ hM h0
  unfold State.computeCover
  repeat' (first | with_reducible exact frame_refl _ _ | with_reducible exact Or.inr rfl | exact Or.inl rfl | exact (rfl : Nat.lor _ _ = _) | with_reducible assumption | extract_lets | with_reducible apply frame_ite | with_reducible apply frame_next | (with_reducible apply frame_upd; with_reducible exact Or.inr rfl; fail_if_success (iterate 23 (with_reducible exact Or.inr rfl))) | (with_reducible apply frame_foldl; intro _ _) | with_reducible apply frame_setReg | with_reducible apply frame_raise | with_reducible apply frame_setShares | (split) | (dsimp +zetaDelta only))

theorem frame_recover {M : Nat} {s0 s : State} (hM : Nat.lor 26113 M = M) (h0 : Frame M s0 s) : Frame M s0 (State.recover s) := by
  refine frame_trans (k := 26113) ?_ hM h0
  unfold State.recover
  repeat' (first | with_reducible exact frame_refl _ _ | with_reducible exact Or.inr rfl | exact Or.inl rfl | exact (rfl : Nat.lor _ _ = _) | with_reducible assumption | extract_lets | with_reducible apply frame_ite | with_reducible apply frame_next | (with_reducible apply frame_upd; with_reducible exact Or.inr rfl; fail_if_success (iterate 23 (with_reducible exact Or.inr rfl))) | (with_reducible apply frame_foldl; intro _ _) | with_reducible apply frame_computeCover | (split) | (dsimp +zetaDelta only))

theorem frame_scheduleTests {M : Nat} {s0 s : State} (hM : Nat.lor 16384 M = M) (h0 : Frame M s0 s) : Frame M s0 (State.scheduleTests s) := by
  refine frame_trans (k := 16384) ?_ hM h0
  unfold State.scheduleTests
  repeat' (first | with_reducible exact frame_refl _ _ | with_reducible exact Or.inr rfl | exact Or.inl rfl | exact (rfl : Nat.lor _ _ = _) | with_reducible assumption | extract_lets | with_reducible apply frame_ite | with_reducible apply frame_next | (with_reducible apply frame_upd; with_reducible exact Or.inr rfl; fail_if_success (iterate 23 (with_reducible exact Or.inr rfl))) | (with_reducible apply frame_foldl; intro _ _) | with_reducible apply frame_setSeg | (split) | (dsimp +zetaDelta only))

theorem frame_endTest {M : Nat} {s0 s : State} (hM : Nat.lor 16393 M = M) (h0 : Frame M s0 s) : Frame M s0 (State.endTest s) := by
  refine frame_trans (k := 16393) ?_ hM h0
  unfold State.endTest
  repeat' (first | with_reducible exact frame_refl _ _ | with_reducible exact Or.inr rfl | exact Or.inl rfl | exact (rfl : Nat.lor _ _ = _) | with_reducible assumption | extract_lets | with_reducible apply frame_ite | with_reducible apply frame_next | (with_reducible apply frame_upd; with_reducible exact Or.inr rfl; fail_if_success (iterate 23 (with_reducible exact Or.inr rfl))) | (with_reducible apply frame_foldl; intro _ _) | with_reducible apply frame_syncSeg | (split) | (dsimp +zetaDelta only))

theorem frame_stopTest {M : Nat} {s0 s : State} (hM : Nat.lor 16393 M = M) (h0 : Frame M s0 s) : Frame M s0 (State.stopTest s) := by
  refine frame_trans (k := 16393) ?_ hM h0
  unfold State.stopTest
  repeat' (first | with_reducible exact frame_refl _ _ | with_reducible exact Or.inr rfl | exact Or.inl rfl | exact (rfl : Nat.lor _ _ = _) | with_reducible assumption | extract_lets | with_reducible apply frame_ite | with_reducible apply frame_next | (with_reducible apply frame_upd; with_reducible exact Or.inr rfl; fail_if_success (iterate 23 (with_reducible exact Or.inr rfl))) | (with_reducible apply frame_foldl; intro _ _) | with_reducible apply frame_setSeg | with_reducible apply frame_endTest | (split) | (dsimp +zetaDelta only))

theorem frame_execSegmentTestStart {s : State} (n) : FrameO 16393 s (execSegmentTestStart n s) := by
  unfold execSegmentTestStart
  repeat' (first | with_reducible exact frame_refl _ _ | with_reducible exact Or.inr rfl | exact Or.inl rfl | exact (rfl : Nat.lor _ _ = _) | with_reducible assumption | extract_lets | with_reducible apply frame_ite | with_reducible apply frame_next | (with_reducible apply frame_upd; with_reducible exact Or.inr rfl; fail_if_success (iterate 23 (with_reducible exact Or.inr rfl))) | (with_reducible apply frame_foldl; intro _ _) | with_reducible apply frame_setSeg | with_reducible apply frame_syncSeg | (split) | (dsimp +zetaDelta only))

theorem frame_testResult {M : Nat} {s0 s : State} (n) (va) (td) (hM : Nat.lor 17929 M = M) (h0 : Frame M s0 s) : Frame M s0 (State.testResult s n va td) := by
  refine frame_trans (k := 17929) ?_ hM h0
  unfold State.testResult
  repeat' (first | with_reducible exact frame_refl _ _ | with_reducible exact Or.inr rfl | exact Or.inl rfl | exact (rfl : Nat.lor _ _ = _) | with_reducible assumption | extract_lets | with_reducible apply frame_ite | with_reducible apply frame_next | (with_reducible apply frame_upd; with_reducible exact Or.inr rfl; fail_if_success (iterate 23 (with_reducible exact Or.inr rfl))) | (with_reducible apply frame_foldl; intro _ _) | with_reducible apply frame_setSeg | with_reducible apply frame_raise | with_reducible apply frame_syncSeg | with_reducible apply frame_endTest | (split) | (dsimp +zetaDelta only))

theorem frame_execSegmentTestSample {s : State} (mv) : FrameO 17929 s (execSegmentTestSample mv s) := by
  unfold execSegmentTestSample
  repeat' (first | with_reducible exact frame_refl _ _ | with_reducible exact Or.inr rfl | exact Or.inl rfl | exact (rfl : Nat.lor _ _ = _) | with_reducible assumption | extract_lets | with_reducible apply frame_ite | with_reducible apply frame_next | (with_reducible apply frame_upd; with_reducible exact Or.inr rfl; fail_if_success (iterate 23 (with_reducible exact Or.inr rfl))) | (with_reducible apply frame_foldl; intro _ _) | with_reducible apply frame_testResult | (split) | (dsimp +zetaDelta only))

theorem frame_execTestInvalid {s : State} : FrameO 17929 s (execTestInvalid s) := by
  unfold execTestInvalid
  repeat' (first | with_reducible exact frame_refl _ _ | with_reducible exact Or.inr rfl | exact Or.inl rfl | exact (rfl : Nat.lor _ _ = _) | with_reducible assumption | extract_lets | with_reducible apply frame_ite | with_reducible apply frame_next | (with_reducible apply frame_upd; with_reducible exact Or.inr rfl; fail_if_success (iterate 23 (with_reducible exact Or.inr rfl))) | (with_reducible apply frame_foldl; intro _ _) | with_reducible apply frame_setSeg | with_reducible apply frame_raise | with_reducible apply frame_syncSeg | with_reducible apply frame_endTest | (split) | (dsimp +zetaDelta only))

theorem frame_execSegFault {s : State} (n) (mv) : FrameO 26121 s (execSegFault n mv s) := by
  unfold execSegFault
  repeat' (first | with_reducible exact frame_refl _ _ | with_reducible exact Or.inr rfl | exact Or.inl rfl | exact (rfl : Nat.lor _ _ = _) | with_reducible assumption | extract_lets | with_reducible apply frame_ite | with_reducible apply frame_next | (with_reducible apply frame_upd; with_reducible exact Or.inr rfl; fail_if_success (iterate 23 (with_reducible exact Or.inr rfl))) | (with_reducible apply frame_foldl; intro _ _) | with_reducible apply frame_setSeg | with_reducible apply frame_raise | with_reducible apply frame_syncSeg | with_reducible apply frame_computeCover | with_reducible apply frame_stopTest | (split) | (dsimp +zetaDelta only))

theorem frame_execSegmentCharged {s : State} (n) (mv) : FrameO 26113 s (execSegmentCharged n mv s) := by
  unfold execSegmentCharged
  repeat' (first | with_reducible exact frame_refl _ _ | with_reducible exact Or.inr rfl | exact Or.inl rfl | exact (rfl : Nat.lor _ _ = _) | with_reducible assumption | extract_lets | with_reducible apply frame_ite | with_reducible apply frame_next | (with_reducible apply frame_upd; with_reducible exact Or.inr rfl; fail_if_success (iterate 23 (with_reducible exact Or.inr rfl))) | (with_reducible apply frame_foldl; intro _ _) | with_reducible apply frame_setSeg | with_reducible apply frame_syncSeg | with_reducible apply frame_recover | (split) | (dsimp +zetaDelta only))

theorem frame_zoneRefuse {M : Nat} {s0 s : State} (h) (c) (x3) (a) (hM : Nat.lor 175617 M = M) (h0 : Frame M s0 s) : Frame M s0 (State.zoneRefuse s h c x3 a) := by
  refine frame_trans (k := 175617) ?_ hM h0
  unfold State.zoneRefuse
  repeat' (first | with_reducible exact frame_refl _ _ | with_reducible exact Or.inr rfl | exact Or.inl rfl | exact (rfl : Nat.lor _ _ = _) | with_reducible assumption | extract_lets | with_reducible apply frame_ite | with_reducible apply frame_next | (with_reducible apply frame_upd; with_reducible exact Or.inr rfl; fail_if_success (iterate 23 (with_reducible exact Or.inr rfl))) | (with_reducible apply frame_foldl; intro _ _) | with_reducible apply frame_raise | with_reducible apply frame_refuseActivation | with_reducible apply frame_toPost | (split) | (dsimp +zetaDelta only))

theorem frame_advance {M : Nat} {s0 s : State} (c) (z) (n) (hM : Nat.lor 4096 M = M) (h0 : Frame M s0 s) : Frame M s0 (State.advance s c z n) := by
  refine frame_trans (k := 4096) ?_ hM h0
  unfold State.advance
  repeat' (first | with_reducible exact frame_refl _ _ | with_reducible exact Or.inr rfl | exact Or.inl rfl | exact (rfl : Nat.lor _ _ = _) | with_reducible assumption | extract_lets | with_reducible apply frame_ite | with_reducible apply frame_next | (with_reducible apply frame_upd; with_reducible exact Or.inr rfl; fail_if_success (iterate 23 (with_reducible exact Or.inr rfl))) | (with_reducible apply frame_foldl; intro _ _) | with_reducible apply frame_setZone | (split) | (dsimp +zetaDelta only))

theorem frame_takeDies {M : Nat} {s0 s : State} (c) (x2) (n) (hM : Nat.lor 4096 M = M) (h0 : Frame M s0 s) : Frame M s0 (State.takeDies s c x2 n) := by
  refine frame_trans (k := 4096) ?_ hM h0
  unfold State.takeDies
  repeat' (first | with_reducible exact frame_refl _ _ | with_reducible exact Or.inr rfl | exact Or.inl rfl | exact (rfl : Nat.lor _ _ = _) | with_reducible assumption | extract_lets | with_reducible apply frame_ite | with_reducible apply frame_next | (with_reducible apply frame_upd; with_reducible exact Or.inr rfl; fail_if_success (iterate 23 (with_reducible exact Or.inr rfl))) | (with_reducible apply frame_foldl; intro _ _) | (split) | (dsimp +zetaDelta only))

theorem frame_acceptWrite {M : Nat} {s0 s : State} (h) (c) (x3) (slba) (src) (st) (hM : Nat.lor 38913 M = M) (h0 : Frame M s0 s) : Frame M s0 (State.acceptWrite s h c x3 slba src st) := by
  refine frame_trans (k := 38913) ?_ hM h0
  unfold State.acceptWrite
  repeat' (first | with_reducible exact frame_refl _ _ | with_reducible exact Or.inr rfl | exact Or.inl rfl | exact (rfl : Nat.lor _ _ = _) | with_reducible assumption | extract_lets | with_reducible apply frame_ite | with_reducible apply frame_next | (with_reducible apply frame_upd; with_reducible exact Or.inr rfl; fail_if_success (iterate 23 (with_reducible exact Or.inr rfl))) | (with_reducible apply frame_foldl; intro _ _) | with_reducible apply frame_setCmd | with_reducible apply frame_traceStart | with_reducible apply frame_advance | with_reducible apply frame_takeDies | (split) | (dsimp +zetaDelta only))

theorem frame_tryWrite {M : Nat} {s0 s : State} (h) (c) (x3) (src) (st) (hM : Nat.lor 179713 M = M) (h0 : Frame M s0 s) : Frame M s0 (State.tryWrite s h c x3 src st) := by
  refine frame_trans (k := 179713) ?_ hM h0
  unfold State.tryWrite
  repeat' (first | with_reducible exact frame_refl _ _ | with_reducible exact Or.inr rfl | exact Or.inl rfl | exact (rfl : Nat.lor _ _ = _) | with_reducible assumption | extract_lets | with_reducible apply frame_ite | with_reducible apply frame_next | (with_reducible apply frame_upd; with_reducible exact Or.inr rfl; fail_if_success (iterate 23 (with_reducible exact Or.inr rfl))) | (with_reducible apply frame_foldl; intro _ _) | with_reducible apply frame_denyKey | with_reducible apply frame_zoneRefuse | with_reducible apply frame_acceptWrite | (split) | (dsimp +zetaDelta only))

theorem frame_execFlush {s : State} (h) : FrameO 32768 s (execFlush h s) := by
  unfold execFlush
  repeat' (first | with_reducible exact frame_refl _ _ | with_reducible exact Or.inr rfl | exact Or.inl rfl | exact (rfl : Nat.lor _ _ = _) | with_reducible assumption | extract_lets | with_reducible apply frame_ite | with_reducible apply frame_next | (with_reducible apply frame_upd; with_reducible exact Or.inr rfl; fail_if_success (iterate 23 (with_reducible exact Or.inr rfl))) | (with_reducible apply frame_foldl; intro _ _) | with_reducible apply frame_setCmd | (split) | (dsimp +zetaDelta only))

theorem frame_execWrite {s : State} (h) : FrameO 179713 s (execWrite h s) := by
  unfold execWrite
  repeat' (first | with_reducible exact frame_refl _ _ | with_reducible exact Or.inr rfl | exact Or.inl rfl | exact (rfl : Nat.lor _ _ = _) | with_reducible assumption | extract_lets | with_reducible apply frame_ite | with_reducible apply frame_next | (with_reducible apply frame_upd; with_reducible exact Or.inr rfl; fail_if_success (iterate 23 (with_reducible exact Or.inr rfl))) | (with_reducible apply frame_foldl; intro _ _) | with_reducible apply frame_toPost | with_reducible apply frame_tryWrite | (split) | (dsimp +zetaDelta only))

theorem frame_execRead {s : State} (h) : FrameO 175617 s (execRead h s) := by
  unfold execRead
  repeat' (first | with_reducible exact frame_refl _ _ | with_reducible exact Or.inr rfl | exact Or.inl rfl | exact (rfl : Nat.lor _ _ = _) | with_reducible assumption | extract_lets | with_reducible apply frame_ite | with_reducible apply frame_next | (with_reducible apply frame_upd; with_reducible exact Or.inr rfl; fail_if_success (iterate 23 (with_reducible exact Or.inr rfl))) | (with_reducible apply frame_foldl; intro _ _) | with_reducible apply frame_setCmd | with_reducible apply frame_traceStart | with_reducible apply frame_toPost | with_reducible apply frame_denyKey | (split) | (dsimp +zetaDelta only))

theorem frame_execWriteZeroes {s : State} (h) : FrameO 179713 s (execWriteZeroes h s) := by
  unfold execWriteZeroes
  repeat' (first | with_reducible exact frame_refl _ _ | with_reducible exact Or.inr rfl | exact Or.inl rfl | exact (rfl : Nat.lor _ _ = _) | with_reducible assumption | extract_lets | with_reducible apply frame_ite | with_reducible apply frame_next | (with_reducible apply frame_upd; with_reducible exact Or.inr rfl; fail_if_success (iterate 23 (with_reducible exact Or.inr rfl))) | (with_reducible apply frame_foldl; intro _ _) | with_reducible apply frame_setCmd | with_reducible apply frame_toPost | with_reducible apply frame_tryWrite | (split) | (dsimp +zetaDelta only))

theorem frame_execDatasetManagement {s : State} (h) : FrameO 175617 s (execDatasetManagement h s) := by
  unfold execDatasetManagement
  repeat' (first | with_reducible exact frame_refl _ _ | with_reducible exact Or.inr rfl | exact Or.inl rfl | exact (rfl : Nat.lor _ _ = _) | with_reducible assumption | extract_lets | with_reducible apply frame_ite | with_reducible apply frame_next | (with_reducible apply frame_upd; with_reducible exact Or.inr rfl; fail_if_success (iterate 23 (with_reducible exact Or.inr rfl))) | (with_reducible apply frame_foldl; intro _ _) | with_reducible apply frame_setCmd | with_reducible apply frame_toPost | (split) | (dsimp +zetaDelta only))

theorem frame_execCopy {s : State} (h) : FrameO 179713 s (execCopy h s) := by
  unfold execCopy
  repeat' (first | with_reducible exact frame_refl _ _ | with_reducible exact Or.inr rfl | exact Or.inl rfl | exact (rfl : Nat.lor _ _ = _) | with_reducible assumption | extract_lets | with_reducible apply frame_ite | with_reducible apply frame_next | (with_reducible apply frame_upd; with_reducible exact Or.inr rfl; fail_if_success (iterate 23 (with_reducible exact Or.inr rfl))) | (with_reducible apply frame_foldl; intro _ _) | with_reducible apply frame_toPost | with_reducible apply frame_tryWrite | (split) | (dsimp +zetaDelta only))

theorem frame_execZoneAppend {s : State} (h) : FrameO 179713 s (execZoneAppend h s) := by
  unfold execZoneAppend
  repeat' (first | with_reducible exact frame_refl _ _ | with_reducible exact Or.inr rfl | exact Or.inl rfl | exact (rfl : Nat.lor _ _ = _) | with_reducible assumption | extract_lets | with_reducible apply frame_ite | with_reducible apply frame_next | (with_reducible apply frame_upd; with_reducible exact Or.inr rfl; fail_if_success (iterate 23 (with_reducible exact Or.inr rfl))) | (with_reducible apply frame_foldl; intro _ _) | with_reducible apply frame_toPost | with_reducible apply frame_denyKey | with_reducible apply frame_zoneRefuse | with_reducible apply frame_acceptWrite | (split) | (dsimp +zetaDelta only))

theorem frame_waitIn {M : Nat} {s0 s : State} (h) (zs) (hM : Nat.lor 4096 M = M) (h0 : Frame M s0 s) : Frame M s0 (State.waitIn s h zs) := by
  refine frame_trans (k := 4096) ?_ hM h0
  unfold State.waitIn
  repeat' (first | with_reducible exact frame_refl _ _ | with_reducible exact Or.inr rfl | exact Or.inl rfl | exact (rfl : Nat.lor _ _ = _) | with_reducible assumption | extract_lets | with_reducible apply frame_ite | with_reducible apply frame_next | (with_reducible apply frame_upd; with_reducible exact Or.inr rfl; fail_if_success (iterate 23 (with_reducible exact Or.inr rfl))) | (with_reducible apply frame_foldl; intro _ _) | with_reducible apply frame_setZone | (split) | (dsimp +zetaDelta only))

theorem frame_zoneClose {M : Nat} {s0 s : State} (h) (hM : Nat.lor 179713 M = M) (h0 : Frame M s0 s) : Frame M s0 (State.zoneClose s h) := by
  refine frame_trans (k := 179713) ?_ hM h0
  unfold State.zoneClose
  repeat' (first | with_reducible exact frame_refl _ _ | with_reducible exact Or.inr rfl | exact Or.inl rfl | exact (rfl : Nat.lor _ _ = _) | with_reducible assumption | extract_lets | with_reducible apply frame_ite | with_reducible apply frame_next | (with_reducible apply frame_upd; with_reducible exact Or.inr rfl; fail_if_success (iterate 23 (with_reducible exact Or.inr rfl))) | (with_reducible apply frame_foldl; intro _ _) | with_reducible apply frame_setZone | with_reducible apply frame_setCmd | with_reducible apply frame_toPost | (split) | (dsimp +zetaDelta only))

theorem frame_execZoneClose {s : State} (h) : FrameO 179713 s (execZoneClose h s) := by
  unfold execZoneClose
  repeat' (first | with_reducible exact frame_refl _ _ | with_reducible exact Or.inr rfl | exact Or.inl rfl | exact (rfl : Nat.lor _ _ = _) | with_reducible assumption | extract_lets | with_reducible apply frame_ite | with_reducible apply frame_next | (with_reducible apply frame_upd; with_reducible exact Or.inr rfl; fail_if_success (iterate 23 (with_reducible exact Or.inr rfl))) | (with_reducible apply frame_foldl; intro _ _) | with_reducible apply frame_zoneClose | (split) | (dsimp +zetaDelta only))

theorem frame_zoneFinish {M : Nat} {s0 s : State} (h) (hM : Nat.lor 179713 M = M) (h0 : Frame M s0 s) : Frame M s0 (State.zoneFinish s h) := by
  refine frame_trans (k := 179713) ?_ hM h0
  unfold State.zoneFinish
  repeat' (first | with_reducible exact frame_refl _ _ | with_reducible exact Or.inr rfl | exact Or.inl rfl | exact (rfl : Nat.lor _ _ = _) | with_reducible assumption | extract_lets | with_reducible apply frame_ite | with_reducible apply frame_next | (with_reducible apply frame_upd; with_reducible exact Or.inr rfl; fail_if_success (iterate 23 (with_reducible exact Or.inr rfl))) | (with_reducible apply frame_foldl; intro _ _) | with_reducible apply frame_setCmd | with_reducible apply frame_toPost | with_reducible apply frame_waitIn | (split) | (dsimp +zetaDelta only))

theorem frame_execZoneFinish {s : State} (h) : FrameO 179713 s (execZoneFinish h s) := by
  unfold execZoneFinish
  repeat' (first | with_reducible exact frame_refl _ _ | with_reducible exact Or.inr rfl | exact Or.inl rfl | exact (rfl : Nat.lor _ _ = _) | with_reducible assumption | extract_lets | with_reducible apply frame_ite | with_reducible apply frame_next | (with_reducible apply frame_upd; with_reducible exact Or.inr rfl; fail_if_success (iterate 23 (with_reducible exact Or.inr rfl))) | (with_reducible apply frame_foldl; intro _ _) | with_reducible apply frame_zoneFinish | (split) | (dsimp +zetaDelta only))

theorem frame_zoneOpen {M : Nat} {s0 s : State} (h) (hM : Nat.lor 179713 M = M) (h0 : Frame M s0 s) : Frame M s0 (State.zoneOpen s h) := by
  refine frame_trans (k := 179713) ?_ hM h0
  unfold State.zoneOpen
  repeat' (first | with_reducible exact frame_refl _ _ | with_reducible exact Or.inr rfl | exact Or.inl rfl | exact (rfl : Nat.lor _ _ = _) | with_reducible assumption | extract_lets | with_reducible apply frame_ite | with_reducible apply frame_next | (with_reducible apply frame_upd; with_reducible exact Or.inr rfl; fail_if_success (iterate 23 (with_reducible exact Or.inr rfl))) | (with_reducible apply frame_foldl; intro _ _) | with_reducible apply frame_setZone | with_reducible apply frame_setCmd | with_reducible apply frame_toPost | with_reducible apply frame_zoneRefuse | (split) | (dsimp +zetaDelta only))

theorem frame_execZoneOpen {s : State} (h) : FrameO 179713 s (execZoneOpen h s) := by
  unfold execZoneOpen
  repeat' (first | with_reducible exact frame_refl _ _ | with_reducible exact Or.inr rfl | exact Or.inl rfl | exact (rfl : Nat.lor _ _ = _) | with_reducible assumption | extract_lets | with_reducible apply frame_ite | with_reducible apply frame_next | (with_reducible apply frame_upd; with_reducible exact Or.inr rfl; fail_if_success (iterate 23 (with_reducible exact Or.inr rfl))) | (with_reducible apply frame_foldl; intro _ _) | with_reducible apply frame_zoneOpen | (split) | (dsimp +zetaDelta only))

theorem frame_zoneReset {M : Nat} {s0 s : State} (h) (hM : Nat.lor 179713 M = M) (h0 : Frame M s0 s) : Frame M s0 (State.zoneReset s h) := by
  refine frame_trans (k := 179713) ?_ hM h0
  unfold State.zoneReset
  repeat' (first | with_reducible exact frame_refl _ _ | with_reducible exact Or.inr rfl | exact Or.inl rfl | exact (rfl : Nat.lor _ _ = _) | with_reducible assumption | extract_lets | with_reducible apply frame_ite | with_reducible apply frame_next | (with_reducible apply frame_upd; with_reducible exact Or.inr rfl; fail_if_success (iterate 23 (with_reducible exact Or.inr rfl))) | (with_reducible apply frame_foldl; intro _ _) | with_reducible apply frame_setCmd | with_reducible apply frame_toPost | with_reducible apply frame_waitIn | (split) | (dsimp +zetaDelta only))

theorem frame_execZoneReset {s : State} (h) : FrameO 179713 s (execZoneReset h s) := by
  unfold execZoneReset
  repeat' (first | with_reducible exact frame_refl _ _ | with_reducible exact Or.inr rfl | exact Or.inl rfl | exact (rfl : Nat.lor _ _ = _) | with_reducible assumption | extract_lets | with_reducible apply frame_ite | with_reducible apply frame_next | (with_reducible apply frame_upd; with_reducible exact Or.inr rfl; fail_if_success (iterate 23 (with_reducible exact Or.inr rfl))) | (with_reducible apply frame_foldl; intro _ _) | with_reducible apply frame_zoneReset | (split) | (dsimp +zetaDelta only))

theorem frame_zoneOffline {M : Nat} {s0 s : State} (h) (hM : Nat.lor 179713 M = M) (h0 : Frame M s0 s) : Frame M s0 (State.zoneOffline s h) := by
  refine frame_trans (k := 179713) ?_ hM h0
  unfold State.zoneOffline
  repeat' (first | with_reducible exact frame_refl _ _ | with_reducible exact Or.inr rfl | exact Or.inl rfl | exact (rfl : Nat.lor _ _ = _) | with_reducible assumption | extract_lets | with_reducible apply frame_ite | with_reducible apply frame_next | (with_reducible apply frame_upd; with_reducible exact Or.inr rfl; fail_if_success (iterate 23 (with_reducible exact Or.inr rfl))) | (with_reducible apply frame_foldl; intro _ _) | with_reducible apply frame_setZone | with_reducible apply frame_setCmd | with_reducible apply frame_toPost | (split) | (dsimp +zetaDelta only))

theorem frame_execZoneOffline {s : State} (h) : FrameO 179713 s (execZoneOffline h s) := by
  unfold execZoneOffline
  repeat' (first | with_reducible exact frame_refl _ _ | with_reducible exact Or.inr rfl | exact Or.inl rfl | exact (rfl : Nat.lor _ _ = _) | with_reducible assumption | extract_lets | with_reducible apply frame_ite | with_reducible apply frame_next | (with_reducible apply frame_upd; with_reducible exact Or.inr rfl; fail_if_success (iterate 23 (with_reducible exact Or.inr rfl))) | (with_reducible apply frame_foldl; intro _ _) | with_reducible apply frame_zoneOffline | (split) | (dsimp +zetaDelta only))

theorem frame_runSend {M : Nat} {s0 s : State} (h) (o) (hM : Nat.lor 179713 M = M) (h0 : Frame M s0 s) : Frame M s0 (State.runSend s h o) := by
  refine frame_trans (k := 179713) ?_ hM h0
  unfold State.runSend
  repeat' (first | with_reducible exact frame_refl _ _ | with_reducible exact Or.inr rfl | exact Or.inl rfl | exact (rfl : Nat.lor _ _ = _) | with_reducible assumption | extract_lets | with_reducible apply frame_ite | with_reducible apply frame_next | (with_reducible apply frame_upd; with_reducible exact Or.inr rfl; fail_if_success (iterate 23 (with_reducible exact Or.inr rfl))) | (with_reducible apply frame_foldl; intro _ _) | with_reducible apply frame_zoneClose | with_reducible apply frame_zoneFinish | with_reducible apply frame_zoneOpen | with_reducible apply frame_zoneReset | with_reducible apply frame_zoneOffline | (split) | (dsimp +zetaDelta only))

theorem frame_execSetZoneDescriptorExtension {s : State} (h) : FrameO 175617 s (execSetZoneDescriptorExtension h s) := by
  unfold execSetZoneDescriptorExtension
  repeat' (first | with_reducible exact frame_refl _ _ | with_reducible exact Or.inr rfl | exact Or.inl rfl | exact (rfl : Nat.lor _ _ = _) | with_reducible assumption | extract_lets | with_reducible apply frame_ite | with_reducible apply frame_next | (with_reducible apply frame_upd; with_reducible exact Or.inr rfl; fail_if_success (iterate 23 (with_reducible exact Or.inr rfl))) | (with_reducible apply frame_foldl; intro _ _) | with_reducible apply frame_toPost | (split) | (dsimp +zetaDelta only))

theorem frame_execReportZones {s : State} (h) : FrameO 175617 s (execReportZones h s) := by
  unfold execReportZones
  repeat' (first | with_reducible exact frame_refl _ _ | with_reducible exact Or.inr rfl | exact Or.inl rfl | exact (rfl : Nat.lor _ _ = _) | with_reducible assumption | extract_lets | with_reducible apply frame_ite | with_reducible apply frame_next | (with_reducible apply frame_upd; with_reducible exact Or.inr rfl; fail_if_success (iterate 23 (with_reducible exact Or.inr rfl))) | (with_reducible apply frame_foldl; intro _ _) | with_reducible apply frame_dataToHost | with_reducible apply frame_setCmd | with_reducible apply frame_toPost | (split) | (dsimp +zetaDelta only))

theorem frame_loseSleep {M : Nat} {s0 s : State} (hM : Nat.lor 34337 M = M) (h0 : Frame M s0 s) : Frame M s0 (State.loseSleep s) := by
  refine frame_trans (k := 34337) ?_ hM h0
  unfold State.loseSleep
  repeat' (first | with_reducible exact frame_refl _ _ | with_reducible exact Or.inr rfl | exact Or.inl rfl | exact (rfl : Nat.lor _ _ = _) | with_reducible assumption | extract_lets | with_reducible apply frame_ite | with_reducible apply frame_next | (with_reducible apply frame_upd; with_reducible exact Or.inr rfl; fail_if_success (iterate 23 (with_reducible exact Or.inr rfl))) | (with_reducible apply frame_foldl; intro _ _) | with_reducible apply frame_reply | (split) | (dsimp +zetaDelta only))

theorem frame_showShst {M : Nat} {s0 s : State} (v) (hM : Nat.lor 32768 M = M) (h0 : Frame M s0 s) : Frame M s0 (State.showShst s v) := by
  refine frame_trans (k := 32768) ?_ hM h0
  unfold State.showShst
  repeat' (first | with_reducible exact frame_refl _ _ | with_reducible exact Or.inr rfl | exact Or.inl rfl | exact (rfl : Nat.lor _ _ = _) | with_reducible assumption | extract_lets | with_reducible apply frame_ite | with_reducible apply frame_next | (with_reducible apply frame_upd; with_reducible exact Or.inr rfl; fail_if_success (iterate 23 (with_reducible exact Or.inr rfl))) | (with_reducible apply frame_foldl; intro _ _) | with_reducible apply frame_setCtrl | (split) | (dsimp +zetaDelta only))

theorem frame_enterDrain {M : Nat} {s0 s : State} (why) (c) (hM : Nat.lor 50751 M = M) (h0 : Frame M s0 s) : Frame M s0 (State.enterDrain s why c) := by
  refine frame_trans (k := 50751) ?_ hM h0
  unfold State.enterDrain
  repeat' (first | with_reducible exact frame_refl _ _ | with_reducible exact Or.inr rfl | exact Or.inl rfl | exact (rfl : Nat.lor _ _ = _) | with_reducible assumption | extract_lets | with_reducible apply frame_ite | with_reducible apply frame_next | (with_reducible apply frame_upd; with_reducible exact Or.inr rfl; fail_if_success (iterate 23 (with_reducible exact Or.inr rfl))) | (with_reducible apply frame_foldl; intro _ _) | with_reducible apply frame_enter | with_reducible apply frame_stopTest | with_reducible apply frame_loseSleep | with_reducible apply frame_showShst | (split) | (dsimp +zetaDelta only))

theorem frame_discardRequest {M : Nat} {s0 s : State} (hM : Nat.lor 513 M = M) (h0 : Frame M s0 s) : Frame M s0 (State.discardRequest s) := by
  refine frame_trans (k := 513) ?_ hM h0
  unfold State.discardRequest
  repeat' (first | with_reducible exact frame_refl _ _ | with_reducible exact Or.inr rfl | exact Or.inl rfl | exact (rfl : Nat.lor _ _ = _) | with_reducible assumption | extract_lets | with_reducible apply frame_ite | with_reducible apply frame_next | (with_reducible apply frame_upd; with_reducible exact Or.inr rfl; fail_if_success (iterate 23 (with_reducible exact Or.inr rfl))) | (with_reducible apply frame_foldl; intro _ _) | with_reducible apply frame_event | (split) | (dsimp +zetaDelta only))

theorem frame_flushOne {p : State × List Nat} (e) : Frame 179713 p.1 (State.flushOne p e).1 := by
  unfold State.flushOne
  repeat' (first | with_reducible exact frame_refl _ _ | with_reducible exact Or.inr rfl | exact Or.inl rfl | exact (rfl : Nat.lor _ _ = _) | with_reducible assumption | extract_lets | with_reducible apply frame_ite | with_reducible apply frame_next | (with_reducible apply frame_upd; with_reducible exact Or.inr rfl; fail_if_success (iterate 23 (with_reducible exact Or.inr rfl))) | (with_reducible apply frame_foldl; intro _ _) | with_reducible apply frame_setZone | with_reducible apply frame_secureNow | (split) | (dsimp +zetaDelta only))

theorem frame_flushAll (l : List (Nat × Cmd)) : ∀ {p : State × List Nat}, Frame 179713 p.1 (l.foldl State.flushOne p).1 := by
  induction l with
  | nil => intro p; exact frame_refl _ _
  | cons e l ih => intro p; exact frame_trans ih rfl (frame_flushOne e)

theorem frame_acceptOne {M : Nat} {s0 s : State} (h) (hM : Nat.lor 179713 M = M) (h0 : Frame M s0 s) : Frame M s0 (State.acceptOne s h) := by
  refine frame_trans (k := 179713) ?_ hM h0
  unfold State.acceptOne
  repeat' (first | with_reducible exact frame_refl _ _ | with_reducible exact Or.inr rfl | exact Or.inl rfl | exact (rfl : Nat.lor _ _ = _) | with_reducible assumption | extract_lets | with_reducible apply frame_ite | with_reducible apply frame_next | (with_reducible apply frame_upd; with_reducible exact Or.inr rfl; fail_if_success (iterate 23 (with_reducible exact Or.inr rfl))) | (with_reducible apply frame_foldl; intro _ _) | with_reducible apply frame_setCmd | with_reducible apply frame_setRec | with_reducible apply frame_runSend | (split) | (dsimp +zetaDelta only))

theorem frame_flushAccept {M : Nat} {s0 s : State} (hM : Nat.lor 179713 M = M) (h0 : Frame M s0 s) : Frame M s0 (State.flushAccept s) := by
  refine frame_trans (k := 179713) ?_ hM h0
  unfold State.flushAccept
  repeat' (first | with_reducible exact frame_refl _ _ | with_reducible exact Or.inr rfl | exact Or.inl rfl | exact (rfl : Nat.lor _ _ = _) | with_reducible assumption | extract_lets | with_reducible apply frame_ite | with_reducible apply frame_next | (with_reducible apply frame_upd; with_reducible exact Or.inr rfl; fail_if_success (iterate 23 (with_reducible exact Or.inr rfl))) | (with_reducible apply frame_foldl; intro _ _) | with_reducible apply frame_acceptOne | (split) | (dsimp +zetaDelta only))

theorem frame_flushCommands {M : Nat} {s0 s : State} (hM : Nat.lor 179713 M = M) (h0 : Frame M s0 s) : Frame M s0 (State.flushCommands s) := by
  refine frame_trans (k := 179713) ?_ hM h0
  unfold State.flushCommands
  extract_lets s1 s2 _ s3 s4
  have h2 : Frame 179713 s s2 := frame_trans (frame_flushAll _) rfl (frame_flushAccept rfl (frame_refl _ _))
  clear_value s2
  have h3 : Frame 179713 s s3 := by
    unfold s3
    repeat' (first | with_reducible exact frame_refl _ _ | (with_reducible apply frame_upd; with_reducible exact Or.inr rfl; fail_if_success (iterate 23 (with_reducible exact Or.inr rfl))) | with_reducible exact Or.inr rfl | exact Or.inl rfl | exact (rfl : Nat.lor _ _ = _) | exact h2)
  have h4 : Frame 179713 s s4 := frame_mgmtKick rfl h3
  clear_value s4
  repeat' (first | with_reducible exact frame_refl _ _ | (with_reducible apply frame_upd; with_reducible exact Or.inr rfl; fail_if_success (iterate 23 (with_reducible exact Or.inr rfl))) | with_reducible exact Or.inr rfl | exact Or.inl rfl | exact (rfl : Nat.lor _ _ = _) | exact h4)

theorem frame_flushDies {M : Nat} {s0 s : State} (hM : Nat.lor 2048 M = M) (h0 : Frame M s0 s) : Frame M s0 (State.flushDies s) := by
  refine frame_trans (k := 2048) ?_ hM h0
  unfold State.flushDies
  repeat' (first | with_reducible exact frame_refl _ _ | with_reducible exact Or.inr rfl | exact Or.inl rfl | exact (rfl : Nat.lor _ _ = _) | with_reducible assumption | extract_lets | with_reducible apply frame_ite | with_reducible apply frame_next | (with_reducible apply frame_upd; with_reducible exact Or.inr rfl; fail_if_success (iterate 23 (with_reducible exact Or.inr rfl))) | (with_reducible apply frame_foldl; intro _ _) | with_reducible apply frame_setDie | (split) | (dsimp +zetaDelta only))

theorem frame_enterFlush {M : Nat} {s0 s : State} (why) (c) (hM : Nat.lor 4390847 M = M) (h0 : Frame M s0 s) : Frame M s0 (State.enterFlush s why c) := by
  refine frame_trans (k := 4390847) ?_ hM h0
  unfold State.enterFlush
  repeat' (first | with_reducible exact frame_refl _ _ | with_reducible exact Or.inr rfl | exact Or.inl rfl | exact (rfl : Nat.lor _ _ = _) | with_reducible assumption | extract_lets | with_reducible apply frame_ite | with_reducible apply frame_next | (with_reducible apply frame_upd; with_reducible exact Or.inr rfl; fail_if_success (iterate 23 (with_reducible exact Or.inr rfl))) | (with_reducible apply frame_foldl; intro _ _) | with_reducible apply frame_enter | with_reducible apply frame_norAbandon | with_reducible apply frame_setTarget | with_reducible apply frame_stopTest | with_reducible apply frame_loseSleep | with_reducible apply frame_discardRequest | with_reducible apply frame_flushCommands | with_reducible apply frame_flushDies | (split) | (dsimp +zetaDelta only))

theorem frame_writeArea {M : Nat} {s0 s : State} (drain) (hM : Nat.lor 8224 M = M) (h0 : Frame M s0 s) : Frame M s0 (State.writeArea s drain) := by
  refine frame_trans (k := 8224) ?_ hM h0
  unfold State.writeArea
  repeat' (first | with_reducible exact frame_refl _ _ | with_reducible exact Or.inr rfl | exact Or.inl rfl | exact (rfl : Nat.lor _ _ = _) | with_reducible assumption | extract_lets | with_reducible apply frame_ite | with_reducible apply frame_next | (with_reducible apply frame_upd; with_reducible exact Or.inr rfl; fail_if_success (iterate 23 (with_reducible exact Or.inr rfl))) | (with_reducible apply frame_foldl; intro _ _) | (split) | (dsimp +zetaDelta only))

theorem frame_restage {M : Nat} {s0 s : State} (f) (q) (hM : Nat.lor 4096 M = M) (h0 : Frame M s0 s) : Frame M s0 (State.restage s f q) := by
  refine frame_trans (k := 4096) ?_ hM h0
  unfold State.restage
  repeat' (first | with_reducible exact frame_refl _ _ | with_reducible exact Or.inr rfl | exact Or.inl rfl | exact (rfl : Nat.lor _ _ = _) | with_reducible assumption | extract_lets | with_reducible apply frame_ite | with_reducible apply frame_next | (with_reducible apply frame_upd; with_reducible exact Or.inr rfl; fail_if_success (iterate 23 (with_reducible exact Or.inr rfl))) | (with_reducible apply frame_foldl; intro _ _) | (split) | (dsimp +zetaDelta only))

theorem frame_replayRec {M : Nat} {s0 s : State} (f) (x2) (hM : Nat.lor 13825 M = M) (h0 : Frame M s0 s) : Frame M s0 (State.replayRec f s x2) := by
  refine frame_trans (k := 13825) ?_ hM h0
  unfold State.replayRec
  repeat' (first | with_reducible exact frame_refl _ _ | with_reducible exact Or.inr rfl | exact Or.inl rfl | exact (rfl : Nat.lor _ _ = _) | with_reducible assumption | extract_lets | with_reducible apply frame_ite | with_reducible apply frame_next | (with_reducible apply frame_upd; with_reducible exact Or.inr rfl; fail_if_success (iterate 23 (with_reducible exact Or.inr rfl))) | (with_reducible apply frame_foldl; intro _ _) | with_reducible apply frame_raise | with_reducible apply frame_setRec | with_reducible apply frame_undelivered | with_reducible apply frame_restage | (split) | (dsimp +zetaDelta only))

theorem frame_clipZone {M : Nat} {s0 s : State} (z) (hM : Nat.lor 4096 M = M) (h0 : Frame M s0 s) : Frame M s0 (State.clipZone s z) := by
  refine frame_trans (k := 4096) ?_ hM h0
  unfold State.clipZone
  repeat' (first | with_reducible exact frame_refl _ _ | with_reducible exact Or.inr rfl | exact Or.inl rfl | exact (rfl : Nat.lor _ _ = _) | with_reducible assumption | extract_lets | with_reducible apply frame_ite | with_reducible apply frame_next | (with_reducible apply frame_upd; with_reducible exact Or.inr rfl; fail_if_success (iterate 23 (with_reducible exact Or.inr rfl))) | (with_reducible apply frame_foldl; intro _ _) | with_reducible apply frame_setZone | (split) | (dsimp +zetaDelta only))

theorem frame_dropMoves {M : Nat} {s0 s : State} (hM : Nat.lor 4096 M = M) (h0 : Frame M s0 s) : Frame M s0 (State.dropMoves s) := by
  refine frame_trans (k := 4096) ?_ hM h0
  unfold State.dropMoves
  repeat' (first | with_reducible exact frame_refl _ _ | with_reducible exact Or.inr rfl | exact Or.inl rfl | exact (rfl : Nat.lor _ _ = _) | with_reducible assumption | extract_lets | with_reducible apply frame_ite | with_reducible apply frame_next | (with_reducible apply frame_upd; with_reducible exact Or.inr rfl; fail_if_success (iterate 23 (with_reducible exact Or.inr rfl))) | (with_reducible apply frame_foldl; intro _ _) | with_reducible apply frame_freeBlock | (split) | (dsimp +zetaDelta only))

theorem frame_replay {M : Nat} {s0 s : State} (hM : Nat.lor 46593 M = M) (h0 : Frame M s0 s) : Frame M s0 (State.replay s) := by
  refine frame_trans (k := 46593) ?_ hM h0
  unfold State.replay
  repeat' (first | with_reducible exact frame_refl _ _ | with_reducible exact Or.inr rfl | exact Or.inl rfl | exact (rfl : Nat.lor _ _ = _) | with_reducible assumption | extract_lets | with_reducible apply frame_ite | with_reducible apply frame_next | (with_reducible apply frame_upd; with_reducible exact Or.inr rfl; fail_if_success (iterate 23 (with_reducible exact Or.inr rfl))) | (with_reducible apply frame_foldl; intro _ _) | with_reducible apply frame_raise | with_reducible apply frame_divertFailed | with_reducible apply frame_replayRec | with_reducible apply frame_clipZone | with_reducible apply frame_dropMoves | (split) | (dsimp +zetaDelta only))

theorem frame_execNorProgram {s : State} (pages) (data) (fetch) : FrameO 1793 s (execNorProgram pages data fetch s) := by
  unfold execNorProgram
  repeat' (first | with_reducible exact frame_refl _ _ | with_reducible exact Or.inr rfl | exact Or.inl rfl | exact (rfl : Nat.lor _ _ = _) | with_reducible assumption | extract_lets | with_reducible apply frame_ite | with_reducible apply frame_next | (with_reducible apply frame_upd; with_reducible exact Or.inr rfl; fail_if_success (iterate 23 (with_reducible exact Or.inr rfl))) | (with_reducible apply frame_foldl; intro _ _) | with_reducible apply frame_norStart | (split) | (dsimp +zetaDelta only))

theorem frame_execNorSubsectorErase {s : State} (fetch) : FrameO 1793 s (execNorSubsectorErase fetch s) := by
  unfold execNorSubsectorErase
  repeat' (first | with_reducible exact frame_refl _ _ | with_reducible exact Or.inr rfl | exact Or.inl rfl | exact (rfl : Nat.lor _ _ = _) | with_reducible assumption | extract_lets | with_reducible apply frame_ite | with_reducible apply frame_next | (with_reducible apply frame_upd; with_reducible exact Or.inr rfl; fail_if_success (iterate 23 (with_reducible exact Or.inr rfl))) | (with_reducible apply frame_foldl; intro _ _) | with_reducible apply frame_norStart | (split) | (dsimp +zetaDelta only))

theorem frame_execNorSectorErase {s : State} (fetch) : FrameO 1793 s (execNorSectorErase fetch s) := by
  unfold execNorSectorErase
  repeat' (first | with_reducible exact frame_refl _ _ | with_reducible exact Or.inr rfl | exact Or.inl rfl | exact (rfl : Nat.lor _ _ = _) | with_reducible assumption | extract_lets | with_reducible apply frame_ite | with_reducible apply frame_next | (with_reducible apply frame_upd; with_reducible exact Or.inr rfl; fail_if_success (iterate 23 (with_reducible exact Or.inr rfl))) | (with_reducible apply frame_foldl; intro _ _) | with_reducible apply frame_norStart | (split) | (dsimp +zetaDelta only))

theorem frame_norDone {M : Nat} {s0 s : State} (ok) (hM : Nat.lor 1 M = M) (h0 : Frame M s0 s) : Frame M s0 (State.norDone s ok) := by
  refine frame_trans (k := 1) ?_ hM h0
  unfold State.norDone
  repeat' (first | with_reducible exact frame_refl _ _ | with_reducible exact Or.inr rfl | exact Or.inl rfl | exact (rfl : Nat.lor _ _ = _) | with_reducible assumption | extract_lets | with_reducible apply frame_ite | with_reducible apply frame_next | (with_reducible apply frame_upd; with_reducible exact Or.inr rfl; fail_if_success (iterate 23 (with_reducible exact Or.inr rfl))) | (with_reducible apply frame_foldl; intro _ _) | with_reducible apply frame_setReg | with_reducible apply frame_setFld | (split) | (dsimp +zetaDelta only))

theorem frame_norOwnerEnd {M : Nat} {s0 s : State} (o) (ok) (hM : Nat.lor 4228865 M = M) (h0 : Frame M s0 s) : Frame M s0 (State.norOwnerEnd s o ok) := by
  refine frame_trans (k := 4228865) ?_ hM h0
  unfold State.norOwnerEnd
  repeat' (first | with_reducible exact frame_refl _ _ | with_reducible exact Or.inr rfl | exact Or.inl rfl | exact (rfl : Nat.lor _ _ = _) | with_reducible assumption | extract_lets | with_reducible apply frame_ite | with_reducible apply frame_next | (with_reducible apply frame_upd; with_reducible exact Or.inr rfl; fail_if_success (iterate 23 (with_reducible exact Or.inr rfl))) | (with_reducible apply frame_foldl; intro _ _) | with_reducible apply frame_raise | with_reducible apply frame_norApply | with_reducible apply frame_norSpoil | with_reducible apply frame_miReply | with_reducible apply frame_updFail | with_reducible apply frame_updStep | with_reducible apply frame_clearStep | with_reducible apply frame_norDone | (split) | (dsimp +zetaDelta only))

theorem frame_norEnd {M : Nat} {s0 s : State} (o) (ok) (hM : Nat.lor 6275071 M = M) (h0 : Frame M s0 s) : Frame M s0 (State.norEnd s o ok) := by
  refine frame_trans (k := 6275071) ?_ hM h0
  unfold State.norEnd
  repeat' (first | with_reducible exact frame_refl _ _ | with_reducible exact Or.inr rfl | exact Or.inl rfl | exact (rfl : Nat.lor _ _ = _) | with_reducible assumption | extract_lets | with_reducible apply frame_ite | with_reducible apply frame_next | (with_reducible apply frame_upd; with_reducible exact Or.inr rfl; fail_if_success (iterate 23 (with_reducible exact Or.inr rfl))) | (with_reducible apply frame_foldl; intro _ _) | with_reducible apply frame_updResume | with_reducible apply frame_norKick | with_reducible apply frame_mpReset | with_reducible apply frame_norOwnerEnd | (split) | (dsimp +zetaDelta only))

theorem frame_execNorOpComplete {s : State} (ok) : FrameO 6275071 s (execNorOpComplete ok s) := by
  unfold execNorOpComplete
  repeat' (first | with_reducible exact frame_refl _ _ | with_reducible exact Or.inr rfl | exact Or.inl rfl | exact (rfl : Nat.lor _ _ = _) | with_reducible assumption | extract_lets | with_reducible apply frame_ite | with_reducible apply frame_next | (with_reducible apply frame_upd; with_reducible exact Or.inr rfl; fail_if_success (iterate 23 (with_reducible exact Or.inr rfl))) | (with_reducible apply frame_foldl; intro _ _) | with_reducible apply frame_norEnd | (split) | (dsimp +zetaDelta only))

theorem frame_execBusyBankFault {s : State} (addr) (fetch) : FrameO 1793 s (execBusyBankFault addr fetch s) := by
  unfold execBusyBankFault
  repeat' (first | with_reducible exact frame_refl _ _ | with_reducible exact Or.inr rfl | exact Or.inl rfl | exact (rfl : Nat.lor _ _ = _) | with_reducible assumption | extract_lets | with_reducible apply frame_ite | with_reducible apply frame_next | (with_reducible apply frame_upd; with_reducible exact Or.inr rfl; fail_if_success (iterate 23 (with_reducible exact Or.inr rfl))) | (with_reducible apply frame_foldl; intro _ _) | with_reducible apply frame_raise | with_reducible apply frame_setFetchBank | (split) | (dsimp +zetaDelta only))

theorem frame_execProcessorFault {s : State} (p) : FrameO 2080767 s (execProcessorFault p s) := by
  unfold execProcessorFault
  repeat' (first | with_reducible exact frame_refl _ _ | with_reducible exact Or.inr rfl | exact Or.inl rfl | exact (rfl : Nat.lor _ _ = _) | with_reducible assumption | extract_lets | with_reducible apply frame_ite | with_reducible apply frame_next | (with_reducible apply frame_upd; with_reducible exact Or.inr rfl; fail_if_success (iterate 23 (with_reducible exact Or.inr rfl))) | (with_reducible apply frame_foldl; intro _ _) | with_reducible apply frame_kmIslandReset | with_reducible apply frame_mpReset | (split) | (dsimp +zetaDelta only))

theorem frame_execIslandRestartComplete {s : State} (p) : FrameO 34561 s (execIslandRestartComplete p s) := by
  unfold execIslandRestartComplete
  repeat' (first | with_reducible exact frame_refl _ _ | with_reducible exact Or.inr rfl | exact Or.inl rfl | exact (rfl : Nat.lor _ _ = _) | with_reducible assumption | extract_lets | with_reducible apply frame_ite | with_reducible apply frame_next | (with_reducible apply frame_upd; with_reducible exact Or.inr rfl; fail_if_success (iterate 23 (with_reducible exact Or.inr rfl))) | (with_reducible apply frame_foldl; intro _ _) | with_reducible apply frame_raise | with_reducible apply frame_updRestart | with_reducible apply frame_mpRelease | (split) | (dsimp +zetaDelta only))

theorem frame_watchdogExpire {M : Nat} {s0 s : State} (hM : Nat.lor 2080767 M = M) (h0 : Frame M s0 s) : Frame M s0 (State.watchdogExpire s) := by
  refine frame_trans (k := 2080767) ?_ hM h0
  unfold State.watchdogExpire
  repeat' (first | with_reducible exact frame_refl _ _ | with_reducible exact Or.inr rfl | exact Or.inl rfl | exact (rfl : Nat.lor _ _ = _) | with_reducible assumption | extract_lets | with_reducible apply frame_ite | with_reducible apply frame_next | (with_reducible apply frame_upd; with_reducible exact Or.inr rfl; fail_if_success (iterate 23 (with_reducible exact Or.inr rfl))) | (with_reducible apply frame_foldl; intro _ _) | with_reducible apply frame_countFld | with_reducible apply frame_raise | with_reducible apply frame_raiseEach | with_reducible apply frame_mpReset | (split) | (dsimp +zetaDelta only))

theorem frame_execWatchdogKick {s : State} (key) : FrameO 2080767 s (execWatchdogKick key s) := by
  unfold execWatchdogKick
  repeat' (first | with_reducible exact frame_refl _ _ | with_reducible exact Or.inr rfl | exact Or.inl rfl | exact (rfl : Nat.lor _ _ = _) | with_reducible assumption | extract_lets | with_reducible apply frame_ite | with_reducible apply frame_next | (with_reducible apply frame_upd; with_reducible exact Or.inr rfl; fail_if_success (iterate 23 (with_reducible exact Or.inr rfl))) | (with_reducible apply frame_foldl; intro _ _) | with_reducible apply frame_setFld | with_reducible apply frame_raise | with_reducible apply frame_watchdogExpire | (split) | (dsimp +zetaDelta only))

theorem frame_execWatchdogExpiry {s : State} : FrameO 2080767 s (execWatchdogExpiry s) := by
  unfold execWatchdogExpiry
  repeat' (first | with_reducible exact frame_refl _ _ | with_reducible exact Or.inr rfl | exact Or.inl rfl | exact (rfl : Nat.lor _ _ = _) | with_reducible assumption | extract_lets | with_reducible apply frame_ite | with_reducible apply frame_next | (with_reducible apply frame_upd; with_reducible exact Or.inr rfl; fail_if_success (iterate 23 (with_reducible exact Or.inr rfl))) | (with_reducible apply frame_foldl; intro _ _) | with_reducible apply frame_watchdogExpire | (split) | (dsimp +zetaDelta only))

theorem frame_execMgtClockStop {s : State} : FrameO 1024 s (execMgtClockStop s) := by
  unfold execMgtClockStop
  repeat' (first | with_reducible exact frame_refl _ _ | with_reducible exact Or.inr rfl | exact Or.inl rfl | exact (rfl : Nat.lor _ _ = _) | with_reducible assumption | extract_lets | with_reducible apply frame_ite | with_reducible apply frame_next | (with_reducible apply frame_upd; with_reducible exact Or.inr rfl; fail_if_success (iterate 23 (with_reducible exact Or.inr rfl))) | (with_reducible apply frame_foldl; intro _ _) | (split) | (dsimp +zetaDelta only))

theorem frame_execMgtClockRestart {s : State} : FrameO 1024 s (execMgtClockRestart s) := by
  unfold execMgtClockRestart
  repeat' (first | with_reducible exact frame_refl _ _ | with_reducible exact Or.inr rfl | exact Or.inl rfl | exact (rfl : Nat.lor _ _ = _) | with_reducible assumption | extract_lets | with_reducible apply frame_ite | with_reducible apply frame_next | (with_reducible apply frame_upd; with_reducible exact Or.inr rfl; fail_if_success (iterate 23 (with_reducible exact Or.inr rfl))) | (with_reducible apply frame_foldl; intro _ _) | (split) | (dsimp +zetaDelta only))

theorem frame_i3cOk {M : Nat} {s0 s : State} (bs) (hM : Nat.lor 1024 M = M) (h0 : Frame M s0 s) : Frame M s0 (State.i3cOk s bs) := by
  refine frame_trans (k := 1024) ?_ hM h0
  unfold State.i3cOk
  repeat' (first | with_reducible exact frame_refl _ _ | with_reducible exact Or.inr rfl | exact Or.inl rfl | exact (rfl : Nat.lor _ _ = _) | with_reducible assumption | extract_lets | with_reducible apply frame_ite | with_reducible apply frame_next | (with_reducible apply frame_upd; with_reducible exact Or.inr rfl; fail_if_success (iterate 23 (with_reducible exact Or.inr rfl))) | (with_reducible apply frame_foldl; intro _ _) | (split) | (dsimp +zetaDelta only))

theorem frame_i3cNack {M : Nat} {s0 s : State} (hM : Nat.lor 1024 M = M) (h0 : Frame M s0 s) : Frame M s0 (State.i3cNack s) := by
  refine frame_trans (k := 1024) ?_ hM h0
  unfold State.i3cNack
  repeat' (first | with_reducible exact frame_refl _ _ | with_reducible exact Or.inr rfl | exact Or.inl rfl | exact (rfl : Nat.lor _ _ = _) | with_reducible assumption | extract_lets | with_reducible apply frame_ite | with_reducible apply frame_next | (with_reducible apply frame_upd; with_reducible exact Or.inr rfl; fail_if_success (iterate 23 (with_reducible exact Or.inr rfl))) | (with_reducible apply frame_foldl; intro _ _) | (split) | (dsimp +zetaDelta only))

theorem frame_cccRead {M : Nat} {s0 s : State} (addr) (bs) (hM : Nat.lor 1024 M = M) (h0 : Frame M s0 s) : Frame M s0 (State.cccRead s addr bs) := by
  refine frame_trans (k := 1024) ?_ hM h0
  unfold State.cccRead
  repeat' (first | with_reducible exact frame_refl _ _ | with_reducible exact Or.inr rfl | exact Or.inl rfl | exact (rfl : Nat.lor _ _ = _) | with_reducible assumption | extract_lets | with_reducible apply frame_ite | with_reducible apply frame_next | (with_reducible apply frame_upd; with_reducible exact Or.inr rfl; fail_if_success (iterate 23 (with_reducible exact Or.inr rfl))) | (with_reducible apply frame_foldl; intro _ _) | with_reducible apply frame_i3cOk | with_reducible apply frame_i3cNack | (split) | (dsimp +zetaDelta only))

theorem frame_takeAddr {M : Nat} {s0 s : State} (addr) (how) (hM : Nat.lor 1 M = M) (h0 : Frame M s0 s) : Frame M s0 (State.takeAddr s addr how) := by
  refine frame_trans (k := 1) ?_ hM h0
  unfold State.takeAddr
  repeat' (first | with_reducible exact frame_refl _ _ | with_reducible exact Or.inr rfl | exact Or.inl rfl | exact (rfl : Nat.lor _ _ = _) | with_reducible assumption | extract_lets | with_reducible apply frame_ite | with_reducible apply frame_next | (with_reducible apply frame_upd; with_reducible exact Or.inr rfl; fail_if_success (iterate 23 (with_reducible exact Or.inr rfl))) | (with_reducible apply frame_foldl; intro _ _) | with_reducible apply frame_setFld | (split) | (dsimp +zetaDelta only))

theorem frame_execEntdaa {s : State} (won) : FrameO 1025 s (execEntdaa won s) := by
  unfold execEntdaa
  repeat' (first | with_reducible exact frame_refl _ _ | with_reducible exact Or.inr rfl | exact Or.inl rfl | exact (rfl : Nat.lor _ _ = _) | with_reducible assumption | extract_lets | with_reducible apply frame_ite | with_reducible apply frame_next | (with_reducible apply frame_upd; with_reducible exact Or.inr rfl; fail_if_success (iterate 23 (with_reducible exact Or.inr rfl))) | (with_reducible apply frame_foldl; intro _ _) | with_reducible apply frame_i3cOk | with_reducible apply frame_i3cNack | with_reducible apply frame_takeAddr | (split) | (dsimp +zetaDelta only))

theorem frame_execRstdaa {s : State} : FrameO 1025 s (execRstdaa s) := by
  unfold execRstdaa
  repeat' (first | with_reducible exact frame_refl _ _ | with_reducible exact Or.inr rfl | exact Or.inl rfl | exact (rfl : Nat.lor _ _ = _) | with_reducible assumption | extract_lets | with_reducible apply frame_ite | with_reducible apply frame_next | (with_reducible apply frame_upd; with_reducible exact Or.inr rfl; fail_if_success (iterate 23 (with_reducible exact Or.inr rfl))) | (with_reducible apply frame_foldl; intro _ _) | with_reducible apply frame_setFld | with_reducible apply frame_i3cOk | (split) | (dsimp +zetaDelta only))

theorem frame_execSetdasa {s : State} (staticA) (new) : FrameO 1025 s (execSetdasa staticA new s) := by
  unfold execSetdasa
  repeat' (first | with_reducible exact frame_refl _ _ | with_reducible exact Or.inr rfl | exact Or.inl rfl | exact (rfl : Nat.lor _ _ = _) | with_reducible assumption | extract_lets | with_reducible apply frame_ite | with_reducible apply frame_next | (with_reducible apply frame_upd; with_reducible exact Or.inr rfl; fail_if_success (iterate 23 (with_reducible exact Or.inr rfl))) | (with_reducible apply frame_foldl; intro _ _) | with_reducible apply frame_i3cOk | with_reducible apply frame_i3cNack | with_reducible apply frame_takeAddr | (split) | (dsimp +zetaDelta only))

theorem frame_execSetnewda {s : State} (addr) (new) : FrameO 1025 s (execSetnewda addr new s) := by
  unfold execSetnewda
  repeat' (first | with_reducible exact frame_refl _ _ | with_reducible exact Or.inr rfl | exact Or.inl rfl | exact (rfl : Nat.lor _ _ = _) | with_reducible assumption | extract_lets | with_reducible apply frame_ite | with_reducible apply frame_next | (with_reducible apply frame_upd; with_reducible exact Or.inr rfl; fail_if_success (iterate 23 (with_reducible exact Or.inr rfl))) | (with_reducible apply frame_foldl; intro _ _) | with_reducible apply frame_i3cOk | with_reducible apply frame_i3cNack | with_reducible apply frame_takeAddr | (split) | (dsimp +zetaDelta only))

theorem frame_execGetpid {s : State} (addr) : FrameO 1024 s (execGetpid addr s) := by
  unfold execGetpid
  repeat' (first | with_reducible exact frame_refl _ _ | with_reducible exact Or.inr rfl | exact Or.inl rfl | exact (rfl : Nat.lor _ _ = _) | with_reducible assumption | extract_lets | with_reducible apply frame_ite | with_reducible apply frame_next | (with_reducible apply frame_upd; with_reducible exact Or.inr rfl; fail_if_success (iterate 23 (with_reducible exact Or.inr rfl))) | (with_reducible apply frame_foldl; intro _ _) | with_reducible apply frame_cccRead | (split) | (dsimp +zetaDelta only))

theorem frame_execGetbcr {s : State} (addr) : FrameO 1024 s (execGetbcr addr s) := by
  unfold execGetbcr
  repeat' (first | with_reducible exact frame_refl _ _ | with_reducible exact Or.inr rfl | exact Or.inl rfl | exact (rfl : Nat.lor _ _ = _) | with_reducible assumption | extract_lets | with_reducible apply frame_ite | with_reducible apply frame_next | (with_reducible apply frame_upd; with_reducible exact Or.inr rfl; fail_if_success (iterate 23 (with_reducible exact Or.inr rfl))) | (with_reducible apply frame_foldl; intro _ _) | with_reducible apply frame_cccRead | (split) | (dsimp +zetaDelta only))

theorem frame_execGetdcr {s : State} (addr) : FrameO 1024 s (execGetdcr addr s) := by
  unfold execGetdcr
  repeat' (first | with_reducible exact frame_refl _ _ | with_reducible exact Or.inr rfl | exact Or.inl rfl | exact (rfl : Nat.lor _ _ = _) | with_reducible assumption | extract_lets | with_reducible apply frame_ite | with_reducible apply frame_next | (with_reducible apply frame_upd; with_reducible exact Or.inr rfl; fail_if_success (iterate 23 (with_reducible exact Or.inr rfl))) | (with_reducible apply frame_foldl; intro _ _) | with_reducible apply frame_cccRead | (split) | (dsimp +zetaDelta only))

theorem frame_execGetstatus {s : State} (addr) : FrameO 1024 s (execGetstatus addr s) := by
  unfold execGetstatus
  repeat' (first | with_reducible exact frame_refl _ _ | with_reducible exact Or.inr rfl | exact Or.inl rfl | exact (rfl : Nat.lor _ _ = _) | with_reducible assumption | extract_lets | with_reducible apply frame_ite | with_reducible apply frame_next | (with_reducible apply frame_upd; with_reducible exact Or.inr rfl; fail_if_success (iterate 23 (with_reducible exact Or.inr rfl))) | (with_reducible apply frame_foldl; intro _ _) | with_reducible apply frame_cccRead | (split) | (dsimp +zetaDelta only))

theorem frame_execGetmwl {s : State} (addr) : FrameO 1024 s (execGetmwl addr s) := by
  unfold execGetmwl
  repeat' (first | with_reducible exact frame_refl _ _ | with_reducible exact Or.inr rfl | exact Or.inl rfl | exact (rfl : Nat.lor _ _ = _) | with_reducible assumption | extract_lets | with_reducible apply frame_ite | with_reducible apply frame_next | (with_reducible apply frame_upd; with_reducible exact Or.inr rfl; fail_if_success (iterate 23 (with_reducible exact Or.inr rfl))) | (with_reducible apply frame_foldl; intro _ _) | with_reducible apply frame_cccRead | (split) | (dsimp +zetaDelta only))

theorem frame_execGetmrl {s : State} (addr) : FrameO 1024 s (execGetmrl addr s) := by
  unfold execGetmrl
  repeat' (first | with_reducible exact frame_refl _ _ | with_reducible exact Or.inr rfl | exact Or.inl rfl | exact (rfl : Nat.lor _ _ = _) | with_reducible assumption | extract_lets | with_reducible apply frame_ite | with_reducible apply frame_next | (with_reducible apply frame_upd; with_reducible exact Or.inr rfl; fail_if_success (iterate 23 (with_reducible exact Or.inr rfl))) | (with_reducible apply frame_foldl; intro _ _) | with_reducible apply frame_cccRead | (split) | (dsimp +zetaDelta only))

theorem frame_execSetmwl {s : State} (addr) (v) : FrameO 1024 s (execSetmwl addr v s) := by
  unfold execSetmwl
  repeat' (first | with_reducible exact frame_refl _ _ | with_reducible exact Or.inr rfl | exact Or.inl rfl | exact (rfl : Nat.lor _ _ = _) | with_reducible assumption | extract_lets | with_reducible apply frame_ite | with_reducible apply frame_next | (with_reducible apply frame_upd; with_reducible exact Or.inr rfl; fail_if_success (iterate 23 (with_reducible exact Or.inr rfl))) | (with_reducible apply frame_foldl; intro _ _) | with_reducible apply frame_i3cOk | with_reducible apply frame_i3cNack | (split) | (dsimp +zetaDelta only))

theorem frame_execSetmrl {s : State} (addr) (v) : FrameO 1024 s (execSetmrl addr v s) := by
  unfold execSetmrl
  repeat' (first | with_reducible exact frame_refl _ _ | with_reducible exact Or.inr rfl | exact Or.inl rfl | exact (rfl : Nat.lor _ _ = _) | with_reducible assumption | extract_lets | with_reducible apply frame_ite | with_reducible apply frame_next | (with_reducible apply frame_upd; with_reducible exact Or.inr rfl; fail_if_success (iterate 23 (with_reducible exact Or.inr rfl))) | (with_reducible apply frame_foldl; intro _ _) | with_reducible apply frame_i3cOk | with_reducible apply frame_i3cNack | (split) | (dsimp +zetaDelta only))

theorem frame_cccIdle {M : Nat} {s0 s : State} (addr) (hM : Nat.lor 1024 M = M) (h0 : Frame M s0 s) : Frame M s0 (State.cccIdle s addr) := by
  refine frame_trans (k := 1024) ?_ hM h0
  unfold State.cccIdle
  repeat' (first | with_reducible exact frame_refl _ _ | with_reducible exact Or.inr rfl | exact Or.inl rfl | exact (rfl : Nat.lor _ _ = _) | with_reducible assumption | extract_lets | with_reducible apply frame_ite | with_reducible apply frame_next | (with_reducible apply frame_upd; with_reducible exact Or.inr rfl; fail_if_success (iterate 23 (with_reducible exact Or.inr rfl))) | (with_reducible apply frame_foldl; intro _ _) | with_reducible apply frame_i3cOk | with_reducible apply frame_i3cNack | (split) | (dsimp +zetaDelta only))

theorem frame_execEnec {s : State} (addr) : FrameO 1024 s (execEnec addr s) := by
  unfold execEnec
  repeat' (first | with_reducible exact frame_refl _ _ | with_reducible exact Or.inr rfl | exact Or.inl rfl | exact (rfl : Nat.lor _ _ = _) | with_reducible assumption | extract_lets | with_reducible apply frame_ite | with_reducible apply frame_next | (with_reducible apply frame_upd; with_reducible exact Or.inr rfl; fail_if_success (iterate 23 (with_reducible exact Or.inr rfl))) | (with_reducible apply frame_foldl; intro _ _) | with_reducible apply frame_cccIdle | (split) | (dsimp +zetaDelta only))

theorem frame_execDisec {s : State} (addr) : FrameO 1024 s (execDisec addr s) := by
  unfold execDisec
  repeat' (first | with_reducible exact frame_refl _ _ | with_reducible exact Or.inr rfl | exact Or.inl rfl | exact (rfl : Nat.lor _ _ = _) | with_reducible assumption | extract_lets | with_reducible apply frame_ite | with_reducible apply frame_next | (with_reducible apply frame_upd; with_reducible exact Or.inr rfl; fail_if_success (iterate 23 (with_reducible exact Or.inr rfl))) | (with_reducible apply frame_foldl; intro _ _) | with_reducible apply frame_cccIdle | (split) | (dsimp +zetaDelta only))

theorem frame_earlyMatch {M : Nat} {s0 s : State} (addr) (hM : Nat.lor 1025 M = M) (h0 : Frame M s0 s) : Frame M s0 (State.earlyMatch s addr) := by
  refine frame_trans (k := 1025) ?_ hM h0
  unfold State.earlyMatch
  repeat' (first | with_reducible exact frame_refl _ _ | with_reducible exact Or.inr rfl | exact Or.inl rfl | exact (rfl : Nat.lor _ _ = _) | with_reducible assumption | extract_lets | with_reducible apply frame_ite | with_reducible apply frame_next | (with_reducible apply frame_upd; with_reducible exact Or.inr rfl; fail_if_success (iterate 23 (with_reducible exact Or.inr rfl))) | (with_reducible apply frame_foldl; intro _ _) | with_reducible apply frame_setFld | with_reducible apply frame_i3cNack | (split) | (dsimp +zetaDelta only))

theorem frame_takeMsg {M : Nat} {s0 s : State} (m) (hM : Nat.lor 1024 M = M) (h0 : Frame M s0 s) : Frame M s0 (State.takeMsg s m) := by
  refine frame_trans (k := 1024) ?_ hM h0
  unfold State.takeMsg
  repeat' (first | with_reducible exact frame_refl _ _ | with_reducible exact Or.inr rfl | exact Or.inl rfl | exact (rfl : Nat.lor _ _ = _) | with_reducible assumption | extract_lets | with_reducible apply frame_ite | with_reducible apply frame_next | (with_reducible apply frame_upd; with_reducible exact Or.inr rfl; fail_if_success (iterate 23 (with_reducible exact Or.inr rfl))) | (with_reducible apply frame_foldl; intro _ _) | (split) | (dsimp +zetaDelta only))

theorem frame_takePacket {M : Nat} {s0 s : State} (bs) (hM : Nat.lor 1537 M = M) (h0 : Frame M s0 s) : Frame M s0 (State.takePacket s bs) := by
  refine frame_trans (k := 1537) ?_ hM h0
  unfold State.takePacket
  repeat' (first | with_reducible exact frame_refl _ _ | with_reducible exact Or.inr rfl | exact Or.inl rfl | exact (rfl : Nat.lor _ _ = _) | with_reducible assumption | extract_lets | with_reducible apply frame_ite | with_reducible apply frame_next | (with_reducible apply frame_upd; with_reducible exact Or.inr rfl; fail_if_success (iterate 23 (with_reducible exact Or.inr rfl))) | (with_reducible apply frame_foldl; intro _ _) | with_reducible apply frame_raise | with_reducible apply frame_takeMsg | (split) | (dsimp +zetaDelta only))

theorem frame_execMctpPacketRead {s : State} (addr) : FrameO 1537 s (execMctpPacketRead addr s) := by
  unfold execMctpPacketRead
  repeat' (first | with_reducible exact frame_refl _ _ | with_reducible exact Or.inr rfl | exact Or.inl rfl | exact (rfl : Nat.lor _ _ = _) | with_reducible assumption | extract_lets | with_reducible apply frame_ite | with_reducible apply frame_next | (with_reducible apply frame_upd; with_reducible exact Or.inr rfl; fail_if_success (iterate 23 (with_reducible exact Or.inr rfl))) | (with_reducible apply frame_foldl; intro _ _) | with_reducible apply frame_levelBit | with_reducible apply frame_i3cOk | with_reducible apply frame_i3cNack | with_reducible apply frame_earlyMatch | (split) | (dsimp +zetaDelta only))

theorem frame_setMove {M : Nat} {s0 s : State} (n) (m) (hM : Nat.lor 4096 M = M) (h0 : Frame M s0 s) : Frame M s0 (State.setMove s n m) := by
  refine frame_trans (k := 4096) ?_ hM h0
  unfold State.setMove
  repeat' (first | with_reducible exact frame_refl _ _ | with_reducible exact Or.inr rfl | exact Or.inl rfl | exact (rfl : Nat.lor _ _ = _) | with_reducible assumption | extract_lets | with_reducible apply frame_ite | with_reducible apply frame_next | (with_reducible apply frame_upd; with_reducible exact Or.inr rfl; fail_if_success (iterate 23 (with_reducible exact Or.inr rfl))) | (with_reducible apply frame_foldl; intro _ _) | (split) | (dsimp +zetaDelta only))

theorem frame_dropMove {M : Nat} {s0 s : State} (n) (hM : Nat.lor 4096 M = M) (h0 : Frame M s0 s) : Frame M s0 (State.dropMove s n) := by
  refine frame_trans (k := 4096) ?_ hM h0
  unfold State.dropMove
  repeat' (first | with_reducible exact frame_refl _ _ | with_reducible exact Or.inr rfl | exact Or.inl rfl | exact (rfl : Nat.lor _ _ = _) | with_reducible assumption | extract_lets | with_reducible apply frame_ite | with_reducible apply frame_next | (with_reducible apply frame_upd; with_reducible exact Or.inr rfl; fail_if_success (iterate 23 (with_reducible exact Or.inr rfl))) | (with_reducible apply frame_foldl; intro _ _) | (split) | (dsimp +zetaDelta only))

theorem frame_addMove {M : Nat} {s0 s : State} (m) (hM : Nat.lor 4096 M = M) (h0 : Frame M s0 s) : Frame M s0 (State.addMove s m) := by
  refine frame_trans (k := 4096) ?_ hM h0
  unfold State.addMove
  repeat' (first | with_reducible exact frame_refl _ _ | with_reducible exact Or.inr rfl | exact Or.inl rfl | exact (rfl : Nat.lor _ _ = _) | with_reducible assumption | extract_lets | with_reducible apply frame_ite | with_reducible apply frame_next | (with_reducible apply frame_upd; with_reducible exact Or.inr rfl; fail_if_success (iterate 23 (with_reducible exact Or.inr rfl))) | (with_reducible apply frame_foldl; intro _ _) | with_reducible apply frame_setMove | (split) | (dsimp +zetaDelta only))

theorem frame_poolBlock {s : State} {d} {x} {t : State} (e : State.poolBlock s d = some (x, t)) : Frame 4096 s t := by
  unfold State.poolBlock at e
  repeat' (first | extract_lets at e | (split at e))
  all_goals (cases e)
  all_goals (repeat' (first | with_reducible exact frame_refl _ _ | with_reducible exact Or.inr rfl | exact Or.inl rfl | exact (rfl : Nat.lor _ _ = _) | with_reducible assumption | extract_lets | with_reducible apply frame_ite | with_reducible apply frame_next | (with_reducible apply frame_upd; with_reducible exact Or.inr rfl; fail_if_success (iterate 23 (with_reducible exact Or.inr rfl))) | (with_reducible apply frame_foldl; intro _ _) | with_reducible apply frame_setBlock | (split) | (dsimp +zetaDelta only)))

theorem frame_startMove {s : State} {k} {d} {b} {t : State} (e : State.startMove s k d b = some t) : Frame 4096 s t := by
  unfold State.startMove at e
  repeat' (first | extract_lets at e | (split at e))
  all_goals (cases e)
  all_goals (repeat' (first | with_reducible exact frame_refl _ _ | with_reducible exact Or.inr rfl | exact Or.inl rfl | exact (rfl : Nat.lor _ _ = _) | with_reducible assumption | extract_lets | with_reducible apply frame_ite | with_reducible apply frame_next | (with_reducible apply frame_upd; with_reducible exact Or.inr rfl; fail_if_success (iterate 23 (with_reducible exact Or.inr rfl))) | (with_reducible apply frame_foldl; intro _ _) | with_reducible apply frame_setBlock | with_reducible apply frame_addMove | (with_reducible refine frame_trans (frame_poolBlock (by assumption)) ?_ ?_) | (split) | (dsimp +zetaDelta only)))

theorem frame_startFold {M : Nat} {s0 s : State} (k) (z) (i) (hM : Nat.lor 4096 M = M) (h0 : Frame M s0 s) : Frame M s0 (State.startFold s k z i) := by
  refine frame_trans (k := 4096) ?_ hM h0
  unfold State.startFold
  repeat' (first | with_reducible exact frame_refl _ _ | with_reducible exact Or.inr rfl | exact Or.inl rfl | exact (rfl : Nat.lor _ _ = _) | with_reducible assumption | extract_lets | with_reducible apply frame_ite | with_reducible apply frame_next | (with_reducible apply frame_upd; with_reducible exact Or.inr rfl; fail_if_success (iterate 23 (with_reducible exact Or.inr rfl))) | (with_reducible apply frame_foldl; intro _ _) | with_reducible apply frame_addMove | (split) | (dsimp +zetaDelta only))

theorem frame_moveAndRetire {M : Nat} {s0 s : State} (d) (b) (cause) (hM : Nat.lor 40449 M = M) (h0 : Frame M s0 s) : Frame M s0 (State.moveAndRetire s d b cause) := by
  refine frame_trans (k := 40449) ?_ hM h0
  unfold State.moveAndRetire
  repeat' (first | with_reducible exact frame_refl _ _ | with_reducible exact Or.inr rfl | exact Or.inl rfl | exact (rfl : Nat.lor _ _ = _) | with_reducible assumption | extract_lets | with_reducible apply frame_ite | with_reducible apply frame_next | (with_reducible apply frame_upd; with_reducible exact Or.inr rfl; fail_if_success (iterate 23 (with_reducible exact Or.inr rfl))) | (with_reducible apply frame_foldl; intro _ _) | with_reducible apply frame_setBlock | with_reducible apply frame_retireBlock | (split) | (dsimp +zetaDelta only))

theorem frame_startMoveD {k d b} {s : State} : Frame 4096 s ((s.startMove k d b).getD s) := by
  cases e : s.startMove k d b with
  | none => exact frame_refl _ _
  | some t => exact frame_startMove e

theorem frame_moveFailed {M : Nat} {s0 s : State} (n) (cause) (hM : Nat.lor 40449 M = M) (h0 : Frame M s0 s) : Frame M s0 (State.moveFailed s n cause) := by
  refine frame_trans (k := 40449) ?_ hM h0
  unfold State.moveFailed
  split
  · exact frame_refl _ _
  · extract_lets s1 s2
    have h1 : Frame 40449 s s1 := frame_raise _ _ rfl (frame_dropMove _ rfl (frame_refl _ _))
    have h2 : Frame 40449 s s2 := frame_retireBlock _ _ _ rfl h1
    exact frame_ite (frame_moveAndRetire _ _ _ rfl h1) (frame_trans frame_startMoveD rfl h2)

theorem frame_read14 {M : Nat} {s0 s : State} (d) (type) (b) (mv) (verify) (hM : Nat.lor 6144 M = M) (h0 : Frame M s0 s) : Frame M s0 (State.read14 s d type b mv verify) := by
  refine frame_trans (k := 6144) ?_ hM h0
  unfold State.read14
  repeat' (first | with_reducible exact frame_refl _ _ | with_reducible exact Or.inr rfl | exact Or.inl rfl | exact (rfl : Nat.lor _ _ = _) | with_reducible assumption | extract_lets | with_reducible apply frame_ite | with_reducible apply frame_next | (with_reducible apply frame_upd; with_reducible exact Or.inr rfl; fail_if_success (iterate 23 (with_reducible exact Or.inr rfl))) | (with_reducible apply frame_foldl; intro _ _) | with_reducible apply frame_setDie | with_reducible apply frame_countRead | (split) | (dsimp +zetaDelta only))

theorem frame_moveStep {M : Nat} {s0 s : State} (d) (type) (x3) (hM : Nat.lor 6144 M = M) (h0 : Frame M s0 s) : Frame M s0 (State.moveStep s d type x3) := by
  refine frame_trans (k := 6144) ?_ hM h0
  unfold State.moveStep
  repeat' (first | with_reducible exact frame_refl _ _ | with_reducible exact Or.inr rfl | exact Or.inl rfl | exact (rfl : Nat.lor _ _ = _) | with_reducible assumption | extract_lets | with_reducible apply frame_ite | with_reducible apply frame_next | (with_reducible apply frame_upd; with_reducible exact Or.inr rfl; fail_if_success (iterate 23 (with_reducible exact Or.inr rfl))) | (with_reducible apply frame_foldl; intro _ _) | with_reducible apply frame_setDie | with_reducible apply frame_read14 | (split) | (dsimp +zetaDelta only))

theorem frame_doWork {M : Nat} {s0 s : State} (d) (type) (w) (hM : Nat.lor 7681 M = M) (h0 : Frame M s0 s) : Frame M s0 (State.doWork s d type w) := by
  refine frame_trans (k := 7681) ?_ hM h0
  unfold State.doWork
  have hs : ∀ k b, Frame 7681 s ((s.startMove k d b).getD s) := fun k b => frame_trans frame_startMoveD rfl (frame_refl _ _)
  repeat' (first | with_reducible exact frame_refl _ _ | (with_reducible apply frame_upd; with_reducible exact Or.inr rfl; fail_if_success (iterate 23 (with_reducible exact Or.inr rfl))) | with_reducible exact Or.inr rfl | exact Or.inl rfl | exact (rfl : Nat.lor _ _ = _) | with_reducible assumption | with_reducible apply hs | extract_lets | with_reducible apply frame_ite | with_reducible apply frame_takeTail | with_reducible apply frame_takePad | with_reducible apply frame_setDie | with_reducible apply frame_startFold | with_reducible apply frame_moveStep | with_reducible apply frame_read14 | (split) | (dsimp +zetaDelta only))

theorem frame_run14 {M : Nat} {s0 s : State} (d) (type) (w) (hM : Nat.lor 7681 M = M) (h0 : Frame M s0 s) : Frame M s0 (State.run14 s d type w) := by
  refine frame_trans (k := 7681) ?_ hM h0
  unfold State.run14
  repeat' (first | with_reducible exact frame_refl _ _ | with_reducible exact Or.inr rfl | exact Or.inl rfl | exact (rfl : Nat.lor _ _ = _) | with_reducible assumption | extract_lets | with_reducible apply frame_ite | with_reducible apply frame_next | (with_reducible apply frame_upd; with_reducible exact Or.inr rfl; fail_if_success (iterate 23 (with_reducible exact Or.inr rfl))) | (with_reducible apply frame_foldl; intro _ _) | with_reducible apply frame_takeConvPad | with_reducible apply frame_doWork | (split) | (dsimp +zetaDelta only))

theorem frame_poisonMove {M : Nat} {s0 s : State} (n) (bad) (hM : Nat.lor 4096 M = M) (h0 : Frame M s0 s) : Frame M s0 (State.poisonMove s n bad) := by
  refine frame_trans (k := 4096) ?_ hM h0
  unfold State.poisonMove
  repeat' (first | with_reducible exact frame_refl _ _ | with_reducible exact Or.inr rfl | exact Or.inl rfl | exact (rfl : Nat.lor _ _ = _) | with_reducible assumption | extract_lets | with_reducible apply frame_ite | with_reducible apply frame_next | (with_reducible apply frame_upd; with_reducible exact Or.inr rfl; fail_if_success (iterate 23 (with_reducible exact Or.inr rfl))) | (with_reducible apply frame_foldl; intro _ _) | with_reducible apply frame_setMove | (split) | (dsimp +zetaDelta only))

theorem frame_placeKey {M : Nat} {s0 s : State} (d) (block) (pl) (k) (hM : Nat.lor 36864 M = M) (h0 : Frame M s0 s) : Frame M s0 (State.placeKey s d block pl k) := by
  refine frame_trans (k := 36864) ?_ hM h0
  unfold State.placeKey
  repeat' (first | with_reducible exact frame_refl _ _ | with_reducible exact Or.inr rfl | exact Or.inl rfl | exact (rfl : Nat.lor _ _ = _) | with_reducible assumption | extract_lets | with_reducible apply frame_ite | with_reducible apply frame_next | (with_reducible apply frame_upd; with_reducible exact Or.inr rfl; fail_if_success (iterate 23 (with_reducible exact Or.inr rfl))) | (with_reducible apply frame_foldl; intro _ _) | with_reducible apply frame_settleMsgs | (split) | (dsimp +zetaDelta only))

theorem frame_notePlaces {M : Nat} {s0 s : State} (d) (block) (page) (qlc) (keys) (hM : Nat.lor 8192 M = M) (h0 : Frame M s0 s) : Frame M s0 (State.notePlaces s d block page qlc keys) := by
  refine frame_trans (k := 8192) ?_ hM h0
  unfold State.notePlaces
  repeat' (first | with_reducible exact frame_refl _ _ | with_reducible exact Or.inr rfl | exact Or.inl rfl | exact (rfl : Nat.lor _ _ = _) | with_reducible assumption | extract_lets | with_reducible apply frame_ite | with_reducible apply frame_next | (with_reducible apply frame_upd; with_reducible exact Or.inr rfl; fail_if_success (iterate 23 (with_reducible exact Or.inr rfl))) | (with_reducible apply frame_foldl; intro _ _) | with_reducible apply frame_modRec | (split) | (dsimp +zetaDelta only))

theorem frame_advanceSlot {M : Nat} {s0 s : State} (z) (i) (block) (toSlc) (hM : Nat.lor 4096 M = M) (h0 : Frame M s0 s) : Frame M s0 (State.advanceSlot s z i block toSlc) := by
  refine frame_trans (k := 4096) ?_ hM h0
  unfold State.advanceSlot
  repeat' (first | with_reducible exact frame_refl _ _ | with_reducible exact Or.inr rfl | exact Or.inl rfl | exact (rfl : Nat.lor _ _ = _) | with_reducible assumption | extract_lets | with_reducible apply frame_ite | with_reducible apply frame_next | (with_reducible apply frame_upd; with_reducible exact Or.inr rfl; fail_if_success (iterate 23 (with_reducible exact Or.inr rfl))) | (with_reducible apply frame_foldl; intro _ _) | with_reducible apply frame_setZone | with_reducible apply frame_setBlock | with_reducible apply frame_fillBlocks | (split) | (dsimp +zetaDelta only))

theorem frame_dropTail {M : Nat} {s0 s : State} (z) (hM : Nat.lor 4096 M = M) (h0 : Frame M s0 s) : Frame M s0 (State.dropTail s z) := by
  refine frame_trans (k := 4096) ?_ hM h0
  unfold State.dropTail
  repeat' (first | with_reducible exact frame_refl _ _ | with_reducible exact Or.inr rfl | exact Or.inl rfl | exact (rfl : Nat.lor _ _ = _) | with_reducible assumption | extract_lets | with_reducible apply frame_ite | with_reducible apply frame_next | (with_reducible apply frame_upd; with_reducible exact Or.inr rfl; fail_if_success (iterate 23 (with_reducible exact Or.inr rfl))) | (with_reducible apply frame_foldl; intro _ _) | with_reducible apply frame_setZone | (split) | (dsimp +zetaDelta only))

theorem frame_moveWrote {M : Nat} {s0 s : State} (n) (hM : Nat.lor 4096 M = M) (h0 : Frame M s0 s) : Frame M s0 (State.moveWrote s n) := by
  refine frame_trans (k := 4096) ?_ hM h0
  unfold State.moveWrote
  repeat' (first | with_reducible exact frame_refl _ _ | with_reducible exact Or.inr rfl | exact Or.inl rfl | exact (rfl : Nat.lor _ _ = _) | with_reducible assumption | extract_lets | with_reducible apply frame_ite | with_reducible apply frame_next | (with_reducible apply frame_upd; with_reducible exact Or.inr rfl; fail_if_success (iterate 23 (with_reducible exact Or.inr rfl))) | (with_reducible apply frame_foldl; intro _ _) | with_reducible apply frame_setBlock | with_reducible apply frame_setMove | (split) | (dsimp +zetaDelta only))

theorem frame_tailAdvance {M : Nat} {s0 s : State} (d) (hM : Nat.lor 4096 M = M) (h0 : Frame M s0 s) : Frame M s0 (State.tailAdvance s d) := by
  refine frame_trans (k := 4096) ?_ hM h0
  unfold State.tailAdvance
  repeat' (first | with_reducible exact frame_refl _ _ | with_reducible exact Or.inr rfl | exact Or.inl rfl | exact (rfl : Nat.lor _ _ = _) | with_reducible assumption | extract_lets | with_reducible apply frame_ite | with_reducible apply frame_next | (with_reducible apply frame_upd; with_reducible exact Or.inr rfl; fail_if_success (iterate 23 (with_reducible exact Or.inr rfl))) | (with_reducible apply frame_foldl; intro _ _) | with_reducible apply frame_setDieMed | (split) | (dsimp +zetaDelta only))

theorem frame_unforce {M : Nat} {s0 s : State} (z) (hM : Nat.lor 4096 M = M) (h0 : Frame M s0 s) : Frame M s0 (State.unforce s z) := by
  refine frame_trans (k := 4096) ?_ hM h0
  unfold State.unforce
  repeat' (first | with_reducible exact frame_refl _ _ | with_reducible exact Or.inr rfl | exact Or.inl rfl | exact (rfl : Nat.lor _ _ = _) | with_reducible assumption | extract_lets | with_reducible apply frame_ite | with_reducible apply frame_next | (with_reducible apply frame_upd; with_reducible exact Or.inr rfl; fail_if_success (iterate 23 (with_reducible exact Or.inr rfl))) | (with_reducible apply frame_foldl; intro _ _) | (split) | (dsimp +zetaDelta only))

theorem frame_tailOk {M : Nat} {s0 s : State} (d) (z) (op) (hM : Nat.lor 45056 M = M) (h0 : Frame M s0 s) : Frame M s0 (State.tailOk s d z op) := by
  refine frame_trans (k := 45056) ?_ hM h0
  unfold State.tailOk
  repeat' (first | with_reducible exact frame_refl _ _ | with_reducible exact Or.inr rfl | exact Or.inl rfl | exact (rfl : Nat.lor _ _ = _) | with_reducible assumption | extract_lets | with_reducible apply frame_ite | with_reducible apply frame_next | (with_reducible apply frame_upd; with_reducible exact Or.inr rfl; fail_if_success (iterate 23 (with_reducible exact Or.inr rfl))) | (with_reducible apply frame_foldl; intro _ _) | with_reducible apply frame_setZone | with_reducible apply frame_placeKey | with_reducible apply frame_notePlaces | with_reducible apply frame_tailAdvance | (split) | (dsimp +zetaDelta only))

theorem frame_fillLog {M : Nat} {s0 s : State} (d) (b) (hM : Nat.lor 4096 M = M) (h0 : Frame M s0 s) : Frame M s0 (State.fillLog s d b) := by
  refine frame_trans (k := 4096) ?_ hM h0
  unfold State.fillLog
  repeat' (first | with_reducible exact frame_refl _ _ | with_reducible exact Or.inr rfl | exact Or.inl rfl | exact (rfl : Nat.lor _ _ = _) | with_reducible assumption | extract_lets | with_reducible apply frame_ite | with_reducible apply frame_next | (with_reducible apply frame_upd; with_reducible exact Or.inr rfl; fail_if_success (iterate 23 (with_reducible exact Or.inr rfl))) | (with_reducible apply frame_foldl; intro _ _) | with_reducible apply frame_setBlock | (split) | (dsimp +zetaDelta only))

theorem frame_programOk {M : Nat} {s0 s : State} (d) (op) (hM : Nat.lor 45056 M = M) (h0 : Frame M s0 s) : Frame M s0 (State.programOk s d op) := by
  refine frame_trans (k := 45056) ?_ hM h0
  unfold State.programOk
  repeat' (first | with_reducible exact frame_refl _ _ | with_reducible exact Or.inr rfl | exact Or.inl rfl | exact (rfl : Nat.lor _ _ = _) | with_reducible assumption | extract_lets | with_reducible apply frame_ite | with_reducible apply frame_next | (with_reducible apply frame_upd; with_reducible exact Or.inr rfl; fail_if_success (iterate 23 (with_reducible exact Or.inr rfl))) | (with_reducible apply frame_foldl; intro _ _) | with_reducible apply frame_setBlock | with_reducible apply frame_placeKey | with_reducible apply frame_notePlaces | with_reducible apply frame_advanceSlot | with_reducible apply frame_dropTail | with_reducible apply frame_moveWrote | with_reducible apply frame_unforce | with_reducible apply frame_tailOk | with_reducible apply frame_fillLog | (split) | (dsimp +zetaDelta only))

theorem frame_dropEmpty {M : Nat} {s0 s : State} (z) (d) (block) (hM : Nat.lor 5633 M = M) (h0 : Frame M s0 s) : Frame M s0 (State.dropEmpty s z d block) := by
  refine frame_trans (k := 5633) ?_ hM h0
  unfold State.dropEmpty
  repeat' (first | with_reducible exact frame_refl _ _ | with_reducible exact Or.inr rfl | exact Or.inl rfl | exact (rfl : Nat.lor _ _ = _) | with_reducible assumption | extract_lets | with_reducible apply frame_ite | with_reducible apply frame_next | (with_reducible apply frame_upd; with_reducible exact Or.inr rfl; fail_if_success (iterate 23 (with_reducible exact Or.inr rfl))) | (with_reducible apply frame_foldl; intro _ _) | with_reducible apply frame_setZone | (with_reducible refine frame_trans (frame_bindSlot (by assumption)) ?_ ?_) | with_reducible apply frame_bindWaits | (split) | (dsimp +zetaDelta only))

theorem frame_programFailed {M : Nat} {s0 s : State} (d) (op) (hM : Nat.lor 40449 M = M) (h0 : Frame M s0 s) : Frame M s0 (State.programFailed s d op) := by
  refine frame_trans (k := 40449) ?_ hM h0
  unfold State.programFailed
  repeat' (first | with_reducible exact frame_refl _ _ | with_reducible exact Or.inr rfl | exact Or.inl rfl | exact (rfl : Nat.lor _ _ = _) | with_reducible assumption | extract_lets | with_reducible apply frame_ite | with_reducible apply frame_next | (with_reducible apply frame_upd; with_reducible exact Or.inr rfl; fail_if_success (iterate 23 (with_reducible exact Or.inr rfl))) | (with_reducible apply frame_foldl; intro _ _) | with_reducible apply frame_moveAndRetire | with_reducible apply frame_moveFailed | with_reducible apply frame_tailAdvance | with_reducible apply frame_dropEmpty | (split) | (dsimp +zetaDelta only))

theorem frame_eraseEnd {M : Nat} {s0 s : State} (d) (b) (ok) (hM : Nat.lor 40449 M = M) (h0 : Frame M s0 s) : Frame M s0 (State.eraseEnd s d b ok) := by
  refine frame_trans (k := 40449) ?_ hM h0
  unfold State.eraseEnd
  repeat' (first | with_reducible exact frame_refl _ _ | with_reducible exact Or.inr rfl | exact Or.inl rfl | exact (rfl : Nat.lor _ _ = _) | with_reducible assumption | extract_lets | with_reducible apply frame_ite | with_reducible apply frame_next | (with_reducible apply frame_upd; with_reducible exact Or.inr rfl; fail_if_success (iterate 23 (with_reducible exact Or.inr rfl))) | (with_reducible apply frame_foldl; intro _ _) | with_reducible apply frame_setBlock | with_reducible apply frame_retireBlock | (split) | (dsimp +zetaDelta only))

theorem frame_readLost {M : Nat} {s0 s : State} (op) (hM : Nat.lor 32768 M = M) (h0 : Frame M s0 s) : Frame M s0 (State.readLost s op) := by
  refine frame_trans (k := 32768) ?_ hM h0
  unfold State.readLost
  repeat' (first | with_reducible exact frame_refl _ _ | with_reducible exact Or.inr rfl | exact Or.inl rfl | exact (rfl : Nat.lor _ _ = _) | with_reducible assumption | extract_lets | with_reducible apply frame_ite | with_reducible apply frame_next | (with_reducible apply frame_upd; with_reducible exact Or.inr rfl; fail_if_success (iterate 23 (with_reducible exact Or.inr rfl))) | (with_reducible apply frame_foldl; intro _ _) | with_reducible apply frame_setSec | (split) | (dsimp +zetaDelta only))

theorem frame_outcome {M : Nat} {s0 s : State} (d) (op) (ok) (hM : Nat.lor 48641 M = M) (h0 : Frame M s0 s) : Frame M s0 (State.outcome s d op ok) := by
  refine frame_trans (k := 48641) ?_ hM h0
  unfold State.outcome
  repeat' (first | with_reducible exact frame_refl _ _ | with_reducible exact Or.inr rfl | exact Or.inl rfl | exact (rfl : Nat.lor _ _ = _) | with_reducible assumption | extract_lets | with_reducible apply frame_ite | with_reducible apply frame_next | (with_reducible apply frame_upd; with_reducible exact Or.inr rfl; fail_if_success (iterate 23 (with_reducible exact Or.inr rfl))) | (with_reducible apply frame_foldl; intro _ _) | with_reducible apply frame_tailAdvance | with_reducible apply frame_programOk | with_reducible apply frame_programFailed | with_reducible apply frame_eraseEnd | with_reducible apply frame_readLost | (split) | (dsimp +zetaDelta only))

theorem frame_mediaExc {M : Nat} {s0 s : State} (d) (type) (cls) (bit) (each) (hM : Nat.lor 1537 M = M) (h0 : Frame M s0 s) : Frame M s0 (State.mediaExc s d type cls bit each) := by
  refine frame_trans (k := 1537) ?_ hM h0
  unfold State.mediaExc
  repeat' (first | with_reducible exact frame_refl _ _ | with_reducible exact Or.inr rfl | exact Or.inl rfl | exact (rfl : Nat.lor _ _ = _) | with_reducible assumption | extract_lets | with_reducible apply frame_ite | with_reducible apply frame_next | (with_reducible apply frame_upd; with_reducible exact Or.inr rfl; fail_if_success (iterate 23 (with_reducible exact Or.inr rfl))) | (with_reducible apply frame_foldl; intro _ _) | with_reducible apply frame_setReg | with_reducible apply frame_raise | with_reducible apply frame_raiseWith | (split) | (dsimp +zetaDelta only))

theorem frame_countOverrun {M : Nat} {s0 s : State} (d) (op) (hM : Nat.lor 40449 M = M) (h0 : Frame M s0 s) : Frame M s0 (State.countOverrun s d op) := by
  refine frame_trans (k := 40449) ?_ hM h0
  unfold State.countOverrun
  repeat' (first | with_reducible exact frame_refl _ _ | with_reducible exact Or.inr rfl | exact Or.inl rfl | exact (rfl : Nat.lor _ _ = _) | with_reducible assumption | extract_lets | with_reducible apply frame_ite | with_reducible apply frame_next | (with_reducible apply frame_upd; with_reducible exact Or.inr rfl; fail_if_success (iterate 23 (with_reducible exact Or.inr rfl))) | (with_reducible apply frame_foldl; intro _ _) | with_reducible apply frame_setBlock | with_reducible apply frame_moveAndRetire | (split) | (dsimp +zetaDelta only))

theorem frame_overrun {M : Nat} {s0 s : State} (d) (op) (hM : Nat.lor 40449 M = M) (h0 : Frame M s0 s) : Frame M s0 (State.overrun s d op) := by
  refine frame_trans (k := 40449) ?_ hM h0
  unfold State.overrun
  repeat' (first | with_reducible exact frame_refl _ _ | with_reducible exact Or.inr rfl | exact Or.inl rfl | exact (rfl : Nat.lor _ _ = _) | with_reducible assumption | extract_lets | with_reducible apply frame_ite | with_reducible apply frame_next | (with_reducible apply frame_upd; with_reducible exact Or.inr rfl; fail_if_success (iterate 23 (with_reducible exact Or.inr rfl))) | (with_reducible apply frame_foldl; intro _ _) | with_reducible apply frame_setDie | with_reducible apply frame_setCmd | with_reducible apply frame_setSec | with_reducible apply frame_mediaExc | with_reducible apply frame_countOverrun | (split) | (dsimp +zetaDelta only))

theorem frame_execBudgetCheck {s : State} (die) (ready) : FrameO 40481 s (execBudgetCheck die ready s) := by
  unfold execBudgetCheck
  repeat' (first | with_reducible exact frame_refl _ _ | with_reducible exact Or.inr rfl | exact Or.inl rfl | exact (rfl : Nat.lor _ _ = _) | with_reducible assumption | extract_lets | with_reducible apply frame_ite | with_reducible apply frame_next | (with_reducible apply frame_upd; with_reducible exact Or.inr rfl; fail_if_success (iterate 23 (with_reducible exact Or.inr rfl))) | (with_reducible apply frame_foldl; intro _ _) | with_reducible apply frame_tickTo | with_reducible apply frame_setDie | with_reducible apply frame_overrun | (split) | (dsimp +zetaDelta only))

theorem frame_statusRead {M : Nat} {s0 s : State} (d) (ready) (ok) (hM : Nat.lor 48641 M = M) (h0 : Frame M s0 s) : Frame M s0 (State.statusRead s d ready ok) := by
  refine frame_trans (k := 48641) ?_ hM h0
  unfold State.statusRead
  repeat' (first | with_reducible exact frame_refl _ _ | with_reducible exact Or.inr rfl | exact Or.inl rfl | exact (rfl : Nat.lor _ _ = _) | with_reducible assumption | extract_lets | with_reducible apply frame_ite | with_reducible apply frame_next | (with_reducible apply frame_upd; with_reducible exact Or.inr rfl; fail_if_success (iterate 23 (with_reducible exact Or.inr rfl))) | (with_reducible apply frame_foldl; intro _ _) | with_reducible apply frame_setDie | with_reducible apply frame_failDie | with_reducible apply frame_outcome | (split) | (dsimp +zetaDelta only))

theorem frame_execDieReset {s : State} (die) : FrameO 48641 s (execDieReset die s) := by
  unfold execDieReset
  repeat' (first | with_reducible exact frame_refl _ _ | with_reducible exact Or.inr rfl | exact Or.inl rfl | exact (rfl : Nat.lor _ _ = _) | with_reducible assumption | extract_lets | with_reducible apply frame_ite | with_reducible apply frame_next | (with_reducible apply frame_upd; with_reducible exact Or.inr rfl; fail_if_success (iterate 23 (with_reducible exact Or.inr rfl))) | (with_reducible apply frame_foldl; intro _ _) | with_reducible apply frame_setDie | with_reducible apply frame_outcome | with_reducible apply frame_mediaExc | (split) | (dsimp +zetaDelta only))

theorem frame_countSeat {M : Nat} {s0 s : State} (d) (x2) (hM : Nat.lor 2048 M = M) (h0 : Frame M s0 s) : Frame M s0 (State.countSeat s d x2) := by
  refine frame_trans (k := 2048) ?_ hM h0
  unfold State.countSeat
  repeat' (first | with_reducible exact frame_refl _ _ | with_reducible exact Or.inr rfl | exact Or.inl rfl | exact (rfl : Nat.lor _ _ = _) | with_reducible assumption | extract_lets | with_reducible apply frame_ite | with_reducible apply frame_next | (with_reducible apply frame_upd; with_reducible exact Or.inr rfl; fail_if_success (iterate 23 (with_reducible exact Or.inr rfl))) | (with_reducible apply frame_foldl; intro _ _) | with_reducible apply frame_setDie | (split) | (dsimp +zetaDelta only))

theorem frame_readEntry {M : Nat} {s0 s : State} (d) (x2) (x3) (hM : Nat.lor 38913 M = M) (h0 : Frame M s0 s) : Frame M s0 (State.readEntry s d x2 x3) := by
  refine frame_trans (k := 38913) ?_ hM h0
  unfold State.readEntry
  repeat' (first | with_reducible exact frame_refl _ _ | with_reducible exact Or.inr rfl | exact Or.inl rfl | exact (rfl : Nat.lor _ _ = _) | with_reducible assumption | extract_lets | with_reducible apply frame_ite | with_reducible apply frame_next | (with_reducible apply frame_upd; with_reducible exact Or.inr rfl; fail_if_success (iterate 23 (with_reducible exact Or.inr rfl))) | (with_reducible apply frame_foldl; intro _ _) | with_reducible apply frame_grant | (split) | (dsimp +zetaDelta only))

theorem frame_enter15 {M : Nat} {s0 s : State} (d) (x2) (x3) (ready) (ok) (hM : Nat.lor 48641 M = M) (h0 : Frame M s0 s) : Frame M s0 (State.enter15 s d x2 x3 ready ok) := by
  refine frame_trans (k := 48641) ?_ hM h0
  unfold State.enter15
  repeat' (first | with_reducible exact frame_refl _ _ | with_reducible exact Or.inr rfl | exact Or.inl rfl | exact (rfl : Nat.lor _ _ = _) | with_reducible assumption | extract_lets | with_reducible apply frame_ite | with_reducible apply frame_next | (with_reducible apply frame_upd; with_reducible exact Or.inr rfl; fail_if_success (iterate 23 (with_reducible exact Or.inr rfl))) | (with_reducible apply frame_foldl; intro _ _) | with_reducible apply frame_setDie | with_reducible apply frame_statusRead | (split) | (dsimp +zetaDelta only))

theorem frame_startEntry {M : Nat} {s0 s : State} (d) (x2) (w) (hM : Nat.lor 7681 M = M) (h0 : Frame M s0 s) : Frame M s0 (State.startEntry s d x2 w) := by
  refine frame_trans (k := 7681) ?_ hM h0
  unfold State.startEntry
  repeat' (first | with_reducible exact frame_refl _ _ | with_reducible exact Or.inr rfl | exact Or.inl rfl | exact (rfl : Nat.lor _ _ = _) | with_reducible assumption | extract_lets | with_reducible apply frame_ite | with_reducible apply frame_next | (with_reducible apply frame_upd; with_reducible exact Or.inr rfl; fail_if_success (iterate 23 (with_reducible exact Or.inr rfl))) | (with_reducible apply frame_foldl; intro _ _) | with_reducible apply frame_takeSlc | with_reducible apply frame_takeQlc | with_reducible apply frame_run14 | (split) | (dsimp +zetaDelta only))

theorem frame_beginEntry {M : Nat} {s0 s : State} (d) (x2) (x3) (w) (ready) (ok) (hM : Nat.lor 48641 M = M) (h0 : Frame M s0 s) : Frame M s0 (State.beginEntry s d x2 x3 w ready ok) := by
  refine frame_trans (k := 48641) ?_ hM h0
  unfold State.beginEntry
  repeat' (first | with_reducible exact frame_refl _ _ | with_reducible exact Or.inr rfl | exact Or.inl rfl | exact (rfl : Nat.lor _ _ = _) | with_reducible assumption | extract_lets | with_reducible apply frame_ite | with_reducible apply frame_next | (with_reducible apply frame_upd; with_reducible exact Or.inr rfl; fail_if_success (iterate 23 (with_reducible exact Or.inr rfl))) | (with_reducible apply frame_foldl; intro _ _) | with_reducible apply frame_setDie | with_reducible apply frame_run14 | with_reducible apply frame_mediaExc | with_reducible apply frame_readEntry | with_reducible apply frame_enter15 | with_reducible apply frame_startEntry | (split) | (dsimp +zetaDelta only))

theorem frame_setTimes {M : Nat} {s0 s : State} (d) (x2) (t0) (x4) (hM : Nat.lor 2048 M = M) (h0 : Frame M s0 s) : Frame M s0 (State.setTimes s d x2 t0 x4) := by
  refine frame_trans (k := 2048) ?_ hM h0
  unfold State.setTimes
  repeat' (first | with_reducible exact frame_refl _ _ | with_reducible exact Or.inr rfl | exact Or.inl rfl | exact (rfl : Nat.lor _ _ = _) | with_reducible assumption | extract_lets | with_reducible apply frame_ite | with_reducible apply frame_next | (with_reducible apply frame_upd; with_reducible exact Or.inr rfl; fail_if_success (iterate 23 (with_reducible exact Or.inr rfl))) | (with_reducible apply frame_foldl; intro _ _) | with_reducible apply frame_setDie | (split) | (dsimp +zetaDelta only))

theorem frame_stagePoison {M : Nat} {s0 s : State} (d) (bad) (hM : Nat.lor 5633 M = M) (h0 : Frame M s0 s) : Frame M s0 (State.stagePoison s d bad) := by
  refine frame_trans (k := 5633) ?_ hM h0
  unfold State.stagePoison
  repeat' (first | with_reducible exact frame_refl _ _ | with_reducible exact Or.inr rfl | exact Or.inl rfl | exact (rfl : Nat.lor _ _ = _) | with_reducible assumption | extract_lets | with_reducible apply frame_ite | with_reducible apply frame_next | (with_reducible apply frame_upd; with_reducible exact Or.inr rfl; fail_if_success (iterate 23 (with_reducible exact Or.inr rfl))) | (with_reducible apply frame_foldl; intro _ _) | with_reducible apply frame_raise | (split) | (dsimp +zetaDelta only))

theorem frame_entryBad {M : Nat} {s0 s : State} (d) (bad) (hM : Nat.lor 5633 M = M) (h0 : Frame M s0 s) : Frame M s0 (State.entryBad s d bad) := by
  refine frame_trans (k := 5633) ?_ hM h0
  unfold State.entryBad
  repeat' (first | with_reducible exact frame_refl _ _ | with_reducible exact Or.inr rfl | exact Or.inl rfl | exact (rfl : Nat.lor _ _ = _) | with_reducible assumption | extract_lets | with_reducible apply frame_ite | with_reducible apply frame_next | (with_reducible apply frame_upd; with_reducible exact Or.inr rfl; fail_if_success (iterate 23 (with_reducible exact Or.inr rfl))) | (with_reducible apply frame_foldl; intro _ _) | with_reducible apply frame_poisonMove | with_reducible apply frame_stagePoison | (split) | (dsimp +zetaDelta only))

theorem frame_execEntryStart {s : State} (die) (x1) (work) (ready) (ok) (bad) : FrameO 48673 s (execEntryStart die x1 work ready ok bad s) := by
  unfold execEntryStart
  repeat' (first | with_reducible exact frame_refl _ _ | with_reducible exact Or.inr rfl | exact Or.inl rfl | exact (rfl : Nat.lor _ _ = _) | with_reducible assumption | extract_lets | with_reducible apply frame_ite | with_reducible apply frame_next | (with_reducible apply frame_upd; with_reducible exact Or.inr rfl; fail_if_success (iterate 23 (with_reducible exact Or.inr rfl))) | (with_reducible apply frame_foldl; intro _ _) | with_reducible apply frame_tickTo | with_reducible apply frame_setDie | with_reducible apply frame_leaveKick | with_reducible apply frame_countSeat | with_reducible apply frame_beginEntry | with_reducible apply frame_setTimes | with_reducible apply frame_entryBad | (split) | (dsimp +zetaDelta only))

theorem frame_releaseRead {M : Nat} {s0 s : State} (h) (hM : Nat.lor 32768 M = M) (h0 : Frame M s0 s) : Frame M s0 (State.releaseRead s h) := by
  refine frame_trans (k := 32768) ?_ hM h0
  unfold State.releaseRead
  repeat' (first | with_reducible exact frame_refl _ _ | with_reducible exact Or.inr rfl | exact Or.inl rfl | exact (rfl : Nat.lor _ _ = _) | with_reducible assumption | extract_lets | with_reducible apply frame_ite | with_reducible apply frame_next | (with_reducible apply frame_upd; with_reducible exact Or.inr rfl; fail_if_success (iterate 23 (with_reducible exact Or.inr rfl))) | (with_reducible apply frame_foldl; intro _ _) | with_reducible apply frame_setCmd | (split) | (dsimp +zetaDelta only))

theorem frame_read14End {M : Nat} {s0 s : State} (d) (op) (hM : Nat.lor 4096 M = M) (h0 : Frame M s0 s) : Frame M s0 (State.read14End s d op) := by
  refine frame_trans (k := 4096) ?_ hM h0
  unfold State.read14End
  repeat' (first | with_reducible exact frame_refl _ _ | with_reducible exact Or.inr rfl | exact Or.inl rfl | exact (rfl : Nat.lor _ _ = _) | with_reducible assumption | extract_lets | with_reducible apply frame_ite | with_reducible apply frame_next | (with_reducible apply frame_upd; with_reducible exact Or.inr rfl; fail_if_success (iterate 23 (with_reducible exact Or.inr rfl))) | (with_reducible apply frame_foldl; intro _ _) | with_reducible apply frame_setBlock | with_reducible apply frame_setMove | (split) | (dsimp +zetaDelta only))

theorem frame_execTransferSlot {s : State} (die) : FrameO 2014753 s (execTransferSlot die s) := by
  unfold execTransferSlot
  repeat' (first | with_reducible exact frame_refl _ _ | with_reducible exact Or.inr rfl | exact Or.inl rfl | exact (rfl : Nat.lor _ _ = _) | with_reducible assumption | extract_lets | with_reducible apply frame_ite | with_reducible apply frame_next | (with_reducible apply frame_upd; with_reducible exact Or.inr rfl; fail_if_success (iterate 23 (with_reducible exact Or.inr rfl))) | (with_reducible apply frame_foldl; intro _ _) | with_reducible apply frame_tickTo | with_reducible apply frame_setDie | with_reducible apply frame_stampAt | with_reducible apply frame_setSec | with_reducible apply frame_leaveKick | with_reducible apply frame_kick | with_reducible apply frame_releaseRead | with_reducible apply frame_read14End | (split) | (dsimp +zetaDelta only))

theorem frame_recovered {M : Nat} {s0 s : State} (x1) (bits) (hM : Nat.lor 4097 M = M) (h0 : Frame M s0 s) : Frame M s0 (State.recovered s x1 bits) := by
  refine frame_trans (k := 4097) ?_ hM h0
  unfold State.recovered
  repeat' (first | with_reducible exact frame_refl _ _ | with_reducible exact Or.inr rfl | exact Or.inl rfl | exact (rfl : Nat.lor _ _ = _) | with_reducible assumption | extract_lets | with_reducible apply frame_ite | with_reducible apply frame_next | (with_reducible apply frame_upd; with_reducible exact Or.inr rfl; fail_if_success (iterate 23 (with_reducible exact Or.inr rfl))) | (with_reducible apply frame_foldl; intro _ _) | with_reducible apply frame_countFld | with_reducible apply frame_setBlock | with_reducible apply frame_queueRefresh | (split) | (dsimp +zetaDelta only))

theorem frame_execLdpcDecodeEnd {s : State} (h) (i) (ok) (bits) : FrameO 2014721 s (execLdpcDecodeEnd h i ok bits s) := by
  unfold execLdpcDecodeEnd
  repeat' (first | with_reducible exact frame_refl _ _ | with_reducible exact Or.inr rfl | exact Or.inl rfl | exact (rfl : Nat.lor _ _ = _) | with_reducible assumption | extract_lets | with_reducible apply frame_ite | with_reducible apply frame_next | (with_reducible apply frame_upd; with_reducible exact Or.inr rfl; fail_if_success (iterate 23 (with_reducible exact Or.inr rfl))) | (with_reducible apply frame_foldl; intro _ _) | with_reducible apply frame_stamp | with_reducible apply frame_setSec | with_reducible apply frame_kick | with_reducible apply frame_uncorrectable | with_reducible apply frame_failDecode | with_reducible apply frame_recovered | (split) | (dsimp +zetaDelta only))

theorem frame_read15 {M : Nat} {s0 s : State} (h) (i) (x3) (x4) (type) (off) (room) (hM : Nat.lor 38945 M = M) (h0 : Frame M s0 s) : Frame M s0 (State.read15 s h i x3 x4 type off room) := by
  refine frame_trans (k := 38945) ?_ hM h0
  unfold State.read15
  repeat' (first | with_reducible exact frame_refl _ _ | with_reducible exact Or.inr rfl | exact Or.inl rfl | exact (rfl : Nat.lor _ _ = _) | with_reducible assumption | extract_lets | with_reducible apply frame_ite | with_reducible apply frame_next | (with_reducible apply frame_upd; with_reducible exact Or.inr rfl; fail_if_success (iterate 23 (with_reducible exact Or.inr rfl))) | (with_reducible apply frame_foldl; intro _ _) | with_reducible apply frame_tickTo | with_reducible apply frame_setDie | with_reducible apply frame_stampAt | with_reducible apply frame_setSec | with_reducible apply frame_countRead | (split) | (dsimp +zetaDelta only))

theorem frame_execRetryRead {s : State} (h) (i) : FrameO 40481 s (execRetryRead h i s) := by
  unfold execRetryRead
  repeat' (first | with_reducible exact frame_refl _ _ | with_reducible exact Or.inr rfl | exact Or.inl rfl | exact (rfl : Nat.lor _ _ = _) | with_reducible assumption | extract_lets | with_reducible apply frame_ite | with_reducible apply frame_next | (with_reducible apply frame_upd; with_reducible exact Or.inr rfl; fail_if_success (iterate 23 (with_reducible exact Or.inr rfl))) | (with_reducible apply frame_foldl; intro _ _) | with_reducible apply frame_mediaExc | with_reducible apply frame_read15 | (split) | (dsimp +zetaDelta only))

theorem frame_execRecoveryRead {s : State} (h) (i) : FrameO 40481 s (execRecoveryRead h i s) := by
  unfold execRecoveryRead
  repeat' (first | with_reducible exact frame_refl _ _ | with_reducible exact Or.inr rfl | exact Or.inl rfl | exact (rfl : Nat.lor _ _ = _) | with_reducible assumption | extract_lets | with_reducible apply frame_ite | with_reducible apply frame_next | (with_reducible apply frame_upd; with_reducible exact Or.inr rfl; fail_if_success (iterate 23 (with_reducible exact Or.inr rfl))) | (with_reducible apply frame_foldl; intro _ _) | with_reducible apply frame_mediaExc | with_reducible apply frame_read15 | (split) | (dsimp +zetaDelta only))

theorem frame_execL3Timeout {s : State} (h) (i) : FrameO 2014721 s (execL3Timeout h i s) := by
  unfold execL3Timeout
  repeat' (first | with_reducible exact frame_refl _ _ | with_reducible exact Or.inr rfl | exact Or.inl rfl | exact (rfl : Nat.lor _ _ = _) | with_reducible assumption | extract_lets | with_reducible apply frame_ite | with_reducible apply frame_next | (with_reducible apply frame_upd; with_reducible exact Or.inr rfl; fail_if_success (iterate 23 (with_reducible exact Or.inr rfl))) | (with_reducible apply frame_foldl; intro _ _) | with_reducible apply frame_kick | with_reducible apply frame_uncorrectable | (split) | (dsimp +zetaDelta only))

theorem frame_execTallyRebuild {s : State} (h) (i) (ok) : FrameO 2014721 s (execTallyRebuild h i ok s) := by
  unfold execTallyRebuild
  repeat' (first | with_reducible exact frame_refl _ _ | with_reducible exact Or.inr rfl | exact Or.inl rfl | exact (rfl : Nat.lor _ _ = _) | with_reducible assumption | extract_lets | with_reducible apply frame_ite | with_reducible apply frame_next | (with_reducible apply frame_upd; with_reducible exact Or.inr rfl; fail_if_success (iterate 23 (with_reducible exact Or.inr rfl))) | (with_reducible apply frame_foldl; intro _ _) | with_reducible apply frame_countFld | with_reducible apply frame_setCmd | with_reducible apply frame_raise | with_reducible apply frame_stamp | with_reducible apply frame_registerKick | with_reducible apply frame_kick | with_reducible apply frame_uncorrectable | (split) | (dsimp +zetaDelta only))

theorem frame_takeResult {M : Nat} {s0 s : State} (d) (op) (ok) (hM : Nat.lor 48673 M = M) (h0 : Frame M s0 s) : Frame M s0 (State.takeResult s d op ok) := by
  refine frame_trans (k := 48673) ?_ hM h0
  unfold State.takeResult
  repeat' (first | with_reducible exact frame_refl _ _ | with_reducible exact Or.inr rfl | exact Or.inl rfl | exact (rfl : Nat.lor _ _ = _) | with_reducible assumption | extract_lets | with_reducible apply frame_ite | with_reducible apply frame_next | (with_reducible apply frame_upd; with_reducible exact Or.inr rfl; fail_if_success (iterate 23 (with_reducible exact Or.inr rfl))) | (with_reducible apply frame_foldl; intro _ _) | with_reducible apply frame_tickTo | with_reducible apply frame_setDie | with_reducible apply frame_leaveKick | with_reducible apply frame_outcome | (split) | (dsimp +zetaDelta only))

theorem frame_execProgramResult {s : State} (die) (ok) : FrameO 48673 s (execProgramResult die ok s) := by
  unfold execProgramResult
  repeat' (first | with_reducible exact frame_refl _ _ | with_reducible exact Or.inr rfl | exact Or.inl rfl | exact (rfl : Nat.lor _ _ = _) | with_reducible assumption | extract_lets | with_reducible apply frame_ite | with_reducible apply frame_next | (with_reducible apply frame_upd; with_reducible exact Or.inr rfl; fail_if_success (iterate 23 (with_reducible exact Or.inr rfl))) | (with_reducible apply frame_foldl; intro _ _) | with_reducible apply frame_takeResult | (split) | (dsimp +zetaDelta only))

theorem frame_execEraseResult {s : State} (die) (ok) : FrameO 48673 s (execEraseResult die ok s) := by
  unfold execEraseResult
  repeat' (first | with_reducible exact frame_refl _ _ | with_reducible exact Or.inr rfl | exact Or.inl rfl | exact (rfl : Nat.lor _ _ = _) | with_reducible assumption | extract_lets | with_reducible apply frame_ite | with_reducible apply frame_next | (with_reducible apply frame_upd; with_reducible exact Or.inr rfl; fail_if_success (iterate 23 (with_reducible exact Or.inr rfl))) | (with_reducible apply frame_foldl; intro _ _) | with_reducible apply frame_takeResult | (split) | (dsimp +zetaDelta only))

theorem frame_execSettlementMessage {s : State} : FrameO 2014721 s (execSettlementMessage s) := by
  unfold execSettlementMessage
  repeat' (first | with_reducible exact frame_refl _ _ | with_reducible exact Or.inr rfl | exact Or.inl rfl | exact (rfl : Nat.lor _ _ = _) | with_reducible assumption | extract_lets | with_reducible apply frame_ite | with_reducible apply frame_next | (with_reducible apply frame_upd; with_reducible exact Or.inr rfl; fail_if_success (iterate 23 (with_reducible exact Or.inr rfl))) | (with_reducible apply frame_foldl; intro _ _) | with_reducible apply frame_modRec | with_reducible apply frame_kick | (split) | (dsimp +zetaDelta only))

theorem frame_execZoneClaimDone {s : State} (zone) : FrameO 2014721 s (execZoneClaimDone zone s) := by
  unfold execZoneClaimDone
  repeat' (first | with_reducible exact frame_refl _ _ | with_reducible exact Or.inr rfl | exact Or.inl rfl | exact (rfl : Nat.lor _ _ = _) | with_reducible assumption | extract_lets | with_reducible apply frame_ite | with_reducible apply frame_next | (with_reducible apply frame_upd; with_reducible exact Or.inr rfl; fail_if_success (iterate 23 (with_reducible exact Or.inr rfl))) | (with_reducible apply frame_foldl; intro _ _) | with_reducible apply frame_setZone | with_reducible apply frame_kick | (split) | (dsimp +zetaDelta only))

theorem frame_bindWaiting {M : Nat} {s0 s : State} (zone) (slot) (toSlc) (hM : Nat.lor 4096 M = M) (h0 : Frame M s0 s) : Frame M s0 (State.bindWaiting s zone slot toSlc) := by
  refine frame_trans (k := 4096) ?_ hM h0
  unfold State.bindWaiting
  repeat' (first | with_reducible exact frame_refl _ _ | with_reducible exact Or.inr rfl | exact Or.inl rfl | exact (rfl : Nat.lor _ _ = _) | with_reducible assumption | extract_lets | with_reducible apply frame_ite | with_reducible apply frame_next | (with_reducible apply frame_upd; with_reducible exact Or.inr rfl; fail_if_success (iterate 23 (with_reducible exact Or.inr rfl))) | (with_reducible apply frame_foldl; intro _ _) | (with_reducible refine frame_trans (frame_bindSlot (by assumption)) ?_ ?_) | (split) | (dsimp +zetaDelta only))

theorem frame_execSlotBinding {s : State} (zone) (slot) (toSlc) : FrameO 4096 s (execSlotBinding zone slot toSlc s) := by
  unfold execSlotBinding
  repeat' (first | with_reducible exact frame_refl _ _ | with_reducible exact Or.inr rfl | exact Or.inl rfl | exact (rfl : Nat.lor _ _ = _) | with_reducible assumption | extract_lets | with_reducible apply frame_ite | with_reducible apply frame_next | (with_reducible apply frame_upd; with_reducible exact Or.inr rfl; fail_if_success (iterate 23 (with_reducible exact Or.inr rfl))) | (with_reducible apply frame_foldl; intro _ _) | with_reducible apply frame_bindWaiting | (split) | (dsimp +zetaDelta only))

theorem frame_addCommit {M : Nat} {s0 s : State} (src) (dst) (st) (hM : Nat.lor 8192 M = M) (h0 : Frame M s0 s) : Frame M s0 (State.addCommit s src dst st) := by
  refine frame_trans (k := 8192) ?_ hM h0
  unfold State.addCommit
  repeat' (first | with_reducible exact frame_refl _ _ | with_reducible exact Or.inr rfl | exact Or.inl rfl | exact (rfl : Nat.lor _ _ = _) | with_reducible assumption | extract_lets | with_reducible apply frame_ite | with_reducible apply frame_next | (with_reducible apply frame_upd; with_reducible exact Or.inr rfl; fail_if_success (iterate 23 (with_reducible exact Or.inr rfl))) | (with_reducible apply frame_foldl; intro _ _) | with_reducible apply frame_setRec | (split) | (dsimp +zetaDelta only))

theorem frame_movedToQlc {M : Nat} {s0 s : State} (keys) (hM : Nat.lor 32768 M = M) (h0 : Frame M s0 s) : Frame M s0 (State.movedToQlc s keys) := by
  refine frame_trans (k := 32768) ?_ hM h0
  unfold State.movedToQlc
  repeat' (first | with_reducible exact frame_refl _ _ | with_reducible exact Or.inr rfl | exact Or.inl rfl | exact (rfl : Nat.lor _ _ = _) | with_reducible assumption | extract_lets | with_reducible apply frame_ite | with_reducible apply frame_next | (with_reducible apply frame_upd; with_reducible exact Or.inr rfl; fail_if_success (iterate 23 (with_reducible exact Or.inr rfl))) | (with_reducible apply frame_foldl; intro _ _) | (split) | (dsimp +zetaDelta only))

theorem frame_applyFold {M : Nat} {s0 s : State} (m) (z) (hM : Nat.lor 36864 M = M) (h0 : Frame M s0 s) : Frame M s0 (State.applyFold s m z) := by
  refine frame_trans (k := 36864) ?_ hM h0
  unfold State.applyFold
  repeat' (first | with_reducible exact frame_refl _ _ | with_reducible exact Or.inr rfl | exact Or.inl rfl | exact (rfl : Nat.lor _ _ = _) | with_reducible assumption | extract_lets | with_reducible apply frame_ite | with_reducible apply frame_next | (with_reducible apply frame_upd; with_reducible exact Or.inr rfl; fail_if_success (iterate 23 (with_reducible exact Or.inr rfl))) | (with_reducible apply frame_foldl; intro _ _) | with_reducible apply frame_setZone | with_reducible apply frame_fillBlocks | with_reducible apply frame_movedToQlc | (split) | (dsimp +zetaDelta only))

theorem frame_tallyRelease {M : Nat} {s0 s : State} (z) (hM : Nat.lor 2014721 M = M) (h0 : Frame M s0 s) : Frame M s0 (State.tallyRelease s z) := by
  refine frame_trans (k := 2014721) ?_ hM h0
  unfold State.tallyRelease
  repeat' (first | with_reducible exact frame_refl _ _ | with_reducible exact Or.inr rfl | exact Or.inl rfl | exact (rfl : Nat.lor _ _ = _) | with_reducible assumption | extract_lets | with_reducible apply frame_ite | with_reducible apply frame_next | (with_reducible apply frame_upd; with_reducible exact Or.inr rfl; fail_if_success (iterate 23 (with_reducible exact Or.inr rfl))) | (with_reducible apply frame_foldl; intro _ _) | with_reducible apply frame_setZone | with_reducible apply frame_kick | (split) | (dsimp +zetaDelta only))

theorem frame_execFoldDone {s : State} (zone) (slot) (ok) : FrameO 2014721 s (execFoldDone zone slot ok s) := by
  unfold execFoldDone
  repeat' (first | with_reducible exact frame_refl _ _ | with_reducible exact Or.inr rfl | exact Or.inl rfl | exact (rfl : Nat.lor _ _ = _) | with_reducible assumption | extract_lets | with_reducible apply frame_ite | with_reducible apply frame_next | (with_reducible apply frame_upd; with_reducible exact Or.inr rfl; fail_if_success (iterate 23 (with_reducible exact Or.inr rfl))) | (with_reducible apply frame_foldl; intro _ _) | with_reducible apply frame_raise | with_reducible apply frame_dropMove | with_reducible apply frame_moveFailed | with_reducible apply frame_addCommit | with_reducible apply frame_applyFold | with_reducible apply frame_tallyRelease | (split) | (dsimp +zetaDelta only))

theorem frame_execEvacuationDone {s : State} (zone) (slot) (toSlc) : FrameO 4096 s (execEvacuationDone zone slot toSlc s) := by
  unfold execEvacuationDone
  repeat' (first | with_reducible exact frame_refl _ _ | with_reducible exact Or.inr rfl | exact Or.inl rfl | exact (rfl : Nat.lor _ _ = _) | with_reducible assumption | extract_lets | with_reducible apply frame_ite | with_reducible apply frame_next | (with_reducible apply frame_upd; with_reducible exact Or.inr rfl; fail_if_success (iterate 23 (with_reducible exact Or.inr rfl))) | (with_reducible apply frame_foldl; intro _ _) | with_reducible apply frame_bindWaiting | (split) | (dsimp +zetaDelta only))

theorem frame_execTailRingCopy {s : State} (die) (block) : FrameO 4096 s (execTailRingCopy die block s) := by
  unfold execTailRingCopy
  repeat' (first | with_reducible exact frame_refl _ _ | with_reducible exact Or.inr rfl | exact Or.inl rfl | exact (rfl : Nat.lor _ _ = _) | with_reducible assumption | extract_lets | with_reducible apply frame_ite | with_reducible apply frame_next | (with_reducible apply frame_upd; with_reducible exact Or.inr rfl; fail_if_success (iterate 23 (with_reducible exact Or.inr rfl))) | (with_reducible apply frame_foldl; intro _ _) | with_reducible apply frame_copyTails | (split) | (dsimp +zetaDelta only))

theorem frame_execTallyForwardCopy {s : State} (die) (block) : FrameO 4096 s (execTallyForwardCopy die block s) := by
  unfold execTallyForwardCopy
  repeat' (first | with_reducible exact frame_refl _ _ | with_reducible exact Or.inr rfl | exact Or.inl rfl | exact (rfl : Nat.lor _ _ = _) | with_reducible assumption | extract_lets | with_reducible apply frame_ite | with_reducible apply frame_next | (with_reducible apply frame_upd; with_reducible exact Or.inr rfl; fail_if_success (iterate 23 (with_reducible exact Or.inr rfl))) | (with_reducible apply frame_foldl; intro _ _) | with_reducible apply frame_writeTally | (split) | (dsimp +zetaDelta only))

theorem frame_execTallyProgram {s : State} (zone) (w) : FrameO 4096 s (execTallyProgram zone w s) := by
  unfold execTallyProgram
  repeat' (first | with_reducible exact frame_refl _ _ | with_reducible exact Or.inr rfl | exact Or.inl rfl | exact (rfl : Nat.lor _ _ = _) | with_reducible assumption | extract_lets | with_reducible apply frame_ite | with_reducible apply frame_next | (with_reducible apply frame_upd; with_reducible exact Or.inr rfl; fail_if_success (iterate 23 (with_reducible exact Or.inr rfl))) | (with_reducible apply frame_foldl; intro _ _) | with_reducible apply frame_setZone | with_reducible apply frame_writeTally | (split) | (dsimp +zetaDelta only))

theorem frame_execAccumulatorRebuild {s : State} (zone) : FrameO 5633 s (execAccumulatorRebuild zone s) := by
  unfold execAccumulatorRebuild
  repeat' (first | with_reducible exact frame_refl _ _ | with_reducible exact Or.inr rfl | exact Or.inl rfl | exact (rfl : Nat.lor _ _ = _) | with_reducible assumption | extract_lets | with_reducible apply frame_ite | with_reducible apply frame_next | (with_reducible apply frame_upd; with_reducible exact Or.inr rfl; fail_if_success (iterate 23 (with_reducible exact Or.inr rfl))) | (with_reducible apply frame_foldl; intro _ _) | with_reducible apply frame_levelBit | (split) | (dsimp +zetaDelta only))

theorem frame_execBlockVerifyDone {s : State} (die) (block) (ok) : FrameO 2014721 s (execBlockVerifyDone die block ok s) := by
  unfold execBlockVerifyDone
  repeat' (first | with_reducible exact frame_refl _ _ | with_reducible exact Or.inr rfl | exact Or.inl rfl | exact (rfl : Nat.lor _ _ = _) | with_reducible assumption | extract_lets | with_reducible apply frame_ite | with_reducible apply frame_next | (with_reducible apply frame_upd; with_reducible exact Or.inr rfl; fail_if_success (iterate 23 (with_reducible exact Or.inr rfl))) | (with_reducible apply frame_foldl; intro _ _) | with_reducible apply frame_setBlock | with_reducible apply frame_raise | with_reducible apply frame_setMove | with_reducible apply frame_moveAndRetire | with_reducible apply frame_moveFailed | with_reducible apply frame_tallyRelease | (split) | (dsimp +zetaDelta only))

theorem frame_applyBlock {M : Nat} {s0 s : State} (m) (z) (hM : Nat.lor 4096 M = M) (h0 : Frame M s0 s) : Frame M s0 (State.applyBlock s m z) := by
  refine frame_trans (k := 4096) ?_ hM h0
  unfold State.applyBlock
  repeat' (first | with_reducible exact frame_refl _ _ | with_reducible exact Or.inr rfl | exact Or.inl rfl | exact (rfl : Nat.lor _ _ = _) | with_reducible assumption | extract_lets | with_reducible apply frame_ite | with_reducible apply frame_next | (with_reducible apply frame_upd; with_reducible exact Or.inr rfl; fail_if_success (iterate 23 (with_reducible exact Or.inr rfl))) | (with_reducible apply frame_foldl; intro _ _) | with_reducible apply frame_setDieMed | with_reducible apply frame_setZone | with_reducible apply frame_setBlock | (split) | (dsimp +zetaDelta only))

theorem frame_applyGranule {M : Nat} {s0 s : State} (m) (hM : Nat.lor 36864 M = M) (h0 : Frame M s0 s) : Frame M s0 (State.applyGranule s m) := by
  refine frame_trans (k := 36864) ?_ hM h0
  unfold State.applyGranule
  repeat' (first | with_reducible exact frame_refl _ _ | with_reducible exact Or.inr rfl | exact Or.inl rfl | exact (rfl : Nat.lor _ _ = _) | with_reducible assumption | extract_lets | with_reducible apply frame_ite | with_reducible apply frame_next | (with_reducible apply frame_upd; with_reducible exact Or.inr rfl; fail_if_success (iterate 23 (with_reducible exact Or.inr rfl))) | (with_reducible apply frame_foldl; intro _ _) | with_reducible apply frame_fillLog | with_reducible apply frame_movedToQlc | (split) | (dsimp +zetaDelta only))

theorem frame_execMapCommitMessage {s : State} (mv) : FrameO 2014721 s (execMapCommitMessage mv s) := by
  unfold execMapCommitMessage
  repeat' (first | with_reducible exact frame_refl _ _ | with_reducible exact Or.inr rfl | exact Or.inl rfl | exact (rfl : Nat.lor _ _ = _) | with_reducible assumption | extract_lets | with_reducible apply frame_ite | with_reducible apply frame_next | (with_reducible apply frame_upd; with_reducible exact Or.inr rfl; fail_if_success (iterate 23 (with_reducible exact Or.inr rfl))) | (with_reducible apply frame_foldl; intro _ _) | with_reducible apply frame_setMove | with_reducible apply frame_addCommit | with_reducible apply frame_tallyRelease | with_reducible apply frame_applyBlock | with_reducible apply frame_applyGranule | (split) | (dsimp +zetaDelta only))

theorem frame_execSourceErase {s : State} (mv) : FrameO 40449 s (execSourceErase mv s) := by
  unfold execSourceErase
  repeat' (first | with_reducible exact frame_refl _ _ | with_reducible exact Or.inr rfl | exact Or.inl rfl | exact (rfl : Nat.lor _ _ = _) | with_reducible assumption | extract_lets | with_reducible apply frame_ite | with_reducible apply frame_next | (with_reducible apply frame_upd; with_reducible exact Or.inr rfl; fail_if_success (iterate 23 (with_reducible exact Or.inr rfl))) | (with_reducible apply frame_foldl; intro _ _) | with_reducible apply frame_freeBlock | with_reducible apply frame_retireBlock | with_reducible apply frame_dropMove | (split) | (dsimp +zetaDelta only))

theorem frame_execSpillProgram {s : State} : FrameO 8192 s (execSpillProgram s) := by
  unfold execSpillProgram
  repeat' (first | with_reducible exact frame_refl _ _ | with_reducible exact Or.inr rfl | exact Or.inl rfl | exact (rfl : Nat.lor _ _ = _) | with_reducible assumption | extract_lets | with_reducible apply frame_ite | with_reducible apply frame_next | (with_reducible apply frame_upd; with_reducible exact Or.inr rfl; fail_if_success (iterate 23 (with_reducible exact Or.inr rfl))) | (with_reducible apply frame_foldl; intro _ _) | (split) | (dsimp +zetaDelta only))

theorem frame_execMetadataWrite {s : State} (top) : FrameO 12320 s (execMetadataWrite top s) := by
  unfold execMetadataWrite
  repeat' (first | with_reducible exact frame_refl _ _ | with_reducible exact Or.inr rfl | exact Or.inl rfl | exact (rfl : Nat.lor _ _ = _) | with_reducible assumption | extract_lets | with_reducible apply frame_ite | with_reducible apply frame_next | (with_reducible apply frame_upd; with_reducible exact Or.inr rfl; fail_if_success (iterate 23 (with_reducible exact Or.inr rfl))) | (with_reducible apply frame_foldl; intro _ _) | (split) | (dsimp +zetaDelta only))

theorem frame_staleWork {M : Nat} {s0 s : State} (q) (hM : Nat.lor 5633 M = M) (h0 : Frame M s0 s) : Frame M s0 (State.staleWork s q) := by
  refine frame_trans (k := 5633) ?_ hM h0
  unfold State.staleWork
  repeat' (first | with_reducible exact frame_refl _ _ | with_reducible exact Or.inr rfl | exact Or.inl rfl | exact (rfl : Nat.lor _ _ = _) | with_reducible assumption | extract_lets | with_reducible apply frame_ite | with_reducible apply frame_next | (with_reducible apply frame_upd; with_reducible exact Or.inr rfl; fail_if_success (iterate 23 (with_reducible exact Or.inr rfl))) | (with_reducible apply frame_foldl; intro _ _) | with_reducible apply frame_forceTail | (split) | (dsimp +zetaDelta only))

theorem frame_execStaleSecuredRecord {s : State} (q) : FrameO 5633 s (execStaleSecuredRecord q s) := by
  unfold execStaleSecuredRecord
  repeat' (first | with_reducible exact frame_refl _ _ | with_reducible exact Or.inr rfl | exact Or.inl rfl | exact (rfl : Nat.lor _ _ = _) | with_reducible assumption | extract_lets | with_reducible apply frame_ite | with_reducible apply frame_next | (with_reducible apply frame_upd; with_reducible exact Or.inr rfl; fail_if_success (iterate 23 (with_reducible exact Or.inr rfl))) | (with_reducible apply frame_foldl; intro _ _) | with_reducible apply frame_staleWork | (split) | (dsimp +zetaDelta only))

theorem frame_execRetentionRefreshDue {s : State} (die) (block) : FrameO 4096 s (execRetentionRefreshDue die block s) := by
  unfold execRetentionRefreshDue
  repeat' (first | with_reducible exact frame_refl _ _ | with_reducible exact Or.inr rfl | exact Or.inl rfl | exact (rfl : Nat.lor _ _ = _) | with_reducible assumption | extract_lets | with_reducible apply frame_ite | with_reducible apply frame_next | (with_reducible apply frame_upd; with_reducible exact Or.inr rfl; fail_if_success (iterate 23 (with_reducible exact Or.inr rfl))) | (with_reducible apply frame_foldl; intro _ _) | with_reducible apply frame_setBlock | (split) | (dsimp +zetaDelta only))

theorem frame_execMedZqSelWrite {s : State} (who) (value) : FrameO 1 s (execMedZqSelWrite who value s) := by
  unfold execMedZqSelWrite
  repeat' (first | with_reducible exact frame_refl _ _ | with_reducible exact Or.inr rfl | exact Or.inl rfl | exact (rfl : Nat.lor _ _ = _) | with_reducible assumption | extract_lets | with_reducible apply frame_ite | with_reducible apply frame_next | (with_reducible apply frame_upd; with_reducible exact Or.inr rfl; fail_if_success (iterate 23 (with_reducible exact Or.inr rfl))) | (with_reducible apply frame_foldl; intro _ _) | with_reducible apply frame_setReg | (split) | (dsimp +zetaDelta only))

theorem frame_recordWake {M : Nat} {s0 s : State} (src) (abandoned) (ap) (fromHib) (hM : Nat.lor 1 M = M) (h0 : Frame M s0 s) : Frame M s0 (State.recordWake s src abandoned ap fromHib) := by
  refine frame_trans (k := 1) ?_ hM h0
  unfold State.recordWake
  repeat' (first | with_reducible exact frame_refl _ _ | with_reducible exact Or.inr rfl | exact Or.inl rfl | exact (rfl : Nat.lor _ _ = _) | with_reducible assumption | extract_lets | with_reducible apply frame_ite | with_reducible apply frame_next | (with_reducible apply frame_upd; with_reducible exact Or.inr rfl; fail_if_success (iterate 23 (with_reducible exact Or.inr rfl))) | (with_reducible apply frame_foldl; intro _ _) | with_reducible apply frame_setReg | (split) | (dsimp +zetaDelta only))

theorem frame_abandonSleep {M : Nat} {s0 s : State} (src) (ap) (hM : Nat.lor 2014753 M = M) (h0 : Frame M s0 s) : Frame M s0 (State.abandonSleep s src ap) := by
  refine frame_trans (k := 2014753) ?_ hM h0
  unfold State.abandonSleep
  repeat' (first | with_reducible exact frame_refl _ _ | with_reducible exact Or.inr rfl | exact Or.inl rfl | exact (rfl : Nat.lor _ _ = _) | with_reducible assumption | extract_lets | with_reducible apply frame_ite | with_reducible apply frame_next | (with_reducible apply frame_upd; with_reducible exact Or.inr rfl; fail_if_success (iterate 23 (with_reducible exact Or.inr rfl))) | (with_reducible apply frame_foldl; intro _ _) | with_reducible apply frame_raise | with_reducible apply frame_reply | with_reducible apply frame_kick | with_reducible apply frame_recordWake | (split) | (dsimp +zetaDelta only))

theorem frame_wakeEvent {M : Nat} {s0 s : State} (src) (hM : Nat.lor 2014881 M = M) (h0 : Frame M s0 s) : Frame M s0 (State.wakeEvent s src) := by
  refine frame_trans (k := 2014881) ?_ hM h0
  unfold State.wakeEvent
  repeat' (first | with_reducible exact frame_refl _ _ | with_reducible exact Or.inr rfl | exact Or.inl rfl | exact (rfl : Nat.lor _ _ = _) | with_reducible assumption | extract_lets | with_reducible apply frame_ite | with_reducible apply frame_next | (with_reducible apply frame_upd; with_reducible exact Or.inr rfl; fail_if_success (iterate 23 (with_reducible exact Or.inr rfl))) | (with_reducible apply frame_foldl; intro _ _) | with_reducible apply frame_syncRail | with_reducible apply frame_recordWake | with_reducible apply frame_abandonSleep | (split) | (dsimp +zetaDelta only))

theorem frame_sleepEntry {M : Nat} {s0 s : State} (x1) (v) (hM : Nat.lor 2014753 M = M) (h0 : Frame M s0 s) : Frame M s0 (State.sleepEntry s x1 v) := by
  refine frame_trans (k := 2014753) ?_ hM h0
  unfold State.sleepEntry
  repeat' (first | with_reducible exact frame_refl _ _ | with_reducible exact Or.inr rfl | exact Or.inl rfl | exact (rfl : Nat.lor _ _ = _) | with_reducible assumption | extract_lets | with_reducible apply frame_ite | with_reducible apply frame_next | (with_reducible apply frame_upd; with_reducible exact Or.inr rfl; fail_if_success (iterate 23 (with_reducible exact Or.inr rfl))) | (with_reducible apply frame_foldl; intro _ _) | with_reducible apply frame_kick | with_reducible apply frame_interruptHeld | with_reducible apply frame_abandonSleep | (split) | (dsimp +zetaDelta only))

theorem frame_sleepRequest {M : Nat} {s0 s : State} (x1) (v) (hM : Nat.lor 2014753 M = M) (h0 : Frame M s0 s) : Frame M s0 (State.sleepRequest s x1 v) := by
  refine frame_trans (k := 2014753) ?_ hM h0
  unfold State.sleepRequest
  repeat' (first | with_reducible exact frame_refl _ _ | with_reducible exact Or.inr rfl | exact Or.inl rfl | exact (rfl : Nat.lor _ _ = _) | with_reducible assumption | extract_lets | with_reducible apply frame_ite | with_reducible apply frame_next | (with_reducible apply frame_upd; with_reducible exact Or.inr rfl; fail_if_success (iterate 23 (with_reducible exact Or.inr rfl))) | (with_reducible apply frame_foldl; intro _ _) | with_reducible apply frame_reply | with_reducible apply frame_sleepEntry | (split) | (dsimp +zetaDelta only))

theorem frame_forceAll {M : Nat} {s0 s : State} (hM : Nat.lor 5633 M = M) (h0 : Frame M s0 s) : Frame M s0 (State.forceAll s) := by
  refine frame_trans (k := 5633) ?_ hM h0
  unfold State.forceAll
  repeat' (first | with_reducible exact frame_refl _ _ | with_reducible exact Or.inr rfl | exact Or.inl rfl | exact (rfl : Nat.lor _ _ = _) | with_reducible assumption | extract_lets | with_reducible apply frame_ite | with_reducible apply frame_next | (with_reducible apply frame_upd; with_reducible exact Or.inr rfl; fail_if_success (iterate 23 (with_reducible exact Or.inr rfl))) | (with_reducible apply frame_foldl; intro _ _) | with_reducible apply frame_staleWork | (split) | (dsimp +zetaDelta only))

theorem frame_passPoint {M : Nat} {s0 s : State} (x1) (ap) (hM : Nat.lor 2014753 M = M) (h0 : Frame M s0 s) : Frame M s0 (State.passPoint s x1 ap) := by
  refine frame_trans (k := 2014753) ?_ hM h0
  unfold State.passPoint
  repeat' (first | with_reducible exact frame_refl _ _ | with_reducible exact Or.inr rfl | exact Or.inl rfl | exact (rfl : Nat.lor _ _ = _) | with_reducible assumption | extract_lets | with_reducible apply frame_ite | with_reducible apply frame_next | (with_reducible apply frame_upd; with_reducible exact Or.inr rfl; fail_if_success (iterate 23 (with_reducible exact Or.inr rfl))) | (with_reducible apply frame_foldl; intro _ _) | with_reducible apply frame_abandonSleep | (split) | (dsimp +zetaDelta only))

theorem frame_execAbortPointAp2 {s : State} : FrameO 2014753 s (execAbortPointAp2 s) := by
  unfold execAbortPointAp2
  repeat' (first | with_reducible exact frame_refl _ _ | with_reducible exact Or.inr rfl | exact Or.inl rfl | exact (rfl : Nat.lor _ _ = _) | with_reducible assumption | extract_lets | with_reducible apply frame_ite | with_reducible apply frame_next | (with_reducible apply frame_upd; with_reducible exact Or.inr rfl; fail_if_success (iterate 23 (with_reducible exact Or.inr rfl))) | (with_reducible apply frame_foldl; intro _ _) | with_reducible apply frame_forceAll | with_reducible apply frame_passPoint | (split) | (dsimp +zetaDelta only))

theorem frame_execAbortPointAp3 {s : State} : FrameO 2014753 s (execAbortPointAp3 s) := by
  unfold execAbortPointAp3
  repeat' (first | with_reducible exact frame_refl _ _ | with_reducible exact Or.inr rfl | exact Or.inl rfl | exact (rfl : Nat.lor _ _ = _) | with_reducible assumption | extract_lets | with_reducible apply frame_ite | with_reducible apply frame_next | (with_reducible apply frame_upd; with_reducible exact Or.inr rfl; fail_if_success (iterate 23 (with_reducible exact Or.inr rfl))) | (with_reducible apply frame_foldl; intro _ _) | with_reducible apply frame_passPoint | (split) | (dsimp +zetaDelta only))

theorem frame_enterDoze {M : Nat} {s0 s : State} (hM : Nat.lor 1228479 M = M) (h0 : Frame M s0 s) : Frame M s0 (State.enterDoze s) := by
  refine frame_trans (k := 1228479) ?_ hM h0
  unfold State.enterDoze
  repeat' (first | with_reducible exact frame_refl _ _ | with_reducible exact Or.inr rfl | exact Or.inl rfl | exact (rfl : Nat.lor _ _ = _) | with_reducible assumption | extract_lets | with_reducible apply frame_ite | with_reducible apply frame_next | (with_reducible apply frame_upd; with_reducible exact Or.inr rfl; fail_if_success (iterate 23 (with_reducible exact Or.inr rfl))) | (with_reducible apply frame_foldl; intro _ _) | with_reducible apply frame_enter | with_reducible apply frame_syncBanks | with_reducible apply frame_syncRail | with_reducible apply frame_putVariant | with_reducible apply frame_withdrawUnserved | (split) | (dsimp +zetaDelta only))

theorem frame_enterHibernate {M : Nat} {s0 s : State} (hM : Nat.lor 2088959 M = M) (h0 : Frame M s0 s) : Frame M s0 (State.enterHibernate s) := by
  refine frame_trans (k := 2088959) ?_ hM h0
  unfold State.enterHibernate
  repeat' (first | with_reducible exact frame_refl _ _ | with_reducible exact Or.inr rfl | exact Or.inl rfl | exact (rfl : Nat.lor _ _ = _) | with_reducible assumption | extract_lets | with_reducible apply frame_ite | with_reducible apply frame_next | (with_reducible apply frame_upd; with_reducible exact Or.inr rfl; fail_if_success (iterate 23 (with_reducible exact Or.inr rfl))) | (with_reducible apply frame_foldl; intro _ _) | with_reducible apply frame_enter | with_reducible apply frame_syncBanks | with_reducible apply frame_dropHibernate | with_reducible apply frame_floatLdg | with_reducible apply frame_stopTest | (split) | (dsimp +zetaDelta only))

theorem frame_sleepBoundary {M : Nat} {s0 s : State} (hM : Nat.lor 2097151 M = M) (h0 : Frame M s0 s) : Frame M s0 (State.sleepBoundary s) := by
  refine frame_trans (k := 2097151) ?_ hM h0
  unfold State.sleepBoundary
  repeat' (first | with_reducible exact frame_refl _ _ | with_reducible exact Or.inr rfl | exact Or.inl rfl | exact (rfl : Nat.lor _ _ = _) | with_reducible assumption | extract_lets | with_reducible apply frame_ite | with_reducible apply frame_next | (with_reducible apply frame_upd; with_reducible exact Or.inr rfl; fail_if_success (iterate 23 (with_reducible exact Or.inr rfl))) | (with_reducible apply frame_foldl; intro _ _) | with_reducible apply frame_reply | with_reducible apply frame_abandonSleep | with_reducible apply frame_enterDoze | with_reducible apply frame_enterHibernate | (split) | (dsimp +zetaDelta only))

theorem frame_execMgmtWake {s : State} : FrameO 2014881 s (execMgmtWake s) := by
  unfold execMgmtWake
  repeat' (first | with_reducible exact frame_refl _ _ | with_reducible exact Or.inr rfl | exact Or.inl rfl | exact (rfl : Nat.lor _ _ = _) | with_reducible assumption | extract_lets | with_reducible apply frame_ite | with_reducible apply frame_next | (with_reducible apply frame_upd; with_reducible exact Or.inr rfl; fail_if_success (iterate 23 (with_reducible exact Or.inr rfl))) | (with_reducible apply frame_foldl; intro _ _) | with_reducible apply frame_i3cOk | with_reducible apply frame_i3cNack | with_reducible apply frame_wakeEvent | (split) | (dsimp +zetaDelta only))

theorem frame_execMctpPacketWrite {s : State} (addr) (bs) : FrameO 2014881 s (execMctpPacketWrite addr bs s) := by
  unfold execMctpPacketWrite
  repeat' (first | with_reducible exact frame_refl _ _ | with_reducible exact Or.inr rfl | exact Or.inl rfl | exact (rfl : Nat.lor _ _ = _) | with_reducible assumption | extract_lets | with_reducible apply frame_ite | with_reducible apply frame_next | (with_reducible apply frame_upd; with_reducible exact Or.inr rfl; fail_if_success (iterate 23 (with_reducible exact Or.inr rfl))) | (with_reducible apply frame_foldl; intro _ _) | with_reducible apply frame_i3cOk | with_reducible apply frame_earlyMatch | with_reducible apply frame_takePacket | with_reducible apply frame_wakeEvent | (split) | (dsimp +zetaDelta only))

theorem frame_execAlarmMatch {s : State} : FrameO 2014881 s (execAlarmMatch s) := by
  unfold execAlarmMatch
  repeat' (first | with_reducible exact frame_refl _ _ | with_reducible exact Or.inr rfl | exact Or.inl rfl | exact (rfl : Nat.lor _ _ = _) | with_reducible assumption | extract_lets | with_reducible apply frame_ite | with_reducible apply frame_next | (with_reducible apply frame_upd; with_reducible exact Or.inr rfl; fail_if_success (iterate 23 (with_reducible exact Or.inr rfl))) | (with_reducible apply frame_foldl; intro _ _) | with_reducible apply frame_wakeEvent | (split) | (dsimp +zetaDelta only))

theorem frame_rtcMinute {M : Nat} {s0 s : State} (hM : Nat.lor 32 M = M) (h0 : Frame M s0 s) : Frame M s0 (State.rtcMinute s) := by
  refine frame_trans (k := 32) ?_ hM h0
  unfold State.rtcMinute
  repeat' (first | with_reducible exact frame_refl _ _ | with_reducible exact Or.inr rfl | exact Or.inl rfl | exact (rfl : Nat.lor _ _ = _) | with_reducible assumption | extract_lets | with_reducible apply frame_ite | with_reducible apply frame_next | (with_reducible apply frame_upd; with_reducible exact Or.inr rfl; fail_if_success (iterate 23 (with_reducible exact Or.inr rfl))) | (with_reducible apply frame_foldl; intro _ _) | (split) | (dsimp +zetaDelta only))

theorem frame_wdogTick {M : Nat} {s0 s : State} (hM : Nat.lor 1025 M = M) (h0 : Frame M s0 s) : Frame M s0 (State.wdogTick s) := by
  refine frame_trans (k := 1025) ?_ hM h0
  unfold State.wdogTick
  repeat' (first | with_reducible exact frame_refl _ _ | with_reducible exact Or.inr rfl | exact Or.inl rfl | exact (rfl : Nat.lor _ _ = _) | with_reducible assumption | extract_lets | with_reducible apply frame_ite | with_reducible apply frame_next | (with_reducible apply frame_upd; with_reducible exact Or.inr rfl; fail_if_success (iterate 23 (with_reducible exact Or.inr rfl))) | (with_reducible apply frame_foldl; intro _ _) | with_reducible apply frame_setFld | (split) | (dsimp +zetaDelta only))

theorem frame_execRtcPeriod {s : State} : FrameO 1081 s (execRtcPeriod s) := by
  unfold execRtcPeriod
  repeat' (first | with_reducible exact frame_refl _ _ | with_reducible exact Or.inr rfl | exact Or.inl rfl | exact (rfl : Nat.lor _ _ = _) | with_reducible assumption | extract_lets | with_reducible apply frame_ite | with_reducible apply frame_next | (with_reducible apply frame_upd; with_reducible exact Or.inr rfl; fail_if_success (iterate 23 (with_reducible exact Or.inr rfl))) | (with_reducible apply frame_foldl; intro _ _) | with_reducible apply frame_advanceRtc | with_reducible apply frame_recordWake | with_reducible apply frame_rtcMinute | with_reducible apply frame_wdogTick | (split) | (dsimp +zetaDelta only))

end Sys2Proof.Machine
end

