-- ==== Sys2Proof/Laws/FrameRows.lean ====
section
/-!
SUPPORT. Frames: what the functions may change of thermal limits, power and start-up, and the rows of the remaining units; one lemma for each function.
-/
set_option linter.all false
set_option Elab.async false

namespace Sys2Proof.Machine

theorem frame_syncThm {M : Nat} {s0 s : State} (hM : Nat.lor 1 M = M) (h0 : Frame M s0 s) : Frame M s0 (State.syncThm s) := by
  refine frame_trans (k := 1) ?_ hM h0
  unfold State.syncThm
  repeat' (first | with_reducible exact frame_refl _ _ | with_reducible exact Or.inr rfl | exact Or.inl rfl | exact (rfl : Nat.lor _ _ = _) | with_reducible assumption | extract_lets | with_reducible apply frame_ite | with_reducible apply frame_next | (with_reducible apply frame_upd; with_reducible exact Or.inr rfl; fail_if_success (iterate 23 (with_reducible exact Or.inr rfl))) | (with_reducible apply frame_foldl; intro _ _) | with_reducible apply frame_setReg | (split) | (dsimp +zetaDelta only))

theorem frame_throttleWins {M : Nat} {s0 s : State} (hM : Nat.lor 2014753 M = M) (h0 : Frame M s0 s) : Frame M s0 (State.throttleWins s) := by
  refine frame_trans (k := 2014753) ?_ hM h0
  unfold State.throttleWins
  repeat' (first | with_reducible exact frame_refl _ _ | with_reducible exact Or.inr rfl | exact Or.inl rfl | exact (rfl : Nat.lor _ _ = _) | with_reducible assumption | extract_lets | with_reducible apply frame_ite | with_reducible apply frame_next | (with_reducible apply frame_upd; with_reducible exact Or.inr rfl; fail_if_success (iterate 23 (with_reducible exact Or.inr rfl))) | (with_reducible apply frame_foldl; intro _ _) | with_reducible apply frame_kick | with_reducible apply frame_loseSleep | (split) | (dsimp +zetaDelta only))

theorem frame_throttleStep {M : Nat} {s0 s : State} (hM : Nat.lor 2014881 M = M) (h0 : Frame M s0 s) : Frame M s0 (State.throttleStep s) := by
  refine frame_trans (k := 2014881) ?_ hM h0
  unfold State.throttleStep
  repeat' (first | with_reducible exact frame_refl _ _ | with_reducible exact Or.inr rfl | exact Or.inl rfl | exact (rfl : Nat.lor _ _ = _) | with_reducible assumption | extract_lets | with_reducible apply frame_ite | with_reducible apply frame_next | (with_reducible apply frame_upd; with_reducible exact Or.inr rfl; fail_if_success (iterate 23 (with_reducible exact Or.inr rfl))) | (with_reducible apply frame_foldl; intro _ _) | with_reducible apply frame_raise | with_reducible apply frame_throttleTo | with_reducible apply frame_syncThm | with_reducible apply frame_throttleWins | (split) | (dsimp +zetaDelta only))

theorem frame_judgeThrottle {M : Nat} {s0 s : State} (reading) (riseStep) (hM : Nat.lor 2014945 M = M) (h0 : Frame M s0 s) : Frame M s0 (State.judgeThrottle s reading riseStep) := by
  refine frame_trans (k := 2014945) ?_ hM h0
  unfold State.judgeThrottle
  repeat' (first | with_reducible exact frame_refl _ _ | with_reducible exact Or.inr rfl | exact Or.inl rfl | exact (rfl : Nat.lor _ _ = _) | with_reducible assumption | extract_lets | with_reducible apply frame_ite | with_reducible apply frame_next | (with_reducible apply frame_upd; with_reducible exact Or.inr rfl; fail_if_success (iterate 23 (with_reducible exact Or.inr rfl))) | (with_reducible apply frame_foldl; intro _ _) | with_reducible apply frame_raise | with_reducible apply frame_throttleStep | (split) | (dsimp +zetaDelta only))

theorem frame_shutDown {M : Nat} {s0 s : State} (left) (hM : Nat.lor 6291455 M = M) (h0 : Frame M s0 s) : Frame M s0 (State.shutDown s left) := by
  refine frame_trans (k := 6291455) ?_ hM h0
  unfold State.shutDown
  repeat' (first | with_reducible exact frame_refl _ _ | with_reducible exact Or.inr rfl | exact Or.inl rfl | exact (rfl : Nat.lor _ _ = _) | with_reducible assumption | extract_lets | with_reducible apply frame_ite | with_reducible apply frame_next | (with_reducible apply frame_upd; with_reducible exact Or.inr rfl; fail_if_success (iterate 23 (with_reducible exact Or.inr rfl))) | (with_reducible apply frame_foldl; intro _ _) | with_reducible apply frame_raise | with_reducible apply frame_toOff | with_reducible apply frame_enterDrain | with_reducible apply frame_discardRequest | with_reducible apply frame_enterFlush | (split) | (dsimp +zetaDelta only))

theorem frame_judgeShutdown {M : Nat} {s0 s : State} (reading) (h) (hM : Nat.lor 6291455 M = M) (h0 : Frame M s0 s) : Frame M s0 (State.judgeShutdown s reading h) := by
  refine frame_trans (k := 6291455) ?_ hM h0
  unfold State.judgeShutdown
  repeat' (first | with_reducible exact frame_refl _ _ | with_reducible exact Or.inr rfl | exact Or.inl rfl | exact (rfl : Nat.lor _ _ = _) | with_reducible assumption | extract_lets | with_reducible apply frame_ite | with_reducible apply frame_next | (with_reducible apply frame_upd; with_reducible exact Or.inr rfl; fail_if_success (iterate 23 (with_reducible exact Or.inr rfl))) | (with_reducible apply frame_foldl; intro _ _) | with_reducible apply frame_raise | with_reducible apply frame_enterFlush | with_reducible apply frame_shutDown | (split) | (dsimp +zetaDelta only))

theorem frame_warnEvent {M : Nat} {s0 s : State} (hM : Nat.lor 32768 M = M) (h0 : Frame M s0 s) : Frame M s0 (State.warnEvent s) := by
  refine frame_trans (k := 32768) ?_ hM h0
  unfold State.warnEvent
  repeat' (first | with_reducible exact frame_refl _ _ | with_reducible exact Or.inr rfl | exact Or.inl rfl | exact (rfl : Nat.lor _ _ = _) | with_reducible assumption | extract_lets | with_reducible apply frame_ite | with_reducible apply frame_next | (with_reducible apply frame_upd; with_reducible exact Or.inr rfl; fail_if_success (iterate 23 (with_reducible exact Or.inr rfl))) | (with_reducible apply frame_foldl; intro _ _) | with_reducible apply frame_asyncEvent | (split) | (dsimp +zetaDelta only))

theorem frame_judgeWarn {M : Nat} {s0 s : State} (reading) (hM : Nat.lor 34305 M = M) (h0 : Frame M s0 s) : Frame M s0 (State.judgeWarn s reading) := by
  refine frame_trans (k := 34305) ?_ hM h0
  unfold State.judgeWarn
  repeat' (first | with_reducible exact frame_refl _ _ | with_reducible exact Or.inr rfl | exact Or.inl rfl | exact (rfl : Nat.lor _ _ = _) | with_reducible assumption | extract_lets | with_reducible apply frame_ite | with_reducible apply frame_next | (with_reducible apply frame_upd; with_reducible exact Or.inr rfl; fail_if_success (iterate 23 (with_reducible exact Or.inr rfl))) | (with_reducible apply frame_foldl; intro _ _) | with_reducible apply frame_setFld | with_reducible apply frame_raise | with_reducible apply frame_warnEvent | (split) | (dsimp +zetaDelta only))

theorem frame_execSensorSample {s : State} (n) (reading) (ok) : FrameO 6291455 s (execSensorSample n reading ok s) := by
  unfold execSensorSample
  repeat' (first | with_reducible exact frame_refl _ _ | with_reducible exact Or.inr rfl | exact Or.inl rfl | exact (rfl : Nat.lor _ _ = _) | with_reducible assumption | extract_lets | with_reducible apply frame_ite | with_reducible apply frame_next | (with_reducible apply frame_upd; with_reducible exact Or.inr rfl; fail_if_success (iterate 23 (with_reducible exact Or.inr rfl))) | (with_reducible apply frame_foldl; intro _ _) | with_reducible apply frame_setReg | with_reducible apply frame_setSensor | with_reducible apply frame_raise | with_reducible apply frame_syncThm | with_reducible apply frame_judgeThrottle | with_reducible apply frame_judgeShutdown | with_reducible apply frame_judgeWarn | (split) | (dsimp +zetaDelta only))

theorem frame_execThrottleRise {s : State} : FrameO 2241 s (execThrottleRise s) := by
  unfold execThrottleRise
  repeat' (first | with_reducible exact frame_refl _ _ | with_reducible exact Or.inr rfl | exact Or.inl rfl | exact (rfl : Nat.lor _ _ = _) | with_reducible assumption | extract_lets | with_reducible apply frame_ite | with_reducible apply frame_next | (with_reducible apply frame_upd; with_reducible exact Or.inr rfl; fail_if_success (iterate 23 (with_reducible exact Or.inr rfl))) | (with_reducible apply frame_foldl; intro _ _) | with_reducible apply frame_throttleTo | with_reducible apply frame_syncThm | (split) | (dsimp +zetaDelta only))

theorem frame_countCool {M : Nat} {s0 s : State} (hM : Nat.lor 64 M = M) (h0 : Frame M s0 s) : Frame M s0 (State.countCool s) := by
  refine frame_trans (k := 64) ?_ hM h0
  unfold State.countCool
  repeat' (first | with_reducible exact frame_refl _ _ | with_reducible exact Or.inr rfl | exact Or.inl rfl | exact (rfl : Nat.lor _ _ = _) | with_reducible assumption | extract_lets | with_reducible apply frame_ite | with_reducible apply frame_next | (with_reducible apply frame_upd; with_reducible exact Or.inr rfl; fail_if_success (iterate 23 (with_reducible exact Or.inr rfl))) | (with_reducible apply frame_foldl; intro _ _) | (split) | (dsimp +zetaDelta only))

theorem frame_execWearEvaluation {s : State} : FrameO 1569 s (execWearEvaluation s) := by
  unfold execWearEvaluation
  repeat' (first | with_reducible exact frame_refl _ _ | with_reducible exact Or.inr rfl | exact Or.inl rfl | exact (rfl : Nat.lor _ _ = _) | with_reducible assumption | extract_lets | with_reducible apply frame_ite | with_reducible apply frame_next | (with_reducible apply frame_upd; with_reducible exact Or.inr rfl; fail_if_success (iterate 23 (with_reducible exact Or.inr rfl))) | (with_reducible apply frame_foldl; intro _ _) | with_reducible apply frame_setReg | with_reducible apply frame_raise | with_reducible apply frame_raiseWith | (split) | (dsimp +zetaDelta only))

theorem frame_execPowerOnHour {s : State} : FrameO 32 s (execPowerOnHour s) := by
  unfold execPowerOnHour
  repeat' (first | with_reducible exact frame_refl _ _ | with_reducible exact Or.inr rfl | exact Or.inl rfl | exact (rfl : Nat.lor _ _ = _) | with_reducible assumption | extract_lets | with_reducible apply frame_ite | with_reducible apply frame_next | (with_reducible apply frame_upd; with_reducible exact Or.inr rfl; fail_if_success (iterate 23 (with_reducible exact Or.inr rfl))) | (with_reducible apply frame_foldl; intro _ _) | (split) | (dsimp +zetaDelta only))

theorem frame_drive {M : Nat} {s0 s : State} (n) (v) (hM : Nat.lor 9 M = M) (h0 : Frame M s0 s) : Frame M s0 (State.drive s n v) := by
  refine frame_trans (k := 9) ?_ hM h0
  unfold State.drive
  repeat' (first | with_reducible exact frame_refl _ _ | with_reducible exact Or.inr rfl | exact Or.inl rfl | exact (rfl : Nat.lor _ _ = _) | with_reducible assumption | extract_lets | with_reducible apply frame_ite | with_reducible apply frame_next | (with_reducible apply frame_upd; with_reducible exact Or.inr rfl; fail_if_success (iterate 23 (with_reducible exact Or.inr rfl))) | (with_reducible apply frame_foldl; intro _ _) | with_reducible apply frame_setFld | (split) | (dsimp +zetaDelta only))

theorem frame_driveHeld {M : Nat} {s0 s : State} (n) (hM : Nat.lor 9 M = M) (h0 : Frame M s0 s) : Frame M s0 (State.driveHeld s n) := by
  refine frame_trans (k := 9) ?_ hM h0
  unfold State.driveHeld
  repeat' (first | with_reducible exact frame_refl _ _ | with_reducible exact Or.inr rfl | exact Or.inl rfl | exact (rfl : Nat.lor _ _ = _) | with_reducible assumption | extract_lets | with_reducible apply frame_ite | with_reducible apply frame_next | (with_reducible apply frame_upd; with_reducible exact Or.inr rfl; fail_if_success (iterate 23 (with_reducible exact Or.inr rfl))) | (with_reducible apply frame_foldl; intro _ _) | with_reducible apply frame_drive | (split) | (dsimp +zetaDelta only))

theorem frame_closeLoop {M : Nat} {s0 s : State} (n) (hM : Nat.lor 137 M = M) (h0 : Frame M s0 s) : Frame M s0 (State.closeLoop s n) := by
  refine frame_trans (k := 137) ?_ hM h0
  unfold State.closeLoop
  repeat' (first | with_reducible exact frame_refl _ _ | with_reducible exact Or.inr rfl | exact Or.inl rfl | exact (rfl : Nat.lor _ _ = _) | with_reducible assumption | extract_lets | with_reducible apply frame_ite | with_reducible apply frame_next | (with_reducible apply frame_upd; with_reducible exact Or.inr rfl; fail_if_success (iterate 23 (with_reducible exact Or.inr rfl))) | (with_reducible apply frame_foldl; intro _ _) | with_reducible apply frame_setFld | with_reducible apply frame_setLoop | with_reducible apply frame_driveHeld | (split) | (dsimp +zetaDelta only))

theorem frame_openLoop {M : Nat} {s0 s : State} (n) (hM : Nat.lor 129 M = M) (h0 : Frame M s0 s) : Frame M s0 (State.openLoop s n) := by
  refine frame_trans (k := 129) ?_ hM h0
  unfold State.openLoop
  repeat' (first | with_reducible exact frame_refl _ _ | with_reducible exact Or.inr rfl | exact Or.inl rfl | exact (rfl : Nat.lor _ _ = _) | with_reducible assumption | extract_lets | with_reducible apply frame_ite | with_reducible apply frame_next | (with_reducible apply frame_upd; with_reducible exact Or.inr rfl; fail_if_success (iterate 23 (with_reducible exact Or.inr rfl))) | (with_reducible apply frame_foldl; intro _ _) | with_reducible apply frame_setFld | with_reducible apply frame_setLoop | (split) | (dsimp +zetaDelta only))

theorem frame_syncClose {M : Nat} {s0 s : State} (n) (hM : Nat.lor 137 M = M) (h0 : Frame M s0 s) : Frame M s0 (State.syncClose s n) := by
  refine frame_trans (k := 137) ?_ hM h0
  unfold State.syncClose
  repeat' (first | with_reducible exact frame_refl _ _ | with_reducible exact Or.inr rfl | exact Or.inl rfl | exact (rfl : Nat.lor _ _ = _) | with_reducible assumption | extract_lets | with_reducible apply frame_ite | with_reducible apply frame_next | (with_reducible apply frame_upd; with_reducible exact Or.inr rfl; fail_if_success (iterate 23 (with_reducible exact Or.inr rfl))) | (with_reducible apply frame_foldl; intro _ _) | with_reducible apply frame_setLoop | with_reducible apply frame_closeLoop | with_reducible apply frame_openLoop | (split) | (dsimp +zetaDelta only))

theorem frame_execLoopSample {s : State} (n) (mv) : FrameO 1673 s (execLoopSample n mv s) := by
  unfold execLoopSample
  repeat' (first | with_reducible exact frame_refl _ _ | with_reducible exact Or.inr rfl | exact Or.inl rfl | exact (rfl : Nat.lor _ _ = _) | with_reducible assumption | extract_lets | with_reducible apply frame_ite | with_reducible apply frame_next | (with_reducible apply frame_upd; with_reducible exact Or.inr rfl; fail_if_success (iterate 23 (with_reducible exact Or.inr rfl))) | (with_reducible apply frame_foldl; intro _ _) | with_reducible apply frame_setFld | with_reducible apply frame_setLoop | with_reducible apply frame_raise | with_reducible apply frame_raiseEach | with_reducible apply frame_syncClose | (split) | (dsimp +zetaDelta only))

theorem frame_execLoopOutput {s : State} (n) : FrameO 137 s (execLoopOutput n s) := by
  unfold execLoopOutput
  repeat' (first | with_reducible exact frame_refl _ _ | with_reducible exact Or.inr rfl | exact Or.inl rfl | exact (rfl : Nat.lor _ _ = _) | with_reducible assumption | extract_lets | with_reducible apply frame_ite | with_reducible apply frame_next | (with_reducible apply frame_upd; with_reducible exact Or.inr rfl; fail_if_success (iterate 23 (with_reducible exact Or.inr rfl))) | (with_reducible apply frame_foldl; intro _ _) | with_reducible apply frame_setLoop | with_reducible apply frame_planLoop | with_reducible apply frame_drive | with_reducible apply frame_syncClose | (split) | (dsimp +zetaDelta only))

theorem frame_stepLoop {M : Nat} {s0 s : State} (n) (hM : Nat.lor 137 M = M) (h0 : Frame M s0 s) : Frame M s0 (State.stepLoop s n) := by
  refine frame_trans (k := 137) ?_ hM h0
  unfold State.stepLoop
  repeat' (first | with_reducible exact frame_refl _ _ | with_reducible exact Or.inr rfl | exact Or.inl rfl | exact (rfl : Nat.lor _ _ = _) | with_reducible assumption | extract_lets | with_reducible apply frame_ite | with_reducible apply frame_next | (with_reducible apply frame_upd; with_reducible exact Or.inr rfl; fail_if_success (iterate 23 (with_reducible exact Or.inr rfl))) | (with_reducible apply frame_foldl; intro _ _) | with_reducible apply frame_setFld | with_reducible apply frame_setLoop | with_reducible apply frame_syncClose | (split) | (dsimp +zetaDelta only))

theorem frame_execProfileStep {s : State} : FrameO 137 s (execProfileStep s) := by
  unfold execProfileStep
  repeat' (first | with_reducible exact frame_refl _ _ | with_reducible exact Or.inr rfl | exact Or.inl rfl | exact (rfl : Nat.lor _ _ = _) | with_reducible assumption | extract_lets | with_reducible apply frame_ite | with_reducible apply frame_next | (with_reducible apply frame_upd; with_reducible exact Or.inr rfl; fail_if_success (iterate 23 (with_reducible exact Or.inr rfl))) | (with_reducible apply frame_foldl; intro _ _) | with_reducible apply frame_stepLoop | (split) | (dsimp +zetaDelta only))

theorem frame_execSettleLate {s : State} (n) : FrameO 1665 s (execSettleLate n s) := by
  unfold execSettleLate
  repeat' (first | with_reducible exact frame_refl _ _ | with_reducible exact Or.inr rfl | exact Or.inl rfl | exact (rfl : Nat.lor _ _ = _) | with_reducible assumption | extract_lets | with_reducible apply frame_ite | with_reducible apply frame_next | (with_reducible apply frame_upd; with_reducible exact Or.inr rfl; fail_if_success (iterate 23 (with_reducible exact Or.inr rfl))) | (with_reducible apply frame_foldl; intro _ _) | with_reducible apply frame_setLoop | with_reducible apply frame_raise | (split) | (dsimp +zetaDelta only))

theorem frame_execLoopCloseWrite {s : State} (who) (n) (close) : FrameO 137 s (execLoopCloseWrite who n close s) := by
  unfold execLoopCloseWrite
  repeat' (first | with_reducible exact frame_refl _ _ | with_reducible exact Or.inr rfl | exact Or.inl rfl | exact (rfl : Nat.lor _ _ = _) | with_reducible assumption | extract_lets | with_reducible apply frame_ite | with_reducible apply frame_next | (with_reducible apply frame_upd; with_reducible exact Or.inr rfl; fail_if_success (iterate 23 (with_reducible exact Or.inr rfl))) | (with_reducible apply frame_foldl; intro _ _) | with_reducible apply frame_setFld | with_reducible apply frame_setLoop | with_reducible apply frame_syncClose | (split) | (dsimp +zetaDelta only))

theorem frame_execCoefWrite {s : State} (who) (n) (second) (value) : FrameO 1673 s (execCoefWrite who n second value s) := by
  unfold execCoefWrite
  repeat' (first | with_reducible exact frame_refl _ _ | with_reducible exact Or.inr rfl | exact Or.inl rfl | exact (rfl : Nat.lor _ _ = _) | with_reducible assumption | extract_lets | with_reducible apply frame_ite | with_reducible apply frame_next | (with_reducible apply frame_upd; with_reducible exact Or.inr rfl; fail_if_success (iterate 23 (with_reducible exact Or.inr rfl))) | (with_reducible apply frame_foldl; intro _ _) | with_reducible apply frame_setReg | with_reducible apply frame_raise | with_reducible apply frame_syncClose | (split) | (dsimp +zetaDelta only))

theorem frame_execSetpointWrite {s : State} (who) (n) (value) : FrameO 137 s (execSetpointWrite who n value s) := by
  unfold execSetpointWrite
  repeat' (first | with_reducible exact frame_refl _ _ | with_reducible exact Or.inr rfl | exact Or.inl rfl | exact (rfl : Nat.lor _ _ = _) | with_reducible assumption | extract_lets | with_reducible apply frame_ite | with_reducible apply frame_next | (with_reducible apply frame_upd; with_reducible exact Or.inr rfl; fail_if_success (iterate 23 (with_reducible exact Or.inr rfl))) | (with_reducible apply frame_foldl; intro _ _) | with_reducible apply frame_setTarget | with_reducible apply frame_syncClose | (split) | (dsimp +zetaDelta only))

theorem frame_execLoop1Reclose {s : State} : FrameO 137 s (execLoop1Reclose s) := by
  unfold execLoop1Reclose
  repeat' (first | with_reducible exact frame_refl _ _ | with_reducible exact Or.inr rfl | exact Or.inl rfl | exact (rfl : Nat.lor _ _ = _) | with_reducible assumption | extract_lets | with_reducible apply frame_ite | with_reducible apply frame_next | (with_reducible apply frame_upd; with_reducible exact Or.inr rfl; fail_if_success (iterate 23 (with_reducible exact Or.inr rfl))) | (with_reducible apply frame_foldl; intro _ _) | with_reducible apply frame_closeLoop | (split) | (dsimp +zetaDelta only))

theorem frame_tryStrap {M : Nat} {s0 s : State} (hM : Nat.lor 2080767 M = M) (h0 : Frame M s0 s) : Frame M s0 (State.tryStrap s) := by
  refine frame_trans (k := 2080767) ?_ hM h0
  unfold State.tryStrap
  repeat' (first | with_reducible exact frame_refl _ _ | with_reducible exact Or.inr rfl | exact Or.inl rfl | exact (rfl : Nat.lor _ _ = _) | with_reducible assumption | extract_lets | with_reducible apply frame_ite | with_reducible apply frame_next | (with_reducible apply frame_upd; with_reducible exact Or.inr rfl; fail_if_success (iterate 23 (with_reducible exact Or.inr rfl))) | (with_reducible apply frame_foldl; intro _ _) | with_reducible apply frame_toStrap | (split) | (dsimp +zetaDelta only))

theorem frame_execPorNAssert {s : State} : FrameO 8388607 s (execPorNAssert s) := by
  unfold execPorNAssert
  repeat' (first | with_reducible exact frame_refl _ _ | with_reducible exact Or.inr rfl | exact Or.inl rfl | exact (rfl : Nat.lor _ _ = _) | with_reducible assumption | extract_lets | with_reducible apply frame_ite | with_reducible apply frame_next | (with_reducible apply frame_upd; with_reducible exact Or.inr rfl; fail_if_success (iterate 23 (with_reducible exact Or.inr rfl))) | (with_reducible apply frame_foldl; intro _ _) | with_reducible apply frame_norAbandon | with_reducible apply frame_toOff | (split) | (dsimp +zetaDelta only))

theorem frame_execPorNRelease {s : State} : FrameO 2080767 s (execPorNRelease s) := by
  unfold execPorNRelease
  repeat' (first | with_reducible exact frame_refl _ _ | with_reducible exact Or.inr rfl | exact Or.inl rfl | exact (rfl : Nat.lor _ _ = _) | with_reducible assumption | extract_lets | with_reducible apply frame_ite | with_reducible apply frame_next | (with_reducible apply frame_upd; with_reducible exact Or.inr rfl; fail_if_success (iterate 23 (with_reducible exact Or.inr rfl))) | (with_reducible apply frame_foldl; intro _ _) | with_reducible apply frame_syncBanks | with_reducible apply frame_tryStrap | (split) | (dsimp +zetaDelta only))

theorem frame_execPlossNFall {s : State} : FrameO 24 s (execPlossNFall s) := by
  unfold execPlossNFall
  repeat' (first | with_reducible exact frame_refl _ _ | with_reducible exact Or.inr rfl | exact Or.inl rfl | exact (rfl : Nat.lor _ _ = _) | with_reducible assumption | extract_lets | with_reducible apply frame_ite | with_reducible apply frame_next | (with_reducible apply frame_upd; with_reducible exact Or.inr rfl; fail_if_success (iterate 23 (with_reducible exact Or.inr rfl))) | (with_reducible apply frame_foldl; intro _ _) | (split) | (dsimp +zetaDelta only))

theorem frame_chargerOff {M : Nat} {s0 s : State} (hM : Nat.lor 129 M = M) (h0 : Frame M s0 s) : Frame M s0 (State.chargerOff s) := by
  refine frame_trans (k := 129) ?_ hM h0
  unfold State.chargerOff
  repeat' (first | with_reducible exact frame_refl _ _ | with_reducible exact Or.inr rfl | exact Or.inl rfl | exact (rfl : Nat.lor _ _ = _) | with_reducible assumption | extract_lets | with_reducible apply frame_ite | with_reducible apply frame_next | (with_reducible apply frame_upd; with_reducible exact Or.inr rfl; fail_if_success (iterate 23 (with_reducible exact Or.inr rfl))) | (with_reducible apply frame_foldl; intro _ _) | with_reducible apply frame_setFld | with_reducible apply frame_setLoop | (split) | (dsimp +zetaDelta only))

theorem frame_powerLoss {M : Nat} {s0 s : State} (c) (hM : Nat.lor 6291455 M = M) (h0 : Frame M s0 s) : Frame M s0 (State.powerLoss s c) := by
  refine frame_trans (k := 6291455) ?_ hM h0
  unfold State.powerLoss
  repeat' (first | with_reducible exact frame_refl _ _ | with_reducible exact Or.inr rfl | exact Or.inl rfl | exact (rfl : Nat.lor _ _ = _) | with_reducible assumption | extract_lets | with_reducible apply frame_ite | with_reducible apply frame_next | (with_reducible apply frame_upd; with_reducible exact Or.inr rfl; fail_if_success (iterate 23 (with_reducible exact Or.inr rfl))) | (with_reducible apply frame_foldl; intro _ _) | with_reducible apply frame_raise | with_reducible apply frame_norAbandon | with_reducible apply frame_toOff | with_reducible apply frame_stopTest | with_reducible apply frame_enterFlush | with_reducible apply frame_chargerOff | (split) | (dsimp +zetaDelta only))

theorem frame_execPlossNAssert {s : State} : FrameO 6291455 s (execPlossNAssert s) := by
  unfold execPlossNAssert
  repeat' (first | with_reducible exact frame_refl _ _ | with_reducible exact Or.inr rfl | exact Or.inl rfl | exact (rfl : Nat.lor _ _ = _) | with_reducible assumption | extract_lets | with_reducible apply frame_ite | with_reducible apply frame_next | (with_reducible apply frame_upd; with_reducible exact Or.inr rfl; fail_if_success (iterate 23 (with_reducible exact Or.inr rfl))) | (with_reducible apply frame_foldl; intro _ _) | with_reducible apply frame_powerLoss | (split) | (dsimp +zetaDelta only))

theorem frame_inputsHigh {M : Nat} {s0 s : State} (hM : Nat.lor 2080767 M = M) (h0 : Frame M s0 s) : Frame M s0 (State.inputsHigh s) := by
  refine frame_trans (k := 2080767) ?_ hM h0
  unfold State.inputsHigh
  repeat' (first | with_reducible exact frame_refl _ _ | with_reducible exact Or.inr rfl | exact Or.inl rfl | exact (rfl : Nat.lor _ _ = _) | with_reducible assumption | extract_lets | with_reducible apply frame_ite | with_reducible apply frame_next | (with_reducible apply frame_upd; with_reducible exact Or.inr rfl; fail_if_success (iterate 23 (with_reducible exact Or.inr rfl))) | (with_reducible apply frame_foldl; intro _ _) | with_reducible apply frame_tryStrap | (split) | (dsimp +zetaDelta only))

theorem frame_execPlossNRise {s : State} : FrameO 2080767 s (execPlossNRise s) := by
  unfold execPlossNRise
  repeat' (first | with_reducible exact frame_refl _ _ | with_reducible exact Or.inr rfl | exact Or.inl rfl | exact (rfl : Nat.lor _ _ = _) | with_reducible assumption | extract_lets | with_reducible apply frame_ite | with_reducible apply frame_next | (with_reducible apply frame_upd; with_reducible exact Or.inr rfl; fail_if_success (iterate 23 (with_reducible exact Or.inr rfl))) | (with_reducible apply frame_foldl; intro _ _) | with_reducible apply frame_inputsHigh | (split) | (dsimp +zetaDelta only))

theorem frame_execOffExitCountExpiry {s : State} : FrameO 2080767 s (execOffExitCountExpiry s) := by
  unfold execOffExitCountExpiry
  repeat' (first | with_reducible exact frame_refl _ _ | with_reducible exact Or.inr rfl | exact Or.inl rfl | exact (rfl : Nat.lor _ _ = _) | with_reducible assumption | extract_lets | with_reducible apply frame_ite | with_reducible apply frame_next | (with_reducible apply frame_upd; with_reducible exact Or.inr rfl; fail_if_success (iterate 23 (with_reducible exact Or.inr rfl))) | (with_reducible apply frame_foldl; intro _ _) | with_reducible apply frame_tryStrap | (split) | (dsimp +zetaDelta only))

theorem frame_execPwrGoodDrop {s : State} : FrameO 6291455 s (execPwrGoodDrop s) := by
  unfold execPwrGoodDrop
  repeat' (first | with_reducible exact frame_refl _ _ | with_reducible exact Or.inr rfl | exact Or.inl rfl | exact (rfl : Nat.lor _ _ = _) | with_reducible assumption | extract_lets | with_reducible apply frame_ite | with_reducible apply frame_next | (with_reducible apply frame_upd; with_reducible exact Or.inr rfl; fail_if_success (iterate 23 (with_reducible exact Or.inr rfl))) | (with_reducible apply frame_foldl; intro _ _) | with_reducible apply frame_raise | with_reducible apply frame_powerLoss | (split) | (dsimp +zetaDelta only))

theorem frame_execPwrGoodRise {s : State} : FrameO 2080767 s (execPwrGoodRise s) := by
  unfold execPwrGoodRise
  repeat' (first | with_reducible exact frame_refl _ _ | with_reducible exact Or.inr rfl | exact Or.inl rfl | exact (rfl : Nat.lor _ _ = _) | with_reducible assumption | extract_lets | with_reducible apply frame_ite | with_reducible apply frame_next | (with_reducible apply frame_upd; with_reducible exact Or.inr rfl; fail_if_success (iterate 23 (with_reducible exact Or.inr rfl))) | (with_reducible apply frame_foldl; intro _ _) | with_reducible apply frame_inputsHigh | (split) | (dsimp +zetaDelta only))

theorem frame_execRailTimeout {s : State} : FrameO 1537 s (execRailTimeout s) := by
  unfold execRailTimeout
  repeat' (first | with_reducible exact frame_refl _ _ | with_reducible exact Or.inr rfl | exact Or.inl rfl | exact (rfl : Nat.lor _ _ = _) | with_reducible assumption | extract_lets | with_reducible apply frame_ite | with_reducible apply frame_next | (with_reducible apply frame_upd; with_reducible exact Or.inr rfl; fail_if_success (iterate 23 (with_reducible exact Or.inr rfl))) | (with_reducible apply frame_foldl; intro _ _) | with_reducible apply frame_raise | (split) | (dsimp +zetaDelta only))

theorem frame_enterFill {M : Nat} {s0 s : State} (resume) (c) (hM : Nat.lor 198175 M = M) (h0 : Frame M s0 s) : Frame M s0 (State.enterFill s resume c) := by
  refine frame_trans (k := 198175) ?_ hM h0
  unfold State.enterFill
  repeat' (first | with_reducible exact frame_refl _ _ | with_reducible exact Or.inr rfl | exact Or.inl rfl | exact (rfl : Nat.lor _ _ = _) | with_reducible assumption | extract_lets | with_reducible apply frame_ite | with_reducible apply frame_next | (with_reducible apply frame_upd; with_reducible exact Or.inr rfl; fail_if_success (iterate 23 (with_reducible exact Or.inr rfl))) | (with_reducible apply frame_foldl; intro _ _) | with_reducible apply frame_setFld | with_reducible apply frame_enter | with_reducible apply frame_syncBanks | with_reducible apply frame_driveRefs | (split) | (dsimp +zetaDelta only))

theorem frame_strapEnds {M : Nat} {s0 s : State} (us) (hM : Nat.lor 200223 M = M) (h0 : Frame M s0 s) : Frame M s0 (State.strapEnds s us) := by
  refine frame_trans (k := 200223) ?_ hM h0
  unfold State.strapEnds
  repeat' (first | with_reducible exact frame_refl _ _ | with_reducible exact Or.inr rfl | exact Or.inl rfl | exact (rfl : Nat.lor _ _ = _) | with_reducible assumption | extract_lets | with_reducible apply frame_ite | with_reducible apply frame_next | (with_reducible apply frame_upd; with_reducible exact Or.inr rfl; fail_if_success (iterate 23 (with_reducible exact Or.inr rfl))) | (with_reducible apply frame_foldl; intro _ _) | with_reducible apply frame_phaseTime | with_reducible apply frame_enterFill | (split) | (dsimp +zetaDelta only))

theorem frame_strapCheck {M : Nat} {s0 s : State} (hM : Nat.lor 2080767 M = M) (h0 : Frame M s0 s) : Frame M s0 (State.strapCheck s) := by
  refine frame_trans (k := 2080767) ?_ hM h0
  unfold State.strapCheck
  repeat' (first | with_reducible exact frame_refl _ _ | with_reducible exact Or.inr rfl | exact Or.inl rfl | exact (rfl : Nat.lor _ _ = _) | with_reducible assumption | extract_lets | with_reducible apply frame_ite | with_reducible apply frame_next | (with_reducible apply frame_upd; with_reducible exact Or.inr rfl; fail_if_success (iterate 23 (with_reducible exact Or.inr rfl))) | (with_reducible apply frame_foldl; intro _ _) | with_reducible apply frame_toMaint | with_reducible apply frame_strapEnds | (split) | (dsimp +zetaDelta only))

theorem frame_setStrap {M : Nat} {s0 s : State} (v) (unstable) (hM : Nat.lor 17 M = M) (h0 : Frame M s0 s) : Frame M s0 (State.setStrap s v unstable) := by
  refine frame_trans (k := 17) ?_ hM h0
  unfold State.setStrap
  repeat' (first | with_reducible exact frame_refl _ _ | with_reducible exact Or.inr rfl | exact Or.inl rfl | exact (rfl : Nat.lor _ _ = _) | with_reducible assumption | extract_lets | with_reducible apply frame_ite | with_reducible apply frame_next | (with_reducible apply frame_upd; with_reducible exact Or.inr rfl; fail_if_success (iterate 23 (with_reducible exact Or.inr rfl))) | (with_reducible apply frame_foldl; intro _ _) | with_reducible apply frame_setReg | (split) | (dsimp +zetaDelta only))

theorem frame_execStrapSample {s : State} (v) : FrameO 2080767 s (execStrapSample v s) := by
  unfold execStrapSample
  repeat' (first | with_reducible exact frame_refl _ _ | with_reducible exact Or.inr rfl | exact Or.inl rfl | exact (rfl : Nat.lor _ _ = _) | with_reducible assumption | extract_lets | with_reducible apply frame_ite | with_reducible apply frame_next | (with_reducible apply frame_upd; with_reducible exact Or.inr rfl; fail_if_success (iterate 23 (with_reducible exact Or.inr rfl))) | (with_reducible apply frame_foldl; intro _ _) | with_reducible apply frame_strapCheck | with_reducible apply frame_setStrap | (split) | (dsimp +zetaDelta only))

theorem frame_execOscillatorQualified {s : State} : FrameO 2080767 s (execOscillatorQualified s) := by
  unfold execOscillatorQualified
  repeat' (first | with_reducible exact frame_refl _ _ | with_reducible exact Or.inr rfl | exact Or.inl rfl | exact (rfl : Nat.lor _ _ = _) | with_reducible assumption | extract_lets | with_reducible apply frame_ite | with_reducible apply frame_next | (with_reducible apply frame_upd; with_reducible exact Or.inr rfl; fail_if_success (iterate 23 (with_reducible exact Or.inr rfl))) | (with_reducible apply frame_foldl; intro _ _) | with_reducible apply frame_strapCheck | (split) | (dsimp +zetaDelta only))

theorem frame_execPllLock {s : State} (us) : FrameO 200255 s (execPllLock us s) := by
  unfold execPllLock
  repeat' (first | with_reducible exact frame_refl _ _ | with_reducible exact Or.inr rfl | exact Or.inl rfl | exact (rfl : Nat.lor _ _ = _) | with_reducible assumption | extract_lets | with_reducible apply frame_ite | with_reducible apply frame_next | (with_reducible apply frame_upd; with_reducible exact Or.inr rfl; fail_if_success (iterate 23 (with_reducible exact Or.inr rfl))) | (with_reducible apply frame_foldl; intro _ _) | with_reducible apply frame_setReg | with_reducible apply frame_setFld | with_reducible apply frame_resetRegs | with_reducible apply frame_advanceRtc | with_reducible apply frame_enterFill | with_reducible apply frame_strapEnds | (split) | (dsimp +zetaDelta only))

theorem frame_execXtalFail {s : State} : FrameO 1553 s (execXtalFail s) := by
  unfold execXtalFail
  repeat' (first | with_reducible exact frame_refl _ _ | with_reducible exact Or.inr rfl | exact Or.inl rfl | exact (rfl : Nat.lor _ _ = _) | with_reducible assumption | extract_lets | with_reducible apply frame_ite | with_reducible apply frame_next | (with_reducible apply frame_upd; with_reducible exact Or.inr rfl; fail_if_success (iterate 23 (with_reducible exact Or.inr rfl))) | (with_reducible apply frame_foldl; intro _ _) | with_reducible apply frame_raise | (split) | (dsimp +zetaDelta only))

theorem frame_fillCheck {M : Nat} {s0 s : State} (hM : Nat.lor 1559 M = M) (h0 : Frame M s0 s) : Frame M s0 (State.fillCheck s) := by
  refine frame_trans (k := 1559) ?_ hM h0
  unfold State.fillCheck
  repeat' (first | with_reducible exact frame_refl _ _ | with_reducible exact Or.inr rfl | exact Or.inl rfl | exact (rfl : Nat.lor _ _ = _) | with_reducible assumption | extract_lets | with_reducible apply frame_ite | with_reducible apply frame_next | (with_reducible apply frame_upd; with_reducible exact Or.inr rfl; fail_if_success (iterate 23 (with_reducible exact Or.inr rfl))) | (with_reducible apply frame_foldl; intro _ _) | with_reducible apply frame_enter | with_reducible apply frame_phaseEnd | (split) | (dsimp +zetaDelta only))

theorem frame_execCalRowReadDone {s : State} : FrameO 2080767 s (execCalRowReadDone s) := by
  unfold execCalRowReadDone
  repeat' (first | with_reducible exact frame_refl _ _ | with_reducible exact Or.inr rfl | exact Or.inl rfl | exact (rfl : Nat.lor _ _ = _) | with_reducible assumption | extract_lets | with_reducible apply frame_ite | with_reducible apply frame_next | (with_reducible apply frame_upd; with_reducible exact Or.inr rfl; fail_if_success (iterate 23 (with_reducible exact Or.inr rfl))) | (with_reducible apply frame_foldl; intro _ _) | with_reducible apply frame_raise | with_reducible apply frame_toMaint | with_reducible apply frame_fillCheck | (split) | (dsimp +zetaDelta only))

theorem frame_execBankFillDone {s : State} (b) : FrameO 1559 s (execBankFillDone b s) := by
  unfold execBankFillDone
  repeat' (first | with_reducible exact frame_refl _ _ | with_reducible exact Or.inr rfl | exact Or.inl rfl | exact (rfl : Nat.lor _ _ = _) | with_reducible assumption | extract_lets | with_reducible apply frame_ite | with_reducible apply frame_next | (with_reducible apply frame_upd; with_reducible exact Or.inr rfl; fail_if_success (iterate 23 (with_reducible exact Or.inr rfl))) | (with_reducible apply frame_foldl; intro _ _) | with_reducible apply frame_fillCheck | (split) | (dsimp +zetaDelta only))

theorem frame_sweep {s : State} {eyes} {t : State} (e : State.sweep s eyes = some t) : Frame 1553 s t := by
  unfold State.sweep at e
  split at e
  · rw [← Option.some.inj e]
    repeat' (first | with_reducible exact frame_refl _ _ | (with_reducible apply frame_upd; with_reducible exact Or.inr rfl; fail_if_success (iterate 23 (with_reducible exact Or.inr rfl))) | with_reducible exact Or.inr rfl | exact Or.inl rfl | exact (rfl : Nat.lor _ _ = _) | extract_lets | with_reducible apply frame_ite | with_reducible apply frame_raise)
  · contradiction

theorem frame_execDdr5BootSweepDone {s : State} (eyes) : FrameO 2080767 s (execDdr5BootSweepDone eyes s) := by
  unfold execDdr5BootSweepDone
  repeat' (first | with_reducible exact frame_refl _ _ | with_reducible exact Or.inr rfl | exact Or.inl rfl | exact (rfl : Nat.lor _ _ = _) | with_reducible assumption | extract_lets | with_reducible apply frame_ite | with_reducible apply frame_next | (with_reducible apply frame_upd; with_reducible exact Or.inr rfl; fail_if_success (iterate 23 (with_reducible exact Or.inr rfl))) | (with_reducible apply frame_foldl; intro _ _) | with_reducible apply frame_raise | with_reducible apply frame_toMaint | (with_reducible refine frame_trans (frame_sweep (by assumption)) ?_ ?_) | (split) | (dsimp +zetaDelta only))

theorem frame_execDramFillDone {s : State} : FrameO 1559 s (execDramFillDone s) := by
  unfold execDramFillDone
  repeat' (first | with_reducible exact frame_refl _ _ | with_reducible exact Or.inr rfl | exact Or.inl rfl | exact (rfl : Nat.lor _ _ = _) | with_reducible assumption | extract_lets | with_reducible apply frame_ite | with_reducible apply frame_next | (with_reducible apply frame_upd; with_reducible exact Or.inr rfl; fail_if_success (iterate 23 (with_reducible exact Or.inr rfl))) | (with_reducible apply frame_foldl; intro _ _) | with_reducible apply frame_fillCheck | (split) | (dsimp +zetaDelta only))

theorem frame_pcieReset {M : Nat} {s0 s : State} (hM : Nat.lor 2014721 M = M) (h0 : Frame M s0 s) : Frame M s0 (State.pcieReset s) := by
  refine frame_trans (k := 2014721) ?_ hM h0
  unfold State.pcieReset
  repeat' (first | with_reducible exact frame_refl _ _ | with_reducible exact Or.inr rfl | exact Or.inl rfl | exact (rfl : Nat.lor _ _ = _) | with_reducible assumption | extract_lets | with_reducible apply frame_ite | with_reducible apply frame_next | (with_reducible apply frame_upd; with_reducible exact Or.inr rfl; fail_if_success (iterate 23 (with_reducible exact Or.inr rfl))) | (with_reducible apply frame_foldl; intro _ _) | with_reducible apply frame_kick | with_reducible apply frame_resetOne | (split) | (dsimp +zetaDelta only))

theorem frame_execPerstNAssert {s : State} : FrameO 2014729 s (execPerstNAssert s) := by
  unfold execPerstNAssert
  repeat' (first | with_reducible exact frame_refl _ _ | with_reducible exact Or.inr rfl | exact Or.inl rfl | exact (rfl : Nat.lor _ _ = _) | with_reducible assumption | extract_lets | with_reducible apply frame_ite | with_reducible apply frame_next | (with_reducible apply frame_upd; with_reducible exact Or.inr rfl; fail_if_success (iterate 23 (with_reducible exact Or.inr rfl))) | (with_reducible apply frame_foldl; intro _ _) | with_reducible apply frame_pcieReset | (split) | (dsimp +zetaDelta only))

theorem frame_execPerstNRelease {s : State} : FrameO 2014889 s (execPerstNRelease s) := by
  unfold execPerstNRelease
  repeat' (first | with_reducible exact frame_refl _ _ | with_reducible exact Or.inr rfl | exact Or.inl rfl | exact (rfl : Nat.lor _ _ = _) | with_reducible assumption | extract_lets | with_reducible apply frame_ite | with_reducible apply frame_next | (with_reducible apply frame_upd; with_reducible exact Or.inr rfl; fail_if_success (iterate 23 (with_reducible exact Or.inr rfl))) | (with_reducible apply frame_foldl; intro _ _) | with_reducible apply frame_wakeEvent | (split) | (dsimp +zetaDelta only))

theorem frame_execPcieLinkUp {s : State} (link) : FrameO 32768 s (execPcieLinkUp link s) := by
  unfold execPcieLinkUp
  repeat' (first | with_reducible exact frame_refl _ _ | with_reducible exact Or.inr rfl | exact Or.inl rfl | exact (rfl : Nat.lor _ _ = _) | with_reducible assumption | extract_lets | with_reducible apply frame_ite | with_reducible apply frame_next | (with_reducible apply frame_upd; with_reducible exact Or.inr rfl; fail_if_success (iterate 23 (with_reducible exact Or.inr rfl))) | (with_reducible apply frame_foldl; intro _ _) | (split) | (dsimp +zetaDelta only))

theorem frame_execClkreqNAssert {s : State} : FrameO 2014881 s (execClkreqNAssert s) := by
  unfold execClkreqNAssert
  repeat' (first | with_reducible exact frame_refl _ _ | with_reducible exact Or.inr rfl | exact Or.inl rfl | exact (rfl : Nat.lor _ _ = _) | with_reducible assumption | extract_lets | with_reducible apply frame_ite | with_reducible apply frame_next | (with_reducible apply frame_upd; with_reducible exact Or.inr rfl; fail_if_success (iterate 23 (with_reducible exact Or.inr rfl))) | (with_reducible apply frame_foldl; intro _ _) | with_reducible apply frame_wakeEvent | (split) | (dsimp +zetaDelta only))

theorem frame_readMarkers {M : Nat} {s0 s : State} (hM : Nat.lor 1 M = M) (h0 : Frame M s0 s) : Frame M s0 (State.readMarkers s) := by
  refine frame_trans (k := 1) ?_ hM h0
  unfold State.readMarkers
  repeat' (first | with_reducible exact frame_refl _ _ | with_reducible exact Or.inr rfl | exact Or.inl rfl | exact (rfl : Nat.lor _ _ = _) | with_reducible assumption | extract_lets | with_reducible apply frame_ite | with_reducible apply frame_next | (with_reducible apply frame_upd; with_reducible exact Or.inr rfl; fail_if_success (iterate 23 (with_reducible exact Or.inr rfl))) | (with_reducible apply frame_foldl; intro _ _) | with_reducible apply frame_setReg | (split) | (dsimp +zetaDelta only))

theorem frame_loadGo {M : Nat} {s0 s : State} (n) (hM : Nat.lor 16 M = M) (h0 : Frame M s0 s) : Frame M s0 (State.loadGo s n) := by
  refine frame_trans (k := 16) ?_ hM h0
  unfold State.loadGo
  repeat' (first | with_reducible exact frame_refl _ _ | with_reducible exact Or.inr rfl | exact Or.inl rfl | exact (rfl : Nat.lor _ _ = _) | with_reducible assumption | extract_lets | with_reducible apply frame_ite | with_reducible apply frame_next | (with_reducible apply frame_upd; with_reducible exact Or.inr rfl; fail_if_success (iterate 23 (with_reducible exact Or.inr rfl))) | (with_reducible apply frame_foldl; intro _ _) | (split) | (dsimp +zetaDelta only))

theorem frame_loadStep1 {M : Nat} {s0 s : State} (hM : Nat.lor 2080767 M = M) (h0 : Frame M s0 s) : Frame M s0 (State.loadStep1 s) := by
  refine frame_trans (k := 2080767) ?_ hM h0
  unfold State.loadStep1
  repeat' (first | with_reducible exact frame_refl _ _ | with_reducible exact Or.inr rfl | exact Or.inl rfl | exact (rfl : Nat.lor _ _ = _) | with_reducible assumption | extract_lets | with_reducible apply frame_ite | with_reducible apply frame_next | (with_reducible apply frame_upd; with_reducible exact Or.inr rfl; fail_if_success (iterate 23 (with_reducible exact Or.inr rfl))) | (with_reducible apply frame_foldl; intro _ _) | with_reducible apply frame_toMaint | with_reducible apply frame_markNoCand | with_reducible apply frame_readMarkers | with_reducible apply frame_loadGo | (split) | (dsimp +zetaDelta only))

theorem frame_loadStep3 {M : Nat} {s0 s : State} (hM : Nat.lor 2080767 M = M) (h0 : Frame M s0 s) : Frame M s0 (State.loadStep3 s) := by
  refine frame_trans (k := 2080767) ?_ hM h0
  unfold State.loadStep3
  repeat' (first | with_reducible exact frame_refl _ _ | with_reducible exact Or.inr rfl | exact Or.inl rfl | exact (rfl : Nat.lor _ _ = _) | with_reducible assumption | extract_lets | with_reducible apply frame_ite | with_reducible apply frame_next | (with_reducible apply frame_upd; with_reducible exact Or.inr rfl; fail_if_success (iterate 23 (with_reducible exact Or.inr rfl))) | (with_reducible apply frame_foldl; intro _ _) | with_reducible apply frame_setSlotReason | with_reducible apply frame_slotFail | with_reducible apply frame_loadGo | (split) | (dsimp +zetaDelta only))

theorem frame_placeLoops {M : Nat} {s0 s : State} (hM : Nat.lor 129 M = M) (h0 : Frame M s0 s) : Frame M s0 (State.placeLoops s) := by
  refine frame_trans (k := 129) ?_ hM h0
  unfold State.placeLoops
  repeat' (first | with_reducible exact frame_refl _ _ | with_reducible exact Or.inr rfl | exact Or.inl rfl | exact (rfl : Nat.lor _ _ = _) | with_reducible assumption | extract_lets | with_reducible apply frame_ite | with_reducible apply frame_next | (with_reducible apply frame_upd; with_reducible exact Or.inr rfl; fail_if_success (iterate 23 (with_reducible exact Or.inr rfl))) | (with_reducible apply frame_foldl; intro _ _) | with_reducible apply frame_setReg | with_reducible apply frame_setLoop | (split) | (dsimp +zetaDelta only))

theorem frame_placeGeometry {M : Nat} {s0 s : State} (g) (hM : Nat.lor 135169 M = M) (h0 : Frame M s0 s) : Frame M s0 (State.placeGeometry s g) := by
  refine frame_trans (k := 135169) ?_ hM h0
  unfold State.placeGeometry
  repeat' (first | with_reducible exact frame_refl _ _ | with_reducible exact Or.inr rfl | exact Or.inl rfl | exact (rfl : Nat.lor _ _ = _) | with_reducible assumption | extract_lets | with_reducible apply frame_ite | with_reducible apply frame_next | (with_reducible apply frame_upd; with_reducible exact Or.inr rfl; fail_if_success (iterate 23 (with_reducible exact Or.inr rfl))) | (with_reducible apply frame_foldl; intro _ _) | with_reducible apply frame_setFld | (split) | (dsimp +zetaDelta only))

theorem frame_placeCommon {M : Nat} {s0 s : State} (im) (hM : Nat.lor 1185425 M = M) (h0 : Frame M s0 s) : Frame M s0 (State.placeCommon s im) := by
  refine frame_trans (k := 1185425) ?_ hM h0
  unfold State.placeCommon
  repeat' (first | with_reducible exact frame_refl _ _ | with_reducible exact Or.inr rfl | exact Or.inl rfl | exact (rfl : Nat.lor _ _ = _) | with_reducible assumption | extract_lets | with_reducible apply frame_ite | with_reducible apply frame_next | (with_reducible apply frame_upd; with_reducible exact Or.inr rfl; fail_if_success (iterate 23 (with_reducible exact Or.inr rfl))) | (with_reducible apply frame_foldl; intro _ _) | with_reducible apply frame_raise | with_reducible apply frame_loadRecipes | with_reducible apply frame_placeLoops | with_reducible apply frame_placeGeometry | (split) | (dsimp +zetaDelta only))

theorem frame_loadStep4 {M : Nat} {s0 s : State} (x1) (im) (hM : Nat.lor 1218449 M = M) (h0 : Frame M s0 s) : Frame M s0 (State.loadStep4 s x1 im) := by
  refine frame_trans (k := 1218449) ?_ hM h0
  unfold State.loadStep4
  repeat' (first | with_reducible exact frame_refl _ _ | with_reducible exact Or.inr rfl | exact Or.inl rfl | exact (rfl : Nat.lor _ _ = _) | with_reducible assumption | extract_lets | with_reducible apply frame_ite | with_reducible apply frame_next | (with_reducible apply frame_upd; with_reducible exact Or.inr rfl; fail_if_success (iterate 23 (with_reducible exact Or.inr rfl))) | (with_reducible apply frame_foldl; intro _ _) | with_reducible apply frame_setReg | with_reducible apply frame_setFld | with_reducible apply frame_raise | with_reducible apply frame_logSearch | with_reducible apply frame_loadAccounts | with_reducible apply frame_loadGo | with_reducible apply frame_placeCommon | (split) | (dsimp +zetaDelta only))

theorem frame_resumeStep4 {M : Nat} {s0 s : State} (hM : Nat.lor 2080767 M = M) (h0 : Frame M s0 s) : Frame M s0 (State.resumeStep4 s) := by
  refine frame_trans (k := 2080767) ?_ hM h0
  unfold State.resumeStep4
  repeat' (first | with_reducible exact frame_refl _ _ | with_reducible exact Or.inr rfl | exact Or.inl rfl | exact (rfl : Nat.lor _ _ = _) | with_reducible assumption | extract_lets | with_reducible apply frame_ite | with_reducible apply frame_next | (with_reducible apply frame_upd; with_reducible exact Or.inr rfl; fail_if_success (iterate 23 (with_reducible exact Or.inr rfl))) | (with_reducible apply frame_foldl; intro _ _) | with_reducible apply frame_loadFault | with_reducible apply frame_restorePlan | with_reducible apply frame_placeCommon | (split) | (dsimp +zetaDelta only))

theorem frame_loadStep5 {M : Nat} {s0 s : State} (hM : Nat.lor 137 M = M) (h0 : Frame M s0 s) : Frame M s0 (State.loadStep5 s) := by
  refine frame_trans (k := 137) ?_ hM h0
  unfold State.loadStep5
  repeat' (first | with_reducible exact frame_refl _ _ | with_reducible exact Or.inr rfl | exact Or.inl rfl | exact (rfl : Nat.lor _ _ = _) | with_reducible assumption | extract_lets | with_reducible apply frame_ite | with_reducible apply frame_next | (with_reducible apply frame_upd; with_reducible exact Or.inr rfl; fail_if_success (iterate 23 (with_reducible exact Or.inr rfl))) | (with_reducible apply frame_foldl; intro _ _) | with_reducible apply frame_setFld | with_reducible apply frame_setTarget | with_reducible apply frame_closeLoop | (split) | (dsimp +zetaDelta only))

theorem frame_loadStep6 {M : Nat} {s0 s : State} (im) (hM : Nat.lor 36369 M = M) (h0 : Frame M s0 s) : Frame M s0 (State.loadStep6 s im) := by
  refine frame_trans (k := 36369) ?_ hM h0
  unfold State.loadStep6
  repeat' (first | with_reducible exact frame_refl _ _ | with_reducible exact Or.inr rfl | exact Or.inl rfl | exact (rfl : Nat.lor _ _ = _) | with_reducible assumption | extract_lets | with_reducible apply frame_ite | with_reducible apply frame_next | (with_reducible apply frame_upd; with_reducible exact Or.inr rfl; fail_if_success (iterate 23 (with_reducible exact Or.inr rfl))) | (with_reducible apply frame_foldl; intro _ _) | with_reducible apply frame_loadPlans | with_reducible apply frame_wholeCredit | with_reducible apply frame_layAll | with_reducible apply frame_keepPlan | with_reducible apply frame_loadGo | (split) | (dsimp +zetaDelta only))

theorem frame_loadStep7 {M : Nat} {s0 s : State} (ids) (misfit) (hM : Nat.lor 40465 M = M) (h0 : Frame M s0 s) : Frame M s0 (State.loadStep7 s ids misfit) := by
  refine frame_trans (k := 40465) ?_ hM h0
  unfold State.loadStep7
  repeat' (first | with_reducible exact frame_refl _ _ | with_reducible exact Or.inr rfl | exact Or.inl rfl | exact (rfl : Nat.lor _ _ = _) | with_reducible assumption | extract_lets | with_reducible apply frame_ite | with_reducible apply frame_next | (with_reducible apply frame_upd; with_reducible exact Or.inr rfl; fail_if_success (iterate 23 (with_reducible exact Or.inr rfl))) | (with_reducible apply frame_foldl; intro _ _) | with_reducible apply frame_raise | with_reducible apply frame_failDie | (split) | (dsimp +zetaDelta only))

theorem frame_loadStep8 {M : Nat} {s0 s : State} (hM : Nat.lor 5633 M = M) (h0 : Frame M s0 s) : Frame M s0 (State.loadStep8 s) := by
  refine frame_trans (k := 5633) ?_ hM h0
  unfold State.loadStep8
  repeat' (first | with_reducible exact frame_refl _ _ | with_reducible exact Or.inr rfl | exact Or.inl rfl | exact (rfl : Nat.lor _ _ = _) | with_reducible assumption | extract_lets | with_reducible apply frame_ite | with_reducible apply frame_next | (with_reducible apply frame_upd; with_reducible exact Or.inr rfl; fail_if_success (iterate 23 (with_reducible exact Or.inr rfl))) | (with_reducible apply frame_foldl; intro _ _) | with_reducible apply frame_levelBit | with_reducible apply frame_syncExport | (split) | (dsimp +zetaDelta only))

theorem frame_applyEyes {M : Nat} {s0 s : State} (hM : Nat.lor 1 M = M) (h0 : Frame M s0 s) : Frame M s0 (State.applyEyes s) := by
  refine frame_trans (k := 1) ?_ hM h0
  unfold State.applyEyes
  repeat' (first | with_reducible exact frame_refl _ _ | with_reducible exact Or.inr rfl | exact Or.inl rfl | exact (rfl : Nat.lor _ _ = _) | with_reducible assumption | extract_lets | with_reducible apply frame_ite | with_reducible apply frame_next | (with_reducible apply frame_upd; with_reducible exact Or.inr rfl; fail_if_success (iterate 23 (with_reducible exact Or.inr rfl))) | (with_reducible apply frame_foldl; intro _ _) | with_reducible apply frame_setReg | (split) | (dsimp +zetaDelta only))

theorem frame_enterTrain {M : Nat} {s0 s : State} (hM : Nat.lor 1559 M = M) (h0 : Frame M s0 s) : Frame M s0 (State.enterTrain s) := by
  refine frame_trans (k := 1559) ?_ hM h0
  unfold State.enterTrain
  repeat' (first | with_reducible exact frame_refl _ _ | with_reducible exact Or.inr rfl | exact Or.inl rfl | exact (rfl : Nat.lor _ _ = _) | with_reducible assumption | extract_lets | with_reducible apply frame_ite | with_reducible apply frame_next | (with_reducible apply frame_upd; with_reducible exact Or.inr rfl; fail_if_success (iterate 23 (with_reducible exact Or.inr rfl))) | (with_reducible apply frame_foldl; intro _ _) | with_reducible apply frame_setFld | with_reducible apply frame_enter | with_reducible apply frame_phaseEnd | with_reducible apply frame_applyEyes | (split) | (dsimp +zetaDelta only))

theorem frame_execLoadStepComplete {s : State} (ids) (misfit) : FrameO 2080767 s (execLoadStepComplete ids misfit s) := by
  unfold execLoadStepComplete
  repeat' (first | with_reducible exact frame_refl _ _ | with_reducible exact Or.inr rfl | exact Or.inl rfl | exact (rfl : Nat.lor _ _ = _) | with_reducible assumption | extract_lets | with_reducible apply frame_ite | with_reducible apply frame_next | (with_reducible apply frame_upd; with_reducible exact Or.inr rfl; fail_if_success (iterate 23 (with_reducible exact Or.inr rfl))) | (with_reducible apply frame_foldl; intro _ _) | with_reducible apply frame_loadFault | with_reducible apply frame_syncExport | with_reducible apply frame_replay | with_reducible apply frame_loadGo | with_reducible apply frame_loadStep1 | with_reducible apply frame_loadStep3 | with_reducible apply frame_loadStep4 | with_reducible apply frame_resumeStep4 | with_reducible apply frame_loadStep5 | with_reducible apply frame_loadStep6 | with_reducible apply frame_loadStep7 | with_reducible apply frame_loadStep8 | with_reducible apply frame_enterTrain | (split) | (dsimp +zetaDelta only))

theorem frame_storeEye {M : Nat} {s0 s : State} (o) (w) (hM : Nat.lor 17 M = M) (h0 : Frame M s0 s) : Frame M s0 (State.storeEye s o w) := by
  refine frame_trans (k := 17) ?_ hM h0
  unfold State.storeEye
  repeat' (first | with_reducible exact frame_refl _ _ | with_reducible exact Or.inr rfl | exact Or.inl rfl | exact (rfl : Nat.lor _ _ = _) | with_reducible assumption | extract_lets | with_reducible apply frame_ite | with_reducible apply frame_next | (with_reducible apply frame_upd; with_reducible exact Or.inr rfl; fail_if_success (iterate 23 (with_reducible exact Or.inr rfl))) | (with_reducible apply frame_foldl; intro _ _) | with_reducible apply frame_setReg | (split) | (dsimp +zetaDelta only))

theorem frame_storeEyes {M : Nat} {s0 s : State} (level) (eyes) (hM : Nat.lor 17 M = M) (h0 : Frame M s0 s) : Frame M s0 (State.storeEyes s level eyes) := by
  refine frame_trans (k := 17) ?_ hM h0
  unfold State.storeEyes
  repeat' (first | with_reducible exact frame_refl _ _ | with_reducible exact Or.inr rfl | exact Or.inl rfl | exact (rfl : Nat.lor _ _ = _) | with_reducible assumption | extract_lets | with_reducible apply frame_ite | with_reducible apply frame_next | (with_reducible apply frame_upd; with_reducible exact Or.inr rfl; fail_if_success (iterate 23 (with_reducible exact Or.inr rfl))) | (with_reducible apply frame_foldl; intro _ _) | with_reducible apply frame_storeEye | (split) | (dsimp +zetaDelta only))

theorem frame_levelDone {M : Nat} {s0 s : State} (hM : Nat.lor 145 M = M) (h0 : Frame M s0 s) : Frame M s0 (State.levelDone s) := by
  refine frame_trans (k := 145) ?_ hM h0
  unfold State.levelDone
  repeat' (first | with_reducible exact frame_refl _ _ | with_reducible exact Or.inr rfl | exact Or.inl rfl | exact (rfl : Nat.lor _ _ = _) | with_reducible assumption | extract_lets | with_reducible apply frame_ite | with_reducible apply frame_next | (with_reducible apply frame_upd; with_reducible exact Or.inr rfl; fail_if_success (iterate 23 (with_reducible exact Or.inr rfl))) | (with_reducible apply frame_foldl; intro _ _) | with_reducible apply frame_setTarget | (split) | (dsimp +zetaDelta only))

theorem frame_execDdr5LevelSweepDone {s : State} (eyes) : FrameO 2080767 s (execDdr5LevelSweepDone eyes s) := by
  unfold execDdr5LevelSweepDone
  repeat' (first | with_reducible exact frame_refl _ _ | with_reducible exact Or.inr rfl | exact Or.inl rfl | exact (rfl : Nat.lor _ _ = _) | with_reducible assumption | extract_lets | with_reducible apply frame_ite | with_reducible apply frame_next | (with_reducible apply frame_upd; with_reducible exact Or.inr rfl; fail_if_success (iterate 23 (with_reducible exact Or.inr rfl))) | (with_reducible apply frame_foldl; intro _ _) | with_reducible apply frame_raise | with_reducible apply frame_toMaint | (with_reducible refine frame_trans (frame_sweep (by assumption)) ?_ ?_) | with_reducible apply frame_storeEyes | with_reducible apply frame_levelDone | (split) | (dsimp +zetaDelta only))

theorem frame_chDone {M : Nat} {s0 s : State} (c) (hM : Nat.lor 16 M = M) (h0 : Frame M s0 s) : Frame M s0 (State.chDone s c) := by
  refine frame_trans (k := 16) ?_ hM h0
  unfold State.chDone
  repeat' (first | with_reducible exact frame_refl _ _ | with_reducible exact Or.inr rfl | exact Or.inl rfl | exact (rfl : Nat.lor _ _ = _) | with_reducible assumption | extract_lets | with_reducible apply frame_ite | with_reducible apply frame_next | (with_reducible apply frame_upd; with_reducible exact Or.inr rfl; fail_if_success (iterate 23 (with_reducible exact Or.inr rfl))) | (with_reducible apply frame_foldl; intro _ _) | (split) | (dsimp +zetaDelta only))

theorem frame_execChannelSweepDone {s : State} (c) (rd) (wr) : FrameO 40465 s (execChannelSweepDone c rd wr s) := by
  unfold execChannelSweepDone
  repeat' (first | with_reducible exact frame_refl _ _ | with_reducible exact Or.inr rfl | exact Or.inl rfl | exact (rfl : Nat.lor _ _ = _) | with_reducible assumption | extract_lets | with_reducible apply frame_ite | with_reducible apply frame_next | (with_reducible apply frame_upd; with_reducible exact Or.inr rfl; fail_if_success (iterate 23 (with_reducible exact Or.inr rfl))) | (with_reducible apply frame_foldl; intro _ _) | with_reducible apply frame_raise | with_reducible apply frame_failDie | with_reducible apply frame_storeEye | with_reducible apply frame_chDone | (split) | (dsimp +zetaDelta only))

theorem frame_creditWait {M : Nat} {s0 s : State} (m) (c) (hM : Nat.lor 32768 M = M) (h0 : Frame M s0 s) : Frame M s0 (State.creditWait s m c) := by
  refine frame_trans (k := 32768) ?_ hM h0
  unfold State.creditWait
  repeat' (first | with_reducible exact frame_refl _ _ | with_reducible exact Or.inr rfl | exact Or.inl rfl | exact (rfl : Nat.lor _ _ = _) | with_reducible assumption | extract_lets | with_reducible apply frame_ite | with_reducible apply frame_next | (with_reducible apply frame_upd; with_reducible exact Or.inr rfl; fail_if_success (iterate 23 (with_reducible exact Or.inr rfl))) | (with_reducible apply frame_foldl; intro _ _) | (split) | (dsimp +zetaDelta only))

theorem frame_refillOne {M : Nat} {s0 s : State} (m) (hM : Nat.lor 34816 M = M) (h0 : Frame M s0 s) : Frame M s0 (State.refillOne s m) := by
  refine frame_trans (k := 34816) ?_ hM h0
  unfold State.refillOne
  repeat' (first | with_reducible exact frame_refl _ _ | with_reducible exact Or.inr rfl | exact Or.inl rfl | exact (rfl : Nat.lor _ _ = _) | with_reducible assumption | extract_lets | with_reducible apply frame_ite | with_reducible apply frame_next | (with_reducible apply frame_upd; with_reducible exact Or.inr rfl; fail_if_success (iterate 23 (with_reducible exact Or.inr rfl))) | (with_reducible apply frame_foldl; intro _ _) | with_reducible apply frame_setAcct | with_reducible apply frame_setCredit | with_reducible apply frame_creditWait | (split) | (dsimp +zetaDelta only))

theorem frame_refill {M : Nat} {s0 s : State} (hM : Nat.lor 43008 M = M) (h0 : Frame M s0 s) : Frame M s0 (State.refill s) := by
  refine frame_trans (k := 43008) ?_ hM h0
  unfold State.refill
  repeat' (first | with_reducible exact frame_refl _ _ | with_reducible exact Or.inr rfl | exact Or.inl rfl | exact (rfl : Nat.lor _ _ = _) | with_reducible assumption | extract_lets | with_reducible apply frame_ite | with_reducible apply frame_next | (with_reducible apply frame_upd; with_reducible exact Or.inr rfl; fail_if_success (iterate 23 (with_reducible exact Or.inr rfl))) | (with_reducible apply frame_foldl; intro _ _) | with_reducible apply frame_setShares | with_reducible apply frame_admitWrite | with_reducible apply frame_refillOne | (split) | (dsimp +zetaDelta only))

theorem frame_folioViews {M : Nat} {s0 s : State} (hM : Nat.lor 1 M = M) (h0 : Frame M s0 s) : Frame M s0 (State.folioViews s) := by
  refine frame_trans (k := 1) ?_ hM h0
  unfold State.folioViews
  repeat' (first | with_reducible exact frame_refl _ _ | with_reducible exact Or.inr rfl | exact Or.inl rfl | exact (rfl : Nat.lor _ _ = _) | with_reducible assumption | extract_lets | with_reducible apply frame_ite | with_reducible apply frame_next | (with_reducible apply frame_upd; with_reducible exact Or.inr rfl; fail_if_success (iterate 23 (with_reducible exact Or.inr rfl))) | (with_reducible apply frame_foldl; intro _ _) | with_reducible apply frame_setReg | (split) | (dsimp +zetaDelta only))

theorem frame_beginService {M : Nat} {s0 s : State} (hM : Nat.lor 2031543 M = M) (h0 : Frame M s0 s) : Frame M s0 (State.beginService s) := by
  refine frame_trans (k := 2031543) ?_ hM h0
  unfold State.beginService
  repeat' (first | with_reducible exact frame_refl _ _ | with_reducible exact Or.inr rfl | exact Or.inl rfl | exact (rfl : Nat.lor _ _ = _) | with_reducible assumption | extract_lets | with_reducible apply frame_ite | with_reducible apply frame_next | (with_reducible apply frame_upd; with_reducible exact Or.inr rfl; fail_if_success (iterate 23 (with_reducible exact Or.inr rfl))) | (with_reducible apply frame_foldl; intro _ _) | with_reducible apply frame_setReg | with_reducible apply frame_enter | with_reducible apply frame_updRestart | with_reducible apply frame_startEvent | with_reducible apply frame_phaseEnd | with_reducible apply frame_readyNow | with_reducible apply frame_kick | with_reducible apply frame_syncRail | with_reducible apply frame_syncPending | with_reducible apply frame_putVariant | with_reducible apply frame_computeCover | with_reducible apply frame_scheduleTests | with_reducible apply frame_throttleStep | with_reducible apply frame_refill | with_reducible apply frame_folioViews | (split) | (dsimp +zetaDelta only))

theorem frame_execSensorSelfCheckDone {s : State} : FrameO 2031543 s (execSensorSelfCheckDone s) := by
  unfold execSensorSelfCheckDone
  repeat' (first | with_reducible exact frame_refl _ _ | with_reducible exact Or.inr rfl | exact Or.inl rfl | exact (rfl : Nat.lor _ _ = _) | with_reducible assumption | extract_lets | with_reducible apply frame_ite | with_reducible apply frame_next | (with_reducible apply frame_upd; with_reducible exact Or.inr rfl; fail_if_success (iterate 23 (with_reducible exact Or.inr rfl))) | (with_reducible apply frame_foldl; intro _ _) | with_reducible apply frame_beginService | (split) | (dsimp +zetaDelta only))

theorem frame_setAuth {M : Nat} {s0 s : State} (p) (a) (hM : Nat.lor 1024 M = M) (h0 : Frame M s0 s) : Frame M s0 (State.setAuth s p a) := by
  refine frame_trans (k := 1024) ?_ hM h0
  unfold State.setAuth
  repeat' (first | with_reducible exact frame_refl _ _ | with_reducible exact Or.inr rfl | exact Or.inl rfl | exact (rfl : Nat.lor _ _ = _) | with_reducible assumption | extract_lets | with_reducible apply frame_ite | with_reducible apply frame_next | (with_reducible apply frame_upd; with_reducible exact Or.inr rfl; fail_if_success (iterate 23 (with_reducible exact Or.inr rfl))) | (with_reducible apply frame_foldl; intro _ _) | (split) | (dsimp +zetaDelta only))

theorem frame_issueNonce {M : Nat} {s0 s : State} (p) (hM : Nat.lor 4195328 M = M) (h0 : Frame M s0 s) : Frame M s0 (State.issueNonce s p).2 := by
  refine frame_trans (k := 4195328) ?_ hM h0
  unfold State.issueNonce
  repeat' (first | with_reducible exact frame_refl _ _ | with_reducible exact Or.inr rfl | exact Or.inl rfl | exact (rfl : Nat.lor _ _ = _) | with_reducible assumption | extract_lets | with_reducible apply frame_ite | with_reducible apply frame_next | (with_reducible apply frame_upd; with_reducible exact Or.inr rfl; fail_if_success (iterate 23 (with_reducible exact Or.inr rfl))) | (with_reducible apply frame_foldl; intro _ _) | with_reducible apply frame_setAuth | (split) | (dsimp +zetaDelta only))

theorem frame_issueNonce_eq {s : State} {p} {x} {t : State} (e : State.issueNonce s p = (x, t)) : Frame 4195328 s t := by
  have := frame_issueNonce (M := 4195328) (s := s) p rfl (frame_refl _ _)
  rw [e] at this
  exact this

theorem frame_authFailure {M : Nat} {s0 s : State} (p) (hM : Nat.lor 1024 M = M) (h0 : Frame M s0 s) : Frame M s0 (State.authFailure s p) := by
  refine frame_trans (k := 1024) ?_ hM h0
  unfold State.authFailure
  repeat' (first | with_reducible exact frame_refl _ _ | with_reducible exact Or.inr rfl | exact Or.inl rfl | exact (rfl : Nat.lor _ _ = _) | with_reducible assumption | extract_lets | with_reducible apply frame_ite | with_reducible apply frame_next | (with_reducible apply frame_upd; with_reducible exact Or.inr rfl; fail_if_success (iterate 23 (with_reducible exact Or.inr rfl))) | (with_reducible apply frame_foldl; intro _ _) | with_reducible apply frame_setAuth | (split) | (dsimp +zetaDelta only))

theorem frame_authorise {M : Nat} {s0 s : State} (p) (want) (a) (hM : Nat.lor 1537 M = M) (h0 : Frame M s0 s) : Frame M s0 (State.authorise s p want a).2 := by
  refine frame_trans (k := 1537) ?_ hM h0
  unfold State.authorise
  repeat' (first | with_reducible exact frame_refl _ _ | with_reducible exact Or.inr rfl | exact Or.inl rfl | exact (rfl : Nat.lor _ _ = _) | with_reducible assumption | extract_lets | with_reducible apply frame_ite | with_reducible apply frame_next | (with_reducible apply frame_upd; with_reducible exact Or.inr rfl; fail_if_success (iterate 23 (with_reducible exact Or.inr rfl))) | (with_reducible apply frame_foldl; intro _ _) | with_reducible apply frame_event | with_reducible apply frame_raise | with_reducible apply frame_setAuth | with_reducible apply frame_authFailure | (split) | (dsimp +zetaDelta only))

theorem frame_authorise_eq {s : State} {p} {want} {a} {x} {t : State} (e : State.authorise s p want a = (x, t)) : Frame 1537 s t := by
  have := frame_authorise (M := 1537) (s := s) p want a rfl (frame_refl _ _)
  rw [e] at this
  exact this

theorem frame_authReply {M : Nat} {s0 s : State} (v) (c) (hM : Nat.lor 34305 M = M) (h0 : Frame M s0 s) : Frame M s0 (State.authReply s v c) := by
  refine frame_trans (k := 34305) ?_ hM h0
  unfold State.authReply
  repeat' (first | with_reducible exact frame_refl _ _ | with_reducible exact Or.inr rfl | exact Or.inl rfl | exact (rfl : Nat.lor _ _ = _) | with_reducible assumption | extract_lets | with_reducible apply frame_ite | with_reducible apply frame_next | (with_reducible apply frame_upd; with_reducible exact Or.inr rfl; fail_if_success (iterate 23 (with_reducible exact Or.inr rfl))) | (with_reducible apply frame_foldl; intro _ _) | with_reducible apply frame_adminDone | with_reducible apply frame_miReply | (split) | (dsimp +zetaDelta only))

theorem frame_wakeBoundary {M : Nat} {s0 s : State} (hM : Nat.lor 1228543 M = M) (h0 : Frame M s0 s) : Frame M s0 (State.wakeBoundary s) := by
  refine frame_trans (k := 1228543) ?_ hM h0
  unfold State.wakeBoundary
  repeat' (first | with_reducible exact frame_refl _ _ | with_reducible exact Or.inr rfl | exact Or.inl rfl | exact (rfl : Nat.lor _ _ = _) | with_reducible assumption | extract_lets | with_reducible apply frame_ite | with_reducible apply frame_next | (with_reducible apply frame_upd; with_reducible exact Or.inr rfl; fail_if_success (iterate 23 (with_reducible exact Or.inr rfl))) | (with_reducible apply frame_foldl; intro _ _) | with_reducible apply frame_enter | with_reducible apply frame_syncBanks | with_reducible apply frame_switchPlan | (split) | (dsimp +zetaDelta only))

theorem frame_serviceAgain {M : Nat} {s0 s : State} (hM : Nat.lor 34359 M = M) (h0 : Frame M s0 s) : Frame M s0 (State.serviceAgain s) := by
  refine frame_trans (k := 34359) ?_ hM h0
  unfold State.serviceAgain
  repeat' (first | with_reducible exact frame_refl _ _ | with_reducible exact Or.inr rfl | exact Or.inl rfl | exact (rfl : Nat.lor _ _ = _) | with_reducible assumption | extract_lets | with_reducible apply frame_ite | with_reducible apply frame_next | (with_reducible apply frame_upd; with_reducible exact Or.inr rfl; fail_if_success (iterate 23 (with_reducible exact Or.inr rfl))) | (with_reducible apply frame_foldl; intro _ _) | with_reducible apply frame_setCtrl | with_reducible apply frame_enter | with_reducible apply frame_readyNow | (split) | (dsimp +zetaDelta only))

theorem frame_followThrottle {M : Nat} {s0 s : State} (hM : Nat.lor 1559 M = M) (h0 : Frame M s0 s) : Frame M s0 (State.followThrottle s) := by
  refine frame_trans (k := 1559) ?_ hM h0
  unfold State.followThrottle
  repeat' (first | with_reducible exact frame_refl _ _ | with_reducible exact Or.inr rfl | exact Or.inl rfl | exact (rfl : Nat.lor _ _ = _) | with_reducible assumption | extract_lets | with_reducible apply frame_ite | with_reducible apply frame_next | (with_reducible apply frame_upd; with_reducible exact Or.inr rfl; fail_if_success (iterate 23 (with_reducible exact Or.inr rfl))) | (with_reducible apply frame_foldl; intro _ _) | with_reducible apply frame_enter | (split) | (dsimp +zetaDelta only))

theorem frame_resumeWork {M : Nat} {s0 s : State} (hM : Nat.lor 2014721 M = M) (h0 : Frame M s0 s) : Frame M s0 (State.resumeWork s) := by
  refine frame_trans (k := 2014721) ?_ hM h0
  unfold State.resumeWork
  repeat' (first | with_reducible exact frame_refl _ _ | with_reducible exact Or.inr rfl | exact Or.inl rfl | exact (rfl : Nat.lor _ _ = _) | with_reducible assumption | extract_lets | with_reducible apply frame_ite | with_reducible apply frame_next | (with_reducible apply frame_upd; with_reducible exact Or.inr rfl; fail_if_success (iterate 23 (with_reducible exact Or.inr rfl))) | (with_reducible apply frame_foldl; intro _ _) | with_reducible apply frame_registerKick | with_reducible apply frame_kick | with_reducible apply frame_refill | with_reducible apply frame_folioViews | (split) | (dsimp +zetaDelta only))

theorem frame_execFolioBoundary {s : State} : FrameO 2097151 s (execFolioBoundary s) := by
  unfold execFolioBoundary
  repeat' (first | with_reducible exact frame_refl _ _ | with_reducible exact Or.inr rfl | exact Or.inl rfl | exact (rfl : Nat.lor _ _ = _) | with_reducible assumption | extract_lets | with_reducible apply frame_ite | with_reducible apply frame_next | (with_reducible apply frame_upd; with_reducible exact Or.inr rfl; fail_if_success (iterate 23 (with_reducible exact Or.inr rfl))) | (with_reducible apply frame_foldl; intro _ _) | with_reducible apply frame_switchPlan | with_reducible apply frame_sleepBoundary | with_reducible apply frame_countCool | with_reducible apply frame_wakeBoundary | with_reducible apply frame_serviceAgain | with_reducible apply frame_followThrottle | with_reducible apply frame_resumeWork | (split) | (dsimp +zetaDelta only))

theorem frame_shutdownPf {M : Nat} {s0 s : State} (shn) (hM : Nat.lor 50751 M = M) (h0 : Frame M s0 s) : Frame M s0 (State.shutdownPf s shn) := by
  refine frame_trans (k := 50751) ?_ hM h0
  unfold State.shutdownPf
  repeat' (first | with_reducible exact frame_refl _ _ | with_reducible exact Or.inr rfl | exact Or.inl rfl | exact (rfl : Nat.lor _ _ = _) | with_reducible assumption | extract_lets | with_reducible apply frame_ite | with_reducible apply frame_next | (with_reducible apply frame_upd; with_reducible exact Or.inr rfl; fail_if_success (iterate 23 (with_reducible exact Or.inr rfl))) | (with_reducible apply frame_foldl; intro _ _) | with_reducible apply frame_setCtrl | with_reducible apply frame_enterDrain | (split) | (dsimp +zetaDelta only))

theorem frame_execShutdownNotification {s : State} (shn) : FrameO 50751 s (execShutdownNotification shn s) := by
  unfold execShutdownNotification
  repeat' (first | with_reducible exact frame_refl _ _ | with_reducible exact Or.inr rfl | exact Or.inl rfl | exact (rfl : Nat.lor _ _ = _) | with_reducible assumption | extract_lets | with_reducible apply frame_ite | with_reducible apply frame_next | (with_reducible apply frame_upd; with_reducible exact Or.inr rfl; fail_if_success (iterate 23 (with_reducible exact Or.inr rfl))) | (with_reducible apply frame_foldl; intro _ _) | with_reducible apply frame_shutdownPf | (split) | (dsimp +zetaDelta only))

theorem frame_recordLost {M : Nat} {s0 s : State} (from_) (hM : Nat.lor 513 M = M) (h0 : Frame M s0 s) : Frame M s0 (State.recordLost s from_) := by
  refine frame_trans (k := 513) ?_ hM h0
  unfold State.recordLost
  repeat' (first | with_reducible exact frame_refl _ _ | with_reducible exact Or.inr rfl | exact Or.inl rfl | exact (rfl : Nat.lor _ _ = _) | with_reducible assumption | extract_lets | with_reducible apply frame_ite | with_reducible apply frame_next | (with_reducible apply frame_upd; with_reducible exact Or.inr rfl; fail_if_success (iterate 23 (with_reducible exact Or.inr rfl))) | (with_reducible apply frame_foldl; intro _ _) | with_reducible apply frame_event | (split) | (dsimp +zetaDelta only))

theorem frame_takeRestart {M : Nat} {s0 s : State} (why) (from_) (hM : Nat.lor 32 M = M) (h0 : Frame M s0 s) : Frame M s0 (State.takeRestart s why from_) := by
  refine frame_trans (k := 32) ?_ hM h0
  unfold State.takeRestart
  repeat' (first | with_reducible exact frame_refl _ _ | with_reducible exact Or.inr rfl | exact Or.inl rfl | exact (rfl : Nat.lor _ _ = _) | with_reducible assumption | extract_lets | with_reducible apply frame_ite | with_reducible apply frame_next | (with_reducible apply frame_upd; with_reducible exact Or.inr rfl; fail_if_success (iterate 23 (with_reducible exact Or.inr rfl))) | (with_reducible apply frame_foldl; intro _ _) | (split) | (dsimp +zetaDelta only))

theorem frame_restartRequest {M : Nat} {s0 s : State} (why) (c) (from_) (hM : Nat.lor 50751 M = M) (h0 : Frame M s0 s) : Frame M s0 (State.restartRequest s why c from_) := by
  refine frame_trans (k := 50751) ?_ hM h0
  unfold State.restartRequest
  repeat' (first | with_reducible exact frame_refl _ _ | with_reducible exact Or.inr rfl | exact Or.inl rfl | exact (rfl : Nat.lor _ _ = _) | with_reducible assumption | extract_lets | with_reducible apply frame_ite | with_reducible apply frame_next | (with_reducible apply frame_upd; with_reducible exact Or.inr rfl; fail_if_success (iterate 23 (with_reducible exact Or.inr rfl))) | (with_reducible apply frame_foldl; intro _ _) | with_reducible apply frame_enterDrain | with_reducible apply frame_recordLost | with_reducible apply frame_takeRestart | (split) | (dsimp +zetaDelta only))

theorem frame_execNssrWrite {s : State} (value) : FrameO 50751 s (execNssrWrite value s) := by
  unfold execNssrWrite
  repeat' (first | with_reducible exact frame_refl _ _ | with_reducible exact Or.inr rfl | exact Or.inl rfl | exact (rfl : Nat.lor _ _ = _) | with_reducible assumption | extract_lets | with_reducible apply frame_ite | with_reducible apply frame_next | (with_reducible apply frame_upd; with_reducible exact Or.inr rfl; fail_if_success (iterate 23 (with_reducible exact Or.inr rfl))) | (with_reducible apply frame_foldl; intro _ _) | with_reducible apply frame_restartRequest | (split) | (dsimp +zetaDelta only))

theorem frame_drainDone {M : Nat} {s0 s : State} (hM : Nat.lor 40992 M = M) (h0 : Frame M s0 s) : Frame M s0 (State.drainDone s) := by
  refine frame_trans (k := 40992) ?_ hM h0
  unfold State.drainDone
  repeat' (first | with_reducible exact frame_refl _ _ | with_reducible exact Or.inr rfl | exact Or.inl rfl | exact (rfl : Nat.lor _ _ = _) | with_reducible assumption | extract_lets | with_reducible apply frame_ite | with_reducible apply frame_next | (with_reducible apply frame_upd; with_reducible exact Or.inr rfl; fail_if_success (iterate 23 (with_reducible exact Or.inr rfl))) | (with_reducible apply frame_foldl; intro _ _) | with_reducible apply frame_setCtrl | with_reducible apply frame_showShst | with_reducible apply frame_writeArea | (split) | (dsimp +zetaDelta only))

theorem frame_execDrainComplete {s : State} : FrameO 6291455 s (execDrainComplete s) := by
  unfold execDrainComplete
  repeat' (first | with_reducible exact frame_refl _ _ | with_reducible exact Or.inr rfl | exact Or.inl rfl | exact (rfl : Nat.lor _ _ = _) | with_reducible assumption | extract_lets | with_reducible apply frame_ite | with_reducible apply frame_next | (with_reducible apply frame_upd; with_reducible exact Or.inr rfl; fail_if_success (iterate 23 (with_reducible exact Or.inr rfl))) | (with_reducible apply frame_foldl; intro _ _) | with_reducible apply frame_toStrap | with_reducible apply frame_toMaint | with_reducible apply frame_enterFlush | with_reducible apply frame_forceAll | with_reducible apply frame_drainDone | (split) | (dsimp +zetaDelta only))

theorem frame_execFlushComplete {s : State} : FrameO 2097151 s (execFlushComplete s) := by
  unfold execFlushComplete
  repeat' (first | with_reducible exact frame_refl _ _ | with_reducible exact Or.inr rfl | exact Or.inl rfl | exact (rfl : Nat.lor _ _ = _) | with_reducible assumption | extract_lets | with_reducible apply frame_ite | with_reducible apply frame_next | (with_reducible apply frame_upd; with_reducible exact Or.inr rfl; fail_if_success (iterate 23 (with_reducible exact Or.inr rfl))) | (with_reducible apply frame_foldl; intro _ _) | with_reducible apply frame_toOff | with_reducible apply frame_writeArea | (split) | (dsimp +zetaDelta only))

theorem frame_execMintedRead {s : State} (h) : FrameO 175617 s (execMintedRead h s) := by
  unfold execMintedRead
  repeat' (first | with_reducible exact frame_refl _ _ | with_reducible exact Or.inr rfl | exact Or.inl rfl | exact (rfl : Nat.lor _ _ = _) | with_reducible assumption | extract_lets | with_reducible apply frame_ite | with_reducible apply frame_next | (with_reducible apply frame_upd; with_reducible exact Or.inr rfl; fail_if_success (iterate 23 (with_reducible exact Or.inr rfl))) | (with_reducible apply frame_foldl; intro _ _) | with_reducible apply frame_setCmd | with_reducible apply frame_traceStart | with_reducible apply frame_toPost | with_reducible apply frame_denyKey | (split) | (dsimp +zetaDelta only))

theorem frame_execMintLaneGrant {s : State} (l) : FrameO 2014721 s (execMintLaneGrant l s) := by
  unfold execMintLaneGrant
  repeat' (first | with_reducible exact frame_refl _ _ | with_reducible exact Or.inr rfl | exact Or.inl rfl | exact (rfl : Nat.lor _ _ = _) | with_reducible assumption | extract_lets | with_reducible apply frame_ite | with_reducible apply frame_next | (with_reducible apply frame_upd; with_reducible exact Or.inr rfl; fail_if_success (iterate 23 (with_reducible exact Or.inr rfl))) | (with_reducible apply frame_foldl; intro _ _) | with_reducible apply frame_setCmd | with_reducible apply frame_setLane | with_reducible apply frame_registerKick | with_reducible apply frame_kick | (split) | (dsimp +zetaDelta only))

theorem frame_mintEnd {M : Nat} {s0 s : State} (l) (x2) (hM : Nat.lor 2014721 M = M) (h0 : Frame M s0 s) : Frame M s0 (State.mintEnd s l x2) := by
  refine frame_trans (k := 2014721) ?_ hM h0
  unfold State.mintEnd
  repeat' (first | with_reducible exact frame_refl _ _ | with_reducible exact Or.inr rfl | exact Or.inl rfl | exact (rfl : Nat.lor _ _ = _) | with_reducible assumption | extract_lets | with_reducible apply frame_ite | with_reducible apply frame_next | (with_reducible apply frame_upd; with_reducible exact Or.inr rfl; fail_if_success (iterate 23 (with_reducible exact Or.inr rfl))) | (with_reducible apply frame_foldl; intro _ _) | with_reducible apply frame_toPost | with_reducible apply frame_kick | with_reducible apply frame_freeLane | (split) | (dsimp +zetaDelta only))

theorem frame_execMintSetupEnd {s : State} (l) : FrameO 2014721 s (execMintSetupEnd l s) := by
  unfold execMintSetupEnd
  repeat' (first | with_reducible exact frame_refl _ _ | with_reducible exact Or.inr rfl | exact Or.inl rfl | exact (rfl : Nat.lor _ _ = _) | with_reducible assumption | extract_lets | with_reducible apply frame_ite | with_reducible apply frame_next | (with_reducible apply frame_upd; with_reducible exact Or.inr rfl; fail_if_success (iterate 23 (with_reducible exact Or.inr rfl))) | (with_reducible apply frame_foldl; intro _ _) | with_reducible apply frame_setLane | with_reducible apply frame_raise | with_reducible apply frame_mintEnd | (split) | (dsimp +zetaDelta only))

theorem frame_execSectorConsume {s : State} (l) (sealOk) (conforms) (seg) (out) : FrameO 2014721 s (execSectorConsume l sealOk conforms seg out s) := by
  unfold execSectorConsume
  repeat' (first | with_reducible exact frame_refl _ _ | with_reducible exact Or.inr rfl | exact Or.inl rfl | exact (rfl : Nat.lor _ _ = _) | with_reducible assumption | extract_lets | with_reducible apply frame_ite | with_reducible apply frame_next | (with_reducible apply frame_upd; with_reducible exact Or.inr rfl; fail_if_success (iterate 23 (with_reducible exact Or.inr rfl))) | (with_reducible apply frame_foldl; intro _ _) | with_reducible apply frame_setLane | with_reducible apply frame_raise | with_reducible apply frame_addBlocks | with_reducible apply frame_stamp | with_reducible apply frame_setSec | with_reducible apply frame_registerKick | with_reducible apply frame_failDecode | with_reducible apply frame_mintEnd | (split) | (dsimp +zetaDelta only))

theorem frame_mintDone {M : Nat} {s0 s : State} (l) (hM : Nat.lor 2014721 M = M) (h0 : Frame M s0 s) : Frame M s0 (State.mintDone s l) := by
  refine frame_trans (k := 2014721) ?_ hM h0
  unfold State.mintDone
  repeat' (first | with_reducible exact frame_refl _ _ | with_reducible exact Or.inr rfl | exact Or.inl rfl | exact (rfl : Nat.lor _ _ = _) | with_reducible assumption | extract_lets | with_reducible apply frame_ite | with_reducible apply frame_next | (with_reducible apply frame_upd; with_reducible exact Or.inr rfl; fail_if_success (iterate 23 (with_reducible exact Or.inr rfl))) | (with_reducible apply frame_foldl; intro _ _) | with_reducible apply frame_mintEnd | (split) | (dsimp +zetaDelta only))

theorem frame_execMintChunkTurn {s : State} (l) (room) (pages) : FrameO 6209025 s (execMintChunkTurn l room pages s) := by
  unfold execMintChunkTurn
  repeat' (first | with_reducible exact frame_refl _ _ | with_reducible exact Or.inr rfl | exact Or.inl rfl | exact (rfl : Nat.lor _ _ = _) | with_reducible assumption | extract_lets | with_reducible apply frame_ite | with_reducible apply frame_next | (with_reducible apply frame_upd; with_reducible exact Or.inr rfl; fail_if_success (iterate 23 (with_reducible exact Or.inr rfl))) | (with_reducible apply frame_foldl; intro _ _) | (with_reducible refine frame_trans (frame_freeBytes_eq (by assumption)) ?_ ?_) | with_reducible apply frame_freeBytes | with_reducible apply frame_dataToHost | with_reducible apply frame_setCmd | with_reducible apply frame_setLane | with_reducible apply frame_raise | with_reducible apply frame_stampAt | with_reducible apply frame_dlogWrite | with_reducible apply frame_mintEnd | with_reducible apply frame_mintDone | (split) | (dsimp +zetaDelta only))

theorem frame_execMintLaneEnd {s : State} (l) : FrameO 2014721 s (execMintLaneEnd l s) := by
  unfold execMintLaneEnd
  repeat' (first | with_reducible exact frame_refl _ _ | with_reducible exact Or.inr rfl | exact Or.inl rfl | exact (rfl : Nat.lor _ _ = _) | with_reducible assumption | extract_lets | with_reducible apply frame_ite | with_reducible apply frame_next | (with_reducible apply frame_upd; with_reducible exact Or.inr rfl; fail_if_success (iterate 23 (with_reducible exact Or.inr rfl))) | (with_reducible apply frame_foldl; intro _ _) | with_reducible apply frame_setLane | with_reducible apply frame_stamp | with_reducible apply frame_mintDone | (split) | (dsimp +zetaDelta only))

theorem frame_stageFails {M : Nat} {s0 s : State} (h) (i) (c) (x4) (hM : Nat.lor 179713 M = M) (h0 : Frame M s0 s) : Frame M s0 (State.stageFails s h i c x4) := by
  refine frame_trans (k := 179713) ?_ hM h0
  unfold State.stageFails
  repeat' (first | with_reducible exact frame_refl _ _ | with_reducible exact Or.inr rfl | exact Or.inl rfl | exact (rfl : Nat.lor _ _ = _) | with_reducible assumption | extract_lets | with_reducible apply frame_ite | with_reducible apply frame_next | (with_reducible apply frame_upd; with_reducible exact Or.inr rfl; fail_if_success (iterate 23 (with_reducible exact Or.inr rfl))) | (with_reducible apply frame_foldl; intro _ _) | with_reducible apply frame_setCmd | with_reducible apply frame_setSec | with_reducible apply frame_endWrite | with_reducible apply frame_readKick | (split) | (dsimp +zetaDelta only))

theorem frame_execCrossingFault {s : State} (h) (i) : FrameO 2014721 s (execCrossingFault h i s) := by
  unfold execCrossingFault
  repeat' (first | with_reducible exact frame_refl _ _ | with_reducible exact Or.inr rfl | exact Or.inl rfl | exact (rfl : Nat.lor _ _ = _) | with_reducible assumption | extract_lets | with_reducible apply frame_ite | with_reducible apply frame_next | (with_reducible apply frame_upd; with_reducible exact Or.inr rfl; fail_if_success (iterate 23 (with_reducible exact Or.inr rfl))) | (with_reducible apply frame_foldl; intro _ _) | with_reducible apply frame_endWrite | with_reducible apply frame_kick | with_reducible apply frame_failDecode | with_reducible apply frame_mintEnd | with_reducible apply frame_stageFails | (split) | (dsimp +zetaDelta only))

theorem frame_lostCycle {M : Nat} {s0 s : State} (x1) (addr) (port) (hM : Nat.lor 1 M = M) (h0 : Frame M s0 s) : Frame M s0 (State.lostCycle s x1 addr port) := by
  refine frame_trans (k := 1) ?_ hM h0
  unfold State.lostCycle
  repeat' (first | with_reducible exact frame_refl _ _ | with_reducible exact Or.inr rfl | exact Or.inl rfl | exact (rfl : Nat.lor _ _ = _) | with_reducible assumption | extract_lets | with_reducible apply frame_ite | with_reducible apply frame_next | (with_reducible apply frame_upd; with_reducible exact Or.inr rfl; fail_if_success (iterate 23 (with_reducible exact Or.inr rfl))) | (with_reducible apply frame_foldl; intro _ _) | with_reducible apply frame_countFld | (split) | (dsimp +zetaDelta only))

theorem frame_xbarServe {M : Nat} {s0 s : State} (x1) (addr) (ports) (a) (hM : Nat.lor 65537 M = M) (h0 : Frame M s0 s) : Frame M s0 (State.xbarServe s x1 addr ports a) := by
  refine frame_trans (k := 65537) ?_ hM h0
  clear hM h0
  induction a generalizing s x1 addr ports with
  | zero =>
    unfold State.xbarServe
    exact frame_refl _ _
  | succ _ ih =>
    unfold State.xbarServe
    repeat' (first | with_reducible exact frame_refl _ _ | with_reducible exact Or.inr rfl | exact Or.inl rfl | exact (rfl : Nat.lor _ _ = _) | with_reducible assumption | extract_lets | with_reducible apply frame_ite | with_reducible apply frame_next | (with_reducible apply frame_upd; with_reducible exact Or.inr rfl; fail_if_success (iterate 23 (with_reducible exact Or.inr rfl))) | (with_reducible apply frame_foldl; intro _ _) | (with_reducible refine frame_trans (ih _ _ _) ?_ ?_) | with_reducible apply frame_lostCycle | (split) | (dsimp +zetaDelta only))

theorem frame_execCrossbarRefusal {s : State} (ask) (target) (write) (addr) : FrameO 65537 s (execCrossbarRefusal ask target write addr s) := by
  unfold execCrossbarRefusal
  repeat' (first | with_reducible exact frame_refl _ _ | with_reducible exact Or.inr rfl | exact Or.inl rfl | exact (rfl : Nat.lor _ _ = _) | with_reducible assumption | extract_lets | with_reducible apply frame_ite | with_reducible apply frame_next | (with_reducible apply frame_upd; with_reducible exact Or.inr rfl; fail_if_success (iterate 23 (with_reducible exact Or.inr rfl))) | (with_reducible apply frame_foldl; intro _ _) | with_reducible apply frame_xbarServe | (split) | (dsimp +zetaDelta only))

theorem frame_beginEgress {M : Nat} {s0 s : State} (h) (i) (c) (x4) (since) (hM : Nat.lor 557056 M = M) (h0 : Frame M s0 s) : Frame M s0 (State.beginEgress s h i c x4 since) := by
  refine frame_trans (k := 557056) ?_ hM h0
  unfold State.beginEgress
  repeat' (first | with_reducible exact frame_refl _ _ | with_reducible exact Or.inr rfl | exact Or.inl rfl | exact (rfl : Nat.lor _ _ = _) | with_reducible assumption | extract_lets | with_reducible apply frame_ite | with_reducible apply frame_next | (with_reducible apply frame_upd; with_reducible exact Or.inr rfl; fail_if_success (iterate 23 (with_reducible exact Or.inr rfl))) | (with_reducible apply frame_foldl; intro _ _) | with_reducible apply frame_setCmd | with_reducible apply frame_setSec | with_reducible apply frame_rateTake | (split) | (dsimp +zetaDelta only))

theorem frame_execEgressSlotStart {s : State} (h) (i) (guardOk) : FrameO 699937 s (execEgressSlotStart h i guardOk s) := by
  unfold execEgressSlotStart
  repeat' (first | with_reducible exact frame_refl _ _ | with_reducible exact Or.inr rfl | exact Or.inl rfl | exact (rfl : Nat.lor _ _ = _) | with_reducible assumption | extract_lets | with_reducible apply frame_ite | with_reducible apply frame_next | (with_reducible apply frame_upd; with_reducible exact Or.inr rfl; fail_if_success (iterate 23 (with_reducible exact Or.inr rfl))) | (with_reducible apply frame_foldl; intro _ _) | with_reducible apply frame_tickTo | with_reducible apply frame_setCmd | with_reducible apply frame_setSec | with_reducible apply frame_readKick | with_reducible apply frame_beginEgress | (split) | (dsimp +zetaDelta only))

theorem frame_execZeroReadEgress {s : State} (h) (i) : FrameO 559104 s (execZeroReadEgress h i s) := by
  unfold execZeroReadEgress
  repeat' (first | with_reducible exact frame_refl _ _ | with_reducible exact Or.inr rfl | exact Or.inl rfl | exact (rfl : Nat.lor _ _ = _) | with_reducible assumption | extract_lets | with_reducible apply frame_ite | with_reducible apply frame_next | (with_reducible apply frame_upd; with_reducible exact Or.inr rfl; fail_if_success (iterate 23 (with_reducible exact Or.inr rfl))) | (with_reducible apply frame_foldl; intro _ _) | with_reducible apply frame_charge | with_reducible apply frame_beginEgress | (split) | (dsimp +zetaDelta only))

theorem frame_setPair {M : Nat} {s0 s : State} (lo) (hi) (v) (hM : Nat.lor 1 M = M) (h0 : Frame M s0 s) : Frame M s0 (State.setPair s lo hi v) := by
  refine frame_trans (k := 1) ?_ hM h0
  unfold State.setPair
  repeat' (first | with_reducible exact frame_refl _ _ | with_reducible exact Or.inr rfl | exact Or.inl rfl | exact (rfl : Nat.lor _ _ = _) | with_reducible assumption | extract_lets | with_reducible apply frame_ite | with_reducible apply frame_next | (with_reducible apply frame_upd; with_reducible exact Or.inr rfl; fail_if_success (iterate 23 (with_reducible exact Or.inr rfl))) | (with_reducible apply frame_foldl; intro _ _) | with_reducible apply frame_setReg | (split) | (dsimp +zetaDelta only))

theorem frame_chState {M : Nat} {s0 s : State} (ch) (st) (hM : Nat.lor 65537 M = M) (h0 : Frame M s0 s) : Frame M s0 (State.chState s ch st) := by
  refine frame_trans (k := 65537) ?_ hM h0
  unfold State.chState
  repeat' (first | with_reducible exact frame_refl _ _ | with_reducible exact Or.inr rfl | exact Or.inl rfl | exact (rfl : Nat.lor _ _ = _) | with_reducible assumption | extract_lets | with_reducible apply frame_ite | with_reducible apply frame_next | (with_reducible apply frame_upd; with_reducible exact Or.inr rfl; fail_if_success (iterate 23 (with_reducible exact Or.inr rfl))) | (with_reducible apply frame_foldl; intro _ _) | with_reducible apply frame_setFld | with_reducible apply frame_setChain | (split) | (dsimp +zetaDelta only))

theorem frame_putRecord {M : Nat} {s0 s : State} (ch) (r) (hM : Nat.lor 67073 M = M) (h0 : Frame M s0 s) : Frame M s0 (State.putRecord s ch r) := by
  refine frame_trans (k := 67073) ?_ hM h0
  unfold State.putRecord
  extract_lets tail base c bs _ s1 next s2 _ s3
  have h1 : Frame 67073 s s1 := by
    unfold s1
    generalize memWriteAll _ _ _ _ = x
    repeat' (first | with_reducible exact frame_refl _ _ | (with_reducible apply frame_upd; with_reducible exact Or.inr rfl; fail_if_success (iterate 23 (with_reducible exact Or.inr rfl))) | with_reducible exact Or.inr rfl | exact Or.inl rfl | exact (rfl : Nat.lor _ _ = _))
  have h2 : Frame 67073 s s2 := frame_setFld _ _ _ _ rfl h1
  have h3 : Frame 67073 s s3 := frame_ite (frame_setChain _ _ rfl h2) h2
  exact frame_ite (frame_raise _ _ rfl h3) h3

theorem frame_chainHalt {M : Nat} {s0 s : State} (ch) (status) (side) (addr) (hM : Nat.lor 67073 M = M) (h0 : Frame M s0 s) : Frame M s0 (State.chainHalt s ch status side addr) := by
  refine frame_trans (k := 67073) ?_ hM h0
  unfold State.chainHalt
  repeat' (first | with_reducible exact frame_refl _ _ | with_reducible exact Or.inr rfl | exact Or.inl rfl | exact (rfl : Nat.lor _ _ = _) | with_reducible assumption | extract_lets | with_reducible apply frame_ite | with_reducible apply frame_next | (with_reducible apply frame_upd; with_reducible exact Or.inr rfl; fail_if_success (iterate 23 (with_reducible exact Or.inr rfl))) | (with_reducible apply frame_foldl; intro _ _) | with_reducible apply frame_setReg | with_reducible apply frame_setFld | with_reducible apply frame_setChain | with_reducible apply frame_raise | with_reducible apply frame_setPair | with_reducible apply frame_chState | with_reducible apply frame_putRecord | (split) | (dsimp +zetaDelta only))

theorem frame_fetchDesc {M : Nat} {s0 s : State} (ch) (addr) (hM : Nat.lor 67073 M = M) (h0 : Frame M s0 s) : Frame M s0 (State.fetchDesc s ch addr) := by
  refine frame_trans (k := 67073) ?_ hM h0
  unfold State.fetchDesc
  repeat' (first | with_reducible exact frame_refl _ _ | with_reducible exact Or.inr rfl | exact Or.inl rfl | exact (rfl : Nat.lor _ _ = _) | with_reducible assumption | extract_lets | with_reducible apply frame_ite | with_reducible apply frame_next | (with_reducible apply frame_upd; with_reducible exact Or.inr rfl; fail_if_success (iterate 23 (with_reducible exact Or.inr rfl))) | (with_reducible apply frame_foldl; intro _ _) | with_reducible apply frame_setChain | with_reducible apply frame_chState | with_reducible apply frame_chainHalt | (split) | (dsimp +zetaDelta only))

theorem frame_chainNext {M : Nat} {s0 s : State} (ch) (hM : Nat.lor 67073 M = M) (h0 : Frame M s0 s) : Frame M s0 (State.chainNext s ch) := by
  refine frame_trans (k := 67073) ?_ hM h0
  unfold State.chainNext
  repeat' (first | with_reducible exact frame_refl _ _ | with_reducible exact Or.inr rfl | exact Or.inl rfl | exact (rfl : Nat.lor _ _ = _) | with_reducible assumption | extract_lets | with_reducible apply frame_ite | with_reducible apply frame_next | (with_reducible apply frame_upd; with_reducible exact Or.inr rfl; fail_if_success (iterate 23 (with_reducible exact Or.inr rfl))) | (with_reducible apply frame_foldl; intro _ _) | with_reducible apply frame_setChain | with_reducible apply frame_chState | with_reducible apply frame_fetchDesc | (split) | (dsimp +zetaDelta only))

theorem frame_consume {M : Nat} {s0 s : State} (ch) (hM : Nat.lor 1 M = M) (h0 : Frame M s0 s) : Frame M s0 (State.consume s ch) := by
  refine frame_trans (k := 1) ?_ hM h0
  unfold State.consume
  repeat' (first | with_reducible exact frame_refl _ _ | with_reducible exact Or.inr rfl | exact Or.inl rfl | exact (rfl : Nat.lor _ _ = _) | with_reducible assumption | extract_lets | with_reducible apply frame_ite | with_reducible apply frame_next | (with_reducible apply frame_upd; with_reducible exact Or.inr rfl; fail_if_success (iterate 23 (with_reducible exact Or.inr rfl))) | (with_reducible apply frame_foldl; intro _ _) | with_reducible apply frame_setReg | with_reducible apply frame_setPair | (split) | (dsimp +zetaDelta only))

theorem frame_descEnd {M : Nat} {s0 s : State} (ch) (status) (fenced) (hM : Nat.lor 67073 M = M) (h0 : Frame M s0 s) : Frame M s0 (State.descEnd s ch status fenced) := by
  refine frame_trans (k := 67073) ?_ hM h0
  unfold State.descEnd
  repeat' (first | with_reducible exact frame_refl _ _ | with_reducible exact Or.inr rfl | exact Or.inl rfl | exact (rfl : Nat.lor _ _ = _) | with_reducible assumption | extract_lets | with_reducible apply frame_ite | with_reducible apply frame_next | (with_reducible apply frame_upd; with_reducible exact Or.inr rfl; fail_if_success (iterate 23 (with_reducible exact Or.inr rfl))) | (with_reducible apply frame_foldl; intro _ _) | with_reducible apply frame_setChain | with_reducible apply frame_putRecord | with_reducible apply frame_chainNext | with_reducible apply frame_consume | (split) | (dsimp +zetaDelta only))

theorem frame_moveBytes {M : Nat} {s0 s : State} (ch) (d) (n) (hM : Nat.lor 65536 M = M) (h0 : Frame M s0 s) : Frame M s0 (State.moveBytes s ch d n) := by
  refine frame_trans (k := 65536) ?_ hM h0
  unfold State.moveBytes
  repeat' (first | with_reducible exact frame_refl _ _ | with_reducible exact Or.inr rfl | exact Or.inl rfl | exact (rfl : Nat.lor _ _ = _) | with_reducible assumption | extract_lets | with_reducible apply frame_ite | with_reducible apply frame_next | (with_reducible apply frame_upd; with_reducible exact Or.inr rfl; fail_if_success (iterate 23 (with_reducible exact Or.inr rfl))) | (with_reducible apply frame_foldl; intro _ _) | with_reducible apply frame_setChain | (split) | (dsimp +zetaDelta only))

theorem frame_touchDram {M : Nat} {s0 s : State} (space) (addr) (hM : Nat.lor 131072 M = M) (h0 : Frame M s0 s) : Frame M s0 (State.touchDram s space addr) := by
  refine frame_trans (k := 131072) ?_ hM h0
  unfold State.touchDram
  repeat' (first | with_reducible exact frame_refl _ _ | with_reducible exact Or.inr rfl | exact Or.inl rfl | exact (rfl : Nat.lor _ _ = _) | with_reducible assumption | extract_lets | with_reducible apply frame_ite | with_reducible apply frame_next | (with_reducible apply frame_upd; with_reducible exact Or.inr rfl; fail_if_success (iterate 23 (with_reducible exact Or.inr rfl))) | (with_reducible apply frame_foldl; intro _ _) | with_reducible apply frame_openRow | (split) | (dsimp +zetaDelta only))

theorem frame_runMove {M : Nat} {s0 s : State} (ch) (op) (err) (hM : Nat.lor 198145 M = M) (h0 : Frame M s0 s) : Frame M s0 (State.runMove s ch op err) := by
  refine frame_trans (k := 198145) ?_ hM h0
  unfold State.runMove
  repeat' (first | with_reducible exact frame_refl _ _ | with_reducible exact Or.inr rfl | exact Or.inl rfl | exact (rfl : Nat.lor _ _ = _) | with_reducible assumption | extract_lets | with_reducible apply frame_ite | with_reducible apply frame_next | (with_reducible apply frame_upd; with_reducible exact Or.inr rfl; fail_if_success (iterate 23 (with_reducible exact Or.inr rfl))) | (with_reducible apply frame_foldl; intro _ _) | with_reducible apply frame_chainHalt | with_reducible apply frame_descEnd | with_reducible apply frame_moveBytes | with_reducible apply frame_touchDram | (split) | (dsimp +zetaDelta only))

theorem frame_linkReturn {M : Nat} {s0 s : State} (ch) (hM : Nat.lor 67073 M = M) (h0 : Frame M s0 s) : Frame M s0 (State.linkReturn s ch) := by
  refine frame_trans (k := 67073) ?_ hM h0
  unfold State.linkReturn
  repeat' (first | with_reducible exact frame_refl _ _ | with_reducible exact Or.inr rfl | exact Or.inl rfl | exact (rfl : Nat.lor _ _ = _) | with_reducible assumption | extract_lets | with_reducible apply frame_ite | with_reducible apply frame_next | (with_reducible apply frame_upd; with_reducible exact Or.inr rfl; fail_if_success (iterate 23 (with_reducible exact Or.inr rfl))) | (with_reducible apply frame_foldl; intro _ _) | with_reducible apply frame_setChain | with_reducible apply frame_chState | with_reducible apply frame_chainHalt | with_reducible apply frame_fetchDesc | (split) | (dsimp +zetaDelta only))

theorem frame_chainRestart {M : Nat} {s0 s : State} (ch) (action) (hM : Nat.lor 67073 M = M) (h0 : Frame M s0 s) : Frame M s0 (State.chainRestart s ch action) := by
  refine frame_trans (k := 67073) ?_ hM h0
  unfold State.chainRestart
  repeat' (first | with_reducible exact frame_refl _ _ | with_reducible exact Or.inr rfl | exact Or.inl rfl | exact (rfl : Nat.lor _ _ = _) | with_reducible assumption | extract_lets | with_reducible apply frame_ite | with_reducible apply frame_next | (with_reducible apply frame_upd; with_reducible exact Or.inr rfl; fail_if_success (iterate 23 (with_reducible exact Or.inr rfl))) | (with_reducible apply frame_foldl; intro _ _) | with_reducible apply frame_setReg | with_reducible apply frame_setChain | with_reducible apply frame_chState | with_reducible apply frame_fetchDesc | with_reducible apply frame_chainNext | with_reducible apply frame_consume | (split) | (dsimp +zetaDelta only))

theorem frame_ownerWrites {M : Nat} {s0 s : State} (ws) (hM : Nat.lor 65536 M = M) (h0 : Frame M s0 s) : Frame M s0 (State.ownerWrites s ws) := by
  refine frame_trans (k := 65536) ?_ hM h0
  unfold State.ownerWrites
  repeat' (first | with_reducible exact frame_refl _ _ | with_reducible exact Or.inr rfl | exact Or.inl rfl | exact (rfl : Nat.lor _ _ = _) | with_reducible assumption | extract_lets | with_reducible apply frame_ite | with_reducible apply frame_next | (with_reducible apply frame_upd; with_reducible exact Or.inr rfl; fail_if_success (iterate 23 (with_reducible exact Or.inr rfl))) | (with_reducible apply frame_foldl; intro _ _) | (split) | (dsimp +zetaDelta only))

theorem frame_chainStart {M : Nat} {s0 s : State} (ch) (hM : Nat.lor 198145 M = M) (h0 : Frame M s0 s) : Frame M s0 (State.chainStart s ch) := by
  refine frame_trans (k := 198145) ?_ hM h0
  unfold State.chainStart
  repeat' (first | with_reducible exact frame_refl _ _ | with_reducible exact Or.inr rfl | exact Or.inl rfl | exact (rfl : Nat.lor _ _ = _) | with_reducible assumption | extract_lets | with_reducible apply frame_ite | with_reducible apply frame_next | (with_reducible apply frame_upd; with_reducible exact Or.inr rfl; fail_if_success (iterate 23 (with_reducible exact Or.inr rfl))) | (with_reducible apply frame_foldl; intro _ _) | with_reducible apply frame_wakeBank | with_reducible apply frame_fetchDesc | (split) | (dsimp +zetaDelta only))

theorem frame_runRises {M : Nat} {s0 s : State} (ch) (hM : Nat.lor 198145 M = M) (h0 : Frame M s0 s) : Frame M s0 (State.runRises s ch) := by
  refine frame_trans (k := 198145) ?_ hM h0
  unfold State.runRises
  repeat' (first | with_reducible exact frame_refl _ _ | with_reducible exact Or.inr rfl | exact Or.inl rfl | exact (rfl : Nat.lor _ _ = _) | with_reducible assumption | extract_lets | with_reducible apply frame_ite | with_reducible apply frame_next | (with_reducible apply frame_upd; with_reducible exact Or.inr rfl; fail_if_success (iterate 23 (with_reducible exact Or.inr rfl))) | (with_reducible apply frame_foldl; intro _ _) | with_reducible apply frame_chainStart | (split) | (dsimp +zetaDelta only))

theorem frame_execChainRun {s : State} (who) (ch) (writes) : FrameO 198145 s (execChainRun who ch writes s) := by
  unfold execChainRun
  repeat' (first | with_reducible exact frame_refl _ _ | with_reducible exact Or.inr rfl | exact Or.inl rfl | exact (rfl : Nat.lor _ _ = _) | with_reducible assumption | extract_lets | with_reducible apply frame_ite | with_reducible apply frame_next | (with_reducible apply frame_upd; with_reducible exact Or.inr rfl; fail_if_success (iterate 23 (with_reducible exact Or.inr rfl))) | (with_reducible apply frame_foldl; intro _ _) | with_reducible apply frame_setFld | with_reducible apply frame_ownerWrites | with_reducible apply frame_runRises | (split) | (dsimp +zetaDelta only))

theorem frame_execAppendCountWrite {s : State} (who) (ch) (count) (writes) : FrameO 198145 s (execAppendCountWrite who ch count writes s) := by
  unfold execAppendCountWrite
  repeat' (first | with_reducible exact frame_refl _ _ | with_reducible exact Or.inr rfl | exact Or.inl rfl | exact (rfl : Nat.lor _ _ = _) | with_reducible assumption | extract_lets | with_reducible apply frame_ite | with_reducible apply frame_next | (with_reducible apply frame_upd; with_reducible exact Or.inr rfl; fail_if_success (iterate 23 (with_reducible exact Or.inr rfl))) | (with_reducible apply frame_foldl; intro _ _) | with_reducible apply frame_setReg | with_reducible apply frame_setChain | with_reducible apply frame_ownerWrites | with_reducible apply frame_chainStart | (split) | (dsimp +zetaDelta only))

theorem frame_execDescriptorCopy {s : State} (ch) (err) : FrameO 198145 s (execDescriptorCopy ch err s) := by
  unfold execDescriptorCopy
  repeat' (first | with_reducible exact frame_refl _ _ | with_reducible exact Or.inr rfl | exact Or.inl rfl | exact (rfl : Nat.lor _ _ = _) | with_reducible assumption | extract_lets | with_reducible apply frame_ite | with_reducible apply frame_next | (with_reducible apply frame_upd; with_reducible exact Or.inr rfl; fail_if_success (iterate 23 (with_reducible exact Or.inr rfl))) | (with_reducible apply frame_foldl; intro _ _) | with_reducible apply frame_runMove | (split) | (dsimp +zetaDelta only))

theorem frame_execDescriptorFill {s : State} (ch) (err) : FrameO 198145 s (execDescriptorFill ch err s) := by
  unfold execDescriptorFill
  repeat' (first | with_reducible exact frame_refl _ _ | with_reducible exact Or.inr rfl | exact Or.inl rfl | exact (rfl : Nat.lor _ _ = _) | with_reducible assumption | extract_lets | with_reducible apply frame_ite | with_reducible apply frame_next | (with_reducible apply frame_upd; with_reducible exact Or.inr rfl; fail_if_success (iterate 23 (with_reducible exact Or.inr rfl))) | (with_reducible apply frame_foldl; intro _ _) | with_reducible apply frame_runMove | (split) | (dsimp +zetaDelta only))

theorem frame_execFence {s : State} (ch) (err) : FrameO 198145 s (execFence ch err s) := by
  unfold execFence
  repeat' (first | with_reducible exact frame_refl _ _ | with_reducible exact Or.inr rfl | exact Or.inl rfl | exact (rfl : Nat.lor _ _ = _) | with_reducible assumption | extract_lets | with_reducible apply frame_ite | with_reducible apply frame_next | (with_reducible apply frame_upd; with_reducible exact Or.inr rfl; fail_if_success (iterate 23 (with_reducible exact Or.inr rfl))) | (with_reducible apply frame_foldl; intro _ _) | with_reducible apply frame_setChain | with_reducible apply frame_chainHalt | with_reducible apply frame_descEnd | (split) | (dsimp +zetaDelta only))

theorem frame_execLinkReadReturn {s : State} (ch) (err) : FrameO 67073 s (execLinkReadReturn ch err s) := by
  unfold execLinkReadReturn
  repeat' (first | with_reducible exact frame_refl _ _ | with_reducible exact Or.inr rfl | exact Or.inl rfl | exact (rfl : Nat.lor _ _ = _) | with_reducible assumption | extract_lets | with_reducible apply frame_ite | with_reducible apply frame_next | (with_reducible apply frame_upd; with_reducible exact Or.inr rfl; fail_if_success (iterate 23 (with_reducible exact Or.inr rfl))) | (with_reducible apply frame_foldl; intro _ _) | with_reducible apply frame_setChain | with_reducible apply frame_chainHalt | with_reducible apply frame_linkReturn | (split) | (dsimp +zetaDelta only))

theorem frame_execLinkReread {s : State} (ch) : FrameO 65537 s (execLinkReread ch s) := by
  unfold execLinkReread
  repeat' (first | with_reducible exact frame_refl _ _ | with_reducible exact Or.inr rfl | exact Or.inl rfl | exact (rfl : Nat.lor _ _ = _) | with_reducible assumption | extract_lets | with_reducible apply frame_ite | with_reducible apply frame_next | (with_reducible apply frame_upd; with_reducible exact Or.inr rfl; fail_if_success (iterate 23 (with_reducible exact Or.inr rfl))) | (with_reducible apply frame_foldl; intro _ _) | with_reducible apply frame_setChain | with_reducible apply frame_chState | (split) | (dsimp +zetaDelta only))

theorem frame_restartChain {M : Nat} {s0 s : State} (who) (ch) (action) (hM : Nat.lor 67073 M = M) (h0 : Frame M s0 s) : Frame M s0 (State.restartChain s who ch action) := by
  refine frame_trans (k := 67073) ?_ hM h0
  unfold State.restartChain
  repeat' (first | with_reducible exact frame_refl _ _ | with_reducible exact Or.inr rfl | exact Or.inl rfl | exact (rfl : Nat.lor _ _ = _) | with_reducible assumption | extract_lets | with_reducible apply frame_ite | with_reducible apply frame_next | (with_reducible apply frame_upd; with_reducible exact Or.inr rfl; fail_if_success (iterate 23 (with_reducible exact Or.inr rfl))) | (with_reducible apply frame_foldl; intro _ _) | with_reducible apply frame_setChain | with_reducible apply frame_chainRestart | (split) | (dsimp +zetaDelta only))

theorem frame_writeChCtl {M : Nat} {s0 s : State} (who) (ch) (v) (w) (hM : Nat.lor 198145 M = M) (h0 : Frame M s0 s) : Frame M s0 (State.writeChCtl s who ch v w) := by
  refine frame_trans (k := 198145) ?_ hM h0
  unfold State.writeChCtl
  repeat' (first | with_reducible exact frame_refl _ _ | with_reducible exact Or.inr rfl | exact Or.inl rfl | exact (rfl : Nat.lor _ _ = _) | with_reducible assumption | extract_lets | with_reducible apply frame_ite | with_reducible apply frame_next | (with_reducible apply frame_upd; with_reducible exact Or.inr rfl; fail_if_success (iterate 23 (with_reducible exact Or.inr rfl))) | (with_reducible apply frame_foldl; intro _ _) | with_reducible apply frame_setReg | with_reducible apply frame_runRises | with_reducible apply frame_restartChain | (split) | (dsimp +zetaDelta only))

theorem frame_execChainRetry {s : State} (who) (ch) : FrameO 67073 s (execChainRetry who ch s) := by
  unfold execChainRetry
  repeat' (first | with_reducible exact frame_refl _ _ | with_reducible exact Or.inr rfl | exact Or.inl rfl | exact (rfl : Nat.lor _ _ = _) | with_reducible assumption | extract_lets | with_reducible apply frame_ite | with_reducible apply frame_next | (with_reducible apply frame_upd; with_reducible exact Or.inr rfl; fail_if_success (iterate 23 (with_reducible exact Or.inr rfl))) | (with_reducible apply frame_foldl; intro _ _) | with_reducible apply frame_restartChain | (split) | (dsimp +zetaDelta only))

theorem frame_execChainSkip {s : State} (who) (ch) : FrameO 67073 s (execChainSkip who ch s) := by
  unfold execChainSkip
  repeat' (first | with_reducible exact frame_refl _ _ | with_reducible exact Or.inr rfl | exact Or.inl rfl | exact (rfl : Nat.lor _ _ = _) | with_reducible assumption | extract_lets | with_reducible apply frame_ite | with_reducible apply frame_next | (with_reducible apply frame_upd; with_reducible exact Or.inr rfl; fail_if_success (iterate 23 (with_reducible exact Or.inr rfl))) | (with_reducible apply frame_foldl; intro _ _) | with_reducible apply frame_restartChain | (split) | (dsimp +zetaDelta only))

theorem frame_execChainAbort {s : State} (who) (ch) : FrameO 67073 s (execChainAbort who ch s) := by
  unfold execChainAbort
  repeat' (first | with_reducible exact frame_refl _ _ | with_reducible exact Or.inr rfl | exact Or.inl rfl | exact (rfl : Nat.lor _ _ = _) | with_reducible assumption | extract_lets | with_reducible apply frame_ite | with_reducible apply frame_next | (with_reducible apply frame_upd; with_reducible exact Or.inr rfl; fail_if_success (iterate 23 (with_reducible exact Or.inr rfl))) | (with_reducible apply frame_foldl; intro _ _) | with_reducible apply frame_restartChain | (split) | (dsimp +zetaDelta only))

theorem frame_execCqHeadWrite {s : State} (who) (ch) (head) : FrameO 67073 s (execCqHeadWrite who ch head s) := by
  unfold execCqHeadWrite
  repeat' (first | with_reducible exact frame_refl _ _ | with_reducible exact Or.inr rfl | exact Or.inl rfl | exact (rfl : Nat.lor _ _ = _) | with_reducible assumption | extract_lets | with_reducible apply frame_ite | with_reducible apply frame_next | (with_reducible apply frame_upd; with_reducible exact Or.inr rfl; fail_if_success (iterate 23 (with_reducible exact Or.inr rfl))) | (with_reducible apply frame_foldl; intro _ _) | with_reducible apply frame_setFld | with_reducible apply frame_setChain | with_reducible apply frame_putRecord | with_reducible apply frame_chainNext | with_reducible apply frame_chainRestart | (split) | (dsimp +zetaDelta only))

theorem frame_execContextReadComplete {s : State} (a) (purpose) (ref) : FrameO 98304 s (execContextReadComplete a purpose ref s) := by
  unfold execContextReadComplete
  repeat' (first | with_reducible exact frame_refl _ _ | with_reducible exact Or.inr rfl | exact Or.inl rfl | exact (rfl : Nat.lor _ _ = _) | with_reducible assumption | extract_lets | with_reducible apply frame_ite | with_reducible apply frame_next | (with_reducible apply frame_upd; with_reducible exact Or.inr rfl; fail_if_success (iterate 23 (with_reducible exact Or.inr rfl))) | (with_reducible apply frame_foldl; intro _ _) | with_reducible apply frame_setCtx | with_reducible apply frame_issueAll | (split) | (dsimp +zetaDelta only))

theorem frame_execCtxHalt {s : State} (a) (purpose) (ref) (kind) (addr) : FrameO 67073 s (execCtxHalt a purpose ref kind addr s) := by
  unfold execCtxHalt
  repeat' (first | with_reducible exact frame_refl _ _ | with_reducible exact Or.inr rfl | exact Or.inl rfl | exact (rfl : Nat.lor _ _ = _) | with_reducible assumption | extract_lets | with_reducible apply frame_ite | with_reducible apply frame_next | (with_reducible apply frame_upd; with_reducible exact Or.inr rfl; fail_if_success (iterate 23 (with_reducible exact Or.inr rfl))) | (with_reducible apply frame_foldl; intro _ _) | with_reducible apply frame_setCtx | with_reducible apply frame_raise | (split) | (dsimp +zetaDelta only))

theorem frame_loadCtx {M : Nat} {s0 s : State} (a) (hM : Nat.lor 1 M = M) (h0 : Frame M s0 s) : Frame M s0 (State.loadCtx s a) := by
  refine frame_trans (k := 1) ?_ hM h0
  unfold State.loadCtx
  repeat' (first | with_reducible exact frame_refl _ _ | with_reducible exact Or.inr rfl | exact Or.inl rfl | exact (rfl : Nat.lor _ _ = _) | with_reducible assumption | extract_lets | with_reducible apply frame_ite | with_reducible apply frame_next | (with_reducible apply frame_upd; with_reducible exact Or.inr rfl; fail_if_success (iterate 23 (with_reducible exact Or.inr rfl))) | (with_reducible apply frame_foldl; intro _ _) | with_reducible apply frame_setReg | (split) | (dsimp +zetaDelta only))

theorem frame_execXfrCtxSelWrite {s : State} (who) (a) : FrameO 1 s (execXfrCtxSelWrite who a s) := by
  unfold execXfrCtxSelWrite
  repeat' (first | with_reducible exact frame_refl _ _ | with_reducible exact Or.inr rfl | exact Or.inl rfl | exact (rfl : Nat.lor _ _ = _) | with_reducible assumption | extract_lets | with_reducible apply frame_ite | with_reducible apply frame_next | (with_reducible apply frame_upd; with_reducible exact Or.inr rfl; fail_if_success (iterate 23 (with_reducible exact Or.inr rfl))) | (with_reducible apply frame_foldl; intro _ _) | with_reducible apply frame_setReg | with_reducible apply frame_loadCtx | (split) | (dsimp +zetaDelta only))

theorem frame_execContextRestartRetry {s : State} (who) : FrameO 98304 s (execContextRestartRetry who s) := by
  unfold execContextRestartRetry
  repeat' (first | with_reducible exact frame_refl _ _ | with_reducible exact Or.inr rfl | exact Or.inl rfl | exact (rfl : Nat.lor _ _ = _) | with_reducible assumption | extract_lets | with_reducible apply frame_ite | with_reducible apply frame_next | (with_reducible apply frame_upd; with_reducible exact Or.inr rfl; fail_if_success (iterate 23 (with_reducible exact Or.inr rfl))) | (with_reducible apply frame_foldl; intro _ _) | with_reducible apply frame_setCtx | with_reducible apply frame_issueAll | (split) | (dsimp +zetaDelta only))

theorem frame_execContextRestartFail {s : State} (who) : FrameO 2080257 s (execContextRestartFail who s) := by
  unfold execContextRestartFail
  repeat' (first | with_reducible exact frame_refl _ _ | with_reducible exact Or.inr rfl | exact Or.inl rfl | exact (rfl : Nat.lor _ _ = _) | with_reducible assumption | extract_lets | with_reducible apply frame_ite | with_reducible apply frame_next | (with_reducible apply frame_upd; with_reducible exact Or.inr rfl; fail_if_success (iterate 23 (with_reducible exact Or.inr rfl))) | (with_reducible apply frame_foldl; intro _ _) | with_reducible apply frame_setCtrl | with_reducible apply frame_setCtx | with_reducible apply frame_endWrite | with_reducible apply frame_kick | with_reducible apply frame_issueAll | (split) | (dsimp +zetaDelta only))

theorem frame_miTake {M : Nat} {s0 s : State} (hM : Nat.lor 1024 M = M) (h0 : Frame M s0 s) : Frame M s0 (State.miTake s) := by
  refine frame_trans (k := 1024) ?_ hM h0
  unfold State.miTake
  repeat' (first | with_reducible exact frame_refl _ _ | with_reducible exact Or.inr rfl | exact Or.inl rfl | exact (rfl : Nat.lor _ _ = _) | with_reducible assumption | extract_lets | with_reducible apply frame_ite | with_reducible apply frame_next | (with_reducible apply frame_upd; with_reducible exact Or.inr rfl; fail_if_success (iterate 23 (with_reducible exact Or.inr rfl))) | (with_reducible apply frame_foldl; intro _ _) | (split) | (dsimp +zetaDelta only))

theorem frame_miRefuse {M : Nat} {s0 s : State} (id) (hM : Nat.lor 1537 M = M) (h0 : Frame M s0 s) : Frame M s0 (State.miRefuse s id) := by
  refine frame_trans (k := 1537) ?_ hM h0
  unfold State.miRefuse
  repeat' (first | with_reducible exact frame_refl _ _ | with_reducible exact Or.inr rfl | exact Or.inl rfl | exact (rfl : Nat.lor _ _ = _) | with_reducible assumption | extract_lets | with_reducible apply frame_ite | with_reducible apply frame_next | (with_reducible apply frame_upd; with_reducible exact Or.inr rfl; fail_if_success (iterate 23 (with_reducible exact Or.inr rfl))) | (with_reducible apply frame_foldl; intro _ _) | with_reducible apply frame_miReply | (split) | (dsimp +zetaDelta only))

theorem frame_miServe {m M : Nat} {s0 s : State} (id) (early) (full) (maint) (f) (hf : ∀ t, Frame m t (f t)) (hK : Nat.lor 1537 m = m) (hM : Nat.lor m M = M) (h0 : Frame M s0 s) :
    Frame M s0 (State.miServe s id early full maint f) := by
  refine frame_trans (k := m) ?_ hM h0
  unfold State.miServe
  repeat' (first | with_reducible exact frame_refl _ _ | with_reducible exact Or.inr rfl | exact Or.inl rfl | with_reducible assumption | extract_lets | with_reducible apply frame_ite | with_reducible apply frame_next | (with_reducible apply frame_upd; with_reducible exact Or.inr rfl; fail_if_success (iterate 23 (with_reducible exact Or.inr rfl))) | (with_reducible apply frame_foldl; intro _ _) | (exact lor_sub rfl hK) | with_reducible exact hK | (with_reducible refine frame_trans (hf _) (lor_self m) ?_) | with_reducible apply frame_miTake | with_reducible apply frame_miRefuse | (split) | (dsimp +zetaDelta only))

theorem frame_ctlReply {M : Nat} {s0 s : State} (id) (code) (cc) (data) (hM : Nat.lor 1537 M = M) (h0 : Frame M s0 s) : Frame M s0 (State.ctlReply s id code cc data) := by
  refine frame_trans (k := 1537) ?_ hM h0
  unfold State.ctlReply
  repeat' (first | with_reducible exact frame_refl _ _ | with_reducible exact Or.inr rfl | exact Or.inl rfl | exact (rfl : Nat.lor _ _ = _) | with_reducible assumption | extract_lets | with_reducible apply frame_ite | with_reducible apply frame_next | (with_reducible apply frame_upd; with_reducible exact Or.inr rfl; fail_if_success (iterate 23 (with_reducible exact Or.inr rfl))) | (with_reducible apply frame_foldl; intro _ _) | with_reducible apply frame_sendMctp | (split) | (dsimp +zetaDelta only))

theorem frame_execSetEndpointId {s : State} (id) (eid) : FrameO 1537 s (execSetEndpointId id eid s) := by
  unfold execSetEndpointId
  repeat' (first | with_reducible exact frame_refl _ _ | with_reducible exact Or.inr rfl | exact Or.inl rfl | exact (rfl : Nat.lor _ _ = _) | with_reducible assumption | extract_lets | with_reducible apply frame_ite | with_reducible apply frame_next | (with_reducible apply frame_upd; with_reducible exact Or.inr rfl; fail_if_success (iterate 23 (with_reducible exact Or.inr rfl))) | (with_reducible apply frame_foldl; intro _ _) | with_reducible apply frame_setFld | (with_reducible apply frame_miServe (m := 1537); intros) | with_reducible apply frame_ctlReply | (split) | (dsimp +zetaDelta only))

theorem frame_execGetEndpointId {s : State} (id) : FrameO 1537 s (execGetEndpointId id s) := by
  unfold execGetEndpointId
  repeat' (first | with_reducible exact frame_refl _ _ | with_reducible exact Or.inr rfl | exact Or.inl rfl | exact (rfl : Nat.lor _ _ = _) | with_reducible assumption | extract_lets | with_reducible apply frame_ite | with_reducible apply frame_next | (with_reducible apply frame_upd; with_reducible exact Or.inr rfl; fail_if_success (iterate 23 (with_reducible exact Or.inr rfl))) | (with_reducible apply frame_foldl; intro _ _) | (with_reducible apply frame_miServe (m := 1537); intros) | with_reducible apply frame_ctlReply | (split) | (dsimp +zetaDelta only))

theorem frame_execGetEndpointUuid {s : State} (id) : FrameO 1537 s (execGetEndpointUuid id s) := by
  unfold execGetEndpointUuid
  repeat' (first | with_reducible exact frame_refl _ _ | with_reducible exact Or.inr rfl | exact Or.inl rfl | exact (rfl : Nat.lor _ _ = _) | with_reducible assumption | extract_lets | with_reducible apply frame_ite | with_reducible apply frame_next | (with_reducible apply frame_upd; with_reducible exact Or.inr rfl; fail_if_success (iterate 23 (with_reducible exact Or.inr rfl))) | (with_reducible apply frame_foldl; intro _ _) | (with_reducible apply frame_miServe (m := 1537); intros) | with_reducible apply frame_ctlReply | (split) | (dsimp +zetaDelta only))

theorem frame_execGetMctpVersionSupport {s : State} (id) (type) : FrameO 1537 s (execGetMctpVersionSupport id type s) := by
  unfold execGetMctpVersionSupport
  repeat' (first | with_reducible exact frame_refl _ _ | with_reducible exact Or.inr rfl | exact Or.inl rfl | exact (rfl : Nat.lor _ _ = _) | with_reducible assumption | extract_lets | with_reducible apply frame_ite | with_reducible apply frame_next | (with_reducible apply frame_upd; with_reducible exact Or.inr rfl; fail_if_success (iterate 23 (with_reducible exact Or.inr rfl))) | (with_reducible apply frame_foldl; intro _ _) | (with_reducible apply frame_miServe (m := 1537); intros) | with_reducible apply frame_ctlReply | (split) | (dsimp +zetaDelta only))

theorem frame_execGetMessageTypeSupport {s : State} (id) : FrameO 1537 s (execGetMessageTypeSupport id s) := by
  unfold execGetMessageTypeSupport
  repeat' (first | with_reducible exact frame_refl _ _ | with_reducible exact Or.inr rfl | exact Or.inl rfl | exact (rfl : Nat.lor _ _ = _) | with_reducible assumption | extract_lets | with_reducible apply frame_ite | with_reducible apply frame_next | (with_reducible apply frame_upd; with_reducible exact Or.inr rfl; fail_if_success (iterate 23 (with_reducible exact Or.inr rfl))) | (with_reducible apply frame_foldl; intro _ _) | (with_reducible apply frame_miServe (m := 1537); intros) | with_reducible apply frame_ctlReply | (split) | (dsimp +zetaDelta only))

theorem frame_execReadNvmeMiDataStructure {s : State} (id) (type) : FrameO 1537 s (execReadNvmeMiDataStructure id type s) := by
  unfold execReadNvmeMiDataStructure
  repeat' (first | with_reducible exact frame_refl _ _ | with_reducible exact Or.inr rfl | exact Or.inl rfl | exact (rfl : Nat.lor _ _ = _) | with_reducible assumption | extract_lets | with_reducible apply frame_ite | with_reducible apply frame_next | (with_reducible apply frame_upd; with_reducible exact Or.inr rfl; fail_if_success (iterate 23 (with_reducible exact Or.inr rfl))) | (with_reducible apply frame_foldl; intro _ _) | with_reducible apply frame_miReply | (with_reducible apply frame_miServe (m := 1537); intros) | (split) | (dsimp +zetaDelta only))

theorem frame_execNvmSubsystemHealthStatusPoll {s : State} (id) : FrameO 1537 s (execNvmSubsystemHealthStatusPoll id s) := by
  unfold execNvmSubsystemHealthStatusPoll
  repeat' (first | with_reducible exact frame_refl _ _ | with_reducible exact Or.inr rfl | exact Or.inl rfl | exact (rfl : Nat.lor _ _ = _) | with_reducible assumption | extract_lets | with_reducible apply frame_ite | with_reducible apply frame_next | (with_reducible apply frame_upd; with_reducible exact Or.inr rfl; fail_if_success (iterate 23 (with_reducible exact Or.inr rfl))) | (with_reducible apply frame_foldl; intro _ _) | with_reducible apply frame_miReply | (with_reducible apply frame_miServe (m := 1537); intros) | (split) | (dsimp +zetaDelta only))

theorem frame_execControllerHealthStatusPoll {s : State} (id) (func) : FrameO 1537 s (execControllerHealthStatusPoll id func s) := by
  unfold execControllerHealthStatusPoll
  repeat' (first | with_reducible exact frame_refl _ _ | with_reducible exact Or.inr rfl | exact Or.inl rfl | exact (rfl : Nat.lor _ _ = _) | with_reducible assumption | extract_lets | with_reducible apply frame_ite | with_reducible apply frame_next | (with_reducible apply frame_upd; with_reducible exact Or.inr rfl; fail_if_success (iterate 23 (with_reducible exact Or.inr rfl))) | (with_reducible apply frame_foldl; intro _ _) | with_reducible apply frame_miReply | (with_reducible apply frame_miServe (m := 1537); intros) | (split) | (dsimp +zetaDelta only))

theorem frame_execConfigurationSet {s : State} (id) (cfg) (value) : FrameO 1537 s (execConfigurationSet id cfg value s) := by
  unfold execConfigurationSet
  repeat' (first | with_reducible exact frame_refl _ _ | with_reducible exact Or.inr rfl | exact Or.inl rfl | exact (rfl : Nat.lor _ _ = _) | with_reducible assumption | extract_lets | with_reducible apply frame_ite | with_reducible apply frame_next | (with_reducible apply frame_upd; with_reducible exact Or.inr rfl; fail_if_success (iterate 23 (with_reducible exact Or.inr rfl))) | (with_reducible apply frame_foldl; intro _ _) | with_reducible apply frame_miReply | (with_reducible apply frame_miServe (m := 1537); intros) | (split) | (dsimp +zetaDelta only))

theorem frame_execConfigurationGet {s : State} (id) (cfg) : FrameO 1537 s (execConfigurationGet id cfg s) := by
  unfold execConfigurationGet
  repeat' (first | with_reducible exact frame_refl _ _ | with_reducible exact Or.inr rfl | exact Or.inl rfl | exact (rfl : Nat.lor _ _ = _) | with_reducible assumption | extract_lets | with_reducible apply frame_ite | with_reducible apply frame_next | (with_reducible apply frame_upd; with_reducible exact Or.inr rfl; fail_if_success (iterate 23 (with_reducible exact Or.inr rfl))) | (with_reducible apply frame_foldl; intro _ _) | with_reducible apply frame_miReply | (with_reducible apply frame_miServe (m := 1537); intros) | (split) | (dsimp +zetaDelta only))

theorem frame_execMiReset {s : State} (id) : FrameO 2080767 s (execMiReset id s) := by
  unfold execMiReset
  repeat' (first | with_reducible exact frame_refl _ _ | with_reducible exact Or.inr rfl | exact Or.inl rfl | exact (rfl : Nat.lor _ _ = _) | with_reducible assumption | extract_lets | with_reducible apply frame_ite | with_reducible apply frame_next | (with_reducible apply frame_upd; with_reducible exact Or.inr rfl; fail_if_success (iterate 23 (with_reducible exact Or.inr rfl))) | (with_reducible apply frame_foldl; intro _ _) | with_reducible apply frame_miReply | with_reducible apply frame_toStrap | (with_reducible apply frame_miServe (m := 2080767); intros) | (split) | (dsimp +zetaDelta only))

theorem frame_execGetChallenge {s : State} (id) : FrameO 4195841 s (execGetChallenge id s) := by
  unfold execGetChallenge
  repeat' (first | with_reducible exact frame_refl _ _ | with_reducible exact Or.inr rfl | exact Or.inl rfl | exact (rfl : Nat.lor _ _ = _) | with_reducible assumption | extract_lets | with_reducible apply frame_ite | with_reducible apply frame_next | (with_reducible apply frame_upd; with_reducible exact Or.inr rfl; fail_if_success (iterate 23 (with_reducible exact Or.inr rfl))) | (with_reducible apply frame_foldl; intro _ _) | with_reducible apply frame_miReply | (with_reducible refine frame_trans (frame_issueNonce_eq (by assumption)) ?_ ?_) | with_reducible apply frame_issueNonce | with_reducible apply frame_miRefuse | (with_reducible apply frame_miServe (m := 4195841); intros) | (split) | (dsimp +zetaDelta only))

theorem frame_execEventLogRead {s : State} (id) (first) (count) : FrameO 1537 s (execEventLogRead id first count s) := by
  unfold execEventLogRead
  repeat' (first | with_reducible exact frame_refl _ _ | with_reducible exact Or.inr rfl | exact Or.inl rfl | exact (rfl : Nat.lor _ _ = _) | with_reducible assumption | extract_lets | with_reducible apply frame_ite | with_reducible apply frame_next | (with_reducible apply frame_upd; with_reducible exact Or.inr rfl; fail_if_success (iterate 23 (with_reducible exact Or.inr rfl))) | (with_reducible apply frame_foldl; intro _ _) | with_reducible apply frame_miReply | (with_reducible apply frame_miServe (m := 1537); intros) | (split) | (dsimp +zetaDelta only))

theorem frame_startClear {M : Nat} {s0 s : State} (nonce) (hM : Nat.lor 768 M = M) (h0 : Frame M s0 s) : Frame M s0 (State.startClear s nonce) := by
  refine frame_trans (k := 768) ?_ hM h0
  unfold State.startClear
  repeat' (first | with_reducible exact frame_refl _ _ | with_reducible exact Or.inr rfl | exact Or.inl rfl | exact (rfl : Nat.lor _ _ = _) | with_reducible assumption | extract_lets | with_reducible apply frame_ite | with_reducible apply frame_next | (with_reducible apply frame_upd; with_reducible exact Or.inr rfl; fail_if_success (iterate 23 (with_reducible exact Or.inr rfl))) | (with_reducible apply frame_foldl; intro _ _) | with_reducible apply frame_clearKick | (split) | (dsimp +zetaDelta only))

theorem frame_execEventLogClear {s : State} (id) (auth) : FrameO 34561 s (execEventLogClear id auth s) := by
  unfold execEventLogClear
  repeat' (first | with_reducible exact frame_refl _ _ | with_reducible exact Or.inr rfl | exact Or.inl rfl | exact (rfl : Nat.lor _ _ = _) | with_reducible assumption | extract_lets | with_reducible apply frame_ite | with_reducible apply frame_next | (with_reducible apply frame_upd; with_reducible exact Or.inr rfl; fail_if_success (iterate 23 (with_reducible exact Or.inr rfl))) | (with_reducible apply frame_foldl; intro _ _) | with_reducible apply frame_miReply | (with_reducible refine frame_trans (frame_authorise_eq (by assumption)) ?_ ?_) | with_reducible apply frame_authorise | with_reducible apply frame_authReply | (with_reducible apply frame_miServe (m := 34561); intros) | with_reducible apply frame_startClear | (split) | (dsimp +zetaDelta only))

theorem frame_execCalibrationRowRead {s : State} (id) : FrameO 1537 s (execCalibrationRowRead id s) := by
  unfold execCalibrationRowRead
  repeat' (first | with_reducible exact frame_refl _ _ | with_reducible exact Or.inr rfl | exact Or.inl rfl | exact (rfl : Nat.lor _ _ = _) | with_reducible assumption | extract_lets | with_reducible apply frame_ite | with_reducible apply frame_next | (with_reducible apply frame_upd; with_reducible exact Or.inr rfl; fail_if_success (iterate 23 (with_reducible exact Or.inr rfl))) | (with_reducible apply frame_foldl; intro _ _) | with_reducible apply frame_miReply | (with_reducible apply frame_miServe (m := 1537); intros) | (split) | (dsimp +zetaDelta only))

theorem frame_execCalibrationRowWrite {s : State} (id) (row) : FrameO 1793 s (execCalibrationRowWrite id row s) := by
  unfold execCalibrationRowWrite
  repeat' (first | with_reducible exact frame_refl _ _ | with_reducible exact Or.inr rfl | exact Or.inl rfl | exact (rfl : Nat.lor _ _ = _) | with_reducible assumption | extract_lets | with_reducible apply frame_ite | with_reducible apply frame_next | (with_reducible apply frame_upd; with_reducible exact Or.inr rfl; fail_if_success (iterate 23 (with_reducible exact Or.inr rfl))) | (with_reducible apply frame_foldl; intro _ _) | with_reducible apply frame_setReg | with_reducible apply frame_setFld | with_reducible apply frame_norStart | with_reducible apply frame_miRefuse | (with_reducible apply frame_miServe (m := 1793); intros) | (split) | (dsimp +zetaDelta only))

theorem frame_lifeChange {M : Nat} {s0 s : State} (id) (action) (a) (life) (key) (hM : Nat.lor 296449 M = M) (h0 : Frame M s0 s) : Frame M s0 (State.lifeChange s id action a life key) := by
  refine frame_trans (k := 296449) ?_ hM h0
  unfold State.lifeChange
  repeat' (first | with_reducible exact frame_refl _ _ | with_reducible exact Or.inr rfl | exact Or.inl rfl | exact (rfl : Nat.lor _ _ = _) | with_reducible assumption | extract_lets | with_reducible apply frame_ite | with_reducible apply frame_next | (with_reducible apply frame_upd; with_reducible exact Or.inr rfl; fail_if_success (iterate 23 (with_reducible exact Or.inr rfl))) | (with_reducible apply frame_foldl; intro _ _) | with_reducible apply frame_raise | with_reducible apply frame_miReply | (with_reducible refine frame_trans (frame_authorise_eq (by assumption)) ?_ ?_) | with_reducible apply frame_authorise | with_reducible apply frame_authReply | (split) | (dsimp +zetaDelta only))

theorem frame_execProvision {s : State} (id) (auth) : FrameO 296449 s (execProvision id auth s) := by
  unfold execProvision
  repeat' (first | with_reducible exact frame_refl _ _ | with_reducible exact Or.inr rfl | exact Or.inl rfl | exact (rfl : Nat.lor _ _ = _) | with_reducible assumption | extract_lets | with_reducible apply frame_ite | with_reducible apply frame_next | (with_reducible apply frame_upd; with_reducible exact Or.inr rfl; fail_if_success (iterate 23 (with_reducible exact Or.inr rfl))) | (with_reducible apply frame_foldl; intro _ _) | (with_reducible apply frame_miServe (m := 296449); intros) | with_reducible apply frame_lifeChange | (split) | (dsimp +zetaDelta only))

theorem frame_execDecommission {s : State} (id) (auth) : FrameO 296449 s (execDecommission id auth s) := by
  unfold execDecommission
  repeat' (first | with_reducible exact frame_refl _ _ | with_reducible exact Or.inr rfl | exact Or.inl rfl | exact (rfl : Nat.lor _ _ = _) | with_reducible assumption | extract_lets | with_reducible apply frame_ite | with_reducible apply frame_next | (with_reducible apply frame_upd; with_reducible exact Or.inr rfl; fail_if_success (iterate 23 (with_reducible exact Or.inr rfl))) | (with_reducible apply frame_foldl; intro _ _) | (with_reducible apply frame_miServe (m := 296449); intros) | with_reducible apply frame_lifeChange | (split) | (dsimp +zetaDelta only))

theorem frame_execFactoryTestVerifySlot {s : State} (id) (slot) : FrameO 1537 s (execFactoryTestVerifySlot id slot s) := by
  unfold execFactoryTestVerifySlot
  repeat' (first | with_reducible exact frame_refl _ _ | with_reducible exact Or.inr rfl | exact Or.inl rfl | exact (rfl : Nat.lor _ _ = _) | with_reducible assumption | extract_lets | with_reducible apply frame_ite | with_reducible apply frame_next | (with_reducible apply frame_upd; with_reducible exact Or.inr rfl; fail_if_success (iterate 23 (with_reducible exact Or.inr rfl))) | (with_reducible apply frame_foldl; intro _ _) | with_reducible apply frame_miReply | (with_reducible apply frame_miServe (m := 1537); intros) | (split) | (dsimp +zetaDelta only))

theorem frame_execFactoryTestAlert {s : State} (id) : FrameO 1545 s (execFactoryTestAlert id s) := by
  unfold execFactoryTestAlert
  repeat' (first | with_reducible exact frame_refl _ _ | with_reducible exact Or.inr rfl | exact Or.inl rfl | exact (rfl : Nat.lor _ _ = _) | with_reducible assumption | extract_lets | with_reducible apply frame_ite | with_reducible apply frame_next | (with_reducible apply frame_upd; with_reducible exact Or.inr rfl; fail_if_success (iterate 23 (with_reducible exact Or.inr rfl))) | (with_reducible apply frame_foldl; intro _ _) | with_reducible apply frame_miReply | (with_reducible apply frame_miServe (m := 1545); intros) | (split) | (dsimp +zetaDelta only))

theorem frame_execFactoryAlertPulseEnd {s : State} : FrameO 1032 s (execFactoryAlertPulseEnd s) := by
  unfold execFactoryAlertPulseEnd
  repeat' (first | with_reducible exact frame_refl _ _ | with_reducible exact Or.inr rfl | exact Or.inl rfl | exact (rfl : Nat.lor _ _ = _) | with_reducible assumption | extract_lets | with_reducible apply frame_ite | with_reducible apply frame_next | (with_reducible apply frame_upd; with_reducible exact Or.inr rfl; fail_if_success (iterate 23 (with_reducible exact Or.inr rfl))) | (with_reducible apply frame_foldl; intro _ _) | (split) | (dsimp +zetaDelta only))

theorem frame_execFactoryTestEntropy {s : State} (id) (ok) : FrameO 1537 s (execFactoryTestEntropy id ok s) := by
  unfold execFactoryTestEntropy
  repeat' (first | with_reducible exact frame_refl _ _ | with_reducible exact Or.inr rfl | exact Or.inl rfl | exact (rfl : Nat.lor _ _ = _) | with_reducible assumption | extract_lets | with_reducible apply frame_ite | with_reducible apply frame_next | (with_reducible apply frame_upd; with_reducible exact Or.inr rfl; fail_if_success (iterate 23 (with_reducible exact Or.inr rfl))) | (with_reducible apply frame_foldl; intro _ _) | with_reducible apply frame_miReply | (with_reducible apply frame_miServe (m := 1537); intros) | (split) | (dsimp +zetaDelta only))

theorem frame_execChallengeNew {s : State} (who) : FrameO 4195328 s (execChallengeNew who s) := by
  unfold execChallengeNew
  repeat' (first | with_reducible exact frame_refl _ _ | with_reducible exact Or.inr rfl | exact Or.inl rfl | exact (rfl : Nat.lor _ _ = _) | with_reducible assumption | extract_lets | with_reducible apply frame_ite | with_reducible apply frame_next | (with_reducible apply frame_upd; with_reducible exact Or.inr rfl; fail_if_success (iterate 23 (with_reducible exact Or.inr rfl))) | (with_reducible apply frame_foldl; intro _ _) | (with_reducible refine frame_trans (frame_issueNonce_eq (by assumption)) ?_ ?_) | with_reducible apply frame_issueNonce | (split) | (dsimp +zetaDelta only))

theorem frame_execNonceExpiry {s : State} (p) : FrameO 1024 s (execNonceExpiry p s) := by
  unfold execNonceExpiry
  repeat' (first | with_reducible exact frame_refl _ _ | with_reducible exact Or.inr rfl | exact Or.inl rfl | exact (rfl : Nat.lor _ _ = _) | with_reducible assumption | extract_lets | with_reducible apply frame_ite | with_reducible apply frame_next | (with_reducible apply frame_upd; with_reducible exact Or.inr rfl; fail_if_success (iterate 23 (with_reducible exact Or.inr rfl))) | (with_reducible apply frame_foldl; intro _ _) | with_reducible apply frame_setAuth | (split) | (dsimp +zetaDelta only))

theorem frame_execAuthLockoutEnd {s : State} (p) : FrameO 1024 s (execAuthLockoutEnd p s) := by
  unfold execAuthLockoutEnd
  repeat' (first | with_reducible exact frame_refl _ _ | with_reducible exact Or.inr rfl | exact Or.inl rfl | exact (rfl : Nat.lor _ _ = _) | with_reducible assumption | extract_lets | with_reducible apply frame_ite | with_reducible apply frame_next | (with_reducible apply frame_upd; with_reducible exact Or.inr rfl; fail_if_success (iterate 23 (with_reducible exact Or.inr rfl))) | (with_reducible apply frame_foldl; intro _ _) | with_reducible apply frame_setAuth | (split) | (dsimp +zetaDelta only))

theorem frame_keepAlive {M : Nat} {s0 s : State} (f) (hM : Nat.lor 32768 M = M) (h0 : Frame M s0 s) : Frame M s0 (State.keepAlive s f) := by
  refine frame_trans (k := 32768) ?_ hM h0
  unfold State.keepAlive
  repeat' (first | with_reducible exact frame_refl _ _ | with_reducible exact Or.inr rfl | exact Or.inl rfl | exact (rfl : Nat.lor _ _ = _) | with_reducible assumption | extract_lets | with_reducible apply frame_ite | with_reducible apply frame_next | (with_reducible apply frame_upd; with_reducible exact Or.inr rfl; fail_if_success (iterate 23 (with_reducible exact Or.inr rfl))) | (with_reducible apply frame_foldl; intro _ _) | with_reducible apply frame_setCtrl | (split) | (dsimp +zetaDelta only))

theorem frame_adminFields {m M : Nat} {s0 s : State} (a) (g) (hf : ∀ t, Frame m t (g t)) (hK : Nat.lor 34305 m = m) (hM : Nat.lor m M = M) (h0 : Frame M s0 s) :
    Frame M s0 (State.adminFields s a g) := by
  refine frame_trans (k := m) ?_ hM h0
  unfold State.adminFields
  repeat' (first | with_reducible exact frame_refl _ _ | with_reducible exact Or.inr rfl | exact Or.inl rfl | with_reducible assumption | extract_lets | with_reducible apply frame_ite | with_reducible apply frame_next | (with_reducible apply frame_upd; with_reducible exact Or.inr rfl; fail_if_success (iterate 23 (with_reducible exact Or.inr rfl))) | (with_reducible apply frame_foldl; intro _ _) | (exact lor_sub rfl hK) | with_reducible exact hK | (with_reducible refine frame_trans (hf _) (lor_self m) ?_) | with_reducible apply frame_reply | (split) | (dsimp +zetaDelta only))

theorem frame_adminRun {m M : Nat} {s0 s : State} (a) (onFunc) (mi) (maint) (g) (hf : ∀ t, Frame m t (g t)) (hK : Nat.lor 34305 m = m) (hM : Nat.lor m M = M) (h0 : Frame M s0 s) :
    Frame M s0 (State.adminRun s a onFunc mi maint g) := by
  refine frame_trans (k := m) ?_ hM h0
  unfold State.adminRun
  repeat' (first | with_reducible exact frame_refl _ _ | with_reducible exact Or.inr rfl | exact Or.inl rfl | with_reducible assumption | extract_lets | with_reducible apply frame_ite | with_reducible apply frame_next | (with_reducible apply frame_upd; with_reducible exact Or.inr rfl; fail_if_success (iterate 23 (with_reducible exact Or.inr rfl))) | (with_reducible apply frame_foldl; intro _ _) | (exact lor_sub rfl hK) | with_reducible exact hK | (with_reducible refine frame_trans (hf _) (lor_self m) ?_) | (with_reducible apply frame_miServe (m := m); intros) | with_reducible apply frame_adminFields (m := m) | exact hf | exact lor_self m | with_reducible apply frame_keepAlive | with_reducible apply frame_reply | (split) | (dsimp +zetaDelta only))

theorem frame_execDeleteIoSubmissionQueue {s : State} (a) (qid) : FrameO 2014721 s (execDeleteIoSubmissionQueue a qid s) := by
  unfold execDeleteIoSubmissionQueue
  repeat' (first | with_reducible exact frame_refl _ _ | with_reducible exact Or.inr rfl | exact Or.inl rfl | exact (rfl : Nat.lor _ _ = _) | with_reducible assumption | extract_lets | with_reducible apply frame_ite | with_reducible apply frame_next | (with_reducible apply frame_upd; with_reducible exact Or.inr rfl; fail_if_success (iterate 23 (with_reducible exact Or.inr rfl))) | (with_reducible apply frame_foldl; intro _ _) | with_reducible apply frame_setCmd | with_reducible apply frame_reply | with_reducible apply frame_toPost | with_reducible apply frame_kick | (with_reducible apply frame_adminRun (m := 2014721); intros) | (split) | (dsimp +zetaDelta only))

theorem frame_execCreateIoSubmissionQueue {s : State} (a) (qid) (size) (cqid) (contiguous) : FrameO 34305 s (execCreateIoSubmissionQueue a qid size cqid contiguous s) := by
  unfold execCreateIoSubmissionQueue
  repeat' (first | with_reducible exact frame_refl _ _ | with_reducible exact Or.inr rfl | exact Or.inl rfl | exact (rfl : Nat.lor _ _ = _) | with_reducible assumption | extract_lets | with_reducible apply frame_ite | with_reducible apply frame_next | (with_reducible apply frame_upd; with_reducible exact Or.inr rfl; fail_if_success (iterate 23 (with_reducible exact Or.inr rfl))) | (with_reducible apply frame_foldl; intro _ _) | with_reducible apply frame_reply | with_reducible apply frame_setQueue | (with_reducible apply frame_adminRun (m := 34305); intros) | (split) | (dsimp +zetaDelta only))

theorem frame_execDeleteIoCompletionQueue {s : State} (a) (qid) : FrameO 34305 s (execDeleteIoCompletionQueue a qid s) := by
  unfold execDeleteIoCompletionQueue
  repeat' (first | with_reducible exact frame_refl _ _ | with_reducible exact Or.inr rfl | exact Or.inl rfl | exact (rfl : Nat.lor _ _ = _) | with_reducible assumption | extract_lets | with_reducible apply frame_ite | with_reducible apply frame_next | (with_reducible apply frame_upd; with_reducible exact Or.inr rfl; fail_if_success (iterate 23 (with_reducible exact Or.inr rfl))) | (with_reducible apply frame_foldl; intro _ _) | with_reducible apply frame_setCtrl | with_reducible apply frame_reply | (with_reducible apply frame_adminRun (m := 34305); intros) | (split) | (dsimp +zetaDelta only))

theorem frame_execCreateIoCompletionQueue {s : State} (a) (qid) (size) (vector) (contiguous) : FrameO 34305 s (execCreateIoCompletionQueue a qid size vector contiguous s) := by
  unfold execCreateIoCompletionQueue
  repeat' (first | with_reducible exact frame_refl _ _ | with_reducible exact Or.inr rfl | exact Or.inl rfl | exact (rfl : Nat.lor _ _ = _) | with_reducible assumption | extract_lets | with_reducible apply frame_ite | with_reducible apply frame_next | (with_reducible apply frame_upd; with_reducible exact Or.inr rfl; fail_if_success (iterate 23 (with_reducible exact Or.inr rfl))) | (with_reducible apply frame_foldl; intro _ _) | with_reducible apply frame_setCtrl | with_reducible apply frame_reply | (with_reducible apply frame_adminRun (m := 34305); intros) | (split) | (dsimp +zetaDelta only))

theorem frame_execAbort {s : State} (a) (sqid) (cid) : FrameO 2014721 s (execAbort a sqid cid s) := by
  unfold execAbort
  repeat' (first | with_reducible exact frame_refl _ _ | with_reducible exact Or.inr rfl | exact Or.inl rfl | exact (rfl : Nat.lor _ _ = _) | with_reducible assumption | extract_lets | with_reducible apply frame_ite | with_reducible apply frame_next | (with_reducible apply frame_upd; with_reducible exact Or.inr rfl; fail_if_success (iterate 23 (with_reducible exact Or.inr rfl))) | (with_reducible apply frame_foldl; intro _ _) | with_reducible apply frame_reply | with_reducible apply frame_toPost | with_reducible apply frame_kick | (with_reducible apply frame_adminRun (m := 2014721); intros) | (split) | (dsimp +zetaDelta only))

theorem frame_execAsynchronousEventRequest {s : State} (a) : FrameO 34305 s (execAsynchronousEventRequest a s) := by
  unfold execAsynchronousEventRequest
  repeat' (first | with_reducible exact frame_refl _ _ | with_reducible exact Or.inr rfl | exact Or.inl rfl | exact (rfl : Nat.lor _ _ = _) | with_reducible assumption | extract_lets | with_reducible apply frame_ite | with_reducible apply frame_next | (with_reducible apply frame_upd; with_reducible exact Or.inr rfl; fail_if_success (iterate 23 (with_reducible exact Or.inr rfl))) | (with_reducible apply frame_foldl; intro _ _) | with_reducible apply frame_setCtrl | with_reducible apply frame_reply | (with_reducible apply frame_adminRun (m := 34305); intros) | (split) | (dsimp +zetaDelta only))

theorem frame_execKeepAlive {s : State} (a) : FrameO 34305 s (execKeepAlive a s) := by
  unfold execKeepAlive
  repeat' (first | with_reducible exact frame_refl _ _ | with_reducible exact Or.inr rfl | exact Or.inl rfl | exact (rfl : Nat.lor _ _ = _) | with_reducible assumption | extract_lets | with_reducible apply frame_ite | with_reducible apply frame_next | (with_reducible apply frame_upd; with_reducible exact Or.inr rfl; fail_if_success (iterate 23 (with_reducible exact Or.inr rfl))) | (with_reducible apply frame_foldl; intro _ _) | with_reducible apply frame_reply | (with_reducible apply frame_adminRun (m := 34305); intros) | (split) | (dsimp +zetaDelta only))

theorem frame_execVirtualizationManagement {s : State} (a) (action) (cntlid) (count) : FrameO 34305 s (execVirtualizationManagement a action cntlid count s) := by
  unfold execVirtualizationManagement
  repeat' (first | with_reducible exact frame_refl _ _ | with_reducible exact Or.inr rfl | exact Or.inl rfl | exact (rfl : Nat.lor _ _ = _) | with_reducible assumption | extract_lets | with_reducible apply frame_ite | with_reducible apply frame_next | (with_reducible apply frame_upd; with_reducible exact Or.inr rfl; fail_if_success (iterate 23 (with_reducible exact Or.inr rfl))) | (with_reducible apply frame_foldl; intro _ _) | with_reducible apply frame_setCtrl | with_reducible apply frame_reply | with_reducible apply frame_readyNow | (with_reducible apply frame_adminRun (m := 34305); intros) | (split) | (dsimp +zetaDelta only))

theorem frame_page {M : Nat} {s0 s : State} (n) (fs) (hM : Nat.lor 4194304 M = M) (h0 : Frame M s0 s) : Frame M s0 (State.page s n fs).2 := by
  refine frame_trans (k := 4194304) ?_ hM h0
  unfold State.page
  repeat' (first | with_reducible exact frame_refl _ _ | with_reducible exact Or.inr rfl | exact Or.inl rfl | exact (rfl : Nat.lor _ _ = _) | with_reducible assumption | extract_lets | with_reducible apply frame_ite | with_reducible apply frame_next | (with_reducible apply frame_upd; with_reducible exact Or.inr rfl; fail_if_success (iterate 23 (with_reducible exact Or.inr rfl))) | (with_reducible apply frame_foldl; intro _ _) | (with_reducible refine frame_trans (frame_freeBytes_eq (by assumption)) ?_ ?_) | with_reducible apply frame_freeBytes | (split) | (dsimp +zetaDelta only))

theorem frame_page_eq {s : State} {n} {fs} {x} {t : State} (e : State.page s n fs = (x, t)) : Frame 4194304 s t := by
  have := frame_page (M := 4194304) (s := s) n fs rfl (frame_refl _ _)
  rw [e] at this
  exact this

theorem frame_identify {s : State} {f cns nsid cntid csi : Nat} {p : List Byte × State} (e : State.identify s f cns nsid cntid csi = .ok p) :
    Frame 4194304 s p.2 := by
  unfold State.identify at e
  extract_lets named mine nsPage at e
  have hn : ∀ a b c, nsPage a b c = .ok p → Frame 4194304 s p.2 := by
    intro a b c e
    unfold nsPage at e
    repeat' (split at e)
    all_goals (first | rw [← Except.ok.inj e] | contradiction)
    all_goals (first | exact frame_refl _ _ | exact frame_page _ _ rfl (frame_refl _ _))
  repeat' (split at e)
  all_goals (first | exact hn _ _ _ e | contradiction | (rw [← Except.ok.inj e]; first | exact frame_refl _ _ | exact frame_page _ _ rfl (frame_refl _ _)))

theorem frame_dataReply {M : Nat} {s0 s : State} (a) (r) (hr : ∀ p, r = .ok p → Frame M s0 p.2) (hM : Nat.lor 34305 M = M) (h0 : Frame M s0 s) :
    Frame M s0 (State.dataReply s a r) := by
  unfold State.dataReply
  split
  · exact frame_replyData _ _ _ _ (lor_sub rfl hM) (hr _ rfl)
  · exact frame_reply _ _ _ (lor_sub rfl hM) h0

theorem frame_execIdentify {s : State} (a) (cns) (nsid) (cntid) (csi) : FrameO 4228609 s (execIdentify a cns nsid cntid csi s) := by
  unfold execIdentify
  refine frame_next (frame_adminRun (m := 4228609) _ _ _ _ _ (fun t => ?_) rfl rfl (frame_refl _ _))
  exact frame_dataReply _ _ (fun p e => frame_trans (frame_identify e) rfl (frame_refl _ _)) rfl (frame_refl _ _)

theorem frame_effectsPage {M : Nat} {s0 s : State} (f) (hM : Nat.lor 0 M = M) (h0 : Frame M s0 s) : Frame M s0 (State.effectsPage s f).2 := by
  refine frame_trans (k := 0) ?_ hM h0
  unfold State.effectsPage
  repeat' (first | with_reducible exact frame_refl _ _ | with_reducible exact Or.inr rfl | exact Or.inl rfl | exact (rfl : Nat.lor _ _ = _) | with_reducible assumption | extract_lets | with_reducible apply frame_ite | with_reducible apply frame_next | (with_reducible apply frame_upd; with_reducible exact Or.inr rfl; fail_if_success (iterate 23 (with_reducible exact Or.inr rfl))) | (with_reducible apply frame_foldl; intro _ _) | (split) | (dsimp +zetaDelta only))

theorem frame_effectsPage_eq {s : State} {f} {x} {t : State} (e : State.effectsPage s f = (x, t)) : Frame 0 s t := by
  have := frame_effectsPage (M := 0) (s := s) f rfl (frame_refl _ _)
  rw [e] at this
  exact this

theorem frame_smartPage {M : Nat} {s0 s : State} (hM : Nat.lor 4194304 M = M) (h0 : Frame M s0 s) : Frame M s0 (State.smartPage s).2 := by
  refine frame_trans (k := 4194304) ?_ hM h0
  unfold State.smartPage
  repeat' (first | with_reducible exact frame_refl _ _ | with_reducible exact Or.inr rfl | exact Or.inl rfl | exact (rfl : Nat.lor _ _ = _) | with_reducible assumption | extract_lets | with_reducible apply frame_ite | with_reducible apply frame_next | (with_reducible apply frame_upd; with_reducible exact Or.inr rfl; fail_if_success (iterate 23 (with_reducible exact Or.inr rfl))) | (with_reducible apply frame_foldl; intro _ _) | (with_reducible refine frame_trans (frame_freeBytes_eq (by assumption)) ?_ ?_) | with_reducible apply frame_freeBytes | (split) | (dsimp +zetaDelta only))

theorem frame_smartPage_eq {s : State} {x} {t : State} (e : State.smartPage s = (x, t)) : Frame 4194304 s t := by
  have := frame_smartPage (M := 4194304) (s := s) rfl (frame_refl _ _)
  rw [e] at this
  exact this

theorem frame_slotPage {M : Nat} {s0 s : State} (hM : Nat.lor 4194304 M = M) (h0 : Frame M s0 s) : Frame M s0 (State.slotPage s).2 := by
  refine frame_trans (k := 4194304) ?_ hM h0
  unfold State.slotPage
  repeat' (first | with_reducible exact frame_refl _ _ | with_reducible exact Or.inr rfl | exact Or.inl rfl | exact (rfl : Nat.lor _ _ = _) | with_reducible assumption | extract_lets | with_reducible apply frame_ite | with_reducible apply frame_next | (with_reducible apply frame_upd; with_reducible exact Or.inr rfl; fail_if_success (iterate 23 (with_reducible exact Or.inr rfl))) | (with_reducible apply frame_foldl; intro _ _) | (with_reducible refine frame_trans (frame_page_eq (by assumption)) ?_ ?_) | with_reducible apply frame_page | (split) | (dsimp +zetaDelta only))

theorem frame_slotPage_eq {s : State} {x} {t : State} (e : State.slotPage s = (x, t)) : Frame 4194304 s t := by
  have := frame_slotPage (M := 4194304) (s := s) rfl (frame_refl _ _)
  rw [e] at this
  exact this

theorem frame_logPage {s : State} {f page lsi : Nat} {p : List Byte × State} (e : State.logPage s f page lsi = .ok p) : Frame 4227072 s p.2 := by
  unfold State.logPage at e
  repeat' (split at e)
  all_goals (first | rw [← Except.ok.inj e] | contradiction)
  all_goals (repeat' (first | with_reducible exact frame_refl _ _ | with_reducible apply frame_freeBytes | with_reducible apply frame_smartPage | with_reducible apply frame_slotPage | with_reducible apply frame_effectsPage | with_reducible apply frame_setCtrl | exact (rfl : Nat.lor _ _ = _)))

theorem frame_execGetLogPage {s : State} (a) (page) (nsid) (lsi) (offset) (bytes) : FrameO 4228609 s (execGetLogPage a page nsid lsi offset bytes s) := by
  unfold execGetLogPage
  refine frame_next (frame_adminRun (m := 4228609) _ _ _ _ _ (fun t => ?_) rfl rfl (frame_refl _ _))
  split
  · exact frame_reply _ _ _ rfl (frame_refl _ _)
  · split
    · exact frame_reply _ _ _ rfl (frame_refl _ _)
    · rename_i p e
      have hp := frame_trans (m := 4228609) (frame_logPage e) rfl (frame_refl _ _)
      exact frame_ite (frame_reply _ _ _ rfl (frame_refl _ _)) (frame_replyData _ _ _ _ rfl hp)

theorem frame_setPower {M : Nat} {s0 s : State} (a) (ps) (save) (hM : Nat.lor 2014881 M = M) (h0 : Frame M s0 s) : Frame M s0 (State.setPower s a ps save) := by
  refine frame_trans (k := 2014881) ?_ hM h0
  unfold State.setPower
  repeat' (first | with_reducible exact frame_refl _ _ | with_reducible exact Or.inr rfl | exact Or.inl rfl | exact (rfl : Nat.lor _ _ = _) | with_reducible assumption | extract_lets | with_reducible apply frame_ite | with_reducible apply frame_next | (with_reducible apply frame_upd; with_reducible exact Or.inr rfl; fail_if_success (iterate 23 (with_reducible exact Or.inr rfl))) | (with_reducible apply frame_foldl; intro _ _) | with_reducible apply frame_reply | with_reducible apply frame_planRequest | with_reducible apply frame_awaitPlan | with_reducible apply frame_sleepRequest | (split) | (dsimp +zetaDelta only))

theorem frame_execPowerStateSet {s : State} (a) (ps) (save) : FrameO 2014881 s (execPowerStateSet a ps save s) := by
  unfold execPowerStateSet
  repeat' (first | with_reducible exact frame_refl _ _ | with_reducible exact Or.inr rfl | exact Or.inl rfl | exact (rfl : Nat.lor _ _ = _) | with_reducible assumption | extract_lets | with_reducible apply frame_ite | with_reducible apply frame_next | (with_reducible apply frame_upd; with_reducible exact Or.inr rfl; fail_if_success (iterate 23 (with_reducible exact Or.inr rfl))) | (with_reducible apply frame_foldl; intro _ _) | (with_reducible apply frame_adminRun (m := 2014881); intros) | with_reducible apply frame_setPower | (split) | (dsimp +zetaDelta only))

theorem frame_execDozeRequest {s : State} (a) (save) : FrameO 2014881 s (execDozeRequest a save s) := by
  unfold execDozeRequest
  repeat' (first | with_reducible exact frame_refl _ _ | with_reducible exact Or.inr rfl | exact Or.inl rfl | exact (rfl : Nat.lor _ _ = _) | with_reducible assumption | extract_lets | with_reducible apply frame_ite | with_reducible apply frame_next | (with_reducible apply frame_upd; with_reducible exact Or.inr rfl; fail_if_success (iterate 23 (with_reducible exact Or.inr rfl))) | (with_reducible apply frame_foldl; intro _ _) | (with_reducible apply frame_adminRun (m := 2014881); intros) | with_reducible apply frame_setPower | (split) | (dsimp +zetaDelta only))

theorem frame_execHibernateRequest {s : State} (a) (save) : FrameO 2014881 s (execHibernateRequest a save s) := by
  unfold execHibernateRequest
  repeat' (first | with_reducible exact frame_refl _ _ | with_reducible exact Or.inr rfl | exact Or.inl rfl | exact (rfl : Nat.lor _ _ = _) | with_reducible assumption | extract_lets | with_reducible apply frame_ite | with_reducible apply frame_next | (with_reducible apply frame_upd; with_reducible exact Or.inr rfl; fail_if_success (iterate 23 (with_reducible exact Or.inr rfl))) | (with_reducible apply frame_foldl; intro _ _) | (with_reducible apply frame_adminRun (m := 2014881); intros) | with_reducible apply frame_setPower | (split) | (dsimp +zetaDelta only))

theorem frame_execTimestamp {s : State} (a) (ms) (save) : FrameO 34337 s (execTimestamp a ms save s) := by
  unfold execTimestamp
  repeat' (first | with_reducible exact frame_refl _ _ | with_reducible exact Or.inr rfl | exact Or.inl rfl | exact (rfl : Nat.lor _ _ = _) | with_reducible assumption | extract_lets | with_reducible apply frame_ite | with_reducible apply frame_next | (with_reducible apply frame_upd; with_reducible exact Or.inr rfl; fail_if_success (iterate 23 (with_reducible exact Or.inr rfl))) | (with_reducible apply frame_foldl; intro _ _) | with_reducible apply frame_raise | with_reducible apply frame_reply | (with_reducible apply frame_adminRun (m := 34337); intros) | (split) | (dsimp +zetaDelta only))

theorem frame_execSetFeatures {s : State} (a) (fid) (value) (save) : FrameO 2014881 s (execSetFeatures a fid value save s) := by
  unfold execSetFeatures
  repeat' (first | with_reducible exact frame_refl _ _ | with_reducible exact Or.inr rfl | exact Or.inl rfl | exact (rfl : Nat.lor _ _ = _) | with_reducible assumption | extract_lets | with_reducible apply frame_ite | with_reducible apply frame_next | (with_reducible apply frame_upd; with_reducible exact Or.inr rfl; fail_if_success (iterate 23 (with_reducible exact Or.inr rfl))) | (with_reducible apply frame_foldl; intro _ _) | with_reducible apply frame_setCtrl | with_reducible apply frame_reply | (with_reducible apply frame_adminRun (m := 2014881); intros) | with_reducible apply frame_setPower | (split) | (dsimp +zetaDelta only))

theorem frame_execGetFeatures {s : State} (a) (fid) (sel) (value) : FrameO 34305 s (execGetFeatures a fid sel value s) := by
  unfold execGetFeatures
  repeat' (first | with_reducible exact frame_refl _ _ | with_reducible exact Or.inr rfl | exact Or.inl rfl | exact (rfl : Nat.lor _ _ = _) | with_reducible assumption | extract_lets | with_reducible apply frame_ite | with_reducible apply frame_next | (with_reducible apply frame_upd; with_reducible exact Or.inr rfl; fail_if_success (iterate 23 (with_reducible exact Or.inr rfl))) | (with_reducible apply frame_foldl; intro _ _) | with_reducible apply frame_reply | with_reducible apply frame_replyData | (with_reducible apply frame_adminRun (m := 34305); intros) | (split) | (dsimp +zetaDelta only))

theorem frame_nsCreate {s : State} {x : NsAsk} {quota : Option Nat} {n : Nat} {t : State} (e : State.nsCreate s x quota = .ok (n, t)) :
    Frame 4097 s t := by
  unfold State.nsCreate at e
  extract_lets at e
  repeat' (first | extract_lets at e | (split at e))
  all_goals (first | rw [← (Prod.mk.inj (Except.ok.inj e)).2] | contradiction)
  all_goals (repeat' (first | with_reducible exact frame_refl _ _ | (with_reducible apply frame_upd; with_reducible exact Or.inr rfl; fail_if_success (iterate 23 (with_reducible exact Or.inr rfl))) | with_reducible exact Or.inr rfl | exact Or.inl rfl | exact (rfl : Nat.lor _ _ = _) | with_reducible apply frame_syncExport))

theorem frame_nsChanged {M : Nat} {s0 s : State} (f) (nsid) (hM : Nat.lor 32768 M = M) (h0 : Frame M s0 s) : Frame M s0 (State.nsChanged s f nsid) := by
  refine frame_trans (k := 32768) ?_ hM h0
  unfold State.nsChanged
  repeat' (first | with_reducible exact frame_refl _ _ | with_reducible exact Or.inr rfl | exact Or.inl rfl | exact (rfl : Nat.lor _ _ = _) | with_reducible assumption | extract_lets | with_reducible apply frame_ite | with_reducible apply frame_next | (with_reducible apply frame_upd; with_reducible exact Or.inr rfl; fail_if_success (iterate 23 (with_reducible exact Or.inr rfl))) | (with_reducible apply frame_foldl; intro _ _) | with_reducible apply frame_setCtrl | with_reducible apply frame_asyncEvent | (split) | (dsimp +zetaDelta only))

theorem frame_nsDefer {M : Nat} {s0 s : State} (f) (cid) (nsid) (fmt) (hM : Nat.lor 2014721 M = M) (h0 : Frame M s0 s) : Frame M s0 (State.nsDefer s f cid nsid fmt) := by
  refine frame_trans (k := 2014721) ?_ hM h0
  unfold State.nsDefer
  repeat' (first | with_reducible exact frame_refl _ _ | with_reducible exact Or.inr rfl | exact Or.inl rfl | exact (rfl : Nat.lor _ _ = _) | with_reducible assumption | extract_lets | with_reducible apply frame_ite | with_reducible apply frame_next | (with_reducible apply frame_upd; with_reducible exact Or.inr rfl; fail_if_success (iterate 23 (with_reducible exact Or.inr rfl))) | (with_reducible apply frame_foldl; intro _ _) | with_reducible apply frame_kick | (split) | (dsimp +zetaDelta only))

theorem frame_nsManage {M : Nat} {s0 s : State} (f) (cid) (quota) (q) (data) (hM : Nat.lor 2014721 M = M) (h0 : Frame M s0 s) : Frame M s0 (State.nsManage s f cid quota q data) := by
  refine frame_trans (k := 2014721) ?_ hM h0
  unfold State.nsManage
  repeat' (first | with_reducible exact frame_refl _ _ | with_reducible exact Or.inr rfl | exact Or.inl rfl | exact (rfl : Nat.lor _ _ = _) | with_reducible assumption | extract_lets | with_reducible apply frame_ite | with_reducible apply frame_next | (with_reducible apply frame_upd; with_reducible exact Or.inr rfl; fail_if_success (iterate 23 (with_reducible exact Or.inr rfl))) | (with_reducible apply frame_foldl; intro _ _) | with_reducible apply frame_reply | (with_reducible refine frame_trans (frame_nsCreate (by assumption)) ?_ ?_) | with_reducible apply frame_nsChanged | with_reducible apply frame_nsDefer | (split) | (dsimp +zetaDelta only))

theorem frame_nsAttach {M : Nat} {s0 s : State} (f) (cid) (quota) (q) (data) (hM : Nat.lor 38401 M = M) (h0 : Frame M s0 s) : Frame M s0 (State.nsAttach s f cid quota q data) := by
  refine frame_trans (k := 38401) ?_ hM h0
  unfold State.nsAttach
  repeat' (first | with_reducible exact frame_refl _ _ | with_reducible exact Or.inr rfl | exact Or.inl rfl | exact (rfl : Nat.lor _ _ = _) | with_reducible assumption | extract_lets | with_reducible apply frame_ite | with_reducible apply frame_next | (with_reducible apply frame_upd; with_reducible exact Or.inr rfl; fail_if_success (iterate 23 (with_reducible exact Or.inr rfl))) | (with_reducible apply frame_foldl; intro _ _) | with_reducible apply frame_reply | with_reducible apply frame_nsChanged | (split) | (dsimp +zetaDelta only))

theorem frame_nsFormat {M : Nat} {s0 s : State} (f) (cid) (q) (hM : Nat.lor 2014721 M = M) (h0 : Frame M s0 s) : Frame M s0 (State.nsFormat s f cid q) := by
  refine frame_trans (k := 2014721) ?_ hM h0
  unfold State.nsFormat
  repeat' (first | with_reducible exact frame_refl _ _ | with_reducible exact Or.inr rfl | exact Or.inl rfl | exact (rfl : Nat.lor _ _ = _) | with_reducible assumption | extract_lets | with_reducible apply frame_ite | with_reducible apply frame_next | (with_reducible apply frame_upd; with_reducible exact Or.inr rfl; fail_if_success (iterate 23 (with_reducible exact Or.inr rfl))) | (with_reducible apply frame_foldl; intro _ _) | with_reducible apply frame_reply | with_reducible apply frame_nsDefer | (split) | (dsimp +zetaDelta only))

theorem frame_mediate {M : Nat} {s0 s : State} (f) (cid) (q) (data) (hM : Nat.lor 34305 M = M) (h0 : Frame M s0 s) : Frame M s0 (State.mediate s f cid q data) := by
  refine frame_trans (k := 34305) ?_ hM h0
  unfold State.mediate
  repeat' (first | with_reducible exact frame_refl _ _ | with_reducible exact Or.inr rfl | exact Or.inl rfl | exact (rfl : Nat.lor _ _ = _) | with_reducible assumption | extract_lets | with_reducible apply frame_ite | with_reducible apply frame_next | (with_reducible apply frame_upd; with_reducible exact Or.inr rfl; fail_if_success (iterate 23 (with_reducible exact Or.inr rfl))) | (with_reducible apply frame_foldl; intro _ _) | with_reducible apply frame_raise | with_reducible apply frame_reply | (split) | (dsimp +zetaDelta only))

theorem frame_runMediated {M : Nat} {s0 s : State} (r) (hM : Nat.lor 2014721 M = M) (h0 : Frame M s0 s) : Frame M s0 (State.runMediated s r) := by
  refine frame_trans (k := 2014721) ?_ hM h0
  unfold State.runMediated
  repeat' (first | with_reducible exact frame_refl _ _ | with_reducible exact Or.inr rfl | exact Or.inl rfl | exact (rfl : Nat.lor _ _ = _) | with_reducible assumption | extract_lets | with_reducible apply frame_ite | with_reducible apply frame_next | (with_reducible apply frame_upd; with_reducible exact Or.inr rfl; fail_if_success (iterate 23 (with_reducible exact Or.inr rfl))) | (with_reducible apply frame_foldl; intro _ _) | with_reducible apply frame_reply | with_reducible apply frame_nsManage | with_reducible apply frame_nsAttach | with_reducible apply frame_nsFormat | (split) | (dsimp +zetaDelta only))

theorem frame_nsRow {m M : Nat} {s0 s : State} (a) (q) (data) (g) (hf : ∀ t c, Frame m t (g t c)) (hK : Nat.lor 34305 m = m) (hM : Nat.lor m M = M) (h0 : Frame M s0 s) :
    Frame M s0 (State.nsRow s a q data g) := by
  refine frame_trans (k := m) ?_ hM h0
  unfold State.nsRow
  repeat' (first | with_reducible exact frame_refl _ _ | with_reducible exact Or.inr rfl | exact Or.inl rfl | with_reducible assumption | extract_lets | with_reducible apply frame_ite | with_reducible apply frame_next | (with_reducible apply frame_upd; with_reducible exact Or.inr rfl; fail_if_success (iterate 23 (with_reducible exact Or.inr rfl))) | (with_reducible apply frame_foldl; intro _ _) | (exact lor_sub rfl hK) | with_reducible exact hK | (with_reducible refine frame_trans (hf _ _) (lor_self m) ?_) | (with_reducible apply frame_adminRun (m := m); intros) | exact lor_self m | with_reducible apply frame_mediate | (split) | (dsimp +zetaDelta only))

theorem frame_execNamespaceManagement {s : State} (a) (q) (data) : FrameO 2014721 s (execNamespaceManagement a q data s) := by
  unfold execNamespaceManagement
  repeat' (first | with_reducible exact frame_refl _ _ | with_reducible exact Or.inr rfl | exact Or.inl rfl | exact (rfl : Nat.lor _ _ = _) | with_reducible assumption | extract_lets | with_reducible apply frame_ite | with_reducible apply frame_next | (with_reducible apply frame_upd; with_reducible exact Or.inr rfl; fail_if_success (iterate 23 (with_reducible exact Or.inr rfl))) | (with_reducible apply frame_foldl; intro _ _) | with_reducible apply frame_nsManage | (with_reducible apply frame_nsRow (m := 2014721); intros) | (split) | (dsimp +zetaDelta only))

theorem frame_execNamespaceAttachment {s : State} (a) (q) (data) : FrameO 38401 s (execNamespaceAttachment a q data s) := by
  unfold execNamespaceAttachment
  repeat' (first | with_reducible exact frame_refl _ _ | with_reducible exact Or.inr rfl | exact Or.inl rfl | exact (rfl : Nat.lor _ _ = _) | with_reducible assumption | extract_lets | with_reducible apply frame_ite | with_reducible apply frame_next | (with_reducible apply frame_upd; with_reducible exact Or.inr rfl; fail_if_success (iterate 23 (with_reducible exact Or.inr rfl))) | (with_reducible apply frame_foldl; intro _ _) | with_reducible apply frame_nsAttach | (with_reducible apply frame_nsRow (m := 38401); intros) | (split) | (dsimp +zetaDelta only))

theorem frame_execFormatNvm {s : State} (a) (q) : FrameO 2014721 s (execFormatNvm a q s) := by
  unfold execFormatNvm
  repeat' (first | with_reducible exact frame_refl _ _ | with_reducible exact Or.inr rfl | exact Or.inl rfl | exact (rfl : Nat.lor _ _ = _) | with_reducible assumption | extract_lets | with_reducible apply frame_ite | with_reducible apply frame_next | (with_reducible apply frame_upd; with_reducible exact Or.inr rfl; fail_if_success (iterate 23 (with_reducible exact Or.inr rfl))) | (with_reducible apply frame_foldl; intro _ _) | with_reducible apply frame_nsFormat | (with_reducible apply frame_nsRow (m := 2014721); intros) | (split) | (dsimp +zetaDelta only))

theorem frame_execMediatedCommand {s : State} (func) (cid) (q) (data) : FrameO 34305 s (execMediatedCommand func cid q data s) := by
  unfold execMediatedCommand
  repeat' (first | with_reducible exact frame_refl _ _ | with_reducible exact Or.inr rfl | exact Or.inl rfl | exact (rfl : Nat.lor _ _ = _) | with_reducible assumption | extract_lets | with_reducible apply frame_ite | with_reducible apply frame_next | (with_reducible apply frame_upd; with_reducible exact Or.inr rfl; fail_if_success (iterate 23 (with_reducible exact Or.inr rfl))) | (with_reducible apply frame_foldl; intro _ _) | with_reducible apply frame_reply | with_reducible apply frame_keepAlive | with_reducible apply frame_mediate | (split) | (dsimp +zetaDelta only))

theorem frame_beginUpdate {M : Nat} {s0 s : State} (u) (hM : Nat.lor 257 M = M) (h0 : Frame M s0 s) : Frame M s0 (State.beginUpdate s u) := by
  refine frame_trans (k := 257) ?_ hM h0
  unfold State.beginUpdate
  repeat' (first | with_reducible exact frame_refl _ _ | with_reducible exact Or.inr rfl | exact Or.inl rfl | exact (rfl : Nat.lor _ _ = _) | with_reducible assumption | extract_lets | with_reducible apply frame_ite | with_reducible apply frame_next | (with_reducible apply frame_upd; with_reducible exact Or.inr rfl; fail_if_success (iterate 23 (with_reducible exact Or.inr rfl))) | (with_reducible apply frame_foldl; intro _ _) | with_reducible apply frame_updKick | (split) | (dsimp +zetaDelta only))

theorem frame_commitHost {M : Nat} {s0 s : State} (v) (x2) (hM : Nat.lor 34561 M = M) (h0 : Frame M s0 s) : Frame M s0 (State.commitHost s v x2) := by
  refine frame_trans (k := 34561) ?_ hM h0
  unfold State.commitHost
  repeat' (first | with_reducible exact frame_refl _ _ | with_reducible exact Or.inr rfl | exact Or.inl rfl | exact (rfl : Nat.lor _ _ = _) | with_reducible assumption | extract_lets | with_reducible apply frame_ite | with_reducible apply frame_next | (with_reducible apply frame_upd; with_reducible exact Or.inr rfl; fail_if_success (iterate 23 (with_reducible exact Or.inr rfl))) | (with_reducible apply frame_foldl; intro _ _) | with_reducible apply frame_reply | with_reducible apply frame_beginUpdate | (split) | (dsimp +zetaDelta only))

theorem frame_commitMaint {M : Nat} {s0 s : State} (v) (n) (hM : Nat.lor 34561 M = M) (h0 : Frame M s0 s) : Frame M s0 (State.commitMaint s v n) := by
  refine frame_trans (k := 34561) ?_ hM h0
  unfold State.commitMaint
  repeat' (first | with_reducible exact frame_refl _ _ | with_reducible exact Or.inr rfl | exact Or.inl rfl | exact (rfl : Nat.lor _ _ = _) | with_reducible assumption | extract_lets | with_reducible apply frame_ite | with_reducible apply frame_next | (with_reducible apply frame_upd; with_reducible exact Or.inr rfl; fail_if_success (iterate 23 (with_reducible exact Or.inr rfl))) | (with_reducible apply frame_foldl; intro _ _) | with_reducible apply frame_reply | with_reducible apply frame_beginUpdate | (split) | (dsimp +zetaDelta only))

theorem frame_commitUpdate {M : Nat} {s0 s : State} (v) (n) (hM : Nat.lor 34561 M = M) (h0 : Frame M s0 s) : Frame M s0 (State.commitUpdate s v n) := by
  refine frame_trans (k := 34561) ?_ hM h0
  unfold State.commitUpdate
  repeat' (first | with_reducible exact frame_refl _ _ | with_reducible exact Or.inr rfl | exact Or.inl rfl | exact (rfl : Nat.lor _ _ = _) | with_reducible assumption | extract_lets | with_reducible apply frame_ite | with_reducible apply frame_next | (with_reducible apply frame_upd; with_reducible exact Or.inr rfl; fail_if_success (iterate 23 (with_reducible exact Or.inr rfl))) | (with_reducible apply frame_foldl; intro _ _) | with_reducible apply frame_reply | with_reducible apply frame_commitHost | with_reducible apply frame_commitMaint | (split) | (dsimp +zetaDelta only))

theorem frame_commitMark {M : Nat} {s0 s : State} (v) (n) (hM : Nat.lor 34561 M = M) (h0 : Frame M s0 s) : Frame M s0 (State.commitMark s v n) := by
  refine frame_trans (k := 34561) ?_ hM h0
  unfold State.commitMark
  repeat' (first | with_reducible exact frame_refl _ _ | with_reducible exact Or.inr rfl | exact Or.inl rfl | exact (rfl : Nat.lor _ _ = _) | with_reducible assumption | extract_lets | with_reducible apply frame_ite | with_reducible apply frame_next | (with_reducible apply frame_upd; with_reducible exact Or.inr rfl; fail_if_success (iterate 23 (with_reducible exact Or.inr rfl))) | (with_reducible apply frame_foldl; intro _ _) | with_reducible apply frame_reply | with_reducible apply frame_beginUpdate | (split) | (dsimp +zetaDelta only))

theorem frame_execFirmwareCommitUpdate {s : State} (a) (action) (slot) : FrameO 34561 s (execFirmwareCommitUpdate a action slot s) := by
  unfold execFirmwareCommitUpdate
  repeat' (first | with_reducible exact frame_refl _ _ | with_reducible exact Or.inr rfl | exact Or.inl rfl | exact (rfl : Nat.lor _ _ = _) | with_reducible assumption | extract_lets | with_reducible apply frame_ite | with_reducible apply frame_next | (with_reducible apply frame_upd; with_reducible exact Or.inr rfl; fail_if_success (iterate 23 (with_reducible exact Or.inr rfl))) | (with_reducible apply frame_foldl; intro _ _) | with_reducible apply frame_reply | (with_reducible apply frame_adminRun (m := 34561); intros) | with_reducible apply frame_commitUpdate | with_reducible apply frame_commitMark | (split) | (dsimp +zetaDelta only))

theorem frame_execFirmwareCommitMark {s : State} (a) (slot) : FrameO 34561 s (execFirmwareCommitMark a slot s) := by
  unfold execFirmwareCommitMark
  repeat' (first | with_reducible exact frame_refl _ _ | with_reducible exact Or.inr rfl | exact Or.inl rfl | exact (rfl : Nat.lor _ _ = _) | with_reducible assumption | extract_lets | with_reducible apply frame_ite | with_reducible apply frame_next | (with_reducible apply frame_upd; with_reducible exact Or.inr rfl; fail_if_success (iterate 23 (with_reducible exact Or.inr rfl))) | (with_reducible apply frame_foldl; intro _ _) | (with_reducible apply frame_adminRun (m := 34561); intros) | with_reducible apply frame_commitMark | (split) | (dsimp +zetaDelta only))

theorem frame_stage {M : Nat} {s0 s : State} (offset) (data) (hM : Nat.lor 256 M = M) (h0 : Frame M s0 s) : Frame M s0 (State.stage s offset data) := by
  refine frame_trans (k := 256) ?_ hM h0
  unfold State.stage
  repeat' (first | with_reducible exact frame_refl _ _ | with_reducible exact Or.inr rfl | exact Or.inl rfl | exact (rfl : Nat.lor _ _ = _) | with_reducible assumption | extract_lets | with_reducible apply frame_ite | with_reducible apply frame_next | (with_reducible apply frame_upd; with_reducible exact Or.inr rfl; fail_if_success (iterate 23 (with_reducible exact Or.inr rfl))) | (with_reducible apply frame_foldl; intro _ _) | (split) | (dsimp +zetaDelta only))

theorem frame_begin0 {M : Nat} {s0 s : State} (v) (data) (hM : Nat.lor 34561 M = M) (h0 : Frame M s0 s) : Frame M s0 (State.begin0 s v data) := by
  refine frame_trans (k := 34561) ?_ hM h0
  unfold State.begin0
  repeat' (first | with_reducible exact frame_refl _ _ | with_reducible exact Or.inr rfl | exact Or.inl rfl | exact (rfl : Nat.lor _ _ = _) | with_reducible assumption | extract_lets | with_reducible apply frame_ite | with_reducible apply frame_next | (with_reducible apply frame_upd; with_reducible exact Or.inr rfl; fail_if_success (iterate 23 (with_reducible exact Or.inr rfl))) | (with_reducible apply frame_foldl; intro _ _) | with_reducible apply frame_reply | with_reducible apply frame_beginUpdate | with_reducible apply frame_stage | (split) | (dsimp +zetaDelta only))

theorem frame_downloadMaint {M : Nat} {s0 s : State} (v) (offset) (data) (hM : Nat.lor 34561 M = M) (h0 : Frame M s0 s) : Frame M s0 (State.downloadMaint s v offset data) := by
  refine frame_trans (k := 34561) ?_ hM h0
  unfold State.downloadMaint
  repeat' (first | with_reducible exact frame_refl _ _ | with_reducible exact Or.inr rfl | exact Or.inl rfl | exact (rfl : Nat.lor _ _ = _) | with_reducible assumption | extract_lets | with_reducible apply frame_ite | with_reducible apply frame_next | (with_reducible apply frame_upd; with_reducible exact Or.inr rfl; fail_if_success (iterate 23 (with_reducible exact Or.inr rfl))) | (with_reducible apply frame_foldl; intro _ _) | with_reducible apply frame_reply | with_reducible apply frame_beginUpdate | with_reducible apply frame_stage | with_reducible apply frame_begin0 | (split) | (dsimp +zetaDelta only))

theorem frame_execFirmwareImageDownload {s : State} (a) (offset) (length) (data) : FrameO 34561 s (execFirmwareImageDownload a offset length data s) := by
  unfold execFirmwareImageDownload
  repeat' (first | with_reducible exact frame_refl _ _ | with_reducible exact Or.inr rfl | exact Or.inl rfl | exact (rfl : Nat.lor _ _ = _) | with_reducible assumption | extract_lets | with_reducible apply frame_ite | with_reducible apply frame_next | (with_reducible apply frame_upd; with_reducible exact Or.inr rfl; fail_if_success (iterate 23 (with_reducible exact Or.inr rfl))) | (with_reducible apply frame_foldl; intro _ _) | with_reducible apply frame_reply | (with_reducible apply frame_adminRun (m := 34561); intros) | with_reducible apply frame_stage | with_reducible apply frame_downloadMaint | (split) | (dsimp +zetaDelta only))

theorem frame_setQp {M : Nat} {s0 s : State} (i) (q) (hM : Nat.lor 524288 M = M) (h0 : Frame M s0 s) : Frame M s0 (State.setQp s i q) := by
  refine frame_trans (k := 524288) ?_ hM h0
  unfold State.setQp
  repeat' (first | with_reducible exact frame_refl _ _ | with_reducible exact Or.inr rfl | exact Or.inl rfl | exact (rfl : Nat.lor _ _ = _) | with_reducible assumption | extract_lets | with_reducible apply frame_ite | with_reducible apply frame_next | (with_reducible apply frame_upd; with_reducible exact Or.inr rfl; fail_if_success (iterate 23 (with_reducible exact Or.inr rfl))) | (with_reducible apply frame_foldl; intro _ _) | (split) | (dsimp +zetaDelta only))

theorem frame_execCmReq {s : State} (port) (src) : FrameO 525825 s (execCmReq port src s) := by
  unfold execCmReq
  repeat' (first | with_reducible exact frame_refl _ _ | with_reducible exact Or.inr rfl | exact Or.inl rfl | exact (rfl : Nat.lor _ _ = _) | with_reducible assumption | extract_lets | with_reducible apply frame_ite | with_reducible apply frame_next | (with_reducible apply frame_upd; with_reducible exact Or.inr rfl; fail_if_success (iterate 23 (with_reducible exact Or.inr rfl))) | (with_reducible apply frame_foldl; intro _ _) | with_reducible apply frame_raise | with_reducible apply frame_sendFrame | with_reducible apply frame_setQp | (split) | (dsimp +zetaDelta only))

theorem frame_execCeMarkedPacket {s : State} (qp) : FrameO 524288 s (execCeMarkedPacket qp s) := by
  unfold execCeMarkedPacket
  repeat' (first | with_reducible exact frame_refl _ _ | with_reducible exact Or.inr rfl | exact Or.inl rfl | exact (rfl : Nat.lor _ _ = _) | with_reducible assumption | extract_lets | with_reducible apply frame_ite | with_reducible apply frame_next | (with_reducible apply frame_upd; with_reducible exact Or.inr rfl; fail_if_success (iterate 23 (with_reducible exact Or.inr rfl))) | (with_reducible apply frame_foldl; intro _ _) | with_reducible apply frame_setPort | with_reducible apply frame_sendFrame | with_reducible apply frame_setQp | (split) | (dsimp +zetaDelta only))

theorem frame_execCnpReceive {s : State} (qp) : FrameO 524288 s (execCnpReceive qp s) := by
  unfold execCnpReceive
  repeat' (first | with_reducible exact frame_refl _ _ | with_reducible exact Or.inr rfl | exact Or.inl rfl | exact (rfl : Nat.lor _ _ = _) | with_reducible assumption | extract_lets | with_reducible apply frame_ite | with_reducible apply frame_next | (with_reducible apply frame_upd; with_reducible exact Or.inr rfl; fail_if_success (iterate 23 (with_reducible exact Or.inr rfl))) | (with_reducible apply frame_foldl; intro _ _) | with_reducible apply frame_setQp | (split) | (dsimp +zetaDelta only))

theorem frame_execRateRecovery {s : State} (qp) : FrameO 524288 s (execRateRecovery qp s) := by
  unfold execRateRecovery
  repeat' (first | with_reducible exact frame_refl _ _ | with_reducible exact Or.inr rfl | exact Or.inl rfl | exact (rfl : Nat.lor _ _ = _) | with_reducible assumption | extract_lets | with_reducible apply frame_ite | with_reducible apply frame_next | (with_reducible apply frame_upd; with_reducible exact Or.inr rfl; fail_if_success (iterate 23 (with_reducible exact Or.inr rfl))) | (with_reducible apply frame_foldl; intro _ _) | with_reducible apply frame_setQp | (split) | (dsimp +zetaDelta only))

theorem frame_execPfcPauseReceive {s : State} (port) (cnp) : FrameO 524288 s (execPfcPauseReceive port cnp s) := by
  unfold execPfcPauseReceive
  repeat' (first | with_reducible exact frame_refl _ _ | with_reducible exact Or.inr rfl | exact Or.inl rfl | exact (rfl : Nat.lor _ _ = _) | with_reducible assumption | extract_lets | with_reducible apply frame_ite | with_reducible apply frame_next | (with_reducible apply frame_upd; with_reducible exact Or.inr rfl; fail_if_success (iterate 23 (with_reducible exact Or.inr rfl))) | (with_reducible apply frame_foldl; intro _ _) | with_reducible apply frame_setPort | (split) | (dsimp +zetaDelta only))

theorem frame_execPfcPauseExpiry {s : State} (port) (cnp) : FrameO 524288 s (execPfcPauseExpiry port cnp s) := by
  unfold execPfcPauseExpiry
  repeat' (first | with_reducible exact frame_refl _ _ | with_reducible exact Or.inr rfl | exact Or.inl rfl | exact (rfl : Nat.lor _ _ = _) | with_reducible assumption | extract_lets | with_reducible apply frame_ite | with_reducible apply frame_next | (with_reducible apply frame_upd; with_reducible exact Or.inr rfl; fail_if_success (iterate 23 (with_reducible exact Or.inr rfl))) | (with_reducible apply frame_foldl; intro _ _) | with_reducible apply frame_setPort | with_reducible apply frame_sendFrame | (split) | (dsimp +zetaDelta only))

theorem frame_execPfcXon {s : State} (port) (bytes) : FrameO 525825 s (execPfcXon port bytes s) := by
  unfold execPfcXon
  repeat' (first | with_reducible exact frame_refl _ _ | with_reducible exact Or.inr rfl | exact Or.inl rfl | exact (rfl : Nat.lor _ _ = _) | with_reducible assumption | extract_lets | with_reducible apply frame_ite | with_reducible apply frame_next | (with_reducible apply frame_upd; with_reducible exact Or.inr rfl; fail_if_success (iterate 23 (with_reducible exact Or.inr rfl))) | (with_reducible apply frame_foldl; intro _ _) | with_reducible apply frame_rxLevel | (split) | (dsimp +zetaDelta only))

theorem frame_execArpRequest {s : State} (port) (own) : FrameO 524288 s (execArpRequest port own s) := by
  unfold execArpRequest
  repeat' (first | with_reducible exact frame_refl _ _ | with_reducible exact Or.inr rfl | exact Or.inl rfl | exact (rfl : Nat.lor _ _ = _) | with_reducible assumption | extract_lets | with_reducible apply frame_ite | with_reducible apply frame_next | (with_reducible apply frame_upd; with_reducible exact Or.inr rfl; fail_if_success (iterate 23 (with_reducible exact Or.inr rfl))) | (with_reducible apply frame_foldl; intro _ _) | with_reducible apply frame_sendFrame | (split) | (dsimp +zetaDelta only))

theorem frame_execNeighborDiscovery {s : State} (port) (own) : FrameO 524288 s (execNeighborDiscovery port own s) := by
  unfold execNeighborDiscovery
  repeat' (first | with_reducible exact frame_refl _ _ | with_reducible exact Or.inr rfl | exact Or.inl rfl | exact (rfl : Nat.lor _ _ = _) | with_reducible assumption | extract_lets | with_reducible apply frame_ite | with_reducible apply frame_next | (with_reducible apply frame_upd; with_reducible exact Or.inr rfl; fail_if_success (iterate 23 (with_reducible exact Or.inr rfl))) | (with_reducible apply frame_foldl; intro _ _) | with_reducible apply frame_sendFrame | (split) | (dsimp +zetaDelta only))

theorem frame_execWakeFrame {s : State} (port) (form) (token) (roce) : FrameO 2014881 s (execWakeFrame port form token roce s) := by
  unfold execWakeFrame
  repeat' (first | with_reducible exact frame_refl _ _ | with_reducible exact Or.inr rfl | exact Or.inl rfl | exact (rfl : Nat.lor _ _ = _) | with_reducible assumption | extract_lets | with_reducible apply frame_ite | with_reducible apply frame_next | (with_reducible apply frame_upd; with_reducible exact Or.inr rfl; fail_if_success (iterate 23 (with_reducible exact Or.inr rfl))) | (with_reducible apply frame_foldl; intro _ _) | with_reducible apply frame_wakeEvent | (split) | (dsimp +zetaDelta only))

theorem frame_countFec {M : Nat} {s0 s : State} (p) (corr) (uncorr) (hM : Nat.lor 1 M = M) (h0 : Frame M s0 s) : Frame M s0 (State.countFec s p corr uncorr) := by
  refine frame_trans (k := 1) ?_ hM h0
  unfold State.countFec
  repeat' (first | with_reducible exact frame_refl _ _ | with_reducible exact Or.inr rfl | exact Or.inl rfl | exact (rfl : Nat.lor _ _ = _) | with_reducible assumption | extract_lets | with_reducible apply frame_ite | with_reducible apply frame_next | (with_reducible apply frame_upd; with_reducible exact Or.inr rfl; fail_if_success (iterate 23 (with_reducible exact Or.inr rfl))) | (with_reducible apply frame_foldl; intro _ _) | with_reducible apply frame_countFld | (split) | (dsimp +zetaDelta only))

theorem frame_execLinkUp {s : State} (port) (corr) (uncorr) : FrameO 1 s (execLinkUp port corr uncorr s) := by
  unfold execLinkUp
  repeat' (first | with_reducible exact frame_refl _ _ | with_reducible exact Or.inr rfl | exact Or.inl rfl | exact (rfl : Nat.lor _ _ = _) | with_reducible assumption | extract_lets | with_reducible apply frame_ite | with_reducible apply frame_next | (with_reducible apply frame_upd; with_reducible exact Or.inr rfl; fail_if_success (iterate 23 (with_reducible exact Or.inr rfl))) | (with_reducible apply frame_foldl; intro _ _) | with_reducible apply frame_setReg | with_reducible apply frame_countFec | (split) | (dsimp +zetaDelta only))

theorem frame_silence {M : Nat} {s0 s : State} (h) (hM : Nat.lor 175617 M = M) (h0 : Frame M s0 s) : Frame M s0 (State.silence s h) := by
  refine frame_trans (k := 175617) ?_ hM h0
  unfold State.silence
  repeat' (first | with_reducible exact frame_refl _ _ | with_reducible exact Or.inr rfl | exact Or.inl rfl | exact (rfl : Nat.lor _ _ = _) | with_reducible assumption | extract_lets | with_reducible apply frame_ite | with_reducible apply frame_next | (with_reducible apply frame_upd; with_reducible exact Or.inr rfl; fail_if_success (iterate 23 (with_reducible exact Or.inr rfl))) | (with_reducible apply frame_foldl; intro _ _) | with_reducible apply frame_setCmd | with_reducible apply frame_finish | (split) | (dsimp +zetaDelta only))

theorem frame_mintCut {M : Nat} {s0 s : State} (h) (hM : Nat.lor 2014721 M = M) (h0 : Frame M s0 s) : Frame M s0 (State.mintCut s h) := by
  refine frame_trans (k := 2014721) ?_ hM h0
  unfold State.mintCut
  repeat' (first | with_reducible exact frame_refl _ _ | with_reducible exact Or.inr rfl | exact Or.inl rfl | exact (rfl : Nat.lor _ _ = _) | with_reducible assumption | extract_lets | with_reducible apply frame_ite | with_reducible apply frame_next | (with_reducible apply frame_upd; with_reducible exact Or.inr rfl; fail_if_success (iterate 23 (with_reducible exact Or.inr rfl))) | (with_reducible apply frame_foldl; intro _ _) | with_reducible apply frame_toPost | with_reducible apply frame_freeLane | with_reducible apply frame_mintEnd | (split) | (dsimp +zetaDelta only))

theorem frame_failQps {M : Nat} {s0 s : State} (qs) (hM : Nat.lor 2014721 M = M) (h0 : Frame M s0 s) : Frame M s0 (State.failQps s qs) := by
  refine frame_trans (k := 2014721) ?_ hM h0
  unfold State.failQps
  repeat' (first | with_reducible exact frame_refl _ _ | with_reducible exact Or.inr rfl | exact Or.inl rfl | exact (rfl : Nat.lor _ _ = _) | with_reducible assumption | extract_lets | with_reducible apply frame_ite | with_reducible apply frame_next | (with_reducible apply frame_upd; with_reducible exact Or.inr rfl; fail_if_success (iterate 23 (with_reducible exact Or.inr rfl))) | (with_reducible apply frame_foldl; intro _ _) | with_reducible apply frame_kick | with_reducible apply frame_qpError | with_reducible apply frame_silence | with_reducible apply frame_mintCut | (split) | (dsimp +zetaDelta only))

theorem frame_execLinkDown {s : State} (port) (corr) (uncorr) : FrameO 2014721 s (execLinkDown port corr uncorr s) := by
  unfold execLinkDown
  repeat' (first | with_reducible exact frame_refl _ _ | with_reducible exact Or.inr rfl | exact Or.inl rfl | exact (rfl : Nat.lor _ _ = _) | with_reducible assumption | extract_lets | with_reducible apply frame_ite | with_reducible apply frame_next | (with_reducible apply frame_upd; with_reducible exact Or.inr rfl; fail_if_success (iterate 23 (with_reducible exact Or.inr rfl))) | (with_reducible apply frame_foldl; intro _ _) | with_reducible apply frame_setReg | with_reducible apply frame_setPort | with_reducible apply frame_raise | with_reducible apply frame_countFec | with_reducible apply frame_failQps | (split) | (dsimp +zetaDelta only))

theorem frame_execPcieLinkDown {s : State} : FrameO 32768 s (execPcieLinkDown s) := by
  unfold execPcieLinkDown
  repeat' (first | with_reducible exact frame_refl _ _ | with_reducible exact Or.inr rfl | exact Or.inl rfl | exact (rfl : Nat.lor _ _ = _) | with_reducible assumption | extract_lets | with_reducible apply frame_ite | with_reducible apply frame_next | (with_reducible apply frame_upd; with_reducible exact Or.inr rfl; fail_if_success (iterate 23 (with_reducible exact Or.inr rfl))) | (with_reducible apply frame_foldl; intro _ _) | (split) | (dsimp +zetaDelta only))

theorem frame_execKeepAliveTimeout {s : State} (func) : FrameO 32768 s (execKeepAliveTimeout func s) := by
  unfold execKeepAliveTimeout
  repeat' (first | with_reducible exact frame_refl _ _ | with_reducible exact Or.inr rfl | exact Or.inl rfl | exact (rfl : Nat.lor _ _ = _) | with_reducible assumption | extract_lets | with_reducible apply frame_ite | with_reducible apply frame_next | (with_reducible apply frame_upd; with_reducible exact Or.inr rfl; fail_if_success (iterate 23 (with_reducible exact Or.inr rfl))) | (with_reducible apply frame_foldl; intro _ _) | with_reducible apply frame_setCtrl | (split) | (dsimp +zetaDelta only))

theorem frame_fabricDone {M : Nat} {s0 s : State} (a) (qp) (cid) (x4) (dw0) (dw1) (hM : Nat.lor 32768 M = M) (h0 : Frame M s0 s) : Frame M s0 (State.fabricDone s a qp cid x4 dw0 dw1) := by
  refine frame_trans (k := 32768) ?_ hM h0
  unfold State.fabricDone
  repeat' (first | with_reducible exact frame_refl _ _ | with_reducible exact Or.inr rfl | exact Or.inl rfl | exact (rfl : Nat.lor _ _ = _) | with_reducible assumption | extract_lets | with_reducible apply frame_ite | with_reducible apply frame_next | (with_reducible apply frame_upd; with_reducible exact Or.inr rfl; fail_if_success (iterate 23 (with_reducible exact Or.inr rfl))) | (with_reducible apply frame_foldl; intro _ _) | (split) | (dsimp +zetaDelta only))

theorem frame_fabricRun {m M : Nat} {s0 s : State} (qp) (p) (g) (hf : ∀ t q, Frame m t (g t q)) (hK : Nat.lor 557056 m = m) (hM : Nat.lor m M = M) (h0 : Frame M s0 s) :
    Frame M s0 (State.fabricRun s qp p g) := by
  refine frame_trans (k := m) ?_ hM h0
  unfold State.fabricRun
  repeat' (first | with_reducible exact frame_refl _ _ | with_reducible exact Or.inr rfl | exact Or.inl rfl | with_reducible assumption | extract_lets | with_reducible apply frame_ite | with_reducible apply frame_next | (with_reducible apply frame_upd; with_reducible exact Or.inr rfl; fail_if_success (iterate 23 (with_reducible exact Or.inr rfl))) | (with_reducible apply frame_foldl; intro _ _) | (exact lor_sub rfl hK) | with_reducible exact hK | (with_reducible refine frame_trans (hf _ _) (lor_self m) ?_) | with_reducible apply frame_sendFrame | with_reducible apply frame_keepAlive | (split) | (dsimp +zetaDelta only))

theorem frame_execFabricsConnect {s : State} (qp) (cid) (cntlid) (qid) (size) : FrameO 557056 s (execFabricsConnect qp cid cntlid qid size s) := by
  unfold execFabricsConnect
  repeat' (first | with_reducible exact frame_refl _ _ | with_reducible exact Or.inr rfl | exact Or.inl rfl | exact (rfl : Nat.lor _ _ = _) | with_reducible assumption | extract_lets | with_reducible apply frame_ite | with_reducible apply frame_next | (with_reducible apply frame_upd; with_reducible exact Or.inr rfl; fail_if_success (iterate 23 (with_reducible exact Or.inr rfl))) | (with_reducible apply frame_foldl; intro _ _) | with_reducible apply frame_setQp | with_reducible apply frame_fabricDone | (with_reducible apply frame_fabricRun (m := 557056); intros) | (split) | (dsimp +zetaDelta only))

theorem frame_execPropertyGet {s : State} (qp) (cid) (offset) : FrameO 557056 s (execPropertyGet qp cid offset s) := by
  unfold execPropertyGet
  repeat' (first | with_reducible exact frame_refl _ _ | with_reducible exact Or.inr rfl | exact Or.inl rfl | exact (rfl : Nat.lor _ _ = _) | with_reducible assumption | extract_lets | with_reducible apply frame_ite | with_reducible apply frame_next | (with_reducible apply frame_upd; with_reducible exact Or.inr rfl; fail_if_success (iterate 23 (with_reducible exact Or.inr rfl))) | (with_reducible apply frame_foldl; intro _ _) | with_reducible apply frame_fabricDone | (with_reducible apply frame_fabricRun (m := 557056); intros) | (split) | (dsimp +zetaDelta only))

theorem frame_writeCc {M : Nat} {s0 s : State} (f) (v) (hM : Nat.lor 2096703 M = M) (h0 : Frame M s0 s) : Frame M s0 (State.writeCc s f v) := by
  refine frame_trans (k := 2096703) ?_ hM h0
  unfold State.writeCc
  repeat' (first | with_reducible exact frame_refl _ _ | with_reducible exact Or.inr rfl | exact Or.inl rfl | exact (rfl : Nat.lor _ _ = _) | with_reducible assumption | extract_lets | with_reducible apply frame_ite | with_reducible apply frame_next | (with_reducible apply frame_upd; with_reducible exact Or.inr rfl; fail_if_success (iterate 23 (with_reducible exact Or.inr rfl))) | (with_reducible apply frame_foldl; intro _ _) | with_reducible apply frame_setCtrl | with_reducible apply frame_writeEnOff | with_reducible apply frame_writeEnOn | with_reducible apply frame_shutdownVf | with_reducible apply frame_shutdownPf | (split) | (dsimp +zetaDelta only))

theorem frame_execPropertySet {s : State} (qp) (cid) (offset) (value) : FrameO 2096703 s (execPropertySet qp cid offset value s) := by
  unfold execPropertySet
  repeat' (first | with_reducible exact frame_refl _ _ | with_reducible exact Or.inr rfl | exact Or.inl rfl | exact (rfl : Nat.lor _ _ = _) | with_reducible assumption | extract_lets | with_reducible apply frame_ite | with_reducible apply frame_next | (with_reducible apply frame_upd; with_reducible exact Or.inr rfl; fail_if_success (iterate 23 (with_reducible exact Or.inr rfl))) | (with_reducible apply frame_foldl; intro _ _) | with_reducible apply frame_restartRequest | with_reducible apply frame_fabricDone | (with_reducible apply frame_fabricRun (m := 2096703); intros) | with_reducible apply frame_writeCc | (split) | (dsimp +zetaDelta only))

theorem frame_execDisconnect {s : State} (qp) (cid) : FrameO 2014721 s (execDisconnect qp cid s) := by
  unfold execDisconnect
  repeat' (first | with_reducible exact frame_refl _ _ | with_reducible exact Or.inr rfl | exact Or.inl rfl | exact (rfl : Nat.lor _ _ = _) | with_reducible assumption | extract_lets | with_reducible apply frame_ite | with_reducible apply frame_next | (with_reducible apply frame_upd; with_reducible exact Or.inr rfl; fail_if_success (iterate 23 (with_reducible exact Or.inr rfl))) | (with_reducible apply frame_foldl; intro _ _) | with_reducible apply frame_kick | with_reducible apply frame_setQp | with_reducible apply frame_silence | with_reducible apply frame_fabricDone | (with_reducible apply frame_fabricRun (m := 2014721); intros) | (split) | (dsimp +zetaDelta only))

theorem frame_execPlanSelect {s : State} (a) (plan) (level) : FrameO 36481 s (execPlanSelect a plan level s) := by
  unfold execPlanSelect
  repeat' (first | with_reducible exact frame_refl _ _ | with_reducible exact Or.inr rfl | exact Or.inl rfl | exact (rfl : Nat.lor _ _ = _) | with_reducible assumption | extract_lets | with_reducible apply frame_ite | with_reducible apply frame_next | (with_reducible apply frame_upd; with_reducible exact Or.inr rfl; fail_if_success (iterate 23 (with_reducible exact Or.inr rfl))) | (with_reducible apply frame_foldl; intro _ _) | with_reducible apply frame_planRequest | with_reducible apply frame_awaitPlan | (with_reducible apply frame_adminRun (m := 36481); intros) | (split) | (dsimp +zetaDelta only))

theorem frame_execPlanReqWrite {s : State} (who) (value) : FrameO 36481 s (execPlanReqWrite who value s) := by
  unfold execPlanReqWrite
  repeat' (first | with_reducible exact frame_refl _ _ | with_reducible exact Or.inr rfl | exact Or.inl rfl | exact (rfl : Nat.lor _ _ = _) | with_reducible assumption | extract_lets | with_reducible apply frame_ite | with_reducible apply frame_next | (with_reducible apply frame_upd; with_reducible exact Or.inr rfl; fail_if_success (iterate 23 (with_reducible exact Or.inr rfl))) | (with_reducible apply frame_foldl; intro _ _) | with_reducible apply frame_planRequest | (split) | (dsimp +zetaDelta only))

theorem frame_execPlanStatus {s : State} (a) : FrameO 34305 s (execPlanStatus a s) := by
  unfold execPlanStatus
  repeat' (first | with_reducible exact frame_refl _ _ | with_reducible exact Or.inr rfl | exact Or.inl rfl | exact (rfl : Nat.lor _ _ = _) | with_reducible assumption | extract_lets | with_reducible apply frame_ite | with_reducible apply frame_next | (with_reducible apply frame_upd; with_reducible exact Or.inr rfl; fail_if_success (iterate 23 (with_reducible exact Or.inr rfl))) | (with_reducible apply frame_foldl; intro _ _) | with_reducible apply frame_replyData | (with_reducible apply frame_adminRun (m := 34305); intros) | (split) | (dsimp +zetaDelta only))

theorem frame_execAccountQuiesce {s : State} (a) (account) : FrameO 2014721 s (execAccountQuiesce a account s) := by
  unfold execAccountQuiesce
  repeat' (first | with_reducible exact frame_refl _ _ | with_reducible exact Or.inr rfl | exact Or.inl rfl | exact (rfl : Nat.lor _ _ = _) | with_reducible assumption | extract_lets | with_reducible apply frame_ite | with_reducible apply frame_next | (with_reducible apply frame_upd; with_reducible exact Or.inr rfl; fail_if_success (iterate 23 (with_reducible exact Or.inr rfl))) | (with_reducible apply frame_foldl; intro _ _) | with_reducible apply frame_setAcct | with_reducible apply frame_reply | with_reducible apply frame_kick | with_reducible apply frame_startQuiesce | (with_reducible apply frame_adminRun (m := 2014721); intros) | (split) | (dsimp +zetaDelta only))

theorem frame_resumeMember {M : Nat} {s0 s : State} (m) (hM : Nat.lor 32769 M = M) (h0 : Frame M s0 s) : Frame M s0 (State.resumeMember s m) := by
  refine frame_trans (k := 32769) ?_ hM h0
  unfold State.resumeMember
  repeat' (first | with_reducible exact frame_refl _ _ | with_reducible exact Or.inr rfl | exact Or.inl rfl | exact (rfl : Nat.lor _ _ = _) | with_reducible assumption | extract_lets | with_reducible apply frame_ite | with_reducible apply frame_next | (with_reducible apply frame_upd; with_reducible exact Or.inr rfl; fail_if_success (iterate 23 (with_reducible exact Or.inr rfl))) | (with_reducible apply frame_foldl; intro _ _) | with_reducible apply frame_setFld | with_reducible apply frame_setAcct | with_reducible apply frame_readyNow | (split) | (dsimp +zetaDelta only))

theorem frame_execAccountResume {s : State} (a) (account) : FrameO 2014721 s (execAccountResume a account s) := by
  unfold execAccountResume
  repeat' (first | with_reducible exact frame_refl _ _ | with_reducible exact Or.inr rfl | exact Or.inl rfl | exact (rfl : Nat.lor _ _ = _) | with_reducible assumption | extract_lets | with_reducible apply frame_ite | with_reducible apply frame_next | (with_reducible apply frame_upd; with_reducible exact Or.inr rfl; fail_if_success (iterate 23 (with_reducible exact Or.inr rfl))) | (with_reducible apply frame_foldl; intro _ _) | with_reducible apply frame_reply | with_reducible apply frame_kick | (with_reducible apply frame_adminRun (m := 2014721); intros) | with_reducible apply frame_resumeMember | (split) | (dsimp +zetaDelta only))

theorem frame_execAccountBind {s : State} (a) (account) (x2) : FrameO 2014721 s (execAccountBind a account x2 s) := by
  unfold execAccountBind
  repeat' (first | with_reducible exact frame_refl _ _ | with_reducible exact Or.inr rfl | exact Or.inl rfl | exact (rfl : Nat.lor _ _ = _) | with_reducible assumption | extract_lets | with_reducible apply frame_ite | with_reducible apply frame_next | (with_reducible apply frame_upd; with_reducible exact Or.inr rfl; fail_if_success (iterate 23 (with_reducible exact Or.inr rfl))) | (with_reducible apply frame_foldl; intro _ _) | with_reducible apply frame_reply | with_reducible apply frame_kick | with_reducible apply frame_bindResult | with_reducible apply frame_bindNow | with_reducible apply frame_unbind | (with_reducible apply frame_adminRun (m := 2014721); intros) | (split) | (dsimp +zetaDelta only))

theorem frame_execAccountQuery {s : State} (a) (account) : FrameO 34305 s (execAccountQuery a account s) := by
  unfold execAccountQuery
  repeat' (first | with_reducible exact frame_refl _ _ | with_reducible exact Or.inr rfl | exact Or.inl rfl | exact (rfl : Nat.lor _ _ = _) | with_reducible assumption | extract_lets | with_reducible apply frame_ite | with_reducible apply frame_next | (with_reducible apply frame_upd; with_reducible exact Or.inr rfl; fail_if_success (iterate 23 (with_reducible exact Or.inr rfl))) | (with_reducible apply frame_foldl; intro _ _) | with_reducible apply frame_replyData | (with_reducible apply frame_adminRun (m := 34305); intros) | (split) | (dsimp +zetaDelta only))

theorem frame_execMediationReply {s : State} (a) (tag) (approve) : FrameO 2014721 s (execMediationReply a tag approve s) := by
  unfold execMediationReply
  repeat' (first | with_reducible exact frame_refl _ _ | with_reducible exact Or.inr rfl | exact Or.inl rfl | exact (rfl : Nat.lor _ _ = _) | with_reducible assumption | extract_lets | with_reducible apply frame_ite | with_reducible apply frame_next | (with_reducible apply frame_upd; with_reducible exact Or.inr rfl; fail_if_success (iterate 23 (with_reducible exact Or.inr rfl))) | (with_reducible apply frame_foldl; intro _ _) | with_reducible apply frame_reply | (with_reducible apply frame_adminRun (m := 2014721); intros) | with_reducible apply frame_runMediated | (split) | (dsimp +zetaDelta only))

theorem frame_execMediationReceive {s : State} (a) : FrameO 34305 s (execMediationReceive a s) := by
  unfold execMediationReceive
  repeat' (first | with_reducible exact frame_refl _ _ | with_reducible exact Or.inr rfl | exact Or.inl rfl | exact (rfl : Nat.lor _ _ = _) | with_reducible assumption | extract_lets | with_reducible apply frame_ite | with_reducible apply frame_next | (with_reducible apply frame_upd; with_reducible exact Or.inr rfl; fail_if_success (iterate 23 (with_reducible exact Or.inr rfl))) | (with_reducible apply frame_foldl; intro _ _) | with_reducible apply frame_reply | with_reducible apply frame_replyData | (with_reducible apply frame_adminRun (m := 34305); intros) | (split) | (dsimp +zetaDelta only))

theorem frame_execKeyLoad {s : State} (a) (slot) (k) : FrameO 296449 s (execKeyLoad a slot k s) := by
  unfold execKeyLoad
  repeat' (first | with_reducible exact frame_refl _ _ | with_reducible exact Or.inr rfl | exact Or.inl rfl | exact (rfl : Nat.lor _ _ = _) | with_reducible assumption | extract_lets | with_reducible apply frame_ite | with_reducible apply frame_next | (with_reducible apply frame_upd; with_reducible exact Or.inr rfl; fail_if_success (iterate 23 (with_reducible exact Or.inr rfl))) | (with_reducible apply frame_foldl; intro _ _) | with_reducible apply frame_setSlot | with_reducible apply frame_raise | with_reducible apply frame_reply | (with_reducible apply frame_adminRun (m := 296449); intros) | (split) | (dsimp +zetaDelta only))

theorem frame_restartNow {M : Nat} {s0 s : State} (v) (why) (c) (hM : Nat.lor 2097151 M = M) (h0 : Frame M s0 s) : Frame M s0 (State.restartNow s v why c) := by
  refine frame_trans (k := 2097151) ?_ hM h0
  unfold State.restartNow
  repeat' (first | with_reducible exact frame_refl _ _ | with_reducible exact Or.inr rfl | exact Or.inl rfl | exact (rfl : Nat.lor _ _ = _) | with_reducible assumption | extract_lets | with_reducible apply frame_ite | with_reducible apply frame_next | (with_reducible apply frame_upd; with_reducible exact Or.inr rfl; fail_if_success (iterate 23 (with_reducible exact Or.inr rfl))) | (with_reducible apply frame_foldl; intro _ _) | with_reducible apply frame_reply | with_reducible apply frame_toStrap | with_reducible apply frame_restartRequest | (split) | (dsimp +zetaDelta only))

theorem frame_execRestart {s : State} (a) (auth) : FrameO 2097151 s (execRestart a auth s) := by
  unfold execRestart
  repeat' (first | with_reducible exact frame_refl _ _ | with_reducible exact Or.inr rfl | exact Or.inl rfl | exact (rfl : Nat.lor _ _ = _) | with_reducible assumption | extract_lets | with_reducible apply frame_ite | with_reducible apply frame_next | (with_reducible apply frame_upd; with_reducible exact Or.inr rfl; fail_if_success (iterate 23 (with_reducible exact Or.inr rfl))) | (with_reducible apply frame_foldl; intro _ _) | (with_reducible refine frame_trans (frame_authorise_eq (by assumption)) ?_ ?_) | with_reducible apply frame_authorise | with_reducible apply frame_authReply | (with_reducible apply frame_adminRun (m := 2097151); intros) | with_reducible apply frame_restartNow | (split) | (dsimp +zetaDelta only))

theorem frame_execMaintenanceRequest {s : State} (a) (auth) : FrameO 2097151 s (execMaintenanceRequest a auth s) := by
  unfold execMaintenanceRequest
  repeat' (first | with_reducible exact frame_refl _ _ | with_reducible exact Or.inr rfl | exact Or.inl rfl | exact (rfl : Nat.lor _ _ = _) | with_reducible assumption | extract_lets | with_reducible apply frame_ite | with_reducible apply frame_next | (with_reducible apply frame_upd; with_reducible exact Or.inr rfl; fail_if_success (iterate 23 (with_reducible exact Or.inr rfl))) | (with_reducible apply frame_foldl; intro _ _) | (with_reducible refine frame_trans (frame_authorise_eq (by assumption)) ?_ ?_) | with_reducible apply frame_authorise | with_reducible apply frame_authReply | (with_reducible apply frame_adminRun (m := 2097151); intros) | with_reducible apply frame_restartNow | (split) | (dsimp +zetaDelta only))

theorem frame_execReserveStatus {s : State} (a) : FrameO 34305 s (execReserveStatus a s) := by
  unfold execReserveStatus
  repeat' (first | with_reducible exact frame_refl _ _ | with_reducible exact Or.inr rfl | exact Or.inl rfl | exact (rfl : Nat.lor _ _ = _) | with_reducible assumption | extract_lets | with_reducible apply frame_ite | with_reducible apply frame_next | (with_reducible apply frame_upd; with_reducible exact Or.inr rfl; fail_if_success (iterate 23 (with_reducible exact Or.inr rfl))) | (with_reducible apply frame_foldl; intro _ _) | with_reducible apply frame_replyData | (with_reducible apply frame_adminRun (m := 34305); intros) | (split) | (dsimp +zetaDelta only))

theorem frame_execCauseLeafSet {s : State} (l) (b) : FrameO 1537 s (execCauseLeafSet l b s) := by
  unfold execCauseLeafSet
  repeat' (first | with_reducible exact frame_refl _ _ | with_reducible exact Or.inr rfl | exact Or.inl rfl | exact (rfl : Nat.lor _ _ = _) | with_reducible assumption | extract_lets | with_reducible apply frame_ite | with_reducible apply frame_next | (with_reducible apply frame_upd; with_reducible exact Or.inr rfl; fail_if_success (iterate 23 (with_reducible exact Or.inr rfl))) | (with_reducible apply frame_foldl; intro _ _) | with_reducible apply frame_raise | (split) | (dsimp +zetaDelta only))

theorem frame_execCauseLeafClear {s : State} (who) (l) (v) : FrameO 1025 s (execCauseLeafClear who l v s) := by
  unfold execCauseLeafClear
  repeat' (first | with_reducible exact frame_refl _ _ | with_reducible exact Or.inr rfl | exact Or.inl rfl | exact (rfl : Nat.lor _ _ = _) | with_reducible assumption | extract_lets | with_reducible apply frame_ite | with_reducible apply frame_next | (with_reducible apply frame_upd; with_reducible exact Or.inr rfl; fail_if_success (iterate 23 (with_reducible exact Or.inr rfl))) | (with_reducible apply frame_foldl; intro _ _) | with_reducible apply frame_setReg | with_reducible apply frame_treeSync | (split) | (dsimp +zetaDelta only))

theorem frame_execAlertNUpdate {s : State} : FrameO 1032 s (execAlertNUpdate s) := by
  unfold execAlertNUpdate
  repeat' (first | with_reducible exact frame_refl _ _ | with_reducible exact Or.inr rfl | exact Or.inl rfl | exact (rfl : Nat.lor _ _ = _) | with_reducible assumption | extract_lets | with_reducible apply frame_ite | with_reducible apply frame_next | (with_reducible apply frame_upd; with_reducible exact Or.inr rfl; fail_if_success (iterate 23 (with_reducible exact Or.inr rfl))) | (with_reducible apply frame_foldl; intro _ _) | (split) | (dsimp +zetaDelta only))

theorem frame_execEvtRecordProgram {s : State} : FrameO 768 s (execEvtRecordProgram s) := by
  unfold execEvtRecordProgram
  repeat' (first | with_reducible exact frame_refl _ _ | with_reducible exact Or.inr rfl | exact Or.inl rfl | exact (rfl : Nat.lor _ _ = _) | with_reducible assumption | extract_lets | with_reducible apply frame_ite | with_reducible apply frame_next | (with_reducible apply frame_upd; with_reducible exact Or.inr rfl; fail_if_success (iterate 23 (with_reducible exact Or.inr rfl))) | (with_reducible apply frame_foldl; intro _ _) | (split) | (dsimp +zetaDelta only))

theorem frame_storeRecs {M : Nat} {s0 s : State} (recs) (hM : Nat.lor 512 M = M) (h0 : Frame M s0 s) : Frame M s0 (State.storeRecs s recs) := by
  refine frame_trans (k := 512) ?_ hM h0
  unfold State.storeRecs
  repeat' (first | with_reducible exact frame_refl _ _ | with_reducible exact Or.inr rfl | exact Or.inl rfl | exact (rfl : Nat.lor _ _ = _) | with_reducible assumption | extract_lets | with_reducible apply frame_ite | with_reducible apply frame_next | (with_reducible apply frame_upd; with_reducible exact Or.inr rfl; fail_if_success (iterate 23 (with_reducible exact Or.inr rfl))) | (with_reducible apply frame_foldl; intro _ _) | (split) | (dsimp +zetaDelta only))

theorem frame_logFull {M : Nat} {s0 s : State} (hM : Nat.lor 1537 M = M) (h0 : Frame M s0 s) : Frame M s0 (State.logFull s) := by
  refine frame_trans (k := 1537) ?_ hM h0
  unfold State.logFull
  repeat' (first | with_reducible exact frame_refl _ _ | with_reducible exact Or.inr rfl | exact Or.inl rfl | exact (rfl : Nat.lor _ _ = _) | with_reducible assumption | extract_lets | with_reducible apply frame_ite | with_reducible apply frame_next | (with_reducible apply frame_upd; with_reducible exact Or.inr rfl; fail_if_success (iterate 23 (with_reducible exact Or.inr rfl))) | (with_reducible apply frame_foldl; intro _ _) | with_reducible apply frame_raise | (split) | (dsimp +zetaDelta only))

theorem frame_execEvtProgramDone {s : State} (ok) : FrameO 2080767 s (execEvtProgramDone ok s) := by
  unfold execEvtProgramDone
  repeat' (first | with_reducible exact frame_refl _ _ | with_reducible exact Or.inr rfl | exact Or.inl rfl | exact (rfl : Nat.lor _ _ = _) | with_reducible assumption | extract_lets | with_reducible apply frame_ite | with_reducible apply frame_next | (with_reducible apply frame_upd; with_reducible exact Or.inr rfl; fail_if_success (iterate 23 (with_reducible exact Or.inr rfl))) | (with_reducible apply frame_foldl; intro _ _) | with_reducible apply frame_raise | with_reducible apply frame_updResume | with_reducible apply frame_norKick | with_reducible apply frame_mpReset | with_reducible apply frame_storeRecs | with_reducible apply frame_logFull | (split) | (dsimp +zetaDelta only))

theorem frame_execEvtRdSelWrite {s : State} (who) (v) : FrameO 513 s (execEvtRdSelWrite who v s) := by
  unfold execEvtRdSelWrite
  repeat' (first | with_reducible exact frame_refl _ _ | with_reducible exact Or.inr rfl | exact Or.inl rfl | exact (rfl : Nat.lor _ _ = _) | with_reducible assumption | extract_lets | with_reducible apply frame_ite | with_reducible apply frame_next | (with_reducible apply frame_upd; with_reducible exact Or.inr rfl; fail_if_success (iterate 23 (with_reducible exact Or.inr rfl))) | (with_reducible apply frame_foldl; intro _ _) | with_reducible apply frame_setReg | with_reducible apply frame_rdLoad | (split) | (dsimp +zetaDelta only))

theorem frame_execTraceArm {s : State} (who) (v) : FrameO 2049 s (execTraceArm who v s) := by
  unfold execTraceArm
  repeat' (first | with_reducible exact frame_refl _ _ | with_reducible exact Or.inr rfl | exact Or.inl rfl | exact (rfl : Nat.lor _ _ = _) | with_reducible assumption | extract_lets | with_reducible apply frame_ite | with_reducible apply frame_next | (with_reducible apply frame_upd; with_reducible exact Or.inr rfl; fail_if_success (iterate 23 (with_reducible exact Or.inr rfl))) | (with_reducible apply frame_foldl; intro _ _) | with_reducible apply frame_setReg | (split) | (dsimp +zetaDelta only))

theorem frame_execExtwaitClear {s : State} (who) (account) : FrameO 1 s (execExtwaitClear who account s) := by
  unfold execExtwaitClear
  repeat' (first | with_reducible exact frame_refl _ _ | with_reducible exact Or.inr rfl | exact Or.inl rfl | exact (rfl : Nat.lor _ _ = _) | with_reducible assumption | extract_lets | with_reducible apply frame_ite | with_reducible apply frame_next | (with_reducible apply frame_upd; with_reducible exact Or.inr rfl; fail_if_success (iterate 23 (with_reducible exact Or.inr rfl))) | (with_reducible apply frame_foldl; intro _ _) | with_reducible apply frame_setReg | (split) | (dsimp +zetaDelta only))

theorem frame_execTickLoRead {s : State} (who) : FrameO 32 s (execTickLoRead who s) := by
  unfold execTickLoRead
  repeat' (first | with_reducible exact frame_refl _ _ | with_reducible exact Or.inr rfl | exact Or.inl rfl | exact (rfl : Nat.lor _ _ = _) | with_reducible assumption | extract_lets | with_reducible apply frame_ite | with_reducible apply frame_next | (with_reducible apply frame_upd; with_reducible exact Or.inr rfl; fail_if_success (iterate 23 (with_reducible exact Or.inr rfl))) | (with_reducible apply frame_foldl; intro _ _) | (split) | (dsimp +zetaDelta only))

theorem frame_execTimeLoRead {s : State} (who) : FrameO 32 s (execTimeLoRead who s) := by
  unfold execTimeLoRead
  repeat' (first | with_reducible exact frame_refl _ _ | with_reducible exact Or.inr rfl | exact Or.inl rfl | exact (rfl : Nat.lor _ _ = _) | with_reducible assumption | extract_lets | with_reducible apply frame_ite | with_reducible apply frame_next | (with_reducible apply frame_upd; with_reducible exact Or.inr rfl; fail_if_success (iterate 23 (with_reducible exact Or.inr rfl))) | (with_reducible apply frame_foldl; intro _ _) | (split) | (dsimp +zetaDelta only))

theorem frame_barWrite {M : Nat} {s0 s : State} (f) (o) (v) (hM : Nat.lor 2096703 M = M) (h0 : Frame M s0 s) : Frame M s0 (State.barWrite s f o v) := by
  refine frame_trans (k := 2096703) ?_ hM h0
  unfold State.barWrite
  repeat' (first | with_reducible exact frame_refl _ _ | with_reducible exact Or.inr rfl | exact Or.inl rfl | exact (rfl : Nat.lor _ _ = _) | with_reducible assumption | extract_lets | with_reducible apply frame_ite | with_reducible apply frame_next | (with_reducible apply frame_upd; with_reducible exact Or.inr rfl; fail_if_success (iterate 23 (with_reducible exact Or.inr rfl))) | (with_reducible apply frame_foldl; intro _ _) | with_reducible apply frame_setCtrl | with_reducible apply frame_msixSend | with_reducible apply frame_writeCc | (split) | (dsimp +zetaDelta only))

theorem frame_noteWrite {M : Nat} {s0 s : State} (who) (o) (hM : Nat.lor 1024 M = M) (h0 : Frame M s0 s) : Frame M s0 (State.noteWrite s who o) := by
  refine frame_trans (k := 1024) ?_ hM h0
  unfold State.noteWrite
  repeat' (first | with_reducible exact frame_refl _ _ | with_reducible exact Or.inr rfl | exact Or.inl rfl | exact (rfl : Nat.lor _ _ = _) | with_reducible assumption | extract_lets | with_reducible apply frame_ite | with_reducible apply frame_next | (with_reducible apply frame_upd; with_reducible exact Or.inr rfl; fail_if_success (iterate 23 (with_reducible exact Or.inr rfl))) | (with_reducible apply frame_foldl; intro _ _) | (split) | (dsimp +zetaDelta only))

theorem frame_plainWrite {M : Nat} {s0 s : State} (who) (o) (v) (hM : Nat.lor 1025 M = M) (h0 : Frame M s0 s) : Frame M s0 (State.plainWrite s who o v) := by
  refine frame_trans (k := 1025) ?_ hM h0
  unfold State.plainWrite
  repeat' (first | with_reducible exact frame_refl _ _ | with_reducible exact Or.inr rfl | exact Or.inl rfl | exact (rfl : Nat.lor _ _ = _) | with_reducible assumption | extract_lets | with_reducible apply frame_ite | with_reducible apply frame_next | (with_reducible apply frame_upd; with_reducible exact Or.inr rfl; fail_if_success (iterate 23 (with_reducible exact Or.inr rfl))) | (with_reducible apply frame_foldl; intro _ _) | with_reducible apply frame_setReg | with_reducible apply frame_treeSync | with_reducible apply frame_noteWrite | (split) | (dsimp +zetaDelta only))

theorem frame_execRegisterWrite {s : State} (who) (o) (b) : FrameO 2096703 s (execRegisterWrite who o b s) := by
  unfold execRegisterWrite
  repeat' (first | with_reducible exact frame_refl _ _ | with_reducible exact Or.inr rfl | exact Or.inl rfl | exact (rfl : Nat.lor _ _ = _) | with_reducible assumption | extract_lets | with_reducible apply frame_ite | with_reducible apply frame_next | (with_reducible apply frame_upd; with_reducible exact Or.inr rfl; fail_if_success (iterate 23 (with_reducible exact Or.inr rfl))) | (with_reducible apply frame_foldl; intro _ _) | with_reducible apply frame_raise | with_reducible apply frame_writeChCtl | with_reducible apply frame_barWrite | with_reducible apply frame_plainWrite | (split) | (dsimp +zetaDelta only))

theorem frame_execTckEdge {s : State} (rising) (pins) : FrameO 6291456 s (execTckEdge rising pins s) := by
  unfold execTckEdge
  repeat' (first | with_reducible exact frame_refl _ _ | with_reducible exact Or.inr rfl | exact Or.inl rfl | exact (rfl : Nat.lor _ _ = _) | with_reducible assumption | extract_lets | with_reducible apply frame_ite | with_reducible apply frame_next | (with_reducible apply frame_upd; with_reducible exact Or.inr rfl; fail_if_success (iterate 23 (with_reducible exact Or.inr rfl))) | (with_reducible apply frame_foldl; intro _ _) | (split) | (dsimp +zetaDelta only))

theorem frame_execTrstNAssert {s : State} : FrameO 2097152 s (execTrstNAssert s) := by
  unfold execTrstNAssert
  repeat' (first | with_reducible exact frame_refl _ _ | with_reducible exact Or.inr rfl | exact Or.inl rfl | exact (rfl : Nat.lor _ _ = _) | with_reducible assumption | extract_lets | with_reducible apply frame_ite | with_reducible apply frame_next | (with_reducible apply frame_upd; with_reducible exact Or.inr rfl; fail_if_success (iterate 23 (with_reducible exact Or.inr rfl))) | (with_reducible apply frame_foldl; intro _ _) | (split) | (dsimp +zetaDelta only))

theorem frame_idle {M : Nat} {s0 s : State} (hM : Nat.lor 2080 M = M) (h0 : Frame M s0 s) : Frame M s0 (idle s) := by
  refine frame_trans (k := 2080) ?_ hM h0
  unfold idle
  repeat' (first | with_reducible exact frame_refl _ _ | with_reducible exact Or.inr rfl | exact Or.inl rfl | exact (rfl : Nat.lor _ _ = _) | with_reducible assumption | extract_lets | with_reducible apply frame_ite | with_reducible apply frame_next | (with_reducible apply frame_upd; with_reducible exact Or.inr rfl; fail_if_success (iterate 23 (with_reducible exact Or.inr rfl))) | (with_reducible apply frame_foldl; intro _ _) | with_reducible apply frame_tickOnce | (split) | (dsimp +zetaDelta only))

end Sys2Proof.Machine
end

