-- ==== Sys2Proof/Laws/Footprint.lean ====
section
/-!
SUPPORT. From the frame of a command's meaning to the components that its footprint names.
-/
namespace Sys2Proof.Machine

/-- The place of a component among State's fields, which is its bit in a frame's mask. -/
def Part.bit : Part → Nat
  | .regs => 0 | .mode => 1 | .prevMode => 2 | .pins => 3 | .boot => 4 | .pwr => 5 | .thm => 6 | .loops => 7 | .nor => 8
  | .evt => 9 | .mgt => 10 | .ldg => 11 | .med => 12 | .db => 13 | .rsv => 14 | .host => 15 | .xfr => 16 | .mem => 17
  | .cry => 18 | .net => 19 | .mnt => 20 | .jtag => 21 | .freeCount => 22

/-- Every component. -/
def allParts : List Part :=
  [.regs, .mode, .prevMode, .pins, .boot, .pwr, .thm, .loops, .nor, .evt, .mgt, .ldg, .med, .db, .rsv, .host, .xfr, .mem, .cry,
   .net, .mnt, .jtag, .freeCount]

theorem mem_allParts (p : Part) : p ∈ allParts := by cases p <;> decide

/-- A frame whose mask has no bit outside `ps` leaves every component outside `ps`. -/
theorem onlyIn_of_frame {m : Nat} {ps : List Part} {s t : State} (h : Frame m s t)
    (hp : allParts.all (fun p => decide (p ∈ ps) || !m.testBit p.bit) = true) : OnlyIn ps s t := by
  intro p hn
  have hb : m.testBit p.bit = false := by
    have := List.all_eq_true.mp hp p (mem_allParts p)
    simpa [hn] using this
  have hx {q : Prop} (o : m.testBit p.bit = true ∨ q) : q := o.resolve_left (by simp [hb])
  cases p
  · exact hx h.regs
  · exact hx h.mode
  · exact hx h.prevMode
  · exact hx h.pins
  · exact hx h.boot
  · exact hx h.pwr
  · exact hx h.thm
  · exact hx h.loops
  · exact hx h.nor
  · exact hx h.evt
  · exact hx h.mgt
  · exact hx h.ldg
  · exact hx h.med
  · exact hx h.db
  · exact hx h.rsv
  · exact hx h.host
  · exact hx h.xfr
  · exact hx h.mem
  · exact hx h.cry
  · exact hx h.net
  · exact hx h.mnt
  · exact hx h.jtag
  · exact hx h.freeCount

/-- The queue lies outside a frame whose mask lacks its bit. -/
theorem pending_of_frame {m : Nat} {s t : State} (h : Frame m s t) (hp : m.testBit 23 = false) : t.pending = s.pending :=
  h.pending.resolve_left (by simp [hp])

end Sys2Proof.Machine
end

