-- ==== Sys2Proof/Laws/Maps.lean ====
section
/-!
SUPPORT. What the canonical maps of the state do: reading what was written, leaving every other key alone, and keeping the keys strictly
rising with no default record listed. Every memory operation keeps the canonical form.
-/
namespace Sys2Proof.Machine

/-! ## Optional maps -/

section
variable {β : Type}

@[simp] theorem ofind_oput_same (m : List (Nat × β)) (k : Nat) (v : β) : ofind (oput m k v) k = some v := by
  induction m with
  | nil => simp [oput, ofind]
  | cons e m ih =>
    obtain ⟨j, w⟩ := e
    by_cases h1 : k < j
    · simp [oput, ofind, h1]
    · by_cases h2 : k = j
      · simp [oput, ofind, h2]
      · have h3 : ¬ j = k := fun h => h2 h.symm
        simp [oput, ofind, h1, h2, h3, ih]

theorem ofind_oput_other (m : List (Nat × β)) {j k : Nat} (v : β) (h : k ≠ j) : ofind (oput m j v) k = ofind m k := by
  induction m with
  | nil => simp [oput, ofind, Ne.symm h]
  | cons e m ih =>
    obtain ⟨i, w⟩ := e
    by_cases h1 : j < i
    · simp [oput, ofind, h1, Ne.symm h]
    · by_cases h2 : j = i
      · subst h2
        simp [oput, ofind, Ne.symm h]
      · by_cases h3 : i = k
        · subst h3
          simp [oput, ofind, h1, h2]
        · simp [oput, ofind, h1, h2, h3, ih]

/-! ## Rising keys -/

theorem keysRise_iff (m : List (Nat × β)) : keysRise m = true ↔ m.Pairwise (fun a b => a.1 < b.1) := by
  induction m with
  | nil => simp [keysRise]
  | cons e m ih =>
    obtain ⟨j, v⟩ := e
    cases m with
    | nil => simp [keysRise]
    | cons f m =>
      obtain ⟨k, w⟩ := f
      rw [keysRise, Bool.and_eq_true, ih]
      constructor
      · rintro ⟨hjk, hp⟩
        refine List.pairwise_cons.mpr ⟨fun a ha => ?_, hp⟩
        rcases List.mem_cons.mp ha with rfl | ha
        · exact of_decide_eq_true hjk
        · exact Nat.lt_trans (of_decide_eq_true hjk) ((List.pairwise_cons.mp hp).1 a ha)
      · intro h
        exact ⟨decide_eq_true ((List.pairwise_cons.mp h).1 (k, w) List.mem_cons_self), (List.pairwise_cons.mp h).2⟩

theorem keysRise_filter (p : Nat × β → Bool) {m : List (Nat × β)} (h : keysRise m = true) : keysRise (m.filter p) = true :=
  (keysRise_iff _).mpr (((keysRise_iff _).mp h).filter p)

theorem mem_oput {m : List (Nat × β)} {k : Nat} {v : β} {e : Nat × β} (h : e ∈ oput m k v) : e = (k, v) ∨ e ∈ m := by
  induction m with
  | nil => exact Or.inl (by simpa [oput] using h)
  | cons f m ih =>
    obtain ⟨j, w⟩ := f
    by_cases h1 : k < j
    · simpa only [oput, h1, if_true, List.mem_cons] using h
    · by_cases h2 : k = j
      · simp only [oput, h2, Nat.lt_irrefl, if_true, if_false, List.mem_cons] at h ⊢
        rcases h with h | h <;> simp_all
      · simp only [oput, h1, h2, if_false, List.mem_cons] at h ⊢
        rcases h with h | h
        · exact Or.inr (Or.inl h)
        · rcases ih h with h | h <;> simp [h]

theorem keysRise_oput {m : List (Nat × β)} (k : Nat) (v : β) (h : keysRise m = true) : keysRise (oput m k v) = true := by
  rw [keysRise_iff] at h ⊢
  induction m with
  | nil => simp [oput]
  | cons f m ih =>
    obtain ⟨j, w⟩ := f
    obtain ⟨hj, hm⟩ := List.pairwise_cons.mp h
    by_cases h1 : k < j
    · simp only [oput, h1, if_true, List.pairwise_cons]
      refine ⟨fun a ha => ?_, hj, hm⟩
      rcases List.mem_cons.mp ha with rfl | ha
      · exact h1
      · exact Nat.lt_trans h1 (hj a ha)
    · by_cases h2 : k = j
      · subst h2
        simp only [oput, Nat.lt_irrefl, if_true, if_false, List.pairwise_cons]
        exact ⟨hj, hm⟩
      · simp only [oput, h1, h2, if_false, List.pairwise_cons]
        refine ⟨fun a ha => ?_, ih hm⟩
        rcases mem_oput ha with rfl | ha
        · omega
        · exact hj a ha

end

/-! ## Maps with a default record -/

section
variable {β : Type}

theorem cget_eq_default {d : β} {m : List (Nat × β)} {k : Nat} (h : ∀ e ∈ m, e.1 ≠ k) : cget d m k = d := by
  induction m with
  | nil => rfl
  | cons f m ih =>
    obtain ⟨j, w⟩ := f
    have hj : j ≠ k := h (j, w) List.mem_cons_self
    simp only [cget, hj, if_false]
    exact ih fun e he => h e (List.mem_cons_of_mem _ he)

end

section
variable {β : Type} [DecidableEq β]

theorem mem_cset {d : β} {m : List (Nat × β)} {k : Nat} {v : β} {e : Nat × β} (h : e ∈ cset d m k v) :
    (e = (k, v) ∧ v ≠ d) ∨ e ∈ m := by
  induction m with
  | nil =>
    by_cases hv : v = d
    · simp [cset, hv] at h
    · exact Or.inl ⟨by simpa [cset, hv] using h, hv⟩
  | cons f m ih =>
    obtain ⟨j, w⟩ := f
    rw [cset] at h
    split at h
    · split at h
      · exact Or.inr h
      · rename_i hv
        rcases List.mem_cons.mp h with h | h
        · exact Or.inl ⟨h, hv⟩
        · exact Or.inr h
    · split at h
      · split at h
        · exact Or.inr (List.mem_cons_of_mem _ h)
        · rename_i hv
          rcases List.mem_cons.mp h with h | h
          · exact Or.inl ⟨h, hv⟩
          · exact Or.inr (List.mem_cons_of_mem _ h)
      · rcases List.mem_cons.mp h with h | h
        · exact Or.inr (by rw [h]; exact List.mem_cons_self)
        · rcases ih h with h | h
          · exact Or.inl h
          · exact Or.inr (List.mem_cons_of_mem _ h)

theorem keysRise_cset (d : β) {m : List (Nat × β)} (k : Nat) (v : β) (h : keysRise m = true) :
    keysRise (cset d m k v) = true := by
  rw [keysRise_iff] at h ⊢
  induction m with
  | nil => by_cases hv : v = d <;> simp [cset, hv]
  | cons f m ih =>
    obtain ⟨j, w⟩ := f
    obtain ⟨hj, hm⟩ := List.pairwise_cons.mp h
    rw [cset]
    split
    · rename_i h1
      split
      · exact h
      · refine List.pairwise_cons.mpr ⟨fun a ha => ?_, h⟩
        rcases List.mem_cons.mp ha with rfl | ha
        · exact h1
        · exact Nat.lt_trans h1 (hj a ha)
    · rename_i h1
      split
      · rename_i h2
        subst h2
        split
        · exact hm
        · exact List.pairwise_cons.mpr ⟨hj, hm⟩
      · rename_i h2
        refine List.pairwise_cons.mpr ⟨fun a ha => ?_, ih hm⟩
        rcases mem_cset ha with ⟨rfl, -⟩ | ha
        · show j < k
          omega
        · exact hj a ha

/-- A write keeps the canonical form. -/
theorem mapWf_cset (d : β) {m : List (Nat × β)} (k : Nat) (v : β) (h : mapWf d m = true) : mapWf d (cset d m k v) = true := by
  simp only [mapWf, Bool.and_eq_true, List.all_eq_true, decide_eq_true_eq] at h ⊢
  refine ⟨keysRise_cset d k v h.1, fun e he => ?_⟩
  rcases mem_cset he with ⟨rfl, hv⟩ | he
  · exact hv
  · exact h.2 e he

theorem mapWf_filter (d : β) (p : Nat × β → Bool) {m : List (Nat × β)} (h : mapWf d m = true) : mapWf d (m.filter p) = true := by
  simp only [mapWf, Bool.and_eq_true, List.all_eq_true, decide_eq_true_eq] at h ⊢
  exact ⟨keysRise_filter p h.1, fun e he => h.2 e (List.mem_filter.mp he).1⟩

/-- A read after a write to the same key gives the value written. -/
theorem cget_cset_same (d : β) {m : List (Nat × β)} (k : Nat) (v : β) (h : keysRise m = true) : cget d (cset d m k v) k = v := by
  rw [keysRise_iff] at h
  induction m with
  | nil => by_cases hv : v = d <;> simp [cset, cget, hv]
  | cons f m ih =>
    obtain ⟨j, w⟩ := f
    obtain ⟨hj, hm⟩ := List.pairwise_cons.mp h
    rw [cset]
    split
    · rename_i h1
      split
      · rename_i hv
        subst hv
        refine cget_eq_default fun e he => ?_
        rcases List.mem_cons.mp he with rfl | he
        · exact Nat.ne_of_gt h1
        · have := hj e he
          omega
      · simp [cget]
    · split
      · rename_i h2
        subst h2
        split
        · rename_i hv
          subst hv
          exact cget_eq_default fun e he => Nat.ne_of_gt (hj e he)
        · simp [cget]
      · rename_i h1 h2
        have h3 : ¬ j = k := fun h => h2 h.symm
        simp only [cget, h3, if_false]
        exact ih hm

/-- A write leaves every other key alone. -/
theorem cget_cset_other (d : β) (m : List (Nat × β)) {j k : Nat} (v : β) (h : k ≠ j) : cget d (cset d m j v) k = cget d m k := by
  induction m with
  | nil => by_cases hv : v = d <;> simp [cset, cget, hv, Ne.symm h]
  | cons f m ih =>
    obtain ⟨i, w⟩ := f
    rw [cset]
    split
    · split
      · rfl
      · simp [cget, Ne.symm h]
    · split
      · rename_i h2
        subst h2
        split <;> simp [cget, Ne.symm h]
      · by_cases h3 : i = k <;> simp [cget, h3, ih]

end

/-! ## Byte memories -/

/-- A memory write keeps the canonical form. -/
theorem memWrite_wf (d : Byte) {m : List Host.Cell} (a : Nat) (v : Byte) (h : Memory.wf d m = true) :
    Memory.wf d (memWrite d m a v) = true := mapWf_cset d a v h

theorem memWriteAll_wf (d : Byte) (bs : List Byte) : ∀ {m : List Host.Cell} (a : Nat), Memory.wf d m = true →
    Memory.wf d (memWriteAll d m a bs) = true := by
  induction bs with
  | nil => intro m a h; exact h
  | cons b bs ih => intro m a h; exact ih (a + 1) (memWrite_wf d a b h)

theorem memFilter_wf (d : Byte) (p : Host.Cell → Bool) {m : List Host.Cell} (h : Memory.wf d m = true) :
    Memory.wf d (m.filter p) = true := mapWf_filter d p h

theorem memRead_memWrite_same (d : Byte) {m : List Host.Cell} (a : Nat) (v : Byte) (h : Memory.wf d m = true) :
    memRead d (memWrite d m a v) a = v := cget_cset_same d a v (by simp only [Memory.wf, mapWf, Bool.and_eq_true] at h; exact h.1)

theorem memRead_memWrite_other (d : Byte) (m : List Host.Cell) {a b : Nat} (v : Byte) (h : b ≠ a) :
    memRead d (memWrite d m a v) b = memRead d m b := cget_cset_other d m v h

/-! ## Registers -/

@[simp] theorem reg_setReg_same (s : State) (o : Nat) (w : Word) : (s.setReg o w).reg o = w := by
  simp [State.reg, State.setReg]

theorem reg_setReg_other (s : State) {o p : Nat} (w : Word) (h : p ≠ o) : (s.setReg o w).reg p = s.reg p := by
  simp [State.reg, State.setReg, ofind_oput_other _ w h]

theorem reg_setFld_other (s : State) {o p : Nat} (lo n v : Nat) (h : p ≠ o) : (s.setFld o lo n v).reg p = s.reg p :=
  reg_setReg_other s _ h

theorem reg_setFld_same (s : State) (o lo n v : Nat) : (s.setFld o lo n v).reg o = setField (s.reg o) lo n v :=
  reg_setReg_same s o _

theorem regs_setReg_rise {s : State} (o : Nat) (w : Word) (h : keysRise s.regs = true) : keysRise (s.setReg o w).regs = true :=
  keysRise_oput o w h

theorem regs_resetRegs_rise {s : State} (p : Nat → Bool) (h : keysRise s.regs = true) : keysRise (s.resetRegs p).regs = true :=
  keysRise_filter _ h

end Sys2Proof.Machine
end

