-- ==== Sys2Proof/Laws/KeptRules.lean ====
section
/-!
SUPPORT. The relation that every function of the model keeps: the queue of commands, the canonical form of the registers and of both byte
memories, and the fuses; and the rules by which it is carried through a function's body.
-/
namespace Sys2Proof.Machine

/-- What the functions of the model keep, over the components it speaks of. -/
structure KeptP (Q : List Instr) (F : Fuses) (q : List Instr) (r : List (Nat × Word)) (n x : List Host.Cell) (l : LifeCycle)
    (k : Option (BitVec 256)) : Prop where
  queue : q = Q
  regs : keysRise r = true
  nor : Memory.wf norDefault n = true
  xfr : Memory.wf memDefault x = true
  life : l = F.1
  key : k = F.2

/-- The queue is `Q`, the fuses are `F`, and the maps of the state are canonical. -/
abbrev Kept (Q : List Instr) (F : Fuses) (s : State) : Prop :=
  KeptP Q F s.pending s.regs s.nor.mem s.xfr.mem s.cry.life s.cry.deviceKey

/-- The same of an outcome's state. -/
def KeptO (Q : List Instr) (F : Fuses) (o : Host.Outcome State Fault Refusal) : Prop := ∀ t, o = .next t → Kept Q F t

theorem kept_of {s : State} (h : Canonical s) : Kept s.pending s.fuses s := ⟨rfl, h.1, h.2.1, h.2.2, rfl, rfl⟩

variable {Q : List Instr} {F : Fuses}

theorem Kept.canonical {s : State} (h : Kept Q F s) : Canonical s := ⟨h.regs, h.nor, h.xfr⟩

theorem kept_next {s : State} (h : Kept Q F s) : KeptO Q F (.next s) := by
  intro t e
  cases e
  exact h

theorem kept_ite {c : Prop} [Decidable c] {a b : State} (h1 : Kept Q F a) (h2 : Kept Q F b) : Kept Q F (if c then a else b) := by
  split
  · exact h1
  · exact h2

theorem kept_foldl {α : Type} {f : State → α → State} (l : List α) (hf : ∀ s x, Kept Q F s → Kept Q F (f s x)) :
    ∀ {s : State}, Kept Q F s → Kept Q F (l.foldl f s) := by
  induction l with
  | nil => intro s h; exact h
  | cons x l ih => intro s h; exact ih (hf s x h)

variable {q : List Instr} {r r' : List (Nat × Word)} {n n' x x' : List Host.Cell} {l : LifeCycle} {k : Option (BitVec 256)}

theorem kept_regs (h : keysRise r' = true) (hk : KeptP Q F q r n x l k) : KeptP Q F q r' n x l k := { hk with regs := h }
theorem kept_nor (h : Memory.wf norDefault n' = true) (hk : KeptP Q F q r n x l k) : KeptP Q F q r n' x l k := { hk with nor := h }
theorem kept_xfr (h : Memory.wf memDefault x' = true) (hk : KeptP Q F q r n x l k) : KeptP Q F q r n x' l k := { hk with xfr := h }

/-! ## The NOR device's memory -/

theorem progBytes_wf (bs : List Byte) : ∀ {m : List Host.Cell} (a : Nat), Memory.wf norDefault m = true →
    Memory.wf norDefault (progBytes m a bs) = true := by
  induction bs with
  | nil => intro m a h; exact h
  | cons b bs ih => intro m a h; exact ih (a + 1) (memWrite_wf _ _ _ h)

theorem freeFill_wf (seed n : Nat) : ∀ {m : List Host.Cell} (a : Nat), Memory.wf norDefault m = true →
    Memory.wf norDefault (freeFill m seed a n) = true := by
  induction n with
  | zero => intro m a h; exact h
  | succ n ih => intro m a h; exact ih (a + 1) (memWrite_wf _ _ _ h)

theorem eraseBytes_wf {m : List Host.Cell} (a n : Nat) (h : Memory.wf norDefault m = true) :
    Memory.wf norDefault (eraseBytes m a n) = true := memFilter_wf _ _ h

end Sys2Proof.Machine
end

