-- ==== Sys2Proof/Laws/KeptBase.lean ====
section
/-!
SUPPORT. The queue, the canonical maps and the fuses are kept by the functions of the shared operations: registers, modes, the boot flash, key management, zones, the Day Book, commands, memories; one lemma for each function.
-/
set_option linter.all false
set_option Elab.async false

namespace Sys2Proof.Machine

variable {Q : List Instr} {F : Fuses}

theorem kept_setReg {s : State} (o) (w) (hk : Kept Q F s) : Kept Q F (State.setReg s o w) :=
  kept_regs (keysRise_oput o w hk.regs) hk

theorem kept_setFld {s : State} (o) (lo) (width) (v) (hk : Kept Q F s) : Kept Q F (State.setFld s o lo width v) := by
  unfold State.setFld
  repeat' (first | with_reducible assumption | extract_lets | with_reducible apply kept_ite | with_reducible apply kept_next | (with_reducible apply kept_foldl; intro _ _ _) | with_reducible apply kept_setReg | (split) | (dsimp +zetaDelta only))

theorem kept_countFld {s : State} (o) (lo) (width) (n) (hk : Kept Q F s) : Kept Q F (State.countFld s o lo width n) := by
  unfold State.countFld
  repeat' (first | with_reducible assumption | extract_lets | with_reducible apply kept_ite | with_reducible apply kept_next | (with_reducible apply kept_foldl; intro _ _ _) | with_reducible apply kept_setFld | (split) | (dsimp +zetaDelta only))

theorem kept_resetRegs {s : State} (p) (hk : Kept Q F s) : Kept Q F (State.resetRegs s p) := by
  exact kept_regs (keysRise_filter _ hk.regs) hk

theorem kept_advanceRtc {s : State} (n) (hk : Kept Q F s) : Kept Q F (State.advanceRtc s n) := by
  unfold State.advanceRtc
  dsimp only
  exact hk

theorem kept_tickOnce {s : State} (hk : Kept Q F s) : Kept Q F (State.tickOnce s) := by
  unfold State.tickOnce
  repeat' (first | with_reducible assumption | extract_lets | with_reducible apply kept_ite | with_reducible apply kept_next | (with_reducible apply kept_foldl; intro _ _ _) | (split) | (dsimp +zetaDelta only))

theorem kept_tickTo {s : State} (x1) (hk : Kept Q F s) : Kept Q F (State.tickTo s x1) := by
  unfold State.tickTo
  repeat' (first | with_reducible assumption | extract_lets | with_reducible apply kept_ite | with_reducible apply kept_next | (with_reducible apply kept_foldl; intro _ _ _) | (split) | (dsimp +zetaDelta only))

theorem kept_freeWord {s : State} (hk : Kept Q F s) : Kept Q F (State.freeWord s).2 := by
  unfold State.freeWord
  repeat' (first | with_reducible assumption | extract_lets | with_reducible apply kept_ite | with_reducible apply kept_next | (with_reducible apply kept_foldl; intro _ _ _) | (split) | (dsimp +zetaDelta only))

theorem kept_freeWord_eq {s : State} {x} {t : State} (e : State.freeWord s = (x, t)) (hk : Kept Q F s) : Kept Q F t := by
  have := kept_freeWord hk
  rw [e] at this
  exact this

theorem kept_freeBytes {s : State} (n) (hk : Kept Q F s) : Kept Q F (State.freeBytes s n).2 := by
  unfold State.freeBytes
  repeat' (first | with_reducible assumption | extract_lets | with_reducible apply kept_ite | with_reducible apply kept_next | (with_reducible apply kept_foldl; intro _ _ _) | (split) | (dsimp +zetaDelta only))

theorem kept_freeBytes_eq {s : State} {n} {x} {t : State} (e : State.freeBytes s n = (x, t)) (hk : Kept Q F s) : Kept Q F t := by
  have := kept_freeBytes n hk
  rw [e] at this
  exact this

theorem kept_adminDone {s : State} (func) (cid) (x3) (dw0) (hk : Kept Q F s) : Kept Q F (State.adminDone s func cid x3 dw0) := by
  unfold State.adminDone
  repeat' (first | with_reducible assumption | extract_lets | with_reducible apply kept_ite | with_reducible apply kept_next | (with_reducible apply kept_foldl; intro _ _ _) | (split) | (dsimp +zetaDelta only))

theorem kept_dataToHost {s : State} (bs) (hk : Kept Q F s) : Kept Q F (State.dataToHost s bs) := by
  unfold State.dataToHost
  repeat' (first | with_reducible assumption | extract_lets | with_reducible apply kept_ite | with_reducible apply kept_next | (with_reducible apply kept_foldl; intro _ _ _) | (split) | (dsimp +zetaDelta only))

theorem kept_setCtrl {s : State} (f) (c) (hk : Kept Q F s) : Kept Q F (State.setCtrl s f c) := by
  unfold State.setCtrl
  repeat' (first | with_reducible assumption | extract_lets | with_reducible apply kept_ite | with_reducible apply kept_next | (with_reducible apply kept_foldl; intro _ _ _) | (split) | (dsimp +zetaDelta only))

theorem kept_setAcct {s : State} (a) (x2) (hk : Kept Q F s) : Kept Q F (State.setAcct s a x2) := by
  unfold State.setAcct
  repeat' (first | with_reducible assumption | extract_lets | with_reducible apply kept_ite | with_reducible apply kept_next | (with_reducible apply kept_foldl; intro _ _ _) | (split) | (dsimp +zetaDelta only))

theorem kept_setDie {s : State} (d) (x2) (hk : Kept Q F s) : Kept Q F (State.setDie s d x2) := by
  unfold State.setDie
  repeat' (first | with_reducible assumption | extract_lets | with_reducible apply kept_ite | with_reducible apply kept_next | (with_reducible apply kept_foldl; intro _ _ _) | (split) | (dsimp +zetaDelta only))

theorem kept_setDieMed {s : State} (d) (x2) (hk : Kept Q F s) : Kept Q F (State.setDieMed s d x2) := by
  unfold State.setDieMed
  repeat' (first | with_reducible assumption | extract_lets | with_reducible apply kept_ite | with_reducible apply kept_next | (with_reducible apply kept_foldl; intro _ _ _) | (split) | (dsimp +zetaDelta only))

theorem kept_setZone {s : State} (z) (x2) (hk : Kept Q F s) : Kept Q F (State.setZone s z x2) := by
  unfold State.setZone
  repeat' (first | with_reducible assumption | extract_lets | with_reducible apply kept_ite | with_reducible apply kept_next | (with_reducible apply kept_foldl; intro _ _ _) | (split) | (dsimp +zetaDelta only))

theorem kept_setBlock {s : State} (d) (b) (x3) (hk : Kept Q F s) : Kept Q F (State.setBlock s d b x3) := by
  unfold State.setBlock
  repeat' (first | with_reducible assumption | extract_lets | with_reducible apply kept_ite | with_reducible apply kept_next | (with_reducible apply kept_foldl; intro _ _ _) | (split) | (dsimp +zetaDelta only))

theorem kept_setCmd {s : State} (h) (c) (hk : Kept Q F s) : Kept Q F (State.setCmd s h c) := by
  unfold State.setCmd
  repeat' (first | with_reducible assumption | extract_lets | with_reducible apply kept_ite | with_reducible apply kept_next | (with_reducible apply kept_foldl; intro _ _ _) | (split) | (dsimp +zetaDelta only))

theorem kept_dropCmd {s : State} (h) (hk : Kept Q F s) : Kept Q F (State.dropCmd s h) := by
  unfold State.dropCmd
  repeat' (first | with_reducible assumption | extract_lets | with_reducible apply kept_ite | with_reducible apply kept_next | (with_reducible apply kept_foldl; intro _ _ _) | (split) | (dsimp +zetaDelta only))

theorem kept_setSensor {s : State} (n) (x2) (hk : Kept Q F s) : Kept Q F (State.setSensor s n x2) := by
  unfold State.setSensor
  repeat' (first | with_reducible assumption | extract_lets | with_reducible apply kept_ite | with_reducible apply kept_next | (with_reducible apply kept_foldl; intro _ _ _) | (split) | (dsimp +zetaDelta only))

theorem kept_setLoop {s : State} (n) (x2) (hk : Kept Q F s) : Kept Q F (State.setLoop s n x2) := by
  unfold State.setLoop
  repeat' (first | with_reducible assumption | extract_lets | with_reducible apply kept_ite | with_reducible apply kept_next | (with_reducible apply kept_foldl; intro _ _ _) | (split) | (dsimp +zetaDelta only))

theorem kept_setSeg {s : State} (n) (x2) (hk : Kept Q F s) : Kept Q F (State.setSeg s n x2) := by
  unfold State.setSeg
  repeat' (first | with_reducible assumption | extract_lets | with_reducible apply kept_ite | with_reducible apply kept_next | (with_reducible apply kept_foldl; intro _ _ _) | (split) | (dsimp +zetaDelta only))

theorem kept_setChain {s : State} (n) (x2) (hk : Kept Q F s) : Kept Q F (State.setChain s n x2) := by
  unfold State.setChain
  repeat' (first | with_reducible assumption | extract_lets | with_reducible apply kept_ite | with_reducible apply kept_next | (with_reducible apply kept_foldl; intro _ _ _) | (split) | (dsimp +zetaDelta only))

theorem kept_setCtx {s : State} (n) (x2) (hk : Kept Q F s) : Kept Q F (State.setCtx s n x2) := by
  unfold State.setCtx
  repeat' (first | with_reducible assumption | extract_lets | with_reducible apply kept_ite | with_reducible apply kept_next | (with_reducible apply kept_foldl; intro _ _ _) | (split) | (dsimp +zetaDelta only))

theorem kept_setLane {s : State} (n) (x2) (hk : Kept Q F s) : Kept Q F (State.setLane s n x2) := by
  unfold State.setLane
  repeat' (first | with_reducible assumption | extract_lets | with_reducible apply kept_ite | with_reducible apply kept_next | (with_reducible apply kept_foldl; intro _ _ _) | (split) | (dsimp +zetaDelta only))

theorem kept_setPort {s : State} (n) (x2) (hk : Kept Q F s) : Kept Q F (State.setPort s n x2) := by
  unfold State.setPort
  repeat' (first | with_reducible assumption | extract_lets | with_reducible apply kept_ite | with_reducible apply kept_next | (with_reducible apply kept_foldl; intro _ _ _) | (split) | (dsimp +zetaDelta only))

theorem kept_keepSlots {s : State} (hk : Kept Q F s) : Kept Q F (State.keepSlots s) := by
  unfold State.keepSlots
  repeat' (first | with_reducible assumption | extract_lets | with_reducible apply kept_ite | with_reducible apply kept_next | (with_reducible apply kept_foldl; intro _ _ _) | (split) | (dsimp +zetaDelta only))

theorem kept_setSlot {s : State} (n) (x2) (hk : Kept Q F s) : Kept Q F (State.setSlot s n x2) := by
  unfold State.setSlot State.keepSlots
  split
  · exact hk
  · exact hk

theorem kept_setCredit {s : State} (m) (x2) (hk : Kept Q F s) : Kept Q F (State.setCredit s m x2) := by
  unfold State.setCredit
  repeat' (first | with_reducible assumption | extract_lets | with_reducible apply kept_ite | with_reducible apply kept_next | (with_reducible apply kept_foldl; intro _ _ _) | (split) | (dsimp +zetaDelta only))

theorem kept_alertSync {s : State} (hk : Kept Q F s) : Kept Q F (State.alertSync s) := by
  unfold State.alertSync
  repeat' (first | with_reducible assumption | extract_lets | with_reducible apply kept_ite | with_reducible apply kept_next | (with_reducible apply kept_foldl; intro _ _ _) | (split) | (dsimp +zetaDelta only))

theorem kept_msixSend {s : State} (hk : Kept Q F s) : Kept Q F (State.msixSend s) := by
  unfold State.msixSend
  repeat' (first | with_reducible assumption | extract_lets | with_reducible apply kept_ite | with_reducible apply kept_next | (with_reducible apply kept_foldl; intro _ _ _) | (split) | (dsimp +zetaDelta only))

theorem kept_msixSync {s : State} (was) (hk : Kept Q F s) : Kept Q F (State.msixSync s was) := by
  unfold State.msixSync
  repeat' (first | with_reducible assumption | extract_lets | with_reducible apply kept_ite | with_reducible apply kept_next | (with_reducible apply kept_foldl; intro _ _ _) | with_reducible apply kept_msixSend | (split) | (dsimp +zetaDelta only))

theorem kept_clockSync {s : State} (old) (hk : Kept Q F s) : Kept Q F (State.clockSync s old) := by
  unfold State.clockSync
  repeat' (first | with_reducible assumption | extract_lets | with_reducible apply kept_ite | with_reducible apply kept_next | (with_reducible apply kept_foldl; intro _ _ _) | (split) | (dsimp +zetaDelta only))

theorem kept_treeSync {s : State} (old) (hk : Kept Q F s) : Kept Q F (treeSync old s) := by
  unfold treeSync
  repeat' (first | with_reducible assumption | extract_lets | with_reducible apply kept_ite | with_reducible apply kept_next | (with_reducible apply kept_foldl; intro _ _ _) | with_reducible apply kept_alertSync | with_reducible apply kept_msixSync | with_reducible apply kept_clockSync | (split) | (dsimp +zetaDelta only))

theorem kept_setDropped {s : State} (hk : Kept Q F s) : Kept Q F (State.setDropped s) := by
  unfold State.setDropped
  repeat' (first | with_reducible assumption | extract_lets | with_reducible apply kept_ite | with_reducible apply kept_next | (with_reducible apply kept_foldl; intro _ _ _) | with_reducible apply kept_setReg | (split) | (dsimp +zetaDelta only))

theorem kept_event {s : State} (ty) (detail) (hk : Kept Q F s) : Kept Q F (State.event s ty detail) := by
  unfold State.event
  repeat' (first | with_reducible assumption | extract_lets | with_reducible apply kept_ite | with_reducible apply kept_next | (with_reducible apply kept_foldl; intro _ _ _) | with_reducible apply kept_setDropped | (split) | (dsimp +zetaDelta only))

theorem kept_raise {s : State} (l) (b) (hk : Kept Q F s) : Kept Q F (State.raise s l b) := by
  unfold State.raise
  repeat' (first | with_reducible assumption | extract_lets | with_reducible apply kept_ite | with_reducible apply kept_next | (with_reducible apply kept_foldl; intro _ _ _) | with_reducible apply kept_setReg | with_reducible apply kept_treeSync | with_reducible apply kept_event | (split) | (dsimp +zetaDelta only))

theorem kept_raiseWith {s : State} (l) (b) (detail) (hk : Kept Q F s) : Kept Q F (State.raiseWith s l b detail) := by
  unfold State.raiseWith
  repeat' (first | with_reducible assumption | extract_lets | with_reducible apply kept_ite | with_reducible apply kept_next | (with_reducible apply kept_foldl; intro _ _ _) | with_reducible apply kept_setReg | with_reducible apply kept_treeSync | with_reducible apply kept_event | (split) | (dsimp +zetaDelta only))

theorem kept_raiseEach {s : State} (l) (b) (hk : Kept Q F s) : Kept Q F (State.raiseEach s l b) := by
  unfold State.raiseEach
  repeat' (first | with_reducible assumption | extract_lets | with_reducible apply kept_ite | with_reducible apply kept_next | (with_reducible apply kept_foldl; intro _ _ _) | with_reducible apply kept_raiseWith | (split) | (dsimp +zetaDelta only))

theorem kept_raiseAll (a) : ∀ {s : State} (l), Kept Q F s → Kept Q F (State.raiseAll s l a) := by
  induction a with
  | nil =>
    intro s l hk
    unfold State.raiseAll
    exact hk
  | cons _ _ ih =>
    intro s l hk
    unfold State.raiseAll
    repeat' (first | with_reducible assumption | extract_lets | with_reducible apply kept_ite | with_reducible apply kept_next | (with_reducible apply kept_foldl; intro _ _ _) | with_reducible apply ih | with_reducible apply kept_raise | (split) | (dsimp +zetaDelta only))

theorem kept_levelBit {s : State} (l) (b) (v) (hk : Kept Q F s) : Kept Q F (State.levelBit s l b v) := by
  unfold State.levelBit
  repeat' (first | with_reducible assumption | extract_lets | with_reducible apply kept_ite | with_reducible apply kept_next | (with_reducible apply kept_foldl; intro _ _ _) | with_reducible apply kept_setReg | with_reducible apply kept_treeSync | with_reducible apply kept_raise | (split) | (dsimp +zetaDelta only))

theorem kept_dropLeaves {s : State} (off) (hk : Kept Q F s) : Kept Q F (State.dropLeaves s off) := by
  unfold State.dropLeaves
  repeat' (first | with_reducible assumption | extract_lets | with_reducible apply kept_ite | with_reducible apply kept_next | (with_reducible apply kept_foldl; intro _ _ _) | with_reducible apply kept_resetRegs | (split) | (dsimp +zetaDelta only))

theorem kept_enter {s : State} (m) (c) (hk : Kept Q F s) : Kept Q F (State.enter s m c) := by
  unfold State.enter
  repeat' (first | with_reducible assumption | extract_lets | with_reducible apply kept_ite | with_reducible apply kept_next | (with_reducible apply kept_foldl; intro _ _ _) | with_reducible apply kept_treeSync | with_reducible apply kept_event | with_reducible apply kept_dropLeaves | (split) | (dsimp +zetaDelta only))

theorem kept_setFetchBank {s : State} (f) (hk : Kept Q F s) : Kept Q F (State.setFetchBank s f) := by
  unfold State.setFetchBank
  repeat' (first | with_reducible assumption | extract_lets | with_reducible apply kept_ite | with_reducible apply kept_next | (with_reducible apply kept_foldl; intro _ _ _) | with_reducible apply kept_setFld | (split) | (dsimp +zetaDelta only))

theorem kept_norBegin {s : State} (o) (hk : Kept Q F s) : Kept Q F (State.norBegin s o) := by
  unfold State.norBegin
  repeat' (first | with_reducible assumption | extract_lets | with_reducible apply kept_ite | with_reducible apply kept_next | (with_reducible apply kept_foldl; intro _ _ _) | with_reducible apply kept_setFld | (split) | (dsimp +zetaDelta only))

theorem kept_norStart {s : State} (k) (pages) (data) (fetch) (hk : Kept Q F s) : Kept Q F (State.norStart s k pages data fetch) := by
  unfold State.norStart
  repeat' (first | with_reducible assumption | extract_lets | with_reducible apply kept_ite | with_reducible apply kept_next | (with_reducible apply kept_foldl; intro _ _ _) | with_reducible apply kept_setFld | with_reducible apply kept_raise | with_reducible apply kept_setFetchBank | with_reducible apply kept_norBegin | (split) | (dsimp +zetaDelta only))

theorem kept_logTouch {s : State} (a) (n) (erase) (hk : Kept Q F s) : Kept Q F (State.logTouch s a n erase) := by
  unfold State.logTouch
  repeat' (first | with_reducible assumption | extract_lets | with_reducible apply kept_ite | with_reducible apply kept_next | (with_reducible apply kept_foldl; intro _ _ _) | (split) | (dsimp +zetaDelta only))

theorem kept_norApply {s : State} (o) (hk : Kept Q F s) : Kept Q F (State.norApply s o) := by
  unfold State.norApply
  extract_lets r t _ u
  have h1 : Kept Q F t := kept_logTouch _ _ _ hk
  have h2 : Kept Q F u := kept_logTouch _ _ _ hk
  split
  · exact kept_nor (progBytes_wf _ _ h1.nor) h1
  · exact kept_nor (eraseBytes_wf _ _ h2.nor) h2

theorem kept_norSpoil {s : State} (o) (hk : Kept Q F s) : Kept Q F (State.norSpoil s o) := by
  unfold State.norSpoil
  generalize 65536 = w
  extract_lets b t
  have h1 : Kept Q F t := kept_logTouch _ _ _ hk
  exact kept_nor (freeFill_wf _ _ _ h1.nor) h1

theorem kept_sendMctp {s : State} (bs) (hk : Kept Q F s) : Kept Q F (State.sendMctp s bs) := by
  unfold State.sendMctp
  repeat' (first | with_reducible assumption | extract_lets | with_reducible apply kept_ite | with_reducible apply kept_next | (with_reducible apply kept_foldl; intro _ _ _) | with_reducible apply kept_levelBit | (split) | (dsimp +zetaDelta only))

theorem kept_miReply {s : State} (id) (status) (dw0) (data) (hk : Kept Q F s) : Kept Q F (State.miReply s id status dw0 data) := by
  unfold State.miReply
  repeat' (first | with_reducible assumption | extract_lets | with_reducible apply kept_ite | with_reducible apply kept_next | (with_reducible apply kept_foldl; intro _ _ _) | with_reducible apply kept_sendMctp | (split) | (dsimp +zetaDelta only))

theorem kept_reply {s : State} (v) (x2) (dw0) (hk : Kept Q F s) : Kept Q F (State.reply s v x2 dw0) := by
  unfold State.reply
  repeat' (first | with_reducible assumption | extract_lets | with_reducible apply kept_ite | with_reducible apply kept_next | (with_reducible apply kept_foldl; intro _ _ _) | with_reducible apply kept_adminDone | with_reducible apply kept_miReply | (split) | (dsimp +zetaDelta only))

theorem kept_replyData {s : State} (v) (x2) (dw0) (bs) (hk : Kept Q F s) : Kept Q F (State.replyData s v x2 dw0 bs) := by
  unfold State.replyData
  repeat' (first | with_reducible assumption | extract_lets | with_reducible apply kept_ite | with_reducible apply kept_next | (with_reducible apply kept_foldl; intro _ _ _) | with_reducible apply kept_adminDone | with_reducible apply kept_dataToHost | with_reducible apply kept_miReply | (split) | (dsimp +zetaDelta only))

theorem kept_updEvent {s : State} (u) (step) (outcome) (hk : Kept Q F s) : Kept Q F (State.updEvent s u step outcome) := by
  unfold State.updEvent
  repeat' (first | with_reducible assumption | extract_lets | with_reducible apply kept_ite | with_reducible apply kept_next | (with_reducible apply kept_foldl; intro _ _ _) | with_reducible apply kept_event | (split) | (dsimp +zetaDelta only))

theorem kept_updKick {s : State} (hk : Kept Q F s) : Kept Q F (State.updKick s) := by
  unfold State.updKick
  repeat' (first | with_reducible assumption | extract_lets | with_reducible apply kept_ite | with_reducible apply kept_next | (with_reducible apply kept_foldl; intro _ _ _) | with_reducible apply kept_setFld | with_reducible apply kept_norBegin | (split) | (dsimp +zetaDelta only))

theorem kept_updEnd {s : State} (u) (x2) (hk : Kept Q F s) : Kept Q F (State.updEnd s u x2) := by
  unfold State.updEnd
  repeat' (first | with_reducible assumption | extract_lets | with_reducible apply kept_ite | with_reducible apply kept_next | (with_reducible apply kept_foldl; intro _ _ _) | with_reducible apply kept_reply | (split) | (dsimp +zetaDelta only))

theorem kept_updFail {s : State} (u) (hk : Kept Q F s) : Kept Q F (State.updFail s u) := by
  unfold State.updFail
  repeat' (first | with_reducible assumption | extract_lets | with_reducible apply kept_ite | with_reducible apply kept_next | (with_reducible apply kept_foldl; intro _ _ _) | with_reducible apply kept_updEnd | (split) | (dsimp +zetaDelta only))

theorem kept_updPhase {s : State} (u) (p) (hk : Kept Q F s) : Kept Q F (State.updPhase s u p) := by
  unfold State.updPhase
  repeat' (first | with_reducible assumption | extract_lets | with_reducible apply kept_ite | with_reducible apply kept_next | (with_reducible apply kept_foldl; intro _ _ _) | (split) | (dsimp +zetaDelta only))

theorem kept_updVerify {s : State} (u) (hk : Kept Q F s) : Kept Q F (State.updVerify s u) := by
  unfold State.updVerify
  repeat' (first | with_reducible assumption | extract_lets | with_reducible apply kept_ite | with_reducible apply kept_next | (with_reducible apply kept_foldl; intro _ _ _) | with_reducible apply kept_updFail | with_reducible apply kept_updPhase | (split) | (dsimp +zetaDelta only))

theorem kept_updNext {s : State} (u) (hk : Kept Q F s) : Kept Q F (State.updNext s u) := by
  unfold State.updNext
  repeat' (first | with_reducible assumption | extract_lets | with_reducible apply kept_ite | with_reducible apply kept_next | (with_reducible apply kept_foldl; intro _ _ _) | with_reducible apply kept_updPhase | with_reducible apply kept_updVerify | (split) | (dsimp +zetaDelta only))

theorem kept_dropStaged {s : State} (u) (n) (hk : Kept Q F s) : Kept Q F (State.dropStaged s u n) := by
  unfold State.dropStaged
  repeat' (first | with_reducible assumption | extract_lets | with_reducible apply kept_ite | with_reducible apply kept_next | (with_reducible apply kept_foldl; intro _ _ _) | (split) | (dsimp +zetaDelta only))

theorem kept_updStep {s : State} (u) (o) (hk : Kept Q F s) : Kept Q F (State.updStep s u o) := by
  unfold State.updStep
  repeat' (first | with_reducible assumption | extract_lets | with_reducible apply kept_ite | with_reducible apply kept_next | (with_reducible apply kept_foldl; intro _ _ _) | with_reducible apply kept_norApply | with_reducible apply kept_updEvent | with_reducible apply kept_updEnd | with_reducible apply kept_updFail | with_reducible apply kept_updPhase | with_reducible apply kept_updNext | with_reducible apply kept_dropStaged | (split) | (dsimp +zetaDelta only))

theorem kept_updResume {s : State} (hk : Kept Q F s) : Kept Q F (State.updResume s) := by
  unfold State.updResume
  repeat' (first | with_reducible assumption | extract_lets | with_reducible apply kept_ite | with_reducible apply kept_next | (with_reducible apply kept_foldl; intro _ _ _) | with_reducible apply kept_raise | with_reducible apply kept_updEvent | with_reducible apply kept_updKick | with_reducible apply kept_updEnd | with_reducible apply kept_updPhase | with_reducible apply kept_updVerify | with_reducible apply kept_updNext | with_reducible apply kept_dropStaged | (split) | (dsimp +zetaDelta only))

theorem kept_updRestart {s : State} (hk : Kept Q F s) : Kept Q F (State.updRestart s) := by
  unfold State.updRestart
  repeat' (first | with_reducible assumption | extract_lets | with_reducible apply kept_ite | with_reducible apply kept_next | (with_reducible apply kept_foldl; intro _ _ _) | with_reducible apply kept_updResume | (split) | (dsimp +zetaDelta only))

theorem kept_clearKick {s : State} (hk : Kept Q F s) : Kept Q F (State.clearKick s) := by
  unfold State.clearKick
  repeat' (first | with_reducible assumption | extract_lets | with_reducible apply kept_ite | with_reducible apply kept_next | (with_reducible apply kept_foldl; intro _ _ _) | (split) | (dsimp +zetaDelta only))

theorem kept_clearStep {s : State} (hk : Kept Q F s) : Kept Q F (State.clearStep s) := by
  unfold State.clearStep
  repeat' (first | with_reducible assumption | extract_lets | with_reducible apply kept_ite | with_reducible apply kept_next | (with_reducible apply kept_foldl; intro _ _ _) | with_reducible apply kept_raise | with_reducible apply kept_levelBit | with_reducible apply kept_miReply | (split) | (dsimp +zetaDelta only))

theorem kept_rdLoad {s : State} (hk : Kept Q F s) : Kept Q F (State.rdLoad s) := by
  unfold State.rdLoad
  repeat' (first | with_reducible assumption | extract_lets | with_reducible apply kept_ite | with_reducible apply kept_next | (with_reducible apply kept_foldl; intro _ _ _) | with_reducible apply kept_setReg | with_reducible apply kept_setFld | (split) | (dsimp +zetaDelta only))

theorem kept_norKick {s : State} (hk : Kept Q F s) : Kept Q F (State.norKick s) := by
  unfold State.norKick
  repeat' (first | with_reducible assumption | extract_lets | with_reducible apply kept_ite | with_reducible apply kept_next | (with_reducible apply kept_foldl; intro _ _ _) | with_reducible apply kept_updKick | with_reducible apply kept_clearKick | with_reducible apply kept_rdLoad | (split) | (dsimp +zetaDelta only))

theorem kept_cutRecords {s : State} (hk : Kept Q F s) : Kept Q F (State.cutRecords s) := by
  unfold State.cutRecords
  repeat' (first | with_reducible assumption | extract_lets | with_reducible apply kept_ite | with_reducible apply kept_next | (with_reducible apply kept_foldl; intro _ _ _) | (split) | (dsimp +zetaDelta only))

theorem kept_norAbandon {s : State} (hk : Kept Q F s) : Kept Q F (State.norAbandon s) := by
  unfold State.norAbandon
  repeat' (first | with_reducible assumption | extract_lets | with_reducible apply kept_ite | with_reducible apply kept_next | (with_reducible apply kept_foldl; intro _ _ _) | with_reducible apply kept_setReg | with_reducible apply kept_setFld | with_reducible apply kept_raise | with_reducible apply kept_norSpoil | with_reducible apply kept_cutRecords | (split) | (dsimp +zetaDelta only))

theorem kept_setBank {s : State} (b) (p) (hk : Kept Q F s) : Kept Q F (State.setBank s b p) := by
  unfold State.setBank
  repeat' (first | with_reducible assumption | extract_lets | with_reducible apply kept_ite | with_reducible apply kept_next | (with_reducible apply kept_foldl; intro _ _ _) | (split) | (dsimp +zetaDelta only))

theorem kept_syncBanks {s : State} (hk : Kept Q F s) : Kept Q F (State.syncBanks s) := by
  unfold State.syncBanks
  repeat' (first | with_reducible assumption | extract_lets | with_reducible apply kept_ite | with_reducible apply kept_next | (with_reducible apply kept_foldl; intro _ _ _) | with_reducible apply kept_setBank | (split) | (dsimp +zetaDelta only))

theorem kept_dropVolatile {s : State} (hk : Kept Q F s) : Kept Q F (State.dropVolatile s) :=
  kept_xfr (memFilter_wf _ _ hk.xfr) hk

theorem kept_dropHibernate {s : State} (hk : Kept Q F s) : Kept Q F (State.dropHibernate s) :=
  kept_xfr (memFilter_wf _ _ hk.xfr) hk

theorem kept_floatLdg {s : State} (hk : Kept Q F s) : Kept Q F (State.floatLdg s) := by
  unfold State.floatLdg
  repeat' (first | with_reducible assumption | extract_lets | with_reducible apply kept_ite | with_reducible apply kept_next | (with_reducible apply kept_foldl; intro _ _ _) | (split) | (dsimp +zetaDelta only))

theorem kept_driveRefs {s : State} (hk : Kept Q F s) : Kept Q F (State.driveRefs s) := by
  unfold State.driveRefs
  repeat' (first | with_reducible assumption | extract_lets | with_reducible apply kept_ite | with_reducible apply kept_next | (with_reducible apply kept_foldl; intro _ _ _) | (split) | (dsimp +zetaDelta only))

theorem kept_parkLdg {s : State} (hk : Kept Q F s) : Kept Q F (State.parkLdg s) := by
  unfold State.parkLdg
  repeat' (first | with_reducible assumption | extract_lets | with_reducible apply kept_ite | with_reducible apply kept_next | (with_reducible apply kept_foldl; intro _ _ _) | with_reducible apply kept_driveRefs | (split) | (dsimp +zetaDelta only))

theorem kept_toOff {s : State} (why) (c) (hk : Kept Q F s) : Kept Q F (State.toOff s why c) := by
  unfold State.toOff
  repeat' (first | with_reducible assumption | extract_lets | with_reducible apply kept_ite | with_reducible apply kept_next | (with_reducible apply kept_foldl; intro _ _ _) | with_reducible apply kept_setFld | with_reducible apply kept_enter | with_reducible apply kept_syncBanks | with_reducible apply kept_dropVolatile | with_reducible apply kept_floatLdg | (split) | (dsimp +zetaDelta only))

theorem kept_restoreTime {s : State} (hk : Kept Q F s) : Kept Q F (State.restoreTime s) := by
  unfold State.restoreTime
  repeat' (first | with_reducible assumption | extract_lets | with_reducible apply kept_ite | with_reducible apply kept_next | (with_reducible apply kept_foldl; intro _ _ _) | (split) | (dsimp +zetaDelta only))

theorem kept_toStrap {s : State} (fromOff) (hk : Kept Q F s) : Kept Q F (State.toStrap s fromOff) := by
  unfold State.toStrap
  extract_lets s1 s2 a b s3
  have h2 : Kept Q F s2 := kept_syncBanks (kept_setFld _ _ _ _ (kept_resetRegs _ (kept_parkLdg (kept_dropVolatile (kept_enter _ _ hk)))))
  have h3 : Kept Q F s3 := by
    unfold s3
    split
    · exact kept_xfr (memFilter_wf _ _ h2.xfr) (kept_restoreTime h2)
    · exact h2
  exact h3

theorem kept_logSearch {s : State} (hk : Kept Q F s) : Kept Q F (State.logSearch s) := by
  unfold State.logSearch
  repeat' (first | with_reducible assumption | extract_lets | with_reducible apply kept_ite | with_reducible apply kept_next | (with_reducible apply kept_foldl; intro _ _ _) | with_reducible apply kept_clearKick | (split) | (dsimp +zetaDelta only))

theorem kept_startEvent {s : State} (hk : Kept Q F s) : Kept Q F (State.startEvent s) := by
  unfold State.startEvent
  repeat' (first | with_reducible assumption | extract_lets | with_reducible apply kept_ite | with_reducible apply kept_next | (with_reducible apply kept_foldl; intro _ _ _) | with_reducible apply kept_event | (split) | (dsimp +zetaDelta only))

theorem kept_toMaint {s : State} (cause) (c) (hk : Kept Q F s) : Kept Q F (State.toMaint s cause c) := by
  unfold State.toMaint
  repeat' (first | with_reducible assumption | extract_lets | with_reducible apply kept_ite | with_reducible apply kept_next | (with_reducible apply kept_foldl; intro _ _ _) | with_reducible apply kept_setReg | with_reducible apply kept_setFld | with_reducible apply kept_enter | with_reducible apply kept_updRestart | with_reducible apply kept_syncBanks | with_reducible apply kept_dropVolatile | with_reducible apply kept_floatLdg | with_reducible apply kept_logSearch | with_reducible apply kept_startEvent | (split) | (dsimp +zetaDelta only))

theorem kept_phaseTime {s : State} (n) (us) (hk : Kept Q F s) : Kept Q F (State.phaseTime s n us) := by
  unfold State.phaseTime
  repeat' (first | with_reducible assumption | extract_lets | with_reducible apply kept_ite | with_reducible apply kept_next | (with_reducible apply kept_foldl; intro _ _ _) | with_reducible apply kept_setReg | (split) | (dsimp +zetaDelta only))

theorem kept_phaseEnd {s : State} (n) (hk : Kept Q F s) : Kept Q F (State.phaseEnd s n) := by
  unfold State.phaseEnd
  repeat' (first | with_reducible assumption | extract_lets | with_reducible apply kept_ite | with_reducible apply kept_next | (with_reducible apply kept_foldl; intro _ _ _) | with_reducible apply kept_phaseTime | (split) | (dsimp +zetaDelta only))

theorem kept_setSlotReason {s : State} (x1) (r) (hk : Kept Q F s) : Kept Q F (State.setSlotReason s x1 r) := by
  unfold State.setSlotReason
  repeat' (first | with_reducible assumption | extract_lets | with_reducible apply kept_ite | with_reducible apply kept_next | (with_reducible apply kept_foldl; intro _ _ _) | with_reducible apply kept_setFld | (split) | (dsimp +zetaDelta only))

theorem kept_markNoCand {s : State} (hk : Kept Q F s) : Kept Q F (State.markNoCand s) := by
  unfold State.markNoCand
  repeat' (first | with_reducible assumption | extract_lets | with_reducible apply kept_ite | with_reducible apply kept_next | (with_reducible apply kept_foldl; intro _ _ _) | with_reducible apply kept_setSlotReason | (split) | (dsimp +zetaDelta only))

theorem kept_loadOn {s : State} (x1) (hk : Kept Q F s) : Kept Q F (State.loadOn s x1) := by
  unfold State.loadOn
  repeat' (first | with_reducible assumption | extract_lets | with_reducible apply kept_ite | with_reducible apply kept_next | (with_reducible apply kept_foldl; intro _ _ _) | (split) | (dsimp +zetaDelta only))

theorem kept_slotFail {s : State} (x1) (reason) (hk : Kept Q F s) : Kept Q F (State.slotFail s x1 reason) := by
  unfold State.slotFail
  repeat' (first | with_reducible assumption | extract_lets | with_reducible apply kept_ite | with_reducible apply kept_next | (with_reducible apply kept_foldl; intro _ _ _) | with_reducible apply kept_setFld | with_reducible apply kept_raise | with_reducible apply kept_toMaint | with_reducible apply kept_setSlotReason | with_reducible apply kept_markNoCand | with_reducible apply kept_loadOn | (split) | (dsimp +zetaDelta only))

theorem kept_loadFault {s : State} (hk : Kept Q F s) : Kept Q F (State.loadFault s) := by
  unfold State.loadFault
  repeat' (first | with_reducible assumption | extract_lets | with_reducible apply kept_ite | with_reducible apply kept_next | (with_reducible apply kept_foldl; intro _ _ _) | with_reducible apply kept_setFld | with_reducible apply kept_raise | with_reducible apply kept_toMaint | with_reducible apply kept_setSlotReason | with_reducible apply kept_loadOn | with_reducible apply kept_slotFail | (split) | (dsimp +zetaDelta only))

theorem kept_kmFree {s : State} (hk : Kept Q F s) : Kept Q F (State.kmFree s) := by
  unfold State.kmFree
  repeat' (first | with_reducible assumption | extract_lets | with_reducible apply kept_ite | with_reducible apply kept_next | (with_reducible apply kept_foldl; intro _ _ _) | with_reducible apply kept_setFld | with_reducible apply kept_resetRegs | (split) | (dsimp +zetaDelta only))

theorem kept_kmAbandon {s : State} (hk : Kept Q F s) : Kept Q F (State.kmAbandon s) := by
  unfold State.kmAbandon
  repeat' (first | with_reducible assumption | extract_lets | with_reducible apply kept_ite | with_reducible apply kept_next | (with_reducible apply kept_foldl; intro _ _ _) | with_reducible apply kept_setFld | (split) | (dsimp +zetaDelta only))

theorem kept_kmIslandReset {s : State} (id) (hk : Kept Q F s) : Kept Q F (State.kmIslandReset s id) := by
  unfold State.kmIslandReset
  repeat' (first | with_reducible assumption | extract_lets | with_reducible apply kept_ite | with_reducible apply kept_next | (with_reducible apply kept_foldl; intro _ _ _) | with_reducible apply kept_kmFree | with_reducible apply kept_kmAbandon | (split) | (dsimp +zetaDelta only))

theorem kept_mpRelease {s : State} (hk : Kept Q F s) : Kept Q F (State.mpRelease s) := by
  unfold State.mpRelease
  repeat' (first | with_reducible assumption | extract_lets | with_reducible apply kept_ite | with_reducible apply kept_next | (with_reducible apply kept_foldl; intro _ _ _) | with_reducible apply kept_setFld | (split) | (dsimp +zetaDelta only))

theorem kept_mpReset {s : State} (hk : Kept Q F s) : Kept Q F (State.mpReset s) := by
  unfold State.mpReset
  repeat' (first | with_reducible assumption | extract_lets | with_reducible apply kept_ite | with_reducible apply kept_next | (with_reducible apply kept_foldl; intro _ _ _) | with_reducible apply kept_loadFault | with_reducible apply kept_kmIslandReset | with_reducible apply kept_mpRelease | (split) | (dsimp +zetaDelta only))

theorem kept_clearSlots {s : State} (lo) (n) (hk : Kept Q F s) : Kept Q F (State.clearSlots s lo n) := by
  unfold State.clearSlots
  repeat' (first | with_reducible assumption | extract_lets | with_reducible apply kept_ite | with_reducible apply kept_next | (with_reducible apply kept_foldl; intro _ _ _) | with_reducible apply kept_keepSlots | (split) | (dsimp +zetaDelta only))

theorem kept_noteAcquire {s : State} (id) (hk : Kept Q F s) : Kept Q F (State.noteAcquire s id) := by
  unfold State.noteAcquire
  repeat' (first | with_reducible assumption | extract_lets | with_reducible apply kept_ite | with_reducible apply kept_next | (with_reducible apply kept_foldl; intro _ _ _) | (split) | (dsimp +zetaDelta only))

theorem kept_execAcquire {s : State} (who) (hk : Kept Q F s) : KeptO Q F (execAcquire who s) := by
  unfold execAcquire
  repeat' (first | with_reducible assumption | extract_lets | with_reducible apply kept_ite | with_reducible apply kept_next | (with_reducible apply kept_foldl; intro _ _ _) | with_reducible apply kept_setFld | with_reducible apply kept_noteAcquire | (split) | (dsimp +zetaDelta only))

theorem kept_execRelease {s : State} (who) (hk : Kept Q F s) : KeptO Q F (execRelease who s) := by
  unfold execRelease
  repeat' (first | with_reducible assumption | extract_lets | with_reducible apply kept_ite | with_reducible apply kept_next | (with_reducible apply kept_foldl; intro _ _ _) | with_reducible apply kept_kmFree | (split) | (dsimp +zetaDelta only))

theorem kept_kmStart {s : State} (who) (o) (hk : Kept Q F s) : Kept Q F (State.kmStart s who o) := by
  unfold State.kmStart
  repeat' (first | with_reducible assumption | extract_lets | with_reducible apply kept_ite | with_reducible apply kept_next | (with_reducible apply kept_foldl; intro _ _ _) | with_reducible apply kept_raise | (split) | (dsimp +zetaDelta only))

theorem kept_execUnwrap {s : State} (who) (slot) (x2) (w) (hk : Kept Q F s) : KeptO Q F (execUnwrap who slot x2 w s) := by
  unfold execUnwrap
  repeat' (first | with_reducible assumption | extract_lets | with_reducible apply kept_ite | with_reducible apply kept_next | (with_reducible apply kept_foldl; intro _ _ _) | with_reducible apply kept_kmStart | (split) | (dsimp +zetaDelta only))

theorem kept_execWrapOut {s : State} (who) (slot) (hk : Kept Q F s) : KeptO Q F (execWrapOut who slot s) := by
  unfold execWrapOut
  repeat' (first | with_reducible assumption | extract_lets | with_reducible apply kept_ite | with_reducible apply kept_next | (with_reducible apply kept_foldl; intro _ _ _) | with_reducible apply kept_kmStart | (split) | (dsimp +zetaDelta only))

theorem kept_execWrapData {s : State} (who) (slot) (bytes) (hk : Kept Q F s) : KeptO Q F (execWrapData who slot bytes s) := by
  unfold execWrapData
  repeat' (first | with_reducible assumption | extract_lets | with_reducible apply kept_ite | with_reducible apply kept_next | (with_reducible apply kept_foldl; intro _ _ _) | with_reducible apply kept_kmStart | (split) | (dsimp +zetaDelta only))

theorem kept_execClear {s : State} (who) (slot) (hk : Kept Q F s) : KeptO Q F (execClear who slot s) := by
  unfold execClear
  repeat' (first | with_reducible assumption | extract_lets | with_reducible apply kept_ite | with_reducible apply kept_next | (with_reducible apply kept_foldl; intro _ _ _) | with_reducible apply kept_kmStart | (split) | (dsimp +zetaDelta only))

theorem kept_putKmData (a) : ∀ {s : State} (i), Kept Q F s → Kept Q F (State.putKmData s i a) := by
  induction a with
  | nil =>
    intro s i hk
    unfold State.putKmData
    exact hk
  | cons _ _ ih =>
    intro s i hk
    unfold State.putKmData
    repeat' (first | with_reducible assumption | extract_lets | with_reducible apply kept_ite | with_reducible apply kept_next | (with_reducible apply kept_foldl; intro _ _ _) | with_reducible apply ih | with_reducible apply kept_setReg | (split) | (dsimp +zetaDelta only))

theorem kept_addBlocks {s : State} (g) (n) (hk : Kept Q F s) : Kept Q F (State.addBlocks s g n) := by
  unfold State.addBlocks
  repeat' (first | with_reducible assumption | extract_lets | with_reducible apply kept_ite | with_reducible apply kept_next | (with_reducible apply kept_foldl; intro _ _ _) | (split) | (dsimp +zetaDelta only))

theorem kept_execKmOpComplete {s : State} (hk : Kept Q F s) : KeptO Q F (execKmOpComplete s) := by
  unfold execKmOpComplete
  repeat' (first | with_reducible assumption | extract_lets | with_reducible apply kept_ite | with_reducible apply kept_next | (with_reducible apply kept_foldl; intro _ _ _) | with_reducible apply kept_setFld | with_reducible apply kept_setSlot | with_reducible apply kept_raise | with_reducible apply kept_kmFree | with_reducible apply kept_putKmData | with_reducible apply kept_addBlocks | (split) | (dsimp +zetaDelta only))

theorem kept_execCrySlotSelWrite {s : State} (who) (v) (hk : Kept Q F s) : KeptO Q F (execCrySlotSelWrite who v s) := by
  unfold execCrySlotSelWrite
  repeat' (first | with_reducible assumption | extract_lets | with_reducible apply kept_ite | with_reducible apply kept_next | (with_reducible apply kept_foldl; intro _ _ _) | with_reducible apply kept_setReg | (split) | (dsimp +zetaDelta only))

theorem kept_execEntropyFail {s : State} (hk : Kept Q F s) : KeptO Q F (execEntropyFail s) := by
  unfold execEntropyFail
  repeat' (first | with_reducible assumption | extract_lets | with_reducible apply kept_ite | with_reducible apply kept_next | (with_reducible apply kept_foldl; intro _ _ _) | with_reducible apply kept_raise | (split) | (dsimp +zetaDelta only))

theorem kept_execEntropyStale {s : State} (g) (hk : Kept Q F s) : KeptO Q F (execEntropyStale g s) := by
  unfold execEntropyStale
  repeat' (first | with_reducible assumption | extract_lets | with_reducible apply kept_ite | with_reducible apply kept_next | (with_reducible apply kept_foldl; intro _ _ _) | with_reducible apply kept_raise | (split) | (dsimp +zetaDelta only))

theorem kept_execMaskReseed {s : State} (g) (hk : Kept Q F s) : KeptO Q F (execMaskReseed g s) := by
  unfold execMaskReseed
  repeat' (first | with_reducible assumption | extract_lets | with_reducible apply kept_ite | with_reducible apply kept_next | (with_reducible apply kept_foldl; intro _ _ _) | (split) | (dsimp +zetaDelta only))

theorem kept_syncExport {s : State} (hk : Kept Q F s) : Kept Q F (State.syncExport s) := by
  unfold State.syncExport
  repeat' (first | with_reducible assumption | extract_lets | with_reducible apply kept_ite | with_reducible apply kept_next | (with_reducible apply kept_foldl; intro _ _ _) | with_reducible apply kept_setFld | (split) | (dsimp +zetaDelta only))

theorem kept_refuseActivation {s : State} (a) (hk : Kept Q F s) : Kept Q F (State.refuseActivation s a) := by
  unfold State.refuseActivation
  repeat' (first | with_reducible assumption | extract_lets | with_reducible apply kept_ite | with_reducible apply kept_next | (with_reducible apply kept_foldl; intro _ _ _) | with_reducible apply kept_raise | (split) | (dsimp +zetaDelta only))

theorem kept_freeBlock {s : State} (d) (b) (hk : Kept Q F s) : Kept Q F (State.freeBlock s d b) := by
  unfold State.freeBlock
  repeat' (first | with_reducible assumption | extract_lets | with_reducible apply kept_ite | with_reducible apply kept_next | (with_reducible apply kept_foldl; intro _ _ _) | with_reducible apply kept_setDieMed | with_reducible apply kept_setBlock | (split) | (dsimp +zetaDelta only))

theorem kept_leaveBlock {s : State} (d) (b) (hk : Kept Q F s) : Kept Q F (State.leaveBlock s d b) := by
  unfold State.leaveBlock
  repeat' (first | with_reducible assumption | extract_lets | with_reducible apply kept_ite | with_reducible apply kept_next | (with_reducible apply kept_foldl; intro _ _ _) | with_reducible apply kept_setBlock | with_reducible apply kept_freeBlock | (split) | (dsimp +zetaDelta only))

theorem kept_freeMoves {s : State} (z) (hk : Kept Q F s) : Kept Q F (State.freeMoves s z) := by
  unfold State.freeMoves
  repeat' (first | with_reducible assumption | extract_lets | with_reducible apply kept_ite | with_reducible apply kept_next | (with_reducible apply kept_foldl; intro _ _ _) | with_reducible apply kept_leaveBlock | (split) | (dsimp +zetaDelta only))

theorem kept_freeZone {s : State} (z) (hk : Kept Q F s) : Kept Q F (State.freeZone s z) := by
  unfold State.freeZone
  repeat' (first | with_reducible assumption | extract_lets | with_reducible apply kept_ite | with_reducible apply kept_next | (with_reducible apply kept_foldl; intro _ _ _) | with_reducible apply kept_leaveBlock | with_reducible apply kept_freeMoves | (split) | (dsimp +zetaDelta only))

theorem kept_freezeReads {s : State} (z) (hk : Kept Q F s) : Kept Q F (State.freezeReads s z) := by
  unfold State.freezeReads
  repeat' (first | with_reducible assumption | extract_lets | with_reducible apply kept_ite | with_reducible apply kept_next | (with_reducible apply kept_foldl; intro _ _ _) | (split) | (dsimp +zetaDelta only))

theorem kept_killPrograms {s : State} (z) (hk : Kept Q F s) : Kept Q F (State.killPrograms s z) := by
  unfold State.killPrograms
  repeat' (first | with_reducible assumption | extract_lets | with_reducible apply kept_ite | with_reducible apply kept_next | (with_reducible apply kept_foldl; intro _ _ _) | with_reducible apply kept_setDie | (split) | (dsimp +zetaDelta only))

theorem kept_fillBlock {s : State} (z) (x2) (hk : Kept Q F s) : Kept Q F (State.fillBlock s z x2) := by
  unfold State.fillBlock
  repeat' (first | with_reducible assumption | extract_lets | with_reducible apply kept_ite | with_reducible apply kept_next | (with_reducible apply kept_foldl; intro _ _ _) | with_reducible apply kept_setBlock | (split) | (dsimp +zetaDelta only))

theorem kept_returnBlock {s : State} (z) (i) (hk : Kept Q F s) : Kept Q F (State.returnBlock s z i) := by
  unfold State.returnBlock
  repeat' (first | with_reducible assumption | extract_lets | with_reducible apply kept_ite | with_reducible apply kept_next | (with_reducible apply kept_foldl; intro _ _ _) | with_reducible apply kept_setZone | with_reducible apply kept_leaveBlock | (split) | (dsimp +zetaDelta only))

theorem kept_fillBlocks {s : State} (z) (hk : Kept Q F s) : Kept Q F (State.fillBlocks s z) := by
  unfold State.fillBlocks
  repeat' (first | with_reducible assumption | extract_lets | with_reducible apply kept_ite | with_reducible apply kept_next | (with_reducible apply kept_foldl; intro _ _ _) | with_reducible apply kept_fillBlock | with_reducible apply kept_returnBlock | (split) | (dsimp +zetaDelta only))

theorem kept_dropSectors {s : State} (z) (p) (hk : Kept Q F s) : Kept Q F (State.dropSectors s z p) := by
  unfold State.dropSectors
  repeat' (first | with_reducible assumption | extract_lets | with_reducible apply kept_ite | with_reducible apply kept_next | (with_reducible apply kept_foldl; intro _ _ _) | (split) | (dsimp +zetaDelta only))

theorem kept_setRec {s : State} (q) (r) (hk : Kept Q F s) : Kept Q F (State.setRec s q r) := by
  unfold State.setRec
  repeat' (first | with_reducible assumption | extract_lets | with_reducible apply kept_ite | with_reducible apply kept_next | (with_reducible apply kept_foldl; intro _ _ _) | (split) | (dsimp +zetaDelta only))

theorem kept_retire {s : State} (q) (hk : Kept Q F s) : Kept Q F (State.retire s q) := by
  unfold State.retire
  repeat' (first | with_reducible assumption | extract_lets | with_reducible apply kept_ite | with_reducible apply kept_next | (with_reducible apply kept_foldl; intro _ _ _) | (split) | (dsimp +zetaDelta only))

theorem kept_modRec {s : State} (q) (f) (hk : Kept Q F s) : Kept Q F (State.modRec s q f) := by
  unfold State.modRec
  repeat' (first | with_reducible assumption | extract_lets | with_reducible apply kept_ite | with_reducible apply kept_next | (with_reducible apply kept_foldl; intro _ _ _) | with_reducible apply kept_setRec | (split) | (dsimp +zetaDelta only))

theorem kept_setShares {s : State} (hk : Kept Q F s) : Kept Q F (State.setShares s) := by
  unfold State.setShares
  repeat' (first | with_reducible assumption | extract_lets | with_reducible apply kept_ite | with_reducible apply kept_next | (with_reducible apply kept_foldl; intro _ _ _) | (split) | (dsimp +zetaDelta only))

theorem kept_charge {s : State} (m) (k) (hk : Kept Q F s) : Kept Q F (State.charge s m k) := by
  unfold State.charge
  repeat' (first | with_reducible assumption | extract_lets | with_reducible apply kept_ite | with_reducible apply kept_next | (with_reducible apply kept_foldl; intro _ _ _) | with_reducible apply kept_setCredit | (split) | (dsimp +zetaDelta only))

theorem kept_undelivered {s : State} (member) (queue) (cid) (status) (seq) (hk : Kept Q F s) : Kept Q F (State.undelivered s member queue cid status seq) := by
  unfold State.undelivered
  repeat' (first | with_reducible assumption | extract_lets | with_reducible apply kept_ite | with_reducible apply kept_next | (with_reducible apply kept_foldl; intro _ _ _) | with_reducible apply kept_countFld | with_reducible apply kept_event | with_reducible apply kept_raise | (split) | (dsimp +zetaDelta only))

theorem kept_stampAt {s : State} (h) (n) (x3) (hk : Kept Q F s) : Kept Q F (State.stampAt s h n x3) := by
  unfold State.stampAt
  repeat' (first | with_reducible assumption | extract_lets | with_reducible apply kept_ite | with_reducible apply kept_next | (with_reducible apply kept_foldl; intro _ _ _) | with_reducible apply kept_setReg | (split) | (dsimp +zetaDelta only))

theorem kept_stamp {s : State} (h) (n) (hk : Kept Q F s) : Kept Q F (State.stamp s h n) := by
  unfold State.stamp
  repeat' (first | with_reducible assumption | extract_lets | with_reducible apply kept_ite | with_reducible apply kept_next | (with_reducible apply kept_foldl; intro _ _ _) | with_reducible apply kept_stampAt | (split) | (dsimp +zetaDelta only))

theorem kept_traceStart {s : State} (h) (c) (zoned) (hk : Kept Q F s) : Kept Q F (State.traceStart s h c zoned) := by
  unfold State.traceStart
  repeat' (first | with_reducible assumption | extract_lets | with_reducible apply kept_ite | with_reducible apply kept_next | (with_reducible apply kept_foldl; intro _ _ _) | with_reducible apply kept_setReg | (split) | (dsimp +zetaDelta only))

theorem kept_traceEnd {s : State} (h) (c) (hk : Kept Q F s) : Kept Q F (State.traceEnd s h c) := by
  unfold State.traceEnd
  repeat' (first | with_reducible assumption | extract_lets | with_reducible apply kept_ite | with_reducible apply kept_next | (with_reducible apply kept_foldl; intro _ _ _) | with_reducible apply kept_setReg | with_reducible apply kept_setFld | (split) | (dsimp +zetaDelta only))

theorem kept_recordWait {s : State} (account) (wait) (hk : Kept Q F s) : Kept Q F (State.recordWait s account wait) := by
  unfold State.recordWait
  repeat' (first | with_reducible assumption | extract_lets | with_reducible apply kept_ite | with_reducible apply kept_next | (with_reducible apply kept_foldl; intro _ _ _) | with_reducible apply kept_setReg | with_reducible apply kept_countFld | (split) | (dsimp +zetaDelta only))

theorem kept_discardStaged {s : State} (z) (hk : Kept Q F s) : Kept Q F (State.discardStaged s z) := by
  unfold State.discardStaged
  repeat' (first | with_reducible assumption | extract_lets | with_reducible apply kept_ite | with_reducible apply kept_next | (with_reducible apply kept_foldl; intro _ _ _) | (split) | (dsimp +zetaDelta only))

theorem kept_resetZone {s : State} (z) (hk : Kept Q F s) : Kept Q F (State.resetZone s z) := by
  unfold State.resetZone
  repeat' (first | with_reducible assumption | extract_lets | with_reducible apply kept_ite | with_reducible apply kept_next | (with_reducible apply kept_foldl; intro _ _ _) | with_reducible apply kept_setZone | with_reducible apply kept_freeZone | with_reducible apply kept_freezeReads | with_reducible apply kept_killPrograms | with_reducible apply kept_dropSectors | with_reducible apply kept_discardStaged | (split) | (dsimp +zetaDelta only))

theorem kept_finishZone {s : State} (z) (hk : Kept Q F s) : Kept Q F (State.finishZone s z) := by
  unfold State.finishZone
  repeat' (first | with_reducible assumption | extract_lets | with_reducible apply kept_ite | with_reducible apply kept_next | (with_reducible apply kept_foldl; intro _ _ _) | with_reducible apply kept_setZone | with_reducible apply kept_raise | with_reducible apply kept_fillBlocks | (split) | (dsimp +zetaDelta only))

theorem kept_takeLocks (a) : ∀ {s : State}, Kept Q F s → Kept Q F (State.takeLocks s a) := by
  induction a with
  | nil =>
    intro s hk
    unfold State.takeLocks
    exact hk
  | cons _ _ ih =>
    intro s hk
    unfold State.takeLocks
    repeat' (first | with_reducible assumption | extract_lets | with_reducible apply kept_ite | with_reducible apply kept_next | (with_reducible apply kept_foldl; intro _ _ _) | with_reducible apply ih | with_reducible apply kept_setCmd | (split) | (dsimp +zetaDelta only))

theorem kept_lockKick {s : State} (hk : Kept Q F s) : Kept Q F (State.lockKick s) := by
  unfold State.lockKick
  repeat' (first | with_reducible assumption | extract_lets | with_reducible apply kept_ite | with_reducible apply kept_next | (with_reducible apply kept_foldl; intro _ _ _) | with_reducible apply kept_takeLocks | (split) | (dsimp +zetaDelta only))

theorem kept_forceTail {s : State} (z) (hk : Kept Q F s) : Kept Q F (State.forceTail s z) := by
  unfold State.forceTail
  repeat' (first | with_reducible assumption | extract_lets | with_reducible apply kept_ite | with_reducible apply kept_next | (with_reducible apply kept_foldl; intro _ _ _) | with_reducible apply kept_raise | (split) | (dsimp +zetaDelta only))

theorem kept_forceKick {s : State} (hk : Kept Q F s) : Kept Q F (State.forceKick s) := by
  unfold State.forceKick
  repeat' (first | with_reducible assumption | extract_lets | with_reducible apply kept_ite | with_reducible apply kept_next | (with_reducible apply kept_foldl; intro _ _ _) | with_reducible apply kept_forceTail | (split) | (dsimp +zetaDelta only))

theorem kept_setSec {s : State} (h) (i) (x3) (hk : Kept Q F s) : Kept Q F (State.setSec s h i x3) := by
  unfold State.setSec
  repeat' (first | with_reducible assumption | extract_lets | with_reducible apply kept_ite | with_reducible apply kept_next | (with_reducible apply kept_foldl; intro _ _ _) | with_reducible apply kept_setCmd | (split) | (dsimp +zetaDelta only))

theorem kept_enterRing {s : State} (h) (i) (c) (x4) (hk : Kept Q F s) : Kept Q F (State.enterRing s h i c x4) := by
  unfold State.enterRing
  repeat' (first | with_reducible assumption | extract_lets | with_reducible apply kept_ite | with_reducible apply kept_next | (with_reducible apply kept_foldl; intro _ _ _) | with_reducible apply kept_setLane | with_reducible apply kept_setSec | (split) | (dsimp +zetaDelta only))

theorem kept_registerSec {s : State} (h) (i) (c) (x4) (hk : Kept Q F s) : Kept Q F (State.registerSec s h i c x4) := by
  unfold State.registerSec
  repeat' (first | with_reducible assumption | extract_lets | with_reducible apply kept_ite | with_reducible apply kept_next | (with_reducible apply kept_foldl; intro _ _ _) | with_reducible apply kept_setCmd | with_reducible apply kept_setSec | (split) | (dsimp +zetaDelta only))

theorem kept_registerCmd (a) : ∀ {s : State} (h), Kept Q F s → Kept Q F (State.registerCmd s h a) := by
  induction a with
  | nil =>
    intro s h hk
    unfold State.registerCmd
    exact hk
  | cons _ _ ih =>
    intro s h hk
    unfold State.registerCmd
    repeat' (first | with_reducible assumption | extract_lets | with_reducible apply kept_ite | with_reducible apply kept_next | (with_reducible apply kept_foldl; intro _ _ _) | with_reducible apply ih | with_reducible apply kept_setSec | with_reducible apply kept_registerSec | (split) | (dsimp +zetaDelta only))

theorem kept_registerKick {s : State} (hk : Kept Q F s) : Kept Q F (State.registerKick s) := by
  unfold State.registerKick
  repeat' (first | with_reducible assumption | extract_lets | with_reducible apply kept_ite | with_reducible apply kept_next | (with_reducible apply kept_foldl; intro _ _ _) | with_reducible apply kept_registerCmd | (split) | (dsimp +zetaDelta only))

theorem kept_resetFunction {s : State} (f) (hk : Kept Q F s) : Kept Q F (State.resetFunction s f) := by
  unfold State.resetFunction
  repeat' (first | with_reducible assumption | extract_lets | with_reducible apply kept_ite | with_reducible apply kept_next | (with_reducible apply kept_foldl; intro _ _ _) | with_reducible apply kept_setCtrl | (split) | (dsimp +zetaDelta only))

theorem kept_flrReset {s : State} (a) (hk : Kept Q F s) : Kept Q F (State.flrReset s a) := by
  unfold State.flrReset
  repeat' (first | with_reducible assumption | extract_lets | with_reducible apply kept_ite | with_reducible apply kept_next | (with_reducible apply kept_foldl; intro _ _ _) | with_reducible apply kept_setAcct | with_reducible apply kept_clearSlots | with_reducible apply kept_resetFunction | (split) | (dsimp +zetaDelta only))

theorem kept_quiesceEnd {s : State} (m) (hk : Kept Q F s) : Kept Q F (State.quiesceEnd s m) := by
  unfold State.quiesceEnd
  repeat' (first | with_reducible assumption | extract_lets | with_reducible apply kept_ite | with_reducible apply kept_next | (with_reducible apply kept_foldl; intro _ _ _) | with_reducible apply kept_setFld | with_reducible apply kept_adminDone | with_reducible apply kept_setCtrl | with_reducible apply kept_setAcct | with_reducible apply kept_raise | with_reducible apply kept_clearSlots | with_reducible apply kept_flrReset | (split) | (dsimp +zetaDelta only))

theorem kept_quiesceKick {s : State} (hk : Kept Q F s) : Kept Q F (State.quiesceKick s) := by
  unfold State.quiesceKick
  repeat' (first | with_reducible assumption | extract_lets | with_reducible apply kept_ite | with_reducible apply kept_next | (with_reducible apply kept_foldl; intro _ _ _) | with_reducible apply kept_quiesceEnd | (split) | (dsimp +zetaDelta only))

theorem kept_flrKick {s : State} (hk : Kept Q F s) : Kept Q F (State.flrKick s) := by
  unfold State.flrKick
  repeat' (first | with_reducible assumption | extract_lets | with_reducible apply kept_ite | with_reducible apply kept_next | (with_reducible apply kept_foldl; intro _ _ _) | with_reducible apply kept_flrReset | (split) | (dsimp +zetaDelta only))

theorem kept_ctrlResetKick {s : State} (hk : Kept Q F s) : Kept Q F (State.ctrlResetKick s) := by
  unfold State.ctrlResetKick
  repeat' (first | with_reducible assumption | extract_lets | with_reducible apply kept_ite | with_reducible apply kept_next | (with_reducible apply kept_foldl; intro _ _ _) | with_reducible apply kept_resetFunction | (split) | (dsimp +zetaDelta only))

theorem kept_readyNow {s : State} (f) (hk : Kept Q F s) : Kept Q F (State.readyNow s f) := by
  unfold State.readyNow
  repeat' (first | with_reducible assumption | extract_lets | with_reducible apply kept_ite | with_reducible apply kept_next | (with_reducible apply kept_foldl; intro _ _ _) | with_reducible apply kept_setCtrl | (split) | (dsimp +zetaDelta only))

theorem kept_enableKick {s : State} (hk : Kept Q F s) : Kept Q F (State.enableKick s) := by
  unfold State.enableKick
  repeat' (first | with_reducible assumption | extract_lets | with_reducible apply kept_ite | with_reducible apply kept_next | (with_reducible apply kept_foldl; intro _ _ _) | with_reducible apply kept_setAcct | with_reducible apply kept_readyNow | (split) | (dsimp +zetaDelta only))

theorem kept_dropConv {s : State} (nsid) (p) (hk : Kept Q F s) : Kept Q F (State.dropConv s nsid p) := by
  unfold State.dropConv
  repeat' (first | with_reducible assumption | extract_lets | with_reducible apply kept_ite | with_reducible apply kept_next | (with_reducible apply kept_foldl; intro _ _ _) | (split) | (dsimp +zetaDelta only))

theorem kept_formatApply {s : State} (nsid) (x2) (fmt) (hk : Kept Q F s) : Kept Q F (State.formatApply s nsid x2 fmt) := by
  unfold State.formatApply
  repeat' (first | with_reducible assumption | extract_lets | with_reducible apply kept_ite | with_reducible apply kept_next | (with_reducible apply kept_foldl; intro _ _ _) | with_reducible apply kept_syncExport | with_reducible apply kept_resetZone | with_reducible apply kept_dropConv | (split) | (dsimp +zetaDelta only))

theorem kept_nsKick {s : State} (hk : Kept Q F s) : Kept Q F (State.nsKick s) := by
  unfold State.nsKick
  repeat' (first | with_reducible assumption | extract_lets | with_reducible apply kept_ite | with_reducible apply kept_next | (with_reducible apply kept_foldl; intro _ _ _) | with_reducible apply kept_adminDone | with_reducible apply kept_formatApply | (split) | (dsimp +zetaDelta only))

theorem kept_finish {s : State} (h) (c) (hk : Kept Q F s) : Kept Q F (State.finish s h c) := by
  unfold State.finish
  repeat' (first | with_reducible assumption | extract_lets | with_reducible apply kept_ite | with_reducible apply kept_next | (with_reducible apply kept_foldl; intro _ _ _) | with_reducible apply kept_dropCmd | with_reducible apply kept_setRec | with_reducible apply kept_retire | with_reducible apply kept_undelivered | with_reducible apply kept_traceEnd | with_reducible apply kept_recordWait | (split) | (dsimp +zetaDelta only))

theorem kept_toPost {s : State} (h) (c) (x3) (hk : Kept Q F s) : Kept Q F (State.toPost s h c x3) := by
  unfold State.toPost
  repeat' (first | with_reducible assumption | extract_lets | with_reducible apply kept_ite | with_reducible apply kept_next | (with_reducible apply kept_foldl; intro _ _ _) | with_reducible apply kept_setCmd | with_reducible apply kept_finish | (split) | (dsimp +zetaDelta only))

theorem kept_endOne {s : State} (h) (c) (x3) (hk : Kept Q F s) : Kept Q F (State.endOne s h c x3) := by
  unfold State.endOne
  repeat' (first | with_reducible assumption | extract_lets | with_reducible apply kept_ite | with_reducible apply kept_next | (with_reducible apply kept_foldl; intro _ _ _) | with_reducible apply kept_modRec | with_reducible apply kept_toPost | (split) | (dsimp +zetaDelta only))

theorem kept_endWrite {s : State} (h) (x2) (hk : Kept Q F s) : Kept Q F (State.endWrite s h x2) := by
  unfold State.endWrite
  repeat' (first | with_reducible assumption | extract_lets | with_reducible apply kept_ite | with_reducible apply kept_next | (with_reducible apply kept_foldl; intro _ _ _) | with_reducible apply kept_setZone | with_reducible apply kept_raise | with_reducible apply kept_endOne | (split) | (dsimp +zetaDelta only))

theorem kept_withdraw {s : State} (h) (c) (x3) (hk : Kept Q F s) : Kept Q F (State.withdraw s h c x3) := by
  unfold State.withdraw
  repeat' (first | with_reducible assumption | extract_lets | with_reducible apply kept_ite | with_reducible apply kept_next | (with_reducible apply kept_foldl; intro _ _ _) | with_reducible apply kept_setCmd | (split) | (dsimp +zetaDelta only))

theorem kept_readKick {s : State} (h) (hk : Kept Q F s) : Kept Q F (State.readKick s h) := by
  unfold State.readKick
  repeat' (first | with_reducible assumption | extract_lets | with_reducible apply kept_ite | with_reducible apply kept_next | (with_reducible apply kept_foldl; intro _ _ _) | with_reducible apply kept_toPost | (split) | (dsimp +zetaDelta only))

theorem kept_endPlaced {s : State} (z) (seq) (hk : Kept Q F s) : Kept Q F (State.endPlaced s z seq) := by
  unfold State.endPlaced
  repeat' (first | with_reducible assumption | extract_lets | with_reducible apply kept_ite | with_reducible apply kept_next | (with_reducible apply kept_foldl; intro _ _ _) | with_reducible apply kept_endWrite | (split) | (dsimp +zetaDelta only))

theorem kept_mgmtOne {s : State} (z) (hk : Kept Q F s) : Kept Q F (State.mgmtOne s z) := by
  unfold State.mgmtOne
  repeat' (first | with_reducible assumption | extract_lets | with_reducible apply kept_ite | with_reducible apply kept_next | (with_reducible apply kept_foldl; intro _ _ _) | with_reducible apply kept_setZone | with_reducible apply kept_resetZone | with_reducible apply kept_finishZone | with_reducible apply kept_endPlaced | (split) | (dsimp +zetaDelta only))

theorem kept_noDataDone {s : State} (h) (c) (hk : Kept Q F s) : Kept Q F (State.noDataDone s h c) := by
  unfold State.noDataDone
  repeat' (first | with_reducible assumption | extract_lets | with_reducible apply kept_ite | with_reducible apply kept_next | (with_reducible apply kept_foldl; intro _ _ _) | with_reducible apply kept_modRec | with_reducible apply kept_toPost | (split) | (dsimp +zetaDelta only))

theorem kept_mgmtKick {s : State} (hk : Kept Q F s) : Kept Q F (State.mgmtKick s) := by
  unfold State.mgmtKick
  repeat' (first | with_reducible assumption | extract_lets | with_reducible apply kept_ite | with_reducible apply kept_next | (with_reducible apply kept_foldl; intro _ _ _) | with_reducible apply kept_mgmtOne | with_reducible apply kept_noDataDone | (split) | (dsimp +zetaDelta only))

theorem kept_flushKick {s : State} (hk : Kept Q F s) : Kept Q F (State.flushKick s) := by
  unfold State.flushKick
  repeat' (first | with_reducible assumption | extract_lets | with_reducible apply kept_ite | with_reducible apply kept_next | (with_reducible apply kept_foldl; intro _ _ _) | with_reducible apply kept_toPost | (split) | (dsimp +zetaDelta only))

theorem kept_storeSecs {s : State} (c) (hk : Kept Q F s) : Kept Q F (State.storeSecs s c) := by
  unfold State.storeSecs
  repeat' (first | with_reducible assumption | extract_lets | with_reducible apply kept_ite | with_reducible apply kept_next | (with_reducible apply kept_foldl; intro _ _ _) | (split) | (dsimp +zetaDelta only))

theorem kept_takeOver {s : State} (c) (z) (hk : Kept Q F s) : Kept Q F (State.takeOver s c z) := by
  unfold State.takeOver
  repeat' (first | with_reducible assumption | extract_lets | with_reducible apply kept_ite | with_reducible apply kept_next | (with_reducible apply kept_foldl; intro _ _ _) | (split) | (dsimp +zetaDelta only))

theorem kept_secureNow {s : State} (h) (c) (hk : Kept Q F s) : Kept Q F (State.secureNow s h c) := by
  unfold State.secureNow
  repeat' (first | with_reducible assumption | extract_lets | with_reducible apply kept_ite | with_reducible apply kept_next | (with_reducible apply kept_foldl; intro _ _ _) | with_reducible apply kept_setZone | with_reducible apply kept_modRec | with_reducible apply kept_stampAt | with_reducible apply kept_toPost | with_reducible apply kept_storeSecs | with_reducible apply kept_takeOver | (split) | (dsimp +zetaDelta only))

theorem kept_heldKick {s : State} (hk : Kept Q F s) : Kept Q F (State.heldKick s) := by
  unfold State.heldKick
  repeat' (first | with_reducible assumption | extract_lets | with_reducible apply kept_ite | with_reducible apply kept_next | (with_reducible apply kept_foldl; intro _ _ _) | with_reducible apply kept_secureNow | (split) | (dsimp +zetaDelta only))

theorem kept_mintKick {s : State} (hk : Kept Q F s) : Kept Q F (State.mintKick s) := by
  unfold State.mintKick
  repeat' (first | with_reducible assumption | extract_lets | with_reducible apply kept_ite | with_reducible apply kept_next | (with_reducible apply kept_foldl; intro _ _ _) | with_reducible apply kept_setCmd | (split) | (dsimp +zetaDelta only))

theorem kept_doorKick {s : State} (hk : Kept Q F s) : Kept Q F (State.doorKick s) := by
  unfold State.doorKick
  repeat' (first | with_reducible assumption | extract_lets | with_reducible apply kept_ite | with_reducible apply kept_next | (with_reducible apply kept_foldl; intro _ _ _) | with_reducible apply kept_toPost | with_reducible apply kept_endWrite | (split) | (dsimp +zetaDelta only))

theorem kept_claimKick {s : State} (hk : Kept Q F s) : Kept Q F (State.claimKick s) := by
  unfold State.claimKick
  repeat' (first | with_reducible assumption | extract_lets | with_reducible apply kept_ite | with_reducible apply kept_next | (with_reducible apply kept_foldl; intro _ _ _) | with_reducible apply kept_setZone | (split) | (dsimp +zetaDelta only))

theorem kept_leaveKick {s : State} (hk : Kept Q F s) : Kept Q F (State.leaveKick s) := by
  unfold State.leaveKick
  repeat' (first | with_reducible assumption | extract_lets | with_reducible apply kept_ite | with_reducible apply kept_next | (with_reducible apply kept_foldl; intro _ _ _) | with_reducible apply kept_freeBlock | (split) | (dsimp +zetaDelta only))

theorem kept_kick {s : State} (hk : Kept Q F s) : Kept Q F (State.kick s) := by
  unfold State.kick
  repeat' (first | with_reducible assumption | extract_lets | with_reducible apply kept_ite | with_reducible apply kept_next | (with_reducible apply kept_foldl; intro _ _ _) | with_reducible apply kept_lockKick | with_reducible apply kept_forceKick | with_reducible apply kept_quiesceKick | with_reducible apply kept_flrKick | with_reducible apply kept_ctrlResetKick | with_reducible apply kept_enableKick | with_reducible apply kept_nsKick | with_reducible apply kept_mgmtKick | with_reducible apply kept_flushKick | with_reducible apply kept_heldKick | with_reducible apply kept_mintKick | with_reducible apply kept_doorKick | with_reducible apply kept_claimKick | with_reducible apply kept_leaveKick | (split) | (dsimp +zetaDelta only))

theorem kept_queueRefresh {s : State} (d) (b) (hk : Kept Q F s) : Kept Q F (State.queueRefresh s d b) := by
  unfold State.queueRefresh
  repeat' (first | with_reducible assumption | extract_lets | with_reducible apply kept_ite | with_reducible apply kept_next | (with_reducible apply kept_foldl; intro _ _ _) | with_reducible apply kept_setBlock | (split) | (dsimp +zetaDelta only))

theorem kept_uncorrectable {s : State} (h) (i) (c) (x4) (hk : Kept Q F s) : Kept Q F (State.uncorrectable s h i c x4) := by
  unfold State.uncorrectable
  repeat' (first | with_reducible assumption | extract_lets | with_reducible apply kept_ite | with_reducible apply kept_next | (with_reducible apply kept_foldl; intro _ _ _) | with_reducible apply kept_countFld | with_reducible apply kept_setCmd | with_reducible apply kept_raiseEach | with_reducible apply kept_setSec | with_reducible apply kept_endWrite | with_reducible apply kept_readKick | with_reducible apply kept_queueRefresh | (split) | (dsimp +zetaDelta only))

theorem kept_failDecode {s : State} (h) (i) (c) (x4) (hk : Kept Q F s) : Kept Q F (State.failDecode s h i c x4) := by
  unfold State.failDecode
  repeat' (first | with_reducible assumption | extract_lets | with_reducible apply kept_ite | with_reducible apply kept_next | (with_reducible apply kept_foldl; intro _ _ _) | with_reducible apply kept_setCmd | with_reducible apply kept_setSec | with_reducible apply kept_uncorrectable | (split) | (dsimp +zetaDelta only))

end Sys2Proof.Machine
end

