-- ==== Sys2Proof/Laws/KeptMedia.lean ====
section
/-!
SUPPORT. The queue, the canonical maps and the fuses are kept by the functions of the host path, programs and reads of the media, plan checks, accounts; one lemma for each function.
-/
set_option linter.all false
set_option Elab.async false

namespace Sys2Proof.Machine

variable {Q : List Instr} {F : Fuses}

theorem kept_setMemErr {s : State} (addr) (errs) (kind) (hk : Kept Q F s) : Kept Q F (State.setMemErr s addr errs kind) := by
  unfold State.setMemErr
  repeat' (first | with_reducible assumption | extract_lets | with_reducible apply kept_ite | with_reducible apply kept_next | (with_reducible apply kept_foldl; intro _ _ _) | with_reducible apply kept_setReg | (split) | (dsimp +zetaDelta only))

theorem kept_countCe {s : State} (sub) (rank) (dev) (hk : Kept Q F s) : Kept Q F (State.countCe s sub rank dev) := by
  unfold State.countCe
  repeat' (first | with_reducible assumption | extract_lets | with_reducible apply kept_ite | with_reducible apply kept_next | (with_reducible apply kept_foldl; intro _ _ _) | with_reducible apply kept_setReg | with_reducible apply kept_countFld | with_reducible apply kept_raise | with_reducible apply kept_raiseEach | (split) | (dsimp +zetaDelta only))

theorem kept_dramRecord {s : State} (addr) (errs) (hk : Kept Q F s) : Kept Q F (State.dramRecord s addr errs) := by
  unfold State.dramRecord
  repeat' (first | with_reducible assumption | extract_lets | with_reducible apply kept_ite | with_reducible apply kept_next | (with_reducible apply kept_foldl; intro _ _ _) | with_reducible apply kept_raise | with_reducible apply kept_raiseEach | with_reducible apply kept_setMemErr | with_reducible apply kept_countCe | (split) | (dsimp +zetaDelta only))

theorem kept_scrubLine {s : State} (f) (hk : Kept Q F s) : Kept Q F (State.scrubLine s f) := by
  unfold State.scrubLine
  repeat' (first | with_reducible assumption | extract_lets | with_reducible apply kept_ite | with_reducible apply kept_next | (with_reducible apply kept_foldl; intro _ _ _) | with_reducible apply kept_setFld | with_reducible apply kept_dramRecord | (split) | (dsimp +zetaDelta only))

theorem kept_clearCeCounts {s : State} (hk : Kept Q F s) : Kept Q F (State.clearCeCounts s) := by
  unfold State.clearCeCounts
  repeat' (first | with_reducible assumption | extract_lets | with_reducible apply kept_ite | with_reducible apply kept_next | (with_reducible apply kept_foldl; intro _ _ _) | with_reducible apply kept_setFld | (split) | (dsimp +zetaDelta only))

theorem kept_execScrubPassStart {s : State} (found) (hk : Kept Q F s) : KeptO Q F (execScrubPassStart found s) := by
  unfold execScrubPassStart
  repeat' (first | with_reducible assumption | extract_lets | with_reducible apply kept_ite | with_reducible apply kept_next | (with_reducible apply kept_foldl; intro _ _ _) | with_reducible apply kept_countFld | with_reducible apply kept_scrubLine | with_reducible apply kept_clearCeCounts | (split) | (dsimp +zetaDelta only))

theorem kept_openRow {s : State} (addr) (hk : Kept Q F s) : Kept Q F (State.openRow s addr) := by
  unfold State.openRow
  repeat' (first | with_reducible assumption | extract_lets | with_reducible apply kept_ite | with_reducible apply kept_next | (with_reducible apply kept_foldl; intro _ _ _) | (split) | (dsimp +zetaDelta only))

theorem kept_closeRow {s : State} (addr) (hk : Kept Q F s) : Kept Q F (State.closeRow s addr) := by
  unfold State.closeRow
  repeat' (first | with_reducible assumption | extract_lets | with_reducible apply kept_ite | with_reducible apply kept_next | (with_reducible apply kept_foldl; intro _ _ _) | (split) | (dsimp +zetaDelta only))

theorem kept_execRowCloseTimeout {s : State} (bank) (hk : Kept Q F s) : KeptO Q F (execRowCloseTimeout bank s) := by
  unfold execRowCloseTimeout
  repeat' (first | with_reducible assumption | extract_lets | with_reducible apply kept_ite | with_reducible apply kept_next | (with_reducible apply kept_foldl; intro _ _ _) | (split) | (dsimp +zetaDelta only))

theorem kept_execSelfRefreshEntry {s : State} (hk : Kept Q F s) : KeptO Q F (execSelfRefreshEntry s) := by
  unfold execSelfRefreshEntry
  repeat' (first | with_reducible assumption | extract_lets | with_reducible apply kept_ite | with_reducible apply kept_next | (with_reducible apply kept_foldl; intro _ _ _) | (split) | (dsimp +zetaDelta only))

theorem kept_execDdrAlert {s : State} (hk : Kept Q F s) : KeptO Q F (execDdrAlert s) := by
  unfold execDdrAlert
  repeat' (first | with_reducible assumption | extract_lets | with_reducible apply kept_ite | with_reducible apply kept_next | (with_reducible apply kept_foldl; intro _ _ _) | with_reducible apply kept_raiseEach | (split) | (dsimp +zetaDelta only))

theorem kept_bufferSector {s : State} (hk : Kept Q F s) : Kept Q F (State.bufferSector s) := by
  unfold State.bufferSector
  repeat' (first | with_reducible assumption | extract_lets | with_reducible apply kept_ite | with_reducible apply kept_next | (with_reducible apply kept_foldl; intro _ _ _) | (split) | (dsimp +zetaDelta only))

theorem kept_cleanSlot {s : State} (slot) (hk : Kept Q F s) : Kept Q F (State.cleanSlot s slot) := by
  unfold State.cleanSlot
  repeat' (first | with_reducible assumption | extract_lets | with_reducible apply kept_ite | with_reducible apply kept_next | (with_reducible apply kept_foldl; intro _ _ _) | (split) | (dsimp +zetaDelta only))

theorem kept_execDrainBatchStart {s : State} (subB) (aged) (hk : Kept Q F s) : KeptO Q F (execDrainBatchStart subB aged s) := by
  unfold execDrainBatchStart
  repeat' (first | with_reducible assumption | extract_lets | with_reducible apply kept_ite | with_reducible apply kept_next | (with_reducible apply kept_foldl; intro _ _ _) | (split) | (dsimp +zetaDelta only))

theorem kept_execDrainBatchEnd {s : State} (subB) (hk : Kept Q F s) : KeptO Q F (execDrainBatchEnd subB s) := by
  unfold execDrainBatchEnd
  repeat' (first | with_reducible assumption | extract_lets | with_reducible apply kept_ite | with_reducible apply kept_next | (with_reducible apply kept_foldl; intro _ _ _) | (split) | (dsimp +zetaDelta only))

theorem kept_bankError {s : State} (b) (word) (double) (hk : Kept Q F s) : Kept Q F (State.bankError s b word double) := by
  unfold State.bankError
  repeat' (first | with_reducible assumption | extract_lets | with_reducible apply kept_ite | with_reducible apply kept_next | (with_reducible apply kept_foldl; intro _ _ _) | with_reducible apply kept_setReg | with_reducible apply kept_raise | (split) | (dsimp +zetaDelta only))

theorem kept_execBankScrub {s : State} (b) (words) (hk : Kept Q F s) : KeptO Q F (execBankScrub b words s) := by
  unfold execBankScrub
  repeat' (first | with_reducible assumption | extract_lets | with_reducible apply kept_ite | with_reducible apply kept_next | (with_reducible apply kept_foldl; intro _ _ _) | with_reducible apply kept_bankError | (split) | (dsimp +zetaDelta only))

theorem kept_execBankRetentionEntry {s : State} (b) (hk : Kept Q F s) : KeptO Q F (execBankRetentionEntry b s) := by
  unfold execBankRetentionEntry
  repeat' (first | with_reducible assumption | extract_lets | with_reducible apply kept_ite | with_reducible apply kept_next | (with_reducible apply kept_foldl; intro _ _ _) | with_reducible apply kept_setBank | (split) | (dsimp +zetaDelta only))

theorem kept_wakeBank {s : State} (b) (hk : Kept Q F s) : Kept Q F (State.wakeBank s b) := by
  unfold State.wakeBank
  repeat' (first | with_reducible assumption | extract_lets | with_reducible apply kept_ite | with_reducible apply kept_next | (with_reducible apply kept_foldl; intro _ _ _) | with_reducible apply kept_setBank | (split) | (dsimp +zetaDelta only))

theorem kept_execBankWakeDone {s : State} (b) (hk : Kept Q F s) : KeptO Q F (execBankWakeDone b s) := by
  unfold execBankWakeDone
  repeat' (first | with_reducible assumption | extract_lets | with_reducible apply kept_ite | with_reducible apply kept_next | (with_reducible apply kept_foldl; intro _ _ _) | with_reducible apply kept_setBank | (split) | (dsimp +zetaDelta only))

theorem kept_poisonCry {s : State} (hk : Kept Q F s) : Kept Q F (State.poisonCry s) := by
  unfold State.poisonCry
  repeat' (first | with_reducible assumption | extract_lets | with_reducible apply kept_ite | with_reducible apply kept_next | (with_reducible apply kept_foldl; intro _ _ _) | (split) | (dsimp +zetaDelta only))

theorem kept_startWipe {s : State} (bit) (hk : Kept Q F s) : Kept Q F (State.startWipe s bit) := by
  unfold State.startWipe
  repeat' (first | with_reducible assumption | extract_lets | with_reducible apply kept_ite | with_reducible apply kept_next | (with_reducible apply kept_foldl; intro _ _ _) | with_reducible apply kept_raise | with_reducible apply kept_kmFree | with_reducible apply kept_kmAbandon | with_reducible apply kept_poisonCry | (split) | (dsimp +zetaDelta only))

theorem kept_execTamperV {s : State} (mv) (ticks) (hk : Kept Q F s) : KeptO Q F (execTamperV mv ticks s) := by
  unfold execTamperV
  repeat' (first | with_reducible assumption | extract_lets | with_reducible apply kept_ite | with_reducible apply kept_next | (with_reducible apply kept_foldl; intro _ _ _) | with_reducible apply kept_startWipe | (split) | (dsimp +zetaDelta only))

theorem kept_execTamperClk {s : State} (ps) (cycles) (hk : Kept Q F s) : KeptO Q F (execTamperClk ps cycles s) := by
  unfold execTamperClk
  repeat' (first | with_reducible assumption | extract_lets | with_reducible apply kept_ite | with_reducible apply kept_next | (with_reducible apply kept_foldl; intro _ _ _) | with_reducible apply kept_startWipe | (split) | (dsimp +zetaDelta only))

theorem kept_execTamperShield {s : State} (hk : Kept Q F s) : KeptO Q F (execTamperShield s) := by
  unfold execTamperShield
  repeat' (first | with_reducible assumption | extract_lets | with_reducible apply kept_ite | with_reducible apply kept_next | (with_reducible apply kept_foldl; intro _ _ _) | with_reducible apply kept_startWipe | (split) | (dsimp +zetaDelta only))

theorem kept_execWipeDone {s : State} (hk : Kept Q F s) : KeptO Q F (execWipeDone s) := by
  unfold execWipeDone
  repeat' (first | with_reducible assumption | extract_lets | with_reducible apply kept_ite | with_reducible apply kept_next | (with_reducible apply kept_foldl; intro _ _ _) | with_reducible apply kept_raise | (split) | (dsimp +zetaDelta only))

theorem kept_execSrmConflictClr {s : State} (who) (v) (hk : Kept Q F s) : KeptO Q F (execSrmConflictClr who v s) := by
  unfold execSrmConflictClr
  repeat' (first | with_reducible assumption | extract_lets | with_reducible apply kept_ite | with_reducible apply kept_next | (with_reducible apply kept_foldl; intro _ _ _) | with_reducible apply kept_resetRegs | (split) | (dsimp +zetaDelta only))

theorem kept_issueOne {s : State} (a) (hk : Kept Q F s) : Kept Q F (State.issueOne s a) := by
  unfold State.issueOne
  repeat' (first | with_reducible assumption | extract_lets | with_reducible apply kept_ite | with_reducible apply kept_next | (with_reducible apply kept_foldl; intro _ _ _) | with_reducible apply kept_setCtx | (split) | (dsimp +zetaDelta only))

theorem kept_issueN (a) : ∀ {s : State}, Kept Q F s → Kept Q F (State.issueN s a) := by
  induction a with
  | zero =>
    intro s hk
    unfold State.issueN
    exact hk
  | succ _ ih =>
    intro s hk
    unfold State.issueN
    repeat' (first | with_reducible assumption | extract_lets | with_reducible apply kept_ite | with_reducible apply kept_next | (with_reducible apply kept_foldl; intro _ _ _) | with_reducible apply ih | with_reducible apply kept_issueOne | (split) | (dsimp +zetaDelta only))

theorem kept_issueAll {s : State} (hk : Kept Q F s) : Kept Q F (State.issueAll s) := by
  unfold State.issueAll
  repeat' (first | with_reducible assumption | extract_lets | with_reducible apply kept_ite | with_reducible apply kept_next | (with_reducible apply kept_foldl; intro _ _ _) | with_reducible apply kept_issueN | (split) | (dsimp +zetaDelta only))

theorem kept_queueReads {s : State} (a) (p) (ref) (n) (hk : Kept Q F s) : Kept Q F (State.queueReads s a p ref n) := by
  unfold State.queueReads
  repeat' (first | with_reducible assumption | extract_lets | with_reducible apply kept_ite | with_reducible apply kept_next | (with_reducible apply kept_foldl; intro _ _ _) | with_reducible apply kept_setCtx | with_reducible apply kept_issueAll | (split) | (dsimp +zetaDelta only))

theorem kept_asyncEvent {s : State} (f) (dw0) (hk : Kept Q F s) : Kept Q F (State.asyncEvent s f dw0) := by
  unfold State.asyncEvent
  repeat' (first | with_reducible assumption | extract_lets | with_reducible apply kept_ite | with_reducible apply kept_next | (with_reducible apply kept_foldl; intro _ _ _) | with_reducible apply kept_adminDone | with_reducible apply kept_setCtrl | (split) | (dsimp +zetaDelta only))

theorem kept_setQueue {s : State} (i) (q) (hk : Kept Q F s) : Kept Q F (State.setQueue s i q) := by
  unfold State.setQueue
  repeat' (first | with_reducible assumption | extract_lets | with_reducible apply kept_ite | with_reducible apply kept_next | (with_reducible apply kept_foldl; intro _ _ _) | (split) | (dsimp +zetaDelta only))

theorem kept_execDoorbellWrite {s : State} (func) (qid) (cq) (value) (hk : Kept Q F s) : KeptO Q F (execDoorbellWrite func qid cq value s) := by
  unfold execDoorbellWrite
  repeat' (first | with_reducible assumption | extract_lets | with_reducible apply kept_ite | with_reducible apply kept_next | (with_reducible apply kept_foldl; intro _ _ _) | with_reducible apply kept_setCtrl | with_reducible apply kept_queueReads | with_reducible apply kept_asyncEvent | with_reducible apply kept_setQueue | (split) | (dsimp +zetaDelta only))

theorem kept_denyKey {s : State} (h) (c) (hk : Kept Q F s) : Kept Q F (State.denyKey s h c) := by
  unfold State.denyKey
  repeat' (first | with_reducible assumption | extract_lets | with_reducible apply kept_ite | with_reducible apply kept_next | (with_reducible apply kept_foldl; intro _ _ _) | with_reducible apply kept_raise | with_reducible apply kept_toPost | (split) | (dsimp +zetaDelta only))

theorem kept_makeRoom {s : State} (c) (hk : Kept Q F s) : Kept Q F (State.makeRoom s c).2 := by
  unfold State.makeRoom
  repeat' (first | with_reducible assumption | extract_lets | with_reducible apply kept_ite | with_reducible apply kept_next | (with_reducible apply kept_foldl; intro _ _ _) | (split) | (dsimp +zetaDelta only))

theorem kept_makeRoom_eq {s : State} {c} {x} {t : State} (e : State.makeRoom s c = (x, t)) (hk : Kept Q F s) : Kept Q F t := by
  have := kept_makeRoom c hk
  rw [e] at this
  exact this

theorem kept_fetchCmd {s : State} (c) (hk : Kept Q F s) : Kept Q F (State.fetchCmd s c) := by
  unfold State.fetchCmd
  repeat' (first | with_reducible assumption | extract_lets | with_reducible apply kept_ite | with_reducible apply kept_next | (with_reducible apply kept_foldl; intro _ _ _) | with_reducible apply kept_setCtrl | with_reducible apply kept_raise | with_reducible apply kept_lockKick | with_reducible apply kept_forceKick | (with_reducible refine kept_makeRoom_eq (by assumption) ?_) | with_reducible apply kept_makeRoom | (split) | (dsimp +zetaDelta only))

theorem kept_fetchLimit {s : State} (hk : Kept Q F s) : Kept Q F (State.fetchLimit s) := by
  unfold State.fetchLimit
  repeat' (first | with_reducible assumption | extract_lets | with_reducible apply kept_ite | with_reducible apply kept_next | (with_reducible apply kept_foldl; intro _ _ _) | with_reducible apply kept_raise | (split) | (dsimp +zetaDelta only))

theorem kept_execCommandFetch {s : State} (queue) (sqe) (ranges) (hk : Kept Q F s) : KeptO Q F (execCommandFetch queue sqe ranges s) := by
  unfold execCommandFetch
  repeat' (first | with_reducible assumption | extract_lets | with_reducible apply kept_ite | with_reducible apply kept_next | (with_reducible apply kept_foldl; intro _ _ _) | with_reducible apply kept_setQueue | with_reducible apply kept_fetchCmd | with_reducible apply kept_fetchLimit | (split) | (dsimp +zetaDelta only))

theorem kept_sendFrame {s : State} (f) (hk : Kept Q F s) : Kept Q F (State.sendFrame s f) := by
  unfold State.sendFrame
  repeat' (first | with_reducible assumption | extract_lets | with_reducible apply kept_ite | with_reducible apply kept_next | (with_reducible apply kept_foldl; intro _ _ _) | (split) | (dsimp +zetaDelta only))

theorem kept_rxLevel {s : State} (p) (n) (hk : Kept Q F s) : Kept Q F (State.rxLevel s p n) := by
  unfold State.rxLevel
  repeat' (first | with_reducible assumption | extract_lets | with_reducible apply kept_ite | with_reducible apply kept_next | (with_reducible apply kept_foldl; intro _ _ _) | with_reducible apply kept_setPort | with_reducible apply kept_raise | with_reducible apply kept_sendFrame | (split) | (dsimp +zetaDelta only))

theorem kept_execCapsuleReceive {s : State} (qp) (sqe) (ranges) (buffered) (hk : Kept Q F s) : KeptO Q F (execCapsuleReceive qp sqe ranges buffered s) := by
  unfold execCapsuleReceive
  repeat' (first | with_reducible assumption | extract_lets | with_reducible apply kept_ite | with_reducible apply kept_next | (with_reducible apply kept_foldl; intro _ _ _) | with_reducible apply kept_fetchCmd | with_reducible apply kept_fetchLimit | with_reducible apply kept_sendFrame | with_reducible apply kept_rxLevel | (split) | (dsimp +zetaDelta only))

theorem kept_execCommandArrival {s : State} (h) (hk : Kept Q F s) : KeptO Q F (execCommandArrival h s) := by
  unfold execCommandArrival
  repeat' (first | with_reducible assumption | extract_lets | with_reducible apply kept_ite | with_reducible apply kept_next | (with_reducible apply kept_foldl; intro _ _ _) | with_reducible apply kept_setCmd | with_reducible apply kept_toPost | (split) | (dsimp +zetaDelta only))

theorem kept_admitWrite {s : State} (h) (c) (hk : Kept Q F s) : Kept Q F (State.admitWrite s h c) := by
  unfold State.admitWrite
  repeat' (first | with_reducible assumption | extract_lets | with_reducible apply kept_ite | with_reducible apply kept_next | (with_reducible apply kept_foldl; intro _ _ _) | with_reducible apply kept_setCmd | with_reducible apply kept_charge | (split) | (dsimp +zetaDelta only))

theorem kept_execAcceptanceEnd {s : State} (h) (hk : Kept Q F s) : KeptO Q F (execAcceptanceEnd h s) := by
  unfold execAcceptanceEnd
  repeat' (first | with_reducible assumption | extract_lets | with_reducible apply kept_ite | with_reducible apply kept_next | (with_reducible apply kept_foldl; intro _ _ _) | with_reducible apply kept_setCmd | with_reducible apply kept_setRec | with_reducible apply kept_stamp | with_reducible apply kept_registerKick | with_reducible apply kept_toPost | with_reducible apply kept_endWrite | with_reducible apply kept_kick | with_reducible apply kept_admitWrite | (split) | (dsimp +zetaDelta only))

theorem kept_execMapLookupEnd {s : State} (h) (addr) (errs) (queued) (hk : Kept Q F s) : KeptO Q F (execMapLookupEnd h addr errs queued s) := by
  unfold execMapLookupEnd
  repeat' (first | with_reducible assumption | extract_lets | with_reducible apply kept_ite | with_reducible apply kept_next | (with_reducible apply kept_foldl; intro _ _ _) | with_reducible apply kept_setCmd | with_reducible apply kept_raise | with_reducible apply kept_registerKick | with_reducible apply kept_endWrite | with_reducible apply kept_readKick | with_reducible apply kept_kick | with_reducible apply kept_dramRecord | with_reducible apply kept_closeRow | (split) | (dsimp +zetaDelta only))

theorem kept_execXtsStageEnd {s : State} (h) (i) (carrierOk) (hk : Kept Q F s) : KeptO Q F (execXtsStageEnd h i carrierOk s) := by
  unfold execXtsStageEnd
  repeat' (first | with_reducible assumption | extract_lets | with_reducible apply kept_ite | with_reducible apply kept_next | (with_reducible apply kept_foldl; intro _ _ _) | with_reducible apply kept_setCmd | with_reducible apply kept_raise | with_reducible apply kept_addBlocks | with_reducible apply kept_stamp | with_reducible apply kept_setSec | with_reducible apply kept_enterRing | with_reducible apply kept_endWrite | with_reducible apply kept_readKick | with_reducible apply kept_kick | with_reducible apply kept_failDecode | (split) | (dsimp +zetaDelta only))

theorem kept_execSealCheckEnd {s : State} (h) (i) (ok) (hk : Kept Q F s) : KeptO Q F (execSealCheckEnd h i ok s) := by
  unfold execSealCheckEnd
  repeat' (first | with_reducible assumption | extract_lets | with_reducible apply kept_ite | with_reducible apply kept_next | (with_reducible apply kept_foldl; intro _ _ _) | with_reducible apply kept_setCmd | with_reducible apply kept_stamp | with_reducible apply kept_readKick | with_reducible apply kept_failDecode | (split) | (dsimp +zetaDelta only))

theorem kept_rateTake {s : State} (c) (hk : Kept Q F s) : Kept Q F (State.rateTake s c) := by
  unfold State.rateTake
  repeat' (first | with_reducible assumption | extract_lets | with_reducible apply kept_ite | with_reducible apply kept_next | (with_reducible apply kept_foldl; intro _ _ _) | (split) | (dsimp +zetaDelta only))

theorem kept_dlogWrite (x2) : ∀ {s : State} (a), Kept Q F s → Kept Q F (State.dlogWrite s a x2) := by
  induction x2 with
  | nil =>
    intro s a hk
    unfold State.dlogWrite
    exact hk
  | cons _ _ ih =>
    intro s a hk
    unfold State.dlogWrite
    repeat' (first | with_reducible assumption | extract_lets | with_reducible apply kept_ite | with_reducible apply kept_next | (with_reducible apply kept_foldl; intro _ _ _) | with_reducible apply ih | with_reducible apply kept_setFld | (split) | (dsimp +zetaDelta only))

theorem kept_execEgressEnd {s : State} (h) (i) (pages) (hk : Kept Q F s) : KeptO Q F (execEgressEnd h i pages s) := by
  unfold execEgressEnd
  repeat' (first | with_reducible assumption | extract_lets | with_reducible apply kept_ite | with_reducible apply kept_next | (with_reducible apply kept_foldl; intro _ _ _) | with_reducible apply kept_setCmd | with_reducible apply kept_raise | with_reducible apply kept_stamp | with_reducible apply kept_setSec | with_reducible apply kept_readKick | with_reducible apply kept_kick | with_reducible apply kept_dlogWrite | (split) | (dsimp +zetaDelta only))

theorem kept_execCompletionPostEnd {s : State} (h) (page) (hk : Kept Q F s) : KeptO Q F (execCompletionPostEnd h page s) := by
  unfold execCompletionPostEnd
  repeat' (first | with_reducible assumption | extract_lets | with_reducible apply kept_ite | with_reducible apply kept_next | (with_reducible apply kept_foldl; intro _ _ _) | with_reducible apply kept_setCmd | with_reducible apply kept_raise | with_reducible apply kept_stamp | with_reducible apply kept_finish | with_reducible apply kept_kick | with_reducible apply kept_dlogWrite | (split) | (dsimp +zetaDelta only))

theorem kept_execStagingSlotsTaken {s : State} (h) (lists) (datas) (hk : Kept Q F s) : KeptO Q F (execStagingSlotsTaken h lists datas s) := by
  unfold execStagingSlotsTaken
  repeat' (first | with_reducible assumption | extract_lets | with_reducible apply kept_ite | with_reducible apply kept_next | (with_reducible apply kept_foldl; intro _ _ _) | with_reducible apply kept_setCmd | with_reducible apply kept_modRec | with_reducible apply kept_queueReads | (split) | (dsimp +zetaDelta only))

theorem kept_execHostDataFetchEnd {s : State} (h) (data) (hk : Kept Q F s) : KeptO Q F (execHostDataFetchEnd h data s) := by
  unfold execHostDataFetchEnd
  repeat' (first | with_reducible assumption | extract_lets | with_reducible apply kept_ite | with_reducible apply kept_next | (with_reducible apply kept_foldl; intro _ _ _) | with_reducible apply kept_setCmd | with_reducible apply kept_stamp | (split) | (dsimp +zetaDelta only))

theorem kept_execZeroFillEnd {s : State} (h) (i) (hk : Kept Q F s) : KeptO Q F (execZeroFillEnd h i s) := by
  unfold execZeroFillEnd
  repeat' (first | with_reducible assumption | extract_lets | with_reducible apply kept_ite | with_reducible apply kept_next | (with_reducible apply kept_foldl; intro _ _ _) | with_reducible apply kept_setCmd | with_reducible apply kept_stamp | with_reducible apply kept_enterRing | with_reducible apply kept_kick | (split) | (dsimp +zetaDelta only))

theorem kept_execGateLaneGrant {s : State} (h) (hk : Kept Q F s) : KeptO Q F (execGateLaneGrant h s) := by
  unfold execGateLaneGrant
  repeat' (first | with_reducible assumption | extract_lets | with_reducible apply kept_ite | with_reducible apply kept_next | (with_reducible apply kept_foldl; intro _ _ _) | with_reducible apply kept_setCmd | (split) | (dsimp +zetaDelta only))

theorem kept_execSealEnd {s : State} (h) (i) (hk : Kept Q F s) : KeptO Q F (execSealEnd h i s) := by
  unfold execSealEnd
  repeat' (first | with_reducible assumption | extract_lets | with_reducible apply kept_ite | with_reducible apply kept_next | (with_reducible apply kept_foldl; intro _ _ _) | with_reducible apply kept_setCmd | with_reducible apply kept_stamp | with_reducible apply kept_endWrite | with_reducible apply kept_kick | (split) | (dsimp +zetaDelta only))

theorem kept_execDramWriteEnd {s : State} (h) (i) (hk : Kept Q F s) : KeptO Q F (execDramWriteEnd h i s) := by
  unfold execDramWriteEnd
  repeat' (first | with_reducible assumption | extract_lets | with_reducible apply kept_ite | with_reducible apply kept_next | (with_reducible apply kept_foldl; intro _ _ _) | with_reducible apply kept_stamp | with_reducible apply kept_setSec | with_reducible apply kept_bufferSector | with_reducible apply kept_cleanSlot | (split) | (dsimp +zetaDelta only))

theorem kept_execDayBookSecure {s : State} (h) (hk : Kept Q F s) : KeptO Q F (execDayBookSecure h s) := by
  unfold execDayBookSecure
  repeat' (first | with_reducible assumption | extract_lets | with_reducible apply kept_ite | with_reducible apply kept_next | (with_reducible apply kept_foldl; intro _ _ _) | with_reducible apply kept_setCmd | with_reducible apply kept_secureNow | with_reducible apply kept_kick | (split) | (dsimp +zetaDelta only))

theorem kept_execDeallocationSecure {s : State} (h) (hk : Kept Q F s) : KeptO Q F (execDeallocationSecure h s) := by
  unfold execDeallocationSecure
  repeat' (first | with_reducible assumption | extract_lets | with_reducible apply kept_ite | with_reducible apply kept_next | (with_reducible apply kept_foldl; intro _ _ _) | with_reducible apply kept_modRec | with_reducible apply kept_dropConv | with_reducible apply kept_toPost | with_reducible apply kept_kick | (split) | (dsimp +zetaDelta only))

theorem kept_countRead {s : State} (d) (b) (hk : Kept Q F s) : Kept Q F (State.countRead s d b) := by
  unfold State.countRead
  repeat' (first | with_reducible assumption | extract_lets | with_reducible apply kept_ite | with_reducible apply kept_next | (with_reducible apply kept_foldl; intro _ _ _) | with_reducible apply kept_setBlock | (split) | (dsimp +zetaDelta only))

theorem kept_grant {s : State} (d) (type) (cls) (h) (i) (x6) (window) (hk : Kept Q F s) : Kept Q F (State.grant s d type cls h i x6 window) := by
  unfold State.grant
  repeat' (first | with_reducible assumption | extract_lets | with_reducible apply kept_ite | with_reducible apply kept_next | (with_reducible apply kept_foldl; intro _ _ _) | with_reducible apply kept_setDie | with_reducible apply kept_charge | with_reducible apply kept_stampAt | with_reducible apply kept_setSec | with_reducible apply kept_registerKick | with_reducible apply kept_countRead | (split) | (dsimp +zetaDelta only))

theorem kept_bindSlot {s : State} {z} {i} {toSlc} {t : State} (e : State.bindSlot s z i toSlc = some t) (hk : Kept Q F s) : Kept Q F t := by
  unfold State.bindSlot at e
  repeat' (first | extract_lets at e | (split at e))
  all_goals (cases e)
  all_goals (repeat' (first | with_reducible assumption | extract_lets | with_reducible apply kept_ite | with_reducible apply kept_next | (with_reducible apply kept_foldl; intro _ _ _) | with_reducible apply kept_setZone | with_reducible apply kept_setBlock | (split) | (dsimp +zetaDelta only)))

theorem kept_bindWaits {s : State} (z) (i) (hk : Kept Q F s) : Kept Q F (State.bindWaits s z i) := by
  unfold State.bindWaits
  repeat' (first | with_reducible assumption | extract_lets | with_reducible apply kept_ite | with_reducible apply kept_next | (with_reducible apply kept_foldl; intro _ _ _) | with_reducible apply kept_raise | (split) | (dsimp +zetaDelta only))

theorem kept_lend {s : State} {z} {i} {t : State} (e : State.lend s z i = .ok t) (hk : Kept Q F s) : Kept Q F t := by
  unfold State.lend at e
  repeat' (first | extract_lets at e | (split at e))
  all_goals (cases e)
  all_goals (repeat' (first | with_reducible assumption | extract_lets | with_reducible apply kept_ite | with_reducible apply kept_next | (with_reducible apply kept_foldl; intro _ _ _) | with_reducible apply kept_setDieMed | with_reducible apply kept_setZone | with_reducible apply kept_setBlock | (split) | (dsimp +zetaDelta only)))

theorem kept_logBlock {s : State} {d} {x} {t : State} (e : State.logBlock s d = some (x, t)) (hk : Kept Q F s) : Kept Q F t := by
  unfold State.logBlock at e
  repeat' (first | extract_lets at e | (split at e))
  all_goals (cases e)
  all_goals (repeat' (first | with_reducible assumption | extract_lets | with_reducible apply kept_ite | with_reducible apply kept_next | (with_reducible apply kept_foldl; intro _ _ _) | with_reducible apply kept_setBlock | (split) | (dsimp +zetaDelta only)))

theorem kept_startProgram {s : State} (d) (type) (cls) (block) (n) (x6) (toSlc) (hk : Kept Q F s) : Kept Q F (State.startProgram s d type cls block n x6 toSlc) := by
  unfold State.startProgram
  repeat' (first | with_reducible assumption | extract_lets | with_reducible apply kept_ite | with_reducible apply kept_next | (with_reducible apply kept_foldl; intro _ _ _) | with_reducible apply kept_setDie | with_reducible apply kept_setZone | (split) | (dsimp +zetaDelta only))

theorem kept_putSlc_any {s : State} (d) (cls) (z) (t) (hk : Kept Q F s) :
    (∀ u, State.putSlc s d cls z t = .ok u → Kept Q F u) ∧ (∀ u, State.putSlc s d cls z t = .error u → Kept Q F u) := by
  unfold State.putSlc
  extract_lets bound
  have hb : ∀ u, bound = some u → Kept Q F u := by
    intro u e
    unfold bound at e
    split at e
    · exact kept_bindSlot e hk
    · cases e
      exact hk
  clear_value bound
  cases bound with
  | none =>
    refine ⟨fun u e => (nomatch e), fun u e => ?_⟩
    rw [← Except.error.inj e]
    exact kept_bindWaits _ _ hk
  | some s1 =>
    have h1 := hb s1 rfl
    dsimp only
    split
    · refine ⟨fun u e => ?_, fun u e => (nomatch e)⟩
      rw [← Except.ok.inj e]
      exact kept_startProgram _ _ _ _ _ _ _ h1
    · split
      · refine ⟨fun u e => (nomatch e), fun u e => ?_⟩
        rw [← Except.error.inj e]
        exact hk
      · refine ⟨fun u e => (nomatch e), fun u e => ?_⟩
        rw [← Except.error.inj e]
        exact kept_raise _ _ hk
      · rename_i e2
        have h2 := kept_lend e2 h1
        refine ⟨fun u e => ?_, fun u e => (nomatch e)⟩
        rw [← Except.ok.inj e]
        exact kept_startProgram _ _ _ _ _ _ _ h2

theorem kept_putSlc_ok {s : State} {d} {cls} {z} {x4} {t : State} (e : State.putSlc s d cls z x4 = .ok t) (hk : Kept Q F s) : Kept Q F t :=
  (kept_putSlc_any d cls z x4 hk).1 t e

theorem kept_putSlc_error {s : State} {d} {cls} {z} {x4} {t : State} (e : State.putSlc s d cls z x4 = .error t) (hk : Kept Q F s) : Kept Q F t :=
  (kept_putSlc_any d cls z x4 hk).2 t e

theorem kept_putQlc_any {s : State} (d) (cls) (z) (t) (hk : Kept Q F s) :
    (∀ u, State.putQlc s d cls z t = .ok u → Kept Q F u) ∧ (∀ u, State.putQlc s d cls z t = .error u → Kept Q F u) := by
  unfold State.putQlc
  split
  · refine ⟨fun u e => (nomatch e), fun u e => ?_⟩
    rw [← Except.error.inj e]
    exact kept_bindWaits _ _ hk
  · rename_i s1 e
    have h1 : Kept Q F s1 := by
      split at e
      · exact kept_bindSlot e hk
      · cases e
        exact hk
    refine ⟨fun u e => ?_, fun u e => (nomatch e)⟩
    rw [← Except.ok.inj e]
    exact kept_startProgram _ _ _ _ _ _ _ h1

theorem kept_putQlc_ok {s : State} {d} {cls} {z} {x4} {t : State} (e : State.putQlc s d cls z x4 = .ok t) (hk : Kept Q F s) : Kept Q F t :=
  (kept_putQlc_any d cls z x4 hk).1 t e

theorem kept_putQlc_error {s : State} {d} {cls} {z} {x4} {t : State} (e : State.putQlc s d cls z x4 = .error t) (hk : Kept Q F s) : Kept Q F t :=
  (kept_putQlc_any d cls z x4 hk).2 t e

theorem kept_putTake_ok {s : State} {d} {cls} {toSlc} {x4} {t : State} (e : State.putTake s d cls toSlc x4 = .ok t) (hk : Kept Q F s) : Kept Q F t := by
  unfold State.putTake at e
  split at e
  · split at e
    · exact kept_putSlc_ok e hk
    · exact kept_putQlc_ok e hk
  · split at e
    · rename_i e1
      cases e
      exact kept_startProgram _ _ _ _ _ _ _ (kept_logBlock e1 hk)
    · cases e

theorem kept_putTake_error {s : State} {d} {cls} {toSlc} {x4} {t : State} (e : State.putTake s d cls toSlc x4 = .error t) (hk : Kept Q F s) : Kept Q F t := by
  unfold State.putTake at e
  split at e
  · split at e
    · exact kept_putSlc_error e hk
    · exact kept_putQlc_error e hk
  · split at e
    · cases e
    · cases e
      exact hk

theorem kept_takeFirst (a) : ∀ {s : State} (d) (cls) (toSlc), Kept Q F s → Kept Q F (State.takeFirst s d cls toSlc a) := by
  induction a with
  | nil =>
    intro s d cls toSlc hk
    unfold State.takeFirst
    exact hk
  | cons _ _ ih =>
    intro s d cls toSlc hk
    unfold State.takeFirst
    repeat' (first | with_reducible assumption | extract_lets | with_reducible apply kept_ite | with_reducible apply kept_next | (with_reducible apply kept_foldl; intro _ _ _) | with_reducible apply ih | (with_reducible refine kept_putTake_ok (by assumption) ?_) | (with_reducible refine kept_putTake_error (by assumption) ?_) | (split) | (dsimp +zetaDelta only))

theorem kept_takeSlc {s : State} (d) (cls) (hk : Kept Q F s) : Kept Q F (State.takeSlc s d cls) := by
  unfold State.takeSlc
  repeat' (first | with_reducible assumption | extract_lets | with_reducible apply kept_ite | with_reducible apply kept_next | (with_reducible apply kept_foldl; intro _ _ _) | with_reducible apply kept_takeFirst | (split) | (dsimp +zetaDelta only))

theorem kept_takeQlc {s : State} (d) (cls) (hk : Kept Q F s) : Kept Q F (State.takeQlc s d cls) := by
  unfold State.takeQlc
  repeat' (first | with_reducible assumption | extract_lets | with_reducible apply kept_ite | with_reducible apply kept_next | (with_reducible apply kept_foldl; intro _ _ _) | with_reducible apply kept_takeFirst | (split) | (dsimp +zetaDelta only))

theorem kept_takePad {s : State} (d) (z) (toSlc) (hk : Kept Q F s) : Kept Q F (State.takePad s d z toSlc) := by
  unfold State.takePad
  repeat' (first | with_reducible assumption | extract_lets | with_reducible apply kept_ite | with_reducible apply kept_next | (with_reducible apply kept_foldl; intro _ _ _) | with_reducible apply kept_takeFirst | (split) | (dsimp +zetaDelta only))

theorem kept_takeConvPad {s : State} (d) (nsid) (hk : Kept Q F s) : Kept Q F (State.takeConvPad s d nsid) := by
  unfold State.takeConvPad
  repeat' (first | with_reducible assumption | extract_lets | with_reducible apply kept_ite | with_reducible apply kept_next | (with_reducible apply kept_foldl; intro _ _ _) | (with_reducible refine kept_logBlock (by assumption) ?_) | with_reducible apply kept_startProgram | (split) | (dsimp +zetaDelta only))

theorem kept_takeTail {s : State} (d) (z) (hk : Kept Q F s) : Kept Q F (State.takeTail s d z) := by
  unfold State.takeTail
  repeat' (first | with_reducible assumption | extract_lets | with_reducible apply kept_ite | with_reducible apply kept_next | (with_reducible apply kept_foldl; intro _ _ _) | with_reducible apply kept_setDie | (split) | (dsimp +zetaDelta only))

theorem kept_copyTails {s : State} (d) (zs) (hk : Kept Q F s) : Kept Q F (State.copyTails s d zs) := by
  unfold State.copyTails
  repeat' (first | with_reducible assumption | extract_lets | with_reducible apply kept_ite | with_reducible apply kept_next | (with_reducible apply kept_foldl; intro _ _ _) | with_reducible apply kept_setDieMed | with_reducible apply kept_setZone | (split) | (dsimp +zetaDelta only))

theorem kept_logOffline {s : State} (z) (d) (hk : Kept Q F s) : Kept Q F (State.logOffline s z d) := by
  unfold State.logOffline
  repeat' (first | with_reducible assumption | extract_lets | with_reducible apply kept_ite | with_reducible apply kept_next | (with_reducible apply kept_foldl; intro _ _ _) | with_reducible apply kept_asyncEvent | (split) | (dsimp +zetaDelta only))

theorem kept_offlineZone {s : State} (z) (d) (hk : Kept Q F s) : Kept Q F (State.offlineZone s z d) := by
  unfold State.offlineZone
  repeat' (first | with_reducible assumption | extract_lets | with_reducible apply kept_ite | with_reducible apply kept_next | (with_reducible apply kept_foldl; intro _ _ _) | with_reducible apply kept_setZone | with_reducible apply kept_logOffline | (split) | (dsimp +zetaDelta only))

theorem kept_settleMsgs {s : State} (seqs) (hk : Kept Q F s) : Kept Q F (State.settleMsgs s seqs) := by
  unfold State.settleMsgs
  repeat' (first | with_reducible assumption | extract_lets | with_reducible apply kept_ite | with_reducible apply kept_next | (with_reducible apply kept_foldl; intro _ _ _) | (split) | (dsimp +zetaDelta only))

theorem kept_writeTally {s : State} (d) (w) (hk : Kept Q F s) : Kept Q F (State.writeTally s d w) := by
  unfold State.writeTally
  repeat' (first | with_reducible assumption | extract_lets | with_reducible apply kept_ite | with_reducible apply kept_next | (with_reducible apply kept_foldl; intro _ _ _) | with_reducible apply kept_setDieMed | with_reducible apply kept_setZone | (split) | (dsimp +zetaDelta only))

theorem kept_divert {s : State} (z) (d) (hk : Kept Q F s) : Kept Q F (State.divert s z d) := by
  unfold State.divert
  repeat' (first | with_reducible assumption | extract_lets | with_reducible apply kept_ite | with_reducible apply kept_next | (with_reducible apply kept_foldl; intro _ _ _) | with_reducible apply kept_settleMsgs | (split) | (dsimp +zetaDelta only))

theorem kept_divertFailed {s : State} (hk : Kept Q F s) : Kept Q F (State.divertFailed s) := by
  unfold State.divertFailed
  repeat' (first | with_reducible assumption | extract_lets | with_reducible apply kept_ite | with_reducible apply kept_next | (with_reducible apply kept_foldl; intro _ _ _) | with_reducible apply kept_divert | (split) | (dsimp +zetaDelta only))

theorem kept_failZone {s : State} (z) (d) (i) (hk : Kept Q F s) : Kept Q F (State.failZone s z d i) := by
  unfold State.failZone
  repeat' (first | with_reducible assumption | extract_lets | with_reducible apply kept_ite | with_reducible apply kept_next | (with_reducible apply kept_foldl; intro _ _ _) | with_reducible apply kept_setZone | with_reducible apply kept_offlineZone | with_reducible apply kept_divert | (split) | (dsimp +zetaDelta only))

theorem kept_failDie {s : State} (d) (hk : Kept Q F s) : Kept Q F (State.failDie s d) := by
  unfold State.failDie
  repeat' (first | with_reducible assumption | extract_lets | with_reducible apply kept_ite | with_reducible apply kept_next | (with_reducible apply kept_foldl; intro _ _ _) | with_reducible apply kept_setDie | with_reducible apply kept_setDieMed | with_reducible apply kept_raiseWith | with_reducible apply kept_failZone | (split) | (dsimp +zetaDelta only))

theorem kept_spareOut {s : State} (d) (z) (hk : Kept Q F s) : Kept Q F (State.spareOut s d z) := by
  unfold State.spareOut
  repeat' (first | with_reducible assumption | extract_lets | with_reducible apply kept_ite | with_reducible apply kept_next | (with_reducible apply kept_foldl; intro _ _ _) | with_reducible apply kept_setDieMed | with_reducible apply kept_setZone | with_reducible apply kept_raiseWith | (split) | (dsimp +zetaDelta only))

theorem kept_retireBlock {s : State} (d) (b) (cause) (hk : Kept Q F s) : Kept Q F (State.retireBlock s d b cause) := by
  unfold State.retireBlock
  repeat' (first | with_reducible assumption | extract_lets | with_reducible apply kept_ite | with_reducible apply kept_next | (with_reducible apply kept_foldl; intro _ _ _) | with_reducible apply kept_setDieMed | with_reducible apply kept_setBlock | with_reducible apply kept_raiseWith | with_reducible apply kept_failDie | with_reducible apply kept_spareOut | (split) | (dsimp +zetaDelta only))

theorem kept_rejectEvent {s : State} (i) (r) (hk : Kept Q F s) : Kept Q F (State.rejectEvent s i r) := by
  unfold State.rejectEvent
  repeat' (first | with_reducible assumption | extract_lets | with_reducible apply kept_ite | with_reducible apply kept_next | (with_reducible apply kept_foldl; intro _ _ _) | with_reducible apply kept_event | (split) | (dsimp +zetaDelta only))

theorem kept_putVarResult {s : State} (i) (status) (place) (hk : Kept Q F s) : Kept Q F (State.putVarResult s i status place) := by
  unfold State.putVarResult
  repeat' (first | with_reducible assumption | extract_lets | with_reducible apply kept_ite | with_reducible apply kept_next | (with_reducible apply kept_foldl; intro _ _ _) | with_reducible apply kept_setReg | (split) | (dsimp +zetaDelta only))

theorem kept_varResult {s : State} (i) (r) (hk : Kept Q F s) : Kept Q F (State.varResult s i r) := by
  unfold State.varResult
  repeat' (first | with_reducible assumption | extract_lets | with_reducible apply kept_ite | with_reducible apply kept_next | (with_reducible apply kept_foldl; intro _ _ _) | with_reducible apply kept_raise | with_reducible apply kept_rejectEvent | with_reducible apply kept_putVarResult | (split) | (dsimp +zetaDelta only))

theorem kept_checkVariants (x5) : ∀ {s : State} (p) (g) (rom) (x4), Kept Q F s → Kept Q F (State.checkVariants s p g rom x4 x5) := by
  induction x5 with
  | nil =>
    intro s p g rom x4 hk
    exact hk
  | cons i is ih =>
    intro s p g rom x4 hk
    change Kept Q F (match psVariant p i with
      | none => (s.putVarResult i 0 0).checkVariants p g rom x4 is
      | some v =>
        match checkVariant p g s.bindings (x4 ++ rom) i v with
        | none => State.checkVariants { s.varResult i none with ldg := { (s.varResult i none).ldg with accepted := s.ldg.accepted ++ [i] } }
            p g rom (x4 ++ [(i, layVariant v)]) is
        | some r => (s.varResult i (some r)).checkVariants p g rom x4 is)
    cases psVariant p i with
    | none => exact ih _ _ _ _ (kept_putVarResult _ _ _ hk)
    | some v =>
      dsimp only
      generalize checkVariant p g s.bindings (x4 ++ rom) i v = r
      cases r with
      | none => exact ih _ _ _ _ (kept_varResult i none hk)
      | some r => exact ih _ _ _ _ (kept_varResult i (some r) hk)

theorem kept_loadPlans {s : State} (im) (hk : Kept Q F s) : Kept Q F (State.loadPlans s im) := by
  unfold State.loadPlans
  repeat' (first | with_reducible assumption | extract_lets | with_reducible apply kept_ite | with_reducible apply kept_next | (with_reducible apply kept_foldl; intro _ _ _) | with_reducible apply kept_raiseAll | with_reducible apply kept_rejectEvent | with_reducible apply kept_putVarResult | with_reducible apply kept_checkVariants | (split) | (dsimp +zetaDelta only))

theorem kept_bindResult {s : State} (m) (check) (hk : Kept Q F s) : Kept Q F (State.bindResult s m check) := by
  unfold State.bindResult
  repeat' (first | with_reducible assumption | extract_lets | with_reducible apply kept_ite | with_reducible apply kept_next | (with_reducible apply kept_foldl; intro _ _ _) | with_reducible apply kept_setReg | (split) | (dsimp +zetaDelta only))

theorem kept_bindNow {s : State} (m) (x2) (hk : Kept Q F s) : Kept Q F (State.bindNow s m x2) := by
  unfold State.bindNow
  repeat' (first | with_reducible assumption | extract_lets | with_reducible apply kept_ite | with_reducible apply kept_next | (with_reducible apply kept_foldl; intro _ _ _) | with_reducible apply kept_setAcct | with_reducible apply kept_readyNow | (split) | (dsimp +zetaDelta only))

theorem kept_qpError {s : State} (i) (hk : Kept Q F s) : Kept Q F (State.qpError s i) := by
  unfold State.qpError
  repeat' (first | with_reducible assumption | extract_lets | with_reducible apply kept_ite | with_reducible apply kept_next | (with_reducible apply kept_foldl; intro _ _ _) | with_reducible apply kept_raise | (split) | (dsimp +zetaDelta only))

theorem kept_unbind {s : State} (m) (hk : Kept Q F s) : Kept Q F (State.unbind s m) := by
  unfold State.unbind
  repeat' (first | with_reducible assumption | extract_lets | with_reducible apply kept_ite | with_reducible apply kept_next | (with_reducible apply kept_foldl; intro _ _ _) | with_reducible apply kept_setCtrl | with_reducible apply kept_setAcct | with_reducible apply kept_clearSlots | with_reducible apply kept_qpError | (split) | (dsimp +zetaDelta only))

theorem kept_bindLoadFail {s : State} (m) (hk : Kept Q F s) : Kept Q F (State.bindLoadFail s m) := by
  unfold State.bindLoadFail
  repeat' (first | with_reducible assumption | extract_lets | with_reducible apply kept_ite | with_reducible apply kept_next | (with_reducible apply kept_foldl; intro _ _ _) | with_reducible apply kept_setAcct | with_reducible apply kept_raiseWith | (split) | (dsimp +zetaDelta only))

theorem kept_bindAtLoad {s : State} (m) (h) (hk : Kept Q F s) : Kept Q F (State.bindAtLoad s m h) := by
  unfold State.bindAtLoad
  repeat' (first | with_reducible assumption | extract_lets | with_reducible apply kept_ite | with_reducible apply kept_next | (with_reducible apply kept_foldl; intro _ _ _) | with_reducible apply kept_setAcct | with_reducible apply kept_raiseWith | (split) | (dsimp +zetaDelta only))

theorem kept_loadAccounts {s : State} (im) (hk : Kept Q F s) : Kept Q F (State.loadAccounts s im) := by
  unfold State.loadAccounts
  repeat' (first | with_reducible assumption | extract_lets | with_reducible apply kept_ite | with_reducible apply kept_next | (with_reducible apply kept_foldl; intro _ _ _) | with_reducible apply kept_setAcct | with_reducible apply kept_raiseWith | with_reducible apply kept_bindLoadFail | with_reducible apply kept_bindAtLoad | (split) | (dsimp +zetaDelta only))

theorem kept_wholeCredit {s : State} (im) (hk : Kept Q F s) : Kept Q F (State.wholeCredit s im) := by
  unfold State.wholeCredit
  repeat' (first | with_reducible assumption | extract_lets | with_reducible apply kept_ite | with_reducible apply kept_next | (with_reducible apply kept_foldl; intro _ _ _) | with_reducible apply kept_setAcct | (split) | (dsimp +zetaDelta only))

theorem kept_interruptHeld {s : State} (h) (hk : Kept Q F s) : Kept Q F (State.interruptHeld s h) := by
  unfold State.interruptHeld
  repeat' (first | with_reducible assumption | extract_lets | with_reducible apply kept_ite | with_reducible apply kept_next | (with_reducible apply kept_foldl; intro _ _ _) | with_reducible apply kept_toPost | (split) | (dsimp +zetaDelta only))

theorem kept_quiesceMember {s : State} (m) (flr) (hk : Kept Q F s) : Kept Q F (State.quiesceMember s m flr) := by
  unfold State.quiesceMember
  repeat' (first | with_reducible assumption | extract_lets | with_reducible apply kept_ite | with_reducible apply kept_next | (with_reducible apply kept_foldl; intro _ _ _) | with_reducible apply kept_setAcct | with_reducible apply kept_interruptHeld | (split) | (dsimp +zetaDelta only))

theorem kept_startQuiesce {s : State} (a) (flr) (hk : Kept Q F s) : Kept Q F (State.startQuiesce s a flr) := by
  unfold State.startQuiesce
  repeat' (first | with_reducible assumption | extract_lets | with_reducible apply kept_ite | with_reducible apply kept_next | (with_reducible apply kept_foldl; intro _ _ _) | with_reducible apply kept_setFld | with_reducible apply kept_quiesceMember | (split) | (dsimp +zetaDelta only))

theorem kept_freeLane {s : State} (h) (hk : Kept Q F s) : Kept Q F (State.freeLane s h) := by
  unfold State.freeLane
  repeat' (first | with_reducible assumption | extract_lets | with_reducible apply kept_ite | with_reducible apply kept_next | (with_reducible apply kept_foldl; intro _ _ _) | with_reducible apply kept_setCmd | with_reducible apply kept_setLane | (split) | (dsimp +zetaDelta only))

theorem kept_cutOne {s : State} (h) (hk : Kept Q F s) : Kept Q F (State.cutOne s h) := by
  unfold State.cutOne
  repeat' (first | with_reducible assumption | extract_lets | with_reducible apply kept_ite | with_reducible apply kept_next | (with_reducible apply kept_foldl; intro _ _ _) | with_reducible apply kept_raise | with_reducible apply kept_toPost | with_reducible apply kept_endWrite | with_reducible apply kept_withdraw | with_reducible apply kept_readKick | with_reducible apply kept_freeLane | (split) | (dsimp +zetaDelta only))

theorem kept_execQuiesceCut {s : State} (member) (hk : Kept Q F s) : KeptO Q F (execQuiesceCut member s) := by
  unfold execQuiesceCut
  repeat' (first | with_reducible assumption | extract_lets | with_reducible apply kept_ite | with_reducible apply kept_next | (with_reducible apply kept_foldl; intro _ _ _) | with_reducible apply kept_setAcct | with_reducible apply kept_kick | with_reducible apply kept_cutOne | (split) | (dsimp +zetaDelta only))

theorem kept_resetOne {s : State} (h) (hk : Kept Q F s) : Kept Q F (State.resetOne s h) := by
  unfold State.resetOne
  repeat' (first | with_reducible assumption | extract_lets | with_reducible apply kept_ite | with_reducible apply kept_next | (with_reducible apply kept_foldl; intro _ _ _) | with_reducible apply kept_setCmd | with_reducible apply kept_finish | with_reducible apply kept_toPost | with_reducible apply kept_endWrite | with_reducible apply kept_withdraw | with_reducible apply kept_readKick | (split) | (dsimp +zetaDelta only))

theorem kept_beginReset {s : State} (f) (hk : Kept Q F s) : Kept Q F (State.beginReset s f) := by
  unfold State.beginReset
  repeat' (first | with_reducible assumption | extract_lets | with_reducible apply kept_ite | with_reducible apply kept_next | (with_reducible apply kept_foldl; intro _ _ _) | with_reducible apply kept_setCtrl | with_reducible apply kept_setCtx | with_reducible apply kept_kick | with_reducible apply kept_resetOne | (split) | (dsimp +zetaDelta only))

theorem kept_writeEnOff {s : State} (func) (hk : Kept Q F s) : Kept Q F (State.writeEnOff s func) := by
  unfold State.writeEnOff
  repeat' (first | with_reducible assumption | extract_lets | with_reducible apply kept_ite | with_reducible apply kept_next | (with_reducible apply kept_foldl; intro _ _ _) | with_reducible apply kept_beginReset | (split) | (dsimp +zetaDelta only))

theorem kept_execControllerReset {s : State} (func) (hk : Kept Q F s) : KeptO Q F (execControllerReset func s) := by
  unfold execControllerReset
  repeat' (first | with_reducible assumption | extract_lets | with_reducible apply kept_ite | with_reducible apply kept_next | (with_reducible apply kept_foldl; intro _ _ _) | with_reducible apply kept_writeEnOff | (split) | (dsimp +zetaDelta only))

theorem kept_writeEnOn {s : State} (func) (cc) (hk : Kept Q F s) : Kept Q F (State.writeEnOn s func cc) := by
  unfold State.writeEnOn
  repeat' (first | with_reducible assumption | extract_lets | with_reducible apply kept_ite | with_reducible apply kept_next | (with_reducible apply kept_foldl; intro _ _ _) | with_reducible apply kept_setCtrl | with_reducible apply kept_setAcct | with_reducible apply kept_readyNow | with_reducible apply kept_enableKick | (split) | (dsimp +zetaDelta only))

theorem kept_execControllerEnable {s : State} (func) (cc) (hk : Kept Q F s) : KeptO Q F (execControllerEnable func cc s) := by
  unfold execControllerEnable
  repeat' (first | with_reducible assumption | extract_lets | with_reducible apply kept_ite | with_reducible apply kept_next | (with_reducible apply kept_foldl; intro _ _ _) | with_reducible apply kept_writeEnOn | (split) | (dsimp +zetaDelta only))

theorem kept_shutdownVf {s : State} (func) (hk : Kept Q F s) : Kept Q F (State.shutdownVf s func) := by
  unfold State.shutdownVf
  repeat' (first | with_reducible assumption | extract_lets | with_reducible apply kept_ite | with_reducible apply kept_next | (with_reducible apply kept_foldl; intro _ _ _) | with_reducible apply kept_setCtrl | with_reducible apply kept_setAcct | with_reducible apply kept_kick | with_reducible apply kept_startQuiesce | (split) | (dsimp +zetaDelta only))

theorem kept_execVfShutdownNotification {s : State} (func) (hk : Kept Q F s) : KeptO Q F (execVfShutdownNotification func s) := by
  unfold execVfShutdownNotification
  repeat' (first | with_reducible assumption | extract_lets | with_reducible apply kept_ite | with_reducible apply kept_next | (with_reducible apply kept_foldl; intro _ _ _) | with_reducible apply kept_shutdownVf | (split) | (dsimp +zetaDelta only))

theorem kept_flrOne {s : State} (h) (hk : Kept Q F s) : Kept Q F (State.flrOne s h) := by
  unfold State.flrOne
  repeat' (first | with_reducible assumption | extract_lets | with_reducible apply kept_ite | with_reducible apply kept_next | (with_reducible apply kept_foldl; intro _ _ _) | with_reducible apply kept_setCmd | with_reducible apply kept_finish | with_reducible apply kept_toPost | with_reducible apply kept_endWrite | with_reducible apply kept_freeLane | (split) | (dsimp +zetaDelta only))

theorem kept_endHalt {s : State} (a) (hk : Kept Q F s) : Kept Q F (State.endHalt s a) := by
  unfold State.endHalt
  repeat' (first | with_reducible assumption | extract_lets | with_reducible apply kept_ite | with_reducible apply kept_next | (with_reducible apply kept_foldl; intro _ _ _) | with_reducible apply kept_setCtx | (split) | (dsimp +zetaDelta only))

theorem kept_execFlr {s : State} (func) (hk : Kept Q F s) : KeptO Q F (execFlr func s) := by
  unfold execFlr
  repeat' (first | with_reducible assumption | extract_lets | with_reducible apply kept_ite | with_reducible apply kept_next | (with_reducible apply kept_foldl; intro _ _ _) | with_reducible apply kept_setAcct | with_reducible apply kept_raise | with_reducible apply kept_flrReset | with_reducible apply kept_kick | with_reducible apply kept_startQuiesce | with_reducible apply kept_flrOne | with_reducible apply kept_endHalt | (split) | (dsimp +zetaDelta only))

theorem kept_execFlrTimeout {s : State} (func) (hk : Kept Q F s) : KeptO Q F (execFlrTimeout func s) := by
  unfold execFlrTimeout
  repeat' (first | with_reducible assumption | extract_lets | with_reducible apply kept_ite | with_reducible apply kept_next | (with_reducible apply kept_foldl; intro _ _ _) | with_reducible apply kept_flrReset | with_reducible apply kept_kick | (split) | (dsimp +zetaDelta only))

theorem kept_pasidYield {s : State} (n) (pasid) (hk : Kept Q F s) : Kept Q F (State.pasidYield s n pasid) := by
  unfold State.pasidYield
  repeat' (first | with_reducible assumption | extract_lets | with_reducible apply kept_ite | with_reducible apply kept_next | (with_reducible apply kept_foldl; intro _ _ _) | with_reducible apply kept_setReg | with_reducible apply kept_setAcct | with_reducible apply kept_raise | (split) | (dsimp +zetaDelta only))

theorem kept_execSliceEnable {s : State} (who) (n) (value) (pasidOn) (hk : Kept Q F s) : KeptO Q F (execSliceEnable who n value pasidOn s) := by
  unfold execSliceEnable
  repeat' (first | with_reducible assumption | extract_lets | with_reducible apply kept_ite | with_reducible apply kept_next | (with_reducible apply kept_foldl; intro _ _ _) | with_reducible apply kept_setReg | with_reducible apply kept_raise | with_reducible apply kept_bindResult | with_reducible apply kept_bindNow | with_reducible apply kept_pasidYield | (split) | (dsimp +zetaDelta only))

theorem kept_execSliceDisable {s : State} (who) (n) (hk : Kept Q F s) : KeptO Q F (execSliceDisable who n s) := by
  unfold execSliceDisable
  repeat' (first | with_reducible assumption | extract_lets | with_reducible apply kept_ite | with_reducible apply kept_next | (with_reducible apply kept_foldl; intro _ _ _) | with_reducible apply kept_setFld | with_reducible apply kept_setAcct | with_reducible apply kept_clearSlots | with_reducible apply kept_kick | with_reducible apply kept_quiesceMember | (split) | (dsimp +zetaDelta only))

theorem kept_execQsliceApply {s : State} (who) (value) (hk : Kept Q F s) : KeptO Q F (execQsliceApply who value s) := by
  unfold execQsliceApply
  repeat' (first | with_reducible assumption | extract_lets | with_reducible apply kept_ite | with_reducible apply kept_next | (with_reducible apply kept_foldl; intro _ _ _) | with_reducible apply kept_setReg | with_reducible apply kept_setFld | with_reducible apply kept_setQueue | (split) | (dsimp +zetaDelta only))

theorem kept_execDlogHeadWrite {s : State} (who) (value) (hk : Kept Q F s) : KeptO Q F (execDlogHeadWrite who value s) := by
  unfold execDlogHeadWrite
  repeat' (first | with_reducible assumption | extract_lets | with_reducible apply kept_ite | with_reducible apply kept_next | (with_reducible apply kept_foldl; intro _ _ _) | with_reducible apply kept_setReg | (split) | (dsimp +zetaDelta only))

theorem kept_execVfEnable {s : State} (vfs) (hk : Kept Q F s) : KeptO Q F (execVfEnable vfs s) := by
  unfold execVfEnable
  repeat' (first | with_reducible assumption | extract_lets | with_reducible apply kept_ite | with_reducible apply kept_next | (with_reducible apply kept_foldl; intro _ _ _) | with_reducible apply kept_readyNow | (split) | (dsimp +zetaDelta only))

end Sys2Proof.Machine
end

