-- ==== Sys2Proof/Laws/KeptPower.lean ====
section
/-!
SUPPORT. The queue, the canonical maps and the fuses are kept by the functions of loops, levels, the Reserve, I/O commands, the drain, processors, management messages, relocation, media commands, sleep; one lemma for each function.
-/
set_option linter.all false
set_option Elab.async false

namespace Sys2Proof.Machine

variable {Q : List Instr} {F : Fuses}

theorem kept_loadRecipes {s : State} (x1) (hk : Kept Q F s) : Kept Q F (State.loadRecipes s x1) := by
  unfold State.loadRecipes
  repeat' (first | with_reducible assumption | extract_lets | with_reducible apply kept_ite | with_reducible apply kept_next | (with_reducible apply kept_foldl; intro _ _ _) | with_reducible apply kept_setReg | with_reducible apply kept_raise | (split) | (dsimp +zetaDelta only))

theorem kept_layDoor {s : State} (l) (v) (door) (hk : Kept Q F s) : Kept Q F (State.layDoor s l v door) := by
  unfold State.layDoor
  repeat' (first | with_reducible assumption | extract_lets | with_reducible apply kept_ite | with_reducible apply kept_next | (with_reducible apply kept_foldl; intro _ _ _) | with_reducible apply kept_setReg | with_reducible apply kept_raise | (split) | (dsimp +zetaDelta only))

theorem kept_layLanes {s : State} (l) (v) (hk : Kept Q F s) : Kept Q F (State.layLanes s l v) := by
  unfold State.layLanes
  repeat' (first | with_reducible assumption | extract_lets | with_reducible apply kept_ite | with_reducible apply kept_next | (with_reducible apply kept_foldl; intro _ _ _) | with_reducible apply kept_layDoor | (split) | (dsimp +zetaDelta only))

theorem kept_layAll {s : State} (im) (hk : Kept Q F s) : Kept Q F (State.layAll s im) := by
  unfold State.layAll
  repeat' (first | with_reducible assumption | extract_lets | with_reducible apply kept_ite | with_reducible apply kept_next | (with_reducible apply kept_foldl; intro _ _ _) | with_reducible apply kept_layLanes | (split) | (dsimp +zetaDelta only))

theorem kept_keepPlan {s : State} (hk : Kept Q F s) : Kept Q F (State.keepPlan s) := by
  unfold State.keepPlan
  repeat' (first | with_reducible assumption | extract_lets | with_reducible apply kept_ite | with_reducible apply kept_next | (with_reducible apply kept_foldl; intro _ _ _) | (split) | (dsimp +zetaDelta only))

theorem kept_restorePlan {s : State} (hk : Kept Q F s) : Kept Q F (State.restorePlan s) := by
  unfold State.restorePlan
  repeat' (first | with_reducible assumption | extract_lets | with_reducible apply kept_ite | with_reducible apply kept_next | (with_reducible apply kept_foldl; intro _ _ _) | with_reducible apply kept_setReg | (split) | (dsimp +zetaDelta only))

theorem kept_profileStarts {s : State} (n) (hk : Kept Q F s) : Kept Q F (State.profileStarts s n) := by
  unfold State.profileStarts
  repeat' (first | with_reducible assumption | extract_lets | with_reducible apply kept_ite | with_reducible apply kept_next | (with_reducible apply kept_foldl; intro _ _ _) | with_reducible apply kept_setFld | (split) | (dsimp +zetaDelta only))

theorem kept_planLoop {s : State} (n) (target) (hk : Kept Q F s) : Kept Q F (State.planLoop s n target) := by
  unfold State.planLoop
  repeat' (first | with_reducible assumption | extract_lets | with_reducible apply kept_ite | with_reducible apply kept_next | (with_reducible apply kept_foldl; intro _ _ _) | with_reducible apply kept_setLoop | with_reducible apply kept_profileStarts | (split) | (dsimp +zetaDelta only))

theorem kept_setTarget {s : State} (n) (mv) (hk : Kept Q F s) : Kept Q F (State.setTarget s n mv) := by
  unfold State.setTarget
  repeat' (first | with_reducible assumption | extract_lets | with_reducible apply kept_ite | with_reducible apply kept_next | (with_reducible apply kept_foldl; intro _ _ _) | with_reducible apply kept_setFld | with_reducible apply kept_setLoop | with_reducible apply kept_planLoop | (split) | (dsimp +zetaDelta only))

theorem kept_syncRail {s : State} (hk : Kept Q F s) : Kept Q F (State.syncRail s) := by
  unfold State.syncRail
  repeat' (first | with_reducible assumption | extract_lets | with_reducible apply kept_ite | with_reducible apply kept_next | (with_reducible apply kept_foldl; intro _ _ _) | with_reducible apply kept_setTarget | (split) | (dsimp +zetaDelta only))

theorem kept_syncPending {s : State} (hk : Kept Q F s) : Kept Q F (State.syncPending s) := by
  unfold State.syncPending
  repeat' (first | with_reducible assumption | extract_lets | with_reducible apply kept_ite | with_reducible apply kept_next | (with_reducible apply kept_foldl; intro _ _ _) | with_reducible apply kept_setFld | (split) | (dsimp +zetaDelta only))

theorem kept_supersede {s : State} (hk : Kept Q F s) : Kept Q F (State.supersede s) := by
  unfold State.supersede
  repeat' (first | with_reducible assumption | extract_lets | with_reducible apply kept_ite | with_reducible apply kept_next | (with_reducible apply kept_foldl; intro _ _ _) | with_reducible apply kept_reply | (split) | (dsimp +zetaDelta only))

theorem kept_planRequest {s : State} (plan) (level) (hk : Kept Q F s) : Kept Q F (State.planRequest s plan level) := by
  unfold State.planRequest
  repeat' (first | with_reducible assumption | extract_lets | with_reducible apply kept_ite | with_reducible apply kept_next | (with_reducible apply kept_foldl; intro _ _ _) | with_reducible apply kept_setReg | with_reducible apply kept_syncRail | with_reducible apply kept_syncPending | with_reducible apply kept_supersede | (split) | (dsimp +zetaDelta only))

theorem kept_awaitPlan {s : State} (v) (hk : Kept Q F s) : Kept Q F (State.awaitPlan s v) := by
  unfold State.awaitPlan
  repeat' (first | with_reducible assumption | extract_lets | with_reducible apply kept_ite | with_reducible apply kept_next | (with_reducible apply kept_foldl; intro _ _ _) | (split) | (dsimp +zetaDelta only))

theorem kept_throttleTo {s : State} (l) (hk : Kept Q F s) : Kept Q F (State.throttleTo s l) := by
  unfold State.throttleTo
  repeat' (first | with_reducible assumption | extract_lets | with_reducible apply kept_ite | with_reducible apply kept_next | (with_reducible apply kept_foldl; intro _ _ _) | with_reducible apply kept_setFld | with_reducible apply kept_syncRail | with_reducible apply kept_syncPending | (split) | (dsimp +zetaDelta only))

theorem kept_traceLevel {s : State} (level) (hk : Kept Q F s) : Kept Q F (State.traceLevel s level) := by
  unfold State.traceLevel
  repeat' (first | with_reducible assumption | extract_lets | with_reducible apply kept_ite | with_reducible apply kept_next | (with_reducible apply kept_foldl; intro _ _ _) | with_reducible apply kept_setFld | (split) | (dsimp +zetaDelta only))

theorem kept_carryDie {s : State} (d) (r) (hk : Kept Q F s) : Kept Q F (State.carryDie s d r) := by
  unfold State.carryDie
  repeat' (first | with_reducible assumption | extract_lets | with_reducible apply kept_ite | with_reducible apply kept_next | (with_reducible apply kept_foldl; intro _ _ _) | with_reducible apply kept_setDie | (split) | (dsimp +zetaDelta only))

theorem kept_carrySlots {s : State} (old) (new) (hk : Kept Q F s) : Kept Q F (State.carrySlots s old new) := by
  unfold State.carrySlots
  repeat' (first | with_reducible assumption | extract_lets | with_reducible apply kept_ite | with_reducible apply kept_next | (with_reducible apply kept_foldl; intro _ _ _) | (split) | (dsimp +zetaDelta only))

theorem kept_putVariant {s : State} (plan) (level) (hk : Kept Q F s) : Kept Q F (State.putVariant s plan level) := by
  unfold State.putVariant
  repeat' (first | with_reducible assumption | extract_lets | with_reducible apply kept_ite | with_reducible apply kept_next | (with_reducible apply kept_foldl; intro _ _ _) | with_reducible apply kept_setReg | with_reducible apply kept_traceLevel | with_reducible apply kept_carryDie | with_reducible apply kept_carrySlots | (split) | (dsimp +zetaDelta only))

theorem kept_withdrawUnserved {s : State} (hk : Kept Q F s) : Kept Q F (State.withdrawUnserved s) := by
  unfold State.withdrawUnserved
  repeat' (first | with_reducible assumption | extract_lets | with_reducible apply kept_ite | with_reducible apply kept_next | (with_reducible apply kept_foldl; intro _ _ _) | with_reducible apply kept_setCmd | with_reducible apply kept_readKick | with_reducible apply kept_doorKick | (split) | (dsimp +zetaDelta only))

theorem kept_switchPlan {s : State} (level) (hk : Kept Q F s) : Kept Q F (State.switchPlan s level) := by
  unfold State.switchPlan
  repeat' (first | with_reducible assumption | extract_lets | with_reducible apply kept_ite | with_reducible apply kept_next | (with_reducible apply kept_foldl; intro _ _ _) | with_reducible apply kept_reply | with_reducible apply kept_syncRail | with_reducible apply kept_syncPending | with_reducible apply kept_putVariant | with_reducible apply kept_withdrawUnserved | (split) | (dsimp +zetaDelta only))

theorem kept_syncSeg {s : State} (n) (hk : Kept Q F s) : Kept Q F (State.syncSeg s n) := by
  unfold State.syncSeg
  repeat' (first | with_reducible assumption | extract_lets | with_reducible apply kept_ite | with_reducible apply kept_next | (with_reducible apply kept_foldl; intro _ _ _) | with_reducible apply kept_setReg | (split) | (dsimp +zetaDelta only))

theorem kept_computeCover {s : State} (hk : Kept Q F s) : Kept Q F (State.computeCover s) := by
  unfold State.computeCover
  repeat' (first | with_reducible assumption | extract_lets | with_reducible apply kept_ite | with_reducible apply kept_next | (with_reducible apply kept_foldl; intro _ _ _) | with_reducible apply kept_setReg | with_reducible apply kept_raise | with_reducible apply kept_setShares | (split) | (dsimp +zetaDelta only))

theorem kept_recover {s : State} (hk : Kept Q F s) : Kept Q F (State.recover s) := by
  unfold State.recover
  repeat' (first | with_reducible assumption | extract_lets | with_reducible apply kept_ite | with_reducible apply kept_next | (with_reducible apply kept_foldl; intro _ _ _) | with_reducible apply kept_computeCover | (split) | (dsimp +zetaDelta only))

theorem kept_scheduleTests {s : State} (hk : Kept Q F s) : Kept Q F (State.scheduleTests s) := by
  unfold State.scheduleTests
  repeat' (first | with_reducible assumption | extract_lets | with_reducible apply kept_ite | with_reducible apply kept_next | (with_reducible apply kept_foldl; intro _ _ _) | with_reducible apply kept_setSeg | (split) | (dsimp +zetaDelta only))

theorem kept_endTest {s : State} (hk : Kept Q F s) : Kept Q F (State.endTest s) := by
  unfold State.endTest
  repeat' (first | with_reducible assumption | extract_lets | with_reducible apply kept_ite | with_reducible apply kept_next | (with_reducible apply kept_foldl; intro _ _ _) | with_reducible apply kept_syncSeg | (split) | (dsimp +zetaDelta only))

theorem kept_stopTest {s : State} (hk : Kept Q F s) : Kept Q F (State.stopTest s) := by
  unfold State.stopTest
  repeat' (first | with_reducible assumption | extract_lets | with_reducible apply kept_ite | with_reducible apply kept_next | (with_reducible apply kept_foldl; intro _ _ _) | with_reducible apply kept_setSeg | with_reducible apply kept_endTest | (split) | (dsimp +zetaDelta only))

theorem kept_execSegmentTestStart {s : State} (n) (hk : Kept Q F s) : KeptO Q F (execSegmentTestStart n s) := by
  unfold execSegmentTestStart
  repeat' (first | with_reducible assumption | extract_lets | with_reducible apply kept_ite | with_reducible apply kept_next | (with_reducible apply kept_foldl; intro _ _ _) | with_reducible apply kept_setSeg | with_reducible apply kept_syncSeg | (split) | (dsimp +zetaDelta only))

theorem kept_testResult {s : State} (n) (va) (td) (hk : Kept Q F s) : Kept Q F (State.testResult s n va td) := by
  unfold State.testResult
  repeat' (first | with_reducible assumption | extract_lets | with_reducible apply kept_ite | with_reducible apply kept_next | (with_reducible apply kept_foldl; intro _ _ _) | with_reducible apply kept_setSeg | with_reducible apply kept_raise | with_reducible apply kept_syncSeg | with_reducible apply kept_endTest | (split) | (dsimp +zetaDelta only))

theorem kept_execSegmentTestSample {s : State} (mv) (hk : Kept Q F s) : KeptO Q F (execSegmentTestSample mv s) := by
  unfold execSegmentTestSample
  repeat' (first | with_reducible assumption | extract_lets | with_reducible apply kept_ite | with_reducible apply kept_next | (with_reducible apply kept_foldl; intro _ _ _) | with_reducible apply kept_testResult | (split) | (dsimp +zetaDelta only))

theorem kept_execTestInvalid {s : State} (hk : Kept Q F s) : KeptO Q F (execTestInvalid s) := by
  unfold execTestInvalid
  repeat' (first | with_reducible assumption | extract_lets | with_reducible apply kept_ite | with_reducible apply kept_next | (with_reducible apply kept_foldl; intro _ _ _) | with_reducible apply kept_setSeg | with_reducible apply kept_raise | with_reducible apply kept_syncSeg | with_reducible apply kept_endTest | (split) | (dsimp +zetaDelta only))

theorem kept_execSegFault {s : State} (n) (mv) (hk : Kept Q F s) : KeptO Q F (execSegFault n mv s) := by
  unfold execSegFault
  repeat' (first | with_reducible assumption | extract_lets | with_reducible apply kept_ite | with_reducible apply kept_next | (with_reducible apply kept_foldl; intro _ _ _) | with_reducible apply kept_setSeg | with_reducible apply kept_raise | with_reducible apply kept_syncSeg | with_reducible apply kept_computeCover | with_reducible apply kept_stopTest | (split) | (dsimp +zetaDelta only))

theorem kept_execSegmentCharged {s : State} (n) (mv) (hk : Kept Q F s) : KeptO Q F (execSegmentCharged n mv s) := by
  unfold execSegmentCharged
  repeat' (first | with_reducible assumption | extract_lets | with_reducible apply kept_ite | with_reducible apply kept_next | (with_reducible apply kept_foldl; intro _ _ _) | with_reducible apply kept_setSeg | with_reducible apply kept_syncSeg | with_reducible apply kept_recover | (split) | (dsimp +zetaDelta only))

theorem kept_zoneRefuse {s : State} (h) (c) (x3) (a) (hk : Kept Q F s) : Kept Q F (State.zoneRefuse s h c x3 a) := by
  unfold State.zoneRefuse
  repeat' (first | with_reducible assumption | extract_lets | with_reducible apply kept_ite | with_reducible apply kept_next | (with_reducible apply kept_foldl; intro _ _ _) | with_reducible apply kept_raise | with_reducible apply kept_refuseActivation | with_reducible apply kept_toPost | (split) | (dsimp +zetaDelta only))

theorem kept_advance {s : State} (c) (z) (n) (hk : Kept Q F s) : Kept Q F (State.advance s c z n) := by
  unfold State.advance
  repeat' (first | with_reducible assumption | extract_lets | with_reducible apply kept_ite | with_reducible apply kept_next | (with_reducible apply kept_foldl; intro _ _ _) | with_reducible apply kept_setZone | (split) | (dsimp +zetaDelta only))

theorem kept_takeDies {s : State} (c) (x2) (n) (hk : Kept Q F s) : Kept Q F (State.takeDies s c x2 n) := by
  unfold State.takeDies
  repeat' (first | with_reducible assumption | extract_lets | with_reducible apply kept_ite | with_reducible apply kept_next | (with_reducible apply kept_foldl; intro _ _ _) | (split) | (dsimp +zetaDelta only))

theorem kept_acceptWrite {s : State} (h) (c) (x3) (slba) (src) (st) (hk : Kept Q F s) : Kept Q F (State.acceptWrite s h c x3 slba src st) := by
  unfold State.acceptWrite
  repeat' (first | with_reducible assumption | extract_lets | with_reducible apply kept_ite | with_reducible apply kept_next | (with_reducible apply kept_foldl; intro _ _ _) | with_reducible apply kept_setCmd | with_reducible apply kept_traceStart | with_reducible apply kept_advance | with_reducible apply kept_takeDies | (split) | (dsimp +zetaDelta only))

theorem kept_tryWrite {s : State} (h) (c) (x3) (src) (st) (hk : Kept Q F s) : Kept Q F (State.tryWrite s h c x3 src st) := by
  unfold State.tryWrite
  repeat' (first | with_reducible assumption | extract_lets | with_reducible apply kept_ite | with_reducible apply kept_next | (with_reducible apply kept_foldl; intro _ _ _) | with_reducible apply kept_denyKey | with_reducible apply kept_zoneRefuse | with_reducible apply kept_acceptWrite | (split) | (dsimp +zetaDelta only))

theorem kept_execFlush {s : State} (h) (hk : Kept Q F s) : KeptO Q F (execFlush h s) := by
  unfold execFlush
  repeat' (first | with_reducible assumption | extract_lets | with_reducible apply kept_ite | with_reducible apply kept_next | (with_reducible apply kept_foldl; intro _ _ _) | with_reducible apply kept_setCmd | (split) | (dsimp +zetaDelta only))

theorem kept_execWrite {s : State} (h) (hk : Kept Q F s) : KeptO Q F (execWrite h s) := by
  unfold execWrite
  repeat' (first | with_reducible assumption | extract_lets | with_reducible apply kept_ite | with_reducible apply kept_next | (with_reducible apply kept_foldl; intro _ _ _) | with_reducible apply kept_toPost | with_reducible apply kept_tryWrite | (split) | (dsimp +zetaDelta only))

theorem kept_execRead {s : State} (h) (hk : Kept Q F s) : KeptO Q F (execRead h s) := by
  unfold execRead
  repeat' (first | with_reducible assumption | extract_lets | with_reducible apply kept_ite | with_reducible apply kept_next | (with_reducible apply kept_foldl; intro _ _ _) | with_reducible apply kept_setCmd | with_reducible apply kept_traceStart | with_reducible apply kept_toPost | with_reducible apply kept_denyKey | (split) | (dsimp +zetaDelta only))

theorem kept_execWriteZeroes {s : State} (h) (hk : Kept Q F s) : KeptO Q F (execWriteZeroes h s) := by
  unfold execWriteZeroes
  repeat' (first | with_reducible assumption | extract_lets | with_reducible apply kept_ite | with_reducible apply kept_next | (with_reducible apply kept_foldl; intro _ _ _) | with_reducible apply kept_setCmd | with_reducible apply kept_toPost | with_reducible apply kept_tryWrite | (split) | (dsimp +zetaDelta only))

theorem kept_execDatasetManagement {s : State} (h) (hk : Kept Q F s) : KeptO Q F (execDatasetManagement h s) := by
  unfold execDatasetManagement
  repeat' (first | with_reducible assumption | extract_lets | with_reducible apply kept_ite | with_reducible apply kept_next | (with_reducible apply kept_foldl; intro _ _ _) | with_reducible apply kept_setCmd | with_reducible apply kept_toPost | (split) | (dsimp +zetaDelta only))

theorem kept_execCopy {s : State} (h) (hk : Kept Q F s) : KeptO Q F (execCopy h s) := by
  unfold execCopy
  repeat' (first | with_reducible assumption | extract_lets | with_reducible apply kept_ite | with_reducible apply kept_next | (with_reducible apply kept_foldl; intro _ _ _) | with_reducible apply kept_toPost | with_reducible apply kept_tryWrite | (split) | (dsimp +zetaDelta only))

theorem kept_execZoneAppend {s : State} (h) (hk : Kept Q F s) : KeptO Q F (execZoneAppend h s) := by
  unfold execZoneAppend
  repeat' (first | with_reducible assumption | extract_lets | with_reducible apply kept_ite | with_reducible apply kept_next | (with_reducible apply kept_foldl; intro _ _ _) | with_reducible apply kept_toPost | with_reducible apply kept_denyKey | with_reducible apply kept_zoneRefuse | with_reducible apply kept_acceptWrite | (split) | (dsimp +zetaDelta only))

theorem kept_waitIn {s : State} (h) (zs) (hk : Kept Q F s) : Kept Q F (State.waitIn s h zs) := by
  unfold State.waitIn
  repeat' (first | with_reducible assumption | extract_lets | with_reducible apply kept_ite | with_reducible apply kept_next | (with_reducible apply kept_foldl; intro _ _ _) | with_reducible apply kept_setZone | (split) | (dsimp +zetaDelta only))

theorem kept_zoneClose {s : State} (h) (hk : Kept Q F s) : Kept Q F (State.zoneClose s h) := by
  unfold State.zoneClose
  repeat' (first | with_reducible assumption | extract_lets | with_reducible apply kept_ite | with_reducible apply kept_next | (with_reducible apply kept_foldl; intro _ _ _) | with_reducible apply kept_setZone | with_reducible apply kept_setCmd | with_reducible apply kept_toPost | (split) | (dsimp +zetaDelta only))

theorem kept_execZoneClose {s : State} (h) (hk : Kept Q F s) : KeptO Q F (execZoneClose h s) := by
  unfold execZoneClose
  repeat' (first | with_reducible assumption | extract_lets | with_reducible apply kept_ite | with_reducible apply kept_next | (with_reducible apply kept_foldl; intro _ _ _) | with_reducible apply kept_zoneClose | (split) | (dsimp +zetaDelta only))

theorem kept_zoneFinish {s : State} (h) (hk : Kept Q F s) : Kept Q F (State.zoneFinish s h) := by
  unfold State.zoneFinish
  repeat' (first | with_reducible assumption | extract_lets | with_reducible apply kept_ite | with_reducible apply kept_next | (with_reducible apply kept_foldl; intro _ _ _) | with_reducible apply kept_setCmd | with_reducible apply kept_toPost | with_reducible apply kept_waitIn | (split) | (dsimp +zetaDelta only))

theorem kept_execZoneFinish {s : State} (h) (hk : Kept Q F s) : KeptO Q F (execZoneFinish h s) := by
  unfold execZoneFinish
  repeat' (first | with_reducible assumption | extract_lets | with_reducible apply kept_ite | with_reducible apply kept_next | (with_reducible apply kept_foldl; intro _ _ _) | with_reducible apply kept_zoneFinish | (split) | (dsimp +zetaDelta only))

theorem kept_zoneOpen {s : State} (h) (hk : Kept Q F s) : Kept Q F (State.zoneOpen s h) := by
  unfold State.zoneOpen
  repeat' (first | with_reducible assumption | extract_lets | with_reducible apply kept_ite | with_reducible apply kept_next | (with_reducible apply kept_foldl; intro _ _ _) | with_reducible apply kept_setZone | with_reducible apply kept_setCmd | with_reducible apply kept_toPost | with_reducible apply kept_zoneRefuse | (split) | (dsimp +zetaDelta only))

theorem kept_execZoneOpen {s : State} (h) (hk : Kept Q F s) : KeptO Q F (execZoneOpen h s) := by
  unfold execZoneOpen
  repeat' (first | with_reducible assumption | extract_lets | with_reducible apply kept_ite | with_reducible apply kept_next | (with_reducible apply kept_foldl; intro _ _ _) | with_reducible apply kept_zoneOpen | (split) | (dsimp +zetaDelta only))

theorem kept_zoneReset {s : State} (h) (hk : Kept Q F s) : Kept Q F (State.zoneReset s h) := by
  unfold State.zoneReset
  repeat' (first | with_reducible assumption | extract_lets | with_reducible apply kept_ite | with_reducible apply kept_next | (with_reducible apply kept_foldl; intro _ _ _) | with_reducible apply kept_setCmd | with_reducible apply kept_toPost | with_reducible apply kept_waitIn | (split) | (dsimp +zetaDelta only))

theorem kept_execZoneReset {s : State} (h) (hk : Kept Q F s) : KeptO Q F (execZoneReset h s) := by
  unfold execZoneReset
  repeat' (first | with_reducible assumption | extract_lets | with_reducible apply kept_ite | with_reducible apply kept_next | (with_reducible apply kept_foldl; intro _ _ _) | with_reducible apply kept_zoneReset | (split) | (dsimp +zetaDelta only))

theorem kept_zoneOffline {s : State} (h) (hk : Kept Q F s) : Kept Q F (State.zoneOffline s h) := by
  unfold State.zoneOffline
  repeat' (first | with_reducible assumption | extract_lets | with_reducible apply kept_ite | with_reducible apply kept_next | (with_reducible apply kept_foldl; intro _ _ _) | with_reducible apply kept_setZone | with_reducible apply kept_setCmd | with_reducible apply kept_toPost | (split) | (dsimp +zetaDelta only))

theorem kept_execZoneOffline {s : State} (h) (hk : Kept Q F s) : KeptO Q F (execZoneOffline h s) := by
  unfold execZoneOffline
  repeat' (first | with_reducible assumption | extract_lets | with_reducible apply kept_ite | with_reducible apply kept_next | (with_reducible apply kept_foldl; intro _ _ _) | with_reducible apply kept_zoneOffline | (split) | (dsimp +zetaDelta only))

theorem kept_runSend {s : State} (h) (o) (hk : Kept Q F s) : Kept Q F (State.runSend s h o) := by
  unfold State.runSend
  repeat' (first | with_reducible assumption | extract_lets | with_reducible apply kept_ite | with_reducible apply kept_next | (with_reducible apply kept_foldl; intro _ _ _) | with_reducible apply kept_zoneClose | with_reducible apply kept_zoneFinish | with_reducible apply kept_zoneOpen | with_reducible apply kept_zoneReset | with_reducible apply kept_zoneOffline | (split) | (dsimp +zetaDelta only))

theorem kept_execSetZoneDescriptorExtension {s : State} (h) (hk : Kept Q F s) : KeptO Q F (execSetZoneDescriptorExtension h s) := by
  unfold execSetZoneDescriptorExtension
  repeat' (first | with_reducible assumption | extract_lets | with_reducible apply kept_ite | with_reducible apply kept_next | (with_reducible apply kept_foldl; intro _ _ _) | with_reducible apply kept_toPost | (split) | (dsimp +zetaDelta only))

theorem kept_execReportZones {s : State} (h) (hk : Kept Q F s) : KeptO Q F (execReportZones h s) := by
  unfold execReportZones
  repeat' (first | with_reducible assumption | extract_lets | with_reducible apply kept_ite | with_reducible apply kept_next | (with_reducible apply kept_foldl; intro _ _ _) | with_reducible apply kept_dataToHost | with_reducible apply kept_setCmd | with_reducible apply kept_toPost | (split) | (dsimp +zetaDelta only))

theorem kept_loseSleep {s : State} (hk : Kept Q F s) : Kept Q F (State.loseSleep s) := by
  unfold State.loseSleep
  repeat' (first | with_reducible assumption | extract_lets | with_reducible apply kept_ite | with_reducible apply kept_next | (with_reducible apply kept_foldl; intro _ _ _) | with_reducible apply kept_reply | (split) | (dsimp +zetaDelta only))

theorem kept_showShst {s : State} (v) (hk : Kept Q F s) : Kept Q F (State.showShst s v) := by
  unfold State.showShst
  repeat' (first | with_reducible assumption | extract_lets | with_reducible apply kept_ite | with_reducible apply kept_next | (with_reducible apply kept_foldl; intro _ _ _) | with_reducible apply kept_setCtrl | (split) | (dsimp +zetaDelta only))

theorem kept_enterDrain {s : State} (why) (c) (hk : Kept Q F s) : Kept Q F (State.enterDrain s why c) := by
  unfold State.enterDrain
  repeat' (first | with_reducible assumption | extract_lets | with_reducible apply kept_ite | with_reducible apply kept_next | (with_reducible apply kept_foldl; intro _ _ _) | with_reducible apply kept_enter | with_reducible apply kept_stopTest | with_reducible apply kept_loseSleep | with_reducible apply kept_showShst | (split) | (dsimp +zetaDelta only))

theorem kept_discardRequest {s : State} (hk : Kept Q F s) : Kept Q F (State.discardRequest s) := by
  unfold State.discardRequest
  repeat' (first | with_reducible assumption | extract_lets | with_reducible apply kept_ite | with_reducible apply kept_next | (with_reducible apply kept_foldl; intro _ _ _) | with_reducible apply kept_event | (split) | (dsimp +zetaDelta only))

theorem kept_flushOne {p : State × List Nat} (e) (hk : Kept Q F p.1) : Kept Q F (State.flushOne p e).1 := by
  unfold State.flushOne
  repeat' (first | with_reducible assumption | extract_lets | with_reducible apply kept_ite | with_reducible apply kept_next | (with_reducible apply kept_foldl; intro _ _ _) | with_reducible apply kept_setZone | with_reducible apply kept_secureNow | (split) | (dsimp +zetaDelta only))

theorem kept_flushAll (l : List (Nat × Cmd)) : ∀ {p : State × List Nat}, Kept Q F p.1 → Kept Q F (l.foldl State.flushOne p).1 := by
  induction l with
  | nil => intro p hk; exact hk
  | cons e l ih => intro p hk; exact ih (kept_flushOne e hk)

theorem kept_acceptOne {s : State} (h) (hk : Kept Q F s) : Kept Q F (State.acceptOne s h) := by
  unfold State.acceptOne
  repeat' (first | with_reducible assumption | extract_lets | with_reducible apply kept_ite | with_reducible apply kept_next | (with_reducible apply kept_foldl; intro _ _ _) | with_reducible apply kept_setCmd | with_reducible apply kept_setRec | with_reducible apply kept_runSend | (split) | (dsimp +zetaDelta only))

theorem kept_flushAccept {s : State} (hk : Kept Q F s) : Kept Q F (State.flushAccept s) := by
  unfold State.flushAccept
  repeat' (first | with_reducible assumption | extract_lets | with_reducible apply kept_ite | with_reducible apply kept_next | (with_reducible apply kept_foldl; intro _ _ _) | with_reducible apply kept_acceptOne | (split) | (dsimp +zetaDelta only))

theorem kept_flushCommands {s : State} (hk : Kept Q F s) : Kept Q F (State.flushCommands s) := by
  unfold State.flushCommands
  extract_lets s1 s2 _ s3 s4
  have h2 : Kept Q F s2 := kept_flushAll _ (kept_flushAccept hk)
  have h4 : Kept Q F s4 := kept_mgmtKick (show Kept Q F s3 from h2)
  exact h4

theorem kept_flushDies {s : State} (hk : Kept Q F s) : Kept Q F (State.flushDies s) := by
  unfold State.flushDies
  repeat' (first | with_reducible assumption | extract_lets | with_reducible apply kept_ite | with_reducible apply kept_next | (with_reducible apply kept_foldl; intro _ _ _) | with_reducible apply kept_setDie | (split) | (dsimp +zetaDelta only))

theorem kept_enterFlush {s : State} (why) (c) (hk : Kept Q F s) : Kept Q F (State.enterFlush s why c) := by
  unfold State.enterFlush
  repeat' (first | with_reducible assumption | extract_lets | with_reducible apply kept_ite | with_reducible apply kept_next | (with_reducible apply kept_foldl; intro _ _ _) | with_reducible apply kept_enter | with_reducible apply kept_norAbandon | with_reducible apply kept_setTarget | with_reducible apply kept_stopTest | with_reducible apply kept_loseSleep | with_reducible apply kept_discardRequest | with_reducible apply kept_flushCommands | with_reducible apply kept_flushDies | (split) | (dsimp +zetaDelta only))

theorem kept_writeArea {s : State} (drain) (hk : Kept Q F s) : Kept Q F (State.writeArea s drain) := by
  unfold State.writeArea
  repeat' (first | with_reducible assumption | extract_lets | with_reducible apply kept_ite | with_reducible apply kept_next | (with_reducible apply kept_foldl; intro _ _ _) | (split) | (dsimp +zetaDelta only))

theorem kept_restage {s : State} (f) (q) (hk : Kept Q F s) : Kept Q F (State.restage s f q) := by
  unfold State.restage
  repeat' (first | with_reducible assumption | extract_lets | with_reducible apply kept_ite | with_reducible apply kept_next | (with_reducible apply kept_foldl; intro _ _ _) | (split) | (dsimp +zetaDelta only))

theorem kept_replayRec {s : State} (f) (x2) (hk : Kept Q F s) : Kept Q F (State.replayRec f s x2) := by
  unfold State.replayRec
  repeat' (first | with_reducible assumption | extract_lets | with_reducible apply kept_ite | with_reducible apply kept_next | (with_reducible apply kept_foldl; intro _ _ _) | with_reducible apply kept_raise | with_reducible apply kept_setRec | with_reducible apply kept_undelivered | with_reducible apply kept_restage | (split) | (dsimp +zetaDelta only))

theorem kept_clipZone {s : State} (z) (hk : Kept Q F s) : Kept Q F (State.clipZone s z) := by
  unfold State.clipZone
  repeat' (first | with_reducible assumption | extract_lets | with_reducible apply kept_ite | with_reducible apply kept_next | (with_reducible apply kept_foldl; intro _ _ _) | with_reducible apply kept_setZone | (split) | (dsimp +zetaDelta only))

theorem kept_dropMoves {s : State} (hk : Kept Q F s) : Kept Q F (State.dropMoves s) := by
  unfold State.dropMoves
  repeat' (first | with_reducible assumption | extract_lets | with_reducible apply kept_ite | with_reducible apply kept_next | (with_reducible apply kept_foldl; intro _ _ _) | with_reducible apply kept_freeBlock | (split) | (dsimp +zetaDelta only))

theorem kept_replay {s : State} (hk : Kept Q F s) : Kept Q F (State.replay s) := by
  unfold State.replay
  repeat' (first | with_reducible assumption | extract_lets | with_reducible apply kept_ite | with_reducible apply kept_next | (with_reducible apply kept_foldl; intro _ _ _) | with_reducible apply kept_raise | with_reducible apply kept_divertFailed | with_reducible apply kept_replayRec | with_reducible apply kept_clipZone | with_reducible apply kept_dropMoves | (split) | (dsimp +zetaDelta only))

theorem kept_execNorProgram {s : State} (pages) (data) (fetch) (hk : Kept Q F s) : KeptO Q F (execNorProgram pages data fetch s) := by
  unfold execNorProgram
  repeat' (first | with_reducible assumption | extract_lets | with_reducible apply kept_ite | with_reducible apply kept_next | (with_reducible apply kept_foldl; intro _ _ _) | with_reducible apply kept_norStart | (split) | (dsimp +zetaDelta only))

theorem kept_execNorSubsectorErase {s : State} (fetch) (hk : Kept Q F s) : KeptO Q F (execNorSubsectorErase fetch s) := by
  unfold execNorSubsectorErase
  repeat' (first | with_reducible assumption | extract_lets | with_reducible apply kept_ite | with_reducible apply kept_next | (with_reducible apply kept_foldl; intro _ _ _) | with_reducible apply kept_norStart | (split) | (dsimp +zetaDelta only))

theorem kept_execNorSectorErase {s : State} (fetch) (hk : Kept Q F s) : KeptO Q F (execNorSectorErase fetch s) := by
  unfold execNorSectorErase
  repeat' (first | with_reducible assumption | extract_lets | with_reducible apply kept_ite | with_reducible apply kept_next | (with_reducible apply kept_foldl; intro _ _ _) | with_reducible apply kept_norStart | (split) | (dsimp +zetaDelta only))

theorem kept_norDone {s : State} (ok) (hk : Kept Q F s) : Kept Q F (State.norDone s ok) := by
  unfold State.norDone
  repeat' (first | with_reducible assumption | extract_lets | with_reducible apply kept_ite | with_reducible apply kept_next | (with_reducible apply kept_foldl; intro _ _ _) | with_reducible apply kept_setReg | with_reducible apply kept_setFld | (split) | (dsimp +zetaDelta only))

theorem kept_norOwnerEnd {s : State} (o) (ok) (hk : Kept Q F s) : Kept Q F (State.norOwnerEnd s o ok) := by
  unfold State.norOwnerEnd
  repeat' (first | with_reducible assumption | extract_lets | with_reducible apply kept_ite | with_reducible apply kept_next | (with_reducible apply kept_foldl; intro _ _ _) | with_reducible apply kept_raise | with_reducible apply kept_norApply | with_reducible apply kept_norSpoil | with_reducible apply kept_miReply | with_reducible apply kept_updFail | with_reducible apply kept_updStep | with_reducible apply kept_clearStep | with_reducible apply kept_norDone | (split) | (dsimp +zetaDelta only))

theorem kept_norEnd {s : State} (o) (ok) (hk : Kept Q F s) : Kept Q F (State.norEnd s o ok) := by
  unfold State.norEnd
  repeat' (first | with_reducible assumption | extract_lets | with_reducible apply kept_ite | with_reducible apply kept_next | (with_reducible apply kept_foldl; intro _ _ _) | with_reducible apply kept_updResume | with_reducible apply kept_norKick | with_reducible apply kept_mpReset | with_reducible apply kept_norOwnerEnd | (split) | (dsimp +zetaDelta only))

theorem kept_execNorOpComplete {s : State} (ok) (hk : Kept Q F s) : KeptO Q F (execNorOpComplete ok s) := by
  unfold execNorOpComplete
  repeat' (first | with_reducible assumption | extract_lets | with_reducible apply kept_ite | with_reducible apply kept_next | (with_reducible apply kept_foldl; intro _ _ _) | with_reducible apply kept_norEnd | (split) | (dsimp +zetaDelta only))

theorem kept_execBusyBankFault {s : State} (addr) (fetch) (hk : Kept Q F s) : KeptO Q F (execBusyBankFault addr fetch s) := by
  unfold execBusyBankFault
  repeat' (first | with_reducible assumption | extract_lets | with_reducible apply kept_ite | with_reducible apply kept_next | (with_reducible apply kept_foldl; intro _ _ _) | with_reducible apply kept_raise | with_reducible apply kept_setFetchBank | (split) | (dsimp +zetaDelta only))

theorem kept_execProcessorFault {s : State} (p) (hk : Kept Q F s) : KeptO Q F (execProcessorFault p s) := by
  unfold execProcessorFault
  repeat' (first | with_reducible assumption | extract_lets | with_reducible apply kept_ite | with_reducible apply kept_next | (with_reducible apply kept_foldl; intro _ _ _) | with_reducible apply kept_kmIslandReset | with_reducible apply kept_mpReset | (split) | (dsimp +zetaDelta only))

theorem kept_execIslandRestartComplete {s : State} (p) (hk : Kept Q F s) : KeptO Q F (execIslandRestartComplete p s) := by
  unfold execIslandRestartComplete
  repeat' (first | with_reducible assumption | extract_lets | with_reducible apply kept_ite | with_reducible apply kept_next | (with_reducible apply kept_foldl; intro _ _ _) | with_reducible apply kept_raise | with_reducible apply kept_updRestart | with_reducible apply kept_mpRelease | (split) | (dsimp +zetaDelta only))

theorem kept_watchdogExpire {s : State} (hk : Kept Q F s) : Kept Q F (State.watchdogExpire s) := by
  unfold State.watchdogExpire
  repeat' (first | with_reducible assumption | extract_lets | with_reducible apply kept_ite | with_reducible apply kept_next | (with_reducible apply kept_foldl; intro _ _ _) | with_reducible apply kept_countFld | with_reducible apply kept_raise | with_reducible apply kept_raiseEach | with_reducible apply kept_mpReset | (split) | (dsimp +zetaDelta only))

theorem kept_execWatchdogKick {s : State} (key) (hk : Kept Q F s) : KeptO Q F (execWatchdogKick key s) := by
  unfold execWatchdogKick
  repeat' (first | with_reducible assumption | extract_lets | with_reducible apply kept_ite | with_reducible apply kept_next | (with_reducible apply kept_foldl; intro _ _ _) | with_reducible apply kept_setFld | with_reducible apply kept_raise | with_reducible apply kept_watchdogExpire | (split) | (dsimp +zetaDelta only))

theorem kept_execWatchdogExpiry {s : State} (hk : Kept Q F s) : KeptO Q F (execWatchdogExpiry s) := by
  unfold execWatchdogExpiry
  repeat' (first | with_reducible assumption | extract_lets | with_reducible apply kept_ite | with_reducible apply kept_next | (with_reducible apply kept_foldl; intro _ _ _) | with_reducible apply kept_watchdogExpire | (split) | (dsimp +zetaDelta only))

theorem kept_execMgtClockStop {s : State} (hk : Kept Q F s) : KeptO Q F (execMgtClockStop s) := by
  unfold execMgtClockStop
  repeat' (first | with_reducible assumption | extract_lets | with_reducible apply kept_ite | with_reducible apply kept_next | (with_reducible apply kept_foldl; intro _ _ _) | (split) | (dsimp +zetaDelta only))

theorem kept_execMgtClockRestart {s : State} (hk : Kept Q F s) : KeptO Q F (execMgtClockRestart s) := by
  unfold execMgtClockRestart
  repeat' (first | with_reducible assumption | extract_lets | with_reducible apply kept_ite | with_reducible apply kept_next | (with_reducible apply kept_foldl; intro _ _ _) | (split) | (dsimp +zetaDelta only))

theorem kept_i3cOk {s : State} (bs) (hk : Kept Q F s) : Kept Q F (State.i3cOk s bs) := by
  unfold State.i3cOk
  repeat' (first | with_reducible assumption | extract_lets | with_reducible apply kept_ite | with_reducible apply kept_next | (with_reducible apply kept_foldl; intro _ _ _) | (split) | (dsimp +zetaDelta only))

theorem kept_i3cNack {s : State} (hk : Kept Q F s) : Kept Q F (State.i3cNack s) := by
  unfold State.i3cNack
  repeat' (first | with_reducible assumption | extract_lets | with_reducible apply kept_ite | with_reducible apply kept_next | (with_reducible apply kept_foldl; intro _ _ _) | (split) | (dsimp +zetaDelta only))

theorem kept_cccRead {s : State} (addr) (bs) (hk : Kept Q F s) : Kept Q F (State.cccRead s addr bs) := by
  unfold State.cccRead
  repeat' (first | with_reducible assumption | extract_lets | with_reducible apply kept_ite | with_reducible apply kept_next | (with_reducible apply kept_foldl; intro _ _ _) | with_reducible apply kept_i3cOk | with_reducible apply kept_i3cNack | (split) | (dsimp +zetaDelta only))

theorem kept_takeAddr {s : State} (addr) (how) (hk : Kept Q F s) : Kept Q F (State.takeAddr s addr how) := by
  unfold State.takeAddr
  repeat' (first | with_reducible assumption | extract_lets | with_reducible apply kept_ite | with_reducible apply kept_next | (with_reducible apply kept_foldl; intro _ _ _) | with_reducible apply kept_setFld | (split) | (dsimp +zetaDelta only))

theorem kept_execEntdaa {s : State} (won) (hk : Kept Q F s) : KeptO Q F (execEntdaa won s) := by
  unfold execEntdaa
  repeat' (first | with_reducible assumption | extract_lets | with_reducible apply kept_ite | with_reducible apply kept_next | (with_reducible apply kept_foldl; intro _ _ _) | with_reducible apply kept_i3cOk | with_reducible apply kept_i3cNack | with_reducible apply kept_takeAddr | (split) | (dsimp +zetaDelta only))

theorem kept_execRstdaa {s : State} (hk : Kept Q F s) : KeptO Q F (execRstdaa s) := by
  unfold execRstdaa
  repeat' (first | with_reducible assumption | extract_lets | with_reducible apply kept_ite | with_reducible apply kept_next | (with_reducible apply kept_foldl; intro _ _ _) | with_reducible apply kept_setFld | with_reducible apply kept_i3cOk | (split) | (dsimp +zetaDelta only))

theorem kept_execSetdasa {s : State} (staticA) (new) (hk : Kept Q F s) : KeptO Q F (execSetdasa staticA new s) := by
  unfold execSetdasa
  repeat' (first | with_reducible assumption | extract_lets | with_reducible apply kept_ite | with_reducible apply kept_next | (with_reducible apply kept_foldl; intro _ _ _) | with_reducible apply kept_i3cOk | with_reducible apply kept_i3cNack | with_reducible apply kept_takeAddr | (split) | (dsimp +zetaDelta only))

theorem kept_execSetnewda {s : State} (addr) (new) (hk : Kept Q F s) : KeptO Q F (execSetnewda addr new s) := by
  unfold execSetnewda
  repeat' (first | with_reducible assumption | extract_lets | with_reducible apply kept_ite | with_reducible apply kept_next | (with_reducible apply kept_foldl; intro _ _ _) | with_reducible apply kept_i3cOk | with_reducible apply kept_i3cNack | with_reducible apply kept_takeAddr | (split) | (dsimp +zetaDelta only))

theorem kept_execGetpid {s : State} (addr) (hk : Kept Q F s) : KeptO Q F (execGetpid addr s) := by
  unfold execGetpid
  repeat' (first | with_reducible assumption | extract_lets | with_reducible apply kept_ite | with_reducible apply kept_next | (with_reducible apply kept_foldl; intro _ _ _) | with_reducible apply kept_cccRead | (split) | (dsimp +zetaDelta only))

theorem kept_execGetbcr {s : State} (addr) (hk : Kept Q F s) : KeptO Q F (execGetbcr addr s) := by
  unfold execGetbcr
  repeat' (first | with_reducible assumption | extract_lets | with_reducible apply kept_ite | with_reducible apply kept_next | (with_reducible apply kept_foldl; intro _ _ _) | with_reducible apply kept_cccRead | (split) | (dsimp +zetaDelta only))

theorem kept_execGetdcr {s : State} (addr) (hk : Kept Q F s) : KeptO Q F (execGetdcr addr s) := by
  unfold execGetdcr
  repeat' (first | with_reducible assumption | extract_lets | with_reducible apply kept_ite | with_reducible apply kept_next | (with_reducible apply kept_foldl; intro _ _ _) | with_reducible apply kept_cccRead | (split) | (dsimp +zetaDelta only))

theorem kept_execGetstatus {s : State} (addr) (hk : Kept Q F s) : KeptO Q F (execGetstatus addr s) := by
  unfold execGetstatus
  repeat' (first | with_reducible assumption | extract_lets | with_reducible apply kept_ite | with_reducible apply kept_next | (with_reducible apply kept_foldl; intro _ _ _) | with_reducible apply kept_cccRead | (split) | (dsimp +zetaDelta only))

theorem kept_execGetmwl {s : State} (addr) (hk : Kept Q F s) : KeptO Q F (execGetmwl addr s) := by
  unfold execGetmwl
  repeat' (first | with_reducible assumption | extract_lets | with_reducible apply kept_ite | with_reducible apply kept_next | (with_reducible apply kept_foldl; intro _ _ _) | with_reducible apply kept_cccRead | (split) | (dsimp +zetaDelta only))

theorem kept_execGetmrl {s : State} (addr) (hk : Kept Q F s) : KeptO Q F (execGetmrl addr s) := by
  unfold execGetmrl
  repeat' (first | with_reducible assumption | extract_lets | with_reducible apply kept_ite | with_reducible apply kept_next | (with_reducible apply kept_foldl; intro _ _ _) | with_reducible apply kept_cccRead | (split) | (dsimp +zetaDelta only))

theorem kept_execSetmwl {s : State} (addr) (v) (hk : Kept Q F s) : KeptO Q F (execSetmwl addr v s) := by
  unfold execSetmwl
  repeat' (first | with_reducible assumption | extract_lets | with_reducible apply kept_ite | with_reducible apply kept_next | (with_reducible apply kept_foldl; intro _ _ _) | with_reducible apply kept_i3cOk | with_reducible apply kept_i3cNack | (split) | (dsimp +zetaDelta only))

theorem kept_execSetmrl {s : State} (addr) (v) (hk : Kept Q F s) : KeptO Q F (execSetmrl addr v s) := by
  unfold execSetmrl
  repeat' (first | with_reducible assumption | extract_lets | with_reducible apply kept_ite | with_reducible apply kept_next | (with_reducible apply kept_foldl; intro _ _ _) | with_reducible apply kept_i3cOk | with_reducible apply kept_i3cNack | (split) | (dsimp +zetaDelta only))

theorem kept_cccIdle {s : State} (addr) (hk : Kept Q F s) : Kept Q F (State.cccIdle s addr) := by
  unfold State.cccIdle
  repeat' (first | with_reducible assumption | extract_lets | with_reducible apply kept_ite | with_reducible apply kept_next | (with_reducible apply kept_foldl; intro _ _ _) | with_reducible apply kept_i3cOk | with_reducible apply kept_i3cNack | (split) | (dsimp +zetaDelta only))

theorem kept_execEnec {s : State} (addr) (hk : Kept Q F s) : KeptO Q F (execEnec addr s) := by
  unfold execEnec
  repeat' (first | with_reducible assumption | extract_lets | with_reducible apply kept_ite | with_reducible apply kept_next | (with_reducible apply kept_foldl; intro _ _ _) | with_reducible apply kept_cccIdle | (split) | (dsimp +zetaDelta only))

theorem kept_execDisec {s : State} (addr) (hk : Kept Q F s) : KeptO Q F (execDisec addr s) := by
  unfold execDisec
  repeat' (first | with_reducible assumption | extract_lets | with_reducible apply kept_ite | with_reducible apply kept_next | (with_reducible apply kept_foldl; intro _ _ _) | with_reducible apply kept_cccIdle | (split) | (dsimp +zetaDelta only))

theorem kept_earlyMatch {s : State} (addr) (hk : Kept Q F s) : Kept Q F (State.earlyMatch s addr) := by
  unfold State.earlyMatch
  repeat' (first | with_reducible assumption | extract_lets | with_reducible apply kept_ite | with_reducible apply kept_next | (with_reducible apply kept_foldl; intro _ _ _) | with_reducible apply kept_setFld | with_reducible apply kept_i3cNack | (split) | (dsimp +zetaDelta only))

theorem kept_takeMsg {s : State} (m) (hk : Kept Q F s) : Kept Q F (State.takeMsg s m) := by
  unfold State.takeMsg
  repeat' (first | with_reducible assumption | extract_lets | with_reducible apply kept_ite | with_reducible apply kept_next | (with_reducible apply kept_foldl; intro _ _ _) | (split) | (dsimp +zetaDelta only))

theorem kept_takePacket {s : State} (bs) (hk : Kept Q F s) : Kept Q F (State.takePacket s bs) := by
  unfold State.takePacket
  repeat' (first | with_reducible assumption | extract_lets | with_reducible apply kept_ite | with_reducible apply kept_next | (with_reducible apply kept_foldl; intro _ _ _) | with_reducible apply kept_raise | with_reducible apply kept_takeMsg | (split) | (dsimp +zetaDelta only))

theorem kept_execMctpPacketRead {s : State} (addr) (hk : Kept Q F s) : KeptO Q F (execMctpPacketRead addr s) := by
  unfold execMctpPacketRead
  repeat' (first | with_reducible assumption | extract_lets | with_reducible apply kept_ite | with_reducible apply kept_next | (with_reducible apply kept_foldl; intro _ _ _) | with_reducible apply kept_levelBit | with_reducible apply kept_i3cOk | with_reducible apply kept_i3cNack | with_reducible apply kept_earlyMatch | (split) | (dsimp +zetaDelta only))

theorem kept_setMove {s : State} (n) (m) (hk : Kept Q F s) : Kept Q F (State.setMove s n m) := by
  unfold State.setMove
  repeat' (first | with_reducible assumption | extract_lets | with_reducible apply kept_ite | with_reducible apply kept_next | (with_reducible apply kept_foldl; intro _ _ _) | (split) | (dsimp +zetaDelta only))

theorem kept_dropMove {s : State} (n) (hk : Kept Q F s) : Kept Q F (State.dropMove s n) := by
  unfold State.dropMove
  repeat' (first | with_reducible assumption | extract_lets | with_reducible apply kept_ite | with_reducible apply kept_next | (with_reducible apply kept_foldl; intro _ _ _) | (split) | (dsimp +zetaDelta only))

theorem kept_addMove {s : State} (m) (hk : Kept Q F s) : Kept Q F (State.addMove s m) := by
  unfold State.addMove
  repeat' (first | with_reducible assumption | extract_lets | with_reducible apply kept_ite | with_reducible apply kept_next | (with_reducible apply kept_foldl; intro _ _ _) | with_reducible apply kept_setMove | (split) | (dsimp +zetaDelta only))

theorem kept_poolBlock {s : State} {d} {x} {t : State} (e : State.poolBlock s d = some (x, t)) (hk : Kept Q F s) : Kept Q F t := by
  unfold State.poolBlock at e
  repeat' (first | extract_lets at e | (split at e))
  all_goals (cases e)
  all_goals (repeat' (first | with_reducible assumption | extract_lets | with_reducible apply kept_ite | with_reducible apply kept_next | (with_reducible apply kept_foldl; intro _ _ _) | with_reducible apply kept_setBlock | (split) | (dsimp +zetaDelta only)))

theorem kept_startMove {s : State} {k} {d} {b} {t : State} (e : State.startMove s k d b = some t) (hk : Kept Q F s) : Kept Q F t := by
  unfold State.startMove at e
  repeat' (first | extract_lets at e | (split at e))
  all_goals (cases e)
  all_goals (repeat' (first | with_reducible assumption | extract_lets | with_reducible apply kept_ite | with_reducible apply kept_next | (with_reducible apply kept_foldl; intro _ _ _) | with_reducible apply kept_setBlock | with_reducible apply kept_addMove | (with_reducible refine kept_poolBlock (by assumption) ?_) | (split) | (dsimp +zetaDelta only)))

theorem kept_startFold {s : State} (k) (z) (i) (hk : Kept Q F s) : Kept Q F (State.startFold s k z i) := by
  unfold State.startFold
  repeat' (first | with_reducible assumption | extract_lets | with_reducible apply kept_ite | with_reducible apply kept_next | (with_reducible apply kept_foldl; intro _ _ _) | with_reducible apply kept_addMove | (split) | (dsimp +zetaDelta only))

theorem kept_moveAndRetire {s : State} (d) (b) (cause) (hk : Kept Q F s) : Kept Q F (State.moveAndRetire s d b cause) := by
  unfold State.moveAndRetire
  repeat' (first | with_reducible assumption | extract_lets | with_reducible apply kept_ite | with_reducible apply kept_next | (with_reducible apply kept_foldl; intro _ _ _) | with_reducible apply kept_setBlock | with_reducible apply kept_retireBlock | (split) | (dsimp +zetaDelta only))

theorem kept_startMoveD {k d b} {s : State} (hk : Kept Q F s) : Kept Q F ((s.startMove k d b).getD s) := by
  cases e : s.startMove k d b with
  | none => exact hk
  | some t => exact kept_startMove e hk

theorem kept_moveFailed {s : State} (n) (cause) (hk : Kept Q F s) : Kept Q F (State.moveFailed s n cause) := by
  unfold State.moveFailed
  split
  · exact hk
  · extract_lets s1 s2
    have h1 : Kept Q F s1 := kept_raise _ _ (kept_dropMove _ hk)
    have h2 : Kept Q F s2 := kept_retireBlock _ _ _ h1
    exact kept_ite (kept_moveAndRetire _ _ _ h1) (kept_startMoveD h2)

theorem kept_read14 {s : State} (d) (type) (b) (mv) (verify) (hk : Kept Q F s) : Kept Q F (State.read14 s d type b mv verify) := by
  unfold State.read14
  repeat' (first | with_reducible assumption | extract_lets | with_reducible apply kept_ite | with_reducible apply kept_next | (with_reducible apply kept_foldl; intro _ _ _) | with_reducible apply kept_setDie | with_reducible apply kept_countRead | (split) | (dsimp +zetaDelta only))

theorem kept_moveStep {s : State} (d) (type) (x3) (hk : Kept Q F s) : Kept Q F (State.moveStep s d type x3) := by
  unfold State.moveStep
  repeat' (first | with_reducible assumption | extract_lets | with_reducible apply kept_ite | with_reducible apply kept_next | (with_reducible apply kept_foldl; intro _ _ _) | with_reducible apply kept_setDie | with_reducible apply kept_read14 | (split) | (dsimp +zetaDelta only))

theorem kept_doWork {s : State} (d) (type) (w) (hk : Kept Q F s) : Kept Q F (State.doWork s d type w) := by
  unfold State.doWork
  have hs : ∀ k b, Kept Q F ((s.startMove k d b).getD s) := fun k b => kept_startMoveD hk
  repeat' (first | with_reducible assumption | with_reducible apply hs | extract_lets | with_reducible apply kept_ite | with_reducible apply kept_takeTail | with_reducible apply kept_takePad | with_reducible apply kept_setDie | with_reducible apply kept_startFold | with_reducible apply kept_moveStep | with_reducible apply kept_read14 | (split) | (dsimp +zetaDelta only))

theorem kept_run14 {s : State} (d) (type) (w) (hk : Kept Q F s) : Kept Q F (State.run14 s d type w) := by
  unfold State.run14
  repeat' (first | with_reducible assumption | extract_lets | with_reducible apply kept_ite | with_reducible apply kept_next | (with_reducible apply kept_foldl; intro _ _ _) | with_reducible apply kept_takeConvPad | with_reducible apply kept_doWork | (split) | (dsimp +zetaDelta only))

theorem kept_poisonMove {s : State} (n) (bad) (hk : Kept Q F s) : Kept Q F (State.poisonMove s n bad) := by
  unfold State.poisonMove
  repeat' (first | with_reducible assumption | extract_lets | with_reducible apply kept_ite | with_reducible apply kept_next | (with_reducible apply kept_foldl; intro _ _ _) | with_reducible apply kept_setMove | (split) | (dsimp +zetaDelta only))

theorem kept_placeKey {s : State} (d) (block) (pl) (k) (hk : Kept Q F s) : Kept Q F (State.placeKey s d block pl k) := by
  unfold State.placeKey
  repeat' (first | with_reducible assumption | extract_lets | with_reducible apply kept_ite | with_reducible apply kept_next | (with_reducible apply kept_foldl; intro _ _ _) | with_reducible apply kept_settleMsgs | (split) | (dsimp +zetaDelta only))

theorem kept_notePlaces {s : State} (d) (block) (page) (qlc) (keys) (hk : Kept Q F s) : Kept Q F (State.notePlaces s d block page qlc keys) := by
  unfold State.notePlaces
  repeat' (first | with_reducible assumption | extract_lets | with_reducible apply kept_ite | with_reducible apply kept_next | (with_reducible apply kept_foldl; intro _ _ _) | with_reducible apply kept_modRec | (split) | (dsimp +zetaDelta only))

theorem kept_advanceSlot {s : State} (z) (i) (block) (toSlc) (hk : Kept Q F s) : Kept Q F (State.advanceSlot s z i block toSlc) := by
  unfold State.advanceSlot
  repeat' (first | with_reducible assumption | extract_lets | with_reducible apply kept_ite | with_reducible apply kept_next | (with_reducible apply kept_foldl; intro _ _ _) | with_reducible apply kept_setZone | with_reducible apply kept_setBlock | with_reducible apply kept_fillBlocks | (split) | (dsimp +zetaDelta only))

theorem kept_dropTail {s : State} (z) (hk : Kept Q F s) : Kept Q F (State.dropTail s z) := by
  unfold State.dropTail
  repeat' (first | with_reducible assumption | extract_lets | with_reducible apply kept_ite | with_reducible apply kept_next | (with_reducible apply kept_foldl; intro _ _ _) | with_reducible apply kept_setZone | (split) | (dsimp +zetaDelta only))

theorem kept_moveWrote {s : State} (n) (hk : Kept Q F s) : Kept Q F (State.moveWrote s n) := by
  unfold State.moveWrote
  repeat' (first | with_reducible assumption | extract_lets | with_reducible apply kept_ite | with_reducible apply kept_next | (with_reducible apply kept_foldl; intro _ _ _) | with_reducible apply kept_setBlock | with_reducible apply kept_setMove | (split) | (dsimp +zetaDelta only))

theorem kept_tailAdvance {s : State} (d) (hk : Kept Q F s) : Kept Q F (State.tailAdvance s d) := by
  unfold State.tailAdvance
  repeat' (first | with_reducible assumption | extract_lets | with_reducible apply kept_ite | with_reducible apply kept_next | (with_reducible apply kept_foldl; intro _ _ _) | with_reducible apply kept_setDieMed | (split) | (dsimp +zetaDelta only))

theorem kept_unforce {s : State} (z) (hk : Kept Q F s) : Kept Q F (State.unforce s z) := by
  unfold State.unforce
  repeat' (first | with_reducible assumption | extract_lets | with_reducible apply kept_ite | with_reducible apply kept_next | (with_reducible apply kept_foldl; intro _ _ _) | (split) | (dsimp +zetaDelta only))

theorem kept_tailOk {s : State} (d) (z) (op) (hk : Kept Q F s) : Kept Q F (State.tailOk s d z op) := by
  unfold State.tailOk
  repeat' (first | with_reducible assumption | extract_lets | with_reducible apply kept_ite | with_reducible apply kept_next | (with_reducible apply kept_foldl; intro _ _ _) | with_reducible apply kept_setZone | with_reducible apply kept_placeKey | with_reducible apply kept_notePlaces | with_reducible apply kept_tailAdvance | (split) | (dsimp +zetaDelta only))

theorem kept_fillLog {s : State} (d) (b) (hk : Kept Q F s) : Kept Q F (State.fillLog s d b) := by
  unfold State.fillLog
  repeat' (first | with_reducible assumption | extract_lets | with_reducible apply kept_ite | with_reducible apply kept_next | (with_reducible apply kept_foldl; intro _ _ _) | with_reducible apply kept_setBlock | (split) | (dsimp +zetaDelta only))

theorem kept_programOk {s : State} (d) (op) (hk : Kept Q F s) : Kept Q F (State.programOk s d op) := by
  unfold State.programOk
  repeat' (first | with_reducible assumption | extract_lets | with_reducible apply kept_ite | with_reducible apply kept_next | (with_reducible apply kept_foldl; intro _ _ _) | with_reducible apply kept_setBlock | with_reducible apply kept_placeKey | with_reducible apply kept_notePlaces | with_reducible apply kept_advanceSlot | with_reducible apply kept_dropTail | with_reducible apply kept_moveWrote | with_reducible apply kept_unforce | with_reducible apply kept_tailOk | with_reducible apply kept_fillLog | (split) | (dsimp +zetaDelta only))

theorem kept_dropEmpty {s : State} (z) (d) (block) (hk : Kept Q F s) : Kept Q F (State.dropEmpty s z d block) := by
  unfold State.dropEmpty
  repeat' (first | with_reducible assumption | extract_lets | with_reducible apply kept_ite | with_reducible apply kept_next | (with_reducible apply kept_foldl; intro _ _ _) | with_reducible apply kept_setZone | (with_reducible refine kept_bindSlot (by assumption) ?_) | with_reducible apply kept_bindWaits | (split) | (dsimp +zetaDelta only))

theorem kept_programFailed {s : State} (d) (op) (hk : Kept Q F s) : Kept Q F (State.programFailed s d op) := by
  unfold State.programFailed
  repeat' (first | with_reducible assumption | extract_lets | with_reducible apply kept_ite | with_reducible apply kept_next | (with_reducible apply kept_foldl; intro _ _ _) | with_reducible apply kept_moveAndRetire | with_reducible apply kept_moveFailed | with_reducible apply kept_tailAdvance | with_reducible apply kept_dropEmpty | (split) | (dsimp +zetaDelta only))

theorem kept_eraseEnd {s : State} (d) (b) (ok) (hk : Kept Q F s) : Kept Q F (State.eraseEnd s d b ok) := by
  unfold State.eraseEnd
  repeat' (first | with_reducible assumption | extract_lets | with_reducible apply kept_ite | with_reducible apply kept_next | (with_reducible apply kept_foldl; intro _ _ _) | with_reducible apply kept_setBlock | with_reducible apply kept_retireBlock | (split) | (dsimp +zetaDelta only))

theorem kept_readLost {s : State} (op) (hk : Kept Q F s) : Kept Q F (State.readLost s op) := by
  unfold State.readLost
  repeat' (first | with_reducible assumption | extract_lets | with_reducible apply kept_ite | with_reducible apply kept_next | (with_reducible apply kept_foldl; intro _ _ _) | with_reducible apply kept_setSec | (split) | (dsimp +zetaDelta only))

theorem kept_outcome {s : State} (d) (op) (ok) (hk : Kept Q F s) : Kept Q F (State.outcome s d op ok) := by
  unfold State.outcome
  repeat' (first | with_reducible assumption | extract_lets | with_reducible apply kept_ite | with_reducible apply kept_next | (with_reducible apply kept_foldl; intro _ _ _) | with_reducible apply kept_tailAdvance | with_reducible apply kept_programOk | with_reducible apply kept_programFailed | with_reducible apply kept_eraseEnd | with_reducible apply kept_readLost | (split) | (dsimp +zetaDelta only))

theorem kept_mediaExc {s : State} (d) (type) (cls) (bit) (each) (hk : Kept Q F s) : Kept Q F (State.mediaExc s d type cls bit each) := by
  unfold State.mediaExc
  repeat' (first | with_reducible assumption | extract_lets | with_reducible apply kept_ite | with_reducible apply kept_next | (with_reducible apply kept_foldl; intro _ _ _) | with_reducible apply kept_setReg | with_reducible apply kept_raise | with_reducible apply kept_raiseWith | (split) | (dsimp +zetaDelta only))

theorem kept_countOverrun {s : State} (d) (op) (hk : Kept Q F s) : Kept Q F (State.countOverrun s d op) := by
  unfold State.countOverrun
  repeat' (first | with_reducible assumption | extract_lets | with_reducible apply kept_ite | with_reducible apply kept_next | (with_reducible apply kept_foldl; intro _ _ _) | with_reducible apply kept_setBlock | with_reducible apply kept_moveAndRetire | (split) | (dsimp +zetaDelta only))

theorem kept_overrun {s : State} (d) (op) (hk : Kept Q F s) : Kept Q F (State.overrun s d op) := by
  unfold State.overrun
  repeat' (first | with_reducible assumption | extract_lets | with_reducible apply kept_ite | with_reducible apply kept_next | (with_reducible apply kept_foldl; intro _ _ _) | with_reducible apply kept_setDie | with_reducible apply kept_setCmd | with_reducible apply kept_setSec | with_reducible apply kept_mediaExc | with_reducible apply kept_countOverrun | (split) | (dsimp +zetaDelta only))

theorem kept_execBudgetCheck {s : State} (die) (ready) (hk : Kept Q F s) : KeptO Q F (execBudgetCheck die ready s) := by
  unfold execBudgetCheck
  repeat' (first | with_reducible assumption | extract_lets | with_reducible apply kept_ite | with_reducible apply kept_next | (with_reducible apply kept_foldl; intro _ _ _) | with_reducible apply kept_tickTo | with_reducible apply kept_setDie | with_reducible apply kept_overrun | (split) | (dsimp +zetaDelta only))

theorem kept_statusRead {s : State} (d) (ready) (ok) (hk : Kept Q F s) : Kept Q F (State.statusRead s d ready ok) := by
  unfold State.statusRead
  repeat' (first | with_reducible assumption | extract_lets | with_reducible apply kept_ite | with_reducible apply kept_next | (with_reducible apply kept_foldl; intro _ _ _) | with_reducible apply kept_setDie | with_reducible apply kept_failDie | with_reducible apply kept_outcome | (split) | (dsimp +zetaDelta only))

theorem kept_execDieReset {s : State} (die) (hk : Kept Q F s) : KeptO Q F (execDieReset die s) := by
  unfold execDieReset
  repeat' (first | with_reducible assumption | extract_lets | with_reducible apply kept_ite | with_reducible apply kept_next | (with_reducible apply kept_foldl; intro _ _ _) | with_reducible apply kept_setDie | with_reducible apply kept_outcome | with_reducible apply kept_mediaExc | (split) | (dsimp +zetaDelta only))

theorem kept_countSeat {s : State} (d) (x2) (hk : Kept Q F s) : Kept Q F (State.countSeat s d x2) := by
  unfold State.countSeat
  repeat' (first | with_reducible assumption | extract_lets | with_reducible apply kept_ite | with_reducible apply kept_next | (with_reducible apply kept_foldl; intro _ _ _) | with_reducible apply kept_setDie | (split) | (dsimp +zetaDelta only))

theorem kept_readEntry {s : State} (d) (x2) (x3) (hk : Kept Q F s) : Kept Q F (State.readEntry s d x2 x3) := by
  unfold State.readEntry
  repeat' (first | with_reducible assumption | extract_lets | with_reducible apply kept_ite | with_reducible apply kept_next | (with_reducible apply kept_foldl; intro _ _ _) | with_reducible apply kept_grant | (split) | (dsimp +zetaDelta only))

theorem kept_enter15 {s : State} (d) (x2) (x3) (ready) (ok) (hk : Kept Q F s) : Kept Q F (State.enter15 s d x2 x3 ready ok) := by
  unfold State.enter15
  repeat' (first | with_reducible assumption | extract_lets | with_reducible apply kept_ite | with_reducible apply kept_next | (with_reducible apply kept_foldl; intro _ _ _) | with_reducible apply kept_setDie | with_reducible apply kept_statusRead | (split) | (dsimp +zetaDelta only))

theorem kept_startEntry {s : State} (d) (x2) (w) (hk : Kept Q F s) : Kept Q F (State.startEntry s d x2 w) := by
  unfold State.startEntry
  repeat' (first | with_reducible assumption | extract_lets | with_reducible apply kept_ite | with_reducible apply kept_next | (with_reducible apply kept_foldl; intro _ _ _) | with_reducible apply kept_takeSlc | with_reducible apply kept_takeQlc | with_reducible apply kept_run14 | (split) | (dsimp +zetaDelta only))

theorem kept_beginEntry {s : State} (d) (x2) (x3) (w) (ready) (ok) (hk : Kept Q F s) : Kept Q F (State.beginEntry s d x2 x3 w ready ok) := by
  unfold State.beginEntry
  repeat' (first | with_reducible assumption | extract_lets | with_reducible apply kept_ite | with_reducible apply kept_next | (with_reducible apply kept_foldl; intro _ _ _) | with_reducible apply kept_setDie | with_reducible apply kept_run14 | with_reducible apply kept_mediaExc | with_reducible apply kept_readEntry | with_reducible apply kept_enter15 | with_reducible apply kept_startEntry | (split) | (dsimp +zetaDelta only))

theorem kept_setTimes {s : State} (d) (x2) (t0) (x4) (hk : Kept Q F s) : Kept Q F (State.setTimes s d x2 t0 x4) := by
  unfold State.setTimes
  repeat' (first | with_reducible assumption | extract_lets | with_reducible apply kept_ite | with_reducible apply kept_next | (with_reducible apply kept_foldl; intro _ _ _) | with_reducible apply kept_setDie | (split) | (dsimp +zetaDelta only))

theorem kept_stagePoison {s : State} (d) (bad) (hk : Kept Q F s) : Kept Q F (State.stagePoison s d bad) := by
  unfold State.stagePoison
  repeat' (first | with_reducible assumption | extract_lets | with_reducible apply kept_ite | with_reducible apply kept_next | (with_reducible apply kept_foldl; intro _ _ _) | with_reducible apply kept_raise | (split) | (dsimp +zetaDelta only))

theorem kept_entryBad {s : State} (d) (bad) (hk : Kept Q F s) : Kept Q F (State.entryBad s d bad) := by
  unfold State.entryBad
  repeat' (first | with_reducible assumption | extract_lets | with_reducible apply kept_ite | with_reducible apply kept_next | (with_reducible apply kept_foldl; intro _ _ _) | with_reducible apply kept_poisonMove | with_reducible apply kept_stagePoison | (split) | (dsimp +zetaDelta only))

theorem kept_execEntryStart {s : State} (die) (x1) (work) (ready) (ok) (bad) (hk : Kept Q F s) : KeptO Q F (execEntryStart die x1 work ready ok bad s) := by
  unfold execEntryStart
  repeat' (first | with_reducible assumption | extract_lets | with_reducible apply kept_ite | with_reducible apply kept_next | (with_reducible apply kept_foldl; intro _ _ _) | with_reducible apply kept_tickTo | with_reducible apply kept_setDie | with_reducible apply kept_leaveKick | with_reducible apply kept_countSeat | with_reducible apply kept_beginEntry | with_reducible apply kept_setTimes | with_reducible apply kept_entryBad | (split) | (dsimp +zetaDelta only))

theorem kept_releaseRead {s : State} (h) (hk : Kept Q F s) : Kept Q F (State.releaseRead s h) := by
  unfold State.releaseRead
  repeat' (first | with_reducible assumption | extract_lets | with_reducible apply kept_ite | with_reducible apply kept_next | (with_reducible apply kept_foldl; intro _ _ _) | with_reducible apply kept_setCmd | (split) | (dsimp +zetaDelta only))

theorem kept_read14End {s : State} (d) (op) (hk : Kept Q F s) : Kept Q F (State.read14End s d op) := by
  unfold State.read14End
  repeat' (first | with_reducible assumption | extract_lets | with_reducible apply kept_ite | with_reducible apply kept_next | (with_reducible apply kept_foldl; intro _ _ _) | with_reducible apply kept_setBlock | with_reducible apply kept_setMove | (split) | (dsimp +zetaDelta only))

theorem kept_execTransferSlot {s : State} (die) (hk : Kept Q F s) : KeptO Q F (execTransferSlot die s) := by
  unfold execTransferSlot
  repeat' (first | with_reducible assumption | extract_lets | with_reducible apply kept_ite | with_reducible apply kept_next | (with_reducible apply kept_foldl; intro _ _ _) | with_reducible apply kept_tickTo | with_reducible apply kept_setDie | with_reducible apply kept_stampAt | with_reducible apply kept_setSec | with_reducible apply kept_leaveKick | with_reducible apply kept_kick | with_reducible apply kept_releaseRead | with_reducible apply kept_read14End | (split) | (dsimp +zetaDelta only))

theorem kept_recovered {s : State} (x1) (bits) (hk : Kept Q F s) : Kept Q F (State.recovered s x1 bits) := by
  unfold State.recovered
  repeat' (first | with_reducible assumption | extract_lets | with_reducible apply kept_ite | with_reducible apply kept_next | (with_reducible apply kept_foldl; intro _ _ _) | with_reducible apply kept_countFld | with_reducible apply kept_setBlock | with_reducible apply kept_queueRefresh | (split) | (dsimp +zetaDelta only))

theorem kept_execLdpcDecodeEnd {s : State} (h) (i) (ok) (bits) (hk : Kept Q F s) : KeptO Q F (execLdpcDecodeEnd h i ok bits s) := by
  unfold execLdpcDecodeEnd
  repeat' (first | with_reducible assumption | extract_lets | with_reducible apply kept_ite | with_reducible apply kept_next | (with_reducible apply kept_foldl; intro _ _ _) | with_reducible apply kept_stamp | with_reducible apply kept_setSec | with_reducible apply kept_kick | with_reducible apply kept_uncorrectable | with_reducible apply kept_failDecode | with_reducible apply kept_recovered | (split) | (dsimp +zetaDelta only))

theorem kept_read15 {s : State} (h) (i) (x3) (x4) (type) (off) (room) (hk : Kept Q F s) : Kept Q F (State.read15 s h i x3 x4 type off room) := by
  unfold State.read15
  repeat' (first | with_reducible assumption | extract_lets | with_reducible apply kept_ite | with_reducible apply kept_next | (with_reducible apply kept_foldl; intro _ _ _) | with_reducible apply kept_tickTo | with_reducible apply kept_setDie | with_reducible apply kept_stampAt | with_reducible apply kept_setSec | with_reducible apply kept_countRead | (split) | (dsimp +zetaDelta only))

theorem kept_execRetryRead {s : State} (h) (i) (hk : Kept Q F s) : KeptO Q F (execRetryRead h i s) := by
  unfold execRetryRead
  repeat' (first | with_reducible assumption | extract_lets | with_reducible apply kept_ite | with_reducible apply kept_next | (with_reducible apply kept_foldl; intro _ _ _) | with_reducible apply kept_mediaExc | with_reducible apply kept_read15 | (split) | (dsimp +zetaDelta only))

theorem kept_execRecoveryRead {s : State} (h) (i) (hk : Kept Q F s) : KeptO Q F (execRecoveryRead h i s) := by
  unfold execRecoveryRead
  repeat' (first | with_reducible assumption | extract_lets | with_reducible apply kept_ite | with_reducible apply kept_next | (with_reducible apply kept_foldl; intro _ _ _) | with_reducible apply kept_mediaExc | with_reducible apply kept_read15 | (split) | (dsimp +zetaDelta only))

theorem kept_execL3Timeout {s : State} (h) (i) (hk : Kept Q F s) : KeptO Q F (execL3Timeout h i s) := by
  unfold execL3Timeout
  repeat' (first | with_reducible assumption | extract_lets | with_reducible apply kept_ite | with_reducible apply kept_next | (with_reducible apply kept_foldl; intro _ _ _) | with_reducible apply kept_kick | with_reducible apply kept_uncorrectable | (split) | (dsimp +zetaDelta only))

theorem kept_execTallyRebuild {s : State} (h) (i) (ok) (hk : Kept Q F s) : KeptO Q F (execTallyRebuild h i ok s) := by
  unfold execTallyRebuild
  repeat' (first | with_reducible assumption | extract_lets | with_reducible apply kept_ite | with_reducible apply kept_next | (with_reducible apply kept_foldl; intro _ _ _) | with_reducible apply kept_countFld | with_reducible apply kept_setCmd | with_reducible apply kept_raise | with_reducible apply kept_stamp | with_reducible apply kept_registerKick | with_reducible apply kept_kick | with_reducible apply kept_uncorrectable | (split) | (dsimp +zetaDelta only))

theorem kept_takeResult {s : State} (d) (op) (ok) (hk : Kept Q F s) : Kept Q F (State.takeResult s d op ok) := by
  unfold State.takeResult
  repeat' (first | with_reducible assumption | extract_lets | with_reducible apply kept_ite | with_reducible apply kept_next | (with_reducible apply kept_foldl; intro _ _ _) | with_reducible apply kept_tickTo | with_reducible apply kept_setDie | with_reducible apply kept_leaveKick | with_reducible apply kept_outcome | (split) | (dsimp +zetaDelta only))

theorem kept_execProgramResult {s : State} (die) (ok) (hk : Kept Q F s) : KeptO Q F (execProgramResult die ok s) := by
  unfold execProgramResult
  repeat' (first | with_reducible assumption | extract_lets | with_reducible apply kept_ite | with_reducible apply kept_next | (with_reducible apply kept_foldl; intro _ _ _) | with_reducible apply kept_takeResult | (split) | (dsimp +zetaDelta only))

theorem kept_execEraseResult {s : State} (die) (ok) (hk : Kept Q F s) : KeptO Q F (execEraseResult die ok s) := by
  unfold execEraseResult
  repeat' (first | with_reducible assumption | extract_lets | with_reducible apply kept_ite | with_reducible apply kept_next | (with_reducible apply kept_foldl; intro _ _ _) | with_reducible apply kept_takeResult | (split) | (dsimp +zetaDelta only))

theorem kept_execSettlementMessage {s : State} (hk : Kept Q F s) : KeptO Q F (execSettlementMessage s) := by
  unfold execSettlementMessage
  repeat' (first | with_reducible assumption | extract_lets | with_reducible apply kept_ite | with_reducible apply kept_next | (with_reducible apply kept_foldl; intro _ _ _) | with_reducible apply kept_modRec | with_reducible apply kept_kick | (split) | (dsimp +zetaDelta only))

theorem kept_execZoneClaimDone {s : State} (zone) (hk : Kept Q F s) : KeptO Q F (execZoneClaimDone zone s) := by
  unfold execZoneClaimDone
  repeat' (first | with_reducible assumption | extract_lets | with_reducible apply kept_ite | with_reducible apply kept_next | (with_reducible apply kept_foldl; intro _ _ _) | with_reducible apply kept_setZone | with_reducible apply kept_kick | (split) | (dsimp +zetaDelta only))

theorem kept_bindWaiting {s : State} (zone) (slot) (toSlc) (hk : Kept Q F s) : Kept Q F (State.bindWaiting s zone slot toSlc) := by
  unfold State.bindWaiting
  extract_lets d code x sl waits
  split
  · split
    · rename_i s1 e
      exact (kept_bindSlot e hk :)
    · exact hk
  · exact hk

theorem kept_execSlotBinding {s : State} (zone) (slot) (toSlc) (hk : Kept Q F s) : KeptO Q F (execSlotBinding zone slot toSlc s) := by
  unfold execSlotBinding
  repeat' (first | with_reducible assumption | extract_lets | with_reducible apply kept_ite | with_reducible apply kept_next | (with_reducible apply kept_foldl; intro _ _ _) | with_reducible apply kept_bindWaiting | (split) | (dsimp +zetaDelta only))

theorem kept_addCommit {s : State} (src) (dst) (st) (hk : Kept Q F s) : Kept Q F (State.addCommit s src dst st) := by
  unfold State.addCommit
  repeat' (first | with_reducible assumption | extract_lets | with_reducible apply kept_ite | with_reducible apply kept_next | (with_reducible apply kept_foldl; intro _ _ _) | with_reducible apply kept_setRec | (split) | (dsimp +zetaDelta only))

theorem kept_movedToQlc {s : State} (keys) (hk : Kept Q F s) : Kept Q F (State.movedToQlc s keys) := by
  unfold State.movedToQlc
  repeat' (first | with_reducible assumption | extract_lets | with_reducible apply kept_ite | with_reducible apply kept_next | (with_reducible apply kept_foldl; intro _ _ _) | (split) | (dsimp +zetaDelta only))

theorem kept_applyFold {s : State} (m) (z) (hk : Kept Q F s) : Kept Q F (State.applyFold s m z) := by
  unfold State.applyFold
  repeat' (first | with_reducible assumption | extract_lets | with_reducible apply kept_ite | with_reducible apply kept_next | (with_reducible apply kept_foldl; intro _ _ _) | with_reducible apply kept_setZone | with_reducible apply kept_fillBlocks | with_reducible apply kept_movedToQlc | (split) | (dsimp +zetaDelta only))

theorem kept_tallyRelease {s : State} (z) (hk : Kept Q F s) : Kept Q F (State.tallyRelease s z) := by
  unfold State.tallyRelease
  repeat' (first | with_reducible assumption | extract_lets | with_reducible apply kept_ite | with_reducible apply kept_next | (with_reducible apply kept_foldl; intro _ _ _) | with_reducible apply kept_setZone | with_reducible apply kept_kick | (split) | (dsimp +zetaDelta only))

theorem kept_execFoldDone {s : State} (zone) (slot) (ok) (hk : Kept Q F s) : KeptO Q F (execFoldDone zone slot ok s) := by
  unfold execFoldDone
  repeat' (first | with_reducible assumption | extract_lets | with_reducible apply kept_ite | with_reducible apply kept_next | (with_reducible apply kept_foldl; intro _ _ _) | with_reducible apply kept_raise | with_reducible apply kept_dropMove | with_reducible apply kept_moveFailed | with_reducible apply kept_addCommit | with_reducible apply kept_applyFold | with_reducible apply kept_tallyRelease | (split) | (dsimp +zetaDelta only))

theorem kept_execEvacuationDone {s : State} (zone) (slot) (toSlc) (hk : Kept Q F s) : KeptO Q F (execEvacuationDone zone slot toSlc s) := by
  unfold execEvacuationDone
  repeat' (first | with_reducible assumption | extract_lets | with_reducible apply kept_ite | with_reducible apply kept_next | (with_reducible apply kept_foldl; intro _ _ _) | with_reducible apply kept_bindWaiting | (split) | (dsimp +zetaDelta only))

theorem kept_execTailRingCopy {s : State} (die) (block) (hk : Kept Q F s) : KeptO Q F (execTailRingCopy die block s) := by
  unfold execTailRingCopy
  repeat' (first | with_reducible assumption | extract_lets | with_reducible apply kept_ite | with_reducible apply kept_next | (with_reducible apply kept_foldl; intro _ _ _) | with_reducible apply kept_copyTails | (split) | (dsimp +zetaDelta only))

theorem kept_execTallyForwardCopy {s : State} (die) (block) (hk : Kept Q F s) : KeptO Q F (execTallyForwardCopy die block s) := by
  unfold execTallyForwardCopy
  repeat' (first | with_reducible assumption | extract_lets | with_reducible apply kept_ite | with_reducible apply kept_next | (with_reducible apply kept_foldl; intro _ _ _) | with_reducible apply kept_writeTally | (split) | (dsimp +zetaDelta only))

theorem kept_execTallyProgram {s : State} (zone) (w) (hk : Kept Q F s) : KeptO Q F (execTallyProgram zone w s) := by
  unfold execTallyProgram
  repeat' (first | with_reducible assumption | extract_lets | with_reducible apply kept_ite | with_reducible apply kept_next | (with_reducible apply kept_foldl; intro _ _ _) | with_reducible apply kept_setZone | with_reducible apply kept_writeTally | (split) | (dsimp +zetaDelta only))

theorem kept_execAccumulatorRebuild {s : State} (zone) (hk : Kept Q F s) : KeptO Q F (execAccumulatorRebuild zone s) := by
  unfold execAccumulatorRebuild
  repeat' (first | with_reducible assumption | extract_lets | with_reducible apply kept_ite | with_reducible apply kept_next | (with_reducible apply kept_foldl; intro _ _ _) | with_reducible apply kept_levelBit | (split) | (dsimp +zetaDelta only))

theorem kept_execBlockVerifyDone {s : State} (die) (block) (ok) (hk : Kept Q F s) : KeptO Q F (execBlockVerifyDone die block ok s) := by
  unfold execBlockVerifyDone
  repeat' (first | with_reducible assumption | extract_lets | with_reducible apply kept_ite | with_reducible apply kept_next | (with_reducible apply kept_foldl; intro _ _ _) | with_reducible apply kept_setBlock | with_reducible apply kept_raise | with_reducible apply kept_setMove | with_reducible apply kept_moveAndRetire | with_reducible apply kept_moveFailed | with_reducible apply kept_tallyRelease | (split) | (dsimp +zetaDelta only))

theorem kept_applyBlock {s : State} (m) (z) (hk : Kept Q F s) : Kept Q F (State.applyBlock s m z) := by
  unfold State.applyBlock
  repeat' (first | with_reducible assumption | extract_lets | with_reducible apply kept_ite | with_reducible apply kept_next | (with_reducible apply kept_foldl; intro _ _ _) | with_reducible apply kept_setDieMed | with_reducible apply kept_setZone | with_reducible apply kept_setBlock | (split) | (dsimp +zetaDelta only))

theorem kept_applyGranule {s : State} (m) (hk : Kept Q F s) : Kept Q F (State.applyGranule s m) := by
  unfold State.applyGranule
  repeat' (first | with_reducible assumption | extract_lets | with_reducible apply kept_ite | with_reducible apply kept_next | (with_reducible apply kept_foldl; intro _ _ _) | with_reducible apply kept_fillLog | with_reducible apply kept_movedToQlc | (split) | (dsimp +zetaDelta only))

theorem kept_execMapCommitMessage {s : State} (mv) (hk : Kept Q F s) : KeptO Q F (execMapCommitMessage mv s) := by
  unfold execMapCommitMessage
  repeat' (first | with_reducible assumption | extract_lets | with_reducible apply kept_ite | with_reducible apply kept_next | (with_reducible apply kept_foldl; intro _ _ _) | with_reducible apply kept_setMove | with_reducible apply kept_addCommit | with_reducible apply kept_tallyRelease | with_reducible apply kept_applyBlock | with_reducible apply kept_applyGranule | (split) | (dsimp +zetaDelta only))

theorem kept_execSourceErase {s : State} (mv) (hk : Kept Q F s) : KeptO Q F (execSourceErase mv s) := by
  unfold execSourceErase
  repeat' (first | with_reducible assumption | extract_lets | with_reducible apply kept_ite | with_reducible apply kept_next | (with_reducible apply kept_foldl; intro _ _ _) | with_reducible apply kept_freeBlock | with_reducible apply kept_retireBlock | with_reducible apply kept_dropMove | (split) | (dsimp +zetaDelta only))

theorem kept_execSpillProgram {s : State} (hk : Kept Q F s) : KeptO Q F (execSpillProgram s) := by
  unfold execSpillProgram
  repeat' (first | with_reducible assumption | extract_lets | with_reducible apply kept_ite | with_reducible apply kept_next | (with_reducible apply kept_foldl; intro _ _ _) | (split) | (dsimp +zetaDelta only))

theorem kept_execMetadataWrite {s : State} (top) (hk : Kept Q F s) : KeptO Q F (execMetadataWrite top s) := by
  unfold execMetadataWrite
  repeat' (first | with_reducible assumption | extract_lets | with_reducible apply kept_ite | with_reducible apply kept_next | (with_reducible apply kept_foldl; intro _ _ _) | (split) | (dsimp +zetaDelta only))

theorem kept_staleWork {s : State} (q) (hk : Kept Q F s) : Kept Q F (State.staleWork s q) := by
  unfold State.staleWork
  repeat' (first | with_reducible assumption | extract_lets | with_reducible apply kept_ite | with_reducible apply kept_next | (with_reducible apply kept_foldl; intro _ _ _) | with_reducible apply kept_forceTail | (split) | (dsimp +zetaDelta only))

theorem kept_execStaleSecuredRecord {s : State} (q) (hk : Kept Q F s) : KeptO Q F (execStaleSecuredRecord q s) := by
  unfold execStaleSecuredRecord
  repeat' (first | with_reducible assumption | extract_lets | with_reducible apply kept_ite | with_reducible apply kept_next | (with_reducible apply kept_foldl; intro _ _ _) | with_reducible apply kept_staleWork | (split) | (dsimp +zetaDelta only))

theorem kept_execRetentionRefreshDue {s : State} (die) (block) (hk : Kept Q F s) : KeptO Q F (execRetentionRefreshDue die block s) := by
  unfold execRetentionRefreshDue
  repeat' (first | with_reducible assumption | extract_lets | with_reducible apply kept_ite | with_reducible apply kept_next | (with_reducible apply kept_foldl; intro _ _ _) | with_reducible apply kept_setBlock | (split) | (dsimp +zetaDelta only))

theorem kept_execMedZqSelWrite {s : State} (who) (value) (hk : Kept Q F s) : KeptO Q F (execMedZqSelWrite who value s) := by
  unfold execMedZqSelWrite
  repeat' (first | with_reducible assumption | extract_lets | with_reducible apply kept_ite | with_reducible apply kept_next | (with_reducible apply kept_foldl; intro _ _ _) | with_reducible apply kept_setReg | (split) | (dsimp +zetaDelta only))

theorem kept_recordWake {s : State} (src) (abandoned) (ap) (fromHib) (hk : Kept Q F s) : Kept Q F (State.recordWake s src abandoned ap fromHib) := by
  unfold State.recordWake
  repeat' (first | with_reducible assumption | extract_lets | with_reducible apply kept_ite | with_reducible apply kept_next | (with_reducible apply kept_foldl; intro _ _ _) | with_reducible apply kept_setReg | (split) | (dsimp +zetaDelta only))

theorem kept_abandonSleep {s : State} (src) (ap) (hk : Kept Q F s) : Kept Q F (State.abandonSleep s src ap) := by
  unfold State.abandonSleep
  repeat' (first | with_reducible assumption | extract_lets | with_reducible apply kept_ite | with_reducible apply kept_next | (with_reducible apply kept_foldl; intro _ _ _) | with_reducible apply kept_raise | with_reducible apply kept_reply | with_reducible apply kept_kick | with_reducible apply kept_recordWake | (split) | (dsimp +zetaDelta only))

theorem kept_wakeEvent {s : State} (src) (hk : Kept Q F s) : Kept Q F (State.wakeEvent s src) := by
  unfold State.wakeEvent
  repeat' (first | with_reducible assumption | extract_lets | with_reducible apply kept_ite | with_reducible apply kept_next | (with_reducible apply kept_foldl; intro _ _ _) | with_reducible apply kept_syncRail | with_reducible apply kept_recordWake | with_reducible apply kept_abandonSleep | (split) | (dsimp +zetaDelta only))

theorem kept_sleepEntry {s : State} (x1) (v) (hk : Kept Q F s) : Kept Q F (State.sleepEntry s x1 v) := by
  unfold State.sleepEntry
  repeat' (first | with_reducible assumption | extract_lets | with_reducible apply kept_ite | with_reducible apply kept_next | (with_reducible apply kept_foldl; intro _ _ _) | with_reducible apply kept_kick | with_reducible apply kept_interruptHeld | with_reducible apply kept_abandonSleep | (split) | (dsimp +zetaDelta only))

theorem kept_sleepRequest {s : State} (x1) (v) (hk : Kept Q F s) : Kept Q F (State.sleepRequest s x1 v) := by
  unfold State.sleepRequest
  repeat' (first | with_reducible assumption | extract_lets | with_reducible apply kept_ite | with_reducible apply kept_next | (with_reducible apply kept_foldl; intro _ _ _) | with_reducible apply kept_reply | with_reducible apply kept_sleepEntry | (split) | (dsimp +zetaDelta only))

theorem kept_forceAll {s : State} (hk : Kept Q F s) : Kept Q F (State.forceAll s) := by
  unfold State.forceAll
  repeat' (first | with_reducible assumption | extract_lets | with_reducible apply kept_ite | with_reducible apply kept_next | (with_reducible apply kept_foldl; intro _ _ _) | with_reducible apply kept_staleWork | (split) | (dsimp +zetaDelta only))

theorem kept_passPoint {s : State} (x1) (ap) (hk : Kept Q F s) : Kept Q F (State.passPoint s x1 ap) := by
  unfold State.passPoint
  repeat' (first | with_reducible assumption | extract_lets | with_reducible apply kept_ite | with_reducible apply kept_next | (with_reducible apply kept_foldl; intro _ _ _) | with_reducible apply kept_abandonSleep | (split) | (dsimp +zetaDelta only))

theorem kept_execAbortPointAp2 {s : State} (hk : Kept Q F s) : KeptO Q F (execAbortPointAp2 s) := by
  unfold execAbortPointAp2
  repeat' (first | with_reducible assumption | extract_lets | with_reducible apply kept_ite | with_reducible apply kept_next | (with_reducible apply kept_foldl; intro _ _ _) | with_reducible apply kept_forceAll | with_reducible apply kept_passPoint | (split) | (dsimp +zetaDelta only))

theorem kept_execAbortPointAp3 {s : State} (hk : Kept Q F s) : KeptO Q F (execAbortPointAp3 s) := by
  unfold execAbortPointAp3
  repeat' (first | with_reducible assumption | extract_lets | with_reducible apply kept_ite | with_reducible apply kept_next | (with_reducible apply kept_foldl; intro _ _ _) | with_reducible apply kept_passPoint | (split) | (dsimp +zetaDelta only))

theorem kept_enterDoze {s : State} (hk : Kept Q F s) : Kept Q F (State.enterDoze s) := by
  unfold State.enterDoze
  repeat' (first | with_reducible assumption | extract_lets | with_reducible apply kept_ite | with_reducible apply kept_next | (with_reducible apply kept_foldl; intro _ _ _) | with_reducible apply kept_enter | with_reducible apply kept_syncBanks | with_reducible apply kept_syncRail | with_reducible apply kept_putVariant | with_reducible apply kept_withdrawUnserved | (split) | (dsimp +zetaDelta only))

theorem kept_enterHibernate {s : State} (hk : Kept Q F s) : Kept Q F (State.enterHibernate s) := by
  unfold State.enterHibernate
  repeat' (first | with_reducible assumption | extract_lets | with_reducible apply kept_ite | with_reducible apply kept_next | (with_reducible apply kept_foldl; intro _ _ _) | with_reducible apply kept_enter | with_reducible apply kept_syncBanks | with_reducible apply kept_dropHibernate | with_reducible apply kept_floatLdg | with_reducible apply kept_stopTest | (split) | (dsimp +zetaDelta only))

theorem kept_sleepBoundary {s : State} (hk : Kept Q F s) : Kept Q F (State.sleepBoundary s) := by
  unfold State.sleepBoundary
  repeat' (first | with_reducible assumption | extract_lets | with_reducible apply kept_ite | with_reducible apply kept_next | (with_reducible apply kept_foldl; intro _ _ _) | with_reducible apply kept_reply | with_reducible apply kept_abandonSleep | with_reducible apply kept_enterDoze | with_reducible apply kept_enterHibernate | (split) | (dsimp +zetaDelta only))

theorem kept_execMgmtWake {s : State} (hk : Kept Q F s) : KeptO Q F (execMgmtWake s) := by
  unfold execMgmtWake
  repeat' (first | with_reducible assumption | extract_lets | with_reducible apply kept_ite | with_reducible apply kept_next | (with_reducible apply kept_foldl; intro _ _ _) | with_reducible apply kept_i3cOk | with_reducible apply kept_i3cNack | with_reducible apply kept_wakeEvent | (split) | (dsimp +zetaDelta only))

theorem kept_execMctpPacketWrite {s : State} (addr) (bs) (hk : Kept Q F s) : KeptO Q F (execMctpPacketWrite addr bs s) := by
  unfold execMctpPacketWrite
  repeat' (first | with_reducible assumption | extract_lets | with_reducible apply kept_ite | with_reducible apply kept_next | (with_reducible apply kept_foldl; intro _ _ _) | with_reducible apply kept_i3cOk | with_reducible apply kept_earlyMatch | with_reducible apply kept_takePacket | with_reducible apply kept_wakeEvent | (split) | (dsimp +zetaDelta only))

theorem kept_execAlarmMatch {s : State} (hk : Kept Q F s) : KeptO Q F (execAlarmMatch s) := by
  unfold execAlarmMatch
  repeat' (first | with_reducible assumption | extract_lets | with_reducible apply kept_ite | with_reducible apply kept_next | (with_reducible apply kept_foldl; intro _ _ _) | with_reducible apply kept_wakeEvent | (split) | (dsimp +zetaDelta only))

theorem kept_rtcMinute {s : State} (hk : Kept Q F s) : Kept Q F (State.rtcMinute s) := by
  unfold State.rtcMinute
  repeat' (first | with_reducible assumption | extract_lets | with_reducible apply kept_ite | with_reducible apply kept_next | (with_reducible apply kept_foldl; intro _ _ _) | (split) | (dsimp +zetaDelta only))

theorem kept_wdogTick {s : State} (hk : Kept Q F s) : Kept Q F (State.wdogTick s) := by
  unfold State.wdogTick
  repeat' (first | with_reducible assumption | extract_lets | with_reducible apply kept_ite | with_reducible apply kept_next | (with_reducible apply kept_foldl; intro _ _ _) | with_reducible apply kept_setFld | (split) | (dsimp +zetaDelta only))

theorem kept_execRtcPeriod {s : State} (hk : Kept Q F s) : KeptO Q F (execRtcPeriod s) := by
  unfold execRtcPeriod
  repeat' (first | with_reducible assumption | extract_lets | with_reducible apply kept_ite | with_reducible apply kept_next | (with_reducible apply kept_foldl; intro _ _ _) | with_reducible apply kept_advanceRtc | with_reducible apply kept_recordWake | with_reducible apply kept_rtcMinute | with_reducible apply kept_wdogTick | (split) | (dsimp +zetaDelta only))

end Sys2Proof.Machine
end

