-- ==== Sys2Proof/Laws/KeptRows.lean ====
section
/-!
SUPPORT. The queue, the canonical maps and the fuses are kept by the functions of thermal limits, power and start-up, and the rows of the remaining units; one lemma for each function.
-/
set_option linter.all false
set_option Elab.async false

namespace Sys2Proof.Machine

variable {Q : List Instr} {F : Fuses}

theorem kept_syncThm {s : State} (hk : Kept Q F s) : Kept Q F (State.syncThm s) := by
  unfold State.syncThm
  repeat' (first | with_reducible assumption | extract_lets | with_reducible apply kept_ite | with_reducible apply kept_next | (with_reducible apply kept_foldl; intro _ _ _) | with_reducible apply kept_setReg | (split) | (dsimp +zetaDelta only))

theorem kept_throttleWins {s : State} (hk : Kept Q F s) : Kept Q F (State.throttleWins s) := by
  unfold State.throttleWins
  repeat' (first | with_reducible assumption | extract_lets | with_reducible apply kept_ite | with_reducible apply kept_next | (with_reducible apply kept_foldl; intro _ _ _) | with_reducible apply kept_kick | with_reducible apply kept_loseSleep | (split) | (dsimp +zetaDelta only))

theorem kept_throttleStep {s : State} (hk : Kept Q F s) : Kept Q F (State.throttleStep s) := by
  unfold State.throttleStep
  repeat' (first | with_reducible assumption | extract_lets | with_reducible apply kept_ite | with_reducible apply kept_next | (with_reducible apply kept_foldl; intro _ _ _) | with_reducible apply kept_raise | with_reducible apply kept_throttleTo | with_reducible apply kept_syncThm | with_reducible apply kept_throttleWins | (split) | (dsimp +zetaDelta only))

theorem kept_judgeThrottle {s : State} (reading) (riseStep) (hk : Kept Q F s) : Kept Q F (State.judgeThrottle s reading riseStep) := by
  unfold State.judgeThrottle
  repeat' (first | with_reducible assumption | extract_lets | with_reducible apply kept_ite | with_reducible apply kept_next | (with_reducible apply kept_foldl; intro _ _ _) | with_reducible apply kept_raise | with_reducible apply kept_throttleStep | (split) | (dsimp +zetaDelta only))

theorem kept_shutDown {s : State} (left) (hk : Kept Q F s) : Kept Q F (State.shutDown s left) := by
  unfold State.shutDown
  repeat' (first | with_reducible assumption | extract_lets | with_reducible apply kept_ite | with_reducible apply kept_next | (with_reducible apply kept_foldl; intro _ _ _) | with_reducible apply kept_raise | with_reducible apply kept_toOff | with_reducible apply kept_enterDrain | with_reducible apply kept_discardRequest | with_reducible apply kept_enterFlush | (split) | (dsimp +zetaDelta only))

theorem kept_judgeShutdown {s : State} (reading) (h) (hk : Kept Q F s) : Kept Q F (State.judgeShutdown s reading h) := by
  unfold State.judgeShutdown
  repeat' (first | with_reducible assumption | extract_lets | with_reducible apply kept_ite | with_reducible apply kept_next | (with_reducible apply kept_foldl; intro _ _ _) | with_reducible apply kept_raise | with_reducible apply kept_enterFlush | with_reducible apply kept_shutDown | (split) | (dsimp +zetaDelta only))

theorem kept_warnEvent {s : State} (hk : Kept Q F s) : Kept Q F (State.warnEvent s) := by
  unfold State.warnEvent
  repeat' (first | with_reducible assumption | extract_lets | with_reducible apply kept_ite | with_reducible apply kept_next | (with_reducible apply kept_foldl; intro _ _ _) | with_reducible apply kept_asyncEvent | (split) | (dsimp +zetaDelta only))

theorem kept_judgeWarn {s : State} (reading) (hk : Kept Q F s) : Kept Q F (State.judgeWarn s reading) := by
  unfold State.judgeWarn
  repeat' (first | with_reducible assumption | extract_lets | with_reducible apply kept_ite | with_reducible apply kept_next | (with_reducible apply kept_foldl; intro _ _ _) | with_reducible apply kept_setFld | with_reducible apply kept_raise | with_reducible apply kept_warnEvent | (split) | (dsimp +zetaDelta only))

theorem kept_execSensorSample {s : State} (n) (reading) (ok) (hk : Kept Q F s) : KeptO Q F (execSensorSample n reading ok s) := by
  unfold execSensorSample
  repeat' (first | with_reducible assumption | extract_lets | with_reducible apply kept_ite | with_reducible apply kept_next | (with_reducible apply kept_foldl; intro _ _ _) | with_reducible apply kept_setReg | with_reducible apply kept_setSensor | with_reducible apply kept_raise | with_reducible apply kept_syncThm | with_reducible apply kept_judgeThrottle | with_reducible apply kept_judgeShutdown | with_reducible apply kept_judgeWarn | (split) | (dsimp +zetaDelta only))

theorem kept_execThrottleRise {s : State} (hk : Kept Q F s) : KeptO Q F (execThrottleRise s) := by
  unfold execThrottleRise
  repeat' (first | with_reducible assumption | extract_lets | with_reducible apply kept_ite | with_reducible apply kept_next | (with_reducible apply kept_foldl; intro _ _ _) | with_reducible apply kept_throttleTo | with_reducible apply kept_syncThm | (split) | (dsimp +zetaDelta only))

theorem kept_countCool {s : State} (hk : Kept Q F s) : Kept Q F (State.countCool s) := by
  unfold State.countCool
  repeat' (first | with_reducible assumption | extract_lets | with_reducible apply kept_ite | with_reducible apply kept_next | (with_reducible apply kept_foldl; intro _ _ _) | (split) | (dsimp +zetaDelta only))

theorem kept_execWearEvaluation {s : State} (hk : Kept Q F s) : KeptO Q F (execWearEvaluation s) := by
  unfold execWearEvaluation
  repeat' (first | with_reducible assumption | extract_lets | with_reducible apply kept_ite | with_reducible apply kept_next | (with_reducible apply kept_foldl; intro _ _ _) | with_reducible apply kept_setReg | with_reducible apply kept_raise | with_reducible apply kept_raiseWith | (split) | (dsimp +zetaDelta only))

theorem kept_execPowerOnHour {s : State} (hk : Kept Q F s) : KeptO Q F (execPowerOnHour s) := by
  unfold execPowerOnHour
  repeat' (first | with_reducible assumption | extract_lets | with_reducible apply kept_ite | with_reducible apply kept_next | (with_reducible apply kept_foldl; intro _ _ _) | (split) | (dsimp +zetaDelta only))

theorem kept_drive {s : State} (n) (v) (hk : Kept Q F s) : Kept Q F (State.drive s n v) := by
  unfold State.drive
  repeat' (first | with_reducible assumption | extract_lets | with_reducible apply kept_ite | with_reducible apply kept_next | (with_reducible apply kept_foldl; intro _ _ _) | with_reducible apply kept_setFld | (split) | (dsimp +zetaDelta only))

theorem kept_driveHeld {s : State} (n) (hk : Kept Q F s) : Kept Q F (State.driveHeld s n) := by
  unfold State.driveHeld
  repeat' (first | with_reducible assumption | extract_lets | with_reducible apply kept_ite | with_reducible apply kept_next | (with_reducible apply kept_foldl; intro _ _ _) | with_reducible apply kept_drive | (split) | (dsimp +zetaDelta only))

theorem kept_closeLoop {s : State} (n) (hk : Kept Q F s) : Kept Q F (State.closeLoop s n) := by
  unfold State.closeLoop
  repeat' (first | with_reducible assumption | extract_lets | with_reducible apply kept_ite | with_reducible apply kept_next | (with_reducible apply kept_foldl; intro _ _ _) | with_reducible apply kept_setFld | with_reducible apply kept_setLoop | with_reducible apply kept_driveHeld | (split) | (dsimp +zetaDelta only))

theorem kept_openLoop {s : State} (n) (hk : Kept Q F s) : Kept Q F (State.openLoop s n) := by
  unfold State.openLoop
  repeat' (first | with_reducible assumption | extract_lets | with_reducible apply kept_ite | with_reducible apply kept_next | (with_reducible apply kept_foldl; intro _ _ _) | with_reducible apply kept_setFld | with_reducible apply kept_setLoop | (split) | (dsimp +zetaDelta only))

theorem kept_syncClose {s : State} (n) (hk : Kept Q F s) : Kept Q F (State.syncClose s n) := by
  unfold State.syncClose
  repeat' (first | with_reducible assumption | extract_lets | with_reducible apply kept_ite | with_reducible apply kept_next | (with_reducible apply kept_foldl; intro _ _ _) | with_reducible apply kept_setLoop | with_reducible apply kept_closeLoop | with_reducible apply kept_openLoop | (split) | (dsimp +zetaDelta only))

theorem kept_execLoopSample {s : State} (n) (mv) (hk : Kept Q F s) : KeptO Q F (execLoopSample n mv s) := by
  unfold execLoopSample
  repeat' (first | with_reducible assumption | extract_lets | with_reducible apply kept_ite | with_reducible apply kept_next | (with_reducible apply kept_foldl; intro _ _ _) | with_reducible apply kept_setFld | with_reducible apply kept_setLoop | with_reducible apply kept_raise | with_reducible apply kept_raiseEach | with_reducible apply kept_syncClose | (split) | (dsimp +zetaDelta only))

theorem kept_execLoopOutput {s : State} (n) (hk : Kept Q F s) : KeptO Q F (execLoopOutput n s) := by
  unfold execLoopOutput
  repeat' (first | with_reducible assumption | extract_lets | with_reducible apply kept_ite | with_reducible apply kept_next | (with_reducible apply kept_foldl; intro _ _ _) | with_reducible apply kept_setLoop | with_reducible apply kept_planLoop | with_reducible apply kept_drive | with_reducible apply kept_syncClose | (split) | (dsimp +zetaDelta only))

theorem kept_stepLoop {s : State} (n) (hk : Kept Q F s) : Kept Q F (State.stepLoop s n) := by
  unfold State.stepLoop
  repeat' (first | with_reducible assumption | extract_lets | with_reducible apply kept_ite | with_reducible apply kept_next | (with_reducible apply kept_foldl; intro _ _ _) | with_reducible apply kept_setFld | with_reducible apply kept_setLoop | with_reducible apply kept_syncClose | (split) | (dsimp +zetaDelta only))

theorem kept_execProfileStep {s : State} (hk : Kept Q F s) : KeptO Q F (execProfileStep s) := by
  unfold execProfileStep
  repeat' (first | with_reducible assumption | extract_lets | with_reducible apply kept_ite | with_reducible apply kept_next | (with_reducible apply kept_foldl; intro _ _ _) | with_reducible apply kept_stepLoop | (split) | (dsimp +zetaDelta only))

theorem kept_execSettleLate {s : State} (n) (hk : Kept Q F s) : KeptO Q F (execSettleLate n s) := by
  unfold execSettleLate
  repeat' (first | with_reducible assumption | extract_lets | with_reducible apply kept_ite | with_reducible apply kept_next | (with_reducible apply kept_foldl; intro _ _ _) | with_reducible apply kept_setLoop | with_reducible apply kept_raise | (split) | (dsimp +zetaDelta only))

theorem kept_execLoopCloseWrite {s : State} (who) (n) (close) (hk : Kept Q F s) : KeptO Q F (execLoopCloseWrite who n close s) := by
  unfold execLoopCloseWrite
  repeat' (first | with_reducible assumption | extract_lets | with_reducible apply kept_ite | with_reducible apply kept_next | (with_reducible apply kept_foldl; intro _ _ _) | with_reducible apply kept_setFld | with_reducible apply kept_setLoop | with_reducible apply kept_syncClose | (split) | (dsimp +zetaDelta only))

theorem kept_execCoefWrite {s : State} (who) (n) (second) (value) (hk : Kept Q F s) : KeptO Q F (execCoefWrite who n second value s) := by
  unfold execCoefWrite
  repeat' (first | with_reducible assumption | extract_lets | with_reducible apply kept_ite | with_reducible apply kept_next | (with_reducible apply kept_foldl; intro _ _ _) | with_reducible apply kept_setReg | with_reducible apply kept_raise | with_reducible apply kept_syncClose | (split) | (dsimp +zetaDelta only))

theorem kept_execSetpointWrite {s : State} (who) (n) (value) (hk : Kept Q F s) : KeptO Q F (execSetpointWrite who n value s) := by
  unfold execSetpointWrite
  repeat' (first | with_reducible assumption | extract_lets | with_reducible apply kept_ite | with_reducible apply kept_next | (with_reducible apply kept_foldl; intro _ _ _) | with_reducible apply kept_setTarget | with_reducible apply kept_syncClose | (split) | (dsimp +zetaDelta only))

theorem kept_execLoop1Reclose {s : State} (hk : Kept Q F s) : KeptO Q F (execLoop1Reclose s) := by
  unfold execLoop1Reclose
  repeat' (first | with_reducible assumption | extract_lets | with_reducible apply kept_ite | with_reducible apply kept_next | (with_reducible apply kept_foldl; intro _ _ _) | with_reducible apply kept_closeLoop | (split) | (dsimp +zetaDelta only))

theorem kept_tryStrap {s : State} (hk : Kept Q F s) : Kept Q F (State.tryStrap s) := by
  unfold State.tryStrap
  repeat' (first | with_reducible assumption | extract_lets | with_reducible apply kept_ite | with_reducible apply kept_next | (with_reducible apply kept_foldl; intro _ _ _) | with_reducible apply kept_toStrap | (split) | (dsimp +zetaDelta only))

theorem kept_execPorNAssert {s : State} (hk : Kept Q F s) : KeptO Q F (execPorNAssert s) := by
  unfold execPorNAssert
  apply kept_next
  extract_lets s0 p0 s1
  have h0 : Kept Q F s0 := kept_norAbandon hk
  have h1 : Kept Q F s1 := kept_toOff _ _ (show Kept Q F { s0 with pins := _ } from h0)
  exact kept_regs rfl (kept_xfr (memFilter_wf _ _ h1.xfr) h1)

theorem kept_execPorNRelease {s : State} (hk : Kept Q F s) : KeptO Q F (execPorNRelease s) := by
  unfold execPorNRelease
  repeat' (first | with_reducible assumption | extract_lets | with_reducible apply kept_ite | with_reducible apply kept_next | (with_reducible apply kept_foldl; intro _ _ _) | with_reducible apply kept_syncBanks | with_reducible apply kept_tryStrap | (split) | (dsimp +zetaDelta only))

theorem kept_execPlossNFall {s : State} (hk : Kept Q F s) : KeptO Q F (execPlossNFall s) := by
  unfold execPlossNFall
  repeat' (first | with_reducible assumption | extract_lets | with_reducible apply kept_ite | with_reducible apply kept_next | (with_reducible apply kept_foldl; intro _ _ _) | (split) | (dsimp +zetaDelta only))

theorem kept_chargerOff {s : State} (hk : Kept Q F s) : Kept Q F (State.chargerOff s) := by
  unfold State.chargerOff
  repeat' (first | with_reducible assumption | extract_lets | with_reducible apply kept_ite | with_reducible apply kept_next | (with_reducible apply kept_foldl; intro _ _ _) | with_reducible apply kept_setFld | with_reducible apply kept_setLoop | (split) | (dsimp +zetaDelta only))

theorem kept_powerLoss {s : State} (c) (hk : Kept Q F s) : Kept Q F (State.powerLoss s c) := by
  unfold State.powerLoss
  repeat' (first | with_reducible assumption | extract_lets | with_reducible apply kept_ite | with_reducible apply kept_next | (with_reducible apply kept_foldl; intro _ _ _) | with_reducible apply kept_raise | with_reducible apply kept_norAbandon | with_reducible apply kept_toOff | with_reducible apply kept_stopTest | with_reducible apply kept_enterFlush | with_reducible apply kept_chargerOff | (split) | (dsimp +zetaDelta only))

theorem kept_execPlossNAssert {s : State} (hk : Kept Q F s) : KeptO Q F (execPlossNAssert s) := by
  unfold execPlossNAssert
  repeat' (first | with_reducible assumption | extract_lets | with_reducible apply kept_ite | with_reducible apply kept_next | (with_reducible apply kept_foldl; intro _ _ _) | with_reducible apply kept_powerLoss | (split) | (dsimp +zetaDelta only))

theorem kept_inputsHigh {s : State} (hk : Kept Q F s) : Kept Q F (State.inputsHigh s) := by
  unfold State.inputsHigh
  repeat' (first | with_reducible assumption | extract_lets | with_reducible apply kept_ite | with_reducible apply kept_next | (with_reducible apply kept_foldl; intro _ _ _) | with_reducible apply kept_tryStrap | (split) | (dsimp +zetaDelta only))

theorem kept_execPlossNRise {s : State} (hk : Kept Q F s) : KeptO Q F (execPlossNRise s) := by
  unfold execPlossNRise
  repeat' (first | with_reducible assumption | extract_lets | with_reducible apply kept_ite | with_reducible apply kept_next | (with_reducible apply kept_foldl; intro _ _ _) | with_reducible apply kept_inputsHigh | (split) | (dsimp +zetaDelta only))

theorem kept_execOffExitCountExpiry {s : State} (hk : Kept Q F s) : KeptO Q F (execOffExitCountExpiry s) := by
  unfold execOffExitCountExpiry
  repeat' (first | with_reducible assumption | extract_lets | with_reducible apply kept_ite | with_reducible apply kept_next | (with_reducible apply kept_foldl; intro _ _ _) | with_reducible apply kept_tryStrap | (split) | (dsimp +zetaDelta only))

theorem kept_execPwrGoodDrop {s : State} (hk : Kept Q F s) : KeptO Q F (execPwrGoodDrop s) := by
  unfold execPwrGoodDrop
  repeat' (first | with_reducible assumption | extract_lets | with_reducible apply kept_ite | with_reducible apply kept_next | (with_reducible apply kept_foldl; intro _ _ _) | with_reducible apply kept_raise | with_reducible apply kept_powerLoss | (split) | (dsimp +zetaDelta only))

theorem kept_execPwrGoodRise {s : State} (hk : Kept Q F s) : KeptO Q F (execPwrGoodRise s) := by
  unfold execPwrGoodRise
  repeat' (first | with_reducible assumption | extract_lets | with_reducible apply kept_ite | with_reducible apply kept_next | (with_reducible apply kept_foldl; intro _ _ _) | with_reducible apply kept_inputsHigh | (split) | (dsimp +zetaDelta only))

theorem kept_execRailTimeout {s : State} (hk : Kept Q F s) : KeptO Q F (execRailTimeout s) := by
  unfold execRailTimeout
  repeat' (first | with_reducible assumption | extract_lets | with_reducible apply kept_ite | with_reducible apply kept_next | (with_reducible apply kept_foldl; intro _ _ _) | with_reducible apply kept_raise | (split) | (dsimp +zetaDelta only))

theorem kept_enterFill {s : State} (resume) (c) (hk : Kept Q F s) : Kept Q F (State.enterFill s resume c) := by
  unfold State.enterFill
  repeat' (first | with_reducible assumption | extract_lets | with_reducible apply kept_ite | with_reducible apply kept_next | (with_reducible apply kept_foldl; intro _ _ _) | with_reducible apply kept_setFld | with_reducible apply kept_enter | with_reducible apply kept_syncBanks | with_reducible apply kept_driveRefs | (split) | (dsimp +zetaDelta only))

theorem kept_strapEnds {s : State} (us) (hk : Kept Q F s) : Kept Q F (State.strapEnds s us) := by
  unfold State.strapEnds
  repeat' (first | with_reducible assumption | extract_lets | with_reducible apply kept_ite | with_reducible apply kept_next | (with_reducible apply kept_foldl; intro _ _ _) | with_reducible apply kept_phaseTime | with_reducible apply kept_enterFill | (split) | (dsimp +zetaDelta only))

theorem kept_strapCheck {s : State} (hk : Kept Q F s) : Kept Q F (State.strapCheck s) := by
  unfold State.strapCheck
  repeat' (first | with_reducible assumption | extract_lets | with_reducible apply kept_ite | with_reducible apply kept_next | (with_reducible apply kept_foldl; intro _ _ _) | with_reducible apply kept_toMaint | with_reducible apply kept_strapEnds | (split) | (dsimp +zetaDelta only))

theorem kept_setStrap {s : State} (v) (unstable) (hk : Kept Q F s) : Kept Q F (State.setStrap s v unstable) := by
  unfold State.setStrap
  repeat' (first | with_reducible assumption | extract_lets | with_reducible apply kept_ite | with_reducible apply kept_next | (with_reducible apply kept_foldl; intro _ _ _) | with_reducible apply kept_setReg | (split) | (dsimp +zetaDelta only))

theorem kept_execStrapSample {s : State} (v) (hk : Kept Q F s) : KeptO Q F (execStrapSample v s) := by
  unfold execStrapSample
  repeat' (first | with_reducible assumption | extract_lets | with_reducible apply kept_ite | with_reducible apply kept_next | (with_reducible apply kept_foldl; intro _ _ _) | with_reducible apply kept_strapCheck | with_reducible apply kept_setStrap | (split) | (dsimp +zetaDelta only))

theorem kept_execOscillatorQualified {s : State} (hk : Kept Q F s) : KeptO Q F (execOscillatorQualified s) := by
  unfold execOscillatorQualified
  repeat' (first | with_reducible assumption | extract_lets | with_reducible apply kept_ite | with_reducible apply kept_next | (with_reducible apply kept_foldl; intro _ _ _) | with_reducible apply kept_strapCheck | (split) | (dsimp +zetaDelta only))

theorem kept_execPllLock {s : State} (us) (hk : Kept Q F s) : KeptO Q F (execPllLock us s) := by
  unfold execPllLock
  repeat' (first | with_reducible assumption | extract_lets | with_reducible apply kept_ite | with_reducible apply kept_next | (with_reducible apply kept_foldl; intro _ _ _) | with_reducible apply kept_setReg | with_reducible apply kept_setFld | with_reducible apply kept_resetRegs | with_reducible apply kept_advanceRtc | with_reducible apply kept_enterFill | with_reducible apply kept_strapEnds | (split) | (dsimp +zetaDelta only))

theorem kept_execXtalFail {s : State} (hk : Kept Q F s) : KeptO Q F (execXtalFail s) := by
  unfold execXtalFail
  repeat' (first | with_reducible assumption | extract_lets | with_reducible apply kept_ite | with_reducible apply kept_next | (with_reducible apply kept_foldl; intro _ _ _) | with_reducible apply kept_raise | (split) | (dsimp +zetaDelta only))

theorem kept_fillCheck {s : State} (hk : Kept Q F s) : Kept Q F (State.fillCheck s) := by
  unfold State.fillCheck
  repeat' (first | with_reducible assumption | extract_lets | with_reducible apply kept_ite | with_reducible apply kept_next | (with_reducible apply kept_foldl; intro _ _ _) | with_reducible apply kept_enter | with_reducible apply kept_phaseEnd | (split) | (dsimp +zetaDelta only))

theorem kept_execCalRowReadDone {s : State} (hk : Kept Q F s) : KeptO Q F (execCalRowReadDone s) := by
  unfold execCalRowReadDone
  repeat' (first | with_reducible assumption | extract_lets | with_reducible apply kept_ite | with_reducible apply kept_next | (with_reducible apply kept_foldl; intro _ _ _) | with_reducible apply kept_raise | with_reducible apply kept_toMaint | with_reducible apply kept_fillCheck | (split) | (dsimp +zetaDelta only))

theorem kept_execBankFillDone {s : State} (b) (hk : Kept Q F s) : KeptO Q F (execBankFillDone b s) := by
  unfold execBankFillDone
  repeat' (first | with_reducible assumption | extract_lets | with_reducible apply kept_ite | with_reducible apply kept_next | (with_reducible apply kept_foldl; intro _ _ _) | with_reducible apply kept_fillCheck | (split) | (dsimp +zetaDelta only))

theorem kept_sweep {s : State} {eyes} {t : State} (e : State.sweep s eyes = some t) (hk : Kept Q F s) : Kept Q F t := by
  unfold State.sweep at e
  split at e
  · rw [← Option.some.inj e]
    exact kept_ite (kept_raise _ _ (show Kept Q F { s with boot := _ } from hk)) (show Kept Q F { s with boot := _ } from hk)
  · contradiction

theorem kept_execDdr5BootSweepDone {s : State} (eyes) (hk : Kept Q F s) : KeptO Q F (execDdr5BootSweepDone eyes s) := by
  unfold execDdr5BootSweepDone
  refine kept_next (kept_ite hk ?_)
  split
  · rename_i s1 e
    have h1 : Kept Q F s1 := kept_sweep e hk
    exact h1
  · exact kept_toMaint _ _ (kept_raise _ _ hk)

theorem kept_execDramFillDone {s : State} (hk : Kept Q F s) : KeptO Q F (execDramFillDone s) := by
  unfold execDramFillDone
  repeat' (first | with_reducible assumption | extract_lets | with_reducible apply kept_ite | with_reducible apply kept_next | (with_reducible apply kept_foldl; intro _ _ _) | with_reducible apply kept_fillCheck | (split) | (dsimp +zetaDelta only))

theorem kept_pcieReset {s : State} (hk : Kept Q F s) : Kept Q F (State.pcieReset s) := by
  unfold State.pcieReset
  repeat' (first | with_reducible assumption | extract_lets | with_reducible apply kept_ite | with_reducible apply kept_next | (with_reducible apply kept_foldl; intro _ _ _) | with_reducible apply kept_kick | with_reducible apply kept_resetOne | (split) | (dsimp +zetaDelta only))

theorem kept_execPerstNAssert {s : State} (hk : Kept Q F s) : KeptO Q F (execPerstNAssert s) := by
  unfold execPerstNAssert
  repeat' (first | with_reducible assumption | extract_lets | with_reducible apply kept_ite | with_reducible apply kept_next | (with_reducible apply kept_foldl; intro _ _ _) | with_reducible apply kept_pcieReset | (split) | (dsimp +zetaDelta only))

theorem kept_execPerstNRelease {s : State} (hk : Kept Q F s) : KeptO Q F (execPerstNRelease s) := by
  unfold execPerstNRelease
  repeat' (first | with_reducible assumption | extract_lets | with_reducible apply kept_ite | with_reducible apply kept_next | (with_reducible apply kept_foldl; intro _ _ _) | with_reducible apply kept_wakeEvent | (split) | (dsimp +zetaDelta only))

theorem kept_execPcieLinkUp {s : State} (link) (hk : Kept Q F s) : KeptO Q F (execPcieLinkUp link s) := by
  unfold execPcieLinkUp
  repeat' (first | with_reducible assumption | extract_lets | with_reducible apply kept_ite | with_reducible apply kept_next | (with_reducible apply kept_foldl; intro _ _ _) | (split) | (dsimp +zetaDelta only))

theorem kept_execClkreqNAssert {s : State} (hk : Kept Q F s) : KeptO Q F (execClkreqNAssert s) := by
  unfold execClkreqNAssert
  repeat' (first | with_reducible assumption | extract_lets | with_reducible apply kept_ite | with_reducible apply kept_next | (with_reducible apply kept_foldl; intro _ _ _) | with_reducible apply kept_wakeEvent | (split) | (dsimp +zetaDelta only))

theorem kept_readMarkers {s : State} (hk : Kept Q F s) : Kept Q F (State.readMarkers s) := by
  unfold State.readMarkers
  repeat' (first | with_reducible assumption | extract_lets | with_reducible apply kept_ite | with_reducible apply kept_next | (with_reducible apply kept_foldl; intro _ _ _) | with_reducible apply kept_setReg | (split) | (dsimp +zetaDelta only))

theorem kept_loadGo {s : State} (n) (hk : Kept Q F s) : Kept Q F (State.loadGo s n) := by
  unfold State.loadGo
  repeat' (first | with_reducible assumption | extract_lets | with_reducible apply kept_ite | with_reducible apply kept_next | (with_reducible apply kept_foldl; intro _ _ _) | (split) | (dsimp +zetaDelta only))

theorem kept_loadStep1 {s : State} (hk : Kept Q F s) : Kept Q F (State.loadStep1 s) := by
  unfold State.loadStep1
  repeat' (first | with_reducible assumption | extract_lets | with_reducible apply kept_ite | with_reducible apply kept_next | (with_reducible apply kept_foldl; intro _ _ _) | with_reducible apply kept_toMaint | with_reducible apply kept_markNoCand | with_reducible apply kept_readMarkers | with_reducible apply kept_loadGo | (split) | (dsimp +zetaDelta only))

theorem kept_loadStep3 {s : State} (hk : Kept Q F s) : Kept Q F (State.loadStep3 s) := by
  unfold State.loadStep3
  repeat' (first | with_reducible assumption | extract_lets | with_reducible apply kept_ite | with_reducible apply kept_next | (with_reducible apply kept_foldl; intro _ _ _) | with_reducible apply kept_setSlotReason | with_reducible apply kept_slotFail | with_reducible apply kept_loadGo | (split) | (dsimp +zetaDelta only))

theorem kept_placeLoops {s : State} (hk : Kept Q F s) : Kept Q F (State.placeLoops s) := by
  unfold State.placeLoops
  repeat' (first | with_reducible assumption | extract_lets | with_reducible apply kept_ite | with_reducible apply kept_next | (with_reducible apply kept_foldl; intro _ _ _) | with_reducible apply kept_setReg | with_reducible apply kept_setLoop | (split) | (dsimp +zetaDelta only))

theorem kept_placeGeometry {s : State} (g) (hk : Kept Q F s) : Kept Q F (State.placeGeometry s g) := by
  unfold State.placeGeometry
  repeat' (first | with_reducible assumption | extract_lets | with_reducible apply kept_ite | with_reducible apply kept_next | (with_reducible apply kept_foldl; intro _ _ _) | with_reducible apply kept_setFld | (split) | (dsimp +zetaDelta only))

theorem kept_placeCommon {s : State} (im) (hk : Kept Q F s) : Kept Q F (State.placeCommon s im) := by
  unfold State.placeCommon
  repeat' (first | with_reducible assumption | extract_lets | with_reducible apply kept_ite | with_reducible apply kept_next | (with_reducible apply kept_foldl; intro _ _ _) | with_reducible apply kept_raise | with_reducible apply kept_loadRecipes | with_reducible apply kept_placeLoops | with_reducible apply kept_placeGeometry | (split) | (dsimp +zetaDelta only))

theorem kept_loadStep4 {s : State} (x1) (im) (hk : Kept Q F s) : Kept Q F (State.loadStep4 s x1 im) := by
  unfold State.loadStep4
  repeat' (first | with_reducible assumption | extract_lets | with_reducible apply kept_ite | with_reducible apply kept_next | (with_reducible apply kept_foldl; intro _ _ _) | with_reducible apply kept_setReg | with_reducible apply kept_setFld | with_reducible apply kept_raise | with_reducible apply kept_logSearch | with_reducible apply kept_loadAccounts | with_reducible apply kept_loadGo | with_reducible apply kept_placeCommon | (split) | (dsimp +zetaDelta only))

theorem kept_resumeStep4 {s : State} (hk : Kept Q F s) : Kept Q F (State.resumeStep4 s) := by
  unfold State.resumeStep4
  repeat' (first | with_reducible assumption | extract_lets | with_reducible apply kept_ite | with_reducible apply kept_next | (with_reducible apply kept_foldl; intro _ _ _) | with_reducible apply kept_loadFault | with_reducible apply kept_restorePlan | with_reducible apply kept_placeCommon | (split) | (dsimp +zetaDelta only))

theorem kept_loadStep5 {s : State} (hk : Kept Q F s) : Kept Q F (State.loadStep5 s) := by
  unfold State.loadStep5
  repeat' (first | with_reducible assumption | extract_lets | with_reducible apply kept_ite | with_reducible apply kept_next | (with_reducible apply kept_foldl; intro _ _ _) | with_reducible apply kept_setFld | with_reducible apply kept_setTarget | with_reducible apply kept_closeLoop | (split) | (dsimp +zetaDelta only))

theorem kept_loadStep6 {s : State} (im) (hk : Kept Q F s) : Kept Q F (State.loadStep6 s im) := by
  unfold State.loadStep6
  repeat' (first | with_reducible assumption | extract_lets | with_reducible apply kept_ite | with_reducible apply kept_next | (with_reducible apply kept_foldl; intro _ _ _) | with_reducible apply kept_loadPlans | with_reducible apply kept_wholeCredit | with_reducible apply kept_layAll | with_reducible apply kept_keepPlan | with_reducible apply kept_loadGo | (split) | (dsimp +zetaDelta only))

theorem kept_loadStep7 {s : State} (ids) (misfit) (hk : Kept Q F s) : Kept Q F (State.loadStep7 s ids misfit) := by
  unfold State.loadStep7
  repeat' (first | with_reducible assumption | extract_lets | with_reducible apply kept_ite | with_reducible apply kept_next | (with_reducible apply kept_foldl; intro _ _ _) | with_reducible apply kept_raise | with_reducible apply kept_failDie | (split) | (dsimp +zetaDelta only))

theorem kept_loadStep8 {s : State} (hk : Kept Q F s) : Kept Q F (State.loadStep8 s) := by
  unfold State.loadStep8
  repeat' (first | with_reducible assumption | extract_lets | with_reducible apply kept_ite | with_reducible apply kept_next | (with_reducible apply kept_foldl; intro _ _ _) | with_reducible apply kept_levelBit | with_reducible apply kept_syncExport | (split) | (dsimp +zetaDelta only))

theorem kept_applyEyes {s : State} (hk : Kept Q F s) : Kept Q F (State.applyEyes s) := by
  unfold State.applyEyes
  repeat' (first | with_reducible assumption | extract_lets | with_reducible apply kept_ite | with_reducible apply kept_next | (with_reducible apply kept_foldl; intro _ _ _) | with_reducible apply kept_setReg | (split) | (dsimp +zetaDelta only))

theorem kept_enterTrain {s : State} (hk : Kept Q F s) : Kept Q F (State.enterTrain s) := by
  unfold State.enterTrain
  repeat' (first | with_reducible assumption | extract_lets | with_reducible apply kept_ite | with_reducible apply kept_next | (with_reducible apply kept_foldl; intro _ _ _) | with_reducible apply kept_setFld | with_reducible apply kept_enter | with_reducible apply kept_phaseEnd | with_reducible apply kept_applyEyes | (split) | (dsimp +zetaDelta only))

theorem kept_execLoadStepComplete {s : State} (ids) (misfit) (hk : Kept Q F s) : KeptO Q F (execLoadStepComplete ids misfit s) := by
  unfold execLoadStepComplete
  repeat' (first | with_reducible assumption | extract_lets | with_reducible apply kept_ite | with_reducible apply kept_next | (with_reducible apply kept_foldl; intro _ _ _) | with_reducible apply kept_loadFault | with_reducible apply kept_syncExport | with_reducible apply kept_replay | with_reducible apply kept_loadGo | with_reducible apply kept_loadStep1 | with_reducible apply kept_loadStep3 | with_reducible apply kept_loadStep4 | with_reducible apply kept_resumeStep4 | with_reducible apply kept_loadStep5 | with_reducible apply kept_loadStep6 | with_reducible apply kept_loadStep7 | with_reducible apply kept_loadStep8 | with_reducible apply kept_enterTrain | (split) | (dsimp +zetaDelta only))

theorem kept_storeEye {s : State} (o) (w) (hk : Kept Q F s) : Kept Q F (State.storeEye s o w) := by
  unfold State.storeEye
  repeat' (first | with_reducible assumption | extract_lets | with_reducible apply kept_ite | with_reducible apply kept_next | (with_reducible apply kept_foldl; intro _ _ _) | with_reducible apply kept_setReg | (split) | (dsimp +zetaDelta only))

theorem kept_storeEyes {s : State} (level) (eyes) (hk : Kept Q F s) : Kept Q F (State.storeEyes s level eyes) := by
  unfold State.storeEyes
  repeat' (first | with_reducible assumption | extract_lets | with_reducible apply kept_ite | with_reducible apply kept_next | (with_reducible apply kept_foldl; intro _ _ _) | with_reducible apply kept_storeEye | (split) | (dsimp +zetaDelta only))

theorem kept_levelDone {s : State} (hk : Kept Q F s) : Kept Q F (State.levelDone s) := by
  unfold State.levelDone
  repeat' (first | with_reducible assumption | extract_lets | with_reducible apply kept_ite | with_reducible apply kept_next | (with_reducible apply kept_foldl; intro _ _ _) | with_reducible apply kept_setTarget | (split) | (dsimp +zetaDelta only))

theorem kept_execDdr5LevelSweepDone {s : State} (eyes) (hk : Kept Q F s) : KeptO Q F (execDdr5LevelSweepDone eyes s) := by
  unfold execDdr5LevelSweepDone
  repeat' (first | with_reducible assumption | extract_lets | with_reducible apply kept_ite | with_reducible apply kept_next | (with_reducible apply kept_foldl; intro _ _ _) | with_reducible apply kept_raise | with_reducible apply kept_toMaint | (with_reducible refine kept_sweep (by assumption) ?_) | with_reducible apply kept_storeEyes | with_reducible apply kept_levelDone | (split) | (dsimp +zetaDelta only))

theorem kept_chDone {s : State} (c) (hk : Kept Q F s) : Kept Q F (State.chDone s c) := by
  unfold State.chDone
  repeat' (first | with_reducible assumption | extract_lets | with_reducible apply kept_ite | with_reducible apply kept_next | (with_reducible apply kept_foldl; intro _ _ _) | (split) | (dsimp +zetaDelta only))

theorem kept_execChannelSweepDone {s : State} (c) (rd) (wr) (hk : Kept Q F s) : KeptO Q F (execChannelSweepDone c rd wr s) := by
  unfold execChannelSweepDone
  repeat' (first | with_reducible assumption | extract_lets | with_reducible apply kept_ite | with_reducible apply kept_next | (with_reducible apply kept_foldl; intro _ _ _) | with_reducible apply kept_raise | with_reducible apply kept_failDie | with_reducible apply kept_storeEye | with_reducible apply kept_chDone | (split) | (dsimp +zetaDelta only))

theorem kept_creditWait {s : State} (m) (c) (hk : Kept Q F s) : Kept Q F (State.creditWait s m c) := by
  unfold State.creditWait
  repeat' (first | with_reducible assumption | extract_lets | with_reducible apply kept_ite | with_reducible apply kept_next | (with_reducible apply kept_foldl; intro _ _ _) | (split) | (dsimp +zetaDelta only))

theorem kept_refillOne {s : State} (m) (hk : Kept Q F s) : Kept Q F (State.refillOne s m) := by
  unfold State.refillOne
  repeat' (first | with_reducible assumption | extract_lets | with_reducible apply kept_ite | with_reducible apply kept_next | (with_reducible apply kept_foldl; intro _ _ _) | with_reducible apply kept_setAcct | with_reducible apply kept_setCredit | with_reducible apply kept_creditWait | (split) | (dsimp +zetaDelta only))

theorem kept_refill {s : State} (hk : Kept Q F s) : Kept Q F (State.refill s) := by
  unfold State.refill
  repeat' (first | with_reducible assumption | extract_lets | with_reducible apply kept_ite | with_reducible apply kept_next | (with_reducible apply kept_foldl; intro _ _ _) | with_reducible apply kept_setShares | with_reducible apply kept_admitWrite | with_reducible apply kept_refillOne | (split) | (dsimp +zetaDelta only))

theorem kept_folioViews {s : State} (hk : Kept Q F s) : Kept Q F (State.folioViews s) := by
  unfold State.folioViews
  repeat' (first | with_reducible assumption | extract_lets | with_reducible apply kept_ite | with_reducible apply kept_next | (with_reducible apply kept_foldl; intro _ _ _) | with_reducible apply kept_setReg | (split) | (dsimp +zetaDelta only))

theorem kept_beginService {s : State} (hk : Kept Q F s) : Kept Q F (State.beginService s) := by
  unfold State.beginService
  repeat' (first | with_reducible assumption | extract_lets | with_reducible apply kept_ite | with_reducible apply kept_next | (with_reducible apply kept_foldl; intro _ _ _) | with_reducible apply kept_setReg | with_reducible apply kept_enter | with_reducible apply kept_updRestart | with_reducible apply kept_startEvent | with_reducible apply kept_phaseEnd | with_reducible apply kept_readyNow | with_reducible apply kept_kick | with_reducible apply kept_syncRail | with_reducible apply kept_syncPending | with_reducible apply kept_putVariant | with_reducible apply kept_computeCover | with_reducible apply kept_scheduleTests | with_reducible apply kept_throttleStep | with_reducible apply kept_refill | with_reducible apply kept_folioViews | (split) | (dsimp +zetaDelta only))

theorem kept_execSensorSelfCheckDone {s : State} (hk : Kept Q F s) : KeptO Q F (execSensorSelfCheckDone s) := by
  unfold execSensorSelfCheckDone
  repeat' (first | with_reducible assumption | extract_lets | with_reducible apply kept_ite | with_reducible apply kept_next | (with_reducible apply kept_foldl; intro _ _ _) | with_reducible apply kept_beginService | (split) | (dsimp +zetaDelta only))

theorem kept_setAuth {s : State} (p) (a) (hk : Kept Q F s) : Kept Q F (State.setAuth s p a) := by
  unfold State.setAuth
  repeat' (first | with_reducible assumption | extract_lets | with_reducible apply kept_ite | with_reducible apply kept_next | (with_reducible apply kept_foldl; intro _ _ _) | (split) | (dsimp +zetaDelta only))

theorem kept_issueNonce {s : State} (p) (hk : Kept Q F s) : Kept Q F (State.issueNonce s p).2 := by
  unfold State.issueNonce
  repeat' (first | with_reducible assumption | extract_lets | with_reducible apply kept_ite | with_reducible apply kept_next | (with_reducible apply kept_foldl; intro _ _ _) | with_reducible apply kept_setAuth | (split) | (dsimp +zetaDelta only))

theorem kept_issueNonce_eq {s : State} {p} {x} {t : State} (e : State.issueNonce s p = (x, t)) (hk : Kept Q F s) : Kept Q F t := by
  have := kept_issueNonce p hk
  rw [e] at this
  exact this

theorem kept_authFailure {s : State} (p) (hk : Kept Q F s) : Kept Q F (State.authFailure s p) := by
  unfold State.authFailure
  repeat' (first | with_reducible assumption | extract_lets | with_reducible apply kept_ite | with_reducible apply kept_next | (with_reducible apply kept_foldl; intro _ _ _) | with_reducible apply kept_setAuth | (split) | (dsimp +zetaDelta only))

theorem kept_authorise {s : State} (p) (want) (a) (hk : Kept Q F s) : Kept Q F (State.authorise s p want a).2 := by
  unfold State.authorise
  repeat' (first | with_reducible assumption | extract_lets | with_reducible apply kept_ite | with_reducible apply kept_next | (with_reducible apply kept_foldl; intro _ _ _) | with_reducible apply kept_event | with_reducible apply kept_raise | with_reducible apply kept_setAuth | with_reducible apply kept_authFailure | (split) | (dsimp +zetaDelta only))

theorem kept_authorise_eq {s : State} {p} {want} {a} {x} {t : State} (e : State.authorise s p want a = (x, t)) (hk : Kept Q F s) : Kept Q F t := by
  have := kept_authorise p want a hk
  rw [e] at this
  exact this

theorem kept_authReply {s : State} (v) (c) (hk : Kept Q F s) : Kept Q F (State.authReply s v c) := by
  unfold State.authReply
  repeat' (first | with_reducible assumption | extract_lets | with_reducible apply kept_ite | with_reducible apply kept_next | (with_reducible apply kept_foldl; intro _ _ _) | with_reducible apply kept_adminDone | with_reducible apply kept_miReply | (split) | (dsimp +zetaDelta only))

theorem kept_wakeBoundary {s : State} (hk : Kept Q F s) : Kept Q F (State.wakeBoundary s) := by
  unfold State.wakeBoundary
  repeat' (first | with_reducible assumption | extract_lets | with_reducible apply kept_ite | with_reducible apply kept_next | (with_reducible apply kept_foldl; intro _ _ _) | with_reducible apply kept_enter | with_reducible apply kept_syncBanks | with_reducible apply kept_switchPlan | (split) | (dsimp +zetaDelta only))

theorem kept_serviceAgain {s : State} (hk : Kept Q F s) : Kept Q F (State.serviceAgain s) := by
  unfold State.serviceAgain
  repeat' (first | with_reducible assumption | extract_lets | with_reducible apply kept_ite | with_reducible apply kept_next | (with_reducible apply kept_foldl; intro _ _ _) | with_reducible apply kept_setCtrl | with_reducible apply kept_enter | with_reducible apply kept_readyNow | (split) | (dsimp +zetaDelta only))

theorem kept_followThrottle {s : State} (hk : Kept Q F s) : Kept Q F (State.followThrottle s) := by
  unfold State.followThrottle
  repeat' (first | with_reducible assumption | extract_lets | with_reducible apply kept_ite | with_reducible apply kept_next | (with_reducible apply kept_foldl; intro _ _ _) | with_reducible apply kept_enter | (split) | (dsimp +zetaDelta only))

theorem kept_resumeWork {s : State} (hk : Kept Q F s) : Kept Q F (State.resumeWork s) := by
  unfold State.resumeWork
  repeat' (first | with_reducible assumption | extract_lets | with_reducible apply kept_ite | with_reducible apply kept_next | (with_reducible apply kept_foldl; intro _ _ _) | with_reducible apply kept_registerKick | with_reducible apply kept_kick | with_reducible apply kept_refill | with_reducible apply kept_folioViews | (split) | (dsimp +zetaDelta only))

theorem kept_execFolioBoundary {s : State} (hk : Kept Q F s) : KeptO Q F (execFolioBoundary s) := by
  unfold execFolioBoundary
  repeat' (first | with_reducible assumption | extract_lets | with_reducible apply kept_ite | with_reducible apply kept_next | (with_reducible apply kept_foldl; intro _ _ _) | with_reducible apply kept_switchPlan | with_reducible apply kept_sleepBoundary | with_reducible apply kept_countCool | with_reducible apply kept_wakeBoundary | with_reducible apply kept_serviceAgain | with_reducible apply kept_followThrottle | with_reducible apply kept_resumeWork | (split) | (dsimp +zetaDelta only))

theorem kept_shutdownPf {s : State} (shn) (hk : Kept Q F s) : Kept Q F (State.shutdownPf s shn) := by
  unfold State.shutdownPf
  repeat' (first | with_reducible assumption | extract_lets | with_reducible apply kept_ite | with_reducible apply kept_next | (with_reducible apply kept_foldl; intro _ _ _) | with_reducible apply kept_setCtrl | with_reducible apply kept_enterDrain | (split) | (dsimp +zetaDelta only))

theorem kept_execShutdownNotification {s : State} (shn) (hk : Kept Q F s) : KeptO Q F (execShutdownNotification shn s) := by
  unfold execShutdownNotification
  repeat' (first | with_reducible assumption | extract_lets | with_reducible apply kept_ite | with_reducible apply kept_next | (with_reducible apply kept_foldl; intro _ _ _) | with_reducible apply kept_shutdownPf | (split) | (dsimp +zetaDelta only))

theorem kept_recordLost {s : State} (from_) (hk : Kept Q F s) : Kept Q F (State.recordLost s from_) := by
  unfold State.recordLost
  repeat' (first | with_reducible assumption | extract_lets | with_reducible apply kept_ite | with_reducible apply kept_next | (with_reducible apply kept_foldl; intro _ _ _) | with_reducible apply kept_event | (split) | (dsimp +zetaDelta only))

theorem kept_takeRestart {s : State} (why) (from_) (hk : Kept Q F s) : Kept Q F (State.takeRestart s why from_) := by
  unfold State.takeRestart
  repeat' (first | with_reducible assumption | extract_lets | with_reducible apply kept_ite | with_reducible apply kept_next | (with_reducible apply kept_foldl; intro _ _ _) | (split) | (dsimp +zetaDelta only))

theorem kept_restartRequest {s : State} (why) (c) (from_) (hk : Kept Q F s) : Kept Q F (State.restartRequest s why c from_) := by
  unfold State.restartRequest
  repeat' (first | with_reducible assumption | extract_lets | with_reducible apply kept_ite | with_reducible apply kept_next | (with_reducible apply kept_foldl; intro _ _ _) | with_reducible apply kept_enterDrain | with_reducible apply kept_recordLost | with_reducible apply kept_takeRestart | (split) | (dsimp +zetaDelta only))

theorem kept_execNssrWrite {s : State} (value) (hk : Kept Q F s) : KeptO Q F (execNssrWrite value s) := by
  unfold execNssrWrite
  repeat' (first | with_reducible assumption | extract_lets | with_reducible apply kept_ite | with_reducible apply kept_next | (with_reducible apply kept_foldl; intro _ _ _) | with_reducible apply kept_restartRequest | (split) | (dsimp +zetaDelta only))

theorem kept_drainDone {s : State} (hk : Kept Q F s) : Kept Q F (State.drainDone s) := by
  unfold State.drainDone
  repeat' (first | with_reducible assumption | extract_lets | with_reducible apply kept_ite | with_reducible apply kept_next | (with_reducible apply kept_foldl; intro _ _ _) | with_reducible apply kept_setCtrl | with_reducible apply kept_showShst | with_reducible apply kept_writeArea | (split) | (dsimp +zetaDelta only))

theorem kept_execDrainComplete {s : State} (hk : Kept Q F s) : KeptO Q F (execDrainComplete s) := by
  unfold execDrainComplete
  repeat' (first | with_reducible assumption | extract_lets | with_reducible apply kept_ite | with_reducible apply kept_next | (with_reducible apply kept_foldl; intro _ _ _) | with_reducible apply kept_toStrap | with_reducible apply kept_toMaint | with_reducible apply kept_enterFlush | with_reducible apply kept_forceAll | with_reducible apply kept_drainDone | (split) | (dsimp +zetaDelta only))

theorem kept_execFlushComplete {s : State} (hk : Kept Q F s) : KeptO Q F (execFlushComplete s) := by
  unfold execFlushComplete
  repeat' (first | with_reducible assumption | extract_lets | with_reducible apply kept_ite | with_reducible apply kept_next | (with_reducible apply kept_foldl; intro _ _ _) | with_reducible apply kept_toOff | with_reducible apply kept_writeArea | (split) | (dsimp +zetaDelta only))

theorem kept_execMintedRead {s : State} (h) (hk : Kept Q F s) : KeptO Q F (execMintedRead h s) := by
  unfold execMintedRead
  repeat' (first | with_reducible assumption | extract_lets | with_reducible apply kept_ite | with_reducible apply kept_next | (with_reducible apply kept_foldl; intro _ _ _) | with_reducible apply kept_setCmd | with_reducible apply kept_traceStart | with_reducible apply kept_toPost | with_reducible apply kept_denyKey | (split) | (dsimp +zetaDelta only))

theorem kept_execMintLaneGrant {s : State} (l) (hk : Kept Q F s) : KeptO Q F (execMintLaneGrant l s) := by
  unfold execMintLaneGrant
  repeat' (first | with_reducible assumption | extract_lets | with_reducible apply kept_ite | with_reducible apply kept_next | (with_reducible apply kept_foldl; intro _ _ _) | with_reducible apply kept_setCmd | with_reducible apply kept_setLane | with_reducible apply kept_registerKick | with_reducible apply kept_kick | (split) | (dsimp +zetaDelta only))

theorem kept_mintEnd {s : State} (l) (x2) (hk : Kept Q F s) : Kept Q F (State.mintEnd s l x2) := by
  unfold State.mintEnd
  repeat' (first | with_reducible assumption | extract_lets | with_reducible apply kept_ite | with_reducible apply kept_next | (with_reducible apply kept_foldl; intro _ _ _) | with_reducible apply kept_toPost | with_reducible apply kept_kick | with_reducible apply kept_freeLane | (split) | (dsimp +zetaDelta only))

theorem kept_execMintSetupEnd {s : State} (l) (hk : Kept Q F s) : KeptO Q F (execMintSetupEnd l s) := by
  unfold execMintSetupEnd
  repeat' (first | with_reducible assumption | extract_lets | with_reducible apply kept_ite | with_reducible apply kept_next | (with_reducible apply kept_foldl; intro _ _ _) | with_reducible apply kept_setLane | with_reducible apply kept_raise | with_reducible apply kept_mintEnd | (split) | (dsimp +zetaDelta only))

theorem kept_execSectorConsume {s : State} (l) (sealOk) (conforms) (seg) (out) (hk : Kept Q F s) : KeptO Q F (execSectorConsume l sealOk conforms seg out s) := by
  unfold execSectorConsume
  repeat' (first | with_reducible assumption | extract_lets | with_reducible apply kept_ite | with_reducible apply kept_next | (with_reducible apply kept_foldl; intro _ _ _) | with_reducible apply kept_setLane | with_reducible apply kept_raise | with_reducible apply kept_addBlocks | with_reducible apply kept_stamp | with_reducible apply kept_setSec | with_reducible apply kept_registerKick | with_reducible apply kept_failDecode | with_reducible apply kept_mintEnd | (split) | (dsimp +zetaDelta only))

theorem kept_mintDone {s : State} (l) (hk : Kept Q F s) : Kept Q F (State.mintDone s l) := by
  unfold State.mintDone
  repeat' (first | with_reducible assumption | extract_lets | with_reducible apply kept_ite | with_reducible apply kept_next | (with_reducible apply kept_foldl; intro _ _ _) | with_reducible apply kept_mintEnd | (split) | (dsimp +zetaDelta only))

theorem kept_execMintChunkTurn {s : State} (l) (room) (pages) (hk : Kept Q F s) : KeptO Q F (execMintChunkTurn l room pages s) := by
  unfold execMintChunkTurn
  repeat' (first | with_reducible assumption | extract_lets | with_reducible apply kept_ite | with_reducible apply kept_next | (with_reducible apply kept_foldl; intro _ _ _) | (with_reducible refine kept_freeBytes_eq (by assumption) ?_) | with_reducible apply kept_freeBytes | with_reducible apply kept_dataToHost | with_reducible apply kept_setCmd | with_reducible apply kept_setLane | with_reducible apply kept_raise | with_reducible apply kept_stampAt | with_reducible apply kept_dlogWrite | with_reducible apply kept_mintEnd | with_reducible apply kept_mintDone | (split) | (dsimp +zetaDelta only))

theorem kept_execMintLaneEnd {s : State} (l) (hk : Kept Q F s) : KeptO Q F (execMintLaneEnd l s) := by
  unfold execMintLaneEnd
  repeat' (first | with_reducible assumption | extract_lets | with_reducible apply kept_ite | with_reducible apply kept_next | (with_reducible apply kept_foldl; intro _ _ _) | with_reducible apply kept_setLane | with_reducible apply kept_stamp | with_reducible apply kept_mintDone | (split) | (dsimp +zetaDelta only))

theorem kept_stageFails {s : State} (h) (i) (c) (x4) (hk : Kept Q F s) : Kept Q F (State.stageFails s h i c x4) := by
  unfold State.stageFails
  repeat' (first | with_reducible assumption | extract_lets | with_reducible apply kept_ite | with_reducible apply kept_next | (with_reducible apply kept_foldl; intro _ _ _) | with_reducible apply kept_setCmd | with_reducible apply kept_setSec | with_reducible apply kept_endWrite | with_reducible apply kept_readKick | (split) | (dsimp +zetaDelta only))

theorem kept_execCrossingFault {s : State} (h) (i) (hk : Kept Q F s) : KeptO Q F (execCrossingFault h i s) := by
  unfold execCrossingFault
  repeat' (first | with_reducible assumption | extract_lets | with_reducible apply kept_ite | with_reducible apply kept_next | (with_reducible apply kept_foldl; intro _ _ _) | with_reducible apply kept_endWrite | with_reducible apply kept_kick | with_reducible apply kept_failDecode | with_reducible apply kept_mintEnd | with_reducible apply kept_stageFails | (split) | (dsimp +zetaDelta only))

theorem kept_lostCycle {s : State} (x1) (addr) (port) (hk : Kept Q F s) : Kept Q F (State.lostCycle s x1 addr port) := by
  unfold State.lostCycle
  repeat' (first | with_reducible assumption | extract_lets | with_reducible apply kept_ite | with_reducible apply kept_next | (with_reducible apply kept_foldl; intro _ _ _) | with_reducible apply kept_countFld | (split) | (dsimp +zetaDelta only))

theorem kept_xbarServe (a) : ∀ {s : State} (x1) (addr) (ports), Kept Q F s → Kept Q F (State.xbarServe s x1 addr ports a) := by
  induction a with
  | zero =>
    intro s x1 addr ports hk
    unfold State.xbarServe
    exact hk
  | succ _ ih =>
    intro s x1 addr ports hk
    unfold State.xbarServe
    repeat' (first | with_reducible assumption | extract_lets | with_reducible apply kept_ite | with_reducible apply kept_next | (with_reducible apply kept_foldl; intro _ _ _) | with_reducible apply ih | with_reducible apply kept_lostCycle | (split) | (dsimp +zetaDelta only))

theorem kept_execCrossbarRefusal {s : State} (ask) (target) (write) (addr) (hk : Kept Q F s) : KeptO Q F (execCrossbarRefusal ask target write addr s) := by
  unfold execCrossbarRefusal
  repeat' (first | with_reducible assumption | extract_lets | with_reducible apply kept_ite | with_reducible apply kept_next | (with_reducible apply kept_foldl; intro _ _ _) | with_reducible apply kept_xbarServe | (split) | (dsimp +zetaDelta only))

theorem kept_beginEgress {s : State} (h) (i) (c) (x4) (since) (hk : Kept Q F s) : Kept Q F (State.beginEgress s h i c x4 since) := by
  unfold State.beginEgress
  repeat' (first | with_reducible assumption | extract_lets | with_reducible apply kept_ite | with_reducible apply kept_next | (with_reducible apply kept_foldl; intro _ _ _) | with_reducible apply kept_setCmd | with_reducible apply kept_setSec | with_reducible apply kept_rateTake | (split) | (dsimp +zetaDelta only))

theorem kept_execEgressSlotStart {s : State} (h) (i) (guardOk) (hk : Kept Q F s) : KeptO Q F (execEgressSlotStart h i guardOk s) := by
  unfold execEgressSlotStart
  repeat' (first | with_reducible assumption | extract_lets | with_reducible apply kept_ite | with_reducible apply kept_next | (with_reducible apply kept_foldl; intro _ _ _) | with_reducible apply kept_tickTo | with_reducible apply kept_setCmd | with_reducible apply kept_setSec | with_reducible apply kept_readKick | with_reducible apply kept_beginEgress | (split) | (dsimp +zetaDelta only))

theorem kept_execZeroReadEgress {s : State} (h) (i) (hk : Kept Q F s) : KeptO Q F (execZeroReadEgress h i s) := by
  unfold execZeroReadEgress
  repeat' (first | with_reducible assumption | extract_lets | with_reducible apply kept_ite | with_reducible apply kept_next | (with_reducible apply kept_foldl; intro _ _ _) | with_reducible apply kept_charge | with_reducible apply kept_beginEgress | (split) | (dsimp +zetaDelta only))

theorem kept_setPair {s : State} (lo) (hi) (v) (hk : Kept Q F s) : Kept Q F (State.setPair s lo hi v) := by
  unfold State.setPair
  repeat' (first | with_reducible assumption | extract_lets | with_reducible apply kept_ite | with_reducible apply kept_next | (with_reducible apply kept_foldl; intro _ _ _) | with_reducible apply kept_setReg | (split) | (dsimp +zetaDelta only))

theorem kept_chState {s : State} (ch) (st) (hk : Kept Q F s) : Kept Q F (State.chState s ch st) := by
  unfold State.chState
  repeat' (first | with_reducible assumption | extract_lets | with_reducible apply kept_ite | with_reducible apply kept_next | (with_reducible apply kept_foldl; intro _ _ _) | with_reducible apply kept_setFld | with_reducible apply kept_setChain | (split) | (dsimp +zetaDelta only))

theorem kept_putRecord {s : State} (ch) (r) (hk : Kept Q F s) : Kept Q F (State.putRecord s ch r) := by
  unfold State.putRecord
  extract_lets tail base c bs _ s1 next s2 _ s3
  have h1 : Kept Q F s1 := kept_xfr (memWriteAll_wf _ _ _ hk.xfr) hk
  have h2 : Kept Q F s2 := kept_setFld _ _ _ _ h1
  have h3 : Kept Q F s3 := kept_ite (kept_setChain _ _ h2) h2
  exact kept_ite (kept_raise _ _ h3) h3

theorem kept_chainHalt {s : State} (ch) (status) (side) (addr) (hk : Kept Q F s) : Kept Q F (State.chainHalt s ch status side addr) := by
  unfold State.chainHalt
  repeat' (first | with_reducible assumption | extract_lets | with_reducible apply kept_ite | with_reducible apply kept_next | (with_reducible apply kept_foldl; intro _ _ _) | with_reducible apply kept_setReg | with_reducible apply kept_setFld | with_reducible apply kept_setChain | with_reducible apply kept_raise | with_reducible apply kept_setPair | with_reducible apply kept_chState | with_reducible apply kept_putRecord | (split) | (dsimp +zetaDelta only))

theorem kept_fetchDesc {s : State} (ch) (addr) (hk : Kept Q F s) : Kept Q F (State.fetchDesc s ch addr) := by
  unfold State.fetchDesc
  repeat' (first | with_reducible assumption | extract_lets | with_reducible apply kept_ite | with_reducible apply kept_next | (with_reducible apply kept_foldl; intro _ _ _) | with_reducible apply kept_setChain | with_reducible apply kept_chState | with_reducible apply kept_chainHalt | (split) | (dsimp +zetaDelta only))

theorem kept_chainNext {s : State} (ch) (hk : Kept Q F s) : Kept Q F (State.chainNext s ch) := by
  unfold State.chainNext
  repeat' (first | with_reducible assumption | extract_lets | with_reducible apply kept_ite | with_reducible apply kept_next | (with_reducible apply kept_foldl; intro _ _ _) | with_reducible apply kept_setChain | with_reducible apply kept_chState | with_reducible apply kept_fetchDesc | (split) | (dsimp +zetaDelta only))

theorem kept_consume {s : State} (ch) (hk : Kept Q F s) : Kept Q F (State.consume s ch) := by
  unfold State.consume
  repeat' (first | with_reducible assumption | extract_lets | with_reducible apply kept_ite | with_reducible apply kept_next | (with_reducible apply kept_foldl; intro _ _ _) | with_reducible apply kept_setReg | with_reducible apply kept_setPair | (split) | (dsimp +zetaDelta only))

theorem kept_descEnd {s : State} (ch) (status) (fenced) (hk : Kept Q F s) : Kept Q F (State.descEnd s ch status fenced) := by
  unfold State.descEnd
  repeat' (first | with_reducible assumption | extract_lets | with_reducible apply kept_ite | with_reducible apply kept_next | (with_reducible apply kept_foldl; intro _ _ _) | with_reducible apply kept_setChain | with_reducible apply kept_putRecord | with_reducible apply kept_chainNext | with_reducible apply kept_consume | (split) | (dsimp +zetaDelta only))

theorem kept_moveBytes {s : State} (ch) (d) (n) (hk : Kept Q F s) : Kept Q F (State.moveBytes s ch d n) := by
  unfold State.moveBytes
  extract_lets c off src dst bs bad clean _ s1
  have h1 : Kept Q F s1 := kept_xfr (memWriteAll_wf _ _ _ hk.xfr) hk
  exact kept_setChain _ _ h1

theorem kept_touchDram {s : State} (space) (addr) (hk : Kept Q F s) : Kept Q F (State.touchDram s space addr) := by
  unfold State.touchDram
  repeat' (first | with_reducible assumption | extract_lets | with_reducible apply kept_ite | with_reducible apply kept_next | (with_reducible apply kept_foldl; intro _ _ _) | with_reducible apply kept_openRow | (split) | (dsimp +zetaDelta only))

theorem kept_runMove {s : State} (ch) (op) (err) (hk : Kept Q F s) : Kept Q F (State.runMove s ch op err) := by
  unfold State.runMove
  repeat' (first | with_reducible assumption | extract_lets | with_reducible apply kept_ite | with_reducible apply kept_next | (with_reducible apply kept_foldl; intro _ _ _) | with_reducible apply kept_chainHalt | with_reducible apply kept_descEnd | with_reducible apply kept_moveBytes | with_reducible apply kept_touchDram | (split) | (dsimp +zetaDelta only))

theorem kept_linkReturn {s : State} (ch) (hk : Kept Q F s) : Kept Q F (State.linkReturn s ch) := by
  unfold State.linkReturn
  repeat' (first | with_reducible assumption | extract_lets | with_reducible apply kept_ite | with_reducible apply kept_next | (with_reducible apply kept_foldl; intro _ _ _) | with_reducible apply kept_setChain | with_reducible apply kept_chState | with_reducible apply kept_chainHalt | with_reducible apply kept_fetchDesc | (split) | (dsimp +zetaDelta only))

theorem kept_chainRestart {s : State} (ch) (action) (hk : Kept Q F s) : Kept Q F (State.chainRestart s ch action) := by
  unfold State.chainRestart
  repeat' (first | with_reducible assumption | extract_lets | with_reducible apply kept_ite | with_reducible apply kept_next | (with_reducible apply kept_foldl; intro _ _ _) | with_reducible apply kept_setReg | with_reducible apply kept_setChain | with_reducible apply kept_chState | with_reducible apply kept_fetchDesc | with_reducible apply kept_chainNext | with_reducible apply kept_consume | (split) | (dsimp +zetaDelta only))

theorem kept_ownerWrites {s : State} (ws) (hk : Kept Q F s) : Kept Q F (State.ownerWrites s ws) := by
  unfold State.ownerWrites
  refine kept_foldl ws (fun t w h => ?_) hk
  extract_lets
  exact kept_xfr (memWriteAll_wf _ _ _ h.xfr) h

theorem kept_chainStart {s : State} (ch) (hk : Kept Q F s) : Kept Q F (State.chainStart s ch) := by
  unfold State.chainStart
  repeat' (first | with_reducible assumption | extract_lets | with_reducible apply kept_ite | with_reducible apply kept_next | (with_reducible apply kept_foldl; intro _ _ _) | with_reducible apply kept_wakeBank | with_reducible apply kept_fetchDesc | (split) | (dsimp +zetaDelta only))

theorem kept_runRises {s : State} (ch) (hk : Kept Q F s) : Kept Q F (State.runRises s ch) := by
  unfold State.runRises
  repeat' (first | with_reducible assumption | extract_lets | with_reducible apply kept_ite | with_reducible apply kept_next | (with_reducible apply kept_foldl; intro _ _ _) | with_reducible apply kept_chainStart | (split) | (dsimp +zetaDelta only))

theorem kept_execChainRun {s : State} (who) (ch) (writes) (hk : Kept Q F s) : KeptO Q F (execChainRun who ch writes s) := by
  unfold execChainRun
  repeat' (first | with_reducible assumption | extract_lets | with_reducible apply kept_ite | with_reducible apply kept_next | (with_reducible apply kept_foldl; intro _ _ _) | with_reducible apply kept_setFld | with_reducible apply kept_ownerWrites | with_reducible apply kept_runRises | (split) | (dsimp +zetaDelta only))

theorem kept_execAppendCountWrite {s : State} (who) (ch) (count) (writes) (hk : Kept Q F s) : KeptO Q F (execAppendCountWrite who ch count writes s) := by
  unfold execAppendCountWrite
  repeat' (first | with_reducible assumption | extract_lets | with_reducible apply kept_ite | with_reducible apply kept_next | (with_reducible apply kept_foldl; intro _ _ _) | with_reducible apply kept_setReg | with_reducible apply kept_setChain | with_reducible apply kept_ownerWrites | with_reducible apply kept_chainStart | (split) | (dsimp +zetaDelta only))

theorem kept_execDescriptorCopy {s : State} (ch) (err) (hk : Kept Q F s) : KeptO Q F (execDescriptorCopy ch err s) := by
  unfold execDescriptorCopy
  repeat' (first | with_reducible assumption | extract_lets | with_reducible apply kept_ite | with_reducible apply kept_next | (with_reducible apply kept_foldl; intro _ _ _) | with_reducible apply kept_runMove | (split) | (dsimp +zetaDelta only))

theorem kept_execDescriptorFill {s : State} (ch) (err) (hk : Kept Q F s) : KeptO Q F (execDescriptorFill ch err s) := by
  unfold execDescriptorFill
  repeat' (first | with_reducible assumption | extract_lets | with_reducible apply kept_ite | with_reducible apply kept_next | (with_reducible apply kept_foldl; intro _ _ _) | with_reducible apply kept_runMove | (split) | (dsimp +zetaDelta only))

theorem kept_execFence {s : State} (ch) (err) (hk : Kept Q F s) : KeptO Q F (execFence ch err s) := by
  unfold execFence
  repeat' (first | with_reducible assumption | extract_lets | with_reducible apply kept_ite | with_reducible apply kept_next | (with_reducible apply kept_foldl; intro _ _ _) | with_reducible apply kept_setChain | with_reducible apply kept_chainHalt | with_reducible apply kept_descEnd | (split) | (dsimp +zetaDelta only))

theorem kept_execLinkReadReturn {s : State} (ch) (err) (hk : Kept Q F s) : KeptO Q F (execLinkReadReturn ch err s) := by
  unfold execLinkReadReturn
  repeat' (first | with_reducible assumption | extract_lets | with_reducible apply kept_ite | with_reducible apply kept_next | (with_reducible apply kept_foldl; intro _ _ _) | with_reducible apply kept_setChain | with_reducible apply kept_chainHalt | with_reducible apply kept_linkReturn | (split) | (dsimp +zetaDelta only))

theorem kept_execLinkReread {s : State} (ch) (hk : Kept Q F s) : KeptO Q F (execLinkReread ch s) := by
  unfold execLinkReread
  repeat' (first | with_reducible assumption | extract_lets | with_reducible apply kept_ite | with_reducible apply kept_next | (with_reducible apply kept_foldl; intro _ _ _) | with_reducible apply kept_setChain | with_reducible apply kept_chState | (split) | (dsimp +zetaDelta only))

theorem kept_restartChain {s : State} (who) (ch) (action) (hk : Kept Q F s) : Kept Q F (State.restartChain s who ch action) := by
  unfold State.restartChain
  repeat' (first | with_reducible assumption | extract_lets | with_reducible apply kept_ite | with_reducible apply kept_next | (with_reducible apply kept_foldl; intro _ _ _) | with_reducible apply kept_setChain | with_reducible apply kept_chainRestart | (split) | (dsimp +zetaDelta only))

theorem kept_writeChCtl {s : State} (who) (ch) (v) (w) (hk : Kept Q F s) : Kept Q F (State.writeChCtl s who ch v w) := by
  unfold State.writeChCtl
  repeat' (first | with_reducible assumption | extract_lets | with_reducible apply kept_ite | with_reducible apply kept_next | (with_reducible apply kept_foldl; intro _ _ _) | with_reducible apply kept_setReg | with_reducible apply kept_runRises | with_reducible apply kept_restartChain | (split) | (dsimp +zetaDelta only))

theorem kept_execChainRetry {s : State} (who) (ch) (hk : Kept Q F s) : KeptO Q F (execChainRetry who ch s) := by
  unfold execChainRetry
  repeat' (first | with_reducible assumption | extract_lets | with_reducible apply kept_ite | with_reducible apply kept_next | (with_reducible apply kept_foldl; intro _ _ _) | with_reducible apply kept_restartChain | (split) | (dsimp +zetaDelta only))

theorem kept_execChainSkip {s : State} (who) (ch) (hk : Kept Q F s) : KeptO Q F (execChainSkip who ch s) := by
  unfold execChainSkip
  repeat' (first | with_reducible assumption | extract_lets | with_reducible apply kept_ite | with_reducible apply kept_next | (with_reducible apply kept_foldl; intro _ _ _) | with_reducible apply kept_restartChain | (split) | (dsimp +zetaDelta only))

theorem kept_execChainAbort {s : State} (who) (ch) (hk : Kept Q F s) : KeptO Q F (execChainAbort who ch s) := by
  unfold execChainAbort
  repeat' (first | with_reducible assumption | extract_lets | with_reducible apply kept_ite | with_reducible apply kept_next | (with_reducible apply kept_foldl; intro _ _ _) | with_reducible apply kept_restartChain | (split) | (dsimp +zetaDelta only))

theorem kept_execCqHeadWrite {s : State} (who) (ch) (head) (hk : Kept Q F s) : KeptO Q F (execCqHeadWrite who ch head s) := by
  unfold execCqHeadWrite
  repeat' (first | with_reducible assumption | extract_lets | with_reducible apply kept_ite | with_reducible apply kept_next | (with_reducible apply kept_foldl; intro _ _ _) | with_reducible apply kept_setFld | with_reducible apply kept_setChain | with_reducible apply kept_putRecord | with_reducible apply kept_chainNext | with_reducible apply kept_chainRestart | (split) | (dsimp +zetaDelta only))

theorem kept_execContextReadComplete {s : State} (a) (purpose) (ref) (hk : Kept Q F s) : KeptO Q F (execContextReadComplete a purpose ref s) := by
  unfold execContextReadComplete
  repeat' (first | with_reducible assumption | extract_lets | with_reducible apply kept_ite | with_reducible apply kept_next | (with_reducible apply kept_foldl; intro _ _ _) | with_reducible apply kept_setCtx | with_reducible apply kept_issueAll | (split) | (dsimp +zetaDelta only))

theorem kept_execCtxHalt {s : State} (a) (purpose) (ref) (kind) (addr) (hk : Kept Q F s) : KeptO Q F (execCtxHalt a purpose ref kind addr s) := by
  unfold execCtxHalt
  repeat' (first | with_reducible assumption | extract_lets | with_reducible apply kept_ite | with_reducible apply kept_next | (with_reducible apply kept_foldl; intro _ _ _) | with_reducible apply kept_setCtx | with_reducible apply kept_raise | (split) | (dsimp +zetaDelta only))

theorem kept_loadCtx {s : State} (a) (hk : Kept Q F s) : Kept Q F (State.loadCtx s a) := by
  unfold State.loadCtx
  repeat' (first | with_reducible assumption | extract_lets | with_reducible apply kept_ite | with_reducible apply kept_next | (with_reducible apply kept_foldl; intro _ _ _) | with_reducible apply kept_setReg | (split) | (dsimp +zetaDelta only))

theorem kept_execXfrCtxSelWrite {s : State} (who) (a) (hk : Kept Q F s) : KeptO Q F (execXfrCtxSelWrite who a s) := by
  unfold execXfrCtxSelWrite
  repeat' (first | with_reducible assumption | extract_lets | with_reducible apply kept_ite | with_reducible apply kept_next | (with_reducible apply kept_foldl; intro _ _ _) | with_reducible apply kept_setReg | with_reducible apply kept_loadCtx | (split) | (dsimp +zetaDelta only))

theorem kept_execContextRestartRetry {s : State} (who) (hk : Kept Q F s) : KeptO Q F (execContextRestartRetry who s) := by
  unfold execContextRestartRetry
  repeat' (first | with_reducible assumption | extract_lets | with_reducible apply kept_ite | with_reducible apply kept_next | (with_reducible apply kept_foldl; intro _ _ _) | with_reducible apply kept_setCtx | with_reducible apply kept_issueAll | (split) | (dsimp +zetaDelta only))

theorem kept_execContextRestartFail {s : State} (who) (hk : Kept Q F s) : KeptO Q F (execContextRestartFail who s) := by
  unfold execContextRestartFail
  repeat' (first | with_reducible assumption | extract_lets | with_reducible apply kept_ite | with_reducible apply kept_next | (with_reducible apply kept_foldl; intro _ _ _) | with_reducible apply kept_setCtrl | with_reducible apply kept_setCtx | with_reducible apply kept_endWrite | with_reducible apply kept_kick | with_reducible apply kept_issueAll | (split) | (dsimp +zetaDelta only))

theorem kept_miTake {s : State} (hk : Kept Q F s) : Kept Q F (State.miTake s) := by
  unfold State.miTake
  repeat' (first | with_reducible assumption | extract_lets | with_reducible apply kept_ite | with_reducible apply kept_next | (with_reducible apply kept_foldl; intro _ _ _) | (split) | (dsimp +zetaDelta only))

theorem kept_miRefuse {s : State} (id) (hk : Kept Q F s) : Kept Q F (State.miRefuse s id) := by
  unfold State.miRefuse
  repeat' (first | with_reducible assumption | extract_lets | with_reducible apply kept_ite | with_reducible apply kept_next | (with_reducible apply kept_foldl; intro _ _ _) | with_reducible apply kept_miReply | (split) | (dsimp +zetaDelta only))

theorem kept_miServe {s : State} (id) (early) (full) (maint) (f) (hf : ∀ t, Kept Q F t → Kept Q F (f t)) (hk : Kept Q F s) : Kept Q F (State.miServe s id early full maint f) := by
  unfold State.miServe
  repeat' (first | with_reducible assumption | extract_lets | with_reducible apply kept_ite | with_reducible apply kept_next | (with_reducible apply kept_foldl; intro _ _ _) | with_reducible apply hf | with_reducible apply kept_miTake | with_reducible apply kept_miRefuse | (split) | (dsimp +zetaDelta only))

theorem kept_ctlReply {s : State} (id) (code) (cc) (data) (hk : Kept Q F s) : Kept Q F (State.ctlReply s id code cc data) := by
  unfold State.ctlReply
  repeat' (first | with_reducible assumption | extract_lets | with_reducible apply kept_ite | with_reducible apply kept_next | (with_reducible apply kept_foldl; intro _ _ _) | with_reducible apply kept_sendMctp | (split) | (dsimp +zetaDelta only))

theorem kept_execSetEndpointId {s : State} (id) (eid) (hk : Kept Q F s) : KeptO Q F (execSetEndpointId id eid s) := by
  unfold execSetEndpointId
  repeat' (first | with_reducible assumption | extract_lets | with_reducible apply kept_ite | with_reducible apply kept_next | (with_reducible apply kept_foldl; intro _ _ _) | with_reducible apply kept_setFld | (with_reducible apply kept_miServe; intros) | with_reducible apply kept_ctlReply | (split) | (dsimp +zetaDelta only))

theorem kept_execGetEndpointId {s : State} (id) (hk : Kept Q F s) : KeptO Q F (execGetEndpointId id s) := by
  unfold execGetEndpointId
  repeat' (first | with_reducible assumption | extract_lets | with_reducible apply kept_ite | with_reducible apply kept_next | (with_reducible apply kept_foldl; intro _ _ _) | (with_reducible apply kept_miServe; intros) | with_reducible apply kept_ctlReply | (split) | (dsimp +zetaDelta only))

theorem kept_execGetEndpointUuid {s : State} (id) (hk : Kept Q F s) : KeptO Q F (execGetEndpointUuid id s) := by
  unfold execGetEndpointUuid
  repeat' (first | with_reducible assumption | extract_lets | with_reducible apply kept_ite | with_reducible apply kept_next | (with_reducible apply kept_foldl; intro _ _ _) | (with_reducible apply kept_miServe; intros) | with_reducible apply kept_ctlReply | (split) | (dsimp +zetaDelta only))

theorem kept_execGetMctpVersionSupport {s : State} (id) (type) (hk : Kept Q F s) : KeptO Q F (execGetMctpVersionSupport id type s) := by
  unfold execGetMctpVersionSupport
  repeat' (first | with_reducible assumption | extract_lets | with_reducible apply kept_ite | with_reducible apply kept_next | (with_reducible apply kept_foldl; intro _ _ _) | (with_reducible apply kept_miServe; intros) | with_reducible apply kept_ctlReply | (split) | (dsimp +zetaDelta only))

theorem kept_execGetMessageTypeSupport {s : State} (id) (hk : Kept Q F s) : KeptO Q F (execGetMessageTypeSupport id s) := by
  unfold execGetMessageTypeSupport
  repeat' (first | with_reducible assumption | extract_lets | with_reducible apply kept_ite | with_reducible apply kept_next | (with_reducible apply kept_foldl; intro _ _ _) | (with_reducible apply kept_miServe; intros) | with_reducible apply kept_ctlReply | (split) | (dsimp +zetaDelta only))

theorem kept_execReadNvmeMiDataStructure {s : State} (id) (type) (hk : Kept Q F s) : KeptO Q F (execReadNvmeMiDataStructure id type s) := by
  unfold execReadNvmeMiDataStructure
  repeat' (first | with_reducible assumption | extract_lets | with_reducible apply kept_ite | with_reducible apply kept_next | (with_reducible apply kept_foldl; intro _ _ _) | with_reducible apply kept_miReply | (with_reducible apply kept_miServe; intros) | (split) | (dsimp +zetaDelta only))

theorem kept_execNvmSubsystemHealthStatusPoll {s : State} (id) (hk : Kept Q F s) : KeptO Q F (execNvmSubsystemHealthStatusPoll id s) := by
  unfold execNvmSubsystemHealthStatusPoll
  repeat' (first | with_reducible assumption | extract_lets | with_reducible apply kept_ite | with_reducible apply kept_next | (with_reducible apply kept_foldl; intro _ _ _) | with_reducible apply kept_miReply | (with_reducible apply kept_miServe; intros) | (split) | (dsimp +zetaDelta only))

theorem kept_execControllerHealthStatusPoll {s : State} (id) (func) (hk : Kept Q F s) : KeptO Q F (execControllerHealthStatusPoll id func s) := by
  unfold execControllerHealthStatusPoll
  repeat' (first | with_reducible assumption | extract_lets | with_reducible apply kept_ite | with_reducible apply kept_next | (with_reducible apply kept_foldl; intro _ _ _) | with_reducible apply kept_miReply | (with_reducible apply kept_miServe; intros) | (split) | (dsimp +zetaDelta only))

theorem kept_execConfigurationSet {s : State} (id) (cfg) (value) (hk : Kept Q F s) : KeptO Q F (execConfigurationSet id cfg value s) := by
  unfold execConfigurationSet
  repeat' (first | with_reducible assumption | extract_lets | with_reducible apply kept_ite | with_reducible apply kept_next | (with_reducible apply kept_foldl; intro _ _ _) | with_reducible apply kept_miReply | (with_reducible apply kept_miServe; intros) | (split) | (dsimp +zetaDelta only))

theorem kept_execConfigurationGet {s : State} (id) (cfg) (hk : Kept Q F s) : KeptO Q F (execConfigurationGet id cfg s) := by
  unfold execConfigurationGet
  repeat' (first | with_reducible assumption | extract_lets | with_reducible apply kept_ite | with_reducible apply kept_next | (with_reducible apply kept_foldl; intro _ _ _) | with_reducible apply kept_miReply | (with_reducible apply kept_miServe; intros) | (split) | (dsimp +zetaDelta only))

theorem kept_execMiReset {s : State} (id) (hk : Kept Q F s) : KeptO Q F (execMiReset id s) := by
  unfold execMiReset
  repeat' (first | with_reducible assumption | extract_lets | with_reducible apply kept_ite | with_reducible apply kept_next | (with_reducible apply kept_foldl; intro _ _ _) | with_reducible apply kept_miReply | with_reducible apply kept_toStrap | (with_reducible apply kept_miServe; intros) | (split) | (dsimp +zetaDelta only))

theorem kept_execGetChallenge {s : State} (id) (hk : Kept Q F s) : KeptO Q F (execGetChallenge id s) := by
  unfold execGetChallenge
  repeat' (first | with_reducible assumption | extract_lets | with_reducible apply kept_ite | with_reducible apply kept_next | (with_reducible apply kept_foldl; intro _ _ _) | with_reducible apply kept_miReply | (with_reducible refine kept_issueNonce_eq (by assumption) ?_) | with_reducible apply kept_issueNonce | with_reducible apply kept_miRefuse | (with_reducible apply kept_miServe; intros) | (split) | (dsimp +zetaDelta only))

theorem kept_execEventLogRead {s : State} (id) (first) (count) (hk : Kept Q F s) : KeptO Q F (execEventLogRead id first count s) := by
  unfold execEventLogRead
  repeat' (first | with_reducible assumption | extract_lets | with_reducible apply kept_ite | with_reducible apply kept_next | (with_reducible apply kept_foldl; intro _ _ _) | with_reducible apply kept_miReply | (with_reducible apply kept_miServe; intros) | (split) | (dsimp +zetaDelta only))

theorem kept_startClear {s : State} (nonce) (hk : Kept Q F s) : Kept Q F (State.startClear s nonce) := by
  unfold State.startClear
  repeat' (first | with_reducible assumption | extract_lets | with_reducible apply kept_ite | with_reducible apply kept_next | (with_reducible apply kept_foldl; intro _ _ _) | with_reducible apply kept_clearKick | (split) | (dsimp +zetaDelta only))

theorem kept_execEventLogClear {s : State} (id) (auth) (hk : Kept Q F s) : KeptO Q F (execEventLogClear id auth s) := by
  unfold execEventLogClear
  refine kept_next (kept_miServe _ _ _ _ _ (fun t ht => ?_) hk)
  extract_lets a
  split
  · rename_i s1 e
    have h1 : Kept Q F s1 := kept_authorise_eq e ht
    exact kept_startClear _ (kept_miReply _ _ _ _ (show Kept Q F { s1 with evt := _ } from h1))
  · rename_i s1 _ e
    exact kept_authReply _ _ (kept_authorise_eq e ht)

theorem kept_execCalibrationRowRead {s : State} (id) (hk : Kept Q F s) : KeptO Q F (execCalibrationRowRead id s) := by
  unfold execCalibrationRowRead
  repeat' (first | with_reducible assumption | extract_lets | with_reducible apply kept_ite | with_reducible apply kept_next | (with_reducible apply kept_foldl; intro _ _ _) | with_reducible apply kept_miReply | (with_reducible apply kept_miServe; intros) | (split) | (dsimp +zetaDelta only))

theorem kept_execCalibrationRowWrite {s : State} (id) (row) (hk : Kept Q F s) : KeptO Q F (execCalibrationRowWrite id row s) := by
  unfold execCalibrationRowWrite
  repeat' (first | with_reducible assumption | extract_lets | with_reducible apply kept_ite | with_reducible apply kept_next | (with_reducible apply kept_foldl; intro _ _ _) | with_reducible apply kept_setReg | with_reducible apply kept_setFld | with_reducible apply kept_norStart | with_reducible apply kept_miRefuse | (with_reducible apply kept_miServe; intros) | (split) | (dsimp +zetaDelta only))

theorem kept_execFactoryTestVerifySlot {s : State} (id) (slot) (hk : Kept Q F s) : KeptO Q F (execFactoryTestVerifySlot id slot s) := by
  unfold execFactoryTestVerifySlot
  repeat' (first | with_reducible assumption | extract_lets | with_reducible apply kept_ite | with_reducible apply kept_next | (with_reducible apply kept_foldl; intro _ _ _) | with_reducible apply kept_miReply | (with_reducible apply kept_miServe; intros) | (split) | (dsimp +zetaDelta only))

theorem kept_execFactoryTestAlert {s : State} (id) (hk : Kept Q F s) : KeptO Q F (execFactoryTestAlert id s) := by
  unfold execFactoryTestAlert
  repeat' (first | with_reducible assumption | extract_lets | with_reducible apply kept_ite | with_reducible apply kept_next | (with_reducible apply kept_foldl; intro _ _ _) | with_reducible apply kept_miReply | (with_reducible apply kept_miServe; intros) | (split) | (dsimp +zetaDelta only))

theorem kept_execFactoryAlertPulseEnd {s : State} (hk : Kept Q F s) : KeptO Q F (execFactoryAlertPulseEnd s) := by
  unfold execFactoryAlertPulseEnd
  repeat' (first | with_reducible assumption | extract_lets | with_reducible apply kept_ite | with_reducible apply kept_next | (with_reducible apply kept_foldl; intro _ _ _) | (split) | (dsimp +zetaDelta only))

theorem kept_execFactoryTestEntropy {s : State} (id) (ok) (hk : Kept Q F s) : KeptO Q F (execFactoryTestEntropy id ok s) := by
  unfold execFactoryTestEntropy
  repeat' (first | with_reducible assumption | extract_lets | with_reducible apply kept_ite | with_reducible apply kept_next | (with_reducible apply kept_foldl; intro _ _ _) | with_reducible apply kept_miReply | (with_reducible apply kept_miServe; intros) | (split) | (dsimp +zetaDelta only))

theorem kept_execChallengeNew {s : State} (who) (hk : Kept Q F s) : KeptO Q F (execChallengeNew who s) := by
  unfold execChallengeNew
  repeat' (first | with_reducible assumption | extract_lets | with_reducible apply kept_ite | with_reducible apply kept_next | (with_reducible apply kept_foldl; intro _ _ _) | (with_reducible refine kept_issueNonce_eq (by assumption) ?_) | with_reducible apply kept_issueNonce | (split) | (dsimp +zetaDelta only))

theorem kept_execNonceExpiry {s : State} (p) (hk : Kept Q F s) : KeptO Q F (execNonceExpiry p s) := by
  unfold execNonceExpiry
  repeat' (first | with_reducible assumption | extract_lets | with_reducible apply kept_ite | with_reducible apply kept_next | (with_reducible apply kept_foldl; intro _ _ _) | with_reducible apply kept_setAuth | (split) | (dsimp +zetaDelta only))

theorem kept_execAuthLockoutEnd {s : State} (p) (hk : Kept Q F s) : KeptO Q F (execAuthLockoutEnd p s) := by
  unfold execAuthLockoutEnd
  repeat' (first | with_reducible assumption | extract_lets | with_reducible apply kept_ite | with_reducible apply kept_next | (with_reducible apply kept_foldl; intro _ _ _) | with_reducible apply kept_setAuth | (split) | (dsimp +zetaDelta only))

theorem kept_keepAlive {s : State} (f) (hk : Kept Q F s) : Kept Q F (State.keepAlive s f) := by
  unfold State.keepAlive
  repeat' (first | with_reducible assumption | extract_lets | with_reducible apply kept_ite | with_reducible apply kept_next | (with_reducible apply kept_foldl; intro _ _ _) | with_reducible apply kept_setCtrl | (split) | (dsimp +zetaDelta only))

theorem kept_adminFields {s : State} (a) (g) (hg : ∀ t, Kept Q F t → Kept Q F (g t)) (hk : Kept Q F s) : Kept Q F (State.adminFields s a g) := by
  unfold State.adminFields
  repeat' (first | with_reducible assumption | extract_lets | with_reducible apply kept_ite | with_reducible apply kept_next | (with_reducible apply kept_foldl; intro _ _ _) | with_reducible apply hg | with_reducible apply kept_reply | (split) | (dsimp +zetaDelta only))

theorem kept_adminRun {s : State} (a) (onFunc) (mi) (maint) (g) (hg : ∀ t, Kept Q F t → Kept Q F (g t)) (hk : Kept Q F s) : Kept Q F (State.adminRun s a onFunc mi maint g) := by
  unfold State.adminRun
  repeat' (first | with_reducible assumption | extract_lets | with_reducible apply kept_ite | with_reducible apply kept_next | (with_reducible apply kept_foldl; intro _ _ _) | with_reducible apply hg | (with_reducible apply kept_miServe; intro _ _) | with_reducible apply kept_adminFields | with_reducible apply kept_keepAlive | with_reducible apply kept_adminFields | with_reducible apply kept_reply | with_reducible apply kept_miServe | (split) | (dsimp +zetaDelta only))

theorem kept_execDeleteIoSubmissionQueue {s : State} (a) (qid) (hk : Kept Q F s) : KeptO Q F (execDeleteIoSubmissionQueue a qid s) := by
  unfold execDeleteIoSubmissionQueue
  repeat' (first | with_reducible assumption | extract_lets | with_reducible apply kept_ite | with_reducible apply kept_next | (with_reducible apply kept_foldl; intro _ _ _) | with_reducible apply kept_setCmd | with_reducible apply kept_reply | with_reducible apply kept_toPost | with_reducible apply kept_kick | (with_reducible apply kept_adminRun; intros) | (split) | (dsimp +zetaDelta only))

theorem kept_execCreateIoSubmissionQueue {s : State} (a) (qid) (size) (cqid) (contiguous) (hk : Kept Q F s) : KeptO Q F (execCreateIoSubmissionQueue a qid size cqid contiguous s) := by
  unfold execCreateIoSubmissionQueue
  repeat' (first | with_reducible assumption | extract_lets | with_reducible apply kept_ite | with_reducible apply kept_next | (with_reducible apply kept_foldl; intro _ _ _) | with_reducible apply kept_reply | with_reducible apply kept_setQueue | (with_reducible apply kept_adminRun; intros) | (split) | (dsimp +zetaDelta only))

theorem kept_execDeleteIoCompletionQueue {s : State} (a) (qid) (hk : Kept Q F s) : KeptO Q F (execDeleteIoCompletionQueue a qid s) := by
  unfold execDeleteIoCompletionQueue
  repeat' (first | with_reducible assumption | extract_lets | with_reducible apply kept_ite | with_reducible apply kept_next | (with_reducible apply kept_foldl; intro _ _ _) | with_reducible apply kept_setCtrl | with_reducible apply kept_reply | (with_reducible apply kept_adminRun; intros) | (split) | (dsimp +zetaDelta only))

theorem kept_execCreateIoCompletionQueue {s : State} (a) (qid) (size) (vector) (contiguous) (hk : Kept Q F s) : KeptO Q F (execCreateIoCompletionQueue a qid size vector contiguous s) := by
  unfold execCreateIoCompletionQueue
  repeat' (first | with_reducible assumption | extract_lets | with_reducible apply kept_ite | with_reducible apply kept_next | (with_reducible apply kept_foldl; intro _ _ _) | with_reducible apply kept_setCtrl | with_reducible apply kept_reply | (with_reducible apply kept_adminRun; intros) | (split) | (dsimp +zetaDelta only))

theorem kept_execAbort {s : State} (a) (sqid) (cid) (hk : Kept Q F s) : KeptO Q F (execAbort a sqid cid s) := by
  unfold execAbort
  repeat' (first | with_reducible assumption | extract_lets | with_reducible apply kept_ite | with_reducible apply kept_next | (with_reducible apply kept_foldl; intro _ _ _) | with_reducible apply kept_reply | with_reducible apply kept_toPost | with_reducible apply kept_kick | (with_reducible apply kept_adminRun; intros) | (split) | (dsimp +zetaDelta only))

theorem kept_execAsynchronousEventRequest {s : State} (a) (hk : Kept Q F s) : KeptO Q F (execAsynchronousEventRequest a s) := by
  unfold execAsynchronousEventRequest
  repeat' (first | with_reducible assumption | extract_lets | with_reducible apply kept_ite | with_reducible apply kept_next | (with_reducible apply kept_foldl; intro _ _ _) | with_reducible apply kept_setCtrl | with_reducible apply kept_reply | (with_reducible apply kept_adminRun; intros) | (split) | (dsimp +zetaDelta only))

theorem kept_execKeepAlive {s : State} (a) (hk : Kept Q F s) : KeptO Q F (execKeepAlive a s) := by
  unfold execKeepAlive
  repeat' (first | with_reducible assumption | extract_lets | with_reducible apply kept_ite | with_reducible apply kept_next | (with_reducible apply kept_foldl; intro _ _ _) | with_reducible apply kept_reply | (with_reducible apply kept_adminRun; intros) | (split) | (dsimp +zetaDelta only))

theorem kept_execVirtualizationManagement {s : State} (a) (action) (cntlid) (count) (hk : Kept Q F s) : KeptO Q F (execVirtualizationManagement a action cntlid count s) := by
  unfold execVirtualizationManagement
  repeat' (first | with_reducible assumption | extract_lets | with_reducible apply kept_ite | with_reducible apply kept_next | (with_reducible apply kept_foldl; intro _ _ _) | with_reducible apply kept_setCtrl | with_reducible apply kept_reply | with_reducible apply kept_readyNow | (with_reducible apply kept_adminRun; intros) | (split) | (dsimp +zetaDelta only))

theorem kept_page {s : State} (n) (fs) (hk : Kept Q F s) : Kept Q F (State.page s n fs).2 := by
  unfold State.page
  repeat' (first | with_reducible assumption | extract_lets | with_reducible apply kept_ite | with_reducible apply kept_next | (with_reducible apply kept_foldl; intro _ _ _) | (with_reducible refine kept_freeBytes_eq (by assumption) ?_) | with_reducible apply kept_freeBytes | (split) | (dsimp +zetaDelta only))

theorem kept_page_eq {s : State} {n} {fs} {x} {t : State} (e : State.page s n fs = (x, t)) (hk : Kept Q F s) : Kept Q F t := by
  have := kept_page n fs hk
  rw [e] at this
  exact this

theorem kept_identify {s : State} {f cns nsid cntid csi : Nat} {p : List Byte × State} (e : State.identify s f cns nsid cntid csi = .ok p) (hk : Kept Q F s) :
    Kept Q F p.2 := by
  unfold State.identify at e
  extract_lets named mine nsPage at e
  have hn : ∀ a b c, nsPage a b c = .ok p → Kept Q F p.2 := by
    intro a b c e
    unfold nsPage at e
    repeat' (split at e)
    all_goals (first | rw [← Except.ok.inj e] | contradiction)
    all_goals (first | exact hk | exact kept_page _ _ hk)
  repeat' (split at e)
  all_goals (first | exact hn _ _ _ e | contradiction | (rw [← Except.ok.inj e]; first | exact hk | exact kept_page _ _ hk))

theorem kept_dataReply {s : State} (a) (r) (hr : ∀ p, r = .ok p → Kept Q F p.2) (hk : Kept Q F s) : Kept Q F (State.dataReply s a r) := by
  unfold State.dataReply
  split
  · exact kept_replyData _ _ _ _ (hr _ rfl)
  · exact kept_reply _ _ _ hk

theorem kept_execIdentify {s : State} (a) (cns) (nsid) (cntid) (csi) (hk : Kept Q F s) : KeptO Q F (execIdentify a cns nsid cntid csi s) := by
  unfold execIdentify
  exact kept_next (kept_adminRun _ _ _ _ _ (fun t ht => kept_dataReply _ _ (fun p e => kept_identify e ht) ht) hk)

theorem kept_effectsPage {s : State} (f) (hk : Kept Q F s) : Kept Q F (State.effectsPage s f).2 := by
  unfold State.effectsPage
  repeat' (first | with_reducible assumption | extract_lets | with_reducible apply kept_ite | with_reducible apply kept_next | (with_reducible apply kept_foldl; intro _ _ _) | (split) | (dsimp +zetaDelta only))

theorem kept_effectsPage_eq {s : State} {f} {x} {t : State} (e : State.effectsPage s f = (x, t)) (hk : Kept Q F s) : Kept Q F t := by
  have := kept_effectsPage f hk
  rw [e] at this
  exact this

theorem kept_smartPage {s : State} (hk : Kept Q F s) : Kept Q F (State.smartPage s).2 := by
  unfold State.smartPage
  repeat' (first | with_reducible assumption | extract_lets | with_reducible apply kept_ite | with_reducible apply kept_next | (with_reducible apply kept_foldl; intro _ _ _) | (with_reducible refine kept_freeBytes_eq (by assumption) ?_) | with_reducible apply kept_freeBytes | (split) | (dsimp +zetaDelta only))

theorem kept_smartPage_eq {s : State} {x} {t : State} (e : State.smartPage s = (x, t)) (hk : Kept Q F s) : Kept Q F t := by
  have := kept_smartPage hk
  rw [e] at this
  exact this

theorem kept_slotPage {s : State} (hk : Kept Q F s) : Kept Q F (State.slotPage s).2 := by
  unfold State.slotPage
  repeat' (first | with_reducible assumption | extract_lets | with_reducible apply kept_ite | with_reducible apply kept_next | (with_reducible apply kept_foldl; intro _ _ _) | (with_reducible refine kept_page_eq (by assumption) ?_) | with_reducible apply kept_page | (split) | (dsimp +zetaDelta only))

theorem kept_slotPage_eq {s : State} {x} {t : State} (e : State.slotPage s = (x, t)) (hk : Kept Q F s) : Kept Q F t := by
  have := kept_slotPage hk
  rw [e] at this
  exact this

theorem kept_logPage {s : State} {f page lsi : Nat} {p : List Byte × State} (e : State.logPage s f page lsi = .ok p) (hk : Kept Q F s) : Kept Q F p.2 := by
  unfold State.logPage at e
  repeat' (split at e)
  all_goals (first | rw [← Except.ok.inj e] | contradiction)
  all_goals (first | exact hk | exact kept_freeBytes _ hk | exact kept_smartPage hk | exact kept_slotPage hk | exact kept_effectsPage _ hk | exact kept_setCtrl _ _ hk)

theorem kept_execGetLogPage {s : State} (a) (page) (nsid) (lsi) (offset) (bytes) (hk : Kept Q F s) : KeptO Q F (execGetLogPage a page nsid lsi offset bytes s) := by
  unfold execGetLogPage
  apply kept_next
  refine kept_adminRun _ _ _ _ _ (fun t ht => ?_) hk
  split
  · exact kept_reply _ _ _ ht
  · split
    · exact kept_reply _ _ _ ht
    · rename_i p e
      have hp := kept_logPage e ht
      exact kept_ite (kept_reply _ _ _ ht) (kept_replyData _ _ _ _ hp)

theorem kept_setPower {s : State} (a) (ps) (save) (hk : Kept Q F s) : Kept Q F (State.setPower s a ps save) := by
  unfold State.setPower
  repeat' (first | with_reducible assumption | extract_lets | with_reducible apply kept_ite | with_reducible apply kept_next | (with_reducible apply kept_foldl; intro _ _ _) | with_reducible apply kept_reply | with_reducible apply kept_planRequest | with_reducible apply kept_awaitPlan | with_reducible apply kept_sleepRequest | (split) | (dsimp +zetaDelta only))

theorem kept_execPowerStateSet {s : State} (a) (ps) (save) (hk : Kept Q F s) : KeptO Q F (execPowerStateSet a ps save s) := by
  unfold execPowerStateSet
  repeat' (first | with_reducible assumption | extract_lets | with_reducible apply kept_ite | with_reducible apply kept_next | (with_reducible apply kept_foldl; intro _ _ _) | (with_reducible apply kept_adminRun; intros) | with_reducible apply kept_setPower | (split) | (dsimp +zetaDelta only))

theorem kept_execDozeRequest {s : State} (a) (save) (hk : Kept Q F s) : KeptO Q F (execDozeRequest a save s) := by
  unfold execDozeRequest
  repeat' (first | with_reducible assumption | extract_lets | with_reducible apply kept_ite | with_reducible apply kept_next | (with_reducible apply kept_foldl; intro _ _ _) | (with_reducible apply kept_adminRun; intros) | with_reducible apply kept_setPower | (split) | (dsimp +zetaDelta only))

theorem kept_execHibernateRequest {s : State} (a) (save) (hk : Kept Q F s) : KeptO Q F (execHibernateRequest a save s) := by
  unfold execHibernateRequest
  repeat' (first | with_reducible assumption | extract_lets | with_reducible apply kept_ite | with_reducible apply kept_next | (with_reducible apply kept_foldl; intro _ _ _) | (with_reducible apply kept_adminRun; intros) | with_reducible apply kept_setPower | (split) | (dsimp +zetaDelta only))

theorem kept_setTime {s : State} (t : Nat) (hk : Kept Q F s) : Kept Q F (
    if s.pwr.time < t then { s with pwr := { s.pwr with time := t, uncertain := false, synced := true } }
    else ({ s with pwr := { s.pwr with uncertain := false, synced := true } }).raise .pwrCause 4) :=
  kept_ite (show Kept Q F { s with pwr := _ } from hk) (kept_raise _ _ (show Kept Q F { s with pwr := _ } from hk))

theorem kept_execTimestamp {s : State} (a) (ms) (save) (hk : Kept Q F s) : KeptO Q F (execTimestamp a ms save s) := by
  unfold execTimestamp
  apply kept_next
  refine kept_adminRun _ _ _ _ _ (fun u hu => ?_) hk
  split
  · exact kept_reply _ _ _ hu
  · exact kept_reply _ _ _ (kept_setTime _ hu)

theorem kept_execSetFeatures {s : State} (a) (fid) (value) (save) (hk : Kept Q F s) : KeptO Q F (execSetFeatures a fid value save s) := by
  unfold execSetFeatures
  repeat' (first | with_reducible assumption | extract_lets | with_reducible apply kept_ite | with_reducible apply kept_next | (with_reducible apply kept_foldl; intro _ _ _) | with_reducible apply kept_setCtrl | with_reducible apply kept_reply | (with_reducible apply kept_adminRun; intros) | with_reducible apply kept_setPower | (split) | (dsimp +zetaDelta only))

theorem kept_execGetFeatures {s : State} (a) (fid) (sel) (value) (hk : Kept Q F s) : KeptO Q F (execGetFeatures a fid sel value s) := by
  unfold execGetFeatures
  repeat' (first | with_reducible assumption | extract_lets | with_reducible apply kept_ite | with_reducible apply kept_next | (with_reducible apply kept_foldl; intro _ _ _) | with_reducible apply kept_reply | with_reducible apply kept_replyData | (with_reducible apply kept_adminRun; intros) | (split) | (dsimp +zetaDelta only))

theorem kept_nsCreate {s : State} {x : NsAsk} {quota : Option Nat} {n : Nat} {t : State} (e : State.nsCreate s x quota = .ok (n, t)) (hk : Kept Q F s) :
    Kept Q F t := by
  unfold State.nsCreate at e
  extract_lets at e
  repeat' (first | extract_lets at e | (split at e))
  all_goals (first | rw [← (Prod.mk.inj (Except.ok.inj e)).2] | contradiction)
  all_goals (first | exact hk | exact kept_syncExport (show Kept Q F { s with med := _ } from hk))

theorem kept_nsChanged {s : State} (f) (nsid) (hk : Kept Q F s) : Kept Q F (State.nsChanged s f nsid) := by
  unfold State.nsChanged
  repeat' (first | with_reducible assumption | extract_lets | with_reducible apply kept_ite | with_reducible apply kept_next | (with_reducible apply kept_foldl; intro _ _ _) | with_reducible apply kept_setCtrl | with_reducible apply kept_asyncEvent | (split) | (dsimp +zetaDelta only))

theorem kept_nsDefer {s : State} (f) (cid) (nsid) (fmt) (hk : Kept Q F s) : Kept Q F (State.nsDefer s f cid nsid fmt) := by
  unfold State.nsDefer
  repeat' (first | with_reducible assumption | extract_lets | with_reducible apply kept_ite | with_reducible apply kept_next | (with_reducible apply kept_foldl; intro _ _ _) | with_reducible apply kept_kick | (split) | (dsimp +zetaDelta only))

theorem kept_nsManage {s : State} (f) (cid) (quota) (q) (data) (hk : Kept Q F s) : Kept Q F (State.nsManage s f cid quota q data) := by
  unfold State.nsManage
  repeat' (first | with_reducible assumption | extract_lets | with_reducible apply kept_ite | with_reducible apply kept_next | (with_reducible apply kept_foldl; intro _ _ _) | with_reducible apply kept_reply | (with_reducible refine kept_nsCreate (by assumption) ?_) | with_reducible apply kept_nsChanged | with_reducible apply kept_nsDefer | (split) | (dsimp +zetaDelta only))

theorem kept_nsAttach {s : State} (f) (cid) (quota) (q) (data) (hk : Kept Q F s) : Kept Q F (State.nsAttach s f cid quota q data) := by
  unfold State.nsAttach
  repeat' (first | with_reducible assumption | extract_lets | with_reducible apply kept_ite | with_reducible apply kept_next | (with_reducible apply kept_foldl; intro _ _ _) | with_reducible apply kept_reply | with_reducible apply kept_nsChanged | (split) | (dsimp +zetaDelta only))

theorem kept_nsFormat {s : State} (f) (cid) (q) (hk : Kept Q F s) : Kept Q F (State.nsFormat s f cid q) := by
  unfold State.nsFormat
  repeat' (first | with_reducible assumption | extract_lets | with_reducible apply kept_ite | with_reducible apply kept_next | (with_reducible apply kept_foldl; intro _ _ _) | with_reducible apply kept_reply | with_reducible apply kept_nsDefer | (split) | (dsimp +zetaDelta only))

theorem kept_mediate {s : State} (f) (cid) (q) (data) (hk : Kept Q F s) : Kept Q F (State.mediate s f cid q data) := by
  unfold State.mediate
  repeat' (first | with_reducible assumption | extract_lets | with_reducible apply kept_ite | with_reducible apply kept_next | (with_reducible apply kept_foldl; intro _ _ _) | with_reducible apply kept_raise | with_reducible apply kept_reply | (split) | (dsimp +zetaDelta only))

theorem kept_runMediated {s : State} (r) (hk : Kept Q F s) : Kept Q F (State.runMediated s r) := by
  unfold State.runMediated
  repeat' (first | with_reducible assumption | extract_lets | with_reducible apply kept_ite | with_reducible apply kept_next | (with_reducible apply kept_foldl; intro _ _ _) | with_reducible apply kept_reply | with_reducible apply kept_nsManage | with_reducible apply kept_nsAttach | with_reducible apply kept_nsFormat | (split) | (dsimp +zetaDelta only))

theorem kept_nsRow {s : State} (a) (q) (data) (g) (hg : ∀ t f, Kept Q F t → Kept Q F (g t f)) (hk : Kept Q F s) : Kept Q F (State.nsRow s a q data g) := by
  unfold State.nsRow
  repeat' (first | with_reducible assumption | extract_lets | with_reducible apply kept_ite | with_reducible apply kept_next | (with_reducible apply kept_foldl; intro _ _ _) | with_reducible apply hg | (with_reducible apply kept_adminRun; intro _ _) | with_reducible apply kept_adminRun | with_reducible apply kept_mediate | (split) | (dsimp +zetaDelta only))

theorem kept_execNamespaceManagement {s : State} (a) (q) (data) (hk : Kept Q F s) : KeptO Q F (execNamespaceManagement a q data s) := by
  unfold execNamespaceManagement
  repeat' (first | with_reducible assumption | extract_lets | with_reducible apply kept_ite | with_reducible apply kept_next | (with_reducible apply kept_foldl; intro _ _ _) | with_reducible apply kept_nsManage | (with_reducible apply kept_nsRow; intros) | (split) | (dsimp +zetaDelta only))

theorem kept_execNamespaceAttachment {s : State} (a) (q) (data) (hk : Kept Q F s) : KeptO Q F (execNamespaceAttachment a q data s) := by
  unfold execNamespaceAttachment
  repeat' (first | with_reducible assumption | extract_lets | with_reducible apply kept_ite | with_reducible apply kept_next | (with_reducible apply kept_foldl; intro _ _ _) | with_reducible apply kept_nsAttach | (with_reducible apply kept_nsRow; intros) | (split) | (dsimp +zetaDelta only))

theorem kept_execFormatNvm {s : State} (a) (q) (hk : Kept Q F s) : KeptO Q F (execFormatNvm a q s) := by
  unfold execFormatNvm
  repeat' (first | with_reducible assumption | extract_lets | with_reducible apply kept_ite | with_reducible apply kept_next | (with_reducible apply kept_foldl; intro _ _ _) | with_reducible apply kept_nsFormat | (with_reducible apply kept_nsRow; intros) | (split) | (dsimp +zetaDelta only))

theorem kept_execMediatedCommand {s : State} (func) (cid) (q) (data) (hk : Kept Q F s) : KeptO Q F (execMediatedCommand func cid q data s) := by
  unfold execMediatedCommand
  repeat' (first | with_reducible assumption | extract_lets | with_reducible apply kept_ite | with_reducible apply kept_next | (with_reducible apply kept_foldl; intro _ _ _) | with_reducible apply kept_reply | with_reducible apply kept_keepAlive | with_reducible apply kept_mediate | (split) | (dsimp +zetaDelta only))

theorem kept_beginUpdate {s : State} (u) (hk : Kept Q F s) : Kept Q F (State.beginUpdate s u) := by
  unfold State.beginUpdate
  repeat' (first | with_reducible assumption | extract_lets | with_reducible apply kept_ite | with_reducible apply kept_next | (with_reducible apply kept_foldl; intro _ _ _) | with_reducible apply kept_updKick | (split) | (dsimp +zetaDelta only))

theorem kept_commitHost {s : State} (v) (x2) (hk : Kept Q F s) : Kept Q F (State.commitHost s v x2) := by
  unfold State.commitHost
  repeat' (first | with_reducible assumption | extract_lets | with_reducible apply kept_ite | with_reducible apply kept_next | (with_reducible apply kept_foldl; intro _ _ _) | with_reducible apply kept_reply | with_reducible apply kept_beginUpdate | (split) | (dsimp +zetaDelta only))

theorem kept_commitMaint {s : State} (v) (n) (hk : Kept Q F s) : Kept Q F (State.commitMaint s v n) := by
  unfold State.commitMaint
  repeat' (first | with_reducible assumption | extract_lets | with_reducible apply kept_ite | with_reducible apply kept_next | (with_reducible apply kept_foldl; intro _ _ _) | with_reducible apply kept_reply | with_reducible apply kept_beginUpdate | (split) | (dsimp +zetaDelta only))

theorem kept_commitUpdate {s : State} (v) (n) (hk : Kept Q F s) : Kept Q F (State.commitUpdate s v n) := by
  unfold State.commitUpdate
  repeat' (first | with_reducible assumption | extract_lets | with_reducible apply kept_ite | with_reducible apply kept_next | (with_reducible apply kept_foldl; intro _ _ _) | with_reducible apply kept_reply | with_reducible apply kept_commitHost | with_reducible apply kept_commitMaint | (split) | (dsimp +zetaDelta only))

theorem kept_commitMark {s : State} (v) (n) (hk : Kept Q F s) : Kept Q F (State.commitMark s v n) := by
  unfold State.commitMark
  repeat' (first | with_reducible assumption | extract_lets | with_reducible apply kept_ite | with_reducible apply kept_next | (with_reducible apply kept_foldl; intro _ _ _) | with_reducible apply kept_reply | with_reducible apply kept_beginUpdate | (split) | (dsimp +zetaDelta only))

theorem kept_execFirmwareCommitUpdate {s : State} (a) (action) (slot) (hk : Kept Q F s) : KeptO Q F (execFirmwareCommitUpdate a action slot s) := by
  unfold execFirmwareCommitUpdate
  repeat' (first | with_reducible assumption | extract_lets | with_reducible apply kept_ite | with_reducible apply kept_next | (with_reducible apply kept_foldl; intro _ _ _) | with_reducible apply kept_reply | (with_reducible apply kept_adminRun; intros) | with_reducible apply kept_commitUpdate | with_reducible apply kept_commitMark | (split) | (dsimp +zetaDelta only))

theorem kept_execFirmwareCommitMark {s : State} (a) (slot) (hk : Kept Q F s) : KeptO Q F (execFirmwareCommitMark a slot s) := by
  unfold execFirmwareCommitMark
  repeat' (first | with_reducible assumption | extract_lets | with_reducible apply kept_ite | with_reducible apply kept_next | (with_reducible apply kept_foldl; intro _ _ _) | (with_reducible apply kept_adminRun; intros) | with_reducible apply kept_commitMark | (split) | (dsimp +zetaDelta only))

theorem kept_stage {s : State} (offset) (data) (hk : Kept Q F s) : Kept Q F (State.stage s offset data) := by
  unfold State.stage
  repeat' (first | with_reducible assumption | extract_lets | with_reducible apply kept_ite | with_reducible apply kept_next | (with_reducible apply kept_foldl; intro _ _ _) | (split) | (dsimp +zetaDelta only))

theorem kept_begin0 {s : State} (v) (data) (hk : Kept Q F s) : Kept Q F (State.begin0 s v data) := by
  unfold State.begin0
  repeat' (first | with_reducible assumption | extract_lets | with_reducible apply kept_ite | with_reducible apply kept_next | (with_reducible apply kept_foldl; intro _ _ _) | with_reducible apply kept_reply | with_reducible apply kept_beginUpdate | with_reducible apply kept_stage | (split) | (dsimp +zetaDelta only))

theorem kept_downloadMaint {s : State} (v) (offset) (data) (hk : Kept Q F s) : Kept Q F (State.downloadMaint s v offset data) := by
  unfold State.downloadMaint
  repeat' (first | with_reducible assumption | extract_lets | with_reducible apply kept_ite | with_reducible apply kept_next | (with_reducible apply kept_foldl; intro _ _ _) | with_reducible apply kept_reply | with_reducible apply kept_beginUpdate | with_reducible apply kept_stage | with_reducible apply kept_begin0 | (split) | (dsimp +zetaDelta only))

theorem kept_execFirmwareImageDownload {s : State} (a) (offset) (length) (data) (hk : Kept Q F s) : KeptO Q F (execFirmwareImageDownload a offset length data s) := by
  unfold execFirmwareImageDownload
  repeat' (first | with_reducible assumption | extract_lets | with_reducible apply kept_ite | with_reducible apply kept_next | (with_reducible apply kept_foldl; intro _ _ _) | with_reducible apply kept_reply | (with_reducible apply kept_adminRun; intros) | with_reducible apply kept_stage | with_reducible apply kept_downloadMaint | (split) | (dsimp +zetaDelta only))

theorem kept_setQp {s : State} (i) (q) (hk : Kept Q F s) : Kept Q F (State.setQp s i q) := by
  unfold State.setQp
  repeat' (first | with_reducible assumption | extract_lets | with_reducible apply kept_ite | with_reducible apply kept_next | (with_reducible apply kept_foldl; intro _ _ _) | (split) | (dsimp +zetaDelta only))

theorem kept_execCmReq {s : State} (port) (src) (hk : Kept Q F s) : KeptO Q F (execCmReq port src s) := by
  unfold execCmReq
  repeat' (first | with_reducible assumption | extract_lets | with_reducible apply kept_ite | with_reducible apply kept_next | (with_reducible apply kept_foldl; intro _ _ _) | with_reducible apply kept_raise | with_reducible apply kept_sendFrame | with_reducible apply kept_setQp | (split) | (dsimp +zetaDelta only))

theorem kept_execCeMarkedPacket {s : State} (qp) (hk : Kept Q F s) : KeptO Q F (execCeMarkedPacket qp s) := by
  unfold execCeMarkedPacket
  repeat' (first | with_reducible assumption | extract_lets | with_reducible apply kept_ite | with_reducible apply kept_next | (with_reducible apply kept_foldl; intro _ _ _) | with_reducible apply kept_setPort | with_reducible apply kept_sendFrame | with_reducible apply kept_setQp | (split) | (dsimp +zetaDelta only))

theorem kept_execCnpReceive {s : State} (qp) (hk : Kept Q F s) : KeptO Q F (execCnpReceive qp s) := by
  unfold execCnpReceive
  repeat' (first | with_reducible assumption | extract_lets | with_reducible apply kept_ite | with_reducible apply kept_next | (with_reducible apply kept_foldl; intro _ _ _) | with_reducible apply kept_setQp | (split) | (dsimp +zetaDelta only))

theorem kept_execRateRecovery {s : State} (qp) (hk : Kept Q F s) : KeptO Q F (execRateRecovery qp s) := by
  unfold execRateRecovery
  repeat' (first | with_reducible assumption | extract_lets | with_reducible apply kept_ite | with_reducible apply kept_next | (with_reducible apply kept_foldl; intro _ _ _) | with_reducible apply kept_setQp | (split) | (dsimp +zetaDelta only))

theorem kept_execPfcPauseReceive {s : State} (port) (cnp) (hk : Kept Q F s) : KeptO Q F (execPfcPauseReceive port cnp s) := by
  unfold execPfcPauseReceive
  repeat' (first | with_reducible assumption | extract_lets | with_reducible apply kept_ite | with_reducible apply kept_next | (with_reducible apply kept_foldl; intro _ _ _) | with_reducible apply kept_setPort | (split) | (dsimp +zetaDelta only))

theorem kept_execPfcPauseExpiry {s : State} (port) (cnp) (hk : Kept Q F s) : KeptO Q F (execPfcPauseExpiry port cnp s) := by
  unfold execPfcPauseExpiry
  repeat' (first | with_reducible assumption | extract_lets | with_reducible apply kept_ite | with_reducible apply kept_next | (with_reducible apply kept_foldl; intro _ _ _) | with_reducible apply kept_setPort | with_reducible apply kept_sendFrame | (split) | (dsimp +zetaDelta only))

theorem kept_execPfcXon {s : State} (port) (bytes) (hk : Kept Q F s) : KeptO Q F (execPfcXon port bytes s) := by
  unfold execPfcXon
  repeat' (first | with_reducible assumption | extract_lets | with_reducible apply kept_ite | with_reducible apply kept_next | (with_reducible apply kept_foldl; intro _ _ _) | with_reducible apply kept_rxLevel | (split) | (dsimp +zetaDelta only))

theorem kept_execArpRequest {s : State} (port) (own) (hk : Kept Q F s) : KeptO Q F (execArpRequest port own s) := by
  unfold execArpRequest
  repeat' (first | with_reducible assumption | extract_lets | with_reducible apply kept_ite | with_reducible apply kept_next | (with_reducible apply kept_foldl; intro _ _ _) | with_reducible apply kept_sendFrame | (split) | (dsimp +zetaDelta only))

theorem kept_execNeighborDiscovery {s : State} (port) (own) (hk : Kept Q F s) : KeptO Q F (execNeighborDiscovery port own s) := by
  unfold execNeighborDiscovery
  repeat' (first | with_reducible assumption | extract_lets | with_reducible apply kept_ite | with_reducible apply kept_next | (with_reducible apply kept_foldl; intro _ _ _) | with_reducible apply kept_sendFrame | (split) | (dsimp +zetaDelta only))

theorem kept_execWakeFrame {s : State} (port) (form) (token) (roce) (hk : Kept Q F s) : KeptO Q F (execWakeFrame port form token roce s) := by
  unfold execWakeFrame
  repeat' (first | with_reducible assumption | extract_lets | with_reducible apply kept_ite | with_reducible apply kept_next | (with_reducible apply kept_foldl; intro _ _ _) | with_reducible apply kept_wakeEvent | (split) | (dsimp +zetaDelta only))

theorem kept_countFec {s : State} (p) (corr) (uncorr) (hk : Kept Q F s) : Kept Q F (State.countFec s p corr uncorr) := by
  unfold State.countFec
  repeat' (first | with_reducible assumption | extract_lets | with_reducible apply kept_ite | with_reducible apply kept_next | (with_reducible apply kept_foldl; intro _ _ _) | with_reducible apply kept_countFld | (split) | (dsimp +zetaDelta only))

theorem kept_execLinkUp {s : State} (port) (corr) (uncorr) (hk : Kept Q F s) : KeptO Q F (execLinkUp port corr uncorr s) := by
  unfold execLinkUp
  repeat' (first | with_reducible assumption | extract_lets | with_reducible apply kept_ite | with_reducible apply kept_next | (with_reducible apply kept_foldl; intro _ _ _) | with_reducible apply kept_setReg | with_reducible apply kept_countFec | (split) | (dsimp +zetaDelta only))

theorem kept_silence {s : State} (h) (hk : Kept Q F s) : Kept Q F (State.silence s h) := by
  unfold State.silence
  repeat' (first | with_reducible assumption | extract_lets | with_reducible apply kept_ite | with_reducible apply kept_next | (with_reducible apply kept_foldl; intro _ _ _) | with_reducible apply kept_setCmd | with_reducible apply kept_finish | (split) | (dsimp +zetaDelta only))

theorem kept_mintCut {s : State} (h) (hk : Kept Q F s) : Kept Q F (State.mintCut s h) := by
  unfold State.mintCut
  repeat' (first | with_reducible assumption | extract_lets | with_reducible apply kept_ite | with_reducible apply kept_next | (with_reducible apply kept_foldl; intro _ _ _) | with_reducible apply kept_toPost | with_reducible apply kept_freeLane | with_reducible apply kept_mintEnd | (split) | (dsimp +zetaDelta only))

theorem kept_failQps {s : State} (qs) (hk : Kept Q F s) : Kept Q F (State.failQps s qs) := by
  unfold State.failQps
  repeat' (first | with_reducible assumption | extract_lets | with_reducible apply kept_ite | with_reducible apply kept_next | (with_reducible apply kept_foldl; intro _ _ _) | with_reducible apply kept_kick | with_reducible apply kept_qpError | with_reducible apply kept_silence | with_reducible apply kept_mintCut | (split) | (dsimp +zetaDelta only))

theorem kept_execLinkDown {s : State} (port) (corr) (uncorr) (hk : Kept Q F s) : KeptO Q F (execLinkDown port corr uncorr s) := by
  unfold execLinkDown
  repeat' (first | with_reducible assumption | extract_lets | with_reducible apply kept_ite | with_reducible apply kept_next | (with_reducible apply kept_foldl; intro _ _ _) | with_reducible apply kept_setReg | with_reducible apply kept_setPort | with_reducible apply kept_raise | with_reducible apply kept_countFec | with_reducible apply kept_failQps | (split) | (dsimp +zetaDelta only))

theorem kept_execPcieLinkDown {s : State} (hk : Kept Q F s) : KeptO Q F (execPcieLinkDown s) := by
  unfold execPcieLinkDown
  repeat' (first | with_reducible assumption | extract_lets | with_reducible apply kept_ite | with_reducible apply kept_next | (with_reducible apply kept_foldl; intro _ _ _) | (split) | (dsimp +zetaDelta only))

theorem kept_execKeepAliveTimeout {s : State} (func) (hk : Kept Q F s) : KeptO Q F (execKeepAliveTimeout func s) := by
  unfold execKeepAliveTimeout
  repeat' (first | with_reducible assumption | extract_lets | with_reducible apply kept_ite | with_reducible apply kept_next | (with_reducible apply kept_foldl; intro _ _ _) | with_reducible apply kept_setCtrl | (split) | (dsimp +zetaDelta only))

theorem kept_fabricDone {s : State} (a) (qp) (cid) (x4) (dw0) (dw1) (hk : Kept Q F s) : Kept Q F (State.fabricDone s a qp cid x4 dw0 dw1) := by
  unfold State.fabricDone
  repeat' (first | with_reducible assumption | extract_lets | with_reducible apply kept_ite | with_reducible apply kept_next | (with_reducible apply kept_foldl; intro _ _ _) | (split) | (dsimp +zetaDelta only))

theorem kept_fabricRun {s : State} (qp) (p) (g) (hg : ∀ t q, Kept Q F t → Kept Q F (g t q)) (hk : Kept Q F s) : Kept Q F (State.fabricRun s qp p g) := by
  unfold State.fabricRun
  repeat' (first | with_reducible assumption | extract_lets | with_reducible apply kept_ite | with_reducible apply kept_next | (with_reducible apply kept_foldl; intro _ _ _) | with_reducible apply hg | with_reducible apply kept_sendFrame | with_reducible apply kept_keepAlive | (split) | (dsimp +zetaDelta only))

theorem kept_execFabricsConnect {s : State} (qp) (cid) (cntlid) (qid) (size) (hk : Kept Q F s) : KeptO Q F (execFabricsConnect qp cid cntlid qid size s) := by
  unfold execFabricsConnect
  repeat' (first | with_reducible assumption | extract_lets | with_reducible apply kept_ite | with_reducible apply kept_next | (with_reducible apply kept_foldl; intro _ _ _) | with_reducible apply kept_setQp | with_reducible apply kept_fabricDone | (with_reducible apply kept_fabricRun; intros) | (split) | (dsimp +zetaDelta only))

theorem kept_execPropertyGet {s : State} (qp) (cid) (offset) (hk : Kept Q F s) : KeptO Q F (execPropertyGet qp cid offset s) := by
  unfold execPropertyGet
  repeat' (first | with_reducible assumption | extract_lets | with_reducible apply kept_ite | with_reducible apply kept_next | (with_reducible apply kept_foldl; intro _ _ _) | with_reducible apply kept_fabricDone | (with_reducible apply kept_fabricRun; intros) | (split) | (dsimp +zetaDelta only))

theorem kept_writeCc {s : State} (f) (v) (hk : Kept Q F s) : Kept Q F (State.writeCc s f v) := by
  unfold State.writeCc
  repeat' (first | with_reducible assumption | extract_lets | with_reducible apply kept_ite | with_reducible apply kept_next | (with_reducible apply kept_foldl; intro _ _ _) | with_reducible apply kept_setCtrl | with_reducible apply kept_writeEnOff | with_reducible apply kept_writeEnOn | with_reducible apply kept_shutdownVf | with_reducible apply kept_shutdownPf | (split) | (dsimp +zetaDelta only))

theorem kept_execPropertySet {s : State} (qp) (cid) (offset) (value) (hk : Kept Q F s) : KeptO Q F (execPropertySet qp cid offset value s) := by
  unfold execPropertySet
  repeat' (first | with_reducible assumption | extract_lets | with_reducible apply kept_ite | with_reducible apply kept_next | (with_reducible apply kept_foldl; intro _ _ _) | with_reducible apply kept_restartRequest | with_reducible apply kept_fabricDone | (with_reducible apply kept_fabricRun; intros) | with_reducible apply kept_writeCc | (split) | (dsimp +zetaDelta only))

theorem kept_execDisconnect {s : State} (qp) (cid) (hk : Kept Q F s) : KeptO Q F (execDisconnect qp cid s) := by
  unfold execDisconnect
  repeat' (first | with_reducible assumption | extract_lets | with_reducible apply kept_ite | with_reducible apply kept_next | (with_reducible apply kept_foldl; intro _ _ _) | with_reducible apply kept_kick | with_reducible apply kept_setQp | with_reducible apply kept_silence | with_reducible apply kept_fabricDone | (with_reducible apply kept_fabricRun; intros) | (split) | (dsimp +zetaDelta only))

theorem kept_execPlanSelect {s : State} (a) (plan) (level) (hk : Kept Q F s) : KeptO Q F (execPlanSelect a plan level s) := by
  unfold execPlanSelect
  repeat' (first | with_reducible assumption | extract_lets | with_reducible apply kept_ite | with_reducible apply kept_next | (with_reducible apply kept_foldl; intro _ _ _) | with_reducible apply kept_planRequest | with_reducible apply kept_awaitPlan | (with_reducible apply kept_adminRun; intros) | (split) | (dsimp +zetaDelta only))

theorem kept_execPlanReqWrite {s : State} (who) (value) (hk : Kept Q F s) : KeptO Q F (execPlanReqWrite who value s) := by
  unfold execPlanReqWrite
  repeat' (first | with_reducible assumption | extract_lets | with_reducible apply kept_ite | with_reducible apply kept_next | (with_reducible apply kept_foldl; intro _ _ _) | with_reducible apply kept_planRequest | (split) | (dsimp +zetaDelta only))

theorem kept_execPlanStatus {s : State} (a) (hk : Kept Q F s) : KeptO Q F (execPlanStatus a s) := by
  unfold execPlanStatus
  repeat' (first | with_reducible assumption | extract_lets | with_reducible apply kept_ite | with_reducible apply kept_next | (with_reducible apply kept_foldl; intro _ _ _) | with_reducible apply kept_replyData | (with_reducible apply kept_adminRun; intros) | (split) | (dsimp +zetaDelta only))

theorem kept_execAccountQuiesce {s : State} (a) (account) (hk : Kept Q F s) : KeptO Q F (execAccountQuiesce a account s) := by
  unfold execAccountQuiesce
  repeat' (first | with_reducible assumption | extract_lets | with_reducible apply kept_ite | with_reducible apply kept_next | (with_reducible apply kept_foldl; intro _ _ _) | with_reducible apply kept_setAcct | with_reducible apply kept_reply | with_reducible apply kept_kick | with_reducible apply kept_startQuiesce | (with_reducible apply kept_adminRun; intros) | (split) | (dsimp +zetaDelta only))

theorem kept_resumeMember {s : State} (m) (hk : Kept Q F s) : Kept Q F (State.resumeMember s m) := by
  unfold State.resumeMember
  repeat' (first | with_reducible assumption | extract_lets | with_reducible apply kept_ite | with_reducible apply kept_next | (with_reducible apply kept_foldl; intro _ _ _) | with_reducible apply kept_setFld | with_reducible apply kept_setAcct | with_reducible apply kept_readyNow | (split) | (dsimp +zetaDelta only))

theorem kept_execAccountResume {s : State} (a) (account) (hk : Kept Q F s) : KeptO Q F (execAccountResume a account s) := by
  unfold execAccountResume
  repeat' (first | with_reducible assumption | extract_lets | with_reducible apply kept_ite | with_reducible apply kept_next | (with_reducible apply kept_foldl; intro _ _ _) | with_reducible apply kept_reply | with_reducible apply kept_kick | (with_reducible apply kept_adminRun; intros) | with_reducible apply kept_resumeMember | (split) | (dsimp +zetaDelta only))

theorem kept_execAccountBind {s : State} (a) (account) (x2) (hk : Kept Q F s) : KeptO Q F (execAccountBind a account x2 s) := by
  unfold execAccountBind
  repeat' (first | with_reducible assumption | extract_lets | with_reducible apply kept_ite | with_reducible apply kept_next | (with_reducible apply kept_foldl; intro _ _ _) | with_reducible apply kept_reply | with_reducible apply kept_kick | with_reducible apply kept_bindResult | with_reducible apply kept_bindNow | with_reducible apply kept_unbind | (with_reducible apply kept_adminRun; intros) | (split) | (dsimp +zetaDelta only))

theorem kept_execAccountQuery {s : State} (a) (account) (hk : Kept Q F s) : KeptO Q F (execAccountQuery a account s) := by
  unfold execAccountQuery
  repeat' (first | with_reducible assumption | extract_lets | with_reducible apply kept_ite | with_reducible apply kept_next | (with_reducible apply kept_foldl; intro _ _ _) | with_reducible apply kept_replyData | (with_reducible apply kept_adminRun; intros) | (split) | (dsimp +zetaDelta only))

theorem kept_execMediationReply {s : State} (a) (tag) (approve) (hk : Kept Q F s) : KeptO Q F (execMediationReply a tag approve s) := by
  unfold execMediationReply
  repeat' (first | with_reducible assumption | extract_lets | with_reducible apply kept_ite | with_reducible apply kept_next | (with_reducible apply kept_foldl; intro _ _ _) | with_reducible apply kept_reply | (with_reducible apply kept_adminRun; intros) | with_reducible apply kept_runMediated | (split) | (dsimp +zetaDelta only))

theorem kept_execMediationReceive {s : State} (a) (hk : Kept Q F s) : KeptO Q F (execMediationReceive a s) := by
  unfold execMediationReceive
  repeat' (first | with_reducible assumption | extract_lets | with_reducible apply kept_ite | with_reducible apply kept_next | (with_reducible apply kept_foldl; intro _ _ _) | with_reducible apply kept_reply | with_reducible apply kept_replyData | (with_reducible apply kept_adminRun; intros) | (split) | (dsimp +zetaDelta only))

theorem kept_execKeyLoad {s : State} (a) (slot) (k) (hk : Kept Q F s) : KeptO Q F (execKeyLoad a slot k s) := by
  unfold execKeyLoad
  repeat' (first | with_reducible assumption | extract_lets | with_reducible apply kept_ite | with_reducible apply kept_next | (with_reducible apply kept_foldl; intro _ _ _) | with_reducible apply kept_setSlot | with_reducible apply kept_raise | with_reducible apply kept_reply | (with_reducible apply kept_adminRun; intros) | (split) | (dsimp +zetaDelta only))

theorem kept_restartNow {s : State} (v) (why) (c) (hk : Kept Q F s) : Kept Q F (State.restartNow s v why c) := by
  unfold State.restartNow
  repeat' (first | with_reducible assumption | extract_lets | with_reducible apply kept_ite | with_reducible apply kept_next | (with_reducible apply kept_foldl; intro _ _ _) | with_reducible apply kept_reply | with_reducible apply kept_toStrap | with_reducible apply kept_restartRequest | (split) | (dsimp +zetaDelta only))

theorem kept_execRestart {s : State} (a) (auth) (hk : Kept Q F s) : KeptO Q F (execRestart a auth s) := by
  unfold execRestart
  repeat' (first | with_reducible assumption | extract_lets | with_reducible apply kept_ite | with_reducible apply kept_next | (with_reducible apply kept_foldl; intro _ _ _) | (with_reducible refine kept_authorise_eq (by assumption) ?_) | with_reducible apply kept_authorise | with_reducible apply kept_authReply | (with_reducible apply kept_adminRun; intros) | with_reducible apply kept_restartNow | (split) | (dsimp +zetaDelta only))

theorem kept_execMaintenanceRequest {s : State} (a) (auth) (hk : Kept Q F s) : KeptO Q F (execMaintenanceRequest a auth s) := by
  unfold execMaintenanceRequest
  repeat' (first | with_reducible assumption | extract_lets | with_reducible apply kept_ite | with_reducible apply kept_next | (with_reducible apply kept_foldl; intro _ _ _) | (with_reducible refine kept_authorise_eq (by assumption) ?_) | with_reducible apply kept_authorise | with_reducible apply kept_authReply | (with_reducible apply kept_adminRun; intros) | with_reducible apply kept_restartNow | (split) | (dsimp +zetaDelta only))

theorem kept_execReserveStatus {s : State} (a) (hk : Kept Q F s) : KeptO Q F (execReserveStatus a s) := by
  unfold execReserveStatus
  repeat' (first | with_reducible assumption | extract_lets | with_reducible apply kept_ite | with_reducible apply kept_next | (with_reducible apply kept_foldl; intro _ _ _) | with_reducible apply kept_replyData | (with_reducible apply kept_adminRun; intros) | (split) | (dsimp +zetaDelta only))

theorem kept_execCauseLeafSet {s : State} (l) (b) (hk : Kept Q F s) : KeptO Q F (execCauseLeafSet l b s) := by
  unfold execCauseLeafSet
  repeat' (first | with_reducible assumption | extract_lets | with_reducible apply kept_ite | with_reducible apply kept_next | (with_reducible apply kept_foldl; intro _ _ _) | with_reducible apply kept_raise | (split) | (dsimp +zetaDelta only))

theorem kept_execCauseLeafClear {s : State} (who) (l) (v) (hk : Kept Q F s) : KeptO Q F (execCauseLeafClear who l v s) := by
  unfold execCauseLeafClear
  repeat' (first | with_reducible assumption | extract_lets | with_reducible apply kept_ite | with_reducible apply kept_next | (with_reducible apply kept_foldl; intro _ _ _) | with_reducible apply kept_setReg | with_reducible apply kept_treeSync | (split) | (dsimp +zetaDelta only))

theorem kept_execAlertNUpdate {s : State} (hk : Kept Q F s) : KeptO Q F (execAlertNUpdate s) := by
  unfold execAlertNUpdate
  repeat' (first | with_reducible assumption | extract_lets | with_reducible apply kept_ite | with_reducible apply kept_next | (with_reducible apply kept_foldl; intro _ _ _) | (split) | (dsimp +zetaDelta only))

theorem kept_execEvtRecordProgram {s : State} (hk : Kept Q F s) : KeptO Q F (execEvtRecordProgram s) := by
  unfold execEvtRecordProgram
  repeat' (first | with_reducible assumption | extract_lets | with_reducible apply kept_ite | with_reducible apply kept_next | (with_reducible apply kept_foldl; intro _ _ _) | (split) | (dsimp +zetaDelta only))

theorem kept_storeRecs {s : State} (recs) (hk : Kept Q F s) : Kept Q F (State.storeRecs s recs) := by
  unfold State.storeRecs
  repeat' (first | with_reducible assumption | extract_lets | with_reducible apply kept_ite | with_reducible apply kept_next | (with_reducible apply kept_foldl; intro _ _ _) | (split) | (dsimp +zetaDelta only))

theorem kept_logFull {s : State} (hk : Kept Q F s) : Kept Q F (State.logFull s) := by
  unfold State.logFull
  repeat' (first | with_reducible assumption | extract_lets | with_reducible apply kept_ite | with_reducible apply kept_next | (with_reducible apply kept_foldl; intro _ _ _) | with_reducible apply kept_raise | (split) | (dsimp +zetaDelta only))

theorem kept_execEvtProgramDone {s : State} (ok) (hk : Kept Q F s) : KeptO Q F (execEvtProgramDone ok s) := by
  unfold execEvtProgramDone
  repeat' (first | with_reducible assumption | extract_lets | with_reducible apply kept_ite | with_reducible apply kept_next | (with_reducible apply kept_foldl; intro _ _ _) | with_reducible apply kept_raise | with_reducible apply kept_updResume | with_reducible apply kept_norKick | with_reducible apply kept_mpReset | with_reducible apply kept_storeRecs | with_reducible apply kept_logFull | (split) | (dsimp +zetaDelta only))

theorem kept_execEvtRdSelWrite {s : State} (who) (v) (hk : Kept Q F s) : KeptO Q F (execEvtRdSelWrite who v s) := by
  unfold execEvtRdSelWrite
  repeat' (first | with_reducible assumption | extract_lets | with_reducible apply kept_ite | with_reducible apply kept_next | (with_reducible apply kept_foldl; intro _ _ _) | with_reducible apply kept_setReg | with_reducible apply kept_rdLoad | (split) | (dsimp +zetaDelta only))

theorem kept_execTraceArm {s : State} (who) (v) (hk : Kept Q F s) : KeptO Q F (execTraceArm who v s) := by
  unfold execTraceArm
  repeat' (first | with_reducible assumption | extract_lets | with_reducible apply kept_ite | with_reducible apply kept_next | (with_reducible apply kept_foldl; intro _ _ _) | with_reducible apply kept_setReg | (split) | (dsimp +zetaDelta only))

theorem kept_execExtwaitClear {s : State} (who) (account) (hk : Kept Q F s) : KeptO Q F (execExtwaitClear who account s) := by
  unfold execExtwaitClear
  repeat' (first | with_reducible assumption | extract_lets | with_reducible apply kept_ite | with_reducible apply kept_next | (with_reducible apply kept_foldl; intro _ _ _) | with_reducible apply kept_setReg | (split) | (dsimp +zetaDelta only))

theorem kept_execTickLoRead {s : State} (who) (hk : Kept Q F s) : KeptO Q F (execTickLoRead who s) := by
  unfold execTickLoRead
  repeat' (first | with_reducible assumption | extract_lets | with_reducible apply kept_ite | with_reducible apply kept_next | (with_reducible apply kept_foldl; intro _ _ _) | (split) | (dsimp +zetaDelta only))

theorem kept_execTimeLoRead {s : State} (who) (hk : Kept Q F s) : KeptO Q F (execTimeLoRead who s) := by
  unfold execTimeLoRead
  repeat' (first | with_reducible assumption | extract_lets | with_reducible apply kept_ite | with_reducible apply kept_next | (with_reducible apply kept_foldl; intro _ _ _) | (split) | (dsimp +zetaDelta only))

theorem kept_barWrite {s : State} (f) (o) (v) (hk : Kept Q F s) : Kept Q F (State.barWrite s f o v) := by
  unfold State.barWrite
  repeat' (first | with_reducible assumption | extract_lets | with_reducible apply kept_ite | with_reducible apply kept_next | (with_reducible apply kept_foldl; intro _ _ _) | with_reducible apply kept_setCtrl | with_reducible apply kept_msixSend | with_reducible apply kept_writeCc | (split) | (dsimp +zetaDelta only))

theorem kept_noteWrite {s : State} (who) (o) (hk : Kept Q F s) : Kept Q F (State.noteWrite s who o) := by
  unfold State.noteWrite
  repeat' (first | with_reducible assumption | extract_lets | with_reducible apply kept_ite | with_reducible apply kept_next | (with_reducible apply kept_foldl; intro _ _ _) | (split) | (dsimp +zetaDelta only))

theorem kept_plainWrite {s : State} (who) (o) (v) (hk : Kept Q F s) : Kept Q F (State.plainWrite s who o v) := by
  unfold State.plainWrite
  repeat' (first | with_reducible assumption | extract_lets | with_reducible apply kept_ite | with_reducible apply kept_next | (with_reducible apply kept_foldl; intro _ _ _) | with_reducible apply kept_setReg | with_reducible apply kept_treeSync | with_reducible apply kept_noteWrite | (split) | (dsimp +zetaDelta only))

theorem kept_execRegisterWrite {s : State} (who) (o) (b) (hk : Kept Q F s) : KeptO Q F (execRegisterWrite who o b s) := by
  unfold execRegisterWrite
  repeat' (first | with_reducible assumption | extract_lets | with_reducible apply kept_ite | with_reducible apply kept_next | (with_reducible apply kept_foldl; intro _ _ _) | with_reducible apply kept_raise | with_reducible apply kept_writeChCtl | with_reducible apply kept_barWrite | with_reducible apply kept_plainWrite | (split) | (dsimp +zetaDelta only))

theorem kept_execTckEdge {s : State} (rising) (pins) (hk : Kept Q F s) : KeptO Q F (execTckEdge rising pins s) := by
  unfold execTckEdge
  repeat' (first | with_reducible assumption | extract_lets | with_reducible apply kept_ite | with_reducible apply kept_next | (with_reducible apply kept_foldl; intro _ _ _) | (split) | (dsimp +zetaDelta only))

theorem kept_execTrstNAssert {s : State} (hk : Kept Q F s) : KeptO Q F (execTrstNAssert s) := by
  unfold execTrstNAssert
  repeat' (first | with_reducible assumption | extract_lets | with_reducible apply kept_ite | with_reducible apply kept_next | (with_reducible apply kept_foldl; intro _ _ _) | (split) | (dsimp +zetaDelta only))

theorem kept_idle {s : State} (hk : Kept Q F s) : Kept Q F (idle s) := by
  unfold idle
  repeat' (first | with_reducible assumption | extract_lets | with_reducible apply kept_ite | with_reducible apply kept_next | (with_reducible apply kept_foldl; intro _ _ _) | with_reducible apply kept_tickOnce | (split) | (dsimp +zetaDelta only))

end Sys2Proof.Machine
end

