-- ==== Sys2Proof/Laws/State.lean ====
section
/-!
SUPPORT. What each named update of the state leaves unchanged, one lemma per field, and what it writes.
-/
namespace Sys2Proof.Machine

@[simp] theorem padTo_length (n : Nat) (bs : List Byte) : (padTo n bs).length = n := by
  simp [padTo]; omega

@[simp] theorem setReg_mode (s : State) (o : Nat) (w : Word) : (s.setReg o w).mode = s.mode := rfl
@[simp] theorem setReg_prevMode (s : State) (o : Nat) (w : Word) : (s.setReg o w).prevMode = s.prevMode := rfl
@[simp] theorem setReg_pins (s : State) (o : Nat) (w : Word) : (s.setReg o w).pins = s.pins := rfl
@[simp] theorem setReg_boot (s : State) (o : Nat) (w : Word) : (s.setReg o w).boot = s.boot := rfl
@[simp] theorem setReg_pwr (s : State) (o : Nat) (w : Word) : (s.setReg o w).pwr = s.pwr := rfl
@[simp] theorem setReg_thm (s : State) (o : Nat) (w : Word) : (s.setReg o w).thm = s.thm := rfl
@[simp] theorem setReg_loops (s : State) (o : Nat) (w : Word) : (s.setReg o w).loops = s.loops := rfl
@[simp] theorem setReg_nor (s : State) (o : Nat) (w : Word) : (s.setReg o w).nor = s.nor := rfl
@[simp] theorem setReg_evt (s : State) (o : Nat) (w : Word) : (s.setReg o w).evt = s.evt := rfl
@[simp] theorem setReg_mgt (s : State) (o : Nat) (w : Word) : (s.setReg o w).mgt = s.mgt := rfl
@[simp] theorem setReg_ldg (s : State) (o : Nat) (w : Word) : (s.setReg o w).ldg = s.ldg := rfl
@[simp] theorem setReg_med (s : State) (o : Nat) (w : Word) : (s.setReg o w).med = s.med := rfl
@[simp] theorem setReg_db (s : State) (o : Nat) (w : Word) : (s.setReg o w).db = s.db := rfl
@[simp] theorem setReg_rsv (s : State) (o : Nat) (w : Word) : (s.setReg o w).rsv = s.rsv := rfl
@[simp] theorem setReg_host (s : State) (o : Nat) (w : Word) : (s.setReg o w).host = s.host := rfl
@[simp] theorem setReg_xfr (s : State) (o : Nat) (w : Word) : (s.setReg o w).xfr = s.xfr := rfl
@[simp] theorem setReg_mem (s : State) (o : Nat) (w : Word) : (s.setReg o w).mem = s.mem := rfl
@[simp] theorem setReg_cry (s : State) (o : Nat) (w : Word) : (s.setReg o w).cry = s.cry := rfl
@[simp] theorem setReg_net (s : State) (o : Nat) (w : Word) : (s.setReg o w).net = s.net := rfl
@[simp] theorem setReg_mnt (s : State) (o : Nat) (w : Word) : (s.setReg o w).mnt = s.mnt := rfl
@[simp] theorem setReg_jtag (s : State) (o : Nat) (w : Word) : (s.setReg o w).jtag = s.jtag := rfl
@[simp] theorem setReg_freeCount (s : State) (o : Nat) (w : Word) : (s.setReg o w).freeCount = s.freeCount := rfl
@[simp] theorem setReg_pending (s : State) (o : Nat) (w : Word) : (s.setReg o w).pending = s.pending := rfl

@[simp] theorem resetRegs_mode (s : State) (p : Nat → Bool) : (s.resetRegs p).mode = s.mode := rfl
@[simp] theorem resetRegs_prevMode (s : State) (p : Nat → Bool) : (s.resetRegs p).prevMode = s.prevMode := rfl
@[simp] theorem resetRegs_pins (s : State) (p : Nat → Bool) : (s.resetRegs p).pins = s.pins := rfl
@[simp] theorem resetRegs_boot (s : State) (p : Nat → Bool) : (s.resetRegs p).boot = s.boot := rfl
@[simp] theorem resetRegs_pwr (s : State) (p : Nat → Bool) : (s.resetRegs p).pwr = s.pwr := rfl
@[simp] theorem resetRegs_thm (s : State) (p : Nat → Bool) : (s.resetRegs p).thm = s.thm := rfl
@[simp] theorem resetRegs_loops (s : State) (p : Nat → Bool) : (s.resetRegs p).loops = s.loops := rfl
@[simp] theorem resetRegs_nor (s : State) (p : Nat → Bool) : (s.resetRegs p).nor = s.nor := rfl
@[simp] theorem resetRegs_evt (s : State) (p : Nat → Bool) : (s.resetRegs p).evt = s.evt := rfl
@[simp] theorem resetRegs_mgt (s : State) (p : Nat → Bool) : (s.resetRegs p).mgt = s.mgt := rfl
@[simp] theorem resetRegs_ldg (s : State) (p : Nat → Bool) : (s.resetRegs p).ldg = s.ldg := rfl
@[simp] theorem resetRegs_med (s : State) (p : Nat → Bool) : (s.resetRegs p).med = s.med := rfl
@[simp] theorem resetRegs_db (s : State) (p : Nat → Bool) : (s.resetRegs p).db = s.db := rfl
@[simp] theorem resetRegs_rsv (s : State) (p : Nat → Bool) : (s.resetRegs p).rsv = s.rsv := rfl
@[simp] theorem resetRegs_host (s : State) (p : Nat → Bool) : (s.resetRegs p).host = s.host := rfl
@[simp] theorem resetRegs_xfr (s : State) (p : Nat → Bool) : (s.resetRegs p).xfr = s.xfr := rfl
@[simp] theorem resetRegs_mem (s : State) (p : Nat → Bool) : (s.resetRegs p).mem = s.mem := rfl
@[simp] theorem resetRegs_cry (s : State) (p : Nat → Bool) : (s.resetRegs p).cry = s.cry := rfl
@[simp] theorem resetRegs_net (s : State) (p : Nat → Bool) : (s.resetRegs p).net = s.net := rfl
@[simp] theorem resetRegs_mnt (s : State) (p : Nat → Bool) : (s.resetRegs p).mnt = s.mnt := rfl
@[simp] theorem resetRegs_jtag (s : State) (p : Nat → Bool) : (s.resetRegs p).jtag = s.jtag := rfl
@[simp] theorem resetRegs_freeCount (s : State) (p : Nat → Bool) : (s.resetRegs p).freeCount = s.freeCount := rfl
@[simp] theorem resetRegs_pending (s : State) (p : Nat → Bool) : (s.resetRegs p).pending = s.pending := rfl

@[simp] theorem setFld_mode (s : State) (o lo n v : Nat) : (s.setFld o lo n v).mode = s.mode := rfl
@[simp] theorem setFld_prevMode (s : State) (o lo n v : Nat) : (s.setFld o lo n v).prevMode = s.prevMode := rfl
@[simp] theorem setFld_pins (s : State) (o lo n v : Nat) : (s.setFld o lo n v).pins = s.pins := rfl
@[simp] theorem setFld_boot (s : State) (o lo n v : Nat) : (s.setFld o lo n v).boot = s.boot := rfl
@[simp] theorem setFld_pwr (s : State) (o lo n v : Nat) : (s.setFld o lo n v).pwr = s.pwr := rfl
@[simp] theorem setFld_thm (s : State) (o lo n v : Nat) : (s.setFld o lo n v).thm = s.thm := rfl
@[simp] theorem setFld_loops (s : State) (o lo n v : Nat) : (s.setFld o lo n v).loops = s.loops := rfl
@[simp] theorem setFld_nor (s : State) (o lo n v : Nat) : (s.setFld o lo n v).nor = s.nor := rfl
@[simp] theorem setFld_evt (s : State) (o lo n v : Nat) : (s.setFld o lo n v).evt = s.evt := rfl
@[simp] theorem setFld_mgt (s : State) (o lo n v : Nat) : (s.setFld o lo n v).mgt = s.mgt := rfl
@[simp] theorem setFld_ldg (s : State) (o lo n v : Nat) : (s.setFld o lo n v).ldg = s.ldg := rfl
@[simp] theorem setFld_med (s : State) (o lo n v : Nat) : (s.setFld o lo n v).med = s.med := rfl
@[simp] theorem setFld_db (s : State) (o lo n v : Nat) : (s.setFld o lo n v).db = s.db := rfl
@[simp] theorem setFld_rsv (s : State) (o lo n v : Nat) : (s.setFld o lo n v).rsv = s.rsv := rfl
@[simp] theorem setFld_host (s : State) (o lo n v : Nat) : (s.setFld o lo n v).host = s.host := rfl
@[simp] theorem setFld_xfr (s : State) (o lo n v : Nat) : (s.setFld o lo n v).xfr = s.xfr := rfl
@[simp] theorem setFld_mem (s : State) (o lo n v : Nat) : (s.setFld o lo n v).mem = s.mem := rfl
@[simp] theorem setFld_cry (s : State) (o lo n v : Nat) : (s.setFld o lo n v).cry = s.cry := rfl
@[simp] theorem setFld_net (s : State) (o lo n v : Nat) : (s.setFld o lo n v).net = s.net := rfl
@[simp] theorem setFld_mnt (s : State) (o lo n v : Nat) : (s.setFld o lo n v).mnt = s.mnt := rfl
@[simp] theorem setFld_jtag (s : State) (o lo n v : Nat) : (s.setFld o lo n v).jtag = s.jtag := rfl
@[simp] theorem setFld_freeCount (s : State) (o lo n v : Nat) : (s.setFld o lo n v).freeCount = s.freeCount := rfl
@[simp] theorem setFld_pending (s : State) (o lo n v : Nat) : (s.setFld o lo n v).pending = s.pending := rfl

@[simp] theorem countFld_mode (s : State) (o lo n v : Nat) : (s.countFld o lo n v).mode = s.mode := rfl
@[simp] theorem countFld_prevMode (s : State) (o lo n v : Nat) : (s.countFld o lo n v).prevMode = s.prevMode := rfl
@[simp] theorem countFld_pins (s : State) (o lo n v : Nat) : (s.countFld o lo n v).pins = s.pins := rfl
@[simp] theorem countFld_boot (s : State) (o lo n v : Nat) : (s.countFld o lo n v).boot = s.boot := rfl
@[simp] theorem countFld_pwr (s : State) (o lo n v : Nat) : (s.countFld o lo n v).pwr = s.pwr := rfl
@[simp] theorem countFld_thm (s : State) (o lo n v : Nat) : (s.countFld o lo n v).thm = s.thm := rfl
@[simp] theorem countFld_loops (s : State) (o lo n v : Nat) : (s.countFld o lo n v).loops = s.loops := rfl
@[simp] theorem countFld_nor (s : State) (o lo n v : Nat) : (s.countFld o lo n v).nor = s.nor := rfl
@[simp] theorem countFld_evt (s : State) (o lo n v : Nat) : (s.countFld o lo n v).evt = s.evt := rfl
@[simp] theorem countFld_mgt (s : State) (o lo n v : Nat) : (s.countFld o lo n v).mgt = s.mgt := rfl
@[simp] theorem countFld_ldg (s : State) (o lo n v : Nat) : (s.countFld o lo n v).ldg = s.ldg := rfl
@[simp] theorem countFld_med (s : State) (o lo n v : Nat) : (s.countFld o lo n v).med = s.med := rfl
@[simp] theorem countFld_db (s : State) (o lo n v : Nat) : (s.countFld o lo n v).db = s.db := rfl
@[simp] theorem countFld_rsv (s : State) (o lo n v : Nat) : (s.countFld o lo n v).rsv = s.rsv := rfl
@[simp] theorem countFld_host (s : State) (o lo n v : Nat) : (s.countFld o lo n v).host = s.host := rfl
@[simp] theorem countFld_xfr (s : State) (o lo n v : Nat) : (s.countFld o lo n v).xfr = s.xfr := rfl
@[simp] theorem countFld_mem (s : State) (o lo n v : Nat) : (s.countFld o lo n v).mem = s.mem := rfl
@[simp] theorem countFld_cry (s : State) (o lo n v : Nat) : (s.countFld o lo n v).cry = s.cry := rfl
@[simp] theorem countFld_net (s : State) (o lo n v : Nat) : (s.countFld o lo n v).net = s.net := rfl
@[simp] theorem countFld_mnt (s : State) (o lo n v : Nat) : (s.countFld o lo n v).mnt = s.mnt := rfl
@[simp] theorem countFld_jtag (s : State) (o lo n v : Nat) : (s.countFld o lo n v).jtag = s.jtag := rfl
@[simp] theorem countFld_freeCount (s : State) (o lo n v : Nat) : (s.countFld o lo n v).freeCount = s.freeCount := rfl
@[simp] theorem countFld_pending (s : State) (o lo n v : Nat) : (s.countFld o lo n v).pending = s.pending := rfl

@[simp] theorem setCtrl_regs (s : State) (f : Nat) (x : Ctrl) : (s.setCtrl f x).regs = s.regs := rfl
@[simp] theorem setCtrl_mode (s : State) (f : Nat) (x : Ctrl) : (s.setCtrl f x).mode = s.mode := rfl
@[simp] theorem setCtrl_prevMode (s : State) (f : Nat) (x : Ctrl) : (s.setCtrl f x).prevMode = s.prevMode := rfl
@[simp] theorem setCtrl_pins (s : State) (f : Nat) (x : Ctrl) : (s.setCtrl f x).pins = s.pins := rfl
@[simp] theorem setCtrl_boot (s : State) (f : Nat) (x : Ctrl) : (s.setCtrl f x).boot = s.boot := rfl
@[simp] theorem setCtrl_pwr (s : State) (f : Nat) (x : Ctrl) : (s.setCtrl f x).pwr = s.pwr := rfl
@[simp] theorem setCtrl_thm (s : State) (f : Nat) (x : Ctrl) : (s.setCtrl f x).thm = s.thm := rfl
@[simp] theorem setCtrl_loops (s : State) (f : Nat) (x : Ctrl) : (s.setCtrl f x).loops = s.loops := rfl
@[simp] theorem setCtrl_nor (s : State) (f : Nat) (x : Ctrl) : (s.setCtrl f x).nor = s.nor := rfl
@[simp] theorem setCtrl_evt (s : State) (f : Nat) (x : Ctrl) : (s.setCtrl f x).evt = s.evt := rfl
@[simp] theorem setCtrl_mgt (s : State) (f : Nat) (x : Ctrl) : (s.setCtrl f x).mgt = s.mgt := rfl
@[simp] theorem setCtrl_ldg (s : State) (f : Nat) (x : Ctrl) : (s.setCtrl f x).ldg = s.ldg := rfl
@[simp] theorem setCtrl_med (s : State) (f : Nat) (x : Ctrl) : (s.setCtrl f x).med = s.med := rfl
@[simp] theorem setCtrl_db (s : State) (f : Nat) (x : Ctrl) : (s.setCtrl f x).db = s.db := rfl
@[simp] theorem setCtrl_rsv (s : State) (f : Nat) (x : Ctrl) : (s.setCtrl f x).rsv = s.rsv := rfl
@[simp] theorem setCtrl_xfr (s : State) (f : Nat) (x : Ctrl) : (s.setCtrl f x).xfr = s.xfr := rfl
@[simp] theorem setCtrl_mem (s : State) (f : Nat) (x : Ctrl) : (s.setCtrl f x).mem = s.mem := rfl
@[simp] theorem setCtrl_cry (s : State) (f : Nat) (x : Ctrl) : (s.setCtrl f x).cry = s.cry := rfl
@[simp] theorem setCtrl_net (s : State) (f : Nat) (x : Ctrl) : (s.setCtrl f x).net = s.net := rfl
@[simp] theorem setCtrl_mnt (s : State) (f : Nat) (x : Ctrl) : (s.setCtrl f x).mnt = s.mnt := rfl
@[simp] theorem setCtrl_jtag (s : State) (f : Nat) (x : Ctrl) : (s.setCtrl f x).jtag = s.jtag := rfl
@[simp] theorem setCtrl_freeCount (s : State) (f : Nat) (x : Ctrl) : (s.setCtrl f x).freeCount = s.freeCount := rfl
@[simp] theorem setCtrl_pending (s : State) (f : Nat) (x : Ctrl) : (s.setCtrl f x).pending = s.pending := rfl

@[simp] theorem setAcct_regs (s : State) (a : Nat) (x : Acct) : (s.setAcct a x).regs = s.regs := rfl
@[simp] theorem setAcct_mode (s : State) (a : Nat) (x : Acct) : (s.setAcct a x).mode = s.mode := rfl
@[simp] theorem setAcct_prevMode (s : State) (a : Nat) (x : Acct) : (s.setAcct a x).prevMode = s.prevMode := rfl
@[simp] theorem setAcct_pins (s : State) (a : Nat) (x : Acct) : (s.setAcct a x).pins = s.pins := rfl
@[simp] theorem setAcct_boot (s : State) (a : Nat) (x : Acct) : (s.setAcct a x).boot = s.boot := rfl
@[simp] theorem setAcct_pwr (s : State) (a : Nat) (x : Acct) : (s.setAcct a x).pwr = s.pwr := rfl
@[simp] theorem setAcct_thm (s : State) (a : Nat) (x : Acct) : (s.setAcct a x).thm = s.thm := rfl
@[simp] theorem setAcct_loops (s : State) (a : Nat) (x : Acct) : (s.setAcct a x).loops = s.loops := rfl
@[simp] theorem setAcct_nor (s : State) (a : Nat) (x : Acct) : (s.setAcct a x).nor = s.nor := rfl
@[simp] theorem setAcct_evt (s : State) (a : Nat) (x : Acct) : (s.setAcct a x).evt = s.evt := rfl
@[simp] theorem setAcct_mgt (s : State) (a : Nat) (x : Acct) : (s.setAcct a x).mgt = s.mgt := rfl
@[simp] theorem setAcct_ldg (s : State) (a : Nat) (x : Acct) : (s.setAcct a x).ldg = s.ldg := rfl
@[simp] theorem setAcct_med (s : State) (a : Nat) (x : Acct) : (s.setAcct a x).med = s.med := rfl
@[simp] theorem setAcct_db (s : State) (a : Nat) (x : Acct) : (s.setAcct a x).db = s.db := rfl
@[simp] theorem setAcct_rsv (s : State) (a : Nat) (x : Acct) : (s.setAcct a x).rsv = s.rsv := rfl
@[simp] theorem setAcct_xfr (s : State) (a : Nat) (x : Acct) : (s.setAcct a x).xfr = s.xfr := rfl
@[simp] theorem setAcct_mem (s : State) (a : Nat) (x : Acct) : (s.setAcct a x).mem = s.mem := rfl
@[simp] theorem setAcct_cry (s : State) (a : Nat) (x : Acct) : (s.setAcct a x).cry = s.cry := rfl
@[simp] theorem setAcct_net (s : State) (a : Nat) (x : Acct) : (s.setAcct a x).net = s.net := rfl
@[simp] theorem setAcct_mnt (s : State) (a : Nat) (x : Acct) : (s.setAcct a x).mnt = s.mnt := rfl
@[simp] theorem setAcct_jtag (s : State) (a : Nat) (x : Acct) : (s.setAcct a x).jtag = s.jtag := rfl
@[simp] theorem setAcct_freeCount (s : State) (a : Nat) (x : Acct) : (s.setAcct a x).freeCount = s.freeCount := rfl
@[simp] theorem setAcct_pending (s : State) (a : Nat) (x : Acct) : (s.setAcct a x).pending = s.pending := rfl

@[simp] theorem setDie_regs (s : State) (d : Nat) (x : DieRt) : (s.setDie d x).regs = s.regs := rfl
@[simp] theorem setDie_mode (s : State) (d : Nat) (x : DieRt) : (s.setDie d x).mode = s.mode := rfl
@[simp] theorem setDie_prevMode (s : State) (d : Nat) (x : DieRt) : (s.setDie d x).prevMode = s.prevMode := rfl
@[simp] theorem setDie_pins (s : State) (d : Nat) (x : DieRt) : (s.setDie d x).pins = s.pins := rfl
@[simp] theorem setDie_boot (s : State) (d : Nat) (x : DieRt) : (s.setDie d x).boot = s.boot := rfl
@[simp] theorem setDie_pwr (s : State) (d : Nat) (x : DieRt) : (s.setDie d x).pwr = s.pwr := rfl
@[simp] theorem setDie_thm (s : State) (d : Nat) (x : DieRt) : (s.setDie d x).thm = s.thm := rfl
@[simp] theorem setDie_loops (s : State) (d : Nat) (x : DieRt) : (s.setDie d x).loops = s.loops := rfl
@[simp] theorem setDie_nor (s : State) (d : Nat) (x : DieRt) : (s.setDie d x).nor = s.nor := rfl
@[simp] theorem setDie_evt (s : State) (d : Nat) (x : DieRt) : (s.setDie d x).evt = s.evt := rfl
@[simp] theorem setDie_mgt (s : State) (d : Nat) (x : DieRt) : (s.setDie d x).mgt = s.mgt := rfl
@[simp] theorem setDie_med (s : State) (d : Nat) (x : DieRt) : (s.setDie d x).med = s.med := rfl
@[simp] theorem setDie_db (s : State) (d : Nat) (x : DieRt) : (s.setDie d x).db = s.db := rfl
@[simp] theorem setDie_rsv (s : State) (d : Nat) (x : DieRt) : (s.setDie d x).rsv = s.rsv := rfl
@[simp] theorem setDie_host (s : State) (d : Nat) (x : DieRt) : (s.setDie d x).host = s.host := rfl
@[simp] theorem setDie_xfr (s : State) (d : Nat) (x : DieRt) : (s.setDie d x).xfr = s.xfr := rfl
@[simp] theorem setDie_mem (s : State) (d : Nat) (x : DieRt) : (s.setDie d x).mem = s.mem := rfl
@[simp] theorem setDie_cry (s : State) (d : Nat) (x : DieRt) : (s.setDie d x).cry = s.cry := rfl
@[simp] theorem setDie_net (s : State) (d : Nat) (x : DieRt) : (s.setDie d x).net = s.net := rfl
@[simp] theorem setDie_mnt (s : State) (d : Nat) (x : DieRt) : (s.setDie d x).mnt = s.mnt := rfl
@[simp] theorem setDie_jtag (s : State) (d : Nat) (x : DieRt) : (s.setDie d x).jtag = s.jtag := rfl
@[simp] theorem setDie_freeCount (s : State) (d : Nat) (x : DieRt) : (s.setDie d x).freeCount = s.freeCount := rfl
@[simp] theorem setDie_pending (s : State) (d : Nat) (x : DieRt) : (s.setDie d x).pending = s.pending := rfl

@[simp] theorem setDieMed_regs (s : State) (d : Nat) (x : DieMed) : (s.setDieMed d x).regs = s.regs := rfl
@[simp] theorem setDieMed_mode (s : State) (d : Nat) (x : DieMed) : (s.setDieMed d x).mode = s.mode := rfl
@[simp] theorem setDieMed_prevMode (s : State) (d : Nat) (x : DieMed) : (s.setDieMed d x).prevMode = s.prevMode := rfl
@[simp] theorem setDieMed_pins (s : State) (d : Nat) (x : DieMed) : (s.setDieMed d x).pins = s.pins := rfl
@[simp] theorem setDieMed_boot (s : State) (d : Nat) (x : DieMed) : (s.setDieMed d x).boot = s.boot := rfl
@[simp] theorem setDieMed_pwr (s : State) (d : Nat) (x : DieMed) : (s.setDieMed d x).pwr = s.pwr := rfl
@[simp] theorem setDieMed_thm (s : State) (d : Nat) (x : DieMed) : (s.setDieMed d x).thm = s.thm := rfl
@[simp] theorem setDieMed_loops (s : State) (d : Nat) (x : DieMed) : (s.setDieMed d x).loops = s.loops := rfl
@[simp] theorem setDieMed_nor (s : State) (d : Nat) (x : DieMed) : (s.setDieMed d x).nor = s.nor := rfl
@[simp] theorem setDieMed_evt (s : State) (d : Nat) (x : DieMed) : (s.setDieMed d x).evt = s.evt := rfl
@[simp] theorem setDieMed_mgt (s : State) (d : Nat) (x : DieMed) : (s.setDieMed d x).mgt = s.mgt := rfl
@[simp] theorem setDieMed_ldg (s : State) (d : Nat) (x : DieMed) : (s.setDieMed d x).ldg = s.ldg := rfl
@[simp] theorem setDieMed_db (s : State) (d : Nat) (x : DieMed) : (s.setDieMed d x).db = s.db := rfl
@[simp] theorem setDieMed_rsv (s : State) (d : Nat) (x : DieMed) : (s.setDieMed d x).rsv = s.rsv := rfl
@[simp] theorem setDieMed_host (s : State) (d : Nat) (x : DieMed) : (s.setDieMed d x).host = s.host := rfl
@[simp] theorem setDieMed_xfr (s : State) (d : Nat) (x : DieMed) : (s.setDieMed d x).xfr = s.xfr := rfl
@[simp] theorem setDieMed_mem (s : State) (d : Nat) (x : DieMed) : (s.setDieMed d x).mem = s.mem := rfl
@[simp] theorem setDieMed_cry (s : State) (d : Nat) (x : DieMed) : (s.setDieMed d x).cry = s.cry := rfl
@[simp] theorem setDieMed_net (s : State) (d : Nat) (x : DieMed) : (s.setDieMed d x).net = s.net := rfl
@[simp] theorem setDieMed_mnt (s : State) (d : Nat) (x : DieMed) : (s.setDieMed d x).mnt = s.mnt := rfl
@[simp] theorem setDieMed_jtag (s : State) (d : Nat) (x : DieMed) : (s.setDieMed d x).jtag = s.jtag := rfl
@[simp] theorem setDieMed_freeCount (s : State) (d : Nat) (x : DieMed) : (s.setDieMed d x).freeCount = s.freeCount := rfl
@[simp] theorem setDieMed_pending (s : State) (d : Nat) (x : DieMed) : (s.setDieMed d x).pending = s.pending := rfl

@[simp] theorem setZone_regs (s : State) (z : Nat) (x : Zone) : (s.setZone z x).regs = s.regs := rfl
@[simp] theorem setZone_mode (s : State) (z : Nat) (x : Zone) : (s.setZone z x).mode = s.mode := rfl
@[simp] theorem setZone_prevMode (s : State) (z : Nat) (x : Zone) : (s.setZone z x).prevMode = s.prevMode := rfl
@[simp] theorem setZone_pins (s : State) (z : Nat) (x : Zone) : (s.setZone z x).pins = s.pins := rfl
@[simp] theorem setZone_boot (s : State) (z : Nat) (x : Zone) : (s.setZone z x).boot = s.boot := rfl
@[simp] theorem setZone_pwr (s : State) (z : Nat) (x : Zone) : (s.setZone z x).pwr = s.pwr := rfl
@[simp] theorem setZone_thm (s : State) (z : Nat) (x : Zone) : (s.setZone z x).thm = s.thm := rfl
@[simp] theorem setZone_loops (s : State) (z : Nat) (x : Zone) : (s.setZone z x).loops = s.loops := rfl
@[simp] theorem setZone_nor (s : State) (z : Nat) (x : Zone) : (s.setZone z x).nor = s.nor := rfl
@[simp] theorem setZone_evt (s : State) (z : Nat) (x : Zone) : (s.setZone z x).evt = s.evt := rfl
@[simp] theorem setZone_mgt (s : State) (z : Nat) (x : Zone) : (s.setZone z x).mgt = s.mgt := rfl
@[simp] theorem setZone_ldg (s : State) (z : Nat) (x : Zone) : (s.setZone z x).ldg = s.ldg := rfl
@[simp] theorem setZone_db (s : State) (z : Nat) (x : Zone) : (s.setZone z x).db = s.db := rfl
@[simp] theorem setZone_rsv (s : State) (z : Nat) (x : Zone) : (s.setZone z x).rsv = s.rsv := rfl
@[simp] theorem setZone_host (s : State) (z : Nat) (x : Zone) : (s.setZone z x).host = s.host := rfl
@[simp] theorem setZone_xfr (s : State) (z : Nat) (x : Zone) : (s.setZone z x).xfr = s.xfr := rfl
@[simp] theorem setZone_mem (s : State) (z : Nat) (x : Zone) : (s.setZone z x).mem = s.mem := rfl
@[simp] theorem setZone_cry (s : State) (z : Nat) (x : Zone) : (s.setZone z x).cry = s.cry := rfl
@[simp] theorem setZone_net (s : State) (z : Nat) (x : Zone) : (s.setZone z x).net = s.net := rfl
@[simp] theorem setZone_mnt (s : State) (z : Nat) (x : Zone) : (s.setZone z x).mnt = s.mnt := rfl
@[simp] theorem setZone_jtag (s : State) (z : Nat) (x : Zone) : (s.setZone z x).jtag = s.jtag := rfl
@[simp] theorem setZone_freeCount (s : State) (z : Nat) (x : Zone) : (s.setZone z x).freeCount = s.freeCount := rfl
@[simp] theorem setZone_pending (s : State) (z : Nat) (x : Zone) : (s.setZone z x).pending = s.pending := rfl

@[simp] theorem setBlock_regs (s : State) (d b : Nat) (x : Block) : (s.setBlock d b x).regs = s.regs := rfl
@[simp] theorem setBlock_mode (s : State) (d b : Nat) (x : Block) : (s.setBlock d b x).mode = s.mode := rfl
@[simp] theorem setBlock_prevMode (s : State) (d b : Nat) (x : Block) : (s.setBlock d b x).prevMode = s.prevMode := rfl
@[simp] theorem setBlock_pins (s : State) (d b : Nat) (x : Block) : (s.setBlock d b x).pins = s.pins := rfl
@[simp] theorem setBlock_boot (s : State) (d b : Nat) (x : Block) : (s.setBlock d b x).boot = s.boot := rfl
@[simp] theorem setBlock_pwr (s : State) (d b : Nat) (x : Block) : (s.setBlock d b x).pwr = s.pwr := rfl
@[simp] theorem setBlock_thm (s : State) (d b : Nat) (x : Block) : (s.setBlock d b x).thm = s.thm := rfl
@[simp] theorem setBlock_loops (s : State) (d b : Nat) (x : Block) : (s.setBlock d b x).loops = s.loops := rfl
@[simp] theorem setBlock_nor (s : State) (d b : Nat) (x : Block) : (s.setBlock d b x).nor = s.nor := rfl
@[simp] theorem setBlock_evt (s : State) (d b : Nat) (x : Block) : (s.setBlock d b x).evt = s.evt := rfl
@[simp] theorem setBlock_mgt (s : State) (d b : Nat) (x : Block) : (s.setBlock d b x).mgt = s.mgt := rfl
@[simp] theorem setBlock_ldg (s : State) (d b : Nat) (x : Block) : (s.setBlock d b x).ldg = s.ldg := rfl
@[simp] theorem setBlock_db (s : State) (d b : Nat) (x : Block) : (s.setBlock d b x).db = s.db := rfl
@[simp] theorem setBlock_rsv (s : State) (d b : Nat) (x : Block) : (s.setBlock d b x).rsv = s.rsv := rfl
@[simp] theorem setBlock_host (s : State) (d b : Nat) (x : Block) : (s.setBlock d b x).host = s.host := rfl
@[simp] theorem setBlock_xfr (s : State) (d b : Nat) (x : Block) : (s.setBlock d b x).xfr = s.xfr := rfl
@[simp] theorem setBlock_mem (s : State) (d b : Nat) (x : Block) : (s.setBlock d b x).mem = s.mem := rfl
@[simp] theorem setBlock_cry (s : State) (d b : Nat) (x : Block) : (s.setBlock d b x).cry = s.cry := rfl
@[simp] theorem setBlock_net (s : State) (d b : Nat) (x : Block) : (s.setBlock d b x).net = s.net := rfl
@[simp] theorem setBlock_mnt (s : State) (d b : Nat) (x : Block) : (s.setBlock d b x).mnt = s.mnt := rfl
@[simp] theorem setBlock_jtag (s : State) (d b : Nat) (x : Block) : (s.setBlock d b x).jtag = s.jtag := rfl
@[simp] theorem setBlock_freeCount (s : State) (d b : Nat) (x : Block) : (s.setBlock d b x).freeCount = s.freeCount := rfl
@[simp] theorem setBlock_pending (s : State) (d b : Nat) (x : Block) : (s.setBlock d b x).pending = s.pending := rfl

@[simp] theorem setCmd_regs (s : State) (h : Nat) (x : Cmd) : (s.setCmd h x).regs = s.regs := rfl
@[simp] theorem setCmd_mode (s : State) (h : Nat) (x : Cmd) : (s.setCmd h x).mode = s.mode := rfl
@[simp] theorem setCmd_prevMode (s : State) (h : Nat) (x : Cmd) : (s.setCmd h x).prevMode = s.prevMode := rfl
@[simp] theorem setCmd_pins (s : State) (h : Nat) (x : Cmd) : (s.setCmd h x).pins = s.pins := rfl
@[simp] theorem setCmd_boot (s : State) (h : Nat) (x : Cmd) : (s.setCmd h x).boot = s.boot := rfl
@[simp] theorem setCmd_pwr (s : State) (h : Nat) (x : Cmd) : (s.setCmd h x).pwr = s.pwr := rfl
@[simp] theorem setCmd_thm (s : State) (h : Nat) (x : Cmd) : (s.setCmd h x).thm = s.thm := rfl
@[simp] theorem setCmd_loops (s : State) (h : Nat) (x : Cmd) : (s.setCmd h x).loops = s.loops := rfl
@[simp] theorem setCmd_nor (s : State) (h : Nat) (x : Cmd) : (s.setCmd h x).nor = s.nor := rfl
@[simp] theorem setCmd_evt (s : State) (h : Nat) (x : Cmd) : (s.setCmd h x).evt = s.evt := rfl
@[simp] theorem setCmd_mgt (s : State) (h : Nat) (x : Cmd) : (s.setCmd h x).mgt = s.mgt := rfl
@[simp] theorem setCmd_ldg (s : State) (h : Nat) (x : Cmd) : (s.setCmd h x).ldg = s.ldg := rfl
@[simp] theorem setCmd_med (s : State) (h : Nat) (x : Cmd) : (s.setCmd h x).med = s.med := rfl
@[simp] theorem setCmd_db (s : State) (h : Nat) (x : Cmd) : (s.setCmd h x).db = s.db := rfl
@[simp] theorem setCmd_rsv (s : State) (h : Nat) (x : Cmd) : (s.setCmd h x).rsv = s.rsv := rfl
@[simp] theorem setCmd_xfr (s : State) (h : Nat) (x : Cmd) : (s.setCmd h x).xfr = s.xfr := rfl
@[simp] theorem setCmd_mem (s : State) (h : Nat) (x : Cmd) : (s.setCmd h x).mem = s.mem := rfl
@[simp] theorem setCmd_cry (s : State) (h : Nat) (x : Cmd) : (s.setCmd h x).cry = s.cry := rfl
@[simp] theorem setCmd_net (s : State) (h : Nat) (x : Cmd) : (s.setCmd h x).net = s.net := rfl
@[simp] theorem setCmd_mnt (s : State) (h : Nat) (x : Cmd) : (s.setCmd h x).mnt = s.mnt := rfl
@[simp] theorem setCmd_jtag (s : State) (h : Nat) (x : Cmd) : (s.setCmd h x).jtag = s.jtag := rfl
@[simp] theorem setCmd_freeCount (s : State) (h : Nat) (x : Cmd) : (s.setCmd h x).freeCount = s.freeCount := rfl
@[simp] theorem setCmd_pending (s : State) (h : Nat) (x : Cmd) : (s.setCmd h x).pending = s.pending := rfl

@[simp] theorem dropCmd_regs (s : State) (h : Nat) : (s.dropCmd h).regs = s.regs := rfl
@[simp] theorem dropCmd_mode (s : State) (h : Nat) : (s.dropCmd h).mode = s.mode := rfl
@[simp] theorem dropCmd_prevMode (s : State) (h : Nat) : (s.dropCmd h).prevMode = s.prevMode := rfl
@[simp] theorem dropCmd_pins (s : State) (h : Nat) : (s.dropCmd h).pins = s.pins := rfl
@[simp] theorem dropCmd_boot (s : State) (h : Nat) : (s.dropCmd h).boot = s.boot := rfl
@[simp] theorem dropCmd_pwr (s : State) (h : Nat) : (s.dropCmd h).pwr = s.pwr := rfl
@[simp] theorem dropCmd_thm (s : State) (h : Nat) : (s.dropCmd h).thm = s.thm := rfl
@[simp] theorem dropCmd_loops (s : State) (h : Nat) : (s.dropCmd h).loops = s.loops := rfl
@[simp] theorem dropCmd_nor (s : State) (h : Nat) : (s.dropCmd h).nor = s.nor := rfl
@[simp] theorem dropCmd_evt (s : State) (h : Nat) : (s.dropCmd h).evt = s.evt := rfl
@[simp] theorem dropCmd_mgt (s : State) (h : Nat) : (s.dropCmd h).mgt = s.mgt := rfl
@[simp] theorem dropCmd_ldg (s : State) (h : Nat) : (s.dropCmd h).ldg = s.ldg := rfl
@[simp] theorem dropCmd_med (s : State) (h : Nat) : (s.dropCmd h).med = s.med := rfl
@[simp] theorem dropCmd_db (s : State) (h : Nat) : (s.dropCmd h).db = s.db := rfl
@[simp] theorem dropCmd_rsv (s : State) (h : Nat) : (s.dropCmd h).rsv = s.rsv := rfl
@[simp] theorem dropCmd_xfr (s : State) (h : Nat) : (s.dropCmd h).xfr = s.xfr := rfl
@[simp] theorem dropCmd_mem (s : State) (h : Nat) : (s.dropCmd h).mem = s.mem := rfl
@[simp] theorem dropCmd_cry (s : State) (h : Nat) : (s.dropCmd h).cry = s.cry := rfl
@[simp] theorem dropCmd_net (s : State) (h : Nat) : (s.dropCmd h).net = s.net := rfl
@[simp] theorem dropCmd_mnt (s : State) (h : Nat) : (s.dropCmd h).mnt = s.mnt := rfl
@[simp] theorem dropCmd_jtag (s : State) (h : Nat) : (s.dropCmd h).jtag = s.jtag := rfl
@[simp] theorem dropCmd_freeCount (s : State) (h : Nat) : (s.dropCmd h).freeCount = s.freeCount := rfl
@[simp] theorem dropCmd_pending (s : State) (h : Nat) : (s.dropCmd h).pending = s.pending := rfl

@[simp] theorem setSensor_regs (s : State) (n : Nat) (x : Sensor) : (s.setSensor n x).regs = s.regs := rfl
@[simp] theorem setSensor_mode (s : State) (n : Nat) (x : Sensor) : (s.setSensor n x).mode = s.mode := rfl
@[simp] theorem setSensor_prevMode (s : State) (n : Nat) (x : Sensor) : (s.setSensor n x).prevMode = s.prevMode := rfl
@[simp] theorem setSensor_pins (s : State) (n : Nat) (x : Sensor) : (s.setSensor n x).pins = s.pins := rfl
@[simp] theorem setSensor_boot (s : State) (n : Nat) (x : Sensor) : (s.setSensor n x).boot = s.boot := rfl
@[simp] theorem setSensor_pwr (s : State) (n : Nat) (x : Sensor) : (s.setSensor n x).pwr = s.pwr := rfl
@[simp] theorem setSensor_loops (s : State) (n : Nat) (x : Sensor) : (s.setSensor n x).loops = s.loops := rfl
@[simp] theorem setSensor_nor (s : State) (n : Nat) (x : Sensor) : (s.setSensor n x).nor = s.nor := rfl
@[simp] theorem setSensor_evt (s : State) (n : Nat) (x : Sensor) : (s.setSensor n x).evt = s.evt := rfl
@[simp] theorem setSensor_mgt (s : State) (n : Nat) (x : Sensor) : (s.setSensor n x).mgt = s.mgt := rfl
@[simp] theorem setSensor_ldg (s : State) (n : Nat) (x : Sensor) : (s.setSensor n x).ldg = s.ldg := rfl
@[simp] theorem setSensor_med (s : State) (n : Nat) (x : Sensor) : (s.setSensor n x).med = s.med := rfl
@[simp] theorem setSensor_db (s : State) (n : Nat) (x : Sensor) : (s.setSensor n x).db = s.db := rfl
@[simp] theorem setSensor_rsv (s : State) (n : Nat) (x : Sensor) : (s.setSensor n x).rsv = s.rsv := rfl
@[simp] theorem setSensor_host (s : State) (n : Nat) (x : Sensor) : (s.setSensor n x).host = s.host := rfl
@[simp] theorem setSensor_xfr (s : State) (n : Nat) (x : Sensor) : (s.setSensor n x).xfr = s.xfr := rfl
@[simp] theorem setSensor_mem (s : State) (n : Nat) (x : Sensor) : (s.setSensor n x).mem = s.mem := rfl
@[simp] theorem setSensor_cry (s : State) (n : Nat) (x : Sensor) : (s.setSensor n x).cry = s.cry := rfl
@[simp] theorem setSensor_net (s : State) (n : Nat) (x : Sensor) : (s.setSensor n x).net = s.net := rfl
@[simp] theorem setSensor_mnt (s : State) (n : Nat) (x : Sensor) : (s.setSensor n x).mnt = s.mnt := rfl
@[simp] theorem setSensor_jtag (s : State) (n : Nat) (x : Sensor) : (s.setSensor n x).jtag = s.jtag := rfl
@[simp] theorem setSensor_freeCount (s : State) (n : Nat) (x : Sensor) : (s.setSensor n x).freeCount = s.freeCount := rfl
@[simp] theorem setSensor_pending (s : State) (n : Nat) (x : Sensor) : (s.setSensor n x).pending = s.pending := rfl

@[simp] theorem setLoop_regs (s : State) (n : Nat) (x : Loop) : (s.setLoop n x).regs = s.regs := rfl
@[simp] theorem setLoop_mode (s : State) (n : Nat) (x : Loop) : (s.setLoop n x).mode = s.mode := rfl
@[simp] theorem setLoop_prevMode (s : State) (n : Nat) (x : Loop) : (s.setLoop n x).prevMode = s.prevMode := rfl
@[simp] theorem setLoop_pins (s : State) (n : Nat) (x : Loop) : (s.setLoop n x).pins = s.pins := rfl
@[simp] theorem setLoop_boot (s : State) (n : Nat) (x : Loop) : (s.setLoop n x).boot = s.boot := rfl
@[simp] theorem setLoop_pwr (s : State) (n : Nat) (x : Loop) : (s.setLoop n x).pwr = s.pwr := rfl
@[simp] theorem setLoop_thm (s : State) (n : Nat) (x : Loop) : (s.setLoop n x).thm = s.thm := rfl
@[simp] theorem setLoop_nor (s : State) (n : Nat) (x : Loop) : (s.setLoop n x).nor = s.nor := rfl
@[simp] theorem setLoop_evt (s : State) (n : Nat) (x : Loop) : (s.setLoop n x).evt = s.evt := rfl
@[simp] theorem setLoop_mgt (s : State) (n : Nat) (x : Loop) : (s.setLoop n x).mgt = s.mgt := rfl
@[simp] theorem setLoop_ldg (s : State) (n : Nat) (x : Loop) : (s.setLoop n x).ldg = s.ldg := rfl
@[simp] theorem setLoop_med (s : State) (n : Nat) (x : Loop) : (s.setLoop n x).med = s.med := rfl
@[simp] theorem setLoop_db (s : State) (n : Nat) (x : Loop) : (s.setLoop n x).db = s.db := rfl
@[simp] theorem setLoop_rsv (s : State) (n : Nat) (x : Loop) : (s.setLoop n x).rsv = s.rsv := rfl
@[simp] theorem setLoop_host (s : State) (n : Nat) (x : Loop) : (s.setLoop n x).host = s.host := rfl
@[simp] theorem setLoop_xfr (s : State) (n : Nat) (x : Loop) : (s.setLoop n x).xfr = s.xfr := rfl
@[simp] theorem setLoop_mem (s : State) (n : Nat) (x : Loop) : (s.setLoop n x).mem = s.mem := rfl
@[simp] theorem setLoop_cry (s : State) (n : Nat) (x : Loop) : (s.setLoop n x).cry = s.cry := rfl
@[simp] theorem setLoop_net (s : State) (n : Nat) (x : Loop) : (s.setLoop n x).net = s.net := rfl
@[simp] theorem setLoop_mnt (s : State) (n : Nat) (x : Loop) : (s.setLoop n x).mnt = s.mnt := rfl
@[simp] theorem setLoop_jtag (s : State) (n : Nat) (x : Loop) : (s.setLoop n x).jtag = s.jtag := rfl
@[simp] theorem setLoop_freeCount (s : State) (n : Nat) (x : Loop) : (s.setLoop n x).freeCount = s.freeCount := rfl
@[simp] theorem setLoop_pending (s : State) (n : Nat) (x : Loop) : (s.setLoop n x).pending = s.pending := rfl

@[simp] theorem setSeg_regs (s : State) (n : Nat) (x : Seg) : (s.setSeg n x).regs = s.regs := rfl
@[simp] theorem setSeg_mode (s : State) (n : Nat) (x : Seg) : (s.setSeg n x).mode = s.mode := rfl
@[simp] theorem setSeg_prevMode (s : State) (n : Nat) (x : Seg) : (s.setSeg n x).prevMode = s.prevMode := rfl
@[simp] theorem setSeg_pins (s : State) (n : Nat) (x : Seg) : (s.setSeg n x).pins = s.pins := rfl
@[simp] theorem setSeg_boot (s : State) (n : Nat) (x : Seg) : (s.setSeg n x).boot = s.boot := rfl
@[simp] theorem setSeg_pwr (s : State) (n : Nat) (x : Seg) : (s.setSeg n x).pwr = s.pwr := rfl
@[simp] theorem setSeg_thm (s : State) (n : Nat) (x : Seg) : (s.setSeg n x).thm = s.thm := rfl
@[simp] theorem setSeg_loops (s : State) (n : Nat) (x : Seg) : (s.setSeg n x).loops = s.loops := rfl
@[simp] theorem setSeg_nor (s : State) (n : Nat) (x : Seg) : (s.setSeg n x).nor = s.nor := rfl
@[simp] theorem setSeg_evt (s : State) (n : Nat) (x : Seg) : (s.setSeg n x).evt = s.evt := rfl
@[simp] theorem setSeg_mgt (s : State) (n : Nat) (x : Seg) : (s.setSeg n x).mgt = s.mgt := rfl
@[simp] theorem setSeg_ldg (s : State) (n : Nat) (x : Seg) : (s.setSeg n x).ldg = s.ldg := rfl
@[simp] theorem setSeg_med (s : State) (n : Nat) (x : Seg) : (s.setSeg n x).med = s.med := rfl
@[simp] theorem setSeg_db (s : State) (n : Nat) (x : Seg) : (s.setSeg n x).db = s.db := rfl
@[simp] theorem setSeg_host (s : State) (n : Nat) (x : Seg) : (s.setSeg n x).host = s.host := rfl
@[simp] theorem setSeg_xfr (s : State) (n : Nat) (x : Seg) : (s.setSeg n x).xfr = s.xfr := rfl
@[simp] theorem setSeg_mem (s : State) (n : Nat) (x : Seg) : (s.setSeg n x).mem = s.mem := rfl
@[simp] theorem setSeg_cry (s : State) (n : Nat) (x : Seg) : (s.setSeg n x).cry = s.cry := rfl
@[simp] theorem setSeg_net (s : State) (n : Nat) (x : Seg) : (s.setSeg n x).net = s.net := rfl
@[simp] theorem setSeg_mnt (s : State) (n : Nat) (x : Seg) : (s.setSeg n x).mnt = s.mnt := rfl
@[simp] theorem setSeg_jtag (s : State) (n : Nat) (x : Seg) : (s.setSeg n x).jtag = s.jtag := rfl
@[simp] theorem setSeg_freeCount (s : State) (n : Nat) (x : Seg) : (s.setSeg n x).freeCount = s.freeCount := rfl
@[simp] theorem setSeg_pending (s : State) (n : Nat) (x : Seg) : (s.setSeg n x).pending = s.pending := rfl

@[simp] theorem setChain_regs (s : State) (n : Nat) (x : Chain) : (s.setChain n x).regs = s.regs := rfl
@[simp] theorem setChain_mode (s : State) (n : Nat) (x : Chain) : (s.setChain n x).mode = s.mode := rfl
@[simp] theorem setChain_prevMode (s : State) (n : Nat) (x : Chain) : (s.setChain n x).prevMode = s.prevMode := rfl
@[simp] theorem setChain_pins (s : State) (n : Nat) (x : Chain) : (s.setChain n x).pins = s.pins := rfl
@[simp] theorem setChain_boot (s : State) (n : Nat) (x : Chain) : (s.setChain n x).boot = s.boot := rfl
@[simp] theorem setChain_pwr (s : State) (n : Nat) (x : Chain) : (s.setChain n x).pwr = s.pwr := rfl
@[simp] theorem setChain_thm (s : State) (n : Nat) (x : Chain) : (s.setChain n x).thm = s.thm := rfl
@[simp] theorem setChain_loops (s : State) (n : Nat) (x : Chain) : (s.setChain n x).loops = s.loops := rfl
@[simp] theorem setChain_nor (s : State) (n : Nat) (x : Chain) : (s.setChain n x).nor = s.nor := rfl
@[simp] theorem setChain_evt (s : State) (n : Nat) (x : Chain) : (s.setChain n x).evt = s.evt := rfl
@[simp] theorem setChain_mgt (s : State) (n : Nat) (x : Chain) : (s.setChain n x).mgt = s.mgt := rfl
@[simp] theorem setChain_ldg (s : State) (n : Nat) (x : Chain) : (s.setChain n x).ldg = s.ldg := rfl
@[simp] theorem setChain_med (s : State) (n : Nat) (x : Chain) : (s.setChain n x).med = s.med := rfl
@[simp] theorem setChain_db (s : State) (n : Nat) (x : Chain) : (s.setChain n x).db = s.db := rfl
@[simp] theorem setChain_rsv (s : State) (n : Nat) (x : Chain) : (s.setChain n x).rsv = s.rsv := rfl
@[simp] theorem setChain_host (s : State) (n : Nat) (x : Chain) : (s.setChain n x).host = s.host := rfl
@[simp] theorem setChain_mem (s : State) (n : Nat) (x : Chain) : (s.setChain n x).mem = s.mem := rfl
@[simp] theorem setChain_cry (s : State) (n : Nat) (x : Chain) : (s.setChain n x).cry = s.cry := rfl
@[simp] theorem setChain_net (s : State) (n : Nat) (x : Chain) : (s.setChain n x).net = s.net := rfl
@[simp] theorem setChain_mnt (s : State) (n : Nat) (x : Chain) : (s.setChain n x).mnt = s.mnt := rfl
@[simp] theorem setChain_jtag (s : State) (n : Nat) (x : Chain) : (s.setChain n x).jtag = s.jtag := rfl
@[simp] theorem setChain_freeCount (s : State) (n : Nat) (x : Chain) : (s.setChain n x).freeCount = s.freeCount := rfl
@[simp] theorem setChain_pending (s : State) (n : Nat) (x : Chain) : (s.setChain n x).pending = s.pending := rfl

@[simp] theorem setCtx_regs (s : State) (n : Nat) (x : Ctx) : (s.setCtx n x).regs = s.regs := rfl
@[simp] theorem setCtx_mode (s : State) (n : Nat) (x : Ctx) : (s.setCtx n x).mode = s.mode := rfl
@[simp] theorem setCtx_prevMode (s : State) (n : Nat) (x : Ctx) : (s.setCtx n x).prevMode = s.prevMode := rfl
@[simp] theorem setCtx_pins (s : State) (n : Nat) (x : Ctx) : (s.setCtx n x).pins = s.pins := rfl
@[simp] theorem setCtx_boot (s : State) (n : Nat) (x : Ctx) : (s.setCtx n x).boot = s.boot := rfl
@[simp] theorem setCtx_pwr (s : State) (n : Nat) (x : Ctx) : (s.setCtx n x).pwr = s.pwr := rfl
@[simp] theorem setCtx_thm (s : State) (n : Nat) (x : Ctx) : (s.setCtx n x).thm = s.thm := rfl
@[simp] theorem setCtx_loops (s : State) (n : Nat) (x : Ctx) : (s.setCtx n x).loops = s.loops := rfl
@[simp] theorem setCtx_nor (s : State) (n : Nat) (x : Ctx) : (s.setCtx n x).nor = s.nor := rfl
@[simp] theorem setCtx_evt (s : State) (n : Nat) (x : Ctx) : (s.setCtx n x).evt = s.evt := rfl
@[simp] theorem setCtx_mgt (s : State) (n : Nat) (x : Ctx) : (s.setCtx n x).mgt = s.mgt := rfl
@[simp] theorem setCtx_ldg (s : State) (n : Nat) (x : Ctx) : (s.setCtx n x).ldg = s.ldg := rfl
@[simp] theorem setCtx_med (s : State) (n : Nat) (x : Ctx) : (s.setCtx n x).med = s.med := rfl
@[simp] theorem setCtx_db (s : State) (n : Nat) (x : Ctx) : (s.setCtx n x).db = s.db := rfl
@[simp] theorem setCtx_rsv (s : State) (n : Nat) (x : Ctx) : (s.setCtx n x).rsv = s.rsv := rfl
@[simp] theorem setCtx_host (s : State) (n : Nat) (x : Ctx) : (s.setCtx n x).host = s.host := rfl
@[simp] theorem setCtx_mem (s : State) (n : Nat) (x : Ctx) : (s.setCtx n x).mem = s.mem := rfl
@[simp] theorem setCtx_cry (s : State) (n : Nat) (x : Ctx) : (s.setCtx n x).cry = s.cry := rfl
@[simp] theorem setCtx_net (s : State) (n : Nat) (x : Ctx) : (s.setCtx n x).net = s.net := rfl
@[simp] theorem setCtx_mnt (s : State) (n : Nat) (x : Ctx) : (s.setCtx n x).mnt = s.mnt := rfl
@[simp] theorem setCtx_jtag (s : State) (n : Nat) (x : Ctx) : (s.setCtx n x).jtag = s.jtag := rfl
@[simp] theorem setCtx_freeCount (s : State) (n : Nat) (x : Ctx) : (s.setCtx n x).freeCount = s.freeCount := rfl
@[simp] theorem setCtx_pending (s : State) (n : Nat) (x : Ctx) : (s.setCtx n x).pending = s.pending := rfl

@[simp] theorem setLane_regs (s : State) (n : Nat) (x : Lane) : (s.setLane n x).regs = s.regs := rfl
@[simp] theorem setLane_mode (s : State) (n : Nat) (x : Lane) : (s.setLane n x).mode = s.mode := rfl
@[simp] theorem setLane_prevMode (s : State) (n : Nat) (x : Lane) : (s.setLane n x).prevMode = s.prevMode := rfl
@[simp] theorem setLane_pins (s : State) (n : Nat) (x : Lane) : (s.setLane n x).pins = s.pins := rfl
@[simp] theorem setLane_boot (s : State) (n : Nat) (x : Lane) : (s.setLane n x).boot = s.boot := rfl
@[simp] theorem setLane_pwr (s : State) (n : Nat) (x : Lane) : (s.setLane n x).pwr = s.pwr := rfl
@[simp] theorem setLane_thm (s : State) (n : Nat) (x : Lane) : (s.setLane n x).thm = s.thm := rfl
@[simp] theorem setLane_loops (s : State) (n : Nat) (x : Lane) : (s.setLane n x).loops = s.loops := rfl
@[simp] theorem setLane_nor (s : State) (n : Nat) (x : Lane) : (s.setLane n x).nor = s.nor := rfl
@[simp] theorem setLane_evt (s : State) (n : Nat) (x : Lane) : (s.setLane n x).evt = s.evt := rfl
@[simp] theorem setLane_mgt (s : State) (n : Nat) (x : Lane) : (s.setLane n x).mgt = s.mgt := rfl
@[simp] theorem setLane_ldg (s : State) (n : Nat) (x : Lane) : (s.setLane n x).ldg = s.ldg := rfl
@[simp] theorem setLane_med (s : State) (n : Nat) (x : Lane) : (s.setLane n x).med = s.med := rfl
@[simp] theorem setLane_db (s : State) (n : Nat) (x : Lane) : (s.setLane n x).db = s.db := rfl
@[simp] theorem setLane_rsv (s : State) (n : Nat) (x : Lane) : (s.setLane n x).rsv = s.rsv := rfl
@[simp] theorem setLane_host (s : State) (n : Nat) (x : Lane) : (s.setLane n x).host = s.host := rfl
@[simp] theorem setLane_xfr (s : State) (n : Nat) (x : Lane) : (s.setLane n x).xfr = s.xfr := rfl
@[simp] theorem setLane_mem (s : State) (n : Nat) (x : Lane) : (s.setLane n x).mem = s.mem := rfl
@[simp] theorem setLane_cry (s : State) (n : Nat) (x : Lane) : (s.setLane n x).cry = s.cry := rfl
@[simp] theorem setLane_net (s : State) (n : Nat) (x : Lane) : (s.setLane n x).net = s.net := rfl
@[simp] theorem setLane_jtag (s : State) (n : Nat) (x : Lane) : (s.setLane n x).jtag = s.jtag := rfl
@[simp] theorem setLane_freeCount (s : State) (n : Nat) (x : Lane) : (s.setLane n x).freeCount = s.freeCount := rfl
@[simp] theorem setLane_pending (s : State) (n : Nat) (x : Lane) : (s.setLane n x).pending = s.pending := rfl

@[simp] theorem setPort_regs (s : State) (n : Nat) (x : Port) : (s.setPort n x).regs = s.regs := rfl
@[simp] theorem setPort_mode (s : State) (n : Nat) (x : Port) : (s.setPort n x).mode = s.mode := rfl
@[simp] theorem setPort_prevMode (s : State) (n : Nat) (x : Port) : (s.setPort n x).prevMode = s.prevMode := rfl
@[simp] theorem setPort_pins (s : State) (n : Nat) (x : Port) : (s.setPort n x).pins = s.pins := rfl
@[simp] theorem setPort_boot (s : State) (n : Nat) (x : Port) : (s.setPort n x).boot = s.boot := rfl
@[simp] theorem setPort_pwr (s : State) (n : Nat) (x : Port) : (s.setPort n x).pwr = s.pwr := rfl
@[simp] theorem setPort_thm (s : State) (n : Nat) (x : Port) : (s.setPort n x).thm = s.thm := rfl
@[simp] theorem setPort_loops (s : State) (n : Nat) (x : Port) : (s.setPort n x).loops = s.loops := rfl
@[simp] theorem setPort_nor (s : State) (n : Nat) (x : Port) : (s.setPort n x).nor = s.nor := rfl
@[simp] theorem setPort_evt (s : State) (n : Nat) (x : Port) : (s.setPort n x).evt = s.evt := rfl
@[simp] theorem setPort_mgt (s : State) (n : Nat) (x : Port) : (s.setPort n x).mgt = s.mgt := rfl
@[simp] theorem setPort_ldg (s : State) (n : Nat) (x : Port) : (s.setPort n x).ldg = s.ldg := rfl
@[simp] theorem setPort_med (s : State) (n : Nat) (x : Port) : (s.setPort n x).med = s.med := rfl
@[simp] theorem setPort_db (s : State) (n : Nat) (x : Port) : (s.setPort n x).db = s.db := rfl
@[simp] theorem setPort_rsv (s : State) (n : Nat) (x : Port) : (s.setPort n x).rsv = s.rsv := rfl
@[simp] theorem setPort_host (s : State) (n : Nat) (x : Port) : (s.setPort n x).host = s.host := rfl
@[simp] theorem setPort_xfr (s : State) (n : Nat) (x : Port) : (s.setPort n x).xfr = s.xfr := rfl
@[simp] theorem setPort_mem (s : State) (n : Nat) (x : Port) : (s.setPort n x).mem = s.mem := rfl
@[simp] theorem setPort_cry (s : State) (n : Nat) (x : Port) : (s.setPort n x).cry = s.cry := rfl
@[simp] theorem setPort_mnt (s : State) (n : Nat) (x : Port) : (s.setPort n x).mnt = s.mnt := rfl
@[simp] theorem setPort_jtag (s : State) (n : Nat) (x : Port) : (s.setPort n x).jtag = s.jtag := rfl
@[simp] theorem setPort_freeCount (s : State) (n : Nat) (x : Port) : (s.setPort n x).freeCount = s.freeCount := rfl
@[simp] theorem setPort_pending (s : State) (n : Nat) (x : Port) : (s.setPort n x).pending = s.pending := rfl

@[simp] theorem setSlot_regs (s : State) (n : Nat) (x : KeySlot) : (s.setSlot n x).regs = s.regs := rfl
@[simp] theorem setSlot_mode (s : State) (n : Nat) (x : KeySlot) : (s.setSlot n x).mode = s.mode := rfl
@[simp] theorem setSlot_prevMode (s : State) (n : Nat) (x : KeySlot) : (s.setSlot n x).prevMode = s.prevMode := rfl
@[simp] theorem setSlot_pins (s : State) (n : Nat) (x : KeySlot) : (s.setSlot n x).pins = s.pins := rfl
@[simp] theorem setSlot_boot (s : State) (n : Nat) (x : KeySlot) : (s.setSlot n x).boot = s.boot := rfl
@[simp] theorem setSlot_pwr (s : State) (n : Nat) (x : KeySlot) : (s.setSlot n x).pwr = s.pwr := rfl
@[simp] theorem setSlot_thm (s : State) (n : Nat) (x : KeySlot) : (s.setSlot n x).thm = s.thm := rfl
@[simp] theorem setSlot_loops (s : State) (n : Nat) (x : KeySlot) : (s.setSlot n x).loops = s.loops := rfl
@[simp] theorem setSlot_nor (s : State) (n : Nat) (x : KeySlot) : (s.setSlot n x).nor = s.nor := rfl
@[simp] theorem setSlot_evt (s : State) (n : Nat) (x : KeySlot) : (s.setSlot n x).evt = s.evt := rfl
@[simp] theorem setSlot_mgt (s : State) (n : Nat) (x : KeySlot) : (s.setSlot n x).mgt = s.mgt := rfl
@[simp] theorem setSlot_ldg (s : State) (n : Nat) (x : KeySlot) : (s.setSlot n x).ldg = s.ldg := rfl
@[simp] theorem setSlot_med (s : State) (n : Nat) (x : KeySlot) : (s.setSlot n x).med = s.med := rfl
@[simp] theorem setSlot_db (s : State) (n : Nat) (x : KeySlot) : (s.setSlot n x).db = s.db := rfl
@[simp] theorem setSlot_rsv (s : State) (n : Nat) (x : KeySlot) : (s.setSlot n x).rsv = s.rsv := rfl
@[simp] theorem setSlot_host (s : State) (n : Nat) (x : KeySlot) : (s.setSlot n x).host = s.host := rfl
@[simp] theorem setSlot_xfr (s : State) (n : Nat) (x : KeySlot) : (s.setSlot n x).xfr = s.xfr := rfl
@[simp] theorem setSlot_mem (s : State) (n : Nat) (x : KeySlot) : (s.setSlot n x).mem = s.mem := rfl
@[simp] theorem setSlot_net (s : State) (n : Nat) (x : KeySlot) : (s.setSlot n x).net = s.net := rfl
@[simp] theorem setSlot_mnt (s : State) (n : Nat) (x : KeySlot) : (s.setSlot n x).mnt = s.mnt := rfl
@[simp] theorem setSlot_jtag (s : State) (n : Nat) (x : KeySlot) : (s.setSlot n x).jtag = s.jtag := rfl
@[simp] theorem setSlot_freeCount (s : State) (n : Nat) (x : KeySlot) : (s.setSlot n x).freeCount = s.freeCount := rfl
@[simp] theorem setSlot_pending (s : State) (n : Nat) (x : KeySlot) : (s.setSlot n x).pending = s.pending := rfl

@[simp] theorem setQueue_regs (s : State) (i : Nat) (x : IoQueue) : (s.setQueue i x).regs = s.regs := rfl
@[simp] theorem setQueue_mode (s : State) (i : Nat) (x : IoQueue) : (s.setQueue i x).mode = s.mode := rfl
@[simp] theorem setQueue_prevMode (s : State) (i : Nat) (x : IoQueue) : (s.setQueue i x).prevMode = s.prevMode := rfl
@[simp] theorem setQueue_pins (s : State) (i : Nat) (x : IoQueue) : (s.setQueue i x).pins = s.pins := rfl
@[simp] theorem setQueue_boot (s : State) (i : Nat) (x : IoQueue) : (s.setQueue i x).boot = s.boot := rfl
@[simp] theorem setQueue_pwr (s : State) (i : Nat) (x : IoQueue) : (s.setQueue i x).pwr = s.pwr := rfl
@[simp] theorem setQueue_thm (s : State) (i : Nat) (x : IoQueue) : (s.setQueue i x).thm = s.thm := rfl
@[simp] theorem setQueue_loops (s : State) (i : Nat) (x : IoQueue) : (s.setQueue i x).loops = s.loops := rfl
@[simp] theorem setQueue_nor (s : State) (i : Nat) (x : IoQueue) : (s.setQueue i x).nor = s.nor := rfl
@[simp] theorem setQueue_evt (s : State) (i : Nat) (x : IoQueue) : (s.setQueue i x).evt = s.evt := rfl
@[simp] theorem setQueue_mgt (s : State) (i : Nat) (x : IoQueue) : (s.setQueue i x).mgt = s.mgt := rfl
@[simp] theorem setQueue_ldg (s : State) (i : Nat) (x : IoQueue) : (s.setQueue i x).ldg = s.ldg := rfl
@[simp] theorem setQueue_med (s : State) (i : Nat) (x : IoQueue) : (s.setQueue i x).med = s.med := rfl
@[simp] theorem setQueue_db (s : State) (i : Nat) (x : IoQueue) : (s.setQueue i x).db = s.db := rfl
@[simp] theorem setQueue_rsv (s : State) (i : Nat) (x : IoQueue) : (s.setQueue i x).rsv = s.rsv := rfl
@[simp] theorem setQueue_xfr (s : State) (i : Nat) (x : IoQueue) : (s.setQueue i x).xfr = s.xfr := rfl
@[simp] theorem setQueue_mem (s : State) (i : Nat) (x : IoQueue) : (s.setQueue i x).mem = s.mem := rfl
@[simp] theorem setQueue_cry (s : State) (i : Nat) (x : IoQueue) : (s.setQueue i x).cry = s.cry := rfl
@[simp] theorem setQueue_net (s : State) (i : Nat) (x : IoQueue) : (s.setQueue i x).net = s.net := rfl
@[simp] theorem setQueue_mnt (s : State) (i : Nat) (x : IoQueue) : (s.setQueue i x).mnt = s.mnt := rfl
@[simp] theorem setQueue_jtag (s : State) (i : Nat) (x : IoQueue) : (s.setQueue i x).jtag = s.jtag := rfl
@[simp] theorem setQueue_freeCount (s : State) (i : Nat) (x : IoQueue) : (s.setQueue i x).freeCount = s.freeCount := rfl
@[simp] theorem setQueue_pending (s : State) (i : Nat) (x : IoQueue) : (s.setQueue i x).pending = s.pending := rfl

@[simp] theorem setQp_regs (s : State) (i : Nat) (x : Qp) : (s.setQp i x).regs = s.regs := rfl
@[simp] theorem setQp_mode (s : State) (i : Nat) (x : Qp) : (s.setQp i x).mode = s.mode := rfl
@[simp] theorem setQp_prevMode (s : State) (i : Nat) (x : Qp) : (s.setQp i x).prevMode = s.prevMode := rfl
@[simp] theorem setQp_pins (s : State) (i : Nat) (x : Qp) : (s.setQp i x).pins = s.pins := rfl
@[simp] theorem setQp_boot (s : State) (i : Nat) (x : Qp) : (s.setQp i x).boot = s.boot := rfl
@[simp] theorem setQp_pwr (s : State) (i : Nat) (x : Qp) : (s.setQp i x).pwr = s.pwr := rfl
@[simp] theorem setQp_thm (s : State) (i : Nat) (x : Qp) : (s.setQp i x).thm = s.thm := rfl
@[simp] theorem setQp_loops (s : State) (i : Nat) (x : Qp) : (s.setQp i x).loops = s.loops := rfl
@[simp] theorem setQp_nor (s : State) (i : Nat) (x : Qp) : (s.setQp i x).nor = s.nor := rfl
@[simp] theorem setQp_evt (s : State) (i : Nat) (x : Qp) : (s.setQp i x).evt = s.evt := rfl
@[simp] theorem setQp_mgt (s : State) (i : Nat) (x : Qp) : (s.setQp i x).mgt = s.mgt := rfl
@[simp] theorem setQp_ldg (s : State) (i : Nat) (x : Qp) : (s.setQp i x).ldg = s.ldg := rfl
@[simp] theorem setQp_med (s : State) (i : Nat) (x : Qp) : (s.setQp i x).med = s.med := rfl
@[simp] theorem setQp_db (s : State) (i : Nat) (x : Qp) : (s.setQp i x).db = s.db := rfl
@[simp] theorem setQp_rsv (s : State) (i : Nat) (x : Qp) : (s.setQp i x).rsv = s.rsv := rfl
@[simp] theorem setQp_host (s : State) (i : Nat) (x : Qp) : (s.setQp i x).host = s.host := rfl
@[simp] theorem setQp_xfr (s : State) (i : Nat) (x : Qp) : (s.setQp i x).xfr = s.xfr := rfl
@[simp] theorem setQp_mem (s : State) (i : Nat) (x : Qp) : (s.setQp i x).mem = s.mem := rfl
@[simp] theorem setQp_cry (s : State) (i : Nat) (x : Qp) : (s.setQp i x).cry = s.cry := rfl
@[simp] theorem setQp_mnt (s : State) (i : Nat) (x : Qp) : (s.setQp i x).mnt = s.mnt := rfl
@[simp] theorem setQp_jtag (s : State) (i : Nat) (x : Qp) : (s.setQp i x).jtag = s.jtag := rfl
@[simp] theorem setQp_freeCount (s : State) (i : Nat) (x : Qp) : (s.setQp i x).freeCount = s.freeCount := rfl
@[simp] theorem setQp_pending (s : State) (i : Nat) (x : Qp) : (s.setQp i x).pending = s.pending := rfl

@[simp] theorem sendFrame_regs (s : State) (f : NetFrame) : (s.sendFrame f).regs = s.regs := rfl
@[simp] theorem sendFrame_mode (s : State) (f : NetFrame) : (s.sendFrame f).mode = s.mode := rfl
@[simp] theorem sendFrame_prevMode (s : State) (f : NetFrame) : (s.sendFrame f).prevMode = s.prevMode := rfl
@[simp] theorem sendFrame_pins (s : State) (f : NetFrame) : (s.sendFrame f).pins = s.pins := rfl
@[simp] theorem sendFrame_boot (s : State) (f : NetFrame) : (s.sendFrame f).boot = s.boot := rfl
@[simp] theorem sendFrame_pwr (s : State) (f : NetFrame) : (s.sendFrame f).pwr = s.pwr := rfl
@[simp] theorem sendFrame_thm (s : State) (f : NetFrame) : (s.sendFrame f).thm = s.thm := rfl
@[simp] theorem sendFrame_loops (s : State) (f : NetFrame) : (s.sendFrame f).loops = s.loops := rfl
@[simp] theorem sendFrame_nor (s : State) (f : NetFrame) : (s.sendFrame f).nor = s.nor := rfl
@[simp] theorem sendFrame_evt (s : State) (f : NetFrame) : (s.sendFrame f).evt = s.evt := rfl
@[simp] theorem sendFrame_mgt (s : State) (f : NetFrame) : (s.sendFrame f).mgt = s.mgt := rfl
@[simp] theorem sendFrame_ldg (s : State) (f : NetFrame) : (s.sendFrame f).ldg = s.ldg := rfl
@[simp] theorem sendFrame_med (s : State) (f : NetFrame) : (s.sendFrame f).med = s.med := rfl
@[simp] theorem sendFrame_db (s : State) (f : NetFrame) : (s.sendFrame f).db = s.db := rfl
@[simp] theorem sendFrame_rsv (s : State) (f : NetFrame) : (s.sendFrame f).rsv = s.rsv := rfl
@[simp] theorem sendFrame_host (s : State) (f : NetFrame) : (s.sendFrame f).host = s.host := rfl
@[simp] theorem sendFrame_xfr (s : State) (f : NetFrame) : (s.sendFrame f).xfr = s.xfr := rfl
@[simp] theorem sendFrame_mem (s : State) (f : NetFrame) : (s.sendFrame f).mem = s.mem := rfl
@[simp] theorem sendFrame_cry (s : State) (f : NetFrame) : (s.sendFrame f).cry = s.cry := rfl
@[simp] theorem sendFrame_mnt (s : State) (f : NetFrame) : (s.sendFrame f).mnt = s.mnt := rfl
@[simp] theorem sendFrame_jtag (s : State) (f : NetFrame) : (s.sendFrame f).jtag = s.jtag := rfl
@[simp] theorem sendFrame_freeCount (s : State) (f : NetFrame) : (s.sendFrame f).freeCount = s.freeCount := rfl
@[simp] theorem sendFrame_pending (s : State) (f : NetFrame) : (s.sendFrame f).pending = s.pending := rfl

@[simp] theorem adminDone_regs (s : State) (f cid : Nat) (t : Status) (dw : Nat) : (s.adminDone f cid t dw).regs = s.regs := rfl
@[simp] theorem adminDone_mode (s : State) (f cid : Nat) (t : Status) (dw : Nat) : (s.adminDone f cid t dw).mode = s.mode := rfl
@[simp] theorem adminDone_prevMode (s : State) (f cid : Nat) (t : Status) (dw : Nat) : (s.adminDone f cid t dw).prevMode = s.prevMode := rfl
@[simp] theorem adminDone_pins (s : State) (f cid : Nat) (t : Status) (dw : Nat) : (s.adminDone f cid t dw).pins = s.pins := rfl
@[simp] theorem adminDone_boot (s : State) (f cid : Nat) (t : Status) (dw : Nat) : (s.adminDone f cid t dw).boot = s.boot := rfl
@[simp] theorem adminDone_pwr (s : State) (f cid : Nat) (t : Status) (dw : Nat) : (s.adminDone f cid t dw).pwr = s.pwr := rfl
@[simp] theorem adminDone_thm (s : State) (f cid : Nat) (t : Status) (dw : Nat) : (s.adminDone f cid t dw).thm = s.thm := rfl
@[simp] theorem adminDone_loops (s : State) (f cid : Nat) (t : Status) (dw : Nat) : (s.adminDone f cid t dw).loops = s.loops := rfl
@[simp] theorem adminDone_nor (s : State) (f cid : Nat) (t : Status) (dw : Nat) : (s.adminDone f cid t dw).nor = s.nor := rfl
@[simp] theorem adminDone_evt (s : State) (f cid : Nat) (t : Status) (dw : Nat) : (s.adminDone f cid t dw).evt = s.evt := rfl
@[simp] theorem adminDone_mgt (s : State) (f cid : Nat) (t : Status) (dw : Nat) : (s.adminDone f cid t dw).mgt = s.mgt := rfl
@[simp] theorem adminDone_ldg (s : State) (f cid : Nat) (t : Status) (dw : Nat) : (s.adminDone f cid t dw).ldg = s.ldg := rfl
@[simp] theorem adminDone_med (s : State) (f cid : Nat) (t : Status) (dw : Nat) : (s.adminDone f cid t dw).med = s.med := rfl
@[simp] theorem adminDone_db (s : State) (f cid : Nat) (t : Status) (dw : Nat) : (s.adminDone f cid t dw).db = s.db := rfl
@[simp] theorem adminDone_rsv (s : State) (f cid : Nat) (t : Status) (dw : Nat) : (s.adminDone f cid t dw).rsv = s.rsv := rfl
@[simp] theorem adminDone_xfr (s : State) (f cid : Nat) (t : Status) (dw : Nat) : (s.adminDone f cid t dw).xfr = s.xfr := rfl
@[simp] theorem adminDone_mem (s : State) (f cid : Nat) (t : Status) (dw : Nat) : (s.adminDone f cid t dw).mem = s.mem := rfl
@[simp] theorem adminDone_cry (s : State) (f cid : Nat) (t : Status) (dw : Nat) : (s.adminDone f cid t dw).cry = s.cry := rfl
@[simp] theorem adminDone_net (s : State) (f cid : Nat) (t : Status) (dw : Nat) : (s.adminDone f cid t dw).net = s.net := rfl
@[simp] theorem adminDone_mnt (s : State) (f cid : Nat) (t : Status) (dw : Nat) : (s.adminDone f cid t dw).mnt = s.mnt := rfl
@[simp] theorem adminDone_jtag (s : State) (f cid : Nat) (t : Status) (dw : Nat) : (s.adminDone f cid t dw).jtag = s.jtag := rfl
@[simp] theorem adminDone_freeCount (s : State) (f cid : Nat) (t : Status) (dw : Nat) : (s.adminDone f cid t dw).freeCount = s.freeCount := rfl
@[simp] theorem adminDone_pending (s : State) (f cid : Nat) (t : Status) (dw : Nat) : (s.adminDone f cid t dw).pending = s.pending := rfl

@[simp] theorem dataToHost_regs (s : State) (bs : List Byte) : (s.dataToHost bs).regs = s.regs := rfl
@[simp] theorem dataToHost_mode (s : State) (bs : List Byte) : (s.dataToHost bs).mode = s.mode := rfl
@[simp] theorem dataToHost_prevMode (s : State) (bs : List Byte) : (s.dataToHost bs).prevMode = s.prevMode := rfl
@[simp] theorem dataToHost_pins (s : State) (bs : List Byte) : (s.dataToHost bs).pins = s.pins := rfl
@[simp] theorem dataToHost_boot (s : State) (bs : List Byte) : (s.dataToHost bs).boot = s.boot := rfl
@[simp] theorem dataToHost_pwr (s : State) (bs : List Byte) : (s.dataToHost bs).pwr = s.pwr := rfl
@[simp] theorem dataToHost_thm (s : State) (bs : List Byte) : (s.dataToHost bs).thm = s.thm := rfl
@[simp] theorem dataToHost_loops (s : State) (bs : List Byte) : (s.dataToHost bs).loops = s.loops := rfl
@[simp] theorem dataToHost_nor (s : State) (bs : List Byte) : (s.dataToHost bs).nor = s.nor := rfl
@[simp] theorem dataToHost_evt (s : State) (bs : List Byte) : (s.dataToHost bs).evt = s.evt := rfl
@[simp] theorem dataToHost_mgt (s : State) (bs : List Byte) : (s.dataToHost bs).mgt = s.mgt := rfl
@[simp] theorem dataToHost_ldg (s : State) (bs : List Byte) : (s.dataToHost bs).ldg = s.ldg := rfl
@[simp] theorem dataToHost_med (s : State) (bs : List Byte) : (s.dataToHost bs).med = s.med := rfl
@[simp] theorem dataToHost_db (s : State) (bs : List Byte) : (s.dataToHost bs).db = s.db := rfl
@[simp] theorem dataToHost_rsv (s : State) (bs : List Byte) : (s.dataToHost bs).rsv = s.rsv := rfl
@[simp] theorem dataToHost_xfr (s : State) (bs : List Byte) : (s.dataToHost bs).xfr = s.xfr := rfl
@[simp] theorem dataToHost_mem (s : State) (bs : List Byte) : (s.dataToHost bs).mem = s.mem := rfl
@[simp] theorem dataToHost_cry (s : State) (bs : List Byte) : (s.dataToHost bs).cry = s.cry := rfl
@[simp] theorem dataToHost_net (s : State) (bs : List Byte) : (s.dataToHost bs).net = s.net := rfl
@[simp] theorem dataToHost_mnt (s : State) (bs : List Byte) : (s.dataToHost bs).mnt = s.mnt := rfl
@[simp] theorem dataToHost_jtag (s : State) (bs : List Byte) : (s.dataToHost bs).jtag = s.jtag := rfl
@[simp] theorem dataToHost_freeCount (s : State) (bs : List Byte) : (s.dataToHost bs).freeCount = s.freeCount := rfl
@[simp] theorem dataToHost_pending (s : State) (bs : List Byte) : (s.dataToHost bs).pending = s.pending := rfl

@[simp] theorem addBlocks_regs (s : State) (g n : Nat) : (s.addBlocks g n).regs = s.regs := rfl
@[simp] theorem addBlocks_mode (s : State) (g n : Nat) : (s.addBlocks g n).mode = s.mode := rfl
@[simp] theorem addBlocks_prevMode (s : State) (g n : Nat) : (s.addBlocks g n).prevMode = s.prevMode := rfl
@[simp] theorem addBlocks_pins (s : State) (g n : Nat) : (s.addBlocks g n).pins = s.pins := rfl
@[simp] theorem addBlocks_boot (s : State) (g n : Nat) : (s.addBlocks g n).boot = s.boot := rfl
@[simp] theorem addBlocks_pwr (s : State) (g n : Nat) : (s.addBlocks g n).pwr = s.pwr := rfl
@[simp] theorem addBlocks_thm (s : State) (g n : Nat) : (s.addBlocks g n).thm = s.thm := rfl
@[simp] theorem addBlocks_loops (s : State) (g n : Nat) : (s.addBlocks g n).loops = s.loops := rfl
@[simp] theorem addBlocks_nor (s : State) (g n : Nat) : (s.addBlocks g n).nor = s.nor := rfl
@[simp] theorem addBlocks_evt (s : State) (g n : Nat) : (s.addBlocks g n).evt = s.evt := rfl
@[simp] theorem addBlocks_mgt (s : State) (g n : Nat) : (s.addBlocks g n).mgt = s.mgt := rfl
@[simp] theorem addBlocks_ldg (s : State) (g n : Nat) : (s.addBlocks g n).ldg = s.ldg := rfl
@[simp] theorem addBlocks_med (s : State) (g n : Nat) : (s.addBlocks g n).med = s.med := rfl
@[simp] theorem addBlocks_db (s : State) (g n : Nat) : (s.addBlocks g n).db = s.db := rfl
@[simp] theorem addBlocks_rsv (s : State) (g n : Nat) : (s.addBlocks g n).rsv = s.rsv := rfl
@[simp] theorem addBlocks_host (s : State) (g n : Nat) : (s.addBlocks g n).host = s.host := rfl
@[simp] theorem addBlocks_xfr (s : State) (g n : Nat) : (s.addBlocks g n).xfr = s.xfr := rfl
@[simp] theorem addBlocks_mem (s : State) (g n : Nat) : (s.addBlocks g n).mem = s.mem := rfl
@[simp] theorem addBlocks_net (s : State) (g n : Nat) : (s.addBlocks g n).net = s.net := rfl
@[simp] theorem addBlocks_mnt (s : State) (g n : Nat) : (s.addBlocks g n).mnt = s.mnt := rfl
@[simp] theorem addBlocks_jtag (s : State) (g n : Nat) : (s.addBlocks g n).jtag = s.jtag := rfl
@[simp] theorem addBlocks_freeCount (s : State) (g n : Nat) : (s.addBlocks g n).freeCount = s.freeCount := rfl
@[simp] theorem addBlocks_pending (s : State) (g n : Nat) : (s.addBlocks g n).pending = s.pending := rfl

@[simp] theorem setRec_regs (s : State) (q : Nat) (r : Rec) : (s.setRec q r).regs = s.regs := rfl
@[simp] theorem setRec_mode (s : State) (q : Nat) (r : Rec) : (s.setRec q r).mode = s.mode := rfl
@[simp] theorem setRec_prevMode (s : State) (q : Nat) (r : Rec) : (s.setRec q r).prevMode = s.prevMode := rfl
@[simp] theorem setRec_pins (s : State) (q : Nat) (r : Rec) : (s.setRec q r).pins = s.pins := rfl
@[simp] theorem setRec_boot (s : State) (q : Nat) (r : Rec) : (s.setRec q r).boot = s.boot := rfl
@[simp] theorem setRec_pwr (s : State) (q : Nat) (r : Rec) : (s.setRec q r).pwr = s.pwr := rfl
@[simp] theorem setRec_thm (s : State) (q : Nat) (r : Rec) : (s.setRec q r).thm = s.thm := rfl
@[simp] theorem setRec_loops (s : State) (q : Nat) (r : Rec) : (s.setRec q r).loops = s.loops := rfl
@[simp] theorem setRec_nor (s : State) (q : Nat) (r : Rec) : (s.setRec q r).nor = s.nor := rfl
@[simp] theorem setRec_evt (s : State) (q : Nat) (r : Rec) : (s.setRec q r).evt = s.evt := rfl
@[simp] theorem setRec_mgt (s : State) (q : Nat) (r : Rec) : (s.setRec q r).mgt = s.mgt := rfl
@[simp] theorem setRec_ldg (s : State) (q : Nat) (r : Rec) : (s.setRec q r).ldg = s.ldg := rfl
@[simp] theorem setRec_med (s : State) (q : Nat) (r : Rec) : (s.setRec q r).med = s.med := rfl
@[simp] theorem setRec_rsv (s : State) (q : Nat) (r : Rec) : (s.setRec q r).rsv = s.rsv := rfl
@[simp] theorem setRec_host (s : State) (q : Nat) (r : Rec) : (s.setRec q r).host = s.host := rfl
@[simp] theorem setRec_xfr (s : State) (q : Nat) (r : Rec) : (s.setRec q r).xfr = s.xfr := rfl
@[simp] theorem setRec_mem (s : State) (q : Nat) (r : Rec) : (s.setRec q r).mem = s.mem := rfl
@[simp] theorem setRec_cry (s : State) (q : Nat) (r : Rec) : (s.setRec q r).cry = s.cry := rfl
@[simp] theorem setRec_net (s : State) (q : Nat) (r : Rec) : (s.setRec q r).net = s.net := rfl
@[simp] theorem setRec_mnt (s : State) (q : Nat) (r : Rec) : (s.setRec q r).mnt = s.mnt := rfl
@[simp] theorem setRec_jtag (s : State) (q : Nat) (r : Rec) : (s.setRec q r).jtag = s.jtag := rfl
@[simp] theorem setRec_freeCount (s : State) (q : Nat) (r : Rec) : (s.setRec q r).freeCount = s.freeCount := rfl
@[simp] theorem setRec_pending (s : State) (q : Nat) (r : Rec) : (s.setRec q r).pending = s.pending := rfl

@[simp] theorem fabricDone_regs (s : State) (a qp cid : Nat) (t : Status) (x y : Nat) : (s.fabricDone a qp cid t x y).regs = s.regs := rfl
@[simp] theorem fabricDone_mode (s : State) (a qp cid : Nat) (t : Status) (x y : Nat) : (s.fabricDone a qp cid t x y).mode = s.mode := rfl
@[simp] theorem fabricDone_prevMode (s : State) (a qp cid : Nat) (t : Status) (x y : Nat) : (s.fabricDone a qp cid t x y).prevMode = s.prevMode := rfl
@[simp] theorem fabricDone_pins (s : State) (a qp cid : Nat) (t : Status) (x y : Nat) : (s.fabricDone a qp cid t x y).pins = s.pins := rfl
@[simp] theorem fabricDone_boot (s : State) (a qp cid : Nat) (t : Status) (x y : Nat) : (s.fabricDone a qp cid t x y).boot = s.boot := rfl
@[simp] theorem fabricDone_pwr (s : State) (a qp cid : Nat) (t : Status) (x y : Nat) : (s.fabricDone a qp cid t x y).pwr = s.pwr := rfl
@[simp] theorem fabricDone_thm (s : State) (a qp cid : Nat) (t : Status) (x y : Nat) : (s.fabricDone a qp cid t x y).thm = s.thm := rfl
@[simp] theorem fabricDone_loops (s : State) (a qp cid : Nat) (t : Status) (x y : Nat) : (s.fabricDone a qp cid t x y).loops = s.loops := rfl
@[simp] theorem fabricDone_nor (s : State) (a qp cid : Nat) (t : Status) (x y : Nat) : (s.fabricDone a qp cid t x y).nor = s.nor := rfl
@[simp] theorem fabricDone_evt (s : State) (a qp cid : Nat) (t : Status) (x y : Nat) : (s.fabricDone a qp cid t x y).evt = s.evt := rfl
@[simp] theorem fabricDone_mgt (s : State) (a qp cid : Nat) (t : Status) (x y : Nat) : (s.fabricDone a qp cid t x y).mgt = s.mgt := rfl
@[simp] theorem fabricDone_ldg (s : State) (a qp cid : Nat) (t : Status) (x y : Nat) : (s.fabricDone a qp cid t x y).ldg = s.ldg := rfl
@[simp] theorem fabricDone_med (s : State) (a qp cid : Nat) (t : Status) (x y : Nat) : (s.fabricDone a qp cid t x y).med = s.med := rfl
@[simp] theorem fabricDone_db (s : State) (a qp cid : Nat) (t : Status) (x y : Nat) : (s.fabricDone a qp cid t x y).db = s.db := rfl
@[simp] theorem fabricDone_rsv (s : State) (a qp cid : Nat) (t : Status) (x y : Nat) : (s.fabricDone a qp cid t x y).rsv = s.rsv := rfl
@[simp] theorem fabricDone_xfr (s : State) (a qp cid : Nat) (t : Status) (x y : Nat) : (s.fabricDone a qp cid t x y).xfr = s.xfr := rfl
@[simp] theorem fabricDone_mem (s : State) (a qp cid : Nat) (t : Status) (x y : Nat) : (s.fabricDone a qp cid t x y).mem = s.mem := rfl
@[simp] theorem fabricDone_cry (s : State) (a qp cid : Nat) (t : Status) (x y : Nat) : (s.fabricDone a qp cid t x y).cry = s.cry := rfl
@[simp] theorem fabricDone_net (s : State) (a qp cid : Nat) (t : Status) (x y : Nat) : (s.fabricDone a qp cid t x y).net = s.net := rfl
@[simp] theorem fabricDone_mnt (s : State) (a qp cid : Nat) (t : Status) (x y : Nat) : (s.fabricDone a qp cid t x y).mnt = s.mnt := rfl
@[simp] theorem fabricDone_jtag (s : State) (a qp cid : Nat) (t : Status) (x y : Nat) : (s.fabricDone a qp cid t x y).jtag = s.jtag := rfl
@[simp] theorem fabricDone_freeCount (s : State) (a qp cid : Nat) (t : Status) (x y : Nat) : (s.fabricDone a qp cid t x y).freeCount = s.freeCount := rfl
@[simp] theorem fabricDone_pending (s : State) (a qp cid : Nat) (t : Status) (x y : Nat) : (s.fabricDone a qp cid t x y).pending = s.pending := rfl

@[simp] theorem bufferSector_regs (s : State) : (s.bufferSector).regs = s.regs := rfl
@[simp] theorem bufferSector_mode (s : State) : (s.bufferSector).mode = s.mode := rfl
@[simp] theorem bufferSector_prevMode (s : State) : (s.bufferSector).prevMode = s.prevMode := rfl
@[simp] theorem bufferSector_pins (s : State) : (s.bufferSector).pins = s.pins := rfl
@[simp] theorem bufferSector_boot (s : State) : (s.bufferSector).boot = s.boot := rfl
@[simp] theorem bufferSector_pwr (s : State) : (s.bufferSector).pwr = s.pwr := rfl
@[simp] theorem bufferSector_thm (s : State) : (s.bufferSector).thm = s.thm := rfl
@[simp] theorem bufferSector_loops (s : State) : (s.bufferSector).loops = s.loops := rfl
@[simp] theorem bufferSector_nor (s : State) : (s.bufferSector).nor = s.nor := rfl
@[simp] theorem bufferSector_evt (s : State) : (s.bufferSector).evt = s.evt := rfl
@[simp] theorem bufferSector_mgt (s : State) : (s.bufferSector).mgt = s.mgt := rfl
@[simp] theorem bufferSector_ldg (s : State) : (s.bufferSector).ldg = s.ldg := rfl
@[simp] theorem bufferSector_med (s : State) : (s.bufferSector).med = s.med := rfl
@[simp] theorem bufferSector_db (s : State) : (s.bufferSector).db = s.db := rfl
@[simp] theorem bufferSector_rsv (s : State) : (s.bufferSector).rsv = s.rsv := rfl
@[simp] theorem bufferSector_host (s : State) : (s.bufferSector).host = s.host := rfl
@[simp] theorem bufferSector_xfr (s : State) : (s.bufferSector).xfr = s.xfr := rfl
@[simp] theorem bufferSector_cry (s : State) : (s.bufferSector).cry = s.cry := rfl
@[simp] theorem bufferSector_net (s : State) : (s.bufferSector).net = s.net := rfl
@[simp] theorem bufferSector_mnt (s : State) : (s.bufferSector).mnt = s.mnt := rfl
@[simp] theorem bufferSector_jtag (s : State) : (s.bufferSector).jtag = s.jtag := rfl
@[simp] theorem bufferSector_freeCount (s : State) : (s.bufferSector).freeCount = s.freeCount := rfl
@[simp] theorem bufferSector_pending (s : State) : (s.bufferSector).pending = s.pending := rfl

@[simp] theorem openRow_regs (s : State) (a : Nat) : (s.openRow a).regs = s.regs := rfl
@[simp] theorem openRow_mode (s : State) (a : Nat) : (s.openRow a).mode = s.mode := rfl
@[simp] theorem openRow_prevMode (s : State) (a : Nat) : (s.openRow a).prevMode = s.prevMode := rfl
@[simp] theorem openRow_pins (s : State) (a : Nat) : (s.openRow a).pins = s.pins := rfl
@[simp] theorem openRow_boot (s : State) (a : Nat) : (s.openRow a).boot = s.boot := rfl
@[simp] theorem openRow_pwr (s : State) (a : Nat) : (s.openRow a).pwr = s.pwr := rfl
@[simp] theorem openRow_thm (s : State) (a : Nat) : (s.openRow a).thm = s.thm := rfl
@[simp] theorem openRow_loops (s : State) (a : Nat) : (s.openRow a).loops = s.loops := rfl
@[simp] theorem openRow_nor (s : State) (a : Nat) : (s.openRow a).nor = s.nor := rfl
@[simp] theorem openRow_evt (s : State) (a : Nat) : (s.openRow a).evt = s.evt := rfl
@[simp] theorem openRow_mgt (s : State) (a : Nat) : (s.openRow a).mgt = s.mgt := rfl
@[simp] theorem openRow_ldg (s : State) (a : Nat) : (s.openRow a).ldg = s.ldg := rfl
@[simp] theorem openRow_med (s : State) (a : Nat) : (s.openRow a).med = s.med := rfl
@[simp] theorem openRow_db (s : State) (a : Nat) : (s.openRow a).db = s.db := rfl
@[simp] theorem openRow_rsv (s : State) (a : Nat) : (s.openRow a).rsv = s.rsv := rfl
@[simp] theorem openRow_host (s : State) (a : Nat) : (s.openRow a).host = s.host := rfl
@[simp] theorem openRow_xfr (s : State) (a : Nat) : (s.openRow a).xfr = s.xfr := rfl
@[simp] theorem openRow_cry (s : State) (a : Nat) : (s.openRow a).cry = s.cry := rfl
@[simp] theorem openRow_net (s : State) (a : Nat) : (s.openRow a).net = s.net := rfl
@[simp] theorem openRow_mnt (s : State) (a : Nat) : (s.openRow a).mnt = s.mnt := rfl
@[simp] theorem openRow_jtag (s : State) (a : Nat) : (s.openRow a).jtag = s.jtag := rfl
@[simp] theorem openRow_freeCount (s : State) (a : Nat) : (s.openRow a).freeCount = s.freeCount := rfl
@[simp] theorem openRow_pending (s : State) (a : Nat) : (s.openRow a).pending = s.pending := rfl

@[simp] theorem closeRow_regs (s : State) (a : Nat) : (s.closeRow a).regs = s.regs := rfl
@[simp] theorem closeRow_mode (s : State) (a : Nat) : (s.closeRow a).mode = s.mode := rfl
@[simp] theorem closeRow_prevMode (s : State) (a : Nat) : (s.closeRow a).prevMode = s.prevMode := rfl
@[simp] theorem closeRow_pins (s : State) (a : Nat) : (s.closeRow a).pins = s.pins := rfl
@[simp] theorem closeRow_boot (s : State) (a : Nat) : (s.closeRow a).boot = s.boot := rfl
@[simp] theorem closeRow_pwr (s : State) (a : Nat) : (s.closeRow a).pwr = s.pwr := rfl
@[simp] theorem closeRow_thm (s : State) (a : Nat) : (s.closeRow a).thm = s.thm := rfl
@[simp] theorem closeRow_loops (s : State) (a : Nat) : (s.closeRow a).loops = s.loops := rfl
@[simp] theorem closeRow_nor (s : State) (a : Nat) : (s.closeRow a).nor = s.nor := rfl
@[simp] theorem closeRow_evt (s : State) (a : Nat) : (s.closeRow a).evt = s.evt := rfl
@[simp] theorem closeRow_mgt (s : State) (a : Nat) : (s.closeRow a).mgt = s.mgt := rfl
@[simp] theorem closeRow_ldg (s : State) (a : Nat) : (s.closeRow a).ldg = s.ldg := rfl
@[simp] theorem closeRow_med (s : State) (a : Nat) : (s.closeRow a).med = s.med := rfl
@[simp] theorem closeRow_db (s : State) (a : Nat) : (s.closeRow a).db = s.db := rfl
@[simp] theorem closeRow_rsv (s : State) (a : Nat) : (s.closeRow a).rsv = s.rsv := rfl
@[simp] theorem closeRow_host (s : State) (a : Nat) : (s.closeRow a).host = s.host := rfl
@[simp] theorem closeRow_xfr (s : State) (a : Nat) : (s.closeRow a).xfr = s.xfr := rfl
@[simp] theorem closeRow_cry (s : State) (a : Nat) : (s.closeRow a).cry = s.cry := rfl
@[simp] theorem closeRow_net (s : State) (a : Nat) : (s.closeRow a).net = s.net := rfl
@[simp] theorem closeRow_mnt (s : State) (a : Nat) : (s.closeRow a).mnt = s.mnt := rfl
@[simp] theorem closeRow_jtag (s : State) (a : Nat) : (s.closeRow a).jtag = s.jtag := rfl
@[simp] theorem closeRow_freeCount (s : State) (a : Nat) : (s.closeRow a).freeCount = s.freeCount := rfl
@[simp] theorem closeRow_pending (s : State) (a : Nat) : (s.closeRow a).pending = s.pending := rfl

@[simp] theorem setCredit_regs (s : State) (m : Nat) (x : Credit) : (s.setCredit m x).regs = s.regs := rfl
@[simp] theorem setCredit_mode (s : State) (m : Nat) (x : Credit) : (s.setCredit m x).mode = s.mode := rfl
@[simp] theorem setCredit_prevMode (s : State) (m : Nat) (x : Credit) : (s.setCredit m x).prevMode = s.prevMode := rfl
@[simp] theorem setCredit_pins (s : State) (m : Nat) (x : Credit) : (s.setCredit m x).pins = s.pins := rfl
@[simp] theorem setCredit_boot (s : State) (m : Nat) (x : Credit) : (s.setCredit m x).boot = s.boot := rfl
@[simp] theorem setCredit_pwr (s : State) (m : Nat) (x : Credit) : (s.setCredit m x).pwr = s.pwr := rfl
@[simp] theorem setCredit_thm (s : State) (m : Nat) (x : Credit) : (s.setCredit m x).thm = s.thm := rfl
@[simp] theorem setCredit_loops (s : State) (m : Nat) (x : Credit) : (s.setCredit m x).loops = s.loops := rfl
@[simp] theorem setCredit_nor (s : State) (m : Nat) (x : Credit) : (s.setCredit m x).nor = s.nor := rfl
@[simp] theorem setCredit_evt (s : State) (m : Nat) (x : Credit) : (s.setCredit m x).evt = s.evt := rfl
@[simp] theorem setCredit_mgt (s : State) (m : Nat) (x : Credit) : (s.setCredit m x).mgt = s.mgt := rfl
@[simp] theorem setCredit_med (s : State) (m : Nat) (x : Credit) : (s.setCredit m x).med = s.med := rfl
@[simp] theorem setCredit_db (s : State) (m : Nat) (x : Credit) : (s.setCredit m x).db = s.db := rfl
@[simp] theorem setCredit_rsv (s : State) (m : Nat) (x : Credit) : (s.setCredit m x).rsv = s.rsv := rfl
@[simp] theorem setCredit_host (s : State) (m : Nat) (x : Credit) : (s.setCredit m x).host = s.host := rfl
@[simp] theorem setCredit_xfr (s : State) (m : Nat) (x : Credit) : (s.setCredit m x).xfr = s.xfr := rfl
@[simp] theorem setCredit_mem (s : State) (m : Nat) (x : Credit) : (s.setCredit m x).mem = s.mem := rfl
@[simp] theorem setCredit_cry (s : State) (m : Nat) (x : Credit) : (s.setCredit m x).cry = s.cry := rfl
@[simp] theorem setCredit_net (s : State) (m : Nat) (x : Credit) : (s.setCredit m x).net = s.net := rfl
@[simp] theorem setCredit_mnt (s : State) (m : Nat) (x : Credit) : (s.setCredit m x).mnt = s.mnt := rfl
@[simp] theorem setCredit_jtag (s : State) (m : Nat) (x : Credit) : (s.setCredit m x).jtag = s.jtag := rfl
@[simp] theorem setCredit_freeCount (s : State) (m : Nat) (x : Credit) : (s.setCredit m x).freeCount = s.freeCount := rfl
@[simp] theorem setCredit_pending (s : State) (m : Nat) (x : Credit) : (s.setCredit m x).pending = s.pending := rfl

@[simp] theorem setMove_regs (s : State) (n : Nat) (m : Move) : (s.setMove n m).regs = s.regs := rfl
@[simp] theorem setMove_mode (s : State) (n : Nat) (m : Move) : (s.setMove n m).mode = s.mode := rfl
@[simp] theorem setMove_prevMode (s : State) (n : Nat) (m : Move) : (s.setMove n m).prevMode = s.prevMode := rfl
@[simp] theorem setMove_pins (s : State) (n : Nat) (m : Move) : (s.setMove n m).pins = s.pins := rfl
@[simp] theorem setMove_boot (s : State) (n : Nat) (m : Move) : (s.setMove n m).boot = s.boot := rfl
@[simp] theorem setMove_pwr (s : State) (n : Nat) (m : Move) : (s.setMove n m).pwr = s.pwr := rfl
@[simp] theorem setMove_thm (s : State) (n : Nat) (m : Move) : (s.setMove n m).thm = s.thm := rfl
@[simp] theorem setMove_loops (s : State) (n : Nat) (m : Move) : (s.setMove n m).loops = s.loops := rfl
@[simp] theorem setMove_nor (s : State) (n : Nat) (m : Move) : (s.setMove n m).nor = s.nor := rfl
@[simp] theorem setMove_evt (s : State) (n : Nat) (m : Move) : (s.setMove n m).evt = s.evt := rfl
@[simp] theorem setMove_mgt (s : State) (n : Nat) (m : Move) : (s.setMove n m).mgt = s.mgt := rfl
@[simp] theorem setMove_ldg (s : State) (n : Nat) (m : Move) : (s.setMove n m).ldg = s.ldg := rfl
@[simp] theorem setMove_db (s : State) (n : Nat) (m : Move) : (s.setMove n m).db = s.db := rfl
@[simp] theorem setMove_rsv (s : State) (n : Nat) (m : Move) : (s.setMove n m).rsv = s.rsv := rfl
@[simp] theorem setMove_host (s : State) (n : Nat) (m : Move) : (s.setMove n m).host = s.host := rfl
@[simp] theorem setMove_xfr (s : State) (n : Nat) (m : Move) : (s.setMove n m).xfr = s.xfr := rfl
@[simp] theorem setMove_mem (s : State) (n : Nat) (m : Move) : (s.setMove n m).mem = s.mem := rfl
@[simp] theorem setMove_cry (s : State) (n : Nat) (m : Move) : (s.setMove n m).cry = s.cry := rfl
@[simp] theorem setMove_net (s : State) (n : Nat) (m : Move) : (s.setMove n m).net = s.net := rfl
@[simp] theorem setMove_mnt (s : State) (n : Nat) (m : Move) : (s.setMove n m).mnt = s.mnt := rfl
@[simp] theorem setMove_jtag (s : State) (n : Nat) (m : Move) : (s.setMove n m).jtag = s.jtag := rfl
@[simp] theorem setMove_freeCount (s : State) (n : Nat) (m : Move) : (s.setMove n m).freeCount = s.freeCount := rfl
@[simp] theorem setMove_pending (s : State) (n : Nat) (m : Move) : (s.setMove n m).pending = s.pending := rfl

end Sys2Proof.Machine
end

