-- ==== Sys2Proof/Laws/Modes.lean ====
section
/-!
SUPPORT. The mode that each shared operation leaves: most keep it, and the others follow an edge of the table of R77.
-/
namespace Sys2Proof.Machine

/-- A frame whose mask lacks the mode's bit keeps the mode. -/
theorem mode_of_frame {m : Nat} {s t : State} (h : Frame m s t) (hm : m.testBit 1 = false) : t.mode = s.mode :=
  h.mode.resolve_left (by simp [hm])

/-! ## Operations that keep the mode -/

@[simp] theorem abandonSleep_mode (s : State) (src) (ap) : (State.abandonSleep s src ap).mode = s.mode :=
  mode_of_frame (frame_abandonSleep (M := 2014753) _ _ rfl (frame_refl _ s)) rfl
@[simp] theorem advanceRtc_mode (s : State) (n) : (State.advanceRtc s n).mode = s.mode :=
  mode_of_frame (frame_advanceRtc (M := 32) _ rfl (frame_refl _ s)) rfl
@[simp] theorem alertSync_mode (s : State) : (State.alertSync s).mode = s.mode :=
  mode_of_frame (frame_alertSync (M := 1024) rfl (frame_refl _ s)) rfl
@[simp] theorem applyEyes_mode (s : State) : (State.applyEyes s).mode = s.mode :=
  mode_of_frame (frame_applyEyes (M := 1) rfl (frame_refl _ s)) rfl
@[simp] theorem authReply_mode (s : State) (v) (c) : (State.authReply s v c).mode = s.mode :=
  mode_of_frame (frame_authReply (M := 34305) _ _ rfl (frame_refl _ s)) rfl
@[simp] theorem chargerOff_mode (s : State) : (State.chargerOff s).mode = s.mode :=
  mode_of_frame (frame_chargerOff (M := 129) rfl (frame_refl _ s)) rfl
@[simp] theorem computeCover_mode (s : State) : (State.computeCover s).mode = s.mode :=
  mode_of_frame (frame_computeCover (M := 26113) rfl (frame_refl _ s)) rfl
@[simp] theorem countCool_mode (s : State) : (State.countCool s).mode = s.mode :=
  mode_of_frame (frame_countCool (M := 64) rfl (frame_refl _ s)) rfl
@[simp] theorem discardRequest_mode (s : State) : (State.discardRequest s).mode = s.mode :=
  mode_of_frame (frame_discardRequest (M := 513) rfl (frame_refl _ s)) rfl
@[simp] theorem drainDone_mode (s : State) : (State.drainDone s).mode = s.mode :=
  mode_of_frame (frame_drainDone (M := 40992) rfl (frame_refl _ s)) rfl
@[simp] theorem driveHeld_mode (s : State) (n) : (State.driveHeld s n).mode = s.mode :=
  mode_of_frame (frame_driveHeld (M := 9) _ rfl (frame_refl _ s)) rfl
@[simp] theorem driveRefs_mode (s : State) : (State.driveRefs s).mode = s.mode :=
  mode_of_frame (frame_driveRefs (M := 8) rfl (frame_refl _ s)) rfl
@[simp] theorem dropHibernate_mode (s : State) : (State.dropHibernate s).mode = s.mode :=
  mode_of_frame (frame_dropHibernate (M := 2072544) rfl (frame_refl _ s)) rfl
@[simp] theorem dropLeaves_mode (s : State) (off) : (State.dropLeaves s off).mode = s.mode :=
  mode_of_frame (frame_dropLeaves (M := 1) _ rfl (frame_refl _ s)) rfl
@[simp] theorem dropVolatile_mode (s : State) : (State.dropVolatile s).mode = s.mode :=
  mode_of_frame (frame_dropVolatile (M := 2080752) rfl (frame_refl _ s)) rfl
@[simp] theorem event_mode (s : State) (ty) (detail) : (State.event s ty detail).mode = s.mode :=
  mode_of_frame (frame_event (M := 513) _ _ rfl (frame_refl _ s)) rfl
@[simp] theorem floatLdg_mode (s : State) : (State.floatLdg s).mode = s.mode :=
  mode_of_frame (frame_floatLdg (M := 8) rfl (frame_refl _ s)) rfl
@[simp] theorem flushCommands_mode (s : State) : (State.flushCommands s).mode = s.mode :=
  mode_of_frame (frame_flushCommands (M := 179713) rfl (frame_refl _ s)) rfl
@[simp] theorem flushDies_mode (s : State) : (State.flushDies s).mode = s.mode :=
  mode_of_frame (frame_flushDies (M := 2048) rfl (frame_refl _ s)) rfl
@[simp] theorem folioViews_mode (s : State) : (State.folioViews s).mode = s.mode :=
  mode_of_frame (frame_folioViews (M := 1) rfl (frame_refl _ s)) rfl
@[simp] theorem forceAll_mode (s : State) : (State.forceAll s).mode = s.mode :=
  mode_of_frame (frame_forceAll (M := 5633) rfl (frame_refl _ s)) rfl
@[simp] theorem judgeThrottle_mode (s : State) (reading) (riseStep) : (State.judgeThrottle s reading riseStep).mode = s.mode :=
  mode_of_frame (frame_judgeThrottle (M := 2014945) _ _ rfl (frame_refl _ s)) rfl
@[simp] theorem judgeWarn_mode (s : State) (reading) : (State.judgeWarn s reading).mode = s.mode :=
  mode_of_frame (frame_judgeWarn (M := 34305) _ rfl (frame_refl _ s)) rfl
@[simp] theorem kick_mode (s : State) : (State.kick s).mode = s.mode :=
  mode_of_frame (frame_kick (M := 2014721) rfl (frame_refl _ s)) rfl
@[simp] theorem kmIslandReset_mode (s : State) (id) : (State.kmIslandReset s id).mode = s.mode :=
  mode_of_frame (frame_kmIslandReset (M := 262145) _ rfl (frame_refl _ s)) rfl
@[simp] theorem loadGo_mode (s : State) (n) : (State.loadGo s n).mode = s.mode :=
  mode_of_frame (frame_loadGo (M := 16) _ rfl (frame_refl _ s)) rfl
@[simp] theorem loadOn_mode (s : State) (x1) : (State.loadOn s x1).mode = s.mode :=
  mode_of_frame (frame_loadOn (M := 16) _ rfl (frame_refl _ s)) rfl
@[simp] theorem loadStep4_mode (s : State) (x1) (im) : (State.loadStep4 s x1 im).mode = s.mode :=
  mode_of_frame (frame_loadStep4 (M := 1218449) _ _ rfl (frame_refl _ s)) rfl
@[simp] theorem loadStep5_mode (s : State) : (State.loadStep5 s).mode = s.mode :=
  mode_of_frame (frame_loadStep5 (M := 137) rfl (frame_refl _ s)) rfl
@[simp] theorem loadStep6_mode (s : State) (im) : (State.loadStep6 s im).mode = s.mode :=
  mode_of_frame (frame_loadStep6 (M := 36369) _ rfl (frame_refl _ s)) rfl
@[simp] theorem loadStep7_mode (s : State) (ids) (misfit) : (State.loadStep7 s ids misfit).mode = s.mode :=
  mode_of_frame (frame_loadStep7 (M := 40465) _ _ rfl (frame_refl _ s)) rfl
@[simp] theorem loadStep8_mode (s : State) : (State.loadStep8 s).mode = s.mode :=
  mode_of_frame (frame_loadStep8 (M := 5633) rfl (frame_refl _ s)) rfl
@[simp] theorem logFull_mode (s : State) : (State.logFull s).mode = s.mode :=
  mode_of_frame (frame_logFull (M := 1537) rfl (frame_refl _ s)) rfl
@[simp] theorem logSearch_mode (s : State) : (State.logSearch s).mode = s.mode :=
  mode_of_frame (frame_logSearch (M := 768) rfl (frame_refl _ s)) rfl
@[simp] theorem loseSleep_mode (s : State) : (State.loseSleep s).mode = s.mode :=
  mode_of_frame (frame_loseSleep (M := 34337) rfl (frame_refl _ s)) rfl
@[simp] theorem markNoCand_mode (s : State) : (State.markNoCand s).mode = s.mode :=
  mode_of_frame (frame_markNoCand (M := 1) rfl (frame_refl _ s)) rfl
@[simp] theorem miReply_mode (s : State) (id) (status) (dw0) (data) : (State.miReply s id status dw0 data).mode = s.mode :=
  mode_of_frame (frame_miReply (M := 1537) _ _ _ _ rfl (frame_refl _ s)) rfl
@[simp] theorem mpRelease_mode (s : State) : (State.mpRelease s).mode = s.mode :=
  mode_of_frame (frame_mpRelease (M := 1025) rfl (frame_refl _ s)) rfl
@[simp] theorem msixSend_mode (s : State) : (State.msixSend s).mode = s.mode :=
  mode_of_frame (frame_msixSend (M := 1024) rfl (frame_refl _ s)) rfl
@[simp] theorem norAbandon_mode (s : State) : (State.norAbandon s).mode = s.mode :=
  mode_of_frame (frame_norAbandon (M := 4196097) rfl (frame_refl _ s)) rfl
@[simp] theorem norKick_mode (s : State) : (State.norKick s).mode = s.mode :=
  mode_of_frame (frame_norKick (M := 769) rfl (frame_refl _ s)) rfl
@[simp] theorem norOwnerEnd_mode (s : State) (o) (ok) : (State.norOwnerEnd s o ok).mode = s.mode :=
  mode_of_frame (frame_norOwnerEnd (M := 4228865) _ _ rfl (frame_refl _ s)) rfl
@[simp] theorem parkLdg_mode (s : State) : (State.parkLdg s).mode = s.mode :=
  mode_of_frame (frame_parkLdg (M := 8) rfl (frame_refl _ s)) rfl
@[simp] theorem phaseEnd_mode (s : State) (n) : (State.phaseEnd s n).mode = s.mode :=
  mode_of_frame (frame_phaseEnd (M := 1) _ rfl (frame_refl _ s)) rfl
@[simp] theorem phaseTime_mode (s : State) (n) (us) : (State.phaseTime s n us).mode = s.mode :=
  mode_of_frame (frame_phaseTime (M := 1) _ _ rfl (frame_refl _ s)) rfl
@[simp] theorem putVarResult_mode (s : State) (i) (status) (place) : (State.putVarResult s i status place).mode = s.mode :=
  mode_of_frame (frame_putVarResult (M := 1) _ _ _ rfl (frame_refl _ s)) rfl
@[simp] theorem putVariant_mode (s : State) (plan) (level) : (State.putVariant s plan level).mode = s.mode :=
  mode_of_frame (frame_putVariant (M := 34817) _ _ rfl (frame_refl _ s)) rfl
@[simp] theorem raise_mode (s : State) (l) (b) : (State.raise s l b).mode = s.mode :=
  mode_of_frame (frame_raise (M := 1537) _ _ rfl (frame_refl _ s)) rfl
@[simp] theorem raiseEach_mode (s : State) (l) (b) : (State.raiseEach s l b).mode = s.mode :=
  mode_of_frame (frame_raiseEach (M := 1537) _ _ rfl (frame_refl _ s)) rfl
@[simp] theorem readMarkers_mode (s : State) : (State.readMarkers s).mode = s.mode :=
  mode_of_frame (frame_readMarkers (M := 1) rfl (frame_refl _ s)) rfl
@[simp] theorem readyNow_mode (s : State) (f) : (State.readyNow s f).mode = s.mode :=
  mode_of_frame (frame_readyNow (M := 32768) _ rfl (frame_refl _ s)) rfl
@[simp] theorem recordLost_mode (s : State) (from_) : (State.recordLost s from_).mode = s.mode :=
  mode_of_frame (frame_recordLost (M := 513) _ rfl (frame_refl _ s)) rfl
@[simp] theorem refill_mode (s : State) : (State.refill s).mode = s.mode :=
  mode_of_frame (frame_refill (M := 43008) rfl (frame_refl _ s)) rfl
@[simp] theorem replay_mode (s : State) : (State.replay s).mode = s.mode :=
  mode_of_frame (frame_replay (M := 46593) rfl (frame_refl _ s)) rfl
@[simp] theorem reply_mode (s : State) (v) (x2) (dw0) : (State.reply s v x2 dw0).mode = s.mode :=
  mode_of_frame (frame_reply (M := 34305) _ _ _ rfl (frame_refl _ s)) rfl
@[simp] theorem restoreTime_mode (s : State) : (State.restoreTime s).mode = s.mode :=
  mode_of_frame (frame_restoreTime (M := 32) rfl (frame_refl _ s)) rfl
@[simp] theorem resumeWork_mode (s : State) : (State.resumeWork s).mode = s.mode :=
  mode_of_frame (frame_resumeWork (M := 2014721) rfl (frame_refl _ s)) rfl
@[simp] theorem scheduleTests_mode (s : State) : (State.scheduleTests s).mode = s.mode :=
  mode_of_frame (frame_scheduleTests (M := 16384) rfl (frame_refl _ s)) rfl
@[simp] theorem setSlotReason_mode (s : State) (x1) (r) : (State.setSlotReason s x1 r).mode = s.mode :=
  mode_of_frame (frame_setSlotReason (M := 1) _ _ rfl (frame_refl _ s)) rfl
@[simp] theorem setStrap_mode (s : State) (v) (unstable) : (State.setStrap s v unstable).mode = s.mode :=
  mode_of_frame (frame_setStrap (M := 17) _ _ rfl (frame_refl _ s)) rfl
@[simp] theorem setTarget_mode (s : State) (n) (mv) : (State.setTarget s n mv).mode = s.mode :=
  mode_of_frame (frame_setTarget (M := 129) _ _ rfl (frame_refl _ s)) rfl
@[simp] theorem showShst_mode (s : State) (v) : (State.showShst s v).mode = s.mode :=
  mode_of_frame (frame_showShst (M := 32768) _ rfl (frame_refl _ s)) rfl
@[simp] theorem shutdownVf_mode (s : State) (func) : (State.shutdownVf s func).mode = s.mode :=
  mode_of_frame (frame_shutdownVf (M := 2014721) _ rfl (frame_refl _ s)) rfl
@[simp] theorem startEvent_mode (s : State) : (State.startEvent s).mode = s.mode :=
  mode_of_frame (frame_startEvent (M := 513) rfl (frame_refl _ s)) rfl
@[simp] theorem stopTest_mode (s : State) : (State.stopTest s).mode = s.mode :=
  mode_of_frame (frame_stopTest (M := 16393) rfl (frame_refl _ s)) rfl
@[simp] theorem storeEyes_mode (s : State) (level) (eyes) : (State.storeEyes s level eyes).mode = s.mode :=
  mode_of_frame (frame_storeEyes (M := 17) _ _ rfl (frame_refl _ s)) rfl
@[simp] theorem storeRecs_mode (s : State) (recs) : (State.storeRecs s recs).mode = s.mode :=
  mode_of_frame (frame_storeRecs (M := 512) _ rfl (frame_refl _ s)) rfl
@[simp] theorem switchPlan_mode (s : State) (level) : (State.switchPlan s level).mode = s.mode :=
  mode_of_frame (frame_switchPlan (M := 1228481) _ rfl (frame_refl _ s)) rfl
@[simp] theorem syncBanks_mode (s : State) : (State.syncBanks s).mode = s.mode :=
  mode_of_frame (frame_syncBanks (M := 131072) rfl (frame_refl _ s)) rfl
@[simp] theorem syncExport_mode (s : State) : (State.syncExport s).mode = s.mode :=
  mode_of_frame (frame_syncExport (M := 1) rfl (frame_refl _ s)) rfl
@[simp] theorem syncPending_mode (s : State) : (State.syncPending s).mode = s.mode :=
  mode_of_frame (frame_syncPending (M := 1) rfl (frame_refl _ s)) rfl
@[simp] theorem syncRail_mode (s : State) : (State.syncRail s).mode = s.mode :=
  mode_of_frame (frame_syncRail (M := 129) rfl (frame_refl _ s)) rfl
@[simp] theorem syncThm_mode (s : State) : (State.syncThm s).mode = s.mode :=
  mode_of_frame (frame_syncThm (M := 1) rfl (frame_refl _ s)) rfl
@[simp] theorem takeRestart_mode (s : State) (why) (from_) : (State.takeRestart s why from_).mode = s.mode :=
  mode_of_frame (frame_takeRestart (M := 32) _ _ rfl (frame_refl _ s)) rfl
@[simp] theorem throttleStep_mode (s : State) : (State.throttleStep s).mode = s.mode :=
  mode_of_frame (frame_throttleStep (M := 2014881) rfl (frame_refl _ s)) rfl
@[simp] theorem updRestart_mode (s : State) : (State.updRestart s).mode = s.mode :=
  mode_of_frame (frame_updRestart (M := 34561) rfl (frame_refl _ s)) rfl
@[simp] theorem updResume_mode (s : State) : (State.updResume s).mode = s.mode :=
  mode_of_frame (frame_updResume (M := 34561) rfl (frame_refl _ s)) rfl
@[simp] theorem withdrawUnserved_mode (s : State) : (State.withdrawUnserved s).mode = s.mode :=
  mode_of_frame (frame_withdrawUnserved (M := 1228289) rfl (frame_refl _ s)) rfl
@[simp] theorem writeArea_mode (s : State) (drain) : (State.writeArea s drain).mode = s.mode :=
  mode_of_frame (frame_writeArea (M := 8224) _ rfl (frame_refl _ s)) rfl
@[simp] theorem writeEnOff_mode (s : State) (func) : (State.writeEnOff s func).mode = s.mode :=
  mode_of_frame (frame_writeEnOff (M := 2080257) _ rfl (frame_refl _ s)) rfl
@[simp] theorem writeEnOn_mode (s : State) (func) (cc) : (State.writeEnOn s func cc).mode = s.mode :=
  mode_of_frame (frame_writeEnOn (M := 32800) _ _ rfl (frame_refl _ s)) rfl

@[simp] theorem treeSync_mode (old s : State) : (treeSync old s).mode = s.mode :=
  mode_of_frame (frame_treeSync (M := 1024) old rfl (frame_refl _ s)) rfl

@[simp] theorem miTake_mode (s : State) : s.miTake.mode = s.mode := rfl

@[simp] theorem keepAlive_mode (s : State) (f : Nat) : (s.keepAlive f).mode = s.mode :=
  mode_of_frame (frame_keepAlive (M := 32768) f rfl (frame_refl _ s)) rfl

@[simp] theorem miRefuse_mode (s : State) (id : Nat) : (s.miRefuse id).mode = s.mode :=
  mode_of_frame (frame_miRefuse (M := 1537) id rfl (frame_refl _ s)) rfl

@[simp] theorem sendFrame_keeps_mode (s : State) (x : NetFrame) : (s.sendFrame x).mode = s.mode := rfl

@[simp] theorem authorise_mode (s : State) (p : AuthPath) (want : Nat) (a : Auth) : (s.authorise p want a).2.mode = s.mode :=
  mode_of_frame (frame_authorise (M := 1537) p want a rfl (frame_refl _ s)) rfl

/-! ## Operations that change it -/

/-- The mode stays, or an edge of R77 leads to the new one. -/
def Flows (m n : Mode) : Prop := n = m ∨ modeEdge m n = true

theorem flows_same {m n : Mode} (h : n = m) : Flows m n := Or.inl h

@[simp] theorem enter_mode (s : State) (m : Mode) (c : ModeCause) : (s.enter m c).mode = m := by
  simp only [State.enter]
  split <;> simp

@[simp] theorem toOff_mode (s : State) (w : OffReason) (c : ModeCause) : (s.toOff w c).mode = .off := by simp [State.toOff]

@[simp] theorem toStrap_mode (s : State) (b : Bool) : (s.toStrap b).mode = .strap := by
  cases b <;> simp [State.toStrap]

@[simp] theorem toMaint_mode (s : State) (n : Nat) (c : ModeCause) : (s.toMaint n c).mode = .maintenance := by simp [State.toMaint]

@[simp] theorem enterFill_mode (s : State) (b : Bool) (c : ModeCause) : (s.enterFill b c).mode = .fill := by simp [State.enterFill]

@[simp] theorem enterTrain_mode (s : State) : s.enterTrain.mode = .train := by
  simp only [State.enterTrain]
  split <;> simp

@[simp] theorem enterDoze_mode (s : State) : s.enterDoze.mode = .doze := by simp [State.enterDoze]

@[simp] theorem enterHibernate_mode (s : State) : s.enterHibernate.mode = .hibernate := by simp [State.enterHibernate]

theorem enterDrain_mode (s : State) (w : DrainFor) (c : ModeCause) :
    (s.enterDrain w c).mode = if s.mode = .service ∨ s.mode = .throttle then .drain else s.mode := by
  simp only [State.enterDrain]
  split <;> simp_all

theorem enterFlush_mode (s : State) (w : OffReason) (c : ModeCause) :
    (s.enterFlush w c).mode = if modeLedger s.mode = true then .flush else s.mode := by
  simp only [State.enterFlush]
  split <;> simp_all

theorem fillCheck_mode (s : State) : s.fillCheck.mode = s.mode ∨ s.mode = .fill ∧ s.fillCheck.mode = .load := by
  simp only [State.fillCheck]
  split <;> simp_all

@[simp] theorem strapEnds_mode (s : State) (us : Nat) : (s.strapEnds us).mode = .fill := by
  simp only [State.strapEnds, enterFill_mode]

theorem strapCheck_mode (s : State) : s.strapCheck.mode = s.mode ∨
    s.mode = .strap ∧ (s.strapCheck.mode = .fill ∨ s.strapCheck.mode = .maintenance) := by
  simp only [State.strapCheck]
  repeat' split
  all_goals simp_all

theorem tryStrap_mode (s : State) : s.tryStrap.mode = s.mode ∨
    s.mode = .off ∧ s.pins.porN = true ∧ s.pins.pwrGood = true ∧ s.plossHigh = true ∧ s.tryStrap.mode = .strap := by
  simp only [State.tryStrap]
  split <;> simp_all

theorem inputsHigh_mode (s : State) : s.inputsHigh.mode = s.mode ∨
    s.mode = .off ∧ s.pins.porN = true ∧ s.pins.pwrGood = true ∧ s.plossHigh = true ∧ s.inputsHigh.mode = .strap := by
  have h := tryStrap_mode s
  simp only [State.inputsHigh]
  repeat' split
  all_goals simp_all

theorem slotFail_mode (s : State) (x : Slot) (r : Nat) : (s.slotFail x r).mode = s.mode ∨ (s.slotFail x r).mode = .maintenance := by
  simp only [State.slotFail]
  repeat' split
  all_goals simp

theorem loadFault_mode (s : State) : s.loadFault.mode = s.mode ∨ s.loadFault.mode = .maintenance := by
  simp only [State.loadFault]
  repeat' split
  all_goals first | exact slotFail_mode _ _ _ | simp | skip
  · have h := slotFail_mode { s.raise .startCause 6 with boot := { (s.raise .startCause 6).boot with faults := s.boot.faults + 1 } } (by assumption) 9
    simpa using h

theorem mpReset_mode (s : State) : s.mpReset.mode = s.mode ∨ s.mode = .load ∧ s.mpReset.mode = .maintenance := by
  simp only [State.mpReset]
  split
  · rename_i h
    simp only [kmIslandReset_mode] at h
    have k := loadFault_mode { s.kmIslandReset 0 with
      mgt := { (s.kmIslandReset 0).mgt with mp := .restarting, clockStopped := false, mctpIn := [], mctpMsgs := [] },
      nor := { (s.kmIslandReset 0).nor with busFault := none } }
    rw [mpRelease_mode]
    rcases k with k | k
    · exact Or.inl (k.trans (by simp))
    · exact Or.inr ⟨h, k⟩
  · simp

theorem watchdogExpire_mode (s : State) : s.watchdogExpire.mode = s.mode ∨ s.mode = .load ∧ s.watchdogExpire.mode = .maintenance := by
  simp only [State.watchdogExpire]
  split
  · simp
  · simpa using mpReset_mode ((s.countFld Reg.mgtWdogStatus 24 8 1).raiseEach .mgtCause 0)

theorem restartRequest_mode (s : State) (w : DrainFor) (c : ModeCause) (f : Nat × Nat) :
    (s.restartRequest w c f).mode = if s.mode = .service ∨ s.mode = .throttle then .drain else s.mode := by
  simp only [State.restartRequest]
  split
  · simp_all [enterDrain_mode]
  · have h : ¬(s.mode = .service ∨ s.mode = .throttle) := by simp_all
    rw [if_neg h]
    repeat' split
    all_goals simp

theorem shutdownPf_mode (s : State) (n : Nat) :
    (s.shutdownPf n).mode = s.mode ∨ (s.mode = .service ∨ s.mode = .throttle) ∧ (s.shutdownPf n).mode = .drain := by
  simp only [State.shutdownPf]
  repeat' split
  all_goals simp_all [enterDrain_mode]

theorem writeCc_mode (s : State) (f : Nat) (v : BitVec 32) :
    (s.writeCc f v).mode = s.mode ∨ (s.mode = .service ∨ s.mode = .throttle) ∧ (s.writeCc f v).mode = .drain := by
  unfold State.writeCc
  extract_lets old s1 _ s2
  have h1 : s1.mode = s.mode := by
    unfold s1
    repeat' split
    all_goals simp
  have h2 : s2.mode = s.mode := by
    unfold s2
    split
    · simpa using h1
    · exact h1
  clear_value s2
  rw [← h2]
  split
  · exact Or.inl rfl
  · split
    · exact shutdownPf_mode _ _
    · exact Or.inl (by simp)

theorem restartNow_mode (s : State) (v : Via) (w : DrainFor) (c : ModeCause) : Flows s.mode (s.restartNow v w c).mode := by
  simp only [State.restartNow]
  split
  · rename_i h; exact Or.inr (by simp [h, modeEdge])
  · split <;> · simp only [reply_mode, restartRequest_mode]
                split
                · rename_i h; exact Or.inr (by rcases h with h | h <;> simp [h, modeEdge])
                · exact Or.inl rfl

theorem shutDown_mode (s : State) (l : Option Nat) : Flows s.mode (s.shutDown l).mode := by
  simp only [State.shutDown]
  cases h : s.mode <;> dsimp only <;> repeat' split
  all_goals simp_all [Flows, modeEdge, enterDrain_mode, enterFlush_mode, modeLedger]

theorem judgeShutdown_mode (s : State) (r : Int) (h : List (Nat × Int)) : Flows s.mode (s.judgeShutdown r h).mode := by
  simp only [State.judgeShutdown]
  split
  · have k := shutDown_mode (({ s with thm := { s.thm with shutting := true } }).raise .thmCause 3) (timeLeft h)
    rwa [raise_mode] at k
  · split
    · rename_i k
      have k : s.mode = .drain := by simp_all
      simp [Flows, enterFlush_mode, k, modeLedger, modeEdge]
    · exact Or.inl rfl

theorem powerLoss_mode (s : State) (c : ModeCause) : Flows s.mode (s.powerLoss c).mode := by
  simp only [State.powerLoss]
  repeat' split
  all_goals simp_all [Flows, modeEdge, enterFlush_mode, modeLedger]

theorem sleepBoundary_mode (s : State) : s.sleepBoundary.mode = s.mode ∨
    s.mode ≠ .drain ∧ (s.sleepBoundary.mode = .doze ∨ s.sleepBoundary.mode = .hibernate) := by
  simp only [State.sleepBoundary]
  repeat' split
  all_goals simp_all

theorem wakeBoundary_mode (s : State) : s.wakeBoundary.mode = s.mode ∨ s.wakeBoundary.mode = .service := by
  simp only [State.wakeBoundary]
  split <;> simp

theorem readyNow_fold_mode {α : Type} (f : State → α → State) (hf : ∀ s a, (f s a).mode = s.mode) (l : List α) (s : State) :
    (l.foldl f s).mode = s.mode := by
  induction l generalizing s with
  | nil => rfl
  | cons a l ih => simp [List.foldl_cons, ih, hf]

theorem serviceAgain_mode (s : State) : s.serviceAgain.mode = s.mode ∨ s.mode = .drain ∧ s.serviceAgain.mode = .service := by
  simp only [State.serviceAgain]
  split
  · refine Or.inr ⟨by simp_all, ?_⟩
    rw [readyNow_mode, readyNow_fold_mode _ (fun s a => by split <;> simp)]
    simp
  · exact Or.inl rfl

theorem followThrottle_mode (s : State) : s.followThrottle.mode = s.mode ∨
    s.mode = .service ∧ s.followThrottle.mode = .throttle ∨ s.mode = .throttle ∧ s.followThrottle.mode = .service := by
  simp only [State.followThrottle]
  repeat' split
  all_goals simp_all

@[simp] theorem beginService_mode (s : State) : s.beginService.mode = .service := by
  simp only [State.beginService, kick_mode, updRestart_mode]
  rw [readyNow_fold_mode _ (fun s a => by simp)]
  split <;> simp

theorem loadStep1_mode (s : State) : s.loadStep1.mode = s.mode ∨ s.loadStep1.mode = .maintenance := by
  simp only [State.loadStep1]
  repeat' split
  all_goals simp

theorem loadStep3_mode (s : State) : s.loadStep3.mode = s.mode ∨ s.loadStep3.mode = .maintenance := by
  simp only [State.loadStep3]
  repeat' split
  all_goals first | exact slotFail_mode _ _ _ | simp

theorem norEnd_mode (s : State) (o : NorOp) (ok : Bool) :
    (s.norEnd o ok).mode = s.mode ∨ s.mode = .load ∧ (s.norEnd o ok).mode = .maintenance := by
  have k := mpReset_mode { (({ s with nor := { s.nor with op := none } }).norOwnerEnd o ok) with
    nor := { (({ s with nor := { s.nor with op := none } }).norOwnerEnd o ok).nor with haltMp := false } }
  simp only [State.norEnd]
  repeat' split
  all_goals simp_all

end Sys2Proof.Machine
end

