-- ==== Sys2Proof/Laws/Raise.lean ====
section
/-!
SUPPORT. What raising a leaf bit can do (R541, R547): the leaf's register, EVT_CAUSE, the recorder, and the levels that ALERT_N and the
message vector follow; every other field and register stands.
-/
namespace Sys2Proof.Machine

/-- The levels due on ALERT_N are all that its following changes. -/
theorem alertSync_form (s : State) : ∃ p, s.alertSync = { s with mgt := { s.mgt with alertPipe := p } } := by
  simp only [State.alertSync]
  split
  · exact ⟨s.mgt.alertPipe, rfl⟩
  · exact ⟨_, rfl⟩

/-- A waiting message is sent, or nothing changes. -/
theorem msixSend_form (s : State) : ∃ m d, s.msixSend = { s with mgt := { s.mgt with msix := m, msixPend := d } } := by
  simp only [State.msixSend]
  split
  · exact ⟨_, _, rfl⟩
  · exact ⟨s.mgt.msix, s.mgt.msixPend, rfl⟩

theorem msixSync_form (s : State) (was : Bool) :
    ∃ m d, s.msixSync was = { s with mgt := { s.mgt with msix := m, msixPend := d } } := by
  obtain ⟨m, d, h⟩ := msixSend_form { s with mgt := { s.mgt with msixPend := s.msixLevel && (s.mgt.msixPend || !was) } }
  exact ⟨m, d, h⟩

theorem clockSync_form (s old : State) : ∃ c, s.clockSync old = { s with mgt := { s.mgt with clockStopped := c } } := by
  simp only [State.clockSync]
  split
  · exact ⟨_, rfl⟩
  · exact ⟨s.mgt.clockStopped, rfl⟩

/-- Propagation changes no more than the levels due on ALERT_N, the messages sent or waiting, and whether MGT's clock is stopped. -/
theorem treeSync_form (old s : State) :
    ∃ p m d c, treeSync old s = { s with mgt := { s.mgt with alertPipe := p, msix := m, msixPend := d, clockStopped := c } } := by
  obtain ⟨p, h1⟩ := alertSync_form s
  obtain ⟨m, d, h2⟩ := msixSync_form s.alertSync old.msixLevel
  obtain ⟨c, h3⟩ := clockSync_form (s.alertSync.msixSync old.msixLevel) old
  exact ⟨p, m, d, c, by rw [treeSync, h3, h2, h1]⟩

@[simp] theorem treeSync_reg (old s : State) (o : Nat) : (treeSync old s).reg o = s.reg o := by
  obtain ⟨p, m, d, c, h⟩ := treeSync_form old s
  rw [h]; rfl

/-- EVT_DROPPED is the only register bit that recording sets. -/
theorem setDropped_form (s : State) : ∃ r, s.setDropped = { s with regs := r } := by
  simp only [State.setDropped]
  split
  · exact ⟨_, rfl⟩
  · exact ⟨s.regs, rfl⟩

theorem setDropped_reg (s : State) {o : Nat} (h : o ≠ Reg.evtCause) : s.setDropped.reg o = s.reg o := by
  simp only [State.setDropped]
  split
  · exact reg_setReg_other s _ h
  · rfl

/-- An event record changes the recorder, and EVT_CAUSE where it is lost. -/
theorem event_form (s : State) (ty : Nat) (d : List Byte) : ∃ r e, s.event ty d = { s with regs := r, evt := e } := by
  simp only [State.event]
  repeat' split
  · exact ⟨s.regs, _, rfl⟩
  · exact ⟨s.regs, _, rfl⟩
  · exact ⟨s.regs, _, rfl⟩
  · exact ⟨s.regs, _, rfl⟩
  · obtain ⟨r, h⟩ := setDropped_form { s with evt := s.evt.lose }
    exact ⟨r, s.evt.lose, h⟩

theorem event_reg (s : State) (ty : Nat) (d : List Byte) {o : Nat} (h : o ≠ Reg.evtCause) : (s.event ty d).reg o = s.reg o := by
  simp only [State.event]
  repeat' split
  all_goals first | rfl | exact setDropped_reg _ h

/-- Raising a bit changes registers, the recorder, the levels due on ALERT_N, the messages, and whether MGT's clock is stopped. -/
theorem raise_form (s : State) (l : Leaf) (b : Nat) : ∃ r e p m d c, s.raise l b =
    { s with regs := r, evt := e, mgt := { s.mgt with alertPipe := p, msix := m, msixPend := d, clockStopped := c } } := by
  simp only [State.raise]
  split
  · exact ⟨s.regs, s.evt, s.mgt.alertPipe, s.mgt.msix, s.mgt.msixPend, s.mgt.clockStopped, rfl⟩
  · generalize hu : (if s.islandOn (leafIsland l) = true then s.setReg (leafReg l) (s.reg (leafReg l) ||| oneBit b) else s) = u
    have h : ∃ r, u = { s with regs := r } := by
      rw [← hu]
      split
      · exact ⟨_, rfl⟩
      · exact ⟨s.regs, rfl⟩
    obtain ⟨r, rfl⟩ := h
    obtain ⟨r2, e, he⟩ := event_form { s with regs := r }
      (0x8000 + 1024 * (leafPlace l).1 + 32 * (leafPlace l).2 + b) (({ s with regs := r } : State).leafDetail l)
    obtain ⟨p, m, d, c, ht⟩ := treeSync_form s { s with regs := r2, evt := e }
    exact ⟨r2, e, p, m, d, c, by rw [he, ht]⟩

/-- A register that is neither the leaf's nor EVT_CAUSE keeps its word. -/
theorem raise_reg_other (s : State) (l : Leaf) (b : Nat) {o : Nat} (h1 : o ≠ leafReg l) (h2 : o ≠ Reg.evtCause) :
    (s.raise l b).reg o = s.reg o := by
  simp only [State.raise]
  split
  · rfl
  · rw [treeSync_reg, event_reg _ _ _ h2]
    split
    · exact reg_setReg_other s _ h1
    · rfl

theorem bitOf_or_oneBit (w : Word) {b : Nat} (h : b < 32) : bitOf (w ||| oneBit b) b = true := by
  have k : (BitVec.ofNat 32 (2 ^ b)).getLsbD b = true := by
    rw [BitVec.getLsbD_ofNat, Nat.testBit_two_pow_self]
    simp only [h, decide_true, Bool.and_self]
  simp only [bitOf, oneBit, BitVec.getLsbD_or, k, Bool.or_true]

theorem setDropped_keeps (s : State) (b : Nat) (h : bitOf (s.reg Reg.evtCause) b = true) :
    bitOf (s.setDropped.reg Reg.evtCause) b = true := by
  simp only [State.setDropped]
  split
  · rw [reg_setReg_same]
    simp only [putBit, if_true]
    simp only [bitOf, BitVec.getLsbD_or, Bool.or_eq_true] at h ⊢
    exact Or.inl h
  · exact h

theorem event_keeps (s : State) (ty : Nat) (d : List Byte) (b : Nat) (h : bitOf (s.reg Reg.evtCause) b = true) :
    bitOf ((s.event ty d).reg Reg.evtCause) b = true := by
  simp only [State.event]
  repeat' split
  all_goals first | exact h | exact setDropped_keeps _ b h

/-- The bit is set where the leaf's island is on. -/
theorem raise_bit (s : State) (l : Leaf) {b : Nat} (hb : b < 32) (h : s.islandOn (leafIsland l) = true) :
    bitOf ((s.raise l b).reg (leafReg l)) b = true := by
  simp only [State.raise]
  split
  · assumption
  · rw [treeSync_reg]
    by_cases he : leafReg l = Reg.evtCause
    · have hl : leafReg l = Reg.evtCause := he
      rw [hl]
      refine event_keeps _ _ _ b ?_
      rw [← hl, reg_setReg_same]
      exact bitOf_or_oneBit _ hb
    · rw [event_reg _ _ _ he, reg_setReg_same]
      exact bitOf_or_oneBit _ hb

end Sys2Proof.Machine
end

