-- ==== Sys2Proof/WellFormed.lean ====
section
/-!
DEFINITION. Which commands are well formed: every operand lies in the range of its field (accounts and functions below 2,048, dies below
1,024, zones below 229,376, key slots below 4,096, and so on). Operands whose type already bounds them need no check.
-/
namespace Sys2Proof

/-- A requester names a function that can exist (R5). -/
def requesterOk : Requester → Bool
  | .func n => decide (n < 2048)
  | _ => true

/-- A sender of an admin command: a function with a 16-bit command identifier, or an NVMe-MI message identifier (R5, R287). -/
def viaOk : Via → Bool
  | .host f cid => decide (f < 2048) && decide (cid < 65536)
  | .mi id => decide (id < 256)

def admOk (a : Adm) : Bool := viaOk a.via

/-- A submission queue entry's numbers fit their fields. -/
def sqeOk (q : Sqe) : Bool := decide (q.cid < 65536) && decide (q.nsid < 2 ^ 32)

/-- At most 256 ranges (R289), each within 32 bits of length. -/
def rangesOk (l : List LbaRange) : Bool := decide (l.length ≤ 256) && l.all (fun r => decide (r.slba < 2 ^ 64) && decide (r.count < 2 ^ 32))

/-- A symbol of an 80-symbol codeword (R410). -/
def symOk (e : SymErr) : Bool := decide (e.symbol < 80)

/-- An entry record's numbers fit the fields of R200. -/
def entryOk (e : EntryRec) : Bool :=
  decide (e.start < 128) && decide (e.length < 256) && decide (e.type < 16) && decide (e.cls < 16) && decide (e.admCode < 16) && decide (e.door < 4)

/-- The operands of a command lie in their ranges. -/
def Instr.wf : Instr → Bool
  | .porNAssert => true
  | .porNRelease => true
  | .plossNFall => true
  | .plossNAssert => true
  | .plossNRise => true
  | .offExitCountExpiry => true
  | .pwrGoodDrop => true
  | .pwrGoodRise => true
  | .railTimeout => true
  | .strapSample _ => true
  | .oscillatorQualified => true
  | .pllLock us => decide (us < 2 ^ 32)
  | .xtalFail => true
  | .calRowReadDone => true
  | .bankFillDone _ => true
  | .ddr5BootSweepDone eyes => decide (eyes.length ≤ 20)
  | .dramFillDone => true
  | .perstNAssert => true
  | .perstNRelease => true
  | .pcieLinkUp l => decide (1 ≤ l.gen) && decide (l.gen ≤ 5) && [1, 2, 4].contains l.width && [128, 256, 512].contains l.mps
  | .clkreqNAssert => true
  | .loadStepComplete ids misfit => ids.all (fun l => decide (l.1 < 1024)) && misfit.all (fun d => decide (d < 1024))
  | .ddr5LevelSweepDone eyes => decide (eyes.length ≤ 20)
  | .channelSweepDone c _ _ => decide (c < 32)
  | .sensorSelfCheckDone => true
  | .folioBoundary => true
  | .shutdownNotification shn => decide (shn < 4)
  | .drainComplete => true
  | .flushComplete => true
  | .nssrWrite _ => true
  | .processorFault _ => true
  | .islandRestartComplete _ => true
  | .watchdogKick _ => true
  | .watchdogExpiry => true
  | .mgtClockStop => true
  | .mgtClockRestart => true
  | .norProgram pages _ _ => decide (pages < 512)
  | .norSubsectorErase _ => true
  | .norSectorErase _ => true
  | .norOpComplete _ => true
  | .busyBankFault _ _ => true
  | .crossingFault _ i => decide (i < 1024)
  | .crossbarRefusal ask _ _ _ => decide (ask.port < 16) && ask.rivals.all (fun p => decide (p < 16))
  | .doorbellWrite func qid _ _ => decide (func < 2048) && decide (qid < 65536)
  | .commandFetch queue sqe ranges => decide (queue < 16384) && sqeOk sqe && rangesOk ranges
  | .capsuleReceive qp sqe ranges _ => decide (qp < 4096) && sqeOk sqe && rangesOk ranges
  | .commandArrival _ => true
  | .acceptanceEnd _ => true
  | .mapLookupEnd _ _ errs _ => errs.all symOk
  | .entryStart die e _ _ _ _ => decide (die < 1024) && entryOk e
  | .budgetCheck die _ => decide (die < 1024)
  | .dieReset die => decide (die < 1024)
  | .transferSlot die => decide (die < 1024)
  | .ldpcDecodeEnd _ i _ _ => decide (i < 1024)
  | .retryRead _ i => decide (i < 1024)
  | .recoveryRead _ i => decide (i < 1024)
  | .l3Timeout _ i => decide (i < 1024)
  | .tallyRebuild _ i _ => decide (i < 1024)
  | .xtsStageEnd _ i _ => decide (i < 1024)
  | .sealCheckEnd _ i _ => decide (i < 1024)
  | .egressSlotStart _ i _ => decide (i < 1024)
  | .egressEnd _ i _ => decide (i < 1024)
  | .zeroReadEgress _ i => decide (i < 1024)
  | .completionPostEnd _ _ => true
  | .hostDataFetchEnd _ _ => true
  | .stagingSlotsTaken _ _ _ => true
  | .gateLaneGrant _ => true
  | .sealEnd _ i => decide (i < 1024)
  | .zeroFillEnd _ i => decide (i < 1024)
  | .dramWriteEnd _ i => decide (i < 1024)
  | .dayBookSecure _ => true
  | .deallocationSecure _ => true
  | .programResult die _ => decide (die < 1024)
  | .settlementMessage => true
  | .eraseResult die _ => decide (die < 1024)
  | .zoneClaimDone zone => decide (zone < 229376)
  | .slotBinding zone slot _ => decide (zone < 229376) && decide (slot < 16)
  | .evacuationDone zone slot _ => decide (zone < 229376) && decide (slot < 16)
  | .foldDone zone slot _ => decide (zone < 229376) && decide (slot < 16)
  | .tailRingCopy die block => decide (die < 1024) && decide (block < 8)
  | .tallyProgram zone _ => decide (zone < 229376)
  | .accumulatorRebuild zone => decide (zone < 229376)
  | .blockVerifyDone die block _ => decide (die < 1024) && decide (block < 4096)
  | .mapCommitMessage _ => true
  | .sourceErase _ => true
  | .spillProgram => true
  | .metadataWrite _ => true
  | .staleSecuredRecord _ => true
  | .segmentTestStart n => decide (n < 8)
  | .segmentTestSample _ => true
  | .testInvalid => true
  | .segFault n _ => decide (n < 8)
  | .scrubPassStart _ => true
  | .drainBatchStart _ _ => true
  | .drainBatchEnd _ => true
  | .rowCloseTimeout bank => decide (bank < 64)
  | .selfRefreshEntry => true
  | .ddrAlert => true
  | .bankScrub _ _ => true
  | .bankRetentionEntry _ => true
  | .bankWakeDone _ => true
  | .tamperV _ _ => true
  | .tamperClk _ _ => true
  | .tamperShield => true
  | .wipeDone => true
  | .srmConflictClr who _ => requesterOk who
  | .acquire who => requesterOk who
  | .release who => requesterOk who
  | .unwrap who slot _ _ => requesterOk who && decide (slot < 4096)
  | .wrapOut who slot => requesterOk who && decide (slot < 4096)
  | .wrapData who slot _ => requesterOk who && decide (slot < 4096)
  | .clear who slot => requesterOk who && decide (slot < 4096)
  | .kmOpComplete => true
  | .crySlotSelWrite who _ => requesterOk who
  | .entropyFail => true
  | .entropyStale g => decide (g < 65)
  | .maskReseed g => decide (g < 65)
  | .chainRun who ch _ => requesterOk who && decide (ch < 8)
  | .appendCountWrite who ch count _ => requesterOk who && decide (ch < 8) && decide (count < 2 ^ 32)
  | .descriptorCopy ch _ => decide (ch < 8)
  | .descriptorFill ch _ => decide (ch < 8)
  | .fence ch _ => decide (ch < 8)
  | .linkReadReturn ch _ => decide (ch < 8)
  | .linkReread ch => decide (ch < 8)
  | .chainRetry who ch => requesterOk who && decide (ch < 8)
  | .chainSkip who ch => requesterOk who && decide (ch < 8)
  | .chainAbort who ch => requesterOk who && decide (ch < 8)
  | .contextReadComplete a purpose _ => decide (a < 2048) && decide (purpose < 4)
  | .ctxHalt a purpose _ _ _ => decide (a < 2048) && decide (purpose < 4)
  | .xfrCtxSelWrite who _ => requesterOk who
  | .contextRestartRetry who => requesterOk who
  | .contextRestartFail who => requesterOk who
  | .deleteIoSubmissionQueue a qid => admOk a && decide (qid < 65536)
  | .createIoSubmissionQueue a qid size cqid _ => admOk a && decide (qid < 65536) && decide (size ≤ 65536) && decide (cqid < 65536)
  | .getLogPage a page nsid lsi _ _ => admOk a && decide (page < 256) && decide (nsid < 2 ^ 32) && decide (lsi < 65536)
  | .deleteIoCompletionQueue a qid => admOk a && decide (qid < 65536)
  | .createIoCompletionQueue a qid size vector _ => admOk a && decide (qid < 65536) && decide (size ≤ 65536) && decide (vector < 65536)
  | .identify a cns nsid cntid csi => admOk a && decide (cns < 256) && decide (nsid < 2 ^ 32) && decide (cntid < 65536) && decide (csi < 256)
  | .abort a sqid cid => admOk a && decide (sqid < 65536) && decide (cid < 65536)
  | .setFeatures a fid _ _ => admOk a && decide (fid < 256) && decide (fid ≠ 0x0E)
  | .powerStateSet a ps _ => admOk a && decide (ps < 4)
  | .dozeRequest a _ => admOk a
  | .hibernateRequest a _ => admOk a
  | .timestamp a ms _ => admOk a && decide (ms < 2 ^ 48)
  | .getFeatures a fid sel _ => admOk a && decide (fid < 256) && decide (sel < 8)
  | .asynchronousEventRequest a => admOk a
  | .namespaceManagement a q _ => admOk a && sqeOk q
  | .firmwareCommitUpdate a action slot => admOk a && decide (action < 8) && decide (slot < 8)
  | .firmwareCommitMark a slot => admOk a && decide (slot < 8)
  | .firmwareImageDownload a offset length data => admOk a && decide (offset < 2 ^ 34) && decide (length ≤ 2 ^ 34) && decide (data.length = length)
  | .namespaceAttachment a q _ => admOk a && sqeOk q
  | .keepAlive a => admOk a
  | .virtualizationManagement a action cntlid _ => admOk a && decide (action < 16) && decide (cntlid < 65536)
  | .fabricsConnect qp cid cntlid qid size => decide (qp < 4096) && decide (cid < 65536) && decide (cntlid < 65536) && decide (qid < 65536) && decide (size ≤ 65536)
  | .propertyGet qp cid offset => decide (qp < 4096) && decide (cid < 65536) && decide (offset < 0x1000)
  | .propertySet qp cid _ _ => decide (qp < 4096) && decide (cid < 65536)
  | .disconnect qp cid => decide (qp < 4096) && decide (cid < 65536)
  | .formatNvm a q => admOk a && sqeOk q
  | .mediatedCommand func cid q _ => decide (func < 2048) && decide (cid < 65536) && sqeOk q
  | .planSelect a plan level => admOk a && decide (plan < 4) && decide (level < 4)
  | .planReqWrite who _ => requesterOk who
  | .planStatus a => admOk a
  | .accountQuiesce a account => admOk a && decide (account < 2048)
  | .accountResume a account => admOk a && decide (account < 2048)
  | .quiesceCut member => decide (member < 2112)
  | .accountBind a account _ => admOk a && decide (account < 2048)
  | .accountQuery a account => admOk a && decide (account < 2048)
  | .mediationReply a tag _ => admOk a && decide (tag < 65536)
  | .keyLoad a slot _ => admOk a && decide (slot < 4096)
  | .mediationReceive a => admOk a
  | .restart a bs => admOk a && decide (bs.length = 512)
  | .maintenanceRequest a bs => admOk a && decide (bs.length = 512)
  | .reserveStatus a => admOk a
  | .flush _ => true
  | .write _ => true
  | .read _ => true
  | .writeZeroes _ => true
  | .datasetManagement _ => true
  | .copy _ => true
  | .zoneClose _ => true
  | .zoneFinish _ => true
  | .zoneOpen _ => true
  | .zoneReset _ => true
  | .zoneOffline _ => true
  | .setZoneDescriptorExtension _ => true
  | .reportZones _ => true
  | .zoneAppend _ => true
  | .mintedRead _ => true
  | .controllerReset func => decide (func < 2048)
  | .controllerEnable func _ => decide (func < 2048)
  | .vfShutdownNotification func => decide (func < 2048)
  | .flr func => decide (func < 2048)
  | .flrTimeout func => decide (func < 2048)
  | .sliceEnable who n _ _ => requesterOk who && decide (n < 64)
  | .sliceDisable who n => requesterOk who && decide (n < 64)
  | .qsliceApply who _ => requesterOk who
  | .dlogHeadWrite who _ => requesterOk who
  | .cmReq port _ => decide (port < 2)
  | .ceMarkedPacket qp => decide (qp < 4096)
  | .cnpReceive qp => decide (qp < 4096)
  | .rateRecovery qp => decide (qp < 4096)
  | .pfcPauseReceive port _ => decide (port < 2)
  | .pfcXon port _ => decide (port < 2)
  | .arpRequest port _ => decide (port < 2)
  | .neighborDiscovery port _ => decide (port < 2)
  | .wakeFrame port _ _ _ => decide (port < 2)
  | .linkUp port _ _ => decide (port < 2)
  | .linkDown port _ _ => decide (port < 2)
  | .mintLaneGrant l => decide (l < 16)
  | .mintSetupEnd l => decide (l < 16)
  | .sectorConsume l _ _ _ _ => decide (l < 16)
  | .mintChunkTurn l _ _ => decide (l < 16)
  | .mintLaneEnd l => decide (l < 16)
  | .abortPointAp2 => true
  | .abortPointAp3 => true
  | .mgmtWake => true
  | .alarmMatch => true
  | .rtcPeriod => true
  | .sensorSample n _ _ => decide (n < 16)
  | .throttleRise => true
  | .wearEvaluation => true
  | .powerOnHour => true
  | .loopSample n _ => decide (n < 4)
  | .loopOutput n => decide (n < 4)
  | .profileStep => true
  | .settleLate n => decide (n < 4)
  | .loopCloseWrite who n _ => requesterOk who && decide (n < 4)
  | .coefWrite who n _ _ => requesterOk who && decide (n < 4)
  | .setpointWrite who n _ => requesterOk who && decide (n < 4)
  | .loop1Reclose => true
  | .entdaa _ => true
  | .rstdaa => true
  | .setdasa _ _ => true
  | .setnewda _ _ => true
  | .getpid _ => true
  | .getbcr _ => true
  | .getdcr _ => true
  | .getstatus _ => true
  | .getmwl _ => true
  | .getmrl _ => true
  | .setmwl _ v => decide (v < 65536)
  | .setmrl _ v => decide (v < 65536)
  | .enec _ => true
  | .disec _ => true
  | .mctpPacketWrite _ bs => decide (bs.length ≤ 69)
  | .mctpPacketRead _ => true
  | .setEndpointId id eid => decide (id < 256) && decide (eid < 256)
  | .getEndpointId id => decide (id < 256)
  | .getEndpointUuid id => decide (id < 256)
  | .getMctpVersionSupport id type => decide (id < 256) && decide (type < 256)
  | .getMessageTypeSupport id => decide (id < 256)
  | .readNvmeMiDataStructure id type => decide (id < 256) && decide (type < 256)
  | .nvmSubsystemHealthStatusPoll id => decide (id < 256)
  | .controllerHealthStatusPoll id func => decide (id < 256) && decide (func < 2048)
  | .configurationSet id cfg _ => decide (id < 256) && decide (cfg < 256)
  | .configurationGet id cfg => decide (id < 256) && decide (cfg < 256)
  | .miReset id => decide (id < 256)
  | .getChallenge id => decide (id < 256)
  | .eventLogRead id _ _ => decide (id < 256)
  | .eventLogClear id bs => decide (id < 256) && decide (bs.length = 512)
  | .calibrationRowRead id => decide (id < 256)
  | .calibrationRowWrite id row => decide (id < 256) && decide (row.length = 4096)
  | .provision id bs => decide (id < 256) && decide (bs.length = 512)
  | .decommission id bs => decide (id < 256) && decide (bs.length = 512)
  | .factoryTestVerifySlot id _ => decide (id < 256)
  | .factoryTestAlert id => decide (id < 256)
  | .factoryAlertPulseEnd => true
  | .factoryTestEntropy id _ => decide (id < 256)
  | .challengeNew who => requesterOk who
  | .nonceExpiry _ => true
  | .authLockoutEnd _ => true
  | .causeLeafSet _ b => decide (b < 32)
  | .causeLeafClear who _ _ => requesterOk who
  | .alertNUpdate => true
  | .evtRecordProgram => true
  | .evtProgramDone _ => true
  | .evtRdSelWrite who _ => requesterOk who
  | .medZqSelWrite who _ => requesterOk who
  | .traceArm who _ => requesterOk who
  | .extwaitClear who account => requesterOk who && decide (account < 2048)
  | .tickLoRead who => requesterOk who
  | .timeLoRead who => requesterOk who
  | .registerWrite who o _ => requesterOk who && decide (o % 4 = 0)
  | .segmentCharged n _ => decide (n < 8)
  | .tallyForwardCopy die block => decide (die < 1024) && decide (block < 128)
  | .retentionRefreshDue die block => decide (die < 1024) && decide (block < 4096)
  | .cqHeadWrite who ch head => requesterOk who && decide (ch < 8) && decide (head < 2 ^ 32)
  | .vfEnable vfs => decide (vfs < 2048)
  | .pcieLinkDown => true
  | .keepAliveTimeout func => decide (func < 2048)
  | .pfcPauseExpiry port _ => decide (port < 2)
  | .tckEdge _ _ => true
  | .trstNAssert => true

end Sys2Proof
end

