-- ==== Sys2Proof/Tests/Slice0.lean ====
section
/-!
SUPPORT. The model's own tests: each check of WellFormed refuses an ill-formed term, and for each statement with hypotheses one theorem
that exhibits states and operands meeting them, clause by clause.
-/
namespace Sys2Proof.Tests
set_option Elab.async false
open Sys2Proof Sys2Proof.Machine

/-! ## Small states and operands -/

/-- The block in mode `m` with its input pins high and PWR_HOLD driven. -/
def inMode (m : Mode) : State :=
  { State.reset with mode := m, pins := { porN := true, pwrGood := true, plossN := true, perstN := true, pwrHold := true } }

/-- `n` bytes of zero. -/
def zeros (n : Nat) : List Byte := List.replicate n 0

def lim0 : MemberLimits :=
  { maxQp := 8, maxInflight := 64, keyBase := 0, keyCount := 4, zoneQuota := 16, convQuota := 1024, maxActive := 4,
    credit := [⟨100, 100, 1000⟩, ⟨100, 100, 1000⟩, ⟨100, 100, 1000⟩, ⟨100, 100, 1000⟩] }

def bind0 : Binding := { cls := 1, seat := 0, logEn := false, netEn := true, mintEn := true, lim := lim0 }

def ctrl0 : Ctrl := { cc := 1#32, rdy := true }

def geo0 : Geometry :=
  { chPresent := 0, cePresent := 0, flashMts := 0, flashId := 0, dramGib := 65535, dramRanks := 255, dramKept := false, dramMts := 0,
    coverMib := 0, pcieFlags := 0, totalVfs := 4, groups := [] }

/-- An image that passes every check of R120 against a blank calibration row. -/
def img0 : Image :=
  { magic := 0x41565345, format := 1, sectionCount := 8, imageBytes := 36864, fwRelease := 1#32, targetPart := 0x049000B1#32,
    reservedZero := true,
    dir := [1, 2, 3, 4, 5, 6, 7, 15].zipIdx.map (fun e => ⟨e.1, 4096 * (e.2 + 1), 4096, true, 0, 0⟩),
    dirTailZero := true, headDigest := 0, fwSigOk := true, keyDigest := BitVec.ofNat 384 (2 ^ 384 - 1), imageSigOk := true,
    planSet := ⟨0, 0, 0, 0, 0, 0, [], [], [], [], 0, true⟩,
    accounts := ⟨0, 0, true, List.replicate 2048 ⟨false, true, true, true, 1, BitVec.ofNat 14 0x3FFF, lim0, true⟩ ++
      List.replicate 64 ⟨false, false, false, true, 1, BitVec.ofNat 14 0x3FFF, { lim0 with keyBase := 8, zoneQuota := 0, convQuota := 0, maxActive := 0 }, true⟩, 118336⟩,
    geometry := geo0
    verify := romVerify, recipes := ⟨0, 0, 0, true, [], []⟩, thresholds := romThresholds }

/-- SERVICE with the PF and VF 1 enabled and bound. -/
def svc : State :=
  let a : List (Nat × Acct) := [(0, { binding := some bind0 }), (1, { binding := some { bind0 with lim := { lim0 with keyBase := 4 } } })]
  { inMode .service with
    boot := { State.reset.boot with image := some img0 }
    host := { linkUp := true, linkGen := 5, vfEnable := true, numVfs := 1, ctrls := [(0, ctrl0), (1, ctrl0)], accts := a } }

def sqe0 : Sqe :=
  { opcode := 0x02#8, cid := 7, nsid := 1, cdw3 := 0, prp1 := 0, prp2 := 0, cdw10 := 0, cdw11 := 0, cdw12 := 0, cdw13 := 0, cdw14 := 0,
    cdw15 := 0, reservedZero := true }

def sec0 : Sec :=
  { lba := 0, key := 0, die := 0, slc := false, zero := false, st := .lookup, reg := 0, level := 0, tries := 0, l3 := 0, poison := false,
    payload := 0, appTag := 0, guardOk := true, refTag := 0, copySrc := false, readyAt := 0, stream := 0, block := none, slotAt := 0,
    since := 0, xts := none }

def hsec0 : HostSec := ⟨0, 0, true, 0⟩

/-- An eye of the least width that passes on every lane of both sub-channels (R86). -/
def eyes0 : List LaneEye :=
  [false, true].flatMap (fun b => (List.range 10).map (fun n => ⟨b, Fin.ofNat 10 n, 0, 16, 0, 16⟩))

/-- A command of account 1 on namespace 1, of one sector at LBA 0. -/
def cmd0 (op : CmdOp) (ph : CmdPhase) (secs : List Sec) : Cmd :=
  { sqe := sqe0, op := op, door := .pcie, net := false, queue := 3, account := 1, member := 1, fetchNo := 1, fetchTick := 0, phase := ph,
    arrival := 0, seq := 1, nsid := 1, slba := 0, count := 1, ordered := false, zone := none, before := none, secs := secs, locks := [],
    locked := true, status := ⟨0, 0, false⟩, dw0 := 0, dw1 := 0, staged := 0, hold := 0, pooled := false, secureHeld := false, secured := false,
    admitted := false, waits := [], waitFrom := 0, maxRetry := 0, silent := false, detached := false, ranges := [], lane := none,
    level := 0 }

def nsC : Ns := { zoned := false, size := 4096, format := 0, extended := false, zones := [], owner := some 1, attached := [1] }
def nsZ : Ns := { zoned := true, size := 524288, format := 0, extended := false, zones := [5], owner := some 1, attached := [1] }

/-- `svc` with one namespace and the commands `l`. -/
def withCmds (x : Ns) (l : List (Nat × Cmd)) : State :=
  { svc with
    med := { svc.med with ns := [(1, x)] }
    host := { svc.host with cmds := l }
    cry := { svc.cry with slots := [(4, { type := .kek }), (5, { type := .xts })] } }

def queue0 : IoQueue := { func := 1, qid := 2, cqid := 1, size := 16, slice := none, waiting := 1, tail := 1 }

/-- MAINTENANCE with a live nonce on both paths. -/
def maint : State :=
  { inMode .maintenance with mgt := { State.reset.mgt with
      mi := { nonce := some ⟨9, 0⟩, fails := 0, lockFrom := none }, pf := { nonce := some ⟨9, 0⟩, fails := 0, lockFrom := none } } }

def qp0 : Qp :=
  { account := 1, port := 0, queue := none, error := false, rate := 100000, cnpSent := none, cnpRecv := none, nextAt := 0, rateAt := 0 }

/-- `svc` with the link of port 0 up and one queue pair. -/
def netUp : State := { svc with net := { svc.net with qps := [(4, qp0)] } }.setReg Reg.netPortStatus 1

/-- A calibration row with magic, format and CRC (R104), every other byte blank. -/
def calHead : List Host.Cell :=
  [(0x07FF0000, 0x43), (0x07FF0001, 0x43), (0x07FF0002, 0x41), (0x07FF0003, 0x4C), (0x07FF0004, 0x01), (0x07FF0005, 0x00)]

def calCrc : Nat := (crc32c (memReadAll norDefault calHead 0x07FF0000 4092)).toNat

def calTail (n : Nat) : List Host.Cell :=
  [(0x07FF0FFC, BitVec.ofNat 8 n), (0x07FF0FFD, BitVec.ofNat 8 (n / 256)), (0x07FF0FFE, BitVec.ofNat 8 (n / 65536)),
   (0x07FF0FFF, BitVec.ofNat 8 (n / 16777216))]

theorem memRead_calTail (m : List Host.Cell) (n a : Nat) (h : a < 0x07FF0FFC) :
    memRead norDefault (m ++ calTail n) a = memRead norDefault m a := by
  unfold memRead
  induction m with
  | nil =>
    have h0 : ¬ (0x07FF0FFC : Nat) = a := by omega
    have h1 : ¬ (0x07FF0FFD : Nat) = a := by omega
    have h2 : ¬ (0x07FF0FFE : Nat) = a := by omega
    have h3 : ¬ (0x07FF0FFF : Nat) = a := by omega
    simp only [calTail, List.nil_append, cget, if_neg h0, if_neg h1, if_neg h2, if_neg h3]
  | cons e m ih => simp only [List.cons_append, cget, ih]

theorem memReadAll_calTail (m : List Host.Cell) (k n : Nat) : ∀ a, a + n ≤ 0x07FF0FFC →
    memReadAll norDefault (m ++ calTail k) a n = memReadAll norDefault m a n := by
  induction n with
  | zero => intro a _; rfl
  | succ n ih =>
    intro a h
    rw [memReadAll, memReadAll, memRead_calTail m k a (by omega), ih (a + 1) (by omega)]

/-- FILL with a row whose CRC field holds `n` in the flash. -/
def fillCal (n : Nat) : State :=
  { inMode .fill with boot := { State.reset.boot with banksLeft := [.plan] }, nor := { State.reset.nor with mem := calHead ++ calTail n } }

theorem calValid_of {s : State} {n : Nat} (h1 : s.calLe 0 4 = 0x4C414343) (h2 : s.calLe 4 2 = 1) (h4 : s.calLe 0xFFC 4 = n)
    (h3 : (crc32c (memReadAll norDefault s.nor.mem 0x07FF0000 4092)).toNat = n) : s.calValid = true := by
  simp only [State.calValid, h1, h2, h3, h4, decide_true, Bool.and_self]

theorem calCells_crc (n : Nat) (h : 4092 = n) :
    (crc32c (memReadAll norDefault (calHead ++ calTail calCrc) 0x07FF0000 n)).toNat = calCrc := by
  rw [memReadAll_calTail calHead calCrc n 0x07FF0000 (by omega)]
  unfold calCrc
  rw [h]

theorem fillCal_sum (n : Nat) (lt : n < 4294967296) : (fillCal n).calLe 0xFFC 4 = n := by
  have e : (fillCal n).calLe 0xFFC 4 = ofLeBytes ((calTail n).map (·.2)) := rfl
  rw [e]
  simp only [calTail, List.map_cons, List.map_nil, ofLeBytes, BitVec.toNat_ofNat]
  omega

theorem fillCal_row : (fillCal calCrc).calValid = true :=
  calValid_of (by decide +kernel) (by decide +kernel) (fillCal_sum _ (BitVec.isLt _)) (calCells_crc _ rfl)

def zoneCmd (t : ZState) (c : Cmd) : State :=
  let s := withCmds nsZ [(1, c)]
  { s with med := { s.med with zones := [(5, { state := t, wp := 64, secWp := 64, active := true })] } }

def svcDie (d : DieRt) : State := { svc with ldg := { svc.ldg with dies := [(3, d)] } }

def stored0 : Stored :=
  { place := .qlc, payload := 0, appTag := 0, nsid := 1, lba := 0, member := 1, key := 0, poison := false, filler := false, seq := 1, die := 3,
    block := 7, idx := 0 }

def rec0 : Rec :=
  { places := [], state := .settled, kind := .write, posted := false, undelivered := false, ended := true, ordered := false, net := false, opcode := 1#8,
    pending := 0, member := 1, queue := 3, cid := 7, nlb := 1, nsid := 1, slba := 0, stage := 0, status := 0, aux := 0, securedAt := 0,
    ranges := [] }

def svcRecs (l : List (Nat × Rec)) : State := { svc with db := { svc.db with recs := l } }

def move0 : Move :=
  { kind := .refresh, zone := none, slot := 0, unit := 0, srcDie := 3, srcBlock := 7, dstBlock := 8, step := 0, keys := [], reads := 0,
    vreads := 0, poison := [] }

def svcMove (m : Move) : State := { svc with med := { svc.med with moves := [(1, m)] } }

/-- `svc` with one die group, of die 3 alone, and the media `x`. -/
def svcGroup (x : Med) : State := { svc with med := { x with groups := [[3]] } }

/-- A fold of zone 0's slot 0 whose wordline is programmed. -/
def fold0 : Move := { move0 with kind := .fold, zone := some 0, step := 1, keys := [5] }

def read0 : DieOp := { type := 1, cls := 1, block := 7, cmd := 1, inBudget := true }

def open0 : Entry15 := ⟨0, 10000000, false, 2⟩

/-- `withCmds` with die 3 in the class 15 entry `e`. -/
def retrying (e : Entry15) (op : CmdOp) (x : Sec) : State :=
  { withCmds nsZ [(1, cmd0 op .running [x])] with ldg := { svc.ldg with dies := [(3, { entry15 := some e })] } }

def full0 : Block := { state := .full, pages := 1, vreads := 4 }

def ent (start type cls : Nat) : EntryRec := ⟨start, 3, type, cls, 1, 0, 15, true⟩

/-- `svc` under a plan whose one template serves die 0. -/
def planned : State :=
  let v : Variant := ⟨0, 0, 0, 1, 0, 0, false, false, 0, [], [], [⟨0, 0, 0, true, true⟩], [⟨3, [ent 0 3 15, ent 8 1 1, ent 20 5 14], true⟩], true⟩
  let im : Image := { img0 with planSet := { img0.planSet with variants := [(0, v)] } }
  { svc with boot := { svc.boot with image := some im } }

/-! ## Choosing a block for a slot -/

theorem insert_length (e : Nat × Nat) (l : List (Nat × Nat)) : (rankInsert e l).length = l.length + 1 := by
  induction l with
  | nil => rfl
  | cons f fs ih =>
    simp only [rankInsert]
    split <;> simp [ih]

theorem ranked_length (f : Nat → Nat × Nat) (l : List Nat) : (l.foldr (fun b r => rankInsert (f b) r) []).length = l.length := by
  induction l with
  | nil => rfl
  | cons b l ih => simp [insert_length, ih]

theorem mem_insert (x e : Nat × Nat) (l : List (Nat × Nat)) (h : x ∈ rankInsert e l) : x = e ∨ x ∈ l := by
  induction l with
  | nil => simpa [rankInsert] using h
  | cons f fs ih =>
    simp only [rankInsert] at h
    split at h
    · simpa using h
    · rcases List.mem_cons.mp h with h | h
      · exact .inr (h ▸ List.mem_cons_self)
      · rcases ih h with h | h
        · exact .inl h
        · exact .inr (List.mem_cons_of_mem _ h)

theorem mem_ready {s : State} {d b : Nat} (h : b ∈ s.ready d) : b ∈ s.shareBlocks d ∧ (s.block d b).state = .ready := by
  have key : ∀ l : List Nat, (∀ c ∈ l, c ∈ s.shareBlocks d ∧ (s.block d c).state = .ready) →
      ∀ e ∈ l.foldr (fun c r => rankInsert ((s.block d c).erases, c) r) [], e.2 ∈ s.shareBlocks d ∧ (s.block d e.2).state = .ready := by
    intro l
    induction l with
    | nil => intro _ e he; simp at he
    | cons c l ih =>
      intro hl e he
      rcases mem_insert _ _ _ he with he | he
      · subst he
        exact hl c List.mem_cons_self
      · exact ih (fun c hc => hl c (List.mem_cons_of_mem _ hc)) e he
  obtain ⟨e, he, rfl⟩ := List.mem_map.mp h
  refine key _ (fun c hc => ?_) e he
  have := List.mem_filter.mp hc
  refine ⟨this.1, ?_⟩
  have h2 := this.2
  simp only [Bool.and_eq_true, decide_eq_true_eq] at h2
  exact h2.1

theorem rank_some (l : List Nat) (n : Nat) (hl : 0 < l.length) (hn : n < 16) : ∃ b ∈ l, l[n * l.length / 16]? = some b := by
  have h : n * l.length / 16 < l.length := by
    rw [Nat.div_lt_iff_lt_mul (by decide), Nat.mul_comm]
    exact (Nat.mul_lt_mul_left hl).mpr hn
  exact ⟨l[n * l.length / 16], List.getElem_mem h, List.getElem?_eq_getElem h⟩

theorem ready_pos (s : State) (d b0 : Nat) (hb : b0 ∈ s.shareBlocks d) (hr : (s.block d b0).state = .ready)
    (hd : (s.block d b0).doom = none) : 0 < (s.ready d).length := by
  unfold State.ready
  rw [List.length_map, ranked_length]
  apply List.length_pos_of_mem (a := b0)
  rw [List.mem_filter]
  exact ⟨hb, by simp only [hr, hd, decide_true, Option.isNone_none, Bool.and_self]⟩

/-- A slot is bound where some block of the die's share is ready and no ready block awaits its erase. -/
theorem bindSlot_some (s : State) (z i b0 : Nat) (slc : Bool) (hb : b0 ∈ s.shareBlocks (s.zoneDie z i))
    (hr : (s.block (s.zoneDie z i) b0).state = .ready) (hd : (s.block (s.zoneDie z i) b0).doom = none)
    (ha : ∀ b, b ∈ s.shareBlocks (s.zoneDie z i) → (s.block (s.zoneDie z i) b).state = .ready →
      (s.block (s.zoneDie z i) b).awaiting = false) (hc : (s.zone z).lclass = none) :
    ∃ t, s.bindSlot z i slc = some t := by
  have hl := ready_pos s (s.zoneDie z i) b0 hb hr hd
  obtain ⟨b, hm, hv⟩ := rank_some (s.ready (s.zoneDie z i)) 7 hl (by decide)
  have hm := mem_ready hm
  have e : s.vaultBlock (s.zoneDie z i) (2 * (s.zone z).lclass.getD 3 + 1) 16 = some b := by
    rw [hc]
    simp only [State.vaultBlock, Option.getD_none]
    exact hv
  unfold State.bindSlot
  simp only [e, ha _ hm.1 hm.2]
  exact ⟨_, rfl⟩

/-- Zone 0 waits for die 0, whose blocks are all ready. -/
def bindDie : State :=
  { svc with med := { svc.med with groups := [[0]], evac := [0], zones := [(0, { state := .closed })] } }

theorem bindDie_binds (slc : Bool) : ∃ t, bindDie.bindSlot 0 0 slc = some t := by
  have hz : bindDie.zoneDie 0 0 = 0 := rfl
  refine bindSlot_some bindDie 0 0 0 slc ?_ rfl rfl (fun b _ _ => rfl) rfl
  rw [hz]
  exact List.mem_append_left _ (List.mem_range.mpr (by omega))

def svcAcct (a : Acct) : State := { svc with host := { svc.host with accts := [(1, a)] } }

def svcSeg (x : Seg) : State := { svc with rsv := { svc.rsv with segs := [(7, x)] } }

/-- `svc` with an image, the slices' words listed as 0. -/
def svcSlices : State :=
  { svc with
    regs := (List.range 64).map (fun k => (sliceReg k, 0#32)) ++ [(Reg.medZoneLimits, 8#32)]
    boot := { svc.boot with image := some img0 } }

def km0 : KmOp := { kind := .clear, slot := 0, result := 0, noKek := false, new := {}, out := [] }

/-- MDP 3 holds the key-management lock of a provisioned part whose device key is 9. -/
def kmHeld : State := { svc with cry := { svc.cry with life := .provisioned, deviceKey := some 9#256 } }.setReg Reg.cryKmLock 4

def svcChain (n : Nat) (c : Chain) : State := { svc with xfr := { svc.xfr with chains := [(n, c)] } }

def desc0 : Desc :=
  { op := 1, crec := false, int := false, tag := 0, length := 64, src := 0, dst := 64, srcSpace := 0, dstSpace := 0, pattern := [], link := 0,
    reservedZero := true }

def ev0 : EvRec :=
  { type := 7, epoch := 0, seq := 0, time := 0, poh := 0, cycles := 0, mode := .service, deferred := false, resumed := false, detail := [],
    crcOk := true }

def svcSleep (e : SleepEntry) (t : Nat) : State := { svc with pwr := { svc.pwr with sleep := some e }, ldg := { svc.ldg with tick := t } }

def rowAt (o : Nat) : RegRow := (regRow o).getD ⟨0, 1, 0, .aon, .both, 0, 0, 0, 0⟩

def leafRow (l : Leaf) : RegRow := rowAt (leafReg l)

def loops0 : List LoopCfg :=
  (List.range 4).map (fun n => { romLoop 0 with outMin := (loopRange n).1, outMax := (loopRange n).2 })

theorem pair_of {α : Type} {n : Nat} {p : Nat × α} (h : p.1 = n) : p = (n, p.2) := by rw [← h]

theorem ok_of {ε α : Type} {r : Except ε α} (h : r.toBool = true) : ∃ a, r = .ok a := by
  cases r with
  | error e => cases h
  | ok a => exact ⟨a, rfl⟩

theorem ok_pair_of {ε α β : Type} {r : Except ε (α × β)} (h : r.toBool = true) : ∃ a b, r = .ok (a, b) := by
  obtain ⟨⟨a, b⟩, h⟩ := ok_of h
  exact ⟨a, b, h⟩

def svcCqs : State := { svc with host := { svc.host with ctrls := [(1, { ctrl0 with cqs := [(1, ⟨16, 0, 0⟩)] })] } }

def svcQueues (l : List (Nat × Cmd)) : State := { svc with host := { svc.host with queues := [(3, queue0)], cmds := l } }

def svcNs (x : Ns) : State := { svc with med := { svc.med with ns := [(1, x)] } }

/-- The bytes of a namespace creation: size, 18 further bytes, and the rest. -/
def nsBytes : List Byte := [0, 0, 4, 0, 0, 0, 0, 0] ++ List.replicate 24 0

def medReq0 : MedReq := { tag := 8195, account := 1, sqe := sqe0, data := [], tick := 0, received := false, order := 0 }

/-- `svc` with a live nonce on the PF's path. -/
def svcAuth : State :=
  { svc with mgt := { State.reset.mgt with
      mi := { nonce := some ⟨9, 0⟩, fails := 0, lockFrom := none }, pf := { nonce := some ⟨9, 0⟩, fails := 0, lockFrom := none } } }

/-- `svc` on a provisioned part. -/
def svcKeys : State := { svc with cry := { svc.cry with life := .provisioned, deviceKey := some 9#256 } }

/-- `svc` with the link of port 1 up and one queue pair. -/
def netUp1 (q : Qp) : State :=
  { svc with net := { svc.net with qps := [(4, q)] } }.setReg (Reg.netPortStatus + 4) 1

def qp1 : Qp := { qp0 with port := 1 }

/-- Host table entries `a` to `a + n - 1`, all 0. -/
def hostRows (a : Nat) : Nat → List (Nat × Word)
  | 0 => []
  | n + 1 => (Reg.netHostCtl + 0x20 * a, 0#32) :: hostRows (a + 1) n

theorem hostRows_get (n : Nat) : ∀ a k, a ≤ k → k < a + n → ofind (hostRows a n) (Reg.netHostCtl + 0x20 * k) = some 0#32 := by
  induction n with
  | zero => intro a k h1 h2; omega
  | succ n ih =>
    intro a k h1 h2
    by_cases h : a = k
    · simp only [hostRows, ofind, h, if_pos]
    · have e : ¬ Reg.netHostCtl + 0x20 * a = Reg.netHostCtl + 0x20 * k := by omega
      simp only [hostRows, ofind, if_neg e]
      exact ih (a + 1) k (by omega) (by omega)

/-- `netUp1` with the host table listed: entry 0 holds `w`. -/
def netHosts (w : Word) : State :=
  { netUp1 qp1 with regs := (Reg.netPortStatus + 4, 1#32) :: (Reg.netHostCtl, w) :: hostRows 1 511 }

theorem netHosts_none (src : BitVec 128) (p : Nat) : (netHosts 0).hostAccount src p = none := by
  have e : (List.range 512).find? ((netHosts 0).hostFits src p) = none := by
    rw [List.find?_eq_none]
    intro n hn
    have hn := List.mem_range.mp hn
    have r : (netHosts 0).reg (Reg.netHostCtl + 0x20 * n) = 0#32 := by
      have f : ofind (netHosts 0).regs (Reg.netHostCtl + 0x20 * n) = some 0#32 := by
        by_cases h : n = 0
        · subst h
          rfl
        · have e1 : ¬ Reg.netPortStatus + 4 = Reg.netHostCtl + 0x20 * n := by simp only [Reg.netPortStatus, Reg.netHostCtl]; omega
          have e2 : ¬ Reg.netHostCtl = Reg.netHostCtl + 0x20 * n := by omega
          simp only [netHosts, ofind, if_neg e1, if_neg e2]
          exact hostRows_get 511 1 n (by omega) (by omega)
      simp only [State.reg, f]
    have b : bitOf 0#32 13 = false := by decide
    simp only [State.hostFits, r, b, Bool.false_and, Bool.false_eq_true, not_false_eq_true]
  simp only [State.hostAccount, e, Option.map_none]

def recipe0 : Recipe := ⟨0, 0, 0, 0, false, 1, 0, 0, 0, 0, 0, 0, true, true⟩

def minted (c : Cmd) (l : Lane) : State :=
  let s := withCmds nsZ [(1, c)]
  let m : Mnt := { s.mnt with laneTbl := [⟨1, .pcie, true, true⟩], recipes := [(0, recipe0)], lanes := [(0, l)] }
  { s with mnt := m, ldg := { s.ldg with turns := [(0, [(0, 0)])] }, regs := [(Reg.mntLaneOpen, 1#32)] }

def mint0 (secs : List Sec) : Cmd := { cmd0 .minted .running secs with lane := some 0 }

/-- A lane whose first 4,096 output bytes are ready. -/
def chunk0 : Lane := { st := .consuming, cmd := 1, produced := 4096, outBefore := 4096 }

/-- `s` at tick `n`. -/
def late (n : Nat) (s : State) : State := { s with ldg := { s.ldg with tick := n } }

/-- `svc` with dynamic address 9 assigned. -/
def i3cUp : State := svc.setReg Reg.mgtI3cStatus 0x89

/-- A write to zone 5, which is empty and holds no blocks, waits for its claims. -/
def claiming : State :=
  let s := withCmds nsZ [(1, { cmd0 .write .fetched [] with zone := some 5 })]
  { s with rsv := { s.rsv with marE := 4 }, med := { s.med with groups := [[0], [1]] } }.setReg Reg.medZoneLimits 4

/-- Zone 1 holds tallies and has programmed all of stripe 2. -/
def tallying : State :=
  { svc with med := { svc.med with
      groups := [[0], [1]], zones := [(1, { holder := true, accStripe := 2, accQuarters := List.range 64 })] } }

/-- What `img0` gives each PASID slice. -/
def slice0 : LimitEntry :=
  ⟨false, false, false, true, 1, BitVec.ofNat 14 0x3FFF, { lim0 with keyBase := 8, zoneQuota := 0, convQuota := 0, maxActive := 0 }, true⟩

/-! ## WellFormed: each check refuses a term that only it refuses -/

theorem test_ill_formed_refused_1 :
    (.pllLock (2 ^ 32) : Instr).wf = false ∧
    (.ddr5BootSweepDone (List.replicate 21 ⟨false, 0, 0, 0, 0, 0⟩) : Instr).wf = false ∧
    (.pcieLinkUp ⟨6, 4, 128⟩ : Instr).wf = false ∧
    (.pcieLinkUp ⟨5, 3, 128⟩ : Instr).wf = false ∧
    (.pcieLinkUp ⟨5, 4, 64⟩ : Instr).wf = false ∧
    (.ddr5LevelSweepDone (List.replicate 21 ⟨false, 0, 0, 0, 0, 0⟩) : Instr).wf = false ∧
    (.channelSweepDone 32 0 0 : Instr).wf = false ∧
    (.shutdownNotification 4 : Instr).wf = false ∧
    (.norProgram 512 [] none : Instr).wf = false ∧
    (.crossingFault 0 1024 : Instr).wf = false ∧
    (.crossbarRefusal ⟨16, []⟩ .xfr false 0 : Instr).wf = false ∧
    (.crossbarRefusal ⟨0, [16]⟩ .xfr false 0 : Instr).wf = false ∧
    (.loadStepComplete [(1024, 0)] [] : Instr).wf = false ∧
    (.loadStepComplete [] [1024] : Instr).wf = false ∧
    (.doorbellWrite 2048 0 false 0 : Instr).wf = false ∧
    (.doorbellWrite 0 65536 false 0 : Instr).wf = false ∧
    (.commandFetch 16384 sqe0 [] : Instr).wf = false ∧
    (.commandFetch 0 { sqe0 with cid := 65536 } [] : Instr).wf = false ∧
    (.commandFetch 0 sqe0 [⟨0, 2 ^ 32⟩] : Instr).wf = false ∧
    (.capsuleReceive 4096 sqe0 [] 0 : Instr).wf = false ∧
    (.capsuleReceive 0 { sqe0 with cid := 65536 } [] 0 : Instr).wf = false ∧
    (.capsuleReceive 0 sqe0 [⟨0, 2 ^ 32⟩] 0 : Instr).wf = false ∧
    (.mapLookupEnd 0 0 [⟨80, 0⟩] false : Instr).wf = false ∧
    (.entryStart 1024 (ent 0 3 15) .other false false [] : Instr).wf = false ∧
    (.entryStart 0 (ent 128 3 15) .other false false [] : Instr).wf = false ∧
    (.budgetCheck 1024 false : Instr).wf = false ∧
    (.dieReset 1024 : Instr).wf = false ∧
    (.transferSlot 1024 : Instr).wf = false ∧
    (.ldpcDecodeEnd 0 1024 false 0 : Instr).wf = false ∧
    (.retryRead 0 1024 : Instr).wf = false ∧
    (.recoveryRead 0 1024 : Instr).wf = false ∧
    (.l3Timeout 0 1024 : Instr).wf = false ∧
    (.tallyRebuild 0 1024 false : Instr).wf = false ∧
    (.xtsStageEnd 0 1024 false : Instr).wf = false ∧
    (.sealCheckEnd 0 1024 false : Instr).wf = false ∧
    (.egressSlotStart 0 1024 false : Instr).wf = false ∧
    (.egressEnd 0 1024 [] : Instr).wf = false ∧
    (.zeroReadEgress 0 1024 : Instr).wf = false ∧
    (.sealEnd 0 1024 : Instr).wf = false ∧
    (.zeroFillEnd 0 1024 : Instr).wf = false ∧
    (.dramWriteEnd 0 1024 : Instr).wf = false ∧
    (.programResult 1024 false : Instr).wf = false ∧
    (.eraseResult 1024 false : Instr).wf = false ∧
    (.zoneClaimDone 229376 : Instr).wf = false ∧
    (.slotBinding 229376 0 false : Instr).wf = false ∧
    (.slotBinding 0 16 false : Instr).wf = false ∧
    (.evacuationDone 229376 0 false : Instr).wf = false ∧
    (.evacuationDone 0 16 false : Instr).wf = false ∧
    (.foldDone 229376 0 false : Instr).wf = false ∧
    (.foldDone 0 16 false : Instr).wf = false := by
  decide +kernel

theorem test_ill_formed_refused_2 :
    (.tailRingCopy 1024 0 : Instr).wf = false ∧
    (.tailRingCopy 0 8 : Instr).wf = false ∧
    (.tallyProgram 229376 0 : Instr).wf = false ∧
    (.accumulatorRebuild 229376 : Instr).wf = false ∧
    (.blockVerifyDone 1024 0 false : Instr).wf = false ∧
    (.blockVerifyDone 0 4096 false : Instr).wf = false ∧
    (.segmentTestStart 8 : Instr).wf = false ∧
    (.segFault 8 0 : Instr).wf = false ∧
    (.rowCloseTimeout 64 : Instr).wf = false ∧
    (.srmConflictClr (.func 2048) 0 : Instr).wf = false ∧
    (.acquire (.func 2048) : Instr).wf = false ∧
    (.release (.func 2048) : Instr).wf = false ∧
    (.unwrap (.func 2048) 0 .kek ⟨0, 0, true⟩ : Instr).wf = false ∧
    (.unwrap .mp 4096 .kek ⟨0, 0, true⟩ : Instr).wf = false ∧
    (.wrapOut (.func 2048) 0 : Instr).wf = false ∧
    (.wrapOut .mp 4096 : Instr).wf = false ∧
    (.wrapData (.func 2048) 0 0 : Instr).wf = false ∧
    (.wrapData .mp 4096 0 : Instr).wf = false ∧
    (.clear (.func 2048) 0 : Instr).wf = false ∧
    (.clear .mp 4096 : Instr).wf = false ∧
    (.crySlotSelWrite (.func 2048) 0 : Instr).wf = false ∧
    (.entropyStale 65 : Instr).wf = false ∧
    (.maskReseed 65 : Instr).wf = false ∧
    (.chainRun (.func 2048) 0 [] : Instr).wf = false ∧
    (.chainRun .mp 8 [] : Instr).wf = false ∧
    (.appendCountWrite (.func 2048) 0 0 [] : Instr).wf = false ∧
    (.appendCountWrite .mp 8 0 [] : Instr).wf = false ∧
    (.appendCountWrite .mp 0 (2 ^ 32) [] : Instr).wf = false ∧
    (.descriptorCopy 8 none : Instr).wf = false ∧
    (.descriptorFill 8 none : Instr).wf = false ∧
    (.fence 8 none : Instr).wf = false ∧
    (.linkReadReturn 8 false : Instr).wf = false ∧
    (.linkReread 8 : Instr).wf = false ∧
    (.chainRetry (.func 2048) 0 : Instr).wf = false ∧
    (.chainRetry .mp 8 : Instr).wf = false ∧
    (.chainSkip (.func 2048) 0 : Instr).wf = false ∧
    (.chainSkip .mp 8 : Instr).wf = false ∧
    (.chainAbort (.func 2048) 0 : Instr).wf = false ∧
    (.chainAbort .mp 8 : Instr).wf = false ∧
    (.contextReadComplete 2048 0 0 : Instr).wf = false ∧
    (.contextReadComplete 0 4 0 : Instr).wf = false ∧
    (.ctxHalt 2048 0 0 0 0 : Instr).wf = false ∧
    (.ctxHalt 0 4 0 0 0 : Instr).wf = false ∧
    (.xfrCtxSelWrite (.func 2048) 0 : Instr).wf = false ∧
    (.contextRestartRetry (.func 2048) : Instr).wf = false ∧
    (.contextRestartFail (.func 2048) : Instr).wf = false := by
  decide +kernel

theorem test_ill_formed_refused_3 :
    (.deleteIoSubmissionQueue ⟨.host 2048 0, true⟩ 0 : Instr).wf = false ∧
    (.deleteIoSubmissionQueue ⟨.mi 0, true⟩ 65536 : Instr).wf = false ∧
    (.createIoSubmissionQueue ⟨.host 2048 0, true⟩ 0 0 0 false : Instr).wf = false ∧
    (.createIoSubmissionQueue ⟨.mi 0, true⟩ 65536 0 0 false : Instr).wf = false ∧
    (.createIoSubmissionQueue ⟨.mi 0, true⟩ 0 65537 0 false : Instr).wf = false ∧
    (.createIoSubmissionQueue ⟨.mi 0, true⟩ 0 0 65536 false : Instr).wf = false ∧
    (.getLogPage ⟨.host 2048 0, true⟩ 0 0 0 0 0 : Instr).wf = false ∧
    (.getLogPage ⟨.mi 0, true⟩ 256 0 0 0 0 : Instr).wf = false ∧
    (.getLogPage ⟨.mi 0, true⟩ 0 (2 ^ 32) 0 0 0 : Instr).wf = false ∧
    (.getLogPage ⟨.mi 0, true⟩ 0 0 65536 0 0 : Instr).wf = false ∧
    (.deleteIoCompletionQueue ⟨.host 2048 0, true⟩ 0 : Instr).wf = false ∧
    (.deleteIoCompletionQueue ⟨.mi 0, true⟩ 65536 : Instr).wf = false ∧
    (.createIoCompletionQueue ⟨.host 2048 0, true⟩ 0 0 0 false : Instr).wf = false ∧
    (.createIoCompletionQueue ⟨.mi 0, true⟩ 65536 0 0 false : Instr).wf = false ∧
    (.createIoCompletionQueue ⟨.mi 0, true⟩ 0 65537 0 false : Instr).wf = false ∧
    (.createIoCompletionQueue ⟨.mi 0, true⟩ 0 0 65536 false : Instr).wf = false ∧
    (.identify ⟨.host 2048 0, true⟩ 0 0 0 0 : Instr).wf = false ∧
    (.identify ⟨.mi 0, true⟩ 256 0 0 0 : Instr).wf = false ∧
    (.identify ⟨.mi 0, true⟩ 0 (2 ^ 32) 0 0 : Instr).wf = false ∧
    (.identify ⟨.mi 0, true⟩ 0 0 65536 0 : Instr).wf = false ∧
    (.identify ⟨.mi 0, true⟩ 0 0 0 256 : Instr).wf = false ∧
    (.abort ⟨.host 2048 0, true⟩ 0 0 : Instr).wf = false ∧
    (.abort ⟨.mi 0, true⟩ 65536 0 : Instr).wf = false ∧
    (.abort ⟨.mi 0, true⟩ 0 65536 : Instr).wf = false ∧
    (.setFeatures ⟨.host 2048 0, true⟩ 0 0 false : Instr).wf = false ∧
    (.setFeatures ⟨.mi 0, true⟩ 256 0 false : Instr).wf = false ∧
    (.powerStateSet ⟨.host 2048 0, true⟩ 0 false : Instr).wf = false ∧
    (.powerStateSet ⟨.mi 0, true⟩ 4 false : Instr).wf = false ∧
    (.dozeRequest ⟨.host 2048 0, true⟩ false : Instr).wf = false ∧
    (.hibernateRequest ⟨.host 2048 0, true⟩ false : Instr).wf = false ∧
    (.timestamp ⟨.host 2048 0, true⟩ 0 false : Instr).wf = false ∧
    (.timestamp ⟨.mi 0, true⟩ (2 ^ 48) false : Instr).wf = false ∧
    (.getFeatures ⟨.host 2048 0, true⟩ 0 0 0 : Instr).wf = false ∧
    (.getFeatures ⟨.mi 0, true⟩ 256 0 0 : Instr).wf = false ∧
    (.getFeatures ⟨.mi 0, true⟩ 0 8 0 : Instr).wf = false ∧
    (.asynchronousEventRequest ⟨.host 2048 0, true⟩ : Instr).wf = false ∧
    (.namespaceManagement ⟨.host 2048 0, true⟩ sqe0 [] : Instr).wf = false ∧
    (.namespaceManagement ⟨.mi 0, true⟩ { sqe0 with cid := 65536 } [] : Instr).wf = false ∧
    (.firmwareCommitUpdate ⟨.host 2048 0, true⟩ 0 0 : Instr).wf = false ∧
    (.firmwareCommitUpdate ⟨.mi 0, true⟩ 8 0 : Instr).wf = false ∧
    (.firmwareCommitUpdate ⟨.mi 0, true⟩ 0 8 : Instr).wf = false ∧
    (.firmwareCommitMark ⟨.host 2048 0, true⟩ 0 : Instr).wf = false ∧
    (.firmwareCommitMark ⟨.mi 0, true⟩ 8 : Instr).wf = false ∧
    (.firmwareImageDownload ⟨.host 2048 0, true⟩ 0 0 [] : Instr).wf = false ∧
    (.firmwareImageDownload ⟨.mi 0, true⟩ 0 2 [0] : Instr).wf = false ∧
    (.firmwareImageDownload ⟨.mi 0, true⟩ (2 ^ 34) 0 [] : Instr).wf = false ∧
    (.namespaceAttachment ⟨.host 2048 0, true⟩ sqe0 [] : Instr).wf = false := by
  decide +kernel

theorem test_ill_formed_refused_4 :
    (.namespaceAttachment ⟨.mi 0, true⟩ { sqe0 with cid := 65536 } [] : Instr).wf = false ∧
    (.keepAlive ⟨.host 2048 0, true⟩ : Instr).wf = false ∧
    (.virtualizationManagement ⟨.host 2048 0, true⟩ 0 0 0 : Instr).wf = false ∧
    (.virtualizationManagement ⟨.mi 0, true⟩ 16 0 0 : Instr).wf = false ∧
    (.virtualizationManagement ⟨.mi 0, true⟩ 0 65536 0 : Instr).wf = false ∧
    (.fabricsConnect 4096 0 0 0 0 : Instr).wf = false ∧
    (.fabricsConnect 0 65536 0 0 0 : Instr).wf = false ∧
    (.fabricsConnect 0 0 65536 0 0 : Instr).wf = false ∧
    (.fabricsConnect 0 0 0 65536 0 : Instr).wf = false ∧
    (.fabricsConnect 0 0 0 0 65537 : Instr).wf = false ∧
    (.propertyGet 4096 0 0 : Instr).wf = false ∧
    (.propertyGet 0 65536 0 : Instr).wf = false ∧
    (.propertyGet 0 0 0x1000 : Instr).wf = false ∧
    (.propertySet 4096 0 0 0 : Instr).wf = false ∧
    (.propertySet 0 65536 0 0 : Instr).wf = false ∧
    (.disconnect 4096 0 : Instr).wf = false ∧
    (.disconnect 0 65536 : Instr).wf = false ∧
    (.formatNvm ⟨.host 2048 0, true⟩ sqe0 : Instr).wf = false ∧
    (.formatNvm ⟨.mi 0, true⟩ { sqe0 with cid := 65536 } : Instr).wf = false ∧
    (.mediatedCommand 2048 0 sqe0 [] : Instr).wf = false ∧
    (.mediatedCommand 0 65536 sqe0 [] : Instr).wf = false ∧
    (.mediatedCommand 0 0 { sqe0 with cid := 65536 } [] : Instr).wf = false ∧
    (.planSelect ⟨.host 2048 0, true⟩ 0 0 : Instr).wf = false ∧
    (.planSelect ⟨.mi 0, true⟩ 4 0 : Instr).wf = false ∧
    (.planSelect ⟨.mi 0, true⟩ 0 4 : Instr).wf = false ∧
    (.planReqWrite (.func 2048) 0 : Instr).wf = false ∧
    (.planStatus ⟨.host 2048 0, true⟩ : Instr).wf = false ∧
    (.accountQuiesce ⟨.host 2048 0, true⟩ 0 : Instr).wf = false ∧
    (.accountQuiesce ⟨.mi 0, true⟩ 2048 : Instr).wf = false ∧
    (.accountResume ⟨.host 2048 0, true⟩ 0 : Instr).wf = false ∧
    (.accountResume ⟨.mi 0, true⟩ 2048 : Instr).wf = false ∧
    (.quiesceCut 2112 : Instr).wf = false ∧
    (.accountBind ⟨.host 2048 0, true⟩ 0 ⟨true, true, true, true, 1, lim0, true⟩ : Instr).wf = false ∧
    (.accountBind ⟨.mi 0, true⟩ 2048 ⟨true, true, true, true, 1, lim0, true⟩ : Instr).wf = false ∧
    (.accountQuery ⟨.host 2048 0, true⟩ 0 : Instr).wf = false ∧
    (.accountQuery ⟨.mi 0, true⟩ 2048 : Instr).wf = false ∧
    (.mediationReply ⟨.host 2048 0, true⟩ 0 false : Instr).wf = false ∧
    (.mediationReply ⟨.mi 0, true⟩ 65536 false : Instr).wf = false ∧
    (.keyLoad ⟨.host 2048 0, true⟩ 0 ⟨0, 0, true, ⟨0, 0, true⟩⟩ : Instr).wf = false ∧
    (.keyLoad ⟨.mi 0, true⟩ 4096 ⟨0, 0, true, ⟨0, 0, true⟩⟩ : Instr).wf = false ∧
    (.mediationReceive ⟨.host 2048 0, true⟩ : Instr).wf = false ∧
    (.restart ⟨.host 2048 0, true⟩ (zeros 512) : Instr).wf = false ∧
    (.restart ⟨.mi 0, true⟩ (zeros 511) : Instr).wf = false ∧
    (.maintenanceRequest ⟨.host 2048 0, true⟩ (zeros 512) : Instr).wf = false ∧
    (.maintenanceRequest ⟨.mi 0, true⟩ (zeros 511) : Instr).wf = false ∧
    (.reserveStatus ⟨.host 2048 0, true⟩ : Instr).wf = false ∧
    (.controllerReset 2048 : Instr).wf = false := by
  decide +kernel

theorem test_ill_formed_refused_5 :
    (.controllerEnable 2048 0 : Instr).wf = false ∧
    (.vfShutdownNotification 2048 : Instr).wf = false ∧
    (.flr 2048 : Instr).wf = false ∧
    (.flrTimeout 2048 : Instr).wf = false ∧
    (.sliceEnable (.func 2048) 0 0 false : Instr).wf = false ∧
    (.sliceEnable .mp 64 0 false : Instr).wf = false ∧
    (.sliceDisable (.func 2048) 0 : Instr).wf = false ∧
    (.sliceDisable .mp 64 : Instr).wf = false ∧
    (.qsliceApply (.func 2048) 0 : Instr).wf = false ∧
    (.dlogHeadWrite (.func 2048) 0 : Instr).wf = false ∧
    (.cmReq 2 0 : Instr).wf = false ∧
    (.ceMarkedPacket 4096 : Instr).wf = false ∧
    (.cnpReceive 4096 : Instr).wf = false ∧
    (.rateRecovery 4096 : Instr).wf = false ∧
    (.pfcPauseReceive 2 false : Instr).wf = false ∧
    (.pfcXon 2 0 : Instr).wf = false ∧
    (.arpRequest 2 false : Instr).wf = false ∧
    (.neighborDiscovery 2 false : Instr).wf = false ∧
    (.wakeFrame 2 false 0 none : Instr).wf = false ∧
    (.linkUp 2 0 0 : Instr).wf = false ∧
    (.linkDown 2 0 0 : Instr).wf = false ∧
    (.mintLaneGrant 16 : Instr).wf = false ∧
    (.mintSetupEnd 16 : Instr).wf = false ∧
    (.sectorConsume 16 false false 0 0 : Instr).wf = false ∧
    (.mintChunkTurn 16 0 [] : Instr).wf = false ∧
    (.mintLaneEnd 16 : Instr).wf = false ∧
    (.sensorSample 16 0 false : Instr).wf = false ∧
    (.loopSample 4 0 : Instr).wf = false ∧
    (.loopOutput 4 : Instr).wf = false ∧
    (.settleLate 4 : Instr).wf = false ∧
    (.loopCloseWrite (.func 2048) 0 false : Instr).wf = false ∧
    (.loopCloseWrite .mp 4 false : Instr).wf = false ∧
    (.coefWrite (.func 2048) 0 false 0 : Instr).wf = false ∧
    (.coefWrite .mp 4 false 0 : Instr).wf = false ∧
    (.setpointWrite (.func 2048) 0 0 : Instr).wf = false ∧
    (.setpointWrite .mp 4 0 : Instr).wf = false ∧
    (.setmwl 0 65536 : Instr).wf = false ∧
    (.setmrl 0 65536 : Instr).wf = false ∧
    (.mctpPacketWrite 0 (List.replicate 70 0) : Instr).wf = false ∧
    (.setEndpointId 256 0 : Instr).wf = false ∧
    (.setEndpointId 0 256 : Instr).wf = false ∧
    (.getEndpointId 256 : Instr).wf = false ∧
    (.getEndpointUuid 256 : Instr).wf = false ∧
    (.getMctpVersionSupport 256 0 : Instr).wf = false ∧
    (.getMctpVersionSupport 0 256 : Instr).wf = false := by
  decide +kernel

theorem test_ill_formed_refused_6 :
    (.getMessageTypeSupport 256 : Instr).wf = false ∧
    (.readNvmeMiDataStructure 256 0 : Instr).wf = false ∧
    (.readNvmeMiDataStructure 0 256 : Instr).wf = false ∧
    (.nvmSubsystemHealthStatusPoll 256 : Instr).wf = false ∧
    (.controllerHealthStatusPoll 256 0 : Instr).wf = false ∧
    (.controllerHealthStatusPoll 0 2048 : Instr).wf = false ∧
    (.configurationSet 256 0 0 : Instr).wf = false ∧
    (.configurationSet 0 256 0 : Instr).wf = false ∧
    (.configurationGet 256 0 : Instr).wf = false ∧
    (.configurationGet 0 256 : Instr).wf = false ∧
    (.miReset 256 : Instr).wf = false ∧
    (.getChallenge 256 : Instr).wf = false ∧
    (.eventLogRead 256 0 0 : Instr).wf = false ∧
    (.eventLogClear 256 (zeros 512) : Instr).wf = false ∧
    (.eventLogClear 0 (zeros 513) : Instr).wf = false ∧
    (.calibrationRowRead 256 : Instr).wf = false ∧
    (.calibrationRowWrite 256 (zeros 4096) : Instr).wf = false ∧
    (.calibrationRowWrite 0 (zeros 4095) : Instr).wf = false ∧
    (.provision 256 (zeros 512) : Instr).wf = false ∧
    (.provision 0 (zeros 513) : Instr).wf = false ∧
    (.decommission 256 (zeros 512) : Instr).wf = false ∧
    (.decommission 0 (zeros 513) : Instr).wf = false ∧
    (.factoryTestVerifySlot 256 .a : Instr).wf = false ∧
    (.factoryTestAlert 256 : Instr).wf = false ∧
    (.factoryTestEntropy 256 false : Instr).wf = false ∧
    (.challengeNew (.func 2048) : Instr).wf = false ∧
    (.causeLeafSet .norCause 32 : Instr).wf = false ∧
    (.causeLeafClear (.func 2048) .norCause 0 : Instr).wf = false ∧
    (.evtRdSelWrite (.func 2048) 0 : Instr).wf = false ∧
    (.medZqSelWrite (.func 2048) 0 : Instr).wf = false ∧
    (.traceArm (.func 2048) 0 : Instr).wf = false ∧
    (.extwaitClear (.func 2048) 0 : Instr).wf = false ∧
    (.extwaitClear .mp 2048 : Instr).wf = false ∧
    (.tickLoRead (.func 2048) : Instr).wf = false ∧
    (.timeLoRead (.func 2048) : Instr).wf = false ∧
    (.registerWrite (.func 2048) 0 ⟨15, 0⟩ : Instr).wf = false ∧
    (.registerWrite .mp 1 ⟨15, 0⟩ : Instr).wf = false ∧
    (.segmentCharged 8 0 : Instr).wf = false ∧
    (.tallyForwardCopy 1024 0 : Instr).wf = false ∧
    (.tallyForwardCopy 0 128 : Instr).wf = false ∧
    (.retentionRefreshDue 1024 0 : Instr).wf = false ∧
    (.retentionRefreshDue 0 4096 : Instr).wf = false ∧
    (.cqHeadWrite (.func 2048) 0 0 : Instr).wf = false ∧
    (.cqHeadWrite .mp 8 0 : Instr).wf = false ∧
    (.cqHeadWrite .mp 0 (2 ^ 32) : Instr).wf = false ∧
    (.vfEnable 2048 : Instr).wf = false ∧
    (.keepAliveTimeout 2048 : Instr).wf = false ∧
    (.pfcPauseExpiry 2 false : Instr).wf = false ∧
    (.pcieLinkUp ⟨0, 4, 128⟩ : Instr).wf = false := by
  decide +kernel

theorem test_ill_formed_refused_7 :
    (.setFeatures ⟨.mi 0, true⟩ 0x0E 0 false : Instr).wf = false := by
  decide +kernel

theorem test_well_formed_taken_1 :
    (.pllLock 0 : Instr).wf = true ∧
    (.ddr5BootSweepDone [] : Instr).wf = true ∧
    (.pcieLinkUp ⟨1, 1, 256⟩ : Instr).wf = true ∧
    (.ddr5LevelSweepDone [] : Instr).wf = true ∧
    (.channelSweepDone 0 0 0 : Instr).wf = true ∧
    (.shutdownNotification 0 : Instr).wf = true ∧
    (.norProgram 511 [] none : Instr).wf = true ∧
    (.crossingFault 0 0 : Instr).wf = true ∧
    (.crossbarRefusal ⟨0, [15]⟩ .xfr false 0 : Instr).wf = true ∧
    (.doorbellWrite 0 0 false 0 : Instr).wf = true ∧
    (.commandFetch 0 sqe0 [] : Instr).wf = true ∧
    (.capsuleReceive 0 sqe0 [] 0 : Instr).wf = true ∧
    (.mapLookupEnd 0 0 [] false : Instr).wf = true ∧
    (.entryStart 0 (ent 0 3 15) .other false false [] : Instr).wf = true ∧
    (.budgetCheck 0 false : Instr).wf = true ∧
    (.dieReset 0 : Instr).wf = true ∧
    (.transferSlot 0 : Instr).wf = true ∧
    (.ldpcDecodeEnd 0 0 false 0 : Instr).wf = true ∧
    (.retryRead 0 0 : Instr).wf = true ∧
    (.recoveryRead 0 0 : Instr).wf = true ∧
    (.l3Timeout 0 0 : Instr).wf = true ∧
    (.tallyRebuild 0 0 false : Instr).wf = true ∧
    (.xtsStageEnd 0 0 false : Instr).wf = true ∧
    (.sealCheckEnd 0 0 false : Instr).wf = true ∧
    (.egressSlotStart 0 0 false : Instr).wf = true ∧
    (.egressEnd 0 0 [] : Instr).wf = true ∧
    (.zeroReadEgress 0 0 : Instr).wf = true ∧
    (.sealEnd 0 0 : Instr).wf = true ∧
    (.zeroFillEnd 0 0 : Instr).wf = true ∧
    (.dramWriteEnd 0 0 : Instr).wf = true ∧
    (.programResult 0 false : Instr).wf = true ∧
    (.eraseResult 0 false : Instr).wf = true ∧
    (.zoneClaimDone 0 : Instr).wf = true ∧
    (.slotBinding 0 0 false : Instr).wf = true ∧
    (.evacuationDone 0 0 false : Instr).wf = true ∧
    (.foldDone 0 0 false : Instr).wf = true ∧
    (.tailRingCopy 1023 7 : Instr).wf = true ∧
    (.tallyProgram 0 0 : Instr).wf = true ∧
    (.accumulatorRebuild 0 : Instr).wf = true ∧
    (.blockVerifyDone 0 0 false : Instr).wf = true ∧
    (.segmentTestStart 0 : Instr).wf = true ∧
    (.segFault 0 0 : Instr).wf = true ∧
    (.rowCloseTimeout 0 : Instr).wf = true ∧
    (.srmConflictClr .mp 0 : Instr).wf = true ∧
    (.acquire .mp : Instr).wf = true := by
  decide +kernel

theorem test_well_formed_taken_2 :
    (.release .mp : Instr).wf = true ∧
    (.unwrap .mp 0 .kek ⟨0, 0, true⟩ : Instr).wf = true ∧
    (.wrapOut .mp 0 : Instr).wf = true ∧
    (.wrapData .mp 0 0 : Instr).wf = true ∧
    (.clear .mp 0 : Instr).wf = true ∧
    (.crySlotSelWrite .mp 0 : Instr).wf = true ∧
    (.entropyStale 0 : Instr).wf = true ∧
    (.maskReseed 0 : Instr).wf = true ∧
    (.chainRun .mp 0 [] : Instr).wf = true ∧
    (.appendCountWrite .mp 0 0 [] : Instr).wf = true ∧
    (.descriptorCopy 0 none : Instr).wf = true ∧
    (.descriptorFill 0 none : Instr).wf = true ∧
    (.fence 0 none : Instr).wf = true ∧
    (.linkReadReturn 0 false : Instr).wf = true ∧
    (.linkReread 0 : Instr).wf = true ∧
    (.chainRetry .mp 0 : Instr).wf = true ∧
    (.chainSkip .mp 0 : Instr).wf = true ∧
    (.chainAbort .mp 0 : Instr).wf = true ∧
    (.contextReadComplete 0 0 0 : Instr).wf = true ∧
    (.ctxHalt 0 0 0 0 0 : Instr).wf = true ∧
    (.xfrCtxSelWrite .mp 0 : Instr).wf = true ∧
    (.contextRestartRetry .mp : Instr).wf = true ∧
    (.contextRestartFail .mp : Instr).wf = true ∧
    (.deleteIoSubmissionQueue ⟨.mi 0, true⟩ 0 : Instr).wf = true ∧
    (.createIoSubmissionQueue ⟨.mi 0, true⟩ 0 0 0 false : Instr).wf = true ∧
    (.getLogPage ⟨.mi 0, true⟩ 0 0 0 0 0 : Instr).wf = true ∧
    (.deleteIoCompletionQueue ⟨.mi 0, true⟩ 0 : Instr).wf = true ∧
    (.createIoCompletionQueue ⟨.mi 0, true⟩ 0 0 0 false : Instr).wf = true ∧
    (.identify ⟨.mi 0, true⟩ 0 0 0 0 : Instr).wf = true ∧
    (.abort ⟨.mi 0, true⟩ 0 0 : Instr).wf = true ∧
    (.setFeatures ⟨.mi 0, true⟩ 0 0 false : Instr).wf = true ∧
    (.powerStateSet ⟨.mi 0, true⟩ 0 false : Instr).wf = true ∧
    (.dozeRequest ⟨.mi 0, true⟩ false : Instr).wf = true ∧
    (.hibernateRequest ⟨.mi 0, true⟩ false : Instr).wf = true ∧
    (.timestamp ⟨.mi 0, true⟩ 0 false : Instr).wf = true ∧
    (.getFeatures ⟨.mi 0, true⟩ 0 0 0 : Instr).wf = true ∧
    (.asynchronousEventRequest ⟨.mi 0, true⟩ : Instr).wf = true ∧
    (.namespaceManagement ⟨.mi 0, true⟩ sqe0 [] : Instr).wf = true ∧
    (.firmwareCommitUpdate ⟨.mi 0, true⟩ 0 0 : Instr).wf = true ∧
    (.firmwareCommitMark ⟨.mi 0, true⟩ 0 : Instr).wf = true ∧
    (.firmwareImageDownload ⟨.mi 0, true⟩ 0 1 [0] : Instr).wf = true ∧
    (.namespaceAttachment ⟨.mi 0, true⟩ sqe0 [] : Instr).wf = true ∧
    (.keepAlive ⟨.mi 0, true⟩ : Instr).wf = true ∧
    (.virtualizationManagement ⟨.mi 0, true⟩ 0 0 0 : Instr).wf = true ∧
    (.fabricsConnect 0 0 0 0 0 : Instr).wf = true := by
  decide +kernel

theorem test_well_formed_taken_3 :
    (.propertyGet 0 0 0 : Instr).wf = true ∧
    (.propertySet 0 0 0 0 : Instr).wf = true ∧
    (.disconnect 0 0 : Instr).wf = true ∧
    (.formatNvm ⟨.mi 0, true⟩ sqe0 : Instr).wf = true ∧
    (.mediatedCommand 0 0 sqe0 [] : Instr).wf = true ∧
    (.planSelect ⟨.mi 0, true⟩ 0 0 : Instr).wf = true ∧
    (.planReqWrite .mp 0 : Instr).wf = true ∧
    (.planStatus ⟨.mi 0, true⟩ : Instr).wf = true ∧
    (.accountQuiesce ⟨.mi 0, true⟩ 0 : Instr).wf = true ∧
    (.accountResume ⟨.mi 0, true⟩ 0 : Instr).wf = true ∧
    (.quiesceCut 0 : Instr).wf = true ∧
    (.accountBind ⟨.mi 0, true⟩ 0 ⟨true, true, true, true, 1, lim0, true⟩ : Instr).wf = true ∧
    (.accountQuery ⟨.mi 0, true⟩ 0 : Instr).wf = true ∧
    (.mediationReply ⟨.mi 0, true⟩ 0 false : Instr).wf = true ∧
    (.keyLoad ⟨.mi 0, true⟩ 0 ⟨0, 0, true, ⟨0, 0, true⟩⟩ : Instr).wf = true ∧
    (.mediationReceive ⟨.mi 0, true⟩ : Instr).wf = true ∧
    (.restart ⟨.mi 0, true⟩ (zeros 512) : Instr).wf = true ∧
    (.maintenanceRequest ⟨.mi 0, true⟩ (zeros 512) : Instr).wf = true ∧
    (.reserveStatus ⟨.mi 0, true⟩ : Instr).wf = true ∧
    (.controllerReset 0 : Instr).wf = true ∧
    (.controllerEnable 0 0 : Instr).wf = true ∧
    (.vfShutdownNotification 0 : Instr).wf = true ∧
    (.flr 0 : Instr).wf = true ∧
    (.flrTimeout 0 : Instr).wf = true ∧
    (.sliceEnable .mp 0 0 false : Instr).wf = true ∧
    (.sliceDisable .mp 0 : Instr).wf = true ∧
    (.qsliceApply .mp 0 : Instr).wf = true ∧
    (.dlogHeadWrite .mp 0 : Instr).wf = true ∧
    (.cmReq 0 0 : Instr).wf = true ∧
    (.ceMarkedPacket 0 : Instr).wf = true ∧
    (.cnpReceive 0 : Instr).wf = true ∧
    (.rateRecovery 0 : Instr).wf = true ∧
    (.pfcPauseReceive 0 false : Instr).wf = true ∧
    (.pfcXon 0 0 : Instr).wf = true ∧
    (.arpRequest 0 false : Instr).wf = true ∧
    (.neighborDiscovery 0 false : Instr).wf = true ∧
    (.wakeFrame 0 false 0 none : Instr).wf = true ∧
    (.linkUp 0 0 0 : Instr).wf = true ∧
    (.linkDown 0 0 0 : Instr).wf = true ∧
    (.mintLaneGrant 0 : Instr).wf = true ∧
    (.mintSetupEnd 0 : Instr).wf = true ∧
    (.sectorConsume 0 false false 0 0 : Instr).wf = true ∧
    (.mintChunkTurn 0 0 [] : Instr).wf = true ∧
    (.mintLaneEnd 0 : Instr).wf = true ∧
    (.sensorSample 0 0 false : Instr).wf = true := by
  decide +kernel

theorem test_well_formed_taken_4 :
    (.loopSample 0 0 : Instr).wf = true ∧
    (.loopOutput 0 : Instr).wf = true ∧
    (.settleLate 0 : Instr).wf = true ∧
    (.loopCloseWrite .mp 0 false : Instr).wf = true ∧
    (.coefWrite .mp 0 false 0 : Instr).wf = true ∧
    (.setpointWrite .mp 0 0 : Instr).wf = true ∧
    (.setmwl 0 0 : Instr).wf = true ∧
    (.setmrl 0 0 : Instr).wf = true ∧
    (.mctpPacketWrite 0 [] : Instr).wf = true ∧
    (.setEndpointId 0 0 : Instr).wf = true ∧
    (.getEndpointId 0 : Instr).wf = true ∧
    (.getEndpointUuid 0 : Instr).wf = true ∧
    (.getMctpVersionSupport 0 0 : Instr).wf = true ∧
    (.getMessageTypeSupport 0 : Instr).wf = true ∧
    (.readNvmeMiDataStructure 0 0 : Instr).wf = true ∧
    (.nvmSubsystemHealthStatusPoll 0 : Instr).wf = true ∧
    (.controllerHealthStatusPoll 0 0 : Instr).wf = true ∧
    (.configurationSet 0 0 0 : Instr).wf = true ∧
    (.configurationGet 0 0 : Instr).wf = true ∧
    (.miReset 0 : Instr).wf = true ∧
    (.getChallenge 0 : Instr).wf = true ∧
    (.eventLogRead 0 0 0 : Instr).wf = true ∧
    (.eventLogClear 0 (zeros 512) : Instr).wf = true ∧
    (.calibrationRowRead 0 : Instr).wf = true ∧
    (.calibrationRowWrite 0 (zeros 4096) : Instr).wf = true ∧
    (.provision 0 (zeros 512) : Instr).wf = true ∧
    (.decommission 0 (zeros 512) : Instr).wf = true ∧
    (.factoryTestVerifySlot 0 .a : Instr).wf = true ∧
    (.factoryTestAlert 0 : Instr).wf = true ∧
    (.factoryTestEntropy 0 false : Instr).wf = true ∧
    (.challengeNew .mp : Instr).wf = true ∧
    (.causeLeafSet .norCause 0 : Instr).wf = true ∧
    (.causeLeafClear .mp .norCause 0 : Instr).wf = true ∧
    (.evtRdSelWrite .mp 0 : Instr).wf = true ∧
    (.medZqSelWrite .mp 0 : Instr).wf = true ∧
    (.traceArm .mp 0 : Instr).wf = true ∧
    (.extwaitClear .mp 0 : Instr).wf = true ∧
    (.tickLoRead .mp : Instr).wf = true ∧
    (.timeLoRead .mp : Instr).wf = true ∧
    (.registerWrite .mp 0 ⟨15, 0⟩ : Instr).wf = true ∧
    (.segmentCharged 0 0 : Instr).wf = true ∧
    (.tallyForwardCopy 1023 127 : Instr).wf = true ∧
    (.retentionRefreshDue 0 0 : Instr).wf = true ∧
    (.cqHeadWrite .mp 0 0 : Instr).wf = true ∧
    (.vfEnable 0 : Instr).wf = true := by
  decide +kernel

theorem test_well_formed_taken_5 :
    (.keepAliveTimeout 0 : Instr).wf = true ∧
    (.pfcPauseExpiry 0 false : Instr).wf = true := by
  decide +kernel

/-! ## What meets the hypotheses of each statement, clause by clause -/

theorem test_meets_StepTakesFront :
    ∃ c : Instr, ∃ rest : List Instr, ∃ s : State, s.pending = c :: rest :=
  ⟨(.porNAssert), ([]), ({ svc with pending := [.porNAssert] }), by decide +kernel⟩

theorem test_meets_IdleTick :
    (∃ s : State, s.pending = [] ∧ s.clockRuns = true) ∧
    (∃ s : State, s.pending = [] ∧ s.clockRuns = false) :=
  ⟨⟨(svc), by decide +kernel⟩,
   ⟨(State.reset), by decide +kernel⟩⟩

theorem test_meets_QueueKept :
    (∃ c : Instr, ∃ s : State, ∃ t : State, exec c s = .next t) ∧
    (∃ s : State, ∃ t : State, step s = .next t) :=
  ⟨⟨(.porNAssert), (svc), _, rfl⟩,
   ⟨({ svc with pending := [.porNAssert] }), _, rfl⟩⟩

theorem test_meets_FootprintKept :
    ∃ c : Instr, ∃ s : State, ∃ t : State, exec c s = .next t :=
  ⟨(.porNAssert), (svc), _, rfl⟩

theorem test_meets_CanonicalKept :
    ∃ s : State, ∃ t : State, Canonical s ∧ step s = .next t :=
  ⟨{ svc with pending := [.porNAssert] }, _, ⟨by decide +kernel, by decide +kernel, by decide +kernel⟩, rfl⟩

theorem test_meets_FusesBurnOnlyByLifeCycle :
    ∃ c : Instr, ∃ s : State, ∃ t : State, Canonical s ∧ exec c s = .next t :=
  ⟨.porNAssert, svc, _, ⟨by decide +kernel, by decide +kernel, by decide +kernel⟩, rfl⟩

theorem test_meets_ModeFollowsTable :
    ∃ c : Instr, ∃ s : State, ∃ t : State, exec c s = .next t :=
  ⟨(.porNAssert), (svc), _, rfl⟩

theorem test_meets_StrapOnlyWithInputsHigh :
    ∃ c : Instr, ∃ s : State, ∃ t : State, s.mode = .off ∧ exec c s = .next t ∧ t.mode ≠ .off :=
  ⟨(.porNRelease), ({ State.reset with pins := { pwrGood := true, plossN := true } }), _, by decide +kernel, rfl, by decide +kernel⟩

theorem test_meets_PowerOnReset :
    (∃ s : State, s.mode = .off ∧ s.pins.porN = false ∧ s.pins.pwrGood = true ∧ s.pins.plossN = true) ∧
    (∃ s : State, s.mode = .off ∧ s.pins.porN = false ∧ (s.pins.pwrGood = false ∨ s.pins.plossN = false)) :=
  ⟨⟨({ State.reset with pins := { pwrGood := true, plossN := true } }), by decide +kernel⟩,
   ⟨({ State.reset with pins := { pwrGood := true } }), by decide +kernel⟩⟩

theorem test_meets_PowerInputsInOff :
    (∃ s : State, s.pins.plossN = true) ∧
    (∃ s : State, s.pins.plossN = false) ∧
    (∃ s : State, s.boot.plossLow = false) ∧
    (∃ s : State, s.mode = .off ∧ s.pins.porN = true ∧ s.pins.pwrGood = true ∧ s.boot.plossLow = true ∧ s.boot.offReason = .ploss) ∧
    (∃ s : State, s.mode = .off ∧ s.pins.porN = true ∧ s.pins.pwrGood = true ∧ s.boot.plossLow = true ∧ s.boot.offReason = .por) ∧
    (∃ s : State, s.mode = .off ∧ s.pins.porN = true ∧ s.plossHigh = true ∧ s.boot.offReason = .ploss) ∧
    (∃ s : State, s.mode = .off ∧ s.pins.porN = true ∧ s.plossHigh = true ∧ s.boot.offReason = .por) ∧
    (∃ s : State, s.mode = .off ∧ s.pins.porN = true ∧ s.pins.pwrGood = true ∧ s.plossHigh = true ∧ s.boot.offReason = .ploss ∧
      s.boot.offCount = true) ∧
    (∃ s : State, s.mode = .flush) :=
  ⟨⟨svc, rfl⟩,
   ⟨State.reset, rfl⟩,
   ⟨svc, rfl⟩,
   ⟨{ inMode .off with boot := { State.reset.boot with offReason := .ploss, plossLow := true } }, by decide +kernel⟩,
   ⟨{ inMode .off with boot := { State.reset.boot with offReason := .por, plossLow := true } }, by decide +kernel⟩,
   ⟨{ inMode .off with boot := { State.reset.boot with offReason := .ploss } }, by decide +kernel⟩,
   ⟨{ inMode .off with boot := { State.reset.boot with offReason := .por } }, by decide +kernel⟩,
   ⟨{ inMode .off with boot := { State.reset.boot with offReason := .ploss, offCount := true } }, by decide +kernel⟩,
   ⟨inMode .flush, rfl⟩⟩

theorem test_meets_PowerLossByMode :
    (∃ s : State, s.boot.plossFalling = true ∧ s.pins.plossN = false ∧ s.pins.porN = true ∧ s.mode ∈ [Mode.strap, .fill, .load, .train,
      .maintenance]) ∧
    (∃ s : State, s.boot.plossFalling = true ∧ s.pins.plossN = false ∧ s.pins.porN = true ∧ s.mode ∈ [Mode.service, .throttle, .drain,
      .doze]) ∧
    (∃ s : State, s.boot.plossFalling = true ∧ s.pins.plossN = false ∧ s.pins.porN = true ∧ s.mode = .hibernate ∧ s.rsv.test = none) ∧
    (∃ s : State, (s.boot.plossFalling = false ∨ s.pins.plossN = true)) ∧
    (∃ s : State, s.pins.pwrGood = true ∧ s.pins.pwrHold = true ∧ s.plossHigh = true) ∧
    (∃ s : State, s.pins.pwrGood = true ∧ (s.pins.pwrHold = false ∨ s.plossHigh = false)) :=
  ⟨⟨({ inMode .train with pins := { porN := true, pwrGood := true }, boot := { State.reset.boot with plossFalling := true } }), by decide +kernel⟩,
   ⟨({ inMode .doze with pins := { porN := true, pwrGood := true }, boot := { State.reset.boot with plossFalling := true } }), by decide +kernel⟩,
   ⟨({ inMode .hibernate with pins := { porN := true, pwrGood := true }, boot := { State.reset.boot with plossFalling := true } }), by decide +kernel⟩,
   ⟨svc, .inl rfl⟩,
   ⟨svc, by decide +kernel⟩,
   ⟨{ svc with pins := { svc.pins with pwrHold := false } }, by decide +kernel⟩⟩

theorem test_meets_StrapsAndOscillator :
    (∃ s : State, ∃ v : BitVec 8, s.mode = .strap ∧ s.boot.strapDone = false ∧ s.boot.strapPrev ≠ some v ∧ s.boot.strapCount < 31) ∧
    (∃ s : State, ∃ v : BitVec 8, s.mode = .strap ∧ s.boot.strapDone = false ∧ s.boot.strapPrev = some v ∧ s.boot.oscOk = false) ∧
    (∃ s : State, ∃ v : BitVec 8, ∃ us : Nat, s.mode = .strap ∧ s.boot.strapDone = false ∧ s.boot.strapPrev = some v ∧ s.boot.oscOk = true
      ∧ (s.setStrap v false).bootSel ≠ 3 ∧ s.boot.pllLocked = some us) ∧
    (∃ s : State, ∃ v : BitVec 8, s.mode = .strap ∧ s.boot.strapDone = false ∧ s.boot.strapPrev = some v ∧ s.boot.oscOk = true ∧
      (s.setStrap v false).bootSel = 3) ∧
    (∃ s : State, ∃ v : BitVec 8, s.mode = .strap ∧ s.boot.strapDone = false ∧ s.boot.strapPrev ≠ some v ∧ s.boot.strapCount = 31 ∧
      s.boot.oscOk = true) ∧
    (∃ s : State, s.mode = .strap ∧ s.boot.xtalStop = false ∧ s.boot.strapDone = false) ∧
    (∃ s : State, s.mode = .strap ∧ s.boot.xtalStop = false ∧ s.boot.oscOk = true ∧ s.boot.strapDone = true) ∧
    (∃ s : State, s.mode = .strap ∧ s.boot.xtalStop = false ∧ s.boot.oscOk = true ∧ s.boot.strapDone = false) ∧
    (∃ s : State, s.mode = .strap ∧ s.pins.porN = true ∧ s.boot.oscOk = false) ∧
    (∃ s : State, s.mode = .hibernate ∧ s.pins.porN = true ∧ s.boot.waking = true ∧ s.pins.pwrGood = false) :=
  ⟨⟨inMode .strap, 5, by decide +kernel⟩,
   ⟨({ inMode .strap with boot := { State.reset.boot with strapPrev := some 5 } }), (5), by decide +kernel⟩,
   ⟨{ inMode .strap with boot := { State.reset.boot with strapPrev := some 0, oscOk := true, pllLocked := some 214 } }, 0, 214,
    by decide +kernel⟩,
   ⟨{ inMode .strap with boot := { State.reset.boot with strapPrev := some 0xC0, oscOk := true } }, 0xC0, by decide +kernel⟩,
   ⟨({ inMode .strap with boot := { State.reset.boot with strapPrev := some 5, strapCount := 31, oscOk := true } }), (6), by decide +kernel⟩,
   ⟨(inMode .strap), by decide +kernel⟩,
   ⟨({ inMode .strap with boot := { State.reset.boot with strapDone := true, oscOk := true } }), by decide +kernel⟩,
   ⟨{ inMode .strap with boot := { State.reset.boot with oscOk := true } }, by decide +kernel⟩,
   ⟨(inMode .strap), by decide +kernel⟩,
   ⟨{ inMode .hibernate with pins := { (inMode .hibernate).pins with pwrGood := false }, boot := { State.reset.boot with waking := true } },
    by decide +kernel⟩⟩

theorem test_meets_ResumeTime :
    ∃ s : State, s.mode = .hibernate ∧ s.boot.waking = true ∧ s.pins.pwrGood = true ∧ s.boot.xtalStop = false ∧ s.boot.oscOk = true :=
  ⟨({ inMode .hibernate with boot := { State.reset.boot with waking := true, oscOk := true } }), by decide +kernel⟩

theorem test_meets_FillEnds :
    (∃ s : State, s.mode = .fill ∧ s.boot.calDone = false ∧ s.calValid = true ∧ s.boot.banksLeft ≠ []) ∧
    (∃ s : State, s.mode = .fill ∧ s.boot.calDone = false ∧ s.calValid = false) ∧
    (∃ s : State, s.mode = .fill ∧ s.boot.calDone = false) ∧
    (∃ s : State, ∃ eyes : List LaneEye, s.mode = .fill ∧ s.boot.dram = .sweeping ∧ badLanes eyes false = [] ∧ badLanes eyes true = []) ∧
    (∃ s : State, ∃ eyes : List LaneEye, ∃ n : Nat, s.mode = .fill ∧ s.pins.porN = true ∧ s.boot.dram = .sweeping ∧ badLanes eyes false =
      [n] ∧ badLanes eyes true = []) ∧
    (∃ s : State, ∃ eyes : List LaneEye, s.mode = .fill ∧ s.boot.dram = .sweeping ∧ 2 ≤ (badLanes eyes false).length) ∧
    (∃ s : State, s.mode = .fill ∧ s.boot.dram = .filling ∧ s.boot.calDone = true ∧ s.boot.banksLeft = [] ∧ s.resuming = false) ∧
    (∃ s : State, s.mode = .fill ∧ s.boot.dram = .filling ∧ s.boot.calDone = true ∧ s.boot.banksLeft = [] ∧ s.resuming = true) :=
  ⟨⟨(fillCal calCrc), by decide +kernel, by decide +kernel, fillCal_row, by decide +kernel⟩,
   ⟨(inMode .fill), by decide +kernel⟩,
   ⟨({ inMode .fill with boot := { State.reset.boot with banksLeft := [.plan] } }), by decide +kernel⟩,
   ⟨(inMode .fill), ([⟨false, 9, 0, 16, 0, 16⟩]), by decide +kernel⟩,
   ⟨{ inMode .fill with boot := { State.reset.boot with dram := .sweeping } }, [⟨false, 3, 0, 0, 0, 0⟩], 3, by decide +kernel⟩,
   ⟨(inMode .fill), ([⟨false, 9, 0, 15, 0, 16⟩, ⟨false, 0, 0, 16, 0, 15⟩]), by decide +kernel⟩,
   ⟨({ inMode .fill with boot := { State.reset.boot with dram := .filling, calDone := true } }), by decide +kernel⟩,
   ⟨{ inMode .fill with boot := { State.reset.boot with dram := .filling, calDone := true, banksLeft := [] } }.setFld Reg.aonMode 12 1 1,
    by decide +kernel⟩⟩

theorem test_meets_PcieSideband :
    (∃ s : State, s.islandOn .hst = true ∧ s.mode ≠ .fill) ∧
    (∃ s : State, s.islandOn .hst = false) ∧
    (∃ s : State, s.pins.perstN = false) ∧
    (∃ s : State, s.pins.perstN = true) ∧
    (∃ s : State, s.wakeEnabled 1 = true ∧ s.mode = .hibernate ∧ s.pwr.sleep = none ∧ s.pwr.wakeSrc = none) ∧
    (∃ s : State, s.wakeEnabled 1 = false) ∧
    (∃ s : State, s.islandOn .hst = true ∧ s.pins.perstN = true) ∧
    (∃ s : State, s.islandOn .hst = true) :=
  ⟨⟨({ svc with pins := { svc.pins with perstN := false } }), by decide +kernel⟩,
   ⟨(State.reset), by decide +kernel⟩,
   ⟨({ svc with pins := { svc.pins with perstN := false } }), by decide +kernel⟩,
   ⟨svc, rfl⟩,
   ⟨((inMode .hibernate).setReg Reg.pwrWakeEn 2), by decide +kernel⟩,
   ⟨(svc.setReg Reg.pwrWakeEn 0), by decide +kernel⟩,
   ⟨(svc), by decide +kernel⟩,
   ⟨({ svc with pins := { svc.pins with perstN := false } }), by decide +kernel⟩⟩

theorem test_meets_LoadAndTrain :
    (∃ s : State, s.mode = .load ∧ s.boot.step = 1 ∧ s.boot.slot = none ∧ s.bootSel = 1) ∧
    (∃ s : State, s.mode = .load ∧ s.boot.step = 2) ∧
    (∃ s : State, ∃ x : Slot, s.mode = .load ∧ s.boot.step = 3 ∧ s.boot.slot = some x) ∧
    (∃ s : State, s.mode = .load ∧ s.boot.step = 9) ∧
    (∃ s : State, s.mode = .load ∧ s.boot.step = 8 ∧ s.resuming = true) ∧
    (∃ s : State, ∃ eyes : List LaneEye, s.mode = .train ∧ s.boot.levelsDone < 4 ∧ s.boot.verify = false ∧ badLanes eyes false = [] ∧
      badLanes eyes true = []) ∧
    (∃ s : State, ∃ eyes : List LaneEye, ∃ n : Nat, s.mode = .train ∧ s.pins.porN = true ∧ s.boot.levelsDone < 4 ∧ s.boot.verify = false ∧
      badLanes eyes false = [n] ∧ badLanes eyes true = [] ∧ s.boot.erasedA = none) ∧
    (∃ s : State, ∃ eyes : List LaneEye, s.mode = .train ∧ s.boot.levelsDone < 4 ∧ s.boot.verify = false ∧ 2 ≤ (badLanes eyes
      false).length) ∧
    (∃ s : State, ∃ eyes : List LaneEye, s.mode = .train ∧ s.boot.levelsDone < 4 ∧ s.boot.verify = true ∧ s.eyesHold eyes = true) ∧
    (∃ s : State, ∃ eyes : List LaneEye, s.mode = .train ∧ s.boot.levelsDone < 4 ∧ s.boot.verify = true ∧ s.eyesHold eyes = false) ∧
    (∃ s : State, ∃ c : Nat, ∃ rd : Nat, ∃ wr : Nat, s.mode = .train ∧ c ∈ s.boot.chLeft ∧ c ∉ s.boot.chVerify ∧ 20 ≤ rd ∧ 20 ≤ wr) ∧
    (∃ s : State, ∃ c : Nat, ∃ rd : Nat, ∃ wr : Nat, s.mode = .train ∧ c ∈ s.boot.chLeft ∧ c ∈ s.boot.chVerify ∧ 20 ≤ rd ∧ 20 ≤ wr) ∧
    (∃ s : State, s.mode = .train ∧ s.boot.levelsDone = 4 ∧ s.boot.chLeft = []) :=
  ⟨⟨(({ inMode .load with boot := { State.reset.boot with step := 1 } } : State).setReg Reg.aonStrap 0x40), by decide +kernel⟩,
   ⟨({ inMode .load with boot := { State.reset.boot with step := 2 } }), by decide +kernel⟩,
   ⟨{ inMode .load with boot := { State.reset.boot with step := 3, slot := some .b } }, .b, by decide +kernel⟩,
   ⟨({ inMode .load with boot := { State.reset.boot with step := 9 } }), by decide +kernel⟩,
   ⟨{ inMode .load with boot := { State.reset.boot with step := 8 } }.setFld Reg.aonMode 12 1 1, by decide +kernel⟩,
   ⟨inMode .train, eyes0, by decide +kernel⟩,
   ⟨inMode .train, (⟨false, 3, 0, 0, 0, 0⟩ : LaneEye) :: eyes0, 3, by decide +kernel⟩,
   ⟨inMode .train, [⟨false, 3, 0, 0, 0, 0⟩, ⟨false, 4, 0, 0, 0, 0⟩], by decide +kernel⟩,
   ⟨{ inMode .train with boot := { State.reset.boot with verify := true, eyes := [] } }, [], by decide +kernel⟩,
   ⟨{ inMode .train with boot := { State.reset.boot with verify := true, eyes := [] } }, [⟨false, 3, 0, 0, 0, 0⟩], by decide +kernel⟩,
   ⟨{ inMode .train with boot := { State.reset.boot with chLeft := [31] } }, 31, 20, 20, by decide +kernel⟩,
   ⟨{ inMode .train with boot := { State.reset.boot with chLeft := [31], chVerify := [31] } }, 31, 20, 20, by decide +kernel⟩,
   ⟨({ inMode .train with boot := { State.reset.boot with levelsDone := 4 } }), by decide +kernel⟩⟩

theorem test_meets_ServiceDrainFlush :
    (∃ s : State, s.mode = .service ∧ s.pwr.sleep = none ∧ s.ldg.folioStart + 1310720 ≤ s.ldg.tick) ∧
    (∃ s : State, s.ldg.tick < s.ldg.folioStart + 1310720) ∧
    (∃ s : State, ∃ shn : Nat, s.islandOn .hst = true ∧ (s.mode = .service ∨ s.mode = .throttle) ∧ (shn = 1 ∨ shn = 2)) ∧
    (∃ s : State, s.islandOn .hst = true ∧ (s.mode = .service ∨ s.mode = .throttle)) ∧
    (∃ v : BitVec 32, v ≠ 0x4E564D65#32) ∧
    (∃ s : State, s.mode = .drain ∧ s.pwr.drained = false ∧ s.host.cmds = [] ∧ s.nor.op = none ∧ s.allSettled = true) ∧
    (∃ s : State, s.mode = .flush) :=
  ⟨⟨({ svc with ldg := { svc.ldg with tick := 1310720 } }), by decide +kernel⟩,
   ⟨({ svc with ldg := { svc.ldg with tick := 1310719 } }), by decide +kernel⟩,
   ⟨(svc), (2), by decide +kernel⟩,
   ⟨(svc), by decide +kernel⟩,
   ⟨(0x4E564D64), by decide +kernel⟩,
   ⟨(inMode .drain), by decide +kernel⟩,
   ⟨(inMode .flush), by decide +kernel⟩⟩

theorem test_meets_ProcessorsAndWatchdog :
    (∃ s : State, ∃ n : Fin 4, s.islandOn .mdp = true ∧ n.val ∉ s.mgt.mdpDown ∧ s.kmOwner ≠ 1 + n.val) ∧
    (∃ s : State, s.islandOn .mgt = true ∧ s.mgt.mp = .running ∧ s.mode ≠ .load) ∧
    (∃ s : State, s.mgt.mp = .restarting) ∧
    (∃ s : State, s.mpActs = true) ∧
    (∃ s : State, ∃ k : BitVec 16, s.mpActs = true ∧ k ≠ 0xA5C3) ∧
    (∃ s : State, s.mpActs = true ∧ s.fld Reg.mgtWdogStatus 0 17 = 0 ∧ s.nor.op.isSome = true) ∧
    (∃ s : State, s.mpActs = true ∧ (s.mode = .doze ∨ s.mode = .maintenance)) :=
  ⟨⟨(svc), (3), by decide +kernel⟩,
   ⟨(svc), by decide +kernel⟩,
   ⟨({ svc with mgt := { svc.mgt with mp := .restarting } }), by decide +kernel⟩,
   ⟨(svc), by decide +kernel⟩,
   ⟨(svc), (0xA5C2), by decide +kernel⟩,
   ⟨({ svc with nor := { svc.nor with op := some ⟨.mp, .sector, 0, []⟩ } }.setReg Reg.mgtWdogStatus 0), by decide +kernel⟩,
   ⟨(maint), by decide +kernel⟩⟩

theorem test_meets_NorStarts :
    (∃ s : State, ∃ pages : Nat, s.mpActs = true ∧ (s.setFetchBank none).norRefusal .program (s.fld Reg.norOpAddr 0 27) pages = 0) ∧
    (∃ s : State, s.mpActs = true ∧ (s.setFetchBank none).norRefusal .subsector (s.fld Reg.norOpAddr 0 27) 0 = 0) ∧
    (∃ s : State, s.mpActs = true ∧ (s.setFetchBank none).norRefusal .sector (s.fld Reg.norOpAddr 0 27) 0 = 0) ∧
    (∃ s : State, s.mpActs = true ∧ s.nor.op.isSome = true) ∧
    (∃ s : State, ∃ a : Nat, ∃ o : NorOp, s.nor.op = some o ∧ norBank o.addr = norBank a ∧ s.islandOn .mgt = true) :=
  ⟨⟨(svc), (256), by decide +kernel⟩,
   ⟨(svc), by decide +kernel⟩,
   ⟨(svc), by decide +kernel⟩,
   ⟨({ svc with nor := { svc.nor with op := some ⟨.mp, .sector, 0, []⟩ } }), by decide +kernel⟩,
   ⟨({ svc with nor := { svc.nor with op := some ⟨.mp, .sector, 0, []⟩ } }), (0x03FFFFFF), (⟨.mp, .sector, 0, []⟩), by decide +kernel⟩⟩

theorem test_meets_NorProgramClearsBits :
    ∃ s : State, ∃ o : NorOp, Canonical s ∧ s.nor.op = some o ∧ o.owner = .mp ∧ s.nor.haltMp = false ∧ s.nor.resumeDue = false ∧
      s.nor.calWaiter = none ∧ s.nor.update = none ∧ s.evt.rdWait = false ∧ s.evt.clearing = none :=
  ⟨({ svc with nor := { svc.nor with op := some ⟨.mp, .program, 0, [5]⟩ } }), (⟨.mp, .program, 0, [5]⟩), ⟨by decide +kernel,
    by decide +kernel, by decide +kernel⟩, by decide +kernel⟩

theorem test_meets_FabricAndDoorbells :
    (∃ s : State, ∃ p : Nat, ∃ tg : XbarTarget, ∃ w : Bool, ∃ a : Nat, p < 16 ∧ s.xbarOk p tg w a = false) ∧
    (∃ s : State, ∃ p : Nat, ∃ tg : XbarTarget, ∃ w : Bool, ∃ a : Nat, p < 16 ∧ s.xbarOk p tg w a = true) ∧
    (∃ s : State, ∃ p : Nat, ∃ q : Nat, ∃ v : Nat, ∃ n : Nat, ∃ w : Bool, p < 15 ∧ q < 15 ∧ p ≠ q ∧ xbarListed s.mode p .mem w = true ∧
      xbarListed s.mode q .mem w = true ∧ cget 0 s.xfr.xbarPtr 1 = v ∧ v < 16 ∧ n = (if (p + 16 - v) % 16 < (q + 16 - v) % 16 then p else
      q)) ∧
    (∃ s : State, ∃ h : Nat, ∃ i : Nat, ∃ c : Cmd, ∃ x : Sec, s.sec h i = some (c, x) ∧ crossEffect (writeType c.op && !x.copySrc) x.st =
      .write ∧ c.secured = false) ∧
    (∃ s : State, ∃ h : Nat, ∃ i : Nat, ∃ c : Cmd, ∃ x : Sec, s.sec h i = some (c, x) ∧ crossEffect (writeType c.op && !x.copySrc) x.st =
      .decode) ∧
    (∃ s : State, ∃ h : Nat, ∃ i : Nat, ∃ c : Cmd, ∃ x : Sec, s.sec h i = some (c, x) ∧ crossEffect (writeType c.op && !x.copySrc) x.st =
      .stage) ∧
    (∃ s : State, ∃ h : Nat, ∃ i : Nat, ∃ l : Nat, ∃ c : Cmd, ∃ x : Sec, s.sec h i = some (c, x) ∧ x.st = .consumed ∧ c.lane = some l) ∧
    (∃ s : State, ∃ h : Nat, ∃ i : Nat, ∃ c : Cmd, ∃ x : Sec, s.sec h i = some (c, x) ∧ x.st = .left) ∧
    (∃ s : State, ∃ f : Nat, ∃ qid : Nat, ∃ v : Nat, ∃ q : CqSt, s.islandOn .hst = true ∧ s.host.linkUp = true ∧ ofind (s.ctrl f).cqs qid =
      some q ∧ v < q.size) ∧
    (∃ s : State, ∃ f : Nat, ∃ qid : Nat, ∃ v : Nat, ∃ i : Nat, ∃ q : IoQueue, s.islandOn .hst = true ∧ s.host.linkUp = true ∧ qid ≠ 0 ∧
      s.findQueue f qid = some (i, q) ∧ v < q.size) ∧
    (∃ s : State, ∃ f : Nat, ∃ qid : Nat, ∃ v : Nat, ∃ i : Nat, ∃ q : IoQueue, s.islandOn .hst = true ∧ s.host.linkUp = true ∧ qid ≠ 0 ∧
      s.findQueue f qid = some (i, q) ∧ q.size ≤ v) :=
  ⟨⟨svc, 15, .plan, true, 0, by decide +kernel⟩,
   ⟨svc, 0, .mem, false, 0, by decide +kernel⟩,
   ⟨svc, 0, 3, 0, 0, true, by decide +kernel⟩,
   ⟨withCmds nsZ [(1, cmd0 .write .running [{ sec0 with st := .have }])], 1, 0, _, _, rfl, by decide +kernel⟩,
   ⟨withCmds nsZ [(1, cmd0 .read .running [{ sec0 with st := .moved }])], 1, 0, _, _, rfl, by decide +kernel⟩,
   ⟨withCmds nsZ [(1, cmd0 .read .running [sec0])], 1, 0, _, _, rfl, by decide +kernel⟩,
   ⟨withCmds nsZ [(1, { cmd0 .minted .running [{ sec0 with st := .consumed }] with lane := some 15 })], 1, 0, 15, _, _, rfl,
    by decide +kernel⟩,
   ⟨withCmds nsZ [(1, cmd0 .read .running [{ sec0 with st := .left }])], 1, 0, _, _, rfl, by decide +kernel⟩,
   ⟨({ svc with host := { svc.host with ctrls := [(1, { ctrl0 with cqs := [(1, ⟨16, 0, 0⟩)] })] } }), (1), (1), (15), (⟨16, 0, 0⟩), by decide +kernel⟩,
   ⟨({ svc with host := { svc.host with queues := [(3, queue0)] } }), (1), (2), (15), (3), (queue0), by decide +kernel⟩,
   ⟨({ svc with host := { svc.host with queues := [(3, queue0)] } }), (1), (2), (16), (3), (queue0), by decide +kernel⟩⟩

theorem test_meets_CommandsEnter :
    (∃ s : State, ∃ k : Nat, ∃ e : Sqe, ∃ q : IoQueue, ofind s.host.queues k = some q ∧ q.slice = none ∧ s.entriesOut q.func k < q.waiting
      ∧ s.host.linkUp = true ∧ (s.ctx q.func).halted = false ∧ s.fetches q.func q.func e.nsid = true) ∧
    (∃ s : State, ∃ k : Nat, ∃ b : Nat, ∃ e : Sqe, ∃ q : Qp, s.islandOn .net = true ∧ ofind s.net.qps k = some q ∧ q.error = false ∧ bitOf
      (s.reg (Reg.netPortStatus + 4 * q.port)) 0 = true ∧ q.queue ≠ none ∧ q.queue ≠ some 0 ∧ s.memberActive q.account = true ∧ s.mode =
      .service ∧ s.pwr.sleep = none ∧ (s.rxLevel q.port b).fetches q.account q.account e.nsid = true) ∧
    (∃ s : State, ∃ k : Nat, ∃ q : Qp, s.islandOn .net = true ∧ ofind s.net.qps k = some q ∧ q.error = false ∧ bitOf (s.reg
      (Reg.netPortStatus + 4 * q.port)) 0 = true ∧ q.queue ≠ none ∧ q.queue ≠ some 0 ∧ s.mode = .drain) ∧
    (∃ s : State, ∃ h : Nat, ∃ c : Cmd, s.cmd h = some c ∧ modeLedger s.mode = true ∧ s.canArrive c = true ∧ s.host.cmds.any (fun e =>
      decide (e.2.phase = .arrived) || (arrivesFirst e.2 c && s.canArrive e.2)) = false) ∧
    (∃ s : State, ∃ h : Nat, ∃ c : Cmd, ∃ x : Ns, s.cmd h = some c ∧ c.phase = .accepting ∧ c.op = .read ∧ (s.stamp h 1).ns c.nsid = some x
      ∧ (s.stamp h 1).doorRefused c = false) :=
  ⟨⟨{ svc with host := { svc.host with queues := [(3, queue0)] } }, 3, sqe0, queue0, by decide +kernel⟩,
   ⟨({ netUp with net := { netUp.net with qps := [(4, { qp0 with queue := some 1 })] } }), (4), (0), (sqe0),
    ({ qp0 with queue := some 1 }), by decide +kernel⟩,
   ⟨({ netUp with mode := .drain, net := { netUp.net with qps := [(4, { qp0 with queue := some 1 })] } }), (4),
    ({ qp0 with queue := some 1 }), by decide +kernel⟩,
   ⟨withCmds nsC [(1, cmd0 .read .fetched [])], 1, _, rfl, by decide +kernel⟩,
   ⟨withCmds nsC [(1, cmd0 .read .accepting [sec0])], 1, _, _, rfl, by decide +kernel, by decide +kernel, rfl, by decide +kernel⟩⟩

theorem test_meets_IoReadForms :
    (∃ s : State, ∃ h : Nat, ∃ c : Cmd, s.cmd h = some c ∧ c.phase = .arrived ∧ c.op = .flush) ∧
    (∃ s : State, ∃ h : Nat, ∃ c : Cmd, ∃ x : Ns, s.arrivedCmd h (fun o => decide (o = .read)) = some (c, x) ∧ rangeCheck c x = none ∧
      (x.zoned && s.offlineIn x (lbas c.slba c.count)) = false) ∧
    (∃ s : State, ∃ h : Nat, ∃ c : Cmd, ∃ x : Ns, ∃ t : Status, s.arrivedCmd h (fun o => decide (o = .read)) = some (c, x) ∧ rangeCheck c x
      = some t) ∧
    (∃ s : State, ∃ h : Nat, ∃ c : Cmd, ∃ x : Ns, s.arrivedCmd h (fun o => decide (o = .dsm)) = some (c, x) ∧ c.ranges.length = getField
      c.sqe.cdw10 0 8 + 1 ∧ (∀ r ∈ c.ranges, r.count ≤ 262144 ∧ r.slba + r.count ≤ x.size) ∧ sumOf (c.ranges.map (·.count)) ≤ 16777216 ∧
      bitOf c.sqe.cdw11 2 = false) ∧
    (∃ s : State, ∃ h : Nat, ∃ c : Cmd, ∃ x : Ns, s.arrivedCmd h (fun o => decide (o = .dsm)) = some (c, x) ∧ c.ranges.length = getField
      c.sqe.cdw10 0 8 + 1 ∧ (∀ r ∈ c.ranges, r.count ≤ 262144 ∧ r.slba + r.count ≤ x.size) ∧ sumOf (c.ranges.map (·.count)) ≤ 16777216 ∧
      bitOf c.sqe.cdw11 2 = true) ∧
    (∃ s : State, ∃ h : Nat, ∃ c : Cmd, ∃ x : Ns, s.arrivedCmd h (fun o => decide (o = .report)) = some (c, x) ∧ getField c.sqe.cdw13 0 8 ≠
      0) ∧
    (∃ s : State, ∃ h : Nat, ∃ c : Cmd, ∃ x : Ns, s.arrivedCmd h (fun o => decide (o = .report)) = some (c, x) ∧ getField c.sqe.cdw13 0 8 =
      0 ∧ getField c.sqe.cdw13 8 8 ≤ 7 ∧ c.slba < x.size) :=
  ⟨⟨(withCmds nsC [(1, (cmd0 .flush .arrived []))]), (1), (cmd0 .flush .arrived []), by decide +kernel⟩,
   ⟨withCmds nsC [(1, { cmd0 .read .arrived [] with slba := 4032, count := 64 })], 1, _, _, rfl, by decide +kernel⟩,
   ⟨(withCmds nsC [(1, { cmd0 .read .arrived [] with slba := 4033, count := 64 })]), (1),
    ({ cmd0 .read .arrived [] with slba := 4033, count := 64 }), (nsC), (stLbaOutOfRange), by decide +kernel, rfl⟩,
   ⟨(withCmds nsC [(1, { cmd0 .dsm .arrived [] with ranges := [⟨0, 4096⟩] })]), (1),
    ({ cmd0 .dsm .arrived [] with ranges := [⟨0, 4096⟩] }), (nsC), by decide +kernel⟩,
   ⟨(withCmds nsC [(1, { cmd0 .dsm .arrived [] with ranges := [⟨0, 4096⟩], sqe := { sqe0 with cdw11 := 4 } })]), (1),
    ({ cmd0 .dsm .arrived [] with ranges := [⟨0, 4096⟩], sqe := { sqe0 with cdw11 := 4 } }), (nsC), by decide +kernel⟩,
   ⟨(withCmds nsZ [(1, { cmd0 .report .arrived [] with sqe := { sqe0 with cdw13 := 1 } })]), (1),
    ({ cmd0 .report .arrived [] with sqe := { sqe0 with cdw13 := 1 } }), (nsZ), by decide +kernel⟩,
   ⟨(withCmds nsZ [(1, { cmd0 .report .arrived [] with slba := 524287, sqe := { sqe0 with cdw13 := 0x700 } })]), (1),
    ({ cmd0 .report .arrived [] with slba := 524287, sqe := { sqe0 with cdw13 := 0x700 } }), (nsZ), by decide +kernel⟩⟩

theorem test_meets_IoWriteForms :
    (∃ s : State, ∃ h : Nat, ∃ c : Cmd, ∃ x : Ns, s.arrivedCmd h (fun o => decide (o = .write)) = some (c, x) ∧ rangeCheck c x = none) ∧
    (∃ s : State, ∃ h : Nat, ∃ c : Cmd, ∃ x : Ns, ∃ t, s.arrivedCmd h (fun o => decide (o = .write)) = some (c, x) ∧ rangeCheck c x = some
      t) ∧
    (∃ s : State, ∃ h : Nat, ∃ c : Cmd, ∃ x : Ns, s.arrivedCmd h (fun o => decide (o = .writeZeroes)) = some (c, x) ∧ rangeCheck c x = none
      ∧ x.zoned = false) ∧
    (∃ s : State, ∃ h : Nat, ∃ c : Cmd, ∃ x : Ns, s.arrivedCmd h (fun o => decide (o = .writeZeroes)) = some (c, x) ∧ rangeCheck c x = none
      ∧ x.zoned = true) ∧
    (∃ s : State, ∃ h : Nat, ∃ c : Cmd, ∃ x : Ns, s.arrivedCmd h (fun o => decide (o = .copy)) = some (c, x) ∧ (x.zoned && s.offlineIn x
      (readLbas c)) = false ∧ getField c.sqe.cdw12 8 4 = (if x.format = 2 then 1 else 0) ∧ c.ranges.length = getField c.sqe.cdw12 0 8 + 1 ∧
      c.ranges.length ≤ 32 ∧ (∀ r ∈ c.ranges, 1 ≤ r.count ∧ r.count ≤ 64 ∧ r.slba + r.count ≤ x.size) ∧ c.count ≤ 64 ∧ c.slba + c.count ≤
      x.size ∧ dtypeOk c.sqe = true) ∧
    (∃ s : State, ∃ h : Nat, ∃ z : Nat, ∃ c : Cmd, ∃ x : Ns, ∃ a : Activation, s.arrivedCmd h (fun o => decide (o = .append)) = some (c, x)
      ∧ c.slba % zoneSectors = 0 ∧ c.slba < x.size ∧ c.count ≤ maxSectors ∧ dtypeOk c.sqe = true ∧ ilbrtOk c.sqe x.format = true ∧
      s.xtsReady (nsOwner x) = true ∧ c.zone = some z ∧ s.zoneCheck c z (s.zone z).wp c.count true = (none, a)) :=
  ⟨⟨(withCmds nsC [(1, { cmd0 .write .arrived [] with slba := 4032, count := 64 })]), (1),
    ({ cmd0 .write .arrived [] with slba := 4032, count := 64 }), (nsC), by decide +kernel⟩,
   ⟨(withCmds nsC [(1, { cmd0 .write .arrived [] with count := 65 })]), (1), ({ cmd0 .write .arrived [] with count := 65 }), (nsC),
    (stInvalidField), by decide +kernel, rfl⟩,
   ⟨(withCmds nsC [(1, (cmd0 .writeZeroes .arrived []))]), (1), (cmd0 .writeZeroes .arrived []), (nsC), by decide +kernel⟩,
   ⟨(withCmds nsZ [(1, (cmd0 .writeZeroes .arrived []))]), (1), (cmd0 .writeZeroes .arrived []), (nsZ), by decide +kernel⟩,
   ⟨withCmds nsC [(1, { cmd0 .copy .arrived [] with ranges := [⟨0, 64⟩], count := 64, slba := 4032 })], 1, _, _, rfl, by decide +kernel⟩,
   ⟨zoneCmd .implicitOpen { cmd0 .append .arrived [] with zone := some 5, count := 64 }, 1, 5, _, _, .ok, rfl, by decide +kernel⟩⟩

theorem test_meets_ZoneSends :
    (∃ s : State, ∃ h : Nat, ∃ c : Cmd, ∃ x : Ns, ∃ all : Bool, s.sendCmd h 1 = some (c, x, all) ∧ s.sendCheck c x all (fun t => isOpen t
      || decide (t = .closed)) = none) ∧
    (∃ s : State, ∃ h : Nat, ∃ c : Cmd, ∃ x : Ns, ∃ all : Bool, ∃ t : Status, s.sendCmd h 1 = some (c, x, all) ∧ s.sendCheck c x all (fun t
      => isOpen t || decide (t = .closed)) = some t) ∧
    (∃ s : State, ∃ h : Nat, ∃ c : Cmd, ∃ x : Ns, s.sendCmd h 2 = some (c, x, true) ∧ s.sendCheck c x true (fun t => isOpen t || decide (t
      = .closed)) = none) ∧
    (∃ s : State, ∃ h : Nat, ∃ c : Cmd, ∃ x : Ns, s.sendCmd h 3 = some (c, x, true) ∧ c.zone = none ∧ s.sendCheck c x true (fun t => decide
      (t = .closed)) = none ∧ s.sendZones c x (fun t => decide (t = .closed)) = []) ∧
    (∃ s : State, ∃ h : Nat, ∃ z : Nat, ∃ c : Cmd, ∃ x : Ns, s.sendCmd h 3 = some (c, x, false) ∧ c.zone = some z ∧ (s.zone z).state =
      .closed ∧ (s.zone z).active = true ∧ (s.zone z).wp ≠ 0 ∧ s.sendCheck c x false (fun t => decide (t = .closed) || (isOpen t || decide
      (t = .empty))) = none ∧ s.sendZones c x (fun t => decide (t = .closed) || (isOpen t || decide (t = .empty))) = [z]) ∧
    (∃ s : State, ∃ h : Nat, ∃ c : Cmd, ∃ x : Ns, s.sendCmd h 4 = some (c, x, true) ∧ s.sendCheck c x true (fun t => isOpen t || decide (t
      = .closed) || decide (t = .full)) = none) ∧
    (∃ s : State, ∃ h : Nat, ∃ c : Cmd, ∃ x : Ns, ∃ all : Bool, s.sendCmd h 5 = some (c, x, all) ∧ s.sendCheck c x all (fun t => decide (t
      = .readOnly)) = none) ∧
    (∃ s : State, ∃ h : Nat, ∃ c : Cmd, ∃ x : Ns, ∃ all : Bool, s.sendCmd h 0x10 = some (c, x, all)) :=
  ⟨⟨(zoneCmd .closed (cmd0 (.zoneMgmt 1 true) .arrived [])), (1), (cmd0 (.zoneMgmt 1 true) .arrived []), (nsZ), (true), by decide +kernel⟩,
   ⟨(zoneCmd .full { cmd0 (.zoneMgmt 1 false) .arrived [] with zone := some 5 }), (1),
    ({ cmd0 (.zoneMgmt 1 false) .arrived [] with zone := some 5 }), (nsZ), (false), (stInvalidTransition), by decide +kernel, rfl⟩,
   ⟨(zoneCmd .closed (cmd0 (.zoneMgmt 2 true) .arrived [])), (1), (cmd0 (.zoneMgmt 2 true) .arrived []), (nsZ), by decide +kernel⟩,
   ⟨(zoneCmd .empty (cmd0 (.zoneMgmt 3 true) .arrived [])), (1), (cmd0 (.zoneMgmt 3 true) .arrived []), (nsZ), by decide +kernel⟩,
   ⟨(zoneCmd .closed { cmd0 (.zoneMgmt 3 false) .arrived [] with zone := some 5 }), (1), (5),
    ({ cmd0 (.zoneMgmt 3 false) .arrived [] with zone := some 5 }), (nsZ), by decide +kernel⟩,
   ⟨(zoneCmd .full (cmd0 (.zoneMgmt 4 true) .arrived [])), (1), (cmd0 (.zoneMgmt 4 true) .arrived []), (nsZ), by decide +kernel⟩,
   ⟨(zoneCmd .readOnly (cmd0 (.zoneMgmt 5 true) .arrived [])), (1), (cmd0 (.zoneMgmt 5 true) .arrived []), (nsZ), (true), by decide +kernel⟩,
   ⟨(zoneCmd .readOnly (cmd0 (.zoneMgmt 16 true) .arrived [])), (1), (cmd0 (.zoneMgmt 16 true) .arrived []), (nsZ), (true),
    by decide +kernel⟩⟩

theorem test_meets_ReadSectorSteps :
    (∃ s : State, ∃ h : Nat, ∃ a : Nat, ∃ errs : List SymErr, ∃ c : Cmd, s.cmd h = some c ∧ c.phase = .running ∧ (nextLine c).isEmpty =
      false ∧ c.op = .read ∧ s.dramPoisoned a errs = false) ∧
    (∃ s : State, ∃ h : Nat, ∃ i : Nat, ∃ c : Cmd, ∃ x : Sec, s.sec h i = some (c, x) ∧ x.st = .decoded ∧ s.mem.wiping = false ∧ x.poison =
      false ∧ x.xts.isSome = true ∧ c.op = .read) ∧
    (∃ s : State, ∃ h : Nat, ∃ i : Nat, ∃ c : Cmd, ∃ x : Sec, s.sec h i = some (c, x) ∧ x.st = .decoded ∧ s.mem.wiping = false ∧ x.poison =
      false ∧ x.xts = none ∧ c.op = .read) ∧
    (∃ s : State, ∃ h : Nat, ∃ i : Nat, ∃ c : Cmd, ∃ x : Sec, s.sec h i = some (c, x) ∧ x.st = .sealed ∧ s.mem.wiping = false ∧ x.poison =
      false ∧ x.xts.isSome = true) ∧
    (∃ s : State, ∃ h : Nat, ∃ i : Nat, ∃ c : Cmd, ∃ x : Sec, s.sec h i = some (c, x) ∧ x.st = .clear ∧ s.keyMatches c x = true ∧
      appTagFails c x (s.fmtOf c) = false ∧ c.op = .read) ∧
    (∃ s : State, ∃ h : Nat, ∃ i : Nat, ∃ c : Cmd, ∃ x : Sec, s.sec h i = some (c, x) ∧ c.op = .read ∧ x.st = .checked ∧ x.zero = false ∧
      x.level < 3 ∧ (s.tickTo x.slotAt).doorPaused c.door = false ∧ (s.tickTo x.slotAt).rateHolds c = false ∧ (s.tickTo x.slotAt).mayLeave
      c x = true) ∧
    (∃ s : State, ∃ h : Nat, ∃ i : Nat, ∃ c : Cmd, ∃ x : Sec, s.sec h i = some (c, x) ∧ c.op = .read ∧ x.st = .checked ∧ x.zero = false ∧
      x.level < 3 ∧ ((s.tickTo x.slotAt).doorPaused c.door = true ∨ (s.tickTo x.slotAt).rateHolds c = true)) ∧
    (∃ s : State, ∃ h : Nat, ∃ i : Nat, ∃ c : Cmd, ∃ x : Sec, s.sec h i = some (c, x) ∧ x.st = .leaving ∧ s.logging c.account = false ∧
      c.silent = false) :=
  ⟨⟨(withCmds nsZ [(1, (cmd0 .read .running [sec0]))]), (1), (0), ([]), (cmd0 .read .running [sec0]), by decide +kernel⟩,
   ⟨withCmds nsZ [(1, cmd0 .read .running [{ sec0 with st := .decoded, xts := some 4 }])], 1, 0, _, _, rfl, by decide +kernel⟩,
   ⟨withCmds nsZ [(1, cmd0 .read .running [{ sec0 with st := .decoded }])], 1, 0, _, _, rfl, by decide +kernel⟩,
   ⟨withCmds nsZ [(1, cmd0 .write .running [{ sec0 with st := .sealed, xts := some 4 }])], 1, 0, _, _, rfl, by decide +kernel⟩,
   ⟨withCmds nsZ [(1, cmd0 .read .running [{ sec0 with st := .clear }])], 1, 0, _, _, rfl, by decide +kernel⟩,
   ⟨withCmds nsZ [(1, cmd0 .read .running [{ sec0 with st := .checked }])], 1, 0, _, _, rfl, by decide +kernel⟩,
   ⟨{ withCmds nsZ [(1, { cmd0 .read .running [{ sec0 with st := .checked }] with door := .eth0, net := true, queue := 4 })] with net := { svc.net with qps := [(4, { qp0 with nextAt := 9 })] } },
    1, 0, _, _, rfl, by decide +kernel⟩,
   ⟨(withCmds nsZ [(1, (cmd0 .read .running [{ sec0 with st := .leaving }]))]), (1), (0),
    (cmd0 .read .running [{ sec0 with st := .leaving }]), ({ sec0 with st := .leaving }), by decide +kernel⟩⟩

theorem test_meets_ZeroReadsAndCompletions :
    (∃ s : State, ∃ h : Nat, ∃ c : Cmd, ∃ x : Sec, s.sec h 0 = some (c, x) ∧ c.op = .read ∧ x.st = .checked ∧ x.zero = true ∧ s.doorPaused
      c.door = false ∧ s.rateHolds c = false ∧ s.doorBusy c.door = false ∧ s.wireFree (doorNum c.door) = true) ∧
    (∃ s : State, ∃ h : Nat, ∃ i : Nat, ∃ c : Cmd, ∃ x : Sec, s.sec h i = some (c, x) ∧ c.op = .read ∧ x.st = .checked ∧ x.zero = true ∧
      (s.doorPaused c.door = true ∨ s.rateHolds c = true ∨ s.doorBusy c.door = true ∨ s.wireFree (doorNum c.door) = false)) ∧
    (∃ s : State, ∃ h : Nat, ∃ i : Nat, ∃ c : Cmd, ∃ x : Sec, s.sec h i = some (c, x) ∧ c.op = .copy ∧ x.st = .zeroFill ∧ x.copySrc = true
      ∧ firstZero c .zeroFill i = true) ∧
    (∃ s : State, ∃ h : Nat, ∃ i : Nat, ∃ c : Cmd, ∃ x : Sec, s.sec h i = some (c, x) ∧ c.op = .writeZeroes ∧ x.st = .zeroFill ∧
      stagedReady c = true ∧ firstZero c .zeroFill i = true) ∧
    (∃ s : State, ∃ h : Nat, ∃ c : Cmd, s.cmd h = some c ∧ c.phase = .posting ∧ s.logging c.account = false ∧ s.doorPaused c.door = false) ∧
    (∃ s : State, ∃ h : Nat, ∃ c : Cmd, s.cmd h = some c ∧ c.phase = .posting ∧ s.logging c.account = false ∧ s.doorPaused c.door = true) ∧
    (∃ s : State, ∃ h : Nat, ∃ c : Cmd, s.cmd h = some c ∧ c.phase = .posting ∧ c.net = false ∧ c.silent = false ∧ s.logging c.account =
      true ∧ s.dlogRoom = 0) :=
  ⟨⟨withCmds nsZ [(1, cmd0 .read .running [{ sec0 with st := .checked, zero := true }])], 1, _, _, rfl, by decide +kernel⟩,
   ⟨{ withCmds nsZ [(1, { cmd0 .read .running [{ sec0 with st := .checked, zero := true }] with door := .eth0, net := true, queue := 4 })] with net := { svc.net with qps := [(4, { qp0 with nextAt := 9 })] } },
    1, 0, _, _, rfl, by decide +kernel⟩,
   ⟨(withCmds nsC [(1, (cmd0 .copy .running [sec0, { sec0 with st := .zeroFill, zero := true, copySrc := true }]))]), (1), (1),
    (cmd0 .copy .running [sec0, { sec0 with st := .zeroFill, zero := true, copySrc := true }]),
    ({ sec0 with st := .zeroFill, zero := true, copySrc := true }), by decide +kernel⟩,
   ⟨withCmds nsZ [(1, { cmd0 .writeZeroes .running [{ sec0 with st := .zeroFill }] with admitted := true, pooled := true })], 1, 0, _, _,
    rfl, by decide +kernel⟩,
   ⟨(withCmds nsC [(1, (cmd0 .read .posting []))]), (1), (cmd0 .read .posting []), by decide +kernel⟩,
   ⟨({ withCmds nsC [(1, { cmd0 .read .posting [] with net := true, door := .eth1 })] with net := { State.reset.net with ports := [(1, { pausedData := true })] } }),
    (1), ({ cmd0 .read .posting [] with net := true, door := .eth1 }), by decide +kernel⟩,
   ⟨((({ withCmds nsC [(1, (cmd0 .read .posting []))] with host := { (withCmds nsC [(1, (cmd0 .read .posting []))]).host with accts := [(1, { binding := some { bind0 with logEn := true } })] } } : State).setReg Reg.actDlogCtl 1).setReg Reg.actDlogTail 0xFFFFFF),
    (1), (cmd0 .read .posting []), by decide +kernel⟩⟩

theorem test_meets_WriteSteps :
    (∃ s : State, ∃ h : Nat, ∃ c : Cmd, s.cmd h = some c ∧ c.phase = .running ∧ writeType c.op = true ∧ c.admitted = true ∧ c.pooled =
      false ∧ c.secured = false ∧ s.mayStage c = true) ∧
    (∃ s : State, ∃ h : Nat, ∃ data : List HostSec, ∃ c : Cmd, s.cmd h = some c ∧ (c.op = .write ∨ c.op = .append) ∧ stagedReady c = true ∧
      data.length = c.count ∧ (secsIn c .fetching).length = c.count ∧ s.readsFor c.account h = false) ∧
    (∃ s : State, ∃ h : Nat, ∃ c : Cmd, s.cmd h = some c ∧ stagedReady c = true ∧ dataComplete c = true ∧ s.mem.lanes.length < 2 ∧ h ∉
      s.mem.lanes ∧ (∀ e ∈ s.host.cmds, stagedReady e.2 = true → dataComplete e.2 = true → e.1 ∉ s.mem.lanes → c.seq ≤ e.2.seq)) ∧
    (∃ s : State, ∃ h : Nat, ∃ i : Nat, ∃ c : Cmd, ∃ x : Sec, ∃ t, s.sec h i = some (c, x) ∧ x.st = .have ∧ h ∈ s.mem.lanes ∧ (secsIn c
      .have).head? = some i ∧ piFails c i x (s.fmtOf c) = some t) ∧
    (∃ s : State, ∃ h : Nat, ∃ i : Nat, ∃ c : Cmd, ∃ x : Sec, ∃ c1 : Cmd, s.sec h i = some (c, x) ∧ x.st = .have ∧ h ∈ s.mem.lanes ∧
      (secsIn c .have).head? = some i ∧ piFails c i x (s.fmtOf c) = none ∧ c1 =
      { c with secs := c.secs.set i { x with st := .sealed, appTag := storedTag c x (s.fmtOf c), stream := s.freeStream, xts := s.xtsRead (s.ownerOf c) } }
      ∧ (secsIn c1 .have).isEmpty = false) ∧
    (∃ s : State, ∃ h : Nat, ∃ i : Nat, ∃ c : Cmd, ∃ x : Sec, ∃ c1 : Cmd, s.sec h i = some (c, x) ∧ x.st = .have ∧ h ∈ s.mem.lanes ∧
      (secsIn c .have).head? = some i ∧ piFails c i x (s.fmtOf c) = none ∧ c1 =
      { c with secs := c.secs.set i { x with st := .sealed, appTag := storedTag c x (s.fmtOf c), stream := s.freeStream, xts := s.xtsRead (s.ownerOf c) } }
      ∧ (secsIn c1 .have).isEmpty = true) ∧
    (∃ s : State, ∃ h : Nat, ∃ i : Nat, ∃ c : Cmd, ∃ x : Sec, ∃ r : Rec, s.sec h i = some (c, x) ∧ x.st = .encrypted ∧ s.bufferRoom = true
      ∧ s.dbRec c.seq = some r) ∧
    (∃ s : State, ∃ h : Nat, ∃ c : Cmd, s.cmd h = some c ∧ c.phase = .running ∧ c.secured = false ∧ c.secureHeld = false ∧ (destSecs
      c).isEmpty = false ∧ (∀ x ∈ destSecs c, x.st = .stored) ∧ c.zone = none) ∧
    (∃ s : State, ∃ h : Nat, ∃ c : Cmd, ∃ z, s.cmd h = some c ∧ c.phase = .running ∧ c.secured = false ∧ c.secureHeld = false ∧ (destSecs
      c).isEmpty = false ∧ (∀ x ∈ destSecs c, x.st = .stored) ∧ c.zone = some z ∧ s.earlierZoneOpen z c.seq = true) ∧
    (∃ s : State, ∃ h : Nat, ∃ c : Cmd, ∃ z, s.cmd h = some c ∧ c.phase = .running ∧ c.secured = false ∧ c.secureHeld = false ∧ (destSecs
      c).isEmpty = false ∧ (∀ x ∈ destSecs c, x.st = .stored) ∧ c.zone = some z ∧ s.earlierZoneOpen z c.seq = false) ∧
    (∃ s : State, ∃ h : Nat, ∃ c : Cmd, s.cmd h = some c ∧ isDealloc c = true ∧ stagedReady c = true ∧ s.readsFor c.account h = false ∧
      c.op = .dsm) :=
  ⟨⟨{ withCmds nsC [(1, { cmd0 .write .running [] with admitted := true })] with rsv := { svc.rsv with coverMib := 1 }, db := { svc.db with wrSum := 100 } },
    1, _, rfl, by decide +kernel⟩,
   ⟨withCmds nsC [(1, { cmd0 .write .running [{ sec0 with st := .fetching }] with admitted := true, pooled := true })], 1, [hsec0], _,
    rfl, by decide +kernel⟩,
   ⟨{ withCmds nsC [(1, { cmd0 .write .running [{ sec0 with st := .have }] with admitted := true, pooled := true })] with mem := { State.reset.mem with lanes := [2] } },
    1, _, rfl, by decide +kernel⟩,
   ⟨({ withCmds { nsC with format := 1 } [(1, { cmd0 .write .running [{ sec0 with st := .have, guardOk := false }] with sqe := { sqe0 with cdw12 := 0x10000000 } })] with mem := { State.reset.mem with lanes := [1] } }),
    (1), (0), ({ cmd0 .write .running [{ sec0 with st := .have, guardOk := false }] with sqe := { sqe0 with cdw12 := 0x10000000 } }),
    ({ sec0 with st := .have, guardOk := false }), (stGuardCheck), by decide +kernel, by decide +kernel, by decide +kernel,
    by decide +kernel, rfl⟩,
   ⟨{ withCmds nsC [(1, cmd0 .write .running [{ sec0 with st := .have }, { sec0 with st := .have, lba := 1 }])] with mem := { State.reset.mem with lanes := [1] } },
    1, 0, _, _, _, rfl, by decide +kernel, by decide +kernel, by decide +kernel, by decide +kernel, rfl, by decide +kernel⟩,
   ⟨{ withCmds nsC [(1, cmd0 .write .running [{ sec0 with st := .have }])] with mem := { State.reset.mem with lanes := [1] } }, 1, 0, _,
    _, _, rfl, by decide +kernel, by decide +kernel, by decide +kernel, by decide +kernel, rfl, by decide +kernel⟩,
   ⟨{ withCmds nsC [(1, cmd0 .write .running [{ sec0 with st := .encrypted }])] with db := { State.reset.db with recs := [(1, rec0)] } },
    1, 0, _, _, rec0, rfl, by decide +kernel⟩,
   ⟨(withCmds nsC [(1, (cmd0 .write .running [{ sec0 with st := .stored }]))]), (1), (cmd0 .write .running [{ sec0 with st := .stored }]), by decide +kernel⟩,
   ⟨(withCmds nsZ [(1, { cmd0 .write .running [{ sec0 with st := .stored }] with zone := some 5, seq := 2 }), (2, { { cmd0 .write .running [{ sec0 with st := .stored }] with zone := some 5, seq := 2 } with seq := 1 })]),
    (1), ({ cmd0 .write .running [{ sec0 with st := .stored }] with zone := some 5, seq := 2 }), (5), by decide +kernel⟩,
   ⟨withCmds nsZ [(1, { cmd0 .write .running [{ sec0 with st := .stored }] with zone := some 5 })], 1, _, 5, rfl, by decide +kernel⟩,
   ⟨withCmds nsC [(1, { cmd0 .dsm .running [] with admitted := true, pooled := true })], 1, _, rfl, by decide +kernel⟩⟩

theorem test_meets_DieOperationsAndRetries :
    (∃ s : State, ∃ d : Nat, ∃ t : Nat, ∃ e : EntryRec, s.startOf d e = some t ∧ s.ldg.tick ≤ t + overhead e ∧ modeLedger s.mode = true ∧
      (s.dieMed d).failed = false) ∧
    (∃ e : EntryRec, e.cls = 15) ∧
    (∃ s : State, ∃ d : Nat, ∃ e : EntryRec, e.cls < 14 ∧ isReadEntry e = true ∧ (s.die d).overrunAt = none ∧ (s.die d).op = none ∧ (s.die
      d).read = none) ∧
    (∃ s : State, ∃ d : Nat, ∃ e : EntryRec, e.cls < 14 ∧ isReadEntry e = true ∧ (s.die d).overrunAt.isSome = true ∧ (s.candidates d
      e).isEmpty = false) ∧
    (∃ s : State, ∃ d : Nat, ∃ t : Nat, ∃ e : EntryRec, e.cls ≠ 15 ∧ isReadEntry e = false ∧ (s.die d).overrunAt = none ∧ (s.die d).op =
      none ∧ s.resumeOp d e t = none) ∧
    (∃ s : State, ∃ d : Nat, ∃ op : DieOp, judged (s.die d) = some op ∧ (s.die d).overrunAt = none ∧ (s.dieMed d).failed = false ∧
      modeLedger s.mode = true) ∧
    (∃ s : State, ∃ s1 : State, ∃ d : Nat, ∃ op : DieOp, ∃ c : Cmd, ∃ x : Sec, (s.die d).read = some op ∧ op.inBudget = true ∧ op.cls < 14
      ∧ (s.die d).overrunAt = none ∧ s1 = (s.tickTo (op.start + slotEnd op.type)).setDie d { s.die d with read := none } ∧ s1.sec op.cmd
      op.sec = some (c, x) ∧ x.st = .granted) ∧
    (∃ s : State, ∃ d : Nat, ∃ op : DieOp, (s.die d).op = some op ∧ op.inBudget = true ∧ (s.die d).overrunAt = none ∧ (op.type = 4 ∨
      op.type = 5)) ∧
    (∃ s : State, ∃ d : Nat, ∃ op : DieOp, (s.die d).op = some op ∧ op.inBudget = true ∧ (s.die d).overrunAt = none ∧ op.type = 6) ∧
    (∃ s : State, ∃ d : Nat, ∃ t : Nat, ∃ op : DieOp, ∃ e : Entry15, (s.die d).late = some op ∧ (s.die d).op = none ∧ (s.die d).susp = [] ∧
      (s.die d).overrunAt = some t ∧ (s.die d).resetAt = none ∧ (s.die d).entry15 = some e ∧ s.ldg.tick ≤ e.last ∧ t + 4 * folioTicks ≤
      s.ldg.tick ∧ (s.dieMed d).failed = false ∧ modeLedger s.mode = true) ∧
    (∃ s : State, ∃ h : Nat, ∃ i : Nat, ∃ c : Cmd, ∃ x : Sec, s.sec h i = some (c, x) ∧ x.st = .moved ∧ x.poison = false) ∧
    (∃ s : State, ∃ h : Nat, ∃ i : Nat, ∃ c : Cmd, ∃ x : Sec, s.sec h i = some (c, x) ∧ x.st = .moved ∧ x.poison = true) ∧
    (∃ s : State, ∃ h : Nat, ∃ i : Nat, ∃ c : Cmd, ∃ x : Sec, ∃ e : Entry15, s.sec h i = some (c, x) ∧ x.st = .retryWait ∧ s.open15 x.die 0
      = some e ∧ e.recovery = false ∧ x.reg ≤ e.start ∧ (∀ r ∈ s.retries x.die e.start, c.seq < r.1 ∨ (c.seq = r.1 ∧ i ≤ r.2.2.2)) ∧
      (s.retries x.die e.start).length ≤ 1) ∧
    (∃ s : State, ∃ h : Nat, ∃ i : Nat, ∃ c : Cmd, ∃ x : Sec, ∃ e : Entry15, s.sec h i = some (c, x) ∧ x.st = .recovering ∧ s.open15 x.die
      0 = some e ∧ s.retriesAt c x e.start = true ∧ e.recovery = false ∧ (∀ r ∈ s.retries x.die e.start, c.seq < r.1 ∨ (c.seq = r.1 ∧ i ≤
      r.2.2.2)) ∧ (s.retries x.die e.start).length ≤ 1) ∧
    (∃ s : State, ∃ h : Nat, ∃ i : Nat, ∃ c : Cmd, ∃ x : Sec, ∃ e : Entry15, s.sec h i = some (c, x) ∧ x.st = .recovering ∧ s.open15 x.die
      0 = some e ∧ s.retriesAt c x e.start = true ∧ e.recovery = true ∧ 2 ≤ e.room ∧ (∀ r ∈ s.retries x.die e.start, r.2.1 = 0 ∨ x.l3 <
      r.2.1 ∨ (x.l3 = r.2.1 ∧ c.seq ≤ r.1))) ∧
    (∃ s : State, ∃ h : Nat, ∃ i : Nat, ∃ c : Cmd, ∃ x : Sec, s.sec h i = some (c, x) ∧ x.level = 3 ∧ (x.st = .recovering ∨ x.st = .granted
      ∨ x.st = .moved ∨ x.st = .decoded ∨ x.st = .clear ∨ x.st = .checked) ∧ x.l3 + 4 * folioTicks ≤ s.ldg.tick) ∧
    (∃ s : State, ∃ h : Nat, ∃ i : Nat, ∃ c : Cmd, ∃ x : Sec, s.sec h i = some (c, x) ∧ x.st = .recovering ∧ s.tallyHeld x = true ∧
      modeLedger s.mode = true ∧ x.poison = false ∧ x.level = 3 ∧ (c.op = .minted ∨ x.copySrc = true ∨ s.l3Reaches c x (s.ldg.tick +
      sealTicks s.level) = true)) ∧
    (∃ s : State, ∃ h : Nat, ∃ i : Nat, ∃ c : Cmd, ∃ x : Sec, s.sec h i = some (c, x) ∧ x.st = .recovering ∧ s.tallyHeld x = true ∧
      modeLedger s.mode = true) :=
  ⟨⟨planned, 0, 0, ent 0 3 15, by decide +kernel⟩,
   ⟨ent 0 3 15, rfl⟩,
   ⟨planned, 0, ent 8 1 1, by decide +kernel⟩,
   ⟨{ planned with host := { planned.host with cmds := [(1, cmd0 .read .running [{ sec0 with st := .registered, slc := true }])] }, ldg := { planned.ldg with dies := [(0, { overrunAt := some 0 })], credits := [(1, { rd := 1, wr := 1, byte := 1 })] } },
    0, ent 8 1 1, by decide +kernel⟩,
   ⟨planned, 0, 204800, ent 20 5 14, by decide +kernel⟩,
   ⟨svcDie { read := some { read0 with inBudget := false } }, 3, { read0 with inBudget := false }, by decide +kernel⟩,
   ⟨{ withCmds nsZ [(1, cmd0 .read .running [{ sec0 with st := .granted }])] with ldg := { svc.ldg with dies := [(3, { read := some read0 })] } },
    _, 3, read0, _, _, by decide +kernel, by decide +kernel, by decide +kernel, by decide +kernel, rfl, rfl, by decide +kernel⟩,
   ⟨(svcDie { op := some { type := 5, cls := 14, block := 7, inBudget := true } }), (3),
    ({ type := 5, cls := 14, block := 7, inBudget := true }), by decide +kernel⟩,
   ⟨(svcDie { op := some { type := 6, cls := 14, block := 7, inBudget := true } }), (3),
    ({ type := 6, cls := 14, block := 7, inBudget := true }), by decide +kernel⟩,
   ⟨{ svc with ldg := { svc.ldg with tick := 5242880, dies := [(3, { late := some read0, overrunAt := some 0, entry15 := some open0 })] } },
    3, 0, read0, open0, by decide +kernel⟩,
   ⟨(withCmds nsZ [(1, (cmd0 .read .running [{ sec0 with st := .moved }]))]), (1), (0),
    (cmd0 .read .running [{ sec0 with st := .moved }]), ({ sec0 with st := .moved }), by decide +kernel⟩,
   ⟨(withCmds nsZ [(1, (cmd0 .read .running [{ sec0 with st := .moved, poison := true }]))]), (1), (0),
    (cmd0 .read .running [{ sec0 with st := .moved, poison := true }]), ({ sec0 with st := .moved, poison := true }), by decide +kernel⟩,
   ⟨retrying open0 .read { sec0 with st := .retryWait, die := 3 }, 1, 0, _, _, open0, rfl, by decide +kernel⟩,
   ⟨retrying open0 .minted { sec0 with st := .recovering, die := 3, level := 3 }, 1, 0, _, _, open0, rfl, by decide +kernel⟩,
   ⟨retrying { open0 with recovery := true } .minted { sec0 with st := .recovering, die := 3, level := 3 }, 1, 0, _, _,
    { open0 with recovery := true }, rfl, by decide +kernel⟩,
   ⟨{ withCmds nsZ [(1, cmd0 .read .running [{ sec0 with st := .checked, level := 3 }])] with ldg := { svc.ldg with tick := 5242880 } },
    1, 0, _, _, rfl, by decide +kernel⟩,
   ⟨{ withCmds nsZ [(1, { cmd0 .read .running [{ sec0 with st := .recovering, level := 3, key := 5 * 524288, copySrc := true }] with lane := none })] with med := { (withCmds nsZ []).med with groups := [[], []], zones := [(5, { holder := true })], sectors := [(5 * 524288, stored0)] } },
    1, 0, _, _, rfl, by decide +kernel⟩,
   ⟨{ withCmds nsZ [(1, cmd0 .read .running [{ sec0 with st := .recovering, key := 5 * 524288 }])] with med := { (withCmds nsZ []).med with groups := [[], []], zones := [(5, { holder := true })], sectors := [(5 * 524288, stored0)] } },
    1, 0, _, _, rfl, by decide +kernel⟩⟩

theorem test_meets_SettlementAndRecords :
    (∃ s : State, ∃ q : Nat, ∃ n : Nat, ∃ ms : List (Nat × Nat), s.host.msgs = (q, n) :: ms) ∧
    (∃ s : State, ((s.db.recs.filter (fun e => spillable e.2)).take 512).isEmpty = false ∧ s.db.spill.length + ((s.db.recs.filter (fun e =>
      spillable e.2)).take 512).length ≤ 524288) ∧
    (∃ s : State, ∃ top : Nat, top < s.db.nextSeq ∧ (∀ e ∈ s.db.recs, e.1 ≤ top → e.2.state = .settled)) ∧
    (∃ s : State, ∃ q : Nat, ∃ r : Rec, s.dbRec q = some r ∧ r.state = .secured ∧ r.securedAt + 64 * folioTicks ≤ s.ldg.tick) ∧
    (∃ s : State, ∃ q : Nat, ∃ r : Rec, s.dbRec q = some r ∧ r.state = .secured ∧ s.ldg.tick < r.securedAt + 64 * folioTicks) ∧
    (∃ s : State, ∃ s1 : State, ∃ mv : Nat, ∃ m : Move, ofind s.med.moves mv = some m ∧ m.step = 2 ∧ s.commits < 2048 ∧ s1 = (s.addCommit
      (commitSource m.srcDie m.srcBlock 0) (commitTarget m.srcDie m.dstBlock (s.movePages m) (moveCode m.kind)) .settled).setMove mv
      { m with step := 4 } ∧ m.zone = none) ∧
    (∃ s : State, ∃ s1 : State, ∃ mv : Nat, ∃ m : Move, ∃ z, ofind s.med.moves mv = some m ∧ m.step = 2 ∧ s.commits < 2048 ∧ s1 =
      (s.addCommit (commitSource m.srcDie m.srcBlock 0) (commitTarget m.srcDie m.dstBlock (s.movePages m) (moveCode m.kind))
      .settled).setMove mv { m with step := 4 } ∧ m.zone = some z) ∧
    (∃ s : State, ∃ s1 : State, ∃ mv : Nat, ∃ m : Move, ofind s.med.moves mv = some m ∧ m.step = 4 ∧ s1 = s.dropMove mv ∧ (m.zone.isSome =
      true ∨ s.convIn m.srcDie m.srcBlock = []) ∧ s.blockInUse m.srcDie m.srcBlock = false ∧ s.blockMove m.srcDie m.srcBlock = none ∧
      (s1.block m.srcDie m.srcBlock).doom = none) ∧
    (∃ s : State, ∃ s1 : State, ∃ mv : Nat, ∃ m : Move, ∃ c, ofind s.med.moves mv = some m ∧ m.step = 4 ∧ s1 = s.dropMove mv ∧
      (m.zone.isSome = true ∨ s.convIn m.srcDie m.srcBlock = []) ∧ s.blockInUse m.srcDie m.srcBlock = false ∧ s.blockMove m.srcDie
      m.srcBlock = none ∧ (s1.block m.srcDie m.srcBlock).doom = some c) ∧
    (∃ s : State, ∃ s1 : State, ∃ mv : Nat, ∃ m : Move, ofind s.med.moves mv = some m ∧ m.step = 4 ∧ s1 = s.dropMove mv ∧ (m.zone.isSome =
      true ∨ s.convIn m.srcDie m.srcBlock = []) ∧ s.blockInUse m.srcDie m.srcBlock = true) ∧
    (∃ s : State, ∃ s1 : State, ∃ mv : Nat, ∃ m : Move, ofind s.med.moves mv = some m ∧ m.step = 4 ∧ s1 = s.dropMove mv ∧ m.zone = none ∧
      s.convIn m.srcDie m.srcBlock ≠ []) :=
  ⟨⟨({ svc with host := { svc.host with msgs := [(3, 5)] } }), (3), (5), ([]), by decide +kernel⟩,
   ⟨svcRecs [(1, { rec0 with posted := true })], by decide +kernel⟩,
   ⟨({ svcRecs [(1, rec0), (2, { rec0 with state := .secured })] with db := { (svcRecs [(1, rec0), (2, { rec0 with state := .secured })]).db with nextSeq := 3 } }),
    (1), by decide +kernel⟩,
   ⟨({ svcRecs [(1, { rec0 with state := .secured })] with ldg := { State.reset.ldg with tick := 83886080 } }), (1),
    ({ rec0 with state := .secured }), by decide +kernel⟩,
   ⟨({ svcRecs [(1, { rec0 with state := .secured })] with ldg := { State.reset.ldg with tick := 83886079 } }), (1),
    ({ rec0 with state := .secured }), by decide +kernel⟩,
   ⟨svcMove { move0 with step := 2 }, _, 1, { move0 with step := 2 }, by decide +kernel, by decide +kernel, by decide +kernel, rfl,
    by decide +kernel⟩,
   ⟨svcMove { move0 with step := 2, zone := some 9 }, _, 1, { move0 with step := 2, zone := some 9 }, 9, by decide +kernel,
    by decide +kernel, by decide +kernel, rfl, by decide +kernel⟩,
   ⟨svcMove { move0 with step := 4 }, _, 1, { move0 with step := 4 }, by decide +kernel, by decide +kernel, rfl, by decide +kernel⟩,
   ⟨{ svc with med := { svc.med with moves := [(1, { move0 with step := 4 })], blocks := [(3 * 4096 + 7, { doom := some 2 })] } }, _, 1,
    { move0 with step := 4 }, 2, by decide +kernel, by decide +kernel, rfl, by decide +kernel⟩,
   ⟨{ svcMove { move0 with step := 4 } with ldg := { svc.ldg with dies := [(3, { op := some read0 })] } }, _, 1, { move0 with step := 4 },
    by decide +kernel, by decide +kernel, rfl, by decide +kernel⟩,
   ⟨{ svc with med := { svc.med with moves := [(1, { move0 with step := 4 })], conv := [(9, stored0)] } }, _, 1, { move0 with step := 4 },
    by decide +kernel, by decide +kernel, rfl, by decide +kernel⟩⟩

theorem test_meets_ZoneBlocksAndFolds :
    (∃ s : State, ∃ z : Nat, (s.zone z).state = .empty ∧ (s.zone z).claims = [] ∧ s.claimWanted z = true ∧ s.mdpActs (z % max 1
      s.groupCount) = true) ∧
    (∃ s : State, ∃ z : Nat, (s.zone z).state = .empty ∧ (s.zone z).claims = [] ∧ s.claimWanted z = true ∧ s.mdpActs (z % max 1
      s.groupCount) = false) ∧
    (∃ s : State, ∃ t : State, ∃ z : Nat, ∃ i : Nat, ∃ slc : Bool, 2 ^ 20 * s.zoneDie z i + z ∈ s.med.evac ∧ ((zslot (s.zone z) i).kind =
      .unplaced ∨ (s.block (s.zoneDie z i) (zslot (s.zone z) i).block).state = .retired) ∧ s.acts14 (s.zoneDie z i) = true ∧ (s.zone
      z).state ≠ .empty ∧ (s.zone z).state ≠ .offline ∧ (s.zone z).state ≠ .readOnly ∧ s.bindSlot z i (slc || decide ((zslot (s.zone z)
      i).kind = .folded)) = some t) ∧
    (∃ s : State, ∃ z : Nat, ∃ i : Nat, ∃ n : Nat, ∃ m : Move, s.foldMove z i = some (n, m) ∧ m.step = 1 ∧ s.commits < 2048 ∧ (s.dieMed
      m.srcDie).failed = false ∧ modeLedger s.mode = true ∧ s.acts14 m.srcDie = true ∧ s.moveVerifies m = false) ∧
    (∃ s : State, ∃ z : Nat, ∃ i : Nat, ∃ n : Nat, ∃ m : Move, s.foldMove z i = some (n, m) ∧ m.step = 1 ∧ s.commits < 2048 ∧ (s.dieMed
      m.srcDie).failed = false ∧ modeLedger s.mode = true ∧ s.acts14 m.srcDie = true ∧ s.moveVerifies m = true) ∧
    (∃ s : State, ∃ z : Nat, ∃ i : Nat, ∃ n : Nat, ∃ m : Move, s.foldMove z i = some (n, m) ∧ m.step = 1 ∧ s.commits < 2048 ∧ (s.dieMed
      m.srcDie).failed = false ∧ modeLedger s.mode = true ∧ s.acts14 m.srcDie = true) ∧
    (∃ s : State, ∃ d : Nat, ∃ b : Nat, b ≠ nextBlock (s.dieMed d).tailPos 8) ∧
    (∃ s : State, ∃ d : Nat, ∃ b : Nat, b ≠ nextBlock (s.dieMed d).tallyPos 128) ∧
    (∃ s : State, ∃ d : Nat, ∃ b : Nat, ∃ l : List Nat, b = nextBlock (s.dieMed d).tailPos 8 ∧ l = s.liveTails d b ∧ l ≠ [] ∧ l.length ≤
      512 - (s.dieMed d).tailPos % 512 ∧ (s.dieMed d).failed = false ∧ modeLedger s.mode = true ∧ s.acts14 d = true ∧ s.turn14 d rankRing =
      true ∧ s.tallyRoom d = true ∧ (∀ o, (s.die d).op = some o → o.tail = false)) ∧
    (∃ s : State, ∃ d : Nat, ∃ b : Nat, ∃ l : List (Nat × Nat), b = nextBlock (s.dieMed d).tallyPos 128 ∧ l = s.liveTallies d b ∧ l ≠ [] ∧
      4 * l.length ≤ 512 - (s.dieMed d).tallyPos % 512 ∧ (s.dieMed d).failed = false ∧ modeLedger s.mode = true ∧ s.acts14 d = true ∧
      s.turn14 d rankTally = true) ∧
    (∃ s : State, ∃ z : Nat, ∃ w : Nat, (s.zone z).holder = true ∧ 2 ≤ s.groupCount ∧ modeLedger s.mode = true ∧ 512 * z + w ∉
      s.med.recompute ∧ (s.zone z).accStripe = w ∧ stripeDone (s.zone z) = true ∧ z ∉ s.med.rebuilds ∧ s.tallyTurn (s.tallyDie z w) = true) ∧
    (∃ s : State, ∃ z : Nat, ∃ w : Nat, (s.zone z).holder = true ∧ 2 ≤ s.groupCount ∧ modeLedger s.mode = true ∧ 512 * z + w ∉
      s.med.recompute ∧ (s.zone z).accStripe = w ∧ stripeDone (s.zone z) = true ∧ z ∉ s.med.rebuilds ∧ s.tallyTurn (s.tallyDie z w) =
      false) ∧
    (∃ s : State, ∃ z : Nat, z ∈ s.med.rebuilds ∧ modeLedger s.mode = true ∧ s.mdpActs (z % max 1 s.groupCount) = true ∧ (∀ d ∈ s.zoneDies
      z, s.turn14 d rankRebuild = true)) :=
  ⟨⟨claiming, 5, by decide +kernel⟩,
   ⟨{ claiming with mgt := { svc.mgt with mdpDown := [0] } }, 5, by decide +kernel⟩,
   (bindDie_binds false).elim fun t h =>
    ⟨bindDie, t, 0, 0, false, by decide +kernel, by decide +kernel, by decide +kernel, by decide +kernel, by decide +kernel, by decide +kernel, h⟩,
   ⟨svcGroup { svc.med with moves := [(1, { fold0 with vreads := 4 })] }, 0, 0, 1, { fold0 with vreads := 4 }, by decide +kernel⟩,
   ⟨svcGroup { svc.med with moves := [(1, fold0)] }, 0, 0, 1, fold0, by decide +kernel⟩,
   ⟨svcGroup { svc.med with moves := [(1, fold0)] }, 0, 0, 1, fold0, by decide +kernel⟩,
   ⟨svc, 3, 0, by decide +kernel⟩,
   ⟨svc, 3, 0, by decide +kernel⟩,
   ⟨svcGroup { svc.med with zones := [(0, { tail := some (0, 0), tailPage := 512 })] }, 3, _, _, rfl, rfl, by decide +kernel,
    by decide +kernel, by decide +kernel, by decide +kernel, by decide +kernel, by decide +kernel, by decide +kernel, nofun⟩,
   ⟨svcGroup { svc.med with zones := [(0, { holder := true, tallyAt := [(0, 512)] })] }, 3, _, _, rfl, rfl, by decide +kernel⟩,
   ⟨tallying, 1, 2, by decide +kernel⟩,
   ⟨{ tallying with mgt := { svc.mgt with mdpDown := [0] } }, 1, 2, by decide +kernel⟩,
   ⟨svcGroup { svc.med with rebuilds := [0] }, 0, by decide +kernel⟩⟩

theorem test_meets_BlockChecks :
    (∃ s : State, ∃ d : Nat, ∃ b : Nat, s.copyMove d b = none ∧ (s.block d b).state = .full ∧ (s.block d b).leaving = false ∧ 0 < (s.block
      d b).vreads ∧ s.verifyReads d b (s.block d b).pages ≤ (s.block d b).vreads ∧ (s.block d b).zone = none) ∧
    (∃ s : State, ∃ d : Nat, ∃ b : Nat, ∃ z, s.copyMove d b = none ∧ (s.block d b).state = .full ∧ (s.block d b).leaving = false ∧ 0 <
      (s.block d b).vreads ∧ s.verifyReads d b (s.block d b).pages ≤ (s.block d b).vreads ∧ (s.block d b).zone = some z) ∧
    (∃ s : State, ∃ d : Nat, ∃ b : Nat, s.copyMove d b = none ∧ (s.block d b).state = .full ∧ (s.block d b).leaving = false ∧ 0 < (s.block
      d b).vreads) ∧
    (∃ s : State, ∃ d : Nat, ∃ b : Nat, ∃ mv : Nat, ∃ m : Move, s.copyMove d b = some (mv, m) ∧ m.kind ≠ .fold ∧ m.kind ≠ .evacuation ∧ 0 <
      m.vreads ∧ s.moveVerifies m = false) ∧
    (∃ s : State, ∃ d : Nat, ∃ b : Nat, ∃ mv : Nat, ∃ m : Move, s.copyMove d b = some (mv, m) ∧ m.kind ≠ .fold ∧ m.kind ≠ .evacuation ∧ 0 <
      m.vreads) ∧
    (∃ s : State, ∃ d : Nat, ∃ b : Nat, ∃ v : VerifyBand, s.band (s.block d b).erases = some v ∧ ((s.block d b).state = .full ∨ (s.block d
      b).state = .verified) ∧ (s.block d b).programmed + v.retentionDays * dayTicks ≤ s.pwr.time) ∧
    (∃ s : State, ∃ d : Nat, ∃ b : Nat, ∃ v : VerifyBand, s.band (s.block d b).erases = some v ∧ ((s.block d b).state = .full ∨ (s.block d
      b).state = .verified) ∧ s.pwr.time < (s.block d b).programmed + v.retentionDays * dayTicks) ∧
    (∃ s : State, ∃ who : Requester, s.mayWrite who Reg.medZqSel = true) :=
  ⟨⟨{ svc with med := { svc.med with blocks := [(3 * 4096 + 7, full0)] } }, 3, 7, by decide +kernel⟩,
   ⟨{ svc with med := { svc.med with blocks := [(3 * 4096 + 7, { full0 with zone := some 5 })] } }, 3, 7, 5, by decide +kernel⟩,
   ⟨{ svc with med := { svc.med with blocks := [(3 * 4096 + 7, full0)] } }, 3, 7, by decide +kernel⟩,
   ⟨svcMove { move0 with step := 1, vreads := 4 }, 3, 8, 1, { move0 with step := 1, vreads := 4 }, by decide +kernel⟩,
   ⟨svcMove { move0 with step := 1, vreads := 1 }, 3, 8, 1, { move0 with step := 1, vreads := 1 }, by decide +kernel⟩,
   ⟨({ svc with med := { svc.med with blocks := [(3 * 4096 + 7, { state := .full })] }, pwr := { svc.pwr with time := 90 * dayTicks } }),
    (3), (7), (⟨2 ^ 32 - 1, List.replicate 15 (-4), -4, 8#4, 15#4, 40, 60, 90, 200000, true⟩), by decide +kernel⟩,
   ⟨({ svc with med := { svc.med with blocks := [(3 * 4096 + 7, { state := .full })] }, pwr := { svc.pwr with time := 90 * dayTicks - 1 } }),
    (3), (7), (⟨2 ^ 32 - 1, List.replicate 15 (-4), -4, 8#4, 15#4, 40, 60, 90, 200000, true⟩), by decide +kernel⟩,
   ⟨(svc), (.mdp 3), by decide +kernel⟩⟩

theorem test_meets_ControllersAndFunctions :
    (∃ s : State, ∃ m : Nat, ∃ q : Quiesce, (s.acct m).quiesce = some q ∧ q.cut = false ∧ q.q + 5079040 ≤ s.ldg.tick) ∧
    (∃ s : State, ∃ m : Nat, ∃ q : Quiesce, (s.acct m).quiesce = some q ∧ q.cut = false ∧ s.ldg.tick < q.q + 5079040) ∧
    (∃ s : State, ∃ f : Nat, s.islandOn .hst = true ∧ bitOf (s.ctrl f).cc 0 = true ∧ (s.ctrl f).resetting = false) ∧
    (∃ s : State, ∃ f : Nat, ∃ cc : BitVec 32, s.islandOn .hst = true ∧ bitOf (s.ctrl f).cc 0 = false ∧ (s.ctrl f).resetting = false ∧
      bitOf cc 0 = true ∧ s.functionExists f = true ∧ f ≠ 0) ∧
    (∃ s : State, ∃ f : Nat, s.islandOn .hst = true ∧ f ≠ 0 ∧ s.functionExists f = true ∧ (s.acct f).binding = none ∧ (s.acct f).quiesce =
      none) ∧
    (∃ s : State, ∃ f : Nat, s.islandOn .hst = true ∧ f ≠ 0 ∧ s.functionExists f = true ∧ s.memberActive f = true) ∧
    (∃ s : State, ∃ f : Nat, s.islandOn .hst = true ∧ f ≠ 0 ∧ s.functionExists f = true ∧ s.memberActive f = false ∧ (s.acct f).quiesce =
      none) ∧
    (∃ s : State, ∃ f : Nat, ∃ q : Quiesce, (s.acct f).quiesce = some q ∧ (s.acct f).flrActive = true ∧ q.q + 12000000 ≤ s.ldg.tick) ∧
    (∃ s : State, ∃ n : Nat, s.islandOn .hst = true ∧ s.host.vfEnable = false ∧ n ≤ 2047 ∧ (s.boot.image.isSome = true → n ≤ s.totalVfs)) :=
  ⟨⟨{ svcAcct { quiesce := some ⟨0, false, false, []⟩ } with ldg := { svc.ldg with tick := 5079040 } }, 1, ⟨0, false, false, []⟩,
    by decide +kernel⟩,
   ⟨({ svcAcct { quiesce := some ⟨0, false, false, []⟩ } with ldg := { svc.ldg with tick := 5079039 } }), (1), (⟨0, false, false, []⟩), by decide +kernel⟩,
   ⟨(svc), (1), by decide +kernel⟩,
   ⟨{ svc with host := { svc.host with ctrls := [] } }, 1, 1, by decide +kernel⟩,
   ⟨(svcAcct {}), (1), by decide +kernel⟩,
   ⟨(svc), (1), by decide +kernel⟩,
   ⟨(svcAcct {}), (1), by decide +kernel⟩,
   ⟨({ svcAcct { quiesce := some ⟨0, true, true, []⟩, flrActive := true } with ldg := { svc.ldg with tick := 12000000 } }), (1),
    (⟨0, true, true, []⟩), by decide +kernel⟩,
   ⟨{ svc with host := { svc.host with vfEnable := false } }, 4, by decide +kernel, by decide +kernel, by decide +kernel,
    fun _ => by decide +kernel⟩⟩

theorem test_meets_SlicesAndLog :
    (∃ s : State, ∃ who : Requester, ∃ n : Nat, ∃ v : BitVec 32, ∃ p : Bool, ∃ s0 : State, ∃ y : State, ∃ s1 : State, n < 64 ∧ s0 =
      { s with host := { s.host with pasidEnable := p } } ∧ s0.mayWrite who (sliceReg n) = true ∧ bitOf v 20 = true ∧ bitOf (s.reg
      (sliceReg n)) 20 = false ∧ y = (if p then s0.pasidYield n (getField v 0 20) else s0) ∧ s1 = y.setReg (sliceReg n) (setField (setField
      (y.reg (sliceReg n)) 0 20 (getField v 0 20)) 21 4 (getField v 21 4)) ∧ (p = false ∨ s1.pasidHeld n (getField v 0 20) = true ∨
      (s1.acct (sliceMember n)).binding.isSome = true)) ∧
    (∃ s : State, ∃ who : Requester, ∃ n : Nat, ∃ v : BitVec 32, ∃ p : Bool, ∃ h : LimitEntry, ∃ s0 : State, ∃ y : State, ∃ s1 : State, n <
      64 ∧ s0 = { s with host := { s.host with pasidEnable := p } } ∧ s0.mayWrite who (sliceReg n) = true ∧ bitOf v 20 = true ∧ bitOf
      (s.reg (sliceReg n)) 20 = false ∧ y = (if p then s0.pasidYield n (getField v 0 20) else s0) ∧ s1 = y.setReg (sliceReg n) (setField
      (setField (y.reg (sliceReg n)) 0 20 (getField v 0 20)) 21 4 (getField v 21 4)) ∧ p = true ∧ s1.pasidHeld n (getField v 0 20) = false
      ∧ (s1.acct (sliceMember n)).binding = none ∧ s1.limitEntry (sliceMember n) = some h ∧ s1.sliceCheck (sliceMember n) (sliceEntry h
      (getField v 21 4)) = 0) ∧
    (∃ s : State, ∃ who : Requester, ∃ n : Nat, ∃ v : BitVec 32, ∃ p : Bool, ∃ h : LimitEntry, ∃ s0 : State, ∃ y : State, ∃ s1 : State, n <
      64 ∧ s0 = { s with host := { s.host with pasidEnable := p } } ∧ s0.mayWrite who (sliceReg n) = true ∧ bitOf v 20 = true ∧ bitOf
      (s.reg (sliceReg n)) 20 = false ∧ y = (if p then s0.pasidYield n (getField v 0 20) else s0) ∧ s1 = y.setReg (sliceReg n) (setField
      (setField (y.reg (sliceReg n)) 0 20 (getField v 0 20)) 21 4 (getField v 21 4)) ∧ p = true ∧ s1.pasidHeld n (getField v 0 20) = false
      ∧ (s1.acct (sliceMember n)).binding = none ∧ s1.limitEntry (sliceMember n) = some h ∧ s1.sliceCheck (sliceMember n) (sliceEntry h
      (getField v 21 4)) ≠ 0) ∧
    (∃ s : State, ∃ who : Requester, ∃ n : Nat, n < 64 ∧ s.mayWrite who (sliceReg n) = true ∧ bitOf (s.reg (sliceReg n)) 20 = true ∧
      ((s.setFld (sliceReg n) 20 1 0).acct (sliceMember n)).quiesced = false) ∧
    (∃ s : State, ∃ who : Requester, ∃ v : BitVec 32, ∃ s1 : State, s.mayWrite who Reg.actQslice = true ∧ s1 = s.setReg Reg.actQslice
      (setField (v &&& 0x1FFFFF#32) 22 1 (s.fld Reg.actQslice 22 1)) ∧ bitOf v 21 = false) ∧
    (∃ s : State, ∃ who : Requester, ∃ v : BitVec 32, ∃ s1 : State, s.mayWrite who Reg.actQslice = true ∧ s1 = s.setReg Reg.actQslice
      (setField (v &&& 0x1FFFFF#32) 22 1 (s.fld Reg.actQslice 22 1)) ∧ bitOf v 21 = true ∧ ofind s.host.queues (getField v 0 14) = none) ∧
    (∃ s : State, ∃ who : Requester, ∃ v : BitVec 32, ∃ s1 : State, ∃ q, s.mayWrite who Reg.actQslice = true ∧ s1 = s.setReg Reg.actQslice
      (setField (v &&& 0x1FFFFF#32) 22 1 (s.fld Reg.actQslice 22 1)) ∧ bitOf v 21 = true ∧ ofind s.host.queues (getField v 0 14) = some q ∧
      q.func = 0 ∧ (∀ e ∈ s.host.cmds, e.2.net = true ∨ e.2.queue ≠ getField v 0 14)) ∧
    (∃ s : State, ∃ who : Requester, s.mayWrite who Reg.actDlogHead = true) :=
  ⟨⟨svcSlices, .mp, 63, 0x100005, false, _, _, _, by decide +kernel, rfl, by decide +kernel, by decide +kernel, by decide +kernel, rfl,
    rfl, .inl rfl⟩,
   ⟨svcSlices, .mp, 63, 0x300005, true, slice0, _, _, _, by decide +kernel, rfl, by decide +kernel, by decide +kernel, by decide +kernel,
    rfl, rfl, by decide +kernel⟩,
   ⟨{ svcSlices with host := { svc.host with accts := [(0, { binding := some { bind0 with lim := { lim0 with maxInflight := 32768 } } })] } },
    .mp, 0, 0x100005, true, slice0, _, _, _, by decide +kernel, rfl, by decide +kernel, by decide +kernel, by decide +kernel, rfl, rfl,
    by decide +kernel⟩,
   ⟨(svc.setReg (sliceReg 63) 0x100005), (.mp), (63), by decide +kernel⟩,
   ⟨(svc), (.mp), (5), _, by decide +kernel, rfl, by decide +kernel⟩,
   ⟨(svc), (.mp), (0x200005), _, by decide +kernel, rfl, by decide +kernel⟩,
   ⟨({ svc with host := { svc.host with queues := [(5, { queue0 with func := 0 })] } }), (.mp), (0x200005), _,
    ({ queue0 with func := 0 }), by decide +kernel, rfl, by decide +kernel⟩,
   ⟨(svc), (.mp), by decide +kernel⟩⟩

theorem test_meets_ReserveTests :
    (∃ s : State, ∃ n : Nat, ∃ d : Nat, (s.seg n).due = some d ∧ testMode s.mode = true ∧ n < 8 ∧ s.rsv.test = none ∧ (s.seg n).charged =
      true ∧ (s.seg n).recharging = false ∧ s.pins.plossN = true ∧ d ≤ s.pwr.time) ∧
    (∃ s : State, ∃ n : Nat, s.rsv.test = some n ∧ s.rsv.testVa = none ∧ s.ldg.tick = s.rsv.testFrom + 100000) ∧
    (∃ s : State, ∃ n : Nat, ∃ k : Nat, ∃ va : Nat, ∃ mv : Nat, s.rsv.test = some n ∧ s.rsv.testVa = some va ∧ s.ldg.tick = s.rsv.testFrom
      + 100000 + 1000 * k ∧ 1 ≤ k ∧ 10 * mv ≤ 9 * va) ∧
    (∃ s : State, ∃ n : Nat, ∃ k : Nat, ∃ va : Nat, ∃ mv : Nat, s.rsv.test = some n ∧ s.rsv.testVa = some va ∧ s.ldg.tick = s.rsv.testFrom
      + 100000 + 1000 * k ∧ 1 ≤ k ∧ 9 * va < 10 * mv) ∧
    (∃ s : State, ∃ n : Nat, s.rsv.test = some n ∧ s.rsv.testFrom + 100000 + 100000000 ≤ s.ldg.tick) ∧
    (∃ s : State, ∃ n : Nat, ∃ mv : Nat, ∃ base : Nat, s.rsvSensed = true ∧ n < 8 ∧ s.rsv.test = none ∧ (s.seg n).recharging = false ∧
      (s.seg n).failed = false ∧ ((s.seg n).tested = true ∨ (s.seg n).everCharged = true) ∧ base = (if (s.seg n).tested then (s.seg n).va
      else s.ratedMv n) ∧ 100 * mv < 90 * base) ∧
    (∃ s : State, ∃ n : Nat, ∃ mv : Nat, ∃ base : Nat, s.rsvSensed = true ∧ n < 8 ∧ s.rsv.test ≠ some n ∧ base = (if (s.seg n).tested then
      (s.seg n).va else s.ratedMv n) ∧ 98 * base ≤ 100 * mv) ∧
    (∃ s : State, ∃ n : Nat, ∃ mv : Nat, ∃ base : Nat, s.rsvSensed = true ∧ n < 8 ∧ s.rsv.test ≠ some n ∧ base = (if (s.seg n).tested then
      (s.seg n).va else s.ratedMv n) ∧ 100 * mv < 98 * base) :=
  ⟨⟨{ svcSeg { due := some 9, charged := true } with pwr := { svc.pwr with time := 9 } }, 7, 9, by decide +kernel⟩,
   ⟨({ svc with rsv := { svc.rsv with test := some 7 }, ldg := { svc.ldg with tick := 100000 } }), (7), by decide +kernel⟩,
   ⟨({ svc with rsv := { svc.rsv with test := some 7, testVa := some 1000 }, ldg := { svc.ldg with tick := 101000 } }), (7), (1), (1000),
    (900), by decide +kernel⟩,
   ⟨({ svc with rsv := { svc.rsv with test := some 7, testVa := some 1000 }, ldg := { svc.ldg with tick := 101000 } }), (7), (1), (1000),
    (901), by decide +kernel⟩,
   ⟨({ svc with rsv := { svc.rsv with test := some 7 }, ldg := { svc.ldg with tick := 100100000 } }), (7), by decide +kernel⟩,
   ⟨svcSeg { tested := true, va := 1000 }, 7, 899, _, by decide +kernel, by decide +kernel, by decide +kernel, by decide +kernel,
    by decide +kernel, by decide +kernel, rfl, by decide +kernel⟩,
   ⟨svcSeg { tested := true, va := 1000 }, 7, 980, _, by decide +kernel, by decide +kernel, by decide +kernel, rfl, by decide +kernel⟩,
   ⟨svcSeg { tested := true, va := 1000 }, 7, 979, _, by decide +kernel, by decide +kernel, by decide +kernel, rfl, by decide +kernel⟩⟩

theorem test_meets_DramAndBanks :
    (∃ s : State, s.scrubDue = true) ∧
    (∃ s : State, ∃ b : Nat, (ofind s.mem.rowUse b).getD 0 + memCycles 64 s.clockLevel ≤ s.ldg.tick) ∧
    (∃ s : State, ∃ b : Nat, s.ldg.tick < (ofind s.mem.rowUse b).getD 0 + memCycles 64 s.clockLevel) ∧
    (∃ s : State, s.mode = .doze ∧ s.mem.occA = 0 ∧ s.mem.occB = 0 ∧ s.mem.lastReq + memCycles 4096 s.clockLevel ≤ s.ldg.tick) ∧
    (∃ s : State, ∃ aged : Bool, 48 ≤ s.mem.occA ∨ (aged = true ∧ 0 < s.mem.stageA) ∨ s.mem.drainEmpty = true) ∧
    (∃ s : State, ∃ aged : Bool, 48 ≤ s.mem.occB ∨ (aged = true ∧ 0 < s.mem.stageB) ∨ s.mem.drainEmpty = true) ∧
    (∃ s : State, s.mem.batchA = true) ∧
    (∃ s : State, s.mem.batchB = true) ∧
    (∃ s : State, ∃ b : Bank, s.bankScrubDue b = true) ∧
    (∃ s : State, ∃ b : Bank, s.bank b = .on ∧ bankMode s.mode b = .retention ∧ 256 ≤ s.bankIdle b) ∧
    (∃ s : State, ∃ b : Bank, s.bank b = .on ∧ bankMode s.mode b = .retention ∧ s.bankIdle b < 256) ∧
    (∃ s : State, ∃ b : Bank, s.bank b = .waking ∧ 1024 ≤ s.bankIdle b) ∧
    (∃ s : State, ∃ who : Requester, ∃ v : BitVec 32, s.mayWrite who Reg.srmConflictClr = true ∧ bitOf v 0 = true) :=
  ⟨⟨(svc.setReg Reg.memScrubCtl 0), by decide +kernel⟩,
   ⟨{ svc with mem := { svc.mem with rowUse := [(5, 0)] }, ldg := { svc.ldg with tick := 64 } }, 5, by decide +kernel⟩,
   ⟨{ svc with mem := { svc.mem with rowUse := [(5, 2)] }, ldg := { svc.ldg with tick := 2 } }, 5, by decide +kernel⟩,
   ⟨{ inMode .doze with ldg := { svc.ldg with tick := 8192 } }, by decide +kernel⟩,
   ⟨{ svc with mem := { svc.mem with occA := 48 } }, false, by decide +kernel⟩,
   ⟨{ svc with mem := { svc.mem with occB := 1, stageB := 1 } }, true, by decide +kernel⟩,
   ⟨({ svc with mem := { svc.mem with batchA := true } }), by decide +kernel⟩,
   ⟨({ svc with mem := { svc.mem with batchB := true } }), by decide +kernel⟩,
   ⟨({ svc with mem := { svc.mem with banks := [(bankCode .map, .on)] } }), (.map), by decide +kernel⟩,
   ⟨{ inMode .doze with mem := { svc.mem with banks := [(bankCode .mint, .on)] }, ldg := { svc.ldg with tick := 256 } }, .mint,
    by decide +kernel⟩,
   ⟨{ inMode .doze with mem := { svc.mem with banks := [(bankCode .mint, .on)] }, ldg := { svc.ldg with tick := 255 } }, .mint,
    by decide +kernel⟩,
   ⟨{ svc with mem := { svc.mem with banks := [(bankCode .mint, .waking)] }, ldg := { svc.ldg with tick := 1024 } }, .mint,
    by decide +kernel⟩,
   ⟨(svc), (.mp), (1), by decide +kernel⟩⟩

theorem test_meets_DdrAlertOnlyRecords :
    ∃ s : State, s.islandOn .mem = true :=
  ⟨(svc), by decide +kernel⟩

theorem test_meets_KeyManagementLock :
    (∃ s : State, ∃ who : Requester, s.mayWrite who Reg.cryKmLock = true ∧ (s.kmOwner = 7 ∨ (s.cry.lockAt = some s.ldg.tick ∧ reqId who <
      s.kmOwner ∧ s.cry.op = none))) ∧
    (∃ s : State, ∃ who : Requester, s.mayWrite who Reg.cryKmLock = true ∧ s.kmOwner ≠ 7 ∧ (s.cry.lockAt ≠ some s.ldg.tick ∨ s.kmOwner ≤
      reqId who ∨ s.cry.op.isSome = true)) ∧
    (∃ s : State, ∃ who : Requester, s.mayWrite who Reg.cryKmLock = true ∧ s.kmOwner = reqId who ∧ s.cry.op = none) ∧
    (∃ s : State, ∃ who : Requester, s.mayWrite who Reg.cryKmLock = true ∧ s.kmOwner = reqId who ∧ s.cry.op.isSome = true) ∧
    (∃ s : State, ∃ who : Requester, s.mayWrite who Reg.cryKmLock = true ∧ s.kmOwner ≠ reqId who) ∧
    (∃ s : State, ∃ who : Requester, s.mayWrite who Reg.cryKmLock = true) ∧
    (∃ s : State, ∃ t : State, ∃ who : Requester, ∃ slot : Nat, ∃ n : Nat, ∃ ty : KeyType, ∃ w : Wrapped, ∃ c : Instr, s.kmOwner ≠ reqId
      who ∧ c ∈ [.unwrap who slot ty w, .wrapOut who slot, .wrapData who slot n, .clear who slot] ∧ exec c s = .next t) ∧
    (∃ s : State, ∃ o : KmOp, s.cry.op = some o ∧ s.cry.releasePending = true ∧ o.start + kmTicks o s.clockLevel ≤ s.ldg.tick) :=
  ⟨⟨svc.setReg Reg.cryKmLock 7, .mdp 3, by decide +kernel⟩,
   ⟨svc.setReg Reg.cryKmLock 1, .mdp 3, by decide +kernel⟩,
   ⟨(svc.setReg Reg.cryKmLock 1), (.mdp 0), by decide +kernel⟩,
   ⟨({ svc with cry := { svc.cry with op := some km0 } }.setReg Reg.cryKmLock 4), (.mdp 3), by decide +kernel⟩,
   ⟨(svc.setReg Reg.cryKmLock 7), (.mdp 3), by decide +kernel⟩,
   ⟨svc, .mdp 3, by decide +kernel⟩,
   ⟨(svc.setReg Reg.cryKmLock 7), _, (.mdp 3), (4095), (8), (.kek), (⟨0, 0, true⟩), (.clear (.mdp 3) 4095), by decide +kernel, by simp,
    rfl⟩,
   ⟨{ svc with cry := { svc.cry with op := some km0, releasePending := true } }, km0, by decide +kernel⟩⟩

theorem test_meets_KeyOperations :
    (∃ s : State, ∃ who : Requester, ∃ slot : Nat, ∃ m : Nat, ∃ t : KeyType, ∃ w : Wrapped, ∃ k : KeySlot, s.mayWrite who Reg.cryKmCmd =
      true ∧ s.kmOwner = reqId who ∧ s.cry.op = none ∧ s.mem.wiping = false ∧ s.slotMember slot = some m ∧ typeAt t (slot - s.keyBase m) =
      true ∧ s.loadCheck slot t w = .ok k) ∧
    (∃ s : State, ∃ who : Requester, ∃ slot : Nat, ∃ m : Nat, ∃ t : KeyType, s.mayWrite who Reg.cryKmCmd = true ∧ s.kmOwner = reqId who ∧
      s.cry.op = none ∧ s.mem.wiping = false ∧ s.slotMember slot = some m ∧ typeAt t (slot - s.keyBase m) = false) ∧
    (∃ s : State, ∃ who : Requester, ∃ slot : Nat, s.mayWrite who Reg.cryKmCmd = true ∧ s.kmOwner = reqId who ∧ s.cry.op = none ∧
      s.mem.wiping = false ∧ (s.slot slot).type = .mint ∧ (s.slot (s.keyBase (s.slot slot).member)).type = .kek) ∧
    (∃ s : State, ∃ who : Requester, ∃ slot : Nat, s.mayWrite who Reg.cryKmCmd = true ∧ s.kmOwner = reqId who ∧ s.cry.op = none ∧
      s.mem.wiping = false ∧ (s.slot slot).type ≠ .mint) ∧
    (∃ s : State, ∃ who : Requester, ∃ slot : Nat, ∃ n, s.mayWrite who Reg.cryKmCmd = true ∧ s.kmOwner = reqId who ∧ s.cry.op = none ∧
      s.mem.wiping = false ∧ (s.slot slot).type = .kek ∧ 8 ≤ n ∧ n ≤ 64) ∧
    (∃ s : State, ∃ who : Requester, ∃ slot : Nat, ∃ n, s.mayWrite who Reg.cryKmCmd = true ∧ s.kmOwner = reqId who ∧ s.cry.op = none ∧
      s.mem.wiping = false ∧ ((s.slot slot).type ≠ .kek ∨ n < 8 ∨ 64 < n)) ∧
    (∃ s : State, ∃ who : Requester, s.mayWrite who Reg.cryKmCmd = true ∧ s.kmOwner = reqId who ∧ s.cry.op = none ∧ s.mem.wiping = false) ∧
    (∃ s : State, ∃ o : KmOp, s.cry.op = some o ∧ o.result = 0 ∧ s.cry.releasePending = false ∧ (o.kind = .unwrap ∨ o.kind = .clear) ∧
      o.start + kmTicks o s.clockLevel ≤ s.ldg.tick) ∧
    (∃ s : State, ∃ who : Requester, s.mayWrite who Reg.crySlotSel = true) :=
  ⟨⟨(kmHeld), (.mdp 3), (0), (0), (.kek), (⟨9, 5, true⟩), (⟨.kek, 0, 5⟩), by decide +kernel, by decide +kernel, by decide +kernel,
    by decide +kernel, by decide +kernel, by decide +kernel, rfl⟩,
   ⟨(kmHeld), (.mdp 3), (1), (0), (.kek), by decide +kernel⟩,
   ⟨({ kmHeld with cry := { kmHeld.cry with slots := [(0, { type := .kek }), (2, { type := .mint })] } }), (.mdp 3), (2), by decide +kernel⟩,
   ⟨(kmHeld), (.mdp 3), (2), by decide +kernel⟩,
   ⟨({ kmHeld with cry := { kmHeld.cry with slots := [(0, { type := .kek })] } }), (.mdp 3), (0), (64), by decide +kernel⟩,
   ⟨({ kmHeld with cry := { kmHeld.cry with slots := [(0, { type := .kek })] } }), (.mdp 3), (0), (7), by decide +kernel⟩,
   ⟨kmHeld, .mdp 3, by decide +kernel⟩,
   ⟨{ kmHeld with cry := { kmHeld.cry with op := some km0 } }, km0, by decide +kernel⟩,
   ⟨(svc), (.mp), by decide +kernel⟩⟩

theorem test_meets_TamperWipesKeys :
    (∃ s : State, ∃ mv : Nat, ∃ n : Nat, s.islandOn .cry = true ∧ (mv < 600 ∨ 950 < mv) ∧ 16 ≤ n) ∧
    (∃ s : State, ∃ mv : Nat, s.islandOn .cry = true ∧ 600 ≤ mv ∧ mv ≤ 950) ∧
    (∃ s : State, ∃ n : Nat, s.islandOn .cry = true ∧ n < 16) ∧
    (∃ s : State, ∃ ps : Nat, ∃ n : Nat, s.islandOn .cry = true ∧ (ps < 900 ∨ 1100 < ps) ∧ 16 ≤ n) ∧
    (∃ s : State, ∃ ps : Nat, s.islandOn .cry = true ∧ 900 ≤ ps ∧ ps ≤ 1100) ∧
    (∃ s : State, s.islandOn .cry = true) ∧
    (∃ s : State, s.mem.wiping = true ∧ s.islandOn .mem = true ∧ s.mem.wipeFrom + 8192 ≤ s.ldg.tick) ∧
    (∃ s : State, s.mem.wiping = true ∧ s.islandOn .mem = true ∧ s.ldg.tick < s.mem.wipeFrom + 8192) ∧
    (∃ s : State, ∃ g : Nat, s.islandOn .cry = true ∧ 2 ^ 20 ≤ s.maskBlocks g) ∧
    (∃ s : State, ∃ g : Nat, s.islandOn .cry = true ∧ 4096 ≤ s.maskBlocks g) :=
  ⟨⟨(svc), (951), (16), by decide +kernel⟩,
   ⟨(svc), (950), by decide +kernel⟩,
   ⟨(svc), (15), by decide +kernel⟩,
   ⟨(svc), (1101), (16), by decide +kernel⟩,
   ⟨(svc), (1100), by decide +kernel⟩,
   ⟨(svc), by decide +kernel⟩,
   ⟨{ svc with mem := { svc.mem with wiping := true }, ldg := { svc.ldg with tick := 8192 } }, by decide +kernel⟩,
   ⟨{ svc with mem := { svc.mem with wiping := true }, ldg := { svc.ldg with tick := 8191 } }, by decide +kernel⟩,
   ⟨({ svc with cry := { svc.cry with maskBlocks := [(3, 1048576)] } }), (3), by decide +kernel⟩,
   ⟨({ svc with cry := { svc.cry with maskBlocks := [(3, 4096)] } }), (3), by decide +kernel⟩⟩

theorem test_meets_ChainsStartAndStop :
    (∃ s : State, ∃ s1 : State, ∃ who : Requester, ∃ ch : Nat, ∃ ws : List (Nat × Nat × List Byte), s.chWrites who ch = true ∧ s.chRun ch =
      false ∧ s1 = (s.ownerWrites ws).setFld (chReg Reg.xfrChCtl ch) 0 1 1 ∧ ((s1.chain ch).st = .stopped ∨ (s1.chain ch).st = .idle)) ∧
    (∃ s : State, ∃ s1 : State, ∃ who : Requester, ∃ ch : Nat, ∃ n : Nat, ∃ ws : List (Nat × Nat × List Byte), s.chWrites who ch = true ∧
      s1 = (s.ownerWrites ws).setReg (chReg Reg.xfrChAppend ch) (BitVec.ofNat 32 n) ∧ (s1.chain ch).st = .running) ∧
    (∃ s : State, ∃ s1 : State, ∃ who : Requester, ∃ ch : Nat, ∃ n : Nat, ∃ ws : List (Nat × Nat × List Byte), s.chWrites who ch = true ∧
      s1 = (s.ownerWrites ws).setReg (chReg Reg.xfrChAppend ch) (BitVec.ofNat 32 n) ∧ (s1.chain ch).st = .stopped) ∧
    (∃ s : State, ∃ s1 : State, ∃ who : Requester, ∃ ch : Nat, ∃ n : Nat, ∃ ws : List (Nat × Nat × List Byte), s.chWrites who ch = true ∧
      s1 = (s.ownerWrites ws).setReg (chReg Reg.xfrChAppend ch) (BitVec.ofNat 32 n) ∧ (s1.chain ch).st = .idle ∧ s1.chAppend ch ≠
      s1.chConsumed ch ∧ (s1.chain ch).reread = none) ∧
    (∃ s : State, ∃ ch : Nat, ∃ d : Desc, s.islandOn .xfr = true ∧ (s.chain ch).st = .running ∧ (s.chain ch).cur = some d ∧ (s.chain
      ch).held = none ∧ (s.chain ch).linkWait = false ∧ d.op = 1) ∧
    (∃ s : State, ∃ ch : Nat, ∃ d : Desc, s.islandOn .xfr = true ∧ (s.chain ch).st = .running ∧ (s.chain ch).cur = some d ∧ (s.chain
      ch).held = none ∧ (s.chain ch).linkWait = false ∧ d.op = 2) ∧
    (∃ s : State, ∃ ch : Nat, ∃ d : Desc, s.islandOn .xfr = true ∧ (s.chain ch).st = .running ∧ (s.chain ch).cur = some d ∧ (s.chain
      ch).held = none ∧ (s.chain ch).linkWait = false ∧ d.op = 3 ∧ (s.chain ch).wroteDram = false) ∧
    (∃ s : State, ∃ ch : Nat, ∃ d : Desc, s.islandOn .xfr = true ∧ (s.chain ch).st = .running ∧ (s.chain ch).cur = some d ∧ (s.chain
      ch).held = none ∧ (s.chain ch).linkWait = false ∧ d.op = 3 ∧ (s.chain ch).wroteDram = false ∧ (s.chain ch).wroteHost = true) ∧
    (∃ s : State, ∃ ch : Nat, ∃ d : Desc, s.islandOn .xfr = true ∧ (s.chain ch).st = .running ∧ (s.chain ch).cur = some d ∧ (s.chain
      ch).held = none ∧ (s.chain ch).linkWait = false ∧ d.op = 3 ∧ (s.chain ch).wroteDram = true ∧ (s.mem.occA ≠ 0 ∨ s.mem.occB ≠ 0)) ∧
    (∃ s : State, ∃ ch : Nat, s.islandOn .xfr = true ∧ (s.chain ch).st = .running ∧ (s.chain ch).linkWait = true) ∧
    (∃ s : State, ∃ ch : Nat, ∃ t : Nat, s.islandOn .xfr = true ∧ ((s.chain ch).st = .running ∨ (s.chain ch).st = .idle) ∧ (s.chain
      ch).reread = some t ∧ t ≤ s.ldg.tick) ∧
    (∃ s : State, ∃ who : Requester, ∃ ch : Nat, s.chWrites who ch = true ∧ (s.chain ch).st = .halted ∧ (s.chain ch).held = none) ∧
    (∃ s : State, ∃ who : Requester, ∃ ch : Nat, ∃ v : Nat, s.chWrites who ch = true ∧ ((s.setFld (chReg Reg.xfrChCqHead ch) 0 16 v).chain
      ch).held = none) :=
  ⟨⟨svcChain 7 { st := .idle }, _, .pf, 7, [], by decide +kernel, by decide +kernel, rfl, by decide +kernel⟩,
   ⟨(svcChain 7 { st := .running }), _, (.pf), (7), (2), ([]), by decide +kernel, rfl, by decide +kernel⟩,
   ⟨(svc), _, (.pf), (5), (2), ([]), by decide +kernel, rfl, by decide +kernel⟩,
   ⟨(svcChain 7 { st := .idle }), _, (.mp), (7), (1), ([]), by decide +kernel, rfl, by decide +kernel⟩,
   ⟨svcChain 7 { st := .running, cur := some desc0 }, 7, desc0, by decide +kernel⟩,
   ⟨svcChain 7 { st := .running, cur := some { desc0 with op := 2 } }, 7, { desc0 with op := 2 }, by decide +kernel⟩,
   ⟨(svcChain 7 { st := .running, cur := some { desc0 with op := 3 } }), (7), ({ desc0 with op := 3 }), by decide +kernel⟩,
   ⟨svcChain 7 { st := .running, cur := some { desc0 with op := 3 }, wroteHost := true }, 7, { desc0 with op := 3 }, by decide +kernel⟩,
   ⟨({ svcChain 7 { st := .running, cur := some { desc0 with op := 3 }, wroteDram := true } with mem := { svc.mem with occB := 1 } }),
    (7), ({ desc0 with op := 3 }), by decide +kernel⟩,
   ⟨(svcChain 7 { st := .running, linkWait := true }), (7), by decide +kernel⟩,
   ⟨(svcChain 7 { st := .idle, reread := some 0 }), (7), (0), by decide +kernel⟩,
   ⟨(svcChain 7 { st := .halted }), (.pf), (7), by decide +kernel⟩,
   ⟨(svc), (.pf), (7), (5), by decide +kernel⟩⟩

theorem test_meets_ContextReads :
    (∃ s : State, ∃ a : Nat, ∃ p : Nat, ∃ r : Nat, (p, r) ∈ (s.ctx a).reads) ∧
    (∃ s : State, ∃ a : Nat, ∃ r : Nat, (0, r) ∈ (s.ctx a).reads ∧ (s.ctx a).halted = false) ∧
    (∃ s : State, ∃ a : Nat, ∃ p : Nat, ∃ r : Nat, (p, r) ∈ (s.ctx a).reads ∧ (s.ctx a).halted = true ∧ (s.ctx a).haltAt ≠ s.ldg.tick) ∧
    (∃ s : State, ∃ who : Requester, s.mayWrite who Reg.xfrCtxSel = true) ∧
    (∃ s : State, ∃ who : Requester, s.mayWrite who Reg.xfrCtxCtl = true ∧ (s.ctx s.selCtx).halted = true ∧ (s.ctx s.selCtx).failed = []) ∧
    (∃ s : State, ∃ who : Requester, s.mayWrite who Reg.xfrCtxCtl = true ∧ (s.ctx s.selCtx).halted = true) :=
  ⟨⟨({ svc with xfr := { svc.xfr with ctxs := [(2047, { reads := [(0, 4)] })] } }), (2047), (0), (4), by decide +kernel⟩,
   ⟨({ svc with xfr := { svc.xfr with ctxs := [(2047, { reads := [(0, 4)] })] } }), (2047), (4), by decide +kernel⟩,
   ⟨{ svc with xfr := { svc.xfr with ctxs := [(1, { halted := true, reads := [(2, 9)] })] }, ldg := { svc.ldg with tick := 5 } }, 1, 2, 9,
    by decide +kernel⟩,
   ⟨(svc), (.mp), by decide +kernel⟩,
   ⟨({ svc with xfr := { svc.xfr with ctxs := [(0, { halted := true })] } }), (.mp), by decide +kernel⟩,
   ⟨{ svc with xfr := { svc.xfr with ctxs := [(0, { halted := true })] } }, .mp, by decide +kernel⟩⟩

theorem test_meets_CausesAndRecorder :
    (∃ s : State, ∃ l : Leaf, ∃ b : Nat, leafHasBit l b = true ∧ b < 32 ∧ s.islandOn (leafIsland l) = true) ∧
    (∃ s : State, ∃ who : Requester, ∃ l : Leaf, ∃ r : RegRow, s.mayWrite who (leafReg l) = true ∧ regRow (leafReg l) = some r) ∧
    (∃ s : State, ∃ v : Bool, ∃ due : Nat, ∃ vs : List (Bool × Nat), s.mgt.alertPipe = (v, due) :: vs ∧ due ≤ s.ldg.tick) ∧
    (∃ s : State, ∃ v : Bool, ∃ due : Nat, ∃ vs : List (Bool × Nat), s.mgt.alertPipe = (v, due) :: vs ∧ s.islandOn .ldg = true ∧ s.ldg.tick
      < due) ∧
    (∃ s : State, s.recorderFree = true ∧ s.nextPage ≠ [] ∧ (ofind s.evt.pagePrograms (s.evt.next / 4)).getD 0 < 4 ∧ s.evt.next ≠ 32767) ∧
    (∃ s : State, s.evt.prog ≠ [] ∧ s.nor.op.isSome = true ∧ s.nor.haltMp = false ∧ s.nor.resumeDue = false ∧ s.evt.next +
      s.evt.prog.length ≠ 32768) ∧
    (∃ s : State, s.evt.prog ≠ [] ∧ s.nor.op.isSome = true ∧ s.nor.haltMp = false ∧ s.nor.resumeDue = false ∧ (s.evt.next / 4 + 1) * 4 ≠
      32768) ∧
    (∃ s : State, ∃ who : Requester, s.mayWrite who Reg.evtRdSel = true) :=
  ⟨⟨(svc), (.norCause), (0), by decide +kernel⟩,
   ⟨(svc), (.mp), (.norCause), (leafRow .norCause), by decide +kernel⟩,
   ⟨{ svc with mgt := { svc.mgt with alertPipe := [(true, 5)] }, ldg := { svc.ldg with tick := 5 } }, true, 5, [], by decide +kernel⟩,
   ⟨{ svc with mgt := { svc.mgt with alertPipe := [(true, 5)] }, ldg := { svc.ldg with tick := 4 } }, true, 5, [], by decide +kernel⟩,
   ⟨({ svc with evt := { svc.evt with ready := true, next := 32764, queue := [ev0] } }), by decide +kernel⟩,
   ⟨{ svc with evt := { svc.evt with prog := [ev0], next := 32766 }, nor := { svc.nor with op := some ⟨.recorder, .program, 0, []⟩ } },
    by decide +kernel⟩,
   ⟨{ svc with evt := { svc.evt with prog := [ev0], next := 32763 }, nor := { svc.nor with op := some ⟨.recorder, .program, 0, []⟩ } },
    by decide +kernel⟩,
   ⟨svc, .mp, by decide +kernel⟩⟩

theorem test_meets_RequesterShadows :
    (∃ s : State, ∃ who : Requester, s.regAlive Reg.ldgTick = true ∧ s.regAlive (Reg.ldgTick + 4) = true ∧ reaches who Reg.ldgTick false =
      true ∧ reaches who (Reg.ldgTick + 4) false = true) ∧
    (∃ s : State, ∃ who : Requester, s.regAlive Reg.pwrTime = true ∧ s.regAlive (Reg.pwrTime + 4) = true ∧ reaches who Reg.pwrTime false =
      true ∧ reaches who (Reg.pwrTime + 4) false = true) ∧
    (∃ m : Fin 4, ∃ n : Fin 4, m ≠ n) ∧
    (∃ o : Nat, o ∈ [Reg.ldgTick, Reg.ldgTick + 4, Reg.pwrTime, Reg.pwrTime + 4]) :=
  ⟨⟨(svc), (.mdp 3), by decide +kernel⟩,
   ⟨(svc), (.mdp 3), by decide +kernel⟩,
   ⟨(0), (3), by decide +kernel⟩,
   ⟨(Reg.pwrTime + 4), by decide +kernel⟩⟩

theorem test_meets_RegisterWriteMasks :
    (∃ s : State, ∃ who : Requester, ∃ o : Nat, ∃ v : BitVec 32, ∃ r : RegRow, (∀ f, who ≠ .func f) ∧ s.mayWrite who o = true ∧ s.kmDataAt
      o = false ∧ ownRow o = false ∧ s.writeHeld o v = false ∧ (∀ ch, chainAt o ≠ some (ch, 0)) ∧ regRow o = some r) ∧
    (∃ s : State, s.mgt.wrote.1 ≠ s.ldg.tick) ∧
    (∃ s : State, ∃ who : Requester, ∃ o : Nat, ∃ ch : Nat, (∀ f, who ≠ .func f) ∧ s.mayWrite who o = true ∧ s.kmDataAt o = false ∧ chainAt
      o = some (ch, 0)) ∧
    (∃ who : Requester, ∃ be : BitVec 4, (∀ f, who ≠ .func f) ∧ be ≠ 15) ∧
    (∃ s : State, ∃ who : Requester, ∃ o : Nat, (∀ f, who ≠ .func f) ∧ s.mayWrite who o = false) ∧
    (∃ s : State, ∃ who : Requester, ∃ o : Nat, (∀ f, who ≠ .func f) ∧ s.mayWrite who o = true ∧ s.kmDataAt o = true ∧ s.kmOwner ≠ reqId
      who) ∧
    (∃ s : State, ∃ who : Requester, ∃ v : BitVec 32, s.mayWrite who Reg.ldgTraceCtl = true ∧ bitOf v 0 = true) ∧
    (∃ s : State, ∃ who : Requester, ∃ a : Nat, a < 2048 ∧ s.mayWrite who (Reg.actExtwaitCtl + 0x100 * a) = true) :=
  ⟨⟨svc, .mp, Reg.netWakeToken, 5, _, fun f h => (by cases h), by decide +kernel, by decide +kernel, by decide +kernel, by decide +kernel,
    fun ch h => (by cases (show (none : Option (Nat × Nat)) = some (ch, 0) from h)), rfl⟩,
   ⟨{ svc with ldg := { svc.ldg with tick := 5 } }, by decide +kernel⟩,
   ⟨svc, .pf, chReg Reg.xfrChCtl 7, 7, nofun, by decide +kernel⟩,
   ⟨.mp, 7, nofun, by decide +kernel⟩,
   ⟨(svc), (.mdp 0), (Reg.mgtMsixMask), (fun f h => nomatch h), by decide +kernel⟩,
   ⟨(svc.setReg Reg.cryKmLock 7), (.mp), (Reg.cryKmData), (fun f h => nomatch h), by decide +kernel⟩,
   ⟨(svc), (.mp), (1), by decide +kernel⟩,
   ⟨(svc), (.func 2047), (2047), by decide +kernel⟩⟩

theorem test_meets_JtagTap :
    (∃ s : State, ∃ up : Bool, s.islandOn .aon = true ∧ s.jtag.tck ≠ up ∧ (s.jtag.tdoDriven = true → tapShifts s.jtag.tap = true)) ∧
    (∃ s : State, s.islandOn .aon = true ∧ s.jtag.tck = false) :=
  ⟨⟨({ svc with jtag := { svc.jtag with tck := false } }), (true), by decide +kernel⟩,
   ⟨({ svc with jtag := { svc.jtag with tck := false } }), by decide +kernel⟩⟩

theorem test_meets_SleepAndWake :
    (∃ s : State, ∃ e : SleepEntry, s.pwr.sleep = some e ∧ e.ap = 1 ∧ e.q < s.ldg.tick ∧ s.host.cmds = [] ∧ e.target = .doze) ∧
    (∃ s : State, ∃ e : SleepEntry, s.pwr.sleep = some e ∧ e.ap = 1 ∧ e.q < s.ldg.tick ∧ s.host.cmds = [] ∧ e.target = .hibernate ∧ e.wake
      = none) ∧
    (∃ s : State, ∃ e : SleepEntry, s.pwr.sleep = some e ∧ e.ap = 2 ∧ e.target = .doze ∧ s.mem.occA = 0 ∧ s.mem.occB = 0) ∧
    (∃ s : State, ∃ e : SleepEntry, s.pwr.sleep = some e ∧ e.ap = 2 ∧ e.target = .hibernate ∧ s.allSettled = true ∧ s.db.recs = []) ∧
    (∃ s : State, s.daValid = true ∧ s.islandOn .aon = true ∧ (s.mode = .doze ∨ s.mode = .hibernate) ∧ (s.mode = .hibernate ∨
      s.mgt.clockStopped = false)) ∧
    (∃ s : State, s.daValid = true ∧ s.islandOn .aon = true ∧ (s.mode = .doze ∨ s.mode = .hibernate) ∧ s.mode = .doze ∧ s.mgt.clockStopped
      = true) ∧
    (∃ s : State, s.islandOn .aon = true ∧ s.pwr.rtc = s.reg Reg.pwrAlarm) ∧
    (∃ s : State, s.islandOn .aon = true) :=
  ⟨⟨(svcSleep ⟨.doze, 0, 1, none, .host 0 7⟩ 1), (⟨.doze, 0, 1, none, .host 0 7⟩), by decide +kernel⟩,
   ⟨(svcSleep ⟨.hibernate, 0, 1, none, .host 0 7⟩ 1), (⟨.hibernate, 0, 1, none, .host 0 7⟩), by decide +kernel⟩,
   ⟨(svcSleep ⟨.doze, 0, 2, none, .host 0 7⟩ 1), (⟨.doze, 0, 2, none, .host 0 7⟩), by decide +kernel⟩,
   ⟨(svcSleep ⟨.hibernate, 0, 2, none, .host 0 7⟩ 1), (⟨.hibernate, 0, 2, none, .host 0 7⟩), by decide +kernel⟩,
   ⟨{ i3cUp with mode := .hibernate }, by decide +kernel⟩,
   ⟨{ i3cUp with mode := .doze, mgt := { svc.mgt with clockStopped := true } }, by decide +kernel⟩,
   ⟨((inMode .hibernate).setReg Reg.pwrAlarm 0), by decide +kernel⟩,
   ⟨(inMode .hibernate), by decide +kernel⟩⟩

theorem test_meets_ThermalAndLoops :
    (∃ s : State, ∃ n : Nat, ∃ r : Int, n < 16 ∧ s.islandOn .ldg = true ∧ s.ldg.tick % 1000000 = 0 ∧ -80 ≤ r ∧ r ≤ 560 ∧ s.thr.riseRate =
      0) ∧
    (∃ s : State, modeLedger s.mode = true ∧ 763 ≤ s.thm.coolFolios ∧ s.throttleLevel ≠ 0) ∧
    (∃ s : State, modeLedger s.mode = true ∧ s.pwr.wearDue = true ∧ s.meanErases ≤ s.pwr.wearHist.getLast?.getD s.meanErases ∧ s.meanErases
      < s.thr.peRated) ∧
    (∃ s : State, modeLedger s.mode = true ∧ s.hourOver = true) ∧
    (∃ s : State, modeLedger s.mode = true ∧ s.hourOver = false) ∧
    (∃ s : State, ∃ n : Nat, s.islandOn .ldg = true ∧ n < 4 ∧ s.ldg.tick % 10000 = 6250 ∧ (s.loop n).pendingClose = none ∧ s.loopClosed n =
      false) ∧
    (∃ s : State, s.islandOn .ldg = true ∧ s.ldg.tick % 1000 = 0) ∧
    (∃ s : State, ∃ n : Nat, ∃ t : Nat, n < 4 ∧ (s.loop n).reachedAt = some t ∧ s.loopClosed n = true ∧ s.loopSettled n = false ∧ (s.loop
      n).lateSet = false ∧ t + 100000 ≤ s.ldg.tick) ∧
    (∃ s : State, ∃ who : Requester, ∃ n : Nat, n < 4 ∧ s.mayWrite who (loopReg Reg.loopCtl n) = true ∧ (s.loop n).pendingClose = none) ∧
    (∃ s : State, ∃ who : Requester, ∃ n : Nat, n < 4 ∧ s.mayWrite who (loopReg Reg.loopCoef0 n) = true ∧ (s.loop n).pendingClose = none ∧
      s.loopClosed n = false) ∧
    (∃ s : State, ∃ who : Requester, ∃ n : Nat, n < 4 ∧ s.mayWrite who (loopReg Reg.loopCoef0 n) = true ∧ (s.loop n).pendingClose = none ∧
      s.loopClosed n = true) ∧
    (∃ s : State, ∃ who : Requester, ∃ n : Nat, n < 4 ∧ n ≠ 0 ∧ s.mayWrite who (loopReg Reg.loopSetpoint n) = true ∧ (s.loop
      n).pendingClose = none) ∧
    (∃ s : State, s.islandOn .ldg = true ∧ s.plossHigh = true ∧ s.boot.plossUp + 100000000 ≤ s.ldg.tick ∧ bitOf (s.reg (loopReg Reg.loopCtl
      1)) 0 = true ∧ s.loopClosed 1 = false) :=
  ⟨⟨{ svc with boot := { svc.boot with image := some { img0 with thresholds := { romThresholds with riseRate := 0, rsvRt := 1, rsvPf := 1, loops := loops0 } } } },
    15, 560, by decide +kernel⟩,
   ⟨({ svc with thm := { svc.thm with coolFolios := 763 } }.setReg Reg.ldgPlanCur 0x40), by decide +kernel⟩,
   ⟨{ svc with pwr := { svc.pwr with wearDue := true } }, by decide +kernel⟩,
   ⟨{ svc with pwr := { svc.pwr with minutes := 59, periods := minutePeriods } }, by decide +kernel⟩,
   ⟨{ svc with pwr := { svc.pwr with minutes := 58, periods := minutePeriods } }, by decide +kernel⟩,
   ⟨({ svc with ldg := { svc.ldg with tick := 6250 } }), (3), by decide +kernel⟩,
   ⟨({ svc with ldg := { svc.ldg with tick := 1000 } }), by decide +kernel⟩,
   ⟨(({ svc with loops := [(3, { reachedAt := some 0 })], ldg := { svc.ldg with tick := 100000 } } : State).setReg (loopReg Reg.loopCtl 3) 2),
    (3), (0), by decide +kernel⟩,
   ⟨(svc), (.mp), (3), by decide +kernel⟩,
   ⟨(svc), (.mp), (3), by decide +kernel⟩,
   ⟨(svc.setReg (loopReg Reg.loopCtl 3) 2), (.mp), (3), by decide +kernel⟩,
   ⟨(svc), (.mp), (3), by decide +kernel⟩,
   ⟨{ svc with ldg := { svc.ldg with tick := 100000000 } }.setReg (loopReg Reg.loopCtl 1) 1, by decide +kernel⟩⟩

theorem test_meets_LoopOutputWithinVelocity :
    ∃ s : State, ∃ n : Nat, n < 4 ∧ s.islandOn .ldg = true ∧ s.ldg.tick % 10000 = 8000 ∧ (s.loop n).pendingClose = none ∧ s.loopClosed n =
      true ∧ (s.loop n).preset = false ∧ (s.loopCfg n).outMax < 65536 ∧ ((s.loopCfg n).outMin : Int) ≤ s.loopOut n ∧ s.loopOut n ≤
      ((s.loopCfg n).outMax : Int) :=
  ⟨(({ svc with ldg := { svc.ldg with tick := 8000 } } : State).setReg (loopReg Reg.loopCtl 3) 2), (3), by decide +kernel⟩

theorem test_meets_AdminQueuesAndFeatures :
    (∃ s : State, ∃ u : State, ∃ f : Nat, ∃ cid : Nat, ∃ v : Via, ∃ a : Adm, ∃ qid, ∃ n, ∃ vec, s.adminServed f = true ∧ u = s.keepAlive f
      ∧ v = .host f cid ∧ a = ⟨v, true⟩ ∧ 2 ≤ n ∧ n ≤ 4096 ∧ 1 ≤ qid ∧ qid ≤ u.maxQp f ∧ ofind (u.ctrl f).cqs qid = none ∧ (u.ctrl
      f).cqs.length < u.maxQp f ∧ vec < vectors f) ∧
    (∃ s : State, ∃ u : State, ∃ f : Nat, ∃ cid : Nat, ∃ v : Via, ∃ a : Adm, ∃ qid, ∃ n, ∃ cq, ∃ i, s.adminServed f = true ∧ u =
      s.keepAlive f ∧ v = .host f cid ∧ a = ⟨v, true⟩ ∧ 2 ≤ n ∧ n ≤ 4096 ∧ 1 ≤ qid ∧ qid ≤ u.maxQp f ∧ u.findQueue f qid = none ∧ u.qpUsed
      f < u.maxQp f ∧ (ofind (u.ctrl f).cqs cq).isSome = true ∧ firstFree u.host.queues 0 16384 = some i) ∧
    (∃ s : State, ∃ u : State, ∃ f : Nat, ∃ cid : Nat, ∃ v : Via, ∃ a : Adm, ∃ qid, s.adminServed f = true ∧ u = s.keepAlive f ∧ v = .host
      f cid ∧ a = ⟨v, true⟩ ∧ (ofind (u.ctrl f).cqs qid).isSome = true ∧ (∀ e ∈ u.host.queues, e.2.func = f → e.2.cqid ≠ qid)) ∧
    (∃ s : State, ∃ u : State, ∃ f : Nat, ∃ cid : Nat, ∃ v : Via, ∃ a : Adm, ∃ qid, ∃ i, ∃ q, s.adminServed f = true ∧ u = s.keepAlive f ∧
      v = .host f cid ∧ a = ⟨v, true⟩ ∧ u.findQueue f qid = some (i, q) ∧ (∀ e ∈ u.host.cmds, e.2.net = true ∨ e.2.queue ≠ i)) ∧
    (∃ s : State, ∃ u : State, ∃ f : Nat, ∃ cid : Nat, ∃ v : Via, ∃ a : Adm, ∃ sq, s.adminServed f = true ∧ u = s.keepAlive f ∧ v = .host f
      cid ∧ a = ⟨v, true⟩ ∧ u.findQueue f sq = none) ∧
    (∃ s : State, ∃ u : State, ∃ f : Nat, ∃ cid : Nat, ∃ v : Via, ∃ a : Adm, ∃ sq, ∃ c, ∃ i, ∃ q, ∃ h, ∃ x, s.adminServed f = true ∧ u =
      s.keepAlive f ∧ v = .host f cid ∧ a = ⟨v, true⟩ ∧ u.findQueue f sq = some (i, q) ∧ u.host.cmds.find? (fun e => !e.2.net && decide
      (e.2.queue = i) && decide (e.2.sqe.cid = c) && decide (e.2.phase = .fetched) && !u.canArrive e.2) = some (h, x)) ∧
    (∃ s : State, ∃ u : State, ∃ f : Nat, ∃ cid : Nat, ∃ v : Via, ∃ a : Adm, s.adminServed f = true ∧ u = s.keepAlive f ∧ v = .host f cid ∧
      a = ⟨v, true⟩ ∧ 8 ≤ (u.ctrl f).aers.length) ∧
    (∃ s : State, ∃ u : State, ∃ f : Nat, ∃ cid : Nat, ∃ v : Via, ∃ a : Adm, s.adminServed f = true ∧ u = s.keepAlive f ∧ v = .host f cid ∧
      a = ⟨v, true⟩ ∧ (u.ctrl f).aers.length < 8 ∧ (u.ctrl f).events = []) ∧
    (∃ s : State, ∃ u : State, ∃ f : Nat, ∃ cid : Nat, ∃ v : Via, ∃ a : Adm, ∃ page, ∃ lsi, ∃ off, ∃ p, s.adminServed f = true ∧ u =
      s.keepAlive f ∧ v = .host f cid ∧ a = ⟨v, true⟩ ∧ page ≠ 0x02 ∧ u.logPage f page lsi = .ok p ∧ off ≤ p.1.length) ∧
    (∃ s : State, ∃ u : State, ∃ f : Nat, ∃ cid : Nat, ∃ v : Via, ∃ a : Adm, s.adminServed f = true ∧ u = s.keepAlive f ∧ v = .host f cid ∧
      a = ⟨v, true⟩) ∧
    (∃ s : State, ∃ u : State, ∃ f : Nat, ∃ cid : Nat, ∃ v : Via, ∃ a : Adm, ∃ fid, ∃ w, ∃ x, ∃ dw, s.adminServed f = true ∧ u =
      s.keepAlive f ∧ v = .host f cid ∧ a = ⟨v, true⟩ ∧ fid ≠ 0x02 ∧ fid ≠ 0x0F ∧ u.featureValue f fid w = .ok (x, dw)) ∧
    (∃ s : State, ∃ u : State, ∃ f : Nat, ∃ cid : Nat, ∃ v : Via, ∃ a : Adm, ∃ fid, s.adminServed f = true ∧ u = s.keepAlive f ∧ v = .host
      f cid ∧ a = ⟨v, true⟩ ∧ knownFeatures.contains fid = true ∧ fid ≠ 0x02 ∧ fid ≠ 0x0E) ∧
    (∃ s : State, ∃ u : State, ∃ f : Nat, ∃ cid : Nat, ∃ v : Via, ∃ a : Adm, ∃ ms, s.adminServed f = true ∧ u = s.keepAlive f ∧ v = .host f
      cid ∧ a = ⟨v, true⟩ ∧ u.pwr.time < ms % 2 ^ 48 * 1000000) ∧
    (∃ s : State, ∃ u : State, ∃ f : Nat, ∃ cid : Nat, ∃ v : Via, ∃ a : Adm, ∃ ps, s.adminServed f = true ∧ u = s.keepAlive f ∧ v = .host f
      cid ∧ a = ⟨v, true⟩ ∧ f = 0 ∧ ps ≤ 3) ∧
    (∃ s : State, ∃ u : State, ∃ f : Nat, ∃ cid : Nat, ∃ v : Via, ∃ a : Adm, ∃ c, s.adminServed f = true ∧ u = s.keepAlive f ∧ v = .host f
      cid ∧ a = ⟨v, true⟩ ∧ f = 0 ∧ u.isVf c = true) ∧
    (∃ s : State, ∃ u : State, ∃ f : Nat, ∃ cid : Nat, ∃ v : Via, ∃ a : Adm, s.adminServed f = true ∧ u = s.keepAlive f ∧ v = .host f cid ∧
      a = ⟨v, true⟩ ∧ f = 0) ∧
    (∃ s : State, ∃ f : Nat, s.islandOn .hst = true ∧ (s.ctrl f).kato ≠ 0 ∧ (s.ctrl f).rdy = true ∧ (s.ctrl f).cfs = false ∧ (s.ctrl
      f).kaFrom + (s.ctrl f).kato * 1000000 ≤ s.ldg.tick) :=
  ⟨⟨(svc), _, (1), (7), _, _, (8), (4096), (64), by decide +kernel, rfl, rfl, rfl, by decide +kernel⟩,
   ⟨(svcCqs), _, (1), (7), _, _, (8), (4096), (1), (0), by decide +kernel, rfl, rfl, rfl, by decide +kernel⟩,
   ⟨(svcCqs), _, (1), (7), _, _, (1), by decide +kernel, rfl, rfl, rfl, by decide +kernel⟩,
   ⟨(svcQueues []), _, (1), (7), _, _, (2), (3), (queue0), by decide +kernel, rfl, rfl, rfl, by decide +kernel⟩,
   ⟨(svcQueues []), _, (1), (7), _, _, (3), by decide +kernel, rfl, rfl, rfl, by decide +kernel⟩,
   ⟨svcQueues [(1, { cmd0 .read .fetched [] with locked := false })], _, 1, 7, _, _, 2, 7, 3, queue0, 1,
    { cmd0 .read .fetched [] with locked := false }, by decide +kernel, rfl, rfl, rfl, by decide +kernel⟩,
   ⟨({ svc with host := { svc.host with ctrls := [(1, { ctrl0 with aers := List.range 8 })] } }), _, (1), (7), _, _, by decide +kernel,
    rfl, rfl, rfl, by decide +kernel⟩,
   ⟨({ svc with host := { svc.host with ctrls := [(1, { ctrl0 with aers := List.range 7 })] } }), _, (1), (7), _, _, by decide +kernel,
    rfl, rfl, rfl, by decide +kernel⟩,
   (ok_of (r := (svc.keepAlive 1).logPage 1 0x00 0) (by decide +kernel)).elim fun p h => ⟨svc, _, 1, 7, _, _, 0x00, 0, 0, p,
    by decide +kernel, rfl, rfl, rfl, by decide, h, Nat.zero_le _⟩,
   ⟨(svc), _, (1), (7), _, _, by decide +kernel, rfl, rfl, rfl⟩,
   ⟨(svc), _, (1), (7), _, _, (0x01), (0xFF07), _, _, by decide +kernel, rfl, rfl, rfl, by decide +kernel, by decide +kernel, rfl⟩,
   ⟨(svc), _, (1), (7), _, _, (0x0F), by decide +kernel, rfl, rfl, rfl, by decide +kernel⟩,
   ⟨(svc), _, (1), (7), _, _, (1), by decide +kernel, rfl, rfl, rfl, by decide +kernel⟩,
   ⟨(svc), _, (0), (7), _, _, (3), by decide +kernel, rfl, rfl, rfl, by decide +kernel⟩,
   ⟨(svc), _, (0), (7), _, _, (1), by decide +kernel, rfl, rfl, rfl, by decide +kernel⟩,
   ⟨svc, _, 0, 7, _, _, by decide +kernel, rfl, rfl, rfl, rfl⟩,
   ⟨({ svc with host := { svc.host with ctrls := [(1, { ctrl0 with kato := 5 })] }, ldg := { svc.ldg with tick := 5000000 } }), (1), by decide +kernel⟩⟩

theorem test_meets_NamespacesAndFirmware :
    (∃ s : State, ∃ u : State, ∃ cid : Nat, ∃ v : Via, ∃ a : Adm, ∃ q : Sqe, ∃ data : List Byte, ∃ id, ∃ s1, s.adminServed 0 = true ∧ u =
      s.keepAlive 0 ∧ v = .host 0 cid ∧ a = ⟨v, true⟩ ∧ getField q.cdw10 0 4 = 0 ∧ u.nsCreate (nsAsk
      { q with opcode := 0x0D#8, reservedZero := true } data) none = .ok (id, s1)) ∧
    (∃ s : State, ∃ u : State, ∃ cid : Nat, ∃ v : Via, ∃ a : Adm, ∃ q : Sqe, s.adminServed 0 = true ∧ u = s.keepAlive 0 ∧ v = .host 0 cid ∧
      a = ⟨v, true⟩ ∧ u.ns q.nsid = none) ∧
    (∃ s : State, ∃ u : State, ∃ cid : Nat, ∃ v : Via, ∃ a : Adm, ∃ q : Sqe, ∃ data : List Byte, ∃ x : Ns, ∃ y : Ns, ∃ c : Nat,
      s.adminServed 0 = true ∧ u = s.keepAlive 0 ∧ v = .host 0 cid ∧ a = ⟨v, true⟩ ∧ u.ns q.nsid = some x ∧ getField q.cdw10 0 4 = 0 ∧
      ctrlIds data = [c] ∧ u.functionExists c = true ∧ x.attached.contains c = false ∧ y =
      { x with attached := x.attached ++ [c], owner := some (x.owner.getD c) }) ∧
    (∃ s : State, ∃ u : State, ∃ cid : Nat, ∃ v : Via, ∃ a : Adm, ∃ q : Sqe, ∃ x : Ns, s.adminServed 0 = true ∧ u = s.keepAlive 0 ∧ v =
      .host 0 cid ∧ a = ⟨v, true⟩ ∧ u.ns q.nsid = some x ∧ getField q.cdw10 0 4 + 16 * getField q.cdw10 12 2 ≤ 2 ∧ getField q.cdw10 9 3 = 0
      ∧ getField q.cdw10 5 3 = 0) ∧
    (∃ s : State, ∃ u : State, ∃ cid : Nat, ∃ v : Via, ∃ a : Adm, ∃ off : Nat, ∃ n : Nat, s.adminServed 0 = true ∧ u = s.keepAlive 0 ∧ v =
      .host 0 cid ∧ a = ⟨v, true⟩ ∧ off % 4096 = 0 ∧ n % 4096 = 0 ∧ n ≠ 0 ∧ off + n ≤ stagingBytes ∧ u.mode ≠ .maintenance ∧ u.nor.update =
      none) ∧
    (∃ s : State, ∃ u : State, ∃ cid : Nat, ∃ v : Via, ∃ a : Adm, ∃ slot, ∃ x, s.adminServed 0 = true ∧ u = s.keepAlive 0 ∧ v = .host 0 cid
      ∧ a = ⟨v, true⟩ ∧ u.commitSlot slot = some x ∧ u.mode ≠ .maintenance ∧ u.nor.update = none) ∧
    (∃ s : State, ∃ u : State, ∃ cid : Nat, ∃ v : Via, ∃ a : Adm, ∃ act, s.adminServed 0 = true ∧ u = s.keepAlive 0 ∧ v = .host 0 cid ∧ a =
      ⟨v, true⟩ ∧ act ≠ 1 ∧ act ≠ 2) ∧
    (∃ s : State, ∃ u : State, ∃ cid : Nat, ∃ v : Via, ∃ a : Adm, ∃ slot : Nat, ∃ x : Slot, ∃ im : Image, s.adminServed 0 = true ∧ u =
      s.keepAlive 0 ∧ v = .host 0 cid ∧ a = ⟨v, true⟩ ∧ u.commitSlot slot = some x ∧ u.nor.update = none ∧ im = u.slotImage x) ∧
    (∃ s : State, ∃ f : Nat, ∃ q : Sqe, f ≠ 0 ∧ s.adminServed f = true ∧ mediatedOp q = false) ∧
    (∃ s : State, ∃ f : Nat, ∃ q : Sqe, f ≠ 0 ∧ s.adminServed f = true ∧ q.opcode = 0x80#8) :=
  ⟨(ok_pair_of (r := (svc.keepAlive 0).nsCreate (nsAsk { sqe0 with opcode := 0x0D#8, reservedZero := true } nsBytes) none) (by decide +kernel)).elim fun id h => h.elim fun s1 h => ⟨svc,
    _, 7, _, _, sqe0, nsBytes, id, s1, by decide +kernel, rfl, rfl, rfl, by decide +kernel, h⟩,
   ⟨(svc), _, (7), _, _, (sqe0), by decide +kernel, rfl, rfl, rfl, by decide +kernel⟩,
   ⟨(svcNs { nsC with attached := [] }), _, (7), _, _, (sqe0), ([1, 0, 1, 0] ++ List.replicate 4092 0), ({ nsC with attached := [] }), _,
    (1), by decide +kernel, rfl, rfl, rfl, by decide +kernel, by decide +kernel, by decide +kernel, by decide +kernel, by decide +kernel,
    rfl⟩,
   ⟨(svcNs nsC), _, (7), _, _, ({ sqe0 with cdw10 := 2 }), (nsC), by decide +kernel, rfl, rfl, rfl, by decide +kernel⟩,
   ⟨svc, _, 7, _, _, 4096, 4096, by decide +kernel, rfl, rfl, rfl, by decide +kernel⟩,
   ⟨(svc), _, (7), _, _, (2), (.b), by decide +kernel, rfl, rfl, rfl, by decide +kernel⟩,
   ⟨(svc), _, (7), _, _, (3), by decide +kernel, rfl, rfl, rfl, by decide +kernel⟩,
   ⟨svc, _, 7, _, _, 2, .b, _, by decide +kernel, rfl, rfl, rfl, by decide +kernel, by decide +kernel, rfl⟩,
   ⟨(svc), (1), ({ sqe0 with opcode := 0x7F }), by decide +kernel⟩,
   ⟨(svc), (1), ({ sqe0 with opcode := 0x80 }), by decide +kernel⟩⟩

theorem test_meets_VendorAdmin :
    (∃ s : State, ∃ u : State, ∃ cid : Nat, ∃ v : Via, ∃ a : Adm, s.adminServed 0 = true ∧ u = s.keepAlive 0 ∧ v = .host 0 cid ∧ a =
      ⟨v, true⟩) ∧
    (∃ s : State, ∃ u : State, ∃ cid : Nat, ∃ v : Via, ∃ a : Adm, ∃ n, s.adminServed 0 = true ∧ u = s.keepAlive 0 ∧ v = .host 0 cid ∧ a =
      ⟨v, true⟩ ∧ (u.acct n).binding = none) ∧
    (∃ s : State, ∃ u : State, ∃ cid : Nat, ∃ v : Via, ∃ a : Adm, ∃ n, s.adminServed 0 = true ∧ u = s.keepAlive 0 ∧ v = .host 0 cid ∧ a =
      ⟨v, true⟩ ∧ (u.acct n).binding.isSome = true ∧ (u.acct n).quiesced = true ∧ (u.acct n).quiesce = none) ∧
    (∃ s : State, ∃ u : State, ∃ cid : Nat, ∃ v : Via, ∃ a : Adm, ∃ n, ∃ q, s.adminServed 0 = true ∧ u = s.keepAlive 0 ∧ v = .host 0 cid ∧
      a = ⟨v, true⟩ ∧ (u.acct n).binding.isSome = true ∧ (u.acct n).quiesced = false ∧ (u.acct n).quiesce = some q) ∧
    (∃ s : State, ∃ u : State, ∃ cid : Nat, ∃ v : Via, ∃ a : Adm, ∃ n, ∃ e, s.adminServed 0 = true ∧ u = s.keepAlive 0 ∧ v = .host 0 cid ∧
      a = ⟨v, true⟩ ∧ u.bindCheck n e = 0 ∧ e.bound = true) ∧
    (∃ s : State, ∃ u : State, ∃ cid : Nat, ∃ v : Via, ∃ a : Adm, ∃ n, ∃ e, s.adminServed 0 = true ∧ u = s.keepAlive 0 ∧ v = .host 0 cid ∧
      a = ⟨v, true⟩ ∧ u.bindCheck n e ≠ 0) ∧
    (∃ s : State, ∃ u : State, ∃ cid : Nat, ∃ v : Via, ∃ a : Adm, ∃ tag, ∃ r, s.adminServed 0 = true ∧ u = s.keepAlive 0 ∧ v = .host 0 cid
      ∧ a = ⟨v, true⟩ ∧ ofind u.host.mediation (tag % 8192) = some r ∧ r.tag = tag) ∧
    (∃ s : State, ∃ u : State, ∃ cid : Nat, ∃ v : Via, ∃ a : Adm, s.adminServed 0 = true ∧ u = s.keepAlive 0 ∧ v = .host 0 cid ∧ a =
      ⟨v, true⟩ ∧ u.oldestRequest = none) ∧
    (∃ s : State, ∃ u : State, ∃ cid : Nat, ∃ v : Via, ∃ a : Adm, ∃ n, ∃ r, s.adminServed 0 = true ∧ u = s.keepAlive 0 ∧ v = .host 0 cid ∧
      a = ⟨v, true⟩ ∧ u.oldestRequest = some (n, r)) ∧
    (∃ s : State, ∃ u : State, ∃ cid : Nat, ∃ v : Via, ∃ a : Adm, ∃ bs : List Byte, ∃ r1 : Nat × State, ∃ r2 : Nat × State, s.adminServed 0
      = true ∧ u = s.keepAlive 0 ∧ v = .host 0 cid ∧ a = ⟨v, true⟩ ∧ r1 = u.authorise .pf 1 (readAuth bs) ∧ r2 = u.authorise .pf 2
      (readAuth bs)) ∧
    (∃ s : State, ∃ u : State, ∃ f : Nat, ∃ slot : Nat, ∃ k : KeyLoadData, ∃ x, s.adminServed f = true ∧ u = s.keepAlive f ∧ u.keyLoad f
      slot k = .ok x) ∧
    (∃ s : State, ∃ u : State, ∃ f : Nat, ∃ slot : Nat, ∃ k : KeyLoadData, ∃ t, s.adminServed f = true ∧ u = s.keepAlive f ∧ u.keyLoad f
      slot k = .error t) ∧
    (∃ s : State, ∃ who : Requester, s.mayWrite who Reg.ldgPlanReq = true) :=
  ⟨⟨(svc), _, (7), _, _, by decide +kernel, rfl, rfl, rfl⟩,
   ⟨(svc), _, (7), _, _, (2047), by decide +kernel, rfl, rfl, rfl, by decide +kernel⟩,
   ⟨({ svc with host := { svc.host with accts := [(0, { binding := some bind0 }), (1, { binding := some bind0, quiesced := true })] } }),
    _, (7), _, _, (1), by decide +kernel, rfl, rfl, rfl, by decide +kernel⟩,
   ⟨({ svc with host := { svc.host with accts := [(0, { binding := some bind0 }), (1, { binding := some bind0, quiesce := some ⟨0, false, false, []⟩ })] } }),
    _, (7), _, _, (1), (⟨0, false, false, []⟩), by decide +kernel, rfl, rfl, rfl, by decide +kernel⟩,
   ⟨({ svcAcct {} with host := { svc.host with accts := [(0, { binding := some bind0 })] }, boot := { svc.boot with image := some img0 } }.setReg Reg.medZoneLimits 8),
    _, (7), _, _, (1), (⟨true, true, true, true, 1, { lim0 with keyBase := 4, keyCount := 0 }, true⟩), by decide +kernel, rfl, rfl, rfl, by decide +kernel⟩,
   ⟨(svc), _, (7), _, _, (2048), (⟨true, true, true, true, 1, lim0, true⟩), by decide +kernel, rfl, rfl, rfl, by decide +kernel⟩,
   ⟨({ svc with host := { svc.host with mediation := [(3, medReq0)] } }), _, (7), _, _, (8195), (medReq0), by decide +kernel, rfl, rfl,
    rfl, by decide +kernel⟩,
   ⟨(svc), _, (7), _, _, by decide +kernel, rfl, rfl, rfl, by decide +kernel⟩,
   ⟨({ svc with host := { svc.host with mediation := [(3, medReq0)] } }), _, (7), _, _, (3), (medReq0), by decide +kernel, rfl, rfl, rfl,
    by decide +kernel⟩,
   ⟨svcAuth, _, 7, _, _, zeros 512, _, _, by decide +kernel, rfl, rfl, rfl, rfl, rfl⟩,
   (ok_of (r := (svcKeys.keepAlive 1).keyLoad 1 4 ⟨0, 0, true, ⟨0, 0, true⟩⟩) (by decide +kernel)).elim fun x h => ⟨svcKeys, _, 1, 4, ⟨0,
    0, true, ⟨0, 0, true⟩⟩, x, by decide +kernel, rfl, h⟩,
   ⟨(svc), _, (1), (4095), (⟨0, 0, true, ⟨0, 0, true⟩⟩), (stKeySlot), by decide +kernel, rfl, rfl⟩,
   ⟨(svc), (.mp), by decide +kernel⟩⟩

theorem test_meets_NetworkPorts :
    (∃ s : State, ∃ p : Nat, ∃ src : BitVec 128, p < 2 ∧ s.portUp p = true ∧ s.mpActs = true ∧ modeLedger s.mode = true ∧ s.hostAccount src
      p = none) ∧
    (∃ s : State, ∃ p : Nat, ∃ src : BitVec 128, ∃ a, ∃ b, ∃ i, p < 2 ∧ s.portUp p = true ∧ s.mpActs = true ∧ modeLedger s.mode = true ∧
      s.hostAccount src p = some a ∧ (s.acct a).binding = some b ∧ b.netEn = true ∧ firstFree s.qpsInUse 0 4096 = some i) ∧
    (∃ s : State, ∃ i : Nat, ∃ q : Qp, s.liveQp i = some q ∧ q.cnpSent = none ∧ (s.port q.port).pausedCnp = false) ∧
    (∃ s : State, ∃ i : Nat, ∃ q : Qp, ∃ t, s.liveQp i = some q ∧ q.cnpSent = some t ∧ s.ldg.tick < t + 50000) ∧
    (∃ s : State, ∃ i : Nat, ∃ q : Qp, s.liveQp i = some q ∧ q.rate < lineRate ∧ q.rateAt + 55000 ≤ s.ldg.tick) ∧
    (∃ s : State, ∃ i : Nat, ∃ q : Qp, s.liveQp i = some q) ∧
    (∃ s : State, ∃ p : Nat, ∃ n, p < 2 ∧ s.portUp p = true ∧ n ≤ (s.port p).rxBytes ∧ s.islandOn .net = true) ∧
    (∃ s : State, ∃ p : Nat, p < 2 ∧ s.portUp p = true ∧ modeLedger s.mode = true) ∧
    (∃ s : State, ∃ p : Nat, ∃ w : BitVec 64, p < 2 ∧ s.portUp p = true ∧ s.mode = .doze ∧ w.toNat = s.wakeToken ∧ s.wakeToken ≠ 0) ∧
    (∃ s : State, ∃ p : Nat, ∃ c, ∃ u, ∃ s2, p < 2 ∧ s.portUp p = true ∧ s2 = (((s.setReg (Reg.netPortStatus + 4 * p) 0).countFec p c
      u).setPort p {}).raise .netCause p) ∧
    (∃ s : State, ∃ p : Nat, p < 2 ∧ s.portUp p = true) ∧
    (∃ s : State, ∃ p : Nat, p < 2 ∧ modeNet s.mode = true) ∧
    (∃ s : State, ∃ u : State, ∃ i : Nat, ∃ q : Qp, ∃ n, s.liveQp i = some q ∧ modeLedger s.mode = true ∧ s.mode ≠ .doze ∧ s.mode ≠ .drain
      ∧ s.pwr.sleep = none ∧ s.memberActive q.account = true ∧ u = s.keepAlive q.account ∧ q.queue = none ∧ 2 ≤ n ∧ n ≤ 4096 ∧ u.netHas
      q.account 0 = false) ∧
    (∃ s : State, ∃ u : State, ∃ i : Nat, ∃ q : Qp, ∃ o, ∃ v, s.liveQp i = some q ∧ modeLedger s.mode = true ∧ s.mode ≠ .doze ∧ s.mode ≠
      .drain ∧ s.pwr.sleep = none ∧ s.memberActive q.account = true ∧ u = s.keepAlive q.account ∧ q.queue = some 0 ∧ u.property q.account o
      = some v) ∧
    (∃ s : State, ∃ u : State, ∃ i : Nat, ∃ q : Qp, s.liveQp i = some q ∧ modeLedger s.mode = true ∧ s.mode ≠ .doze ∧ s.mode ≠ .drain ∧
      s.pwr.sleep = none ∧ s.memberActive q.account = true ∧ u = s.keepAlive q.account ∧ q.queue = some 0) ∧
    (∃ s : State, ∃ u : State, ∃ i : Nat, ∃ q : Qp, ∃ n, s.liveQp i = some q ∧ modeLedger s.mode = true ∧ s.mode ≠ .doze ∧ s.mode ≠ .drain
      ∧ s.pwr.sleep = none ∧ s.memberActive q.account = true ∧ u = s.keepAlive q.account ∧ q.queue = some n ∧ (∀ e ∈ u.host.cmds, e.2.net =
      false ∨ e.2.queue ≠ i)) :=
  ⟨⟨(netHosts 0), (1), (5), by decide +kernel, by decide +kernel, by decide +kernel, by decide +kernel, (netHosts_none _ _)⟩,
   ⟨(netHosts 0x3001), (1), (0), (1), ({ bind0 with lim := { lim0 with keyBase := 4 } }), (0), by decide +kernel⟩,
   ⟨(netUp1 qp1), (4), (qp1), by decide +kernel⟩,
   ⟨({ netUp1 { qp1 with cnpSent := some 0 } with ldg := { svc.ldg with tick := 49999 } }), (4), ({ qp1 with cnpSent := some 0 }), (0), by decide +kernel⟩,
   ⟨({ netUp1 { qp1 with rate := lineRate - 1 } with ldg := { svc.ldg with tick := 55000 } }), (4), ({ qp1 with rate := lineRate - 1 }), by decide +kernel⟩,
   ⟨netUp1 qp1, 4, qp1, by decide +kernel⟩,
   ⟨(netUp1 qp1), (1), (0), by decide +kernel⟩,
   ⟨(netUp1 qp1), (1), by decide +kernel⟩,
   ⟨({ netUp1 qp1 with mode := .doze }.setReg Reg.netWakeToken 5), (1), (5), by decide +kernel⟩,
   ⟨(netUp1 qp1), (1), (0), (0), _, by decide +kernel, by decide +kernel, rfl⟩,
   ⟨netUp1 qp1, 1, by decide +kernel⟩,
   ⟨(svc), (1), by decide +kernel⟩,
   ⟨(netUp1 qp1), _, (4), (qp1), (4096), by decide +kernel, by decide +kernel, by decide +kernel, by decide +kernel, by decide +kernel,
    by decide +kernel, rfl, by decide +kernel⟩,
   ⟨(netUp1 { qp1 with queue := some 0 }), _, (4), ({ qp1 with queue := some 0 }), (0x14), ((1, 0)), by decide +kernel, by decide +kernel,
    by decide +kernel, by decide +kernel, by decide +kernel, by decide +kernel, rfl, by decide +kernel⟩,
   ⟨(netUp1 { qp1 with queue := some 0 }), _, (4), ({ qp1 with queue := some 0 }), by decide +kernel, by decide +kernel,
    by decide +kernel, by decide +kernel, by decide +kernel, by decide +kernel, rfl, by decide +kernel⟩,
   ⟨(netUp1 { qp1 with queue := some 3 }), _, (4), ({ qp1 with queue := some 3 }), (3), by decide +kernel, by decide +kernel,
    by decide +kernel, by decide +kernel, by decide +kernel, by decide +kernel, rfl, by decide +kernel⟩⟩

theorem test_meets_MintLanes :
    (∃ s : State, ∃ h : Nat, ∃ c : Cmd, ∃ x : Ns, ∃ t, s.arrivedCmd h (fun o => decide (o = .minted)) = some (c, x) ∧ s.mintCheck c x =
      some t) ∧
    (∃ s : State, ∃ h : Nat, ∃ c : Cmd, ∃ x : Ns, ∃ c1 : Cmd, s.arrivedCmd h (fun o => decide (o = .minted)) = some (c, x) ∧ s.mintCheck c
      x = none ∧ s.mintKeysLoaded c (s.mintKeyCount c) = true ∧ s.xtsReady (nsOwner x) = true ∧ (s.classLanes (s.classOf c.member)
      (s.mintDoor c)).isEmpty = false ∧ c1 =
      { c with secs := (lbas c.slba c.count).map (fun a => s.readSec c.nsid a x false), phase := .accepting }) ∧
    (∃ s : State, ∃ s1 : State, ∃ s2 : State, ∃ l : Nat, ∃ b : LaneBind, ∃ w : Nat × Nat, ∃ c : Cmd, ∃ x : Ns, s.mnt.laneTbl[l]? = some b ∧
      b.enabled = true ∧ s.laneOpen l = true ∧ (s.lane l).st = .free ∧ s.earliest (s.mnt.waiting.filter (fun w => s.laneFits l b w.1)) =
      some w ∧ s.cmd w.1 = some c ∧ s.ns c.nsid = some x ∧ s1 = s.setLane l
      { st := .held, cmd := w.1, recipe := mintRecipe c.sqe, account := c.account } ∧ s2 =
      { s1 with mnt := { s1.mnt with waiting := s1.mnt.waiting.filter (fun v => decide (v.1 ≠ w.1)) } }) ∧
    (∃ s : State, ∃ l : Nat, ∃ c : Cmd, s.laneCmd l = some c ∧ (s.lane l).st = .setup ∧ s.ldg.tick < (s.lane l).outAt + 2048) ∧
    (∃ s : State, ∃ l : Nat, ∃ c : Cmd, s.laneCmd l = some c ∧ (s.lane l).st = .setup ∧ (s.lane l).outAt + 2048 ≤ s.ldg.tick ∧
      s.mintKeysLoaded c (s.mintKeyCount c) = true) ∧
    (∃ s : State, ∃ l : Nat, ∃ c : Cmd, s.laneCmd l = some c ∧ (s.lane l).st = .setup ∧ (s.lane l).outAt + 2048 ≤ s.ldg.tick ∧
      s.mintKeysLoaded c (s.mintKeyCount c) = false) ∧
    (∃ s : State, ∃ s1 : State, ∃ l : Nat, ∃ seg : Nat, ∃ out : Nat, ∃ c : Cmd, ∃ y : Sec, ∃ r, s.laneCmd l = some c ∧ (s.lane l).st =
      .consuming ∧ (s.lane l).consumedAll = false ∧ ((s.lane l).next = 0 ∨ 4096 * (s.lane l).next < (s.lane l).segLen) ∧ (s.lane l).outAt +
      2048 ≤ s.ldg.tick ∧ c.secs[(s.lane l).next]? = some y ∧ y.poison = false ∧ y.st = .inRing ∧ y.zero = false ∧ s.keyMatches c y = true
      ∧ ofind s.mnt.recipes (s.lane l).recipe = some r ∧ seg ≤ 4096 * c.count ∧ (s.lane l).produced + out ≤ mintLimit seg ∧ s1 =
      ((s.addBlocks (48 + l) (256 * r.cost)).stamp (s.lane l).cmd 7).setSec (s.lane l).cmd (s.lane l).next { y with st := .consumed }) ∧
    (∃ s : State, ∃ l : Nat, ∃ c : Cmd, ∃ y : Sec, s.laneCmd l = some c ∧ (s.lane l).st = .consuming ∧ (s.lane l).consumedAll = false ∧
      ((s.lane l).next = 0 ∨ 4096 * (s.lane l).next < (s.lane l).segLen) ∧ (s.lane l).outAt + 2048 ≤ s.ldg.tick ∧ c.secs[(s.lane l).next]?
      = some y ∧ y.poison = false ∧ y.st = .inRing ∧ y.zero = false ∧ s.keyMatches c y = true) ∧
    (∃ s : State, ∃ l : Nat, ∃ room : Nat, ∃ c : Cmd, s.laneCmd l = some c ∧ 0 < s.chunkBytes (s.lane l) ∧ s.turnNow l (s.mintDoor c) =
      true ∧ s.turnClear (s.mintDoor c) = true ∧ room < s.chunkBytes (s.lane l)) ∧
    (∃ s : State, ∃ l : Nat, ∃ room : Nat, ∃ c : Cmd, s.laneCmd l = some c ∧ 0 < s.chunkBytes (s.lane l) ∧ s.turnNow l (s.mintDoor c) =
      true ∧ s.turnClear (s.mintDoor c) = true ∧ s.chunkBytes (s.lane l) ≤ room ∧ s.doorPaused (s.mintDoor c) = true) ∧
    (∃ s : State, ∃ s1 : State, ∃ l : Nat, ∃ room : Nat, ∃ c : Cmd, s.laneCmd l = some c ∧ 0 < s.chunkBytes (s.lane l) ∧ s.turnNow l
      (s.mintDoor c) = true ∧ s.turnClear (s.mintDoor c) = true ∧ s.chunkBytes (s.lane l) ≤ room ∧ s.doorPaused (s.mintDoor c) = false ∧
      (s.mintDoor c ≠ .pcie ∨ s.logging c.account = false) ∧ c.silent = false ∧ s1 = (s.setCmd (s.lane l).cmd
      { s.waitEnd c c.waitFrom with waitFrom := 0 }).stampAt (s.lane l).cmd 8 (s.ldg.tick + s.chunkTicks (s.mintDoor c) (s.chunkBytes
      (s.lane l)))) ∧
    (∃ s : State, ∃ l : Nat, ∃ c : Cmd, s.laneCmd l = some c ∧ (s.lane l).st = .consuming ∧ (s.lane l).consumedAll = false ∧ 0 < (s.lane
      l).next ∧ (s.lane l).segLen ≤ 4096 * (s.lane l).next ∧ (s.lane l).outAt + ceilDiv ((s.lane l).segLen - 4096 * ((s.lane l).next - 1))
      2 ≤ s.ldg.tick) :=
  ⟨⟨(minted { cmd0 .minted .arrived [] with sqe := { sqe0 with cdw13 := 0x30000 } } {}), (1),
    ({ cmd0 .minted .arrived [] with sqe := { sqe0 with cdw13 := 0x30000 } }), (nsZ), (stRecipeNotLoaded), by decide +kernel, rfl⟩,
   ⟨(minted (cmd0 .minted .arrived []) {}), (1), (cmd0 .minted .arrived []), (nsZ), _, by decide +kernel, by decide +kernel,
    by decide +kernel, by decide +kernel, by decide +kernel, rfl⟩,
   ⟨{ minted (cmd0 .minted .running [sec0]) {} with mnt := { (minted (cmd0 .minted .running [sec0]) {}).mnt with waiting := [(1, 0)] } },
    _, _, 0, ⟨1, .pcie, true, true⟩, (1, 0), cmd0 .minted .running [sec0], nsZ, by decide +kernel, by decide +kernel, by decide +kernel,
    by decide +kernel, by decide +kernel, by decide +kernel, by decide +kernel, rfl, rfl⟩,
   ⟨minted (mint0 [sec0]) { st := .setup, cmd := 1, outAt := 1 }, 0, mint0 [sec0], by decide +kernel⟩,
   ⟨late 2048 (minted (mint0 [sec0]) { st := .setup, cmd := 1 }), 0, mint0 [sec0], by decide +kernel⟩,
   ⟨late 2048 { minted (mint0 [sec0]) { st := .setup, cmd := 1 } with mnt := { (minted (mint0 [sec0]) { st := .setup, cmd := 1 }).mnt with recipes := [(0, { recipe0 with protect := 1 })] } },
    0, mint0 [sec0], by decide +kernel⟩,
   ⟨late 2048 (minted (mint0 [{ sec0 with st := .inRing }]) { st := .consuming, cmd := 1 }), _, 0, 4096, 8704,
    mint0 [{ sec0 with st := .inRing }], _, recipe0, by decide +kernel, by decide +kernel, by decide +kernel, by decide +kernel,
    by decide +kernel, rfl, by decide +kernel, by decide +kernel, by decide +kernel, by decide +kernel, by decide +kernel,
    by decide +kernel, by decide +kernel, rfl⟩,
   ⟨late 2048 (minted (mint0 [{ sec0 with st := .inRing }]) { st := .consuming, cmd := 1 }), 0, mint0 [{ sec0 with st := .inRing }], _,
    by decide +kernel, by decide +kernel, by decide +kernel, by decide +kernel, by decide +kernel, rfl, by decide +kernel⟩,
   ⟨minted (mint0 [sec0]) chunk0, 0, 4095, mint0 [sec0], by decide +kernel⟩,
   ⟨{ minted { mint0 [sec0] with door := .eth1 } chunk0 with net := { svc.net with ports := [(1, { pausedData := true })] }, ldg := { svc.ldg with turns := [(64, [(0, 0)])] } },
    0, 4096, { mint0 [sec0] with door := .eth1 }, by decide +kernel⟩,
   ⟨minted (mint0 [sec0]) chunk0, _, 0, 4096, mint0 [sec0], by decide +kernel, by decide +kernel, by decide +kernel, by decide +kernel,
    by decide +kernel, by decide +kernel, by decide +kernel, by decide +kernel, rfl⟩,
   ⟨late 2048 (minted (mint0 [sec0]) { st := .consuming, cmd := 1, next := 1, segLen := 4096 }), 0, mint0 [sec0], by decide +kernel⟩⟩

theorem test_meets_ManagementBus :
    (∃ s : State, s.cccServed = true ∧ s.daValid = false) ∧
    (∃ s : State, ∃ st : BitVec 7, s.cccServed = true ∧ s.daValid = false ∧ st.toNat = s.staticAddr) ∧
    (∃ s : State, ∃ o : BitVec 7, s.cccServed = true ∧ s.addressed o = true) ∧
    (∃ s : State, s.cccServed = true) ∧
    (∃ s : State, ∃ o : BitVec 7, ∃ n, s.cccServed = true ∧ s.addressed o = true ∧ 69 ≤ n) ∧
    (∃ s : State, ∃ o : BitVec 7, ∃ n, s.cccServed = true ∧ s.addressed o = true ∧ n < 69) ∧
    (∃ s : State, ∃ o : BitVec 7, s.privateServed = true ∧ s.addressed o = true ∧ s.mode ≠ .doze) ∧
    (∃ s : State, ∃ o : BitVec 7, s.privateServed = true ∧ s.addressed o = true ∧ s.mgt.mctpOut = []) ∧
    (∃ s : State, ∃ o : BitVec 7, ∃ p, ∃ ps, s.privateServed = true ∧ s.addressed o = true ∧ s.mgt.mctpOut = p :: ps) ∧
    (∃ s : State, ∃ u : State, ∃ e, s.miCol ≠ .none ∧ u = s.miTake ∧ 1 ≤ e ∧ e ≤ 254) ∧
    (∃ s : State, ∃ u : State, s.miCol ≠ .none ∧ u = s.miTake) ∧
    (∃ s : State, ∃ u : State, ∃ i, ∃ n, s.miCol ≠ .none ∧ u = s.miTake ∧ 1 ≤ n ∧ n ≤ 64 ∧ i + n ≤ 32768) ∧
    (∃ s : State, ∃ u : State, (s.miCol = .full ∨ s.miCol = .maint) ∧ u = s.miTake) ∧
    (∃ s : State, ∃ u : State, (s.miCol = .full ∨ s.miCol = .maint) ∧ u = s.miTake ∧ (u.auth .mi).lockFrom = none) ∧
    (∃ s : State, ∃ u : State, ∃ bs : List Byte, ∃ c : Nat, ∃ s1 : State, (s.miCol = .full ∨ s.miCol = .maint) ∧ u = s.miTake ∧ u.authorise
      .mi 3 (readAuth bs) = (c, s1)) ∧
    (∃ s : State, ∃ u : State, s.miCol = .maint ∧ u = s.miTake ∧ u.fld Reg.aonMode 8 4 = 5) ∧
    (∃ s : State, ∃ u : State, ∃ row, ∃ s1, s.miCol = .maint ∧ u = s.miTake ∧ s1 = ((u.setFld Reg.norOpAddr 0 27 0x07FF0000).setReg
      Reg.norOpSrc 0).norStart .program 16 row none ∧ u.nor.op = none ∧ s1.nor.op.isSome = true) ∧
    (∃ s : State, ∃ u : State, ∃ bs : List Byte, ∃ c : Nat, ∃ s1 : State, s.miCol = .maint ∧ u = s.miTake ∧ u.authorise .mi 4 (readAuth bs)
      = (c, s1)) ∧
    (∃ s : State, ∃ u : State, ∃ bs : List Byte, ∃ c : Nat, ∃ s1 : State, s.miCol = .maint ∧ u = s.miTake ∧ u.authorise .mi 5 (readAuth bs)
      = (c, s1)) ∧
    (∃ s : State, ∃ u : State, s.miCol = .maint ∧ u = s.miTake) ∧
    (∃ s : State, s.mgt.alertForce = true) ∧
    (∃ s : State, ∃ who : Requester, s.mayWrite who Reg.mgtChallengeCtl = true) ∧
    (∃ s : State, ∃ p : AuthPath, ∃ n : Nonce, (s.auth p).nonce = some n ∧ n.issued + nonceLife ≤ s.pwr.time) ∧
    (∃ s : State, ∃ p : AuthPath, ∃ t : Nat, (s.auth p).lockFrom = some t ∧ t + lockoutTime ≤ s.pwr.time) :=
  ⟨⟨(svc), by decide +kernel⟩,
   ⟨(svc), (0x30), by decide +kernel⟩,
   ⟨(i3cUp), (9), by decide +kernel⟩,
   ⟨svc, by decide +kernel⟩,
   ⟨(i3cUp), (9), (69), by decide +kernel⟩,
   ⟨(i3cUp), (9), (68), by decide +kernel⟩,
   ⟨(i3cUp), (9), by decide +kernel⟩,
   ⟨(i3cUp), (9), by decide +kernel⟩,
   ⟨({ i3cUp with mgt := { svc.mgt with mctpOut := [[5]] } }), (9), ([5]), ([]), by decide +kernel⟩,
   ⟨(svc), _, (254), by decide +kernel, rfl, by decide +kernel⟩,
   ⟨(svc), _, by decide +kernel, rfl⟩,
   ⟨(svc), _, (32704), (64), by decide +kernel, rfl, by decide +kernel⟩,
   ⟨(maint), _, by decide +kernel, rfl⟩,
   ⟨(maint), _, by decide +kernel, rfl, by decide +kernel⟩,
   ⟨maint, _, zeros 512, _, _, by decide +kernel, rfl, rfl⟩,
   ⟨(maint.setReg Reg.aonMode 0x500), _, by decide +kernel, rfl, by decide +kernel⟩,
   ⟨{ maint with pending := [] }, _, [], _, by decide +kernel, rfl, rfl, by decide +kernel⟩,
   ⟨maint, _, zeros 512, _, _, by decide +kernel, rfl, rfl⟩,
   ⟨maint, _, zeros 512, _, _, by decide +kernel, rfl, rfl⟩,
   ⟨(maint), _, by decide +kernel, rfl⟩,
   ⟨({ svc with mgt := { svc.mgt with alertForce := true } }), by decide +kernel⟩,
   ⟨(svc), (.pf), by decide +kernel⟩,
   ⟨({ maint with pwr := { maint.pwr with time := nonceLife } }), (.mi), (⟨9, 0⟩), by decide +kernel⟩,
   ⟨({ svc with mgt := { svc.mgt with pf := { svc.mgt.pf with lockFrom := some 0 } }, pwr := { svc.pwr with time := lockoutTime } }),
    (.pf), (0), by decide +kernel⟩⟩

end Sys2Proof.Tests
end

section
/-!
Frames of whole commands: what Sys2Proof/Safety.lean names as a footprint bounds the frame of every meaning (R35, R99, R543, R570).
-/
set_option Elab.async false

namespace Sys2Proof.Machine

/-- The mask `m` names components of `ps` only, and not the queue of commands. -/
def maskWithin (m : Nat) (ps : List Part) : Bool :=
  !m.testBit 23 && allParts.all (fun p => !m.testBit p.bit || ps.any (fun q => q.bit == p.bit))

theorem allParts_bit (p : Part) : allParts[p.bit]? = some p := by cases p <;> rfl

/-- No two components share a bit. -/
theorem Part.bit_inj {p q : Part} (h : p.bit = q.bit) : p = q :=
  Option.some.inj (by rw [← allParts_bit p, h, allParts_bit q])

/-- What such a mask leaves alone is what `ps` does not name. -/
theorem onlyIn_of_maskWithin {m : Nat} {ps : List Part} {s t : State} (h : Frame m s t) (hw : maskWithin m ps = true) : OnlyIn ps s t := by
  refine onlyIn_of_frame h (List.all_eq_true.mpr fun p hp => ?_)
  have hbit := List.all_eq_true.mp (Bool.and_eq_true_iff.mp hw).2 p hp
  rw [Bool.or_comm]
  refine Bool.or_eq_true_iff.mpr ((Bool.or_eq_true_iff.mp hbit).imp id fun hany => ?_)
  obtain ⟨q, hq, he⟩ := List.any_eq_true.mp hany
  rwa [← Part.bit_inj (beq_iff_eq.mp he), decide_eq_true_iff]

/-- The frame of every command: that of its meaning, whose mask lies within the command's footprint and leaves out the queue. -/
theorem exec_frame (c : Instr) (s : State) : ∃ m, FrameO m s (exec c s) ∧ maskWithin m (footprint c) = true := by
  cases c with
  | porNAssert => exact ⟨_, frame_execPorNAssert, rfl⟩
  | porNRelease => exact ⟨_, frame_execPorNRelease, rfl⟩
  | plossNFall => exact ⟨_, frame_execPlossNFall, rfl⟩
  | plossNAssert => exact ⟨_, frame_execPlossNAssert, rfl⟩
  | plossNRise => exact ⟨_, frame_execPlossNRise, rfl⟩
  | offExitCountExpiry => exact ⟨_, frame_execOffExitCountExpiry, rfl⟩
  | pwrGoodDrop => exact ⟨_, frame_execPwrGoodDrop, rfl⟩
  | pwrGoodRise => exact ⟨_, frame_execPwrGoodRise, rfl⟩
  | railTimeout => exact ⟨_, frame_execRailTimeout, rfl⟩
  | strapSample => exact ⟨_, frame_execStrapSample _, rfl⟩
  | oscillatorQualified => exact ⟨_, frame_execOscillatorQualified, rfl⟩
  | pllLock => exact ⟨_, frame_execPllLock _, rfl⟩
  | xtalFail => exact ⟨_, frame_execXtalFail, rfl⟩
  | calRowReadDone => exact ⟨_, frame_execCalRowReadDone, rfl⟩
  | bankFillDone => exact ⟨_, frame_execBankFillDone _, rfl⟩
  | ddr5BootSweepDone => exact ⟨_, frame_execDdr5BootSweepDone _, rfl⟩
  | dramFillDone => exact ⟨_, frame_execDramFillDone, rfl⟩
  | perstNAssert => exact ⟨_, frame_execPerstNAssert, rfl⟩
  | perstNRelease => exact ⟨_, frame_execPerstNRelease, rfl⟩
  | pcieLinkUp => exact ⟨_, frame_execPcieLinkUp _, rfl⟩
  | clkreqNAssert => exact ⟨_, frame_execClkreqNAssert, rfl⟩
  | loadStepComplete => exact ⟨_, frame_execLoadStepComplete _ _, rfl⟩
  | ddr5LevelSweepDone => exact ⟨_, frame_execDdr5LevelSweepDone _, rfl⟩
  | channelSweepDone => exact ⟨_, frame_execChannelSweepDone _ _ _, rfl⟩
  | sensorSelfCheckDone => exact ⟨_, frame_execSensorSelfCheckDone, rfl⟩
  | folioBoundary => exact ⟨_, frame_execFolioBoundary, rfl⟩
  | shutdownNotification => exact ⟨_, frame_execShutdownNotification _, rfl⟩
  | drainComplete => exact ⟨_, frame_execDrainComplete, rfl⟩
  | flushComplete => exact ⟨_, frame_execFlushComplete, rfl⟩
  | nssrWrite => exact ⟨_, frame_execNssrWrite _, rfl⟩
  | processorFault => exact ⟨_, frame_execProcessorFault _, rfl⟩
  | islandRestartComplete => exact ⟨_, frame_execIslandRestartComplete _, rfl⟩
  | watchdogKick => exact ⟨_, frame_execWatchdogKick _, rfl⟩
  | watchdogExpiry => exact ⟨_, frame_execWatchdogExpiry, rfl⟩
  | mgtClockStop => exact ⟨_, frame_execMgtClockStop, rfl⟩
  | mgtClockRestart => exact ⟨_, frame_execMgtClockRestart, rfl⟩
  | norProgram => exact ⟨_, frame_execNorProgram _ _ _, rfl⟩
  | norSubsectorErase => exact ⟨_, frame_execNorSubsectorErase _, rfl⟩
  | norSectorErase => exact ⟨_, frame_execNorSectorErase _, rfl⟩
  | norOpComplete => exact ⟨_, frame_execNorOpComplete _, rfl⟩
  | busyBankFault => exact ⟨_, frame_execBusyBankFault _ _, rfl⟩
  | crossingFault => exact ⟨_, frame_execCrossingFault _ _, rfl⟩
  | crossbarRefusal => exact ⟨_, frame_execCrossbarRefusal _ _ _ _, rfl⟩
  | doorbellWrite => exact ⟨_, frame_execDoorbellWrite _ _ _ _, rfl⟩
  | commandFetch => exact ⟨_, frame_execCommandFetch _ _ _, rfl⟩
  | capsuleReceive => exact ⟨_, frame_execCapsuleReceive _ _ _ _, rfl⟩
  | commandArrival => exact ⟨_, frame_execCommandArrival _, rfl⟩
  | acceptanceEnd => exact ⟨_, frame_execAcceptanceEnd _, rfl⟩
  | mapLookupEnd => exact ⟨_, frame_execMapLookupEnd _ _ _ _, rfl⟩
  | entryStart => exact ⟨_, frame_execEntryStart _ _ _ _ _ _, rfl⟩
  | budgetCheck => exact ⟨_, frame_execBudgetCheck _ _, rfl⟩
  | dieReset => exact ⟨_, frame_execDieReset _, rfl⟩
  | transferSlot => exact ⟨_, frame_execTransferSlot _, rfl⟩
  | ldpcDecodeEnd => exact ⟨_, frame_execLdpcDecodeEnd _ _ _ _, rfl⟩
  | retryRead => exact ⟨_, frame_execRetryRead _ _, rfl⟩
  | recoveryRead => exact ⟨_, frame_execRecoveryRead _ _, rfl⟩
  | l3Timeout => exact ⟨_, frame_execL3Timeout _ _, rfl⟩
  | tallyRebuild => exact ⟨_, frame_execTallyRebuild _ _ _, rfl⟩
  | xtsStageEnd => exact ⟨_, frame_execXtsStageEnd _ _ _, rfl⟩
  | sealCheckEnd => exact ⟨_, frame_execSealCheckEnd _ _ _, rfl⟩
  | egressSlotStart => exact ⟨_, frame_execEgressSlotStart _ _ _, rfl⟩
  | egressEnd => exact ⟨_, frame_execEgressEnd _ _ _, rfl⟩
  | zeroReadEgress => exact ⟨_, frame_execZeroReadEgress _ _, rfl⟩
  | completionPostEnd => exact ⟨_, frame_execCompletionPostEnd _ _, rfl⟩
  | hostDataFetchEnd => exact ⟨_, frame_execHostDataFetchEnd _ _, rfl⟩
  | stagingSlotsTaken => exact ⟨_, frame_execStagingSlotsTaken _ _ _, rfl⟩
  | gateLaneGrant => exact ⟨_, frame_execGateLaneGrant _, rfl⟩
  | sealEnd => exact ⟨_, frame_execSealEnd _ _, rfl⟩
  | zeroFillEnd => exact ⟨_, frame_execZeroFillEnd _ _, rfl⟩
  | dramWriteEnd => exact ⟨_, frame_execDramWriteEnd _ _, rfl⟩
  | dayBookSecure => exact ⟨_, frame_execDayBookSecure _, rfl⟩
  | deallocationSecure => exact ⟨_, frame_execDeallocationSecure _, rfl⟩
  | programResult => exact ⟨_, frame_execProgramResult _ _, rfl⟩
  | settlementMessage => exact ⟨_, frame_execSettlementMessage, rfl⟩
  | eraseResult => exact ⟨_, frame_execEraseResult _ _, rfl⟩
  | zoneClaimDone => exact ⟨_, frame_execZoneClaimDone _, rfl⟩
  | slotBinding => exact ⟨_, frame_execSlotBinding _ _ _, rfl⟩
  | evacuationDone => exact ⟨_, frame_execEvacuationDone _ _ _, rfl⟩
  | foldDone => exact ⟨_, frame_execFoldDone _ _ _, rfl⟩
  | tailRingCopy => exact ⟨_, frame_execTailRingCopy _ _, rfl⟩
  | tallyProgram => exact ⟨_, frame_execTallyProgram _ _, rfl⟩
  | accumulatorRebuild => exact ⟨_, frame_execAccumulatorRebuild _, rfl⟩
  | blockVerifyDone => exact ⟨_, frame_execBlockVerifyDone _ _ _, rfl⟩
  | mapCommitMessage => exact ⟨_, frame_execMapCommitMessage _, rfl⟩
  | sourceErase => exact ⟨_, frame_execSourceErase _, rfl⟩
  | spillProgram => exact ⟨_, frame_execSpillProgram, rfl⟩
  | metadataWrite => exact ⟨_, frame_execMetadataWrite _, rfl⟩
  | staleSecuredRecord => exact ⟨_, frame_execStaleSecuredRecord _, rfl⟩
  | segmentTestStart => exact ⟨_, frame_execSegmentTestStart _, rfl⟩
  | segmentTestSample => exact ⟨_, frame_execSegmentTestSample _, rfl⟩
  | testInvalid => exact ⟨_, frame_execTestInvalid, rfl⟩
  | segFault => exact ⟨_, frame_execSegFault _ _, rfl⟩
  | scrubPassStart => exact ⟨_, frame_execScrubPassStart _, rfl⟩
  | drainBatchStart => exact ⟨_, frame_execDrainBatchStart _ _, rfl⟩
  | drainBatchEnd => exact ⟨_, frame_execDrainBatchEnd _, rfl⟩
  | rowCloseTimeout => exact ⟨_, frame_execRowCloseTimeout _, rfl⟩
  | selfRefreshEntry => exact ⟨_, frame_execSelfRefreshEntry, rfl⟩
  | ddrAlert => exact ⟨_, frame_execDdrAlert, rfl⟩
  | bankScrub => exact ⟨_, frame_execBankScrub _ _, rfl⟩
  | bankRetentionEntry => exact ⟨_, frame_execBankRetentionEntry _, rfl⟩
  | bankWakeDone => exact ⟨_, frame_execBankWakeDone _, rfl⟩
  | tamperV => exact ⟨_, frame_execTamperV _ _, rfl⟩
  | tamperClk => exact ⟨_, frame_execTamperClk _ _, rfl⟩
  | tamperShield => exact ⟨_, frame_execTamperShield, rfl⟩
  | wipeDone => exact ⟨_, frame_execWipeDone, rfl⟩
  | srmConflictClr => exact ⟨_, frame_execSrmConflictClr _ _, rfl⟩
  | acquire => exact ⟨_, frame_execAcquire _, rfl⟩
  | release => exact ⟨_, frame_execRelease _, rfl⟩
  | unwrap => exact ⟨_, frame_execUnwrap _ _ _ _, rfl⟩
  | wrapOut => exact ⟨_, frame_execWrapOut _ _, rfl⟩
  | wrapData => exact ⟨_, frame_execWrapData _ _ _, rfl⟩
  | clear => exact ⟨_, frame_execClear _ _, rfl⟩
  | kmOpComplete => exact ⟨_, frame_execKmOpComplete, rfl⟩
  | crySlotSelWrite => exact ⟨_, frame_execCrySlotSelWrite _ _, rfl⟩
  | entropyFail => exact ⟨_, frame_execEntropyFail, rfl⟩
  | entropyStale => exact ⟨_, frame_execEntropyStale _, rfl⟩
  | maskReseed => exact ⟨_, frame_execMaskReseed _, rfl⟩
  | chainRun => exact ⟨_, frame_execChainRun _ _ _, rfl⟩
  | appendCountWrite => exact ⟨_, frame_execAppendCountWrite _ _ _ _, rfl⟩
  | descriptorCopy => exact ⟨_, frame_execDescriptorCopy _ _, rfl⟩
  | descriptorFill => exact ⟨_, frame_execDescriptorFill _ _, rfl⟩
  | fence => exact ⟨_, frame_execFence _ _, rfl⟩
  | linkReadReturn => exact ⟨_, frame_execLinkReadReturn _ _, rfl⟩
  | linkReread => exact ⟨_, frame_execLinkReread _, rfl⟩
  | chainRetry => exact ⟨_, frame_execChainRetry _ _, rfl⟩
  | chainSkip => exact ⟨_, frame_execChainSkip _ _, rfl⟩
  | chainAbort => exact ⟨_, frame_execChainAbort _ _, rfl⟩
  | contextReadComplete => exact ⟨_, frame_execContextReadComplete _ _ _, rfl⟩
  | ctxHalt => exact ⟨_, frame_execCtxHalt _ _ _ _ _, rfl⟩
  | xfrCtxSelWrite => exact ⟨_, frame_execXfrCtxSelWrite _ _, rfl⟩
  | contextRestartRetry => exact ⟨_, frame_execContextRestartRetry _, rfl⟩
  | contextRestartFail => exact ⟨_, frame_execContextRestartFail _, rfl⟩
  | deleteIoSubmissionQueue => exact ⟨_, frame_execDeleteIoSubmissionQueue _ _, rfl⟩
  | createIoSubmissionQueue => exact ⟨_, frame_execCreateIoSubmissionQueue _ _ _ _ _, rfl⟩
  | getLogPage => exact ⟨_, frame_execGetLogPage _ _ _ _ _ _, rfl⟩
  | deleteIoCompletionQueue => exact ⟨_, frame_execDeleteIoCompletionQueue _ _, rfl⟩
  | createIoCompletionQueue => exact ⟨_, frame_execCreateIoCompletionQueue _ _ _ _ _, rfl⟩
  | identify => exact ⟨_, frame_execIdentify _ _ _ _ _, rfl⟩
  | abort => exact ⟨_, frame_execAbort _ _ _, rfl⟩
  | setFeatures => exact ⟨_, frame_execSetFeatures _ _ _ _, rfl⟩
  | powerStateSet => exact ⟨_, frame_execPowerStateSet _ _ _, rfl⟩
  | dozeRequest => exact ⟨_, frame_execDozeRequest _ _, rfl⟩
  | hibernateRequest => exact ⟨_, frame_execHibernateRequest _ _, rfl⟩
  | timestamp => exact ⟨_, frame_execTimestamp _ _ _, rfl⟩
  | getFeatures => exact ⟨_, frame_execGetFeatures _ _ _ _, rfl⟩
  | asynchronousEventRequest => exact ⟨_, frame_execAsynchronousEventRequest _, rfl⟩
  | namespaceManagement => exact ⟨_, frame_execNamespaceManagement _ _ _, rfl⟩
  | firmwareCommitUpdate => exact ⟨_, frame_execFirmwareCommitUpdate _ _ _, rfl⟩
  | firmwareCommitMark => exact ⟨_, frame_execFirmwareCommitMark _ _, rfl⟩
  | firmwareImageDownload => exact ⟨_, frame_execFirmwareImageDownload _ _ _ _, rfl⟩
  | namespaceAttachment => exact ⟨_, frame_execNamespaceAttachment _ _ _, rfl⟩
  | keepAlive => exact ⟨_, frame_execKeepAlive _, rfl⟩
  | virtualizationManagement => exact ⟨_, frame_execVirtualizationManagement _ _ _ _, rfl⟩
  | fabricsConnect => exact ⟨_, frame_execFabricsConnect _ _ _ _ _, rfl⟩
  | propertyGet => exact ⟨_, frame_execPropertyGet _ _ _, rfl⟩
  | propertySet => exact ⟨_, frame_execPropertySet _ _ _ _, rfl⟩
  | disconnect => exact ⟨_, frame_execDisconnect _ _, rfl⟩
  | formatNvm => exact ⟨_, frame_execFormatNvm _ _, rfl⟩
  | mediatedCommand => exact ⟨_, frame_execMediatedCommand _ _ _ _, rfl⟩
  | planSelect => exact ⟨_, frame_execPlanSelect _ _ _, rfl⟩
  | planReqWrite => exact ⟨_, frame_execPlanReqWrite _ _, rfl⟩
  | planStatus => exact ⟨_, frame_execPlanStatus _, rfl⟩
  | accountQuiesce => exact ⟨_, frame_execAccountQuiesce _ _, rfl⟩
  | accountResume => exact ⟨_, frame_execAccountResume _ _, rfl⟩
  | quiesceCut => exact ⟨_, frame_execQuiesceCut _, rfl⟩
  | accountBind => exact ⟨_, frame_execAccountBind _ _ _, rfl⟩
  | accountQuery => exact ⟨_, frame_execAccountQuery _ _, rfl⟩
  | mediationReply => exact ⟨_, frame_execMediationReply _ _ _, rfl⟩
  | keyLoad => exact ⟨_, frame_execKeyLoad _ _ _, rfl⟩
  | mediationReceive => exact ⟨_, frame_execMediationReceive _, rfl⟩
  | restart => exact ⟨_, frame_execRestart _ _, rfl⟩
  | maintenanceRequest => exact ⟨_, frame_execMaintenanceRequest _ _, rfl⟩
  | reserveStatus => exact ⟨_, frame_execReserveStatus _, rfl⟩
  | flush => exact ⟨_, frame_execFlush _, rfl⟩
  | write => exact ⟨_, frame_execWrite _, rfl⟩
  | read => exact ⟨_, frame_execRead _, rfl⟩
  | writeZeroes => exact ⟨_, frame_execWriteZeroes _, rfl⟩
  | datasetManagement => exact ⟨_, frame_execDatasetManagement _, rfl⟩
  | copy => exact ⟨_, frame_execCopy _, rfl⟩
  | zoneClose => exact ⟨_, frame_execZoneClose _, rfl⟩
  | zoneFinish => exact ⟨_, frame_execZoneFinish _, rfl⟩
  | zoneOpen => exact ⟨_, frame_execZoneOpen _, rfl⟩
  | zoneReset => exact ⟨_, frame_execZoneReset _, rfl⟩
  | zoneOffline => exact ⟨_, frame_execZoneOffline _, rfl⟩
  | setZoneDescriptorExtension => exact ⟨_, frame_execSetZoneDescriptorExtension _, rfl⟩
  | reportZones => exact ⟨_, frame_execReportZones _, rfl⟩
  | zoneAppend => exact ⟨_, frame_execZoneAppend _, rfl⟩
  | mintedRead => exact ⟨_, frame_execMintedRead _, rfl⟩
  | controllerReset => exact ⟨_, frame_execControllerReset _, rfl⟩
  | controllerEnable => exact ⟨_, frame_execControllerEnable _ _, rfl⟩
  | vfShutdownNotification => exact ⟨_, frame_execVfShutdownNotification _, rfl⟩
  | flr => exact ⟨_, frame_execFlr _, rfl⟩
  | flrTimeout => exact ⟨_, frame_execFlrTimeout _, rfl⟩
  | sliceEnable => exact ⟨_, frame_execSliceEnable _ _ _ _, rfl⟩
  | sliceDisable => exact ⟨_, frame_execSliceDisable _ _, rfl⟩
  | qsliceApply => exact ⟨_, frame_execQsliceApply _ _, rfl⟩
  | dlogHeadWrite => exact ⟨_, frame_execDlogHeadWrite _ _, rfl⟩
  | cmReq port src => exact ⟨_, show FrameO _ s (execCmReq port src s) from frame_execCmReq port src, rfl⟩
  | ceMarkedPacket => exact ⟨_, frame_execCeMarkedPacket _, rfl⟩
  | cnpReceive => exact ⟨_, frame_execCnpReceive _, rfl⟩
  | rateRecovery => exact ⟨_, frame_execRateRecovery _, rfl⟩
  | pfcPauseReceive => exact ⟨_, frame_execPfcPauseReceive _ _, rfl⟩
  | pfcXon => exact ⟨_, frame_execPfcXon _ _, rfl⟩
  | arpRequest => exact ⟨_, frame_execArpRequest _ _, rfl⟩
  | neighborDiscovery => exact ⟨_, frame_execNeighborDiscovery _ _, rfl⟩
  | wakeFrame => exact ⟨_, frame_execWakeFrame _ _ _ _, rfl⟩
  | linkUp => exact ⟨_, frame_execLinkUp _ _ _, rfl⟩
  | linkDown => exact ⟨_, frame_execLinkDown _ _ _, rfl⟩
  | mintLaneGrant => exact ⟨_, frame_execMintLaneGrant _, rfl⟩
  | mintSetupEnd => exact ⟨_, frame_execMintSetupEnd _, rfl⟩
  | sectorConsume => exact ⟨_, frame_execSectorConsume _ _ _ _ _, rfl⟩
  | mintChunkTurn => exact ⟨_, frame_execMintChunkTurn _ _ _, rfl⟩
  | mintLaneEnd => exact ⟨_, frame_execMintLaneEnd _, rfl⟩
  | abortPointAp2 => exact ⟨_, frame_execAbortPointAp2, rfl⟩
  | abortPointAp3 => exact ⟨_, frame_execAbortPointAp3, rfl⟩
  | mgmtWake => exact ⟨_, frame_execMgmtWake, rfl⟩
  | alarmMatch => exact ⟨_, frame_execAlarmMatch, rfl⟩
  | rtcPeriod => exact ⟨_, frame_execRtcPeriod, rfl⟩
  | sensorSample => exact ⟨_, frame_execSensorSample _ _ _, rfl⟩
  | throttleRise => exact ⟨_, frame_execThrottleRise, rfl⟩
  | wearEvaluation => exact ⟨_, frame_execWearEvaluation, rfl⟩
  | powerOnHour => exact ⟨_, frame_execPowerOnHour, rfl⟩
  | loopSample => exact ⟨_, frame_execLoopSample _ _, rfl⟩
  | loopOutput => exact ⟨_, frame_execLoopOutput _, rfl⟩
  | profileStep => exact ⟨_, frame_execProfileStep, rfl⟩
  | settleLate => exact ⟨_, frame_execSettleLate _, rfl⟩
  | loopCloseWrite => exact ⟨_, frame_execLoopCloseWrite _ _ _, rfl⟩
  | coefWrite => exact ⟨_, frame_execCoefWrite _ _ _ _, rfl⟩
  | setpointWrite => exact ⟨_, frame_execSetpointWrite _ _ _, rfl⟩
  | loop1Reclose => exact ⟨_, frame_execLoop1Reclose, rfl⟩
  | entdaa => exact ⟨_, frame_execEntdaa _, rfl⟩
  | rstdaa => exact ⟨_, frame_execRstdaa, rfl⟩
  | setdasa => exact ⟨_, frame_execSetdasa _ _, rfl⟩
  | setnewda => exact ⟨_, frame_execSetnewda _ _, rfl⟩
  | getpid => exact ⟨_, frame_execGetpid _, rfl⟩
  | getbcr => exact ⟨_, frame_execGetbcr _, rfl⟩
  | getdcr => exact ⟨_, frame_execGetdcr _, rfl⟩
  | getstatus => exact ⟨_, frame_execGetstatus _, rfl⟩
  | getmwl => exact ⟨_, frame_execGetmwl _, rfl⟩
  | getmrl => exact ⟨_, frame_execGetmrl _, rfl⟩
  | setmwl => exact ⟨_, frame_execSetmwl _ _, rfl⟩
  | setmrl => exact ⟨_, frame_execSetmrl _ _, rfl⟩
  | enec => exact ⟨_, frame_execEnec _, rfl⟩
  | disec => exact ⟨_, frame_execDisec _, rfl⟩
  | mctpPacketWrite => exact ⟨_, frame_execMctpPacketWrite _ _, rfl⟩
  | mctpPacketRead => exact ⟨_, frame_execMctpPacketRead _, rfl⟩
  | setEndpointId => exact ⟨_, frame_execSetEndpointId _ _, rfl⟩
  | getEndpointId => exact ⟨_, frame_execGetEndpointId _, rfl⟩
  | getEndpointUuid => exact ⟨_, frame_execGetEndpointUuid _, rfl⟩
  | getMctpVersionSupport => exact ⟨_, frame_execGetMctpVersionSupport _ _, rfl⟩
  | getMessageTypeSupport => exact ⟨_, frame_execGetMessageTypeSupport _, rfl⟩
  | readNvmeMiDataStructure => exact ⟨_, frame_execReadNvmeMiDataStructure _ _, rfl⟩
  | nvmSubsystemHealthStatusPoll => exact ⟨_, frame_execNvmSubsystemHealthStatusPoll _, rfl⟩
  | controllerHealthStatusPoll => exact ⟨_, frame_execControllerHealthStatusPoll _ _, rfl⟩
  | configurationSet => exact ⟨_, frame_execConfigurationSet _ _ _, rfl⟩
  | configurationGet => exact ⟨_, frame_execConfigurationGet _ _, rfl⟩
  | miReset => exact ⟨_, frame_execMiReset _, rfl⟩
  | getChallenge => exact ⟨_, frame_execGetChallenge _, rfl⟩
  | eventLogRead => exact ⟨_, frame_execEventLogRead _ _ _, rfl⟩
  | eventLogClear => exact ⟨_, frame_execEventLogClear _ _, rfl⟩
  | calibrationRowRead => exact ⟨_, frame_execCalibrationRowRead _, rfl⟩
  | calibrationRowWrite => exact ⟨_, frame_execCalibrationRowWrite _ _, rfl⟩
  | provision => exact ⟨_, frame_execProvision _ _, rfl⟩
  | decommission => exact ⟨_, frame_execDecommission _ _, rfl⟩
  | factoryTestVerifySlot => exact ⟨_, frame_execFactoryTestVerifySlot _ _, rfl⟩
  | factoryTestAlert => exact ⟨_, frame_execFactoryTestAlert _, rfl⟩
  | factoryAlertPulseEnd => exact ⟨_, frame_execFactoryAlertPulseEnd, rfl⟩
  | factoryTestEntropy => exact ⟨_, frame_execFactoryTestEntropy _ _, rfl⟩
  | challengeNew => exact ⟨_, frame_execChallengeNew _, rfl⟩
  | nonceExpiry => exact ⟨_, frame_execNonceExpiry _, rfl⟩
  | authLockoutEnd => exact ⟨_, frame_execAuthLockoutEnd _, rfl⟩
  | causeLeafSet => exact ⟨_, frame_execCauseLeafSet _ _, rfl⟩
  | causeLeafClear => exact ⟨_, frame_execCauseLeafClear _ _ _, rfl⟩
  | alertNUpdate => exact ⟨_, frame_execAlertNUpdate, rfl⟩
  | evtRecordProgram => exact ⟨_, frame_execEvtRecordProgram, rfl⟩
  | evtProgramDone => exact ⟨_, frame_execEvtProgramDone _, rfl⟩
  | evtRdSelWrite => exact ⟨_, frame_execEvtRdSelWrite _ _, rfl⟩
  | medZqSelWrite => exact ⟨_, frame_execMedZqSelWrite _ _, rfl⟩
  | traceArm => exact ⟨_, frame_execTraceArm _ _, rfl⟩
  | extwaitClear => exact ⟨_, frame_execExtwaitClear _ _, rfl⟩
  | tickLoRead => exact ⟨_, frame_execTickLoRead _, rfl⟩
  | timeLoRead => exact ⟨_, frame_execTimeLoRead _, rfl⟩
  | registerWrite => exact ⟨_, frame_execRegisterWrite _ _ _, rfl⟩
  | segmentCharged => exact ⟨_, frame_execSegmentCharged _ _, rfl⟩
  | tallyForwardCopy => exact ⟨_, frame_execTallyForwardCopy _ _, rfl⟩
  | retentionRefreshDue => exact ⟨_, frame_execRetentionRefreshDue _ _, rfl⟩
  | cqHeadWrite => exact ⟨_, frame_execCqHeadWrite _ _ _, rfl⟩
  | vfEnable => exact ⟨_, frame_execVfEnable _, rfl⟩
  | pcieLinkDown => exact ⟨_, frame_execPcieLinkDown, rfl⟩
  | keepAliveTimeout => exact ⟨_, frame_execKeepAliveTimeout _, rfl⟩
  | pfcPauseExpiry => exact ⟨_, frame_execPfcPauseExpiry _ _, rfl⟩
  | tckEdge => exact ⟨_, frame_execTckEdge _ _, rfl⟩
  | trstNAssert => exact ⟨_, frame_execTrstNAssert, rfl⟩

/-- Settles O5: each command's frame lies within its footprint. -/
theorem footprintKept : Obligations.FootprintKept := by
  intro c s t h
  obtain ⟨m, hframe, hwithin⟩ := exec_frame c s
  exact onlyIn_of_maskWithin (hframe t h) hwithin

end Sys2Proof.Machine
end

section
/-!
PERST_N, CLKREQ_N and the PCIe link (R35, R84, R99, R502).
-/
set_option Elab.async false

namespace Sys2Proof.Machine

/-- A PCIe reset leaves what lies outside the PCIe path (R99). -/
theorem pcieReset_frame (s : State) : Frame 2014721 s s.pcieReset := frame_pcieReset rfl (frame_refl _ s)

/-- PERST_N low where HST is powered and fills are done: the PCIe reset and no more than it (R99). -/
theorem exec_perstNAssert_powered (s : State) (hhst : s.islandOn .hst = true) (hmode : s.mode ≠ .fill) :
    exec .perstNAssert s = .next ({ s with pins := { s.pins with perstN := false } } : State).pcieReset := by
  simp only [exec, execPerstNAssert, hhst, hmode, ne_eq, not_false_eq_true, decide_true, Bool.and_self, if_true]

theorem exec_perstNAssert_unpowered (s : State) (hhst : s.islandOn .hst = false) :
    exec .perstNAssert s = .next { s with
      pins := { s.pins with perstN := false }, host := { s.host with linkUp := false } } := by
  simp only [exec, execPerstNAssert, hhst, Bool.false_and, Bool.false_eq_true, if_false]

theorem exec_perstNRelease_low (s : State) (hlow : s.pins.perstN = false) :
    exec .perstNRelease s = .next (({ s with pins := { s.pins with perstN := true } } : State).wakeEvent 2) := by
  simp only [exec, execPerstNRelease, hlow, Bool.false_eq_true, if_false]

theorem exec_perstNRelease_high (s : State) (hhigh : s.pins.perstN = true) : exec .perstNRelease s = .next s := by
  simp only [exec, execPerstNRelease, hhigh, if_true]

/-- A wake event that is not enabled is none (R502). -/
theorem wakeEvent_disabled (s : State) (src : Nat) (hoff : s.wakeEnabled src = false) : s.wakeEvent src = s := by
  simp only [State.wakeEvent, hoff, Bool.not_false, if_true]

/-- In HIBERNATE with no entry under way, the first enabled event that ends it is the wake source (R502). -/
theorem wakeEvent_hibernate (s : State) (src : Nat) (hon : s.wakeEnabled src = true) (hmode : s.mode = .hibernate)
    (hends : wakesFrom .hibernate src = true) (hsleep : s.pwr.sleep = none) (hfirst : s.pwr.wakeSrc = none) :
    s.wakeEvent src = { s with
      pwr := { s.pwr with wakeSeen := some (src, s.ldg.tick), wakeSrc := some src },
      mgt := { s.mgt with clockStopped := false } } := by
  simp [State.wakeEvent, hon, hsleep, hmode, hends, hfirst]

theorem exec_pcieLinkUp_trains (s : State) (gen width mps : Nat) (hhst : s.islandOn .hst = true) (hperst : s.pins.perstN = true) :
    exec (.pcieLinkUp ⟨gen, width, mps⟩) s = .next { s with
      host := { s.host with linkUp := true, linkGen := gen, linkWidth := width, linkMps := mps } } := by
  simp only [exec, execPcieLinkUp, hhst, hperst, Bool.and_self, if_true]

theorem exec_pcieLinkUp_held (s : State) (link : LinkUp) (hperst : s.pins.perstN = false) : exec (.pcieLinkUp link) s = .next s := by
  simp only [exec, execPcieLinkUp, hperst, Bool.and_false, Bool.false_eq_true, if_false]

theorem exec_pcieLinkDown_powered (s : State) (hhst : s.islandOn .hst = true) :
    exec .pcieLinkDown s = .next { s with host := { s.host with linkUp := false } } := by
  simp only [exec, execPcieLinkDown, hhst, if_true]

/-- Settles O18: each clause is a branch of the signal's meaning, and the reset's frame gives what it leaves. -/
theorem pcieSideband : Obligations.PcieSideband := by
  refine ⟨?_, exec_perstNAssert_unpowered, exec_perstNRelease_low, exec_perstNRelease_high, ?_, ?_, exec_pcieLinkUp_trains, ?_,
    exec_pcieLinkDown_powered⟩
  · intro s hhst hmode
    have hframe := pcieReset_frame { s with pins := { s.pins with perstN := false } }
    exact ⟨_, exec_perstNAssert_powered s hhst hmode, rfl, hframe.mode.resolve_left (by decide), hframe.pins.resolve_left (by decide),
      hframe.nor.resolve_left (by decide), hframe.loops.resolve_left (by decide), hframe.rsv.resolve_left (by decide)⟩
  · intro s hon hmode hsleep hfirst
    exact congrArg Host.Outcome.next (wakeEvent_hibernate s 1 hon hmode rfl hsleep hfirst)
  · intro s hoff
    exact congrArg Host.Outcome.next (wakeEvent_disabled s 1 hoff)
  · intro s gen width mps hperst
    exact exec_pcieLinkUp_held s ⟨gen, width, mps⟩ hperst

end Sys2Proof.Machine
end

section
/-!
Fields of words: what a field reads after it is written.
-/
set_option Elab.async false

namespace Sys2Proof.Machine

theorem testBit_getField {n : Nat} (w : BitVec n) (lo width i : Nat) :
    (getField w lo width).testBit i = (decide (i < width) && w.getLsbD (lo + i)) := by
  rw [getField, Nat.testBit_mod_two_pow, Nat.testBit_div_two_pow, BitVec.testBit_toNat, Nat.add_comm]

/-- A field that lies in the word reads what was written to it, modulo its size. -/
theorem getField_setField_same {n : Nat} (w : BitVec n) (lo width v : Nat) (h : lo + width ≤ n) :
    getField (setField w lo width v) lo width = v % 2 ^ width := by
  refine Nat.eq_of_testBit_eq fun i => ?_
  rw [testBit_getField, Nat.testBit_mod_two_pow]
  by_cases hi : i < width
  · have hn : lo + i < n := by omega
    have hmask : ((2 ^ width - 1) * 2 ^ lo).testBit (lo + i) = true := by
      rw [Nat.testBit_mul_two_pow, Nat.testBit_two_pow_sub_one]; simp [hi]
    have hval : (v % 2 ^ width * 2 ^ lo).testBit (lo + i) = v.testBit i := by
      rw [Nat.testBit_mul_two_pow, Nat.testBit_mod_two_pow]; simp [hi]
    simp only [setField, BitVec.getLsbD_or, BitVec.getLsbD_and, BitVec.getLsbD_not, BitVec.getLsbD_ofNat, hmask, hval, hi, hn,
      decide_true, Bool.and_self, Bool.not_true, Bool.and_false, Bool.false_or, Bool.true_and]
  · simp [hi]

theorem fld_setFld_same (s : State) (o lo width v : Nat) (h : lo + width ≤ 32) :
    (s.setFld o lo width v).fld o lo width = v % 2 ^ width := by
  rw [State.fld, reg_setFld_same, getField_setField_same _ _ _ _ h]

end Sys2Proof.Machine
end

section
/-!
Resets and restarts of processors, the watchdog and MGT's clock (R33, R125, R126, R530, R557).
-/
set_option Elab.async false

namespace Sys2Proof.Machine

/-! ## Processors -/

/-- A processor that does not hold the key-management lock leaves key management alone when it is reset (R33). -/
theorem kmIslandReset_of_not_owner (s : State) (id : Nat) (h : s.kmOwner ≠ id) : s.kmIslandReset id = s := by
  simp only [State.kmIslandReset, h, decide_false, Bool.and_false, Bool.false_eq_true, if_false]

/-- A fault of a media processor that is up and holds no lock marks it down (R33). -/
theorem exec_processorFault_mdp (s : State) (n : Fin 4) (hmdp : s.islandOn .mdp = true) (hup : n.val ∉ s.mgt.mdpDown)
    (hlock : s.kmOwner ≠ 1 + n.val) :
    exec (.processorFault (.mdp n)) s = .next { s with mgt := { s.mgt with mdpDown := n.val :: s.mgt.mdpDown } } := by
  have hprocUp : s.procUp (.mdp n) = true := by simp [State.procUp, hmdp, hup]
  simp only [exec, execProcessorFault, hprocUp, if_true, procId, kmIslandReset_of_not_owner s _ hlock]

theorem exec_processorFault_mp (s : State) (hmgt : s.islandOn .mgt = true) (hmp : s.mgt.mp = .running) :
    exec (.processorFault .mp) s = .next s.mpReset := by
  simp only [exec, execProcessorFault, State.procUp, hmgt, hmp, decide_true, Bool.and_self, if_true]

/-- Outside LOAD a reset of the MP restarts it with its clock running and drops the pending bus fault (R33). -/
theorem mpReset_outside_load (s : State) (hmode : s.mode ≠ .load) :
    s.mpReset.mode = s.mode ∧ s.mpReset.mgt.mp = .restarting ∧ s.mpReset.mgt.clockStopped = false ∧ s.mpReset.nor.busFault = none := by
  have hkeep : (s.kmIslandReset 0).mode = s.mode := kmIslandReset_mode s 0
  have hnot : ¬ (s.kmIslandReset 0).mode = .load := by rwa [hkeep]
  simp only [State.mpReset, hnot, if_false, and_self, and_true]
  exact hkeep

/-- The end of the MP's restart: its reset values, MP_RESTART, and the update that it interrupted (R33, R125). -/
theorem exec_islandRestartComplete_mp (s : State) (hmp : s.mgt.mp = .restarting) :
    exec (.islandRestartComplete .mp) s = .next (s.mpRelease.raise .mgtCause 2).updRestart := by
  simp only [exec, execIslandRestartComplete, hmp, if_true]

/-- A restarted MP finds the watchdog's count at 65,536 (R557). -/
theorem mpRelease_watchdog (s : State) : s.mpRelease.fld Reg.mgtWdogStatus 0 17 = 65536 :=
  fld_setFld_same s Reg.mgtWdogStatus 0 17 65536 (by decide)

/-! ## The watchdog -/

/-- The right key restarts the count and does no more (R126). -/
theorem exec_watchdogKick_key (s : State) (hacts : s.mpActs = true) :
    exec (.watchdogKick 0xA5C3) s = .next (s.setFld Reg.mgtWdogStatus 0 17 65536) := by
  simp only [exec, execWatchdogKick, hacts, if_true]

/-- Another key is WDOG_BAD_KEY and an expiry (R126). -/
theorem exec_watchdogKick_badKey (s : State) (k : BitVec 16) (hacts : s.mpActs = true) (hkey : k ≠ 0xA5C3) :
    exec (.watchdogKick k) s = .next (s.raise .mgtCause 1).watchdogExpire := by
  simp only [exec, execWatchdogKick, hacts, hkey, if_true, if_false]

theorem exec_watchdogExpiry_zero (s : State) (hacts : s.mpActs = true) (hzero : s.fld Reg.mgtWdogStatus 0 17 = 0) :
    exec .watchdogExpiry s = .next s.watchdogExpire := by
  simp only [exec, execWatchdogExpiry, hacts, hzero, decide_true, Bool.and_self, if_true]

/-- An expiry while the boot flash is busy halts the MP until the operation has ended (R126). -/
theorem watchdogExpire_norBusy (s : State) (hbusy : s.nor.op.isSome = true) :
    s.watchdogExpire.mgt.mp = .halted ∧ s.watchdogExpire.nor.haltMp = true ∧ s.watchdogExpire.nor.op = s.nor.op ∧
      s.watchdogExpire.mode = s.mode := by
  have hframe : Frame 1537 s ((s.countFld Reg.mgtWdogStatus 24 8 1).raiseEach .mgtCause 0) :=
    frame_raiseEach _ _ rfl (frame_countFld _ _ _ _ rfl (frame_refl _ s))
  have hnor := hframe.nor.resolve_left (by decide)
  have hmode := hframe.mode.resolve_left (by decide)
  rw [State.watchdogExpire]
  generalize (s.countFld Reg.mgtWdogStatus 24 8 1).raiseEach .mgtCause 0 = s1 at hnor hmode
  simp only [hnor, hbusy, if_true]
  obtain ⟨r, e, p, m, d, c, hraise⟩ := raise_form ({ s1 with
    mgt := { s1.mgt with mp := .halted }, nor := { s.nor with haltMp := true } } : State) .norCause 3
  rw [hraise]
  exact ⟨rfl, rfl, rfl, hmode⟩

/-! ## MGT's clock -/

/-- The MP may stop its clock in DOZE and in MAINTENANCE (R530). -/
theorem exec_mgtClockStop_allowed (s : State) (hacts : s.mpActs = true) (hmode : s.mode = .doze ∨ s.mode = .maintenance) :
    exec .mgtClockStop s = .next { s with mgt := { s.mgt with clockStopped := true, stopped := 0 } } := by
  simp only [exec, execMgtClockStop, hacts, hmode, Bool.or_eq_true, decide_eq_true_eq, Bool.true_and, if_true]

/-- Settles O21: one equation for each event, the frames of raised causes giving what an expiry keeps. -/
theorem processorsAndWatchdog : Obligations.ProcessorsAndWatchdog := by
  refine ⟨exec_processorFault_mdp, ?_, ?_, fun s n => rfl, exec_watchdogKick_key, exec_watchdogKick_badKey, ?_,
    exec_mgtClockStop_allowed, fun s => rfl⟩
  · intro s hmgt hmp hmode
    exact ⟨_, exec_processorFault_mp s hmgt hmp, mpReset_outside_load s hmode⟩
  · intro s hmp
    exact ⟨exec_islandRestartComplete_mp s hmp, rfl, mpRelease_watchdog s⟩
  · intro s hacts hzero hbusy
    exact ⟨_, exec_watchdogExpiry_zero s hacts hzero, watchdogExpire_norBusy s hbusy⟩

end Sys2Proof.Machine
end

section
/-!
Crossing faults (R17), the crossbar (R18, R19, R189) and doorbells (R562).
-/
set_option Elab.async false

namespace Sys2Proof.Machine

/-! ## The crossbar -/

/-- The round robin picks the port of `ports` that is nearest the pointer, going up. -/
theorem firstFrom_nearest {ptr n : Nat} {ports : List Nat} (hptr : ptr < 16) (hn : n < 16) (hmem : n ∈ ports)
    (hnear : ∀ p ∈ ports, (n + 16 - ptr) % 16 ≤ (p + 16 - ptr) % 16) : firstFrom ptr ports = some n := by
  rw [firstFrom, List.find?_eq_some_iff_getElem]
  refine ⟨List.contains_iff_mem.mpr hmem, (n + 16 - ptr) % 16, by simp; omega, by simp; omega, fun j hj => ?_⟩
  simp only [List.getElem_map, List.getElem_range, Bool.not_eq_true', List.contains_eq_mem, decide_eq_false_iff_not]
  intro hbefore
  have := hnear _ hbefore
  omega

/-- Where no port owns the target, the pointer picks. -/
theorem xbarWinner_unowned (ptr : Nat) (ports : List Nat) : xbarWinner ptr [] ports = firstFrom ptr ports := by
  have hnone : firstFrom ptr (ports.filter (fun p => ([] : List Nat).contains p)) = none := by simp [firstFrom]
  rw [xbarWinner, hnone]

/-- Fewer than two ports do not meet. -/
theorem xbarServe_of_short (s : State) (t : XbarTarget) (addr : Nat) {ports : List Nat} (fuel : Nat) (h : ports.length < 2) :
    s.xbarServe t addr ports fuel = s := by
  cases fuel with
  | zero => rfl
  | succ n => simp only [State.xbarServe, h, decide_true, Bool.true_or, if_true]

/-- Two ports that meet at MEM, which no port owns, are ordered by the pointer, and it moves behind the first (R189). -/
theorem xbarServe_mem_pair (s : State) (addr fuel w : Nat) (ports : List Nat) (hlen : 2 ≤ ports.length)
    (hrest : (ports.filter (fun p => decide (p ≠ w))).length < 2) (hfirst : firstFrom (cget 0 s.xfr.xbarPtr 1) ports = some w) :
    s.xbarServe .mem addr ports (fuel + 1) = { s with xfr := { s.xfr with xbarPtr := cset 0 s.xfr.xbarPtr 1 ((w + 1) % 16) } } := by
  have hshort : ¬ ports.length < 2 := by omega
  have hwin : xbarWinner (cget 0 s.xfr.xbarPtr 1) [] ports = some w := by
    rw [xbarWinner_unowned, hfirst]
  have hlost : ∀ (l : List Nat) (u : State), l.foldl (fun s p => s.lostCycle .mem addr p) u = u := by
    intro l
    induction l with
    | nil => exact fun u => rfl
    | cons p l ih => exact fun u => ih u
  simp only [State.xbarServe, hshort, xbarCode, xbarOwners, hwin, decide_false, Bool.false_or, hlost, reduceCtorEq, Bool.false_eq_true,
    if_false, List.contains_nil]
  exact xbarServe_of_short _ _ _ _ hrest

theorem length_lt_two_of_subset_singleton {l : List Nat} {p : Nat} (hnodup : l.Nodup) (hsub : l ⊆ [p]) : l.length < 2 := by
  match l, hnodup, hsub with
  | [], _, _ => exact Nat.zero_lt_two
  | [a], _, _ => exact Nat.one_lt_two
  | a :: b :: l, hnodup, hsub =>
    have ha : a = p := List.mem_singleton.mp (hsub List.mem_cons_self)
    have hb : b = p := List.mem_singleton.mp (hsub (List.mem_cons_of_mem _ List.mem_cons_self))
    exact absurd (ha.trans hb.symm) ((List.pairwise_cons.mp hnodup).1 b List.mem_cons_self)

theorem two_le_length_of_mem {l : List Nat} {p q : Nat} (hp : p ∈ l) (hq : q ∈ l) (hne : p ≠ q) : 2 ≤ l.length := by
  match l, hp, hq with
  | [a], hp, hq => exact absurd ((List.mem_singleton.mp hp).trans (List.mem_singleton.mp hq).symm) hne
  | a :: b :: l, _, _ => exact Nat.le_add_left 2 l.length

/-- A request with no rival meets none, and only a refusal leaves a trace: the port and the address latched (R19). -/
theorem exec_crossbarRefusal_alone (s : State) (p : Nat) (tg : XbarTarget) (w : Bool) (a : Nat) (hp : p < 16) :
    exec (.crossbarRefusal ⟨p, []⟩ tg w a) s = .next (if s.xbarOk p tg w a then s
      else { s with xfr := { s.xfr with xbarErr := some ⟨p, a, true, !w⟩ } }) := by
  have hport : ¬ 16 ≤ p := by omega
  have hmeet : ((List.range 16).filter (fun q => s.xbarOk p tg w a && decide (q = p))).length < 2 :=
    length_lt_two_of_subset_singleton (List.nodup_range.filter _) (p := p) fun q hq =>
      List.mem_singleton.mpr (of_decide_eq_true (Bool.and_eq_true_iff.mp (List.mem_filter.mp hq).2).2)
  simp only [exec, execCrossbarRefusal, hport, if_false, List.contains_nil, Bool.false_and, Bool.or_false,
    xbarServe_of_short _ _ _ _ hmeet]

/-- The listed ports among `p` and a rival `q` that meet at MEM, in the order of their numbers. -/
def State.pairMeet (s : State) (p q : Nat) (w : Bool) : List Nat :=
  (List.range 16).filter (fun r => (true && decide (r = p)) || ([q].contains r && decide (r ≠ p) && xbarListed s.mode r .mem w))

theorem pairMeet_nodup (s : State) (p q : Nat) (w : Bool) : (s.pairMeet p q w).Nodup := List.nodup_range.filter _

theorem mem_pairMeet {s : State} {p q r : Nat} {w : Bool} (hp : p < 16) (hq : q < 16) (hne : p ≠ q)
    (hlistq : xbarListed s.mode q .mem w = true) : r ∈ s.pairMeet p q w ↔ r = p ∨ r = q := by
  simp only [State.pairMeet, List.mem_filter, List.mem_range, Bool.true_and, Bool.or_eq_true, decide_eq_true_eq, Bool.and_eq_true,
    List.contains_eq_mem, List.mem_singleton]
  constructor
  · rintro ⟨-, h | ⟨⟨h, -⟩, -⟩⟩
    · exact Or.inl h
    · exact Or.inr h
  · rintro (rfl | rfl)
    · exact ⟨hp, Or.inl rfl⟩
    · exact ⟨hq, Or.inr ⟨⟨rfl, hne.symm⟩, hlistq⟩⟩

/-- Two listed requests that meet at MEM: the one nearest the pointer goes first, and the pointer moves behind it (R189). -/
theorem exec_crossbarRefusal_meeting (s : State) (p q n : Nat) (w : Bool) (a : Nat) (hp : p < 15) (hq : q < 15) (hne : p ≠ q)
    (hlistp : xbarListed s.mode p .mem w = true) (hlistq : xbarListed s.mode q .mem w = true) (hptr : cget 0 s.xfr.xbarPtr 1 < 16)
    (hnear : n = if (p + 16 - cget 0 s.xfr.xbarPtr 1) % 16 < (q + 16 - cget 0 s.xfr.xbarPtr 1) % 16 then p else q) :
    exec (.crossbarRefusal ⟨p, [q]⟩ .mem w a) s = .next { s with xfr := { s.xfr with
      xbarPtr := cset 0 s.xfr.xbarPtr 1 ((n + 1) % 16) } } := by
  have hport : ¬ 16 ≤ p := by omega
  have hok : s.xbarOk p .mem w a = true := by
    have : p ≠ 15 := by omega
    simp [State.xbarOk, hlistp, this]
  have hmem {r : Nat} : r ∈ s.pairMeet p q w ↔ r = p ∨ r = q := mem_pairMeet (Nat.lt_succ_of_lt hp) (Nat.lt_succ_of_lt hq) hne hlistq
  have hn : n = p ∨ n = q := by rw [hnear]; split <;> simp
  have hfirst : firstFrom (cget 0 s.xfr.xbarPtr 1) (s.pairMeet p q w) = some n := by
    refine firstFrom_nearest hptr (by omega) (hmem.mpr hn) fun r hr => ?_
    rcases hmem.mp hr with rfl | rfl <;> rw [hnear] <;> split <;> omega
  have htwo : 2 ≤ (s.pairMeet p q w).length := two_le_length_of_mem (hmem.mpr (Or.inl rfl)) (hmem.mpr (Or.inr rfl)) hne
  have hrest : ((s.pairMeet p q w).filter (fun r => decide (r ≠ n))).length < 2 := by
    refine length_lt_two_of_subset_singleton ((pairMeet_nodup s p q w).filter _) (p := p + q - n) fun r hr => ?_
    simp only [List.mem_filter, hmem, decide_eq_true_eq] at hr
    simp only [List.mem_singleton]
    omega
  simp only [exec, execCrossbarRefusal, hport, hok, if_false, if_true]
  exact congrArg Host.Outcome.next (xbarServe_mem_pair s a 15 n (s.pairMeet p q w) htwo hrest hfirst)

/-! ## Late crossings -/

/-- A late crossing is counted, and its stage says what follows (R17; the count is log entry 127). -/
def State.countCrossing (s : State) : State := { s with host := { s.host with crossFaults := s.host.crossFaults + 1 } }

section
variable (s : State) (h i : Nat) (c : Cmd) (x : Sec) (hsec : s.sec h i = some (c, x))
include hsec

/-- A write that is not secure ends with a free status (R17; the status is log entry 14). -/
theorem exec_crossingFault_write (hstage : crossEffect (writeType c.op && !x.copySrc) x.st = .write) (hopen : c.secured = false) :
    exec (.crossingFault h i) s = .next ((s.countCrossing.endWrite h (stOpen 1)).kick) := by
  simp only [exec, execCrossingFault, hsec, hstage, hopen, Bool.false_eq_true, if_false, State.countCrossing]

/-- A read sector is handled as a failed decode (R17). -/
theorem exec_crossingFault_decode (hstage : crossEffect (writeType c.op && !x.copySrc) x.st = .decode) :
    exec (.crossingFault h i) s = .next ((s.countCrossing.failDecode h i c x).kick) := by
  simp only [exec, execCrossingFault, hsec, hstage, State.countCrossing]

/-- A stage without data fails (R17). -/
theorem exec_crossingFault_stage (hstage : crossEffect (writeType c.op && !x.copySrc) x.st = .stage) :
    exec (.crossingFault h i) s = .next ((s.countCrossing.stageFails h i c x).kick) := by
  simp only [exec, execCrossingFault, hsec, hstage, State.countCrossing]

/-- A Minted Read's consumed sector ends its lane (R17). -/
theorem exec_crossingFault_consumed (l : Nat) (hst : x.st = .consumed) (hlane : c.lane = some l) :
    exec (.crossingFault h i) s = .next (s.countCrossing.mintEnd l stUnrecoveredRead) := by
  simp only [exec, execCrossingFault, hsec, hst, crossEffect, hlane, State.countCrossing]

/-- A sector that has left is counted and no more (R17). -/
theorem exec_crossingFault_left (hst : x.st = .left) : exec (.crossingFault h i) s = .next s.countCrossing := by
  simp only [exec, execCrossingFault, hsec, hst, crossEffect, State.countCrossing]

end

/-! ## Doorbells -/

section
variable (s : State) (f qid v : Nat) (hhst : s.islandOn .hst = true) (hlink : s.host.linkUp = true)
include hhst hlink

/-- A completion doorbell moves its queue's head (R562). -/
theorem exec_doorbellWrite_head (q : CqSt) (hq : ofind (s.ctrl f).cqs qid = some q) (hv : v < q.size) :
    exec (.doorbellWrite f qid true v) s =
      .next (s.setCtrl f { s.ctrl f with cqs := oput (s.ctrl f).cqs qid { q with head := v } }) := by
  simp only [exec, execDoorbellWrite, hhst, hlink, hq, hv, Bool.not_true, Bool.or_self, Bool.false_eq_true, if_false, if_true]

/-- A submission doorbell moves its queue's tail and asks for the new entries (R562), unless the value lies beyond the queue. -/
theorem exec_doorbellWrite_tail (i : Nat) (q : IoQueue) (hqid : qid ≠ 0) (hq : s.findQueue f qid = some (i, q)) :
    exec (.doorbellWrite f qid false v) s = .next (if v < q.size then
        (s.setQueue i { q with tail := v, waiting := q.waiting + (v + q.size - q.tail) % q.size }).queueReads f 0 i
          ((v + q.size - q.tail) % q.size)
      else s.asyncEvent f 0x00010100#32) := by
  simp only [exec, execDoorbellWrite, hhst, hlink, hq, hqid, Bool.not_true, Bool.or_self, Bool.false_eq_true, if_false]

end

/-- Settles O24: the equations above; a meeting at MEM rests on the round robin's choice of the nearest port. -/
theorem fabricAndDoorbells : Obligations.FabricAndDoorbells := by
  refine ⟨?_, ?_, ?_, exec_crossingFault_write, exec_crossingFault_decode, exec_crossingFault_stage,
    fun s h i l c x hsec => exec_crossingFault_consumed s h i c x hsec l, exec_crossingFault_left,
    fun s f qid v q hhst hlink => exec_doorbellWrite_head s f qid v hhst hlink q, ?_, ?_⟩
  · intro s p tg w a hp hok
    rw [exec_crossbarRefusal_alone s p tg w a hp, hok, if_neg Bool.false_ne_true]
  · intro s p tg w a hp hok
    rw [exec_crossbarRefusal_alone s p tg w a hp, hok, if_pos rfl]
  · rintro s p q v n w a hp hq hne hlistp hlistq rfl hptr hnear
    exact exec_crossbarRefusal_meeting s p q n w a hp hq hne hlistp hlistq hptr hnear
  · intro s f qid v i q hhst hlink hqid hq hv
    rw [exec_doorbellWrite_tail s f qid v hhst hlink i q hqid hq, if_pos hv]
  · intro s f qid v i q hhst hlink hqid hq hv
    rw [exec_doorbellWrite_tail s f qid v hhst hlink i q hqid hq, if_neg (Nat.not_lt.mpr hv)]

end Sys2Proof.Machine
end

section
/-!
The steps of a write: staging slots, host data, gate lane, seal, DRAM write, secure stage and deallocation (R27, R147, R292, R387, R388,
R393, R421, R422).
-/
set_option Elab.async false

namespace Sys2Proof.Machine

/-! ## Staging slots (R387) -/

/-- A command whose own data reads no host memory: a network write has its data, a Copy and a Write Zeroes read none. -/
def asksNoData (c : Cmd) : Bool := c.net || decide (c.op = .copy) || decide (c.op = .writeZeroes)

/-- A command's record and the slots it takes in staging, before any data read is asked for. -/
def State.takeSlots (s : State) (h : Nat) (c : Cmd) : State :=
  let c1 := if c.op = .copy || c.op = .writeZeroes then c.waited c.waitFrom s.ldg.tick else c
  let s1 := (s.setCmd h { c1 with staged := slotCount c, hold := holdCount c, pooled := true }).modRec c.seq
    (fun r => { r with stage := s.db.stageNext })
  { s1 with db := { s1.db with stageNext := (s.db.stageNext + slotCount c) % stageSlots } }

/-- A running, admitted write that may stage takes its slots, and a PCIe Write or Append asks for its data (R387). -/
theorem exec_stagingSlotsTaken (s : State) (h l d : Nat) (c : Cmd) (hcmd : s.cmd h = some c) (hrun : c.phase = .running)
    (hwrite : writeType c.op = true) (hadm : c.admitted = true) (hpool : c.pooled = false) (hopen : c.secured = false)
    (hmay : s.mayStage c = true) :
    exec (.stagingSlotsTaken h l d) s = .next (if asksNoData c then s.takeSlots h c
      else ((s.takeSlots h c).queueReads c.account 1 h l).queueReads c.account 2 h d) := by
  have hguard : (decide (c.phase = .running) && writeType c.op && c.admitted && !c.pooled && !c.secured && s.mayStage c) = true := by
    simp only [hrun, hwrite, hadm, hpool, hopen, hmay, decide_true, Bool.not_false, Bool.and_self]
  simp only [exec, execStagingSlotsTaken, hcmd, hguard, if_true]
  rfl

/-! ## Host data and the gate lane (R27, R421) -/

/-- All the host data of a Write or Append: each sector has its payload, its tags and its guard result (R27). -/
theorem exec_hostDataFetchEnd (s : State) (h : Nat) (data : List HostSec) (c : Cmd) (hcmd : s.cmd h = some c)
    (hop : c.op = .write ∨ c.op = .append) (hready : stagedReady c = true) (hlen : data.length = c.count)
    (hall : (secsIn c .fetching).length = c.count) (hreads : s.readsFor c.account h = false) :
    exec (.hostDataFetchEnd h data) s = .next ((s.stamp h 2).setCmd h { c with secs := (c.secs.zip data).map (fun p => { p.1 with
      st := .have, payload := p.2.payload, appTag := p.2.appTag, guardOk := p.2.guardOk, refTag := p.2.refTag }) }) := by
  have hops : (decide (c.op = .write) || decide (c.op = .append)) = true := by simpa using hop
  simp only [exec, execHostDataFetchEnd, hcmd, hops, hready, hlen, hall, hreads, decide_true, Bool.not_false, Bool.and_self, if_true]

/-- A write with complete data takes a free lane where no older one waits for it (R421). -/
theorem exec_gateLaneGrant (s : State) (h : Nat) (c : Cmd) (hcmd : s.cmd h = some c) (hready : stagedReady c = true)
    (hdata : dataComplete c = true) (hfree : s.mem.lanes.length < 2) (hnew : h ∉ s.mem.lanes)
    (holdest : ∀ e ∈ s.host.cmds, stagedReady e.2 = true → dataComplete e.2 = true → e.1 ∉ s.mem.lanes → c.seq ≤ e.2.seq) :
    exec (.gateLaneGrant h) s = .next { s.setCmd h (c.waited c.waitFrom s.ldg.tick) with
      mem := { s.mem with lanes := s.mem.lanes ++ [h] } } := by
  have hnone : s.host.cmds.any (fun e => stagedReady e.2 && dataComplete e.2 && !s.mem.lanes.contains e.1 &&
      decide (e.2.seq < c.seq)) = false := by
    rw [List.any_eq_false]
    intro e he hwaits
    simp only [Bool.and_eq_true, Bool.not_eq_true', List.contains_eq_mem, decide_eq_false_iff_not, decide_eq_true_eq] at hwaits
    obtain ⟨⟨⟨hr, hd⟩, hl⟩, hseq⟩ := hwaits
    exact absurd (holdest e he hr hd hl) (Nat.not_le.mpr hseq)
  have hcontains : s.mem.lanes.contains h = false := by simpa using hnew
  simp only [exec, execGateLaneGrant, hcmd, hready, hdata, hfree, hcontains, hnone, decide_true, Bool.not_false, Bool.and_self,
    if_true, setCmd_mem]

/-! ## The seal (R147, R292, R421) -/

/-- The command after its sector `i` is sealed: the stored tag, its write stream, and the key of the tick. -/
def State.sealSec (s : State) (c : Cmd) (i : Nat) (x : Sec) : Cmd :=
  { c with secs := c.secs.set i { x with
    st := .sealed, appTag := storedTag c x (s.fmtOf c), stream := s.freeStream, xts := s.xtsRead (s.ownerOf c) } }

/-- A command leaves its gate lane. -/
def State.freeGateLane (s : State) (h : Nat) : State :=
  { s with mem := { s.mem with lanes := s.mem.lanes.filter (fun y => decide (y ≠ h)) } }

section
variable (s : State) (h i : Nat) (c : Cmd) (x : Sec) (hsec : s.sec h i = some (c, x)) (hst : x.st = .have) (hlane : h ∈ s.mem.lanes)
  (hfirst : (secsIn c .have).head? = some i)
include hsec hst hlane hfirst

/-- A sector whose protection information fails ends the command (R292). -/
theorem exec_sealEnd_fails (t : Status) (hpi : piFails c i x (s.fmtOf c) = some t) :
    exec (.sealEnd h i) s = .next ((s.endWrite h t).kick) := by
  have hcontains : s.mem.lanes.contains h = true := by simpa using hlane
  simp only [exec, execSealEnd, hsec, hst, hcontains, hfirst, hpi, decide_true, Bool.and_self, if_true]

/-- A sector whose protection information holds is sealed, and the last one frees the lane (R147, R421). -/
theorem exec_sealEnd_holds (hpi : piFails c i x (s.fmtOf c) = none) :
    exec (.sealEnd h i) s = .next (if (secsIn (s.sealSec c i x) .have).isEmpty then
        ((s.stamp h 3).setCmd h (s.sealSec c i x)).freeGateLane h
      else (s.stamp h 3).setCmd h (s.sealSec c i x)) := by
  have hcontains : s.mem.lanes.contains h = true := by simpa using hlane
  simp only [exec, execSealEnd, hsec, hst, hcontains, hfirst, hpi, decide_true, Bool.and_self, if_true]
  rfl

end

/-! ## The write buffer (R422) -/

theorem exec_dramWriteEnd (s : State) (h i : Nat) (c : Cmd) (x : Sec) (r : Rec) (hsec : s.sec h i = some (c, x))
    (hst : x.st = .encrypted) (hroom : s.bufferRoom = true) (hrec : s.dbRec c.seq = some r) :
    exec (.dramWriteEnd h i) s = .next (((s.bufferSector.cleanSlot (r.stage + (i - (srcSecs c).length))).stamp h 5).setSec h i
      { x with st := .stored }) := by
  simp only [exec, execDramWriteEnd, hsec, hst, hroom, hrec, Option.map_some, Option.getD_some, decide_true, Bool.and_self, if_true]

/-! ## The secure stage (R388, R393) -/

/-- An earlier open command of the command's zone holds its result. -/
def State.securesLater (s : State) (c : Cmd) : Bool := c.zone.any (fun z => s.earlierZoneOpen z c.seq)

/-- With every destination sector stored, the command is secured, or held behind an earlier command of its zone (R388). -/
theorem exec_dayBookSecure (s : State) (h : Nat) (c : Cmd) (hcmd : s.cmd h = some c) (hrun : c.phase = .running)
    (hopen : c.secured = false) (hheld : c.secureHeld = false) (hsome : (destSecs c).isEmpty = false)
    (hstored : ∀ x ∈ destSecs c, x.st = .stored) :
    exec (.dayBookSecure h) s = .next (if s.securesLater c then s.setCmd h { c with secureHeld := true, waitFrom := s.ldg.tick }
      else (s.secureNow h c).kick) := by
  have hall : (destSecs c).all (fun x => decide (x.st = .stored)) = true :=
    List.all_eq_true.mpr fun x hx => decide_eq_true (hstored x hx)
  simp only [exec, execDayBookSecure, hcmd, hrun, hopen, hheld, hsome, hall, decide_true, Bool.not_false, Bool.and_self, if_true,
    State.securesLater]
  cases c.zone with
  | none => rfl
  | some z => simp only [Option.any_some]

/-- A Dataset Management drops its ranges' entries, and its record is settled with it (R393). -/
theorem exec_deallocationSecure_dsm (s : State) (h : Nat) (c : Cmd) (hcmd : s.cmd h = some c) (hdealloc : isDealloc c = true)
    (hready : stagedReady c = true) (hreads : s.readsFor c.account h = false) (hop : c.op = .dsm) :
    exec (.deallocationSecure h) s = .next ((((s.dropConv c.nsid (fun l => c.ranges.any (fun r => decide (r.slba ≤ l) &&
      decide (l < r.slba + r.count)))).modRec c.seq (fun r => { r with state := .settled, securedAt := s.ldg.tick })).toPost h
        { c.waited c.waitFrom s.ldg.tick with secured := true, locks := [] } stOk).kick) := by
  simp only [exec, execDeallocationSecure, hcmd, hdealloc, hready, hreads, hop, Bool.not_false, Bool.and_self, if_true]

/-- Settles O31: the equations of the write's stages. -/
theorem writeSteps : Obligations.WriteSteps := by
  refine ⟨?_, exec_hostDataFetchEnd, exec_gateLaneGrant, ?_, exec_dramWriteEnd, ?_, exec_deallocationSecure_dsm⟩
  · intro s h l d c hcmd hrun hwrite hadm hpool hopen hmay
    have heq := exec_stagingSlotsTaken s h l d c hcmd hrun hwrite hadm hpool hopen hmay
    refine ⟨_, _, s.takeSlots h c, rfl, rfl, rfl, fun hnone => ?_, fun hnet hcopy hzero => ?_⟩
    · have : asksNoData c = true := by simpa [asksNoData, or_assoc] using hnone
      rw [heq, if_pos this]
    · have : ¬ asksNoData c = true := by simp [asksNoData, hnet, hcopy, hzero]
      rw [heq, if_neg this]
  · intro s h i c x hsec hst hlane hfirst
    refine ⟨exec_sealEnd_fails s h i c x hsec hst hlane hfirst, ?_⟩
    rintro _ hpi rfl
    have heq := exec_sealEnd_holds s h i c x hsec hst hlane hfirst hpi
    exact ⟨fun hmore => heq.trans (congrArg _ (if_neg (by simp [State.sealSec, hmore]))),
      fun hlast => heq.trans (congrArg _ (if_pos hlast))⟩
  · intro s h c hcmd hrun hopen hheld hsome hstored
    have heq := exec_dayBookSecure s h c hcmd hrun hopen hheld hsome hstored
    refine ⟨fun hz => ?_, fun z hz hearlier => ?_, fun z hz hlast => ?_⟩
    · rw [heq, if_neg (by simp [State.securesLater, hz])]
    · rw [heq, if_pos (by simp [State.securesLater, hz, hearlier])]
    · rw [heq, if_neg (by simp [State.securesLater, hz, hlast])]

end Sys2Proof.Machine
end

section
/-!
Zone media work: claims, slot bindings, folds, ring copies, Tally programs and rebuilds (R33, R218, R227, R229, R234, R237, R263, R265,
R267, R268, R270, R279).
-/
set_option Elab.async false

namespace Sys2Proof.Machine

/-! ## Claims (R33, R218) -/

/-- The claim that an Empty zone waits for gives it a block on each die of its group, where the group's MDP acts. -/
theorem exec_zoneClaimDone (s : State) (z : Nat) (hempty : (s.zone z).state = .empty) (hnone : (s.zone z).claims = [])
    (hwanted : s.claimWanted z = true) :
    exec (.zoneClaimDone z) s = .next (if s.mdpActs (z % max 1 s.groupCount) then
      (s.setZone z { s.zone z with claims := s.zoneDies z }).kick else s) := by
  simp only [exec, execZoneClaimDone, hempty, hnone, hwanted, List.isEmpty_nil, decide_true, Bool.true_and]

/-! ## Slot bindings (R234, R237) -/

/-- A slot's binding leaves the list of those that wait. -/
def State.dropWaiting (s : State) (code : Nat) : State :=
  { s with med := { s.med with evac := s.med.evac.filter (fun x => decide (x ≠ code)) } }

/-- A waiting slot of a zone that has data is bound and waits no longer. -/
theorem bindWaiting_bound (s t : State) (z i : Nat) (slc : Bool) (hwaits : 2 ^ 20 * s.zoneDie z i + z ∈ s.med.evac)
    (hslot : (zslot (s.zone z) i).kind = .unplaced ∨ (s.block (s.zoneDie z i) (zslot (s.zone z) i).block).state = .retired)
    (hacts : s.acts14 (s.zoneDie z i) = true) (hempty : (s.zone z).state ≠ .empty) (hoff : (s.zone z).state ≠ .offline)
    (hro : (s.zone z).state ≠ .readOnly) (hbind : s.bindSlot z i (slc || decide ((zslot (s.zone z) i).kind = .folded)) = some t) :
    s.bindWaiting z i slc = t.dropWaiting (2 ^ 20 * s.zoneDie z i + z) := by
  have hguard : (s.med.evac.contains (2 ^ 20 * s.zoneDie z i + z) && (decide ((zslot (s.zone z) i).kind = .unplaced) ||
      decide ((s.block (s.zoneDie z i) (zslot (s.zone z) i).block).state = .retired)) && s.acts14 (s.zoneDie z i) &&
      decide ((s.zone z).state ≠ .empty) && decide ((s.zone z).state ≠ .offline) && decide ((s.zone z).state ≠ .readOnly)) = true := by
    simp only [List.contains_iff_mem.mpr hwaits, hacts, hempty, hoff, hro, Bool.true_and, Bool.and_true, ne_eq, not_false_eq_true,
      decide_true, Bool.or_eq_true, decide_eq_true_eq]
    exact hslot
  rw [State.bindWaiting]
  simp only [hguard, if_true, hbind]
  rfl

/-! ## Folds (R227, R270, R279) -/

/-- A fold that still verifies waits. -/
theorem exec_foldDone_verifies (s : State) (z i n : Nat) (m : Move) (hmove : s.foldMove z i = some (n, m))
    (hverifies : s.moveVerifies m = true) : exec (.foldDone z i true) s = .next s := by
  simp [exec, execFoldDone, hmove, hverifies]

section
variable (s : State) (z i n : Nat) (m : Move) (hmove : s.foldMove z i = some (n, m)) (hstep : m.step = 1) (hroom : s.commits < 2048)
  (hdie : (s.dieMed m.srcDie).failed = false) (hmode : modeLedger s.mode = true) (hacts : s.acts14 m.srcDie = true)
include hmove hstep hroom hdie hmode hacts

/-- A fold whose wordline is programmed and verified is committed, and its zone's Tally may be released. -/
theorem exec_foldDone_verified (hverified : s.moveVerifies m = false) :
    exec (.foldDone z i true) s = .next (((((s.addCommit
      (commitSource m.srcDie m.srcBlock (4 * (((zslot (s.zone z) i).qlcUnits - (zslot (s.zone z) i).base) % 128)))
      (commitTarget m.srcDie m.dstBlock 1 (moveCode m.kind)) .settled).dropMove n).applyFold m z).tallyRelease z)) := by
  have hfull : ¬ 2048 ≤ s.commits := Nat.not_le.mpr hroom
  simp [exec, execFoldDone, hmove, hstep, hfull, hdie, hmode, hacts, hverified]

/-- A failed fold raises VERIFY_FAIL and is restarted. -/
theorem exec_foldDone_failed : exec (.foldDone z i false) s = .next ((s.raise .integCause 2).moveFailed n 3) := by
  have hfull : ¬ 2048 ≤ s.commits := Nat.not_le.mpr hroom
  simp [exec, execFoldDone, hmove, hstep, hfull, hdie, hmode, hacts]

end

/-! ## Copies ahead in the rings (R229, R265, R268) -/

theorem exec_tailRingCopy_otherBlock (s : State) (d b : Nat) (hb : b ≠ nextBlock (s.dieMed d).tailPos 8) :
    exec (.tailRingCopy d b) s = .next s := by
  simp [exec, execTailRingCopy, hb]

theorem exec_tallyForwardCopy_otherBlock (s : State) (d b : Nat) (hb : b ≠ nextBlock (s.dieMed d).tallyPos 128) :
    exec (.tallyForwardCopy d b) s = .next s := by
  simp [exec, execTallyForwardCopy, hb]

section
variable (s : State) (d b : Nat) (hdie : (s.dieMed d).failed = false) (hmode : modeLedger s.mode = true) (hacts : s.acts14 d = true)
include hdie hmode hacts

/-- The live tail pages of the block that the ring enters next are copied ahead at their turn. -/
theorem exec_tailRingCopy_copies (hb : b = nextBlock (s.dieMed d).tailPos 8) (hlive : s.liveTails d b ≠ [])
    (hfits : (s.liveTails d b).length ≤ 512 - (s.dieMed d).tailPos % 512) (hturn : s.turn14 d rankRing = true)
    (hroom : s.tallyRoom d = true) (hidle : ∀ o, (s.die d).op = some o → o.tail = false) :
    exec (.tailRingCopy d b) s = .next (s.copyTails d (s.liveTails d b)) := by
  have hop : (s.die d).op.any (fun o => o.tail) = false := by
    cases ho : (s.die d).op with
    | none => rfl
    | some o => exact hidle o ho
  have hsome : (s.liveTails d b).isEmpty = false := by simpa using hlive
  have hroomy : ¬ 512 - (s.dieMed d).tailPos % 512 < (s.liveTails d b).length := Nat.not_lt.mpr hfits
  simp only [exec, execTailRingCopy, ← hb, hsome, hroomy, hdie, hmode, hacts, hturn, hroom, hop, ne_eq, not_true_eq_false, decide_false,
    Bool.not_true, Bool.or_self, Bool.false_eq_true, if_false]

/-- The live Tallies of the block that the ring enters next are copied ahead at their turn. -/
theorem exec_tallyForwardCopy_copies (hb : b = nextBlock (s.dieMed d).tallyPos 128) (hlive : s.liveTallies d b ≠ [])
    (hfits : 4 * (s.liveTallies d b).length ≤ 512 - (s.dieMed d).tallyPos % 512) (hturn : s.turn14 d rankTally = true) :
    exec (.tallyForwardCopy d b) s = .next ((s.liveTallies d b).foldl (fun s w => s.writeTally d w) s) := by
  have hsome : (s.liveTallies d b).isEmpty = false := by simpa using hlive
  have hroomy : ¬ 512 - (s.dieMed d).tallyPos % 512 < 4 * (s.liveTallies d b).length := Nat.not_lt.mpr hfits
  simp only [exec, execTallyForwardCopy, ← hb, hsome, hroomy, hdie, hmode, hacts, hturn, ne_eq, not_true_eq_false, decide_false,
    Bool.not_true, Bool.or_self, Bool.false_eq_true, if_false]

end

/-! ## Tallies and accumulators (R263, R267, R268) -/

/-- A completed stripe's Tally is programmed at its turn, and the accumulator starts the next stripe. -/
theorem exec_tallyProgram_stripe (s : State) (z w : Nat) (hholder : (s.zone z).holder = true) (hgroups : 2 ≤ s.groupCount)
    (hmode : modeLedger s.mode = true) (hnew : 512 * z + w ∉ s.med.recompute) (hstripe : (s.zone z).accStripe = w)
    (hdone : stripeDone (s.zone z) = true) (hbuilt : z ∉ s.med.rebuilds) :
    exec (.tallyProgram z w) s = .next (if s.tallyTurn (s.tallyDie z w) then
        (s.setZone z { s.zone z with accStripe := w + 1, accQuarters := [] }).writeTally (s.tallyDie z w) (z, w)
      else s) := by
  have hmany : ¬ s.groupCount < 2 := Nat.not_lt.mpr hgroups
  have hnewC : s.med.recompute.contains (512 * z + w) = false := by simpa using hnew
  have hbuiltC : s.med.rebuilds.contains z = false := by simpa using hbuilt
  simp only [exec, execTallyProgram, hholder, hmany, hmode, hnewC, hstripe, hdone, hbuiltC, decide_true, decide_false, Bool.not_true,
    Bool.not_false, Bool.or_self, Bool.and_self, Bool.true_and, Bool.false_eq_true, if_false]

/-- A rebuilt accumulator leaves the list of rebuilds; of the media nothing else changes. -/
theorem exec_accumulatorRebuild_med (s : State) (z : Nat) (hlisted : z ∈ s.med.rebuilds) (hmode : modeLedger s.mode = true)
    (hacts : s.mdpActs (z % max 1 s.groupCount) = true) (hturn : ∀ d ∈ s.zoneDies z, s.turn14 d rankRebuild = true) :
    ∃ t, exec (.accumulatorRebuild z) s = .next t ∧
      t.med = { s.med with rebuilds := s.med.rebuilds.filter (fun y => decide (y ≠ z)) } := by
  have hlistedC : s.med.rebuilds.contains z = true := List.contains_iff_mem.mpr hlisted
  have hall : (s.zoneDies z).all (fun d => s.turn14 d rankRebuild) = true := List.all_eq_true.mpr hturn
  simp only [exec, execAccumulatorRebuild, hlistedC, hmode, hacts, hall, Bool.not_true, Bool.or_self, Bool.false_eq_true, if_false]
  exact ⟨_, rfl, (frame_levelBit (M := 1537) _ _ _ rfl (frame_refl _ _)).med.resolve_left (by decide)⟩

/-- Settles O34: the equations above; a binding and an evacuation share one meaning. -/
theorem zoneBlocksAndFolds : Obligations.ZoneBlocksAndFolds := by
  refine ⟨?_, ?_, ?_, exec_tailRingCopy_otherBlock, exec_tallyForwardCopy_otherBlock, ?_, ?_, ?_, exec_accumulatorRebuild_med⟩
  · intro s z hempty hnone hwanted
    rw [exec_zoneClaimDone s z hempty hnone hwanted]
    exact ⟨fun hacts => by rw [if_pos hacts], fun hacts => by rw [hacts, if_neg Bool.false_ne_true]⟩
  · intro s t z i slc hwaits hslot hacts hempty hoff hro hbind
    have hbound := bindWaiting_bound s t z i slc hwaits hslot hacts hempty hoff hro hbind
    refine ⟨_, rfl, congrArg Host.Outcome.next hbound, fun hmode => ?_⟩
    simp only [exec, execEvacuationDone, hmode, if_true, hbound]
    rfl
  · intro s z i n m hmove hstep hroom hdie hmode hacts
    exact ⟨fun hverified => ⟨_, rfl, exec_foldDone_verified s z i n m hmove hstep hroom hdie hmode hacts hverified⟩,
      exec_foldDone_verifies s z i n m hmove,
      exec_foldDone_failed s z i n m hmove hstep hroom hdie hmode hacts⟩
  · rintro s d b _ hb rfl hlive hfits hdie hmode hacts hturn hroom hidle
    exact exec_tailRingCopy_copies s d b hdie hmode hacts hb hlive hfits hturn hroom hidle
  · rintro s d b _ hb rfl hlive hfits hdie hmode hacts hturn
    exact exec_tallyForwardCopy_copies s d b hdie hmode hacts hb hlive hfits hturn
  · intro s z w hholder hgroups hmode hnew hstripe hdone hbuilt
    have heq := exec_tallyProgram_stripe s z w hholder hgroups hmode hnew hstripe hdone hbuilt
    exact ⟨fun hturn => ⟨_, rfl, by rw [heq, if_pos hturn]⟩, fun hturn => by rw [heq, hturn, if_neg Bool.false_ne_true]⟩

end Sys2Proof.Machine
end

section
/-!
The step as a whole: it runs the command at the front of the queue, every command answers a next state, and none touches the queue
(log entries 1 and 3).
-/
set_option Elab.async false

namespace Sys2Proof.Machine

theorem step_cons (c : Instr) (rest : List Instr) (s : State) (h : s.pending = c :: rest) :
    step s = exec c { s with pending := rest } := by
  simp only [step, h]

theorem step_nil (s : State) (h : s.pending = []) : step s = .next (idle s) := by
  simp only [step, h]

/-- Settles O1: the equation of a step whose queue is not empty. -/
theorem stepTakesFront : Obligations.StepTakesFront := step_cons

/-! ## Every command answers (log entry 3) -/

theorem execNorOpComplete_answers (ok : Bool) (s : State) : ∃ t, execNorOpComplete ok s = .next t := by
  unfold execNorOpComplete
  cases s.nor.op <;> exact ⟨_, rfl⟩

theorem execBusyBankFault_answers (addr : Nat) (fetch : Bool) (s : State) : ∃ t, execBusyBankFault addr fetch s = .next t := by
  unfold execBusyBankFault
  cases s.nor.op <;> exact ⟨_, rfl⟩

theorem execKmOpComplete_answers (s : State) : ∃ t, execKmOpComplete s = .next t := by
  unfold execKmOpComplete
  cases s.cry.op with
  | none => exact ⟨_, rfl⟩
  | some o => dsimp only; split <;> exact ⟨_, rfl⟩

theorem execNonceExpiry_answers (p : AuthPath) (s : State) : ∃ t, execNonceExpiry p s = .next t := by
  unfold execNonceExpiry
  cases (s.auth p).nonce <;> exact ⟨_, rfl⟩

theorem execAuthLockoutEnd_answers (p : AuthPath) (s : State) : ∃ t, execAuthLockoutEnd p s = .next t := by
  unfold execAuthLockoutEnd
  cases (s.auth p).lockFrom <;> exact ⟨_, rfl⟩

/-- Five meanings choose between their next states by a case of the state; every other one is a next state as it stands. -/
theorem exec_answers (c : Instr) (s : State) : ∃ t, exec c s = .next t := by
  cases c
  case norOpComplete ok => exact execNorOpComplete_answers ok s
  case busyBankFault addr fetch => exact execBusyBankFault_answers addr fetch s
  case kmOpComplete => exact execKmOpComplete_answers s
  case nonceExpiry p => exact execNonceExpiry_answers p s
  case authLockoutEnd p => exact execAuthLockoutEnd_answers p s
  all_goals exact ⟨_, rfl⟩

/-- Settles O3: an empty queue idles, and any other runs a command, which answers. -/
theorem everyCommandAnswers : Obligations.EveryCommandAnswers := by
  refine ⟨exec_answers, fun s => ?_⟩
  cases h : s.pending with
  | nil => exact ⟨_, step_nil s h⟩
  | cons c rest => rw [step_cons c rest s h]; exact exec_answers c _

/-! ## The queue (log entry 1) -/

/-- No command's frame holds the queue. -/
theorem exec_pending (c : Instr) {s t : State} (h : exec c s = .next t) : t.pending = s.pending := by
  obtain ⟨m, hframe, hwithin⟩ := exec_frame c s
  have hout : m.testBit 23 = false := by
    simpa using (Bool.and_eq_true_iff.mp hwithin).1
  exact (hframe t h).pending.resolve_left (by simp [hout])

theorem idle_pending (s : State) : (idle s).pending = s.pending := by
  unfold idle
  split <;> rfl

/-- Settles O4: the frame of the command at the front leaves the rest of the queue. -/
theorem queueKept : Obligations.QueueKept := by
  refine ⟨fun c s t h => exec_pending c h, fun s t h => ?_⟩
  cases hq : s.pending with
  | nil =>
    cases (step_nil s hq).symm.trans h
    rw [idle_pending, hq, List.tail_nil]
  | cons c rest =>
    exact exec_pending c ((step_cons c rest s hq).symm.trans h)

end Sys2Proof.Machine
end

section
/-!
What the operations shared by the mode changes leave of single registers, of start-up's progress and of the boot flash's controller
(R77, R100, R541, R570).
-/
set_option Elab.async false

namespace Sys2Proof.Machine

/-! ## Registers -/

theorem reg_of_regs {s t : State} (h : t.regs = s.regs) (o : Nat) : t.reg o = s.reg o := by
  rw [State.reg, State.reg, h]

theorem ofind_filter {β : Type} (p : Nat → Bool) (m : List (Nat × β)) {k : Nat} (h : p k = true) :
    ofind (m.filter fun e => p e.1) k = ofind m k := by
  induction m with
  | nil => rfl
  | cons e m ih =>
    obtain ⟨j, v⟩ := e
    by_cases hj : j = k
    · subst hj; simp [ofind, h]
    · cases hp : p j <;> simp [ofind, hp, hj, ih]

theorem reg_resetRegs_other (s : State) (p : Nat → Bool) {o : Nat} (h : p o = false) : (s.resetRegs p).reg o = s.reg o := by
  simp only [State.reg, State.resetRegs, ofind_filter (fun i => !p i) s.regs (k := o) (by rw [h]; rfl)]

theorem reg_dropLeaves_other (s : State) (off : Island → Bool) {o : Nat} (h : isLeafReg o = false) :
    (s.dropLeaves off).reg o = s.reg o :=
  reg_resetRegs_other s _ (by rw [h, Bool.false_and])

theorem ne_evtCause_of_not_leaf {o : Nat} (h : isLeafReg o = false) : o ≠ Reg.evtCause := by
  rintro rfl
  exact absurd h (by decide)

/-- A change of mode leaves every register that is no leaf and no leaf's mask (R77, R543). -/
theorem reg_enter_other (s : State) (m : Mode) (c : ModeCause) {o : Nat} (h : isLeafReg o = false) : (s.enter m c).reg o = s.reg o := by
  simp only [State.enter, treeSync_reg, reg_dropLeaves_other _ _ h]
  split
  · exact event_reg s _ _ (ne_evtCause_of_not_leaf h)
  · rfl

theorem reg_levelBit_other (s : State) (l : Leaf) (b : Nat) (v : Bool) {o : Nat} (h1 : o ≠ leafReg l) (h2 : o ≠ Reg.evtCause) :
    (s.levelBit l b v).reg o = s.reg o := by
  simp only [State.levelBit]
  split
  · exact raise_reg_other s l b h1 h2
  · split
    · rw [treeSync_reg, reg_setReg_other s _ h1]
    · rfl

/-- A set-point touches the registers of the loops alone. -/
theorem reg_setTarget_other (s : State) (n mv : Nat) {o : Nat} (h : o < Reg.loopCtl) : (s.setTarget n mv).reg o = s.reg o := by
  have hctl : o ≠ loopReg Reg.loopCtl n := by simp only [loopReg, Reg.loopCtl] at h ⊢; omega
  have hset : o ≠ loopReg Reg.loopSetpoint n := by simp only [loopReg, Reg.loopCtl, Reg.loopSetpoint] at h ⊢; omega
  have hpoint := reg_setFld_other s 0 16 mv hset
  simp only [State.setTarget]
  split
  · rfl
  · split
    · simp only [State.planLoop, State.profileStarts, reg_setFld_other _ _ _ _ hctl]
      exact hpoint
    · rw [reg_setFld_other _ _ _ _ hctl]
      exact hpoint

/-- A one-bit field that is written 1 reads as a set bit. -/
theorem bitOf_setField_one {n : Nat} (w : BitVec n) (b : Nat) (h : b + 1 ≤ n) : bitOf (setField w b 1 1) b = true := by
  have hbit := testBit_getField (setField w b 1 1) b 1 0
  rw [getField_setField_same w b 1 1 h] at hbit
  simpa [bitOf] using hbit.symm

/-! ## Start-up's progress -/

theorem boot_of_frame {m : Nat} {s t : State} (h : Frame m s t) (hm : m.testBit 4 = false) : t.boot = s.boot :=
  h.boot.resolve_left (by simp [hm])

theorem raise_boot (s : State) (l : Leaf) (b : Nat) : (s.raise l b).boot = s.boot :=
  boot_of_frame (frame_raise (M := 1537) l b rfl (frame_refl _ s)) rfl

theorem setTarget_boot (s : State) (n mv : Nat) : (s.setTarget n mv).boot = s.boot :=
  boot_of_frame (frame_setTarget (M := 129) n mv rfl (frame_refl _ s)) rfl

theorem setSlotReason_boot (s : State) (x : Slot) (r : Nat) : (s.setSlotReason x r).boot = s.boot :=
  boot_of_frame (frame_setSlotReason (M := 1) x r rfl (frame_refl _ s)) rfl

theorem readMarkers_boot (s : State) : s.readMarkers.boot = s.boot :=
  boot_of_frame (frame_readMarkers (M := 1) rfl (frame_refl _ s)) rfl

theorem applyEyes_boot (s : State) : s.applyEyes.boot = s.boot :=
  boot_of_frame (frame_applyEyes (M := 1) rfl (frame_refl _ s)) rfl

/-- A change of mode begins a phase, and no more of start-up's progress changes (R104). -/
theorem enter_boot (s : State) (m : Mode) (c : ModeCause) : (s.enter m c).boot = { s.boot with phaseStart := s.ldg.tick } := by
  unfold State.enter
  extract_lets s1 _ s2
  have hframe : Frame 513 s s1 := by
    unfold s1
    split
    · exact frame_event _ _ rfl (frame_refl _ s)
    · exact frame_refl _ s
  have hboot := boot_of_frame hframe rfl
  have hldg := hframe.ldg.resolve_left (by decide)
  obtain ⟨p, d, e, k, hsync⟩ := treeSync_form s (s2.dropLeaves fun i => decide (islandPower m s2.pins.porN i = .off))
  rw [hsync]
  show { s1.boot with phaseStart := s1.ldg.tick } = _
  rw [hboot, hldg]

/-! ## The boot flash's controller -/

/-- No update is under way and no image is staged. -/
def Nor.quiet (n : Nor) : Prop := n.update = none ∧ n.stagedEnd = 0

theorem norFresh_quiet (n : Nor) : (norFresh n).quiet := ⟨rfl, rfl⟩

theorem clearKick_quiet {s : State} (h : s.nor.quiet) : s.clearKick.nor.quiet := by
  unfold State.clearKick
  split <;> exact h

theorem logSearch_quiet {s : State} (h : s.nor.quiet) : s.logSearch.nor.quiet := by
  unfold State.logSearch
  exact clearKick_quiet h

theorem startEvent_quiet {s : State} (h : s.nor.quiet) : s.startEvent.nor.quiet := by
  rwa [(frame_startEvent (M := 513) rfl (frame_refl _ s)).nor.resolve_left (by decide)]

theorem updKick_aonMode (s : State) : s.updKick.reg Reg.aonMode = s.reg Reg.aonMode := by
  have hbegin : ∀ (s : State) (o : NorOp), (s.norBegin o).reg Reg.aonMode = s.reg Reg.aonMode := fun s o => by
    show (((s.setFld Reg.norOpStatus 2 2 0).setFld Reg.norOpStatus 4 3 0)).reg Reg.aonMode = _
    rw [reg_setFld_other _ _ _ _ (by decide), reg_setFld_other _ _ _ _ (by decide)]
  unfold State.updKick
  split
  · split
    · split
      · rw [hbegin, reg_setFld_other _ _ _ _ (by decide), reg_setFld_other _ _ _ _ (by decide)]
      · rfl
    · rfl
  · rfl

/-- Without a staged image the MP can only give an interrupted update up (R125), and AON_MODE stands. -/
theorem updResume_aonMode {s : State} (h : s.nor.quiet) : s.updResume.reg Reg.aonMode = s.reg Reg.aonMode := by
  obtain ⟨hnone, hunstaged⟩ := h
  simp only [State.updResume, hnone, hunstaged, ne_eq, not_true_eq_false, decide_false, Bool.false_and, Bool.false_eq_true, if_false]
  split
  · split
    · rw [updKick_aonMode]
      exact raise_reg_other _ .norCause 7 (by decide) (by decide)
    · rfl
  · rfl

theorem updRestart_aonMode {s : State} (h : s.nor.quiet) : s.updRestart.reg Reg.aonMode = s.reg Reg.aonMode := by
  unfold State.updRestart
  split
  · exact updResume_aonMode h
  · rfl

/-- MAINTENANCE keeps its cause in MAINT_CAUSE (R100). -/
theorem toMaint_cause (s : State) (n : Nat) (c : ModeCause) : (s.toMaint n c).fld Reg.aonMode 8 4 = n % 2 ^ 4 := by
  unfold State.toMaint
  extract_lets s1 s2 s3 _ s4
  have hnor : s2.nor = norFresh s.nor :=
    (frame_syncBanks (M := 132631) rfl (frame_enter (s0 := s1) .maintenance c rfl (frame_refl _ s1))).nor.resolve_left (by decide)
  clear_value s2
  have hquiet : s4.nor.quiet := by
    show s2.nor.quiet
    rw [hnor]
    exact norFresh_quiet s.nor
  have hmode : s4.reg Reg.aonMode = setField (s2.reg Reg.aonMode) 8 4 n := by
    show s3.reg Reg.aonMode = _
    rw [reg_setReg_other _ _ (by decide), reg_setFld_same]
  have hlog : s4.logSearch.reg Reg.aonMode = s4.reg Reg.aonMode :=
    reg_of_regs ((frame_logSearch (M := 768) rfl (frame_refl _ s4)).regs.resolve_left (by decide)) _
  have hevent : s4.logSearch.startEvent.reg Reg.aonMode = s4.logSearch.reg Reg.aonMode := event_reg _ _ _ (by decide)
  rw [State.fld, updRestart_aonMode (startEvent_quiet (logSearch_quiet hquiet)), hevent, hlog, hmode,
    getField_setField_same _ _ _ _ (by decide)]

end Sys2Proof.Machine
end

section
/-!
The wake from HIBERNATE up to FILL: device time, the tick count and the resume form (R95, R154, R503, R504).
-/
set_option Elab.async false

namespace Sys2Proof.Machine

/-- Device time with its fraction, in 64ths of a tick, advances by 1,953,125 for each real-time period (R504). -/
theorem advanceRtc_total (s : State) (n : Nat) :
    (64 * (s.advanceRtc n).pwr.time + (s.advanceRtc n).pwr.frac) % 2 ^ 70 =
      (64 * s.pwr.time + (n * 1953125 + s.pwr.frac)) % 2 ^ 70 := by
  simp only [State.advanceRtc, advanceTime]
  omega

theorem advanceRtc_frac (s : State) (n : Nat) : (s.advanceRtc n).pwr.frac < 64 := Nat.mod_lt _ (by decide)

theorem advanceRtc_ldg (s : State) (n : Nat) : (s.advanceRtc n).ldg = s.ldg :=
  (frame_advanceRtc (M := 32) n rfl (frame_refl _ s)).ldg.resolve_left (by decide)

/-- FILL's entry leaves the registers that are neither leaves nor the watchdog's status. -/
theorem reg_enterFill_other (s : State) (resume : Bool) (c : ModeCause) {o : Nat} (hleaf : isLeafReg o = false)
    (hwdog : o ≠ Reg.mgtWdogStatus) : (s.enterFill resume c).reg o = s.reg o := by
  unfold State.enterFill
  extract_lets s1
  have hframe : Frame 131080 (s.enter .fill c) (s.enter .fill c).syncBanks.driveRefs :=
    frame_driveRefs rfl (frame_syncBanks rfl (frame_refl _ _))
  have hreg : s1.reg o = s.reg o := by
    rw [reg_setFld_other _ _ _ _ hwdog, reg_of_regs (hframe.regs.resolve_left (by decide)), reg_enter_other _ _ _ hleaf]
  clear_value s1
  exact (reg_of_regs rfl o).trans hreg

theorem enterFill_ldg (s : State) (resume : Bool) (c : ModeCause) : (s.enterFill resume c).ldg = s.ldg :=
  (frame_enterFill (M := 198175) resume c rfl (frame_refl _ s)).ldg.resolve_left (by decide)

theorem enterFill_pwr (s : State) (resume : Bool) (c : ModeCause) : (s.enterFill resume c).pwr = s.pwr :=
  (frame_enterFill (M := 198175) resume c rfl (frame_refl _ s)).pwr.resolve_left (by decide)

/-- The state at the lock of a wake, once time has advanced: every island but AON in reset, the tick of the wake in its register, and
RESUME set (R95, R102, R570). -/
def State.wakeLock (s : State) : State :=
  let s1 := s.resetRegs wakeResets
  let s2 := (s1.setReg Reg.pwrWakeTick (BitVec.ofNat 32 s1.ldg.tick)).setReg (Reg.pwrWakeTick + 4)
    (BitVec.ofNat 32 (s1.ldg.tick / 2 ^ 32))
  let s3 := s2.setFld Reg.aonMode 12 1 1
  { s3 with pwr := { s3.pwr with wakeSrc := none } }

theorem wakeLock_ldg (s : State) : s.wakeLock.ldg = s.ldg := rfl

theorem wakeLock_pwr (s : State) : s.wakeLock.pwr = { s.pwr with wakeSrc := none } := rfl

theorem wakeLock_resume (s : State) : bitOf (s.wakeLock.reg Reg.aonMode) 12 = true := by
  unfold State.wakeLock
  extract_lets s1 s2 s3
  have hbit : bitOf (s3.reg Reg.aonMode) 12 = true := by
    rw [reg_setFld_same]
    exact bitOf_setField_one _ 12 (by decide)
  exact hbit

/-- The PLLs lock in a wake: time advances by the real-time periods since the entry, and FILL begins in resume form (R95, R504). -/
theorem exec_pllLock_wake (s : State) (us : Nat) (hmode : s.mode = .hibernate) (hwaking : s.boot.waking = true)
    (hgood : s.pins.pwrGood = true) (hxtal : s.boot.xtalStop = false) (hosc : s.boot.oscOk = true) :
    exec (.pllLock us) s = .next ((s.advanceRtc (s.pwr.rtc - s.pwr.rtcLatch).toNat).wakeLock.enterFill true .wake) := by
  have hheld : ¬(s.boot.xtalStop || !s.boot.oscOk) = true := by simp [hxtal, hosc]
  have hstrap : ¬s.mode = .strap := by simp [hmode]
  have hwake : (decide (s.mode = .hibernate) && s.boot.waking && s.pins.pwrGood) = true := by simp [hmode, hwaking, hgood]
  rw [show exec (.pllLock us) s = execPllLock us s from rfl, execPllLock, if_neg hheld, if_neg hstrap, if_pos hwake]
  rfl

theorem wakeLock_fill_pwr (s : State) : (s.wakeLock.enterFill true .wake).pwr = { s.pwr with wakeSrc := none } :=
  (enterFill_pwr _ true .wake).trans (wakeLock_pwr s)

theorem wakeLock_fill_time (s : State) : (s.wakeLock.enterFill true .wake).pwr.time = s.pwr.time := by
  rw [wakeLock_fill_pwr]

theorem wakeLock_fill_frac (s : State) : (s.wakeLock.enterFill true .wake).pwr.frac = s.pwr.frac := by
  rw [wakeLock_fill_pwr]

theorem wakeLock_fill_resuming (s : State) : (s.wakeLock.enterFill true .wake).resuming = true := by
  rw [State.resuming, reg_enterFill_other _ true .wake (by decide) (by decide)]
  exact wakeLock_resume s

/-- Settles O16: FILL's entry keeps RESUME, the tick count and the time that the lock has advanced. -/
theorem resumeTime : Obligations.ResumeTime := by
  intro s us hmode hwaking hgood hxtal hosc
  refine ⟨_, exec_pllLock_wake s us hmode hwaking hgood hxtal hosc, enterFill_mode _ true .wake, wakeLock_fill_resuming _, ?_, ?_, ?_,
    congrArg Pwr.uncertain (wakeLock_fill_pwr _)⟩
  · rw [enterFill_ldg, wakeLock_ldg, advanceRtc_ldg]
  · rw [wakeLock_fill_time, wakeLock_fill_frac]
    exact advanceRtc_total s _
  · rw [wakeLock_fill_frac]
    exact advanceRtc_frac s _

end Sys2Proof.Machine
end

section
/-!
DDR5 sweeps (R86, R93) and the parts of FILL (R77, R84, R95).
-/
set_option Elab.async false

namespace Sys2Proof.Machine

/-! ## Sweeps -/

/-- A sweep that finds every eye wide enough erases nothing. -/
theorem sweep_wide (s : State) (eyes : List LaneEye) (hA : badLanes eyes false = []) (hB : badLanes eyes true = []) :
    s.sweep eyes = some s := by
  simp [State.sweep, eraseLane, hA, hB]

/-- The first narrow lane of subchannel A is treated as erased from then on, with DRAM_DEGRADED (R86). -/
theorem sweep_narrowA (s : State) (eyes : List LaneEye) (n : Nat) (hA : badLanes eyes false = [n]) (hB : badLanes eyes true = [])
    (hold : s.boot.erasedA = none) :
    s.sweep eyes = some (({ s with boot := { s.boot with erasedA := some n } } : State).raise .startCause 2) := by
  simp [State.sweep, eraseLane, hA, hB, hold]

theorem eraseLane_many (old : Option Nat) {bad : List Nat} (h : 2 ≤ bad.length) : eraseLane old bad = none := by
  match bad, h with
  | _ :: _ :: _, _ => rfl

/-- Two narrow lanes of subchannel A are beyond the degraded limit (R86). -/
theorem sweep_failsA (s : State) (eyes : List LaneEye) (hA : 2 ≤ (badLanes eyes false).length) : s.sweep eyes = none := by
  simp [State.sweep, eraseLane_many _ hA]

/-- A cause of start-up latches wherever AON is on (R75, R541). -/
theorem raise_startCause_bit (s : State) {b : Nat} (hb : b < 32) (hon : s.islandOn .aon = true) :
    bitOf ((s.raise .startCause b).reg Reg.aonStartCause) b = true := raise_bit s .startCause hb hon

/-! ## FILL -/

/-- FILL goes on while one of its fills runs. -/
theorem fillCheck_waits (s : State) (h : s.boot.calDone = false ∨ s.boot.banksLeft ≠ []) : s.fillCheck = s := by
  unfold State.fillCheck
  refine if_neg fun hend => ?_
  simp only [Bool.and_eq_true, List.isEmpty_iff] at hend
  rcases h with h | h
  · exact absurd hend.1.1.2 (by simp [h])
  · exact h hend.1.2

/-- FILL's end leads to LOAD, in the resume form at step 4 on the slot that booted last (R84, R95). -/
theorem fillCheck_ends (s : State) (hmode : s.mode = .fill) (hcal : s.boot.calDone = true) (hbanks : s.boot.banksLeft = [])
    (hdram : s.boot.dram = .done) :
    s.fillCheck.mode = .load ∧ s.fillCheck.boot = { s.boot with
      phaseStart := s.ldg.tick, step := if s.resuming then 4 else 1, slot := if s.resuming then s.bootSlot else none,
      cands := [], faults := 0 } := by
  have hboot : ((s.phaseEnd 1).enter .load .none).boot = { s.boot with phaseStart := s.ldg.tick } := enter_boot _ _ _
  simp only [State.fillCheck, hmode, hcal, hbanks, hdram, List.isEmpty_nil, decide_true, Bool.and_self, if_true, hboot, enter_mode,
    and_self]

theorem exec_calRowReadDone_valid (s : State) (hmode : s.mode = .fill) (hcal : s.boot.calDone = false) (hvalid : s.calValid = true)
    (hbanks : s.boot.banksLeft ≠ []) :
    exec .calRowReadDone s = .next { s with boot := { s.boot with calDone := true }, host := { s.host with cfgReady := true } } :=
  congrArg Host.Outcome.next ((if_neg (by simp [hmode, hcal])).trans
    ((if_pos hvalid).trans (fillCheck_waits _ (Or.inr hbanks))))

theorem exec_calRowReadDone_invalid (s : State) (hmode : s.mode = .fill) (hcal : s.boot.calDone = false) (hvalid : s.calValid = false) :
    exec .calRowReadDone s = .next ((s.raise .startCause 1).toMaint 5 .cal) :=
  congrArg Host.Outcome.next ((if_neg (by simp [hmode, hcal])).trans (if_neg (Bool.eq_false_iff.mp hvalid)))

theorem exec_bankFillDone_waits (s : State) (b : Bank) (hmode : s.mode = .fill) (hcal : s.boot.calDone = false) :
    exec (.bankFillDone b) s = .next { s with
      boot := { s.boot with banksLeft := s.boot.banksLeft.filter (fun x => decide (x ≠ b)) } } :=
  congrArg Host.Outcome.next ((if_pos hmode).trans (fillCheck_waits _ (Or.inl hcal)))

theorem exec_dramFillDone_fill (s : State) (hmode : s.mode = .fill) (hdram : s.boot.dram = .filling) :
    exec .dramFillDone s = .next ({ s with boot := { s.boot with dram := .done } } : State).fillCheck :=
  congrArg Host.Outcome.next (if_pos (by simp [hmode, hdram]))

section
variable (s : State) (eyes : List LaneEye) (hmode : s.mode = .fill) (hdram : s.boot.dram = .sweeping)
include hmode hdram

/-- A boot sweep within the degraded limit starts the zero fill (R84, R86). -/
theorem exec_ddr5BootSweepDone_fills {u : State}
    (hsweep : ({ s with boot := { s.boot with erasedA := none, erasedB := none } } : State).sweep eyes = some u) :
    exec (.ddr5BootSweepDone eyes) s = .next { u with boot := { u.boot with dram := .filling } } :=
  congrArg Host.Outcome.next ((if_neg (by simp [hmode, hdram])).trans (by rw [hsweep]))

/-- A boot sweep beyond the degraded limit leads to MAINTENANCE (R86). -/
theorem exec_ddr5BootSweepDone_fails
    (hsweep : ({ s with boot := { s.boot with erasedA := none, erasedB := none } } : State).sweep eyes = none) :
    exec (.ddr5BootSweepDone eyes) s = .next ((s.raise .startCause 3).toMaint 6 .dram) :=
  congrArg Host.Outcome.next ((if_neg (by simp [hmode, hdram])).trans (by rw [hsweep]))

end

/-- Settles O17: each event's equation, and what the last fill leads to. -/
theorem fillEnds : Obligations.FillEnds := by
  refine ⟨exec_calRowReadDone_valid, ?_, exec_bankFillDone_waits, ?_, ?_, ?_, ?_, ?_⟩
  · intro s hmode hcal hvalid
    exact ⟨_, exec_calRowReadDone_invalid s hmode hcal hvalid, toMaint_mode _ _ _, toMaint_cause _ _ _⟩
  · intro s eyes hmode hdram hA hB
    exact exec_ddr5BootSweepDone_fills s eyes hmode hdram (sweep_wide _ eyes hA hB)
  · intro s eyes n hmode _ hdram hA hB
    refine ⟨_, exec_ddr5BootSweepDone_fills s eyes hmode hdram (sweep_narrowA _ eyes n hA hB rfl), ?_, ?_, ?_, rfl, ?_⟩
    · exact (raise_mode _ _ _).trans hmode
    · exact congrArg Boot.erasedA (raise_boot _ _ _)
    · exact congrArg Boot.erasedB (raise_boot _ _ _)
    · exact raise_startCause_bit _ (by decide) (by simp [State.islandOn, islandPower, hmode])
  · intro s eyes hmode hdram hA
    exact ⟨_, exec_ddr5BootSweepDone_fails s eyes hmode hdram (sweep_failsA _ eyes hA), toMaint_mode _ _ _, toMaint_cause _ _ _⟩
  · intro s hmode hdram hcal hbanks hresume
    obtain ⟨hload, hboot⟩ := fillCheck_ends { s with boot := { s.boot with dram := .done } } hmode hcal hbanks rfl
    refine ⟨_, exec_dramFillDone_fill s hmode hdram, hload, ?_, ?_⟩
    · rw [hboot]; exact if_neg (Bool.eq_false_iff.mp hresume)
    · rw [hboot]
  · intro s hmode hdram hcal hbanks hresume
    obtain ⟨hload, hboot⟩ := fillCheck_ends { s with boot := { s.boot with dram := .done } } hmode hcal hbanks rfl
    refine ⟨_, exec_dramFillDone_fill s hmode hdram, hload, ?_, ?_⟩
    · rw [hboot]; exact if_pos hresume
    · rw [hboot]; exact if_pos hresume

end Sys2Proof.Machine
end

section
/-!
The steps of LOAD and the sweeps of TRAIN (R77, R86, R87, R91, R93, R95, R106).
-/
set_option Elab.async false

namespace Sys2Proof.Machine

/-! ## LOAD -/

/-- What TRAIN's entry makes of start-up's progress: no level swept, and in a resume every channel to verify first (R93, R95). -/
theorem enterTrain_boot (s : State) :
    s.enterTrain.boot.step = 0 ∧ s.enterTrain.boot.faults = 0 ∧ s.enterTrain.boot.levelsDone = 0 ∧
      (s.resuming = true → s.enterTrain.boot.chVerify = s.enterTrain.boot.chLeft) := by
  unfold State.enterTrain
  extract_lets s1 ch _ s2
  by_cases hresume : s.resuming = true
  · rw [if_pos hresume, applyEyes_boot]
    exact ⟨rfl, rfl, rfl, fun _ => if_pos hresume⟩
  · rw [if_neg hresume]
    exact ⟨rfl, rfl, rfl, fun h => absurd h hresume⟩

/-- LOAD step 8 leaves RESUME. -/
theorem loadStep8_resuming (s : State) : s.loadStep8.resuming = s.resuming := by
  unfold State.loadStep8
  extract_lets lost s1
  rw [State.resuming, reg_levelBit_other _ _ _ _ (by decide) (by decide), State.syncExport, reg_setFld_other _ _ _ _ (by decide)]
  rfl

/-- Under BOOT_SEL 0b01 step 1 takes slot A. -/
theorem loadStep1_slotA (s : State) (hslot : s.boot.slot = none) (hsel : s.bootSel = 1) :
    s.loadStep1.mode = s.mode ∧ s.loadStep1.boot = { s.boot with slot := some .a, step := 2 } := by
  have hnone : ¬s.boot.slot.isSome = true := by simp [hslot]
  have hboth : ¬s.bootSel = 0 := by simp [hsel]
  rw [State.loadStep1, if_neg hnone, if_neg hboth, if_pos hsel, ← readMarkers_boot s]
  exact ⟨readMarkers_mode s, rfl⟩

/-- Step 3 goes on where the slot passes R120, and handles another reason as R91 says. -/
theorem loadStep3_slot (s : State) (x : Slot) (hslot : s.boot.slot = some x) :
    s.loadStep3 = if s.slotReason x = 0 then { s.setSlotReason x 0 with boot := { s.boot with step := 4 } }
      else s.slotFail x (s.slotReason x) := by
  rw [← setSlotReason_boot s x 0, State.loadStep3, hslot]
  rfl

section
variable (s : State) (ids : List (Nat × BitVec 64)) (misfit : List Nat) (hmode : s.mode = .load)
include hmode

theorem exec_loadStepComplete_step1 (hstep : s.boot.step = 1) : exec (.loadStepComplete ids misfit) s = .next s.loadStep1 :=
  congrArg Host.Outcome.next ((if_neg (by simp [hmode])).trans (by rw [hstep]; rfl))

theorem exec_loadStepComplete_step2 (hstep : s.boot.step = 2) : exec (.loadStepComplete ids misfit) s = .next (s.loadGo 3) :=
  congrArg Host.Outcome.next ((if_neg (by simp [hmode])).trans (by rw [hstep]; rfl))

theorem exec_loadStepComplete_step3 (hstep : s.boot.step = 3) : exec (.loadStepComplete ids misfit) s = .next s.loadStep3 :=
  congrArg Host.Outcome.next ((if_neg (by simp [hmode])).trans (by rw [hstep]; rfl))

theorem exec_loadStepComplete_step8_resume (hstep : s.boot.step = 8) (hresume : s.resuming = true) :
    exec (.loadStepComplete ids misfit) s = .next s.loadStep8.enterTrain :=
  congrArg Host.Outcome.next ((if_neg (by simp [hmode])).trans (by rw [hstep]; exact if_pos hresume))

theorem exec_loadStepComplete_step9 (hstep : s.boot.step = 9) : exec (.loadStepComplete ids misfit) s = .next s.replay.enterTrain :=
  congrArg Host.Outcome.next ((if_neg (by simp [hmode])).trans (by rw [hstep]; rfl))

end

/-! ## TRAIN -/

section
variable (s : State) (eyes : List LaneEye) (hmode : s.mode = .train) (hleft : s.boot.levelsDone < 4)
include hmode hleft

/-- A sweep of a level within the degraded limit is stored and counts (R93). -/
theorem exec_ddr5LevelSweepDone_counts (hverify : s.boot.verify = false) {u : State}
    (hsweep : (s.storeEyes (3 - s.boot.levelsDone) eyes).sweep eyes = some u) :
    exec (.ddr5LevelSweepDone eyes) s = .next u.levelDone :=
  congrArg Host.Outcome.next ((if_neg (by simp [hmode, hleft])).trans ((if_neg (by simp [hverify])).trans (by dsimp only; rw [hsweep])))

/-- A sweep of a level beyond the degraded limit leads to MAINTENANCE (R86). -/
theorem exec_ddr5LevelSweepDone_fails (hverify : s.boot.verify = false)
    (hsweep : (s.storeEyes (3 - s.boot.levelsDone) eyes).sweep eyes = none) :
    exec (.ddr5LevelSweepDone eyes) s =
      .next (((s.storeEyes (3 - s.boot.levelsDone) eyes).raise .startCause 3).toMaint 6 .dram) :=
  congrArg Host.Outcome.next ((if_neg (by simp [hmode, hleft])).trans ((if_neg (by simp [hverify])).trans (by dsimp only; rw [hsweep])))

/-- A verify pass counts the level where the kept eyes hold, and asks for the full sweep where not (R95). -/
theorem exec_ddr5LevelSweepDone_verify (hverify : s.boot.verify = true) :
    exec (.ddr5LevelSweepDone eyes) s =
      .next (if s.eyesHold eyes then s.levelDone else { s with boot := { s.boot with verify := false } }) :=
  congrArg Host.Outcome.next ((if_neg (by simp [hmode, hleft])).trans (if_pos hverify))

end

/-- A sweep's results change the eyes kept, and no more of start-up's progress (R95). -/
theorem storeEyes_boot (level : Nat) (eyes : List LaneEye) (s : State) :
    ∃ kept, (s.storeEyes level eyes).boot = { s.boot with eyes := kept } := by
  unfold State.storeEyes
  induction eyes generalizing s with
  | nil => exact ⟨s.boot.eyes, rfl⟩
  | cons e eyes ih =>
    obtain ⟨kept, hkept⟩ := ih (s.storeEye (Reg.memTrainResult + 4 * (20 * level + 10 * b2n e.subB + e.lane.val))
      (BitVec.ofNat 32 (e.rdCentre.toNat + 2 ^ 8 * e.rdWidth.toNat + 2 ^ 16 * e.wrCentre.toNat + 2 ^ 24 * e.wrWidth.toNat)))
    exact ⟨kept, hkept⟩

/-- A level that is done is one more level, and nothing but a set-point changes beside it. -/
theorem levelDone_boot (s : State) :
    s.levelDone.boot = { s.boot with levelsDone := s.boot.levelsDone + 1, verify := s.resuming } := setTarget_boot _ _ _

theorem levelDone_mode (s : State) : s.levelDone.mode = s.mode := setTarget_mode _ _ _

theorem levelDone_startCause (s : State) : s.levelDone.reg Reg.aonStartCause = s.reg Reg.aonStartCause :=
  reg_setTarget_other _ _ _ (by decide)

section
variable (s : State) (c rd wr : Nat) (hmode : s.mode = .train) (hleft : c ∈ s.boot.chLeft) (hrd : 20 ≤ rd) (hwr : 20 ≤ wr)
include hmode hleft hrd hwr

/-- A good full sweep of a channel is stored and counts (R93, R106). -/
theorem exec_channelSweepDone_good (hverify : c ∉ s.boot.chVerify) :
    exec (.channelSweepDone c rd wr) s = .next ((s.storeEye (Reg.medChTrain + 4 * c)
      (BitVec.ofNat 32 (rd % 256 + 256 * (wr % 256) + 2 ^ 16 * (s.fld (Reg.medChTrain + 4 * c) 16 2 + 1)))).chDone c) := by
  have hnone : ¬(decide (s.mode ≠ .train) || !s.boot.chLeft.contains c) = true := by simp [hmode, hleft]
  have hfull : ¬s.boot.chVerify.contains c = true := by simp [hverify]
  rw [show exec (.channelSweepDone c rd wr) s = execChannelSweepDone c rd wr s from rfl, execChannelSweepDone, if_neg hnone, if_neg hfull]
  simp only [hrd, hwr, decide_true, Bool.and_self, Bool.not_true, Bool.false_and, Bool.true_or, Bool.false_eq_true, if_true, if_false,
    b2n, Nat.mul_zero, Nat.add_zero]

/-- A channel whose kept eyes hold is done (R95). -/
theorem exec_channelSweepDone_verified (hverify : c ∈ s.boot.chVerify) :
    exec (.channelSweepDone c rd wr) s = .next (s.chDone c) :=
  congrArg Host.Outcome.next ((if_neg (by simp [hmode, hleft])).trans
    ((if_pos (by simp [hverify])).trans (if_pos (by simp [hrd, hwr]))))

end

theorem exec_sensorSelfCheckDone_ends (s : State) (hmode : s.mode = .train) (hlevels : s.boot.levelsDone = 4) (hch : s.boot.chLeft = []) :
    exec .sensorSelfCheckDone s = .next s.beginService :=
  congrArg Host.Outcome.next (if_pos (by simp [hmode, hlevels, hch]))

/-- Settles O19: each step's equation, and what the operations that it runs leave. -/
theorem loadAndTrain : Obligations.LoadAndTrain := by
  refine ⟨?_, exec_loadStepComplete_step2, ?_, ?_, ?_, ?_, ?_, ?_, ?_, ?_, ?_, ?_, ?_⟩
  · intro s ids misfit hmode hstep hslot hsel
    obtain ⟨hkeep, hboot⟩ := loadStep1_slotA s hslot hsel
    exact ⟨_, exec_loadStepComplete_step1 s ids misfit hmode hstep, hkeep.trans hmode, by rw [hboot], by rw [hboot]⟩
  · intro s ids misfit x hmode hstep hslot
    rw [exec_loadStepComplete_step3 s ids misfit hmode hstep, loadStep3_slot s x hslot]
  · intro s ids misfit hmode hstep
    obtain ⟨hnone, hfaults, hlevels, -⟩ := enterTrain_boot s.replay
    exact ⟨_, exec_loadStepComplete_step9 s ids misfit hmode hstep, enterTrain_mode _, hnone, hfaults, hlevels⟩
  · intro s ids misfit hmode hstep hresume
    obtain ⟨-, -, hlevels, hverify⟩ := enterTrain_boot s.loadStep8
    exact ⟨_, exec_loadStepComplete_step8_resume s ids misfit hmode hstep hresume, enterTrain_mode _, hlevels,
      hverify ((loadStep8_resuming s).trans hresume)⟩
  · intro s eyes hmode hleft hverify hA hB
    exact exec_ddr5LevelSweepDone_counts s eyes hmode hleft hverify (sweep_wide _ eyes hA hB)
  · intro s eyes n hmode _ hleft hverify hA hB hold
    obtain ⟨kept, hboot⟩ := storeEyes_boot (3 - s.boot.levelsDone) eyes s
    have hsweep := sweep_narrowA (s.storeEyes (3 - s.boot.levelsDone) eyes) eyes n hA hB (by rw [hboot]; exact hold)
    refine ⟨_, exec_ddr5LevelSweepDone_counts s eyes hmode hleft hverify hsweep, ?_, ?_, ?_, ?_⟩
    · rw [levelDone_mode, raise_mode]
      exact (storeEyes_mode s _ eyes).trans hmode
    · rw [levelDone_boot, raise_boot]
    · rw [levelDone_boot, raise_boot, hboot]
    · rw [levelDone_startCause]
      exact raise_startCause_bit _ (by decide) (by simp [State.islandOn, islandPower, hmode])
  · intro s eyes hmode hleft hverify hA
    exact ⟨_, exec_ddr5LevelSweepDone_fails s eyes hmode hleft hverify (sweep_failsA _ eyes hA), toMaint_mode _ _ _, toMaint_cause _ _ _⟩
  · intro s eyes hmode hleft hverify hhold
    exact (exec_ddr5LevelSweepDone_verify s eyes hmode hleft hverify).trans (congrArg Host.Outcome.next (if_pos hhold))
  · intro s eyes hmode hleft hverify hhold
    exact (exec_ddr5LevelSweepDone_verify s eyes hmode hleft hverify).trans
      (congrArg Host.Outcome.next (if_neg (Bool.eq_false_iff.mp hhold)))
  · intro s c rd wr hmode hleft hverify hrd hwr
    exact exec_channelSweepDone_good s c rd wr hmode hleft hrd hwr hverify
  · intro s c rd wr hmode hleft hverify hrd hwr
    exact exec_channelSweepDone_verified s c rd wr hmode hleft hrd hwr hverify
  · intro s hmode hlevels hch
    exact ⟨_, exec_sensorSelfCheckDone_ends s hmode hlevels hch, beginService_mode s⟩

end Sys2Proof.Machine
end

section
/-!
Folio boundaries in SERVICE, the ways into DRAIN, and the ends of DRAIN and FLUSH (R77, R157, R316, R399, R400).
-/
set_option Elab.async false

namespace Sys2Proof.Machine

/-! ## Boundaries -/

theorem sleepBoundary_awake (s : State) (h : s.pwr.sleep = none) : s.sleepBoundary = s := by
  rw [State.sleepBoundary, h]

theorem serviceAgain_outside_drain (s : State) (h : s.mode ≠ .drain) : s.serviceAgain = s :=
  if_neg (by simp [h])

/-- The work of a boundary in SERVICE with no sleep entry under way, in its order (R157). -/
theorem exec_folioBoundary_service (s : State) (hmode : s.mode = .service) (hsleep : s.pwr.sleep = none)
    (hdue : s.ldg.folioStart + 1310720 ≤ s.ldg.tick) :
    exec .folioBoundary s = .next ((({ s with ldg := { s.ldg with
      folioStart := s.ldg.folioStart + 1310720, folio := s.ldg.folio + 1,
      folios := s.ldg.folios + 1 } } : State).countCool.switchPlan none).followThrottle.resumeWork) := by
  have hends : (modeLedger s.mode && decide (s.ldg.folioStart + 1310720 ≤ s.ldg.tick)) = true := by
    simp only [hmode, modeLedger, hdue, decide_true, Bool.and_self]
  rw [show exec .folioBoundary s = execFolioBoundary s from rfl, execFolioBoundary, if_pos hends]
  generalize hs0 : ({ s with ldg := { s.ldg with
    folioStart := s.ldg.folioStart + 1310720, folio := s.ldg.folio + 1, folios := s.ldg.folios + 1 } } : State) = s0
  have hmode0 : s0.mode = .service := by rw [← hs0]; exact hmode
  have hsleep1 : s0.countCool.pwr.sleep = none := by rw [← hs0]; exact hsleep
  dsimp only
  rw [sleepBoundary_awake _ hsleep1, if_neg (by simp [hmode0]), if_neg (by simp [hmode0]), if_neg (by simp [hmode0]),
    serviceAgain_outside_drain _ (by simp [hmode0])]

theorem exec_folioBoundary_early (s : State) (h : s.ldg.tick < s.ldg.folioStart + 1310720) : exec .folioBoundary s = .next s :=
  congrArg Host.Outcome.next (if_neg (by simp [Nat.not_le.mpr h]))

/-! ## The ways into DRAIN -/

/-- DRAIN begins for its cause, nothing drained yet (R77). -/
theorem enterDrain_begins (s : State) (why : DrainFor) (c : ModeCause) (h : s.mode = .service ∨ s.mode = .throttle) :
    (s.enterDrain why c).mode = .drain ∧ (s.enterDrain why c).pwr.drainFor = some why ∧ (s.enterDrain why c).pwr.drained = false := by
  have hmode := enterDrain_mode s why c
  rw [if_pos h] at hmode
  have hin : (decide (s.mode = .service) || decide (s.mode = .throttle)) = true := by simpa using h
  refine ⟨hmode, ?_⟩
  rw [State.enterDrain, if_pos hin]
  exact ⟨rfl, rfl⟩

/-- The PF's shutdown notification in SERVICE or THROTTLE shows itself in CC and CSTS and begins DRAIN (R77). -/
theorem exec_shutdownNotification_drains (s : State) (shn : Nat) (hhst : s.islandOn .hst = true)
    (hmode : s.mode = .service ∨ s.mode = .throttle) (hshn : shn = 1 ∨ shn = 2) :
    ∃ u : State, u.mode = s.mode ∧ exec (.shutdownNotification shn) s = .next (u.enterDrain .shutdown .shutdown) := by
  have hasks : ¬(!s.islandOn .hst || decide (shn = 0) || decide (2 < shn)) = true := by rcases hshn with rfl | rfl <;> simp [hhst]
  have hin : (decide (s.mode = .service) || decide (s.mode = .throttle)) = true := by simpa using hmode
  rw [show exec (.shutdownNotification shn) s = .next (s.shutdownPf shn) from rfl, State.shutdownPf, if_neg hasks]
  dsimp only
  rw [if_pos hin]
  exact ⟨_, by simp, rfl⟩

/-- NSSR's fixed value in SERVICE or THROTTLE begins DRAIN for a restart (R77, R316). -/
theorem exec_nssrWrite_restarts (s : State) (hhst : s.islandOn .hst = true) (hmode : s.mode = .service ∨ s.mode = .throttle) :
    exec (.nssrWrite 0x4E564D65#32) s = .next ((s.enterDrain .restart .restart).takeRestart .restart (0, 0)) :=
  congrArg Host.Outcome.next ((if_pos (by simp [hhst])).trans (if_pos (by simpa using hmode)))

theorem exec_nssrWrite_other (s : State) (v : BitVec 32) (h : v ≠ 0x4E564D65#32) : exec (.nssrWrite v) s = .next s :=
  congrArg Host.Outcome.next (if_neg (by simp [h]))

/-! ## The ends of DRAIN and FLUSH -/

/-- What a DRAIN that has ended leads to, by its cause (R77, R400). -/
def State.drainEnd (s : State) : State :=
  match s.pwr.drainFor with
  | some .shutdown => { s.drainDone with pwr := { s.drainDone.pwr with drained := true } }
  | some .restart => s.drainDone.toStrap false
  | some .maintenance => s.drainDone.toMaint 7 .management
  | some .thermal => s.drainDone.enterFlush .thermal .thermal
  | none => s

/-- A DRAIN ends once nothing is in flight and everything has settled (R400). -/
theorem exec_drainComplete_ends (s : State) (hmode : s.mode = .drain) (hdrained : s.pwr.drained = false) (hcmds : s.host.cmds = [])
    (hnor : s.nor.op = none) (hsettled : s.allSettled = true) : exec .drainComplete s = .next s.drainEnd :=
  congrArg Host.Outcome.next ((if_neg (by simp [hmode, hdrained, hcmds, hnor])).trans (if_neg (by simp [hsettled])))

/-- STRAP holds the rails up, and remembers whether it came from OFF (R67, R84). -/
theorem toStrap_pwrHold (s : State) (fromOff : Bool) :
    (s.toStrap fromOff).pins.pwrHold = true ∧ (s.toStrap fromOff).boot.fromOff = fromOff := ⟨rfl, rfl⟩

theorem toOff_pwrHold (s : State) (why : OffReason) (c : ModeCause) : (s.toOff why c).pins.pwrHold = false := rfl

/-- FLUSH's end leads to OFF (R399). -/
theorem exec_flushComplete_off (s : State) (hmode : s.mode = .flush) :
    ∃ (u : State) (why : OffReason), exec .flushComplete s = .next (u.toOff why .flushDone) :=
  ⟨_, _, congrArg Host.Outcome.next (if_pos hmode)⟩

/-- Settles O20: the equations of the events, and the modes that they enter. -/
theorem serviceDrainFlush : Obligations.ServiceDrainFlush := by
  refine ⟨exec_folioBoundary_service, exec_folioBoundary_early, ?_, ?_, exec_nssrWrite_other, ?_, ?_⟩
  · intro s shn hhst hmode hshn
    obtain ⟨u, hsame, hexec⟩ := exec_shutdownNotification_drains s shn hhst hmode hshn
    exact ⟨_, hexec, enterDrain_begins u .shutdown .shutdown (by rwa [hsame])⟩
  · intro s hhst hmode
    obtain ⟨hdrain, -, -⟩ := enterDrain_begins s .restart .restart hmode
    exact ⟨_, exec_nssrWrite_restarts s hhst hmode, hdrain, rfl⟩
  · intro s hmode hdrained hcmds hnor hsettled
    refine ⟨_, exec_drainComplete_ends s hmode hdrained hcmds hnor hsettled, ?_, ?_, ?_, ?_⟩ <;> intro hcause <;>
      rw [State.drainEnd, hcause]
    · exact ⟨(drainDone_mode s).trans hmode, rfl⟩
    · exact ⟨toStrap_mode _ false, toStrap_pwrHold _ false⟩
    · exact toMaint_mode _ _ _
    · dsimp only
      rw [enterFlush_mode, drainDone_mode, hmode]
      rfl
  · intro s hmode
    obtain ⟨u, why, hexec⟩ := exec_flushComplete_off s hmode
    exact ⟨_, hexec, toOff_mode u why .flushDone, toOff_pwrHold u why .flushDone⟩

end Sys2Proof.Machine
end

section
/-!
A VF's shutdown notification on an account map that lists a key twice (R343). Statements over every state speak of such maps too, and
there a write need not be read back.
-/
set_option Elab.async false

namespace Sys2Proof.Machine

/-- An image that is loaded; what its sections hold does not matter here. -/
def blankImage : Image :=
  { magic := 0, format := 0, sectionCount := 0, imageBytes := 0, fwRelease := 0, targetPart := 0, reservedZero := true, dir := [],
    dirTailZero := true, headDigest := 0, fwSigOk := true, keyDigest := 0, imageSigOk := true,
    planSet := ⟨0, 0, 0, 0, 0, 0, [], [], [], [], 0, true⟩, accounts := ⟨0, 0, true, [], 0⟩,
    geometry := ⟨0, 0, 0, 0, 0, 0, false, 0, 0, 0, 1, [], true⟩, verify := romVerify, recipes := ⟨0, 0, 0, true, [], []⟩,
    thresholds := romThresholds }

/-- SERVICE with VF 1 enabled and its account listed twice: the record that is read is unbound, and the one behind it is bound. -/
def listedTwice : State :=
  { State.reset with
    mode := .service
    boot := { State.reset.boot with image := some blankImage }
    host := { State.reset.host with
      vfEnable := true, numVfs := 1
      accts := [(1, { resumeOnEnable := true }), (1, { binding := some ⟨1, 0, false, false, false, ⟨0, 0, 0, 0, 0, 0, 0, []⟩⟩ })] } }

/-- The write of the record that is read makes it the default one, so that it is dropped and the bound record is read: the notification
starts a quiesce, and SHST stays 1. -/
theorem listedTwice_shst : ((listedTwice.shutdownVf 1).ctrl 1).shst = 1 := by decide +kernel

/-- Refutes O36 by its clause on the shutdown notification of an unbound VF, which has SHST at 2: the statement does not ask that the
account map be canonical, and `listedTwice` meets every premise of the clause. -/
theorem not_controllersAndFunctions : ¬ Obligations.ControllersAndFunctions := by
  rintro ⟨-, -, -, hunbound, -⟩
  have hexec := hunbound listedTwice 1 (by decide) (by decide) (by decide) (by decide) (by decide)
  have hshst := congrArg (fun t : State => (t.ctrl 1).shst) (Host.Outcome.next.inj hexec)
  exact absurd (listedTwice_shst.symm.trans hshst) (by decide)

end Sys2Proof.Machine
end

section
/-!
The canonical form of the registers and byte memories (R108, R565): every command but a life-cycle change keeps it together with the
queue and the fuses, and a life-cycle change keeps it while it burns fuses (R454, R540).
-/
set_option Elab.async false

namespace Sys2Proof.Machine

/-- The commands that burn fuses (R454, R540). -/
def burnsFuses : Instr → Bool
  | .provision .. => true
  | .decommission .. => true
  | _ => false

theorem burnsFuses_true {c : Instr} (h : burnsFuses c = true) :
    (∃ id auth, c = .provision id auth) ∨ ∃ id auth, c = .decommission id auth := by
  unfold burnsFuses at h
  split at h
  next id auth => exact .inl ⟨id, auth, rfl⟩
  next id auth => exact .inr ⟨id, auth, rfl⟩
  next => exact absurd h Bool.false_ne_true

/-- Every other command keeps the queue, the canonical form and the fuses, as its meaning does. -/
theorem exec_kept {Q : List Instr} {F : Fuses} {s : State} (c : Instr) (hc : burnsFuses c = false) (hk : Kept Q F s) :
    KeptO Q F (exec c s) := by
  cases c with
  | provision => exact nomatch hc
  | decommission => exact nomatch hc
  | porNAssert => exact kept_execPorNAssert hk
  | porNRelease => exact kept_execPorNRelease hk
  | plossNFall => exact kept_execPlossNFall hk
  | plossNAssert => exact kept_execPlossNAssert hk
  | plossNRise => exact kept_execPlossNRise hk
  | offExitCountExpiry => exact kept_execOffExitCountExpiry hk
  | pwrGoodDrop => exact kept_execPwrGoodDrop hk
  | pwrGoodRise => exact kept_execPwrGoodRise hk
  | railTimeout => exact kept_execRailTimeout hk
  | strapSample => exact kept_execStrapSample _ hk
  | oscillatorQualified => exact kept_execOscillatorQualified hk
  | pllLock => exact kept_execPllLock _ hk
  | xtalFail => exact kept_execXtalFail hk
  | calRowReadDone => exact kept_execCalRowReadDone hk
  | bankFillDone => exact kept_execBankFillDone _ hk
  | ddr5BootSweepDone => exact kept_execDdr5BootSweepDone _ hk
  | dramFillDone => exact kept_execDramFillDone hk
  | perstNAssert => exact kept_execPerstNAssert hk
  | perstNRelease => exact kept_execPerstNRelease hk
  | pcieLinkUp => exact kept_execPcieLinkUp _ hk
  | clkreqNAssert => exact kept_execClkreqNAssert hk
  | loadStepComplete => exact kept_execLoadStepComplete _ _ hk
  | ddr5LevelSweepDone => exact kept_execDdr5LevelSweepDone _ hk
  | channelSweepDone => exact kept_execChannelSweepDone _ _ _ hk
  | sensorSelfCheckDone => exact kept_execSensorSelfCheckDone hk
  | folioBoundary => exact kept_execFolioBoundary hk
  | shutdownNotification => exact kept_execShutdownNotification _ hk
  | drainComplete => exact kept_execDrainComplete hk
  | flushComplete => exact kept_execFlushComplete hk
  | nssrWrite => exact kept_execNssrWrite _ hk
  | processorFault => exact kept_execProcessorFault _ hk
  | islandRestartComplete => exact kept_execIslandRestartComplete _ hk
  | watchdogKick => exact kept_execWatchdogKick _ hk
  | watchdogExpiry => exact kept_execWatchdogExpiry hk
  | mgtClockStop => exact kept_execMgtClockStop hk
  | mgtClockRestart => exact kept_execMgtClockRestart hk
  | norProgram => exact kept_execNorProgram _ _ _ hk
  | norSubsectorErase => exact kept_execNorSubsectorErase _ hk
  | norSectorErase => exact kept_execNorSectorErase _ hk
  | norOpComplete => exact kept_execNorOpComplete _ hk
  | busyBankFault => exact kept_execBusyBankFault _ _ hk
  | crossingFault => exact kept_execCrossingFault _ _ hk
  | crossbarRefusal => exact kept_execCrossbarRefusal _ _ _ _ hk
  | doorbellWrite => exact kept_execDoorbellWrite _ _ _ _ hk
  | commandFetch => exact kept_execCommandFetch _ _ _ hk
  | capsuleReceive => exact kept_execCapsuleReceive _ _ _ _ hk
  | commandArrival => exact kept_execCommandArrival _ hk
  | acceptanceEnd => exact kept_execAcceptanceEnd _ hk
  | mapLookupEnd => exact kept_execMapLookupEnd _ _ _ _ hk
  | entryStart => exact kept_execEntryStart _ _ _ _ _ _ hk
  | budgetCheck => exact kept_execBudgetCheck _ _ hk
  | dieReset => exact kept_execDieReset _ hk
  | transferSlot => exact kept_execTransferSlot _ hk
  | ldpcDecodeEnd => exact kept_execLdpcDecodeEnd _ _ _ _ hk
  | retryRead => exact kept_execRetryRead _ _ hk
  | recoveryRead => exact kept_execRecoveryRead _ _ hk
  | l3Timeout => exact kept_execL3Timeout _ _ hk
  | tallyRebuild => exact kept_execTallyRebuild _ _ _ hk
  | xtsStageEnd => exact kept_execXtsStageEnd _ _ _ hk
  | sealCheckEnd => exact kept_execSealCheckEnd _ _ _ hk
  | egressSlotStart => exact kept_execEgressSlotStart _ _ _ hk
  | egressEnd => exact kept_execEgressEnd _ _ _ hk
  | zeroReadEgress => exact kept_execZeroReadEgress _ _ hk
  | completionPostEnd => exact kept_execCompletionPostEnd _ _ hk
  | hostDataFetchEnd => exact kept_execHostDataFetchEnd _ _ hk
  | stagingSlotsTaken => exact kept_execStagingSlotsTaken _ _ _ hk
  | gateLaneGrant => exact kept_execGateLaneGrant _ hk
  | sealEnd => exact kept_execSealEnd _ _ hk
  | zeroFillEnd => exact kept_execZeroFillEnd _ _ hk
  | dramWriteEnd => exact kept_execDramWriteEnd _ _ hk
  | dayBookSecure => exact kept_execDayBookSecure _ hk
  | deallocationSecure => exact kept_execDeallocationSecure _ hk
  | programResult => exact kept_execProgramResult _ _ hk
  | settlementMessage => exact kept_execSettlementMessage hk
  | eraseResult => exact kept_execEraseResult _ _ hk
  | zoneClaimDone => exact kept_execZoneClaimDone _ hk
  | slotBinding => exact kept_execSlotBinding _ _ _ hk
  | evacuationDone => exact kept_execEvacuationDone _ _ _ hk
  | foldDone => exact kept_execFoldDone _ _ _ hk
  | tailRingCopy => exact kept_execTailRingCopy _ _ hk
  | tallyProgram => exact kept_execTallyProgram _ _ hk
  | accumulatorRebuild => exact kept_execAccumulatorRebuild _ hk
  | blockVerifyDone => exact kept_execBlockVerifyDone _ _ _ hk
  | mapCommitMessage => exact kept_execMapCommitMessage _ hk
  | sourceErase => exact kept_execSourceErase _ hk
  | spillProgram => exact kept_execSpillProgram hk
  | metadataWrite => exact kept_execMetadataWrite _ hk
  | staleSecuredRecord => exact kept_execStaleSecuredRecord _ hk
  | segmentTestStart => exact kept_execSegmentTestStart _ hk
  | segmentTestSample => exact kept_execSegmentTestSample _ hk
  | testInvalid => exact kept_execTestInvalid hk
  | segFault => exact kept_execSegFault _ _ hk
  | scrubPassStart => exact kept_execScrubPassStart _ hk
  | drainBatchStart => exact kept_execDrainBatchStart _ _ hk
  | drainBatchEnd => exact kept_execDrainBatchEnd _ hk
  | rowCloseTimeout => exact kept_execRowCloseTimeout _ hk
  | selfRefreshEntry => exact kept_execSelfRefreshEntry hk
  | ddrAlert => exact kept_execDdrAlert hk
  | bankScrub => exact kept_execBankScrub _ _ hk
  | bankRetentionEntry => exact kept_execBankRetentionEntry _ hk
  | bankWakeDone => exact kept_execBankWakeDone _ hk
  | tamperV => exact kept_execTamperV _ _ hk
  | tamperClk => exact kept_execTamperClk _ _ hk
  | tamperShield => exact kept_execTamperShield hk
  | wipeDone => exact kept_execWipeDone hk
  | srmConflictClr => exact kept_execSrmConflictClr _ _ hk
  | acquire => exact kept_execAcquire _ hk
  | release => exact kept_execRelease _ hk
  | unwrap => exact kept_execUnwrap _ _ _ _ hk
  | wrapOut => exact kept_execWrapOut _ _ hk
  | wrapData => exact kept_execWrapData _ _ _ hk
  | clear => exact kept_execClear _ _ hk
  | kmOpComplete => exact kept_execKmOpComplete hk
  | crySlotSelWrite => exact kept_execCrySlotSelWrite _ _ hk
  | entropyFail => exact kept_execEntropyFail hk
  | entropyStale => exact kept_execEntropyStale _ hk
  | maskReseed => exact kept_execMaskReseed _ hk
  | chainRun => exact kept_execChainRun _ _ _ hk
  | appendCountWrite => exact kept_execAppendCountWrite _ _ _ _ hk
  | descriptorCopy => exact kept_execDescriptorCopy _ _ hk
  | descriptorFill => exact kept_execDescriptorFill _ _ hk
  | fence => exact kept_execFence _ _ hk
  | linkReadReturn => exact kept_execLinkReadReturn _ _ hk
  | linkReread => exact kept_execLinkReread _ hk
  | chainRetry => exact kept_execChainRetry _ _ hk
  | chainSkip => exact kept_execChainSkip _ _ hk
  | chainAbort => exact kept_execChainAbort _ _ hk
  | contextReadComplete => exact kept_execContextReadComplete _ _ _ hk
  | ctxHalt => exact kept_execCtxHalt _ _ _ _ _ hk
  | xfrCtxSelWrite => exact kept_execXfrCtxSelWrite _ _ hk
  | contextRestartRetry => exact kept_execContextRestartRetry _ hk
  | contextRestartFail => exact kept_execContextRestartFail _ hk
  | deleteIoSubmissionQueue => exact kept_execDeleteIoSubmissionQueue _ _ hk
  | createIoSubmissionQueue => exact kept_execCreateIoSubmissionQueue _ _ _ _ _ hk
  | getLogPage => exact kept_execGetLogPage _ _ _ _ _ _ hk
  | deleteIoCompletionQueue => exact kept_execDeleteIoCompletionQueue _ _ hk
  | createIoCompletionQueue => exact kept_execCreateIoCompletionQueue _ _ _ _ _ hk
  | identify => exact kept_execIdentify _ _ _ _ _ hk
  | abort => exact kept_execAbort _ _ _ hk
  | setFeatures => exact kept_execSetFeatures _ _ _ _ hk
  | powerStateSet => exact kept_execPowerStateSet _ _ _ hk
  | dozeRequest => exact kept_execDozeRequest _ _ hk
  | hibernateRequest => exact kept_execHibernateRequest _ _ hk
  | timestamp => exact kept_execTimestamp _ _ _ hk
  | getFeatures => exact kept_execGetFeatures _ _ _ _ hk
  | asynchronousEventRequest => exact kept_execAsynchronousEventRequest _ hk
  | namespaceManagement => exact kept_execNamespaceManagement _ _ _ hk
  | firmwareCommitUpdate => exact kept_execFirmwareCommitUpdate _ _ _ hk
  | firmwareCommitMark => exact kept_execFirmwareCommitMark _ _ hk
  | firmwareImageDownload => exact kept_execFirmwareImageDownload _ _ _ _ hk
  | namespaceAttachment => exact kept_execNamespaceAttachment _ _ _ hk
  | keepAlive => exact kept_execKeepAlive _ hk
  | virtualizationManagement => exact kept_execVirtualizationManagement _ _ _ _ hk
  | fabricsConnect => exact kept_execFabricsConnect _ _ _ _ _ hk
  | propertyGet => exact kept_execPropertyGet _ _ _ hk
  | propertySet => exact kept_execPropertySet _ _ _ _ hk
  | disconnect => exact kept_execDisconnect _ _ hk
  | formatNvm => exact kept_execFormatNvm _ _ hk
  | mediatedCommand => exact kept_execMediatedCommand _ _ _ _ hk
  | planSelect => exact kept_execPlanSelect _ _ _ hk
  | planReqWrite => exact kept_execPlanReqWrite _ _ hk
  | planStatus => exact kept_execPlanStatus _ hk
  | accountQuiesce => exact kept_execAccountQuiesce _ _ hk
  | accountResume => exact kept_execAccountResume _ _ hk
  | quiesceCut => exact kept_execQuiesceCut _ hk
  | accountBind => exact kept_execAccountBind _ _ _ hk
  | accountQuery => exact kept_execAccountQuery _ _ hk
  | mediationReply => exact kept_execMediationReply _ _ _ hk
  | keyLoad => exact kept_execKeyLoad _ _ _ hk
  | mediationReceive => exact kept_execMediationReceive _ hk
  | restart => exact kept_execRestart _ _ hk
  | maintenanceRequest => exact kept_execMaintenanceRequest _ _ hk
  | reserveStatus => exact kept_execReserveStatus _ hk
  | flush => exact kept_execFlush _ hk
  | write => exact kept_execWrite _ hk
  | read => exact kept_execRead _ hk
  | writeZeroes => exact kept_execWriteZeroes _ hk
  | datasetManagement => exact kept_execDatasetManagement _ hk
  | copy => exact kept_execCopy _ hk
  | zoneClose => exact kept_execZoneClose _ hk
  | zoneFinish => exact kept_execZoneFinish _ hk
  | zoneOpen => exact kept_execZoneOpen _ hk
  | zoneReset => exact kept_execZoneReset _ hk
  | zoneOffline => exact kept_execZoneOffline _ hk
  | setZoneDescriptorExtension => exact kept_execSetZoneDescriptorExtension _ hk
  | reportZones => exact kept_execReportZones _ hk
  | zoneAppend => exact kept_execZoneAppend _ hk
  | mintedRead => exact kept_execMintedRead _ hk
  | controllerReset => exact kept_execControllerReset _ hk
  | controllerEnable => exact kept_execControllerEnable _ _ hk
  | vfShutdownNotification => exact kept_execVfShutdownNotification _ hk
  | flr => exact kept_execFlr _ hk
  | flrTimeout => exact kept_execFlrTimeout _ hk
  | sliceEnable => exact kept_execSliceEnable _ _ _ _ hk
  | sliceDisable => exact kept_execSliceDisable _ _ hk
  | qsliceApply => exact kept_execQsliceApply _ _ hk
  | dlogHeadWrite => exact kept_execDlogHeadWrite _ _ hk
  | cmReq port src => exact show KeptO Q F (execCmReq port src s) from kept_execCmReq port src hk
  | ceMarkedPacket => exact kept_execCeMarkedPacket _ hk
  | cnpReceive => exact kept_execCnpReceive _ hk
  | rateRecovery => exact kept_execRateRecovery _ hk
  | pfcPauseReceive => exact kept_execPfcPauseReceive _ _ hk
  | pfcXon => exact kept_execPfcXon _ _ hk
  | arpRequest => exact kept_execArpRequest _ _ hk
  | neighborDiscovery => exact kept_execNeighborDiscovery _ _ hk
  | wakeFrame => exact kept_execWakeFrame _ _ _ _ hk
  | linkUp => exact kept_execLinkUp _ _ _ hk
  | linkDown => exact kept_execLinkDown _ _ _ hk
  | mintLaneGrant => exact kept_execMintLaneGrant _ hk
  | mintSetupEnd => exact kept_execMintSetupEnd _ hk
  | sectorConsume => exact kept_execSectorConsume _ _ _ _ _ hk
  | mintChunkTurn => exact kept_execMintChunkTurn _ _ _ hk
  | mintLaneEnd => exact kept_execMintLaneEnd _ hk
  | abortPointAp2 => exact kept_execAbortPointAp2 hk
  | abortPointAp3 => exact kept_execAbortPointAp3 hk
  | mgmtWake => exact kept_execMgmtWake hk
  | alarmMatch => exact kept_execAlarmMatch hk
  | rtcPeriod => exact kept_execRtcPeriod hk
  | sensorSample => exact kept_execSensorSample _ _ _ hk
  | throttleRise => exact kept_execThrottleRise hk
  | wearEvaluation => exact kept_execWearEvaluation hk
  | powerOnHour => exact kept_execPowerOnHour hk
  | loopSample => exact kept_execLoopSample _ _ hk
  | loopOutput => exact kept_execLoopOutput _ hk
  | profileStep => exact kept_execProfileStep hk
  | settleLate => exact kept_execSettleLate _ hk
  | loopCloseWrite => exact kept_execLoopCloseWrite _ _ _ hk
  | coefWrite => exact kept_execCoefWrite _ _ _ _ hk
  | setpointWrite => exact kept_execSetpointWrite _ _ _ hk
  | loop1Reclose => exact kept_execLoop1Reclose hk
  | entdaa => exact kept_execEntdaa _ hk
  | rstdaa => exact kept_execRstdaa hk
  | setdasa => exact kept_execSetdasa _ _ hk
  | setnewda => exact kept_execSetnewda _ _ hk
  | getpid => exact kept_execGetpid _ hk
  | getbcr => exact kept_execGetbcr _ hk
  | getdcr => exact kept_execGetdcr _ hk
  | getstatus => exact kept_execGetstatus _ hk
  | getmwl => exact kept_execGetmwl _ hk
  | getmrl => exact kept_execGetmrl _ hk
  | setmwl => exact kept_execSetmwl _ _ hk
  | setmrl => exact kept_execSetmrl _ _ hk
  | enec => exact kept_execEnec _ hk
  | disec => exact kept_execDisec _ hk
  | mctpPacketWrite => exact kept_execMctpPacketWrite _ _ hk
  | mctpPacketRead => exact kept_execMctpPacketRead _ hk
  | setEndpointId => exact kept_execSetEndpointId _ _ hk
  | getEndpointId => exact kept_execGetEndpointId _ hk
  | getEndpointUuid => exact kept_execGetEndpointUuid _ hk
  | getMctpVersionSupport => exact kept_execGetMctpVersionSupport _ _ hk
  | getMessageTypeSupport => exact kept_execGetMessageTypeSupport _ hk
  | readNvmeMiDataStructure => exact kept_execReadNvmeMiDataStructure _ _ hk
  | nvmSubsystemHealthStatusPoll => exact kept_execNvmSubsystemHealthStatusPoll _ hk
  | controllerHealthStatusPoll => exact kept_execControllerHealthStatusPoll _ _ hk
  | configurationSet => exact kept_execConfigurationSet _ _ _ hk
  | configurationGet => exact kept_execConfigurationGet _ _ hk
  | miReset => exact kept_execMiReset _ hk
  | getChallenge => exact kept_execGetChallenge _ hk
  | eventLogRead => exact kept_execEventLogRead _ _ _ hk
  | eventLogClear => exact kept_execEventLogClear _ _ hk
  | calibrationRowRead => exact kept_execCalibrationRowRead _ hk
  | calibrationRowWrite => exact kept_execCalibrationRowWrite _ _ hk
  | factoryTestVerifySlot => exact kept_execFactoryTestVerifySlot _ _ hk
  | factoryTestAlert => exact kept_execFactoryTestAlert _ hk
  | factoryAlertPulseEnd => exact kept_execFactoryAlertPulseEnd hk
  | factoryTestEntropy => exact kept_execFactoryTestEntropy _ _ hk
  | challengeNew => exact kept_execChallengeNew _ hk
  | nonceExpiry => exact kept_execNonceExpiry _ hk
  | authLockoutEnd => exact kept_execAuthLockoutEnd _ hk
  | causeLeafSet => exact kept_execCauseLeafSet _ _ hk
  | causeLeafClear => exact kept_execCauseLeafClear _ _ _ hk
  | alertNUpdate => exact kept_execAlertNUpdate hk
  | evtRecordProgram => exact kept_execEvtRecordProgram hk
  | evtProgramDone => exact kept_execEvtProgramDone _ hk
  | evtRdSelWrite => exact kept_execEvtRdSelWrite _ _ hk
  | medZqSelWrite => exact kept_execMedZqSelWrite _ _ hk
  | traceArm => exact kept_execTraceArm _ _ hk
  | extwaitClear => exact kept_execExtwaitClear _ _ hk
  | tickLoRead => exact kept_execTickLoRead _ hk
  | timeLoRead => exact kept_execTimeLoRead _ hk
  | registerWrite => exact kept_execRegisterWrite _ _ _ hk
  | segmentCharged => exact kept_execSegmentCharged _ _ hk
  | tallyForwardCopy => exact kept_execTallyForwardCopy _ _ hk
  | retentionRefreshDue => exact kept_execRetentionRefreshDue _ _ hk
  | cqHeadWrite => exact kept_execCqHeadWrite _ _ _ hk
  | vfEnable => exact kept_execVfEnable _ hk
  | pcieLinkDown => exact kept_execPcieLinkDown hk
  | keepAliveTimeout => exact kept_execKeepAliveTimeout _ hk
  | pfcPauseExpiry => exact kept_execPfcPauseExpiry _ _ hk
  | tckEdge => exact kept_execTckEdge _ _ hk
  | trstNAssert => exact kept_execTrstNAssert hk
/-! ## Life-cycle changes -/

/-- A management request is left alone, served, or refused, by the column of the mode (R536). -/
theorem miServe_cases (s : State) (id : Nat) (early full maint : Bool) (f : State → State) :
    s.miServe id early full maint f = s ∨ s.miServe id early full maint f = f s.miTake ∨
      s.miServe id early full maint f = s.miTake.miRefuse id := by
  unfold State.miServe
  cases s.miCol with
  | none => exact .inl rfl
  | early => cases early <;> simp
  | full => cases full <;> simp
  | maint => cases maint <;> simp

theorem canonical_miServe {s : State} (id : Nat) (early full maint : Bool) {f : State → State}
    (hf : ∀ t, Canonical t → Canonical (f t)) (h : Canonical s) : Canonical (s.miServe id early full maint f) := by
  have htake : Canonical s.miTake := (kept_miTake (kept_of h)).canonical
  rcases miServe_cases s id early full maint f with e | e | e <;> rw [e]
  · exact h
  · exact hf _ htake
  · exact (kept_miRefuse id (kept_of htake)).canonical

/-- A life-cycle change writes the fuses, and neither a register nor a memory with them. -/
theorem canonical_lifeChange {s : State} (id action : Nat) (a : Auth) (life : LifeCycle) (key : BitVec 256) (h : Canonical s) :
    Canonical (s.lifeChange id action a life key) := by
  unfold State.lifeChange
  split
  next s1 e =>
    obtain ⟨hregs, hnor, hxfr⟩ := (kept_authorise_eq e (kept_of h)).canonical
    have hburnt : Canonical { s1 with cry := { s1.cry with life := life, deviceKey := some key } } := ⟨hregs, hnor, hxfr⟩
    exact (kept_miReply id miOk 0 [] (kept_raise .mgtCause 6 (kept_of hburnt))).canonical
  next s1 _ e => exact (kept_authReply _ _ (kept_authorise_eq e (kept_of h))).canonical

/-! ## Steps -/

theorem exec_canonical (c : Instr) {s t : State} (h : Canonical s) (e : exec c s = .next t) : Canonical t := by
  cases hc : burnsFuses c with
  | false => exact (exec_kept c hc (kept_of h) t e).canonical
  | true =>
    obtain ⟨id, auth, rfl⟩ | ⟨id, auth, rfl⟩ := burnsFuses_true hc
    · cases e
      exact canonical_miServe id false false true (fun _ => canonical_lifeChange id 4 _ _ _) h
    · cases e
      exact canonical_miServe id false false true (fun _ => canonical_lifeChange id 5 _ _ _) h

theorem idle_canonical {s : State} (h : Canonical s) : Canonical (idle s) := (kept_idle (kept_of h)).canonical

/-- Settles O8: the command at the front keeps the canonical form, and so does a tick on an empty queue. -/
theorem canonicalKept : Obligations.CanonicalKept := by
  intro s t h hstep
  cases hq : s.pending with
  | nil =>
    cases (step_nil s hq).symm.trans hstep
    exact idle_canonical h
  | cons c rest =>
    have hrest : Canonical { s with pending := rest } := h
    exact exec_canonical c hrest ((step_cons c rest s hq).symm.trans hstep)

end Sys2Proof.Machine
end

section
/-!
The boot flash's controller: starts by the MP, the busy-bank fault, and what a successful operation leaves in the device (R108 to R111, R113,
R129, R130).
-/
set_option Elab.async false

namespace Sys2Proof.Machine

/-! ## The device's bytes -/

/-- A byte above a program's last is left alone, and so is one below its first. -/
theorem memRead_progBytes_other (bs : List Byte) : ∀ (m : List Host.Cell) (a : Nat) {b : Nat}, b < a ∨ a + bs.length ≤ b →
    memRead norDefault (progBytes m a bs) b = memRead norDefault m b := by
  induction bs with
  | nil => intro m a b _; rfl
  | cons v bs ih =>
    intro m a b h
    rw [List.length_cons] at h
    rw [progBytes, ih _ (a + 1) (by omega), memRead_memWrite_other _ _ _ (by omega)]

/-- A programmed byte is the AND of what stood there and the data (log entry 13). -/
theorem memRead_progBytes_same (bs : List Byte) : ∀ {m : List Host.Cell} (a i : Nat), Memory.wf norDefault m = true → (h : i < bs.length) →
    memRead norDefault (progBytes m a bs) (a + i) = memRead norDefault m (a + i) &&& bs[i] := by
  induction bs with
  | nil => intro m a i _ h; exact absurd h (Nat.not_lt_zero i)
  | cons v bs ih =>
    intro m a i hm h
    rw [progBytes]
    cases i with
    | zero =>
      rw [Nat.add_zero a, memRead_progBytes_other bs _ (a + 1) (.inl (Nat.lt_succ_self a)), memRead_memWrite_same _ _ _ hm]
      rfl
    | succ i =>
      have hnext := ih (a + 1) i (memWrite_wf norDefault a (memRead norDefault m a &&& v) hm) (Nat.lt_of_succ_lt_succ h)
      rw [show a + 1 + i = a + (i + 1) by omega, memRead_memWrite_other _ _ _ (by omega)] at hnext
      exact hnext

/-- What a map reads at a key that a filter keeps. -/
theorem cget_filter {β : Type} (d : β) (p : Nat → Bool) (m : List (Nat × β)) {k : Nat} (h : p k = true) :
    cget d (m.filter fun e => p e.1) k = cget d m k := by
  induction m with
  | nil => rfl
  | cons e m ih =>
    obtain ⟨j, v⟩ := e
    by_cases hj : j = k
    · subst hj; simp [cget, h]
    · cases hp : p j <;> simp [cget, hp, hj, ih]

theorem memRead_eraseBytes_inside (m : List Host.Cell) {a n b : Nat} (hlo : a ≤ b) (hhi : b < a + n) :
    memRead norDefault (eraseBytes m a n) b = norDefault := by
  refine cget_eq_default fun e he hb => ?_
  subst hb
  simpa [hlo, hhi] using (List.mem_filter.mp he).2

theorem memRead_eraseBytes_outside (m : List Host.Cell) {a n b : Nat} (h : b < a ∨ a + n ≤ b) :
    memRead norDefault (eraseBytes m a n) b = memRead norDefault m b :=
  cget_filter norDefault (fun k => !(decide (a ≤ k) && decide (k < a + n))) m (by simp; omega)

/-! ## The end of an operation -/

theorem clearKick_idle (s : State) (h : s.evt.clearing = none) : s.clearKick = s := by
  rw [State.clearKick, h]
  cases s.nor.op <;> rfl

theorem updKick_idle (s : State) (h : s.nor.update = none) : s.updKick = s := by
  rw [State.updKick, h]
  cases s.nor.op <;> rfl

/-- Nothing starts where nothing waits for the controller. -/
theorem norKick_idle (s : State) (hread : s.evt.rdWait = false) (hclear : s.evt.clearing = none) (hupdate : s.nor.update = none) :
    s.norKick = s := by
  rw [State.norKick, hread, Bool.false_and, if_neg Bool.false_ne_true, clearKick_idle s hclear, updKick_idle s hupdate]

/-- The device's bytes after a successful operation. -/
def NorOp.leaves (o : NorOp) (m : List Host.Cell) : List Host.Cell :=
  match o.kind with
  | .program => progBytes m o.addr o.data
  | k => eraseBytes m (opRange k o.addr 0).1 (opRange k o.addr 0).2

theorem NorOp.leaves_erase (o : NorOp) {m : List Host.Cell} (h : o.kind ≠ .program) :
    o.leaves m = eraseBytes m (opRange o.kind o.addr 0).1 (opRange o.kind o.addr 0).2 := by
  unfold NorOp.leaves
  cases hk : o.kind with
  | program => exact absurd hk h
  | subsector => rfl
  | sector => rfl

/-- A successful operation changes the device's bytes, and the recorder in its log alone. -/
theorem norApply_form (s : State) (o : NorOp) : ∃ l, s.norApply o =
    { s with evt := { s.evt with log := l }, nor := { s.nor with mem := o.leaves s.nor.mem } } := by
  unfold State.norApply NorOp.leaves
  cases o.kind <;> exact ⟨_, rfl⟩

/-- The MP's operation has succeeded: its status and its effect, the controller free again (R130). -/
def State.norSucceeds (s : State) (o : NorOp) : State := (({ s with nor := { s.nor with op := none } } : State).norDone true).norApply o

theorem norSucceeds_form (s : State) (o : NorOp) : ∃ r l, s.norSucceeds o =
    { s with regs := r, evt := { s.evt with log := l }, nor := { s.nor with op := none, mem := o.leaves s.nor.mem } } := by
  obtain ⟨l, h⟩ := norApply_form (({ s with nor := { s.nor with op := none } } : State).norDone true) o
  exact ⟨_, l, h⟩

/-- No request of the management path waits for this operation (R113). -/
theorem norOwnerEnd_mp (s : State) (o : NorOp) (hmp : o.owner = .mp) (hcal : s.nor.calWaiter = none) :
    ({ s with nor := { s.nor with op := none } } : State).norOwnerEnd o true = s.norSucceeds o := by
  obtain ⟨r, l, h⟩ := norSucceeds_form s o
  have hwaiter : (s.norSucceeds o).nor.calWaiter = none := by rw [h]; exact hcal
  unfold State.norOwnerEnd
  simp only [hmp, if_true]
  rw [State.norSucceeds] at hwaiter
  rw [hwaiter]
  rfl

/-- The end of the MP's operation where nothing else waits for the controller, no reset is held back, and no update is to be resumed. -/
theorem exec_norOpComplete_mp (s : State) (o : NorOp) (hop : s.nor.op = some o) (hmp : o.owner = .mp) (hhalt : s.nor.haltMp = false)
    (hresume : s.nor.resumeDue = false) (hcal : s.nor.calWaiter = none) (hupdate : s.nor.update = none) (hread : s.evt.rdWait = false)
    (hclear : s.evt.clearing = none) : exec (.norOpComplete true) s = .next (s.norSucceeds o) := by
  have hend : s.norEnd o true = s.norSucceeds o := by
    obtain ⟨r, l, h⟩ := norSucceeds_form s o
    rw [State.norEnd, norOwnerEnd_mp s o hmp hcal, h]
    simp only [hhalt, hresume, Bool.false_and, Bool.false_eq_true, if_false]
    exact norKick_idle _ hread hclear hupdate
  simp [exec, execNorOpComplete, hop, hmp, hend]

/-- Settles O23: the equation of the operation's end, and what a program and an erase leave of the device's bytes. -/
theorem norProgramClearsBits : Obligations.NorProgramClearsBits := by
  intro s o hcanon hop hmp hhalt hresume hcal hupdate hread hclear
  refine ⟨_, exec_norOpComplete_mp s o hop hmp hhalt hresume hcal hupdate hread hclear, ?_⟩
  obtain ⟨r, l, h⟩ := norSucceeds_form s o
  obtain ⟨-, hnor, -⟩ := hcanon
  rw [h]
  refine ⟨rfl, fun hk a => ?_, fun hk a => ?_⟩
  · have hleaves : o.leaves s.nor.mem = progBytes s.nor.mem o.addr o.data := by rw [NorOp.leaves, hk]
    simp only [State.norByte, hleaves]
    refine ⟨?_, memRead_progBytes_other o.data s.nor.mem o.addr⟩
    rintro i rfl hi
    exact memRead_progBytes_same o.data o.addr i hnor hi
  · rw [show s.norByte a = memRead norDefault s.nor.mem a from rfl, State.norByte, NorOp.leaves_erase o hk]
    exact ⟨fun ⟨hlo, hhi⟩ => memRead_eraseBytes_inside s.nor.mem hlo hhi, memRead_eraseBytes_outside s.nor.mem⟩

/-! ## Starts -/

/-- A field that a write does not meet reads as before. -/
theorem getField_setField_disjoint {n : Nat} (w : BitVec n) (lo width v p k : Nat) (h : p + k ≤ lo ∨ lo + width ≤ p) :
    getField (setField w lo width v) p k = getField w p k := by
  refine Nat.eq_of_testBit_eq fun i => ?_
  rw [testBit_getField, testBit_getField]
  by_cases hi : i < k
  · have hmask : ((2 ^ width - 1) * 2 ^ lo).testBit (p + i) = false := by
      rw [Nat.testBit_mul_two_pow, Nat.testBit_two_pow_sub_one]
      simp only [Bool.and_eq_false_iff, decide_eq_false_iff_not]
      omega
    have hval : (v % 2 ^ width * 2 ^ lo).testBit (p + i) = false := by
      rw [Nat.testBit_mul_two_pow, Nat.testBit_mod_two_pow]
      simp only [Bool.and_eq_false_iff, decide_eq_false_iff_not]
      omega
    by_cases hn : p + i < n
    · simp only [setField, BitVec.getLsbD_or, BitVec.getLsbD_and, BitVec.getLsbD_not, BitVec.getLsbD_ofNat, hmask, hval, hn,
        decide_true, Bool.and_false, Bool.not_false, Bool.and_true, Bool.or_false]
    · rw [BitVec.getLsbD_of_ge _ _ (Nat.not_lt.mp hn), BitVec.getLsbD_of_ge _ _ (Nat.not_lt.mp hn)]
  · simp [hi]

/-- NOR_OP_STATUS with RESULT and REFUSE_REASON written. -/
def State.norStatus (s : State) (result reason : Nat) : State := (s.setFld Reg.norOpStatus 2 2 result).setFld Reg.norOpStatus 4 3 reason

theorem norStatus_result (s : State) (result reason : Nat) : (s.norStatus result reason).fld Reg.norOpStatus 2 2 = result % 4 := by
  rw [State.norStatus, State.fld, reg_setFld_same, getField_setField_disjoint _ _ _ _ _ _ (by decide)]
  exact fld_setFld_same s Reg.norOpStatus 2 2 result (by decide)

theorem norStatus_reason (s : State) (result reason : Nat) : (s.norStatus result reason).fld Reg.norOpStatus 4 3 = reason % 8 :=
  fld_setFld_same _ Reg.norOpStatus 4 3 reason (by decide)

/-- The latest fetch is told in XIP_GUARD, and NOR_OP_ADDR stands. -/
theorem setFetchBank_opAddr (s : State) (f : Option Nat) : (s.setFetchBank f).fld Reg.norOpAddr 0 27 = s.fld Reg.norOpAddr 0 27 := by
  unfold State.fld State.setFetchBank
  rw [reg_setFld_other s _ _ _ (by decide)]

/-- A start that no check refuses is held as the running operation, its status cleared (R109). -/
theorem norStart_taken (s : State) (k : NorKind) (pages : Nat) (data : List Byte) (f : Option Nat)
    (h : (s.setFetchBank f).norRefusal k (s.fld Reg.norOpAddr 0 27) pages = 0) :
    s.norStart k pages data f = { (s.setFetchBank f).norStatus 0 0 with
      nor := { s.nor with op := some ⟨.mp, k, s.fld Reg.norOpAddr 0 27, data.take (256 * pages)⟩ } } := by
  simp only [State.norStart, setFetchBank_opAddr, h]
  rfl

/-- A start while an operation runs is refused with reason 1 before any other check (R109; log entry 12). -/
theorem norStart_busy (s : State) (k : NorKind) (pages : Nat) (data : List Byte) (f : Option Nat) (h : s.nor.op.isSome = true) :
    s.norStart k pages data f = (s.setFetchBank f).norStatus 1 1 := by
  have hbusy : (s.setFetchBank f).norRefusal k ((s.setFetchBank f).fld Reg.norOpAddr 0 27) pages = 1 := if_pos h
  simp only [State.norStart, hbusy]
  rfl

/-- A start of any kind by the MP's command is a start of the controller (R129). -/
theorem exec_norStart (s : State) (hacts : s.mpActs = true) (pages : Nat) (data : List Byte) (f : Option Nat) :
    exec (.norProgram pages data f) s = .next (s.norStart .program pages data f) ∧
    exec (.norSubsectorErase f) s = .next (s.norStart .subsector 0 [] f) ∧
    exec (.norSectorErase f) s = .next (s.norStart .sector 0 [] f) :=
  ⟨congrArg Host.Outcome.next (if_pos hacts), congrArg Host.Outcome.next (if_pos hacts), congrArg Host.Outcome.next (if_pos hacts)⟩

/-! ## A read of the busy bank -/

/-- The MP's data read of the busy bank is a bus fault at its address (R110). -/
theorem exec_busyBankFault_read (s : State) (a : Nat) (o : NorOp) (hop : s.nor.op = some o) (hbank : norBank o.addr = norBank a)
    (hmgt : s.islandOn .mgt = true) :
    exec (.busyBankFault a false) s = .next (({ s with nor := { s.nor with busFault := some (a, false) } } : State).raise .norCause 0) := by
  simp [exec, execBusyBankFault, hop, hbank, hmgt]

/-- AON is on wherever MGT is (R75). -/
theorem islandOn_aon_of_mgt {s : State} (h : s.islandOn .mgt = true) : s.islandOn .aon = true := by
  unfold State.islandOn at h ⊢
  cases hm : s.mode <;> simp_all [islandPower]

theorem raise_nor (s : State) (l : Leaf) (b : Nat) : (s.raise l b).nor = s.nor := by
  obtain ⟨r, e, p, m, d, c, h⟩ := raise_form s l b
  rw [h]

/-- Settles O22: the controller's answers to a start, and the bus fault of a busy bank. -/
theorem norStarts : Obligations.NorStarts := by
  refine ⟨?_, ?_, ?_, ?_, ?_⟩
  · intro s pages data hacts hfree
    obtain ⟨hprogram, -, -⟩ := exec_norStart s hacts pages data none
    rw [hprogram, norStart_taken s .program pages data none hfree]
    exact ⟨_, rfl, rfl, norStatus_result (s.setFetchBank none) 0 0, norStatus_reason (s.setFetchBank none) 0 0⟩
  · intro s hacts hfree
    obtain ⟨-, hsubsector, -⟩ := exec_norStart s hacts 0 [] none
    rw [hsubsector, norStart_taken s .subsector 0 [] none hfree]
    exact ⟨_, rfl, rfl⟩
  · intro s hacts hfree
    obtain ⟨-, -, hsector⟩ := exec_norStart s hacts 0 [] none
    rw [hsector, norStart_taken s .sector 0 [] none hfree]
    exact ⟨_, rfl, rfl⟩
  · intro s f hacts hbusy
    obtain ⟨-, -, hsector⟩ := exec_norStart s hacts 0 [] f
    rw [hsector, norStart_busy s .sector 0 [] f hbusy]
    exact ⟨_, rfl, rfl, norStatus_result _ 1 1, norStatus_reason _ 1 1⟩
  · intro s a o hop hbank hmgt
    exact ⟨_, exec_busyBankFault_read s a o hop hbank hmgt, raise_nor _ _ _, raise_bit _ .norCause (by decide) (islandOn_aon_of_mgt hmgt)⟩

end Sys2Proof.Machine
end

section
/-!
The cause tree's leaf bits and ALERT_N, and the event recorder's programs and reads (R131, R541, R547, R552).
-/
set_option Elab.async false

namespace Sys2Proof.Machine

/-! ## Leaf bits and ALERT_N (R541) -/

/-- A bit that the leaf's register has is raised. -/
theorem exec_causeLeafSet (s : State) (l : Leaf) (b : Nat) (h : leafHasBit l b = true) :
    exec (.causeLeafSet l b) s = .next (s.raise l b) :=
  congrArg Host.Outcome.next (if_pos h)

/-- Raising a bit touches neither the mode nor the host path. -/
theorem raise_mode_host (s : State) (l : Leaf) (b : Nat) : (s.raise l b).mode = s.mode ∧ (s.raise l b).host = s.host := by
  obtain ⟨r, e, p, m, d, c, h⟩ := raise_form s l b
  rw [h]
  exact ⟨rfl, rfl⟩

/-- A permitted write of a leaf leaves what its listing gives, and the change propagates. -/
theorem exec_causeLeafClear (s : State) (who : Requester) (l : Leaf) (v : BitVec 32) (r : RegRow) (hmay : s.mayWrite who (leafReg l) = true)
    (hrow : regRow (leafReg l) = some r) :
    exec (.causeLeafClear who l v) s = .next (treeSync s (s.setReg (leafReg l) (written r (s.reg (leafReg l)) v))) := by
  have hword : s.writtenAt (leafReg l) v = written r (s.reg (leafReg l)) v := by rw [State.writtenAt, hrow]
  rw [← hword]
  exact congrArg Host.Outcome.next (if_pos hmay)

theorem treeSync_evt (old s : State) : (treeSync old s).evt = s.evt := by
  obtain ⟨p, m, d, c, h⟩ := treeSync_form old s
  rw [h]

theorem exec_alertNUpdate_due (s : State) (v : Bool) (due : Nat) (vs : List (Bool × Nat)) (hpipe : s.mgt.alertPipe = (v, due) :: vs)
    (hdue : due ≤ s.ldg.tick) : exec .alertNUpdate s = .next { s with
      mgt := { s.mgt with alertPipe := vs }, pins := { s.pins with alertN := v && !s.mgt.alertForce } } := by
  simp [exec, execAlertNUpdate, hpipe, Nat.not_lt.mpr hdue]

theorem exec_alertNUpdate_early (s : State) (v : Bool) (due : Nat) (vs : List (Bool × Nat)) (hpipe : s.mgt.alertPipe = (v, due) :: vs)
    (hldg : s.islandOn .ldg = true) (hdue : s.ldg.tick < due) : exec .alertNUpdate s = .next s := by
  simp [exec, execAlertNUpdate, hpipe, hldg, hdue]

/-! ## Programs of the recorder (R547) -/

/-- What an event does to the recorder leaves its write point. -/
theorem event_next (s : State) (ty : Nat) (d : List Byte) : (s.event ty d).evt.next = s.evt.next := by
  unfold State.event
  repeat' split
  · rfl
  · rfl
  · rfl
  · rfl
  · obtain ⟨r, h⟩ := setDropped_form { s with evt := s.evt.lose }
    rw [h]
    rfl

theorem raise_next (s : State) (l : Leaf) (b : Nat) : (s.raise l b).evt.next = s.evt.next := by
  unfold State.raise
  split
  · rfl
  · dsimp only
    rw [treeSync_evt, event_next]
    split <;> rfl

/-- A free recorder takes the next page's records off the queue and starts their program. -/
theorem exec_evtRecordProgram_starts (s : State) (hfree : s.recorderFree = true) (hrecs : s.nextPage ≠ [])
    (hcount : (ofind s.evt.pagePrograms (s.evt.next / 4)).getD 0 < 4) (hnext : s.evt.next ≠ 32767) :
    exec .evtRecordProgram s = .next { s with
      evt := { s.evt with
        prog := s.nextPage, queue := s.evt.queue.drop s.nextPage.length,
        pagePrograms := oput s.evt.pagePrograms (s.evt.next / 4) ((ofind s.evt.pagePrograms (s.evt.next / 4)).getD 0 + 1) },
      nor := { s.nor with op := some ⟨.recorder, .program, 0x07DF0000 + 64 * s.evt.next, []⟩ } } := by
  simp [exec, execEvtRecordProgram, hfree, hrecs, hcount, hnext]

/-- The recorder's program is over: the controller is free and no records are under way. -/
def State.programOver (s : State) : State := { s with nor := { s.nor with op := none }, evt := { s.evt with prog := [] } }

/-- The records of a program that succeeded, and the write point behind them. -/
def State.recordsStored (s : State) : State :=
  let s1 := s.programOver.storeRecs s.evt.prog
  { s1 with evt := { s1.evt with next := s.evt.next + s.evt.prog.length } }

/-- The records of a program that failed stand with a bad CRC and count as lost; the write point is at the next page (R131). -/
def State.recordsLost (s : State) : State :=
  let s1 := s.programOver.storeRecs (s.evt.prog.map (fun r => { r with crcOk := false }))
  (({ s1 with evt := { s1.evt with
    next := (s.evt.next / 4 + 1) * 4, lost := satAdd 32 s.evt.lost s.evt.prog.length } } : State).raise .norCause 5).raise .evtCause 3

theorem recordsLost_next (s : State) : s.recordsLost.evt.next = (s.evt.next / 4 + 1) * 4 := by
  rw [State.recordsLost, raise_next, raise_next]

theorem recordsLost_nor (s : State) : s.recordsLost.nor = { s.nor with op := none } := by
  rw [State.recordsLost, raise_nor, raise_nor]
  rfl

/-- How a page program ends where the log has room left, no reset is held back and no update is to be resumed. -/
theorem exec_evtProgramDone (s : State) (ok : Bool) (hprog : s.evt.prog ≠ []) (hop : s.nor.op.isSome = true) (hhalt : s.nor.haltMp = false)
    (hresume : s.nor.resumeDue = false)
    (hroom : (if ok then s.evt.next + s.evt.prog.length else (s.evt.next / 4 + 1) * 4) ≠ 32768) :
    exec (.evtProgramDone ok) s = .next (if ok then s.recordsStored else s.recordsLost).norKick := by
  have hruns : ¬(s.evt.prog.isEmpty || s.nor.op.isNone) = true := by
    rw [Bool.or_eq_true, List.isEmpty_iff, not_or, Option.isNone_iff_eq_none]
    exact ⟨hprog, Option.isSome_iff_ne_none.mp hop⟩
  generalize ht : (if ok then s.recordsStored else s.recordsLost) = t
  have hnor : t.nor = { s.nor with op := none } := by
    rw [← ht]
    cases ok
    · exact recordsLost_nor s
    · rfl
  have hnext : t.evt.next ≠ 32768 := by
    rw [← ht]
    cases ok
    · rw [if_neg Bool.false_ne_true, recordsLost_next]
      exact hroom
    · exact hroom
  have hend : exec (.evtProgramDone ok) s = .next
      (let s2 := if t.evt.next = 32768 then t.logFull else t
       let s3 := if s2.nor.haltMp then ({ s2 with nor := { s2.nor with haltMp := false } } : State).mpReset else s2
       let s4 := if s3.nor.resumeDue && s3.mgt.mp = .running then s3.updResume else s3
       s4.norKick) := by
    rw [← ht]
    refine congrArg Host.Outcome.next ((if_neg hruns).trans ?_)
    cases ok <;> rfl
  rw [hend]
  simp only [hnext, hnor, hhalt, hresume, Bool.false_and, Bool.false_eq_true, if_false]

/-! ## Reads of the log (R552) -/

theorem exec_evtRdSelWrite (s : State) (who : Requester) (v : BitVec 32) (hmay : s.mayWrite who Reg.evtRdSel = true) :
    exec (.evtRdSelWrite who v) s = .next (
      let s1 := s.setReg Reg.evtRdSel (BitVec.ofNat 32 (getField v 0 15))
      if s.nor.op.isNone then s1.rdLoad else { s1 with evt := { s1.evt with rdWait := true } }) :=
  congrArg Host.Outcome.next (if_pos hmay)

/-- Settles O46: the equations of the cause tree's and the recorder's events. -/
theorem causesAndRecorder : Obligations.CausesAndRecorder := by
  refine ⟨?_, ?_, fun s v due vs hpipe => ⟨exec_alertNUpdate_due s v due vs hpipe, exec_alertNUpdate_early s v due vs hpipe⟩,
    exec_evtRecordProgram_starts, ?_, ?_, ?_⟩
  · intro s l b hbit hb hon
    obtain ⟨hmode, hhost⟩ := raise_mode_host s l b
    exact ⟨_, exec_causeLeafSet s l b hbit, raise_bit s l hb hon, hmode, hhost, fun o h1 h2 => raise_reg_other s l b h1 h2⟩
  · intro s who l v r hmay hrow
    refine ⟨_, exec_causeLeafClear s who l v r hmay hrow, ?_, treeSync_evt _ _, fun o ho => ?_⟩
    · rw [treeSync_reg, reg_setReg_same]
    · rw [treeSync_reg, reg_setReg_other s _ ho]
  · intro s hprog hop hhalt hresume hroom
    exact ⟨s.programOver, rfl, exec_evtProgramDone s true hprog hop hhalt hresume hroom⟩
  · intro s hprog hop hhalt hresume hroom
    exact ⟨_, rfl, exec_evtProgramDone s false hprog hop hhalt hresume hroom⟩
  · intro s who v hmay
    refine ⟨_, rfl, fun hop => ?_, fun hop => ?_⟩ <;> rw [exec_evtRdSelWrite s who v hmay]
    · simp only [hop, Option.isNone_none, if_true]
    · rw [Option.isNone_eq_false_iff.mpr hop]
      rfl

end Sys2Proof.Machine
end

section
/-!
Admin commands of the PF's queue: namespaces and firmware; and a VF's mediated commands (R123, R293, R294, R316, R335, R337, R553).
-/
set_option Elab.async false

namespace Sys2Proof.Machine

/-! ## Admin commands that are served -/

/-- A served admin command that its function admits runs behind the Keep Alive Timer's restart (R288). -/
theorem adminRun_served (s : State) (f cid : Nat) (onFunc : Nat → Bool) (mi maint : Bool) (g : State → State)
    (hserved : s.adminServed f = true) (hfunc : onFunc f = true) :
    s.adminRun ⟨.host f cid, true⟩ onFunc mi maint g = g (s.keepAlive f) := by
  simp only [State.adminRun, hserved, hfunc, Bool.not_true, Bool.false_eq_true, if_false, if_true, State.adminFields]

/-- The PF runs a namespace command itself (R284). -/
theorem nsRow_pf (s : State) (cid : Nat) (q : Sqe) (data : List Byte) (g : State → Nat → State) (hserved : s.adminServed 0 = true) :
    s.nsRow ⟨.host 0 cid, true⟩ q data g = g (s.keepAlive 0) cid := by
  rw [State.nsRow, adminRun_served s 0 cid anyFunc false false _ hserved rfl]
  rfl

/-! ## Namespaces on the PF (R293, R294, R337) -/

section
variable (u : State) (f cid : Nat) (q : Sqe) (data : List Byte)

theorem nsManage_create (quota : Option Nat) {id : Nat} {t : State} (hsel : getField q.cdw10 0 4 = 0)
    (hmade : u.nsCreate (nsAsk q data) quota = .ok (id, t)) : u.nsManage f cid quota q data = t.reply (.host f cid) stOk id := by
  simp only [State.nsManage, hsel, hmade]

theorem nsAttach_unknown (quota : Bool) (h : u.ns q.nsid = none) :
    u.nsAttach f cid quota q data = u.reply (.host f cid) stInvalidNamespace 0 := by
  simp only [State.nsAttach, h]

/-- One free controller of the list is attached, and owns the namespace where none owned it (R443). -/
theorem nsAttach_one {x y : Ns} {c : Nat} (hns : u.ns q.nsid = some x) (hsel : getField q.cdw10 0 4 = 0) (hids : ctrlIds data = [c])
    (hexists : u.functionExists c = true) (hfree : x.attached.contains c = false)
    (hy : y = { x with attached := x.attached ++ [c], owner := some (x.owner.getD c) }) :
    u.nsAttach f cid false q data =
      (({ u with med := { u.med with ns := oput u.med.ns q.nsid y } } : State).nsChanged c q.nsid).reply (.host f cid) stOk 0 := by
  subst hy
  have hlist : ¬([c].isEmpty || [c].any (fun c => !u.functionExists c) || !distinct [c]) = true := by simp [distinct, hexists]
  have hnew : ¬[c].any (fun c => x.attached.contains c) = true := by simpa using hfree
  simp only [State.nsAttach, hns, hids, hsel]
  rw [if_neg (by decide), if_neg hlist, if_pos trivial, if_neg hnew, Bool.false_and, if_neg Bool.false_ne_true]
  cases x.owner <;> rfl

/-- A format that the namespace can take waits for its commands to end (R293). -/
theorem nsFormat_pf {x : Ns} (hns : u.ns q.nsid = some x) (hformat : getField q.cdw10 0 4 + 16 * getField q.cdw10 12 2 ≤ 2)
    (hses : getField q.cdw10 9 3 = 0) (hpi : getField q.cdw10 5 3 = 0) :
    u.nsFormat 0 cid q = u.nsDefer 0 cid q.nsid
      (some (getField q.cdw10 0 4 + 16 * getField q.cdw10 12 2 + 4 * getField q.cdw10 4 1)) := by
  simp [State.nsFormat, hns, Nat.not_lt.mpr hformat, hses, hpi]

end

/-! ## Firmware on the host path (R123, R316, R553) -/

section
variable (u : State) (v : Via) (slot : Nat) {x : Slot} (hslot : u.commitSlot slot = some x) (hupdate : u.nor.update = none)
include hslot hupdate

theorem commitUpdate_host (hmode : u.mode ≠ .maintenance) : u.commitUpdate v slot = u.commitHost v x := by
  simp only [State.commitUpdate, hslot, hmode, hupdate, Option.isSome_none, Bool.false_eq_true, if_false]

/-- A slot is marked where the image that its bytes spell passes its checks. -/
theorem commitMark_free : u.commitMark v slot =
    if u.imageTaken (u.slotImage x) 2 8 then u.beginUpdate ⟨x, (u.slotImage x).imageBytes, (u.slotImage x).headDigest.setWidth 352,
      u.nextSeqFor x, sectorsOf (u.slotImage x).imageBytes, sectorsOf (u.slotImage x).imageBytes, .eraseControl, some v, true, false, 0⟩
    else u.reply v stInvalidFirmwareImage 0 := by
  simp only [State.commitMark, hslot, hupdate, Option.isSome_none, Bool.false_eq_true, if_false]

end

section
variable (s : State) (cid : Nat) (hserved : s.adminServed 0 = true)
include hserved

/-- An aligned piece takes its place in the staged image, as many bytes as its length says. -/
theorem exec_firmwareImageDownload_staged (off n : Nat) (data : List Byte) (hoff : off % 4096 = 0) (hlen : n % 4096 = 0) (hn : n ≠ 0)
    (hfits : off + n ≤ stagingBytes) (hmode : (s.keepAlive 0).mode ≠ .maintenance) (hupdate : (s.keepAlive 0).nor.update = none) :
    exec (.firmwareImageDownload ⟨.host 0 cid, true⟩ off n data) s =
      .next (((s.keepAlive 0).stage off (padTo n data)).reply (.host 0 cid) stOk 0) := by
  have hshape : ¬(decide (off % 4096 ≠ 0) || decide (n % 4096 ≠ 0) || decide (n = 0) || decide (stagingBytes < off + n)) = true := by
    simp [hoff, hlen, hn, hfits]
  refine congrArg Host.Outcome.next ((adminRun_served s 0 cid pfOnly true true _ hserved rfl).trans ?_)
  dsimp only
  rw [if_neg hshape, if_neg hmode, if_neg (by simp [hupdate])]

theorem exec_firmwareCommitUpdate (act slot : Nat) (hmark : act ≠ 2) :
    exec (.firmwareCommitUpdate ⟨.host 0 cid, true⟩ act slot) s = .next (if act = 1 then (s.keepAlive 0).commitUpdate (.host 0 cid) slot
      else (s.keepAlive 0).reply (.host 0 cid) stInvalidField 0) := by
  refine congrArg Host.Outcome.next ((adminRun_served s 0 cid pfOnly true true _ hserved rfl).trans ?_)
  dsimp only
  rw [if_neg hmark]

theorem exec_firmwareCommitMark (slot : Nat) :
    exec (.firmwareCommitMark ⟨.host 0 cid, true⟩ slot) s = .next ((s.keepAlive 0).commitMark (.host 0 cid) slot) :=
  congrArg Host.Outcome.next (adminRun_served s 0 cid pfOnly true true _ hserved rfl)

end

/-! ## Mediated commands of a VF (R335) -/

/-- A VF's command is mediated where its opcode is, and is not supported otherwise. -/
theorem exec_mediatedCommand_served (s : State) (f cid : Nat) (q : Sqe) (data : List Byte) (hvf : f ≠ 0) (hserved : s.adminServed f = true) :
    exec (.mediatedCommand f cid q data) s = .next (
      if mediatedOp q then (s.keepAlive f).mediate f cid q (if q.opcode = 0x80#8 then [] else data)
      else (s.keepAlive f).reply (.host f cid) stInvalidOpcode 0) :=
  congrArg Host.Outcome.next (if_neg (by simp [hvf, hserved]))

/-- Settles O54: each command's equation on the controller that serves it. -/
theorem namespacesAndFirmware : Obligations.NamespacesAndFirmware := by
  refine ⟨?_, ?_⟩
  · rintro s u cid v a hserved rfl rfl rfl
    refine ⟨?_, ?_, ?_, ?_, ?_, ?_, ?_, ?_⟩
    · intro q data id s1 hsel hmade
      exact congrArg Host.Outcome.next ((nsRow_pf s cid _ data _ hserved).trans (nsManage_create _ 0 cid _ data none hsel hmade))
    · intro q data hns
      exact congrArg Host.Outcome.next ((nsRow_pf s cid _ data _ hserved).trans (nsAttach_unknown _ 0 cid _ data false hns))
    · intro q data x y c hns hsel hids hexists hfree hy
      exact congrArg Host.Outcome.next
        ((nsRow_pf s cid _ data _ hserved).trans (nsAttach_one _ 0 cid _ data hns hsel hids hexists hfree hy))
    · intro q x hns hformat hses hpi
      exact congrArg Host.Outcome.next ((nsRow_pf s cid _ [] _ hserved).trans (nsFormat_pf _ cid _ hns hformat hses hpi))
    · intro off n data hoff hlen hn hfits hmode hupdate
      rw [exec_firmwareImageDownload_staged s cid hserved off n data hoff hlen hn hfits hmode hupdate, State.stage, padTo_length]
    · intro slot x hslot hmode hupdate
      rw [exec_firmwareCommitUpdate s cid hserved 1 slot (by decide), if_pos rfl, commitUpdate_host _ _ slot hslot hupdate hmode]
    · intro act slot hcommit hmark
      rw [exec_firmwareCommitUpdate s cid hserved act slot hmark, if_neg hcommit]
    · rintro slot x im hslot hupdate rfl
      rw [exec_firmwareCommitMark s cid hserved slot, commitMark_free _ _ slot hslot hupdate]
  · intro s f cid q data hvf hserved
    rw [exec_mediatedCommand_served s f cid q data hvf hserved]
    refine ⟨fun hop => ?_, fun hop => ?_⟩
    · rw [hop, if_neg Bool.false_ne_true]
    · rw [show mediatedOp q = true by simp [mediatedOp, hop], if_pos rfl, if_pos hop]

end Sys2Proof.Machine
end

section
/-!
The tick of an empty queue (R154, R503), and writes of registers: whole words by the processors and the PF, the arming of the trace, and
the clearing of an account's wait record (R155, R156, R451, R561, R563, R565, R567, R576).
-/
set_option Elab.async false

namespace Sys2Proof.Machine

/-- Settles O2: an empty queue idles, which is one tick where the clock runs. -/
theorem idleTick : Obligations.IdleTick := by
  refine ⟨fun s hempty hruns => ⟨s.tickOnce, ?_, rfl, rfl, rfl⟩, fun s hempty hstops => ?_⟩
  · rw [step_nil s hempty, idle, if_pos hruns]
  · rw [step_nil s hempty, idle, hstops, if_neg Bool.false_ne_true]

/-! ## What a plain write leaves (R565) -/

section
variable (s : State) (who : Requester) (o : Nat) (v : Word)

theorem plainWrite_reg_same : (s.plainWrite who o v).reg o = s.rankedAt who o v := by
  rw [State.plainWrite, treeSync_reg]
  exact reg_setReg_same s o _

theorem plainWrite_reg_other {p : Nat} (h : p ≠ o) : (s.plainWrite who o v).reg p = s.reg p := by
  rw [State.plainWrite, treeSync_reg]
  exact reg_setReg_other s _ h

/-- A plain write reaches the registers and the cause tree only. -/
theorem plainWrite_keeps :
    (s.plainWrite who o v).mode = s.mode ∧ (s.plainWrite who o v).host = s.host ∧ (s.plainWrite who o v).evt = s.evt := by
  obtain ⟨p, m, d, c, h⟩ := treeSync_form s ((s.setReg o (s.rankedAt who o v)).noteWrite who o)
  rw [State.plainWrite, h]
  exact ⟨rfl, rfl, rfl⟩

theorem rankedAt_row {r : RegRow} (h : regRow o = some r) :
    s.rankedAt who o v = written (if s.outranked who o then { r with rw := 0 } else r) (s.reg o) v := by
  rw [State.rankedAt, h]

/-- No write came before in this tick, so none of a higher rank did (R576). -/
theorem outranked_first (h : s.mgt.wrote.1 ≠ s.ldg.tick) : s.outranked who o = false := by
  simp only [State.outranked, h, decide_false, Bool.false_and]

/-- A chain's control word stands at its context's first offset. -/
theorem chReg_of_chainAt {ch : Nat} (h : chainAt o = some (ch, 0)) : chReg Reg.xfrChCtl ch = o := by
  unfold chainAt at h
  split at h
  · next hin =>
    simp only [Bool.and_eq_true, decide_eq_true_eq] at hin
    simp only [Option.some.injEq, Prod.mk.injEq] at h
    simp only [chReg, Reg.xfrChCtl]
    omega
  · exact nomatch h

/-- A chain's control word takes no write from a requester that its space keeps out (R563). -/
theorem writeChCtl_barred {ch : Nat} (w : Word) (h : s.mayWrite who (chReg Reg.xfrChCtl ch) = false) :
    s.writeChCtl who ch v w = s := by
  simp only [State.writeChCtl, State.chWrites, h, Bool.and_false, Bool.not_false, if_true]

end

/-! ## Whole words written by the processors and the PF -/

/-- What a write of a whole word does that comes from a processor or through the PF space (R565). -/
def State.wordWrite (s : State) (who : Requester) (o : Nat) (v : Word) : State :=
  if s.mayWrite who o && s.kmDataAt o && decide (s.kmOwner ≠ reqId who) then s.raise .cryCause 1
  else match chainAt o with
    | some (ch, 0) => s.writeChCtl who ch v (s.rankedAt who o v)
    | _ => if s.mayWrite who o && !ownRow o && !s.writeHeld o v then s.plainWrite who o v else s

/-- Outside the function BARs a write that does not enable all four bytes is ignored (R561). -/
theorem exec_registerWrite_space (s : State) (who : Requester) (o : Nat) (b : BusWord) (hspace : ∀ f, who ≠ .func f) :
    exec (.registerWrite who o b) s = .next (if b.be ≠ 15 then s else s.wordWrite who o b.word) := by
  cases who with
  | func f => exact absurd rfl (hspace f)
  | mp => rfl
  | mdp n => rfl
  | pf => rfl

section
variable (s : State) (who : Requester) (o : Nat) (v : Word)

/-- The key data registers are their lock's owner's alone (R451, R567). -/
theorem wordWrite_unlocked (hmay : s.mayWrite who o = true) (hdata : s.kmDataAt o = true) (howner : s.kmOwner ≠ reqId who) :
    s.wordWrite who o v = s.raise .cryCause 1 := by
  simp only [State.wordWrite, hmay, hdata, howner, ne_eq, not_false_eq_true, decide_true, Bool.and_self, if_true]

theorem wordWrite_chain {ch : Nat} (hdata : s.kmDataAt o = false) (hchain : chainAt o = some (ch, 0)) :
    s.wordWrite who o v = s.writeChCtl who ch v (s.rankedAt who o v) := by
  simp only [State.wordWrite, hdata, hchain, Bool.and_false, Bool.false_and, Bool.false_eq_true, if_false]

theorem wordWrite_plain (hmay : s.mayWrite who o = true) (hdata : s.kmDataAt o = false) (hown : ownRow o = false)
    (hheld : s.writeHeld o v = false) (hchain : ∀ ch, chainAt o ≠ some (ch, 0)) :
    s.wordWrite who o v = s.plainWrite who o v := by
  have hunlocked : ¬(s.mayWrite who o && s.kmDataAt o && decide (s.kmOwner ≠ reqId who)) = true := by
    rw [hdata, Bool.and_false, Bool.false_and]
    exact Bool.false_ne_true
  have hfree : (s.mayWrite who o && !ownRow o && !s.writeHeld o v) = true := by
    rw [hmay, hown, hheld]
    rfl
  rw [State.wordWrite, if_neg hunlocked]
  split
  · next ch hctl => exact absurd hctl (hchain ch)
  · exact if_pos hfree

/-- A requester that the register's space keeps out changes nothing (R563). -/
theorem wordWrite_barred (hmay : s.mayWrite who o = false) : s.wordWrite who o v = s := by
  simp only [State.wordWrite, hmay, Bool.false_and, Bool.false_eq_true, if_false]
  split
  · next ch hctl => exact writeChCtl_barred s who v _ ((chReg_of_chainAt o hctl).symm ▸ hmay)
  · rfl

end

/-! ## The trace and the wait records (R155, R156) -/

theorem exec_traceArm_arms (s : State) (who : Requester) (v : BitVec 32) (hmay : s.mayWrite who Reg.ldgTraceCtl = true)
    (harm : bitOf v 0 = true) :
    exec (.traceArm who v) s = .next { s.setReg Reg.ldgTraceCtl (s.writtenAt Reg.ldgTraceCtl v) with
      ldg := { s.ldg with traced := none, traceFrom := s.ldg.tick } } :=
  congrArg Host.Outcome.next (if_pos (by rw [hmay, harm]; rfl))

theorem exec_extwaitClear_account (s : State) (who : Requester) (a : Nat) (ha : a < 2048)
    (hmay : s.mayWrite who (Reg.actExtwaitCtl + 0x100 * a) = true) :
    exec (.extwaitClear who a) s =
      .next ((s.setReg (Reg.actExtwaitMax + 0x100 * a) 0).setReg (Reg.actExtwaitCnt + 0x100 * a) 0) :=
  congrArg Host.Outcome.next (if_pos (by rw [hmay, decide_eq_true ha]; rfl))

/-- Settles O48: each case of a write in its own space, and the two rows of their own. -/
theorem registerWriteMasks : Obligations.RegisterWriteMasks := by
  refine ⟨?_, fun s who o h => outranked_first s who o h, ?_, ?_, ?_, ?_, ?_, ?_⟩
  · intro s who o v r hspace hmay hdata hown hheld hchain hrow
    refine ⟨s.plainWrite who o v, ?_, ?_, fun p hp => plainWrite_reg_other s who o v hp, plainWrite_keeps s who o v⟩
    · exact (exec_registerWrite_space s who o _ hspace).trans
        (congrArg Host.Outcome.next (wordWrite_plain s who o v hmay hdata hown hheld hchain))
    · rw [plainWrite_reg_same, rankedAt_row s who o v hrow]
  · intro s who o ch v hspace _ hdata hchain
    exact (exec_registerWrite_space s who o _ hspace).trans (congrArg Host.Outcome.next (wordWrite_chain s who o v hdata hchain))
  · intro s who o be v hspace hbe
    rw [exec_registerWrite_space s who o _ hspace, if_pos hbe]
  · intro s who o be v hspace hmay
    rw [exec_registerWrite_space s who o _ hspace, wordWrite_barred s who o v hmay, ite_self]
  · intro s who o v hspace hmay hdata howner
    exact (exec_registerWrite_space s who o _ hspace).trans (congrArg Host.Outcome.next (wordWrite_unlocked s who o v hmay hdata howner))
  · intro s who v hmay harm
    exact ⟨_, exec_traceArm_arms s who v hmay harm, reg_setReg_same s _ _, rfl, rfl, fun o ho => reg_setReg_other s _ ho⟩
  · intro s who a ha hmay
    have hne : Reg.actExtwaitMax + 0x100 * a ≠ Reg.actExtwaitCnt + 0x100 * a := by
      simp only [Reg.actExtwaitMax, Reg.actExtwaitCnt]
      omega
    refine ⟨_, exec_extwaitClear_account s who a ha hmay, ?_, reg_setReg_same _ _ _, fun o hmax hcnt => ?_, rfl⟩
    · rw [reg_setReg_other _ _ hne, reg_setReg_same]
    · rw [reg_setReg_other _ _ hcnt, reg_setReg_other _ _ hmax]

end Sys2Proof.Machine
end

section
/-!
How commands enter, arrive and are accepted (R133, R135, R143, R296, R298), and the checks of the I/O commands at their acceptance (R145,
R231, R285, R301, R306, R310, R312 to R314, R393).
-/
set_option Elab.async false

namespace Sys2Proof.Machine

/-! ## Fetch and capsule (R133, R296) -/

/-- An entry of a function's own queue is taken off it and enters as a new command (R296). -/
theorem exec_commandFetch_enters (s : State) (k : Nat) (e : Sqe) (rs : List LbaRange) (q : IoQueue)
    (hqueue : ofind s.host.queues k = some q) (hslice : q.slice = none) (hentry : s.entriesOut q.func k < q.waiting)
    (hlink : s.host.linkUp = true) (hctx : (s.ctx q.func).halted = false) (hserved : s.fetches q.func q.func e.nsid = true) :
    exec (.commandFetch k e rs) s = .next ((s.setQueue k { q with waiting := q.waiting - 1 }).fetchCmd
      ((s.setQueue k { q with waiting := q.waiting - 1 }).newCmd e rs .pcie false k q.func q.func)) := by
  simp only [exec, execCommandFetch, hqueue, hslice, hentry, hlink, hctx, hserved, decide_true, Bool.not_false, Bool.and_self, if_true]

section
variable (s : State) (k b : Nat) (e : Sqe) (rs : List LbaRange) (q : Qp) (hon : s.islandOn .net = true)
  (hpair : ofind s.net.qps k = some q) (hlive : q.error = false) (hport : bitOf (s.reg (Reg.netPortStatus + 4 * q.port)) 0 = true)
  (hqueue : q.queue ≠ none) (hio : q.queue ≠ some 0)
include hon hpair hlive hport hqueue hio

/-- A capsule on a live I/O queue pair is refused, enters, or meets the limit of commands (R97, R133, R343). -/
theorem exec_capsuleReceive_live :
    exec (.capsuleReceive k e rs b) s = .next (
      if !s.memberActive q.account || decide (s.mode = .drain) || s.pwr.sleep.isSome then (s.rxLevel q.port b).sendFrame (.rnrNak k)
      else if (s.rxLevel q.port b).fetches q.account q.account e.nsid then
        (s.rxLevel q.port b).fetchCmd ((s.rxLevel q.port b).newCmd e rs (if q.port = 0 then .eth0 else .eth1) true k q.account q.account)
      else (s.rxLevel q.port b).fetchLimit) := by
  simp only [exec, execCapsuleReceive, hon, hpair, hlive, hport, hqueue, hio, decide_false, Bool.not_true, Bool.or_self,
    Bool.false_eq_true, if_false]

theorem exec_capsuleReceive_enters (hactive : s.memberActive q.account = true) (hmode : s.mode = .service) (hsleep : s.pwr.sleep = none)
    (hserved : (s.rxLevel q.port b).fetches q.account q.account e.nsid = true) :
    exec (.capsuleReceive k e rs b) s = .next ((s.rxLevel q.port b).fetchCmd ((s.rxLevel q.port b).newCmd e rs
      (if q.port = 0 then .eth0 else .eth1) true k q.account q.account)) := by
  have hadmits : ¬(!s.memberActive q.account || decide (s.mode = .drain) || s.pwr.sleep.isSome) = true := by
    simp [hactive, hmode, hsleep]
  rw [exec_capsuleReceive_live s k b e rs q hon hpair hlive hport hqueue hio, if_neg hadmits, if_pos hserved]

theorem exec_capsuleReceive_drain (hmode : s.mode = .drain) :
    exec (.capsuleReceive k e rs b) s = .next ((s.rxLevel q.port b).sendFrame (.rnrNak k)) := by
  rw [exec_capsuleReceive_live s k b e rs q hon hpair hlive hport hqueue hio, if_pos (by simp [hmode])]

end

/-! ## Arrival (R133, R298) -/

/-- The command as it arrives: its wait since the fetch, its tick, its sequence number and the level in force (R133, R298). -/
def State.arriving (s : State) (c : Cmd) : Cmd :=
  { c.waited c.fetchTick s.ldg.tick with phase := .arrived, arrival := s.ldg.tick, seq := s.db.nextSeq, level := s.level }

/-- The next sequence number is taken. -/
def State.seqTaken (s : State) : State := { s with db := { s.db with nextSeq := s.db.nextSeq + 1 } }

/-- A first check that passes leaves the command arrived, and one that fails sends it to its completion (R285). -/
theorem exec_commandArrival_free (s : State) (h : Nat) (c : Cmd) (hcmd : s.cmd h = some c) (hmode : modeLedger s.mode = true)
    (hcan : s.canArrive c = true)
    (hnone : s.host.cmds.any (fun e => decide (e.2.phase = .arrived) || (arrivesFirst e.2 c && s.canArrive e.2)) = false) :
    exec (.commandArrival h) s = .next (((s.seqTaken.firstCheck (s.arriving c)).map (s.seqTaken.toPost h (s.arriving c))).getD
      (s.seqTaken.setCmd h (s.arriving c))) := by
  have hfree : (modeLedger s.mode && s.canArrive c && !s.host.cmds.any (fun e => decide (e.2.phase = .arrived) ||
      (arrivesFirst e.2 c && s.canArrive e.2))) = true := by
    rw [hmode, hcan, hnone]
    rfl
  have hbody : exec (.commandArrival h) s = .next (match s.seqTaken.firstCheck (s.arriving c) with
      | some t => s.seqTaken.toPost h (s.arriving c) t
      | none => s.seqTaken.setCmd h (s.arriving c)) := by
    simp only [exec, execCommandArrival, hcmd]
    rw [if_pos hfree]
    rfl
  rw [hbody]
  cases s.seqTaken.firstCheck (s.arriving c) <;> rfl

/-! ## The end of a read's acceptance (R143) -/

/-- The accepted read: it runs, its wait begins now, and its sectors are started. -/
def State.startRead (s : State) (c : Cmd) (zoned : Bool) : Cmd :=
  { c with phase := .running, waitFrom := s.ldg.tick, secs := c.secs.map (startSec zoned false) }

theorem exec_acceptanceEnd_read (s : State) (h : Nat) (c : Cmd) (x : Ns) (hcmd : s.cmd h = some c) (hphase : c.phase = .accepting)
    (hop : c.op = .read) (hns : (s.stamp h 1).ns c.nsid = some x) (hdoor : (s.stamp h 1).doorRefused c = false) :
    exec (.acceptanceEnd h) s = .next ((((s.stamp h 1).setCmd h ((s.stamp h 1).startRead c x.zoned)).setRec c.seq
      (acceptedRec ((s.stamp h 1).startRead c x.zoned))).registerKick.kick) := by
  have hread : writeType c.op = false := by rw [hop]; rfl
  have hmint : decide (c.op = .minted) = false := by rw [hop]; rfl
  have hreport : ¬ c.op = .report := by rw [hop]; exact nofun
  simp only [exec, execAcceptanceEnd, hcmd, hphase, hdoor, hns, hread, hmint, hreport, ne_eq, not_true_eq_false, Bool.false_eq_true,
    if_false, State.startRead]

/-- Settles O25: the equations of a command's entry, arrival and acceptance. -/
theorem commandsEnter : Obligations.CommandsEnter := by
  refine ⟨?_, ?_, ?_, ?_, ?_⟩
  · intro s k e rs q hqueue hslice hentry hlink hctx hserved
    exact ⟨_, rfl, exec_commandFetch_enters s k e rs q hqueue hslice hentry hlink hctx hserved⟩
  · exact exec_capsuleReceive_enters
  · exact exec_capsuleReceive_drain
  · intro s h c hcmd hmode hcan hnone
    have heq := exec_commandArrival_free s h c hcmd hmode hcan hnone
    refine ⟨s.seqTaken, s.arriving c, rfl, rfl, fun hpass => ?_, fun t hfail => ?_⟩
    · rw [heq, hpass, Option.map_none, Option.getD_none]
    · rw [heq, hfail, Option.map_some, Option.getD_some]
  · intro s h c x hcmd hphase hop hns hdoor
    exact ⟨_, rfl, exec_acceptanceEnd_read s h c x hcmd hphase hop hns hdoor⟩

/-! ## Flush and Read (R143, R231, R306) -/

theorem exec_flush_arrived (s : State) (h : Nat) (c : Cmd) (hcmd : s.cmd h = some c) (hphase : c.phase = .arrived) (hop : c.op = .flush) :
    exec (.flush h) s = .next (s.setCmd h { c with phase := .accepting }) := by
  simp only [exec, execFlush, hcmd, hphase, hop, decide_true, Bool.and_self, if_true]

/-- The read with the places that its sectors have now (R231). -/
def State.resolvedRead (s : State) (c : Cmd) (x : Ns) : Cmd :=
  { c with secs := (lbas c.slba c.count).map (fun a => s.readSec c.nsid a x false), phase := .accepting }

section
variable (s : State) (h : Nat) (c : Cmd) (x : Ns) (harr : s.arrivedCmd h (fun o => decide (o = .read)) = some (c, x))
include harr

/-- A read in range with no offline zone is denied where it needs a key that is not loaded, else accepted (R143, R444). -/
theorem exec_read_inRange (hrange : rangeCheck c x = none) (honline : (x.zoned && s.offlineIn x (lbas c.slba c.count)) = false) :
    exec (.read h) s = .next (if s.needsKey (s.resolvedRead c x).secs && !s.xtsReady (nsOwner x) then s.denyKey h c
      else (s.setCmd h (s.resolvedRead c x)).traceStart h (s.resolvedRead c x) x.zoned) := by
  simp only [exec, execRead, harr, hrange, honline, Bool.false_eq_true, if_false]
  rfl

theorem exec_read_refused (t : Status) (hrange : rangeCheck c x = some t) : exec (.read h) s = .next (s.toPost h c t) := by
  simp only [exec, execRead, harr, hrange]

end

/-! ## Dataset Management and Report Zones (R285, R312, R393) -/

/-- Within its limits, Deallocate begins the acceptance, and without it the command completes with no effect (R285, R393). -/
theorem exec_datasetManagement_within (s : State) (h : Nat) (c : Cmd) (x : Ns)
    (harr : s.arrivedCmd h (fun o => decide (o = .dsm)) = some (c, x)) (hlen : c.ranges.length = getField c.sqe.cdw10 0 8 + 1)
    (hranges : ∀ r ∈ c.ranges, r.count ≤ 262144 ∧ r.slba + r.count ≤ x.size) (hsum : sumOf (c.ranges.map (·.count)) ≤ 16777216) :
    exec (.datasetManagement h) s = .next (if bitOf c.sqe.cdw11 2 then s.setCmd h { c with phase := .accepting }
      else s.toPost h c stOk) := by
  have hsmall : c.ranges.any (fun r => decide (262144 < r.count)) = false :=
    List.any_eq_false.mpr fun r hr => by simpa using (hranges r hr).1
  have hinside : c.ranges.any (fun r => decide (x.size < r.slba + r.count)) = false :=
    List.any_eq_false.mpr fun r hr => by simpa using (hranges r hr).2
  simp only [exec, execDatasetManagement, harr, hlen, hsmall, hinside, Nat.not_lt.mpr hsum, ne_eq, not_true_eq_false, decide_false,
    Bool.or_self, Bool.false_eq_true, if_false]
  cases bitOf c.sqe.cdw11 2 <;> rfl

section
variable (s : State) (h : Nat) (c : Cmd) (x : Ns) (harr : s.arrivedCmd h (fun o => decide (o = .report)) = some (c, x))
include harr

theorem exec_reportZones_action (haction : getField c.sqe.cdw13 0 8 ≠ 0) :
    exec (.reportZones h) s = .next (s.toPost h c stInvalidField) := by
  simp only [exec, execReportZones, harr, haction, ne_eq, not_false_eq_true, decide_true, Bool.true_or, if_true]

/-- A report within its limits returns what it found up to the bytes asked for (R312). -/
theorem exec_reportZones_within (haction : getField c.sqe.cdw13 0 8 = 0) (hopt : getField c.sqe.cdw13 8 8 ≤ 7) (hslba : c.slba < x.size) :
    ∃ out : List Byte, exec (.reportZones h) s =
      .next ((s.dataToHost (out.take (4 * (c.sqe.cdw12.toNat + 1)))).setCmd h { c with phase := .accepting }) := by
  simp only [exec, execReportZones, harr, haction, Nat.not_lt.mpr hopt, Nat.not_le.mpr hslba, ne_eq, not_true_eq_false, decide_false,
    Bool.or_self, Bool.false_eq_true, if_false]
  exact ⟨_, rfl⟩

end

/-- Settles O26: the equations of Flush, Read, Dataset Management and Report Zones at their acceptance. -/
theorem ioReadForms : Obligations.IoReadForms := by
  refine ⟨exec_flush_arrived, ?_, fun s h c x t harr => exec_read_refused s h c x harr t, ?_, exec_reportZones_action, ?_⟩
  · intro s h c x harr hrange honline
    have heq := exec_read_inRange s h c x harr hrange honline
    refine ⟨s.resolvedRead c x, rfl, fun hkey => ?_, fun hneeds hnot => ?_⟩
    · have hgiven : ¬(s.needsKey (s.resolvedRead c x).secs && !s.xtsReady (nsOwner x)) = true := by
        rcases hkey with hfree | hloaded
        · rw [hfree, Bool.false_and]
          exact Bool.false_ne_true
        · rw [hloaded, Bool.not_true, Bool.and_false]
          exact Bool.false_ne_true
      rw [heq, if_neg hgiven]
    · rw [heq, hneeds, hnot, if_pos (by decide)]
  · intro s h c x harr hlen hranges hsum
    have heq := exec_datasetManagement_within s h c x harr hlen hranges hsum
    exact ⟨fun hkeep => heq.trans (by rw [hkeep, if_neg Bool.false_ne_true]), fun hdrop => heq.trans (by rw [hdrop, if_pos rfl])⟩
  · intro s h c x harr haction hopt hslba
    obtain ⟨out, heq⟩ := exec_reportZones_within s h c x harr haction hopt hslba
    exact ⟨_, heq, List.length_take_le _ _⟩

/-! ## Write, Write Zeroes, Copy and Zone Append (R145, R301, R310, R313, R314) -/

section
variable (s : State) (h : Nat) (c : Cmd) (x : Ns)

theorem exec_write_inRange (harr : s.arrivedCmd h (fun o => decide (o = .write)) = some (c, x)) (hrange : rangeCheck c x = none) :
    exec (.write h) s = .next (s.tryWrite h c x [] .fetching) := by
  simp only [exec, execWrite, harr, hrange]

theorem exec_write_refused (harr : s.arrivedCmd h (fun o => decide (o = .write)) = some (c, x)) (t : Status)
    (hrange : rangeCheck c x = some t) : exec (.write h) s = .next (s.toPost h c t) := by
  simp only [exec, execWrite, harr, hrange]

/-- Write Zeroes deallocates in a conventional namespace, and is a write of zero fills in a zone (R145). -/
theorem exec_writeZeroes_inRange (harr : s.arrivedCmd h (fun o => decide (o = .writeZeroes)) = some (c, x))
    (hrange : rangeCheck c x = none) :
    exec (.writeZeroes h) s = .next (if x.zoned then s.tryWrite h c x [] .zeroFill else s.setCmd h { c with phase := .accepting }) := by
  simp only [exec, execWriteZeroes, harr, hrange]

/-- A Copy within its limits is placed with its sources resolved as they stand (R313, R314). -/
theorem exec_copy_within (harr : s.arrivedCmd h (fun o => decide (o = .copy)) = some (c, x))
    (honline : (x.zoned && s.offlineIn x (readLbas c)) = false) (hfmt : getField c.sqe.cdw12 8 4 = (if x.format = 2 then 1 else 0))
    (hlen : c.ranges.length = getField c.sqe.cdw12 0 8 + 1) (hfew : c.ranges.length ≤ 32)
    (hranges : ∀ r ∈ c.ranges, 1 ≤ r.count ∧ r.count ≤ 64 ∧ r.slba + r.count ≤ x.size) (hcount : c.count ≤ 64)
    (hend : c.slba + c.count ≤ x.size) (hdtype : dtypeOk c.sqe = true) :
    exec (.copy h) s = .next (s.tryWrite h c x ((readLbas c).map (fun a => s.readSec c.nsid a x true)) .fetching) := by
  have hsizes : c.ranges.any (fun r => decide (r.count = 0) || decide (64 < r.count)) = false :=
    List.any_eq_false.mpr fun r hr => by
      obtain ⟨hone, hmost, -⟩ := hranges r hr
      simp only [Bool.or_eq_true, decide_eq_true_eq]
      omega
  have hinside : c.ranges.any (fun r => decide (x.size < r.slba + r.count)) = false :=
    List.any_eq_false.mpr fun r hr => by simpa using (hranges r hr).2.2
  have hlimits : ¬(decide (c.ranges.length ≠ getField c.sqe.cdw12 0 8 + 1) || decide (32 < c.ranges.length) ||
      c.ranges.any (fun r => decide (r.count = 0) || decide (64 < r.count)) || decide (64 < c.count) ||
      !decide (getField c.sqe.cdw12 8 4 = (if x.format = 2 then 1 else 0)) || !dtypeOk c.sqe) = true := by
    rw [hsizes, hdtype, decide_eq_true hfmt, decide_eq_false (not_not_intro hlen), decide_eq_false (Nat.not_lt.mpr hfew),
      decide_eq_false (Nat.not_lt.mpr hcount)]
    exact Bool.false_ne_true
  simp only [exec, execCopy, harr]
  rw [if_neg hlimits]
  simp only [hinside, honline, Nat.not_lt.mpr hend, decide_false, Bool.or_self, Bool.false_eq_true, if_false]

/-- An Append that its zone admits is accepted at the write pointer, which it returns (R310). -/
theorem exec_zoneAppend_admitted {z : Nat} {a : Activation} (harr : s.arrivedCmd h (fun o => decide (o = .append)) = some (c, x))
    (hstart : c.slba % zoneSectors = 0) (hslba : c.slba < x.size) (hcount : c.count ≤ maxSectors) (hdtype : dtypeOk c.sqe = true)
    (htag : ilbrtOk c.sqe x.format = true) (hkey : s.xtsReady (nsOwner x) = true) (hzone : c.zone = some z)
    (hadmits : s.zoneCheck c z (s.zone z).wp c.count true = (none, a)) :
    exec (.zoneAppend h) s = .next (s.acceptWrite h { c with
      dw0 := (c.slba + (s.zone z).wp) % 2 ^ 32, dw1 := (c.slba + (s.zone z).wp) / 2 ^ 32 } x (c.slba + (s.zone z).wp) [] .fetching) := by
  have hform : ¬(decide (maxSectors < c.count) || !dtypeOk c.sqe) = true := by simp [Nat.not_lt.mpr hcount, hdtype]
  simp only [exec, execZoneAppend, harr]
  rw [if_neg (not_not_intro hstart), if_neg (Nat.not_le.mpr hslba), if_neg hform]
  simp only [htag, hkey, hzone, hadmits, Bool.not_true, Bool.false_eq_true, if_false]

end

/-- Settles O27: the equations of Write, Write Zeroes, Copy and Zone Append at their acceptance. -/
theorem ioWriteForms : Obligations.IoWriteForms := by
  refine ⟨fun s h c x harr => ⟨exec_write_inRange s h c x harr, exec_write_refused s h c x harr⟩, ?_, exec_copy_within, ?_⟩
  · intro s h c x harr hrange
    have heq := exec_writeZeroes_inRange s h c x harr hrange
    exact ⟨fun hconv => heq.trans (by rw [hconv, if_neg Bool.false_ne_true]), fun hzoned => heq.trans (by rw [hzoned, if_pos rfl])⟩
  · intro s h z c x a harr hstart hslba hcount hdtype htag hkey hzone hadmits
    exact ⟨_, rfl, exec_zoneAppend_admitted s h c x harr hstart hslba hcount hdtype htag hkey hzone hadmits⟩

end Sys2Proof.Machine
end

section
/-!
The path of a read sector from its lookup to its egress, zero reads, zero fills, and completions (R133, R139, R142, R145, R146, R171, R179,
R180, R342, R395, R437, R441, R445, R592).
-/
set_option Elab.async false

namespace Sys2Proof.Machine

/-! ## The lookup of a line (R139) -/

/-- The command with the sectors of its next line looked up, each by its map entry (R139, R241). -/
def State.lineLookedUp (s : State) (c : Cmd) : Cmd :=
  { c with secs := (nextLine c).foldl (fun (l : List Sec) i =>
      match l[i]? with | some x => l.set i (s.lookedUp false x) | none => l) c.secs }

theorem exec_mapLookupEnd_clean (s : State) (h a : Nat) (errs : List SymErr) (c : Cmd) (hcmd : s.cmd h = some c)
    (hrun : c.phase = .running) (hline : (nextLine c).isEmpty = false) (hop : c.op = .read) (hclean : s.dramPoisoned a errs = false) :
    exec (.mapLookupEnd h a errs false) s =
      .next (((((s.dramRecord a errs).closeRow a).setCmd h (s.lineLookedUp c)).readKick h).registerKick) := by
  have hmint : decide (c.op = .minted) = false := by rw [hop]; rfl
  have hgo : ¬(decide (c.phase ≠ .running) || (nextLine c).isEmpty || decide (c.op = .minted) && c.lane.isNone) = true := by
    rw [hline, hmint, hrun]
    exact Bool.false_ne_true
  simp only [exec, execMapLookupEnd, hcmd]
  rw [if_neg hgo]
  simp only [hclean, Bool.false_and, Bool.false_eq_true, if_false]
  rfl

/-! ## The cipher stage (R437, R441, R445) -/

section
variable (s : State) (h i : Nat) (c : Cmd) (x : Sec) (hsec : s.sec h i = some (c, x)) (hwipe : s.mem.wiping = false)
  (hpoison : x.poison = false)
include hsec hwipe hpoison

/-- A read sector with its key is deciphered where its carrier holds, and is a failed decode where it does not (R437). -/
theorem exec_xtsStageEnd_decoded (ok : Bool) (hst : x.st = .decoded) (hkey : x.xts.isSome = true) (hop : c.op = .read) :
    exec (.xtsStageEnd h i ok) s = .next (
      if ok then ((s.addBlocks (x.die % 32) 257).stamp h 6).setSec h i { x with st := .clear } else s.failDecode h i c x) := by
  have hnone : x.xts.isNone = false := by rw [← Option.not_isSome, hkey]; rfl
  have hmint : ¬ c.op = .minted := by rw [hop]; exact nofun
  simp only [exec, execXtsStageEnd, hsec, hwipe, hst, hpoison, hnone, hmint, Bool.false_eq_true, if_false]
  cases ok <;> rfl

/-- A read sector without its key is withdrawn, and its command is denied (R445). -/
theorem exec_xtsStageEnd_keyless (ok : Bool) (hst : x.st = .decoded) (hkey : x.xts = none) (hop : c.op = .read) :
    exec (.xtsStageEnd h i ok) s = .next (((s.raise .cryCause 2).setCmd h { c with
      status := stAccessDenied, secs := c.secs.set i { x with st := .withdrawn } }).readKick h) := by
  have hnone : x.xts.isNone = true := by rw [hkey]; rfl
  have hcopy : ¬ c.op = .copy := by rw [hop]; exact nofun
  simp only [exec, execXtsStageEnd, hsec, hwipe, hst, hpoison, hnone, hcopy, Bool.false_eq_true, if_false, if_true]

/-- A sealed write sector is enciphered by its write stream where its carrier holds, and ends its command where it does not (R437). -/
theorem exec_xtsStageEnd_sealed (ok : Bool) (hst : x.st = .sealed) (hkey : x.xts.isSome = true) :
    exec (.xtsStageEnd h i ok) s = .next (
      if ok then ((s.addBlocks (32 + x.stream) 257).stamp h 4).setSec h i { x with st := .encrypted }
      else (s.endWrite h stInternalError).kick) := by
  have hnone : x.xts.isNone = false := by rw [← Option.not_isSome, hkey]; rfl
  simp only [exec, execXtsStageEnd, hsec, hwipe, hst, hpoison, hnone, Bool.false_or, Bool.false_eq_true, if_false]
  cases ok <;> rfl

end

/-! ## The seal check (R139, R179) -/

theorem copyReady_read {c : Cmd} (hop : c.op = .read) : copyReady c = false := by rw [copyReady, hop]; rfl

/-- A clear sector under its own key is checked where its seal matches, and is a failed decode where it does not (R139). -/
theorem exec_sealCheckEnd_clear (s : State) (h i : Nat) (ok : Bool) (c : Cmd) (x : Sec) (hsec : s.sec h i = some (c, x))
    (hst : x.st = .clear) (hkey : s.keyMatches c x = true) (htag : appTagFails c x (s.fmtOf c) = false) (hop : c.op = .read) :
    exec (.sealCheckEnd h i ok) s = .next (
      if ok then (s.stamp h 7).setCmd h { c with secs := c.secs.set i { x with st := .checked, slotAt := s.exitSlot c x } }
      else s.failDecode h i c x) := by
  have hready : copyReady { c with secs := c.secs.set i { x with st := .checked, slotAt := s.exitSlot c x } } = false :=
    copyReady_read hop
  have hzero : ¬(decide (x.st = .zeroReady) && firstZero c .zeroReady i) = true := by rw [hst]; exact Bool.false_ne_true
  simp only [exec, execSealCheckEnd, hsec]
  rw [if_neg hzero, if_neg (not_not_intro hst)]
  simp only [hkey, htag, hready, Bool.not_true, Bool.or_false, Bool.false_and, Bool.false_eq_true, if_false]
  cases ok <;> rfl

/-! ## The egress slot and the egress' end (R142, R146, R180, R395) -/

section
variable (s : State) (h i : Nat) (g : Bool) (c : Cmd) (x : Sec) (hsec : s.sec h i = some (c, x)) (hop : c.op = .read)
  (hst : x.st = .checked) (hdata : x.zero = false) (hlevel : x.level < 3)
include hsec hop hst hdata hlevel

/-- A checked sector in its slot waits where its door or its rate holds it or the door is not clear; else its guard decides (R142). -/
theorem exec_egressSlotStart_slot : exec (.egressSlotStart h i g) s = .next (
    let t := s.tickTo x.slotAt
    if t.doorPaused c.door || t.rateHolds c then t.setSec h i { x with readyAt := t.waitMark x.readyAt }
    else if !t.mayLeave c x then t
    else if !g then (t.setCmd h { c with status := stUnrecoveredRead, secs := c.secs.set i { x with st := .withdrawn } }).readKick h
    else t.beginEgress h i c x x.slotAt) := by
  have hgo : ¬(decide (c.op ≠ .read) || decide (x.st ≠ .checked) || x.zero ||
      (decide (x.level = 3) && decide (x.l3 + 4 * folioTicks < x.slotAt))) = true := by
    rw [hop, hst, hdata, decide_eq_false (Nat.ne_of_lt hlevel)]
    exact Bool.false_ne_true
  simp only [exec, execEgressSlotStart, hsec]
  rw [if_neg hgo]

theorem exec_egressSlotStart_held (hheld : (s.tickTo x.slotAt).doorPaused c.door = true ∨ (s.tickTo x.slotAt).rateHolds c = true) :
    exec (.egressSlotStart h i g) s = .next ((s.tickTo x.slotAt).setSec h i
      { x with readyAt := (s.tickTo x.slotAt).waitMark x.readyAt }) := by
  rw [exec_egressSlotStart_slot s h i g c x hsec hop hst hdata hlevel]
  exact congrArg Host.Outcome.next (if_pos ((Bool.or_eq_true _ _).mpr hheld))

/-- On a clear door the sector leaves, or a failed guard withdraws it (R142, R395). -/
theorem exec_egressSlotStart_clear (hdoor : (s.tickTo x.slotAt).doorPaused c.door = false)
    (hrate : (s.tickTo x.slotAt).rateHolds c = false) (hmay : (s.tickTo x.slotAt).mayLeave c x = true) :
    exec (.egressSlotStart h i g) s = .next (if g then (s.tickTo x.slotAt).beginEgress h i c x x.slotAt
      else ((s.tickTo x.slotAt).setCmd h
        { c with status := stUnrecoveredRead, secs := c.secs.set i { x with st := .withdrawn } }).readKick h) := by
  rw [exec_egressSlotStart_slot s h i g c x hsec hop hst hdata hlevel]
  simp only [hdoor, hrate, hmay, Bool.or_self, Bool.not_true, Bool.false_eq_true, if_false]
  cases g <;> rfl

end

/-- What the host receives of a read sector: payload and protection information, under its slice's PASID (R146, R339). -/
def State.sectorSent (s : State) (c : Cmd) (i : Nat) (x : Sec) : SentSec :=
  ⟨c.account, c.sqe.cid, i, x.payload, if s.fmtOf c = 0 || sqePract c.sqe then 0 else x.appTag, s.slicePasid c.member⟩

theorem exec_egressEnd_unlogged (s : State) (h i : Nat) (pages : List (BitVec 64)) (c : Cmd) (x : Sec) (hsec : s.sec h i = some (c, x))
    (hst : x.st = .leaving) (hlog : s.logging c.account = false) (hheard : c.silent = false) :
    exec (.egressEnd h i pages) s = .next ((((({ s.setCmd h (s.egressWait c x) with
      host := { (s.setCmd h (s.egressWait c x)).host with
        sent := s.sectorSent c i x :: (s.setCmd h (s.egressWait c x)).host.sent } } : State).stamp h 8).setSec h i
          { x with st := .left }).readKick h).kick) := by
  simp only [exec, execEgressEnd, hsec, hst, hlog, hheard, ne_eq, not_true_eq_false, Bool.and_false, Bool.false_and, Bool.false_eq_true,
    if_false]
  rfl

/-- Settles O29: the equations of a read sector's stages. -/
theorem readSectorSteps : Obligations.ReadSectorSteps := by
  refine ⟨exec_mapLookupEnd_clean, ?_, ?_, ?_, ?_, ?_, ?_, ?_⟩
  · intro s h i c x hsec hst hwipe hpoison hkey hop
    have heq := fun ok => exec_xtsStageEnd_decoded s h i c x hsec hwipe hpoison ok hst hkey hop
    exact ⟨heq true, heq false⟩
  · intro s h i c x hsec hst hwipe hpoison hkey hop
    exact exec_xtsStageEnd_keyless s h i c x hsec hwipe hpoison true hst hkey hop
  · intro s h i c x hsec hst hwipe hpoison hkey
    have heq := fun ok => exec_xtsStageEnd_sealed s h i c x hsec hwipe hpoison ok hst hkey
    exact ⟨heq true, heq false⟩
  · intro s h i c x hsec hst hkey htag hop
    have heq := fun ok => exec_sealCheckEnd_clear s h i ok c x hsec hst hkey htag hop
    exact ⟨heq true, heq false⟩
  · intro s h i c x hsec hop hst hdata hlevel hdoor hrate hmay
    have heq := fun g => exec_egressSlotStart_clear s h i g c x hsec hop hst hdata hlevel hdoor hrate hmay
    exact ⟨heq true, heq false⟩
  · exact exec_egressSlotStart_held
  · intro s h i pages c x hsec hst hlog hheard
    exact ⟨_, rfl, exec_egressEnd_unlogged s h i pages c x hsec hst hlog hheard⟩

/-! ## Zero reads (R171, R592) -/

/-- No earlier zero-read sector of the command still waits to leave (R592). -/
def firstZeroRead (c : Cmd) (i : Nat) : Bool :=
  (List.range i).all (fun k => match c.secs[k]? with
    | some y => !(y.zero && decide (y.st = .checked))
    | none => true)

theorem firstZeroRead_zero (c : Cmd) : firstZeroRead c 0 = true := rfl

/-- The door lets no zero read of the command leave in this tick (R171, R463, R592). -/
def State.zeroReadHeld (s : State) (c : Cmd) : Bool :=
  s.doorPaused c.door || s.rateHolds c || s.doorBusy c.door || !s.wireFree (doorNum c.door)

/-- A checked zero read leaves in its turn for one BYTE, where nothing holds it (R171, R592). -/
theorem exec_zeroReadEgress_checked (s : State) (h i : Nat) (c : Cmd) (x : Sec) (hsec : s.sec h i = some (c, x)) (hop : c.op = .read)
    (hst : x.st = .checked) (hzero : x.zero = true) :
    exec (.zeroReadEgress h i) s = .next (if !firstZeroRead c i || s.zeroReadHeld c then s
      else (s.charge c.member ⟨0, 0, 1⟩).beginEgress h i c x x.readyAt) := by
  have hguard : (decide (c.op ≠ .read) || decide (x.st ≠ .checked) || !x.zero || !firstZeroRead c i) = !firstZeroRead c i := by
    rw [hop, hst, hzero]
    rfl
  have hbody : exec (.zeroReadEgress h i) s = .next (
      if decide (c.op ≠ .read) || decide (x.st ≠ .checked) || !x.zero || !firstZeroRead c i then s
      else if s.zeroReadHeld c then s else (s.charge c.member ⟨0, 0, 1⟩).beginEgress h i c x x.readyAt) := by
    simp only [exec, execZeroReadEgress, hsec]
    rfl
  rw [hbody, hguard]
  cases firstZeroRead c i <;> rfl

/-! ## Zero fills (R145) -/

section
variable (s : State) (h i : Nat) (c : Cmd) (x : Sec) (hsec : s.sec h i = some (c, x)) (hst : x.st = .zeroFill)
  (hfirst : firstZero c .zeroFill i = true)
include hsec hst hfirst

/-- The zero fill of a Copy's source ends ready for the seal stage (R145). -/
theorem exec_zeroFillEnd_copy (hop : c.op = .copy) (hsrc : x.copySrc = true) :
    exec (.zeroFillEnd h i) s = .next ((s.setCmd h { c with secs := c.secs.set i { x with st := .zeroReady, payload := 0 } }).kick) := by
  simp [exec, execZeroFillEnd, hsec, hst, hfirst, hop, hsrc]

/-- The zero fill of a zoned Write Zeroes ends as data of the write (R145). -/
theorem exec_zeroFillEnd_writeZeroes (hop : c.op = .writeZeroes) (hready : stagedReady c = true) :
    exec (.zeroFillEnd h i) s = .next (((s.stamp h 2).setCmd h { c with
      waitFrom := s.ldg.tick, secs := c.secs.set i { x with st := .have, payload := 0 } }).kick) := by
  simp [exec, execZeroFillEnd, hsec, hst, hfirst, hop, hready]

end

/-! ## Completions (R133, R342) -/

/-- The command waits on to post, its wait marked from its first tick (R342). -/
def State.postHeld (s : State) (h : Nat) (c : Cmd) : State := s.setCmd h { c with waitFrom := s.waitMark c.waitFrom }

section
variable (s : State) (h : Nat) (p : BitVec 64) (c : Cmd) (hcmd : s.cmd h = some c) (hphase : c.phase = .posting)
include hcmd hphase

/-- Without logging, a completion leaves unless its port is paused (R133; a pause holds it, log entry 129). -/
theorem exec_completionPostEnd_unlogged (hlog : s.logging c.account = false) :
    exec (.completionPostEnd h p) s = .next (if s.doorPaused c.door then s.postHeld h c
      else ((s.stamp h (if writeType c.op then 7 else 9)).finish h (s.waitEnd c c.waitFrom)).kick) := by
  have hlogs : (!c.net && !c.silent && s.logging c.account) = false := by rw [hlog, Bool.and_false]
  simp only [exec, execCompletionPostEnd, hcmd]
  rw [if_neg (not_not_intro hphase)]
  simp only [hlogs, Bool.false_and, Bool.false_eq_true, if_false, State.postHeld]

/-- With logging and no room in the ring, a PCIe completion waits and DLOG_FULL is raised (R342). -/
theorem exec_completionPostEnd_full (hpcie : c.net = false) (hheard : c.silent = false) (hlog : s.logging c.account = true)
    (hfull : s.dlogRoom = 0) : exec (.completionPostEnd h p) s = .next ((s.postHeld h c).raise .actCause 3) := by
  have hlogs : (!c.net && !c.silent && s.logging c.account) = true := by rw [hpcie, hheard, hlog]; rfl
  simp only [exec, execCompletionPostEnd, hcmd]
  rw [if_neg (not_not_intro hphase)]
  simp only [hlogs, hfull, decide_true, Bool.and_self, if_true, State.postHeld]

end

/-- Settles O30: the equations of zero reads, zero fills and completions. -/
theorem zeroReadsAndCompletions : Obligations.ZeroReadsAndCompletions := by
  refine ⟨?_, ?_, ?_, ?_, ?_, ?_, exec_completionPostEnd_full⟩
  · intro s h c x hsec hop hst hzero hdoor hrate hbusy hwire
    have hheld : s.zeroReadHeld c = false := by rw [State.zeroReadHeld, hdoor, hrate, hbusy, hwire]; rfl
    rw [exec_zeroReadEgress_checked s h 0 c x hsec hop hst hzero, hheld, firstZeroRead_zero, if_neg (by decide)]
  · intro s h i c x hsec hop hst hzero hholds
    have hheld : s.zeroReadHeld c = true := by
      simpa only [State.zeroReadHeld, Bool.or_eq_true, Bool.not_eq_true', or_assoc] using hholds
    rw [exec_zeroReadEgress_checked s h i c x hsec hop hst hzero, hheld, Bool.or_true, if_pos rfl]
  · intro s h i c x hsec hop hst hsrc hfirst
    exact exec_zeroFillEnd_copy s h i c x hsec hst hfirst hop hsrc
  · intro s h i c x hsec hop hst hready hfirst
    exact exec_zeroFillEnd_writeZeroes s h i c x hsec hst hfirst hop hready
  · intro s h p c hcmd hphase hlog hopen
    rw [exec_completionPostEnd_unlogged s h p c hcmd hphase hlog, hopen, if_neg Bool.false_ne_true]
  · intro s h p c hcmd hphase hlog hpaused
    rw [exec_completionPostEnd_unlogged s h p c hcmd hphase hlog, hpaused, if_pos rfl]
    rfl

end Sys2Proof.Machine
end

section
/-!
The key-management lock (R189, R450, R451).
-/
set_option Elab.async false

namespace Sys2Proof.Machine

/-! ## The owner (R451) -/

theorem reqId_lt (who : Requester) : reqId who < 8 := by
  cases who with
  | mp => decide
  | mdp n => exact Nat.lt_of_le_of_lt (Nat.add_le_add_left (Nat.le_of_lt n.isLt) 1) (by decide)
  | pf => decide
  | func n => exact (by decide : 5 < 8)

/-- Where nobody asked in the tick the freed lock has no owner, and no requester has a number above 7 (R451, R456). -/
theorem kmNext_le (s : State) : s.kmNext ≤ 7 := by
  have hmin : ∀ (l : List Nat) (a : Nat), l.foldl min a ≤ a := fun l => by
    induction l with
    | nil => exact fun a => Nat.le_refl a
    | cons x l ih => exact fun a => Nat.le_trans (ih (min a x)) (Nat.min_le_left a x)
  rw [State.kmNext]
  split
  · exact hmin _ _
  · exact Nat.le_refl 7

theorem kmOwner_setFld (s : State) {id : Nat} (h : id < 8) : (s.setFld Reg.cryKmLock 0 3 id).kmOwner = id := by
  rw [State.kmOwner, fld_setFld_same s Reg.cryKmLock 0 3 id (by decide)]
  exact Nat.mod_eq_of_lt h

/-- The freed lock goes to the lowest requester of the tick, or to none; clearing the data registers leaves it (R451, R457). -/
theorem kmFree_kmOwner (s : State) : s.kmFree.kmOwner = s.kmNext := by
  have hlock : s.kmFree.reg Reg.cryKmLock = (s.setFld Reg.cryKmLock 0 3 s.kmNext).reg Reg.cryKmLock :=
    reg_resetRegs_other _ (fun o => decide (Reg.cryKmData ≤ o) && decide (o < Reg.cryKmData + 72)) (by decide)
  calc s.kmFree.kmOwner = (s.setFld Reg.cryKmLock 0 3 s.kmNext).kmOwner := congrArg (fun w => getField w 0 3) hlock
    _ = s.kmNext := kmOwner_setFld s (Nat.lt_succ_of_le (kmNext_le s))

/-! ## ACQUIRE and RELEASE (R189, R451) -/

/-- The lock goes to the requester: it is free, or a higher number took it in this tick and has started nothing (R189). -/
def State.kmTakes (s : State) (who : Requester) : Bool :=
  s.kmOwner = 7 || (decide (s.cry.lockAt = some s.ldg.tick) && decide (reqId who < s.kmOwner) && s.cry.op.isNone)

section
variable (s : State) (who : Requester) (hmay : s.mayWrite who Reg.cryKmLock = true)
include hmay

theorem exec_acquire_takes (htakes : s.kmTakes who = true) : ∃ t, exec (.acquire who) s = .next t ∧
    t.kmOwner = reqId who ∧ t.cry.op = s.cry.op ∧ t.cry.slots = s.cry.slots :=
  ⟨_, congrArg Host.Outcome.next ((if_neg (by simp [hmay])).trans (if_pos htakes)),
    kmOwner_setFld (s.noteAcquire (reqId who)) (reqId_lt who), rfl, rfl⟩

theorem exec_acquire_noted (hheld : s.kmTakes who = false) : exec (.acquire who) s = .next (s.noteAcquire (reqId who)) :=
  congrArg Host.Outcome.next ((if_neg (by simp [hmay])).trans (if_neg (Bool.eq_false_iff.mp hheld)))

theorem exec_release_owner (howner : s.kmOwner = reqId who) : exec (.release who) s =
    .next (if s.cry.op.isSome then { s with cry := { s.cry with releasePending := true } } else s.kmFree) :=
  congrArg Host.Outcome.next (if_pos (by simp [hmay, howner]))

end

theorem exec_release_other (s : State) (who : Requester) (howner : s.kmOwner ≠ reqId who) : exec (.release who) s = .next s :=
  congrArg Host.Outcome.next (if_neg (by simp [howner]))

/-! ## Commands without the lock (R450) -/

/-- A raised cause is outside the cipher island's state. -/
theorem raise_cry (s : State) (l : Leaf) (b : Nat) : (s.raise l b).cry = s.cry := by
  obtain ⟨r, e, p, m, d, c, hraise⟩ := raise_form s l b
  rw [hraise]

/-- A requester that does not hold the lock starts nothing: at most KM_REFUSED is raised (R450). -/
theorem kmStart_unowned (s : State) (who : Requester) (o : KmOp) (h : s.kmOwner ≠ reqId who) : (s.kmStart who o).cry = s.cry := by
  rw [State.kmStart]
  by_cases hmay : s.mayWrite who Reg.cryKmCmd = true
  · rw [if_neg (by simp [hmay]), if_pos h]
    exact raise_cry s .cryCause 1
  · rw [if_pos (by simpa using hmay)]

/-- Each command of the core is a start of one operation (R450). -/
theorem kmCommand_starts (s : State) (who : Requester) (slot n : Nat) (ty : KeyType) (w : Wrapped) (c : Instr)
    (h : c ∈ [.unwrap who slot ty w, .wrapOut who slot, .wrapData who slot n, .clear who slot]) :
    ∃ o, exec c s = .next (s.kmStart who o) := by
  simp only [List.mem_cons, List.not_mem_nil, or_false] at h
  rcases h with rfl | rfl | rfl | rfl <;> exact ⟨_, rfl⟩

/-! ## The end of an operation (R449, R451) -/

/-- What the end of an operation leaves of the lock: the requests of the tick and a noted release. -/
structure SameLock (s t : State) : Prop where
  acqAt : t.cry.acqAt = s.cry.acqAt
  acq : t.cry.acq = s.cry.acq
  tick : t.ldg.tick = s.ldg.tick
  op : t.cry.op = s.cry.op
  releasePending : t.cry.releasePending = s.cry.releasePending

theorem SameLock.kmNext {s t : State} (h : SameLock s t) : t.kmNext = s.kmNext := by
  rw [State.kmNext, State.kmNext, h.acqAt, h.acq, h.tick]

theorem sameLock_of_cry {s t : State} (hcry : t.cry = s.cry) (htick : t.ldg = s.ldg) : SameLock s t :=
  ⟨by rw [hcry], by rw [hcry], by rw [htick], by rw [hcry], by rw [hcry]⟩

theorem sameLock_raise (s : State) (l : Leaf) (b : Nat) : SameLock s (s.raise l b) := by
  refine sameLock_of_cry (raise_cry s l b) ?_
  obtain ⟨r, e, p, m, d, c, hraise⟩ := raise_form s l b
  rw [hraise]

theorem sameLock_setSlot (s : State) (n : Nat) (x : KeySlot) : SameLock s (s.setSlot n x) := by
  have hkeep : s.keepSlots = s ∨
      s.keepSlots = { s with cry := { s.cry with keptAt := some s.ldg.tick, kept := s.cry.slots } } := by
    rw [State.keepSlots]
    split
    · exact .inl rfl
    · exact .inr rfl
  rcases hkeep with hkeep | hkeep <;> rw [State.setSlot, hkeep] <;> exact ⟨rfl, rfl, rfl, rfl, rfl⟩

theorem putKmData_cry_ldg (ws : List (BitVec 32)) : ∀ (s : State) (i : Nat),
    (s.putKmData i ws).cry = s.cry ∧ (s.putKmData i ws).ldg = s.ldg := by
  induction ws with
  | nil => exact fun s i => ⟨rfl, rfl⟩
  | cons w ws ih => exact fun s i => ih (s.setReg (Reg.cryKmData + 4 * i) w) (i + 1)

theorem sameLock_putKmData (s : State) (i : Nat) (ws : List (BitVec 32)) : SameLock s (s.putKmData i ws) :=
  have ⟨hcry, hldg⟩ := putKmData_cry_ldg ws s i
  sameLock_of_cry hcry hldg

/-- The state with the operation's result shown and the core idle (R449). -/
def State.kmEnded (s : State) (o : KmOp) : State :=
  let s2 := ((s.setFld Reg.cryKmStatus 1 1 1).setFld Reg.cryKmStatus 2 2 o.result).addBlocks 64 o.blocks
  { s2 with cry := { s2.cry with op := none } }

/-- What the ended operation does to its slot, the data registers or the causes (R449, R450). -/
def State.kmEffect (s : State) (o : KmOp) : State :=
  if o.result ≠ 0 then (if o.noKek then s.raise .cryCause 0 else s)
  else match o.kind with
    | .unwrap => s.setSlot o.slot o.new
    | .clear => s.setSlot o.slot {}
    | _ => s.putKmData 0 o.out

theorem sameLock_kmEffect (s : State) (o : KmOp) : SameLock s (s.kmEffect o) := by
  rw [State.kmEffect]
  split
  · split
    · exact sameLock_raise s _ _
    · exact sameLock_of_cry rfl rfl
  · split
    · exact sameLock_setSlot s _ _
    · exact sameLock_setSlot s _ _
    · exact sameLock_putKmData s _ _

theorem exec_kmOpComplete_due (s : State) (o : KmOp) (hop : s.cry.op = some o) (hdue : o.start + kmTicks o s.clockLevel ≤ s.ldg.tick) :
    exec .kmOpComplete s = .next (let t := (s.kmEnded o).kmEffect o; if t.cry.releasePending then t.kmFree else t) := by
  simp only [exec, execKmOpComplete, hop]
  rw [if_neg (Nat.not_lt.mpr hdue)]
  rfl

/-- With a release noted the operation's end frees the lock as a release does at once (R451). -/
theorem exec_kmOpComplete_frees (s : State) (o : KmOp) (hop : s.cry.op = some o) (hnoted : s.cry.releasePending = true)
    (hdue : o.start + kmTicks o s.clockLevel ≤ s.ldg.tick) :
    ∃ t, exec .kmOpComplete s = .next t ∧ t.cry.op = none ∧ t.cry.releasePending = false ∧ t.kmOwner = s.kmNext := by
  have hsame := sameLock_kmEffect (s.kmEnded o) o
  refine ⟨_, (exec_kmOpComplete_due s o hop hdue).trans (congrArg _ (if_pos (hsame.releasePending.trans hnoted))), hsame.op, rfl, ?_⟩
  exact (kmFree_kmOwner _).trans hsame.kmNext

/-- Settles O41: the equations of ACQUIRE and RELEASE, the start of an operation, and the lock freed at once or at its end. -/
theorem keyManagementLock : Obligations.KeyManagementLock := by
  refine ⟨fun s who hmay => ⟨fun hfree => ?_, fun hheld hkeeps => ?_, rfl, fun howner hidle => ?_, fun howner hbusy => ?_,
    exec_release_other s who⟩, ?_, exec_kmOpComplete_frees⟩
  · exact exec_acquire_takes s who hmay (by simpa [State.kmTakes, and_assoc] using hfree)
  · refine exec_acquire_noted s who hmay ?_
    rw [State.kmTakes, decide_eq_false hheld, Bool.false_or]
    rcases hkeeps with hearlier | hlower | hrunning
    · rw [decide_eq_false hearlier, Bool.false_and, Bool.false_and]
    · rw [decide_eq_false (Nat.not_lt.mpr hlower), Bool.and_false, Bool.false_and]
    · rw [← Option.not_isSome, hrunning, Bool.not_true, Bool.and_false]
  · exact ⟨_, (exec_release_owner s who hmay howner).trans (congrArg _ (if_neg (by simp [hidle]))), rfl, kmFree_kmOwner s⟩
  · exact (exec_release_owner s who hmay howner).trans (congrArg _ (if_pos hbusy))
  · intro s t who slot n ty w c howner hmem hexec
    obtain ⟨o, hstart⟩ := kmCommand_starts s who slot n ty w c hmem
    rw [hstart] at hexec
    rw [← Host.Outcome.next.inj hexec]
    exact kmStart_unowned s who o howner

end Sys2Proof.Machine
end

section
/-!
Entries of the dies and their budgets, decodes, the retry ladder and rebuilds (R148, R160 to R166, R177, R184, R249, R251 to R253, R266,
R274).
-/
set_option Elab.async false

namespace Sys2Proof.Machine

/-! ## An entry's start (R160 to R163) -/

/-- The die at an entry's start in column tick `t0`: the segment that the column ends is closed, and no class 15 entry is open (R163). -/
def State.entryOpened (s : State) (d : Nat) (e : EntryRec) (t0 : Nat) : State :=
  (s.tickTo (t0 + overhead e)).setDie d { closeSeg (s.die d) t0 with entry15 := none }

/-- An entry that starts on a good die runs Idle where a bus slot that it needs is carried over (R184, log entry 158), at its own tick
(log entry 157). -/
theorem exec_entryStart_starts (s : State) (d t0 : Nat) (e : EntryRec) (w : Work14) (rdy ok : Bool) (bad : List Nat)
    (hstart : s.startOf d e = some t0) (hahead : s.ldg.tick ≤ t0 + overhead e) (hmode : modeLedger s.mode = true)
    (hgood : (s.dieMed d).failed = false) :
    exec (.entryStart d e w rdy ok bad) s = .next (let s1 := s.entryOpened d e t0
      if s1.carriedOver d e t0 then s1.countSeat d e
      else ((((s1.beginEntry d e (t0 + overhead e) w rdy ok).setTimes d e t0 (t0 + overhead e)).entryBad d bad).countSeat d e).leaveKick) := by
  have hruns : ¬(decide (t0 + overhead e < s.ldg.tick) || !modeLedger s.mode || (s.dieMed d).failed) = true := by
    rw [decide_eq_false (Nat.not_lt.mpr hahead), hmode, hgood]
    exact Bool.false_ne_true
  simp only [exec, execEntryStart, hstart]
  rw [if_neg hruns]
  rfl

section
variable (s : State) (d t : Nat) (e : EntryRec) (w : Work14) (rdy ok : Bool)

theorem beginEntry_class15 (hcls : e.cls = 15) : s.beginEntry d e t w rdy ok = s.enter15 d e t rdy ok := if_pos hcls

/-- A read entry of a host class on an idle die grants a read (R160). -/
theorem beginEntry_read (hcls : e.cls < 14) (hread : isReadEntry e = true) (hover : (s.die d).overrunAt = none)
    (hop : (s.die d).op = none) (hfree : (s.die d).read = none) : s.beginEntry d e t w rdy ok = s.readEntry d e t := by
  have h15 : ¬ e.cls = 15 := by omega
  simp [State.beginEntry, h15, hover, hop, hread, hfree, hcls]

/-- A read entry that could have granted on a die in overrun is an exception (R163). -/
theorem beginEntry_overrun (hcls : e.cls < 14) (hread : isReadEntry e = true) (hover : (s.die d).overrunAt.isSome = true)
    (hasks : (s.candidates d e).isEmpty = false) : s.beginEntry d e t w rdy ok = s.mediaExc d e.type e.cls 2 false := by
  have h15 : ¬ e.cls = 15 := by omega
  simp only [State.beginEntry, h15, hover, hread, hasks, Bool.not_false, Bool.and_self, if_false, if_true]

/-- A program or erase entry on an idle die with nothing to resume starts its work (R161, R162). -/
theorem beginEntry_work (h15 : e.cls ≠ 15) (hread : isReadEntry e = false) (hover : (s.die d).overrunAt = none)
    (hop : (s.die d).op = none) (hresume : s.resumeOp d e t = none) : s.beginEntry d e t w rdy ok = s.startEntry d e w := by
  simp [State.beginEntry, h15, hover, hop, hread, hresume]

end

/-! ## Budgets, transfer slots and results (R164, R165) -/

/-- The end of a budget is judged at its tick: a ready die is in budget, and a busy one is in overrun (R165, log entry 157). -/
theorem exec_budgetCheck_judges (s : State) (d : Nat) (op : DieOp) (ready : Bool) (hjudged : judged (s.die d) = some op)
    (hover : (s.die d).overrunAt = none) (hgood : (s.dieMed d).failed = false) (hmode : modeLedger s.mode = true) :
    exec (.budgetCheck d ready) s = .next (if ready then (s.tickTo (budgetEnd op)).setDie d (passBudget ((s.tickTo (budgetEnd op)).die d) op)
      else (s.tickTo (budgetEnd op)).overrun d op) := by
  simp only [exec, execBudgetCheck, hjudged]
  exact congrArg _ (if_neg (by simp [hover, hgood, hmode]))

/-- A granted sector's data moves in the transfer slot of its read, with the stamps of the read's and the slot's ends (R164). -/
theorem exec_transferSlot_granted (s : State) (d : Nat) (op : DieOp) (c : Cmd) (x : Sec) (s1 : State) (hread : (s.die d).read = some op)
    (hbudget : op.inBudget = true) (hcls : op.cls < 14) (hover : (s.die d).overrunAt = none)
    (hs1 : s1 = (s.tickTo (op.start + slotEnd op.type)).setDie d { s.die d with read := none }) (hsec : s1.sec op.cmd op.sec = some (c, x))
    (hst : x.st = .granted) :
    exec (.transferSlot d) s = .next (((((s1.stampAt op.cmd 3 (op.start + readTicks op.type)).stampAt op.cmd 4
      (op.start + slotEnd op.type)).setSec op.cmd op.sec { x with st := .moved }).releaseRead op.cmd).kick) := by
  subst hs1
  have h14 : ¬ op.cls = 14 := by omega
  have h15 : ¬ op.cls = 15 := by omega
  have hmoves : ¬(!op.inBudget || (s.die d).overrunAt.isSome) = true := by simp [hbudget, hover]
  simp only [exec, execTransferSlot, hread]
  rw [if_neg hmoves, if_neg h14]
  dsimp only at hsec
  simp only [hsec, hst, h15, if_true, if_false]

theorem resultOf_inBudget (s : State) (d : Nat) (op : DieOp) (p : Nat → Bool) (hop : (s.die d).op = some op) (htype : p op.type = true)
    (hbudget : op.inBudget = true) (hover : (s.die d).overrunAt = none) : s.resultOf d p = some op := by
  simp only [State.resultOf, hop, htype, hbudget, hover, Option.isNone_none, Bool.and_self, if_true]

/-! ## The reset of a die (R166) -/

/-- Four Folios after its overrun a die with one late operation is reset in its open class 15 entry: the operation has failed (R166). -/
theorem exec_dieReset_due (s : State) (d t : Nat) (op : DieOp) (e : Entry15) (hlate : (s.die d).late = some op)
    (hop : (s.die d).op = none) (hsusp : (s.die d).susp = []) (hover : (s.die d).overrunAt = some t) (hreset : (s.die d).resetAt = none)
    (hentry : (s.die d).entry15 = some e) (hopen : s.ldg.tick ≤ e.last) (hdue : t + 4 * folioTicks ≤ s.ldg.tick)
    (hgood : (s.dieMed d).failed = false) (hmode : modeLedger s.mode = true) :
    exec (.dieReset d) s = .next (((s.setDie d { s.die d with
      late := none, op := none, susp := [], resetAt := some s.ldg.tick }).outcome d op false).mediaExc d
        (if op.window then 7 else op.type) op.cls 1 true) := by
  have hruns : ¬(decide (s.ldg.tick < t + 4 * folioTicks) || decide (e.last < s.ldg.tick) || (s.dieMed d).failed ||
      !modeLedger s.mode) = true := by
    rw [decide_eq_false (Nat.not_lt.mpr hdue), decide_eq_false (Nat.not_lt.mpr hopen), hgood, hmode]
    exact Bool.false_ne_true
  simp only [exec, execDieReset, hover, hreset, hentry]
  rw [if_neg hruns]
  simp only [hlate, hop, hsusp]
  rfl

/-! ## Decodes (R148, R249) -/

/-- A moved sector's decode ends: poisoned data is uncorrectable, a good decode has its key, and a failed one enters the ladder (R249). -/
theorem exec_ldpcDecodeEnd_moved (s : State) (h i bits : Nat) (ok : Bool) (c : Cmd) (x : Sec) (hsec : s.sec h i = some (c, x))
    (hst : x.st = .moved) : exec (.ldpcDecodeEnd h i ok bits) s = .next (if x.poison then (s.uncorrectable h i c x).kick
      else if ok then ((s.recovered x bits).stamp h 5).setSec h i { x with st := .decoded, xts := s.xtsRead (s.ownerOf c) }
      else (s.failDecode h i c x).kick) := by
  simp only [exec, execLdpcDecodeEnd, hsec]
  exact congrArg _ (if_neg (not_not_intro hst))

/-! ## Retry and recovery reads (R148, R177, R251, R252) -/

/-- No sector of the list comes before sector `i` of the command in the order of the sequence numbers (R148). -/
def firstRetry (l : List (Nat × Nat × Nat × Nat)) (c : Cmd) (i : Nat) : Prop := ∀ r ∈ l, c.seq < r.1 ∨ (c.seq = r.1 ∧ i ≤ r.2.2.2)

theorem noneBefore_of_firstRetry {l : List (Nat × Nat × Nat × Nat)} {c : Cmd} {i : Nat} (h : firstRetry l c i) :
    l.any (fun r => decide (r.1 < c.seq) || (decide (r.1 = c.seq) && decide (r.2.2.2 < i))) = false :=
  List.any_eq_false.mpr fun r hr => by
    have := h r hr
    simp only [Bool.or_eq_true, Bool.and_eq_true, decide_eq_true_eq]
    omega

theorem entry15_of_open15 {s : State} {d off : Nat} {e : Entry15} (hopen : s.open15 d off = some e) :
    (s.die d).entry15 = some e := by
  rw [State.open15] at hopen
  cases hentry : (s.die d).entry15 with
  | none => simp [hentry] at hopen
  | some e1 =>
    simp only [hentry, Option.ite_none_right_eq_some, Option.some.injEq] at hopen
    rw [hopen.2]

section
variable (s : State) (h i : Nat) (c : Cmd) (x : Sec) (e : Entry15) (hsec : s.sec h i = some (c, x)) (hopen : s.open15 x.die 0 = some e)
include hsec hopen

/-- The oldest waiting retry, alone, reads in the open retry entry (R148, R177). -/
theorem exec_retryRead_oldest (hst : x.st = .retryWait) (hretry : e.recovery = false) (hreg : x.reg ≤ e.start)
    (hfirst : firstRetry (s.retries x.die e.start) c i) (hone : (s.retries x.die e.start).length ≤ 1) :
    exec (.retryRead h i) s = .next (s.read15 h i x e 3 0 2) := by
  simp only [exec, execRetryRead, hsec, hopen, noneBefore_of_firstRetry hfirst, hst, hretry, Nat.not_lt.mpr hreg, Nat.not_lt.mpr hone,
    ne_eq, not_true_eq_false, decide_false, Bool.or_self, Bool.false_eq_true, if_false]

/-- A sector in L3 reads in an open retry entry as a retry does (R251). -/
theorem exec_recoveryRead_retryEntry (hst : x.st = .recovering) (hdue : s.retriesAt c x e.start = true) (hretry : e.recovery = false)
    (hfirst : firstRetry (s.retries x.die e.start) c i) (hone : (s.retries x.die e.start).length ≤ 1) :
    exec (.recoveryRead h i) s = .next (s.read15 h i x e 3 0 2) := by
  have hentry := entry15_of_open15 hopen
  simp only [exec, execRecoveryRead, hsec, hentry, hretry, hopen, noneBefore_of_firstRetry hfirst, hst, hdue, Nat.not_lt.mpr hone,
    ne_eq, not_true_eq_false, decide_false, Bool.not_true, Bool.false_and, Bool.or_self, Bool.false_eq_true, if_false]

/-- In a recovery entry with room for any read the sector whose L3 began first reads at its own density (R252). -/
theorem exec_recoveryRead_recoveryEntry (hst : x.st = .recovering) (hdue : s.retriesAt c x e.start = true) (hrecovery : e.recovery = true)
    (hroom : 2 ≤ e.room)
    (hfirst : ∀ r ∈ s.retries x.die e.start, r.2.1 = 0 ∨ x.l3 < r.2.1 ∨ (x.l3 = r.2.1 ∧ c.seq ≤ r.1)) :
    exec (.recoveryRead h i) s = .next (s.read15 h i x e (if x.slc then 2 else 1) 0 (if x.slc then 1 else 2)) := by
  have hentry := entry15_of_open15 hopen
  have hwhole : decide (e.room = 1) = false := decide_eq_false (by omega)
  have hfits : decide (e.room < if x.slc then 1 else 2) = false := decide_eq_false (by split <;> omega)
  have hnone : (s.retries x.die e.start).any (fun r => decide (0 < r.2.1) && (decide (r.2.1 < x.l3) ||
      (decide (r.2.1 = x.l3) && decide (r.1 < c.seq)))) = false :=
    List.any_eq_false.mpr fun r hr => by
      have := hfirst r hr
      simp only [Bool.or_eq_true, Bool.and_eq_true, decide_eq_true_eq]
      omega
  simp only [exec, execRecoveryRead, hsec, hentry, hrecovery, hwhole, hopen, hnone, hfits, hst, hdue, ne_eq, not_true_eq_false,
    decide_false, Bool.not_true, Bool.and_false, Bool.or_self, Bool.false_eq_true, if_false, if_true]

end

/-! ## The end of L3, and rebuilds (R253, R266, R274) -/

/-- The sector is in a stage that the limit of L3 bounds (R253). -/
def l3Waits (x : Sec) : Bool :=
  decide (x.st = .recovering) || decide (x.st = .granted) || decide (x.st = .moved) || decide (x.st = .decoded) ||
    decide (x.st = .clear) || decide (x.st = .checked)

theorem exec_l3Timeout_due (s : State) (h i : Nat) (c : Cmd) (x : Sec) (hsec : s.sec h i = some (c, x)) (hlevel : x.level = 3)
    (hwaits : l3Waits x = true) (hdue : x.l3 + 4 * folioTicks ≤ s.ldg.tick) :
    exec (.l3Timeout h i) s = .next (s.uncorrectable h i c x).kick := by
  rw [l3Waits] at hwaits
  simp only [exec, execL3Timeout, hsec, hlevel, hwaits, hdue, decide_true, Bool.and_self, if_true]

/-- The command with its sector rebuilt, as of retry level 3 and under the key of the tick (R266). -/
def State.rebuiltCmd (s : State) (c : Cmd) (i : Nat) (x : Sec) : Cmd :=
  { c with maxRetry := 3, secs := c.secs.set i { x with st := .decoded, level := 3, xts := s.xtsRead (s.ownerOf c) } }

section
variable (s : State) (h i : Nat) (c : Cmd) (x : Sec) (hsec : s.sec h i = some (c, x)) (hst : x.st = .recovering)
  (htally : s.tallyHeld x = true) (hmode : modeLedger s.mode = true)
include hsec hst htally hmode

/-- A bad unit of the stripe leaves the sector uncorrectable (R274). -/
theorem exec_tallyRebuild_bad : exec (.tallyRebuild h i false) s = .next (s.uncorrectable h i c x).kick := by
  simp only [exec, execTallyRebuild, hsec, hst, htally, hmode, decide_true, Bool.true_or, Bool.not_true, Bool.or_self, Bool.false_and,
    Bool.false_eq_true, if_false]

/-- A sector of L3 that can still reach its egress slot is rebuilt from its stripe (R253, R266). -/
theorem exec_tallyRebuild_good (hpoison : x.poison = false) (hlevel : x.level = 3)
    (hreaches : c.op = .minted ∨ x.copySrc = true ∨ s.l3Reaches c x (s.ldg.tick + sealTicks s.level) = true) :
    exec (.tallyRebuild h i true) s = .next ((((s.raise .integCause 1).countFld Reg.medRetryL3 0 32 1).stamp h 5).setCmd h
      (s.rebuiltCmd c i x)).registerKick := by
  have hlate : ¬(decide (c.op ≠ .minted) && !x.copySrc && !s.l3Reaches c x (s.ldg.tick + sealTicks s.level)) = true := by
    rcases hreaches with hmint | hcopy | hslot
    · simp [hmint]
    · simp [hcopy]
    · simp [hslot]
  have hgood : (true && !x.poison) = true := by rw [hpoison]; rfl
  simp only [exec, execTallyRebuild, hsec, hst, htally, hmode, hlevel, decide_true, Bool.true_or, Bool.not_true, Bool.or_self,
    Bool.false_eq_true, if_false, if_true]
  rw [if_pos hgood, if_neg hlate]
  rfl

end

/-- Settles O32: the equations of a die's entries and of the retry ladder. -/
theorem dieOperationsAndRetries : Obligations.DieOperationsAndRetries := by
  refine ⟨?_, ?_, ?_, ?_, ?_, exec_dieReset_due, ?_, ?_, ?_, ?_, ?_, ?_⟩
  · intro s d t e w rdy ok bad hstart hahead hmode hgood
    have heq := exec_entryStart_starts s d t e w rdy ok bad hstart hahead hmode hgood
    exact ⟨s.entryOpened d e t, rfl, fun hidle => heq.trans (congrArg _ (if_pos hidle)),
      fun hruns => heq.trans (congrArg _ (if_neg (Bool.eq_false_iff.mp hruns)))⟩
  · intro s d t e w rdy ok
    exact ⟨beginEntry_class15 s d t e w rdy ok, beginEntry_read s d t e w rdy ok, beginEntry_overrun s d t e w rdy ok,
      beginEntry_work s d t e w rdy ok⟩
  · intro s d op hjudged hover hgood hmode
    have heq := fun ready => exec_budgetCheck_judges s d op ready hjudged hover hgood hmode
    exact ⟨heq true, heq false⟩
  · intro s s1 d op c x hread hbudget hcls hover hs1 hsec hst
    exact exec_transferSlot_granted s d op c x s1 hread hbudget hcls hover hs1 hsec hst
  · intro s d ok op hop hbudget hover
    refine ⟨fun htype => ?_, fun htype => ?_⟩
    · have hresult := resultOf_inBudget s d op (fun t => decide (t = 4) || decide (t = 5)) hop (by simpa using htype) hbudget hover
      simp only [exec, execProgramResult, hresult]
    · have hresult := resultOf_inBudget s d op (fun t => decide (t = 6)) hop (by simpa using htype) hbudget hover
      simp only [exec, execEraseResult, hresult]
  · intro s h i bits c x hsec hst hclean
    have heq := fun ok => (exec_ldpcDecodeEnd_moved s h i bits ok c x hsec hst).trans (congrArg _ (if_neg (Bool.eq_false_iff.mp hclean)))
    exact ⟨heq true, heq false⟩
  · intro s h i bits ok c x hsec hst hpoison
    exact (exec_ldpcDecodeEnd_moved s h i bits ok c x hsec hst).trans (congrArg _ (if_pos hpoison))
  · intro s h i c x e hsec hst hopen hretry hreg hfirst hone
    exact exec_retryRead_oldest s h i c x e hsec hopen hst hretry hreg hfirst hone
  · intro s h i c x e hsec hst hopen hdue
    exact ⟨exec_recoveryRead_retryEntry s h i c x e hsec hopen hst hdue, exec_recoveryRead_recoveryEntry s h i c x e hsec hopen hst hdue⟩
  · intro s h i c x hsec hlevel hstage hdue
    exact exec_l3Timeout_due s h i c x hsec hlevel (by simpa [l3Waits, or_assoc] using hstage) hdue
  · intro s h i c x hsec hst htally hmode
    refine ⟨fun hpoison hlevel hreaches => ⟨_, rfl, ?_⟩, exec_tallyRebuild_bad s h i c x hsec hst htally hmode⟩
    exact exec_tallyRebuild_good s h i c x hsec hst htally hmode hpoison hlevel hreaches

end Sys2Proof.Machine
end

section
/-!
Slices and their queues, and the head of the dirty-page log (R189, R338, R339, R340, R342, R350).
-/
set_option Elab.async false

namespace Sys2Proof.Machine

/-! ## What a slice that gives way leaves (R189, R348) -/

/-- A binding is judged alike in both states: the member's account, and the loaded image with its limit entries. -/
def SameBinding (m : Nat) (s t : State) : Prop := t.acct m = s.acct m ∧ t.boot = s.boot

theorem limitEntry_of_boot {s t : State} (h : t.boot = s.boot) (m : Nat) : t.limitEntry m = s.limitEntry m := by
  rw [State.limitEntry, State.limitEntry, h]

/-- Slice `k` gives way to an enable of this tick with the same PASID: it is off again, and its member is unbound (R189, R348). -/
def State.sliceYield (s : State) (pasid k : Nat) : State :=
  if s.holdsPasid k pasid && decide ((s.acct (sliceMember k)).boundAt = some s.ldg.tick) then
    let s1 := (s.setAcct (sliceMember k) {}).raise .actCause 5
    s1.setReg (sliceReg k) (setField (setField (s1.reg (sliceReg k)) 20 1 0) 25 2 0)
  else s

theorem pasidYield_eq_foldl (s : State) (n pasid : Nat) :
    s.pasidYield n pasid = (upFrom (n + 1) (63 - n)).foldl (fun t k => t.sliceYield pasid k) s := rfl

/-- A slice that gives way changes no other slice's account. -/
theorem sameBinding_sliceYield (s : State) (pasid : Nat) {n k : Nat} (h : n < k) :
    SameBinding (sliceMember n) s (s.sliceYield pasid k) := by
  have hother : sliceMember n ≠ sliceMember k := fun heq => absurd (Nat.add_left_cancel heq) (Nat.ne_of_lt h)
  have hhost := (raise_mode_host (s.setAcct (sliceMember k) {}) .actCause 5).2
  rw [State.sliceYield]
  split
  · refine ⟨?_, raise_boot (s.setAcct (sliceMember k) {}) .actCause 5⟩
    calc cget {} ((s.setAcct (sliceMember k) {}).raise .actCause 5).host.accts (sliceMember n)
        = cget {} (cset {} s.host.accts (sliceMember k) {}) (sliceMember n) := by rw [hhost]; rfl
      _ = s.acct (sliceMember n) := cget_cset_other _ _ _ hother
  · exact ⟨rfl, rfl⟩

theorem lt_of_mem_upFrom {a k : Nat} : ∀ {lo n : Nat}, a < lo → k ∈ upFrom lo n → a < k
  | _, 0, _, hmem => absurd hmem List.not_mem_nil
  | _, _ + 1, hlo, hmem => by
    rcases List.mem_cons.mp hmem with rfl | hmem
    · exact hlo
    · exact lt_of_mem_upFrom (Nat.lt_succ_of_lt hlo) hmem

/-- The slices that give way to slice `n` leave its account and the image (R189). -/
theorem sameBinding_pasidYield (s : State) (n pasid : Nat) : SameBinding (sliceMember n) s (s.pasidYield n pasid) := by
  have hlater : ∀ k ∈ upFrom (n + 1) (63 - n), n < k := fun k => lt_of_mem_upFrom (Nat.lt_succ_self n)
  rw [pasidYield_eq_foldl]
  generalize upFrom (n + 1) (63 - n) = l at hlater
  induction l generalizing s with
  | nil => exact ⟨rfl, rfl⟩
  | cons k l ih =>
    obtain ⟨hacct, hboot⟩ := sameBinding_sliceYield s pasid (hlater k List.mem_cons_self)
    obtain ⟨hrest, hkept⟩ := ih (s.sliceYield pasid k) (fun j hj => hlater j (List.mem_cons_of_mem k hj))
    exact ⟨hrest.trans hacct, hkept.trans hboot⟩

/-! ## Enabling and disabling a slice (R338, R340, R350) -/

/-- The state in which an enable is judged: later slices have given way, and PASID and CLASS are kept (R189, R350). -/
def State.sliceAsked (s : State) (n : Nat) (v : BitVec 32) : State :=
  let y := if s.host.pasidEnable then s.pasidYield n (getField v 0 20) else s
  y.setReg (sliceReg n) (setField (setField (y.reg (sliceReg n)) 0 20 (getField v 0 20)) 21 4 (getField v 21 4))

theorem sameBinding_sliceAsked (s : State) (n : Nat) (v : BitVec 32) : SameBinding (sliceMember n) s (s.sliceAsked n v) := by
  rw [State.sliceAsked]
  split
  · exact sameBinding_pasidYield s n (getField v 0 20)
  · exact ⟨rfl, rfl⟩

/-- The slice's enable conflicts: PASID Enable is off, another slice holds the PASID, or the member is bound (R338, log entry 55). -/
def State.sliceConflicts (t : State) (n : Nat) (v : BitVec 32) (p : Bool) : Bool :=
  !p || t.pasidHeld n (getField v 0 20) || (t.acct (sliceMember n)).binding.isSome

section
variable (s : State) (who : Requester) (n : Nat) (v : BitVec 32) (p : Bool) (s0 t : State) (hn : n < 64)
  (hs0 : s0 = { s with host := { s.host with pasidEnable := p } }) (hmay : s0.mayWrite who (sliceReg n) = true)
  (hset : bitOf v 20 = true) (hclear : bitOf (s.reg (sliceReg n)) 20 = false) (ht : t = s0.sliceAsked n v)
include hn hs0 hmay hset hclear ht

/-- An enable of a slice that is off raises PASID_CONFLICT, or is decided by the member's limit entry (R338, R350). -/
theorem exec_sliceEnable_asked : exec (.sliceEnable who n v p) s = .next (if t.sliceConflicts n v p then t.raise .actCause 5
    else match t.limitEntry (sliceMember n) with
      | none => t.bindResult (sliceMember n) 2
      | some h =>
        if t.sliceCheck (sliceMember n) (sliceEntry h (getField v 21 4)) ≠ 0 then
          t.bindResult (sliceMember n) (t.sliceCheck (sliceMember n) (sliceEntry h (getField v 21 4)))
        else ((t.bindResult (sliceMember n) 0).bindNow (sliceMember n) (sliceEntry h (getField v 21 4))).setReg (sliceReg n)
          (setField (setField (t.reg (sliceReg n)) 20 1 1) 25 2 1)) := by
  subst hs0 ht
  obtain ⟨hacct, hboot⟩ := sameBinding_sliceAsked ({ s with host := { s.host with pasidEnable := p } } : State) n v
  have hoff : bitOf (({ s with host := { s.host with pasidEnable := p } } : State).reg (sliceReg n)) 20 = false := hclear
  have hasks : ¬(decide (64 ≤ n) ||
      !({ s with host := { s.host with pasidEnable := p } } : State).mayWrite who (sliceReg n) || !bitOf v 20 ||
      bitOf (({ s with host := { s.host with pasidEnable := p } } : State).reg (sliceReg n)) 20) = true := by
    rw [hmay, hset, hoff, decide_eq_false (Nat.not_le.mpr hn)]
    exact Bool.false_ne_true
  rw [State.sliceConflicts, hacct, limitEntry_of_boot hboot]
  exact congrArg Host.Outcome.next (if_neg hasks)

theorem exec_sliceEnable_conflict (hconflict : t.sliceConflicts n v p = true) :
    exec (.sliceEnable who n v p) s = .next (t.raise .actCause 5) := by
  rw [exec_sliceEnable_asked s who n v p s0 t hn hs0 hmay hset hclear ht, if_pos hconflict]

/-- Without a conflict the first check that fails is answered and binds nothing; where none fails the member is bound (R338, R350). -/
theorem exec_sliceEnable_judged (h : LimitEntry) (hfree : t.sliceConflicts n v p = false) (hentry : t.limitEntry (sliceMember n) = some h) :
    exec (.sliceEnable who n v p) s = .next (
      if t.sliceCheck (sliceMember n) (sliceEntry h (getField v 21 4)) ≠ 0 then
        t.bindResult (sliceMember n) (t.sliceCheck (sliceMember n) (sliceEntry h (getField v 21 4)))
      else ((t.bindResult (sliceMember n) 0).bindNow (sliceMember n) (sliceEntry h (getField v 21 4))).setReg (sliceReg n)
        (setField (setField (t.reg (sliceReg n)) 20 1 1) 25 2 1)) := by
  rw [exec_sliceEnable_asked s who n v p s0 t hn hs0 hmay hset hclear ht, if_neg (Bool.eq_false_iff.mp hfree)]
  simp only [hentry]

end

/-- Disabling an enabled slice that is not quiesced begins its quiesce (R340). -/
theorem exec_sliceDisable_active (s : State) (who : Requester) (n : Nat) (hn : n < 64) (hmay : s.mayWrite who (sliceReg n) = true)
    (hon : bitOf (s.reg (sliceReg n)) 20 = true) (hactive : ((s.setFld (sliceReg n) 20 1 0).acct (sliceMember n)).quiesced = false) :
    exec (.sliceDisable who n) s = .next ((((s.setFld (sliceReg n) 20 1 0).quiesceMember (sliceMember n) false).setFld
      (sliceReg n) 25 2 2).kick) :=
  congrArg Host.Outcome.next ((if_neg (by simp [hn, hmay, hon])).trans (if_neg (Bool.eq_false_iff.mp hactive)))

/-! ## Queues of a slice (R339) -/

/-- ACT_QSLICE with its writable bits taken and REFUSED kept (R350). -/
def State.qsliceWritten (s : State) (v : BitVec 32) : State :=
  s.setReg Reg.actQslice (setField (v &&& 0x1FFFFF#32) 22 1 (s.fld Reg.actQslice 22 1))

section
variable (s : State) (who : Requester) (v : BitVec 32) (hmay : s.mayWrite who Reg.actQslice = true)
include hmay

theorem exec_qsliceApply_kept (happly : bitOf v 21 = false) : exec (.qsliceApply who v) s = .next (s.qsliceWritten v) :=
  congrArg Host.Outcome.next ((if_neg (by simp [hmay])).trans (if_pos (by simp [happly])))

theorem exec_qsliceApply_unknown (happly : bitOf v 21 = true) (hqueue : ofind s.host.queues (getField v 0 14) = none) :
    exec (.qsliceApply who v) s = .next ((s.qsliceWritten v).setFld Reg.actQslice 22 1 1) := by
  refine congrArg Host.Outcome.next ((if_neg (by simp [hmay])).trans ((if_neg (by simp [happly])).trans ?_))
  simp only [hqueue]
  rfl

/-- An idle queue of the PF goes to the slice that the write names, or back to account 0 (R339). -/
theorem exec_qsliceApply_idle (q : IoQueue) (happly : bitOf v 21 = true) (hqueue : ofind s.host.queues (getField v 0 14) = some q)
    (hpf : q.func = 0) (hidle : ∀ e ∈ s.host.cmds, e.2.net = true ∨ e.2.queue ≠ getField v 0 14) :
    exec (.qsliceApply who v) s = .next (((s.qsliceWritten v).setQueue (getField v 0 14)
      { q with slice := if bitOf v 20 then some (getField v 14 6) else none }).setFld Reg.actQslice 22 1 0) := by
  have hnone : s.host.cmds.any (fun e => !e.2.net && decide (e.2.queue = getField v 0 14)) = false :=
    List.any_eq_false.mpr fun e he => by
      rcases hidle e he with hnet | hother
      · simp [hnet]
      · simp [hother]
  refine congrArg Host.Outcome.next ((if_neg (by simp [hmay])).trans ((if_neg (by simp [happly])).trans ?_))
  simp only [hqueue, hnone, hpf]
  rfl

end

/-! ## The dirty-page log (R342) -/

theorem exec_dlogHeadWrite_taken (s : State) (who : Requester) (v : BitVec 32) (hmay : s.mayWrite who Reg.actDlogHead = true) :
    exec (.dlogHeadWrite who v) s = .next (s.setReg Reg.actDlogHead (v &&& 0xFFFFFF#32)) :=
  congrArg Host.Outcome.next (if_pos hmay)

/-- Settles O37: an enable's decision in the state that asks it, and the equations of the other writes. -/
theorem slicesAndLog : Obligations.SlicesAndLog := by
  refine ⟨?_, exec_sliceDisable_active, ?_, exec_dlogHeadWrite_taken⟩
  · rintro s who n v p h s0 y s1 hn hs0 hmay hset hclear rfl hs1
    have ht : s1 = s0.sliceAsked n v := by rw [hs1, State.sliceAsked, hs0]
    refine ⟨fun hconflict => ?_, fun hon hfree hunbound hentry => ?_⟩
    · exact exec_sliceEnable_conflict s who n v p s0 s1 hn hs0 hmay hset hclear ht
        (by simpa [State.sliceConflicts, or_assoc] using hconflict)
    · have heq := exec_sliceEnable_judged s who n v p s0 s1 hn hs0 hmay hset hclear ht h
        (by simp [State.sliceConflicts, hon, hfree, hunbound]) hentry
      exact ⟨fun hpass => heq.trans (congrArg _ (if_neg (not_not_intro hpass))), fun hfail => heq.trans (congrArg _ (if_pos hfail))⟩
  · rintro s who v s1 hmay rfl
    exact ⟨exec_qsliceApply_kept s who v hmay, exec_qsliceApply_unknown s who v hmay, exec_qsliceApply_idle s who v hmay⟩

end Sys2Proof.Machine
end

section
/-!
The PF's vendor commands: plans, accounts, mediation, keys, restarts and the Reserve (R182, R320, R330, R332, R336, R337, R343, R345, R402,
R448, R540).
-/
set_option Elab.async false

namespace Sys2Proof.Machine

/-! ## Plans (R182) -/

theorem exec_planReqWrite_taken (s : State) (who : Requester) (w : BitVec 32) (hmay : s.mayWrite who Reg.ldgPlanReq = true) :
    exec (.planReqWrite who w) s = .next (s.planRequest (getField w 0 2) (getField w 2 2)) :=
  congrArg Host.Outcome.next (if_pos hmay)

section
variable (s : State) (cid : Nat) (hserved : s.adminServed 0 = true)
include hserved

theorem exec_planSelect_waits (p l : Nat) : exec (.planSelect ⟨.host 0 cid, true⟩ p l) s =
    .next (((s.keepAlive 0).planRequest (p % 4) (l % 4)).awaitPlan (.host 0 cid)) :=
  congrArg Host.Outcome.next (adminRun_served s 0 cid pfOnly false false _ hserved rfl)

/-! ## Accounts (R330, R332, R343, R345) -/

theorem exec_accountQuiesce_unbound (n : Nat) (hunbound : ((s.keepAlive 0).acct n).binding = none) :
    exec (.accountQuiesce ⟨.host 0 cid, true⟩ n) s = .next ((s.keepAlive 0).reply (.host 0 cid) stSequenceError 0) :=
  congrArg Host.Outcome.next ((adminRun_served s 0 cid pfOnly false false _ hserved rfl).trans (if_pos (by simp [hunbound])))

section
variable (n : Nat) (hbound : ((s.keepAlive 0).acct n).binding.isSome = true)
include hbound

theorem exec_accountQuiesce_quiesced (hdone : ((s.keepAlive 0).acct n).quiesced = true) (hidle : ((s.keepAlive 0).acct n).quiesce = none) :
    exec (.accountQuiesce ⟨.host 0 cid, true⟩ n) s = .next ((s.keepAlive 0).reply (.host 0 cid) stOk 0) :=
  congrArg Host.Outcome.next ((adminRun_served s 0 cid pfOnly false false _ hserved rfl).trans
    ((if_neg (by simpa [Option.isSome_iff_ne_none] using hbound)).trans (if_pos (by simp [hdone, hidle]))))

/-- A Quiesce of an account that is being quiesced joins those that wait for its end (R343). -/
theorem exec_accountQuiesce_joins (q : Quiesce) (hopen : ((s.keepAlive 0).acct n).quiesced = false)
    (hrunning : ((s.keepAlive 0).acct n).quiesce = some q) :
    exec (.accountQuiesce ⟨.host 0 cid, true⟩ n) s = .next (((s.keepAlive 0).setAcct n { (s.keepAlive 0).acct n with
      quiesce := some { q with waiters := q.waiters ++ [cid] } }).kick) := by
  refine congrArg Host.Outcome.next ((adminRun_served s 0 cid pfOnly false false _ hserved rfl).trans
    ((if_neg (by simpa [Option.isSome_iff_ne_none] using hbound)).trans ((if_neg (by simp [hopen])).trans ?_)))
  simp only [hrunning, Option.isSome_some, if_true]

end

theorem exec_accountResume_quiesced (n : Nat) (hdone : ((s.keepAlive 0).acct n).quiesced = true)
    (hidle : ((s.keepAlive 0).acct n).quiesce = none) : exec (.accountResume ⟨.host 0 cid, true⟩ n) s =
      .next (((((s.keepAlive 0).quiesceGroup n).foldl (fun (t : State) m => t.resumeMember m) (s.keepAlive 0)).kick).reply
        (.host 0 cid) stOk 0) :=
  congrArg Host.Outcome.next ((adminRun_served s 0 cid pfOnly false false _ hserved rfl).trans (if_pos (by simp [hdone, hidle])))

/-- Account Bind records that every check passed, and binds or changes (R332). -/
theorem exec_accountBind_passes (n : Nat) (e : AccountEntry) (hpass : (s.keepAlive 0).bindCheck n e = 0) (hbound : e.bound = true) :
    exec (.accountBind ⟨.host 0 cid, true⟩ n e) s =
      .next (((((s.keepAlive 0).bindResult n 0).bindNow n e).kick).reply (.host 0 cid) stOk 0) := by
  refine congrArg Host.Outcome.next ((adminRun_served s 0 cid pfOnly false false _ hserved rfl).trans ?_)
  simp only [hpass, hbound, ne_eq, not_true_eq_false, if_false, if_true]

/-- Account Bind records the first check that fails, and binds nothing (R332). -/
theorem exec_accountBind_fails (n : Nat) (e : AccountEntry) (hfail : (s.keepAlive 0).bindCheck n e ≠ 0) :
    exec (.accountBind ⟨.host 0 cid, true⟩ n e) s =
      .next (((s.keepAlive 0).bindResult n ((s.keepAlive 0).bindCheck n e)).reply (.host 0 cid) stBindingRefused 0) :=
  congrArg Host.Outcome.next ((adminRun_served s 0 cid pfOnly false false _ hserved rfl).trans (if_pos hfail))

theorem exec_accountQuery_returns (n : Nat) : exec (.accountQuery ⟨.host 0 cid, true⟩ n) s =
    .next ((s.keepAlive 0).replyData (.host 0 cid) stOk 0 ((s.keepAlive 0).accountBytes n)) :=
  congrArg Host.Outcome.next (adminRun_served s 0 cid pfOnly true false _ hserved rfl)

/-! ## Mediation (R336, R337) -/

/-- A denial drops the request and answers the VF that sent it (R337). -/
theorem exec_mediationReply_denies (tag : Nat) (r : MedReq) (hpending : ofind (s.keepAlive 0).host.mediation (tag % 8192) = some r)
    (htag : r.tag = tag) : exec (.mediationReply ⟨.host 0 cid, true⟩ tag false) s =
      .next ((({ s.keepAlive 0 with host := { (s.keepAlive 0).host with
        mediation := odel (s.keepAlive 0).host.mediation (tag % 8192) } } : State).reply
          (.host r.account r.sqe.cid) stOperationDenied 0).reply (.host 0 cid) stOk 0) := by
  refine congrArg Host.Outcome.next ((adminRun_served s 0 cid pfOnly false false _ hserved rfl).trans ?_)
  simp only [hpending]
  exact if_neg (not_not_intro htag)

theorem exec_mediationReceive_none (hnone : (s.keepAlive 0).oldestRequest = none) :
    exec (.mediationReceive ⟨.host 0 cid, true⟩) s = .next ((s.keepAlive 0).reply (.host 0 cid) stOk 0xFFFFFFFF) := by
  refine congrArg Host.Outcome.next ((adminRun_served s 0 cid pfOnly false false _ hserved rfl).trans ?_)
  simp only [hnone]

theorem exec_mediationReceive_oldest (n : Nat) (r : MedReq) (hsome : (s.keepAlive 0).oldestRequest = some (n, r)) :
    exec (.mediationReceive ⟨.host 0 cid, true⟩) s = .next (({ s.keepAlive 0 with host := { (s.keepAlive 0).host with
      mediation := oput (s.keepAlive 0).host.mediation n { r with received := true } } } : State).replyData
        (.host 0 cid) stOk r.tag (medBytes r)) := by
  refine congrArg Host.Outcome.next ((adminRun_served s 0 cid pfOnly false false _ hserved rfl).trans ?_)
  simp only [hsome]

/-! ## Restart and Maintenance Request (R540), and Reserve Status (R402) -/

/-- A Restart runs where no check of the PF's path fails (R540). -/
theorem exec_restart_checked (bs : List Byte) : exec (.restart ⟨.host 0 cid, true⟩ bs) s = .next (
    let r := (s.keepAlive 0).authorise .pf 1 (readAuth bs)
    if r.1 = 0 then r.2.restartNow (.host 0 cid) .restart .restart else r.2.authReply (.host 0 cid) r.1) :=
  congrArg Host.Outcome.next ((adminRun_served s 0 cid pfOnly true true _ hserved rfl).trans (ite_not _ _ _))

theorem exec_maintenanceRequest_checked (bs : List Byte) : exec (.maintenanceRequest ⟨.host 0 cid, true⟩ bs) s = .next (
    let r := (s.keepAlive 0).authorise .pf 2 (readAuth bs)
    if r.1 = 0 then r.2.restartNow (.host 0 cid) .maintenance .management else r.2.authReply (.host 0 cid) r.1) :=
  congrArg Host.Outcome.next ((adminRun_served s 0 cid pfOnly true true _ hserved rfl).trans (ite_not _ _ _))

theorem exec_reserveStatus_returns : exec (.reserveStatus ⟨.host 0 cid, true⟩) s =
    .next ((s.keepAlive 0).replyData (.host 0 cid) stOk 0 (s.keepAlive 0).reserveBytes) :=
  congrArg Host.Outcome.next (adminRun_served s 0 cid pfOnly true false _ hserved rfl)

end

/-! ## Keys (R448) -/

section
variable (s : State) (f cid slot : Nat) (k : KeyLoadData) (hserved : s.adminServed f = true)
include hserved

theorem exec_keyLoad_taken (x : KeySlot) (hload : (s.keepAlive f).keyLoad f slot k = .ok x) :
    exec (.keyLoad ⟨.host f cid, true⟩ slot k) s = .next (((s.keepAlive f).setSlot slot x).reply (.host f cid) stOk 0) := by
  refine congrArg Host.Outcome.next ((adminRun_served s f cid anyFunc false false _ hserved rfl).trans ?_)
  simp only [viaFunc, hload]

/-- A load that fails a check is answered with the check's status, and a failed unwrap is raised (R448). -/
theorem exec_keyLoad_fails (t : Status) (hload : (s.keepAlive f).keyLoad f slot k = .error t) :
    exec (.keyLoad ⟨.host f cid, true⟩ slot k) s = .next ((if t = stUnwrapFailed then (s.keepAlive f).raise .cryCause 0
      else s.keepAlive f).reply (.host f cid) t 0) := by
  refine congrArg Host.Outcome.next ((adminRun_served s f cid anyFunc false false _ hserved rfl).trans ?_)
  simp only [viaFunc, hload]

end

/-- Settles O55: each vendor command's equation on the controller that serves it. -/
theorem vendorAdmin : Obligations.VendorAdmin := by
  refine ⟨?_, ?_, exec_planReqWrite_taken⟩
  · rintro s u cid v a hserved rfl rfl rfl
    refine ⟨exec_planSelect_waits s cid hserved, exec_accountQuiesce_unbound s cid hserved, fun n hbound hdone hidle => ?_,
      fun n q hbound => exec_accountQuiesce_joins s cid hserved n hbound q, exec_accountBind_passes s cid hserved,
      exec_accountBind_fails s cid hserved, exec_accountQuery_returns s cid hserved, exec_mediationReply_denies s cid hserved,
      exec_mediationReceive_none s cid hserved, exec_mediationReceive_oldest s cid hserved, ?_, exec_reserveStatus_returns s cid hserved⟩
    · exact ⟨exec_accountQuiesce_quiesced s cid hserved n hbound hdone hidle, exec_accountResume_quiesced s cid hserved n hdone hidle⟩
    · rintro bs r1 r2 rfl rfl
      exact ⟨exec_restart_checked s cid hserved bs, exec_maintenanceRequest_checked s cid hserved bs⟩
  · rintro s u f cid slot k hserved rfl
    exact ⟨exec_keyLoad_taken s f cid slot k hserved, exec_keyLoad_fails s f cid slot k hserved⟩

end Sys2Proof.Machine
end

section
/-!
Zone Management Send at its acceptance (R217 to R221, R309).
-/
set_option Elab.async false

namespace Sys2Proof.Machine

/-! ## The states that a send permits (R217 to R221, R309) -/

/-- A Close acts on open and on Closed zones (R219). -/
def mayClose : ZState → Bool := fun t => isOpen t || decide (t = .closed)

/-- A Finish that names its zone also acts on an Empty and on a Full one (R220). -/
def mayFinish (all : Bool) : ZState → Bool :=
  fun t => isOpen t || decide (t = .closed) || (!all && (decide (t = .empty) || decide (t = .full)))

/-- An Open acts on Closed zones, and on an open or an Empty one that it names (R217, R218). -/
def mayOpen (all : Bool) : ZState → Bool := fun t => decide (t = .closed) || (!all && (isOpen t || decide (t = .empty)))

/-- A Reset that names its zone also acts on an Empty one (R221). -/
def mayReset (all : Bool) : ZState → Bool :=
  fun t => isOpen t || decide (t = .closed) || decide (t = .full) || (!all && decide (t = .empty))

theorem mayFinish_selectAll : mayFinish true = fun t => isOpen t || decide (t = .closed) :=
  funext fun _ => Bool.or_false _

theorem mayOpen_selectAll : mayOpen true = fun t => decide (t = .closed) :=
  funext fun _ => Bool.or_false _

theorem mayReset_selectAll : mayReset true = fun t => isOpen t || decide (t = .closed) || decide (t = .full) :=
  funext fun _ => Bool.or_false _

/-! ## The sends at their acceptance (R217 to R221, R309) -/

section
variable {s : State} {h : Nat} {c : Cmd} {x : Ns} {all : Bool}

theorem exec_zoneClose_admitted (hsend : s.sendCmd h 1 = some (c, x, all)) (hcheck : s.sendCheck c x all mayClose = none) :
    exec (.zoneClose h) s = .next (((s.sendZones c x mayClose).foldl
      (fun (s : State) z => s.setZone z { s.zone z with state := .closed }) s).setCmd h { c with phase := .accepting }) := by
  unfold mayClose at hcheck ⊢
  simp only [exec, execZoneClose, State.zoneClose, hsend, hcheck]

theorem exec_zoneClose_refused {t : Status} (hsend : s.sendCmd h 1 = some (c, x, all))
    (hcheck : s.sendCheck c x all mayClose = some t) : exec (.zoneClose h) s = .next (s.toPost h c t) := by
  unfold mayClose at hcheck
  simp only [exec, execZoneClose, State.zoneClose, hsend, hcheck]

theorem exec_zoneFinish_admitted (hsend : s.sendCmd h 2 = some (c, x, all)) (hcheck : s.sendCheck c x all (mayFinish all) = none) :
    exec (.zoneFinish h) s =
      .next ((s.waitIn h (s.sendZones c x (mayFinish all))).setCmd h { c with phase := .accepting }) := by
  unfold mayFinish at hcheck ⊢
  simp only [exec, execZoneFinish, State.zoneFinish, hsend, hcheck]

theorem exec_zoneReset_admitted (hsend : s.sendCmd h 4 = some (c, x, all)) (hcheck : s.sendCheck c x all (mayReset all) = none) :
    exec (.zoneReset h) s =
      .next ((s.waitIn h (s.sendZones c x (mayReset all))).setCmd h { c with phase := .accepting }) := by
  unfold mayReset at hcheck ⊢
  simp only [exec, execZoneReset, State.zoneReset, hsend, hcheck]

theorem exec_zoneOffline_admitted (hsend : s.sendCmd h 5 = some (c, x, all))
    (hcheck : s.sendCheck c x all (fun t => decide (t = .readOnly)) = none) :
    exec (.zoneOffline h) s = .next (((s.sendZones c x (fun t => decide (t = .readOnly))).foldl
      (fun (s : State) z => s.setZone z { s.zone z with state := .offline, holder := false }) s).setCmd h
        { c with phase := .accepting }) := by
  simp only [exec, execZoneOffline, State.zoneOffline, hsend, hcheck]

theorem exec_setZoneDescriptorExtension_sent (hsend : s.sendCmd h 0x10 = some (c, x, all)) :
    exec (.setZoneDescriptorExtension h) s = .next (s.toPost h c stInvalidField) := by
  simp only [exec, execSetZoneDescriptorExtension, hsend]

end

/-! ## Zone Open (R217, R218) -/

/-- One zone of an Open: made active for the command's account where it is not, its class fixed while it holds no data (R217, R218). -/
def State.openZone (c : Cmd) (s : State) (z : Nat) : State :=
  let y := s.zone z
  let w := if y.active then y else activate c.account y
  s.setZone z { w with state := .explicitOpen, lclass := if y.wp = 0 then fixClass y (hintOf c.sqe) false else y.lclass }

/-- An active zone that holds data changes its state alone. -/
theorem openZone_active (c : Cmd) (s : State) {z : Nat} (hactive : (s.zone z).active = true) (hwp : (s.zone z).wp ≠ 0) :
    s.openZone c z = s.setZone z { s.zone z with state := .explicitOpen } := by
  simp only [State.openZone, hactive, hwp, if_true, if_false]

/-- An Open that names no Empty zone asks for no activation, and opens its zones one after the other. -/
theorem exec_zoneOpen_admitted {s : State} {h : Nat} {c : Cmd} {x : Ns} {all : Bool} (hsend : s.sendCmd h 3 = some (c, x, all))
    (hcheck : s.sendCheck c x all (mayOpen all) = none) (hheld : ∀ z, c.zone = some z → (s.zone z).state ≠ .empty) :
    exec (.zoneOpen h) s =
      .next (((s.sendZones c x (mayOpen all)).foldl (State.openZone c) s).setCmd h { c with phase := .accepting }) := by
  unfold mayOpen at hcheck ⊢
  simp only [exec, execZoneOpen, State.zoneOpen, hsend, hcheck]
  cases hzone : c.zone with
  | none => rfl
  | some z =>
    simp only [if_neg (hheld z hzone)]
    rfl

/-- Settles O28: the equations above, with Select All's states where the statement names them. -/
theorem zoneSends : Obligations.ZoneSends := by
  refine ⟨fun s h c x all => exec_zoneClose_admitted, fun s h c x all t => exec_zoneClose_refused, ?_, ?_, ?_, ?_,
    fun s h c x all => exec_zoneOffline_admitted, fun s h c x all => exec_setZoneDescriptorExtension_sent⟩
  · intro s h c x hsend
    rw [← mayFinish_selectAll]
    exact exec_zoneFinish_admitted hsend
  · intro s h c x hsend hzone
    rw [← mayOpen_selectAll]
    intro hcheck hnone
    rw [exec_zoneOpen_admitted hsend hcheck (by simp [hzone]), hnone, List.foldl_nil]
  · intro s h z c x hsend hzone hclosed hactive hwp hcheck hone
    have heq := exec_zoneOpen_admitted hsend hcheck (by simp [hzone, hclosed])
    rw [heq, show s.sendZones c x (mayOpen false) = [z] from hone, List.foldl_cons, List.foldl_nil, openZone_active c s hactive hwp]
  · intro s h c x hsend
    rw [← mayReset_selectAll]
    exact exec_zoneReset_admitted hsend

end Sys2Proof.Machine
end

section
/-!
Blocks: the ends of their verifications, the age that marks one for refresh, and the zone query registers (R246, R257, R259, R270, R278,
R279).
-/
set_option Elab.async false

namespace Sys2Proof.Machine

/-! ## The verification of a block that no move copies (R257, R270) -/

section
variable (s : State) (d b : Nat) (hcopy : s.copyMove d b = none) (hfull : (s.block d b).state = .full)
  (hstays : (s.block d b).leaving = false) (hreads : 0 < (s.block d b).vreads)
include hcopy hfull hstays hreads

/-- With all its reads made the block is VERIFIED, which may release the Tally of the zone that holds it. -/
theorem exec_blockVerifyDone_verified (hall : s.verifyReads d b (s.block d b).pages ≤ (s.block d b).vreads) :
    exec (.blockVerifyDone d b true) s = .next ((s.block d b).zone.elim (s.setBlock d b { s.block d b with state := .verified })
      (s.setBlock d b { s.block d b with state := .verified }).tallyRelease) := by
  simp only [exec, execBlockVerifyDone, hcopy, hfull, hstays, Nat.not_lt.mpr hall, Nat.ne_of_gt hreads, ne_eq, not_true_eq_false,
    decide_false, Bool.and_false, Bool.or_self, Bool.false_eq_true, if_false, if_true]
  cases (s.block d b).zone <;> rfl

/-- A failed verification raises VERIFY_FAIL and moves and retires the block (R270). -/
theorem exec_blockVerifyDone_fails :
    exec (.blockVerifyDone d b false) s = .next ((s.raise .integCause 2).moveAndRetire d b 3) := by
  simp only [exec, execBlockVerifyDone, hcopy, hfull, hstays, Nat.ne_of_gt hreads, ne_eq, not_true_eq_false,
    decide_false, Bool.false_and, Bool.or_self, Bool.false_eq_true, if_false]

end

/-! ## The verification of a move's destination (R278, R279) -/

section
variable (s : State) (d b mv : Nat) (m : Move) (hcopy : s.copyMove d b = some (mv, m)) (hfold : m.kind ≠ .fold)
  (hevac : m.kind ≠ .evacuation) (hreads : 0 < m.vreads)
include hcopy hfold hevac hreads

theorem exec_blockVerifyDone_copied (hverified : s.moveVerifies m = false) :
    exec (.blockVerifyDone d b true) s = .next (s.setMove mv { m with step := 2 }) := by
  simp only [exec, execBlockVerifyDone, hcopy, hfold, hevac, hverified, Nat.ne_of_gt hreads, decide_false, Bool.and_false,
    Bool.or_self, Bool.false_eq_true, if_false, if_true]

theorem exec_blockVerifyDone_restarts :
    exec (.blockVerifyDone d b false) s = .next ((s.raise .integCause 2).moveFailed mv 3) := by
  simp only [exec, execBlockVerifyDone, hcopy, hfold, hevac, Nat.ne_of_gt hreads, decide_false, Bool.false_and,
    Bool.or_self, Bool.false_eq_true, if_false]

end

/-! ## Retention (R259) -/

/-- The mark depends on the block's age alone where it is FULL or VERIFIED and has a band. -/
theorem exec_retentionRefreshDue_band (s : State) (d b : Nat) (v : VerifyBand) (hband : s.band (s.block d b).erases = some v)
    (hstate : (s.block d b).state = .full ∨ (s.block d b).state = .verified) :
    exec (.retentionRefreshDue d b) s =
      .next (if (s.block d b).programmed + v.retentionDays * dayTicks ≤ s.pwr.time then
        s.setBlock d b { s.block d b with retention := true } else s) := by
  have hholds : (decide ((s.block d b).state = .full) || decide ((s.block d b).state = .verified)) = true := by simpa using hstate
  simp only [exec, execRetentionRefreshDue, hband, hholds, Bool.true_and, decide_eq_true_eq]

/-! ## The zone query registers (R246) -/

/-- The five query registers, loaded in one step. -/
def State.queryLoaded (s : State) (sel state finish slot slc : Word) : State :=
  ((((s.setReg Reg.medZqSel sel).setReg Reg.medZqState state).setReg Reg.medZqFinish finish).setReg Reg.medZqSlot slot).setReg
    Reg.medZqSlc slc

section
variable (s : State) (sel state finish slot slc : Word)

@[simp] theorem queryLoaded_med : (s.queryLoaded sel state finish slot slc).med = s.med := rfl

@[simp] theorem queryLoaded_sel : (s.queryLoaded sel state finish slot slc).reg Reg.medZqSel = sel := by
  rw [State.queryLoaded, reg_setReg_other _ _ (by decide), reg_setReg_other _ _ (by decide), reg_setReg_other _ _ (by decide),
    reg_setReg_other _ _ (by decide), reg_setReg_same]

@[simp] theorem queryLoaded_state : (s.queryLoaded sel state finish slot slc).reg Reg.medZqState = state := by
  rw [State.queryLoaded, reg_setReg_other _ _ (by decide), reg_setReg_other _ _ (by decide), reg_setReg_other _ _ (by decide),
    reg_setReg_same]

@[simp] theorem queryLoaded_finish : (s.queryLoaded sel state finish slot slc).reg Reg.medZqFinish = finish := by
  rw [State.queryLoaded, reg_setReg_other _ _ (by decide), reg_setReg_other _ _ (by decide), reg_setReg_same]

end

theorem zstateCode_lt (t : ZState) : zstateCode t < 16 := by cases t <;> decide

/-- A word put together by arithmetic, as the model loads a register, is read back at its lowest field. -/
theorem getField_ofNat_low (n v k width : Nat) (hw : width ≤ n) (hv : v < 2 ^ width) :
    getField (BitVec.ofNat n (v + 2 ^ width * k)) 0 width = v := by
  rw [getField, BitVec.toNat_ofNat, Nat.pow_zero, Nat.div_one, Nat.mod_mod_of_dvd _ (Nat.pow_dvd_pow 2 hw), Nat.add_mul_mod_self_left,
    Nat.mod_eq_of_lt hv]

/-- One tick loads all five registers (R246); what stands in the state register above the zone's state is some `k`. -/
theorem exec_medZqSelWrite_loads (s : State) (who : Requester) (v : BitVec 32) (hmay : s.mayWrite who Reg.medZqSel = true) :
    ∃ k slot slc, exec (.medZqSelWrite who v) s = .next (s.queryLoaded
      (BitVec.ofNat 32 (getField v 0 18 + 2 ^ 18 * getField v 18 4 + 2 ^ 31))
      (BitVec.ofNat 32 (zstateCode (s.zone (getField v 0 18)).state + 2 ^ 4 * k))
      (BitVec.ofNat 32 (s.zone (getField v 0 18)).finish) slot slc) := by
  have hfactor (code a b w : Nat) : code + 2 ^ 4 * a + 2 ^ 7 * b + 2 ^ 8 * w = code + 2 ^ 4 * (a + 2 ^ 3 * b + 2 ^ 4 * w) := by omega
  simp only [exec, execMedZqSelWrite, hmay, Bool.not_true, Bool.false_eq_true, if_false]
  rw [hfactor]
  exact ⟨_, _, _, rfl⟩

/-- Settles O35: the equations above; of a load the statement reads three registers. -/
theorem blockChecks : Obligations.BlockChecks := by
  refine ⟨?_, ?_, ?_, ?_⟩
  · intro s d b hcopy hfull hstays hreads
    refine ⟨fun hall => ?_, exec_blockVerifyDone_fails s d b hcopy hfull hstays hreads⟩
    have heq := exec_blockVerifyDone_verified s d b hcopy hfull hstays hreads hall
    exact ⟨fun hzone => by rw [heq, hzone, Option.elim_none], fun z hzone => by rw [heq, hzone, Option.elim_some]⟩
  · intro s d b mv m hcopy hfold hevac hreads
    exact ⟨exec_blockVerifyDone_copied s d b mv m hcopy hfold hevac hreads,
      exec_blockVerifyDone_restarts s d b mv m hcopy hfold hevac hreads⟩
  · intro s d b v hband hstate
    have heq := exec_retentionRefreshDue_band s d b v hband hstate
    exact ⟨fun hold => by rw [heq, if_pos hold], fun hyoung => by rw [heq, if_neg (Nat.not_le.mpr hyoung)]⟩
  · intro s who v hmay
    obtain ⟨k, slot, slc, heq⟩ := exec_medZqSelWrite_loads s who v hmay
    refine ⟨_, heq, queryLoaded_sel .., ?_, queryLoaded_finish .., queryLoaded_med ..⟩
    rw [State.fld, queryLoaded_state]
    exact getField_ofNat_low 32 _ k 4 (by decide) (zstateCode_lt _)

end Sys2Proof.Machine
end

section
/-!
Settlement messages, spill programs and metadata copies of the Day Book (R384, R391, R392), and the end of a move: its commit and the erase
of its source (R276, R277, R278).
-/
set_option Elab.async false

namespace Sys2Proof.Machine

/-! ## Day Book records (R384, R391, R392) -/

/-- The message that arrived first is applied to its record, if that record is secured (R384). -/
theorem exec_settlementMessage_first (s : State) (q n : Nat) (ms : List (Nat × Nat)) (hmsgs : s.host.msgs = (q, n) :: ms) :
    exec .settlementMessage s = .next ((({ s with host := { s.host with msgs := ms } } : State).modRec q (fun r =>
      if r.state = .secured then
        { r with pending := r.pending - n, state := if r.pending ≤ n then .settled else r.state } else r)).kick) := by
  simp only [exec, execSettlementMessage, hmsgs]

/-- The records that one spill program moves (R391). -/
def State.spilling (s : State) : List (Nat × Rec) := (s.db.recs.filter (fun e => spillable e.2)).take 512

/-- The spill area takes the records wherever it has room for them (R391). -/
theorem exec_spillProgram_moves (s : State) (hsome : s.spilling.isEmpty = false)
    (hroom : s.db.spill.length + s.spilling.length ≤ 524288) :
    exec .spillProgram s = .next { s with db := { s.db with
      recs := s.db.recs.filter (fun e => !(s.spilling.any (fun f => decide (f.1 = e.1)))),
      spill := s.spilling.foldl (fun m e => oput m e.1 e.2) s.db.spill } } := by
  have hguard : (s.spilling.isEmpty || decide (524288 < s.db.spill.length + s.spilling.length)) = false := by
    rw [hsome, decide_eq_false (Nat.not_lt.mpr hroom), Bool.or_self]
  exact congrArg Host.Outcome.next (if_neg (ne_true_of_eq_false hguard))

/-- A copy of the metadata up to a record made is refused only for a record that has not settled (R392). -/
theorem exec_metadataWrite_covers (s : State) (top : Nat) (hmade : top < s.db.nextSeq)
    (hsettled : ∀ e ∈ s.db.recs, e.1 ≤ top → e.2.state = .settled) :
    ∃ t, exec (.metadataWrite top) s = .next t ∧ t.med.covered = max s.med.covered top ∧
      t.db.spill = s.db.spill.filter (fun e => decide (top < e.1)) ∧ t.pwr.metaCopy.time = s.pwr.time ∧
      t.pwr.metaCopy.hours = s.pwr.hours ∧ t.pwr.metaCopy.cycles = s.pwr.cycles ∧
      t.db.recs = s.db.recs.filter (fun e => !(decide (e.1 ≤ top) && !e.2.ranges.isEmpty && (e.2.posted || e.2.undelivered))) := by
  have hopen : s.db.recs.any (fun e => decide (e.1 ≤ top) && decide (e.2.state ≠ .settled)) = false := by
    simpa using fun q r hmem hle => hsettled (q, r) hmem hle
  simp only [exec, execMetadataWrite, hopen, decide_eq_false (Nat.not_le.mpr hmade), Bool.or_self, Bool.false_eq_true, if_false]
  exact ⟨_, rfl, rfl, rfl, rfl, rfl, rfl, rfl⟩

/-- Of a secured record only its age decides whether its work is forced (R392). -/
theorem exec_staleSecuredRecord_secured (s : State) (q : Nat) (r : Rec) (hrec : s.dbRec q = some r) (hsecured : r.state = .secured) :
    exec (.staleSecuredRecord q) s =
      .next (if r.securedAt + 64 * folioTicks ≤ s.ldg.tick then s.staleWork q else s) := by
  simp only [exec, execStaleSecuredRecord, hrec, hsecured, decide_true, Bool.true_and, decide_eq_true_eq]

/-! ## The commit of a move (R276 to R278) -/

/-- A move's commit record is added already settled, and the move goes on to the erase of its source. -/
def State.moveCommitted (s : State) (mv : Nat) (m : Move) : State :=
  (s.addCommit (commitSource m.srcDie m.srcBlock 0)
    (commitTarget m.srcDie m.dstBlock (s.movePages m) (moveCode m.kind)) .settled).setMove mv { m with step := 4 }

/-- After the commit the map names the destination: for a granule's move sector by sector, for a zone's block as a whole. -/
theorem exec_mapCommitMessage_verified (s : State) (mv : Nat) (m : Move) (hmove : ofind s.med.moves mv = some m) (hstep : m.step = 2)
    (hroom : s.commits < 2048) :
    exec (.mapCommitMessage mv) s = .next (m.zone.elim ((s.moveCommitted mv m).applyGranule m)
      (fun z => ((s.moveCommitted mv m).applyBlock m z).tallyRelease z)) := by
  simp only [exec, execMapCommitMessage, hmove, hstep, Nat.not_le.mpr hroom, ne_eq, not_true_eq_false, decide_false, Bool.or_self,
    Bool.false_eq_true, if_false]
  rw [← State.moveCommitted]
  cases m.zone <;> rfl

/-! ## The erase of a move's source (R276, R277) -/

/-- An erased block is free, or retired where it is doomed. -/
def State.erased (s : State) (d b : Nat) : State :=
  (s.block d b).doom.elim (s.freeBlock d b) (s.retireBlock d b)

section
variable (s : State) (mv : Nat) (m : Move) (hmove : ofind s.med.moves mv = some m) (hstep : m.step = 4)
include hmove hstep

/-- A block that still holds other granules is left: only the move ends. -/
theorem exec_sourceErase_shared (hgranule : m.zone = none) (hheld : s.convIn m.srcDie m.srcBlock ≠ []) :
    exec (.sourceErase mv) s = .next (s.dropMove mv) := by
  have hsome : (s.convIn m.srcDie m.srcBlock).isEmpty = false := List.isEmpty_eq_false_iff.mpr hheld
  simp only [exec, execSourceErase, hmove, hstep, hgranule, hsome, ne_eq, not_true_eq_false, if_false, Option.isNone_none,
    Bool.not_false, Bool.and_self, if_true]

/-- A source without other granules is erased as soon as no operation, read or other move uses it. -/
theorem exec_sourceErase_emptied (hempty : m.zone.isSome = true ∨ s.convIn m.srcDie m.srcBlock = []) :
    exec (.sourceErase mv) s = .next (
      if s.blockInUse m.srcDie m.srcBlock || (s.blockMove m.srcDie m.srcBlock).isSome then s
      else (s.dropMove mv).erased m.srcDie m.srcBlock) := by
  have hfree : (m.zone.isNone && !(s.convIn m.srcDie m.srcBlock).isEmpty) = false := by
    obtain hzone | hnone := hempty
    · rw [← Option.not_isSome, hzone, Bool.not_true, Bool.false_and]
    · rw [hnone, List.isEmpty_nil, Bool.not_true, Bool.and_false]
  simp only [exec, execSourceErase, hmove, hstep, hfree, ne_eq, not_true_eq_false, Bool.false_eq_true, if_false, State.erased]
  cases ((s.dropMove mv).block m.srcDie m.srcBlock).doom <;> rfl

end

/-- Settles O33: the equations above, each read in the cases that the statement names. -/
theorem settlementAndRecords : Obligations.SettlementAndRecords := by
  refine ⟨exec_settlementMessage_first, ?_, exec_metadataWrite_covers, ?_, ?_, ?_⟩
  · intro s hsome hroom
    exact ⟨s.spilling, rfl, exec_spillProgram_moves s hsome hroom⟩
  · intro s q r hrec hsecured
    have heq := exec_staleSecuredRecord_secured s q r hrec hsecured
    exact ⟨fun hold => by rw [heq, if_pos hold], fun hyoung => by rw [heq, if_neg (Nat.not_le.mpr hyoung)]⟩
  · rintro s _ mv m hmove hstep hroom rfl
    have heq := exec_mapCommitMessage_verified s mv m hmove hstep hroom
    exact ⟨fun hzone => by rwa [hzone, Option.elim_none] at heq, fun z hzone => by rwa [hzone, Option.elim_some] at heq⟩
  · rintro s _ mv m hmove hstep rfl
    refine ⟨fun hempty hidle hunmoved => ?_, fun hempty hused => ?_, exec_sourceErase_shared s mv m hmove hstep⟩
    · have herased : exec (.sourceErase mv) s = .next ((s.dropMove mv).erased m.srcDie m.srcBlock) := by
        simp [exec_sourceErase_emptied s mv m hmove hstep hempty, hidle, hunmoved]
      exact ⟨fun hdoom => by rw [herased, State.erased, hdoom, Option.elim_none],
        fun c hdoom => by rw [herased, State.erased, hdoom, Option.elim_some]⟩
    · rw [exec_sourceErase_emptied s mv m hmove hstep hempty, hused, Bool.true_or, if_pos rfl]

end Sys2Proof.Machine
end

section
/-!
Plan Status (R319): the table's words in their order, and the same words to the PF and to the management path.
-/
set_option Elab.async false

namespace Sys2Proof.Machine

/-! ## Words in a table of bytes (R7) -/

@[simp] theorem leBytes_length (n v : Nat) : (leBytes n v).length = n := by
  induction n generalizing v with
  | zero => rfl
  | succ n ih => simp [leBytes, ih]

/-- Where every word has four bytes, word `n` of a table stands at byte `4 * n`. -/
theorem word_at {α : Type} (w : α → List Byte) (hw : ∀ a, (w a).length = 4) (rest : List Byte) {l : List α} {n : Nat} {a : α}
    (ha : l[n]? = some a) : ((l.flatMap w ++ rest).drop (4 * n)).take 4 = w a := by
  induction l generalizing n with
  | nil => simp at ha
  | cons b l ih =>
    rw [List.flatMap_cons, List.append_assoc]
    cases n with
    | zero =>
      obtain rfl : b = a := by simpa using ha
      rw [Nat.mul_zero, List.drop_zero, List.take_left' (hw b)]
    | succ n =>
      rw [Nat.mul_succ, Nat.add_comm, ← List.drop_drop, List.drop_left' (hw b)]
      exact ih (by simpa using ha)

/-! ## The table of Plan Status (R319) -/

/-- The registers of Plan Status in the order of its table. -/
def planRegs : List Nat :=
  (List.range 16).map (fun i => Reg.ldgVarStatus + 4 * i) ++ (List.range 16).map (fun i => Reg.ldgVarWhere + 4 * i) ++
    [Reg.ldgPlanCur, Reg.ldgPlanReq, Reg.ldgPlanCause]

theorem planRegs_status {i : Nat} (h : i < 16) : planRegs[i]? = some (Reg.ldgVarStatus + 4 * i) := by
  simp [planRegs, h, List.getElem?_append]

theorem planRegs_where {i : Nat} (h : i < 16) : planRegs[16 + i]? = some (Reg.ldgVarWhere + 4 * i) := by
  simp [planRegs, h, List.getElem?_append]

/-- A register's value in the running tick, as the bytes of its word. -/
def State.viewBytes (s : State) (o : Nat) : List Byte := leBytes 4 (s.viewReg o).toNat

theorem viewBytes_length (s : State) (o : Nat) : (s.viewBytes o).length = 4 := leBytes_length 4 _

/-- Plan Status is the words of its registers, and zero bytes up to its end. -/
theorem planStatus_words (s : State) : s.planStatus = planRegs.flatMap s.viewBytes ++ zeros 116 := by
  simp only [State.planStatus, planRegs, List.flatMap_append, List.flatMap_map, List.flatMap_cons, List.flatMap_nil, List.append_nil,
    List.append_assoc, ← List.flatMap_def]
  rfl

theorem planStatus_word (s : State) {n o : Nat} (h : planRegs[n]? = some o) :
    (s.planStatus.drop (4 * n)).take 4 = leBytes 4 (s.viewReg o).toNat := by
  rw [planStatus_words]
  exact word_at s.viewBytes (viewBytes_length s) _ h

theorem planWords_length (s : State) : (planRegs.flatMap s.viewBytes).length = 0x8C := by
  simp only [List.length_flatMap, viewBytes_length]
  rfl

theorem planStatus_length (s : State) : s.planStatus.length = 256 := by
  rw [planStatus_words, List.length_append, planWords_length]
  rfl

theorem planStatus_zero (s : State) {i : Nat} (hfrom : 0x8C ≤ i) (hto : i < 256) : s.planStatus[i]? = some 0#8 := by
  have hin : i - 0x8C < 116 := by omega
  have hright : (planRegs.flatMap s.viewBytes).length ≤ i := Nat.le_trans (Nat.le_of_eq (planWords_length s)) hfrom
  rw [planStatus_words, List.getElem?_append_right hright, planWords_length]
  exact List.getElem?_replicate_of_lt hin

/-! ## Replies of the management path (R535, R536) -/

theorem levelBit_replies (s : State) (l : Leaf) (b : Nat) (v : Bool) : (s.levelBit l b v).mgt.replies = s.mgt.replies := by
  simp only [State.levelBit]
  split
  · obtain ⟨r, e, p, m, d, c, h⟩ := raise_form s l b
    rw [h]
  · split
    · obtain ⟨p, m, d, c, h⟩ := treeSync_form s (s.setReg (leafReg l) (putBit (s.reg (leafReg l)) b false))
      rw [h]
      rfl
    · rfl

theorem miReply_replies (s : State) (id status dw0 : Nat) (data : List Byte) :
    (s.miReply id status dw0 data).mgt.replies = ⟨id, status, dw0, data⟩ :: s.mgt.replies :=
  levelBit_replies _ _ _ _

/-- A request whose column takes it is served with its message taken from those that wait (R536). -/
theorem miServe_full {s : State} (hcol : s.miCol = .full) (id : Nat) (early maint : Bool) (f : State → State) :
    s.miServe id early true maint f = f s.miTake := by
  simp only [State.miServe, hcol, if_true]

/-- In full service the management path runs the admin commands that it accepts. -/
theorem adminRun_mi (s : State) (id : Nat) (hcol : s.miCol = .full) (onFunc : Nat → Bool) (maint : Bool) (g : State → State) :
    s.adminRun ⟨.mi id, true⟩ onFunc true maint g = g s.miTake := by
  simp only [State.adminRun, miServe_full hcol, State.adminFields, if_true]

/-! ## Plan Status to the PF and to the management path (R319) -/

/-- No register of Plan Status shows the requests that wait for the MP. -/
theorem planStatus_miTake (s : State) : s.miTake.planStatus = s.planStatus := rfl

/-- The PF's command returns the table, succeeds and changes no register. -/
theorem exec_planStatus_pf (s : State) (cid : Nat) (hserved : s.adminServed 0 = true) :
    exec (.planStatus ⟨.host 0 cid, true⟩) s =
      .next ((s.keepAlive 0).replyData (.host 0 cid) stOk (s.viewReg Reg.ldgPlanCur).toNat s.planStatus) :=
  congrArg Host.Outcome.next (adminRun_served s 0 cid pfOnly true false _ hserved rfl)

/-- The management path's command returns the same table in full service. -/
theorem exec_planStatus_mi (s : State) (id : Nat) (hcol : s.miCol = .full) : exec (.planStatus ⟨.mi id, true⟩) s =
    .next (s.miTake.miReply id (statusCode stOk) (s.viewReg Reg.ldgPlanCur).toNat s.planStatus) := by
  rw [← planStatus_miTake]
  exact congrArg Host.Outcome.next (adminRun_mi s id hcol pfOnly false _)

/-- Settles O56: the table's words, and the two paths that return it. -/
theorem planStatusBytes : Obligations.PlanStatusBytes := by
  intro s
  refine ⟨s.planStatus, planStatus_length s, fun i hi => planStatus_word s (planRegs_status hi), fun i hi => ?_,
    planStatus_word s (n := 32) rfl, planStatus_word s (n := 33) rfl, planStatus_word s (n := 34) rfl, fun i => planStatus_zero s, ?_, ?_⟩
  · have hword := planStatus_word s (planRegs_where hi)
    rwa [Nat.mul_add] at hword
  · intro cid hserved
    exact ⟨_, exec_planStatus_pf s cid hserved, rfl, rfl, _, rfl, rfl, rfl⟩
  · intro id hcol
    exact ⟨_, _, exec_planStatus_mi s id hcol, miReply_replies _ _ _ _ _⟩

end Sys2Proof.Machine
end

section
/-!
Admin commands of a function's queue: I/O queues, Abort, events, Keep Alive, logs, Identify, features, power states and the Timestamp (R284,
R286, R295, R315, R320, R495, R497, R503).
-/
set_option Elab.async false

namespace Sys2Proof.Machine

/-! ## A function's served command (R288) -/

section
variable {s u : State} {f : Nat} (cid : Nat) (hserved : s.adminServed f = true) (hu : u = s.keepAlive f)
include hserved hu

/-- A command that every function may send runs behind the Keep Alive Timer's restart. -/
theorem adminRun_anyFunc (mi maint : Bool) (g : State → State) : s.adminRun ⟨.host f cid, true⟩ anyFunc mi maint g = g u := by
  rw [hu]
  exact adminRun_served s f cid anyFunc mi maint g hserved rfl

/-! ## Queues (R284, R289, R295) -/

theorem exec_createIoCompletionQueue_free (qid n vec : Nat) (hsize : sizeOk n = true) (hqid : 1 ≤ qid) (hmax : qid ≤ u.maxQp f)
    (hnew : ofind (u.ctrl f).cqs qid = none) (hroom : (u.ctrl f).cqs.length < u.maxQp f) (hvec : vec < vectors f) :
    exec (.createIoCompletionQueue ⟨.host f cid, true⟩ qid n vec true) s = .next ((u.setCtrl f { u.ctrl f with
      cqs := oput (u.ctrl f).cqs qid ⟨n, 0, vec⟩ }).reply (.host f cid) stOk 0) := by
  have hqid0 : qid ≠ 0 := by omega
  refine congrArg Host.Outcome.next ((adminRun_anyFunc cid hserved hu false false _).trans ?_)
  simp only [viaFunc, hsize, hnew, hqid0, Nat.not_lt.mpr hmax, Nat.not_le.mpr hroom, Nat.not_le.mpr hvec, Bool.not_true,
    Option.isSome_none, decide_false, Bool.or_self, Bool.false_eq_true, if_false]

theorem exec_createIoSubmissionQueue_free (qid n cq i : Nat) (hsize : sizeOk n = true) (hqid : 1 ≤ qid) (hmax : qid ≤ u.maxQp f)
    (hnew : u.findQueue f qid = none) (hroom : u.qpUsed f < u.maxQp f) (hcq : (ofind (u.ctrl f).cqs cq).isSome = true)
    (hfree : firstFree u.host.queues 0 16384 = some i) :
    exec (.createIoSubmissionQueue ⟨.host f cid, true⟩ qid n cq true) s =
      .next ((u.setQueue i ⟨f, qid, cq, n, none, 0, 0⟩).reply (.host f cid) stOk 0) := by
  have hqid0 : qid ≠ 0 := by omega
  have hcq0 : (ofind (u.ctrl f).cqs cq).isNone = false := by rw [← Option.not_isSome, hcq]; rfl
  refine congrArg Host.Outcome.next ((adminRun_anyFunc cid hserved hu false false _).trans ?_)
  simp only [viaFunc, hsize, hnew, hqid0, hcq0, hfree, Nat.not_lt.mpr hmax, Nat.not_le.mpr hroom, Bool.not_true, Option.isSome_none,
    decide_false, Bool.or_self, Bool.false_eq_true, if_false]

theorem exec_deleteIoCompletionQueue_unused (qid : Nat) (hold : (ofind (u.ctrl f).cqs qid).isSome = true)
    (hunused : ∀ e ∈ u.host.queues, e.2.func = f → e.2.cqid ≠ qid) :
    exec (.deleteIoCompletionQueue ⟨.host f cid, true⟩ qid) s = .next ((u.setCtrl f { u.ctrl f with
      cqs := odel (u.ctrl f).cqs qid }).reply (.host f cid) stOk 0) := by
  have hfound : ¬(ofind (u.ctrl f).cqs qid).isNone = true := by simpa [Option.isSome_iff_ne_none] using hold
  have hnone : ¬u.host.queues.any (fun e => decide (e.2.func = f) && decide (e.2.cqid = qid)) = true := by
    simpa using fun i q hmem => hunused (i, q) hmem
  exact congrArg Host.Outcome.next ((adminRun_anyFunc cid hserved hu false false _).trans ((if_neg hfound).trans (if_neg hnone)))

/-- A queue without commands goes alone. -/
theorem exec_deleteIoSubmissionQueue_empty (qid i : Nat) (q : IoQueue) (hqueue : u.findQueue f qid = some (i, q))
    (hempty : ∀ e ∈ u.host.cmds, e.2.net = true ∨ e.2.queue ≠ i) :
    exec (.deleteIoSubmissionQueue ⟨.host f cid, true⟩ qid) s = .next ((({ u with host := { u.host with
      queues := odel u.host.queues i } } : State).kick).reply (.host f cid) stOk 0) := by
  have hnone : u.host.cmds.filter (fun e => !e.2.net && decide (e.2.queue = i)) = [] := by
    refine List.filter_eq_nil_iff.mpr fun e hmem => ?_
    rcases hempty e hmem with hnet | hother
    · simp [hnet]
    · simp [hother]
  refine congrArg Host.Outcome.next ((adminRun_anyFunc cid hserved hu false false _).trans ?_)
  simp only [viaFunc, hqueue, hnone, List.foldl_nil]

/-! ## Abort, events and Keep Alive (R284, R286, R315) -/

theorem exec_abort_unknownQueue (sq c : Nat) (hqueue : u.findQueue f sq = none) :
    exec (.abort ⟨.host f cid, true⟩ sq c) s = .next (u.reply (.host f cid) stOk 1) := by
  refine congrArg Host.Outcome.next ((adminRun_anyFunc cid hserved hu false false _).trans ?_)
  simp only [viaFunc, hqueue]

/-- A fetched command that cannot arrive yet is ended (R315). -/
theorem exec_abort_held (sq c i h : Nat) (q : IoQueue) (x : Cmd) (hqueue : u.findQueue f sq = some (i, q))
    (hheld : u.host.cmds.find? (fun e => !e.2.net && decide (e.2.queue = i) && decide (e.2.sqe.cid = c) &&
      decide (e.2.phase = .fetched) && !u.canArrive e.2) = some (h, x)) :
    exec (.abort ⟨.host f cid, true⟩ sq c) s =
      .next (((u.toPost h { x with locks := [] } stAbortRequested).kick).reply (.host f cid) stOk 0) := by
  refine congrArg Host.Outcome.next ((adminRun_anyFunc cid hserved hu false false _).trans ?_)
  simp only [viaFunc, hqueue, hheld]

/-- The ninth outstanding event request is refused (R284). -/
theorem exec_asynchronousEventRequest_ninth (hmany : 8 ≤ (u.ctrl f).aers.length) :
    exec (.asynchronousEventRequest ⟨.host f cid, true⟩) s = .next (u.reply (.host f cid) stAerLimit 0) :=
  congrArg Host.Outcome.next ((adminRun_anyFunc cid hserved hu false false _).trans (if_pos hmany))

theorem exec_asynchronousEventRequest_held (hfew : (u.ctrl f).aers.length < 8) (hnone : (u.ctrl f).events = []) :
    exec (.asynchronousEventRequest ⟨.host f cid, true⟩) s = .next (u.setCtrl f { u.ctrl f with
      aers := (u.ctrl f).aers ++ [cid] }) := by
  refine congrArg Host.Outcome.next ((adminRun_anyFunc cid hserved hu false false _).trans ?_)
  simp only [hnone, Nat.not_le.mpr hfew, if_false]

theorem exec_keepAlive_succeeds : exec (.keepAlive ⟨.host f cid, true⟩) s = .next (u.reply (.host f cid) stOk 0) :=
  congrArg Host.Outcome.next (adminRun_anyFunc cid hserved hu false false _)

/-! ## Logs and Identify (R286) -/

/-- A page of controller scope is returned from its offset. -/
theorem exec_getLogPage_from (page lsi off n : Nat) (p : List Byte × State) (hlog : u.logPage f page lsi = .ok p)
    (hoff : off ≤ p.1.length) :
    exec (.getLogPage ⟨.host f cid, true⟩ page 0 lsi off n) s =
      .next (p.2.replyData (.host f cid) stOk 0 ((p.1.drop off).take n)) := by
  refine congrArg Host.Outcome.next ((adminRun_anyFunc cid hserved hu true _ _).trans ?_)
  simp only [viaFunc, hlog, Nat.not_lt.mpr hoff, ne_eq, not_true_eq_false, decide_false, Bool.and_false, Bool.false_and,
    Bool.false_eq_true, if_false]

theorem exec_identify_answers (cns ns cn csi : Nat) : exec (.identify ⟨.host f cid, true⟩ cns ns cn csi) s =
    .next (u.dataReply ⟨.host f cid, true⟩ (u.identify f cns ns cn csi)) :=
  congrArg Host.Outcome.next (adminRun_anyFunc cid hserved hu true true _)

/-! ## Features (R286) -/

/-- A value that the device takes is set where it is not to be saved, which no feature can be. -/
theorem exec_setFeatures_taken (fid dw : Nat) (w x : BitVec 32) (save : Bool) (hpower : fid ≠ 0x02) (htimer : fid ≠ 0x0F)
    (hvalue : u.featureValue f fid w = .ok (x, dw)) : exec (.setFeatures ⟨.host f cid, true⟩ fid w save) s = .next (
      if save then u.reply (.host f cid) stFeatureNotSaveable 0
      else (u.setCtrl f { u.ctrl f with
        features := oput (u.ctrl f).features (featureKey fid w) x }).reply (.host f cid) stOk dw) := by
  refine congrArg Host.Outcome.next ((adminRun_anyFunc cid hserved hu true false _).trans ?_)
  simp only [viaFunc, hpower, htimer, hvalue, if_false]

theorem exec_getFeatures_current (fid : Nat) (w : BitVec 32) (hknown : knownFeatures.contains fid = true) (hpower : fid ≠ 0x02)
    (htime : fid ≠ 0x0E) : exec (.getFeatures ⟨.host f cid, true⟩ fid 0 w) s = .next (u.reply (.host f cid) stOk
      ((ofind (u.ctrl f).features (featureKey fid w)).getD (u.featureDflt f fid)).toNat) := by
  refine congrArg Host.Outcome.next ((adminRun_anyFunc cid hserved hu true false _).trans ?_)
  have hselect : ¬(!knownFeatures.contains fid || decide (3 < 0)) = true := by rw [hknown]; decide
  dsimp only
  rw [if_neg hselect, if_neg (by decide), if_neg hpower, if_neg htime, if_neg (by decide), viaFunc]

/-- A Timestamp ahead of device time moves it forward (R503). -/
theorem exec_timestamp_forward (ms : Nat) (hlater : u.pwr.time < ms % 2 ^ 48 * 1000000) :
    exec (.timestamp ⟨.host f cid, true⟩ ms false) s = .next (({ u with pwr := { u.pwr with
      time := ms % 2 ^ 48 * 1000000, uncertain := false, synced := true } } : State).reply (.host f cid) stOk 0) := by
  refine congrArg Host.Outcome.next ((adminRun_anyFunc cid hserved hu true false _).trans ?_)
  simp only [hlater, Bool.false_eq_true, if_false, if_true]

end

/-! ## Power states and Virtualization Management of the PF (R284, R320, R495, R497) -/

section
variable (s : State) (cid : Nat) (hserved : s.adminServed 0 = true)
include hserved

theorem exec_powerStateSet_level (ps : Nat) (hlevel : ps ≤ 3) : exec (.powerStateSet ⟨.host 0 cid, true⟩ ps false) s =
    .next (((s.keepAlive 0).planRequest (s.keepAlive 0).reqPlan ps).awaitPlan (.host 0 cid)) :=
  congrArg Host.Outcome.next ((adminRun_served s 0 cid anyFunc true false _ hserved rfl).trans (if_pos hlevel))

theorem exec_dozeRequest_asks : exec (.dozeRequest ⟨.host 0 cid, true⟩ false) s =
    .next ((s.keepAlive 0).sleepRequest .doze (.host 0 cid)) :=
  congrArg Host.Outcome.next (adminRun_served s 0 cid anyFunc true false _ hserved rfl)

theorem exec_hibernateRequest_asks : exec (.hibernateRequest ⟨.host 0 cid, true⟩ false) s =
    .next ((s.keepAlive 0).sleepRequest .hibernate (.host 0 cid)) :=
  congrArg Host.Outcome.next (adminRun_served s 0 cid anyFunc true false _ hserved rfl)

theorem exec_virtualizationManagement_assigns (c n : Nat) (hvf : (s.keepAlive 0).isVf c = true) :
    exec (.virtualizationManagement ⟨.host 0 cid, true⟩ 8 c n) s = .next (((s.keepAlive 0).setCtrl c
      { (s.keepAlive 0).ctrl c with resources := n }).reply (.host 0 cid) stOk n) :=
  congrArg Host.Outcome.next ((adminRun_served s 0 cid pfOnly false false _ hserved rfl).trans
    ((if_neg (by decide)).trans ((if_neg (by simp [hvf])).trans ((if_neg (by decide)).trans (if_pos rfl)))))

end

/-- A controller that hears nothing for KATO milliseconds fails (R286; log entry 93). -/
theorem exec_keepAliveTimeout_expired (s : State) (f : Nat) (hhst : s.islandOn .hst = true) (hkato : (s.ctrl f).kato ≠ 0)
    (hrdy : (s.ctrl f).rdy = true) (hcfs : (s.ctrl f).cfs = false)
    (hlate : (s.ctrl f).kaFrom + (s.ctrl f).kato * 1000000 ≤ s.ldg.tick) :
    exec (.keepAliveTimeout f) s = .next (s.setCtrl f { s.ctrl f with cfs := true }) :=
  congrArg Host.Outcome.next (if_pos (by simp [hhst, hkato, hrdy, hcfs, hlate]))

/-- Settles O53: each command's equation on the controller that serves it. -/
theorem adminQueuesAndFeatures : Obligations.AdminQueuesAndFeatures := by
  refine ⟨?_, exec_keepAliveTimeout_expired⟩
  rintro s u f cid v a hserved hu rfl rfl
  refine ⟨fun qid n vec hlow hhigh => exec_createIoCompletionQueue_free cid hserved hu qid n vec (by simp [sizeOk, hlow, hhigh]),
    fun qid n cq i hlow hhigh => exec_createIoSubmissionQueue_free cid hserved hu qid n cq i (by simp [sizeOk, hlow, hhigh]),
    exec_deleteIoCompletionQueue_unused cid hserved hu, exec_deleteIoSubmissionQueue_empty cid hserved hu,
    exec_abort_unknownQueue cid hserved hu, fun sq c i q h => exec_abort_held cid hserved hu sq c i h q,
    exec_asynchronousEventRequest_ninth cid hserved hu, exec_asynchronousEventRequest_held cid hserved hu,
    exec_keepAlive_succeeds cid hserved hu, fun page lsi off n p _ => exec_getLogPage_from cid hserved hu page lsi off n p,
    exec_identify_answers cid hserved hu, ?_, exec_getFeatures_current cid hserved hu, exec_timestamp_forward cid hserved hu, ?_⟩
  · intro fid w x dw hpower htimer hvalue
    exact ⟨exec_setFeatures_taken cid hserved hu fid dw w x false hpower htimer hvalue,
      exec_setFeatures_taken cid hserved hu fid dw w x true hpower htimer hvalue⟩
  · rintro rfl
    subst hu
    exact ⟨exec_powerStateSet_level s cid hserved, exec_dozeRequest_asks s cid hserved, exec_hibernateRequest_asks s cid hserved,
      exec_virtualizationManagement_assigns s cid hserved⟩

end Sys2Proof.Machine
end

section
/-!
The network ports: queue pairs, congestion, pauses, frames answered in hardware, links, and the Fabrics commands (R284, R461 to R464, R466,
R485, R593).
-/
set_option Elab.async false

namespace Sys2Proof.Machine

/-! ## Connection requests (R466) -/

section
variable (s : State) (p : Nat) (src : BitVec 128) (hport : p < 2) (hup : s.portUp p = true) (hacts : s.mpActs = true)
  (hmode : modeLedger s.mode = true)
include hport hup hacts hmode

/-- A source of no account is rejected. -/
theorem exec_cmReq_unknown (hnone : s.hostAccount src p = none) :
    exec (.cmReq p src) s = .next ((s.sendFrame (.cmRej p)).raise .netCause 2) := by
  refine congrArg Host.Outcome.next ((if_neg (by simp [hport, hup, hacts, hmode])).trans ?_)
  simp only [hnone]

/-- An admitted account's request takes the lowest free queue pair at the line rate. -/
theorem exec_cmReq_admitted (a : Nat) (b : Binding) (i : Nat) (hacct : s.hostAccount src p = some a) (hbound : (s.acct a).binding = some b)
    (hnet : b.netEn = true) (hfree : firstFree s.qpsInUse 0 4096 = some i) : exec (.cmReq p src) s =
      .next ((s.setQp i ⟨a, p, none, false, lineRate, none, none, 0, 0⟩).sendFrame (.cmRep i)) := by
  refine congrArg Host.Outcome.next ((if_neg (by simp [hport, hup, hacts, hmode])).trans ?_)
  simp only [hacct, hbound, hnet, hfree]

end

/-! ## Congestion (R463) -/

section
variable (s : State) (i : Nat) (q : Qp) (hlive : s.liveQp i = some q)
include hlive

theorem exec_ceMarkedPacket_first (hsent : q.cnpSent = none) (hopen : (s.port q.port).pausedCnp = false) :
    exec (.ceMarkedPacket i) s = .next ((s.setQp i { q with cnpSent := some s.ldg.tick }).sendFrame (.cnp i)) := by
  simp only [exec, execCeMarkedPacket, hlive, hsent, hopen, Bool.false_eq_true, if_false]

theorem exec_ceMarkedPacket_early (t : Nat) (hsent : q.cnpSent = some t) (hearly : s.ldg.tick < t + 50000) :
    exec (.ceMarkedPacket i) s = .next s := by
  simp only [exec, execCeMarkedPacket, hlive, hsent, hearly, decide_true, if_true]

theorem exec_cnpReceive_halves : exec (.cnpReceive i) s =
    .next (s.setQp i { q with rate := max rateFloor (q.rate / 2), cnpRecv := some s.ldg.tick, rateAt := s.ldg.tick }) := by
  simp only [exec, execCnpReceive, hlive]

theorem exec_rateRecovery_rises (hbelow : q.rate < lineRate) (hquiet : q.rateAt + 55000 ≤ s.ldg.tick) : exec (.rateRecovery i) s =
    .next (s.setQp i { q with rate := min lineRate (q.rate + rateStep), rateAt := q.rateAt + 55000 }) := by
  simp only [exec, execRateRecovery, hlive, hbelow, hquiet, decide_true, Bool.and_self, if_true]

end

/-! ## Pauses, frames and links (R461, R462, R464, R485) -/

section
variable (s : State) (p : Nat) (hport : p < 2) (hup : s.portUp p = true)
include hport hup

theorem exec_pfcPauseReceive_sets (cnp : Bool) : exec (.pfcPauseReceive p cnp) s = .next (s.setPort p
    (if cnp then { s.port p with pausedCnp := true } else { s.port p with pausedData := true })) :=
  congrArg Host.Outcome.next (if_neg (by simp [hport, hup]))

theorem exec_arpRequest_own (hmode : modeLedger s.mode = true) : exec (.arpRequest p true) s = .next (s.sendFrame (.arpReply p)) :=
  congrArg Host.Outcome.next (if_pos (by simp [hport, hup, hmode]))

theorem exec_neighborDiscovery_own (hmode : modeLedger s.mode = true) :
    exec (.neighborDiscovery p true) s = .next (s.sendFrame (.ndReply p)) :=
  congrArg Host.Outcome.next (if_pos (by simp [hport, hup, hmode]))

/-- The token wakes, where it is not zero (R485). -/
theorem exec_wakeFrame_token (w : BitVec 64) (hdoze : s.mode = .doze) (htoken : w.toNat = s.wakeToken) (hset : s.wakeToken ≠ 0) :
    exec (.wakeFrame p true w none) s = .next (s.wakeEvent (3 + p)) :=
  congrArg Host.Outcome.next ((if_neg (by simp [hport, hup, hdoze])).trans (if_pos (by simp [htoken, hset])))

theorem exec_linkDown_resets (c u : Nat) : exec (.linkDown p c u) s = .next (
    let s2 := (((s.setReg (Reg.netPortStatus + 4 * p) 0).countFec p c u).setPort p {}).raise .netCause p
    s2.failQps (s2.qpsOf (fun q => decide (q.port = p)))) :=
  congrArg Host.Outcome.next (if_neg (by simp [hport, hup]))

end

section
variable (s : State) (p : Nat)

theorem exec_pfcPauseExpiry_data : exec (.pfcPauseExpiry p false) s = .next (s.setPort p { s.port p with pausedData := false }) := rfl

theorem exec_pfcXon_drains (n : Nat) (hport : p < 2) (hless : n ≤ (s.port p).rxBytes) (hnet : s.islandOn .net = true) :
    exec (.pfcXon p n) s = .next (s.rxLevel p n) :=
  congrArg Host.Outcome.next (if_neg (by simp [hport, hless, hnet]))

theorem exec_linkUp_trains (c u : Nat) (hport : p < 2) (hmode : modeNet s.mode = true) : exec (.linkUp p c u) s =
    .next ((s.setReg (Reg.netPortStatus + 4 * p) (BitVec.ofNat 32 (5 + 2 * b2n (s.portCr1 p)))).countFec p c u) :=
  congrArg Host.Outcome.next (if_neg (by simp [hport, hmode]))

end

/-! ## Fabrics commands (R284, R466, R593) -/

/-- A Fabrics command that the queue pair's association allows runs on `u` (R97, R343, R497). -/
def FabricServes (s u : State) (i : Nat) (q : Qp) : Prop :=
  ∀ (pair : Option Nat → Bool) (g : State → Qp → State), pair q.queue = true → s.fabricRun i pair g = g u q

/-- Commands of an active account run in service, behind the Keep Alive Timer's restart. -/
theorem fabricServes_active {s : State} {i : Nat} {q : Qp} (hlive : s.liveQp i = some q) (hmode : modeLedger s.mode = true)
    (hdoze : s.mode ≠ .doze) (hdrain : s.mode ≠ .drain) (hsleep : s.pwr.sleep = none) (hactive : s.memberActive q.account = true) :
    FabricServes s (s.keepAlive q.account) i q := by
  intro pair g hpair
  have hrun : ¬(!pair q.queue || !modeLedger s.mode || decide (s.mode = .doze)) = true := by simp [hpair, hmode, hdoze]
  have hopen : ¬(!s.memberActive q.account || decide (s.mode = .drain) || s.pwr.sleep.isSome) = true := by
    simp [hactive, hdrain, hsleep]
  rw [State.fabricRun, hlive]
  exact (if_neg hrun).trans (if_neg hopen)

section
variable {s u : State} {i : Nat} {q : Qp} (cid : Nat) (hserves : FabricServes s u i q)
include hserves

theorem exec_fabricsConnect_admin (n : Nat) (hunbound : q.queue = none) (hsize : sizeOk n = true) (hnew : u.netHas q.account 0 = false) :
    exec (.fabricsConnect i cid 0xFFFF 0 n) s =
      .next ((u.setQp i { q with queue := some 0 }).fabricDone q.account i cid stOk q.account 0) :=
  congrArg Host.Outcome.next ((hserves _ _ (by simp [hunbound])).trans (if_neg (by simp [hsize, hnew])))

section
variable (hadmin : q.queue = some 0)
include hadmin

theorem exec_propertyGet_known (o : Nat) (v : Nat × Nat) (hvalue : u.property q.account o = some v) :
    exec (.propertyGet i cid o) s = .next (u.fabricDone q.account i cid stOk v.1 v.2) := by
  refine congrArg Host.Outcome.next ((hserves _ _ (by simp [hadmin])).trans ?_)
  simp only [hvalue]

theorem exec_propertySet_cc (w : BitVec 32) : exec (.propertySet i cid 0x14 w) s =
    .next ((u.fabricDone q.account i cid stOk 0 0).writeCc q.account w) :=
  congrArg Host.Outcome.next ((hserves _ _ (by simp [hadmin])).trans (if_pos rfl))

end

/-- A queue pair without commands is released alone. -/
theorem exec_disconnect_idle (n : Nat) (hbound : q.queue = some n) (hidle : ∀ e ∈ u.host.cmds, e.2.net = false ∨ e.2.queue ≠ i) :
    exec (.disconnect i cid) s =
      .next (((u.setQp i { q with queue := none }).fabricDone q.account i cid stOk 0 0).kick) := by
  have hnone : u.host.cmds.filter (fun e => e.2.net && decide (e.2.queue = i)) = [] := by
    refine List.filter_eq_nil_iff.mpr fun e hmem => ?_
    rcases hidle e hmem with hlocal | hother
    · simp [hlocal]
    · simp [hother]
  refine congrArg Host.Outcome.next ((hserves _ _ (by simp [hbound])).trans ?_)
  simp only [State.setQp, State.fabricDone, hnone, List.map_nil, List.foldl_nil]

end

/-- Settles O57: the equations above, pair by pair and port by port. -/
theorem networkPorts : Obligations.NetworkPorts := by
  refine ⟨?_, ?_, ?_, exec_linkUp_trains, ?_⟩
  · intro s p src hport hup hacts hmode
    exact ⟨exec_cmReq_unknown s p src hport hup hacts hmode, exec_cmReq_admitted s p src hport hup hacts hmode⟩
  · intro s i q hlive
    exact ⟨exec_ceMarkedPacket_first s i q hlive, exec_ceMarkedPacket_early s i q hlive, exec_cnpReceive_halves s i q hlive,
      exec_rateRecovery_rises s i q hlive⟩
  · intro s p hport hup
    refine ⟨exec_pfcPauseReceive_sets s p hport hup false, exec_pfcPauseReceive_sets s p hport hup true,
      exec_pfcPauseExpiry_data s p, fun n => exec_pfcXon_drains s p n hport, fun hmode => ?_, exec_wakeFrame_token s p hport hup, ?_⟩
    · exact ⟨exec_arpRequest_own s p hport hup hmode, exec_neighborDiscovery_own s p hport hup hmode⟩
    · rintro c u s2 rfl
      exact exec_linkDown_resets s p hport hup c u
  · rintro s u i cid q hlive hmode hdoze hdrain hsleep hactive rfl
    have hserves := fabricServes_active hlive hmode hdoze hdrain hsleep hactive
    exact ⟨fun n hunbound hlow hhigh => exec_fabricsConnect_admin cid hserves n hunbound (by simp [sizeOk, hlow, hhigh]),
      fun o v hadmin => exec_propertyGet_known cid hserves hadmin o v, fun w hadmin => exec_propertySet_cc cid hserves hadmin w,
      exec_disconnect_idle cid hserves⟩

end Sys2Proof.Machine
end

section
/-!
The management path: I3C common commands and MCTP packets (R531 to R535), MCTP control and NVMe-MI (R287, R535, R536), the vendor
management commands (R113, R537, R540, R550), and the nonces (R538).
-/
set_option Elab.async false

namespace Sys2Proof.Machine

/-! ## Common command codes (R531 to R533) -/

section
variable (s : State) (hserved : s.cccServed = true)
include hserved

theorem exec_entdaa_won (a : BitVec 7) (hfree : s.daValid = false) :
    exec (.entdaa (some a)) s = .next ((s.i3cOk (s.pidBytes ++ [0, 0])).takeAddr a 1) :=
  congrArg Host.Outcome.next (if_pos (by simp [hserved, hfree]))

/-- The EID goes with the dynamic address (log entry 67). -/
theorem exec_rstdaa_clears :
    exec .rstdaa s = .next (((s.i3cOk []).setFld Reg.mgtI3cStatus 0 10 0).setFld Reg.mgtI3cStatus 11 8 0) :=
  congrArg Host.Outcome.next (if_pos hserved)

theorem exec_setdasa_static (st n : BitVec 7) (hfree : s.daValid = false) (hstatic : st.toNat = s.staticAddr) :
    exec (.setdasa st n) s = .next ((s.i3cOk []).takeAddr n 2) :=
  congrArg Host.Outcome.next (if_pos (by simp [hserved, hfree, hstatic]))

/-- ENEC and DISEC are acknowledged to everyone. -/
theorem cccIdle_broadcast : s.cccIdle none = s.i3cOk [] := if_pos hserved

section
variable (o : BitVec 7) (haddr : s.addressed o = true)
include haddr

theorem cccIdle_direct : s.cccIdle (some o) = s.i3cOk [] := if_pos (by simp [hserved, haddr])

/-- A direct code that reads is answered with its bytes. -/
theorem cccRead_addressed (bs : List Byte) : s.cccRead o bs = s.i3cOk bs := if_pos (by simp [hserved, haddr])

theorem exec_setnewda_addressed (n : BitVec 7) : exec (.setnewda o n) s = .next ((s.i3cOk []).takeAddr n 3) :=
  congrArg Host.Outcome.next (if_pos (by simp [hserved, haddr]))

theorem exec_setmwl_addressed (n : Nat) : exec (.setmwl o n) s = .next (
    if 69 ≤ n then { s.i3cOk [] with mgt := { (s.i3cOk []).mgt with mwl := n } } else s.i3cNack) := by
  simp only [exec, execSetmwl, hserved, haddr, Bool.and_self, Bool.true_and, decide_eq_true_eq]

theorem exec_setmrl_addressed (n : Nat) : exec (.setmrl o n) s = .next (
    if 69 ≤ n then { s.i3cOk [] with mgt := { (s.i3cOk []).mgt with mrl := n } } else s.i3cNack) := by
  simp only [exec, execSetmrl, hserved, haddr, Bool.and_self, Bool.true_and, decide_eq_true_eq]

end

end

/-! ## MCTP packets on the bus (R535) -/

section
variable (s : State) (o : BitVec 7) (hserved : s.privateServed = true) (haddr : s.addressed o = true)
include hserved haddr

/-- A write outside DOZE is a packet, whatever its first byte. -/
theorem exec_mctpPacketWrite_taken (bs : List Byte) (hawake : s.mode ≠ .doze) :
    exec (.mctpPacketWrite o bs) s = .next ((s.i3cOk []).takePacket bs) :=
  congrArg Host.Outcome.next ((if_pos (by simp [hserved, haddr])).trans (if_neg (by simp [hawake])))

theorem exec_mctpPacketRead_none (hnone : s.mgt.mctpOut = []) : exec (.mctpPacketRead o) s = .next s.i3cNack := by
  simp only [exec, execMctpPacketRead, hserved, haddr, hnone, Bool.and_self, if_true]

theorem exec_mctpPacketRead_first (p : List Byte) (ps : List (List Byte)) (hsome : s.mgt.mctpOut = p :: ps) :
    exec (.mctpPacketRead o) s = .next (({ s.i3cOk p with
      mgt := { (s.i3cOk p).mgt with mctpOut := ps } } : State).levelBit .mgtCause 5 (!ps.isEmpty)) := by
  simp only [exec, execMctpPacketRead, hserved, haddr, hsome, Bool.and_self, if_true]

end

/-! ## The columns that take a request (R536) -/

section
variable {s u : State}

theorem miServe_everywhere (hcol : s.miCol ≠ .none) (hu : u = s.miTake) (id : Nat) (f : State → State) :
    s.miServe id true true true f = f u := by
  subst hu
  rw [State.miServe]
  split
  · contradiction
  all_goals rfl

theorem miServe_maint (hcol : s.miCol = .maint) (hu : u = s.miTake) (id : Nat) (early full : Bool) (f : State → State) :
    s.miServe id early full true f = f u := by
  simp only [State.miServe, hcol, hu, if_true]

/-- A command of full service and of MAINTENANCE. -/
theorem miServe_started (hcol : s.miCol = .full ∨ s.miCol = .maint) (hu : u = s.miTake) (id : Nat) (early : Bool) (f : State → State) :
    s.miServe id early true true f = f u := by
  obtain hfull | hmaint := hcol
  · rw [hu, miServe_full hfull]
  · exact miServe_maint hmaint hu id early true f

end

/-! ## MCTP control, and what every column reads (R287, R535 to R537) -/

section
variable {s u : State} (id : Nat) (hcol : s.miCol ≠ .none) (hu : u = s.miTake)
include hcol hu

theorem exec_setEndpointId_assignable (e : Nat) (hlow : 1 ≤ e) (hhigh : e ≤ 254) : exec (.setEndpointId id e) s =
    .next ((u.setFld Reg.mgtI3cStatus 11 8 e).ctlReply id 1 0 ([0] ++ leBytes 1 e ++ [0])) :=
  congrArg Host.Outcome.next ((miServe_everywhere hcol hu id _).trans (if_pos (by simp [hlow, hhigh])))

theorem exec_getEndpointId_answers : exec (.getEndpointId id) s = .next (u.ctlReply id 2 0 (leBytes 1 u.eid ++ [0, 0])) :=
  congrArg Host.Outcome.next (miServe_everywhere hcol hu id _)

theorem exec_getEndpointUuid_answers :
    exec (.getEndpointUuid id) s = .next (u.ctlReply id 3 0 (leBytes 16 Config.endpointUuid.toNat)) :=
  congrArg Host.Outcome.next (miServe_everywhere hcol hu id _)

theorem exec_getMctpVersionSupport_control :
    exec (.getMctpVersionSupport id 0) s = .next (u.ctlReply id 4 0 ([1] ++ leBytes 4 (Config.mctpVersion 0).toNat)) :=
  congrArg Host.Outcome.next (miServe_everywhere hcol hu id _)

theorem exec_getMessageTypeSupport_answers : exec (.getMessageTypeSupport id) s = .next (u.ctlReply id 5 0 [2, 0x00, 0x04]) :=
  congrArg Host.Outcome.next (miServe_everywhere hcol hu id _)

theorem exec_readNvmeMiDataStructure_controllers : exec (.readNvmeMiDataStructure id 2) s =
    .next (u.miReply id miOk 0 (leBytes 2 u.functions.length ++ (u.functions.map (leBytes 2)).flatten)) :=
  congrArg Host.Outcome.next (miServe_everywhere hcol hu id _)

theorem exec_nvmSubsystemHealthStatusPoll_answers : exec (.nvmSubsystemHealthStatusPoll id) s =
    .next (u.miReply id miOk 0 ([if u.miCol = .full then 0x28 else 0x00] ++ [0xFF] ++ leBytes 1 u.compositeC ++
      leBytes 1 (u.fld Reg.pwrWear 21 8) ++ [0, 0, 0, 0])) :=
  congrArg Host.Outcome.next (miServe_everywhere hcol hu id _)

theorem exec_controllerHealthStatusPoll_answers (f : Nat) : exec (.controllerHealthStatusPoll id f) s =
    .next (u.miReply id miOk 0 (leBytes 2 f ++ leBytes 2 (if u.miCol = .full then
      b2n (u.ctrl f).rdy + 2 * b2n (u.ctrl f).cfs + 4 * (u.ctrl f).shst else 0) ++ leBytes 2 u.compositeK ++
        leBytes 1 (u.fld Reg.pwrWear 21 8))) :=
  congrArg Host.Outcome.next (miServe_everywhere hcol hu id _)

theorem exec_eventLogRead_inRange (i n : Nat) (hlow : 1 ≤ n) (hhigh : n ≤ 64) (hend : i + n ≤ 32768) :
    exec (.eventLogRead id i n) s = .next (u.miReply id miOk 0 ((upFrom i n).map u.logBytes).flatten) := by
  have hcount : ¬(decide (n < 1) || decide (64 < n)) = true := by simp; omega
  exact congrArg Host.Outcome.next ((miServe_everywhere hcol hu id _).trans ((if_neg hcount).trans (if_neg (Nat.not_lt.mpr hend))))

theorem exec_calibrationRowRead_answers :
    exec (.calibrationRowRead id) s = .next (u.miReply id miOk 0 (memReadAll norDefault u.nor.mem 0x07FF0000 4096)) :=
  congrArg Host.Outcome.next (miServe_everywhere hcol hu id _)

end

/-! ## Configuration, challenges and the log's clearing (R287, R538, R550) -/

theorem issueNonce_open {s : State} (p : AuthPath) (hopen : (s.auth p).lockFrom = none) : s.issueNonce p =
    (some (Config.freeNonce s.freeCount), ({ s with freeCount := s.freeCount + 1 } : State).setAuth p
      { s.auth p with nonce := some ⟨Config.freeNonce s.freeCount, s.pwr.time⟩ }) := by
  have hlock : s.lockedOut p = false := by rw [State.lockedOut, hopen]
  rw [State.issueNonce, hlock]
  cases p <;> rfl

section
variable {s u : State} (id : Nat) (hcol : s.miCol = .full ∨ s.miCol = .maint) (hu : u = s.miTake)
include hcol hu

theorem exec_configurationSet_stores (c v : Nat) : exec (.configurationSet id c v) s =
    .next (({ u with mgt := { u.mgt with miConfig := oput u.mgt.miConfig c v } } : State).miReply id miOk 0 []) :=
  congrArg Host.Outcome.next (miServe_started hcol hu id false _)

theorem exec_configurationGet_answers (c : Nat) : exec (.configurationGet id c) s =
    .next (u.miReply id miOk ((ofind u.mgt.miConfig c).getD (Config.miDefault c)) []) :=
  congrArg Host.Outcome.next (miServe_started hcol hu id false _)

theorem exec_getChallenge_open (hopen : (u.auth .mi).lockFrom = none) : exec (.getChallenge id) s =
    .next ((u.issueNonce .mi).2.miReply id miOk 0 (leBytes 32 (Config.freeNonce u.freeCount).toNat)) := by
  refine congrArg Host.Outcome.next ((miServe_started hcol hu id false _).trans ?_)
  simp only [issueNonce_open .mi hopen]

/-- A clear of the log that no check stops begins, or joins the one that runs (R550, log entry 20). -/
theorem exec_eventLogClear_checked (bs : List Byte) {c : Nat} {s1 : State} (hauth : u.authorise .mi 3 (readAuth bs) = (c, s1)) :
    exec (.eventLogClear id bs) s = .next (if c = 0 then (({ s1 with
      evt := { s1.evt with clearIds := s1.evt.clearIds ++ [id] } } : State).miReply id miMore 0 []).startClear (readAuth bs).nonce
      else s1.authReply (.mi id) c) := by
  refine congrArg Host.Outcome.next ((miServe_started hcol hu id false _).trans ?_)
  simp only [hauth]
  cases c <;> rfl

end

/-! ## MAINTENANCE: restart, calibration, life cycle and factory tests (R113, R454, R536, R537, R540) -/

/-- A life-cycle change burns its fuses where no check of the authorisation fails. -/
theorem lifeChange_checked {s s1 : State} (id action : Nat) (a : Auth) (life : LifeCycle) (key : BitVec 256) {c : Nat}
    (hauth : s.authorise .mi action a = (c, s1)) : s.lifeChange id action a life key =
      if c = 0 then (({ s1 with cry := { s1.cry with life := life, deviceKey := some key } } : State).raise .mgtCause 6).miReply
        id miOk 0 []
      else s1.authReply (.mi id) c := by
  simp only [State.lifeChange, hauth]
  cases c <;> rfl

section
variable {s u : State} (id : Nat) (hcol : s.miCol = .maint) (hu : u = s.miTake)
include hcol hu

theorem exec_miReset_request (hcause : u.fld Reg.aonMode 8 4 = 5) :
    exec (.miReset id) s = .next ((u.miReply id miOk 0 []).toStrap false) := by
  have hserved : decide (s.fld Reg.aonMode 8 4 = 5) = true := decide_eq_true (by rwa [hu] at hcause)
  simp only [exec, execMiReset, hserved, miServe_maint hcol hu]

/-- The reply waits for the end of the program that the write starts (log entry 19). -/
theorem exec_calibrationRowWrite_started (row : List Byte) {s1 : State}
    (hstart : s1 = ((u.setFld Reg.norOpAddr 0 27 0x07FF0000).setReg Reg.norOpSrc 0).norStart .program 16 row none)
    (hidle : u.nor.op = none) (hop : s1.nor.op.isSome = true) :
    exec (.calibrationRowWrite id row) s = .next { s1 with nor := { s1.nor with calWaiter := some id } } := by
  subst hstart
  exact congrArg Host.Outcome.next ((miServe_maint hcol hu id false false _).trans (if_pos (by rw [hidle]; exact hop)))

theorem exec_provision_checked (bs : List Byte) {c : Nat} {s1 : State} (hauth : u.authorise .mi 4 (readAuth bs) = (c, s1)) :
    exec (.provision id bs) s = .next (if c = 0 then (({ s1 with cry := { s1.cry with
      life := .provisioned, deviceKey := some (readAuth bs).deviceKey } } : State).raise .mgtCause 6).miReply id miOk 0 []
      else s1.authReply (.mi id) c) :=
  congrArg Host.Outcome.next ((miServe_maint hcol hu id false false _).trans (lifeChange_checked id 4 _ _ _ hauth))

theorem exec_decommission_checked (bs : List Byte) {c : Nat} {s1 : State} (hauth : u.authorise .mi 5 (readAuth bs) = (c, s1)) :
    exec (.decommission id bs) s = .next (if c = 0 then (({ s1 with cry := { s1.cry with
      life := .decommissioned, deviceKey := some (BitVec.allOnes 256) } } : State).raise .mgtCause 6).miReply id miOk 0 []
      else s1.authReply (.mi id) c) :=
  congrArg Host.Outcome.next ((miServe_maint hcol hu id false false _).trans (lifeChange_checked id 5 _ _ _ hauth))

theorem exec_factoryTestVerifySlot_answers (x : Slot) :
    exec (.factoryTestVerifySlot id x) s = .next (u.miReply id miOk 0 (testData (u.slotReason x))) :=
  congrArg Host.Outcome.next (miServe_maint hcol hu id false false _)

theorem exec_factoryTestAlert_pulses : exec (.factoryTestAlert id) s = .next (({ u with
    mgt := { u.mgt with alertForce := true }, pins := { u.pins with alertN := false } } : State).miReply id miOk 0 (testData 0)) :=
  congrArg Host.Outcome.next (miServe_maint hcol hu id false false _)

theorem exec_factoryTestEntropy_answers (ok : Bool) :
    exec (.factoryTestEntropy id ok) s = .next (u.miReply id miOk 0 (testData (if ok then 0 else 1))) :=
  congrArg Host.Outcome.next (miServe_maint hcol hu id false false _)

end

/-! ## Ends of the factory pulse, of a nonce and of a lockout (R537, R538) -/

theorem exec_factoryAlertPulseEnd_levels (s : State) (hforce : s.mgt.alertForce = true) :
    ∃ t, exec .factoryAlertPulseEnd s = .next t ∧ t.mgt = { s.mgt with alertForce := false, alertPipe := [] } ∧
      t.pins.alertN = t.alertLevel :=
  ⟨_, congrArg Host.Outcome.next (if_pos hforce), rfl, rfl⟩

theorem exec_challengeNew_issues (s : State) (who : Requester) (hmay : s.mayWrite who Reg.mgtChallengeCtl = true) :
    exec (.challengeNew who) s = .next (s.issueNonce .pf).2 :=
  congrArg Host.Outcome.next (if_pos hmay)

theorem exec_nonceExpiry_old (s : State) (p : AuthPath) (n : Nonce) (hnonce : (s.auth p).nonce = some n)
    (hold : n.issued + nonceLife ≤ s.pwr.time) :
    exec (.nonceExpiry p) s = .next (s.setAuth p { s.auth p with nonce := none }) := by
  simp only [exec, execNonceExpiry, hnonce, hold, if_true]

theorem exec_authLockoutEnd_over (s : State) (p : AuthPath) (t : Nat) (hlock : (s.auth p).lockFrom = some t)
    (hover : t + lockoutTime ≤ s.pwr.time) :
    exec (.authLockoutEnd p) s = .next (s.setAuth p { s.auth p with lockFrom := none }) := by
  simp only [exec, execAuthLockoutEnd, hlock, hover, if_true]

/-- Settles O59: each command's equation on the bus and in the columns that take it. -/
theorem managementBus : Obligations.ManagementBus := by
  refine ⟨?_, ?_, ?_, ?_, ?_, exec_factoryAlertPulseEnd_levels, exec_challengeNew_issues, exec_nonceExpiry_old,
    exec_authLockoutEnd_over⟩
  · intro s hserved
    refine ⟨exec_entdaa_won s hserved, exec_rstdaa_clears s hserved, exec_setdasa_static s hserved, fun o => ?_, fun o haddr => ?_⟩
    · have hall : exec (.enec none) s = .next (s.i3cOk []) := congrArg Host.Outcome.next (cccIdle_broadcast s hserved)
      have hone (haddr) : exec (.enec (some o)) s = .next (s.i3cOk []) := congrArg Host.Outcome.next (cccIdle_direct s hserved o haddr)
      exact ⟨hall, hall, fun haddr => ⟨hone haddr, hone haddr⟩⟩
    · have hread (bs) : Host.Outcome.next (s.cccRead o bs) = (.next (s.i3cOk bs) : Host.Outcome State Fault Refusal) :=
        congrArg Host.Outcome.next (cccRead_addressed s hserved o haddr bs)
      refine ⟨exec_setnewda_addressed s hserved o haddr, hread _, hread _, hread _, hread _, hread _, hread _,
        fun n hlong => ⟨?_, ?_⟩, fun n hshort => ⟨?_, ?_⟩⟩
      · rw [exec_setmwl_addressed s hserved o haddr, if_pos hlong]
      · rw [exec_setmrl_addressed s hserved o haddr, if_pos hlong]
      · rw [exec_setmwl_addressed s hserved o haddr, if_neg (Nat.not_le.mpr hshort)]
      · rw [exec_setmrl_addressed s hserved o haddr, if_neg (Nat.not_le.mpr hshort)]
  · intro s o hserved haddr
    exact ⟨exec_mctpPacketWrite_taken s o hserved haddr, exec_mctpPacketRead_none s o hserved haddr,
      exec_mctpPacketRead_first s o hserved haddr⟩
  · intro s u id hcol hu
    exact ⟨exec_setEndpointId_assignable id hcol hu, exec_getEndpointId_answers id hcol hu, exec_getEndpointUuid_answers id hcol hu,
      exec_getMctpVersionSupport_control id hcol hu, exec_getMessageTypeSupport_answers id hcol hu,
      exec_readNvmeMiDataStructure_controllers id hcol hu, exec_nvmSubsystemHealthStatusPoll_answers id hcol hu,
      exec_controllerHealthStatusPoll_answers id hcol hu, exec_eventLogRead_inRange id hcol hu,
      exec_calibrationRowRead_answers id hcol hu⟩
  · intro s u id hcol hu
    exact ⟨exec_configurationSet_stores id hcol hu, exec_configurationGet_answers id hcol hu,
      fun hopen => ⟨_, exec_getChallenge_open id hcol hu hopen, by rw [issueNonce_open .mi hopen]; rfl,
        by rw [issueNonce_open .mi hopen]; rfl⟩, fun bs c s1 => exec_eventLogClear_checked id hcol hu bs⟩
  · intro s u id hcol hu
    exact ⟨exec_miReset_request id hcol hu, fun row s1 => exec_calibrationRowWrite_started id hcol hu row,
      fun bs c s1 => exec_provision_checked id hcol hu bs, fun bs c s1 => exec_decommission_checked id hcol hu bs,
      exec_factoryTestVerifySlot_answers id hcol hu, exec_factoryTestAlert_pulses id hcol hu,
      exec_factoryTestEntropy_answers id hcol hu⟩

end Sys2Proof.Machine
end

section
/-!
Minted Reads and the Mint lanes: acceptance and grant (R467, R471), setup and consumption (R473, R482), and output (R464, R474, R475).
-/
set_option Elab.async false

namespace Sys2Proof.Machine

/-! ## Acceptance and grant (R467, R471) -/

section
variable (s : State) (h : Nat) (c : Cmd) (x : Ns) (harr : s.arrivedCmd h (fun o => decide (o = .minted)) = some (c, x))
include harr

theorem exec_mintedRead_refused (t : Status) (hcheck : s.mintCheck c x = some t) :
    exec (.mintedRead h) s = .next (s.toPost h c t) := by
  simp only [exec, execMintedRead, harr, hcheck]

/-- With its Mint keys and its namespace's keys loaded, and a lane of its class on its door, the command takes its sectors' places and
begins its acceptance. -/
theorem exec_mintedRead_accepted (hcheck : s.mintCheck c x = none) (hkeys : s.mintKeysLoaded c (s.mintKeyCount c) = true)
    (hready : s.xtsReady (nsOwner x) = true) (hlanes : (s.classLanes (s.classOf c.member) (s.mintDoor c)).isEmpty = false) (c1 : Cmd)
    (hc1 : c1 = { c with secs := (lbas c.slba c.count).map (fun a => s.readSec c.nsid a x false), phase := .accepting }) :
    exec (.mintedRead h) s = .next ((s.setCmd h c1).traceStart h c1 x.zoned) := by
  subst hc1
  simp only [exec, execMintedRead, harr, hcheck, hkeys, hready, hlanes, Bool.not_true, Bool.and_false, Bool.or_self, Bool.false_eq_true,
    if_false]

end

/-- A free lane is held by the earliest Minted Read that fits it, which waits no longer (R471). -/
theorem exec_mintLaneGrant_earliest (s s1 s2 : State) (l : Nat) (b : LaneBind) (w : Nat × Nat) (c : Cmd) (x : Ns)
    (hbind : s.mnt.laneTbl[l]? = some b) (henabled : b.enabled = true) (hopen : s.laneOpen l = true) (hfree : (s.lane l).st = .free)
    (hfirst : s.earliest (s.mnt.waiting.filter (fun w => s.laneFits l b w.1)) = some w) (hcmd : s.cmd w.1 = some c)
    (hns : s.ns c.nsid = some x)
    (hs1 : s1 = s.setLane l { st := .held, cmd := w.1, recipe := mintRecipe c.sqe, account := c.account })
    (hs2 : s2 = { s1 with mnt := { s1.mnt with waiting := s1.mnt.waiting.filter (fun v => decide (v.1 ≠ w.1)) } }) :
    exec (.mintLaneGrant l) s =
      .next (((s2.setCmd w.1 { c with lane := some l, secs := c.secs.map (beginSec x.zoned) }).registerKick).kick) := by
  subst hs2 hs1
  simp only [exec, execMintLaneGrant, hbind, henabled, hopen, hfree, hfirst, hcmd, hns, Bool.not_true, ne_eq, not_true_eq_false,
    decide_false, Bool.or_self, Bool.false_eq_true, if_false]

/-! ## Setup and consumption (R473, R482) -/

/-- The lane has consumed its next sector in this tick: the recipe's cost in blocks is counted, and the sector's output is complete. -/
def State.sectorConsumed (s : State) (l : Nat) (y : Sec) (seg out : Nat) : State :=
  let cost := (ofind s.mnt.recipes (s.lane l).recipe).elim 0 Recipe.cost
  let s1 := ((s.addBlocks (48 + l) (256 * cost)).stamp (s.lane l).cmd 7).setSec (s.lane l).cmd (s.lane l).next { y with st := .consumed }
  (s1.setLane l { s.lane l with
    next := (s.lane l).next + 1, produced := (s.lane l).produced + out, segLen := seg, outAt := s.ldg.tick,
    outBefore := (s.lane l).produced }).registerKick

section
variable (s : State) (l : Nat) (c : Cmd) (hcmd : s.laneCmd l = some c)
include hcmd

theorem exec_mintSetupEnd_early (hearly : s.ldg.tick < (s.lane l).outAt + 2048) : exec (.mintSetupEnd l) s = .next s := by
  simp only [exec, execMintSetupEnd, hcmd, hearly, decide_true, Bool.or_true, if_true]

/-- After the setup's ticks only the recipe's keys decide whether the lane consumes. -/
theorem exec_mintSetupEnd_over (hsetup : (s.lane l).st = .setup) (hover : (s.lane l).outAt + 2048 ≤ s.ldg.tick) :
    exec (.mintSetupEnd l) s = .next (if s.mintKeysLoaded c (s.mintKeyCount c) then s.setLane l { s.lane l with st := .consuming }
      else (s.raise .cryCause 2).mintEnd l stAccessDenied) := by
  simp only [exec, execMintSetupEnd, hcmd, hsetup, Nat.not_lt.mpr hover, ne_eq, not_true_eq_false, decide_false, Bool.or_self,
    Bool.false_eq_true, if_false]
  cases s.mintKeysLoaded c (s.mintKeyCount c) <;> rfl

section
variable (hconsuming : (s.lane l).st = .consuming) (hleft : (s.lane l).consumedAll = false)
include hconsuming hleft

/-- A sector in the ring, under its own key and with its seal, is consumed unless the segment's form or a limit refuses it. -/
theorem exec_sectorConsume_inRing (y : Sec) (hmore : (s.lane l).next = 0 ∨ 4096 * (s.lane l).next < (s.lane l).segLen)
    (hdue : (s.lane l).outAt + 2048 ≤ s.ldg.tick) (hnext : c.secs[(s.lane l).next]? = some y) (hclean : y.poison = false)
    (hring : y.st = .inRing) (hkey : s.keyMatches c y = true) (conforms : Bool) (seg out : Nat) :
    exec (.sectorConsume l true conforms seg out) s = .next (
      if !conforms || 4096 * c.count < seg || mintLimit seg < (s.lane l).produced + out then (s.raise .mntCause 3).mintEnd l stSegment
      else s.sectorConsumed l y seg out) := by
  have hguard : ¬(decide ((s.lane l).st ≠ .consuming) || (s.lane l).consumedAll || decide (s.ldg.tick < (s.lane l).outAt + 2048) ||
      decide (0 < (s.lane l).next) && decide ((s.lane l).segLen ≤ 4096 * (s.lane l).next)) = true := by
    simp only [hconsuming, hleft, Nat.not_lt.mpr hdue, ne_eq, not_true_eq_false, decide_false, Bool.false_or, Bool.and_eq_true,
      decide_eq_true_eq]
    omega
  have hkept : y.st ≠ .withdrawn := by simp [hring]
  have hseal : ¬(!y.zero && (!true || !s.keyMatches c y)) = true := by simp [hkey]
  simp only [exec, execSectorConsume, hcmd]
  rw [if_neg hguard]
  simp only [hnext]
  rw [if_neg (ne_true_of_eq_false hclean), if_neg hkept, if_neg (not_not_intro hring), if_neg hseal, State.sectorConsumed]
  cases ofind s.mnt.recipes (s.lane l).recipe <;> rfl

/-- The last byte's time is over: the segment is consumed, and a command whose whole output has left ends. -/
theorem exec_mintLaneEnd_over (hbegun : 0 < (s.lane l).next) (hlast : (s.lane l).segLen ≤ 4096 * (s.lane l).next)
    (hover : (s.lane l).outAt + ceilDiv ((s.lane l).segLen - 4096 * ((s.lane l).next - 1)) 2 ≤ s.ldg.tick) :
    exec (.mintLaneEnd l) s = .next (((s.stamp (s.lane l).cmd 6).setLane l { s.lane l with consumedAll := true }).mintDone l) := by
  simp only [exec, execMintLaneEnd, hcmd, hconsuming, hleft, hbegun, hlast, hover, decide_true, Bool.not_false, Bool.and_self, if_true]

end

/-! ## Output (R464, R474, R475) -/

section
variable (room : Nat) (pages : List (BitVec 64)) (hchunk : 0 < s.chunkBytes (s.lane l))
  (hturn : s.turnNow l (s.mintDoor c) = true) (hclear : s.turnClear (s.mintDoor c) = true)
include hchunk hturn hclear

/-- No part of a chunk leaves where the room is too small for it (log entry 132). -/
theorem exec_mintChunkTurn_noRoom (hsmall : room < s.chunkBytes (s.lane l)) :
    exec (.mintChunkTurn l room pages) s = .next (s.mintEnd l stOutputTooSmall) := by
  simp only [exec, execMintChunkTurn, hcmd, hturn, hclear, hsmall, Nat.pos_iff_ne_zero.mp hchunk, Bool.not_true, decide_false,
    Bool.or_self, Bool.false_eq_true, if_false, if_true]

section
variable (hroom : s.chunkBytes (s.lane l) ≤ room)
include hroom

theorem exec_mintChunkTurn_paused (hpaused : s.doorPaused (s.mintDoor c) = true) : exec (.mintChunkTurn l room pages) s =
    .next (s.setCmd (s.lane l).cmd { c with waitFrom := s.waitMark c.waitFrom }) := by
  simp only [exec, execMintChunkTurn, hcmd, hturn, hclear, hpaused, Nat.not_lt.mpr hroom, Nat.pos_iff_ne_zero.mp hchunk, Bool.not_true,
    decide_false, Bool.or_self, Bool.false_eq_true, if_false, if_true]

/-- A chunk whose pages are not logged leaves in its turn as free bytes (log entry 89), with its stamp at the end of its egress. -/
theorem exec_mintChunkTurn_leaves (hrunning : s.doorPaused (s.mintDoor c) = false)
    (hunlogged : s.mintDoor c ≠ .pcie ∨ s.logging c.account = false) (hheard : c.silent = false) (s1 : State)
    (hs1 : s1 = (s.setCmd (s.lane l).cmd { s.waitEnd c c.waitFrom with waitFrom := 0 }).stampAt (s.lane l).cmd 8
      (s.ldg.tick + s.chunkTicks (s.mintDoor c) (s.chunkBytes (s.lane l)))) :
    exec (.mintChunkTurn l room pages) s = .next ((((s1.freeBytes (s.chunkBytes (s.lane l))).2.dataToHost
      (s1.freeBytes (s.chunkBytes (s.lane l))).1).setLane l
        { s.lane l with sent := (s.lane l).sent + s.chunkBytes (s.lane l) }).mintDone l) := by
  subst hs1
  have hlogs : (decide (s.mintDoor c = .pcie) && s.logging c.account) = false := by
    simpa only [Bool.and_eq_false_iff, decide_eq_false_iff_not] using hunlogged
  simp only [exec, execMintChunkTurn, hcmd, hturn, hclear, hrunning, hlogs, hheard, Nat.not_lt.mpr hroom, Nat.pos_iff_ne_zero.mp hchunk,
    Bool.not_true, Bool.false_and, decide_false, Bool.or_self, Bool.false_eq_true, if_false]

end

end

end

/-- Settles O58: each row's equation, read in the cases that the statement names. -/
theorem mintLanes : Obligations.MintLanes := by
  refine ⟨fun s h c x harr => ⟨exec_mintedRead_refused s h c x harr, fun c1 hcheck hkeys hready hlanes =>
      exec_mintedRead_accepted s h c x harr hcheck hkeys hready hlanes c1⟩,
    exec_mintLaneGrant_earliest, ?_, ?_, ?_, exec_mintLaneEnd_over⟩
  · intro s l c hcmd hsetup
    refine ⟨exec_mintSetupEnd_early s l c hcmd, fun hover => ?_⟩
    rw [exec_mintSetupEnd_over s l c hcmd hsetup hover]
    exact ⟨fun hloaded => congrArg Host.Outcome.next (if_pos hloaded),
      fun hgone => congrArg Host.Outcome.next (if_neg (ne_true_of_eq_false hgone))⟩
  · intro s s1 l seg out c y hcmd hconsuming hleft hmore hdue hnext hclean hring _ hkey
    have heq (conforms) := exec_sectorConsume_inRing s l c hcmd hconsuming hleft y hmore hdue hnext hclean hring hkey conforms seg out
    refine ⟨fun r hrecipe hseg hlimit hs1 => ?_, heq false⟩
    have hwithin : (!true || decide (4096 * c.count < seg) || decide (mintLimit seg < (s.lane l).produced + out)) = false := by
      simp [hseg, hlimit]
    rw [heq, hwithin, if_neg Bool.false_ne_true, hs1, State.sectorConsumed, hrecipe, Option.elim_some]
  · intro s s1 l room pages c hcmd hchunk hturn hclear
    exact ⟨exec_mintChunkTurn_noRoom s l c hcmd room pages hchunk hturn hclear,
      exec_mintChunkTurn_paused s l c hcmd room pages hchunk hturn hclear,
      fun hroom hrunning hunlogged hheard =>
        exec_mintChunkTurn_leaves s l c hcmd room pages hchunk hturn hclear hroom hrunning hunlogged hheard s1⟩

end Sys2Proof.Machine
end

section
/-!
The chain contexts: starts and appends (R365, R366), descriptors (R358, R362), links (R367), restarts (R370) and the ring's head (R363).
-/
set_option Elab.async false

namespace Sys2Proof.Machine

/-! ## Starts and appends (R365, R366) -/

/-- A RUN that rises starts a chain that does not run and is not halted (R365). -/
theorem runRises_standing {s : State} {ch : Nat} (hst : (s.chain ch).st = .stopped ∨ (s.chain ch).st = .idle) :
    s.runRises ch = s.chainStart ch := by
  rcases hst with hst | hst <;> simp only [State.runRises, hst]

section
variable (s : State) (who : Requester) (ch : Nat) (ws : List (Nat × Nat × List Byte)) (hmay : s.chWrites who ch = true)
include hmay

theorem exec_chainRun_rises (hrun : s.chRun ch = false) :
    exec (.chainRun who ch ws) s = .next (((s.ownerWrites ws).setFld (chReg Reg.xfrChCtl ch) 0 1 1).runRises ch) :=
  congrArg Host.Outcome.next (if_pos (by simp [hmay, hrun]))

section
variable (s1 : State) (n : Nat) (hs1 : s1 = (s.ownerWrites ws).setReg (chReg Reg.xfrChAppend ch) (BitVec.ofNat 32 n))
include hs1

theorem exec_appendCountWrite_running (hst : (s1.chain ch).st = .running) : exec (.appendCountWrite who ch n ws) s = .next s1 := by
  subst hs1
  simp only [exec, execAppendCountWrite, hmay, hst, if_true]

theorem exec_appendCountWrite_stopped (hst : (s1.chain ch).st = .stopped) :
    exec (.appendCountWrite who ch n ws) s = .next (s1.chainStart ch) := by
  subst hs1
  simp only [exec, execAppendCountWrite, hmay, hst, if_true]

/-- An idle chain with descriptors to run reads its tail's LINK again 64 ticks after the write (R367). -/
theorem exec_appendCountWrite_idle (hst : (s1.chain ch).st = .idle) (hnew : s1.chAppend ch ≠ s1.chConsumed ch)
    (hunset : (s1.chain ch).reread = none) : exec (.appendCountWrite who ch n ws) s =
      .next (s1.setChain ch { s1.chain ch with reread := some (s1.ldg.tick + 64) }) := by
  subst hs1
  simp only [exec, execAppendCountWrite, hmay, hst, hnew, hunset, ne_eq, not_false_eq_true, decide_true, Option.isNone_none,
    Bool.and_self, if_true]

end

end

/-! ## Descriptors (R358, R362) -/

section
variable (s : State) (ch : Nat) (d : Desc) (hst : (s.chain ch).st = .running) (hcur : (s.chain ch).cur = some d)
  (hfree : (s.chain ch).held = none) (hlink : (s.chain ch).linkWait = false)
include hst hcur hfree hlink

/-- Without a PCIe error the copy or fill in hand writes what is left of it, and ends with status 5 where a poisoned line moved. -/
theorem runMove_whole (s1 : State)
    (hs1 : s1 = ((if d.op = 1 then s.touchDram d.srcSpace d.src else s).touchDram d.dstSpace d.dst).moveBytes ch d
      (d.length - (s.chain ch).done)) :
    s.runMove ch d.op none = s1.descEnd ch (if (s1.chain ch).poisoned then 5 else 0) false := by
  subst hs1
  simp only [State.runMove, hst, hcur, hfree, hlink, ne_eq, not_true_eq_false, decide_false, Option.isSome_none, Bool.or_self,
    Bool.false_eq_true, if_false]

section
variable (hxfr : s.islandOn .xfr = true)
include hxfr

theorem exec_descriptorCopy_whole (hop : d.op = 1) (s1 : State)
    (hs1 : s1 = ((s.touchDram d.srcSpace d.src).touchDram d.dstSpace d.dst).moveBytes ch d (d.length - (s.chain ch).done)) :
    exec (.descriptorCopy ch none) s = .next (s1.descEnd ch (if (s1.chain ch).poisoned then 5 else 0) false) := by
  rw [← runMove_whole s ch d hst hcur hfree hlink s1 (by rw [hs1, if_pos hop]), hop]
  exact congrArg Host.Outcome.next (if_pos hxfr)

theorem exec_descriptorFill_whole (hop : d.op = 2) (s1 : State)
    (hs1 : s1 = (s.touchDram d.dstSpace d.dst).moveBytes ch d (d.length - (s.chain ch).done)) :
    exec (.descriptorFill ch none) s = .next (s1.descEnd ch (if (s1.chain ch).poisoned then 5 else 0) false) := by
  rw [← runMove_whole s ch d hst hcur hfree hlink s1 (by rw [hs1, if_neg (by omega)]), hop]
  exact congrArg Host.Outcome.next (if_pos hxfr)

section
variable (hop : d.op = 3)
include hop

/-- What a fence does once it is in hand: it waits for writes to DRAM, or ends by what the zero-length read of host memory tells. -/
theorem exec_fence_inHand (err : Option Nat) : exec (.fence ch err) s = .next (
    if (s.chain ch).wroteDram && !(decide (s.mem.occA = 0) && decide (s.mem.occB = 0)) then
      { s with mem := { s.mem with drainEmpty := true } }
    else (if (s.chain ch).wroteHost then err else none).elim
      ((s.setChain ch { s.chain ch with wroteHost := false, wroteDram := false }).descEnd ch 0 true) (s.chainHalt ch 1 1)) := by
  simp only [exec, execFence, hst, hcur, hfree, hlink, hop, hxfr, ne_eq, not_true_eq_false, decide_false, Option.isSome_none,
    Bool.not_true, Bool.or_self, Bool.false_eq_true, if_false]
  cases (if (s.chain ch).wroteHost then err else none) <;> rfl

theorem exec_fence_acknowledged (hdram : (s.chain ch).wroteDram = false) : exec (.fence ch none) s =
    .next ((s.setChain ch { s.chain ch with wroteHost := false, wroteDram := false }).descEnd ch 0 true) := by
  rw [exec_fence_inHand s ch d hst hcur hfree hlink hxfr hop, hdram, Bool.false_and, if_neg Bool.false_ne_true, ite_self, Option.elim_none]

theorem exec_fence_failedWrite (a : Nat) (hdram : (s.chain ch).wroteDram = false) (hhost : (s.chain ch).wroteHost = true) :
    exec (.fence ch (some a)) s = .next (s.chainHalt ch 1 1 a) := by
  rw [exec_fence_inHand s ch d hst hcur hfree hlink hxfr hop, hdram, Bool.false_and, if_neg Bool.false_ne_true, if_pos hhost,
    Option.elim_some]

/-- Writes that stand in a subchannel's buffer must drain before the fence ends. -/
theorem exec_fence_buffered (err : Option Nat) (hdram : (s.chain ch).wroteDram = true) (hocc : s.mem.occA ≠ 0 ∨ s.mem.occB ≠ 0) :
    exec (.fence ch err) s = .next { s with mem := { s.mem with drainEmpty := true } } := by
  have hopen : ((s.chain ch).wroteDram && !(decide (s.mem.occA = 0) && decide (s.mem.occB = 0))) = true := by
    rcases hocc with hocc | hocc <;> simp [hdram, hocc]
  rw [exec_fence_inHand s ch d hst hcur hfree hlink hxfr hop, if_pos hopen]

end

end

end

/-! ## Links (R367) -/

section
variable (s : State) (ch : Nat) (hxfr : s.islandOn .xfr = true)
include hxfr

section
variable (hst : (s.chain ch).st = .running) (hwait : (s.chain ch).linkWait = true)
include hst hwait

theorem exec_linkReadReturn_returns : exec (.linkReadReturn ch false) s = .next (s.linkReturn ch) := by
  simp only [exec, execLinkReadReturn, hst, hwait, hxfr, decide_true, Bool.and_self, Bool.false_eq_true, if_true, if_false]

theorem exec_linkReadReturn_fails : exec (.linkReadReturn ch true) s =
    .next ((s.setChain ch { s.chain ch with linkWait := false }).chainHalt ch 1 2 ((s.chain ch).curAddr + 56)) := by
  simp only [exec, execLinkReadReturn, hst, hwait, hxfr, decide_true, Bool.and_self, if_true]

end

theorem exec_linkReread_due (t : Nat) (hst : (s.chain ch).st = .running ∨ (s.chain ch).st = .idle)
    (hset : (s.chain ch).reread = some t) (hdue : t ≤ s.ldg.tick) : exec (.linkReread ch) s =
      .next ((s.setChain ch { s.chain ch with reread := none, linkWait := true, final := true }).chState ch .running) := by
  have hgo : (decide (t ≤ s.ldg.tick) && s.islandOn .xfr && (decide ((s.chain ch).st = .running) || decide ((s.chain ch).st = .idle)))
      = true := by
    rcases hst with hst | hst <;> simp [hst, hdue, hxfr]
  simp only [exec, execLinkReread, hset, hgo, if_true]

end

/-! ## Restarts and the ring's head (R363, R370) -/

/-- A halted chain that no record keeps waiting restarts at once (R370, R375). -/
theorem restartChain_ready (s : State) (who : Requester) (ch action : Nat) (hmay : s.chWrites who ch = true)
    (hst : (s.chain ch).st = .halted) (hfree : (s.chain ch).held = none) :
    s.restartChain who ch action = s.chainRestart ch action := by
  simp only [State.restartChain, hmay, hst, hfree, decide_true, Bool.and_self, Option.isSome_none, Bool.false_eq_true, if_true, if_false]

theorem exec_cqHeadWrite_noRecord (s : State) (who : Requester) (ch v : Nat) (hmay : s.chWrites who ch = true)
    (hfree : ((s.setFld (chReg Reg.xfrChCqHead ch) 0 16 v).chain ch).held = none) :
    exec (.cqHeadWrite who ch v) s = .next (s.setFld (chReg Reg.xfrChCqHead ch) 0 16 v) := by
  simp only [exec, execCqHeadWrite, hmay, hfree, if_true]

/-- Settles O44: each row's equation, read in the cases that the statement names. -/
theorem chainsStartAndStop : Obligations.ChainsStartAndStop := by
  refine ⟨?_, ?_, ?_, ?_, ?_, ?_, exec_cqHeadWrite_noRecord⟩
  · intro s s1 who ch ws hmay hrun hs1 hst
    rw [exec_chainRun_rises s who ch ws hmay hrun, ← hs1, runRises_standing hst]
  · intro s s1 who ch n ws hmay hs1
    exact ⟨exec_appendCountWrite_running s who ch ws hmay s1 n hs1, exec_appendCountWrite_stopped s who ch ws hmay s1 n hs1,
      exec_appendCountWrite_idle s who ch ws hmay s1 n hs1⟩
  · intro s ch d hxfr hst hcur hfree hlink
    exact ⟨fun hop => ⟨_, rfl, exec_descriptorCopy_whole s ch d hst hcur hfree hlink hxfr hop _ rfl⟩,
      fun hop => ⟨_, rfl, exec_descriptorFill_whole s ch d hst hcur hfree hlink hxfr hop _ rfl⟩,
      exec_fence_acknowledged s ch d hst hcur hfree hlink hxfr,
      fun a hop => exec_fence_failedWrite s ch d hst hcur hfree hlink hxfr hop a,
      fun hop => exec_fence_buffered s ch d hst hcur hfree hlink hxfr hop none⟩
  · intro s ch hxfr hst hwait
    exact ⟨exec_linkReadReturn_returns s ch hxfr hst hwait, exec_linkReadReturn_fails s ch hxfr hst hwait⟩
  · intro s ch t hxfr
    exact exec_linkReread_due s ch hxfr t
  · intro s who ch hmay hst hfree
    have hrestart (action) : Host.Outcome.next (s.restartChain who ch action) =
        (.next (s.chainRestart ch action) : Host.Outcome State Fault Refusal) :=
      congrArg Host.Outcome.next (restartChain_ready s who ch action hmay hst hfree)
    exact ⟨hrestart 0, hrestart 1, hrestart 2⟩

end Sys2Proof.Machine
end

section
/-!
The account contexts: reads that complete or fail (R354, R371), the selected context (R376) and its restarts (R373).
-/
set_option Elab.async false

namespace Sys2Proof.Machine

/-! ## Reads that complete or fail (R354, R371) -/

/-- Context `a` after its outstanding read `r` has failed: the read is marked, and nothing is latched (R371). -/
def State.readFailed (s : State) (a : Nat) (r : Nat × Nat) : Ctx :=
  { s.ctx a with reads := dropFirst r (s.ctx a).reads, failed := (s.ctx a).failed ++ [r] }

section
variable (s : State) (a p r : Nat) (hread : (p, r) ∈ (s.ctx a).reads)
include hread

theorem exec_contextReadComplete_outstanding : exec (.contextReadComplete a p r) s =
    .next ((s.setCtx a { s.ctx a with reads := dropFirst (p, r) (s.ctx a).reads }).issueAll) :=
  congrArg Host.Outcome.next (if_pos (List.contains_iff_mem.mpr hread))

/-- A failure of an earlier tick keeps what it latched: the further read is only marked (R371). -/
theorem exec_ctxHalt_further (k : Nat) (ad : BitVec 64) (hhalted : (s.ctx a).halted = true) (hearlier : (s.ctx a).haltAt ≠ s.ldg.tick) :
    exec (.ctxHalt a p r k ad) s = .next (s.setCtx a (s.readFailed a (p, r))) :=
  congrArg Host.Outcome.next ((if_pos (List.contains_iff_mem.mpr hread)).trans
    ((if_neg (by simp [hhalted])).trans (if_neg (by simp [hearlier]))))

end

/-- The first entry fetch to fail halts its context, which latches it without a sequence number (R371). -/
theorem exec_ctxHalt_fetch (s : State) (a r k : Nat) (ad : BitVec 64) (hread : (0, r) ∈ (s.ctx a).reads)
    (hopen : (s.ctx a).halted = false) : exec (.ctxHalt a 0 r k ad) s = .next ((s.setCtx a { s.readFailed a (0, r) with
      halted := true, kind := k % 8, purpose := 0, errAddr := ad, errSeq := 0xFFFFFFFF, haltAt := s.ldg.tick,
      haltPos := (s.ctx a).reads.findIdx (fun r' => decide (r' = (0, r))) }).raise .xfrCause 0) :=
  congrArg Host.Outcome.next ((if_pos (List.contains_iff_mem.mpr hread)).trans (if_pos (by simp [hopen])))

/-! ## The selected context (R373, R376) -/

theorem exec_xfrCtxSelWrite_loads (s : State) (who : Requester) (a : BitVec 11) (hmay : s.mayWrite who Reg.xfrCtxSel = true) :
    exec (.xfrCtxSelWrite who a) s = .next ((s.setReg Reg.xfrCtxSel (a.setWidth 32)).loadCtx a.toNat) :=
  congrArg Host.Outcome.next (if_pos hmay)

section
variable (s : State) (who : Requester) (hmay : s.mayWrite who Reg.xfrCtxCtl = true) (hhalted : (s.ctx s.selCtx).halted = true)
include hmay hhalted

theorem exec_contextRestartRetry_halted : exec (.contextRestartRetry who) s = .next ((s.setCtx s.selCtx { s.ctx s.selCtx with
      halted := false, queue := (s.ctx s.selCtx).failed.filter s.readLive ++ (s.ctx s.selCtx).queue, failed := [] }).issueAll) :=
  congrArg Host.Outcome.next (if_pos (by simp [hmay, hhalted]))

/-- Where no read failed no command dies, so every read is kept and only the halt ends (R373). -/
theorem exec_contextRestartFail_noneFailed (hnone : (s.ctx s.selCtx).failed = []) : exec (.contextRestartFail who) s =
    .next (((s.setCtx s.selCtx { s.ctx s.selCtx with halted := false }).kick).issueAll) := by
  have hkept (l : List (Nat × Nat)) : l.filter (fun _ => true) = l := List.filter_eq_self.mpr fun _ _ => rfl
  simp only [exec, execContextRestartFail, hmay, hhalted, Bool.and_self, if_true, hnone, List.filter_nil, List.map_nil, List.any_nil,
    List.contains_nil, Bool.and_false, Bool.not_false, hkept, List.foldl_nil, Bool.false_eq_true, if_false]

end

/-- Settles O45: each row's equation; a failed read's mark is the one that `State.readFailed` names. -/
theorem contextReads : Obligations.ContextReads :=
  ⟨exec_contextReadComplete_outstanding,
    fun s a r k ad => exec_ctxHalt_fetch s a r k ad,
    fun s a p r k ad hread => exec_ctxHalt_further s a p r hread k ad,
    exec_xfrCtxSelWrite_loads,
    fun s who hmay hhalted =>
      ⟨exec_contextRestartRetry_halted s who hmay hhalted, exec_contextRestartFail_noneFailed s who hmay hhalted⟩⟩

end Sys2Proof.Machine
end

section
/-!
The state after reset is canonical; and the fuses (R454), which a life-cycle change alone burns, where every check of R540 passes.
-/
set_option Elab.async false

namespace Sys2Proof.Machine

/-- Settles O7: nothing is written yet, so that each map is empty. -/
theorem canonicalReset : Obligations.CanonicalReset := ⟨rfl, rfl, rfl⟩

theorem Kept.fuses {Q : List Instr} {F : Fuses} {s : State} (h : Kept Q F s) : s.fuses = F := Prod.ext h.life h.key

/-- The second check of R540 passes where no check fails. -/
theorem actionAdmitted_of_authFails {s : State} {p : AuthPath} {want : Nat} {a : Auth} (h : s.authFails p want a = 0) :
    s.actionAdmitted want = true := by
  by_contra hadmit
  have hfails : s.authFails p want a = 1 ∨ s.authFails p want a = 2 := by
    rw [State.authFails]
    split
    · exact .inl rfl
    · exact .inr (if_pos (by simpa using hadmit))
  omega

section
variable {s : State} (h : Canonical s) (id action : Nat) (a : Auth) (life : LifeCycle) (key : BitVec 256)
include h

theorem lifeChange_fuses : (s.lifeChange id action a life key).fuses =
    if s.authFails .mi action a = 0 then (life, some key) else s.fuses := by
  obtain ⟨s1, hauth⟩ : ∃ s1, s.authorise .mi action a = (s.authFails .mi action a, s1) := ⟨_, rfl⟩
  have hs1 := kept_authorise_eq hauth (kept_of h)
  rw [lifeChange_checked id action a life key hauth]
  split
  · have hburnt : Canonical { s1 with cry := { s1.cry with life := life, deviceKey := some key } } := hs1.canonical
    exact (kept_miReply id miOk 0 [] (kept_raise .mgtCause 6 (kept_of hburnt))).fuses
  · exact (kept_authReply _ _ hs1).fuses

/-- A request for a life-cycle change that is left alone or refused burns nothing, and one that is served burns only what its
authorisation admits. -/
theorem miServe_lifeChange_fuses {t : State} (e : s.miServe id false false true (fun s => s.lifeChange id action a life key) = t) :
    t.fuses = s.fuses ∨ s.actionAdmitted action = true ∧ s.miTake.authFails .mi action a = 0 ∧ t.fuses = (life, some key) := by
  subst e
  have htake : Canonical s.miTake := (kept_miTake (kept_of h)).canonical
  rcases miServe_cases s id false false true (fun s => s.lifeChange id action a life key) with e | e | e <;> rw [e]
  · exact .inl rfl
  · rw [lifeChange_fuses htake]
    split
    next hpass => exact .inr ⟨actionAdmitted_of_authFails (s := s.miTake) hpass, hpass, rfl⟩
    next => exact .inl rfl
  · exact .inl (kept_miRefuse id (kept_of htake)).fuses

end

/-- Settles O9: a life-cycle change burns what its authorisation's checks admit, and every other command keeps the fuses. -/
theorem fusesBurnOnlyByLifeCycle : Obligations.FusesBurnOnlyByLifeCycle := by
  intro c s t h e
  cases hc : burnsFuses c with
  | false => exact .inl (exec_kept c hc (kept_of h) t e).fuses
  | true =>
    obtain ⟨id, auth, rfl⟩ | ⟨id, auth, rfl⟩ := burnsFuses_true hc
    · obtain hsame | ⟨hadmit, hpass, hburnt⟩ := miServe_lifeChange_fuses h id 4 _ _ _ (Host.Outcome.next.inj e)
      · exact .inl hsame
      · have ⟨hmode, hlife⟩ := Bool.and_eq_true_iff.mp hadmit
        exact .inr (.inl ⟨id, auth, rfl, of_decide_eq_true hmode, of_decide_eq_true hlife, hpass, hburnt⟩)
    · obtain hsame | ⟨hadmit, hpass, hburnt⟩ := miServe_lifeChange_fuses h id 5 _ _ _ (Host.Outcome.next.inj e)
      · exact .inl hsame
      · have ⟨hmode, hlife⟩ := Bool.and_eq_true_iff.mp hadmit
        exact .inr (.inr ⟨id, auth, rfl, of_decide_eq_true hmode, of_decide_eq_true hlife, hpass, hburnt⟩)

end Sys2Proof.Machine
end

section
/-!
DDR_ALERT_N (R418): what an event record leaves in the recorder, and the row.
-/
set_option Elab.async false

namespace Sys2Proof.Machine

/-! ## Event records (R547) -/

theorem setDropped_evt (s : State) : s.setDropped.evt = s.evt := by
  obtain ⟨r, h⟩ := setDropped_form s
  rw [h]

/-- No register decides what a record does to the recorder. -/
theorem event_evt_regs (s : State) (r : List (Nat × Word)) (ty : Nat) (d : List Byte) :
    (State.event { s with regs := r } ty d).evt = (s.event ty d).evt := by
  simp only [State.event]
  split
  · split <;> rfl
  · split
    · rfl
    · split
      · rfl
      · rw [setDropped_evt, setDropped_evt]

theorem event_queues (s : State) (ty : Nat) (d : List Byte) (hready : s.evt.ready = true) (hroom : s.evt.full = false)
    (hshort : s.evt.queue.length < 1024) : (s.event ty d).evt.queue = s.evt.queue ++ [s.evRec ty d] := by
  simp [State.event, hready, hroom, hshort]

/-- A record and its propagation change no more than the registers, the recorder, and what the cause tree drives. -/
theorem treeSync_event_form (old s : State) (ty : Nat) (bs : List Byte) : ∃ r e p m d c, treeSync old (s.event ty bs) =
    { s with regs := r, evt := e, mgt := { s.mgt with alertPipe := p, msix := m, msixPend := d, clockStopped := c } } := by
  obtain ⟨r, e, hevent⟩ := event_form s ty bs
  obtain ⟨p, m, d, c, htree⟩ := treeSync_form old { s with regs := r, evt := e }
  exact ⟨r, e, p, m, d, c, (congrArg (treeSync old) hevent).trans htree⟩

/-! ## The row (R418) -/

/-- MEM's leaf with DDR_ALERT set. -/
def State.ddrAlerted (s : State) : State := s.setReg Reg.memCause (s.reg Reg.memCause ||| oneBit 5)

theorem exec_ddrAlert_on (s : State) (hmem : s.islandOn .mem = true) :
    exec .ddrAlert s = .next (treeSync s (s.ddrAlerted.event 0x9C05 (s.leafDetail .memCause))) := by
  simp only [exec, execDdrAlert, hmem, if_true, State.raiseEach, State.raiseWith, leafIsland, leafReg, leafPlace]
  rfl

/-- Settles O40: the bit is set, one record is written, and propagation reaches no register. -/
theorem ddrAlertOnlyRecords : Obligations.DdrAlertOnlyRecords := by
  intro s hmem
  refine ⟨_, exec_ddrAlert_on s hmem, ?_, ?_, ?_, ?_, ?_⟩
  · rw [treeSync_reg, event_reg _ _ _ (by decide), State.ddrAlerted, reg_setReg_same]
    exact bitOf_or_oneBit _ (by decide)
  · obtain ⟨r, e, p, m, d, c, h⟩ := treeSync_event_form s s.ddrAlerted 0x9C05 (s.leafDetail .memCause)
    rw [h]
    rfl
  · rw [treeSync_evt]
    exact event_evt_regs s _ _ _
  · intro hready hroom hshort
    rw [treeSync_evt]
    exact event_queues s.ddrAlerted _ _ hready hroom hshort
  · intro o hleaf hevt
    rw [treeSync_reg, event_reg _ _ _ hevt]
    exact reg_setReg_other s _ hleaf

end Sys2Proof.Machine
end

section
/-!
The requesters' shadows of LDG_TICK_HI and PWR_TIME_HI (R154, R566).
-/
set_option Elab.async false

namespace Sys2Proof.Machine

/-! ## The latched registers -/

theorem readReg_tickHi (s : State) (w : Requester) : s.readReg w (Reg.ldgTick + 4) =
    if s.regAlive (Reg.ldgTick + 4) && reaches w (Reg.ldgTick + 4) false then
      BitVec.ofNat 32 ((ofind s.pwr.tickShadow (reqNum w)).getD 0) else 0 := by
  rw [State.readReg, if_pos rfl]

theorem readReg_timeHi (s : State) (w : Requester) : s.readReg w (Reg.pwrTime + 4) =
    if s.regAlive (Reg.pwrTime + 4) && reaches w (Reg.pwrTime + 4) false then
      BitVec.ofNat 32 ((ofind s.pwr.timeShadow (reqNum w)).getD 0) else 0 := by
  rw [State.readReg, if_neg (show ¬Reg.pwrTime + 4 = Reg.ldgTick + 4 by decide), if_pos rfl]

/-! ## The reads that latch (R154, R525) -/

/-- The upper half of LDG_TICK latched for a requester. -/
def State.latchTick (s : State) (who : Requester) : State :=
  { s with pwr := { s.pwr with tickShadow := oput s.pwr.tickShadow (reqNum who) (s.ldg.tick / 2 ^ 32) } }

/-- The upper half of device time latched for a requester. -/
def State.latchTime (s : State) (who : Requester) : State :=
  { s with pwr := { s.pwr with timeShadow := oput s.pwr.timeShadow (reqNum who) (s.pwr.time / 2 ^ 32) } }

section
variable (s : State) (who : Requester)

theorem latchTick_regAlive (o : Nat) : (s.latchTick who).regAlive o = s.regAlive o := rfl

theorem latchTime_regAlive (o : Nat) : (s.latchTime who).regAlive o = s.regAlive o := rfl

theorem latchTick_tickHi_own (halive : s.regAlive (Reg.ldgTick + 4) = true) (hreach : reaches who (Reg.ldgTick + 4) false = true) :
    (s.latchTick who).readReg who (Reg.ldgTick + 4) = BitVec.ofNat 32 (s.ldg.tick / 2 ^ 32) := by
  rw [readReg_tickHi, latchTick_regAlive, if_pos (Bool.and_eq_true_iff.mpr ⟨halive, hreach⟩), State.latchTick, ofind_oput_same, Option.getD_some]

theorem latchTime_timeHi_own (halive : s.regAlive (Reg.pwrTime + 4) = true) (hreach : reaches who (Reg.pwrTime + 4) false = true) :
    (s.latchTime who).readReg who (Reg.pwrTime + 4) = BitVec.ofNat 32 (s.pwr.time / 2 ^ 32) := by
  rw [readReg_timeHi, latchTime_regAlive, if_pos (Bool.and_eq_true_iff.mpr ⟨halive, hreach⟩), State.latchTime, ofind_oput_same, Option.getD_some]

variable (w : Requester)

theorem latchTick_tickHi_other (hne : reqNum w ≠ reqNum who) :
    (s.latchTick who).readReg w (Reg.ldgTick + 4) = s.readReg w (Reg.ldgTick + 4) := by
  rw [readReg_tickHi, readReg_tickHi, latchTick_regAlive, State.latchTick, ofind_oput_other _ _ hne]

theorem latchTime_timeHi_other (hne : reqNum w ≠ reqNum who) :
    (s.latchTime who).readReg w (Reg.pwrTime + 4) = s.readReg w (Reg.pwrTime + 4) := by
  rw [readReg_timeHi, readReg_timeHi, latchTime_regAlive, State.latchTime, ofind_oput_other _ _ hne]

theorem latchTick_timeHi : (s.latchTick who).readReg w (Reg.pwrTime + 4) = s.readReg w (Reg.pwrTime + 4) := by
  rw [readReg_timeHi, readReg_timeHi]
  rfl

theorem latchTime_tickHi : (s.latchTime who).readReg w (Reg.ldgTick + 4) = s.readReg w (Reg.ldgTick + 4) := by
  rw [readReg_tickHi, readReg_tickHi]
  rfl

end

/-! ## Requesters -/

/-- A function BAR holds member pages alone, which lie above every latched register (R562). -/
theorem not_reaches_func (f o : Nat) (w : Bool) (h : o < 0x800000) : reaches (.func f) o w = false := by
  rw [reaches]
  split
  · rfl
  · simp only [Bool.and_eq_false_iff, decide_eq_false_iff_not]
    omega

theorem reqNum_mdp_injective : Function.Injective fun n : Fin 4 => reqNum (.mdp n) :=
  fun _ _ h => Fin.ext (Nat.add_left_cancel h)

/-- Settles O47: each latch is the requester's own, and a function BAR reaches no latched register. -/
theorem requesterShadows : Obligations.RequesterShadows := by
  refine ⟨fun s who halive halive' hreach hreach' => ?_, fun s who halive halive' hreach hreach' => ?_, fun f m n => ?_, fun s f o ho => ?_⟩
  · exact ⟨_, congrArg Host.Outcome.next (if_pos (by simp [halive, hreach])), latchTick_tickHi_own s who halive' hreach',
      latchTick_tickHi_other s who, latchTick_timeHi s who, rfl⟩
  · exact ⟨_, congrArg Host.Outcome.next (if_pos (by simp [halive, hreach])), latchTime_timeHi_own s who halive' hreach',
      latchTime_timeHi_other s who, latchTime_tickHi s who, rfl⟩
  · have hn : n.val < 4 := n.isLt
    exact ⟨by simp only [reqNum]; omega, by decide, by simp only [reqNum]; omega, reqNum_mdp_injective.ne, rfl⟩
  · have hlow : o < 0x800000 := by
      simp only [List.mem_cons, List.not_mem_nil, or_false] at ho
      rcases ho with rfl | rfl | rfl | rfl <;> decide
    have hnone (o : Nat) (h : o < 0x800000) : (s.regAlive o && reaches (.func f) o false) = false := by
      rw [not_reaches_func f o false h, Bool.and_false]
    exact ⟨if_neg (by simp [hnone o hlow]), congrArg Host.Outcome.next (if_neg (by simp [hnone Reg.ldgTick (by decide)])),
      congrArg Host.Outcome.next (if_neg (by simp [hnone Reg.pwrTime (by decide)]))⟩

end Sys2Proof.Machine
end

section
/-!
The output of a closed loop (R517): its clamps, and the pin it stands on.
-/
set_option Elab.async false

namespace Sys2Proof.Machine

/-- Without a waiting request nothing opens or closes the loop (R516). -/
theorem syncClose_none (s : State) (n : Nat) (h : (s.loop n).pendingClose = none) : s.syncClose n = s := by
  simp only [State.syncClose, h]

/-! ## The clamps -/

/-- A value clamped to a range and then to a step around an old one: it stays in the range and within the step. -/
theorem clamp_step {lo hi old want v : Int} {vel : Nat} (hlo : lo ≤ old) (hhi : old ≤ hi)
    (hv : v = clampInt (old - vel) (old + vel) (clampInt lo hi want)) : lo ≤ v ∧ v ≤ hi ∧ v - old ≤ vel ∧ old - v ≤ vel := by
  simp only [clampInt] at hv
  omega

/-! ## The written output -/

/-- A record that is not the default is read back, whatever the order of the map. -/
theorem cget_cset_of_ne {β : Type} [DecidableEq β] {d v : β} (m : List (Nat × β)) (k : Nat) (h : v ≠ d) : cget d (cset d m k v) k = v := by
  induction m with
  | nil => simp [cset, cget, h]
  | cons e m ih =>
    obtain ⟨j, w⟩ := e
    rw [cset]
    split
    · simp [cget]
    · split
      · simp [cget]
      next hne => simp [cget, Ne.symm hne, ih]

theorem loopOut_drive (s : State) (n v : Nat) (h : v < 2 ^ 16) : (s.drive n v).loopOut n = v := by
  rw [State.loopOut, Int.natCast_inj]
  exact (fld_setFld_same s (loopReg Reg.loopStatus n) 16 16 v (by decide)).trans (Nat.mod_eq_of_lt h)

/-- A loop's output stands on its pin (R52, R53). -/
theorem drive_pins (s : State) (n v : Nat) (h : v < 2 ^ 16) :
    (n = 0 → (s.drive n v).pins.vrefOut = some ((s.drive n v).loopOut 0).toNat) ∧
    (n = 1 → (s.drive n v).pins.chgPwm = ((s.drive n v).loopOut 1).toNat) ∧
    (n = 2 → (s.drive n v).pins.flioOut = some ((s.drive n v).loopOut 2).toNat) ∧
    (n = 3 → (s.drive n v).pins.spareOut = ((s.drive n v).loopOut 3).toNat) := by
  refine ⟨?_, ?_, ?_, ?_⟩ <;> rintro rfl <;> rw [loopOut_drive _ _ _ h, Int.toNat_natCast] <;> rfl

/-! ## The output tick -/

/-- The output that the loop asks for: the profile with the correction held to its limit. -/
def State.loopWant (s : State) (n : Nat) : Int :=
  let x := s.loop n
  roundPos x + clampInt (-((s.loopCfg n).corrMax : Int)) (s.loopCfg n).corrMax
    (s.pidCorr n x (if x.frozen then x.integ else x.integ + x.err) / 4096)

/-- The output that the clamps leave. -/
def State.loopNext (s : State) (n : Nat) : Int :=
  clampInt (s.loopOut n - (s.loopCfg n).vel) (s.loopOut n + (s.loopCfg n).vel)
    (clampInt (s.outRange n).1 (s.outRange n).2 (s.loopWant n))

/-- The loop after its output tick. -/
def State.loopWritten (s : State) (n : Nat) : Loop :=
  let x := s.loop n
  { x with integ := if x.frozen then x.integ else x.integ + x.err, prevErr := x.err,
           frozen := decide (s.loopNext n ≠ s.loopWant n), wroteTarget := decide (x.pos = x.target) && x.breaks.isEmpty }

/-- A loop at rest at 0 has written its target, so that the record written is never the default one. -/
theorem loopWritten_ne (s : State) (n : Nat) : s.loopWritten n ≠ {} := by
  intro h
  have hpos : (s.loop n).pos = 0 := congrArg Loop.pos h
  have htarget : (s.loop n).target = 0 := congrArg Loop.target h
  have hbreaks : (s.loop n).breaks = [] := congrArg Loop.breaks h
  have hwrote : (decide ((s.loop n).pos = (s.loop n).target) && (s.loop n).breaks.isEmpty) = false := congrArg Loop.wroteTarget h
  simp [hpos, htarget, hbreaks] at hwrote

theorem exec_loopOutput_closed (s : State) (n : Nat) (hn : n < 4) (hldg : s.islandOn .ldg = true) (htick : s.ldg.tick % 10000 = 8000)
    (hnone : (s.loop n).pendingClose = none) (hclosed : s.loopClosed n = true) (hpreset : (s.loop n).preset = false) :
    exec (.loopOutput n) s = .next ((s.setLoop n (s.loopWritten n)).drive n (s.loopNext n).toNat) := by
  refine congrArg Host.Outcome.next ((if_neg (by simp [hldg, htick, hn])).trans ?_)
  rw [syncClose_none s n hnone]
  exact (if_neg (by simp [hclosed])).trans (if_neg (by simp [hpreset]))

/-- Settles O52: the clamps hold the output, which its register's field and its pin take as it is. -/
theorem loopOutputWithinVelocity : Obligations.LoopOutputWithinVelocity := by
  intro s n hn hldg htick hnone hclosed hpreset hmax hlow hhigh
  obtain ⟨hlo, hhi, hup, hdown⟩ := clamp_step (want := s.loopWant n) (v := s.loopNext n) hlow hhigh rfl
  have hfits : (s.loopNext n).toNat < 2 ^ 16 := by omega
  have hout : ((s.setLoop n (s.loopWritten n)).drive n (s.loopNext n).toNat).loopOut n = s.loopNext n :=
    (loopOut_drive _ _ _ hfits).trans (Int.toNat_of_nonneg (by omega))
  obtain ⟨hvref, hchg, hflio, hspare⟩ := drive_pins (s.setLoop n (s.loopWritten n)) n _ hfits
  refine ⟨_, exec_loopOutput_closed s n hn hldg htick hnone hclosed hpreset, by rwa [hout], by rwa [hout], by rwa [hout], by rwa [hout],
    hvref, hchg, hflio, hspare, fun hfrozen => ?_⟩
  calc _ = (s.loopWritten n).integ := congrArg Loop.integ (cget_cset_of_ne s.loops n (loopWritten_ne s n))
    _ = (s.loop n).integ := if_pos hfrozen

end Sys2Proof.Machine
end

section
/-!
The Reserve's segments: their tests (R396), faults and charge states (R397).
-/
set_option Elab.async false

namespace Sys2Proof.Machine

/-! ## Tests (R396) -/

theorem exec_segmentTestStart_due (s : State) (n d : Nat) (hdue : (s.seg n).due = some d) (hmode : testMode s.mode = true) (hn : n < 8)
    (hfree : s.rsv.test = none) (hcharged : (s.seg n).charged = true) (hfull : (s.seg n).recharging = false)
    (hploss : s.pins.plossN = true) (htime : d ≤ s.pwr.time) : ∃ s1 : State, s1 = { s with
        rsv := { s.rsv with test := some n, testFrom := s.ldg.tick, testVa := none },
        pins := { s.pins with segTest := BitVec.ofNat 8 (2 ^ n) } } ∧
      exec (.segmentTestStart n) s = .next ((s1.setSeg n { s.seg n with due := some (s.nextDue n d) }).syncSeg n) := by
  refine ⟨_, rfl, ?_⟩
  simp only [exec, execSegmentTestStart, hdue]
  exact congrArg Host.Outcome.next (if_pos (by simp [hmode, hn, hfree, hcharged, hfull, hploss, htime]))

/-- A test without V_a takes it from its first sample. -/
theorem exec_segmentTestSample_first (s : State) (n mv : Nat) (htest : s.rsv.test = some n) (hva : s.rsv.testVa = none)
    (htick : s.ldg.tick = s.rsv.testFrom + 100000) :
    exec (.segmentTestSample mv) s = .next { s with rsv := { s.rsv with testVa := some mv } } := by
  simp only [exec, execSegmentTestSample, htest, hva]
  exact congrArg Host.Outcome.next (if_pos (by omega))

/-- A later sample at a multiple of 1,000 ticks ends the test where it has fallen to 0.9 V_a. -/
theorem exec_segmentTestSample_later (s : State) (n k va mv : Nat) (htest : s.rsv.test = some n) (hva : s.rsv.testVa = some va)
    (htick : s.ldg.tick = s.rsv.testFrom + 100000 + 1000 * k) (hk : 1 ≤ k) :
    exec (.segmentTestSample mv) s = .next (if 10 * mv ≤ 9 * va then s.testResult n va (1000 * k) else s) := by
  have hage : s.ldg.tick - s.rsv.testFrom = 100000 + 1000 * k := by omega
  have hsampled : 100000 < 100000 + 1000 * k := by omega
  simp only [exec, execSegmentTestSample, htest, hva, hage, hsampled, Nat.add_sub_cancel_left, Nat.mul_mod_right, decide_true,
    Bool.true_and, decide_eq_true_eq]

theorem exec_testInvalid_over (s : State) (n : Nat) (htest : s.rsv.test = some n)
    (hover : s.rsv.testFrom + 100000 + 100000000 ≤ s.ldg.tick) : exec .testInvalid s =
      .next ((((s.endTest).setSeg n { s.seg n with recharging := true, testTime := s.pwr.time }).syncSeg n).raise .rsvCause 2) := by
  simp only [exec, execTestInvalid, htest]
  exact congrArg Host.Outcome.next (if_pos hover)

/-! ## Charge states (R397) -/

/-- The voltage a segment is measured by: V_a of its last test, or its rated voltage before the first. -/
def State.segBase (s : State) (n : Nat) : Nat := if (s.seg n).tested then (s.seg n).va else s.ratedMv n

theorem exec_segFault_below (s : State) (n mv : Nat) (hsensed : s.rsvSensed = true) (hn : n < 8) (hfree : s.rsv.test = none)
    (hfull : (s.seg n).recharging = false) (hgood : (s.seg n).failed = false)
    (hknown : (s.seg n).tested = true ∨ (s.seg n).everCharged = true) (hbelow : 100 * mv < 90 * s.segBase n) :
    exec (.segFault n mv) s = .next ((((s.setSeg n { s.seg n with
      sensed := mv, failed := true, charged := false }).syncSeg n).raise .rsvCause 0).computeCover) := by
  have hlow : decide (90 * (if (s.seg n).tested then (s.seg n).va else s.ratedMv n) ≤ 100 * mv) = false :=
    decide_eq_false (Nat.not_le.mpr hbelow)
  have hnone : ((s.setSeg n { s.seg n with sensed := mv, failed := true, charged := false }).syncSeg n).rsv.test = none := hfree
  refine congrArg Host.Outcome.next ((if_neg ?_).trans ?_)
  · simp only [hsensed, Nat.not_le.mpr hn, hfree, hfull, hgood, Bool.or_eq_true_iff.mpr hknown, hlow, reduceCtorEq, decide_false,
      Bool.not_true, Bool.or_false, Bool.false_eq_true, not_false_eq_true]
  · simp only [hnone]

section
variable (s : State) (n mv : Nat) (hsensed : s.rsvSensed = true) (hn : n < 8) (htest : s.rsv.test ≠ some n)
include hsensed hn htest

theorem exec_segmentCharged_full (hfull : 98 * s.segBase n ≤ 100 * mv) : exec (.segmentCharged n mv) s =
    .next (((s.setSeg n { s.seg n with
      sensed := mv, charged := true, everCharged := true, recharging := false }).syncSeg n).recover) := by
  have hfull : decide (98 * (if (s.seg n).tested then (s.seg n).va else s.ratedMv n) ≤ 100 * mv) = true := decide_eq_true hfull
  refine congrArg Host.Outcome.next ((if_neg (by simp [hsensed, hn, htest])).trans ?_)
  simp only [hfull, Bool.or_true, Bool.not_true, Bool.and_false]

theorem exec_segmentCharged_low (hlow : 100 * mv < 98 * s.segBase n) : exec (.segmentCharged n mv) s =
    .next (((s.setSeg n { s.seg n with sensed := mv, charged := false }).syncSeg n).recover) := by
  have hlow : decide (98 * (if (s.seg n).tested then (s.seg n).va else s.ratedMv n) ≤ 100 * mv) = false :=
    decide_eq_false (Nat.not_le.mpr hlow)
  refine congrArg Host.Outcome.next ((if_neg (by simp [hsensed, hn, htest])).trans ?_)
  simp only [hlow, Bool.or_false, Bool.not_false, Bool.and_true]

end

/-- Settles O38: each row's equation, its measure being `State.segBase`. -/
theorem reserveTests : Obligations.ReserveTests := by
  refine ⟨exec_segmentTestStart_due, exec_segmentTestSample_first, fun s n k va mv htest hva htick hk => ?_, exec_testInvalid_over,
    ?_, ?_⟩
  · rw [exec_segmentTestSample_later s n k va mv htest hva htick hk]
    exact ⟨fun hfallen => congrArg _ (if_pos hfallen), fun habove => congrArg _ (if_neg (Nat.not_le.mpr habove))⟩
  · rintro s n mv base hsensed hn hfree hfull hgood hknown rfl hbelow
    exact exec_segFault_below s n mv hsensed hn hfree hfull hgood hknown hbelow
  · rintro s n mv base hsensed hn htest rfl
    exact ⟨exec_segmentCharged_full s n mv hsensed hn htest, exec_segmentCharged_low s n mv hsensed hn htest⟩

end Sys2Proof.Machine
end

section
/-!
A reseed of a mask generator on a map of block counts that lists the generator twice (R441). As with a VF's shutdown notification, a
statement over every state speaks of such maps too.
-/
set_option Elab.async false

namespace Sys2Proof.Machine

/-- SERVICE with mask generator 0 listed twice: the count that is read is due for a reseed, and one of a single block stands behind it. -/
def generatorListedTwice : State :=
  { State.reset with mode := .service, cry := { State.reset.cry with maskBlocks := [(0, 4096), (0, 1)] } }

/-- The reseed drops the count that is read, since 0 is the count of an unlisted generator, and the one behind it is read. -/
theorem generatorListedTwice_reseeded : ∃ t, exec (.maskReseed 0) generatorListedTwice = .next t ∧ t.maskBlocks 0 = 1 := ⟨_, rfl, rfl⟩

/-- Refutes O43 by its clause on a reseed, which has the generator's count at 0: the statement does not ask that the map of counts be
canonical, and `generatorListedTwice` meets every premise of the clause. -/
theorem not_tamperWipesKeys : ¬ Obligations.TamperWipesKeys := by
  rintro ⟨-, -, -, -, -, -, hreseed⟩
  obtain ⟨t, hexec, hcount, -⟩ := hreseed generatorListedTwice 0 (by decide) (by decide)
  obtain ⟨u, hexec', hcount'⟩ := generatorListedTwice_reseeded
  obtain rfl := Host.Outcome.next.inj (hexec'.symm.trans hexec)
  omega

end Sys2Proof.Machine
end

section
/-!
The key-management core: what each command starts (R444, R449, R450), the end of a CLEAR or an UNWRAP (R441, R449), and CRY_SLOT_SEL (R458).
-/
set_option Elab.async false

namespace Sys2Proof.Machine

/-! ## Starts (R450) -/

section
variable (s : State) (who : Requester) (slot : Nat) (hmay : s.mayWrite who Reg.cryKmCmd = true) (howner : s.kmOwner = reqId who)
  (hidle : s.cry.op = none) (hwipe : s.mem.wiping = false)
include hmay howner hidle hwipe

/-- The owner's command starts its operation on an idle core that no wipe holds. -/
theorem kmStart_owner (o : KmOp) : s.kmStart who o = { s with cry := { s.cry with op := some { o with start := s.ldg.tick } } } := by
  simp only [State.kmStart, hmay, howner, hidle, hwipe, Bool.not_true, Bool.false_eq_true, if_false, ne_self_iff_false,
    Option.isSome_none, Bool.or_self]

theorem exec_clear_owner : exec (.clear who slot) s =
    .next { s with cry := { s.cry with op := some ⟨.clear, slot, 0, false, {}, [], 0, s.ldg.tick⟩ } } :=
  congrArg Host.Outcome.next (kmStart_owner s who hmay howner hidle hwipe _)

section
variable (m : Nat) (t : KeyType) (w : Wrapped) (hmember : s.slotMember slot = some m)
include hmember

theorem exec_unwrap_loads (k : KeySlot) (hfits : typeAt t (slot - s.keyBase m) = true) (hload : s.loadCheck slot t w = .ok k) :
    exec (.unwrap who slot t w) s = .next { s with cry := { s.cry with op := some ⟨.unwrap, slot, 0, false, k, [],
      wrapBlocks (keyBytesOf t), s.ldg.tick⟩ } } := by
  simp only [exec, execUnwrap, hmember, hfits, hload, Bool.not_true, Bool.false_eq_true, if_false,
    kmStart_owner s who hmay howner hidle hwipe]

theorem exec_unwrap_misfits (hfits : typeAt t (slot - s.keyBase m) = false) : exec (.unwrap who slot t w) s =
    .next { s with cry := { s.cry with op := some ⟨.unwrap, slot, 2, false, {}, [], 0, s.ldg.tick⟩ } } := by
  simp only [exec, execUnwrap, hmember, hfits, Bool.not_false, if_true, kmStart_owner s who hmay howner hidle hwipe]

end

theorem exec_wrapOut_mint (hmint : (s.slot slot).type = .mint) (hkek : (s.slot (s.keyBase (s.slot slot).member)).type = .kek) :
    exec (.wrapOut who slot) s = .next { s with cry := { s.cry with op := some ⟨.wrapOut, slot, 0, false, {},
      (List.range 14).map (Config.wrapWord (s.slot (s.keyBase (s.slot slot).member)).key (s.slot slot).key), wrapBlocks 48,
      s.ldg.tick⟩ } } := by
  simp only [exec, execWrapOut, hmint, hkek, decide_true, Bool.and_self, if_true, kmStart_owner s who hmay howner hidle hwipe]

theorem exec_wrapOut_other (hother : (s.slot slot).type ≠ .mint) : exec (.wrapOut who slot) s =
    .next { s with cry := { s.cry with op := some ⟨.wrapOut, slot, 2, false, {}, [], 0, s.ldg.tick⟩ } } := by
  simp only [exec, execWrapOut, hother, decide_false, Bool.false_and, Bool.false_eq_true, if_false,
    kmStart_owner s who hmay howner hidle hwipe]

variable (n : Nat)

theorem exec_wrapData_kek (hkek : (s.slot slot).type = .kek) (hlow : 8 ≤ n) (hhigh : n ≤ 64) :
    exec (.wrapData who slot n) s = .next { s with cry := { s.cry with op := some ⟨.wrapData, slot, 0, false, {},
      (List.range (ceilDiv (n + 8) 4)).map (Config.wrapWord (s.slot slot).key (s.kmData % 2 ^ (8 * n))), wrapBlocks n,
      s.ldg.tick⟩ } } := by
  simp only [exec, execWrapData, hkek, hlow, hhigh, decide_true, Bool.and_self, if_true, kmStart_owner s who hmay howner hidle hwipe]

theorem exec_wrapData_refused (hbad : (s.slot slot).type ≠ .kek ∨ n < 8 ∨ 64 < n) : exec (.wrapData who slot n) s =
    .next { s with cry := { s.cry with op := some ⟨.wrapData, slot, 2, false, {}, [], 0, s.ldg.tick⟩ } } := by
  have hno : (decide ((s.slot slot).type = .kek) && decide (8 ≤ n) && decide (n ≤ 64)) = false := by
    rcases hbad with hkek | hlow | hhigh
    · simp [hkek]
    · simp [Nat.not_le.mpr hlow]
    · simp [Nat.not_le.mpr hhigh]
  simp only [exec, execWrapData, hno, Bool.false_eq_true, if_false, kmStart_owner s who hmay howner hidle hwipe]

end

/-! ## The end of a CLEAR or an UNWRAP (R449) -/

theorem exec_kmOpComplete_setsSlot (s : State) (o : KmOp) (hop : s.cry.op = some o) (hok : o.result = 0)
    (hkept : s.cry.releasePending = false) (hkind : o.kind = .unwrap ∨ o.kind = .clear)
    (hdue : o.start + kmTicks o s.clockLevel ≤ s.ldg.tick) :
    exec .kmOpComplete s = .next ((s.kmEnded o).setSlot o.slot (if o.kind = .unwrap then o.new else {})) := by
  have heffect : (s.kmEnded o).kmEffect o = (s.kmEnded o).setSlot o.slot (if o.kind = .unwrap then o.new else {}) := by
    rw [State.kmEffect, if_neg (by simp [hok])]
    rcases hkind with h | h <;> simp [h]
  have hrelease : ((s.kmEnded o).kmEffect o).cry.releasePending = false := (sameLock_kmEffect _ o).releasePending.trans hkept
  refine (exec_kmOpComplete_due s o hop hdue).trans (congrArg Host.Outcome.next ?_)
  exact (if_neg (by simp [hrelease])).trans heffect

/-! ## The selected slot (R458) -/

/-- The slot's type in bits 1:0 and its member above it. -/
def State.slotInfo (s : State) (n : Nat) : Nat := keyTypeCode (s.slot n).type + 4 * (s.slotMember n).getD 0xFFF

theorem exec_crySlotSelWrite_loads (s : State) (who : Requester) (v : BitVec 32) (hmay : s.mayWrite who Reg.crySlotSel = true) :
    exec (.crySlotSelWrite who v) s = .next ((s.setReg Reg.crySlotSel (BitVec.ofNat 32 (getField v 0 12))).setReg Reg.crySlotInfo
      (BitVec.ofNat 32 (s.slotInfo (getField v 0 12)))) :=
  congrArg Host.Outcome.next (if_pos hmay)

theorem keyTypeCode_lt (t : KeyType) : keyTypeCode t < 4 := by cases t <;> decide

theorem slotInfo_fields (s : State) (n : Nat) : getField (BitVec.ofNat 32 (s.slotInfo n)) 0 2 = keyTypeCode (s.slot n).type ∧
    getField (BitVec.ofNat 32 (s.slotInfo n)) 2 12 = (s.slotMember n).getD 0xFFF % 4096 := by
  have htype := keyTypeCode_lt (s.slot n).type
  simp only [getField, BitVec.toNat_ofNat, State.slotInfo]
  omega

/-- Settles O42: the start of each command, the slot that a CLEAR or an UNWRAP sets, and the fields that a selection loads. -/
theorem keyOperations : Obligations.KeyOperations := by
  refine ⟨fun s who slot hmay howner hidle hwipe => ⟨exec_clear_owner s who slot hmay howner hidle hwipe,
    fun m t w k hmember => exec_unwrap_loads s who slot hmay howner hidle hwipe m t w hmember k,
    exec_unwrap_misfits s who slot hmay howner hidle hwipe, exec_wrapOut_mint s who slot hmay howner hidle hwipe,
    exec_wrapOut_other s who slot hmay howner hidle hwipe, exec_wrapData_kek s who slot hmay howner hidle hwipe,
    exec_wrapData_refused s who slot hmay howner hidle hwipe⟩, fun s o hop hok hkept hkind hdue => ?_, fun s who v hmay => ?_⟩
  · refine ⟨_, rfl, (exec_kmOpComplete_setsSlot s o hop hok hkept hkind hdue).trans ?_⟩
    rw [State.kmEnded, hok]
  · obtain ⟨htype, hmember⟩ := slotInfo_fields s (getField v 0 12)
    refine ⟨_, exec_crySlotSelWrite_loads s who v hmay, ?_, ?_, ?_, rfl⟩
    · rw [reg_setReg_other _ _ (by decide), reg_setReg_same]
    · rwa [State.fld, reg_setReg_same]
    · rwa [State.fld, reg_setReg_same]

end Sys2Proof.Machine
end

section
/-!
Sensors, the throttle level, the wear governor and power-on hours (R505 to R507, R509, R514), and the rows of the loops (R516 to R520).
-/
set_option Elab.async false

namespace Sys2Proof.Machine

/-! ## Temperature (R507, R509) -/

/-- Every sample tick of a slow sensor is one of a fast sensor, and without a rise limit no reading rises too fast. -/
theorem exec_sensorSample_passes (s : State) (n : Nat) (r : Int) (hn : n < 16) (hldg : s.islandOn .ldg = true)
    (htick : s.ldg.tick % 1000000 = 0) (hlow : -80 ≤ r) (hhigh : r ≤ 560) (hrise : s.thr.riseRate = 0) :
    ∃ h, h = trimHist s.ldg.tick ((s.ldg.tick, r) :: (s.sensor n).hist) ∧
      exec (.sensorSample n r true) s = .next ((((((s.setSensor n { hist := h, riseFrom := none }).setReg (Reg.thmSensor + 4 * n)
        (BitVec.ofNat 32 (unsigned 11 r + 2048 * 0 + 4096 * b2n (decide (4 * ((s.thr.tWarn : Int) - 10) ≤ r))))).syncThm).judgeWarn
          r).judgeThrottle r false).judgeShutdown r h) := by
  refine ⟨_, rfl, ?_⟩
  have hsample (fast : Bool) : s.ldg.tick % (if fast then 100000 else 1000000) = 0 := by
    cases fast
    · exact htick
    · exact Nat.mod_eq_zero_of_dvd ((by decide : 100000 ∣ 1000000).trans (Nat.dvd_of_mod_eq_zero htick))
  refine congrArg Host.Outcome.next ((if_neg (by simp [hldg, hn, hsample])).trans ?_)
  have hpass : (!true || decide (r < -80) || decide (560 < r)) = false := by simp [hlow, hhigh]
  simp only [hpass, hrise, ne_self_iff_false, decide_false, Bool.false_and, Bool.false_eq_true, if_false, b2n]

theorem exec_throttleRise_cool (s : State) (hmode : modeLedger s.mode = true) (hcool : 763 ≤ s.thm.coolFolios)
    (hlevel : s.throttleLevel ≠ 0) : exec .throttleRise s =
      .next (({ s with thm := { s.thm with coolFolios := 0 } } : State).throttleTo (s.throttleLevel - 1)).syncThm :=
  congrArg Host.Outcome.next (if_pos (by simp [hmode, hcool, hlevel]))

/-! ## The wear governor and power-on hours (R505, R506, R514) -/

/-- A mean that has not risen is never ahead of its share of the rated count. -/
theorem exec_wearEvaluation_steady (s : State) (hmode : modeLedger s.mode = true) (hdue : s.pwr.wearDue = true)
    (hsteady : s.meanErases ≤ s.pwr.wearHist.getLast?.getD s.meanErases) (hrated : s.meanErases < s.thr.peRated) :
    exec .wearEvaluation s = .next (({ s with pwr := { s.pwr with
      wearHist := (s.meanErases :: s.pwr.wearHist).take 7, wearDue := false } } : State).setReg Reg.pwrWear (BitVec.ofNat 32
        (min s.meanErases 65535 + 2 ^ 16 * 16 + 2 ^ 21 * min 255 (100 * s.meanErases / max 1 s.thr.peRated)))) := by
  refine congrArg Host.Outcome.next ((if_neg (by simp [hmode, hdue])).trans ?_)
  simp only [Nat.sub_eq_zero_of_le hsteady, Nat.zero_mul, Nat.not_lt_zero, decide_false, Bool.false_eq_true, if_false,
    Nat.not_le.mpr hrated]

theorem exec_powerOnHour_over (s : State) (hmode : modeLedger s.mode = true) (hover : s.hourOver = true) : ∃ t, exec .powerOnHour s = .next t ∧
    t.pwr.hours = min (2 ^ 24 - 1) (s.pwr.hours + 1) ∧ t.pwr.minutes = 0 ∧
    t.pwr.wearDue = (s.pwr.wearDue || decide ((s.pwr.hours + 1) % 24 = 0)) ∧
    t.pwr.metaCopy.hours = t.pwr.hours ∧ t = { s with pwr := t.pwr } :=
  ⟨_, congrArg Host.Outcome.next (if_neg (by simp [hmode, hover])), rfl, rfl, rfl, rfl, rfl⟩

theorem exec_powerOnHour_early (s : State) (hearly : s.hourOver = false) : exec .powerOnHour s = .next s :=
  congrArg Host.Outcome.next (if_pos (by simp [hearly]))

/-! ## Loops (R516 to R520) -/

theorem exec_profileStep_steps (s : State) (hldg : s.islandOn .ldg = true) (htick : s.ldg.tick % 1000 = 0) :
    exec .profileStep s = .next ((((s.stepLoop 0).stepLoop 1).stepLoop 2).stepLoop 3) :=
  congrArg Host.Outcome.next (if_pos (by simp [hldg, htick]))

theorem exec_loop1Reclose_due (s : State) (hldg : s.islandOn .ldg = true) (hploss : s.plossHigh = true)
    (hlong : s.boot.plossUp + 100000000 ≤ s.ldg.tick) (hasked : bitOf (s.reg (loopReg Reg.loopCtl 1)) 0 = true)
    (hopen : s.loopClosed 1 = false) : exec .loop1Reclose s = .next (s.closeLoop 1) :=
  congrArg Host.Outcome.next (if_pos (by simp [hldg, hploss, hlong, hasked, hopen]))

section
variable (s : State) (n : Nat) (hn : n < 4)
include hn

theorem exec_settleLate_first (t : Nat) (hreached : (s.loop n).reachedAt = some t) (hclosed : s.loopClosed n = true)
    (hunsettled : s.loopSettled n = false) (hfirst : (s.loop n).lateSet = false) (hlate : t + 100000 ≤ s.ldg.tick) :
    exec (.settleLate n) s = .next ((s.setLoop n { s.loop n with lateSet := true }).raise .loopCause (4 + n)) := by
  simp only [exec, execSettleLate, hreached]
  exact congrArg Host.Outcome.next (if_pos (by simp [hn, hclosed, hunsettled, hfirst, hlate]))

section
variable (hnone : (s.loop n).pendingClose = none)
include hnone

theorem exec_loopSample_open (mv : Nat) (hldg : s.islandOn .ldg = true) (htick : s.ldg.tick % 10000 = 6250)
    (hopen : s.loopClosed n = false) : exec (.loopSample n mv) s =
      .next ((s.setFld (loopReg Reg.loopStatus n) 0 16 mv).setLoop n { s.loop n with err := s.loopOut n - (mv : Int) }) := by
  refine congrArg Host.Outcome.next ((if_neg (by simp [hldg, hn, htick])).trans ?_)
  rw [syncClose_none s n hnone]
  exact if_pos (by simp [hopen])

variable (who : Requester)

theorem exec_loopCloseWrite_taken (c : Bool) (hmay : s.mayWrite who (loopReg Reg.loopCtl n) = true) :
    exec (.loopCloseWrite who n c) s = .next ((s.setLoop n { s.loop n with pendingClose := some (c, s.ldg.tick) }).setFld
      (loopReg Reg.loopCtl n) 0 1 (b2n c)) := by
  refine congrArg Host.Outcome.next ((if_neg (by simp [hn, hmay])).trans ?_)
  rw [syncClose_none s n hnone]

variable (v : BitVec 32)

theorem exec_coefWrite_first (hmay : s.mayWrite who (loopReg Reg.loopCoef0 n) = true) : exec (.coefWrite who n false v) s =
    .next (if s.loopClosed n then s.raise .loopCause n else s.setReg (loopReg Reg.loopCoef0 n) v) := by
  refine congrArg Host.Outcome.next ((if_neg (by simp [hn, hmay])).trans ?_)
  rw [syncClose_none s n hnone]
  rfl

theorem exec_setpointWrite_moves (hother : n ≠ 0) (hmay : s.mayWrite who (loopReg Reg.loopSetpoint n) = true) :
    exec (.setpointWrite who n v) s = .next (s.setTarget n (getField v 0 16)) := by
  refine congrArg Host.Outcome.next ((if_neg (by simp [hn, hmay, hother])).trans ?_)
  rw [syncClose_none s n hnone]

end

end

/-- Settles O51: the equation of each row. -/
theorem thermalAndLoops : Obligations.ThermalAndLoops := by
  refine ⟨exec_sensorSample_passes, exec_throttleRise_cool, exec_wearEvaluation_steady,
    fun s hmode => ⟨exec_powerOnHour_over s hmode, exec_powerOnHour_early s⟩,
    fun s n mv hldg hn htick hnone hopen => exec_loopSample_open s n hn hnone mv hldg htick hopen,
    exec_profileStep_steps, fun s n t hn => exec_settleLate_first s n hn t,
    fun s who n c hn hmay hnone => exec_loopCloseWrite_taken s n hn hnone who c hmay, fun s who n v hn hmay hnone => ?_,
    fun s who n v hn hother hmay hnone => exec_setpointWrite_moves s n hn hnone who v hother hmay, exec_loop1Reclose_due⟩
  rw [exec_coefWrite_first s n hn hnone who v hmay]
  exact ⟨fun hopen => congrArg _ (if_neg (by simp [hopen])), fun hclosed => congrArg _ (if_pos hclosed)⟩

end Sys2Proof.Machine
end

section
/-!
The state after reset (R53, R77, R108, R454, R570).
-/
set_option Elab.async false

namespace Sys2Proof.Machine

/-- No register is written yet, so that each reads its reset word (R570). -/
theorem reset_reg (o : Nat) : State.reset.reg o = regReset o := rfl

/-- The boot flash is erased (R108). -/
theorem reset_norByte (a : Nat) : State.reset.norByte a = 0xFF := rfl

/-- OFF with POR_N low powers no island (R75). -/
theorem reset_islandOn (i : Island) : State.reset.islandOn i = false := by
  cases i <;> rfl

/-- Settles O6: the fields of the reset state, none of its maps holding an entry. -/
theorem resetState : Obligations.ResetState :=
  ⟨rfl, rfl, rfl, rfl, rfl, rfl, reset_reg, reset_norByte, rfl, rfl, reset_islandOn⟩

end Sys2Proof.Machine
end

section
/-!
The edges of R77's table that each command may take.
-/
set_option Elab.async false

namespace Sys2Proof.Machine

/-! ## Edges -/

/-- The inputs that end OFF (R66, R79). -/
def offEdges : List (Mode × Mode) := [(.off, .strap)]

/-- A power loss (R77). -/
def lossEdges : List (Mode × Mode) :=
  [(.strap, .off), (.fill, .off), (.load, .off), (.train, .off), (.maintenance, .off), (.service, .flush), (.throttle, .flush),
   (.drain, .flush), (.doze, .flush)]

/-- The end of STRAP. -/
def strapEdges : List (Mode × Mode) := [(.strap, .fill), (.strap, .maintenance)]

/-- The locks of the PLLs, at a start and in a wake. -/
def lockEdges : List (Mode × Mode) := [(.strap, .fill), (.hibernate, .fill)]

def fillEdges : List (Mode × Mode) := [(.fill, .load), (.fill, .maintenance)]

def loadEdges : List (Mode × Mode) := [(.load, .train), (.load, .maintenance)]

def trainEdges : List (Mode × Mode) := [(.train, .service), (.train, .maintenance)]

/-- A reset of the MP (R91). -/
def resetEdges : List (Mode × Mode) := [(.load, .maintenance)]

/-- The shutdown threshold (R511). -/
def thermalEdges : List (Mode × Mode) :=
  [(.fill, .off), (.load, .off), (.train, .off), (.service, .drain), (.throttle, .drain), (.service, .flush), (.throttle, .flush),
   (.drain, .flush), (.doze, .flush)]

/-- A Folio boundary; from DOZE and DRAIN it may lead through SERVICE to THROTTLE. -/
def boundaryEdges : List (Mode × Mode) :=
  [(.service, .doze), (.throttle, .doze), (.service, .hibernate), (.throttle, .hibernate), (.doze, .hibernate), (.doze, .service),
   (.drain, .service), (.service, .throttle), (.throttle, .service), (.doze, .throttle), (.drain, .throttle)]

def drainEdges : List (Mode × Mode) := [(.service, .drain), (.throttle, .drain)]

/-- An authorised restart or MAINTENANCE request. -/
def restartEdges : List (Mode × Mode) := [(.service, .drain), (.throttle, .drain), (.maintenance, .strap)]

def drainEndEdges : List (Mode × Mode) := [(.drain, .strap), (.drain, .maintenance), (.drain, .flush)]

/-- The mode `n` is `m`, or an edge of `es` leads to it from `m`. -/
def Goes (es : List (Mode × Mode)) (n m : Mode) : Prop := n = m ∨ (m, n) ∈ es

/-- The same of an outcome's state. -/
def GoesO (es : List (Mode × Mode)) (s : State) (o : Host.Outcome State Fault Refusal) : Prop :=
  ∀ t, o = .next t → Goes es t.mode s.mode

theorem goes_same {es : List (Mode × Mode)} {n m : Mode} (h : n = m) : Goes es n m := Or.inl h

theorem goes_edge {es : List (Mode × Mode)} {n m n' m' : Mode} (hn : n = n') (hm : m = m') (h : (m', n') ∈ es) : Goes es n m :=
  Or.inr (by rw [hn, hm]; exact h)

theorem goes_ite {es : List (Mode × Mode)} {m : Mode} {p : Prop} [Decidable p] {a b : State} (ha : Goes es a.mode m)
    (hb : Goes es b.mode m) : Goes es (if p then a else b).mode m := by
  split
  · exact ha
  · exact hb

theorem goesO_next {es : List (Mode × Mode)} {s t : State} (h : Goes es t.mode s.mode) : GoesO es s (.next t) := by
  intro u hu
  cases hu
  exact h

/-! ## The inputs that end OFF, and power loss -/

theorem inputsHigh_goes (s : State) : Goes offEdges s.inputsHigh.mode s.mode := by
  rcases inputsHigh_mode s with h | ⟨hoff, -, -, -, hstrap⟩
  · exact goes_same h
  · exact goes_edge hstrap hoff (by decide)

theorem tryStrap_goes (s : State) : Goes offEdges s.tryStrap.mode s.mode := by
  rcases tryStrap_mode s with h | ⟨hoff, -, -, -, hstrap⟩
  · exact goes_same h
  · exact goes_edge hstrap hoff (by decide)

theorem porNRelease_goes (s : State) : GoesO offEdges s (exec .porNRelease s) := by
  refine goesO_next ?_
  split
  · exact goes_same rfl
  · have h := tryStrap_goes (({ s with
      pins := { s.pins with porN := true },
      boot := { s.boot with offReason := .por, plossFalling := false, plossLow := !s.pins.plossN } } : State).syncBanks)
    rwa [syncBanks_mode] at h

theorem plossNRise_goes (s : State) : GoesO offEdges s (exec .plossNRise s) := by
  refine goesO_next ?_
  dsimp only
  split
  · exact inputsHigh_goes _
  · exact goes_same rfl

theorem pwrGoodRise_goes (s : State) : GoesO offEdges s (exec .pwrGoodRise s) := goesO_next (inputsHigh_goes _)

theorem offExitCountExpiry_goes (s : State) : GoesO offEdges s (exec .offExitCountExpiry s) := by
  refine goesO_next ?_
  split
  · exact tryStrap_goes s
  · exact goes_same rfl

/-- What a power loss does in every mode: a running segment test stops, and the charger with it (R51, R520). -/
def State.lossStart (s : State) : State :=
  let s0 : State := if s.rsv.test.isSome then s.stopTest.raise .boardCause 4 else s
  let s1 := s0.chargerOff
  { s1 with pins := { s1.pins with chgPwm := 0 } }

theorem lossStart_mode (s : State) : s.lossStart.mode = s.mode := by
  show (if s.rsv.test.isSome then s.stopTest.raise .boardCause 4 else s).chargerOff.mode = s.mode
  rw [chargerOff_mode]
  split
  · rw [raise_mode, stopTest_mode]
  · rfl

theorem powerLoss_early (s : State) (c : ModeCause) (h : s.mode = .strap ∨ s.mode = .fill) :
    s.powerLoss c = (s.lossStart.raise .boardCause 3).toOff .ploss c := by
  rcases h with h | h <;> simp only [State.powerLoss, h] <;> rfl

theorem powerLoss_loading (s : State) (c : ModeCause) (h : s.mode = .load ∨ s.mode = .train) :
    s.powerLoss c = (s.lossStart.norAbandon.raise .boardCause 3).toOff .ploss c := by
  rcases h with h | h <;> simp only [State.powerLoss, h] <;> rfl

theorem powerLoss_maintenance (s : State) (c : ModeCause) (h : s.mode = .maintenance) :
    s.powerLoss c = s.lossStart.norAbandon.toOff .ploss c := by
  simp only [State.powerLoss, h]; rfl

theorem modeLedger_iff (m : Mode) : modeLedger m = true ↔ m = .service ∨ m = .throttle ∨ m = .drain ∨ m = .doze := by
  cases m <;> decide

theorem powerLoss_ledger (s : State) (c : ModeCause) (h : modeLedger s.mode = true) :
    s.powerLoss c = s.lossStart.enterFlush .ploss c := by
  rcases (modeLedger_iff _).mp h with h | h | h | h <;> simp only [State.powerLoss, h] <;> rfl

theorem powerLoss_hibernate (s : State) (c : ModeCause) (h : s.mode = .hibernate) : s.powerLoss c = s.lossStart.raise .boardCause 0 := by
  simp only [State.powerLoss, h]; rfl

theorem powerLoss_unpowered (s : State) (c : ModeCause) (h : s.mode = .off ∨ s.mode = .flush) : s.powerLoss c = s.lossStart := by
  rcases h with h | h <;> simp only [State.powerLoss, h] <;> rfl

theorem powerLoss_goes (s : State) (c : ModeCause) : Goes lossEdges (s.powerLoss c).mode s.mode := by
  have hflush (h : modeLedger s.mode = true) : (s.powerLoss c).mode = .flush := by
    rw [powerLoss_ledger s c h, enterFlush_mode, lossStart_mode, if_pos h]
  cases h : s.mode
  case strap => exact goes_edge (by rw [powerLoss_early s c (Or.inl h), toOff_mode]) rfl (by decide)
  case fill => exact goes_edge (by rw [powerLoss_early s c (Or.inr h), toOff_mode]) rfl (by decide)
  case load => exact goes_edge (by rw [powerLoss_loading s c (Or.inl h), toOff_mode]) rfl (by decide)
  case train => exact goes_edge (by rw [powerLoss_loading s c (Or.inr h), toOff_mode]) rfl (by decide)
  case maintenance => exact goes_edge (by rw [powerLoss_maintenance s c h, toOff_mode]) rfl (by decide)
  case hibernate => exact goes_same (by rw [powerLoss_hibernate s c h, raise_mode, lossStart_mode, h])
  case off => exact goes_same (by rw [powerLoss_unpowered s c (Or.inl h), lossStart_mode, h])
  case flush => exact goes_same (by rw [powerLoss_unpowered s c (Or.inr h), lossStart_mode, h])
  all_goals exact goes_edge (hflush (by rw [h]; rfl)) rfl (by decide)

theorem plossNAssert_goes (s : State) : GoesO lossEdges s (exec .plossNAssert s) := by
  refine goesO_next ?_
  split
  · exact powerLoss_goes _ _
  · exact goes_same rfl

theorem pwrGoodDrop_goes (s : State) : GoesO lossEdges s (exec .pwrGoodDrop s) := by
  refine goesO_next ?_
  split
  · exact goes_same rfl
  · dsimp only
    split
    · have h := powerLoss_goes (({ s with
        pins := { s.pins with pwrGood := false },
        boot := { s.boot with offCount := false, oscOk := s.boot.oscOk && !s.boot.waking } } : State).raise .boardCause 2) .pwrGood
      rwa [raise_mode] at h
    · exact goes_same rfl

/-! ## STRAP to TRAIN -/

theorem strapCheck_goes (s : State) : Goes strapEdges s.strapCheck.mode s.mode := by
  rcases strapCheck_mode s with h | ⟨hstrap, hfill | hmaint⟩
  · exact goes_same h
  · exact goes_edge hfill hstrap (by decide)
  · exact goes_edge hmaint hstrap (by decide)

theorem strapSample_goes (v : BitVec 8) (s : State) : GoesO strapEdges s (exec (.strapSample v) s) := by
  have hcheck : ∀ unstable, Goes strapEdges (s.setStrap v unstable).strapCheck.mode s.mode := fun unstable => by
    have h := strapCheck_goes (s.setStrap v unstable)
    rwa [setStrap_mode] at h
  refine goesO_next ?_
  split
  · exact goes_same rfl
  · dsimp only
    split
    · exact hcheck false
    · split
      · exact hcheck true
      · exact goes_same rfl

theorem oscillatorQualified_goes (s : State) : GoesO strapEdges s (exec .oscillatorQualified s) := by
  refine goesO_next ?_
  split
  · exact goes_same rfl
  · split
    · exact strapCheck_goes _
    · exact goes_same rfl

theorem pllLock_goes (us : Nat) (s : State) : GoesO lockEdges s (exec (.pllLock us) s) := by
  refine goesO_next ?_
  split
  · exact goes_same rfl
  · split
    · next hstrap =>
      split
      · exact goes_edge (strapEnds_mode s us) hstrap (by decide)
      · exact goes_same rfl
    · split
      · next hwake =>
        simp only [Bool.and_eq_true, decide_eq_true_eq] at hwake
        obtain ⟨⟨hhibernate, -⟩, -⟩ := hwake
        exact goes_edge (enterFill_mode _ _ _) hhibernate (by decide)
      · exact goes_same rfl

theorem fillCheck_goes (s : State) : Goes fillEdges s.fillCheck.mode s.mode := by
  rcases fillCheck_mode s with h | ⟨hfill, hload⟩
  · exact goes_same h
  · exact goes_edge hload hfill (by decide)

theorem calRowReadDone_goes (s : State) : GoesO fillEdges s (exec .calRowReadDone s) := by
  refine goesO_next ?_
  split
  · exact goes_same rfl
  · next hrow =>
    split
    · exact fillCheck_goes _
    · have hfill : s.mode = .fill := by simp_all
      exact goes_edge (toMaint_mode _ _ _) hfill (by decide)

theorem bankFillDone_goes (b : Bank) (s : State) : GoesO fillEdges s (exec (.bankFillDone b) s) := by
  refine goesO_next ?_
  split
  · exact fillCheck_goes _
  · exact goes_same rfl

theorem dramFillDone_goes (s : State) : GoesO fillEdges s (exec .dramFillDone s) := by
  refine goesO_next ?_
  split
  · exact fillCheck_goes _
  · exact goes_same rfl

theorem sweep_mode {s u : State} {eyes : List LaneEye} (h : s.sweep eyes = some u) : u.mode = s.mode :=
  mode_of_frame (frame_sweep h) (by decide)

theorem ddr5BootSweepDone_goes (eyes : List LaneEye) (s : State) : GoesO fillEdges s (exec (.ddr5BootSweepDone eyes) s) := by
  refine goesO_next ?_
  split
  · exact goes_same rfl
  · next hsweeping =>
    have hfill : s.mode = .fill := by
      simp only [Bool.or_eq_true, decide_eq_true_eq, not_or, not_not] at hsweeping
      exact hsweeping.1
    split
    · next u hsweep =>
      have hkeep := sweep_mode hsweep
      exact goes_same hkeep
    · exact goes_edge (toMaint_mode _ _ _) hfill (by decide)

theorem resumeStep4_mode (s : State) : s.resumeStep4.mode = s.mode ∨ s.resumeStep4.mode = .maintenance := by
  unfold State.resumeStep4
  split
  · next x held _ _ =>
    split
    · next im _ =>
      have hframe : Frame 1185425 s (s.placeCommon im).restorePlan := frame_restorePlan rfl (frame_placeCommon im rfl (frame_refl _ s))
      have hkeep := mode_of_frame hframe (by decide)
      exact Or.inl hkeep
    · exact loadFault_mode s
  · exact loadFault_mode s

/-- A step of LOAD leads nowhere but to TRAIN and MAINTENANCE. -/
theorem loadStepComplete_goes (ids : List (Nat × BitVec 64)) (misfit : List Nat) (s : State) :
    GoesO loadEdges s (exec (.loadStepComplete ids misfit) s) := by
  refine goesO_next ?_
  split
  · exact goes_same rfl
  · next hload =>
    have hload : s.mode = .load := by simpa using hload
    have hmaint : ∀ {u : State}, u.mode = s.mode ∨ u.mode = .maintenance → Goes loadEdges u.mode s.mode :=
      fun h => h.imp id fun hu => by rw [hload, hu]; decide
    have htrain : ∀ u : State, Goes loadEdges u.enterTrain.mode s.mode :=
      fun u => goes_edge (enterTrain_mode u) hload (by decide)
    split
    · exact hmaint (loadStep1_mode s)
    · exact goes_same (loadGo_mode _ _)
    · exact hmaint (loadStep3_mode s)
    · split
      · exact hmaint (resumeStep4_mode s)
      · split
        · exact goes_same (loadStep4_mode _ _ _)
        · exact hmaint (loadFault_mode s)
    · exact goes_same ((loadGo_mode _ _).trans (loadStep5_mode s))
    · split
      · exact goes_same (loadStep6_mode _ _)
      · exact hmaint (loadFault_mode s)
    · dsimp only
      split
      · exact htrain _
      · exact goes_same ((loadGo_mode _ _).trans (loadStep7_mode s ids misfit))
    · split
      · exact htrain _
      · exact goes_same ((loadGo_mode _ _).trans (loadStep8_mode s))
    · exact htrain _
    · exact goes_same rfl

theorem ddr5LevelSweepDone_goes (eyes : List LaneEye) (s : State) : GoesO trainEdges s (exec (.ddr5LevelSweepDone eyes) s) := by
  refine goesO_next ?_
  split
  · exact goes_same rfl
  · next htrain =>
    simp only [Bool.or_eq_true, decide_eq_true_eq, not_or, not_not] at htrain
    split
    · split
      · exact goes_same (levelDone_mode s)
      · exact goes_same rfl
    · dsimp only
      split
      · next u hsweep => exact goes_same ((levelDone_mode u).trans ((sweep_mode hsweep).trans (storeEyes_mode s _ eyes)))
      · exact goes_edge (toMaint_mode _ _ _) htrain.1 (by decide)

theorem sensorSelfCheckDone_goes (s : State) : GoesO trainEdges s (exec .sensorSelfCheckDone s) := by
  refine goesO_next ?_
  split
  · next htrain =>
    simp only [Bool.and_eq_true, decide_eq_true_eq] at htrain
    exact goes_edge (beginService_mode s) htrain.1.1 (by decide)
  · exact goes_same rfl

/-! ## The MP and the boot flash -/

theorem goes_reset {n m : Mode} (h : n = m ∨ m = .load ∧ n = .maintenance) : Goes resetEdges n m :=
  h.imp id fun ⟨hload, hmaint⟩ => by rw [hload, hmaint]; decide

theorem processorFault_goes (p : Proc) (s : State) : GoesO resetEdges s (exec (.processorFault p) s) := by
  refine goesO_next ?_
  split
  · cases p with
    | mp => exact goes_reset (mpReset_mode s)
    | mdp n => exact goes_same (kmIslandReset_mode s _)
  · exact goes_same rfl

theorem watchdogKick_goes (k : BitVec 16) (s : State) : GoesO resetEdges s (exec (.watchdogKick k) s) := by
  refine goesO_next ?_
  split
  · split
    · exact goes_same rfl
    · have h := watchdogExpire_mode (s.raise .mgtCause 1)
      rw [raise_mode] at h
      exact goes_reset h
  · exact goes_same rfl

theorem watchdogExpiry_goes (s : State) : GoesO resetEdges s (exec .watchdogExpiry s) := by
  refine goesO_next ?_
  split
  · exact goes_reset (watchdogExpire_mode s)
  · exact goes_same rfl

theorem norOpComplete_goes (ok : Bool) (s : State) : GoesO resetEdges s (exec (.norOpComplete ok) s) := by
  show GoesO _ s (execNorOpComplete ok s)
  unfold execNorOpComplete
  split
  · exact goesO_next (goes_same rfl)
  · refine goesO_next ?_
    split
    · exact goes_same rfl
    · exact goes_reset (norEnd_mode s _ ok)

/-- What the boot flash's controller goes on with once it is free: a reset of the MP that waited, and an update to be resumed (R125,
R126). -/
def State.norGoesOn (s : State) : State :=
  let s1 := if s.nor.haltMp then ({ s with nor := { s.nor with haltMp := false } } : State).mpReset else s
  let s2 := if s1.nor.resumeDue && s1.mgt.mp = .running then s1.updResume else s1
  s2.norKick

theorem norGoesOn_mode (s : State) : s.norGoesOn.mode = s.mode ∨ s.mode = .load ∧ s.norGoesOn.mode = .maintenance := by
  have hreset : ∀ u : State, (if u.nor.resumeDue && u.mgt.mp = .running then u.updResume else u).norKick.mode = u.mode := fun u => by
    rw [norKick_mode]
    split
    · exact updResume_mode u
    · rfl
  unfold State.norGoesOn
  dsimp only
  rw [hreset]
  split
  · exact mpReset_mode _
  · exact Or.inl rfl

theorem exec_evtProgramDone_form (ok : Bool) (s : State) : exec (.evtProgramDone ok) s = .next (
    if s.evt.prog.isEmpty || s.nor.op.isNone then s
    else
      let s1 := if ok then s.recordsStored else s.recordsLost
      (if s1.evt.next = 32768 then s1.logFull else s1).norGoesOn) := by
  cases ok <;> rfl

theorem evtProgramDone_goes (ok : Bool) (s : State) : GoesO resetEdges s (exec (.evtProgramDone ok) s) := by
  rw [exec_evtProgramDone_form]
  refine goesO_next ?_
  split
  · exact goes_same rfl
  · have hrecords : (if ok then s.recordsStored else s.recordsLost).mode = s.mode := by
      split
      · rfl
      · simp only [State.recordsLost, raise_mode]; rfl
    rw [← hrecords]
    generalize (if ok then s.recordsStored else s.recordsLost) = u
    have hfull : (if u.evt.next = 32768 then u.logFull else u).mode = u.mode := by
      split
      · exact logFull_mode u
      · rfl
    dsimp only
    rw [← hfull]
    exact goes_reset (norGoesOn_mode _)

/-! ## SERVICE, THROTTLE, DRAIN and FLUSH -/

theorem goes_drain {n m : Mode} (h : n = m ∨ (m = .service ∨ m = .throttle) ∧ n = .drain) : Goes drainEdges n m := by
  rcases h with h | ⟨h | h, hn⟩
  · exact goes_same h
  · exact goes_edge hn h (by decide)
  · exact goes_edge hn h (by decide)

theorem restartRequest_goes (s : State) (w : DrainFor) (c : ModeCause) (f : Nat × Nat) :
    Goes drainEdges (s.restartRequest w c f).mode s.mode := by
  rw [restartRequest_mode]
  split
  · next h => exact goes_drain (Or.inr ⟨h, rfl⟩)
  · exact goes_same rfl

theorem shutdownNotification_goes (n : Nat) (s : State) : GoesO drainEdges s (exec (.shutdownNotification n) s) :=
  goesO_next (goes_drain (shutdownPf_mode s n))

theorem nssrWrite_goes (v : BitVec 32) (s : State) : GoesO drainEdges s (exec (.nssrWrite v) s) := by
  refine goesO_next ?_
  split
  · exact restartRequest_goes s _ _ _
  · exact goes_same rfl

theorem propertySet_goes (qp cid offset : Nat) (v : BitVec 32) (s : State) :
    GoesO drainEdges s (exec (.propertySet qp cid offset v) s) := by
  refine goesO_next ?_
  unfold State.fabricRun
  split
  · exact goes_same rfl
  · next q _ =>
    split
    · exact goes_same rfl
    · split
      · exact goes_same rfl
      · rw [← keepAlive_mode s q.account]
        generalize s.keepAlive q.account = u
        dsimp only
        split
        · exact goes_drain (writeCc_mode (u.fabricDone _ _ _ _ _ _) _ _)
        · split
          · split
            · exact restartRequest_goes (u.fabricDone _ _ _ _ _ _) _ _ _
            · exact goes_same rfl
          · exact goes_same rfl

theorem barWrite_goes (s : State) (f o : Nat) (v : Word) : Goes drainEdges (s.barWrite f o v).mode s.mode := by
  unfold State.barWrite
  split
  · exact goes_drain (writeCc_mode s f v)
  · split
    · exact goes_same (msixSend_mode _)
    · exact goes_same rfl

theorem plainWrite_mode (s : State) (who : Requester) (o : Nat) (v : Word) : (s.plainWrite who o v).mode = s.mode :=
  mode_of_frame (frame_plainWrite (M := 1025) who o v rfl (frame_refl _ s)) rfl

theorem writeChCtl_mode (s : State) (who : Requester) (ch : Nat) (v w : Word) : (s.writeChCtl who ch v w).mode = s.mode :=
  mode_of_frame (frame_writeChCtl (M := 198145) who ch v w rfl (frame_refl _ s)) rfl

theorem registerWrite_goes (who : Requester) (o : Nat) (b : BusWord) (s : State) :
    GoesO drainEdges s (exec (.registerWrite who o b) s) := by
  refine goesO_next ?_
  split
  · split
    · exact barWrite_goes s _ _ _
    · split
      · exact goes_same rfl
      · split
        · exact barWrite_goes s _ _ _
        · split
          · exact goes_same (plainWrite_mode s _ _ _)
          · exact goes_same rfl
  · split
    · exact goes_same rfl
    · split
      · exact goes_same (raise_mode s _ _)
      · split
        · exact goes_same (writeChCtl_mode s _ _ _ _)
        · split
          · exact goes_same (plainWrite_mode s _ _ _)
          · exact goes_same rfl

theorem restartNow_goes (s : State) (v : Via) (w : DrainFor) (c : ModeCause) :
    Goes restartEdges (s.restartNow v w c).mode s.mode := by
  unfold State.restartNow
  split
  · next h => exact goes_edge (toStrap_mode _ _) h (by decide)
  · have hrequest : Goes restartEdges (s.restartRequest w c (0xCD, pathCode (viaPath v))).mode s.mode :=
      (restartRequest_goes s w c _).imp id fun h => List.mem_append_left [(.maintenance, .strap)] h
    dsimp only
    split
    · rwa [reply_mode]
    · rwa [reply_mode]

/-- A request over NVMe-MI takes no edge but those of what it runs. -/
theorem miServe_goes {es : List (Mode × Mode)} (s : State) (id : Nat) (early full maint : Bool) (g : State → State)
    (hg : ∀ u, Goes es (g u).mode u.mode) : Goes es (s.miServe id early full maint g).mode s.mode := by
  have hserved : ∀ served : Bool, Goes es (if served then g s.miTake else s.miTake.miRefuse id).mode s.mode := fun served => by
    split
    · exact hg s.miTake
    · exact goes_same (miRefuse_mode s.miTake id)
  unfold State.miServe
  split
  · exact goes_same rfl
  · exact hserved early
  · exact hserved full
  · exact hserved maint

/-- An admin command takes no edge but those of what it runs. -/
theorem adminRun_goes {es : List (Mode × Mode)} (s : State) (a : Adm) (onFunc : Nat → Bool) (mi maint : Bool) (g : State → State)
    (hg : ∀ u, Goes es (g u).mode u.mode) : Goes es (s.adminRun a onFunc mi maint g).mode s.mode := by
  have hfields : ∀ u : State, Goes es (u.adminFields a g).mode u.mode := fun u => by
    unfold State.adminFields
    split
    · exact hg u
    · exact goes_same (reply_mode u _ _ _)
  unfold State.adminRun
  split
  · next f _ _ =>
    split
    · exact goes_same rfl
    · dsimp only
      rw [← keepAlive_mode s f]
      split
      · exact hfields _
      · exact goes_same (reply_mode _ _ _ _)
  · exact miServe_goes s _ _ _ _ _ hfields

/-- An authorised request's edges are those of the restart that it asks for. -/
theorem authorised_goes (s : State) (p : AuthPath) (want : Nat) (a : Auth) (v : Via) (w : DrainFor) (c : ModeCause) :
    Goes restartEdges (if (s.authorise p want a).1 ≠ 0 then (s.authorise p want a).2.authReply v (s.authorise p want a).1
      else (s.authorise p want a).2.restartNow v w c).mode s.mode := by
  have hkeep := authorise_mode s p want a
  generalize s.authorise p want a = r at hkeep ⊢
  rw [← hkeep]
  split
  · exact goes_same (authReply_mode r.2 v r.1)
  · exact restartNow_goes r.2 v w c

theorem restart_goes (a : Adm) (auth : List Byte) (s : State) : GoesO restartEdges s (exec (.restart a auth) s) := by
  refine goesO_next (adminRun_goes s a pfOnly true true _ fun u => ?_)
  exact authorised_goes u (viaPath a.via) 1 (readAuth auth) a.via .restart .restart

theorem maintenanceRequest_goes (a : Adm) (auth : List Byte) (s : State) :
    GoesO restartEdges s (exec (.maintenanceRequest a auth) s) := by
  refine goesO_next (adminRun_goes s a pfOnly true true _ fun u => ?_)
  exact authorised_goes u (viaPath a.via) 2 (readAuth auth) a.via .maintenance .management

theorem miCol_maint {s : State} (h : s.miCol = .maint) : s.mode = .maintenance := by
  unfold State.miCol at h
  split at h
  · cases h
  · split at h
    case h_3 hmode => exact hmode
    all_goals cases h

/-- NVMe-MI's Reset is served in MAINTENANCE alone (R536). -/
theorem miReset_goes (id : Nat) (s : State) : GoesO restartEdges s (exec (.miReset id) s) := by
  refine goesO_next ?_
  unfold State.miServe
  split
  · exact goes_same rfl
  · exact goes_same (miRefuse_mode s.miTake id)
  · exact goes_same (miRefuse_mode s.miTake id)
  · next hcol =>
    split
    · exact goes_edge (toStrap_mode _ _) (miCol_maint hcol) (by decide)
    · exact goes_same (miRefuse_mode s.miTake id)

theorem drainComplete_goes (s : State) : GoesO drainEndEdges s (exec .drainComplete s) := by
  refine goesO_next ?_
  split
  · exact goes_same rfl
  · next hend =>
    have hdrain : s.mode = .drain := by
      simp only [Bool.or_eq_true, decide_eq_true_eq, not_or, not_not] at hend
      exact hend.1.1.1
    split
    · exact goes_same (forceAll_mode s)
    · split
      · exact goes_same (drainDone_mode s)
      · exact goes_edge (toStrap_mode _ _) hdrain (by decide)
      · exact goes_edge (toMaint_mode _ _ _) hdrain (by decide)
      · have hflush : (s.drainDone.enterFlush .thermal .thermal).mode = .flush := by
          rw [enterFlush_mode, drainDone_mode, hdrain]; rfl
        exact goes_edge hflush hdrain (by decide)
      · exact goes_same rfl

theorem flushComplete_goes (s : State) : GoesO [(.flush, .off)] s (exec .flushComplete s) := by
  refine goesO_next ?_
  split
  · next hflush => exact goes_edge (toOff_mode _ _ _) hflush (by decide)
  · exact goes_same rfl

/-! ## The shutdown threshold -/

theorem shutDown_goes (s : State) (left : Option Nat) : Goes thermalEdges (s.shutDown left).mode s.mode := by
  have hdrain (h : s.mode = .service ∨ s.mode = .throttle) : (s.enterDrain .thermal .thermal).mode = .drain := by
    rw [enterDrain_mode, if_pos h]
  have hflush (h : modeLedger s.mode = true) : (s.enterFlush .thermal .thermal).mode = .flush := by
    rw [enterFlush_mode, if_pos h]
  unfold State.shutDown
  split
  case h_1 h =>
    split
    · exact goes_edge (hdrain (Or.inl h)) h (by decide)
    · exact goes_edge (hflush (by rw [h]; rfl)) h (by decide)
  case h_2 h =>
    split
    · exact goes_edge (hdrain (Or.inr h)) h (by decide)
    · exact goes_edge (hflush (by rw [h]; rfl)) h (by decide)
  case h_3 h =>
    split
    · exact goes_same (discardRequest_mode s)
    · exact goes_edge (hflush (by rw [h]; rfl)) h (by decide)
  case h_4 h => exact goes_edge (hflush (by rw [h]; rfl)) h (by decide)
  case h_5 h => exact goes_edge (toOff_mode _ _ _) h (by decide)
  case h_6 h => exact goes_edge (toOff_mode _ _ _) h (by decide)
  case h_7 h => exact goes_edge (toOff_mode _ _ _) h (by decide)
  case h_8 => exact goes_same rfl

theorem judgeShutdown_goes (s : State) (reading : Int) (h : List (Nat × Int)) :
    Goes thermalEdges (s.judgeShutdown reading h).mode s.mode := by
  unfold State.judgeShutdown
  dsimp only
  split
  · have hdown := shutDown_goes (({ s with thm := { s.thm with shutting := true } } : State).raise .thmCause 3) (timeLeft h)
    rwa [raise_mode] at hdown
  · split
    · next hlate =>
      simp only [Bool.and_eq_true, decide_eq_true_eq] at hlate
      obtain ⟨⟨-, hdrain⟩, -⟩ := hlate
      have hflush : (s.enterFlush .thermal .thermal).mode = .flush := by rw [enterFlush_mode, hdrain]; rfl
      exact goes_edge hflush hdrain (by decide)
    · exact goes_same rfl

theorem sensorSample_goes (n : Nat) (r : Int) (ok : Bool) (s : State) : GoesO thermalEdges s (exec (.sensorSample n r ok) s) := by
  have hjudged : ∀ (u : State) (r : Int) (step : Bool) (h : List (Nat × Int)), u.mode = s.mode →
      Goes thermalEdges (((u.judgeWarn r).judgeThrottle r step).judgeShutdown r h).mode s.mode := fun u r step h hu => by
    have hshut := judgeShutdown_goes ((u.judgeWarn r).judgeThrottle r step) r h
    rwa [judgeThrottle_mode, judgeWarn_mode, hu] at hshut
  refine goesO_next (goes_ite (goes_same rfl) (hjudged _ _ _ _ ?_))
  generalize (!ok || decide (r < -80) || decide (560 < r)) = fails
  cases fails
  · exact syncThm_mode _
  · exact (raise_mode _ _ _).trans (syncThm_mode _)

/-! ## Folio boundaries -/

/-- What a boundary outside HIBERNATE does before the throttle level: a wake in DOZE, and elsewhere the return to SERVICE. -/
def State.boundaryWork (s : State) (was : Mode) : State :=
  if was = .doze then s.wakeBoundary else if s.mode = .doze then s else s.serviceAgain.switchPlan none

theorem exec_folioBoundary_form (s : State) (hruns : modeLedger s.mode = true) (hdue : s.ldg.folioStart + 1310720 ≤ s.ldg.tick) :
    ∃ u : State, u.mode = s.mode ∧ exec .folioBoundary s = .next (
      if u.sleepBoundary.mode = .hibernate then u.sleepBoundary
      else (u.sleepBoundary.boundaryWork s.mode).followThrottle.resumeWork) := by
  refine ⟨({ s with ldg := { s.ldg with
    folioStart := s.ldg.folioStart + 1310720, folio := s.ldg.folio + 1, folios := s.ldg.folios + 1 } } : State).countCool,
    countCool_mode _, ?_⟩
  exact congrArg Host.Outcome.next (if_pos (by simp [hruns, hdue]))

theorem boundaryWork_mode (s : State) (was : Mode) : (s.boundaryWork was).mode = s.mode ∨
    (was = .doze ∨ s.mode = .drain) ∧ (s.boundaryWork was).mode = .service := by
  unfold State.boundaryWork
  split
  · next h => exact (wakeBoundary_mode s).imp id fun hservice => ⟨Or.inl h, hservice⟩
  · split
    · exact Or.inl rfl
    · rw [switchPlan_mode]
      exact (serviceAgain_mode s).imp id fun ⟨hdrain, hservice⟩ => ⟨Or.inr hdrain, hservice⟩

/-- A boundary's first two changes of mode: from `m` by the sleep entry to `a`, and by a wake or the return to SERVICE to `b`. -/
theorem boundary_before_throttle {m a b : Mode} (hm : modeLedger m = true) (hsleep : a = m ∨ m ≠ .drain ∧ a = .doze)
    (hwork : b = a ∨ (m = .doze ∨ a = .drain) ∧ b = .service) :
    b = m ∨ (m = .service ∨ m = .throttle) ∧ b = .doze ∨ (m = .doze ∨ m = .drain) ∧ b = .service := by
  rcases hwork with rfl | ⟨hdoze | hdrain, rfl⟩
  · rcases hsleep with h | ⟨hdrain, hdoze⟩
    · exact Or.inl h
    · rcases (modeLedger_iff m).mp hm with h | h | h | h
      · exact Or.inr (Or.inl ⟨Or.inl h, hdoze⟩)
      · exact Or.inr (Or.inl ⟨Or.inr h, hdoze⟩)
      · exact absurd h hdrain
      · exact Or.inl (hdoze.trans h.symm)
  · exact Or.inr (Or.inr ⟨Or.inl hdoze, rfl⟩)
  · refine Or.inr (Or.inr ⟨Or.inr ?_, rfl⟩)
    rcases hsleep with h | ⟨-, hdoze⟩
    · exact h.symm.trans hdrain
    · exact absurd (hdrain.symm.trans hdoze) (by decide)

/-- With the third, by the throttle level to `n`, they make a boundary's edges. -/
theorem goes_boundary {m b n : Mode}
    (hb : b = m ∨ (m = .service ∨ m = .throttle) ∧ b = .doze ∨ (m = .doze ∨ m = .drain) ∧ b = .service)
    (hthrottle : n = b ∨ b = .service ∧ n = .throttle ∨ b = .throttle ∧ n = .service) : Goes boundaryEdges n m := by
  rcases hb with rfl | ⟨hm, rfl⟩ | ⟨hm, rfl⟩
  · rcases hthrottle with h | ⟨hm, hn⟩ | ⟨hm, hn⟩
    · exact goes_same h
    · exact goes_edge hn hm (by decide)
    · exact goes_edge hn hm (by decide)
  · have hn : n = .doze := by simpa using hthrottle
    rcases hm with hm | hm <;> exact goes_edge hn hm (by decide)
  · have hn : n = .service ∨ n = .throttle := by simpa using hthrottle
    rcases hm with hm | hm <;> rcases hn with hn | hn <;> exact goes_edge hn hm (by decide)

theorem goes_hibernate {m : Mode} (hm : modeLedger m = true) (hdrain : m ≠ .drain) : Goes boundaryEdges .hibernate m := by
  rcases (modeLedger_iff m).mp hm with rfl | rfl | rfl | rfl
  · exact goes_edge rfl rfl (by decide)
  · exact goes_edge rfl rfl (by decide)
  · exact absurd rfl hdrain
  · exact goes_edge rfl rfl (by decide)

theorem folioBoundary_goes (s : State) : GoesO boundaryEdges s (exec .folioBoundary s) := by
  by_cases hends : modeLedger s.mode = true ∧ s.ldg.folioStart + 1310720 ≤ s.ldg.tick
  · obtain ⟨hruns, hdue⟩ := hends
    obtain ⟨u, hu, hexec⟩ := exec_folioBoundary_form s hruns hdue
    rw [hexec]
    refine goesO_next ?_
    have hsleep := sleepBoundary_mode u
    rw [hu] at hsleep
    split
    · next hhibernate =>
      rcases hsleep with hsame | ⟨hdrain, -⟩
      · exact goes_same hsame
      · rw [hhibernate]; exact goes_hibernate hruns hdrain
    · next hawake =>
      have hdoze := hsleep.imp id fun ⟨hdrain, hslept⟩ => And.intro hdrain (hslept.resolve_right hawake)
      rw [resumeWork_mode]
      exact goes_boundary (boundary_before_throttle hruns hdoze (boundaryWork_mode _ _)) (followThrottle_mode _)
  · have hearly : exec .folioBoundary s = .next s := congrArg Host.Outcome.next (if_neg (by simpa using hends))
    rw [hearly]
    exact goesO_next (goes_same rfl)

/-! ## Every command -/

/-- POR_N has fallen, and a running operation of the boot flash is abandoned. -/
def State.porFallen (s : State) : State := { s.norAbandon with pins := { s.norAbandon.pins with porN := false } }

/-- What POR_N's fall leaves: OFF, every register reset, and AON with its retention bank lost (R77). -/
def State.porReset (s : State) : State :=
  let s1 := s.porFallen.toOff .por .por
  { s1 with
    regs := [], boot := {}, mgt := {}, jtag := {},
    evt := { log := s1.evt.log, pagePrograms := s1.evt.pagePrograms },
    pwr := { flushCopy := s1.pwr.flushCopy, metaCopy := s1.pwr.metaCopy, wearHist := s1.pwr.wearHist, wearDue := s1.pwr.wearDue },
    xfr := keepSpaces (fun n => decide (n = 10)) s1.xfr, mem := {},
    pins := { s1.pins with alertN := true, ddrResetN := false, vrefOnce := false, flioOnce := false } }

theorem exec_porNAssert (s : State) : exec .porNAssert s = .next s.porReset := rfl

theorem porReset_mode (s : State) : s.porReset.mode = .off := toOff_mode s.porFallen .por .por

/-- The commands that end OFF (R66, R79). -/
def EndsOff (c : Instr) : Prop := c = .porNRelease ∨ c = .plossNRise ∨ c = .pwrGoodRise ∨ c = .offExitCountExpiry

/-- Edges of R77's table, none of which leaves OFF. -/
def outsideOff (es : List (Mode × Mode)) : Bool := es.all fun e => modeEdge e.1 e.2 && decide (e.1 ≠ .off)

/-- Edges that the command `c` may take: a boundary's, those that end OFF, or others of R77's table. -/
def Allowed (c : Instr) (es : List (Mode × Mode)) : Prop :=
  c = .folioBoundary ∧ es = boundaryEdges ∨ EndsOff c ∧ es = offEdges ∨ outsideOff es = true

theorem allowed_outsideOff {c : Instr} {es : List (Mode × Mode)} (h : outsideOff es = true) : Allowed c es := Or.inr (Or.inr h)

theorem allowed_endsOff {c : Instr} (h : EndsOff c) : Allowed c offEdges := Or.inr (Or.inl ⟨h, rfl⟩)

/-- A command whose footprint lacks the mode keeps it. -/
theorem mode_of_footprint {c : Instr} {s t : State} (h : exec c s = .next t) (hc : (footprint c).contains .mode = false) :
    t.mode = s.mode := footprintKept c s t h .mode (by simpa using hc)

/-- Every command but POR_N's fall keeps the mode or takes an edge that it may take. -/
theorem exec_goes (c : Instr) (s : State) (hc : c ≠ .porNAssert) : ∃ es, GoesO es s (exec c s) ∧ Allowed c es := by
  cases hmode : (footprint c).contains .mode
  · exact ⟨[], fun t h => goes_same (mode_of_footprint h hmode), allowed_outsideOff rfl⟩
  cases c
  case porNAssert => exact absurd rfl hc
  case porNRelease => exact ⟨_, porNRelease_goes s, allowed_endsOff (Or.inl rfl)⟩
  case plossNRise => exact ⟨_, plossNRise_goes s, allowed_endsOff (Or.inr (Or.inl rfl))⟩
  case pwrGoodRise => exact ⟨_, pwrGoodRise_goes s, allowed_endsOff (Or.inr (Or.inr (Or.inl rfl)))⟩
  case offExitCountExpiry => exact ⟨_, offExitCountExpiry_goes s, allowed_endsOff (Or.inr (Or.inr (Or.inr rfl)))⟩
  case folioBoundary => exact ⟨_, folioBoundary_goes s, Or.inl ⟨rfl, rfl⟩⟩
  case plossNAssert => exact ⟨_, plossNAssert_goes s, allowed_outsideOff rfl⟩
  case pwrGoodDrop => exact ⟨_, pwrGoodDrop_goes s, allowed_outsideOff rfl⟩
  case strapSample v => exact ⟨_, strapSample_goes v s, allowed_outsideOff rfl⟩
  case oscillatorQualified => exact ⟨_, oscillatorQualified_goes s, allowed_outsideOff rfl⟩
  case pllLock us => exact ⟨_, pllLock_goes us s, allowed_outsideOff rfl⟩
  case calRowReadDone => exact ⟨_, calRowReadDone_goes s, allowed_outsideOff rfl⟩
  case bankFillDone b => exact ⟨_, bankFillDone_goes b s, allowed_outsideOff rfl⟩
  case dramFillDone => exact ⟨_, dramFillDone_goes s, allowed_outsideOff rfl⟩
  case ddr5BootSweepDone eyes => exact ⟨_, ddr5BootSweepDone_goes eyes s, allowed_outsideOff rfl⟩
  case loadStepComplete ids misfit => exact ⟨_, loadStepComplete_goes ids misfit s, allowed_outsideOff rfl⟩
  case ddr5LevelSweepDone eyes => exact ⟨_, ddr5LevelSweepDone_goes eyes s, allowed_outsideOff rfl⟩
  case sensorSelfCheckDone => exact ⟨_, sensorSelfCheckDone_goes s, allowed_outsideOff rfl⟩
  case processorFault p => exact ⟨_, processorFault_goes p s, allowed_outsideOff rfl⟩
  case watchdogKick k => exact ⟨_, watchdogKick_goes k s, allowed_outsideOff rfl⟩
  case watchdogExpiry => exact ⟨_, watchdogExpiry_goes s, allowed_outsideOff rfl⟩
  case norOpComplete ok => exact ⟨_, norOpComplete_goes ok s, allowed_outsideOff rfl⟩
  case evtProgramDone ok => exact ⟨_, evtProgramDone_goes ok s, allowed_outsideOff rfl⟩
  case sensorSample n r ok => exact ⟨_, sensorSample_goes n r ok s, allowed_outsideOff rfl⟩
  case shutdownNotification n => exact ⟨_, shutdownNotification_goes n s, allowed_outsideOff rfl⟩
  case nssrWrite v => exact ⟨_, nssrWrite_goes v s, allowed_outsideOff rfl⟩
  case propertySet qp cid offset v => exact ⟨_, propertySet_goes qp cid offset v s, allowed_outsideOff rfl⟩
  case registerWrite who o b => exact ⟨_, registerWrite_goes who o b s, allowed_outsideOff rfl⟩
  case restart a auth => exact ⟨_, restart_goes a auth s, allowed_outsideOff rfl⟩
  case maintenanceRequest a auth => exact ⟨_, maintenanceRequest_goes a auth s, allowed_outsideOff rfl⟩
  case miReset id => exact ⟨_, miReset_goes id s, allowed_outsideOff rfl⟩
  case drainComplete => exact ⟨_, drainComplete_goes s, allowed_outsideOff rfl⟩
  case flushComplete => exact ⟨_, flushComplete_goes s, allowed_outsideOff rfl⟩
  all_goals exact Bool.noConfusion hmode

theorem outsideOff_mem {es : List (Mode × Mode)} (h : outsideOff es = true) {m n : Mode} (he : (m, n) ∈ es) :
    modeEdge m n = true ∧ m ≠ .off := by
  have hedge := List.all_eq_true.mp h _ he
  simpa only [Bool.and_eq_true, decide_eq_true_eq] using hedge

/-- An edge of a boundary is one of R77's table, or goes on from SERVICE to THROTTLE (R77, R509). -/
theorem boundaryEdges_modeEdge :
    ∀ e ∈ boundaryEdges, modeEdge e.1 e.2 = true ∨ modeEdge e.1 .service = true ∧ e.2 = .throttle := by
  decide

/-- Settles O10: the edges that each command may take are edges of the table. -/
theorem modeFollowsTable : Obligations.ModeFollowsTable := by
  intro c s t h
  by_cases hpor : c = .porNAssert
  · rw [hpor, exec_porNAssert] at h
    cases h
    exact Or.inr (Or.inr (Or.inl ⟨hpor, porReset_mode s⟩))
  · obtain ⟨es, hgoes, hallowed⟩ := exec_goes c s hpor
    refine (hgoes t h).imp id fun hedge => ?_
    rcases hallowed with ⟨hboundary, rfl⟩ | ⟨-, rfl⟩ | htable
    · rcases boundaryEdges_modeEdge _ hedge with htable | hboth
      · exact Or.inl htable
      · exact Or.inr (Or.inr ⟨hboundary, hboth⟩)
    · obtain ⟨hoff, hstrap⟩ := Prod.mk.inj (List.mem_singleton.mp hedge)
      exact Or.inl (by rw [hoff, hstrap]; rfl)
    · exact Or.inl (outsideOff_mem htable hedge).1

/-! ## The end of OFF -/

/-- The inputs that R66 and R79 ask for at OFF's end, and PWR_HOLD. -/
def InputsUp (s : State) : Prop := s.pins.porN = true ∧ s.pins.pwrGood = true ∧ s.plossHigh = true ∧ s.pins.pwrHold = true

/-- A change of mode leaves the pins. -/
theorem enter_pins (s : State) (m : Mode) (c : ModeCause) : (s.enter m c).pins = s.pins :=
  (frame_enter (M := 1559) m c rfl (frame_refl _ s)).pins.resolve_left (by decide)

theorem syncBanks_pins (s : State) : s.syncBanks.pins = s.pins :=
  (frame_syncBanks (M := 131072) rfl (frame_refl _ s)).pins.resolve_left (by decide)

theorem restoreTime_pins (s : State) : s.restoreTime.pins = s.pins :=
  (frame_restoreTime (M := 32) rfl (frame_refl _ s)).pins.resolve_left (by decide)

/-- STRAP's entry leaves the inputs and drives PWR_HOLD high (R67). -/
theorem toStrap_pins (s : State) (fromOff : Bool) : ∃ v f, (s.toStrap fromOff).pins = { s.pins with
    vrefOut := v, flioOut := f, chgPwm := 0, spareOut := 0, segTest := 0, pwrHold := true } := by
  have hpins := enter_pins s .strap (if fromOff then .none else .restart)
  unfold State.toStrap
  extract_lets s1 s2 _ _ s3
  have h2 : s2.pins = s1.pins := syncBanks_pins _
  have h3 : s3.pins = s1.pins := by
    rw [← h2]
    cases fromOff
    · rfl
    · exact restoreTime_pins s2
  refine ⟨s1.pins.vrefOut, s1.pins.flioOut, ?_⟩
  have h1 : s1.pins = { s.pins with
      vrefOut := s1.pins.vrefOut, flioOut := s1.pins.flioOut, chgPwm := 0, spareOut := 0, segTest := 0 } := by
    rw [← hpins]; rfl
  exact congrArg (fun p : Pins => { p with pwrHold := true }) (h3.trans h1)

theorem toStrap_inputsUp (s : State) (fromOff : Bool) (hpor : s.pins.porN = true) (hgood : s.pins.pwrGood = true)
    (hploss : s.plossHigh = true) : InputsUp (s.toStrap fromOff) := by
  obtain ⟨v, f, hpins⟩ := toStrap_pins s fromOff
  refine ⟨?_, ?_, hploss, ?_⟩ <;> rw [hpins]
  · exact hpor
  · exact hgood

theorem tryStrap_inputsUp (s : State) (h : s.tryStrap.mode ≠ s.mode) : InputsUp s.tryStrap := by
  rcases tryStrap_mode s with hsame | ⟨hoff, hpor, hgood, hploss, -⟩
  · exact absurd hsame h
  · have hends : s.tryStrap = s.toStrap true := if_pos (by simp [hoff, hpor, hgood, hploss])
    rw [hends]
    exact toStrap_inputsUp s true hpor hgood hploss

theorem inputsHigh_inputsUp (s : State) (h : s.inputsHigh.mode ≠ s.mode) : InputsUp s.inputsHigh := by
  unfold State.inputsHigh at h ⊢
  split at h
  · next hin =>
    rw [if_pos hin]
    split at h
    · exact tryStrap_inputsUp s h
    · exact absurd rfl h
    · exact absurd rfl h
  · exact absurd rfl h

/-- POR_N has risen; AON takes a PLOSS_N that is low then as low (R50, R66). -/
def State.porReleased (s : State) : State := { s with
  pins := { s.pins with porN := true }, boot := { s.boot with offReason := .por, plossFalling := false, plossLow := !s.pins.plossN } }

theorem exec_porNRelease_high (s : State) (h : s.pins.porN = true) : exec .porNRelease s = .next s :=
  congrArg Host.Outcome.next (if_pos h)

theorem exec_porNRelease_low (s : State) (h : s.pins.porN = false) : exec .porNRelease s = .next s.porReleased.syncBanks.tryStrap :=
  congrArg Host.Outcome.next (if_neg (Bool.eq_false_iff.mp h))

/-- PLOSS_N has returned high after a low that had registered (R50). -/
def State.plossReturned (s : State) : State := { s with
  pins := { s.pins with plossN := true }, boot := { s.boot with plossFalling := false, plossLow := false, plossUp := s.ldg.tick } }

theorem exec_plossNRise_unregistered (s : State) (h : s.boot.plossLow = false) : exec .plossNRise s = .next { s with
    pins := { s.pins with plossN := true }, boot := { s.boot with plossFalling := false } } := by
  have hkeep := congrArg (fun low => ({ s with
    pins := { s.pins with plossN := true }, boot := { s.boot with plossFalling := false, plossLow := low } } : State)) h.symm
  exact congrArg Host.Outcome.next ((if_neg (Bool.eq_false_iff.mp h)).trans hkeep)

theorem exec_plossNRise_registered (s : State) (h : s.boot.plossLow = true) :
    exec .plossNRise s = .next s.plossReturned.inputsHigh := congrArg Host.Outcome.next (if_pos h)

def State.goodRisen (s : State) : State := { s with pins := { s.pins with pwrGood := true } }

theorem exec_pwrGoodRise (s : State) : exec .pwrGoodRise s = .next s.goodRisen.inputsHigh := rfl

theorem exec_offExitCountExpiry_over (s : State) (h : (s.boot.offCount && decide (s.boot.offReason = .ploss)) = true) :
    exec .offExitCountExpiry s = .next s.tryStrap := congrArg Host.Outcome.next (if_pos h)

theorem exec_offExitCountExpiry_idle (s : State) (h : ¬(s.boot.offCount && decide (s.boot.offReason = .ploss)) = true) :
    exec .offExitCountExpiry s = .next s := congrArg Host.Outcome.next (if_neg h)

/-- Where a command that ends OFF changes the mode, the inputs are up. -/
theorem endsOff_inputsUp {c : Instr} {s t : State} (hc : EndsOff c) (h : exec c s = .next t) (hmode : t.mode ≠ s.mode) :
    InputsUp t := by
  rcases hc with rfl | rfl | rfl | rfl
  · cases hpor : s.pins.porN
    · rw [exec_porNRelease_low s hpor] at h
      cases h
      exact tryStrap_inputsUp _ (by rwa [syncBanks_mode])
    · rw [exec_porNRelease_high s hpor] at h
      cases h
      exact absurd rfl hmode
  · cases hlow : s.boot.plossLow
    · rw [exec_plossNRise_unregistered s hlow] at h
      cases h
      exact absurd rfl hmode
    · rw [exec_plossNRise_registered s hlow] at h
      cases h
      exact inputsHigh_inputsUp s.plossReturned hmode
  · rw [exec_pwrGoodRise] at h
    cases h
    exact inputsHigh_inputsUp s.goodRisen hmode
  · by_cases hcount : (s.boot.offCount && decide (s.boot.offReason = .ploss)) = true
    · rw [exec_offExitCountExpiry_over s hcount] at h
      cases h
      exact tryStrap_inputsUp s hmode
    · rw [exec_offExitCountExpiry_idle s hcount] at h
      cases h
      exact absurd rfl hmode

/-- Settles O11: of the edges that a command may take only those of `EndsOff` leave OFF, and there the inputs are up. -/
theorem strapOnlyWithInputsHigh : Obligations.StrapOnlyWithInputsHigh := by
  intro c s t hoff h hleft
  have hpor : c ≠ .porNAssert := by
    rintro rfl
    rw [exec_porNAssert] at h
    cases h
    exact hleft (porReset_mode s)
  obtain ⟨es, hgoes, hallowed⟩ := exec_goes c s hpor
  have hedge : (s.mode, t.mode) ∈ es := (hgoes t h).resolve_left (by rwa [hoff])
  rw [hoff] at hedge
  rcases hallowed with ⟨-, rfl⟩ | ⟨hends, rfl⟩ | htable
  · exact absurd hedge (by revert hedge; cases t.mode <;> decide)
  · have hstrap : t.mode = .strap := (Prod.mk.inj (List.mem_singleton.mp hedge)).2
    exact ⟨hstrap, hends, endsOff_inputsUp hends h (by rwa [hoff])⟩
  · exact absurd rfl (outsideOff_mem htable hedge).2

end Sys2Proof.Machine
end

section
/-!
POR_N, PLOSS_N and PWR_GOOD: the ways into and out of OFF, and a power loss in each mode (R50, R66 to R71, R77, R79, R101).
-/
set_option Elab.async false

namespace Sys2Proof.Machine

/-! ## OFF's entry -/

/-- OFF's entry floats the pads of LDG and drops PWR_HOLD; the board's inputs stand (R53, R67). -/
theorem toOff_porN (s : State) (why : OffReason) (c : ModeCause) : (s.toOff why c).pins.porN = s.pins.porN := by
  have hpins : (s.enter .off c).dropVolatile.floatLdg.syncBanks.pins = (s.enter .off c).dropVolatile.floatLdg.pins := syncBanks_pins _
  have hpor : (s.enter .off c).dropVolatile.floatLdg.syncBanks.pins.porN = s.pins.porN := by
    rw [hpins, ← enter_pins s .off c]; rfl
  exact hpor

/-- After the mode's change and the loss of volatile state OFF's entry touches registers, pins, banks, the Reserve and start-up's progress
alone. -/
theorem toOff_frame (s : State) (why : OffReason) (c : ModeCause) : Frame 147481 (s.enter .off c).dropVolatile (s.toOff why c) := by
  unfold State.toOff
  extract_lets s1 s2 _
  have hframe : Frame 147481 (s.enter .off c).dropVolatile s2 :=
    frame_setFld _ _ _ _ rfl (frame_setFld _ _ _ _ rfl (frame_syncBanks rfl (frame_floatLdg rfl (frame_refl _ _))))
  clear_value s2
  exact { hframe with pins := Or.inl rfl, rsv := Or.inl rfl, boot := Or.inl rfl }

/-- The network's state is lost in OFF. -/
theorem toOff_net (s : State) (why : OffReason) (c : ModeCause) : (s.toOff why c).net = {} :=
  (toOff_frame s why c).net.resolve_left (by decide)

theorem enter_cry (s : State) (m : Mode) (c : ModeCause) : (s.enter m c).cry = s.cry :=
  (frame_enter (M := 1559) m c rfl (frame_refl _ s)).cry.resolve_left (by decide)

/-- OFF keeps the fuses (R454). -/
theorem toOff_fuses (s : State) (why : OffReason) (c : ModeCause) : (s.toOff why c).fuses = s.fuses := by
  have hcry := (toOff_frame s why c).cry.resolve_left (by decide)
  rw [State.fuses, State.fuses, hcry, ← enter_cry s .off c]
  rfl

theorem norAbandon_frame (s : State) : Frame 4196097 s s.norAbandon := frame_norAbandon rfl (frame_refl _ s)

theorem porFallen_fuses (s : State) : s.porFallen.fuses = s.fuses :=
  congrArg (fun y : Cry => (y.life, y.deviceKey)) ((norAbandon_frame s).cry.resolve_left (by decide))

/-- POR_N's fall leaves OFF with POR_N low and no network state; the fuses stand (R77, R454). -/
theorem porReset_leaves (s : State) : s.porReset.mode = .off ∧ s.porReset.pins.porN = false ∧ s.porReset.net = {} ∧
    s.porReset.fuses = s.fuses :=
  ⟨porReset_mode s, toOff_porN s.porFallen .por .por, toOff_net s.porFallen .por .por,
    (toOff_fuses s.porFallen .por .por).trans (porFallen_fuses s)⟩

/-! ## OFF's end -/

theorem syncBanks_boot (s : State) : s.syncBanks.boot = s.boot := boot_of_frame (frame_syncBanks (M := 131072) rfl (frame_refl _ s)) rfl

/-- R66 holds: OFF ends into STRAP. -/
theorem tryStrap_ends (s : State) (hoff : s.mode = .off) (hpor : s.pins.porN = true) (hgood : s.pins.pwrGood = true)
    (hploss : s.plossHigh = true) : s.tryStrap = s.toStrap true := if_pos (by simp [hoff, hpor, hgood, hploss])

theorem tryStrap_waits (s : State) (h : s.pins.pwrGood = false ∨ s.plossHigh = false) : s.tryStrap = s :=
  if_neg (by rcases h with h | h <;> simp [h])

section
variable (s : State) (hoff : s.mode = .off) (hpor : s.pins.porN = true) (hgood : s.pins.pwrGood = true) (hploss : s.plossHigh = true)
include hoff hpor hgood hploss

/-- Where R66 alone is awaited the inputs end OFF at once. -/
theorem inputsHigh_por (hwhy : s.boot.offReason = .por) : s.inputsHigh = s.toStrap true := by
  have hin : (decide (s.mode = .off) && s.pins.porN && s.pins.pwrGood && s.plossHigh) = true := by simp [hoff, hpor, hgood, hploss]
  rw [State.inputsHigh, if_pos hin, hwhy]
  exact tryStrap_ends s hoff hpor hgood hploss

/-- After a power loss the inputs start the count of 100 ms (R79). -/
theorem inputsHigh_ploss (hwhy : s.boot.offReason = .ploss) :
    s.inputsHigh = { s with boot := { s.boot with offCount := true } } := by
  have hin : (decide (s.mode = .off) && s.pins.porN && s.pins.pwrGood && s.plossHigh) = true := by simp [hoff, hpor, hgood, hploss]
  rw [State.inputsHigh, if_pos hin, hwhy]

end

theorem porReleased_plossHigh (s : State) : s.porReleased.syncBanks.plossHigh = s.pins.plossN := by
  rw [State.plossHigh, syncBanks_boot]
  exact Bool.not_not _

/-- Settles O12: the fall's state, and the two cases of the release. -/
theorem powerOnReset : Obligations.PowerOnReset := by
  refine ⟨fun s => ?_, fun s hoff hpor hgood hploss => ?_, fun s hoff hpor hwait => ?_⟩
  · obtain ⟨hmode, hlow, hnet, hfuses⟩ := porReset_leaves s
    exact ⟨_, exec_porNAssert s, hmode, hlow, rfl, rfl, rfl, rfl, rfl, rfl, hnet, hfuses⟩
  · have hends : s.porReleased.syncBanks.tryStrap = s.porReleased.syncBanks.toStrap true :=
      tryStrap_ends _ (by rw [syncBanks_mode]; exact hoff) (by rw [syncBanks_pins]; rfl) (by rw [syncBanks_pins]; exact hgood)
        ((porReleased_plossHigh s).trans hploss)
    have hexec := exec_porNRelease_low s hpor
    rw [hends] at hexec
    obtain ⟨v, f, hpins⟩ := toStrap_pins s.porReleased.syncBanks true
    exact ⟨_, hexec, toStrap_mode _ true, by rw [hpins, syncBanks_pins]; rfl, rfl, rfl⟩
  · have hwaits : s.porReleased.syncBanks.tryStrap = s.porReleased.syncBanks :=
      tryStrap_waits _ (by rw [porReleased_plossHigh, syncBanks_pins]; exact hwait)
    have hexec := exec_porNRelease_low s hpor
    rw [hwaits] at hexec
    exact ⟨_, hexec, by rw [syncBanks_mode]; exact hoff, by rw [syncBanks_pins]; rfl⟩

theorem exec_plossNFall_high (s : State) (h : s.pins.plossN = true) : exec .plossNFall s = .next { s with
    pins := { s.pins with plossN := false }, boot := { s.boot with plossFalling := s.pins.porN } } :=
  congrArg Host.Outcome.next (if_pos h)

theorem exec_plossNFall_low (s : State) (h : s.pins.plossN = false) : exec .plossNFall s = .next s :=
  congrArg Host.Outcome.next (if_neg (Bool.eq_false_iff.mp h))

/-- The state in which FLUSH's end enters OFF: the area written with its duration (R399). -/
def State.flushed (s : State) : State :=
  let s1 := s.writeArea false
  { s1 with db := { s1.db with lastFlushUs := (s1.ldg.tick - s1.db.flushStart) / 1000 } }

theorem exec_flushComplete (s : State) (h : s.mode = .flush) :
    exec .flushComplete s = .next (s.flushed.toOff s.pwr.flushFor .flushDone) := congrArg Host.Outcome.next (if_pos h)

/-- OFF's count of 100 ms begins at once where a loss ends with both inputs high (R68, R79). -/
theorem toOff_offCount (s : State) (why : OffReason) (c : ModeCause) :
    (s.toOff why c).boot.offCount = (decide (why = .ploss) && s.pins.pwrGood && s.plossHigh) := rfl

/-- Settles O13: each input's equation, and what OFF's end leads to. -/
theorem powerInputsInOff : Obligations.PowerInputsInOff := by
  refine ⟨exec_plossNFall_high, exec_plossNFall_low, exec_plossNRise_unregistered, ?_, ?_, ?_, ?_, ?_, ?_⟩
  · intro s hoff hpor hgood hlow hwhy
    exact (exec_plossNRise_registered s hlow).trans
      (congrArg Host.Outcome.next (inputsHigh_ploss s.plossReturned hoff hpor hgood rfl hwhy))
  · intro s hoff hpor hgood hlow hwhy
    have hexec := exec_plossNRise_registered s hlow
    rw [inputsHigh_por s.plossReturned hoff hpor hgood rfl hwhy] at hexec
    exact ⟨_, hexec, toStrap_mode _ true, rfl⟩
  · intro s hoff hpor hploss hwhy
    exact (exec_pwrGoodRise s).trans (congrArg Host.Outcome.next (inputsHigh_ploss s.goodRisen hoff hpor rfl hploss hwhy))
  · intro s hoff hpor hploss hwhy
    have hexec := exec_pwrGoodRise s
    rw [inputsHigh_por s.goodRisen hoff hpor rfl hploss hwhy] at hexec
    exact ⟨_, hexec, toStrap_mode _ true, rfl⟩
  · intro s hoff hpor hgood hploss hwhy hcount
    have hexec := exec_offExitCountExpiry_over s (by simp [hcount, hwhy])
    rw [tryStrap_ends s hoff hpor hgood hploss] at hexec
    exact ⟨_, hexec, toStrap_mode _ true, rfl⟩
  · intro s hflush
    exact ⟨_, exec_flushComplete s hflush, toOff_mode _ _ _, toOff_offCount s.flushed _ _⟩

/-! ## A power loss in each mode -/

theorem chargerOff_boot (s : State) : s.chargerOff.boot = s.boot := boot_of_frame (frame_chargerOff (M := 129) rfl (frame_refl _ s)) rfl

/-- A running segment test's end and the charger's leave start-up's progress. -/
theorem lossStart_boot (s : State) : s.lossStart.boot = s.boot := by
  have hstopped : (if s.rsv.test.isSome then s.stopTest.raise .boardCause 4 else s).boot = s.boot := by
    split
    · rw [raise_boot]
      exact boot_of_frame (frame_stopTest (M := 16393) rfl (frame_refl _ s)) rfl
    · rfl
  exact (chargerOff_boot _).trans hstopped

theorem norAbandon_boot (s : State) : s.norAbandon.boot = s.boot := boot_of_frame (norAbandon_frame s) rfl

/-- Before SERVICE and in MAINTENANCE a power loss leads to OFF, with nothing of start-up's progress changed before. -/
theorem powerLoss_toOff (s : State) (c : ModeCause) (h : s.mode ∈ [Mode.strap, .fill, .load, .train, .maintenance]) :
    ∃ u : State, s.powerLoss c = u.toOff .ploss c ∧ u.boot = s.boot := by
  simp only [List.mem_cons, List.not_mem_nil, or_false] at h
  rcases h with h | h | h | h | h
  · exact ⟨_, powerLoss_early s c (Or.inl h), by rw [raise_boot, lossStart_boot]⟩
  · exact ⟨_, powerLoss_early s c (Or.inr h), by rw [raise_boot, lossStart_boot]⟩
  · exact ⟨_, powerLoss_loading s c (Or.inl h), by rw [raise_boot, norAbandon_boot, lossStart_boot]⟩
  · exact ⟨_, powerLoss_loading s c (Or.inr h), by rw [raise_boot, norAbandon_boot, lossStart_boot]⟩
  · exact ⟨_, powerLoss_maintenance s c h, by rw [norAbandon_boot, lossStart_boot]⟩

theorem flushCommands_cmds (s : State) : s.flushCommands.host.cmds = [] := rfl

theorem enter_host (s : State) (m : Mode) (c : ModeCause) : (s.enter m c).host = s.host :=
  (frame_enter (M := 1559) m c rfl (frame_refl _ s)).host.resolve_left (by decide)

theorem setTarget_host (s : State) (n mv : Nat) : (s.setTarget n mv).host = s.host :=
  (frame_setTarget (M := 129) n mv rfl (frame_refl _ s)).host.resolve_left (by decide)

/-- FLUSH leaves no command (R399). -/
theorem enterFlush_cmds (s : State) (why : OffReason) (c : ModeCause) (h : modeLedger s.mode = true) :
    (s.enterFlush why c).host.cmds = [] := by
  unfold State.enterFlush
  rw [if_pos h]
  dsimp only
  rw [setTarget_host]
  show (State.enter _ .flush c).host.cmds = []
  rw [enter_host]
  rfl

/-- A low of PLOSS_N that has lasted 2 µs has registered (R50). -/
def State.plossRegistered (s : State) : State := { s with
  boot := { s.boot with plossFalling := false, plossLow := true, offCount := false } }

theorem exec_plossNAssert_registers (s : State) (hfalling : s.boot.plossFalling = true) (hlow : s.pins.plossN = false)
    (hpor : s.pins.porN = true) : exec .plossNAssert s = .next (s.plossRegistered.powerLoss .ploss) :=
  congrArg Host.Outcome.next (if_pos (by simp [hfalling, hlow, hpor]))

theorem exec_plossNAssert_idle (s : State) (h : s.boot.plossFalling = false ∨ s.pins.plossN = true) : exec .plossNAssert s = .next s :=
  congrArg Host.Outcome.next (if_neg (by rcases h with h | h <;> simp [h]))

/-- PWR_GOOD has fallen: the 100 ms count stops, and a wake qualifies its oscillator afresh (R69, R95). -/
def State.goodDropped (s : State) : State := { s with
  pins := { s.pins with pwrGood := false },
  boot := { s.boot with offCount := false, oscOk := s.boot.oscOk && !s.boot.waking } }

theorem exec_pwrGoodDrop_loss (s : State) (hgood : s.pins.pwrGood = true) (hhold : s.pins.pwrHold = true) (hploss : s.plossHigh = true) :
    exec .pwrGoodDrop s = .next ((s.goodDropped.raise .boardCause 2).powerLoss .pwrGood) :=
  congrArg Host.Outcome.next ((if_neg (by simp [hgood])).trans (if_pos (by simp [hhold, hploss])))

theorem exec_pwrGoodDrop_pin (s : State) (hgood : s.pins.pwrGood = true) (h : s.pins.pwrHold = false ∨ s.plossHigh = false) :
    exec .pwrGoodDrop s = .next s.goodDropped :=
  congrArg Host.Outcome.next ((if_neg (by simp [hgood])).trans (if_neg (by rcases h with h | h <;> simp [h])))

/-- Settles O14: where the mode's loss leads, and the equations of PWR_GOOD's fall. -/
theorem powerLossByMode : Obligations.PowerLossByMode := by
  refine ⟨?_, ?_, ?_, exec_plossNAssert_idle, exec_pwrGoodDrop_loss, exec_pwrGoodDrop_pin⟩
  · intro s hfalling hlow hpor hmode
    obtain ⟨u, hloss, hboot⟩ := powerLoss_toOff s.plossRegistered .ploss hmode
    have hexec := exec_plossNAssert_registers s hfalling hlow hpor
    rw [hloss] at hexec
    have hplossLow : u.boot.plossLow = true := by rw [hboot]; rfl
    have hcount : (u.toOff .ploss .ploss).boot.offCount = false := by
      rw [toOff_offCount, State.plossHigh, hplossLow]
      exact Bool.and_false _
    exact ⟨_, hexec, toOff_mode _ _ _, toOff_pwrHold _ _ _, rfl, hplossLow, hcount⟩
  · intro s hfalling hlow hpor hmode
    have hledger : modeLedger s.mode = true := (modeLedger_iff _).mpr (by simpa using hmode)
    have hexec := exec_plossNAssert_registers s hfalling hlow hpor
    have hkeep : s.plossRegistered.lossStart.mode = s.mode := lossStart_mode s.plossRegistered
    rw [powerLoss_ledger s.plossRegistered .ploss hledger] at hexec
    exact ⟨_, hexec, by rw [enterFlush_mode, hkeep, if_pos hledger], enterFlush_cmds _ _ _ (by rw [hkeep]; exact hledger)⟩
  · intro s hfalling hlow hpor hmode _
    have hexec := exec_plossNAssert_registers s hfalling hlow hpor
    have hkeep : s.plossRegistered.lossStart.mode = .hibernate := (lossStart_mode s.plossRegistered).trans hmode
    rw [powerLoss_hibernate s.plossRegistered .ploss hmode] at hexec
    exact ⟨_, hexec, (raise_mode _ _ _).trans hkeep,
      raise_bit _ .boardCause (by decide) (by simp only [leafIsland, State.islandOn, hkeep]; rfl)⟩

end Sys2Proof.Machine
end

section
/-!
STRAP: the samples, the oscillator, the PLLs' lock and the two failures (R58, R61, R72, R77, R82, R83, R95).
-/
set_option Elab.async false

namespace Sys2Proof.Machine

/-! ## The samples -/

theorem exec_strapSample_first (s : State) (v : BitVec 8) (hmode : s.mode = .strap) (hdone : s.boot.strapDone = false)
    (hprev : s.boot.strapPrev ≠ some v) (hcount : s.boot.strapCount < 31) : exec (.strapSample v) s = .next { s with
      boot := { s.boot with strapPrev := some v, strapCount := s.boot.strapCount + 1 } } :=
  congrArg Host.Outcome.next ((if_neg (by simp [hmode, hdone])).trans
    ((if_neg hprev).trans (if_neg (by show ¬32 ≤ s.boot.strapCount + 1; omega))))

theorem exec_strapSample_agrees (s : State) (v : BitVec 8) (hmode : s.mode = .strap) (hdone : s.boot.strapDone = false)
    (hprev : s.boot.strapPrev = some v) : exec (.strapSample v) s = .next (s.setStrap v false).strapCheck :=
  congrArg Host.Outcome.next ((if_neg (by simp [hmode, hdone])).trans (if_pos hprev))

theorem exec_strapSample_last (s : State) (v : BitVec 8) (hmode : s.mode = .strap) (hdone : s.boot.strapDone = false)
    (hprev : s.boot.strapPrev ≠ some v) (hcount : s.boot.strapCount = 31) :
    exec (.strapSample v) s = .next (s.setStrap v true).strapCheck :=
  congrArg Host.Outcome.next ((if_neg (by simp [hmode, hdone])).trans
    ((if_neg hprev).trans (if_pos (by show 32 ≤ s.boot.strapCount + 1; omega))))

/-! ## Their decoding -/

/-- AON_STRAP with a sample: the sample, the EID of its slot, and STRAP_UNSTABLE (R61). -/
theorem setStrap_reg (s : State) (v : BitVec 8) (unstable : Bool) : (s.setStrap v unstable).reg Reg.aonStrap =
    BitVec.ofNat 32 (v.toNat + 256 * (0x30 + getField v 0 4) + 2 ^ 15 * b2n unstable) := reg_setReg_same s _ _

/-- STRAP_UNSTABLE reads as it was written: the sample and the EID lie below it. -/
theorem setStrap_unstable (s : State) (v : BitVec 8) (unstable : Bool) :
    bitOf ((s.setStrap v unstable).reg Reg.aonStrap) 15 = unstable := by
  have hv : v.toNat < 256 := v.isLt
  have hfield : getField v 0 4 < 16 := Nat.mod_lt _ (by decide)
  have hlow : v.toNat + 256 * (0x30 + getField v 0 4) < 2 ^ 15 := by omega
  rw [setStrap_reg, bitOf, BitVec.getLsbD_ofNat, Nat.add_comm]
  cases unstable
  · simp [b2n, Nat.testBit_lt_two_pow hlow]
  · simp [b2n, Nat.testBit_two_pow_mul_add 1 hlow]

theorem setStrap_boot (s : State) (v : BitVec 8) (unstable : Bool) :
    (s.setStrap v unstable).boot = { s.boot with strapDone := true } := rfl

/-- Nothing follows while the oscillator is not qualified or no straps are decoded. -/
theorem strapCheck_waits (s : State) (h : s.boot.strapDone = false ∨ s.boot.oscOk = false) : s.strapCheck = s :=
  if_neg (by rcases h with h | h <;> simp [h])

section
variable (s : State) (hmode : s.mode = .strap) (hdone : s.boot.strapDone = true) (hosc : s.boot.oscOk = true)
include hmode hdone hosc

theorem strapCheck_unstable (h : bitOf (s.reg Reg.aonStrap) 15 = true) : s.strapCheck = s.toMaint 2 .straps :=
  (if_pos (by simp [hmode, hdone, hosc])).trans (if_pos h)

theorem strapCheck_noSlot (h : bitOf (s.reg Reg.aonStrap) 15 = false) (hsel : s.bootSel = 3) : s.strapCheck = s.toMaint 1 .straps :=
  (if_pos (by simp [hmode, hdone, hosc])).trans ((if_neg (Bool.eq_false_iff.mp h)).trans (if_pos hsel))

theorem strapCheck_locked (h : bitOf (s.reg Reg.aonStrap) 15 = false) (hsel : s.bootSel ≠ 3) {us : Nat}
    (hlock : s.boot.pllLocked = some us) : s.strapCheck = s.strapEnds us :=
  (if_pos (by simp [hmode, hdone, hosc])).trans ((if_neg (Bool.eq_false_iff.mp h)).trans ((if_neg hsel).trans (by rw [hlock])))

end

/-! ## The oscillator and the PLLs -/

theorem exec_oscillatorQualified_strap (s : State) (hmode : s.mode = .strap) (hxtal : s.boot.xtalStop = false) :
    exec .oscillatorQualified s = .next ({ s with boot := { s.boot with oscOk := true } } : State).strapCheck :=
  congrArg Host.Outcome.next ((if_neg (by simp [hxtal])).trans (if_pos (by simp [hmode])))

section
variable (s : State) (us : Nat) (hmode : s.mode = .strap) (hxtal : s.boot.xtalStop = false) (hosc : s.boot.oscOk = true)
include hmode hxtal hosc

theorem exec_pllLock_ends (hdone : s.boot.strapDone = true) : exec (.pllLock us) s = .next (s.strapEnds us) :=
  congrArg Host.Outcome.next ((if_neg (by simp [hxtal, hosc])).trans ((if_pos hmode).trans (if_pos hdone)))

/-- A lock that comes before the straps agree is held (log entry 145). -/
theorem exec_pllLock_early (hdone : s.boot.strapDone = false) :
    exec (.pllLock us) s = .next { s with boot := { s.boot with pllLocked := some us } } :=
  congrArg Host.Outcome.next ((if_neg (by simp [hxtal, hosc])).trans ((if_pos hmode).trans (if_neg (Bool.eq_false_iff.mp hdone))))

end

/-- FILL begins with the tick count at 0 and DDR_RESET_N high, STRAP's duration recorded (R63, R82, R104). -/
theorem strapEnds_leaves (s : State) (us : Nat) : (s.strapEnds us).ldg.tick = 0 ∧ (s.strapEnds us).pins.ddrResetN = true ∧
    (s.strapEnds us).reg Reg.aonPhaseTime = BitVec.ofNat 32 us := by
  unfold State.strapEnds
  extract_lets s1 _ _ _ s2
  have hphase : s2.reg Reg.aonPhaseTime = BitVec.ofNat 32 us := reg_setReg_same s _ _
  refine ⟨by rw [enterFill_ldg], rfl, ?_⟩
  rw [reg_enterFill_other s2 false .none (by decide) (by decide), hphase]

/-! ## The two failures -/

theorem exec_xtalFail_strap (s : State) (hmode : s.mode = .strap) (hosc : s.boot.oscOk = false) :
    exec .xtalFail s = .next (({ s with boot := { s.boot with xtalStop := true } } : State).raise .startCause 0) :=
  congrArg Host.Outcome.next (if_pos (by simp [hmode, hosc]))

theorem exec_railTimeout_wake (s : State) (hmode : s.mode = .hibernate) (hwaking : s.boot.waking = true)
    (hgood : s.pins.pwrGood = false) : exec .railTimeout s = .next (s.raise .boardCause 1) :=
  congrArg Host.Outcome.next (if_pos (by simp [hmode, hwaking, hgood]))

theorem raise_pins (s : State) (l : Leaf) (b : Nat) : (s.raise l b).pins = s.pins :=
  (frame_raise (M := 1537) l b rfl (frame_refl _ s)).pins.resolve_left (by decide)

/-- Settles O15: each event's equation, and what STRAP's ends leave. -/
theorem strapsAndOscillator : Obligations.StrapsAndOscillator := by
  refine ⟨exec_strapSample_first, ?_, ?_, ?_, ?_, ?_, ?_, exec_pllLock_early, ?_, ?_⟩
  · intro s v hmode hdone hprev hosc
    have hexec := exec_strapSample_agrees s v hmode hdone hprev
    rw [strapCheck_waits (s.setStrap v false) (Or.inr hosc)] at hexec
    exact ⟨_, hexec, hmode, rfl, setStrap_reg s v false⟩
  · intro s v us hmode hdone hprev hosc hsel hlock
    have hexec := exec_strapSample_agrees s v hmode hdone hprev
    rw [strapCheck_locked (s.setStrap v false) hmode rfl hosc (setStrap_unstable s v false) hsel hlock] at hexec
    exact ⟨hexec, strapEnds_mode _ us⟩
  · intro s v hmode hdone hprev hosc hsel
    have hexec := exec_strapSample_agrees s v hmode hdone hprev
    rw [strapCheck_noSlot (s.setStrap v false) hmode rfl hosc (setStrap_unstable s v false) hsel] at hexec
    exact ⟨_, hexec, toMaint_mode _ _ _, toMaint_cause _ _ _⟩
  · intro s v hmode hdone hprev hcount hosc
    have hexec := exec_strapSample_last s v hmode hdone hprev hcount
    rw [strapCheck_unstable (s.setStrap v true) hmode rfl hosc (setStrap_unstable s v true)] at hexec
    exact ⟨_, hexec, toMaint_mode _ _ _, toMaint_cause _ _ _⟩
  · intro s hmode hxtal hdone
    exact (exec_oscillatorQualified_strap s hmode hxtal).trans (congrArg Host.Outcome.next (strapCheck_waits _ (Or.inl hdone)))
  · intro s us hmode hxtal hosc hdone
    obtain ⟨htick, hddr, hphase⟩ := strapEnds_leaves s us
    exact ⟨_, exec_pllLock_ends s us hmode hxtal hosc hdone, strapEnds_mode s us, htick, hddr, hphase⟩
  · intro s hmode _ hosc
    exact ⟨_, exec_xtalFail_strap s hmode hosc, (raise_mode _ _ _).trans hmode, by rw [raise_boot],
      raise_startCause_bit _ (by decide) (by simp [State.islandOn, islandPower, hmode])⟩
  · intro s hmode _ hwaking hgood
    exact ⟨_, exec_railTimeout_wake s hmode hwaking hgood, (raise_mode _ _ _).trans hmode, raise_boot _ _ _, raise_pins _ _ _,
      raise_bit _ .boardCause (by decide) (by simp only [leafIsland, State.islandOn, hmode]; rfl)⟩

end Sys2Proof.Machine
end

section
/-!
The TAP: the edges of TCK, TRST_N, and five cycles with TMS high (R44, R46).
-/
set_option Elab.async false

namespace Sys2Proof.Machine

/-! ## Edges -/

theorem clocked_shifts (j : Jtag) (tdi : Bool) (free : Nat) (h : tapShifts j.tap = true) :
    (j.clocked tdi free).path = j.path.drop 1 ++ [tdi] := by
  unfold Jtag.clocked
  cases htap : j.tap
  case shiftDr => rfl
  case shiftIr => rfl
  all_goals
    rw [htap] at h
    exact absurd h Bool.false_ne_true

theorem updated_tap (j : Jtag) : j.updated.tap = j.tap := by
  unfold Jtag.updated
  split
  case h_2 => split <;> rfl
  all_goals rfl

/-- A falling edge in Test-Logic-Reset returns the instruction to its reset one. -/
theorem updated_ir_reset (j : Jtag) (h : j.tap = .testLogicReset) : j.updated.ir = none := by
  unfold Jtag.updated
  rw [h]

section
variable (s : State) (tms tdi : Bool) (haon : s.islandOn .aon = true)
include haon

/-- A rising edge moves the TAP by TMS and clocks the selected register. -/
theorem exec_tckEdge_rise (htck : s.jtag.tck = false) : exec (.tckEdge true ⟨tms, tdi⟩) s = .next { s with
    jtag := { s.jtag.clocked tdi s.freeCount with
      tap := tapNext s.jtag.tap tms, tck := true, tdoDriven := s.jtag.tdoDriven && tapShifts (tapNext s.jtag.tap tms) },
    freeCount := s.freeCount + b2n (decide (s.jtag.tap = .captureDr)) } :=
  congrArg Host.Outcome.next ((if_neg (by simp [haon, htck])).trans (if_pos rfl))

/-- A falling edge updates, and drives TDO with the register's bit in the shift states alone. -/
theorem exec_tckEdge_fall (htck : s.jtag.tck = true) : exec (.tckEdge false ⟨tms, tdi⟩) s = .next { s with
    jtag := { s.jtag.updated with
      tck := false, tdoDriven := tapShifts s.jtag.tap, tdo := s.jtag.path.headD false } } :=
  congrArg Host.Outcome.next ((if_neg (by simp [haon, htck])).trans (if_neg Bool.false_ne_true))

end

/-! ## Cycles with TMS high -/

/-- AON is powered and TCK is low. -/
def TckLow (s : State) : Prop := s.islandOn .aon = true ∧ s.jtag.tck = false

/-- A cycle of TCK with TMS high moves the TAP once, and leaves no instruction in Test-Logic-Reset. -/
theorem tmsHigh_cycle (s : State) (tdi : Bool) (h : TckLow s) :
    ∃ u t, exec (.tckEdge true ⟨true, tdi⟩) s = .next u ∧ exec (.tckEdge false ⟨true, tdi⟩) u = .next t ∧ TckLow t ∧
      t.jtag.tap = tapNext s.jtag.tap true ∧ (t.jtag.tap = .testLogicReset → t.jtag.ir = none) := by
  obtain ⟨haon, htck⟩ := h
  refine ⟨_, _, exec_tckEdge_rise s true tdi haon htck, exec_tckEdge_fall _ true tdi haon rfl, ⟨haon, rfl⟩,
    updated_tap _, fun hreset => ?_⟩
  exact updated_ir_reset _ ((updated_tap _).symm.trans hreset)

/-- The same of `n` cycles, at least one, for a fold `f` that runs commands one after the other. -/
theorem tmsHigh_cycles {f : Host.Outcome State Fault Refusal → Instr → Host.Outcome State Fault Refusal}
    (hf : ∀ u c, f (.next u) c = exec c u) (tdi : Bool) (n : Nat) (s : State) (h : TckLow s) :
    ∃ t, (List.replicate (n + 1) [Instr.tckEdge true ⟨true, tdi⟩, Instr.tckEdge false ⟨true, tdi⟩]).flatten.foldl f (.next s) =
        .next t ∧
      t.jtag.tap = (tapNext · true)^[n + 1] s.jtag.tap ∧ (t.jtag.tap = .testLogicReset → t.jtag.ir = none) := by
  induction n generalizing s with
  | zero =>
    obtain ⟨u, t, hrise, hfall, -, htap, hir⟩ := tmsHigh_cycle s tdi h
    refine ⟨t, ?_, htap, hir⟩
    simp only [List.replicate, List.flatten_cons, List.flatten_nil, List.cons_append, List.nil_append, List.foldl_cons, List.foldl_nil,
      hf, hrise, hfall]
  | succ n ih =>
    obtain ⟨u, v, hrise, hfall, hlow, htap, -⟩ := tmsHigh_cycle s tdi h
    obtain ⟨t, hrun, hend, hir⟩ := ih v hlow
    refine ⟨t, ?_, ?_, hir⟩
    · rw [List.replicate_succ, List.flatten_cons, List.foldl_append, List.foldl_cons, List.foldl_cons, List.foldl_nil, hf, hrise, hf,
        hfall, hrun]
    · rw [hend, htap, ← Function.iterate_succ_apply]

/-- From every state of the TAP five such cycles lead to Test-Logic-Reset. -/
theorem tapNext_five (t : Tap) : (tapNext · true)^[5] t = .testLogicReset := by
  cases t <;> rfl

/-- Settles O49: the two edges, TRST_N, and five cycles with TMS high. -/
theorem jtagTap : Obligations.JtagTap := by
  refine ⟨fun s up tms tdi haon htck _ => ?_, fun s => rfl, fun s tdi haon htck => ?_⟩
  · cases up
    · refine ⟨_, exec_tckEdge_fall s tms tdi haon (Bool.ne_false_iff.mp htck), rfl, ?_, nofun, nofun,
        fun _ => ⟨updated_tap _, rfl, rfl⟩, rfl⟩
      intro hdrives
      exact (congrArg tapShifts (updated_tap s.jtag)).trans hdrives
    · refine ⟨_, exec_tckEdge_rise s tms tdi haon (Bool.eq_false_iff.mpr htck), rfl, ?_, fun _ => rfl,
        fun _ hshifts => ?_, nofun, rfl⟩
      · exact fun hdrives => (Bool.and_eq_true_iff.mp hdrives).2
      · exact clocked_shifts s.jtag tdi s.freeCount hshifts
  · obtain ⟨t, hrun, htap, hir⟩ := tmsHigh_cycles (f := fun o c => match o with | .next u => exec c u | x => x)
      (fun _ _ => rfl) tdi 4 s ⟨haon, htck⟩
    have hreset : t.jtag.tap = .testLogicReset := htap.trans (tapNext_five _)
    exact ⟨t, hrun, hreset, hir hreset⟩

end Sys2Proof.Machine
end

section
/-!
The abort points of a sleep entry, the management and alarm wakes, and the periods of the real-time clock (R72, R497, R502, R503, R530).
-/
set_option Elab.async false

namespace Sys2Proof.Machine

/-! ## The abort points -/

section
variable (s : State) (e : SleepEntry) (hsleep : s.pwr.sleep = some e)
include hsleep

/-- AP2 passes once every fetched command has ended after AP1; an entry to HIBERNATE that goes on forces the tail pages (R497). -/
theorem exec_abortPointAp2_passes (hap : e.ap = 1) (hq : e.q < s.ldg.tick) (hcmds : s.host.cmds = []) : exec .abortPointAp2 s = .next (
    if e.target = .hibernate && (s.passPoint e 1).pwr.sleep.isSome then (s.passPoint e 1).forceAll else s.passPoint e 1) := by
  have hready : (decide (e.ap = 1) && decide (e.q < s.ldg.tick) && s.host.cmds.isEmpty) = true := by simp [hap, hq, hcmds]
  rw [show exec .abortPointAp2 s = execAbortPointAp2 s from rfl, execAbortPointAp2, hsleep]
  exact congrArg Host.Outcome.next (if_pos hready)

/-- AP3 passes for DOZE with both write buffers empty. -/
theorem exec_abortPointAp3_doze (hap : e.ap = 2) (htarget : e.target = .doze) (hA : s.mem.occA = 0) (hB : s.mem.occB = 0) :
    exec .abortPointAp3 s = .next (s.passPoint e 2) := by
  rw [show exec .abortPointAp3 s = execAbortPointAp3 s from rfl, execAbortPointAp3, hsleep]
  exact congrArg Host.Outcome.next (if_pos (by simp [hap, htarget, hA, hB]))

/-- AP3 passes for HIBERNATE with everything settled and written. -/
theorem exec_abortPointAp3_hibernate (hap : e.ap = 2) (htarget : e.target = .hibernate) (hsettled : s.allSettled = true)
    (hrecs : s.db.recs = []) : exec .abortPointAp3 s = .next (s.passPoint e 2) := by
  rw [show exec .abortPointAp3 s = execAbortPointAp3 s from rfl, execAbortPointAp3, hsleep]
  exact congrArg Host.Outcome.next (if_pos (by simp [hap, htarget, hsettled, hrecs]))

end

/-- An entry with no latched wake goes on past its point. -/
theorem passPoint_sleep (s : State) (e : SleepEntry) (ap : Nat) (h : e.wake = none) : (s.passPoint e ap).pwr.sleep.isSome = true := by
  rw [State.passPoint, h]
  rfl

/-! ## Wakes -/

section
variable (s : State) (hda : s.daValid = true) (haon : s.islandOn .aon = true) (hmode : s.mode = .doze ∨ s.mode = .hibernate)
include hda haon hmode

theorem exec_mgmtWake_form : exec .mgmtWake s = .next (
    if s.mode ≠ .hibernate && s.mgt.clockStopped then s.i3cNack else (s.i3cOk []).wakeEvent 5) :=
  congrArg Host.Outcome.next (if_pos (by rcases hmode with h | h <;> simp [hda, haon, h]))

/-- The write of 0x57 is acknowledged and wakes, unless MGT's clock is stopped in DOZE (R502, R533). -/
theorem exec_mgmtWake_served (h : s.mode = .hibernate ∨ s.mgt.clockStopped = false) :
    exec .mgmtWake s = .next ((s.i3cOk []).wakeEvent 5) :=
  (exec_mgmtWake_form s hda haon hmode).trans (congrArg Host.Outcome.next (if_neg (by rcases h with h | h <;> simp [h])))

theorem exec_mgmtWake_stopped (hdoze : s.mode = .doze) (hstopped : s.mgt.clockStopped = true) :
    exec .mgmtWake s = .next s.i3cNack :=
  (exec_mgmtWake_form s hda haon hmode).trans (congrArg Host.Outcome.next (if_pos (by simp [hdoze, hstopped])))

end

theorem exec_alarmMatch_due (s : State) (haon : s.islandOn .aon = true) (hrtc : s.pwr.rtc = s.reg Reg.pwrAlarm) :
    exec .alarmMatch s = .next (s.wakeEvent 6) := congrArg Host.Outcome.next (if_pos (by simp [haon, hrtc]))

/-! ## Real-time periods -/

/-- The real-time count, the minutes and the watchdog after a period. -/
def State.rtcCounted (s : State) : State := ({ s with pwr := { s.pwr with rtc := s.pwr.rtc + 1 } } : State).rtcMinute.wdogTick

/-- A minute's count touches neither the real-time count nor device time. -/
theorem rtcMinute_pwr (s : State) : ∃ m p, s.rtcMinute.pwr = { s.pwr with minutes := m, periods := p } := by
  unfold State.rtcMinute
  split
  · exact ⟨s.pwr.minutes, s.pwr.periods, rfl⟩
  · dsimp only
    split
    · exact ⟨_, _, rfl⟩
    · exact ⟨s.pwr.minutes, _, rfl⟩

theorem rtcCounted_pwr (s : State) : ∃ m p, s.rtcCounted.pwr = { s.pwr with rtc := s.pwr.rtc + 1, minutes := m, periods := p } := by
  obtain ⟨m, p, hminute⟩ := rtcMinute_pwr { s with pwr := { s.pwr with rtc := s.pwr.rtc + 1 } }
  have hwdog : s.rtcCounted.pwr = ({ s with pwr := { s.pwr with rtc := s.pwr.rtc + 1 } } : State).rtcMinute.pwr :=
    (frame_wdogTick (M := 1025) rfl (frame_refl _ _)).pwr.resolve_left (by decide)
  exact ⟨m, p, hwdog.trans hminute⟩

theorem rtcCounted_mode (s : State) : s.rtcCounted.mode = s.mode := by
  have hframe : Frame 1057 { s with pwr := { s.pwr with rtc := s.pwr.rtc + 1 } } s.rtcCounted :=
    frame_wdogTick rfl (frame_rtcMinute rfl (frame_refl _ _))
  have hkeep := mode_of_frame hframe (by decide)
  exact hkeep

/-- A wake that waits in HIBERNATE drives PWR_HOLD high (R72, R502). -/
def State.wakeStarts (s : State) (src : Nat) : State :=
  let s1 := s.recordWake src false 0 true
  { s1 with pins := { s1.pins with pwrHold := true }, boot := { s1.boot with waking := true, oscOk := false } }

theorem exec_rtcPeriod_form (s : State) (haon : s.islandOn .aon = true) : exec .rtcPeriod s = .next (
    if s.mode = .maintenance then s.rtcCounted.advanceRtc 1
    else if s.mode = .hibernate && s.pwr.wakeSrc.isSome && !s.boot.waking then s.rtcCounted.wakeStarts (s.pwr.wakeSrc.getD 0)
    else s.rtcCounted) := congrArg Host.Outcome.next (if_neg (by simp [haon]))

/-- What a period does in every mode: it counts, and keeps the mode. -/
theorem rtcPeriod_counts (s t : State) (hpwr : t.pwr.rtc = s.rtcCounted.pwr.rtc) (hmode : t.mode = s.rtcCounted.mode) :
    t.pwr.rtc = s.pwr.rtc + 1 ∧ t.mode = s.mode := by
  obtain ⟨m, p, hcounted⟩ := rtcCounted_pwr s
  exact ⟨by rw [hpwr, hcounted], hmode.trans (rtcCounted_mode s)⟩

/-- In MAINTENANCE device time advances by the period (R503). -/
theorem rtcCounted_advance (s : State) : (64 * (s.rtcCounted.advanceRtc 1).pwr.time + (s.rtcCounted.advanceRtc 1).pwr.frac) % 2 ^ 70 =
    (64 * s.pwr.time + s.pwr.frac + 1953125) % 2 ^ 70 := by
  obtain ⟨m, p, hcounted⟩ := rtcCounted_pwr s
  rw [advanceRtc_total, hcounted]
  congr 1
  show 64 * s.pwr.time + (1 * 1953125 + s.pwr.frac) = _
  omega

/-- Settles O50: the equations of the points and the wakes, and what a period does in each mode. -/
theorem sleepAndWake : Obligations.SleepAndWake := by
  refine ⟨fun s e hsleep hap hq hcmds => ⟨fun htarget => ?_, fun htarget hwake => ?_⟩, fun s e hsleep hap =>
    ⟨exec_abortPointAp3_doze s e hsleep hap, exec_abortPointAp3_hibernate s e hsleep hap⟩, fun s hda haon hmode =>
    ⟨exec_mgmtWake_served s hda haon hmode, exec_mgmtWake_stopped s hda haon hmode⟩, exec_alarmMatch_due, fun s haon => ?_⟩
  · exact (exec_abortPointAp2_passes s e hsleep hap hq hcmds).trans (congrArg Host.Outcome.next (if_neg (by simp [htarget])))
  · exact (exec_abortPointAp2_passes s e hsleep hap hq hcmds).trans
      (congrArg Host.Outcome.next (if_pos (by simp [htarget, passPoint_sleep s e 1 hwake])))
  · have hexec := exec_rtcPeriod_form s haon
    split at hexec
    · next hmaint =>
      obtain ⟨hrtc, hmode⟩ := rtcPeriod_counts s (s.rtcCounted.advanceRtc 1) rfl (advanceRtc_mode _ 1)
      exact ⟨_, hexec, hrtc, hmode, fun h => absurd (hmaint.symm.trans h) (by decide), fun _ => rtcCounted_advance s⟩
    · next hmaint =>
      split at hexec
      · obtain ⟨hrtc, hmode⟩ := rtcPeriod_counts s (s.rtcCounted.wakeStarts (s.pwr.wakeSrc.getD 0)) rfl rfl
        exact ⟨_, hexec, hrtc, hmode, fun _ _ _ => ⟨rfl, rfl⟩, fun h => absurd h hmaint⟩
      · next hwaits =>
        obtain ⟨hrtc, hmode⟩ := rtcPeriod_counts s s.rtcCounted rfl rfl
        refine ⟨_, hexec, hrtc, hmode, fun hhibernate hsrc hwaking => ?_, fun h => absurd h hmaint⟩
        exact absurd (by simp [hhibernate, hsrc, hwaking]) hwaits

end Sys2Proof.Machine
end
